-- ==== Sys2Proof/Word.lean ====
section
/-!
DEFINITION. The words of the model. Register fields have some forty different widths, so their values are held as natural
numbers below a power of two (Sys2Proof/Machine/Ops.lean cuts every write to the field's width, and the invariant of
Sys2Proof/Safety.lean says so); bytes on the wire and in the store are natural numbers below 256.
-/
namespace Sys2Proof

/-- A 64-bit word, as the registers of R3 are. -/
abbrev Word := BitVec 64

/-- A byte. -/
abbrev Byte := BitVec 8

end Sys2Proof
end

