-- ==== Sys2Proof/Syntax.lean ====
section
/-!
DEFINITION. The commands and events of spec/opcode_table.json, one constructor of `Instr` per row, with the operands
their rules give them. The table gives no row any bits.
-/
namespace Sys2Proof

/-- Where a Jadex command came from (R322): a function's ring, a host port's in-band stream, the Peldel port, the
mirror receive area (R330), or the replay of the journal at boot (R354). -/
inductive Src where
  | ring (fn : Nat)
  | inband (slot : Nat)
  | peldel
  | peer
  | journal
  deriving DecidableEq, Repr

/-- What the header of a Jadex command brings to its execution (Table 13.1): the source, USER, TAG, FORCE and LENGTH. The
opcode is the row itself. -/
structure Req where
  src : Src
  user : Nat
  tag : Nat
  force : Bool
  len : Nat
  deriving DecidableEq, Repr

/-- One 24-byte entry of parameter form W (R312): register offset, MASK and VALUE. -/
structure WEntry where
  off : Nat
  mask : Nat
  value : Nat
  deriving DecidableEq, Repr

/-- One entry of parameter form R (R312): INDEX and the record, a number whose most significant byte is the record's
byte 0. -/
structure REntry where
  index : Nat
  data : Nat
  deriving DecidableEq, Repr

/-- One hypothesis of a Dill pass (R26, Table 1.16). -/
structure Hyp where
  present : Bool
  headerFit : Bool
  beacon : Bool
  controlSc : Nat
  offsetMHz : Int
  snr : Nat
  deriving DecidableEq, Repr

/-- A tree message as its function field holds it (R55). -/
structure TreeMsg where
  bcast : Bool
  tid : Nat
  epoch : Nat
  type : Nat
  blen : Nat
  body : List Nat
  deriving DecidableEq, Repr

/-- What the outer decoders say of one codeword (R13): symbols corrected, or uncorrectable. -/
inductive Codeword where
  | decoded (corrected : Nat)
  | uncorrectable
  deriving DecidableEq, Repr

/-- Where a function field stands: port, subcarrier, sector of the superframe in progress (R42, R48). -/
structure FieldAt where
  port : Nat
  sc : Nat
  sector : Nat
  deriving DecidableEq, Repr

/-- What Sage finds at the cell it examines (R237 to R239): sound; neither free nor held, with its tag; or on the free list
and held by a holder. -/
inductive SageCell where
  | sound
  | leaked (tag : Nat)
  | doubly (holder : Nat)
  deriving DecidableEq, Repr

/-- One extract of a key profile (R183). -/
structure Extract where
  src : Nat := 0
  type : Nat := 0
  occ : Nat := 0
  off : Nat := 0
  len : Nat := 0
  keyOff : Nat := 0
  deriving DecidableEq, Repr

/-- A key profile (R183). -/
structure KeyProfile where
  wide : Bool := false
  extracts : List Extract := []
  deriving DecidableEq, Repr

/-- One entry of CLS_PROFILE_WRITE: the profile's number and its record (R183), whose byte layout the manual does not give. -/
structure ProfEntry where
  index : Nat
  prof : KeyProfile
  deriving DecidableEq, Repr

/-- A partner's request in training (R159): a preset, one step of a tap, a precoder request; or one this lane's receiver
sends. -/
inductive TapReq where
  | preset (k : Nat)
  | step (tap : Fin 6) (up : Bool)
  | precode (on : Bool)
  | sent
  deriving DecidableEq, Repr

/-- Where a copy of an item goes beside the forwarded one (R223): an egress destination, its class, and on a line destination its AID. -/
structure CopyTo where
  dest : Fin 42
  cls : Fin 8
  aid : Fin 64
  deriving DecidableEq, Repr

/-- The answer to a partner's request (R159). -/
inductive TapAnswer where
  | notUpdated | updated | atLimit | eqLimit | notSupported
  deriving DecidableEq, Repr

/-- What the reconciliation sublayer of a port receives (R158): neither fault, Local Fault or Remote Fault. -/
inductive RsFault where
  | none_ | local_ | remote
  deriving DecidableEq, Repr

/-- What a host lane sends (R155, R157): the logical lane and the physical lane that carries it, whether its polarity is inverted and
whether it precodes, and the levels at the contacts with which a wake pattern or a fast-retrain block goes out, each with its
number of UI. -/
structure LaneOut where
  lane : Nat
  phys : Nat
  inverted : Bool
  precoded : Bool
  levels : List (Int × Nat)
  deriving DecidableEq, Repr

/-- FEC codewords that ended with a frame (R173): corrected, uncorrectable, and (lane, symbols corrected). -/
structure FecCount where
  corr : Nat := 0
  uncorr : Nat := 0
  lanes : List (Nat × Nat) := []
  deriving DecidableEq, Repr

/-- One entry of CIPH_KEY_LOAD (R288): slot, USE, the wrapping slot or none for a plain key, the key or blob bytes. -/
structure KeyLoad where
  slot : Nat
  use : Nat
  wrap : Option Nat
  bytes : List Nat
  deriving DecidableEq, Repr

/-- One entry of CIPH_KEY_DERIVE (R275): slot, USE, root slot, and the label of 32 bytes. -/
structure KeyDerive where
  slot : Nat
  use : Nat
  rootSlot : Nat
  label : List Nat
  deriving DecidableEq, Repr

/-- Who acquires or releases a hardware lock (R306): the function of the command, a work item, or a management core. -/
inductive LockOwner where
  | fn (u : Nat)
  | item (k : Nat)
  | mgmt (m : Nat)
  deriving DecidableEq, Repr

/-- A work submission entry (Table 12.1). `zeros` is true when every byte and bit that must be zero is. -/
structure WorkEntry where
  version : Nat
  ordered : Bool
  preemptible : Bool
  returnBuf : Bool
  zeros : Bool
  queue : Nat
  flow : Nat
  service : Nat
  tag : Nat
  bufAddr : Nat
  bufLen : Nat
  args : List Nat
  deriving DecidableEq, Repr

/-- A frame that a work item emits (R302). -/
structure Emitted where
  dest : Nat
  cls : Nat
  aid : Nat
  bytes : List Nat
  deriving DecidableEq, Repr

/-- A command submission entry (Table 13.4). -/
structure SubEntry where
  addr : Nat
  len : Nat
  replyCap : Nat
  replyAddr : Nat
  deriving DecidableEq, Repr

/-- The header of a Jadex packet as it was read (Table 13.1). -/
structure Header where
  version : Nat
  reply : Bool
  truncated : Bool
  zeros : Nat
  force : Bool
  opcode : Nat
  tag : Nat
  len : Nat
  user : Nat
  status : Nat
  detail : Nat
  deriving DecidableEq, Repr

/-- What the boot meets (Table 14.7): words whose margin reads disagree as (word, low, high), the blocks of each NAND device
that answers, factory-marked bad blocks as (device, block), and clusters whose memory fails under both repair reads. -/
structure BootIn where
  doubt : List (Nat × Nat × Nat)
  devices : List Nat
  bad : List (Nat × Nat)
  failed : List Nat
  deriving DecidableEq, Repr

/-- How a NAND operation ended (R341, R346 to R348): no failure reported; bits of a program's target page that read 0; wrong bits in each
codeword of a page read; the bytes a raw read returns. -/
structure NandEnd where
  ok : Bool
  zeros : Nat
  flips : List Nat
  data : List Nat
  deriving DecidableEq, Repr

/-- Instructions of the TAP (R424). -/
inductive TapInstr where
  | bypass | idcode | samplePreload | extest | extestPulse | extestTrain | clamp | highz | reset
  deriving DecidableEq, Repr

/-- One constructor per row of spec/opcode_table.json; the docstring cites the row's mnemonic and rule. -/
inductive Instr where
  /-- LINE_CONFIG (R30). -/
  | lineConfig (q : Req) (es : List WEntry)
  /-- LINE_SEARCH (R26). -/
  | lineSearch (q : Req) (n : Nat) (start : Bool)
  /-- LINE_RELEVEL (R25). -/
  | lineRelevel (q : Req) (n : Nat)
  /-- LINE_SET_CD (R27). -/
  | lineSetCd (q : Req) (n : Nat) (cd : Int)
  /-- LINE_EQ_RESTART (R27). -/
  | lineEqRestart (q : Req) (n mask : Nat)
  /-- LINE_SC_ENABLE (R40). -/
  | lineScEnable (q : Req) (n mask : Nat)
  /-- LINE_LASER_RETUNE (R39). -/
  | lineLaserRetune (q : Req) (n : Nat)
  /-- LINE_CAPTURE (R38). -/
  | lineCapture (q : Req) (n : Nat) (arm : Bool) (point sc trigger pre trigSf : Nat)
  /-- LINE_EVT_ENABLE (R41). -/
  | lineEvtEnable (q : Req) (es : List WEntry)
  /-- LINE_FRAME_CONFIG (R46). -/
  | lineFrameConfig (q : Req) (es : List WEntry)
  /-- LINE_TSI_WRITE (R69). -/
  | lineTsiWrite (q : Req) (es : List REntry)
  /-- LINE_TSI_READY (R69). -/
  | lineTsiReady (q : Req) (n : Nat) (up : Bool)
  /-- LINE_TRIB_CONFIG (R71). -/
  | lineTribConfig (q : Req) (index slot dest source vlan : Nat)
  /-- LINE_OSP_CONFIG (R72). -/
  | lineOspConfig (q : Req) (es : List WEntry)
  /-- TREE_JOIN (R80). -/
  | treeJoin (q : Req) (n : Nat)
  /-- TREE_LEAVE (R80). -/
  | treeLeave (q : Req) (n : Nat)
  /-- TREE_CONFIG (R106). -/
  | treeConfig (q : Req) (es : List WEntry)
  /-- TREE_DOZE (R99). -/
  | treeDoze (q : Req) (n : Nat)
  /-- TREE_WAKE (R100). -/
  | treeWake (q : Req) (n : Nat)
  /-- TREE_GUARD_RELEASE (R103). -/
  | treeGuardRelease (q : Req) (n causes : Nat)
  /-- TREE_DARK (R79). -/
  | treeDark (q : Req) (n : Nat) (on : Bool)
  /-- TREE_MSG_READ (R55). -/
  | treeMsgRead (q : Req) (n : Nat)
  /-- TIME_CONFIG (R112). -/
  | timeConfig (q : Req) (es : List WEntry)
  /-- TIME_SELECT (R118). -/
  | timeSelect (q : Req) (d : Nat)
  /-- TIME_SET (R114). -/
  | timeSet (q : Req) (d seconds : Nat)
  /-- TIME_ADJUST (R114). -/
  | timeAdjust (q : Req) (d : Nat) (phase freq : Int) (locked : Bool)
  /-- TIME_PULSE (R128). -/
  | timePulse (q : Req) (es : List WEntry)
  /-- TIME_TS_READ (R123). -/
  | timeTsRead (q : Req) (x : Nat)
  /-- HOST_PORT_CONFIG (R153). -/
  | hostPortConfig (q : Req) (es : List WEntry)
  /-- HOST_PORT_ENABLE (R158). -/
  | hostPortEnable (q : Req) (slot : Nat) (on : Nat)
  /-- HOST_LANE_CONFIG (R157). -/
  | hostLaneConfig (q : Req) (es : List WEntry)
  /-- HOST_RETRAIN (R158). -/
  | hostRetrain (q : Req) (slot kind : Nat)
  /-- HOST_FILTER_WRITE (R166). -/
  | hostFilterWrite (q : Req) (es : List WEntry)
  /-- HOST_PAUSE_CONFIG (R169). -/
  | hostPauseConfig (q : Req) (es : List WEntry)
  /-- HOST_LPI_CONFIG (R162). -/
  | hostLpiConfig (q : Req) (es : List WEntry)
  /-- HOST_WAKE_SEND (R163). -/
  | hostWakeSend (q : Req) (slot us : Nat)
  /-- HOST_WDOG_CLEAR (R170). -/
  | hostWdogClear (q : Req) (slot mask : Nat)
  /-- HOST_EVT_ENABLE (R174). -/
  | hostEvtEnable (q : Req) (slot on : Nat)
  /-- CLS_PARSER_WRITE (R189). -/
  | clsParserWrite (q : Req) (es : List WEntry)
  /-- CLS_PROFILE_WRITE (R183). -/
  | clsProfileWrite (q : Req) (es : List ProfEntry)
  /-- CLS_RULE_WRITE (R186). -/
  | clsRuleWrite (q : Req) (clear : Bool) (es : List REntry)
  /-- CLS_RULE_DELETE (R186). -/
  | clsRuleDelete (q : Req) (es : List REntry)
  /-- CLS_FLIP (R189). -/
  | clsFlip (q : Req)
  /-- CLS_START (R176). -/
  | clsStart (q : Req) (es : List WEntry)
  /-- CLS_EXC_CONFIG (R194). -/
  | clsExcConfig (q : Req) (es : List WEntry)
  /-- TBL_EM_INSERT (R207). -/
  | tblEmInsert (q : Req) (tier : Nat) (replace : Bool) (es : List REntry)
  /-- TBL_EM_DELETE (R208). -/
  | tblEmDelete (q : Req) (es : List REntry)
  /-- TBL_EM_FIND (R200). -/
  | tblEmFind (q : Req) (key : Nat)
  /-- TBL_LPM_INSERT (R211). -/
  | tblLpmInsert (q : Req) (replace : Bool) (es : List REntry)
  /-- TBL_LPM_DELETE (R211). -/
  | tblLpmDelete (q : Req) (es : List REntry)
  /-- TBL_NH_WRITE (R213). -/
  | tblNhWrite (q : Req) (es : List REntry)
  /-- TBL_ECMP_WRITE (R213). -/
  | tblEcmpWrite (q : Req) (es : List REntry)
  /-- TBL_PROFILE_WRITE (R219). -/
  | tblProfileWrite (q : Req) (es : List WEntry)
  /-- TBL_LEARN_CONFIG (R215). -/
  | tblLearnConfig (q : Req) (base hold : Nat)
  /-- TBL_HIT_SCAN (R216). -/
  | tblHitScan (q : Req) (first count : Nat)
  /-- TBL_SNAPSHOT (R217). -/
  | tblSnapshot (q : Req)
  /-- TBL_FILTER_REBUILD (R205). -/
  | tblFilterRebuild (q : Req)
  /-- SW_CONFIG (R225). -/
  | swConfig (q : Req) (es : List WEntry)
  /-- SW_DEST_CONFIG (R234). -/
  | swDestConfig (q : Req) (es : List WEntry)
  /-- SW_QUEUE_CONFIG (R221). -/
  | swQueueConfig (q : Req) (es : List REntry)
  /-- SW_PORT_FLUSH (R233). -/
  | swPortFlush (q : Req) (mask : Nat)
  /-- SW_ING_CONFIG (R228). -/
  | swIngConfig (q : Req) (es : List WEntry)
  /-- SW_SAGE_CONFIG (R237). -/
  | swSageConfig (q : Req) (es : List WEntry)
  /-- BPM_POOL_CONFIG (R240). -/
  | bpmPoolConfig (q : Req) (es : List WEntry)
  /-- BPM_ALLOC (R241). -/
  | bpmAlloc (q : Req) (pool count : Nat)
  /-- BPM_FREE (R244). -/
  | bpmFree (q : Req) (es : List REntry)
  /-- BPM_HANDOFF (R243). -/
  | bpmHandoff (q : Req) (es : List REntry)
  /-- BPM_AUDIT (R247). -/
  | bpmAudit (q : Req)
  /-- SCHED_NODE_WRITE (R258). -/
  | schedNodeWrite (q : Req) (es : List REntry)
  /-- SCHED_QUEUE_MAP (R253). -/
  | schedQueueMap (q : Req) (es : List REntry)
  /-- SCHED_LEN_PROFILE (R260). -/
  | schedLenProfile (q : Req) (es : List WEntry)
  /-- POL_WRITE (R261). -/
  | polWrite (q : Req) (reset : Bool) (es : List REntry)
  /-- POL_COLOUR_MAP (R262). -/
  | polColourMap (q : Req) (es : List WEntry)
  /-- POL_COUNTER_CLEAR (R265). -/
  | polCounterClear (q : Req) (es : List REntry)
  /-- CIPH_KEY_LOAD (R288). -/
  | ciphKeyLoad (q : Req) (persist : Bool) (es : List KeyLoad)
  /-- CIPH_KEY_DERIVE (R275). -/
  | ciphKeyDerive (q : Req) (persist : Bool) (es : List KeyDerive)
  /-- CIPH_KEY_CLEAR (R288). -/
  | ciphKeyClear (q : Req) (slots : List Nat)
  /-- CIPH_TREE_SECRET (R282). -/
  | ciphTreeSecret (q : Req) (port : Nat) (persist clear : Bool) (wrap : Nat) (blob : List Nat)
  /-- CIPH_LINE_KEY (R283). -/
  | ciphLineKey (q : Req) (es : List WEntry)
  /-- CIPH_INBAND_KEY (R286). -/
  | ciphInbandKey (q : Req) (es : List WEntry)
  /-- CIPH_SEAL (R287). -/
  | ciphSeal (q : Req) (slot iv src dst : Nat) (aad data : List Nat)
  /-- CIPH_OPEN (R287). -/
  | ciphOpen (q : Req) (slot iv src dst : Nat) (aad data : List Nat) (tag : Nat)
  /-- CIPH_CMAC (R287). -/
  | ciphCmac (q : Req) (slot src : Nat) (data : List Nat) (verify : Option Nat)
  /-- CIPH_CACHE_FLUSH (R276). -/
  | ciphCacheFlush (q : Req)
  /-- CORE_QUEUE_CONFIG (R300). -/
  | coreQueueConfig (q : Req) (es : List WEntry)
  /-- CORE_RING_CONFIG (R303). -/
  | coreRingConfig (q : Req) (subBase subLog2 resBase resLog2 irq : Nat)
  /-- CORE_FN_CONFIG (R301). -/
  | coreFnConfig (q : Req) (es : List WEntry)
  /-- CORE_LIMITS (R299). -/
  | coreLimits (q : Req) (es : List WEntry)
  /-- CORE_SERVICE_LIST (R293). -/
  | coreServiceList (q : Req)
  /-- LOCK_ACQUIRE (R306). -/
  | lockAcquire (q : Req) (owner : LockOwner) (lock waitUs : Nat)
  /-- LOCK_RELEASE (R306). -/
  | lockRelease (q : Req) (owner : LockOwner) (lock : Nat)
  /-- SYS_NOP (R332). -/
  | sysNop (q : Req)
  /-- SYS_IDENTIFY (R332). -/
  | sysIdentify (q : Req)
  /-- FENCE (R326). -/
  | fence (q : Req) (fn set timeoutUs : Nat)
  /-- SYS_MODE (R385). -/
  | sysMode (q : Req) (mode : Nat)
  /-- SYS_RESTART (R355). -/
  | sysRestart (q : Req) (kind : Nat)
  /-- SYS_WINDOW_SET (R325). -/
  | sysWindowSet (q : Req) (fn : Nat) (pairs : List (Nat × Nat))
  /-- SYS_STATE_DUMP (R467). -/
  | sysStateDump (q : Req) (addr cap : Nat)
  /-- SYS_CMD_HISTORY (R324). -/
  | sysCmdHistory (q : Req) (fn : Nat)
  /-- SYS_PEER_CONFIG (R328). -/
  | sysPeerConfig (q : Req) (es : List WEntry)
  /-- SYS_PEER_ROLE (R330). -/
  | sysPeerRole (q : Req) (role : Nat)
  /-- SYS_INBAND_CONFIG (R319). -/
  | sysInbandConfig (q : Req) (es : List WEntry)
  /-- PWR_STATE_ACTIVE (R379). -/
  | pwrStateActive (q : Req)
  /-- PWR_STATE_STANDBY (R377). -/
  | pwrStateStandby (q : Req)
  /-- PWR_STATE_OFF (R381). -/
  | pwrStateOff (q : Req)
  /-- PWR_IDLE_CONFIG (R377). -/
  | pwrIdleConfig (q : Req) (es : List WEntry)
  /-- PWR_WAKE_CONFIG (R379). -/
  | pwrWakeConfig (q : Req) (es : List WEntry)
  /-- PWR_DVFS (R373). -/
  | pwrDvfs (q : Req) (point : Nat)
  /-- PWR_TELEMETRY (R366). -/
  | pwrTelemetry (q : Req)
  /-- PWR_BUS_CONFIG (R369). -/
  | pwrBusConfig (q : Req) (es : List WEntry)
  /-- STORE_IMAGE_WRITE (R360). -/
  | storeImageWrite (q : Req) (offset : Nat) (data : List Nat)
  /-- STORE_IMAGE_VERIFY (R360). -/
  | storeImageVerify (q : Req)
  /-- STORE_IMAGE_ACTIVATE (R360). -/
  | storeImageActivate (q : Req)
  /-- STORE_IMAGE_CONFIRM (R360). -/
  | storeImageConfirm (q : Req)
  /-- STORE_INFO (R342). -/
  | storeInfo (q : Req)
  /-- STORE_SCRUB (R347). -/
  | storeScrub (q : Req)
  /-- STORE_FORMAT (R350). -/
  | storeFormat (q : Req) (mask : Nat)
  /-- STORE_PAGE_READ (R350). -/
  | storePageRead (q : Req) (dev page : Nat)
  /-- STORE_PAGE_PROGRAM (R346). -/
  | storePageProgram (q : Req) (dev page : Nat) (data : List Nat)
  /-- STORE_BLOCK_ERASE (R350). -/
  | storeBlockErase (q : Req) (dev block : Nat)
  /-- EVT_READ (R407). -/
  | evtRead (q : Req) (fromSeq max : Nat)
  /-- EVT_HOST_RECORD (R407). -/
  | evtHostRecord (q : Req) (code : Nat) (ws tail : List Nat)
  /-- EVT_FLUSH (R404). -/
  | evtFlush (q : Req)
  /-- FLT_REPORT_READ (R393). -/
  | fltReportRead (q : Req) (max : Nat)
  /-- FLT_RECOVER_RESUME (R400). -/
  | fltRecoverResume (q : Req)
  /-- FLT_RECOVER_WARM (R400). -/
  | fltRecoverWarm (q : Req)
  /-- FLT_RECOVER_COLD (R400). -/
  | fltRecoverCold (q : Req)
  /-- FLT_RECOVER_CLUSTER (R400). -/
  | fltRecoverCluster (q : Req) (part : Nat)
  /-- FLT_CONFIG (R389). -/
  | fltConfig (q : Req) (es : List WEntry)
  /-- TEST_LOOPBACK (R413). -/
  | testLoopback (q : Req) (point inst on : Nat)
  /-- TEST_GEN (R417). -/
  | testGen (q : Req) (es : List WEntry)
  /-- TEST_CHECK (R418). -/
  | testCheck (q : Req) (es : List WEntry)
  /-- TEST_PERTURB (R420). -/
  | testPerturb (q : Req) (feature on prob target value durationMs : Nat)
  /-- TEST_INJECT (R421). -/
  | testInject (q : Req) (target tgt bits count : Nat)
  /-- REGISTER_WRITE (R6). -/
  | registerWrite (off value : Nat)
  /-- INTERRUPT_CLEAR (R4). -/
  | interruptClear (off value : Nat)
  /-- NOW_SUB_READ (R4). -/
  | nowSubRead
  /-- CMD_RING_ENABLE (R315). -/
  | cmdRingEnable (fn : Fin 32)
  /-- CMD_RING_DISABLE (R324). -/
  | cmdRingDisable (fn : Fin 32)
  /-- CMD_SUB_TAIL_WRITE (R316). -/
  | cmdSubTailWrite (fn : Fin 32) (v : Nat)
  /-- CMD_CPL_HEAD_WRITE (R316). -/
  | cmdCplHeadWrite (fn : Fin 32) (v : Nat)
  /-- WORK_SUB_TAIL_WRITE (R303). -/
  | workSubTailWrite (fn : Fin 32) (v : Nat)
  /-- WORK_RES_HEAD_WRITE (R304). -/
  | workResHeadWrite (fn : Fin 32) (v : Nat)
  /-- LEARN_HEAD_WRITE (R215). -/
  | learnHeadWrite (value : Nat)
  /-- PEER_RX_TAIL_WRITE (R330). -/
  | peerRxTailWrite (v : Nat)
  /-- MIRROR_AREA_WRITE (R328). -/
  | mirrorAreaWrite (rid : Nat) (seq op len : Nat) (checkOk : Bool)
  /-- CMD_SUBMISSION_READ (R316). -/
  | cmdSubmissionRead (fn : Fin 32) (e : SubEntry) (h : Header)
  /-- COMMAND_COMPLETION (R316). -/
  | commandCompletion
  /-- INBAND_COMMAND (R318). -/
  | inbandCommand (slot : Fin 32) (frame : List Nat)
  /-- PELDEL_WRITE (R321). -/
  | peldelWrite (bytes : List Nat)
  /-- PELDEL_READ (R321). -/
  | peldelRead
  /-- PELDEL_ADDRESS_MATCH (R382). -/
  | peldelAddressMatch
  /-- ATOMIC_COMMIT (R313). -/
  | atomicCommit (refused : Option (Nat × Nat))
  /-- FENCE_RETURN (R326). -/
  | fenceReturn (k : Nat)
  /-- MIRROR_RECORD_WRITE (R329). -/
  | mirrorRecordWrite
  /-- MIRROR_APPLY (R330). -/
  | mirrorApply
  /-- PEER_POLL (R331). -/
  | peerPoll (completed : Bool)
  /-- PEER_LOST (R331). -/
  | peerLost
  /-- FUNCTION_LEVEL_RESET (R305). -/
  | functionLevelReset (fn : Fin 32)
  /-- CFO_MEASUREMENT (R20). -/
  | cfoMeasurement (n : Fin 4) (offsetKHz : Int)
  /-- DEFERRED_FINE_TUNE (R20). -/
  | deferredFineTune (n : Fin 4)
  /-- FINE_TUNE_ACK (R20). -/
  | fineTuneAck (n : Fin 4)
  /-- SET_FREQ_ACK (R39). -/
  | setFreqAck (n : Fin 4)
  /-- LASER_FREQ_STABLE (R39). -/
  | laserFreqStable (n : Fin 4)
  /-- LASER_BUS_FAIL (R22). -/
  | laserBusFail (n : Fin 4)
  /-- LASER_BUS_POLL (R22). -/
  | laserBusPoll (n : Fin 4) (ok : Bool)
  /-- LOSS_OF_LIGHT (R37). -/
  | lossOfLight (n : Fin 4) (dBm10 : Int)
  /-- LIGHT_RETURN (R37). -/
  | lightReturn (n : Fin 4) (dBm10 : Int)
  /-- DILL_PASS_END (R26). -/
  | dillPassEnd (n : Fin 4) (hyps : List Hyp)
  /-- APPLICATION_POINT (R25). -/
  | applicationPoint (n : Fin 4)
  /-- SETTLING_WINDOW_END (R33). -/
  | settlingWindowEnd (n : Fin 4) (sc : Fin 16)
  /-- PAIR_DECODED (R14). -/
  | pairDecoded (n : Fin 4) (sc : Fin 16) (sf pair first last before : Nat) (word hard : List Nat)
  /-- QUALITY_UPDATE (R35). -/
  | qualityUpdate (n : Fin 4) (edges slots : List Nat) (snr : List Nat) (cd : Int) (dgd : Nat)
  /-- CAPTURE_TRIGGER (R38). -/
  | captureTrigger (n : Fin 4) (line : Nat)
  /-- CAPTURE_DONE (R38). -/
  | captureDone (n : Fin 4) (t0 : Nat) (samples : List Nat)
  /-- SUPERFRAME_START (R51). -/
  | superframeStart (n : Fin 4) (drift : Int)
  /-- UP_SUPERFRAME_START (R68). -/
  | upSuperframeStart (n : Fin 4) (anchor : Nat)
  /-- SECTOR_HEADER (R46). -/
  | sectorHeader (n : Fin 4) (sc : Fin 16) (header first last gain : Nat) (others : List (Nat × Nat))
  /-- SUPERFRAME_HEADER (R50). -/
  | superframeHeader (at_ : FieldAt)
  /-- DIRECTORY_ENTRY (R52). -/
  | directoryEntry (at_ : FieldAt) (slot : Fin 64)
  /-- GRANT (R54). -/
  | grant (at_ : FieldAt) (slot : Fin 64)
  /-- DISCOVERY (R86). -/
  | discovery (at_ : FieldAt) (drawR drawNonce : Nat)
  /-- ASSIGN (R87). -/
  | assign (at_ : FieldAt)
  /-- RANGE (R88). -/
  | range (at_ : FieldAt)
  /-- PROFILE (R85). -/
  | profile (at_ : FieldAt)
  /-- DOZE_ACK (R99). -/
  | dozeAck (at_ : FieldAt)
  /-- DEREGISTER (R80). -/
  | deregister (at_ : FieldAt)
  /-- HOST_MESSAGE (R55). -/
  | hostMessage (at_ : FieldAt)
  /-- REMOTE_INDICATIONS (R56). -/
  | remoteIndications (at_ : FieldAt)
  /-- JUSTIFICATION_COUNT (R67). -/
  | justificationCount (at_ : FieldAt) (slot : Fin 32)
  /-- OVERHEAD_BLOCK_RX (R72). -/
  | overheadBlockRx (at_ : FieldAt) (channel : Fin 4)
  /-- OSP_BLOCK_OUT (R72). -/
  | ospBlockOut (k : Fin 8)
  /-- OSP_BLOCK_IN (R73). -/
  | ospBlockIn (k : Fin 8) (block : Nat)
  /-- ENVELOPE (R60). -/
  | envelope (n : Fin 4) (sc : Fin 16) (sf cell offset : Nat) (header : Nat) (body : List Nat)
  /-- TRIB_FRAME_TX (R71). -/
  | tribFrameTx (n : Fin 4) (t : Fin 64) (sf : Nat)
  /-- TRIB_FRAME_RX (R71). -/
  | tribFrameRx (slot : Fin 32) (frame : List Nat)
  /-- PM_SECOND (R74). -/
  | pmSecond (n : Fin 4) (subject : Fin 17)
  /-- PM_BIN_OPEN (R75). -/
  | pmBinOpen (n : Fin 4) (subject : Fin 17) (day : Bool)
  /-- PM_BIN_CLOSED (R75). -/
  | pmBinClosed (n : Fin 4) (subject : Fin 17) (day : Bool)
  /-- BURST_BODY_BUILD (R98). -/
  | burstBodyBuild (n : Fin 4)
  /-- BURST_START (R91). -/
  | burstStart (n : Fin 4)
  /-- BURST_END (R63). -/
  | burstEnd (n : Fin 4)
  /-- PRESENCE_BURST (R86). -/
  | presenceBurst (n : Fin 4)
  /-- TX_POWER_UP (R99). -/
  | txPowerUp (n : Fin 4)
  /-- RANGING_TIMEOUT (R89). -/
  | rangingTimeout (n : Fin 4)
  /-- REREG_LIMIT_EXPIRY (R80). -/
  | reregLimitExpiry (n : Fin 4)
  /-- RETURN_ENTRY_TIMEOUT (R82). -/
  | returnEntryTimeout (n : Fin 4)
  /-- ASSIGN_WAIT_EXPIRY (R87). -/
  | assignWaitExpiry (n : Fin 4) (drawB : Nat)
  /-- DIR_GRACE_END (R96). -/
  | dirGraceEnd (n : Fin 4)
  /-- DOZE_MISSED (R100). -/
  | dozeMissed (n : Fin 4)
  /-- HOLDOVER_DILL_RESTART (R98). -/
  | holdoverDillRestart (n : Fin 4)
  /-- BAY_TRIP (R102). -/
  | bayTrip (n : Fin 4) (duty : Bool)
  /-- BAY_SYNC_TRIP (R102). -/
  | baySyncTrip (n : Fin 4)
  /-- BAY_MCLK_CLEAR (R102). -/
  | bayMclkClear (n : Fin 4)
  /-- TX_DISABLE_FALL (R457). -/
  | txDisableFall (n : Fin 4)
  /-- TX_DISABLE_RISE (R102). -/
  | txDisableRise (n : Fin 4)
  /-- DOMAIN_LOSS_TIME (R115). -/
  | domainLossTime (d : Fin 2) (tenLost : Bool)
  /-- HOLDOVER_LIMIT_EXPIRY (R115). -/
  | holdoverLimitExpiry (d : Fin 2)
  /-- REVERT_TIMER (R118). -/
  | revertTimer
  /-- SLEW_COMPLETE (R117). -/
  | slewComplete
  /-- TIMEIN_PPS_EDGE (R130). -/
  | timeinPpsEdge (x : Fin 2) (part : Fin 20) (freq : Int) (tenOk : Bool)
  /-- TIMEIN_LOST (R130). -/
  | timeinLost (x : Fin 2) (tenLost : Bool)
  /-- PULSE_RISE (R128). -/
  | pulseRise (k : Fin 4)
  /-- PULSE_FALL (R128). -/
  | pulseFall (k : Fin 4)
  /-- TIMED_LAUNCH (R125). -/
  | timedLaunch (x : Fin 32) (part : Fin 20)
  /-- TIMED_LPI_EXIT (R162). -/
  | timedLpiExit (x : Fin 32)
  /-- CONFIRMATION (R134). -/
  | confirmation (k : Nat) (point : Fin 6) (pass : Bool)
  /-- POLICER_COMMIT (R135). -/
  | policerCommit (k : Nat)
  /-- RETRACT_DEADLINE (R145). -/
  | retractDeadline (copy : Nat)
  /-- DRAIN_POINT (R385). -/
  | drainPoint
  /-- LANE_SIGNAL_CHANGE (R158). -/
  | laneSignalChange (lane : Fin 32) (present : Bool)
  /-- TRAINING_DONE (R158). -/
  | trainingDone (x : Fin 32) (measured : Nat)
  /-- TRAINING_TIMEOUT (R158). -/
  | trainingTimeout (x : Fin 32) (ready : Nat)
  /-- TAP_REQUEST (R159). -/
  | tapRequest (lane : Fin 32) (r : TapReq)
  /-- ALIGN_LOCK (R158). -/
  | alignLock (x : Fin 32)
  /-- ALIGN_TIMEOUT (R158). -/
  | alignTimeout (x : Fin 32)
  /-- LANE_LOCK_LOSS (R158). -/
  | laneLockLoss (lane : Fin 32)
  /-- FRT_REQ_RECEIVED (R160). -/
  | frtReqReceived (lane : Fin 32)
  /-- FRT_PARTNER_RECOGNISED (R160). -/
  | frtPartnerRecognised (x : Fin 32)
  /-- FRT_DONE (R160). -/
  | frtDone (x : Fin 32)
  /-- FRT_NO_ANSWER (R160). -/
  | frtNoAnswer (x : Fin 32)
  /-- FRT_LIMIT_EXPIRY (R160). -/
  | frtLimitExpiry (x : Fin 32)
  /-- REMOTE_FAULT (R158). -/
  | remoteFault (x : Fin 32) (fault : RsFault)
  /-- LPI_TX_ENTRY (R162). -/
  | lpiTxEntry (x : Fin 32)
  /-- LPI_RX_ENTRY (R162). -/
  | lpiRxEntry (x : Fin 32)
  /-- WAKE_DETECT (R163). -/
  | wakeDetect (lane : Fin 32)
  /-- WAKE_SEND_END (R163). -/
  | wakeSendEnd (x : Fin 32)
  /-- FRAME_RX (R164). -/
  | frameRx (x : Fin 32) (part : Fin 20) (bytes : List Nat) (fec : FecCount)
  /-- PAUSE_RX (R169). -/
  | pauseRx (x : Fin 32) (pfc : Bool) (mask : Nat) (quanta : List Nat)
  /-- PAUSE_EXPIRY (R169). -/
  | pauseExpiry (x : Fin 32) (p : Fin 9)
  /-- PAUSE_REFRESH (R169). -/
  | pauseRefresh (x : Fin 32) (p : Fin 8)
  /-- PAUSE_WDOG (R170). -/
  | pauseWdog (x : Fin 32) (p : Fin 9)
  /-- PAUSE_WDOG_END (R170). -/
  | pauseWdogEnd (x : Fin 32) (p : Fin 9)
  /-- MAC_TX_START (R168). -/
  | macTxStart (x : Fin 32) (part : Fin 20)
  /-- FRAME_TX_END (R173). -/
  | frameTxEnd (copy : Nat)
  /-- TX_UNDERRUN (R172). -/
  | txUnderrun (copy : Nat) (ecc : Bool)
  /-- PARSE (R179). -/
  | parse (k : Nat) (cluster : Fin 8) (upset : Option (Fin 8))
  /-- HBM_READ_RETURN (R203). -/
  | hbmReadReturn (k : Nat) (ok : Bool)
  /-- REPLICA_CHECK (R187). -/
  | replicaCheck (upset : Fin 16)
  /-- BANK_COPY_DONE (R189). -/
  | bankCopyDone
  /-- BANK_LOAD (R192). -/
  | bankLoad (p : Fin 8)
  /-- EXC_REFILL (R194). -/
  | excRefill
  /-- LEARN_HOLD_EXPIRY (R216). -/
  | learnHoldExpiry
  /-- FILTER_REBUILT (R205). -/
  | filterRebuilt
  /-- SNAPSHOT_DONE (R217). -/
  | snapshotDone (ok : Bool) (status : Nat)
  /-- RESTORED (R218). -/
  | restored
  /-- ADMISSION (R227). -/
  | admission (k : Nat) (more : List CopyTo)
  /-- FLUSH_DONE (R233). -/
  | flushDone (d : Fin 42)
  /-- DOWN_FLUSH_TIMER (R234). -/
  | downFlushTimer (d : Fin 32)
  /-- SAGE_EXAMINE (R237). -/
  | sageExamine (sram hbm : SageCell)
  /-- SPILL_PREFETCH (R225). -/
  | spillPrefetch (q : Nat)
  /-- BPM_CACHE_REFILL (R242). -/
  | bpmCacheRefill (pool : Fin 16)
  /-- BPM_RECLAIM (R246). -/
  | bpmReclaim (owner : Fin 128)
  /-- BPM_AUDIT_TIMER (R247). -/
  | bpmAuditTimer
  /-- BUCKET_REFILL (R257). -/
  | bucketRefill
  /-- SCHED_SELECT (R256). -/
  | schedSelect (d : Fin 42)
  /-- FRAME_DEBIT (R257). -/
  | frameDebit (copy : Nat)
  /-- CIPHER_JOB_DONE (R268). -/
  | cipherJobDone (k : Nat)
  /-- KEY_DERIVATION (R273). -/
  | keyDerivation
  /-- PN_RESERVE (R280). -/
  | pnReserve (n : Fin 4) (ok : Bool) (status : Nat)
  /-- SUBMISSION_READ (R294). -/
  | submissionRead (fn : Fin 32) (e : WorkEntry)
  /-- INTERNAL_ITEM (R295). -/
  | internalItem (exception : Bool)
  /-- CORE_DISPATCH (R297). -/
  | coreDispatch (core : Fin 64)
  /-- PREEMPTION (R298). -/
  | preemption (work : Nat)
  /-- ITEM_END (R302). -/
  | itemEnd (work status outLen data : Nat) (frames : List Emitted)
  /-- ITEM_TIMEOUT (R299). -/
  | itemTimeout (work : Nat)
  /-- LOCK_WAIT_TIMEOUT (R306). -/
  | lockWaitTimeout (lock : Fin 1024)
  /-- POWER_GOOD (R435). -/
  | powerGood
  /-- BOOT_PHASE (R356). -/
  | bootPhase (b : BootIn)
  /-- FUSE_REREAD (R336). -/
  | fuseReread (temp : Int) (doubt : List Nat)
  /-- NAND_OPERATION_DONE (R346). -/
  | nandOperationDone (k : Nat) (e : NandEnd)
  /-- JOURNAL_PAGE_TIMER (R353). -/
  | journalPageTimer
  /-- PATROL_READ (R347). -/
  | patrolRead (dev page : Nat) (e : NandEnd)
  /-- PFAIL_ASSERT (R364). -/
  | pfailAssert
  /-- PFAIL_RELEASE (R383). -/
  | pfailRelease
  /-- RAIL_TIMEOUT (R368). -/
  | railTimeout
  /-- PWR_GOOD_FALL (R368). -/
  | pwrGoodFall
  /-- VAON_APPLY (R382). -/
  | vaonApply (straps : Fin 8) (mfg : Bool)
  /-- SYS_RESET_ASSERT (R435). -/
  | sysResetAssert
  /-- DVFS_LOAD_WINDOW (R373). -/
  | dvfsLoadWindow (load : Nat)
  /-- VOUT_POLL (R371). -/
  | voutPoll (mv status : Nat)
  /-- DVFS_SETTLE_DONE (R371). -/
  | dvfsSettleDone
  /-- DVFS_FAIL (R371). -/
  | dvfsFail
  /-- VCORE_DROOP (R372). -/
  | vcoreDroop (mv : Nat)
  /-- THROTTLE_END (R372). -/
  | throttleEnd
  /-- PMBUS_FAULT (R369). -/
  | pmbusFault (addr code : Nat)
  /-- PMB_ALERT (R432). -/
  | pmbAlert
  /-- IDLE_TIMER_EXPIRY (R377). -/
  | idleTimerExpiry
  /-- STANDBY_PHASE_END (R380). -/
  | standbyPhaseEnd
  /-- WAKE (R379). -/
  | wake (src : Fin 7)
  /-- POWERDOWN_PHASE_END (R381). -/
  | powerdownPhaseEnd
  /-- CLUSTER_DOZE_ENTRY (R384). -/
  | clusterDozeEntry (c : Fin 23) (arrival : Bool)
  /-- CLUSTER_DOZE_WAKE (R384). -/
  | clusterDozeWake (c : Fin 23)
  /-- CLOCK_LOSS (R374). -/
  | clockLoss (domain : Fin 9) (inst : Fin 4)
  /-- ERROR_REPORT (R389). -/
  | errorReport (source : Fin 65536) (detail : Nat) (captured : List Nat)
  /-- RECOVERY_END (R394). -/
  | recoveryEnd (part : Fin 27)
  /-- RECOVERY_TIMEOUT (R394). -/
  | recoveryTimeout (part : Fin 27)
  /-- FAULT_WINDOW_CLOSE (R396). -/
  | faultWindowClose
  /-- TEMP_WARN (R390). -/
  | tempWarn (sensor : Fin 12) (reading : Int)
  /-- LF_HOLD_END (R398). -/
  | lfHoldEnd
  /-- EVENT_RECORD (R403). -/
  | eventRecord
  /-- EVENTS_LOST (R403). -/
  | eventsLost
  /-- EVT_NOTIFY (R409). -/
  | evtNotify
  /-- GEN_FRAME (R417). -/
  | genFrame (g : Fin 8)
  /-- PERTURB_OFF (R420). -/
  | perturbOff (f : Fin 4)
  /-- TAP_INSTRUCTION (R424). -/
  | tapInstruction (x : TapInstr)
  /-- LPI_RX_EXIT (R162). -/
  | lpiRxExit (x : Fin 32)
  deriving DecidableEq, Repr

end Sys2Proof
end

