-- ==== Sys2Proof/Decode.lean ====
section
/-!
DEFINITION. Words of the opcode table. The table gives no row any bits: its rows are the block's commands, events and direct writes,
and no row has an encoding of its own. So no word spells a command.
-/
namespace Sys2Proof

/-- The command that the low `nbits` bits of w spell: none, since no row of the table has bits. -/
def decodeTableWord (nbits w : Nat) : Option Instr :=
  match nbits, w with
  | _, _ => none

end Sys2Proof
end

