-- ==== Sys2Proof/Machine/Tab.lean ====
section
/-!
DEFINITION. Sparse tables: a list of (index, entry) pairs in one canonical form (indices strictly rising, no entry equal
to what an unlisted index reads as). Every addressed memory, table and register file of the block is held this way.
-/
namespace Sys2Proof.Machine

/-- A sparse table. -/
abbrev Tab (α : Type) := List (Nat × α)

/-- What index k reads as; d is what an unlisted index reads as. -/
def Tab.get {α : Type} (d : α) : Tab α → Nat → α
  | [], _ => d
  | (a, v) :: r, k => if a = k then v else Tab.get d r k

/-- Insert or replace the entry of index k. -/
def Tab.ins {α : Type} : Tab α → Nat → α → Tab α
  | [], k, v => [(k, v)]
  | (a, b) :: r, k, v =>
    if k < a then (k, v) :: (a, b) :: r
    else if a = k then (k, v) :: r
    else (a, b) :: Tab.ins r k v

/-- Drop what index k holds. -/
def Tab.del {α : Type} : Tab α → Nat → Tab α
  | [], _ => []
  | (a, b) :: r, k => if a = k then Tab.del r k else (a, b) :: Tab.del r k

/-- Write index k, keeping the canonical form: writing the unlisted value removes the entry. -/
def Tab.put {α : Type} [DecidableEq α] (d : α) (t : Tab α) (k : Nat) (v : α) : Tab α :=
  if v = d then Tab.del t k else Tab.ins t k v

/-- Every key of the table lies above b. -/
def Tab.above {α : Type} (b : Nat) (t : Tab α) : Bool := t.all (fun e => decide (b < e.1))

/-- Keys strictly rising. -/
def Tab.sorted {α : Type} : Tab α → Bool
  | [] => true
  | (a, _) :: r => Tab.above a r && Tab.sorted r

/-- The canonical form: keys strictly rising, no entry equal to the unlisted value. -/
def Tab.wf {α : Type} [DecidableEq α] (d : α) (t : Tab α) : Bool :=
  Tab.sorted t && t.all (fun e => decide (e.2 ≠ d))

/-- The key of an instance pair: an injection of pairs into indices. -/
def Tab.key2 (i j : Nat) : Nat := Nat.pair i j

end Sys2Proof.Machine
end

