-- ==== Sys2Proof/Machine/Flags.lean ====
section
/-!
DEFINITION. The plain computations the rules share: bit fields, byte order (R3), two's complement, rounding (R468),
saturating counts (R37), and the checks CRC-32C (R44), CRC-32, CRC-16 (R57) and CRC-8 (R52).
-/
namespace Sys2Proof.Machine

/-- Bits lo .. lo + w - 1 of v. -/
def bits (v lo w : Nat) : Nat := v / 2 ^ lo % 2 ^ w

/-- Bit k of v as a truth value. -/
def bit (v k : Nat) : Bool := bits v k 1 == 1

/-- A truth value as a bit. -/
def b2n (b : Bool) : Nat := if b then 1 else 0

/-- v with bit k set or cleared. -/
def withBit (v k : Nat) (b : Bool) : Nat := v - bits v k 1 * 2 ^ k + b2n b * 2 ^ k

/-- The w low bits of v as a signed number. -/
def toSigned (w v : Nat) : Int := if v % 2 ^ w < 2 ^ (w - 1) then ((v % 2 ^ w : Nat) : Int) else ((v % 2 ^ w : Nat) : Int) - 2 ^ w

/-- A signed number in w bits, two's complement. -/
def ofSigned (w : Nat) (v : Int) : Nat := (v % (2 ^ w : Nat)).toNat

/-- Rounding to the nearest, halves away from zero (R468). -/
def roundDiv (v : Int) (d : Nat) : Int :=
  if v < 0 then -(((-v) * 2 + d) / (2 * d)) else (v * 2 + d) / (2 * d)

/-- clamp(v, lo, hi). -/
def clamp (lo hi v : Int) : Int := max lo (min hi v)

/-- ceil(a / b). -/
def ceilDiv (a b : Nat) : Nat := (a + b - 1) / b

/-- The stop value of a counter (R37). -/
def ctrMax : Nat := 2 ^ 64 - 1

/-- The n bytes of v in network order (R3). -/
def toBytes (n v : Nat) : List Nat := (List.range n).map (fun k => bits v (8 * (n - 1 - k)) 8)

/-- The number that bytes in network order spell. -/
def ofBytes (bs : List Nat) : Nat := bs.foldl (fun a b => a * 256 + b % 256) 0

/-- Bytes k .. k + n - 1 of a list, as a number. -/
def field (bs : List Nat) (k n : Nat) : Nat := ofBytes ((bs.drop k).take n)

/-- Bytes packed into 64-bit words of network order, the last padded with zeros (R310). -/
def words (bs : List Nat) : List Nat :=
  (List.range (ceilDiv bs.length 8)).map (fun k => ofBytes ((List.range 8).map (fun i => bs.getD (8 * k + i) 0)))

/-- Records of form R in a reply (R312): COUNT, then INDEX and record words. -/
def formR (l : List (Nat × List Nat)) : List Nat := [l.length * 2 ^ 32] ++ l.flatMap (fun e => e.1 :: e.2)

/-- One shift of a reflected CRC. -/
def crcReflStep (poly r : Nat) : Nat := if r % 2 = 1 then (r / 2) ^^^ poly else r / 2

/-- Eight shifts of a reflected CRC. -/
def crcReflByte (poly r b : Nat) : Nat :=
  let f := crcReflStep poly
  f (f (f (f (f (f (f (f (r ^^^ (b % 256)))))))))

/-- CRC-32C of RFC 3720 (R44): 0x1EDC_6F41 reflected, initial value and final exclusive-or 0xFFFF_FFFF. The result is
placed in network order. -/
def crc32c (bs : List Nat) : Nat := (bs.foldl (crcReflByte 0x82F63B78) 0xFFFFFFFF) ^^^ 0xFFFFFFFF

/-- The CRC-32 of IEEE 802.3. -/
def crc32 (bs : List Nat) : Nat := (bs.foldl (crcReflByte 0xEDB88320) 0xFFFFFFFF) ^^^ 0xFFFFFFFF

/-- One shift of an unreflected CRC of w bits. -/
def crcFwdStep (w poly r : Nat) : Nat :=
  if bits r (w - 1) 1 = 1 then ((r * 2) % 2 ^ w) ^^^ poly else (r * 2) % 2 ^ w

/-- Eight shifts of an unreflected CRC of w bits. -/
def crcFwdByte (w poly r b : Nat) : Nat :=
  let f := crcFwdStep w poly
  f (f (f (f (f (f (f (f (r ^^^ ((b % 256) * 2 ^ (w - 8))))))))))

/-- The HEC of an envelope header (R57): polynomial 0x1021, initial value 0xFFFF. -/
def crc16 (bs : List Nat) : Nat := bs.foldl (crcFwdByte 16 0x1021) 0xFFFF

/-- The CHECK of a directory entry (R52): polynomial 0x07, initial value 0. -/
def crc8 (bs : List Nat) : Nat := bs.foldl (crcFwdByte 8 0x07) 0

/-- Pad a list of bytes to a multiple of 8 (R310). -/
def pad8 (bs : List Nat) : List Nat := bs ++ List.replicate (ceilDiv bs.length 8 * 8 - bs.length) 0

/-- Units of time, in 2^-16 ns. -/
def uSym : Nat := 4096
def uNs : Nat := 65536
def uTclk : Nat := 81920
def uUs : Nat := 65536000
def uMs : Nat := 65536000000
def uS : Nat := 65536000000000
/-- A superframe, 1,671,168 symbols. -/
def uSf : Nat := 1671168 * 4096

end Sys2Proof.Machine
end

