-- ==== Sys2Proof/Machine/Aes.lean ====
section
/-!
DEFINITION. AES-256 and the modes that "Cipher engines and keys" names (R267, R269, R273, R277, R284, R286): GCM, CMAC, key derivation, key
unwrap, XTS. The manual names the outside standards; their bodies are theirs (log entry 8).
-/
namespace Sys2Proof.Machine

open Sys2Proof

/-- Byte-wise exclusive or. -/
def xorBytes (a b : List Nat) : List Nat := List.zipWith (· ^^^ ·) a b

/-- Multiplication by x, and of two bytes, in the field of AES (FIPS 197). -/
def aesTwice (a : Nat) : Nat := if a < 128 then 2 * a else (2 * a) ^^^ 0x11B
def aesMul (a b : Nat) : Nat :=
  ((List.range 8).foldl (fun (p : Nat × Nat) k => (if bit b k then p.1 ^^^ p.2 else p.1, aesTwice p.2)) (0, a)).1

/-- The inverse of a byte, 0 for 0: its 254th power. -/
def aesInv (a : Nat) : Nat := ((List.range 7).foldl (fun (p : Nat × Nat) _ => let q := aesMul p.1 p.1; (q, aesMul p.2 q)) (a, 1)).2

/-- A byte rotated left by k bits. -/
def rotByte (a k : Nat) : Nat := a * 2 ^ k % 256 + a / 2 ^ (8 - k)

/-- SubBytes and its inverse on one byte. -/
def aesSub (a : Nat) : Nat := let b := aesInv a; b ^^^ rotByte b 1 ^^^ rotByte b 2 ^^^ rotByte b 3 ^^^ rotByte b 4 ^^^ 0x63
def aesUnsub (a : Nat) : Nat := aesInv (rotByte a 1 ^^^ rotByte a 3 ^^^ rotByte a 6 ^^^ 0x05)

/-- ShiftRows by `step` columns a row (1 to encrypt, 3 to decrypt): a block is four columns of four bytes. -/
def aesShift (step : Nat) (b : List Nat) : List Nat := (List.range 16).map (fun i => b.getD ((i / 4 + step * (i % 4)) % 4 * 4 + i % 4) 0)

/-- MixColumns with the first row of its matrix. -/
def aesMix (row b : List Nat) : List Nat :=
  (List.range 16).map (fun i => (List.range 4).foldl (fun a k => a ^^^ aesMul (row.getD ((k + 4 - i % 4) % 4) 0) (b.getD (i / 4 * 4 + k) 0)) 0)

/-- The key schedule of AES-256: 60 words of four bytes. -/
def aesSchedule (key : Nat) : List (List Nat) :=
  (List.range 52).foldl (fun ws k =>
    let i := k + 8
    let t := ws.getD (i - 1) []
    let t := if i % 8 = 0 then
        xorBytes ((t.drop 1 ++ t.take 1).map aesSub) [(List.range (i / 8 - 1)).foldl (fun a _ => aesTwice a) 1, 0, 0, 0]
      else if i % 8 = 4 then t.map aesSub else t
    ws ++ [xorBytes (ws.getD (i - 8) []) t]) ((List.range 8).map (fun k => ((toBytes 32 key).drop (4 * k)).take 4))

/-- The round key of round r. -/
def aesRoundKey (ws : List (List Nat)) (r : Nat) : List Nat := ((ws.drop (4 * r)).take 4).flatten

/-- One block of 16 bytes is encrypted under a 256-bit key in 14 rounds (R267). -/
def aesEncrypt (key : Nat) (b : List Nat) : List Nat :=
  let ws := aesSchedule key
  let last := (List.range 13).foldl (fun b r =>
    xorBytes (aesMix [2, 3, 1, 1] (aesShift 1 (b.map aesSub))) (aesRoundKey ws (r + 1))) (xorBytes b (aesRoundKey ws 0))
  xorBytes (aesShift 1 (last.map aesSub)) (aesRoundKey ws 14)

/-- One block is decrypted. -/
def aesDecrypt (key : Nat) (b : List Nat) : List Nat :=
  let ws := aesSchedule key
  let first := (aesShift 3 (xorBytes b (aesRoundKey ws 14))).map aesUnsub
  xorBytes ((List.range 13).foldl (fun b r =>
    (aesShift 3 (aesMix [14, 11, 13, 9] (xorBytes b (aesRoundKey ws (13 - r))))).map aesUnsub) first) (aesRoundKey ws 0)

/-- Bytes in blocks of 16, the last one possibly shorter. -/
def blocks16 (bs : List Nat) : List (List Nat) := (List.range (ceilDiv bs.length 16)).map (fun k => (bs.drop (16 * k)).take 16)

/-- Multiplication by x in the field of CMAC and XTS. -/
def twice128 (a : Nat) : Nat := if a < 2 ^ 127 then 2 * a else (2 * a - 2 ^ 128) ^^^ 0x87

/-- AES-256-CMAC over bytes (R286): the last block is masked with the first subkey when full, padded with 10* and masked with the second
when not (R269). -/
def cmac (key : Nat) (data : List Nat) : Nat :=
  let k1 := twice128 (ofBytes (aesEncrypt key (List.replicate 16 0)))
  let full := data.length != 0 && data.length % 16 == 0
  let cut := (data.length - 1) / 16 * 16
  let rest := data.drop cut
  let last := if full then xorBytes rest (toBytes 16 k1)
    else xorBytes (rest ++ [128] ++ List.replicate (15 - rest.length) 0) (toBytes 16 (twice128 k1))
  ofBytes ((blocks16 (data.take cut) ++ [last]).foldl (fun x b => aesEncrypt key (xorBytes x b)) (List.replicate 16 0))

/-- Key derivation (R273): K(i) is the CMAC under the root of [i], the label, 0x00, 0x0100; the key is K(1), K(2). -/
def kdf (root : Nat) (label : List Nat) : Nat :=
  let k (i : Nat) : Nat := cmac root (i :: label ++ [0, 1, 0])
  k 1 * 2 ^ 128 + k 2

/-- Key unwrap of SP 800-38F KW (R272, R282, R288): the key, or none where the integrity check fails. -/
def keyUnwrap (kek : Nat) (blob : List Nat) : Option Nat :=
  let n := blob.length / 8 - 1
  let start := (blob.take 8, (List.range n).map (fun i => (blob.drop (8 * i + 8)).take 8))
  let (a, rs) := ((List.range (6 * n)).reverse).foldl (fun (p : List Nat × List (List Nat)) t =>
    let b := aesDecrypt kek (xorBytes p.1 (toBytes 8 (t + 1)) ++ p.2.getD (t % n) [])
    (b.take 8, p.2.set (t % n) (b.drop 8))) start
  if a = List.replicate 8 0xA6 then some (ofBytes rs.flatten) else none

/-- Multiplication in the field of GHASH, whose first bit is the most significant. -/
def ghashMul (x y : Nat) : Nat :=
  ((List.range 128).foldl (fun (p : Nat × Nat) k =>
    (if bit x (127 - k) then p.1 ^^^ p.2 else p.1, if bit p.2 0 then p.2 / 2 ^^^ 0xE1 * 2 ^ 120 else p.2 / 2)) (0, y)).1

/-- GHASH over associated data and ciphertext, each filled up with zeros, and their lengths in bits. -/
def ghash (h : Nat) (aad data : List Nat) : Nat :=
  let pad (bs : List Nat) : List Nat := bs ++ List.replicate ((16 - bs.length % 16) % 16) 0
  (blocks16 (pad aad ++ pad data ++ toBytes 8 (8 * aad.length) ++ toBytes 8 (8 * data.length))).foldl (fun y b => ghashMul (y ^^^ ofBytes b) h) 0

/-- Block k of the GCM key stream of a 96-bit IV, block 1 for the tag and 2 for the first data. -/
def gcmBlock (key iv k : Nat) : List Nat := aesEncrypt key (toBytes 12 iv ++ toBytes 4 k)

/-- AES-GCM encryption and decryption alike (R277, R287): the bytes with the key stream added, its last block cut (R269). -/
def gcmSeal (key iv : Nat) (data : List Nat) : List Nat :=
  (blocks16 data).zipIdx.flatMap (fun p => xorBytes p.1 (gcmBlock key iv (p.2 + 2)))

/-- The 16-byte GCM tag over the associated data and the ciphertext of a plaintext (R277). -/
def gcmTag (key iv : Nat) (aad plain : List Nat) : Nat :=
  ghash (ofBytes (aesEncrypt key (List.replicate 16 0))) aad (gcmSeal key iv plain) ^^^ ofBytes (gcmBlock key iv 1)

/-- The tweak of block j of a data unit (R284): the unit's number, little-endian, encrypted under key 2, times x to the j. -/
def xtsTweak (key2 unit j : Nat) : List Nat :=
  (toBytes 16 ((List.range j).foldl (fun t _ => twice128 t) (ofBytes (aesEncrypt key2 (toBytes 16 unit).reverse).reverse))).reverse

/-- XTS-AES-256 over a data unit of 16 to 4,096 bytes (R269, R284): `enc` to encrypt; a partial last block steals from the one before. -/
def xts (enc : Bool) (key1 key2 unit : Nat) (data : List Nat) : List Nat :=
  let one (j : Nat) (b : List Nat) : List Nat :=
    let t := xtsTweak key2 unit j
    xorBytes (if enc then aesEncrypt key1 (xorBytes b t) else aesDecrypt key1 (xorBytes b t)) t
  let m := data.length / 16
  let r := data.length % 16
  if r = 0 then ((blocks16 data).zipIdx.flatMap (fun p => one p.2 p.1))
  else
    let head := (blocks16 (data.take (16 * (m - 1)))).zipIdx.flatMap (fun p => one p.2 p.1)
    let full := (data.drop (16 * (m - 1))).take 16
    let short := data.drop (16 * m)
    let x := one (if enc then m - 1 else m) full
    head ++ one (if enc then m else m - 1) (short ++ x.drop r) ++ x.take r

end Sys2Proof.Machine
end

