-- ==== Sys2Proof/Config.lean ====
section
/-!
DEFINITION. What an implementation fixes and the manual does not: opaque constants, so that nothing proved about the model
can rest on a value of theirs. The signature check that the manual names by outside standards stands here too.
-/
namespace Sys2Proof.Config

/-- The free value number k, taken where the manual leaves a value open (log entry 1). -/
opaque freeValue : Nat → Nat

/-- Signature check of an image (R359): header and body bytes under the signer digest of the fuses. -/
opaque imageVerifies : (digest : List Nat) → (image : List Nat) → Bool

/-- Parity byte k of a 1,024-byte codeword of the store's BCH code over GF(2^14) (R341), whose polynomials the manual does not give. -/
opaque bchParity : (codeword : List Nat) → (k : Nat) → BitVec 8

/-- Byte k of the body of a journal record (Table 14.6): the packet of a command as completed, or what an internal record holds, of which the
model keeps the kind, the opcode and the length (log entry 55). -/
opaque journalBody : (kind op seq k : Nat) → BitVec 8

/-- The servo of a time domain (R115): its correction of the phase after a measurement, from the error measured. -/
opaque servoPhase : (domain bandwidth : Nat) → Int → Int

/-- Its correction of the frequency it holds (R115). -/
opaque servoFreq : (domain bandwidth : Nat) → Int → Int

/-- The snapshot format version that an image BUILD writes and accepts (R218, log entry 32). -/
opaque snapshotFormat : Nat → Nat

/-- Where the payload of a test frame starts (R417), which the manual does not give: the register of PRBS31, or the first byte of the
incrementing pattern (log entry 53). -/
opaque testStart : (pattern gen seq : Nat) → BitVec 31

/-- The jobs a cipher cluster can hold (R268, log entry 52), with so many of its units under L1. -/
opaque cipherCapacity : (cluster unitsDown : Nat) → Nat

/-- The service table that an image BUILD carries (R293): service numbers with their entry words, whose form the manual does not
give (log entry 63). -/
opaque services : (build : Nat) → List (Nat × Nat)

/-- The unit, within a participant, that reports an error type of its own, where the register blocks number none (R388, log
entry 60). -/
opaque unitOf : (part type : Nat) → Nat

/-- Byte k of a window record whose layout the manual does not give (Table 20.7: key profiles, Bay's windows; log entry 96), from
the numbers it holds. -/
opaque recordByte : (region : Nat) → (fields : List Nat) → (k : Nat) → BitVec 8

def recordBytes (region : Nat) (fields : List Nat) (len : Nat) : List Nat := (List.range len).map (fun k => (recordByte region fields k).toNat)

end Sys2Proof.Config
end

