-- ==== Sys2Proof/Machine/RegNames.lean ====
section
/-!
DEFINITION. The names of the register fields and of the counters of the manual (BLOCK_REGISTER_FIELD), one constructor
each. The tables of the chapters (spec 01 to 20) name them; Sys2Proof/Machine/Regs.lean gives their places and resets.
-/
namespace Sys2Proof.Machine

/-- A register field of BAR0, named as the manual names it: block, register, field. Record memories behind an indirect
window are not here: they stand in State as tables. -/
inductive Fld where
  | LINE_STATUS_FT_LIMIT | LINE_STATUS_CONTROL_SC | LINE_STATUS_LASER_BUS_OK | LINE_STATUS_TX_ACTIVE
  | LINE_STATUS_SETTLING | LINE_STATUS_DRIFT_ALARM | LINE_STATUS_BEACON_FOUND | LINE_STATUS_SEARCHING
  | LINE_STATUS_AGC_FROZEN | LINE_STATUS_CARRIER_LOCK | LINE_STATUS_LIGHT | LINE_EVT_STATUS_QUALITY_UPDATE
  | LINE_EVT_STATUS_CAPTURE_DONE | LINE_EVT_STATUS_RATE_UNSUPPORTED | LINE_EVT_STATUS_BEACON_CONFLICT
  | LINE_EVT_STATUS_BEACON_FOUND | LINE_EVT_STATUS_FT_LIMIT | LINE_EVT_STATUS_LASER_BUS_FAULT
  | LINE_EVT_STATUS_RELEVEL | LINE_EVT_STATUS_DRIFT | LINE_EVT_STATUS_LOCK_LOST | LINE_EVT_STATUS_LIGHT_RETURN
  | LINE_EVT_STATUS_LOS | LINE_EVT_ENABLE_QUALITY_UPDATE | LINE_EVT_ENABLE_CAPTURE_DONE
  | LINE_EVT_ENABLE_RATE_UNSUPPORTED | LINE_EVT_ENABLE_BEACON_CONFLICT | LINE_EVT_ENABLE_BEACON_FOUND
  | LINE_EVT_ENABLE_FT_LIMIT | LINE_EVT_ENABLE_LASER_BUS_FAULT | LINE_EVT_ENABLE_RELEVEL | LINE_EVT_ENABLE_DRIFT
  | LINE_EVT_ENABLE_LOCK_LOST | LINE_EVT_ENABLE_LIGHT_RETURN | LINE_EVT_ENABLE_LOS | LINE_LASER_FT_APPLIED
  | LINE_LASER_FT_ENABLE | LINE_LASER_BUS_ADDR | LINE_LASER_NOMINAL_MHZ | LINE_CFO_LOCK | LINE_CFO_OFFSET_KHZ
  | LINE_AGC_STEP_PENDING | LINE_AGC_AUTO_RELEVEL | LINE_AGC_FROZEN | LINE_AGC_DRIFT | LINE_AGC_FROZEN_GAIN
  | LINE_AGC_GAIN | LINE_EQ_DGD_EST | LINE_EQ_CD_AUTO | LINE_EQ_CD_EST | LINE_EQ_CD_APPLIED | LINE_SC_SNR
  | LINE_SC_SETTLING | LINE_SC_FORMAT | LINE_SC_ENABLED | LINE_SEARCH_SNR | LINE_SEARCH_OFFSET_MHZ
  | LINE_SEARCH_CONTROL_SC | LINE_SEARCH_BEACON | LINE_SEARCH_HEADER_FIT | LINE_SEARCH_PRESENT
  | LINE_UP_PROFILE_VALID | LINE_UP_PROFILE_RAMP | LINE_UP_PROFILE_PREAMBLE | LINE_UP_PROFILE_RATE
  | LINE_UP_PROFILE_FORMAT | LINE_TX_DARK | LINE_TX_POWER | LINE_QUALITY_SF_NUMBER | LINE_QUALITY_NOISE_FLOOR
  | LINE_CAP_CTL_TRIG_SF | LINE_CAP_CTL_PRE | LINE_CAP_CTL_TRIGGER | LINE_CAP_CTL_SC | LINE_CAP_CTL_POINT
  | LINE_CAP_STATUS_TRIG_LINE | LINE_CAP_STATUS_DONE | LINE_CAP_STATUS_ARMED | LINE_FRM_ENV_STATE | LINE_FRM_PAGE
  | LINE_FRM_SF_NUMBER | LINE_FRM_SECTOR | LINE_FRM_MISFIT_RUN | LINE_FRM_FIT_RUN | LINE_FRM_STATE
  | LINE_FRM_CFG_PM_OFFSET | LINE_FRM_CFG_OH_AID | LINE_FRM_CFG_DELTA | LINE_TSI_UP_SWAP | LINE_TSI_DN_SWAP
  | LINE_TSI_UP_READY | LINE_TSI_DN_READY | LINE_TSI_UP_PAGE | LINE_TSI_DN_PAGE | SYS_OSP_RX_EN | SYS_OSP_TX_EN
  | SYS_OSP_CHANNEL | SYS_OSP_PORT | LINE_TREE_STATE_DIR_GRACE | LINE_TREE_STATE_IDENT_VALID
  | LINE_TREE_STATE_SILENT_MS | LINE_TREE_STATE_PREV_STATE | LINE_TREE_STATE_STATE | LINE_TREE_ID_SERIAL_TAG
  | LINE_TREE_ID_EPOCH | LINE_TREE_ID_TID | LINE_TREE_SERIAL_SERIAL | LINE_TREE_RANGE_DN_DELAY | LINE_TREE_RANGE_TRIM
  | LINE_TREE_RANGE_EQD | LINE_TREE_TIMERS_BACKOFF_MAX | LINE_TREE_TIMERS_ASSIGN_WAIT
  | LINE_TREE_TIMERS_RANGING_TIMEOUT | LINE_TREE_TIMERS_REREG_LIMIT | LINE_TREE_TIMERS_RESUME_LIMIT
  | LINE_TREE_CFG_HOST_DARK | LINE_TREE_CFG_AUTO_RELEASE_SYNC | LINE_TREE_CFG_AUTO_REJOIN | LINE_TREE_FILTER_ENABLE
  | LINE_TREE_FILTER_TREE | LINE_TREE_FILTER_SYSTEM_ID | LINE_TREE_DOZE_REQUESTED | LINE_TREE_DOZE_WAKE_THRESHOLD
  | LINE_TREE_DOZE_PERIOD | LINE_BAY_TX_DISABLE_PIN | LINE_BAY_PRESENT | LINE_BAY_LATCHED | LINE_BAY_TRIPPED
  | TIME_NOW_SUB_NS | TIME_NOW_SUB_FRAC | TIME_NOW_SUB_VALID | TIME_NOW_SEC_SECONDS | TIME_STATUS_RESIDUAL
  | TIME_STATUS_TIMEIN1_OK | TIME_STATUS_TIMEIN0_OK | TIME_STATUS_SLEWING | TIME_STATUS_VALID | TIME_STATUS_SELECTED
  | TIME_SEL_SLEW_RATE | TIME_SEL_CLK10M_EN | TIME_SEL_REVERTIVE | TIME_SEL_AUTO_SWITCH
  | TIME_DOMAIN_CFG_HOLDOVER_LIMIT | TIME_DOMAIN_CFG_BW | TIME_DOMAIN_CFG_SOURCE | TIME_DOMAIN_STATE_ERROR
  | TIME_DOMAIN_STATE_HOLDOVER_S | TIME_DOMAIN_STATE_SRC_HOLDOVER | TIME_DOMAIN_STATE_VALID | TIME_DOMAIN_STATE_STATE
  | TIME_ADJ_VALUE | TIME_PORT_EGRESS_ADJ | TIME_PORT_INGRESS_ADJ | TIME_PORT_MAX_AHEAD | TIME_PORT_STAMP_DOMAIN
  | TIME_PORT_STAMP_RX | TIME_PORT_TIMED_EN | TIME_PORT_TIMED_Q | TIME_PULSE_CTL_START_SEC | TIME_PULSE_CTL_FREE_RUN
  | TIME_PULSE_CTL_PERIODIC | TIME_PULSE_CTL_ARMED | TIME_PULSE_CTL_ENABLE | TIME_PULSE_TIMES_START_NS
  | TIME_PULSE_WIDTH_WIDTH_NS | TIME_PULSE_PERIOD_PERIOD_NS | TIME_TIMEIN_CAP_SEC_LO | TIME_TIMEIN_CAP_NS
  | TIME_TIMEIN_CAP_FRAC | SW_RELEASE_DRAINING | SW_RELEASE_BEHAVIOUR | SW_RELEASE_SPEC_EN | LN_CFG_WAKE_DET
  | LN_CFG_PRECODE_RX | LN_CFG_PRECODE_TX | LN_CFG_POL_RX | LN_CFG_POL_TX | LN_CFG_TX_MAP | LN_STATUS_WAKE_SEEN
  | LN_STATUS_PRECODE_RX_ON | LN_STATUS_PRECODE_TX_ON | LN_STATUS_PARTNER_READY | LN_STATUS_RX_READY | LN_STATUS_FRT
  | LN_STATUS_CDR_LOCK | LN_STATUS_SIGNAL | LN_FFE_C_M3 | LN_FFE_C_M2 | LN_FFE_C_M1 | LN_FFE_C_0 | LN_FFE_C_P1
  | LN_FFE_C_P2 | LN_FFE_INIT_C_M3 | LN_FFE_INIT_C_M2 | LN_FFE_INIT_C_M1 | LN_FFE_INIT_C_0 | LN_FFE_INIT_C_P1
  | LN_FFE_INIT_C_P2 | PORT_CFG_FRT_LIMIT | PORT_CFG_FRT_EN | PORT_CFG_AN_EN | PORT_CFG_TRAIN_EN | PORT_CFG_SYSHDR_EN
  | PORT_CFG_DEFAULT_CLASS | PORT_CFG_TPID_ALT | PORT_CFG_MAX_FRAME | PORT_CFG_MEDIA | PORT_CFG_TYPE
  | PORT_CFG_ENABLE | PORT_STATUS_WAKE_SENDING | PORT_STATUS_OVERRIDE | PORT_STATUS_PAUSED | PORT_STATUS_RX_LPI
  | PORT_STATUS_TX_LPI | PORT_STATUS_REMOTE_FAULT | PORT_STATUS_LOCAL_FAULT | PORT_STATUS_LINK_STATE
  | PORT_PAUSE_OVERRIDE_MS | PORT_PAUSE_WDOG_MS | PORT_PAUSE_REFRESH | PORT_PAUSE_QUANTA | PORT_PAUSE_MODE
  | PORT_PFC_QMAP | PORT_LPI_T_W_US | PORT_LPI_TX_IDLE_FRUGAL_US | PORT_LPI_TX_IDLE_US | PORT_LPI_RX_EN
  | PORT_LPI_TX_EN | PORT_CLASS_DEST | FILTER_MATCH_ETYPE | FILTER_MATCH_OVID | FILTER_MATCH_OPCP | FILTER_MATCH_IVID
  | FILTER_MATCH_IPCP | FILTER_CTL_VALID | FILTER_CTL_TAGS | FILTER_CTL_M_ETYPE | FILTER_CTL_M_OVID
  | FILTER_CTL_M_OPCP | FILTER_CTL_M_IVID | FILTER_CTL_M_IPCP | FILTER_CTL_CLASS | CLS_GEN_COPYING | CLS_GEN_PLANE
  | CLS_GEN_GEN | PIPE_START_TYPE | EXC_CFG_QUEUE | EXC_CFG_ORDERED | EXC_CFG_RATE | EXC_CFG_BURST | TBL_LPROF_EM_EN
  | TBL_LPROF_EM_OFF | TBL_LPROF_EM_TABLE | TBL_LPROF_LPM_EN | TBL_LPROF_LPM_V6 | TBL_LPROF_LPM_OFF
  | TBL_LPROF_VRF_SRC | TBL_LPROF_VRF | TBL_LPROF_PREC | TBL_LPROF_LEARN_EN | TBL_LPROF_LEARN_OFF
  | TBL_LPROF_LEARN_TABLE | TBL_LPROF_MISS | TBL_LPROF_MISS_EXC | TBL_STATE_RESTORED | TBL_STATE_REBUILDING
  | TBL_STATE_FILTER_ALL_ONES | TBL_STATE_EXT_BUCKETS_LOG2 | TBL_STATE_GEN | TBL_SNAP_WRITING | TBL_SNAP_COPY
  | TBL_SNAP_GEN | TBL_LEARN_RING_HOLD_US | TBL_LEARN_RING_HEAD | TBL_LEARN_RING_TAIL | TBL_SMAC_MAC
  | SW_SPILL_GLOBAL_FREE | SW_SPILL_QUEUE_CELLS | SW_SHARED_FREE | SW_SHARED_RESERVE | SW_DEST_ALLOC_DOWN_FLUSH_MS
  | SW_DEST_ALLOC_DOWN_ACTION | SW_DEST_ALLOC_SHARED_LIMIT | SW_DEST_STATE_FLUSHING | SW_DEST_STATE_DOWN_DROPPING
  | SW_DEST_STATE_SHARED_USED | SW_ING_LOSSLESS | SW_ING_PAUSE_CALL | SW_ING_HEADROOM | SW_ING_XOFF | SW_ING_XON
  | SW_SAGE_HBM_POS | SW_SAGE_SRAM_POS | SW_SAGE_PAUSED | SW_SAGE_EN | BPM_POOL_CFG_BASE | BPM_POOL_CFG_COUNT
  | BPM_POOL_CFG_FALLBACK | BPM_POOL_CFG_CLASS | BPM_POOL_STATUS_CACHED | BPM_POOL_STATUS_FREE | BPM_STATUS_AUDITING
  | BPM_STATUS_AGE_ALARM_S | BPM_STATUS_AUDIT_S | BPM_STATUS_REGION_GIB | BPM_OWNER_IN_RESET | BPM_OWNER_OUT
  | SCHED_LEN_PROF_OVERHEAD | SCHED_DSCP_COLOUR | CIPH_STATUS_PN_FRESH | CIPH_STATUS_CLUSTERS_ON
  | CIPH_STATUS_PN_STORE_OK | CIPH_STATUS_CACHE_FLUSHING | CIPH_STATUS_ROOT_STATE | CIPH_LINE_CFG_SECRET_VALID
  | CIPH_LINE_CFG_REPLAY_EN | CIPH_LINE_CFG_UP_KEY | CIPH_LINE_CFG_UP_VALID | CIPH_LINE_CFG_BC_VALID
  | CIPH_LINE_CFG_DN_VALID | CIPH_LINE_KEYID_KEY_ID | CIPH_LINE_UP_ENC_AID_MASK | CIPH_LINE_PN_NEXT_PN
  | CIPH_LINE_PN_MARK_MARK | CIPH_PAGE_SLOTS_USED | CIPH_PAGE_INBAND_EN | CIPH_PAGE_INBAND_SLOT | CIPH_PAGE_GEN
  | CORE_WQ_CFG_ENABLE | CORE_WQ_CFG_PRIORITY | CORE_WQ_CFG_SUBMIT_FN | CORE_WQ_CFG_MAX_ITEMS | CORE_WQ_CFG_GROUPS
  | CORE_WQ_CFG_PREEMPTIBLE | CORE_WQ_CFG_ORDER_INTERNAL | CORE_WQ_STATE_RUNNING | CORE_WQ_STATE_WAITING
  | CORE_CPU_SERVICE | CORE_CPU_QUEUE | CORE_CPU_PRIORITY | CORE_CPU_LOCKS_HELD | CORE_CPU_STATE
  | CORE_STATUS_INTERNAL | CORE_STATUS_IN_FLIGHT | CORE_RUN_LIMIT_US_LIMIT | CORE_FN_SUB_TAIL | CORE_FN_SUB_HEAD
  | CORE_FN_RES_IRQ_EN | CORE_FN_RES_TAIL | CORE_FN_RES_HEAD | CORE_FN_FLOW_COUNT | CORE_FN_FLOW_BASE
  | CORE_LOCK_WAITERS | CORE_LOCK_HOLDER | CORE_LOCK_ABANDONED | CORE_LOCK_HELD | CMD_FN_SUB_BASE
  | CMD_FN_SUB_SIZE_LOG2 | CMD_FN_CPL_BASE | CMD_FN_CPL_SIZE_LOG2 | CMD_FN_FAULT | CMD_FN_CPL_IRQ_EN | CMD_FN_BUSY
  | CMD_FN_ENABLE | CMD_FN_SUB_HEAD | CMD_FN_SUB_TAIL | CMD_FN_CPL_TAIL | CMD_FN_CPL_HEAD | CMD_FN_INBAND_TAG
  | CMD_WIN_BASE | CMD_WIN_VALID | CMD_WIN_WRITE | CMD_WIN_READ | CMD_WIN_LAST | CMD_WIN_GEN_GEN | CMD_INBAND_CLASS
  | CMD_INBAND_MAC | CMD_PEER_CFG_FAMILY_MASK | CMD_PEER_CFG_PARTNER_RID | CMD_PEER_CFG_APPLY | CMD_PEER_CFG_ROLE
  | CMD_PEER_CFG_ENABLE | CMD_PEER_STATUS_DESYNC | CMD_PEER_STATUS_PARTNER_OK | CMD_PEER_RX_RX_TAIL
  | CMD_PEER_RX_RX_HEAD | CMD_PEER_ADDR_PARTNER_BAR0 | SYS_BOOT_READY_MS | SYS_BOOT_PHASE | SYS_BOOT_CAUSE
  | SYS_BOOT_RESCUE_REASON | SYS_BOOT_SLOT | SYS_BOOT_KIND | SYS_FUSE_STATUS_BAND | SYS_FUSE_STATUS_DOUBTFUL
  | SYS_FUSE_STATUS_CLASS_DOUBT | SYS_FUSE_STATUS_DONE | SYS_FUSE_VALUE | SYS_FUSE_DOUBT_WORDS
  | STORE_STATUS_SPARE_MIN | STORE_STATUS_PFAIL_HOLD | STORE_STATUS_SCRUBBING | STORE_STATUS_OPEN
  | STORE_STATUS_PRESENT | STORE_STATUS_BLOCKS | STORE_ANCHOR_SEQ | STORE_ANCHOR_TRIAL_COUNT | STORE_ANCHOR_VERIFIED
  | STORE_ANCHOR_DOWNLOADING | STORE_ANCHOR_FALLBACK_VALID | STORE_ANCHOR_TRIAL | STORE_ANCHOR_BOOT_SLOT
  | STORE_DOWNLOAD_BYTES | STORE_DEV_ERASE_MAX | STORE_DEV_ERASE_MIN | STORE_DEV_RETIRED | STORE_DEV_SPARE
  | PWR_STATE_PFAIL | PWR_STATE_PELDEL_OFF | PWR_STATE_LAST_WAKE | PWR_STATE_PHASE | PWR_STATE_STATE
  | PWR_MODE_CHANGING | PWR_MODE_PENDING_VALID | PWR_MODE_PENDING | PWR_MODE_CURRENT | PWR_IDLE_IDLE_EN
  | PWR_IDLE_STANDBY_MODES | PWR_IDLE_DEVICE_MS | PWR_WAKE_AT_S | PWR_WAKE_ENABLE | PWR_DVFS_REQUEST
  | PWR_DVFS_THROTTLED | PWR_DVFS_TRANSITION | PWR_DVFS_TARGET | PWR_DVFS_POINT | PWR_PMBUS_SETTLE_US
  | PWR_PMBUS_BUS_OK | PWR_PMBUS_VCORE_ADDR | PWR_CLK_LOCKED | PWR_CLK_DCLK_RECOVERED | PWR_CLK_LCLK_LOCKED
  | PWR_DOZE_DOZING | PWR_DOZE_DOZE_EN | PWR_DOZE_TIMER_US | PWR_RAIL_ADDR | PWR_RAIL_TEMP | PWR_RAIL_CURRENT
  | PWR_RAIL_VOLTAGE | FLT_STATUS_L3_SOURCE | FLT_STATUS_SUMMARY | FLT_STATUS_FULL | FLT_STATUS_USED
  | FLT_STATUS_WINDOW_FAULTS | FLT_STATUS_WINDOW_OPEN | FLT_STATUS_SAFE | FLT_CFG_IRQ_EN | FLT_CFG_CORR_PER_S
  | FLT_CFG_WINDOW_MS | FLT_CFG_LF_HOLD_MS | FLT_CFG_TEMP_WARN | FLT_ACTION_DEFAULT | FLT_ACTION_LEVEL
  | FLT_RECOVERY_LAST_SOURCE | FLT_RECOVERY_LAST_US | FLT_RECOVERY_HELD | FLT_RECOVERY_LEVEL | EVT_NEXT_SEQ_SEQ
  | EVT_OLDEST_SEQ_SEQ | EVT_STATUS_RUNNING | EVT_STATUS_PERMANENT_FULL | EVT_STATUS_BUFFERED | EVT_NOTIFY_IRQ_EN
  | EVT_NOTIFY_COUNT | EVT_NOTIFY_US | TEST_STATUS_INJECT_ARMED | TEST_STATUS_PERTURB_ON | TEST_STATUS_MAINT
  | TEST_LOOP_LINE_LINE_DIGITAL | TEST_LOOP_LINE_LINE_ELEC | TEST_LOOP_LANE_MAC | TEST_LOOP_LANE_PCS
  | TEST_LOOP_LANE_PMA_FAR | TEST_LOOP_LANE_PMA_NEAR | TEST_GEN_RUN | TEST_GEN_PATTERN | TEST_GEN_SLOT
  | TEST_GEN_POINT | TEST_GEN_LEN_MIN | TEST_GEN_LEN_MAX | TEST_GEN_FILL | TEST_GEN_CLASS | TEST_GEN_RATE
  | TEST_GEN_COUNT | TEST_GEN_ETYPE | TEST_GEN_DMAC | TEST_GEN_SENT | TEST_CHK_RUN | TEST_CHK_SLOT | TEST_CHK_POINT
  | TEST_CHK_GEN | TEST_CHK_ETYPE | TEST_CHK_FRAMES | TEST_CHK_BYTES | TEST_CHK_LOST | TEST_CHK_REORDER
  | TEST_CHK_PAYLOAD_ERR | TEST_PERTURB_ON | TEST_PERTURB_PROB | TEST_PERTURB_TARGET | TEST_PERTURB_VALUE
  | TEST_PERTURB_DURATION_MS | TEST_INJECT_TARGET | TEST_INJECT_BITS | TEST_INJECT_REMAINING | TEST_INJECTED_COUNT
  | SYS_STRAPS_PWR_GOOD_PIN | SYS_STRAPS_PFAIL_PIN | SYS_STRAPS_MFG_TEST | SYS_STRAPS_ADDR | SYS_ID_PART
  | SYS_ID_STEP | SYS_ID_SEC_VERSION | SYS_ID_IDCODE | SYS_DEVICE_ID_ID | SYS_IMAGE_MAJOR | SYS_IMAGE_MINOR
  | SYS_IMAGE_BUILD | SYS_DEFS_DEFINITIONS | SYS_DEFS_LAYOUT
  deriving DecidableEq, Repr

/-- A 64-bit saturating counter (R37), named as the chapters' counter tables name it. -/
inductive Ctr where
  | LSC_CW_OK | LSC_CW_CORR | LSC_RS_SYM_CORR | LSC_CW_UNCORR | LSC_TRELLIS_CORR | LSC_CW_SUSPECT | LSC_SYM_SETTLE
  | LSC_SETTLE_DISCARD | LSC_HDR_FIT | LSC_HDR_MISFIT | LSC_SYNC_LOSS | LSC_FF_LOST | LSC_ENV_OWN | LSC_ENV_OTHER
  | LSC_ENV_HEC_ERR | LSC_ENV_HUNT_BYTES | LSC_ENV_FAILED | LSC_GRANT_BADCHECK | LSC_MSG_BADCHECK | LSC_JUST_ERR
  | LSC_TRIB_NOSLOT | LSC_FMT_UNANNOUNCED | LP_LOS_COUNT | LP_RELEVEL_COUNT | LP_FT_SENT | LP_BUS_ERR
  | LP_GRANT_UNLOCKED | LP_GRANT_BADPROF | LP_CAP_MISSED | LP_DIR_BADCHECK | LP_MSG_OVERFLOW | LP_PAGE_MISMATCH
  | LP_ABORT_RX | LP_OH_LOST | LP_OH_DROP | LP_TRIB_SHORT | LP_TRIB_OVERFLOW | LP_BURSTS_SENT | LP_GRANT_OVERRUN
  | LP_PRESENCE_SENT | LP_PRESENCE_UNANSWERED | LP_ASSIGN_IGNORED | LP_RANGING_BURSTS | LP_GRANT_OWN | LP_GRANT_STATE
  | LP_GRANT_CONFLICT | LP_GRANT_DISCARD | LP_BURST_TRUNC | LP_TRUNC_FRAMES | LP_MSG_STALE | LP_MSG_UNKNOWN
  | LP_DIR_STALE | LP_DEPOSITIONS | LP_OUTAGES | LP_BAY_TRIPS | LP_DOZE_CHECKIN_MISSED | LP_RANGE_LATE
  | LP_GRANT_BAYFULL | TIME_TIMED_SENT | TIME_TIMED_LATE_DROP | TIME_TIMED_LATE_SENT | TIME_TIMED_AHEAD_DROP
  | TIME_TIMED_NOTIME | TIME_TS_OVERFLOW | TIME_SERVICE_STEPS | TIME_DOMAIN_SWITCHES | SWS_RETRACT_C1
  | SWS_RETRACT_C3 | SWS_RETRACT_C5 | SWS_RETRACT_LATE | SWS_RETRACT_BYTES | SWS_SPEC_START | HP_RX_FRAMES_OK
  | HP_RX_BYTES_OK | HP_RX_FCS_ERR | HP_RX_TRUNC | HP_RX_FILTER_DROP | HP_RX_HDR_ERR | HP_RX_PAUSE | HP_PAUSE_IGNORED
  | HP_TX_FRAMES | HP_TX_BYTES | HP_TX_PAUSE | HP_TX_UNDERRUN | HP_TX_ABANDONED | HP_WDOG_FIRES | HP_LPI_TX_ENTRIES
  | HP_LPI_RX_ENTRIES | HP_FEC_CW_CORR | HP_FEC_CW_UNCORR | HP_FEC_SYM_CORR | HP_LINK_DOWNS | HP_FRT_DONE
  | HP_FRT_FALLBACK | HP_TRAIN_FAIL | HL_FEC_LANE_SYM | HL_WAKE_DETECTS | HL_TAP_REQ_RX | HL_TAP_REQ_TX | PIPE_PARSED
  | PIPE_PARSE_ERR | PIPE_INNER_FAIL | PIPE_FRAG | PIPE_NO_MATCH | PIPE_RULE_DROP | PIPE_REPLICA_REPAIR | EXC_SENT
  | EXC_DROP | TBL_EM_HIT_ONDIE | TBL_EM_HIT_HBM | TBL_EM_MISS | TBL_FILTER_ABSENT | TBL_FILTER_FALSE
  | TBL_SPEC_ABSENT_WRONG | TBL_LPM_HIT | TBL_LOOKUP_MISS_DROP | TBL_RESULT_DROP | TBL_NH_INVALID | TBL_LOOKUP_ERR
  | TBL_EM_MOVES | TBL_LPM_MOVES | TBL_LEARN_POSTED | TBL_LEARN_SUPPRESSED | TBL_LEARN_DROP | SWD_ENQ_FRAMES
  | SWD_ENQ_CELLS | SWD_QMAX_DROP | SWD_SHARED_DROP | SWD_GLOBAL_DROP | SWD_HEADROOM_DROP | SWD_PUSHOUT_FRAMES
  | SWD_PUSHOUT_CELLS | SWD_FLUSH_FRAMES | SWD_FLUSH_ABSORBED | SWD_DOWN_DROP | SWD_SPILL_CELLS | SWD_CELL_ECC_DROP
  | SWD_TX_UNDERRUN | SWD_DMA_NOBUF | SW_SAGE_SWEEPS | SW_SAGE_RECLAIMED | SW_SAGE_DOUBLE | BPM_ALLOC | BPM_FREE
  | BPM_FALLBACK | BPM_NOSPACE | BPM_BAD_RANGE | BPM_BAD_ALIGN | BPM_DOUBLE_FREE | BPM_NOT_OWNER | BPM_BAD_TARGET
  | BPM_RECLAIMED | SCHED_DEQ_FRAMES | SCHED_DEQ_BYTES | SCHED_BLOCKED_SELECTIONS | SCHED_GRANT_IDLE_BYTES
  | CIPHP_RX_OPENED | CIPHP_RX_AUTH_FAIL | CIPHP_RX_REPLAY | CIPHP_UP_SEALED | CIPHP_UP_NOPN | CIPHP_RX_CIPHER_BUSY
  | CIPH_CACHE_HIT | CIPH_CACHE_MISS | CIPH_DERIVATIONS | CIPH_CMD_AUTH_FAIL | CIPH_XTS_UNITS | CIPH_HOST_OPEN_FAIL
  | WQ_ADMIT | WQ_DROP | CORE_DISPATCHED | CORE_PREEMPTIONS | CORE_TIMEOUTS | CORE_ITEM_LOST | CORE_THYME_HELD
  | CORE_THYME_SKIPS | CORE_SUB_STALL | CORE_LOCK_GRANTS | CORE_LOCK_WAITS | CORE_LOCK_ABANDONED | CMD_CMDS_DONE
  | CMD_WIN_DENIED | CMD_INBAND_REPLAY | CMD_INBAND_REPLY_DROP | CMD_PELDEL_BADCHECK | CMD_PEER_FOREIGN
  | CMD_PEER_SENT | CMD_PEER_APPLIED | STORE_PAGES_READ | STORE_PAGES_PROGRAMMED | STORE_BLOCKS_ERASED
  | STORE_BITS_CORRECTED | STORE_PAGES_UNCORR | STORE_PROG_REFUSED | STORE_REFRESHES | STORE_BLOCKS_RETIRED
  | STORE_SETTING_FAILED | PWR_STANDBY_ENTRIES | PWR_STANDBY_ABANDONED | PWR_STANDBY_DISCARD | PWR_DOZE_ENTRIES
  | PWR_DOZE_ABANDONED | PWR_DVFS_CHANGES | PWR_THROTTLES | PWR_RAIL_TIMEOUT | FLT_REPORTS | FLT_COALESCED
  | FLT_REPORTS_LOST | FLT_L1_RECOVERIES | FLT_L2_RECOVERIES | FLT_L3_ENTRIES | FLT_ESCALATIONS
  | FLT_RECOVERY_DISCARD | FLT_EVT_RECORDS | FLT_EVT_DROPPED | FLT_EMERGENCY_FLUSHES
  deriving DecidableEq, Repr

/-- The access codes of Table 0.5 that some field of the manual carries (R4). -/
inductive Access where
  | ro | rw | cw | w1c | rl
  deriving DecidableEq, Repr

/-- Where a register field stands and how it behaves. Instance (i, j) stands at
base + hi * (i / g) + lo * (i % g) + sj * j, from bit lb + sl * j, w bits wide. -/
structure FldRow where
  base : Nat
  g : Nat
  hi : Nat
  lo : Nat
  sj : Nat
  ni : Nat
  nj : Nat
  sl : Nat
  lb : Nat
  w : Nat
  acc : Access
  reset : Nat
  rmin : Int
  rmax : Int
  signed : Bool
  deriving DecidableEq, Repr

/-- Where a counter stands: instance (i, j) at base + hi * (i / g) + lo * (i % g) + sj * j. -/
structure CtrRow where
  base : Nat
  g : Nat
  hi : Nat
  lo : Nat
  sj : Nat
  ni : Nat
  nj : Nat
  deriving DecidableEq, Repr

end Sys2Proof.Machine
end

