-- ==== Sys2Proof/Machine/Regs.lean ====
section
/-!
DEFINITION. The register map: address, bit place, width, access code, reset value and stated range of every register
field, and the address of every counter, as the register tables of the chapters and Tables 20.1 to 20.6 give them.
-/
namespace Sys2Proof.Machine

/-- Shorthand for a row of the register map. -/
def mkRow (base g hi lo sj ni nj sl lb w : Nat) (acc : Access) (reset : Nat) (rmin rmax : Int) (signed : Bool) : FldRow :=
  { base := base, g := g, hi := hi, lo := lo, sj := sj, ni := ni, nj := nj, sl := sl, lb := lb, w := w, acc := acc,
    reset := reset, rmin := rmin, rmax := rmax, signed := signed }

/-- The register map (tables of the chapters; block bases of Table 20.3). -/
def Fld.row : Fld → FldRow
  | .LINE_STATUS_FT_LIMIT => mkRow 0x1000000 1 4194304 0 0 4 1 0 13 1 .ro 0 0 1 false
  | .LINE_STATUS_CONTROL_SC => mkRow 0x1000000 1 4194304 0 0 4 1 0 9 4 .ro 0 0 15 false
  | .LINE_STATUS_LASER_BUS_OK => mkRow 0x1000000 1 4194304 0 0 4 1 0 8 1 .ro 1 0 1 false
  | .LINE_STATUS_TX_ACTIVE => mkRow 0x1000000 1 4194304 0 0 4 1 0 7 1 .ro 0 0 1 false
  | .LINE_STATUS_SETTLING => mkRow 0x1000000 1 4194304 0 0 4 1 0 6 1 .ro 0 0 1 false
  | .LINE_STATUS_DRIFT_ALARM => mkRow 0x1000000 1 4194304 0 0 4 1 0 5 1 .ro 0 0 1 false
  | .LINE_STATUS_BEACON_FOUND => mkRow 0x1000000 1 4194304 0 0 4 1 0 4 1 .ro 0 0 1 false
  | .LINE_STATUS_SEARCHING => mkRow 0x1000000 1 4194304 0 0 4 1 0 3 1 .ro 0 0 1 false
  | .LINE_STATUS_AGC_FROZEN => mkRow 0x1000000 1 4194304 0 0 4 1 0 2 1 .ro 0 0 1 false
  | .LINE_STATUS_CARRIER_LOCK => mkRow 0x1000000 1 4194304 0 0 4 1 0 1 1 .ro 0 0 1 false
  | .LINE_STATUS_LIGHT => mkRow 0x1000000 1 4194304 0 0 4 1 0 0 1 .ro 0 0 1 false
  | .LINE_EVT_STATUS_QUALITY_UPDATE => mkRow 0x1000008 1 4194304 0 0 4 1 0 11 1 .w1c 0 0 1 false
  | .LINE_EVT_STATUS_CAPTURE_DONE => mkRow 0x1000008 1 4194304 0 0 4 1 0 10 1 .w1c 0 0 1 false
  | .LINE_EVT_STATUS_RATE_UNSUPPORTED => mkRow 0x1000008 1 4194304 0 0 4 1 0 9 1 .w1c 0 0 1 false
  | .LINE_EVT_STATUS_BEACON_CONFLICT => mkRow 0x1000008 1 4194304 0 0 4 1 0 8 1 .w1c 0 0 1 false
  | .LINE_EVT_STATUS_BEACON_FOUND => mkRow 0x1000008 1 4194304 0 0 4 1 0 7 1 .w1c 0 0 1 false
  | .LINE_EVT_STATUS_FT_LIMIT => mkRow 0x1000008 1 4194304 0 0 4 1 0 6 1 .w1c 0 0 1 false
  | .LINE_EVT_STATUS_LASER_BUS_FAULT => mkRow 0x1000008 1 4194304 0 0 4 1 0 5 1 .w1c 0 0 1 false
  | .LINE_EVT_STATUS_RELEVEL => mkRow 0x1000008 1 4194304 0 0 4 1 0 4 1 .w1c 0 0 1 false
  | .LINE_EVT_STATUS_DRIFT => mkRow 0x1000008 1 4194304 0 0 4 1 0 3 1 .w1c 0 0 1 false
  | .LINE_EVT_STATUS_LOCK_LOST => mkRow 0x1000008 1 4194304 0 0 4 1 0 2 1 .w1c 0 0 1 false
  | .LINE_EVT_STATUS_LIGHT_RETURN => mkRow 0x1000008 1 4194304 0 0 4 1 0 1 1 .w1c 0 0 1 false
  | .LINE_EVT_STATUS_LOS => mkRow 0x1000008 1 4194304 0 0 4 1 0 0 1 .w1c 0 0 1 false
  | .LINE_EVT_ENABLE_QUALITY_UPDATE => mkRow 0x1000010 1 4194304 0 0 4 1 0 11 1 .cw 0 0 1 false
  | .LINE_EVT_ENABLE_CAPTURE_DONE => mkRow 0x1000010 1 4194304 0 0 4 1 0 10 1 .cw 0 0 1 false
  | .LINE_EVT_ENABLE_RATE_UNSUPPORTED => mkRow 0x1000010 1 4194304 0 0 4 1 0 9 1 .cw 0 0 1 false
  | .LINE_EVT_ENABLE_BEACON_CONFLICT => mkRow 0x1000010 1 4194304 0 0 4 1 0 8 1 .cw 0 0 1 false
  | .LINE_EVT_ENABLE_BEACON_FOUND => mkRow 0x1000010 1 4194304 0 0 4 1 0 7 1 .cw 0 0 1 false
  | .LINE_EVT_ENABLE_FT_LIMIT => mkRow 0x1000010 1 4194304 0 0 4 1 0 6 1 .cw 0 0 1 false
  | .LINE_EVT_ENABLE_LASER_BUS_FAULT => mkRow 0x1000010 1 4194304 0 0 4 1 0 5 1 .cw 0 0 1 false
  | .LINE_EVT_ENABLE_RELEVEL => mkRow 0x1000010 1 4194304 0 0 4 1 0 4 1 .cw 0 0 1 false
  | .LINE_EVT_ENABLE_DRIFT => mkRow 0x1000010 1 4194304 0 0 4 1 0 3 1 .cw 0 0 1 false
  | .LINE_EVT_ENABLE_LOCK_LOST => mkRow 0x1000010 1 4194304 0 0 4 1 0 2 1 .cw 0 0 1 false
  | .LINE_EVT_ENABLE_LIGHT_RETURN => mkRow 0x1000010 1 4194304 0 0 4 1 0 1 1 .cw 0 0 1 false
  | .LINE_EVT_ENABLE_LOS => mkRow 0x1000010 1 4194304 0 0 4 1 0 0 1 .cw 0 0 1 false
  | .LINE_LASER_FT_APPLIED => mkRow 0x1000100 1 4194304 0 0 4 1 0 40 16 .ro 0 0 65535 false
  | .LINE_LASER_FT_ENABLE => mkRow 0x1000100 1 4194304 0 0 4 1 0 39 1 .cw 1 0 1 false
  | .LINE_LASER_BUS_ADDR => mkRow 0x1000100 1 4194304 0 0 4 1 0 32 7 .cw 80 0 127 false
  | .LINE_LASER_NOMINAL_MHZ => mkRow 0x1000100 1 4194304 0 0 4 1 0 0 32 .cw 0 0 4294967295 false
  | .LINE_CFO_LOCK => mkRow 0x1000108 1 4194304 0 0 4 1 0 32 1 .ro 0 0 1 false
  | .LINE_CFO_OFFSET_KHZ => mkRow 0x1000108 1 4194304 0 0 4 1 0 0 32 .ro 0 0 4294967295 false
  | .LINE_AGC_STEP_PENDING => mkRow 0x1000200 1 4194304 0 0 4 1 0 34 1 .ro 0 0 1 false
  | .LINE_AGC_AUTO_RELEVEL => mkRow 0x1000200 1 4194304 0 0 4 1 0 33 1 .cw 1 0 1 false
  | .LINE_AGC_FROZEN => mkRow 0x1000200 1 4194304 0 0 4 1 0 32 1 .ro 0 0 1 false
  | .LINE_AGC_DRIFT => mkRow 0x1000200 1 4194304 0 0 4 1 0 20 12 .ro 0 0 4095 false
  | .LINE_AGC_FROZEN_GAIN => mkRow 0x1000200 1 4194304 0 0 4 1 0 10 10 .ro 0 0 1023 false
  | .LINE_AGC_GAIN => mkRow 0x1000200 1 4194304 0 0 4 1 0 0 10 .ro 0 0 1023 false
  | .LINE_EQ_DGD_EST => mkRow 0x1000300 1 4194304 0 0 4 1 0 33 10 .ro 0 0 1023 false
  | .LINE_EQ_CD_AUTO => mkRow 0x1000300 1 4194304 0 0 4 1 0 32 1 .cw 1 0 1 false
  | .LINE_EQ_CD_EST => mkRow 0x1000300 1 4194304 0 0 4 1 0 16 16 .ro 0 0 65535 false
  | .LINE_EQ_CD_APPLIED => mkRow 0x1000300 1 4194304 0 0 4 1 0 0 16 .cw 0 (-12000) 12000 true
  | .LINE_SC_SNR => mkRow 0x1000400 1 4194304 0 8 4 16 0 4 10 .ro 0 0 1023 false
  | .LINE_SC_SETTLING => mkRow 0x1000400 1 4194304 0 8 4 16 0 3 1 .ro 0 0 1 false
  | .LINE_SC_FORMAT => mkRow 0x1000400 1 4194304 0 8 4 16 0 1 2 .ro 3 0 3 false
  | .LINE_SC_ENABLED => mkRow 0x1000400 1 4194304 0 8 4 16 0 0 1 .cw 1 0 1 false
  | .LINE_SEARCH_SNR => mkRow 0x1000500 1 4194304 0 8 4 48 0 24 10 .ro 0 0 1023 false
  | .LINE_SEARCH_OFFSET_MHZ => mkRow 0x1000500 1 4194304 0 8 4 48 0 8 16 .ro 0 0 65535 false
  | .LINE_SEARCH_CONTROL_SC => mkRow 0x1000500 1 4194304 0 8 4 48 0 3 4 .ro 0 0 15 false
  | .LINE_SEARCH_BEACON => mkRow 0x1000500 1 4194304 0 8 4 48 0 2 1 .ro 0 0 1 false
  | .LINE_SEARCH_HEADER_FIT => mkRow 0x1000500 1 4194304 0 8 4 48 0 1 1 .ro 0 0 1 false
  | .LINE_SEARCH_PRESENT => mkRow 0x1000500 1 4194304 0 8 4 48 0 0 1 .ro 0 0 1 false
  | .LINE_UP_PROFILE_VALID => mkRow 0x1000700 1 4194304 0 8 4 16 0 13 1 .ro 0 0 1 false
  | .LINE_UP_PROFILE_RAMP => mkRow 0x1000700 1 4194304 0 8 4 16 0 8 5 .ro 0 0 31 false
  | .LINE_UP_PROFILE_PREAMBLE => mkRow 0x1000700 1 4194304 0 8 4 16 0 4 4 .ro 0 0 15 false
  | .LINE_UP_PROFILE_RATE => mkRow 0x1000700 1 4194304 0 8 4 16 0 1 3 .ro 0 0 7 false
  | .LINE_UP_PROFILE_FORMAT => mkRow 0x1000700 1 4194304 0 8 4 16 0 0 1 .ro 0 0 1 false
  | .LINE_TX_DARK => mkRow 0x1000780 1 4194304 0 0 4 1 0 12 1 .ro 1 0 1 false
  | .LINE_TX_POWER => mkRow 0x1000780 1 4194304 0 0 4 1 0 0 12 .cw 0 (-20) 60 true
  | .LINE_QUALITY_SF_NUMBER => mkRow 0x1000800 1 4194304 0 0 4 1 0 16 25 .ro 0 0 33554431 false
  | .LINE_QUALITY_NOISE_FLOOR => mkRow 0x1000800 1 4194304 0 0 4 1 0 0 16 .ro 0 0 65535 false
  | .LINE_CAP_CTL_TRIG_SF => mkRow 0x1000900 1 4194304 0 0 4 1 0 17 25 .cw 0 0 33554431 false
  | .LINE_CAP_CTL_PRE => mkRow 0x1000900 1 4194304 0 0 4 1 0 10 7 .cw 0 0 127 false
  | .LINE_CAP_CTL_TRIGGER => mkRow 0x1000900 1 4194304 0 0 4 1 0 6 4 .cw 0 0 5 false
  | .LINE_CAP_CTL_SC => mkRow 0x1000900 1 4194304 0 0 4 1 0 2 4 .cw 0 0 15 false
  | .LINE_CAP_CTL_POINT => mkRow 0x1000900 1 4194304 0 0 4 1 0 0 2 .cw 0 0 1 false
  | .LINE_CAP_STATUS_TRIG_LINE => mkRow 0x1000908 1 4194304 0 0 4 1 0 2 24 .ro 0 0 16777215 false
  | .LINE_CAP_STATUS_DONE => mkRow 0x1000908 1 4194304 0 0 4 1 0 1 1 .ro 0 0 1 false
  | .LINE_CAP_STATUS_ARMED => mkRow 0x1000908 1 4194304 0 0 4 1 0 0 1 .ro 0 0 1 false
  | .LINE_FRM_ENV_STATE => mkRow 0x1003000 1 4194304 0 8 4 16 0 44 2 .ro 0 0 3 false
  | .LINE_FRM_PAGE => mkRow 0x1003000 1 4194304 0 8 4 16 0 43 1 .ro 0 0 1 false
  | .LINE_FRM_SF_NUMBER => mkRow 0x1003000 1 4194304 0 8 4 16 0 18 25 .ro 0 0 33554431 false
  | .LINE_FRM_SECTOR => mkRow 0x1003000 1 4194304 0 8 4 16 0 10 8 .ro 0 0 255 false
  | .LINE_FRM_MISFIT_RUN => mkRow 0x1003000 1 4194304 0 8 4 16 0 7 3 .ro 0 0 7 false
  | .LINE_FRM_FIT_RUN => mkRow 0x1003000 1 4194304 0 8 4 16 0 4 3 .ro 0 0 7 false
  | .LINE_FRM_STATE => mkRow 0x1003000 1 4194304 0 8 4 16 0 0 2 .ro 0 0 3 false
  | .LINE_FRM_CFG_PM_OFFSET => mkRow 0x1003100 1 4194304 0 0 4 1 0 11 7 .cw 0 0 95 false
  | .LINE_FRM_CFG_OH_AID => mkRow 0x1003100 1 4194304 0 0 4 1 0 3 6 .cw 0 0 63 false
  | .LINE_FRM_CFG_DELTA => mkRow 0x1003100 1 4194304 0 0 4 1 0 0 3 .cw 2 1 7 false
  | .LINE_TSI_UP_SWAP => mkRow 0x1003200 1 4194304 0 0 4 1 0 11 7 .ro 0 0 127 false
  | .LINE_TSI_DN_SWAP => mkRow 0x1003200 1 4194304 0 0 4 1 0 4 7 .ro 0 0 127 false
  | .LINE_TSI_UP_READY => mkRow 0x1003200 1 4194304 0 0 4 1 0 3 1 .ro 0 0 1 false
  | .LINE_TSI_DN_READY => mkRow 0x1003200 1 4194304 0 0 4 1 0 2 1 .ro 0 0 1 false
  | .LINE_TSI_UP_PAGE => mkRow 0x1003200 1 4194304 0 0 4 1 0 1 1 .ro 0 0 1 false
  | .LINE_TSI_DN_PAGE => mkRow 0x1003200 1 4194304 0 0 4 1 0 0 1 .ro 0 0 1 false
  | .SYS_OSP_RX_EN => mkRow 0x8000 1 8 0 0 8 1 0 5 1 .cw 0 0 1 false
  | .SYS_OSP_TX_EN => mkRow 0x8000 1 8 0 0 8 1 0 4 1 .cw 0 0 1 false
  | .SYS_OSP_CHANNEL => mkRow 0x8000 1 8 0 0 8 1 0 2 2 .cw 0 0 3 false
  | .SYS_OSP_PORT => mkRow 0x8000 1 8 0 0 8 1 0 0 2 .cw 0 0 3 false
  | .LINE_TREE_STATE_DIR_GRACE => mkRow 0x1004000 1 4194304 0 0 4 1 0 41 1 .ro 0 0 1 false
  | .LINE_TREE_STATE_IDENT_VALID => mkRow 0x1004000 1 4194304 0 0 4 1 0 40 1 .ro 0 0 1 false
  | .LINE_TREE_STATE_SILENT_MS => mkRow 0x1004000 1 4194304 0 0 4 1 0 8 32 .ro 0 0 4294967295 false
  | .LINE_TREE_STATE_PREV_STATE => mkRow 0x1004000 1 4194304 0 0 4 1 0 4 4 .ro 0 0 15 false
  | .LINE_TREE_STATE_STATE => mkRow 0x1004000 1 4194304 0 0 4 1 0 0 4 .ro 0 0 15 false
  | .LINE_TREE_ID_SERIAL_TAG => mkRow 0x1004008 1 4194304 0 0 4 1 0 32 32 .ro 0 0 4294967295 false
  | .LINE_TREE_ID_EPOCH => mkRow 0x1004008 1 4194304 0 0 4 1 0 16 16 .ro 0 0 65535 false
  | .LINE_TREE_ID_TID => mkRow 0x1004008 1 4194304 0 0 4 1 0 0 9 .ro 0 0 511 false
  | .LINE_TREE_SERIAL_SERIAL => mkRow 0x1004010 1 4194304 0 0 4 1 0 0 64 .ro 0 0 18446744073709551615 false
  | .LINE_TREE_RANGE_DN_DELAY => mkRow 0x1004018 1 4194304 0 0 4 1 0 32 32 .ro 0 0 4294967295 false
  | .LINE_TREE_RANGE_TRIM => mkRow 0x1004018 1 4194304 0 0 4 1 0 24 4 .ro 0 0 15 false
  | .LINE_TREE_RANGE_EQD => mkRow 0x1004018 1 4194304 0 0 4 1 0 0 24 .ro 0 0 16777215 false
  | .LINE_TREE_TIMERS_BACKOFF_MAX => mkRow 0x1004020 1 4194304 0 0 4 1 0 40 8 .cw 15 0 255 false
  | .LINE_TREE_TIMERS_ASSIGN_WAIT => mkRow 0x1004020 1 4194304 0 0 4 1 0 29 11 .cw 64 8 1024 false
  | .LINE_TREE_TIMERS_RANGING_TIMEOUT => mkRow 0x1004020 1 4194304 0 0 4 1 0 19 10 .cw 100 1 1000 false
  | .LINE_TREE_TIMERS_REREG_LIMIT => mkRow 0x1004020 1 4194304 0 0 4 1 0 6 13 .cw 100 1 6000 false
  | .LINE_TREE_TIMERS_RESUME_LIMIT => mkRow 0x1004020 1 4194304 0 0 4 1 0 0 6 .cw 50 1 50 false
  | .LINE_TREE_CFG_HOST_DARK => mkRow 0x1004028 1 4194304 0 0 4 1 0 2 1 .cw 0 0 1 false
  | .LINE_TREE_CFG_AUTO_RELEASE_SYNC => mkRow 0x1004028 1 4194304 0 0 4 1 0 1 1 .cw 1 0 1 false
  | .LINE_TREE_CFG_AUTO_REJOIN => mkRow 0x1004028 1 4194304 0 0 4 1 0 0 1 .cw 0 0 1 false
  | .LINE_TREE_FILTER_ENABLE => mkRow 0x1004030 1 4194304 0 0 4 1 0 38 1 .cw 0 0 1 false
  | .LINE_TREE_FILTER_TREE => mkRow 0x1004030 1 4194304 0 0 4 1 0 32 6 .cw 0 0 63 false
  | .LINE_TREE_FILTER_SYSTEM_ID => mkRow 0x1004030 1 4194304 0 0 4 1 0 0 32 .cw 0 0 4294967295 false
  | .LINE_TREE_DOZE_REQUESTED => mkRow 0x1004038 1 4194304 0 0 4 1 0 48 1 .ro 0 0 1 false
  | .LINE_TREE_DOZE_WAKE_THRESHOLD => mkRow 0x1004038 1 4194304 0 0 4 1 0 16 32 .cw 0 0 4294967295 false
  | .LINE_TREE_DOZE_PERIOD => mkRow 0x1004038 1 4194304 0 0 4 1 0 0 16 .ro 0 0 65535 false
  | .LINE_BAY_TX_DISABLE_PIN => mkRow 0x1004100 1 4194304 0 0 4 1 0 11 1 .ro 1 0 1 false
  | .LINE_BAY_PRESENT => mkRow 0x1004100 1 4194304 0 0 4 1 0 6 5 .ro 0 0 31 false
  | .LINE_BAY_LATCHED => mkRow 0x1004100 1 4194304 0 0 4 1 0 1 5 .ro 0 0 31 false
  | .LINE_BAY_TRIPPED => mkRow 0x1004100 1 4194304 0 0 4 1 0 0 1 .ro 0 0 1 false
  | .TIME_NOW_SUB_NS => mkRow 0x800000 1 0 0 0 1 1 0 32 32 .ro 0 0 4294967295 false
  | .TIME_NOW_SUB_FRAC => mkRow 0x800000 1 0 0 0 1 1 0 16 16 .ro 0 0 65535 false
  | .TIME_NOW_SUB_VALID => mkRow 0x800000 1 0 0 0 1 1 0 0 1 .ro 0 0 1 false
  | .TIME_NOW_SEC_SECONDS => mkRow 0x800008 1 0 0 0 1 1 0 0 48 .rl 0 0 281474976710655 false
  | .TIME_STATUS_RESIDUAL => mkRow 0x800010 1 0 0 0 1 1 0 16 32 .ro 0 0 4294967295 false
  | .TIME_STATUS_TIMEIN1_OK => mkRow 0x800010 1 0 0 0 1 1 0 4 1 .ro 0 0 1 false
  | .TIME_STATUS_TIMEIN0_OK => mkRow 0x800010 1 0 0 0 1 1 0 3 1 .ro 0 0 1 false
  | .TIME_STATUS_SLEWING => mkRow 0x800010 1 0 0 0 1 1 0 2 1 .ro 0 0 1 false
  | .TIME_STATUS_VALID => mkRow 0x800010 1 0 0 0 1 1 0 1 1 .ro 0 0 1 false
  | .TIME_STATUS_SELECTED => mkRow 0x800010 1 0 0 0 1 1 0 0 1 .ro 0 0 1 false
  | .TIME_SEL_SLEW_RATE => mkRow 0x800018 1 0 0 0 1 1 0 3 8 .cw 50 1 50 false
  | .TIME_SEL_CLK10M_EN => mkRow 0x800018 1 0 0 0 1 1 0 2 1 .cw 0 0 1 false
  | .TIME_SEL_REVERTIVE => mkRow 0x800018 1 0 0 0 1 1 0 1 1 .cw 0 0 1 false
  | .TIME_SEL_AUTO_SWITCH => mkRow 0x800018 1 0 0 0 1 1 0 0 1 .cw 1 0 1 false
  | .TIME_DOMAIN_CFG_HOLDOVER_LIMIT => mkRow 0x800100 1 32 0 0 2 1 0 6 17 .cw 1000 1 86400 false
  | .TIME_DOMAIN_CFG_BW => mkRow 0x800100 1 32 0 0 2 1 0 4 2 .cw 1 0 2 false
  | .TIME_DOMAIN_CFG_SOURCE => mkRow 0x800100 1 32 0 0 2 1 0 0 4 .cw 0 0 7 false
  | .TIME_DOMAIN_STATE_ERROR => mkRow 0x800108 1 32 0 0 2 1 0 32 32 .ro 0 0 4294967295 false
  | .TIME_DOMAIN_STATE_HOLDOVER_S => mkRow 0x800108 1 32 0 0 2 1 0 12 20 .ro 0 0 1048575 false
  | .TIME_DOMAIN_STATE_SRC_HOLDOVER => mkRow 0x800108 1 32 0 0 2 1 0 3 1 .ro 0 0 1 false
  | .TIME_DOMAIN_STATE_VALID => mkRow 0x800108 1 32 0 0 2 1 0 2 1 .ro 0 0 1 false
  | .TIME_DOMAIN_STATE_STATE => mkRow 0x800108 1 32 0 0 2 1 0 0 2 .ro 0 0 3 false
  | .TIME_ADJ_VALUE => mkRow 0x800200 1 8 0 0 6 1 0 0 32 .cw 0 0 4294967295 false
  | .TIME_PORT_EGRESS_ADJ => mkRow 0x800300 1 8 0 0 36 1 0 44 20 .cw 0 0 1048575 false
  | .TIME_PORT_INGRESS_ADJ => mkRow 0x800300 1 8 0 0 36 1 0 24 20 .cw 0 0 1048575 false
  | .TIME_PORT_MAX_AHEAD => mkRow 0x800300 1 8 0 0 36 1 0 10 14 .cw 1000 1 10000 false
  | .TIME_PORT_STAMP_DOMAIN => mkRow 0x800300 1 8 0 0 36 1 0 8 2 .cw 0 0 2 false
  | .TIME_PORT_STAMP_RX => mkRow 0x800300 1 8 0 0 36 1 0 7 1 .cw 0 0 1 false
  | .TIME_PORT_TIMED_EN => mkRow 0x800300 1 8 0 0 36 1 0 6 1 .cw 0 0 1 false
  | .TIME_PORT_TIMED_Q => mkRow 0x800300 1 8 0 0 36 1 0 3 3 .cw 7 0 7 false
  | .TIME_PULSE_CTL_START_SEC => mkRow 0x800600 1 32 0 0 4 1 0 16 48 .cw 0 0 281474976710655 false
  | .TIME_PULSE_CTL_FREE_RUN => mkRow 0x800600 1 32 0 0 4 1 0 3 1 .cw 0 0 1 false
  | .TIME_PULSE_CTL_PERIODIC => mkRow 0x800600 1 32 0 0 4 1 0 2 1 .cw 0 0 1 false
  | .TIME_PULSE_CTL_ARMED => mkRow 0x800600 1 32 0 0 4 1 0 1 1 .ro 0 0 1 false
  | .TIME_PULSE_CTL_ENABLE => mkRow 0x800600 1 32 0 0 4 1 0 0 1 .cw 0 0 1 false
  | .TIME_PULSE_TIMES_START_NS => mkRow 0x800608 1 32 0 0 4 1 0 32 32 .cw 0 0 999999999 false
  | .TIME_PULSE_WIDTH_WIDTH_NS => mkRow 0x800618 1 32 0 0 4 1 0 0 40 .cw 0 0 1099511627775 false
  | .TIME_PULSE_PERIOD_PERIOD_NS => mkRow 0x800610 1 32 0 0 4 1 0 0 40 .cw 0 0 1099511627775 false
  | .TIME_TIMEIN_CAP_SEC_LO => mkRow 0x800500 1 8 0 0 2 1 0 48 16 .rl 0 0 65535 false
  | .TIME_TIMEIN_CAP_NS => mkRow 0x800500 1 8 0 0 2 1 0 16 32 .rl 0 0 4294967295 false
  | .TIME_TIMEIN_CAP_FRAC => mkRow 0x800500 1 8 0 0 2 1 0 0 16 .rl 0 0 65535 false
  | .SW_RELEASE_DRAINING => mkRow 0x5000f00 1 0 0 0 1 1 0 39 1 .ro 0 0 1 false
  | .SW_RELEASE_BEHAVIOUR => mkRow 0x5000f00 1 0 0 0 1 1 0 37 2 .ro 1 0 3 false
  | .SW_RELEASE_SPEC_EN => mkRow 0x5000f00 1 0 0 0 1 1 0 0 36 .cw 68719476735 0 68719476735 false
  | .LN_CFG_WAKE_DET => mkRow 0x2000000 8 1048576 256 0 32 1 0 10 1 .cw 0 0 1 false
  | .LN_CFG_PRECODE_RX => mkRow 0x2000000 8 1048576 256 0 32 1 0 8 2 .cw 0 0 2 false
  | .LN_CFG_PRECODE_TX => mkRow 0x2000000 8 1048576 256 0 32 1 0 6 2 .cw 0 0 2 false
  | .LN_CFG_POL_RX => mkRow 0x2000000 8 1048576 256 0 32 1 0 5 1 .cw 0 0 1 false
  | .LN_CFG_POL_TX => mkRow 0x2000000 8 1048576 256 0 32 1 0 4 1 .cw 0 0 1 false
  | .LN_CFG_TX_MAP => mkRow 0x2000000 8 1048576 256 0 32 1 0 0 3 .cw 0 0 7 false
  | .LN_STATUS_WAKE_SEEN => mkRow 0x2000008 8 1048576 256 0 32 1 0 7 1 .w1c 0 0 1 false
  | .LN_STATUS_PRECODE_RX_ON => mkRow 0x2000008 8 1048576 256 0 32 1 0 6 1 .ro 0 0 1 false
  | .LN_STATUS_PRECODE_TX_ON => mkRow 0x2000008 8 1048576 256 0 32 1 0 5 1 .ro 0 0 1 false
  | .LN_STATUS_PARTNER_READY => mkRow 0x2000008 8 1048576 256 0 32 1 0 4 1 .ro 0 0 1 false
  | .LN_STATUS_RX_READY => mkRow 0x2000008 8 1048576 256 0 32 1 0 3 1 .ro 0 0 1 false
  | .LN_STATUS_FRT => mkRow 0x2000008 8 1048576 256 0 32 1 0 2 1 .ro 0 0 1 false
  | .LN_STATUS_CDR_LOCK => mkRow 0x2000008 8 1048576 256 0 32 1 0 1 1 .ro 0 0 1 false
  | .LN_STATUS_SIGNAL => mkRow 0x2000008 8 1048576 256 0 32 1 0 0 1 .ro 0 0 1 false
  | .LN_FFE_C_M3 => mkRow 0x2000010 8 1048576 256 0 32 1 0 40 8 .ro 0 0 255 false
  | .LN_FFE_C_M2 => mkRow 0x2000010 8 1048576 256 0 32 1 0 32 8 .ro 0 0 255 false
  | .LN_FFE_C_M1 => mkRow 0x2000010 8 1048576 256 0 32 1 0 24 8 .ro 0 0 255 false
  | .LN_FFE_C_0 => mkRow 0x2000010 8 1048576 256 0 32 1 0 16 8 .ro 64 0 255 false
  | .LN_FFE_C_P1 => mkRow 0x2000010 8 1048576 256 0 32 1 0 8 8 .ro 0 0 255 false
  | .LN_FFE_C_P2 => mkRow 0x2000010 8 1048576 256 0 32 1 0 0 8 .ro 0 0 255 false
  | .LN_FFE_INIT_C_M3 => mkRow 0x2000018 8 1048576 256 0 32 1 0 40 8 .cw 0 (-4) 4 true
  | .LN_FFE_INIT_C_M2 => mkRow 0x2000018 8 1048576 256 0 32 1 0 32 8 .cw 0 (-8) 8 true
  | .LN_FFE_INIT_C_M1 => mkRow 0x2000018 8 1048576 256 0 32 1 0 24 8 .cw 0 (-24) 0 true
  | .LN_FFE_INIT_C_0 => mkRow 0x2000018 8 1048576 256 0 32 1 0 16 8 .cw 64 32 64 true
  | .LN_FFE_INIT_C_P1 => mkRow 0x2000018 8 1048576 256 0 32 1 0 8 8 .cw 0 (-16) 0 true
  | .LN_FFE_INIT_C_P2 => mkRow 0x2000018 8 1048576 256 0 32 1 0 0 8 .cw 0 (-4) 4 true
  | .PORT_CFG_FRT_LIMIT => mkRow 0x2001000 8 1048576 256 0 32 1 0 44 10 .cw 10 1 100 false
  | .PORT_CFG_FRT_EN => mkRow 0x2001000 8 1048576 256 0 32 1 0 43 1 .cw 0 0 1 false
  | .PORT_CFG_AN_EN => mkRow 0x2001000 8 1048576 256 0 32 1 0 42 1 .cw 0 0 1 false
  | .PORT_CFG_TRAIN_EN => mkRow 0x2001000 8 1048576 256 0 32 1 0 41 1 .cw 1 0 1 false
  | .PORT_CFG_SYSHDR_EN => mkRow 0x2001000 8 1048576 256 0 32 1 0 40 1 .cw 0 0 1 false
  | .PORT_CFG_DEFAULT_CLASS => mkRow 0x2001000 8 1048576 256 0 32 1 0 36 4 .cw 0 0 15 false
  | .PORT_CFG_TPID_ALT => mkRow 0x2001000 8 1048576 256 0 32 1 0 20 16 .cw 0 0 65535 false
  | .PORT_CFG_MAX_FRAME => mkRow 0x2001000 8 1048576 256 0 32 1 0 6 14 .cw 9216 1518 9216 false
  | .PORT_CFG_MEDIA => mkRow 0x2001000 8 1048576 256 0 32 1 0 4 2 .cw 0 0 2 false
  | .PORT_CFG_TYPE => mkRow 0x2001000 8 1048576 256 0 32 1 0 1 3 .cw 0 0 4 false
  | .PORT_CFG_ENABLE => mkRow 0x2001000 8 1048576 256 0 32 1 0 0 1 .ro 0 0 1 false
  | .PORT_STATUS_WAKE_SENDING => mkRow 0x2001008 8 1048576 256 0 32 1 0 24 1 .ro 0 0 1 false
  | .PORT_STATUS_OVERRIDE => mkRow 0x2001008 8 1048576 256 0 32 1 0 16 8 .ro 0 0 255 false
  | .PORT_STATUS_PAUSED => mkRow 0x2001008 8 1048576 256 0 32 1 0 8 8 .ro 0 0 255 false
  | .PORT_STATUS_RX_LPI => mkRow 0x2001008 8 1048576 256 0 32 1 0 7 1 .ro 0 0 1 false
  | .PORT_STATUS_TX_LPI => mkRow 0x2001008 8 1048576 256 0 32 1 0 6 1 .ro 0 0 1 false
  | .PORT_STATUS_REMOTE_FAULT => mkRow 0x2001008 8 1048576 256 0 32 1 0 5 1 .ro 0 0 1 false
  | .PORT_STATUS_LOCAL_FAULT => mkRow 0x2001008 8 1048576 256 0 32 1 0 4 1 .ro 0 0 1 false
  | .PORT_STATUS_LINK_STATE => mkRow 0x2001008 8 1048576 256 0 32 1 0 0 3 .ro 0 0 7 false
  | .PORT_PAUSE_OVERRIDE_MS => mkRow 0x2001010 8 1048576 256 0 32 1 0 48 14 .cw 1000 1 10000 false
  | .PORT_PAUSE_WDOG_MS => mkRow 0x2001010 8 1048576 256 0 32 1 0 34 14 .cw 100 0 10000 false
  | .PORT_PAUSE_REFRESH => mkRow 0x2001010 8 1048576 256 0 32 1 0 18 16 .cw 32768 0 65535 false
  | .PORT_PAUSE_QUANTA => mkRow 0x2001010 8 1048576 256 0 32 1 0 2 16 .cw 65535 0 65535 false
  | .PORT_PAUSE_MODE => mkRow 0x2001010 8 1048576 256 0 32 1 0 0 2 .cw 0 0 2 false
  | .PORT_PFC_QMAP => mkRow 0x2001018 8 1048576 256 0 32 8 8 0 8 .cw 1 0 255 false
  | .PORT_LPI_T_W_US => mkRow 0x2001020 8 1048576 256 0 32 1 0 30 8 .cw 8 1 255 false
  | .PORT_LPI_TX_IDLE_FRUGAL_US => mkRow 0x2001020 8 1048576 256 0 32 1 0 16 14 .cw 5 1 10000 false
  | .PORT_LPI_TX_IDLE_US => mkRow 0x2001020 8 1048576 256 0 32 1 0 2 14 .cw 100 1 10000 false
  | .PORT_LPI_RX_EN => mkRow 0x2001020 8 1048576 256 0 32 1 0 1 1 .cw 0 0 1 false
  | .PORT_LPI_TX_EN => mkRow 0x2001020 8 1048576 256 0 32 1 0 0 1 .cw 0 0 1 false
  | .PORT_CLASS_DEST => mkRow 0x2001028 8 1048576 256 0 32 16 2 0 2 .cw 0 0 3 false
  | .FILTER_MATCH_ETYPE => mkRow 0x2008000 8 1048576 256 16 32 16 0 48 16 .cw 0 0 65535 false
  | .FILTER_MATCH_OVID => mkRow 0x2008000 8 1048576 256 16 32 16 0 36 12 .cw 0 0 4095 false
  | .FILTER_MATCH_OPCP => mkRow 0x2008000 8 1048576 256 16 32 16 0 33 3 .cw 0 0 7 false
  | .FILTER_MATCH_IVID => mkRow 0x2008000 8 1048576 256 16 32 16 0 21 12 .cw 0 0 4095 false
  | .FILTER_MATCH_IPCP => mkRow 0x2008000 8 1048576 256 16 32 16 0 18 3 .cw 0 0 7 false
  | .FILTER_CTL_VALID => mkRow 0x2008008 8 1048576 256 16 32 16 0 11 1 .cw 0 0 1 false
  | .FILTER_CTL_TAGS => mkRow 0x2008008 8 1048576 256 16 32 16 0 9 2 .cw 3 0 3 false
  | .FILTER_CTL_M_ETYPE => mkRow 0x2008008 8 1048576 256 16 32 16 0 8 1 .cw 0 0 1 false
  | .FILTER_CTL_M_OVID => mkRow 0x2008008 8 1048576 256 16 32 16 0 7 1 .cw 0 0 1 false
  | .FILTER_CTL_M_OPCP => mkRow 0x2008008 8 1048576 256 16 32 16 0 6 1 .cw 0 0 1 false
  | .FILTER_CTL_M_IVID => mkRow 0x2008008 8 1048576 256 16 32 16 0 5 1 .cw 0 0 1 false
  | .FILTER_CTL_M_IPCP => mkRow 0x2008008 8 1048576 256 16 32 16 0 4 1 .cw 0 0 1 false
  | .FILTER_CTL_CLASS => mkRow 0x2008008 8 1048576 256 16 32 16 0 0 4 .cw 0 0 15 false
  | .CLS_GEN_COPYING => mkRow 0x3000000 1 2097152 0 0 8 1 0 17 1 .ro 0 0 1 false
  | .CLS_GEN_PLANE => mkRow 0x3000000 1 2097152 0 0 8 1 0 16 1 .ro 0 0 1 false
  | .CLS_GEN_GEN => mkRow 0x3000000 1 2097152 0 0 8 1 0 0 16 .ro 0 0 65535 false
  | .PIPE_START_TYPE => mkRow 0x3000100 1 2097152 0 8 8 36 0 0 6 .cw 63 0 63 false
  | .EXC_CFG_QUEUE => mkRow 0x3100000 1 16 0 0 64 1 0 44 10 .cw 0 0 1023 false
  | .EXC_CFG_ORDERED => mkRow 0x3100000 1 16 0 0 64 1 0 43 1 .cw 0 0 1 false
  | .EXC_CFG_RATE => mkRow 0x3100000 1 16 0 0 64 1 0 16 24 .cw 10000 0 16777215 false
  | .EXC_CFG_BURST => mkRow 0x3100000 1 16 0 0 64 1 0 0 16 .cw 64 0 65535 false
  | .TBL_LPROF_EM_EN => mkRow 0x4000100 1 8 0 0 64 1 0 63 1 .cw 0 0 1 false
  | .TBL_LPROF_EM_OFF => mkRow 0x4000100 1 8 0 0 64 1 0 57 6 .cw 0 0 63 false
  | .TBL_LPROF_EM_TABLE => mkRow 0x4000100 1 8 0 0 64 1 0 49 8 .cw 0 0 255 false
  | .TBL_LPROF_LPM_EN => mkRow 0x4000100 1 8 0 0 64 1 0 48 1 .cw 0 0 1 false
  | .TBL_LPROF_LPM_V6 => mkRow 0x4000100 1 8 0 0 64 1 0 47 1 .cw 0 0 1 false
  | .TBL_LPROF_LPM_OFF => mkRow 0x4000100 1 8 0 0 64 1 0 41 6 .cw 0 0 63 false
  | .TBL_LPROF_VRF_SRC => mkRow 0x4000100 1 8 0 0 64 1 0 40 1 .cw 0 0 1 false
  | .TBL_LPROF_VRF => mkRow 0x4000100 1 8 0 0 64 1 0 26 14 .cw 0 0 16383 false
  | .TBL_LPROF_PREC => mkRow 0x4000100 1 8 0 0 64 1 0 25 1 .cw 0 0 1 false
  | .TBL_LPROF_LEARN_EN => mkRow 0x4000100 1 8 0 0 64 1 0 24 1 .cw 0 0 1 false
  | .TBL_LPROF_LEARN_OFF => mkRow 0x4000100 1 8 0 0 64 1 0 18 6 .cw 0 0 63 false
  | .TBL_LPROF_LEARN_TABLE => mkRow 0x4000100 1 8 0 0 64 1 0 10 8 .cw 0 0 255 false
  | .TBL_LPROF_MISS => mkRow 0x4000100 1 8 0 0 64 1 0 8 1 .cw 0 0 1 false
  | .TBL_LPROF_MISS_EXC => mkRow 0x4000100 1 8 0 0 64 1 0 2 6 .cw 8 8 63 false
  | .TBL_STATE_RESTORED => mkRow 0x4000000 1 0 0 0 1 1 0 39 1 .ro 0 0 1 false
  | .TBL_STATE_REBUILDING => mkRow 0x4000000 1 0 0 0 1 1 0 38 1 .ro 0 0 1 false
  | .TBL_STATE_FILTER_ALL_ONES => mkRow 0x4000000 1 0 0 0 1 1 0 37 1 .ro 0 0 1 false
  | .TBL_STATE_EXT_BUCKETS_LOG2 => mkRow 0x4000000 1 0 0 0 1 1 0 32 5 .ro 25 0 31 false
  | .TBL_STATE_GEN => mkRow 0x4000000 1 0 0 0 1 1 0 0 32 .ro 0 0 4294967295 false
  | .TBL_SNAP_WRITING => mkRow 0x4000008 1 0 0 0 1 1 0 33 1 .ro 0 0 1 false
  | .TBL_SNAP_COPY => mkRow 0x4000008 1 0 0 0 1 1 0 32 1 .ro 0 0 1 false
  | .TBL_SNAP_GEN => mkRow 0x4000008 1 0 0 0 1 1 0 0 32 .ro 0 0 4294967295 false
  | .TBL_LEARN_RING_HOLD_US => mkRow 0x4000010 1 0 0 0 1 1 0 32 16 .cw 1000 1 65535 false
  | .TBL_LEARN_RING_HEAD => mkRow 0x4000010 1 0 0 0 1 1 0 16 16 .rw 0 0 65535 false
  | .TBL_LEARN_RING_TAIL => mkRow 0x4000010 1 0 0 0 1 1 0 0 16 .ro 0 0 65535 false
  | .TBL_SMAC_MAC => mkRow 0x4000800 1 8 0 0 36 1 0 0 48 .cw 0 0 281474976710655 false
  | .SW_SPILL_GLOBAL_FREE => mkRow 0x5000010 1 0 0 0 1 1 0 32 21 .cw 131072 0 2097151 false
  | .SW_SPILL_QUEUE_CELLS => mkRow 0x5000010 1 0 0 0 1 1 0 0 32 .cw 64 0 4294967295 false
  | .SW_SHARED_FREE => mkRow 0x5000018 1 0 0 0 1 1 0 32 29 .ro 0 0 536870911 false
  | .SW_SHARED_RESERVE => mkRow 0x5000018 1 0 0 0 1 1 0 0 29 .cw 262144 0 536870911 false
  | .SW_DEST_ALLOC_DOWN_FLUSH_MS => mkRow 0x5000100 1 8 0 0 42 1 0 30 14 .cw 1000 1 10000 false
  | .SW_DEST_ALLOC_DOWN_ACTION => mkRow 0x5000100 1 8 0 0 42 1 0 29 1 .cw 0 0 1 false
  | .SW_DEST_ALLOC_SHARED_LIMIT => mkRow 0x5000100 1 8 0 0 42 1 0 0 29 .cw 1048576 0 536870911 false
  | .SW_DEST_STATE_FLUSHING => mkRow 0x5000400 1 8 0 0 42 1 0 30 1 .ro 0 0 1 false
  | .SW_DEST_STATE_DOWN_DROPPING => mkRow 0x5000400 1 8 0 0 42 1 0 29 1 .ro 0 0 1 false
  | .SW_DEST_STATE_SHARED_USED => mkRow 0x5000400 1 8 0 0 42 1 0 0 29 .ro 0 0 536870911 false
  | .SW_ING_LOSSLESS => mkRow 0x5001000 1 64 0 8 32 8 0 63 1 .cw 0 0 1 false
  | .SW_ING_PAUSE_CALL => mkRow 0x5001000 1 64 0 8 32 8 0 62 1 .ro 0 0 1 false
  | .SW_ING_HEADROOM => mkRow 0x5001000 1 64 0 8 32 8 0 42 20 .cw 512 0 1048575 false
  | .SW_ING_XOFF => mkRow 0x5001000 1 64 0 8 32 8 0 22 20 .cw 1024 0 1048575 false
  | .SW_ING_XON => mkRow 0x5001000 1 64 0 8 32 8 0 2 20 .cw 768 0 1048575 false
  | .SW_SAGE_HBM_POS => mkRow 0x5000800 1 0 0 0 1 1 0 29 29 .ro 0 0 536870911 false
  | .SW_SAGE_SRAM_POS => mkRow 0x5000800 1 0 0 0 1 1 0 9 20 .ro 0 0 1048575 false
  | .SW_SAGE_PAUSED => mkRow 0x5000800 1 0 0 0 1 1 0 1 1 .ro 0 0 1 false
  | .SW_SAGE_EN => mkRow 0x5000800 1 0 0 0 1 1 0 0 1 .cw 1 0 1 false
  | .BPM_POOL_CFG_BASE => mkRow 0x9000000 1 32 0 0 16 1 0 32 32 .cw 0 0 4294967295 false
  | .BPM_POOL_CFG_COUNT => mkRow 0x9000000 1 32 0 0 16 1 0 7 25 .cw 0 0 33554431 false
  | .BPM_POOL_CFG_FALLBACK => mkRow 0x9000000 1 32 0 0 16 1 0 2 5 .cw 31 0 31 false
  | .BPM_POOL_CFG_CLASS => mkRow 0x9000000 1 32 0 0 16 1 0 0 2 .cw 0 0 3 false
  | .BPM_POOL_STATUS_CACHED => mkRow 0x9000008 1 32 0 0 16 1 0 37 13 .ro 0 0 8191 false
  | .BPM_POOL_STATUS_FREE => mkRow 0x9000008 1 32 0 0 16 1 0 0 25 .ro 0 0 33554431 false
  | .BPM_STATUS_AUDITING => mkRow 0x9000400 1 0 0 0 1 1 0 48 1 .ro 0 0 1 false
  | .BPM_STATUS_AGE_ALARM_S => mkRow 0x9000400 1 0 0 0 1 1 0 32 16 .cw 60 1 65535 false
  | .BPM_STATUS_AUDIT_S => mkRow 0x9000400 1 0 0 0 1 1 0 16 16 .cw 0 0 65535 false
  | .BPM_STATUS_REGION_GIB => mkRow 0x9000400 1 0 0 0 1 1 0 0 3 .cw 2 1 4 false
  | .BPM_OWNER_IN_RESET => mkRow 0x9001000 1 8 0 0 128 1 0 25 1 .ro 0 0 1 false
  | .BPM_OWNER_OUT => mkRow 0x9001000 1 8 0 0 128 1 0 0 25 .ro 0 0 33554431 false
  | .SCHED_LEN_PROF_OVERHEAD => mkRow 0x6000100 1 8 0 0 16 1 0 0 7 .cw 0 0 127 false
  | .SCHED_DSCP_COLOUR => mkRow 0x6000200 1 8 0 0 2 32 2 0 2 .cw 0 0 3 false
  | .CIPH_STATUS_PN_FRESH => mkRow 0x7000000 1 0 0 0 1 1 0 8 4 .ro 0 0 15 false
  | .CIPH_STATUS_CLUSTERS_ON => mkRow 0x7000000 1 0 0 0 1 1 0 4 4 .ro 15 0 15 false
  | .CIPH_STATUS_PN_STORE_OK => mkRow 0x7000000 1 0 0 0 1 1 0 3 1 .ro 0 0 1 false
  | .CIPH_STATUS_CACHE_FLUSHING => mkRow 0x7000000 1 0 0 0 1 1 0 2 1 .ro 0 0 1 false
  | .CIPH_STATUS_ROOT_STATE => mkRow 0x7000000 1 0 0 0 1 1 0 0 2 .ro 0 0 3 false
  | .CIPH_LINE_CFG_SECRET_VALID => mkRow 0x7000100 1 64 0 0 4 1 0 15 1 .ro 0 0 1 false
  | .CIPH_LINE_CFG_REPLAY_EN => mkRow 0x7000100 1 64 0 0 4 1 0 14 1 .cw 1 0 1 false
  | .CIPH_LINE_CFG_UP_KEY => mkRow 0x7000100 1 64 0 0 4 1 0 12 2 .cw 0 0 3 false
  | .CIPH_LINE_CFG_UP_VALID => mkRow 0x7000100 1 64 0 0 4 1 0 8 4 .cw 0 0 15 false
  | .CIPH_LINE_CFG_BC_VALID => mkRow 0x7000100 1 64 0 0 4 1 0 4 4 .cw 0 0 15 false
  | .CIPH_LINE_CFG_DN_VALID => mkRow 0x7000100 1 64 0 0 4 1 0 0 4 .cw 0 0 15 false
  | .CIPH_LINE_KEYID_KEY_ID => mkRow 0x7000108 1 64 0 8 4 4 0 0 64 .cw 0 0 18446744073709551615 false
  | .CIPH_LINE_UP_ENC_AID_MASK => mkRow 0x7000128 1 64 0 0 4 1 0 0 64 .cw 0 0 18446744073709551615 false
  | .CIPH_LINE_PN_NEXT_PN => mkRow 0x7000130 1 64 0 0 4 1 0 0 64 .ro 1 0 18446744073709551615 false
  | .CIPH_LINE_PN_MARK_MARK => mkRow 0x7000138 1 64 0 0 4 1 0 0 64 .ro 0 0 18446744073709551615 false
  | .CIPH_PAGE_SLOTS_USED => mkRow 0x7001000 1 8 0 0 33 1 0 41 9 .ro 0 0 511 false
  | .CIPH_PAGE_INBAND_EN => mkRow 0x7001000 1 8 0 0 33 1 0 40 1 .cw 0 0 1 false
  | .CIPH_PAGE_INBAND_SLOT => mkRow 0x7001000 1 8 0 0 33 1 0 32 8 .cw 0 0 255 false
  | .CIPH_PAGE_GEN => mkRow 0x7001000 1 8 0 0 33 1 0 0 32 .ro 0 0 4294967295 false
  | .CORE_WQ_CFG_ENABLE => mkRow 0x8008000 1 16 0 0 1024 1 0 63 1 .cw 0 0 1 false
  | .CORE_WQ_CFG_PRIORITY => mkRow 0x8008000 1 16 0 0 1024 1 0 59 4 .cw 0 0 15 false
  | .CORE_WQ_CFG_SUBMIT_FN => mkRow 0x8008000 1 16 0 0 1024 1 0 53 6 .cw 63 0 63 false
  | .CORE_WQ_CFG_MAX_ITEMS => mkRow 0x8008000 1 16 0 0 1024 1 0 39 14 .cw 256 1 8192 false
  | .CORE_WQ_CFG_GROUPS => mkRow 0x8008000 1 16 0 0 1024 1 0 31 8 .cw 255 0 255 false
  | .CORE_WQ_CFG_PREEMPTIBLE => mkRow 0x8008000 1 16 0 0 1024 1 0 30 1 .cw 0 0 1 false
  | .CORE_WQ_CFG_ORDER_INTERNAL => mkRow 0x8008000 1 16 0 0 1024 1 0 29 1 .cw 0 0 1 false
  | .CORE_WQ_STATE_RUNNING => mkRow 0x8008008 1 16 0 0 1024 1 0 14 14 .ro 0 0 16383 false
  | .CORE_WQ_STATE_WAITING => mkRow 0x8008008 1 16 0 0 1024 1 0 0 14 .ro 0 0 16383 false
  | .CORE_CPU_SERVICE => mkRow 0x8000100 1 8 0 0 68 1 0 32 16 .ro 0 0 65535 false
  | .CORE_CPU_QUEUE => mkRow 0x8000100 1 8 0 0 68 1 0 22 10 .ro 0 0 1023 false
  | .CORE_CPU_PRIORITY => mkRow 0x8000100 1 8 0 0 68 1 0 18 4 .ro 0 0 15 false
  | .CORE_CPU_LOCKS_HELD => mkRow 0x8000100 1 8 0 0 68 1 0 3 1 .ro 0 0 1 false
  | .CORE_CPU_STATE => mkRow 0x8000100 1 8 0 0 68 1 0 0 3 .ro 0 0 7 false
  | .CORE_STATUS_INTERNAL => mkRow 0x8000000 1 0 0 0 1 1 0 16 14 .ro 0 0 16383 false
  | .CORE_STATUS_IN_FLIGHT => mkRow 0x8000000 1 0 0 0 1 1 0 0 14 .ro 0 0 16383 false
  | .CORE_RUN_LIMIT_US_LIMIT => mkRow 0x8000008 1 0 0 0 1 1 0 0 24 .cw 10000 1 16000000 false
  | .CORE_FN_SUB_TAIL => mkRow 0x8010000 1 64 0 0 32 1 0 0 16 .rw 0 0 65535 false
  | .CORE_FN_SUB_HEAD => mkRow 0x8010008 1 64 0 0 32 1 0 0 16 .ro 0 0 65535 false
  | .CORE_FN_RES_IRQ_EN => mkRow 0x8010010 1 64 0 0 32 1 0 16 1 .cw 0 0 1 false
  | .CORE_FN_RES_TAIL => mkRow 0x8010010 1 64 0 0 32 1 0 0 16 .ro 0 0 65535 false
  | .CORE_FN_RES_HEAD => mkRow 0x8010018 1 64 0 0 32 1 0 0 16 .rw 0 0 65535 false
  | .CORE_FN_FLOW_COUNT => mkRow 0x8010020 1 64 0 0 32 1 0 32 32 .cw 0 0 4294967295 false
  | .CORE_FN_FLOW_BASE => mkRow 0x8010020 1 64 0 0 32 1 0 0 16 .cw 0 0 65535 false
  | .CORE_LOCK_WAITERS => mkRow 0x8020000 1 8 0 0 1024 1 0 16 11 .ro 0 0 2047 false
  | .CORE_LOCK_HOLDER => mkRow 0x8020000 1 8 0 0 1024 1 0 9 7 .ro 0 0 127 false
  | .CORE_LOCK_ABANDONED => mkRow 0x8020000 1 8 0 0 1024 1 0 1 1 .ro 0 0 1 false
  | .CORE_LOCK_HELD => mkRow 0x8020000 1 8 0 0 1024 1 0 0 1 .ro 0 0 1 false
  | .CMD_FN_SUB_BASE => mkRow 0x301000 1 64 0 0 32 1 0 12 52 .rw 0 0 4503599627370495 false
  | .CMD_FN_SUB_SIZE_LOG2 => mkRow 0x301000 1 64 0 0 32 1 0 0 4 .rw 4 4 12 false
  | .CMD_FN_CPL_BASE => mkRow 0x301008 1 64 0 0 32 1 0 12 52 .rw 0 0 4503599627370495 false
  | .CMD_FN_CPL_SIZE_LOG2 => mkRow 0x301008 1 64 0 0 32 1 0 0 4 .rw 4 4 12 false
  | .CMD_FN_FAULT => mkRow 0x301010 1 64 0 0 32 1 0 3 1 .w1c 0 0 1 false
  | .CMD_FN_CPL_IRQ_EN => mkRow 0x301010 1 64 0 0 32 1 0 2 1 .rw 0 0 1 false
  | .CMD_FN_BUSY => mkRow 0x301010 1 64 0 0 32 1 0 1 1 .ro 0 0 1 false
  | .CMD_FN_ENABLE => mkRow 0x301010 1 64 0 0 32 1 0 0 1 .rw 0 0 1 false
  | .CMD_FN_SUB_HEAD => mkRow 0x301018 1 64 0 0 32 1 0 16 16 .ro 0 0 65535 false
  | .CMD_FN_SUB_TAIL => mkRow 0x301018 1 64 0 0 32 1 0 0 16 .rw 0 0 65535 false
  | .CMD_FN_CPL_TAIL => mkRow 0x301020 1 64 0 0 32 1 0 16 16 .ro 0 0 65535 false
  | .CMD_FN_CPL_HEAD => mkRow 0x301020 1 64 0 0 32 1 0 0 16 .rw 0 0 65535 false
  | .CMD_FN_INBAND_TAG => mkRow 0x301028 1 64 0 0 32 1 0 0 32 .ro 0 0 4294967295 false
  | .CMD_WIN_BASE => mkRow 0x304000 1 128 0 16 32 8 0 12 52 .cw 0 0 4503599627370495 false
  | .CMD_WIN_VALID => mkRow 0x304000 1 128 0 16 32 8 0 2 1 .cw 0 0 1 false
  | .CMD_WIN_WRITE => mkRow 0x304000 1 128 0 16 32 8 0 1 1 .cw 0 0 1 false
  | .CMD_WIN_READ => mkRow 0x304000 1 128 0 16 32 8 0 0 1 .cw 0 0 1 false
  | .CMD_WIN_LAST => mkRow 0x304008 1 128 0 16 32 8 0 12 52 .cw 0 0 4503599627370495 false
  | .CMD_WIN_GEN_GEN => mkRow 0x303000 1 8 0 0 32 1 0 0 32 .ro 0 0 4294967295 false
  | .CMD_INBAND_CLASS => mkRow 0x300100 1 0 0 0 1 1 0 48 3 .cw 7 0 7 false
  | .CMD_INBAND_MAC => mkRow 0x300100 1 0 0 0 1 1 0 0 48 .cw 0 0 281474976710655 false
  | .CMD_PEER_CFG_FAMILY_MASK => mkRow 0x300200 1 0 0 0 1 1 0 19 16 .cw 3840 0 65535 false
  | .CMD_PEER_CFG_PARTNER_RID => mkRow 0x300200 1 0 0 0 1 1 0 3 16 .cw 0 0 65535 false
  | .CMD_PEER_CFG_APPLY => mkRow 0x300200 1 0 0 0 1 1 0 2 1 .cw 0 0 1 false
  | .CMD_PEER_CFG_ROLE => mkRow 0x300200 1 0 0 0 1 1 0 1 1 .cw 0 0 1 false
  | .CMD_PEER_CFG_ENABLE => mkRow 0x300200 1 0 0 0 1 1 0 0 1 .cw 0 0 1 false
  | .CMD_PEER_STATUS_DESYNC => mkRow 0x300208 1 0 0 0 1 1 0 1 1 .ro 0 0 1 false
  | .CMD_PEER_STATUS_PARTNER_OK => mkRow 0x300208 1 0 0 0 1 1 0 0 1 .ro 0 0 1 false
  | .CMD_PEER_RX_RX_TAIL => mkRow 0x300210 1 0 0 0 1 1 0 32 32 .rw 0 0 4294967295 false
  | .CMD_PEER_RX_RX_HEAD => mkRow 0x300210 1 0 0 0 1 1 0 0 32 .ro 0 0 4294967295 false
  | .CMD_PEER_ADDR_PARTNER_BAR0 => mkRow 0x300218 1 0 0 0 1 1 0 0 64 .cw 0 0 18446744073709551615 false
  | .SYS_BOOT_READY_MS => mkRow 0x100 1 0 0 0 1 1 0 32 16 .ro 0 0 65535 false
  | .SYS_BOOT_PHASE => mkRow 0x100 1 0 0 0 1 1 0 16 8 .ro 0 0 255 false
  | .SYS_BOOT_CAUSE => mkRow 0x100 1 0 0 0 1 1 0 12 4 .ro 0 0 15 false
  | .SYS_BOOT_RESCUE_REASON => mkRow 0x100 1 0 0 0 1 1 0 8 4 .ro 0 0 15 false
  | .SYS_BOOT_SLOT => mkRow 0x100 1 0 0 0 1 1 0 2 1 .ro 0 0 1 false
  | .SYS_BOOT_KIND => mkRow 0x100 1 0 0 0 1 1 0 0 2 .ro 0 0 3 false
  | .SYS_FUSE_STATUS_BAND => mkRow 0x108 1 0 0 0 1 1 0 16 8 .ro 0 0 255 false
  | .SYS_FUSE_STATUS_DOUBTFUL => mkRow 0x108 1 0 0 0 1 1 0 8 8 .ro 0 0 255 false
  | .SYS_FUSE_STATUS_CLASS_DOUBT => mkRow 0x108 1 0 0 0 1 1 0 1 7 .ro 0 0 127 false
  | .SYS_FUSE_STATUS_DONE => mkRow 0x108 1 0 0 0 1 1 0 0 1 .ro 0 0 1 false
  | .SYS_FUSE_VALUE => mkRow 0x200 1 8 0 0 512 1 0 0 32 .ro 0 0 4294967295 false
  | .SYS_FUSE_DOUBT_WORDS => mkRow 0x1200 1 8 0 0 8 1 0 0 64 .ro 0 0 18446744073709551615 false
  | .STORE_STATUS_SPARE_MIN => mkRow 0x200000 1 0 0 0 1 1 0 32 8 .ro 0 0 255 false
  | .STORE_STATUS_PFAIL_HOLD => mkRow 0x200000 1 0 0 0 1 1 0 22 1 .ro 0 0 1 false
  | .STORE_STATUS_SCRUBBING => mkRow 0x200000 1 0 0 0 1 1 0 21 1 .ro 0 0 1 false
  | .STORE_STATUS_OPEN => mkRow 0x200000 1 0 0 0 1 1 0 20 1 .ro 0 0 1 false
  | .STORE_STATUS_PRESENT => mkRow 0x200000 1 0 0 0 1 1 0 16 4 .ro 0 0 15 false
  | .STORE_STATUS_BLOCKS => mkRow 0x200000 1 0 0 0 1 1 0 0 16 .ro 0 0 65535 false
  | .STORE_ANCHOR_SEQ => mkRow 0x200008 1 0 0 0 1 1 0 16 48 .ro 0 0 281474976710655 false
  | .STORE_ANCHOR_TRIAL_COUNT => mkRow 0x200008 1 0 0 0 1 1 0 6 2 .ro 0 0 3 false
  | .STORE_ANCHOR_VERIFIED => mkRow 0x200008 1 0 0 0 1 1 0 5 1 .ro 0 0 1 false
  | .STORE_ANCHOR_DOWNLOADING => mkRow 0x200008 1 0 0 0 1 1 0 4 1 .ro 0 0 1 false
  | .STORE_ANCHOR_FALLBACK_VALID => mkRow 0x200008 1 0 0 0 1 1 0 3 1 .ro 0 0 1 false
  | .STORE_ANCHOR_TRIAL => mkRow 0x200008 1 0 0 0 1 1 0 2 1 .ro 0 0 1 false
  | .STORE_ANCHOR_BOOT_SLOT => mkRow 0x200008 1 0 0 0 1 1 0 0 1 .ro 0 0 1 false
  | .STORE_DOWNLOAD_BYTES => mkRow 0x200010 1 0 0 0 1 1 0 0 27 .ro 0 0 134217727 false
  | .STORE_DEV_ERASE_MAX => mkRow 0x200100 1 8 0 0 4 1 0 48 16 .ro 0 0 65535 false
  | .STORE_DEV_ERASE_MIN => mkRow 0x200100 1 8 0 0 4 1 0 32 16 .ro 0 0 65535 false
  | .STORE_DEV_RETIRED => mkRow 0x200100 1 8 0 0 4 1 0 16 16 .ro 0 0 65535 false
  | .STORE_DEV_SPARE => mkRow 0x200100 1 8 0 0 4 1 0 0 16 .ro 0 0 65535 false
  | .PWR_STATE_PFAIL => mkRow 0x100000 1 0 0 0 1 1 0 15 1 .ro 0 0 1 false
  | .PWR_STATE_PELDEL_OFF => mkRow 0x100000 1 0 0 0 1 1 0 14 1 .cw 1 0 1 false
  | .PWR_STATE_LAST_WAKE => mkRow 0x100000 1 0 0 0 1 1 0 11 3 .ro 0 0 7 false
  | .PWR_STATE_PHASE => mkRow 0x100000 1 0 0 0 1 1 0 4 4 .ro 0 0 15 false
  | .PWR_STATE_STATE => mkRow 0x100000 1 0 0 0 1 1 0 0 3 .ro 2 0 7 false
  | .PWR_MODE_CHANGING => mkRow 0x100008 1 0 0 0 1 1 0 8 1 .ro 0 0 1 false
  | .PWR_MODE_PENDING_VALID => mkRow 0x100008 1 0 0 0 1 1 0 7 1 .ro 0 0 1 false
  | .PWR_MODE_PENDING => mkRow 0x100008 1 0 0 0 1 1 0 4 3 .ro 0 0 7 false
  | .PWR_MODE_CURRENT => mkRow 0x100008 1 0 0 0 1 1 0 0 3 .ro 1 0 7 false
  | .PWR_IDLE_IDLE_EN => mkRow 0x100010 1 0 0 0 1 1 0 28 1 .cw 0 0 1 false
  | .PWR_IDLE_STANDBY_MODES => mkRow 0x100010 1 0 0 0 1 1 0 22 6 .cw 16 0 63 false
  | .PWR_IDLE_DEVICE_MS => mkRow 0x100010 1 0 0 0 1 1 0 0 22 .cw 60000 1 3600000 false
  | .PWR_WAKE_AT_S => mkRow 0x100018 1 0 0 0 1 1 0 16 48 .cw 0 0 281474976710655 false
  | .PWR_WAKE_ENABLE => mkRow 0x100018 1 0 0 0 1 1 0 0 7 .cw 63 0 127 false
  | .PWR_DVFS_REQUEST => mkRow 0x100020 1 0 0 0 1 1 0 8 4 .cw 15 0 15 false
  | .PWR_DVFS_THROTTLED => mkRow 0x100020 1 0 0 0 1 1 0 7 1 .ro 0 0 1 false
  | .PWR_DVFS_TRANSITION => mkRow 0x100020 1 0 0 0 1 1 0 6 1 .ro 0 0 1 false
  | .PWR_DVFS_TARGET => mkRow 0x100020 1 0 0 0 1 1 0 4 2 .ro 3 0 3 false
  | .PWR_DVFS_POINT => mkRow 0x100020 1 0 0 0 1 1 0 0 2 .ro 3 0 3 false
  | .PWR_PMBUS_SETTLE_US => mkRow 0x100028 1 0 0 0 1 1 0 16 8 .cw 20 1 255 false
  | .PWR_PMBUS_BUS_OK => mkRow 0x100028 1 0 0 0 1 1 0 8 1 .ro 1 0 1 false
  | .PWR_PMBUS_VCORE_ADDR => mkRow 0x100028 1 0 0 0 1 1 0 0 7 .cw 64 0 127 false
  | .PWR_CLK_LOCKED => mkRow 0x100030 1 0 0 0 1 1 0 8 8 .ro 0 0 255 false
  | .PWR_CLK_DCLK_RECOVERED => mkRow 0x100030 1 0 0 0 1 1 0 4 4 .ro 0 0 15 false
  | .PWR_CLK_LCLK_LOCKED => mkRow 0x100030 1 0 0 0 1 1 0 0 4 .ro 0 0 15 false
  | .PWR_DOZE_DOZING => mkRow 0x100100 1 8 0 0 23 1 0 21 1 .ro 0 0 1 false
  | .PWR_DOZE_DOZE_EN => mkRow 0x100100 1 8 0 0 23 1 0 20 1 .cw 0 0 1 false
  | .PWR_DOZE_TIMER_US => mkRow 0x100100 1 8 0 0 23 1 0 0 20 .cw 0 1 1000000 false
  | .PWR_RAIL_ADDR => mkRow 0x100200 1 8 0 0 10 1 0 48 7 .cw 0 0 127 false
  | .PWR_RAIL_TEMP => mkRow 0x100200 1 8 0 0 10 1 0 32 16 .ro 0 0 65535 false
  | .PWR_RAIL_CURRENT => mkRow 0x100200 1 8 0 0 10 1 0 16 16 .ro 0 0 65535 false
  | .PWR_RAIL_VOLTAGE => mkRow 0x100200 1 8 0 0 10 1 0 0 16 .ro 0 0 65535 false
  | .FLT_STATUS_L3_SOURCE => mkRow 0x400000 1 0 0 0 1 1 0 24 16 .ro 0 0 65535 false
  | .FLT_STATUS_SUMMARY => mkRow 0x400000 1 0 0 0 1 1 0 18 1 .ro 0 0 1 false
  | .FLT_STATUS_FULL => mkRow 0x400000 1 0 0 0 1 1 0 17 1 .ro 0 0 1 false
  | .FLT_STATUS_USED => mkRow 0x400000 1 0 0 0 1 1 0 4 13 .ro 0 0 8191 false
  | .FLT_STATUS_WINDOW_FAULTS => mkRow 0x400000 1 0 0 0 1 1 0 2 2 .ro 0 0 3 false
  | .FLT_STATUS_WINDOW_OPEN => mkRow 0x400000 1 0 0 0 1 1 0 1 1 .ro 0 0 1 false
  | .FLT_STATUS_SAFE => mkRow 0x400000 1 0 0 0 1 1 0 0 1 .ro 0 0 1 false
  | .FLT_CFG_IRQ_EN => mkRow 0x400008 1 0 0 0 1 1 0 56 1 .cw 0 0 1 false
  | .FLT_CFG_CORR_PER_S => mkRow 0x400008 1 0 0 0 1 1 0 32 24 .cw 1000000 1 16777215 false
  | .FLT_CFG_WINDOW_MS => mkRow 0x400008 1 0 0 0 1 1 0 22 10 .cw 100 1 1000 false
  | .FLT_CFG_LF_HOLD_MS => mkRow 0x400008 1 0 0 0 1 1 0 8 14 .cw 1000 0 10000 false
  | .FLT_CFG_TEMP_WARN => mkRow 0x400008 1 0 0 0 1 1 0 0 8 .cw 115 0 125 false
  | .FLT_ACTION_DEFAULT => mkRow 0x400100 1 8 0 0 16 1 0 2 2 .ro 0 0 3 false
  | .FLT_ACTION_LEVEL => mkRow 0x400100 1 8 0 0 16 1 0 0 2 .cw 0 0 3 false
  | .FLT_RECOVERY_LAST_SOURCE => mkRow 0x400200 1 8 0 0 27 1 0 32 16 .ro 0 0 65535 false
  | .FLT_RECOVERY_LAST_US => mkRow 0x400200 1 8 0 0 27 1 0 8 24 .ro 0 0 16777215 false
  | .FLT_RECOVERY_HELD => mkRow 0x400200 1 8 0 0 27 1 0 2 1 .ro 0 0 1 false
  | .FLT_RECOVERY_LEVEL => mkRow 0x400200 1 8 0 0 27 1 0 0 2 .ro 0 0 3 false
  | .EVT_NEXT_SEQ_SEQ => mkRow 0x408000 1 0 0 0 1 1 0 0 64 .ro 0 0 18446744073709551615 false
  | .EVT_OLDEST_SEQ_SEQ => mkRow 0x408010 1 0 0 0 1 1 0 0 64 .ro 0 0 18446744073709551615 false
  | .EVT_STATUS_RUNNING => mkRow 0x408008 1 0 0 0 1 1 0 32 1 .ro 0 0 1 false
  | .EVT_STATUS_PERMANENT_FULL => mkRow 0x408008 1 0 0 0 1 1 0 31 1 .ro 0 0 1 false
  | .EVT_STATUS_BUFFERED => mkRow 0x408008 1 0 0 0 1 1 0 0 17 .ro 0 0 131071 false
  | .EVT_NOTIFY_IRQ_EN => mkRow 0x408018 1 0 0 0 1 1 0 33 1 .cw 0 0 1 false
  | .EVT_NOTIFY_COUNT => mkRow 0x408018 1 0 0 0 1 1 0 21 12 .cw 64 1 2048 false
  | .EVT_NOTIFY_US => mkRow 0x408018 1 0 0 0 1 1 0 0 21 .cw 10000 1 1000000 false
  | .TEST_STATUS_INJECT_ARMED => mkRow 0xa000000 1 0 0 0 1 1 0 9 4 .ro 0 0 15 false
  | .TEST_STATUS_PERTURB_ON => mkRow 0xa000000 1 0 0 0 1 1 0 5 4 .ro 0 0 15 false
  | .TEST_STATUS_MAINT => mkRow 0xa000000 1 0 0 0 1 1 0 0 1 .ro 0 0 1 false
  | .TEST_LOOP_LINE_LINE_DIGITAL => mkRow 0xa000008 1 0 0 0 1 1 0 4 4 .cw 0 0 15 false
  | .TEST_LOOP_LINE_LINE_ELEC => mkRow 0xa000008 1 0 0 0 1 1 0 0 4 .cw 0 0 15 false
  | .TEST_LOOP_LANE_MAC => mkRow 0xa000010 1 8 0 0 4 1 0 24 8 .cw 0 0 255 false
  | .TEST_LOOP_LANE_PCS => mkRow 0xa000010 1 8 0 0 4 1 0 16 8 .cw 0 0 255 false
  | .TEST_LOOP_LANE_PMA_FAR => mkRow 0xa000010 1 8 0 0 4 1 0 8 8 .cw 0 0 255 false
  | .TEST_LOOP_LANE_PMA_NEAR => mkRow 0xa000010 1 8 0 0 4 1 0 0 8 .cw 0 0 255 false
  | .TEST_GEN_RUN => mkRow 0xa001000 1 64 0 0 8 1 0 63 1 .cw 0 0 1 false
  | .TEST_GEN_PATTERN => mkRow 0xa001000 1 64 0 0 8 1 0 61 2 .cw 0 0 2 false
  | .TEST_GEN_SLOT => mkRow 0xa001000 1 64 0 0 8 1 0 55 6 .cw 0 0 35 false
  | .TEST_GEN_POINT => mkRow 0xa001000 1 64 0 0 8 1 0 54 1 .cw 0 0 1 false
  | .TEST_GEN_LEN_MIN => mkRow 0xa001000 1 64 0 0 8 1 0 40 14 .cw 60 60 9212 false
  | .TEST_GEN_LEN_MAX => mkRow 0xa001000 1 64 0 0 8 1 0 26 14 .cw 60 60 9212 false
  | .TEST_GEN_FILL => mkRow 0xa001000 1 64 0 0 8 1 0 18 8 .cw 0 0 255 false
  | .TEST_GEN_CLASS => mkRow 0xa001000 1 64 0 0 8 1 0 15 3 .cw 0 0 7 false
  | .TEST_GEN_RATE => mkRow 0xa001008 1 64 0 0 8 1 0 32 32 .cw 0 0 4294967295 false
  | .TEST_GEN_COUNT => mkRow 0xa001008 1 64 0 0 8 1 0 0 32 .cw 0 0 4294967295 false
  | .TEST_GEN_ETYPE => mkRow 0xa001010 1 64 0 0 8 1 0 48 16 .cw 0 0 65535 false
  | .TEST_GEN_DMAC => mkRow 0xa001010 1 64 0 0 8 1 0 0 48 .cw 0 0 281474976710655 false
  | .TEST_GEN_SENT => mkRow 0xa001018 1 64 0 0 8 1 0 0 64 .ro 0 0 18446744073709551615 false
  | .TEST_CHK_RUN => mkRow 0xa001400 1 64 0 0 8 1 0 26 1 .cw 0 0 1 false
  | .TEST_CHK_SLOT => mkRow 0xa001400 1 64 0 0 8 1 0 20 6 .cw 0 0 35 false
  | .TEST_CHK_POINT => mkRow 0xa001400 1 64 0 0 8 1 0 19 1 .cw 0 0 1 false
  | .TEST_CHK_GEN => mkRow 0xa001400 1 64 0 0 8 1 0 16 3 .cw 0 0 7 false
  | .TEST_CHK_ETYPE => mkRow 0xa001400 1 64 0 0 8 1 0 0 16 .cw 0 0 65535 false
  | .TEST_CHK_FRAMES => mkRow 0xa001408 1 64 0 0 8 1 0 0 64 .ro 0 0 18446744073709551615 false
  | .TEST_CHK_BYTES => mkRow 0xa001410 1 64 0 0 8 1 0 0 64 .ro 0 0 18446744073709551615 false
  | .TEST_CHK_LOST => mkRow 0xa001418 1 64 0 0 8 1 0 0 64 .ro 0 0 18446744073709551615 false
  | .TEST_CHK_REORDER => mkRow 0xa001420 1 64 0 0 8 1 0 0 64 .ro 0 0 18446744073709551615 false
  | .TEST_CHK_PAYLOAD_ERR => mkRow 0xa001428 1 64 0 0 8 1 0 0 64 .ro 0 0 18446744073709551615 false
  | .TEST_PERTURB_ON => mkRow 0xa002000 1 8 0 0 4 1 0 63 1 .ro 0 0 1 false
  | .TEST_PERTURB_PROB => mkRow 0xa002000 1 8 0 0 4 1 0 48 8 .cw 0 0 255 false
  | .TEST_PERTURB_TARGET => mkRow 0xa002000 1 8 0 0 4 1 0 32 16 .cw 0 0 65535 false
  | .TEST_PERTURB_VALUE => mkRow 0xa002000 1 8 0 0 4 1 0 16 16 .cw 0 0 65535 false
  | .TEST_PERTURB_DURATION_MS => mkRow 0xa002000 1 8 0 0 4 1 0 0 16 .ro 0 0 65535 false
  | .TEST_INJECT_TARGET => mkRow 0xa002100 1 8 0 0 4 1 0 48 16 .cw 0 0 65535 false
  | .TEST_INJECT_BITS => mkRow 0xa002100 1 8 0 0 4 1 0 40 8 .cw 0 0 255 false
  | .TEST_INJECT_REMAINING => mkRow 0xa002100 1 8 0 0 4 1 0 0 16 .ro 0 0 65535 false
  | .TEST_INJECTED_COUNT => mkRow 0xa002200 1 8 0 0 4 1 0 0 64 .ro 0 0 18446744073709551615 false
  | .SYS_STRAPS_PWR_GOOD_PIN => mkRow 0x180 1 0 0 0 1 1 0 5 1 .ro 0 0 1 false
  | .SYS_STRAPS_PFAIL_PIN => mkRow 0x180 1 0 0 0 1 1 0 4 1 .ro 0 0 1 false
  | .SYS_STRAPS_MFG_TEST => mkRow 0x180 1 0 0 0 1 1 0 3 1 .ro 0 0 1 false
  | .SYS_STRAPS_ADDR => mkRow 0x180 1 0 0 0 1 1 0 0 3 .ro 0 0 7 false
  | .SYS_ID_PART => mkRow 0x0 1 0 0 0 1 1 0 48 16 .ro 4736 0 65535 false
  | .SYS_ID_STEP => mkRow 0x0 1 0 0 0 1 1 0 40 8 .ro 177 0 255 false
  | .SYS_ID_SEC_VERSION => mkRow 0x0 1 0 0 0 1 1 0 32 8 .ro 0 0 255 false
  | .SYS_ID_IDCODE => mkRow 0x0 1 0 0 0 1 1 0 0 32 .ro 287835467 0 4294967295 false
  | .SYS_DEVICE_ID_ID => mkRow 0x8 1 0 0 0 1 1 0 0 64 .ro 0 0 18446744073709551615 false
  | .SYS_IMAGE_MAJOR => mkRow 0x10 1 0 0 0 1 1 0 48 16 .ro 0 0 65535 false
  | .SYS_IMAGE_MINOR => mkRow 0x10 1 0 0 0 1 1 0 32 16 .ro 0 0 65535 false
  | .SYS_IMAGE_BUILD => mkRow 0x10 1 0 0 0 1 1 0 0 32 .ro 0 0 4294967295 false
  | .SYS_DEFS_DEFINITIONS => mkRow 0x18 1 0 0 0 1 1 0 16 16 .ro 6144 0 65535 false
  | .SYS_DEFS_LAYOUT => mkRow 0x18 1 0 0 0 1 1 0 0 16 .ro 1 0 65535 false

/-- The counters' addresses (the counter tables of the chapters). -/
def Ctr.row : Ctr → CtrRow
  | .LSC_CW_OK => ⟨0x1001000, 1, 4194304, 0, 256, 4, 16⟩
  | .LSC_CW_CORR => ⟨0x1001008, 1, 4194304, 0, 256, 4, 16⟩
  | .LSC_RS_SYM_CORR => ⟨0x1001010, 1, 4194304, 0, 256, 4, 16⟩
  | .LSC_CW_UNCORR => ⟨0x1001018, 1, 4194304, 0, 256, 4, 16⟩
  | .LSC_TRELLIS_CORR => ⟨0x1001020, 1, 4194304, 0, 256, 4, 16⟩
  | .LSC_CW_SUSPECT => ⟨0x1001028, 1, 4194304, 0, 256, 4, 16⟩
  | .LSC_SYM_SETTLE => ⟨0x1001030, 1, 4194304, 0, 256, 4, 16⟩
  | .LSC_SETTLE_DISCARD => ⟨0x1001038, 1, 4194304, 0, 256, 4, 16⟩
  | .LSC_HDR_FIT => ⟨0x1001040, 1, 4194304, 0, 256, 4, 16⟩
  | .LSC_HDR_MISFIT => ⟨0x1001048, 1, 4194304, 0, 256, 4, 16⟩
  | .LSC_SYNC_LOSS => ⟨0x1001050, 1, 4194304, 0, 256, 4, 16⟩
  | .LSC_FF_LOST => ⟨0x1001058, 1, 4194304, 0, 256, 4, 16⟩
  | .LSC_ENV_OWN => ⟨0x1001060, 1, 4194304, 0, 256, 4, 16⟩
  | .LSC_ENV_OTHER => ⟨0x1001068, 1, 4194304, 0, 256, 4, 16⟩
  | .LSC_ENV_HEC_ERR => ⟨0x1001070, 1, 4194304, 0, 256, 4, 16⟩
  | .LSC_ENV_HUNT_BYTES => ⟨0x1001078, 1, 4194304, 0, 256, 4, 16⟩
  | .LSC_ENV_FAILED => ⟨0x1001080, 1, 4194304, 0, 256, 4, 16⟩
  | .LSC_GRANT_BADCHECK => ⟨0x1001088, 1, 4194304, 0, 256, 4, 16⟩
  | .LSC_MSG_BADCHECK => ⟨0x1001090, 1, 4194304, 0, 256, 4, 16⟩
  | .LSC_JUST_ERR => ⟨0x1001098, 1, 4194304, 0, 256, 4, 16⟩
  | .LSC_TRIB_NOSLOT => ⟨0x10010a0, 1, 4194304, 0, 256, 4, 16⟩
  | .LSC_FMT_UNANNOUNCED => ⟨0x10010a8, 1, 4194304, 0, 256, 4, 16⟩
  | .LP_LOS_COUNT => ⟨0x1002000, 1, 4194304, 0, 0, 4, 1⟩
  | .LP_RELEVEL_COUNT => ⟨0x1002008, 1, 4194304, 0, 0, 4, 1⟩
  | .LP_FT_SENT => ⟨0x1002010, 1, 4194304, 0, 0, 4, 1⟩
  | .LP_BUS_ERR => ⟨0x1002018, 1, 4194304, 0, 0, 4, 1⟩
  | .LP_GRANT_UNLOCKED => ⟨0x1002020, 1, 4194304, 0, 0, 4, 1⟩
  | .LP_GRANT_BADPROF => ⟨0x1002028, 1, 4194304, 0, 0, 4, 1⟩
  | .LP_CAP_MISSED => ⟨0x1002030, 1, 4194304, 0, 0, 4, 1⟩
  | .LP_DIR_BADCHECK => ⟨0x1002038, 1, 4194304, 0, 0, 4, 1⟩
  | .LP_MSG_OVERFLOW => ⟨0x1002040, 1, 4194304, 0, 0, 4, 1⟩
  | .LP_PAGE_MISMATCH => ⟨0x1002048, 1, 4194304, 0, 0, 4, 1⟩
  | .LP_ABORT_RX => ⟨0x1002050, 1, 4194304, 0, 0, 4, 1⟩
  | .LP_OH_LOST => ⟨0x1002058, 1, 4194304, 0, 0, 4, 1⟩
  | .LP_OH_DROP => ⟨0x1002060, 1, 4194304, 0, 0, 4, 1⟩
  | .LP_TRIB_SHORT => ⟨0x1002068, 1, 4194304, 0, 0, 4, 1⟩
  | .LP_TRIB_OVERFLOW => ⟨0x1002070, 1, 4194304, 0, 0, 4, 1⟩
  | .LP_BURSTS_SENT => ⟨0x1002078, 1, 4194304, 0, 0, 4, 1⟩
  | .LP_GRANT_OVERRUN => ⟨0x1002080, 1, 4194304, 0, 0, 4, 1⟩
  | .LP_PRESENCE_SENT => ⟨0x1002088, 1, 4194304, 0, 0, 4, 1⟩
  | .LP_PRESENCE_UNANSWERED => ⟨0x1002090, 1, 4194304, 0, 0, 4, 1⟩
  | .LP_ASSIGN_IGNORED => ⟨0x1002098, 1, 4194304, 0, 0, 4, 1⟩
  | .LP_RANGING_BURSTS => ⟨0x10020a0, 1, 4194304, 0, 0, 4, 1⟩
  | .LP_GRANT_OWN => ⟨0x10020a8, 1, 4194304, 0, 0, 4, 1⟩
  | .LP_GRANT_STATE => ⟨0x10020b0, 1, 4194304, 0, 0, 4, 1⟩
  | .LP_GRANT_CONFLICT => ⟨0x10020b8, 1, 4194304, 0, 0, 4, 1⟩
  | .LP_GRANT_DISCARD => ⟨0x10020c0, 1, 4194304, 0, 0, 4, 1⟩
  | .LP_BURST_TRUNC => ⟨0x10020c8, 1, 4194304, 0, 0, 4, 1⟩
  | .LP_TRUNC_FRAMES => ⟨0x10020d0, 1, 4194304, 0, 0, 4, 1⟩
  | .LP_MSG_STALE => ⟨0x10020d8, 1, 4194304, 0, 0, 4, 1⟩
  | .LP_MSG_UNKNOWN => ⟨0x10020e0, 1, 4194304, 0, 0, 4, 1⟩
  | .LP_DIR_STALE => ⟨0x10020e8, 1, 4194304, 0, 0, 4, 1⟩
  | .LP_DEPOSITIONS => ⟨0x10020f0, 1, 4194304, 0, 0, 4, 1⟩
  | .LP_OUTAGES => ⟨0x10020f8, 1, 4194304, 0, 0, 4, 1⟩
  | .LP_BAY_TRIPS => ⟨0x1002100, 1, 4194304, 0, 0, 4, 1⟩
  | .LP_DOZE_CHECKIN_MISSED => ⟨0x1002108, 1, 4194304, 0, 0, 4, 1⟩
  | .LP_RANGE_LATE => ⟨0x1002110, 1, 4194304, 0, 0, 4, 1⟩
  | .LP_GRANT_BAYFULL => ⟨0x1002118, 1, 4194304, 0, 0, 4, 1⟩
  | .TIME_TIMED_SENT => ⟨0x802000, 1, 64, 0, 0, 36, 1⟩
  | .TIME_TIMED_LATE_DROP => ⟨0x802008, 1, 64, 0, 0, 36, 1⟩
  | .TIME_TIMED_LATE_SENT => ⟨0x802010, 1, 64, 0, 0, 36, 1⟩
  | .TIME_TIMED_AHEAD_DROP => ⟨0x802018, 1, 64, 0, 0, 36, 1⟩
  | .TIME_TIMED_NOTIME => ⟨0x802020, 1, 64, 0, 0, 36, 1⟩
  | .TIME_TS_OVERFLOW => ⟨0x802028, 1, 64, 0, 0, 36, 1⟩
  | .TIME_SERVICE_STEPS => ⟨0x803000, 1, 0, 0, 0, 1, 1⟩
  | .TIME_DOMAIN_SWITCHES => ⟨0x803008, 1, 0, 0, 0, 1, 1⟩
  | .SWS_RETRACT_C1 => ⟨0x5007000, 1, 64, 0, 0, 36, 1⟩
  | .SWS_RETRACT_C3 => ⟨0x5007008, 1, 64, 0, 0, 36, 1⟩
  | .SWS_RETRACT_C5 => ⟨0x5007010, 1, 64, 0, 0, 36, 1⟩
  | .SWS_RETRACT_LATE => ⟨0x5007018, 1, 64, 0, 0, 36, 1⟩
  | .SWS_RETRACT_BYTES => ⟨0x5007020, 1, 64, 0, 0, 36, 1⟩
  | .SWS_SPEC_START => ⟨0x5007028, 1, 64, 0, 0, 36, 1⟩
  | .HP_RX_FRAMES_OK => ⟨0x2004000, 8, 1048576, 512, 0, 32, 1⟩
  | .HP_RX_BYTES_OK => ⟨0x2004008, 8, 1048576, 512, 0, 32, 1⟩
  | .HP_RX_FCS_ERR => ⟨0x2004010, 8, 1048576, 512, 0, 32, 1⟩
  | .HP_RX_TRUNC => ⟨0x2004018, 8, 1048576, 512, 0, 32, 1⟩
  | .HP_RX_FILTER_DROP => ⟨0x2004020, 8, 1048576, 512, 0, 32, 1⟩
  | .HP_RX_HDR_ERR => ⟨0x2004028, 8, 1048576, 512, 0, 32, 1⟩
  | .HP_RX_PAUSE => ⟨0x2004030, 8, 1048576, 512, 0, 32, 1⟩
  | .HP_PAUSE_IGNORED => ⟨0x2004038, 8, 1048576, 512, 0, 32, 1⟩
  | .HP_TX_FRAMES => ⟨0x2004040, 8, 1048576, 512, 0, 32, 1⟩
  | .HP_TX_BYTES => ⟨0x2004048, 8, 1048576, 512, 0, 32, 1⟩
  | .HP_TX_PAUSE => ⟨0x2004050, 8, 1048576, 512, 0, 32, 1⟩
  | .HP_TX_UNDERRUN => ⟨0x2004058, 8, 1048576, 512, 0, 32, 1⟩
  | .HP_TX_ABANDONED => ⟨0x2004060, 8, 1048576, 512, 0, 32, 1⟩
  | .HP_WDOG_FIRES => ⟨0x2004068, 8, 1048576, 512, 0, 32, 1⟩
  | .HP_LPI_TX_ENTRIES => ⟨0x2004070, 8, 1048576, 512, 0, 32, 1⟩
  | .HP_LPI_RX_ENTRIES => ⟨0x2004078, 8, 1048576, 512, 0, 32, 1⟩
  | .HP_FEC_CW_CORR => ⟨0x2004080, 8, 1048576, 512, 0, 32, 1⟩
  | .HP_FEC_CW_UNCORR => ⟨0x2004088, 8, 1048576, 512, 0, 32, 1⟩
  | .HP_FEC_SYM_CORR => ⟨0x2004090, 8, 1048576, 512, 0, 32, 1⟩
  | .HP_LINK_DOWNS => ⟨0x2004098, 8, 1048576, 512, 0, 32, 1⟩
  | .HP_FRT_DONE => ⟨0x20040a0, 8, 1048576, 512, 0, 32, 1⟩
  | .HP_FRT_FALLBACK => ⟨0x20040a8, 8, 1048576, 512, 0, 32, 1⟩
  | .HP_TRAIN_FAIL => ⟨0x20040b0, 8, 1048576, 512, 0, 32, 1⟩
  | .HL_FEC_LANE_SYM => ⟨0x2006000, 8, 1048576, 64, 0, 32, 1⟩
  | .HL_WAKE_DETECTS => ⟨0x2006008, 8, 1048576, 64, 0, 32, 1⟩
  | .HL_TAP_REQ_RX => ⟨0x2006010, 8, 1048576, 64, 0, 32, 1⟩
  | .HL_TAP_REQ_TX => ⟨0x2006018, 8, 1048576, 64, 0, 32, 1⟩
  | .PIPE_PARSED => ⟨0x3008000, 1, 2097152, 0, 0, 8, 1⟩
  | .PIPE_PARSE_ERR => ⟨0x3008008, 1, 2097152, 0, 0, 8, 1⟩
  | .PIPE_INNER_FAIL => ⟨0x3008010, 1, 2097152, 0, 0, 8, 1⟩
  | .PIPE_FRAG => ⟨0x3008018, 1, 2097152, 0, 0, 8, 1⟩
  | .PIPE_NO_MATCH => ⟨0x3008020, 1, 2097152, 0, 0, 8, 1⟩
  | .PIPE_RULE_DROP => ⟨0x3008028, 1, 2097152, 0, 0, 8, 1⟩
  | .PIPE_REPLICA_REPAIR => ⟨0x3008030, 1, 2097152, 0, 0, 8, 1⟩
  | .EXC_SENT => ⟨0x3110000, 1, 16, 0, 0, 64, 1⟩
  | .EXC_DROP => ⟨0x3110008, 1, 16, 0, 0, 64, 1⟩
  | .TBL_EM_HIT_ONDIE => ⟨0x4002000, 1, 0, 0, 0, 1, 1⟩
  | .TBL_EM_HIT_HBM => ⟨0x4002008, 1, 0, 0, 0, 1, 1⟩
  | .TBL_EM_MISS => ⟨0x4002010, 1, 0, 0, 0, 1, 1⟩
  | .TBL_FILTER_ABSENT => ⟨0x4002018, 1, 0, 0, 0, 1, 1⟩
  | .TBL_FILTER_FALSE => ⟨0x4002020, 1, 0, 0, 0, 1, 1⟩
  | .TBL_SPEC_ABSENT_WRONG => ⟨0x4002028, 1, 0, 0, 0, 1, 1⟩
  | .TBL_LPM_HIT => ⟨0x4002030, 1, 0, 0, 0, 1, 1⟩
  | .TBL_LOOKUP_MISS_DROP => ⟨0x4002038, 1, 0, 0, 0, 1, 1⟩
  | .TBL_RESULT_DROP => ⟨0x4002040, 1, 0, 0, 0, 1, 1⟩
  | .TBL_NH_INVALID => ⟨0x4002048, 1, 0, 0, 0, 1, 1⟩
  | .TBL_LOOKUP_ERR => ⟨0x4002050, 1, 0, 0, 0, 1, 1⟩
  | .TBL_EM_MOVES => ⟨0x4002058, 1, 0, 0, 0, 1, 1⟩
  | .TBL_LPM_MOVES => ⟨0x4002060, 1, 0, 0, 0, 1, 1⟩
  | .TBL_LEARN_POSTED => ⟨0x4002068, 1, 0, 0, 0, 1, 1⟩
  | .TBL_LEARN_SUPPRESSED => ⟨0x4002070, 1, 0, 0, 0, 1, 1⟩
  | .TBL_LEARN_DROP => ⟨0x4002078, 1, 0, 0, 0, 1, 1⟩
  | .SWD_ENQ_FRAMES => ⟨0x5003000, 1, 128, 0, 0, 42, 1⟩
  | .SWD_ENQ_CELLS => ⟨0x5003008, 1, 128, 0, 0, 42, 1⟩
  | .SWD_QMAX_DROP => ⟨0x5003010, 1, 128, 0, 0, 42, 1⟩
  | .SWD_SHARED_DROP => ⟨0x5003018, 1, 128, 0, 0, 42, 1⟩
  | .SWD_GLOBAL_DROP => ⟨0x5003020, 1, 128, 0, 0, 42, 1⟩
  | .SWD_HEADROOM_DROP => ⟨0x5003028, 1, 128, 0, 0, 42, 1⟩
  | .SWD_PUSHOUT_FRAMES => ⟨0x5003030, 1, 128, 0, 0, 42, 1⟩
  | .SWD_PUSHOUT_CELLS => ⟨0x5003038, 1, 128, 0, 0, 42, 1⟩
  | .SWD_FLUSH_FRAMES => ⟨0x5003040, 1, 128, 0, 0, 42, 1⟩
  | .SWD_FLUSH_ABSORBED => ⟨0x5003048, 1, 128, 0, 0, 42, 1⟩
  | .SWD_DOWN_DROP => ⟨0x5003050, 1, 128, 0, 0, 42, 1⟩
  | .SWD_SPILL_CELLS => ⟨0x5003058, 1, 128, 0, 0, 42, 1⟩
  | .SWD_CELL_ECC_DROP => ⟨0x5003060, 1, 128, 0, 0, 42, 1⟩
  | .SWD_TX_UNDERRUN => ⟨0x5003068, 1, 128, 0, 0, 42, 1⟩
  | .SWD_DMA_NOBUF => ⟨0x5003070, 1, 128, 0, 0, 42, 1⟩
  | .SW_SAGE_SWEEPS => ⟨0x5006000, 1, 0, 0, 0, 1, 1⟩
  | .SW_SAGE_RECLAIMED => ⟨0x5006008, 1, 0, 0, 0, 1, 1⟩
  | .SW_SAGE_DOUBLE => ⟨0x5006010, 1, 0, 0, 0, 1, 1⟩
  | .BPM_ALLOC => ⟨0x9002000, 1, 0, 0, 0, 1, 1⟩
  | .BPM_FREE => ⟨0x9002008, 1, 0, 0, 0, 1, 1⟩
  | .BPM_FALLBACK => ⟨0x9002010, 1, 0, 0, 0, 1, 1⟩
  | .BPM_NOSPACE => ⟨0x9002018, 1, 0, 0, 0, 1, 1⟩
  | .BPM_BAD_RANGE => ⟨0x9002020, 1, 0, 0, 0, 1, 1⟩
  | .BPM_BAD_ALIGN => ⟨0x9002028, 1, 0, 0, 0, 1, 1⟩
  | .BPM_DOUBLE_FREE => ⟨0x9002030, 1, 0, 0, 0, 1, 1⟩
  | .BPM_NOT_OWNER => ⟨0x9002038, 1, 0, 0, 0, 1, 1⟩
  | .BPM_BAD_TARGET => ⟨0x9002040, 1, 0, 0, 0, 1, 1⟩
  | .BPM_RECLAIMED => ⟨0x9002048, 1, 0, 0, 0, 1, 1⟩
  | .SCHED_DEQ_FRAMES => ⟨0x6002000, 1, 64, 0, 0, 42, 1⟩
  | .SCHED_DEQ_BYTES => ⟨0x6002008, 1, 64, 0, 0, 42, 1⟩
  | .SCHED_BLOCKED_SELECTIONS => ⟨0x6002010, 1, 64, 0, 0, 42, 1⟩
  | .SCHED_GRANT_IDLE_BYTES => ⟨0x6002018, 1, 64, 0, 0, 42, 1⟩
  | .CIPHP_RX_OPENED => ⟨0x7002000, 1, 64, 0, 0, 4, 1⟩
  | .CIPHP_RX_AUTH_FAIL => ⟨0x7002008, 1, 64, 0, 0, 4, 1⟩
  | .CIPHP_RX_REPLAY => ⟨0x7002010, 1, 64, 0, 0, 4, 1⟩
  | .CIPHP_UP_SEALED => ⟨0x7002018, 1, 64, 0, 0, 4, 1⟩
  | .CIPHP_UP_NOPN => ⟨0x7002020, 1, 64, 0, 0, 4, 1⟩
  | .CIPHP_RX_CIPHER_BUSY => ⟨0x7002028, 1, 64, 0, 0, 4, 1⟩
  | .CIPH_CACHE_HIT => ⟨0x7003000, 1, 0, 0, 0, 1, 1⟩
  | .CIPH_CACHE_MISS => ⟨0x7003008, 1, 0, 0, 0, 1, 1⟩
  | .CIPH_DERIVATIONS => ⟨0x7003010, 1, 0, 0, 0, 1, 1⟩
  | .CIPH_CMD_AUTH_FAIL => ⟨0x7003018, 1, 0, 0, 0, 1, 1⟩
  | .CIPH_XTS_UNITS => ⟨0x7003020, 1, 0, 0, 0, 1, 1⟩
  | .CIPH_HOST_OPEN_FAIL => ⟨0x7003028, 1, 0, 0, 0, 1, 1⟩
  | .WQ_ADMIT => ⟨0x8004000, 1, 16, 0, 0, 1024, 1⟩
  | .WQ_DROP => ⟨0x8004008, 1, 16, 0, 0, 1024, 1⟩
  | .CORE_DISPATCHED => ⟨0x8002000, 1, 0, 0, 0, 1, 1⟩
  | .CORE_PREEMPTIONS => ⟨0x8002008, 1, 0, 0, 0, 1, 1⟩
  | .CORE_TIMEOUTS => ⟨0x8002010, 1, 0, 0, 0, 1, 1⟩
  | .CORE_ITEM_LOST => ⟨0x8002018, 1, 0, 0, 0, 1, 1⟩
  | .CORE_THYME_HELD => ⟨0x8002020, 1, 0, 0, 0, 1, 1⟩
  | .CORE_THYME_SKIPS => ⟨0x8002028, 1, 0, 0, 0, 1, 1⟩
  | .CORE_SUB_STALL => ⟨0x8002030, 1, 0, 0, 0, 1, 1⟩
  | .CORE_LOCK_GRANTS => ⟨0x8002038, 1, 0, 0, 0, 1, 1⟩
  | .CORE_LOCK_WAITS => ⟨0x8002040, 1, 0, 0, 0, 1, 1⟩
  | .CORE_LOCK_ABANDONED => ⟨0x8002048, 1, 0, 0, 0, 1, 1⟩
  | .CMD_CMDS_DONE => ⟨0x302000, 1, 0, 0, 0, 1, 1⟩
  | .CMD_WIN_DENIED => ⟨0x302008, 1, 0, 0, 0, 1, 1⟩
  | .CMD_INBAND_REPLAY => ⟨0x302010, 1, 0, 0, 0, 1, 1⟩
  | .CMD_INBAND_REPLY_DROP => ⟨0x302018, 1, 0, 0, 0, 1, 1⟩
  | .CMD_PELDEL_BADCHECK => ⟨0x302020, 1, 0, 0, 0, 1, 1⟩
  | .CMD_PEER_FOREIGN => ⟨0x302028, 1, 0, 0, 0, 1, 1⟩
  | .CMD_PEER_SENT => ⟨0x302030, 1, 0, 0, 0, 1, 1⟩
  | .CMD_PEER_APPLIED => ⟨0x302038, 1, 0, 0, 0, 1, 1⟩
  | .STORE_PAGES_READ => ⟨0x202000, 1, 0, 0, 0, 1, 1⟩
  | .STORE_PAGES_PROGRAMMED => ⟨0x202008, 1, 0, 0, 0, 1, 1⟩
  | .STORE_BLOCKS_ERASED => ⟨0x202010, 1, 0, 0, 0, 1, 1⟩
  | .STORE_BITS_CORRECTED => ⟨0x202018, 1, 0, 0, 0, 1, 1⟩
  | .STORE_PAGES_UNCORR => ⟨0x202020, 1, 0, 0, 0, 1, 1⟩
  | .STORE_PROG_REFUSED => ⟨0x202028, 1, 0, 0, 0, 1, 1⟩
  | .STORE_REFRESHES => ⟨0x202030, 1, 0, 0, 0, 1, 1⟩
  | .STORE_BLOCKS_RETIRED => ⟨0x202038, 1, 0, 0, 0, 1, 1⟩
  | .STORE_SETTING_FAILED => ⟨0x202040, 1, 0, 0, 0, 1, 1⟩
  | .PWR_STANDBY_ENTRIES => ⟨0x102000, 1, 0, 0, 0, 1, 1⟩
  | .PWR_STANDBY_ABANDONED => ⟨0x102008, 1, 0, 0, 0, 1, 1⟩
  | .PWR_STANDBY_DISCARD => ⟨0x102010, 1, 0, 0, 0, 1, 1⟩
  | .PWR_DOZE_ENTRIES => ⟨0x102018, 1, 0, 0, 0, 1, 1⟩
  | .PWR_DOZE_ABANDONED => ⟨0x102020, 1, 0, 0, 0, 1, 1⟩
  | .PWR_DVFS_CHANGES => ⟨0x102028, 1, 0, 0, 0, 1, 1⟩
  | .PWR_THROTTLES => ⟨0x102030, 1, 0, 0, 0, 1, 1⟩
  | .PWR_RAIL_TIMEOUT => ⟨0x102038, 1, 0, 0, 0, 1, 1⟩
  | .FLT_REPORTS => ⟨0x402000, 1, 0, 0, 0, 1, 1⟩
  | .FLT_COALESCED => ⟨0x402008, 1, 0, 0, 0, 1, 1⟩
  | .FLT_REPORTS_LOST => ⟨0x402010, 1, 0, 0, 0, 1, 1⟩
  | .FLT_L1_RECOVERIES => ⟨0x402018, 1, 0, 0, 0, 1, 1⟩
  | .FLT_L2_RECOVERIES => ⟨0x402020, 1, 0, 0, 0, 1, 1⟩
  | .FLT_L3_ENTRIES => ⟨0x402028, 1, 0, 0, 0, 1, 1⟩
  | .FLT_ESCALATIONS => ⟨0x402030, 1, 0, 0, 0, 1, 1⟩
  | .FLT_RECOVERY_DISCARD => ⟨0x402038, 1, 0, 0, 0, 1, 1⟩
  | .FLT_EVT_RECORDS => ⟨0x402040, 1, 0, 0, 0, 1, 1⟩
  | .FLT_EVT_DROPPED => ⟨0x402048, 1, 0, 0, 0, 1, 1⟩
  | .FLT_EMERGENCY_FLUSHES => ⟨0x402050, 1, 0, 0, 0, 1, 1⟩

/-- The Fld names, part 0. -/
def Fld.all0 : List Fld :=
  [.LINE_STATUS_FT_LIMIT, .LINE_STATUS_CONTROL_SC, .LINE_STATUS_LASER_BUS_OK, .LINE_STATUS_TX_ACTIVE,
   .LINE_STATUS_SETTLING, .LINE_STATUS_DRIFT_ALARM, .LINE_STATUS_BEACON_FOUND, .LINE_STATUS_SEARCHING,
   .LINE_STATUS_AGC_FROZEN, .LINE_STATUS_CARRIER_LOCK, .LINE_STATUS_LIGHT, .LINE_EVT_STATUS_QUALITY_UPDATE,
   .LINE_EVT_STATUS_CAPTURE_DONE, .LINE_EVT_STATUS_RATE_UNSUPPORTED, .LINE_EVT_STATUS_BEACON_CONFLICT,
   .LINE_EVT_STATUS_BEACON_FOUND, .LINE_EVT_STATUS_FT_LIMIT, .LINE_EVT_STATUS_LASER_BUS_FAULT,
   .LINE_EVT_STATUS_RELEVEL, .LINE_EVT_STATUS_DRIFT, .LINE_EVT_STATUS_LOCK_LOST, .LINE_EVT_STATUS_LIGHT_RETURN,
   .LINE_EVT_STATUS_LOS, .LINE_EVT_ENABLE_QUALITY_UPDATE, .LINE_EVT_ENABLE_CAPTURE_DONE,
   .LINE_EVT_ENABLE_RATE_UNSUPPORTED, .LINE_EVT_ENABLE_BEACON_CONFLICT, .LINE_EVT_ENABLE_BEACON_FOUND,
   .LINE_EVT_ENABLE_FT_LIMIT, .LINE_EVT_ENABLE_LASER_BUS_FAULT, .LINE_EVT_ENABLE_RELEVEL, .LINE_EVT_ENABLE_DRIFT,
   .LINE_EVT_ENABLE_LOCK_LOST, .LINE_EVT_ENABLE_LIGHT_RETURN, .LINE_EVT_ENABLE_LOS, .LINE_LASER_FT_APPLIED,
   .LINE_LASER_FT_ENABLE, .LINE_LASER_BUS_ADDR, .LINE_LASER_NOMINAL_MHZ, .LINE_CFO_LOCK]

/-- The Fld names, part 1. -/
def Fld.all1 : List Fld :=
  [.LINE_CFO_OFFSET_KHZ, .LINE_AGC_STEP_PENDING, .LINE_AGC_AUTO_RELEVEL, .LINE_AGC_FROZEN, .LINE_AGC_DRIFT,
   .LINE_AGC_FROZEN_GAIN, .LINE_AGC_GAIN, .LINE_EQ_DGD_EST, .LINE_EQ_CD_AUTO, .LINE_EQ_CD_EST, .LINE_EQ_CD_APPLIED,
   .LINE_SC_SNR, .LINE_SC_SETTLING, .LINE_SC_FORMAT, .LINE_SC_ENABLED, .LINE_SEARCH_SNR, .LINE_SEARCH_OFFSET_MHZ,
   .LINE_SEARCH_CONTROL_SC, .LINE_SEARCH_BEACON, .LINE_SEARCH_HEADER_FIT, .LINE_SEARCH_PRESENT,
   .LINE_UP_PROFILE_VALID, .LINE_UP_PROFILE_RAMP, .LINE_UP_PROFILE_PREAMBLE, .LINE_UP_PROFILE_RATE,
   .LINE_UP_PROFILE_FORMAT, .LINE_TX_DARK, .LINE_TX_POWER, .LINE_QUALITY_SF_NUMBER, .LINE_QUALITY_NOISE_FLOOR,
   .LINE_CAP_CTL_TRIG_SF, .LINE_CAP_CTL_PRE, .LINE_CAP_CTL_TRIGGER, .LINE_CAP_CTL_SC, .LINE_CAP_CTL_POINT,
   .LINE_CAP_STATUS_TRIG_LINE, .LINE_CAP_STATUS_DONE, .LINE_CAP_STATUS_ARMED, .LINE_FRM_ENV_STATE, .LINE_FRM_PAGE]

/-- The Fld names, part 2. -/
def Fld.all2 : List Fld :=
  [.LINE_FRM_SF_NUMBER, .LINE_FRM_SECTOR, .LINE_FRM_MISFIT_RUN, .LINE_FRM_FIT_RUN, .LINE_FRM_STATE,
   .LINE_FRM_CFG_PM_OFFSET, .LINE_FRM_CFG_OH_AID, .LINE_FRM_CFG_DELTA, .LINE_TSI_UP_SWAP, .LINE_TSI_DN_SWAP,
   .LINE_TSI_UP_READY, .LINE_TSI_DN_READY, .LINE_TSI_UP_PAGE, .LINE_TSI_DN_PAGE, .SYS_OSP_RX_EN, .SYS_OSP_TX_EN,
   .SYS_OSP_CHANNEL, .SYS_OSP_PORT, .LINE_TREE_STATE_DIR_GRACE, .LINE_TREE_STATE_IDENT_VALID,
   .LINE_TREE_STATE_SILENT_MS, .LINE_TREE_STATE_PREV_STATE, .LINE_TREE_STATE_STATE, .LINE_TREE_ID_SERIAL_TAG,
   .LINE_TREE_ID_EPOCH, .LINE_TREE_ID_TID, .LINE_TREE_SERIAL_SERIAL, .LINE_TREE_RANGE_DN_DELAY,
   .LINE_TREE_RANGE_TRIM, .LINE_TREE_RANGE_EQD, .LINE_TREE_TIMERS_BACKOFF_MAX, .LINE_TREE_TIMERS_ASSIGN_WAIT,
   .LINE_TREE_TIMERS_RANGING_TIMEOUT, .LINE_TREE_TIMERS_REREG_LIMIT, .LINE_TREE_TIMERS_RESUME_LIMIT,
   .LINE_TREE_CFG_HOST_DARK, .LINE_TREE_CFG_AUTO_RELEASE_SYNC, .LINE_TREE_CFG_AUTO_REJOIN, .LINE_TREE_FILTER_ENABLE,
   .LINE_TREE_FILTER_TREE]

/-- The Fld names, part 3. -/
def Fld.all3 : List Fld :=
  [.LINE_TREE_FILTER_SYSTEM_ID, .LINE_TREE_DOZE_REQUESTED, .LINE_TREE_DOZE_WAKE_THRESHOLD, .LINE_TREE_DOZE_PERIOD,
   .LINE_BAY_TX_DISABLE_PIN, .LINE_BAY_PRESENT, .LINE_BAY_LATCHED, .LINE_BAY_TRIPPED, .TIME_NOW_SUB_NS,
   .TIME_NOW_SUB_FRAC, .TIME_NOW_SUB_VALID, .TIME_NOW_SEC_SECONDS, .TIME_STATUS_RESIDUAL, .TIME_STATUS_TIMEIN1_OK,
   .TIME_STATUS_TIMEIN0_OK, .TIME_STATUS_SLEWING, .TIME_STATUS_VALID, .TIME_STATUS_SELECTED, .TIME_SEL_SLEW_RATE,
   .TIME_SEL_CLK10M_EN, .TIME_SEL_REVERTIVE, .TIME_SEL_AUTO_SWITCH, .TIME_DOMAIN_CFG_HOLDOVER_LIMIT,
   .TIME_DOMAIN_CFG_BW, .TIME_DOMAIN_CFG_SOURCE, .TIME_DOMAIN_STATE_ERROR, .TIME_DOMAIN_STATE_HOLDOVER_S,
   .TIME_DOMAIN_STATE_SRC_HOLDOVER, .TIME_DOMAIN_STATE_VALID, .TIME_DOMAIN_STATE_STATE, .TIME_ADJ_VALUE,
   .TIME_PORT_EGRESS_ADJ, .TIME_PORT_INGRESS_ADJ, .TIME_PORT_MAX_AHEAD, .TIME_PORT_STAMP_DOMAIN, .TIME_PORT_STAMP_RX,
   .TIME_PORT_TIMED_EN, .TIME_PORT_TIMED_Q, .TIME_PULSE_CTL_START_SEC, .TIME_PULSE_CTL_FREE_RUN]

/-- The Fld names, part 4. -/
def Fld.all4 : List Fld :=
  [.TIME_PULSE_CTL_PERIODIC, .TIME_PULSE_CTL_ARMED, .TIME_PULSE_CTL_ENABLE, .TIME_PULSE_TIMES_START_NS,
   .TIME_PULSE_WIDTH_WIDTH_NS, .TIME_PULSE_PERIOD_PERIOD_NS, .TIME_TIMEIN_CAP_SEC_LO, .TIME_TIMEIN_CAP_NS,
   .TIME_TIMEIN_CAP_FRAC, .SW_RELEASE_DRAINING, .SW_RELEASE_BEHAVIOUR, .SW_RELEASE_SPEC_EN, .LN_CFG_WAKE_DET,
   .LN_CFG_PRECODE_RX, .LN_CFG_PRECODE_TX, .LN_CFG_POL_RX, .LN_CFG_POL_TX, .LN_CFG_TX_MAP, .LN_STATUS_WAKE_SEEN,
   .LN_STATUS_PRECODE_RX_ON, .LN_STATUS_PRECODE_TX_ON, .LN_STATUS_PARTNER_READY, .LN_STATUS_RX_READY, .LN_STATUS_FRT,
   .LN_STATUS_CDR_LOCK, .LN_STATUS_SIGNAL, .LN_FFE_C_M3, .LN_FFE_C_M2, .LN_FFE_C_M1, .LN_FFE_C_0, .LN_FFE_C_P1,
   .LN_FFE_C_P2, .LN_FFE_INIT_C_M3, .LN_FFE_INIT_C_M2, .LN_FFE_INIT_C_M1, .LN_FFE_INIT_C_0, .LN_FFE_INIT_C_P1,
   .LN_FFE_INIT_C_P2, .PORT_CFG_FRT_LIMIT, .PORT_CFG_FRT_EN]

/-- The Fld names, part 5. -/
def Fld.all5 : List Fld :=
  [.PORT_CFG_AN_EN, .PORT_CFG_TRAIN_EN, .PORT_CFG_SYSHDR_EN, .PORT_CFG_DEFAULT_CLASS, .PORT_CFG_TPID_ALT,
   .PORT_CFG_MAX_FRAME, .PORT_CFG_MEDIA, .PORT_CFG_TYPE, .PORT_CFG_ENABLE, .PORT_STATUS_WAKE_SENDING,
   .PORT_STATUS_OVERRIDE, .PORT_STATUS_PAUSED, .PORT_STATUS_RX_LPI, .PORT_STATUS_TX_LPI, .PORT_STATUS_REMOTE_FAULT,
   .PORT_STATUS_LOCAL_FAULT, .PORT_STATUS_LINK_STATE, .PORT_PAUSE_OVERRIDE_MS, .PORT_PAUSE_WDOG_MS,
   .PORT_PAUSE_REFRESH, .PORT_PAUSE_QUANTA, .PORT_PAUSE_MODE, .PORT_PFC_QMAP, .PORT_LPI_T_W_US,
   .PORT_LPI_TX_IDLE_FRUGAL_US, .PORT_LPI_TX_IDLE_US, .PORT_LPI_RX_EN, .PORT_LPI_TX_EN, .PORT_CLASS_DEST,
   .FILTER_MATCH_ETYPE, .FILTER_MATCH_OVID, .FILTER_MATCH_OPCP, .FILTER_MATCH_IVID, .FILTER_MATCH_IPCP,
   .FILTER_CTL_VALID, .FILTER_CTL_TAGS, .FILTER_CTL_M_ETYPE, .FILTER_CTL_M_OVID, .FILTER_CTL_M_OPCP,
   .FILTER_CTL_M_IVID]

/-- The Fld names, part 6. -/
def Fld.all6 : List Fld :=
  [.FILTER_CTL_M_IPCP, .FILTER_CTL_CLASS, .CLS_GEN_COPYING, .CLS_GEN_PLANE, .CLS_GEN_GEN, .PIPE_START_TYPE,
   .EXC_CFG_QUEUE, .EXC_CFG_ORDERED, .EXC_CFG_RATE, .EXC_CFG_BURST, .TBL_LPROF_EM_EN, .TBL_LPROF_EM_OFF,
   .TBL_LPROF_EM_TABLE, .TBL_LPROF_LPM_EN, .TBL_LPROF_LPM_V6, .TBL_LPROF_LPM_OFF, .TBL_LPROF_VRF_SRC, .TBL_LPROF_VRF,
   .TBL_LPROF_PREC, .TBL_LPROF_LEARN_EN, .TBL_LPROF_LEARN_OFF, .TBL_LPROF_LEARN_TABLE, .TBL_LPROF_MISS,
   .TBL_LPROF_MISS_EXC, .TBL_STATE_RESTORED, .TBL_STATE_REBUILDING, .TBL_STATE_FILTER_ALL_ONES,
   .TBL_STATE_EXT_BUCKETS_LOG2, .TBL_STATE_GEN, .TBL_SNAP_WRITING, .TBL_SNAP_COPY, .TBL_SNAP_GEN,
   .TBL_LEARN_RING_HOLD_US, .TBL_LEARN_RING_HEAD, .TBL_LEARN_RING_TAIL, .TBL_SMAC_MAC, .SW_SPILL_GLOBAL_FREE,
   .SW_SPILL_QUEUE_CELLS, .SW_SHARED_FREE, .SW_SHARED_RESERVE]

/-- The Fld names, part 7. -/
def Fld.all7 : List Fld :=
  [.SW_DEST_ALLOC_DOWN_FLUSH_MS, .SW_DEST_ALLOC_DOWN_ACTION, .SW_DEST_ALLOC_SHARED_LIMIT, .SW_DEST_STATE_FLUSHING,
   .SW_DEST_STATE_DOWN_DROPPING, .SW_DEST_STATE_SHARED_USED, .SW_ING_LOSSLESS, .SW_ING_PAUSE_CALL, .SW_ING_HEADROOM,
   .SW_ING_XOFF, .SW_ING_XON, .SW_SAGE_HBM_POS, .SW_SAGE_SRAM_POS, .SW_SAGE_PAUSED, .SW_SAGE_EN, .BPM_POOL_CFG_BASE,
   .BPM_POOL_CFG_COUNT, .BPM_POOL_CFG_FALLBACK, .BPM_POOL_CFG_CLASS, .BPM_POOL_STATUS_CACHED, .BPM_POOL_STATUS_FREE,
   .BPM_STATUS_AUDITING, .BPM_STATUS_AGE_ALARM_S, .BPM_STATUS_AUDIT_S, .BPM_STATUS_REGION_GIB, .BPM_OWNER_IN_RESET,
   .BPM_OWNER_OUT, .SCHED_LEN_PROF_OVERHEAD, .SCHED_DSCP_COLOUR, .CIPH_STATUS_PN_FRESH, .CIPH_STATUS_CLUSTERS_ON,
   .CIPH_STATUS_PN_STORE_OK, .CIPH_STATUS_CACHE_FLUSHING, .CIPH_STATUS_ROOT_STATE, .CIPH_LINE_CFG_SECRET_VALID,
   .CIPH_LINE_CFG_REPLAY_EN, .CIPH_LINE_CFG_UP_KEY, .CIPH_LINE_CFG_UP_VALID, .CIPH_LINE_CFG_BC_VALID,
   .CIPH_LINE_CFG_DN_VALID]

/-- The Fld names, part 8. -/
def Fld.all8 : List Fld :=
  [.CIPH_LINE_KEYID_KEY_ID, .CIPH_LINE_UP_ENC_AID_MASK, .CIPH_LINE_PN_NEXT_PN, .CIPH_LINE_PN_MARK_MARK,
   .CIPH_PAGE_SLOTS_USED, .CIPH_PAGE_INBAND_EN, .CIPH_PAGE_INBAND_SLOT, .CIPH_PAGE_GEN, .CORE_WQ_CFG_ENABLE,
   .CORE_WQ_CFG_PRIORITY, .CORE_WQ_CFG_SUBMIT_FN, .CORE_WQ_CFG_MAX_ITEMS, .CORE_WQ_CFG_GROUPS,
   .CORE_WQ_CFG_PREEMPTIBLE, .CORE_WQ_CFG_ORDER_INTERNAL, .CORE_WQ_STATE_RUNNING, .CORE_WQ_STATE_WAITING,
   .CORE_CPU_SERVICE, .CORE_CPU_QUEUE, .CORE_CPU_PRIORITY, .CORE_CPU_LOCKS_HELD, .CORE_CPU_STATE,
   .CORE_STATUS_INTERNAL, .CORE_STATUS_IN_FLIGHT, .CORE_RUN_LIMIT_US_LIMIT, .CORE_FN_SUB_TAIL, .CORE_FN_SUB_HEAD,
   .CORE_FN_RES_IRQ_EN, .CORE_FN_RES_TAIL, .CORE_FN_RES_HEAD, .CORE_FN_FLOW_COUNT, .CORE_FN_FLOW_BASE,
   .CORE_LOCK_WAITERS, .CORE_LOCK_HOLDER, .CORE_LOCK_ABANDONED, .CORE_LOCK_HELD, .CMD_FN_SUB_BASE,
   .CMD_FN_SUB_SIZE_LOG2, .CMD_FN_CPL_BASE, .CMD_FN_CPL_SIZE_LOG2]

/-- The Fld names, part 9. -/
def Fld.all9 : List Fld :=
  [.CMD_FN_FAULT, .CMD_FN_CPL_IRQ_EN, .CMD_FN_BUSY, .CMD_FN_ENABLE, .CMD_FN_SUB_HEAD, .CMD_FN_SUB_TAIL,
   .CMD_FN_CPL_TAIL, .CMD_FN_CPL_HEAD, .CMD_FN_INBAND_TAG, .CMD_WIN_BASE, .CMD_WIN_VALID, .CMD_WIN_WRITE,
   .CMD_WIN_READ, .CMD_WIN_LAST, .CMD_WIN_GEN_GEN, .CMD_INBAND_CLASS, .CMD_INBAND_MAC, .CMD_PEER_CFG_FAMILY_MASK,
   .CMD_PEER_CFG_PARTNER_RID, .CMD_PEER_CFG_APPLY, .CMD_PEER_CFG_ROLE, .CMD_PEER_CFG_ENABLE, .CMD_PEER_STATUS_DESYNC,
   .CMD_PEER_STATUS_PARTNER_OK, .CMD_PEER_RX_RX_TAIL, .CMD_PEER_RX_RX_HEAD, .CMD_PEER_ADDR_PARTNER_BAR0,
   .SYS_BOOT_READY_MS, .SYS_BOOT_PHASE, .SYS_BOOT_CAUSE, .SYS_BOOT_RESCUE_REASON, .SYS_BOOT_SLOT, .SYS_BOOT_KIND,
   .SYS_FUSE_STATUS_BAND, .SYS_FUSE_STATUS_DOUBTFUL, .SYS_FUSE_STATUS_CLASS_DOUBT, .SYS_FUSE_STATUS_DONE,
   .SYS_FUSE_VALUE, .SYS_FUSE_DOUBT_WORDS, .STORE_STATUS_SPARE_MIN]

/-- The Fld names, part 10. -/
def Fld.all10 : List Fld :=
  [.STORE_STATUS_PFAIL_HOLD, .STORE_STATUS_SCRUBBING, .STORE_STATUS_OPEN, .STORE_STATUS_PRESENT,
   .STORE_STATUS_BLOCKS, .STORE_ANCHOR_SEQ, .STORE_ANCHOR_TRIAL_COUNT, .STORE_ANCHOR_VERIFIED,
   .STORE_ANCHOR_DOWNLOADING, .STORE_ANCHOR_FALLBACK_VALID, .STORE_ANCHOR_TRIAL, .STORE_ANCHOR_BOOT_SLOT,
   .STORE_DOWNLOAD_BYTES, .STORE_DEV_ERASE_MAX, .STORE_DEV_ERASE_MIN, .STORE_DEV_RETIRED, .STORE_DEV_SPARE,
   .PWR_STATE_PFAIL, .PWR_STATE_PELDEL_OFF, .PWR_STATE_LAST_WAKE, .PWR_STATE_PHASE, .PWR_STATE_STATE,
   .PWR_MODE_CHANGING, .PWR_MODE_PENDING_VALID, .PWR_MODE_PENDING, .PWR_MODE_CURRENT, .PWR_IDLE_IDLE_EN,
   .PWR_IDLE_STANDBY_MODES, .PWR_IDLE_DEVICE_MS, .PWR_WAKE_AT_S, .PWR_WAKE_ENABLE, .PWR_DVFS_REQUEST,
   .PWR_DVFS_THROTTLED, .PWR_DVFS_TRANSITION, .PWR_DVFS_TARGET, .PWR_DVFS_POINT, .PWR_PMBUS_SETTLE_US,
   .PWR_PMBUS_BUS_OK, .PWR_PMBUS_VCORE_ADDR, .PWR_CLK_LOCKED]

/-- The Fld names, part 11. -/
def Fld.all11 : List Fld :=
  [.PWR_CLK_DCLK_RECOVERED, .PWR_CLK_LCLK_LOCKED, .PWR_DOZE_DOZING, .PWR_DOZE_DOZE_EN, .PWR_DOZE_TIMER_US,
   .PWR_RAIL_ADDR, .PWR_RAIL_TEMP, .PWR_RAIL_CURRENT, .PWR_RAIL_VOLTAGE, .FLT_STATUS_L3_SOURCE, .FLT_STATUS_SUMMARY,
   .FLT_STATUS_FULL, .FLT_STATUS_USED, .FLT_STATUS_WINDOW_FAULTS, .FLT_STATUS_WINDOW_OPEN, .FLT_STATUS_SAFE,
   .FLT_CFG_IRQ_EN, .FLT_CFG_CORR_PER_S, .FLT_CFG_WINDOW_MS, .FLT_CFG_LF_HOLD_MS, .FLT_CFG_TEMP_WARN,
   .FLT_ACTION_DEFAULT, .FLT_ACTION_LEVEL, .FLT_RECOVERY_LAST_SOURCE, .FLT_RECOVERY_LAST_US, .FLT_RECOVERY_HELD,
   .FLT_RECOVERY_LEVEL, .EVT_NEXT_SEQ_SEQ, .EVT_OLDEST_SEQ_SEQ, .EVT_STATUS_RUNNING, .EVT_STATUS_PERMANENT_FULL,
   .EVT_STATUS_BUFFERED, .EVT_NOTIFY_IRQ_EN, .EVT_NOTIFY_COUNT, .EVT_NOTIFY_US, .TEST_STATUS_INJECT_ARMED,
   .TEST_STATUS_PERTURB_ON, .TEST_STATUS_MAINT, .TEST_LOOP_LINE_LINE_DIGITAL, .TEST_LOOP_LINE_LINE_ELEC]

/-- The Fld names, part 12. -/
def Fld.all12 : List Fld :=
  [.TEST_LOOP_LANE_MAC, .TEST_LOOP_LANE_PCS, .TEST_LOOP_LANE_PMA_FAR, .TEST_LOOP_LANE_PMA_NEAR, .TEST_GEN_RUN,
   .TEST_GEN_PATTERN, .TEST_GEN_SLOT, .TEST_GEN_POINT, .TEST_GEN_LEN_MIN, .TEST_GEN_LEN_MAX, .TEST_GEN_FILL,
   .TEST_GEN_CLASS, .TEST_GEN_RATE, .TEST_GEN_COUNT, .TEST_GEN_ETYPE, .TEST_GEN_DMAC, .TEST_GEN_SENT, .TEST_CHK_RUN,
   .TEST_CHK_SLOT, .TEST_CHK_POINT, .TEST_CHK_GEN, .TEST_CHK_ETYPE, .TEST_CHK_FRAMES, .TEST_CHK_BYTES,
   .TEST_CHK_LOST, .TEST_CHK_REORDER, .TEST_CHK_PAYLOAD_ERR, .TEST_PERTURB_ON, .TEST_PERTURB_PROB,
   .TEST_PERTURB_TARGET, .TEST_PERTURB_VALUE, .TEST_PERTURB_DURATION_MS, .TEST_INJECT_TARGET, .TEST_INJECT_BITS,
   .TEST_INJECT_REMAINING, .TEST_INJECTED_COUNT, .SYS_STRAPS_PWR_GOOD_PIN, .SYS_STRAPS_PFAIL_PIN,
   .SYS_STRAPS_MFG_TEST, .SYS_STRAPS_ADDR]

/-- The Fld names, part 13. -/
def Fld.all13 : List Fld :=
  [.SYS_ID_PART, .SYS_ID_STEP, .SYS_ID_SEC_VERSION, .SYS_ID_IDCODE, .SYS_DEVICE_ID_ID, .SYS_IMAGE_MAJOR,
   .SYS_IMAGE_MINOR, .SYS_IMAGE_BUILD, .SYS_DEFS_DEFINITIONS, .SYS_DEFS_LAYOUT]

/-- Every Fld name, in the order of the chapters. -/
def Fld.all : List Fld :=
  Fld.all0 ++ Fld.all1 ++ Fld.all2 ++ Fld.all3 ++ Fld.all4 ++ Fld.all5 ++ Fld.all6 ++ Fld.all7 ++ Fld.all8 ++ Fld.all9 ++ Fld.all10 ++ Fld.all11 ++ Fld.all12 ++ Fld.all13

/-- The Ctr names, part 0. -/
def Ctr.all0 : List Ctr :=
  [.LSC_CW_OK, .LSC_CW_CORR, .LSC_RS_SYM_CORR, .LSC_CW_UNCORR, .LSC_TRELLIS_CORR, .LSC_CW_SUSPECT, .LSC_SYM_SETTLE,
   .LSC_SETTLE_DISCARD, .LSC_HDR_FIT, .LSC_HDR_MISFIT, .LSC_SYNC_LOSS, .LSC_FF_LOST, .LSC_ENV_OWN, .LSC_ENV_OTHER,
   .LSC_ENV_HEC_ERR, .LSC_ENV_HUNT_BYTES, .LSC_ENV_FAILED, .LSC_GRANT_BADCHECK, .LSC_MSG_BADCHECK, .LSC_JUST_ERR,
   .LSC_TRIB_NOSLOT, .LSC_FMT_UNANNOUNCED, .LP_LOS_COUNT, .LP_RELEVEL_COUNT, .LP_FT_SENT, .LP_BUS_ERR,
   .LP_GRANT_UNLOCKED, .LP_GRANT_BADPROF, .LP_CAP_MISSED, .LP_DIR_BADCHECK, .LP_MSG_OVERFLOW, .LP_PAGE_MISMATCH,
   .LP_ABORT_RX, .LP_OH_LOST, .LP_OH_DROP, .LP_TRIB_SHORT, .LP_TRIB_OVERFLOW, .LP_BURSTS_SENT, .LP_GRANT_OVERRUN,
   .LP_PRESENCE_SENT]

/-- The Ctr names, part 1. -/
def Ctr.all1 : List Ctr :=
  [.LP_PRESENCE_UNANSWERED, .LP_ASSIGN_IGNORED, .LP_RANGING_BURSTS, .LP_GRANT_OWN, .LP_GRANT_STATE,
   .LP_GRANT_CONFLICT, .LP_GRANT_DISCARD, .LP_BURST_TRUNC, .LP_TRUNC_FRAMES, .LP_MSG_STALE, .LP_MSG_UNKNOWN,
   .LP_DIR_STALE, .LP_DEPOSITIONS, .LP_OUTAGES, .LP_BAY_TRIPS, .LP_DOZE_CHECKIN_MISSED, .LP_RANGE_LATE,
   .LP_GRANT_BAYFULL, .TIME_TIMED_SENT, .TIME_TIMED_LATE_DROP, .TIME_TIMED_LATE_SENT, .TIME_TIMED_AHEAD_DROP,
   .TIME_TIMED_NOTIME, .TIME_TS_OVERFLOW, .TIME_SERVICE_STEPS, .TIME_DOMAIN_SWITCHES, .SWS_RETRACT_C1,
   .SWS_RETRACT_C3, .SWS_RETRACT_C5, .SWS_RETRACT_LATE, .SWS_RETRACT_BYTES, .SWS_SPEC_START, .HP_RX_FRAMES_OK,
   .HP_RX_BYTES_OK, .HP_RX_FCS_ERR, .HP_RX_TRUNC, .HP_RX_FILTER_DROP, .HP_RX_HDR_ERR, .HP_RX_PAUSE, .HP_PAUSE_IGNORED]

/-- The Ctr names, part 2. -/
def Ctr.all2 : List Ctr :=
  [.HP_TX_FRAMES, .HP_TX_BYTES, .HP_TX_PAUSE, .HP_TX_UNDERRUN, .HP_TX_ABANDONED, .HP_WDOG_FIRES, .HP_LPI_TX_ENTRIES,
   .HP_LPI_RX_ENTRIES, .HP_FEC_CW_CORR, .HP_FEC_CW_UNCORR, .HP_FEC_SYM_CORR, .HP_LINK_DOWNS, .HP_FRT_DONE,
   .HP_FRT_FALLBACK, .HP_TRAIN_FAIL, .HL_FEC_LANE_SYM, .HL_WAKE_DETECTS, .HL_TAP_REQ_RX, .HL_TAP_REQ_TX,
   .PIPE_PARSED, .PIPE_PARSE_ERR, .PIPE_INNER_FAIL, .PIPE_FRAG, .PIPE_NO_MATCH, .PIPE_RULE_DROP,
   .PIPE_REPLICA_REPAIR, .EXC_SENT, .EXC_DROP, .TBL_EM_HIT_ONDIE, .TBL_EM_HIT_HBM, .TBL_EM_MISS, .TBL_FILTER_ABSENT,
   .TBL_FILTER_FALSE, .TBL_SPEC_ABSENT_WRONG, .TBL_LPM_HIT, .TBL_LOOKUP_MISS_DROP, .TBL_RESULT_DROP, .TBL_NH_INVALID,
   .TBL_LOOKUP_ERR, .TBL_EM_MOVES]

/-- The Ctr names, part 3. -/
def Ctr.all3 : List Ctr :=
  [.TBL_LPM_MOVES, .TBL_LEARN_POSTED, .TBL_LEARN_SUPPRESSED, .TBL_LEARN_DROP, .SWD_ENQ_FRAMES, .SWD_ENQ_CELLS,
   .SWD_QMAX_DROP, .SWD_SHARED_DROP, .SWD_GLOBAL_DROP, .SWD_HEADROOM_DROP, .SWD_PUSHOUT_FRAMES, .SWD_PUSHOUT_CELLS,
   .SWD_FLUSH_FRAMES, .SWD_FLUSH_ABSORBED, .SWD_DOWN_DROP, .SWD_SPILL_CELLS, .SWD_CELL_ECC_DROP, .SWD_TX_UNDERRUN,
   .SWD_DMA_NOBUF, .SW_SAGE_SWEEPS, .SW_SAGE_RECLAIMED, .SW_SAGE_DOUBLE, .BPM_ALLOC, .BPM_FREE, .BPM_FALLBACK,
   .BPM_NOSPACE, .BPM_BAD_RANGE, .BPM_BAD_ALIGN, .BPM_DOUBLE_FREE, .BPM_NOT_OWNER, .BPM_BAD_TARGET, .BPM_RECLAIMED,
   .SCHED_DEQ_FRAMES, .SCHED_DEQ_BYTES, .SCHED_BLOCKED_SELECTIONS, .SCHED_GRANT_IDLE_BYTES, .CIPHP_RX_OPENED,
   .CIPHP_RX_AUTH_FAIL, .CIPHP_RX_REPLAY, .CIPHP_UP_SEALED]

/-- The Ctr names, part 4. -/
def Ctr.all4 : List Ctr :=
  [.CIPHP_UP_NOPN, .CIPHP_RX_CIPHER_BUSY, .CIPH_CACHE_HIT, .CIPH_CACHE_MISS, .CIPH_DERIVATIONS, .CIPH_CMD_AUTH_FAIL,
   .CIPH_XTS_UNITS, .CIPH_HOST_OPEN_FAIL, .WQ_ADMIT, .WQ_DROP, .CORE_DISPATCHED, .CORE_PREEMPTIONS, .CORE_TIMEOUTS,
   .CORE_ITEM_LOST, .CORE_THYME_HELD, .CORE_THYME_SKIPS, .CORE_SUB_STALL, .CORE_LOCK_GRANTS, .CORE_LOCK_WAITS,
   .CORE_LOCK_ABANDONED, .CMD_CMDS_DONE, .CMD_WIN_DENIED, .CMD_INBAND_REPLAY, .CMD_INBAND_REPLY_DROP,
   .CMD_PELDEL_BADCHECK, .CMD_PEER_FOREIGN, .CMD_PEER_SENT, .CMD_PEER_APPLIED, .STORE_PAGES_READ,
   .STORE_PAGES_PROGRAMMED, .STORE_BLOCKS_ERASED, .STORE_BITS_CORRECTED, .STORE_PAGES_UNCORR, .STORE_PROG_REFUSED,
   .STORE_REFRESHES, .STORE_BLOCKS_RETIRED, .STORE_SETTING_FAILED, .PWR_STANDBY_ENTRIES, .PWR_STANDBY_ABANDONED,
   .PWR_STANDBY_DISCARD]

/-- The Ctr names, part 5. -/
def Ctr.all5 : List Ctr :=
  [.PWR_DOZE_ENTRIES, .PWR_DOZE_ABANDONED, .PWR_DVFS_CHANGES, .PWR_THROTTLES, .PWR_RAIL_TIMEOUT, .FLT_REPORTS,
   .FLT_COALESCED, .FLT_REPORTS_LOST, .FLT_L1_RECOVERIES, .FLT_L2_RECOVERIES, .FLT_L3_ENTRIES, .FLT_ESCALATIONS,
   .FLT_RECOVERY_DISCARD, .FLT_EVT_RECORDS, .FLT_EVT_DROPPED, .FLT_EMERGENCY_FLUSHES]

/-- Every Ctr name, in the order of the chapters. -/
def Ctr.all : List Ctr :=
  Ctr.all0 ++ Ctr.all1 ++ Ctr.all2 ++ Ctr.all3 ++ Ctr.all4 ++ Ctr.all5

/-- The reset value of a field instance. The special cases are the fields whose reset depends on the instance: TX_MAP
(Table 6.12), QMAP (Table 6.18), the windows of R325, the doze settings of R384 and the recovery levels of Table 16.1. -/
def Fld.resetAt (f : Fld) (i j : Nat) : Nat :=
  match f with
  | .LN_CFG_TX_MAP => i % 8
  | .PORT_PFC_QMAP => 2 ^ (j % 8)
  | .SW_SHARED_FREE => 269484032
  | .CMD_WIN_VALID => if i = 0 ∧ j = 0 then 1 else 0
  | .CMD_WIN_WRITE => if i = 0 ∧ j = 0 then 1 else 0
  | .CMD_WIN_READ => if i = 0 ∧ j = 0 then 1 else 0
  | .CMD_WIN_LAST => if i = 0 ∧ j = 0 then 2 ^ 52 - 1 else 0
  | .PWR_DOZE_DOZE_EN => if (4 ≤ i ∧ i ≤ 11) ∨ (16 ≤ i ∧ i ≤ 19) ∨ i = 22 then 1 else 0
  | .PWR_DOZE_TIMER_US =>
    if (4 ≤ i ∧ i ≤ 11) ∨ (16 ≤ i ∧ i ≤ 19) then 10
    else if i = 22 then 50
    else if 12 ≤ i ∧ i ≤ 15 then 100
    else if i ≤ 3 then 1000
    else 0
  | .FLT_ACTION_DEFAULT => [0, 0, 1, 1, 1, 2, 3, 3, 3, 0, 0, 0, 0, 0, 3, 0].getD i 0
  | .FLT_ACTION_LEVEL => [0, 0, 1, 1, 1, 2, 3, 3, 3, 0, 0, 0, 0, 0, 3, 0].getD i 0
  | _ => f.row.reset

/-- The BAR0 address of a field instance (R459). -/
def Fld.addr (f : Fld) (i j : Nat) : Nat :=
  let r := f.row
  r.base + r.hi * (i / r.g) + r.lo * (i % r.g) + r.sj * j

/-- The least significant bit of a field instance in its 64-bit word. -/
def Fld.lowBit (f : Fld) (j : Nat) : Nat := f.row.lb + f.row.sl * j

end Sys2Proof.Machine
end

