-- ==== Sys2Proof/Machine/State.lean ====
section
/-!
DEFINITION. The state of the block as plain data: every register field and counter, what the units hold beside their
registers, the pins, the running timers, and the queue of waiting commands; State.reset; the reasons a step can stop.
-/
namespace Sys2Proof.Machine

/-- A raised event on its way to the recorder (R403): code, parameter words, tail bytes. -/
structure Ev where
  code : Nat
  words : List Nat
  tail : List Nat
  deriving DecidableEq, Repr

/-- A symbol of a line subcarrier: the level of each axis, in the units of Table 1.2 (R10). -/
structure LineSym where
  xi : Int
  xq : Int
  yi : Int
  yq : Int
  deriving DecidableEq, Repr

/-- What one subcarrier of a burst carries (R63): ramp symbols at each end, preamble, delimiter and body; every part is sent at the same
average power, so that a level of `body` is one over the root of its format's mean square (1, 5 or 21). -/
structure LineWave where
  sc : Nat
  ramp : Nat
  preamble : List LineSym
  delimiter : List LineSym
  format : Nat
  body : List LineSym
  deriving DecidableEq, Repr

/-- What leaves the device: transfers, frames, DMA writes, interrupts, serial and optical output. The model appends each
to `out`; nothing in the device reads it back. -/
inductive Out where
  | laser (port : Nat) (cmd : Nat) (value : Int)
  | msix (fn vector : Nat)
  | hostWrite (fn addr : Nat) (words : List Nat)
  | hostBytes (fn addr : Nat) (bytes : List Nat)
  | partnerWrite (offset : Nat) (words : List Nat)
  | partnerRead
  | inbandReply (slot cls : Nat) (bytes : List Nat)
  | peldel (bytes : List Nat)
  | rampUp (port upSf start scMask aid power : Nat)
  | burst (port upSf start scMask lastSym aid flags seq : Nat) (bodies : List (Nat × List Nat)) (waves : List LineWave)
    (darkFrom : Nat)
  | rampDown (port : Nat)
  | osp (k block : Nat)
  | tribFrame (port trib slot : Nat) (bytes : List Nat)
  | frame (slot item : Nat) (header bytes : List Nat)
  | cutFrame (slot item : Nat) (bytes : List Nat)
  | abort (port item : Nat)
  | pause (slot quantaMask quanta : Nat)
  | lane (slot what : Nat) (lanes : List LaneOut)
  | ability (slot type media : Nat)
  | tapAnswer (lane : Nat) (answer : TapAnswer)
  | precodeRequest (lane : Nat) (on : Bool)
  | pulse (k : Nat) (high : Bool)
  | clk10m (high : Bool) (at_ : Nat)
  | nand (dev kind block page : Nat) (data : List Nat)
  | pmbus (addr code value : Nat)
  | rail (what : Nat) (high : Bool)
  | tdo (value : Nat)
  deriving DecidableEq, Repr

/-- The clocks that a rule measures from a stated moment. Each is held as (timer, start) in `State.timers`. -/
inductive Timer where
  /-- R82: 16 superframes of SYNC in which the own directory entry must be read. -/
  | returnEntry (n : Nat)
  /-- R89: the ranging timer. -/
  | ranging (n : Nat)
  /-- R87: ASSIGN_WAIT after a presence burst. -/
  | assignWait (n : Nat)
  /-- R96: directory grace. -/
  | dirGrace (n : Nat)
  /-- R98: light returned in HOLDOVER. -/
  | lightBack (n : Nat)
  /-- R100: the last check-in grant used. -/
  | checkin (n : Nat)
  /-- R102: MCLK runs again. -/
  | mclkBack (n : Nat)
  /-- R22: the last STATUS read after a bus fault. -/
  | laserPoll (n : Nat)
  /-- R26: start of the Dill pass in progress. -/
  | dillPass (n : Nat)
  /-- R75: a bin's end, 10 s before it is closed: port, subject, 1 for a 24-hour bin. -/
  | binEnd (n subject day : Nat)
  /-- R326: a fence's wait. -/
  | fence (tag : Nat)
  /-- R331: a status read of the partner issued, and the last one. -/
  | peerRead
  /-- R331: the 1 ms between status reads. -/
  | peerPoll
  /-- R353: the first record of the journal page being filled. -/
  | journalPage
  /-- R115: the last measurement of a domain. -/
  | domainLoss (d : Nat)
  /-- R130: the last 1PPS edge of an input. -/
  | timein (i : Nat)
  deriving DecidableEq, Repr

/-- The input pins the manual names (R432 to R437, R457) and the always-on outputs. -/
structure Pins where
  sysReset : Bool := true
  pwrGood : Bool := true
  pfail : Bool := true
  perst : Bool := true
  pmbAlert : Bool := true
  mainEn : Bool := true
  straps : Nat := 0
  mfgTest : Bool := false
  deriving DecidableEq, Repr

/-- A transfer on a laser control bus (Table 1.4). -/
inductive LaserCmd where
  | setFreq (mhz : Nat)
  | fineTune (ft : Int)
  | output (on : Bool)
  | status
  deriving DecidableEq, Repr

/-- A tap-set swap or channeliser change that waits for its application point (R25, R27, R40). `due` is set at the first
superframe boundary after the request; `waiters` are the commands that reply once it is applied. -/
structure PendingSwap where
  value : Int
  due : Bool
  waiters : List Req
  deriving DecidableEq, Repr

/-- A stretch of symbols of one subcarrier that carries a settling flag, in local time units (R32, R33); `till` is none
while the marking runs until Dill and the deframer have re-acquired; `counted` once SYM_SETTLE holds it. -/
structure Mark where
  sc : Nat
  since : Nat
  till : Option Nat
  counted : Bool
  deriving DecidableEq, Repr

/-- What a line port's modem holds beside its registers (chapter "Coherent line ports"). -/
structure LinePort where
  /-- FT, where the fine-tune loop stands (R20). -/
  ft : Int := 0
  /-- A FINE_TUNE withheld during a burst (R20). -/
  heldFt : Option Int := none
  /-- Consecutive measurements below 50 MHz, and at or above 100 MHz (R21). -/
  goodRun : Nat := 0
  badRun : Nat := 0
  /-- Transfers sent and not acknowledged, oldest first, and failed tries of the oldest (R22). -/
  bus : List LaserCmd := []
  tries : Nat := 0
  /-- The frequency, 0 while a SET_FREQ is owed, and the output state the laser last acknowledged (R22). -/
  laserMHz : Nat := 0
  laserOn : Bool := false
  /-- The frequency of the last SET_FREQ the device owes or has sent; 0: output off. -/
  wantMHz : Nat := 0
  /-- A retune is in progress: SET_FREQ sent and the laser not yet stable (R39). -/
  retuning : Bool := false
  /-- The bus works again, and the FINE_TUNE of step 2 of R22 is not yet acknowledged: the loop of R20 does not run. -/
  resuming : Bool := false
  /-- The SET_FREQ that is owed or sent belongs to a forced retune; once it is acknowledged light counts as lost until
  re-acquisition (R39). -/
  forced : Bool := false
  blind : Bool := false
  /-- No search has succeeded since the last SET_FREQ (Table 1.5). -/
  dillDue : Bool := false
  /-- The offset the channeliser stands at, in MHz (R26). -/
  chanMHz : Option Int := none
  /-- Event 0x0409 was reported in this search (R26). -/
  rateReported : Bool := false
  /-- A re-level is pending and its request lies in an earlier superframe (R25). -/
  stepDue : Bool := false
  cdSwap : Option PendingSwap := none
  eqSwap : Option PendingSwap := none
  /-- Channeliser changes, oldest first (R40). -/
  scSwaps : List PendingSwap := []
  /-- A control subcarrier has been found since reset (R26, R40). -/
  controlKnown : Bool := false
  /-- A trigger of the cause that CAP_CTL names is on its way; the trigger of the armed capture has come (R38). -/
  trigger : Bool := false
  triggered : Bool := false
  /-- Marked symbols (R32). -/
  marks : List Mark := []
  /-- Superframes since the last quality update (R35). -/
  sfCount : Nat := 0
  deriving DecidableEq, Repr

/-- A tributary of a port (R71): where its frames go, its sequence number and its upstream buffer. -/
structure Trib where
  slot : Nat := 0
  dest : Nat := 0
  source : Nat := 0
  vlan : Nat := 0
  seqDown : Nat := 0
  /-- Upstream bytes that wait, in SEQ order, each with the SEQ of the frame that brought it. -/
  buffer : List (Nat × Nat) := []
  deriving DecidableEq, Repr

/-- A performance bin (Table 2.12). -/
structure PmBin where
  start : Nat := 0
  timeSuspect : Bool := false
  part : Bool := false
  valid : Bool := false
  es : Nat := 0
  ses : Nat := 0
  uas : Nat := 0
  suspectS : Nat := 0
  bbe : Nat := 0
  cw : Nat := 0
  cwUncorr : Nat := 0
  deriving DecidableEq, Repr

/-- One classed second of a performance subject, kept while the unavailable-time rule may still move it (R74). -/
structure PmSecond where
  second : Nat
  es : Bool
  ses : Bool
  cw : Nat
  uncorr : Nat
  suspectTime : Bool
  deriving DecidableEq, Repr

/-- The unavailable-time state of a performance subject (R74): seconds of the run not yet settled, newest last. -/
structure PmRun where
  unavailable : Bool := false
  run : List PmSecond := []
  deriving DecidableEq, Repr

/-- A HOST tree message waiting for TREE_MSG_READ (R55). -/
structure HostMsg where
  bcast : Bool
  tid : Nat
  epoch : Nat
  type : Nat
  body : List Nat
  deriving DecidableEq, Repr

/-- A decoded codeword pair (R12 to R14): its place as (superframe, pair), the local times of its first and last symbols, its C1 result,
whether it is suspect, whether the envelope stream passed it over on its way into HUNT (R60), and its data bytes as decoded. -/
structure PairRec where
  sc : Nat
  sf : Nat
  pair : Nat
  first : Nat
  last : Nat
  pass : Bool
  suspect : Bool
  lost : Bool
  data : List Nat
  deriving DecidableEq, Repr

/-- What a line port's deframer and tributary units hold beside their registers ("Superframes, sectors, ..."). -/
structure FramePort where
  /-- Per subcarrier: the predicted next header, as SF_NUMBER * 256 + SECTOR (R46). -/
  predicted : Tab Nat := []
  /-- Per subcarrier: 1 when the header of the sector in progress fits in SYNC (R49). -/
  hdrOk : Tab Nat := []
  /-- A superframe header has been accepted since the search began, so a format map is in force (R47, R50). -/
  mapKnown : Bool := false
  /-- SF_NUMBER of the superframe in progress and the local time of its arrival instant A (R90). -/
  sf : Nat := 0
  arrival : Nat := 0
  /-- The subcarrier whose header of the superframe in progress was taken, if any (R50). -/
  headerTaken : Option Nat := none
  /-- Accepted headers of other subcarriers in the superframe in progress, by subcarrier, and whether the control
  subcarrier's was lost (R50). -/
  offered : Tab Nat := []
  controlLost : Bool := false
  /-- Subcarriers whose superframe header of this superframe has been seen, lost or not (R50). -/
  heard : List Nat := []
  /-- The control subcarrier from the next superframe on (R50). -/
  nextControl : Option Nat := none
  /-- DELTA, beacon flags and identity of the last accepted header (Table 2.6). -/
  delta : Nat := 0
  discoveryOpen : Bool := false
  timeValid : Bool := false
  systemId : Nat := 0
  treeNo : Nat := 0
  /-- The announced format change: the map and the superframe it applies from (R51). -/
  nextMap : Option (Nat × Nat) := none
  /-- Announced page swaps: the downstream superframe, and the anchor superframe of the upstream one (R68). -/
  dnSwapAt : Option Nat := none
  upSwapAt : Option Nat := none
  /-- PAGE_UNREADY was raised for the announcement that stands (R68). -/
  dnUnready : Bool := false
  upUnready : Bool := false
  /-- Remote indications last used per subcarrier, 72 bits (R56). -/
  remote : Tab Nat := []
  /-- Justification counts: last valid one and the one for the next superframe, key sc * 32 + slot (R67). -/
  justLast : Tab Nat := []
  justNext : Tab Nat := []
  /-- The counts of the superframe before this one (R67, R71). -/
  justPrev : Tab Nat := []
  /-- The superframe at whose start the downstream page was swapped last (R68). -/
  dnSwapped : Option Nat := none
  /-- HOST messages that wait, oldest first (R55). -/
  msgs : List HostMsg := []
  /-- Connection memories: key ((direction * 2 + page) * 153,600 + entry); slot tables: sc * 32 + slot, 1 + tributary (R66). -/
  tsi : Tab Nat := []
  slots : Tab Nat := []
  tribs : Tab Trib := []
  /-- Overhead blocks waiting for a grant, (channel, 512-bit block), oldest first (R73). -/
  ohWaiting : List (Nat × Nat) := []
  burstSeq : Nat := 0
  /-- Codeword pairs decoded in PRESYNC and SYNC, of this superframe and the two before it, newest first (R14, R42). -/
  pairs : List PairRec := []
  /-- Bytes of its superframe that each tributary's frames have carried, and that superframe plus 1 (R71). -/
  tribSent : Tab Nat := []
  tribSf : Tab Nat := []
  /-- Codewords of the running second, (counted, uncorrectable) by subject, and subjects that had a defect in it (R74). -/
  pmCw : Tab (Nat × Nat) := []
  pmDefect : List Nat := []
  /-- Anchor superframe, plus 1, of the last burst on AID 63, and the page's cells that its superframe's bursts hold (R70). -/
  tribAnchor : Nat := 0
  tribCells : Nat := 0
  /-- AID last reported and AIDs nonzero in the previous report (R95). -/
  lastAid : Nat := 63
  lastReport : List Nat := []
  /-- Performance bins: key (subject * 2 + kind) * 64 + age, subject 0-15 a subcarrier, 16 the port (R74). -/
  bins : Tab PmBin := []
  runs : Tab PmRun := []
  deriving DecidableEq, Repr

/-- A grant accepted and not yet used up (R53, R93); times in local time units. -/
structure Grant where
  aid : Nat
  scMask : Nat
  start : Nat
  length : Nat
  profile : Nat
  ranging : Bool
  longPreamble : Bool
  reportReq : Bool
  checkin : Bool
  /-- The downstream superframe that carried it, its anchor and the upstream superframe's number (R54, R92). -/
  carried : Nat
  anchor : Nat
  upSf : Nat
  /-- EqD and trim in force for it, in local time units from its anchor's arrival, and its profile's value (R85, R91). -/
  offset : Nat
  prof : Nat
  /-- Window in symbols of the upstream superframe: START and the last symbol of ramp-down (R63). -/
  lastSym : Nat
  deriving DecidableEq, Repr

/-- A window of Bay's table (R101). -/
structure BayWindow where
  anchor : Nat
  start : Nat
  lastSym : Nat
  deriving DecidableEq, Repr

/-- One subcarrier's stream of a burst body: its bytes after the burst header, how many it can hold, and whether its last 8 are kept
for an ABORT (R144). -/
structure BodyStream where
  sc : Nat
  cap : Nat
  reserve : Bool
  bytes : List Nat
  deriving DecidableEq, Repr

/-- A frame in a burst body: its copy, the local times at which its envelope starts and ends on the line, the stream and the byte where
the envelope begins, and the envelope's LENGTH. -/
structure Placed where
  copy : Nat
  from_ : Nat
  to_ : Nat
  stream : Nat
  pos : Nat
  len : Nat
  deriving DecidableEq, Repr

/-- The burst in progress or being built (R63, R98). -/
structure Burst where
  grant : Grant
  /-- The local instant of its body's first symbol (R63, R91). -/
  bodyFrom : Nat
  /-- The NONCE of a presence burst (R86). -/
  presence : Option Nat
  /-- The frames it carries, in the order they were placed. -/
  placed : List Placed
  onAir : Bool
  /-- DOZE flag of its header (R99, R100). -/
  doze : Bool
  /-- What it carries: its header's flags, its number once it is on the air, its reports, and per masked subcarrier the stream after
  the header (R59, R65, R95). -/
  flags : Nat
  seq : Nat
  reports : List (Nat × Nat)
  streams : List BodyStream
  /-- The burst header of the lowest masked subcarrier, and that of the others, once it is on the air (R65). -/
  head : List Nat := []
  headRest : List Nat := []
  /-- A truncated burst: when its ramp-down ends (R97, R98). -/
  cutTo : Option Nat := none
  deriving DecidableEq, Repr

/-- Values of a RANGE message that wait for their superframe (R85). -/
structure RangeValues where
  eqd : Nat
  trim : Nat
  delay : Nat
  apply : Nat
  carried : Nat
  deriving DecidableEq, Repr

/-- Values of a PROFILE message that wait for their superframe (R85): (index, value) pairs. -/
structure ProfileValues where
  entries : List (Nat × Nat)
  apply : Nat
  carried : Nat
  deriving DecidableEq, Repr

/-- A presence burst that waits for its window (R86). -/
structure Presence where
  upSf : Nat
  start : Nat
  scMask : Nat
  profile : Nat
  eqd : Nat
  nonce : Nat
  deriving DecidableEq, Repr

/-- What a terminal holds beside its registers ("Joining, ranging and staying on the tree"). -/
structure Terminal where
  /-- Join state, a persistent setting (R351). -/
  joined : Bool := false
  /-- The silence clock's start in local time and the state it started from (R79, R82). -/
  silentSince : Option Nat := none
  silentFrom : Nat := 0
  /-- Step 2 of the return rule: own directory entry awaited (R82). -/
  awaiting : Bool := false
  /-- A ranging that follows an outage (OUTAGE_END with outcome 1 or 2). -/
  afterOutage : Bool := false
  /-- The silence S that the return rule read, in ms (R82). -/
  outageMs : Nat := 0
  mismatchSeen : Bool := false
  /-- Bay's SYNC cause is due: downstream loss and its local time (Table 3.8). -/
  lossAt : Option Nat := none
  presence : Option Presence := none
  /-- NONCE of the presence burst sent, while ASSIGN is awaited (R87). -/
  nonce : Option Nat := none
  backoff : Nat := 0
  skip : Nat := 0
  grants : List Grant := []
  burst : Option Burst := none
  /-- Bursts whose bodies are being built, in the order of their windows (R98). -/
  built : List Burst := []
  windows : List BayWindow := []
  /-- Newest upstream superframe for which a grant was accepted (R85). -/
  lastUpSf : Option Nat := none
  rangeNext : List RangeValues := []
  profileNext : List ProfileValues := []
  /-- The values under those that wait, where some wait (R92): of RANGE, and of the 16 profiles. -/
  rangeBase : Option RangeValues := none
  profileBase : Option (List Nat) := none
  wakePending : Bool := false
  /-- What STATE_CHANGE names as the cause of the wake that is pending (R107). -/
  wakeCause : Nat := 0
  dozeMissed : Bool := false
  /-- The transmit path is powered (R99). -/
  txPowered : Bool := true
  deriving DecidableEq, Repr

/-- A time domain beside its registers (R111, R115): its time `base` at local time `since`, its frequency offset in 2^-16
ppb, runs of measurements, the start of holdover and of the unbroken LOCKED stretch, seconds of the next 1PPS edge. -/
structure Domain where
  base : Nat := 0
  since : Nat := 0
  freq : Int := 0
  first : Bool := true
  goodRun : Nat := 0
  badRun : Nat := 0
  holdSince : Nat := 0
  lockedSince : Option Nat := none
  nextSec : Option Nat := none
  deriving DecidableEq, Repr

/-- A pulse output (R128): its level, the service times of its next rise and its next fall, and a schedule that waits for
the pulse to end. -/
structure Pulse where
  high : Bool := false
  next : Option Nat := none
  fallAt : Nat := 0
  waiting : List WEntry := []
  deriving DecidableEq, Repr

/-- CLK10M_OUT (R129): its level, the local time of its last edge, and the service time of its next one where it runs on service time in
phase. -/
structure Clk10 where
  high : Bool := false
  last : Nat := 0
  next : Option Nat := none
  deriving DecidableEq, Repr

/-- The time unit beside its registers ("Time, timestamps and timed launch"). -/
structure TimeState where
  domains : Tab Domain := []
  /-- The residual O in 2^-16 ns and the local time from which it is slewed (R117). -/
  residual : Int := 0
  residualAt : Nat := 0
  /-- The secondary domain was selected automatically (R118). -/
  autoSelected : Bool := false
  pulses : Tab Pulse := []
  clk10 : Clk10 := {}
  /-- The local time of the last TIME_SELECT, and the selection before the first one of that instant (R119). -/
  commanded : Option (Nat × Nat) := none
  /-- Two-step rings, 16-byte entries, oldest first; 1 where TS_OVERFLOW was raised and not cleared (R123). -/
  rings : Tab (List Nat) := []
  overflowed : Tab Nat := []
  deriving DecidableEq, Repr

/-- Where an item came from (R134). `got` counts from `State.items`' own `since` (R140). -/
inductive Origin where
  | line (port sc : Nat)
  | host (slot : Nat)
  | core (item : Nat)
  | hostTx (fn : Nat)
  | generator (k : Nat)
  deriving DecidableEq, Repr

/-- What a policer says of an item (R135, R263): colour 0 green, 1 yellow, 2 red; action of Table 10.4; remark class. -/
structure PolResult where
  colour : Nat
  action : Nat
  cls : Nat
  deriving DecidableEq, Repr

/-- The parse result of Table 7.1: records as (type, offset), and the flags of R181. -/
structure Parsed where
  records : List (Nat × Nat) := []
  parseErr : Bool := false
  innerFail : Bool := false
  frag : Bool := false
  l4Absent : Bool := false
  errCode : Nat := 0
  errIndex : Nat := 0
  profile : Nat := 0
  outerIp : Nat := 31
  /-- Role and offset of the outermost IP header (R180): 0 none, 1 IPv4, 2 IPv6. -/
  outerRole : Nat := 0
  outerOff : Nat := 0
  payload : Nat := 0
  deriving DecidableEq, Repr

/-- What becomes of an item: dropped, an exception class (R193), a local consumer (R165: 0 filter drop, 1 time-slot
interchange, 2 command dispatcher), or forwarded to a destination with class, AID, virtual port and the next-hop entry,
as the decision read it, whose edits it takes (0: none; R213); `tag` is the free value of a pushed tag's unstated bits. -/
inductive Decision where
  | drop
  | exception (cls : Nat)
  | consumed (what : Nat)
  | forward (dest cls aid vport nh tag : Nat)
  deriving DecidableEq, Repr

/-- A lookup profile (Table 8.8). -/
structure LookupProfile where
  emEn : Bool := false
  emOff : Nat := 0
  emTable : Nat := 0
  lpmEn : Bool := false
  lpmV6 : Bool := false
  lpmOff : Nat := 0
  vrfSrc : Bool := false
  vrf : Nat := 0
  prec : Bool := false
  learnEn : Bool := false
  learnOff : Nat := 0
  learnTable : Nat := 0
  miss : Bool := false
  missExc : Nat := 0
  deriving DecidableEq, Repr

/-- An item on the packet path (R134). `points` are what it still waits for: 0 the forwarding decision, 1 to 5 the
confirmation points of Table 5.1. -/
structure Item where
  origin : Origin := .host 0
  slot : Nat := 0
  bytes : List Nat := []
  points : List Nat := []
  /-- The codeword pairs that carry its envelope, as (superframe, pair) (R134). -/
  pairs : List (Nat × Nat) := []
  failed : Option Nat := none
  /-- Local time of its first byte, and its arrival rate in bytes per µs (R140). -/
  since : Nat := 0
  rate : Nat := 0
  /-- Receive class (R164) and, where it is a lossless candidate, ingress priority (R165, R228). -/
  rxClass : Nat := 0
  prio : Option Nat := none
  vport : Nat := 0
  /-- DIRECT of a system header (R176): destination, class, AID; parsed but not classified. -/
  direct : Option (Nat × Nat × Nat) := none
  /-- ENC_PACKET: envelope header, key index, broadcast flag, packet number (R277); the job is still to be done. -/
  enc : Option (Nat × Nat × Bool × Nat) := none
  sealed : Bool := false
  /-- In-band command, mirror or sampled copy and the like: never released unconfirmed (R150). -/
  held : Bool := false
  /-- Timed launch: short timestamp and LATE flag (R125, R127). -/
  launch : Option (Nat × Bool) := none
  /-- STAMP of Table 6.6; receive short timestamp (R121 to R123). -/
  stamp : Nat := 0
  rxStamp : Option Nat := none
  parsed : Option Parsed := none
  /-- The key, and WIDE of the profile it was built by (R183, R191). -/
  key : Nat := 0
  wide : Bool := false
  /-- The lookup profile its lookup began under (R219), and the source MAC address its next hop writes (Table 8.4). -/
  lprof : LookupProfile := {}
  smac : Nat := 0
  /-- The recirculation it came by, plus 1; 0 none (Table 9.1). -/
  recirc : Nat := 0
  /-- The rule that matched, its action word, the plane generation it was searched under (R191), its pipeline cluster. -/
  rule : Option Nat := none
  action : Nat := 0
  gen : Nat := 0
  cluster : Nat := 0
  /-- What waits for confirmation (R142): counter increments, EM keys hit, rule hit, a learn notice (key, moved, old USER). -/
  counts : List (Ctr × Nat × Nat × Nat) := []
  /-- Counter increments that its admission under a provisional decision has made due (R142, R203). -/
  admission : List (Ctr × Nat × Nat × Nat) := []
  hits : List Nat := []
  learn : Option (Nat × Bool × Nat) := none
  /-- The forwarding decision, as its policer's result leaves it, and as it was before (R135). -/
  decision : Option Decision := none
  base : Option Decision := none
  policer : Option Nat := none
  provisional : Option PolResult := none
  /-- R145: retracted at its deadline; treated as under BALANCED. -/
  noSpec : Bool := false
  /-- Destinations whose flush discarded it before its outcome was known (R235). -/
  flushed : List Nat := []
  /-- FORWARD_DEI of the committed result (R263). -/
  dei : Bool := false
  deriving DecidableEq, Repr

/-- A copy of an item in an egress queue, or in transmission (R221, R223). -/
structure Copy where
  item : Nat := 0
  queue : Nat := 0
  dest : Nat := 0
  cls : Nat := 0
  aid : Nat := 0
  cells : Nat := 0
  /-- Bytes on the egress wire without FCS and system header, after edits. -/
  len : Nat := 0
  /-- Ingress slot and priority where they are accounted (R228). -/
  ing : Option (Nat × Nat) := none
  /-- Cells charged to shared space (R227). -/
  charged : Nat := 0
  /-- Cells that lie in HBM (R225). -/
  hbm : Nat := 0
  /-- Cells that were written to HBM when it was admitted (R225, SPILL_CELLS). -/
  spilt : Nat := 0
  /-- A multicast, mirrored or sampled copy beside the forwarded one (R223). -/
  extra : Bool := false
  /-- Counted in the read-back accounts: its confirmation is known (R230). -/
  counted : Bool := false
  markedBy : Option Nat := none
  /-- 0 queued; 1 dequeued, waiting in a MAC queue, a burst body or a consumer; 2 being sent; 3 ended, to be debited. -/
  phase : Nat := 0
  spec : Bool := false
  /-- Its start is counted: in SPEC_START where it was speculative (R146), in TIMED_SENT where `timed` is 1, in TIMED_LATE_SENT where it is
  2 (R127). -/
  startCounted : Bool := false
  timed : Nat := 0
  /-- Begun under a release behaviour that a change of mode has replaced since (R141). -/
  old : Bool := false
  begunAt : Nat := 0
  /-- The time that a stamp of it denotes (R120, R122, R123). -/
  sentTime : Nat := 0
  /-- Bytes sent when it ended (R146, R257). -/
  sent : Nat := 0
  ok : Bool := false
  /-- The nodes on its path, with the overhead of each one's length profile when it was dequeued (R256, R260). -/
  reserved : List (Nat × Int) := []
  deriving DecidableEq, Repr

/-- The lane settings taken over at the last entry to TRAINING (Table 6.9): precoding settings, polarities, map, the six
FFE_INIT coefficients. -/
structure LaneForce where
  precodeTx : Nat := 0
  precodeRx : Nat := 0
  polTx : Nat := 0
  polRx : Nat := 0
  txMap : Nat := 0
  ffe : List Nat := []
  /-- The partner has requested precoding in this training (R155, R159). -/
  asked : Bool := false
  deriving DecidableEq, Repr

/-- What a host port holds beside its registers ("Host lanes and Ethernet ports"); times in local time. -/
structure HostPort where
  /-- Entry into the link state in force (training and alignment timers, R158). -/
  since : Nat := 0
  /-- ALIGNING was entered from FAST_RETRAIN (R158). -/
  fromFrt : Bool := false
  /-- The fast retrain in progress (R160): start, lanes that lost lock, whether this side began it, partner blocks seen. -/
  frtSince : Nat := 0
  frtLost : Nat := 0
  frtBegan : Bool := false
  frtSeen : Bool := false
  /-- Pauses: end of each paused priority and the moment it became paused; 8 is 802.3x (R169, R170). -/
  pauseEnd : Tab Nat := []
  pausedSince : Tab Nat := []
  /-- Start of each override, plus 1 (R170). -/
  override_ : Tab Nat := []
  /-- When the last pause frame of a called priority became due, plus 1 (R169). -/
  pauseSent : Tab Nat := []
  /-- Events of the slot raise the lane cluster's vector (Table 6.9). -/
  evtEnable : Bool := false
  /-- Since when every transmit queue has been empty and no pause frame due, plus 1 (R162). -/
  idleSince : Nat := 0
  /-- No frame starts before this instant: T_W_US after LPI (R162). -/
  holdUntil : Nat := 0
  /-- The wake pattern's end (R163). -/
  wakeEnd : Nat := 0
  /-- The link left UP without being disabled, plus 1 (R234). -/
  downSince : Nat := 0
  /-- Local Fault is sent since, plus 1 (Table 16.5). -/
  lfSince : Nat := 0
  deriving DecidableEq, Repr

/-- The host side beside its registers. -/
structure HostState where
  ports : Tab HostPort := []
  lanes : Tab LaneForce := []
  deriving DecidableEq, Repr


/-- A rule entry (R184): key value and mask of 256 bits, action and control words. -/
structure Rule where
  value : Nat := 0
  mask : Nat := 0
  action : Nat := 0
  control : Nat := 0
  deriving DecidableEq, Repr

/-- One bank of the parser graph and the key profiles (R189): HTYPE and HTRANS words, profiles. -/
structure ParserBank where
  htype : Tab Nat := []
  htrans : Tab Nat := []
  profiles : Tab KeyProfile := []
  deriving DecidableEq, Repr

/-- An exception bucket beside its register (R194): level in millionths of a packet, changes awaited, EXC_LIMIT raised. -/
structure ExcBucket where
  level : Nat := 0
  rate : Nat := 10000
  burst : Nat := 64
  dropping : Bool := false
  deriving DecidableEq, Repr

/-- The classification unit ("Parsing and classification"). -/
structure ClassState where
  /-- Active and standby banks of each pipeline cluster (R189, R192). -/
  active : Tab ParserBank := []
  standby : Tab ParserBank := []
  /-- The master copy and the four replicas, key replica * 65,536 + entry (R187); the next entry to compare. -/
  master : Tab Rule := []
  replicas : Tab Rule := []
  checkPos : Nat := 0
  checkSince : Nat := 0
  /-- Hit counters of the entries (R188). -/
  hits : Tab Nat := []
  exc : Tab ExcBucket := []
  excSince : Nat := 0
  /-- Clusters that have to load banks and generation before they take traffic (R192). -/
  loading : Tab Nat := []
  /-- Confirmed exceptions on their way to a work queue: (class, item). -/
  delivered : List (Nat × Nat) := []
  deriving DecidableEq, Repr

/-- A valid exact-match entry (Table 8.2). -/
structure EmEntry where
  key : Nat := 0
  kind : Nat := 0
  index : Nat := 0
  user : Nat := 0
  valid : Bool := false
  hit : Bool := false
  deriving DecidableEq, Repr

/-- One half of an associative-memory slot (R209): an 80-bit entry and its result word. FAMILY 3 is free. -/
structure LpmHalf where
  family : Nat := 3
  vrf : Nat := 0
  addr : Nat := 0
  result : Nat := 0
  deriving DecidableEq, Repr

/-- A slot of the associative memory (R209). -/
structure LpmSlot where
  hi : LpmHalf := {}
  lo : LpmHalf := {}
  deriving DecidableEq, Repr

/-- The tables a snapshot holds (R217). -/
structure Tables where
  /-- On-die exact-match entries, key bucket * 4 + way. -/
  em : Tab EmEntry := []
  lpm : Tab LpmSlot := []
  /-- First slot of each group's range, by group (R210). -/
  lpmStart : Tab Nat := []
  nextHop : Tab Nat := []
  ecmpGroup : Tab Nat := []
  ecmpMember : Tab Nat := []
  deriving DecidableEq, Repr

/-- A snapshot (R217). -/
structure Snapshot where
  gen : Nat
  version : Nat
  serials : List Nat
  tables : Tables
  deriving DecidableEq, Repr

/-- The table cluster beside its registers ("Forwarding tables and learning"). -/
structure TableState where
  t : Tables := {}
  /-- The HBM extension, key bucket * 4 + way. -/
  ext : Tab EmEntry := []
  /-- The summary filter and the shadow array of a running rebuild: positions that hold 1 (R204, R205). -/
  filter : Tab Nat := []
  shadow : Option (Tab Nat) := none
  deletes : Nat := 0
  /-- Learning (R215, R216): ring base, next sequence number, LEARN_OVERFLOW raised, keys pending with their instants. -/
  learnBase : Nat := 0
  learnSeq : Nat := 0
  learnFull : Bool := false
  learnHold : List (Nat × Nat) := []
  /-- Snapshots: in writing (with the copy it goes to), and the two copies of the store (R217). -/
  staging : Option (Nat × Snapshot) := none
  copies : Tab (Option Snapshot) := []
  /-- The copy committed last, 1 + its number; 0 none. -/
  newest : Nat := 0
  deriving DecidableEq, Repr

/-- A queue record (Table 9.7), and the queue: copies in order of admission. -/
structure Queue where
  dest : Nat := 0
  cls : Nat := 0
  pool : Nat := 0
  min : Nat := 0
  max : Nat := 0
  wq : Nat := 0
  spilled : Bool := false
  copies : List Nat := []
  deriving DecidableEq, Repr

/-- A cell that Sage has found without a holder in the sweep in progress (R237 to R239): leaked or doubly owned cells. -/
structure SageState where
  /-- Leaked cells seen once: (cell, tag), SRAM and HBM. -/
  seen : List (Nat × Nat) := []
  doubles : List Nat := []
  reclaimedSram : Nat := 0
  reclaimedHbm : Nat := 0
  deriving DecidableEq, Repr

/-- A buffer's record (R243). -/
structure Buffer where
  out : Bool := false
  owner : Nat := 0
  since : Nat := 0
  deriving DecidableEq, Repr

/-- A buffer pool beside its registers (R240, R242): its records by index, the ring and the cache, next index first. The
indices from `first` up to COUNT stand in the ring ahead of `ring`. -/
structure Pool where
  bufs : Tab Buffer := []
  first : Nat := 0
  ring : List Nat := []
  cache : List Nat := []
  deriving DecidableEq, Repr

/-- The switch core beside its registers ("Switch core, cell store and buffer pools"). -/
structure SwitchState where
  queues : Tab Queue := []
  /-- MAC transmit queues, key slot * 8 + class: copies handed over, at most two (R259). -/
  mac : Tab (List Nat) := []
  /-- The copy on the wire of a host slot. -/
  sending : Tab Nat := []
  /-- Flushes that run: destination -> (started, frames freed so far); all: whole-store flush. -/
  flushFreed : Tab Nat := []
  flushSince : Tab Nat := []
  wholeFlush : Bool := false
  /-- Frames delivered to CORE and not yet taken: (queue, item, buffer address, len) (R248). -/
  toCore : List (Nat × Nat × Nat × Nat) := []
  /-- Pause frames due per host slot: (priority mask, quanta of each) (R169). -/
  pauseDue : Tab (List (Nat × Nat)) := []
  sage : SageState := {}
  pools : Tab Pool := []
  /-- What the buffers of the region hold: the bytes written from an address of the region on (R240, R248). -/
  region : Tab (List Nat) := []
  /-- BPM region size in force (GiB), applied at boot; bytes of an audit that runs. -/
  regionGib : Nat := 2
  auditSince : Option Nat := none
  deriving DecidableEq, Repr

/-- A bucket pair's configuration (Table 10.8). -/
structure BucketCfg where
  cirRate : Nat := 0
  pirRate : Nat := 0
  cirBurst : Nat := 0
  pirBurst : Nat := 0
  cirEn : Bool := false
  pirEn : Bool := false
  deriving DecidableEq, Repr

/-- A scheduler node (Table 10.8): configuration in force, the one that waits for a refill (R258), levels in 2^-16 bytes,
outstanding reservations, deficit, and the children last served by round robin and by deficit round robin (R256). -/
structure Node where
  cfg : BucketCfg := {}
  next : Option BucketCfg := none
  /-- The local microsecond in which the change was made: it takes effect at a later refill. -/
  nextAt : Nat := 0
  mapped : Bool := false
  lenProf : Nat := 0
  weight : Nat := 1
  parent : Nat := 0
  cir : Int := 0
  pir : Int := 0
  held : Nat := 0
  deficit : Nat := 0
  last : Nat := 0
  drrLast : Nat := 0
  deriving DecidableEq, Repr

/-- A policer's configuration (Table 10.9). -/
structure PolCfg where
  cir : Nat := 0
  pir : Nat := 0
  cbs : Nat := 0
  ebs : Nat := 0
  trtcm : Bool := false
  aware : Bool := false
  src : Nat := 0
  lenProf : Nat := 0
  remark : Nat := 0
  green : Nat := 0
  yellow : Nat := 0
  red : Nat := 0
  deriving DecidableEq, Repr

/-- A policer (Table 10.9): levels in 2^-16 bytes; counters green, yellow, red, dropped as (packets, bytes). -/
structure Policer where
  cfg : PolCfg := {}
  next : Option PolCfg := none
  nextAt : Nat := 0
  tc : Nat := 0
  te : Nat := 0
  greenPkts : Nat := 0
  greenBytes : Nat := 0
  yellowPkts : Nat := 0
  yellowBytes : Nat := 0
  redPkts : Nat := 0
  redBytes : Nat := 0
  dropPkts : Nat := 0
  dropBytes : Nat := 0
  deriving DecidableEq, Repr

/-- The scheduler and the policers ("Scheduling, shaping and policing"). Node key: level * 131,072 + number. -/
structure SchedState where
  nodes : Tab Node := []
  policers : Tab Policer := []
  /-- The last refill's microsecond of the local counter (R257). -/
  refilled : Nat := 0
  deriving DecidableEq, Repr

/-- A replay window (R279): highest PN accepted and the bitmap of the 4,096 PNs up to it, bit 0 the highest. -/
structure ReplayWin where
  high : Nat := 0
  seen : Nat := 0
  deriving DecidableEq, Repr

/-- A key slot (Tables 11.1 and 11.11), with its key material, which no path reads. -/
structure KeySlot where
  type : Nat := 0
  persist : Bool := false
  use : Nat := 0
  rootSlot : Nat := 0
  gen : Nat := 0
  label : List Nat := []
  key : Nat := 0
  deriving DecidableEq, Repr

/-- A tree secret (R282): key, generation, kept in the store. -/
structure TreeSecret where
  key : Nat := 0
  gen : Nat := 0
  persist : Bool := false
  deriving DecidableEq, Repr

/-- The root of a derived key (R270, R276): a tree secret, the device root key, or a page's slot. -/
inductive RootRef where
  | tree (n : Nat)
  | device
  | slot (page k : Nat)
  deriving DecidableEq, Repr

/-- A derived key in the cache (R276). -/
structure CacheKey where
  root : RootRef
  gen : Nat
  label : List Nat
  deriving DecidableEq, Repr

/-- A line job accepted by a cipher cluster (R268): the cluster, the item it decrypts. -/
structure LineJob where
  cluster : Nat
  port : Nat
  item : Nat
  /-- The cache entry it uses, and the key it took when it started (R276, R289). -/
  entry : CacheKey
  key : Nat
  deriving DecidableEq, Repr

/-- The cipher clusters beside their registers ("Cipher engines and keys"). -/
structure CipherState where
  /-- Replay windows, key port * 8 + broadcast * 4 + index (R279). -/
  replay : Tab ReplayWin := []
  /-- Key slots, key page * 256 + slot (R271). -/
  slots : Tab KeySlot := []
  secrets : Tab TreeSecret := []
  /-- The device root key as loaded at boot (R285). -/
  rootKey : Nat := 0
  /-- The STORE_DATA and STORE_TWEAK keys, derived at boot and pinned for the life of it; none while the store is unusable (R284). -/
  storeKeys : Option (Nat × Nat) := none
  rootDoubtSaid : Bool := false
  /-- Line jobs in the clusters, oldest first (R268). -/
  jobs : List LineJob := []
  /-- Derived keys cached, least recently used first; misses whose derivation runs (R276). -/
  cache : List CacheKey := []
  deriving_ : List CacheKey := []
  /-- Pinned entries that CIPH_CACHE_FLUSH empties when their jobs end (R276). -/
  flushing : List CacheKey := []
  /-- NO_KEY raised and not re-armed: port * 16 + direction * 4 + index (R278, R280). -/
  noKey : List Nat := []
  /-- KEY_ID written by CIPH_LINE_KEY since the boot: port * 4 + index (R281). -/
  keyIdNew : List Nat := []
  deriving DecidableEq, Repr


/-- A work item (R293, R295). Phases: 0 waiting, 1 running, 2 pre-empted and waiting, 3 ended and held by Thyme. -/
structure Work where
  /-- Submitting function; none for an internal item. -/
  fn : Option Nat := none
  queue : Nat := 0
  /-- Ordered flow (R301). -/
  flow : Option Nat := none
  preemptible : Bool := false
  returnBuf : Bool := false
  service : Nat := 0
  tag : Nat := 0
  bufAddr : Nat := 0
  bufLen : Nat := 0
  args : List Nat := []
  /-- Internal items: ingress slot, exception class, parse result, metadata block, the frame's bytes (R182, R295). -/
  slot : Nat := 0
  exc : Option Nat := none
  parse : List Nat := []
  metaBlock : List Nat := []
  frame : List Nat := []
  /-- 0 waiting, 1 running, 2 pre-empted and waiting, 3 ended, 4 being saved on its core (R298). -/
  phase : Nat := 0
  /-- The waiting item for which it is being saved (R298). -/
  savedFor : Option Nat := none
  core : Nat := 0
  /-- When it last started on a core, its run time before that, and its place in the order of dispatch (R298, R299). -/
  startedAt : Nat := 0
  ran : Nat := 0
  turn : Nat := 0
  /-- Its result, once ended, and the frames it emits: (destination, class, AID, bytes) (R302). -/
  status : Nat := 0
  outLen : Nat := 0
  data : Nat := 0
  frames : List (Nat × Nat × Nat × List Nat) := []
  /-- Its function was reset: its result is discarded (R305). -/
  dead : Bool := false
  deriving DecidableEq, Repr

/-- Who holds or waits for a lock (R306). -/
structure LockWait where
  owner : LockOwner
  req : Option Req
  since : Nat
  waitUs : Nat
  deriving DecidableEq, Repr

/-- A hardware lock beside its register (R306). -/
structure Lock where
  holder : Option LockOwner := none
  waiters : List LockWait := []
  deriving DecidableEq, Repr

/-- A function's work rings (R303): bases, sizes as powers of two, result entries reserved. -/
structure WorkRing where
  subBase : Nat := 0
  subLog2 : Nat := 0
  resBase : Nat := 0
  resLog2 : Nat := 0
  reserved : Nat := 0
  deriving DecidableEq, Repr

/-- The core cluster beside its registers ("Work cores, task scheduling and locks"). -/
structure CoreState where
  works : Tab Work := []
  nextWork : Nat := 1
  /-- Waiting items of each queue, in order: pre-empted ones first (R297). -/
  waiting : Tab (List Nat) := []
  /-- The queue served last at each priority, plus 1 (R297). -/
  served : Tab Nat := []
  turns : Nat := 0
  /-- Unreleased items of each ordered flow, in sequence order (R302). -/
  flows : Tab (List Nat) := []
  rings : Tab WorkRing := []
  locks : Tab Lock := []
  /-- Queues in a run of drops (WQ_DROP). -/
  dropping : List Nat := []
  deriving DecidableEq, Repr


/-- A command carried out whose reply is not yet written (R316, R319, R321). Data in 64-bit words of network order. -/
structure Reply where
  req : Req
  op : Nat
  status : Nat
  detail : Nat
  data : List Nat
  deriving DecidableEq, Repr

/-- A submission entry read by the device (Table 13.4), waiting for its completion. -/
structure Taken where
  fn : Nat
  index : Nat
  replyAddr : Nat
  replyCap : Nat
  deriving DecidableEq, Repr

/-- One line of a function's history of completions (R324). -/
structure Hist where
  tag : Nat
  op : Nat
  status : Nat
  detail : Nat
  count : Nat
  deriving DecidableEq, Repr

/-- What an atomic command staged in its participants (R313). -/
inductive Act where
  | regs (es : List WEntry)
  | trib (port t slot dest source vlan : Nat)
  | clsFlip
  | tblProfile (es : List WEntry)
  | learn (base hold : Nat)
  | lineKey (es : List WEntry)
  | fnFlows (es : List WEntry)
  | mode (m : Nat)
  | windows (fn : Nat) (pairs : List (Nat × Nat))
  | peer (es : List WEntry)
  | hostPort (es : List WEntry)
  | timeConfig (es : List WEntry)
  | poolConfig (es : List WEntry)
  deriving DecidableEq, Repr

/-- A staged atomic command (R313): its request, opcode, participants and what it stages. -/
structure Staged where
  req : Req
  op : Nat
  parts : List Nat
  persist : Bool
  act : Act
  /-- Participants that were reset after the staging: their acknowledgement is withdrawn (R313). -/
  withdrew : List Nat := []
  deriving DecidableEq, Repr

/-- A FENCE that waits (R326): rule set, function, the generation it was accepted under, and its limit. -/
structure FenceWait where
  req : Req
  set : Nat
  fn : Nat
  gen : Nat
  since : Nat
  limitUs : Nat
  deriving DecidableEq, Repr

/-- A mirror record (Table 13.7), its packet kept as the header's numbers and a length. -/
structure MirrorRec where
  seq : Nat
  op : Nat
  len : Nat
  checkOk : Bool
  deriving DecidableEq, Repr

/-- The command channel beside its registers ("Command channel and host interface"). -/
structure CmdState where
  /-- The dispatcher takes commands: since BOOT_DONE (R356). -/
  accepting : Bool := false
  taken : List Taken := []
  /-- Completion entries reserved and not yet written, and rings being disabled, per function (R316, R324). -/
  reserved : Tab Nat := []
  /-- In-band commands in progress: slot, source address, tag bytes, user (R318, R319). -/
  inband : List (Nat × Nat × List Nat × Nat) := []
  replies : List Reply := []
  /-- History of the last 64 completions and completion count of each function (R324). -/
  history : Tab (List Hist) := []
  counts : Tab Nat := []
  staged : List Staged := []
  fences : List FenceWait := []
  /-- Peldel: a command runs; the reply that a read returns (R321). -/
  peldelBusy : Bool := false
  peldelReply : Option Reply := none
  /-- Active side of mirroring: last SEQ, offset of the next record in the partner's area, records that wait, their bytes (R329). -/
  mirrorSeq : Nat := 0
  mirrorPos : Nat := 0
  mirrorQueue : List MirrorRec := []
  mirrorBytes : Nat := 0
  /-- Standby side: records in the receive area and the SEQ last applied (R330). -/
  rxRecords : List MirrorRec := []
  rxSeq : Nat := 0
  /-- Records that were complete when the device became active: the last it applies (R330). -/
  rxDrain : Nat := 0
  applying : Option Nat := none
  /-- Refused in-band replies sent in the running second, per slot (R319). -/
  refusedSent : Tab Nat := []
  deriving DecidableEq, Repr

/-- A record of the settings journal (Table 14.6): kind, sequence number, opcode, the indices its entries name (by which it
supersedes earlier records, R352) and its size in bytes. The packet's bytes are not kept. -/
structure JRec where
  kind : Nat
  seq : Nat
  op : Nat
  keys : List Nat
  bytes : Nat
  /-- SEQ of the first of the records that one command takes (R353). -/
  first : Nat := 0
  deriving DecidableEq, Repr

/-- The settings journal (R352, R353): records durable in the store, records of the page being programmed, and of the page
being filled, with the bytes that page uses; the last SEQ. -/
structure Journal where
  stored : List JRec := []
  programming : Option (List JRec) := none
  filling : List JRec := []
  fill : Nat := 0
  seq : Nat := 0
  /-- Pages of the settings area in use (R352). -/
  pages : Nat := 0
  deriving DecidableEq, Repr

/-- An event record (Table 16.7). -/
structure EvtRec where
  code : Nat
  flags : Nat
  seq : Nat
  words : List Nat
  tail : List Nat
  deriving DecidableEq, Repr

/-- The current anchor record (Table 14.4). -/
structure Anchor where
  seq : Nat := 1
  bootSlot : Nat := 0
  trial : Bool := false
  fallback : Bool := false
  trialCount : Nat := 0
  versions : List Nat := [0, 0]
  deriving DecidableEq, Repr

/-- What a NAND operation in progress carries to the store (R346): a page of event records, a tail page, a journal page, an
anchor record with the event it raises once current, a page of an image slot, a patrol or scrub read; raw commands with
their requests. -/
inductive NandTask where
  | events (area : Nat) (recs : List EvtRec)
  | tail (recs : List EvtRec)
  | journal (recs : List JRec)
  | anchor (a : Anchor) (ev : List Ev)
  | image (slot : Nat)
  | rawProgram (q : Req) (data : List Nat)
  | rawErase (q : Req)
  | rawRead (q : Req)
  deriving DecidableEq, Repr

/-- A NAND operation in progress: device and physical page it acts on. -/
structure NandOp where
  task : NandTask
  dev : Nat
  page : Nat
  deriving DecidableEq, Repr

/-- The contents of the external store (R340 to R345): they outlast every reset. -/
structure Nand where
  /-- Blocks of each device present. -/
  devices : List Nat := []
  anchor : Option Anchor := none
  /-- Bytes of the image slots A and B as written (R360). -/
  images : Tab (List Nat) := []
  /-- Reservation marks of packet numbers, and the highest PN_MARK in the log, per port (R280, R281). -/
  marks : Tab Nat := []
  /-- Records of the permanent area, pages of the circulating area, and pages of copies in the tail area, oldest first (R405). -/
  permanent : List EvtRec := []
  circulating : List (List EvtRec) := []
  tail : List (List EvtRec) := []
  /-- Pages written raw: key device * 524,288 + page (R350). -/
  raw : Tab (List Nat) := []
  /-- Erase counts, reads since the last erase, and retired blocks: key device * 8,192 + block (R347 to R349). -/
  erases : Tab Nat := []
  reads : Tab Nat := []
  retired : List Nat := []
  /-- Spare blocks of each device, and the block map: key device * 8,192 + logical block, 1 + physical block where it is not
  the one it was formatted to (R342, R343). -/
  spare : Tab (List Nat) := []
  map : Tab Nat := []
  /-- The next logical page to be written of an area: 0 settings, 1 permanent, 2 circulating, 3 tail (R343, R349); 4 the page after
  the current anchor record in blocks 0 and 1 of device 0 (R345). -/
  pos : Tab Nat := []
  /-- Persisted key slots, page of 256 as in CipherState, and tree secrets (R282, R288). -/
  keys : Tab KeySlot := []
  secrets : Tab TreeSecret := []
  /-- The operating mode that the next boot takes, plus 1 (R386). -/
  mode : Nat := 0
  deriving DecidableEq, Repr

/-- The fuse array (R335): words that are not zero; log entry 5. -/
structure Fuses where
  words : Tab Nat := []
  /-- Value in use of each word, and words with none (Table 14.2), as (word, value) and a list. -/
  inUse : Tab Nat := []
  lost : List Nat := []
  deriving DecidableEq, Repr

/-- The store controller beside its registers ("Fuses, boot, the external store and image updates"). -/
structure StoreState where
  nand : Nand := {}
  /-- Operations in progress, oldest first (R346). -/
  ops : List NandOp := []
  /-- A download runs and has reached this LENGTH, once known (R360). -/
  length : Nat := 0
  /-- Blocks a full pass still has to read (R347). -/
  scrubLeft : Nat := 0
  deriving DecidableEq, Repr


/-- The power manager beside its registers ("Supplies, clocks and power states"). -/
structure PowerState where
  /-- A pending request: 0 on, 1 standby, 2 off (R381), and its command where one waits for nothing more. -/
  request : Option Nat := none
  /-- The phases done are being undone (R380, R381). -/
  back : Bool := false
  /-- The wake source that came during an entry, plus 1 (R379, R380). -/
  wokeBy : Nat := 0
  /-- When a wake source last came in ACTIVE, plus 1 (R380). -/
  wokeAt : Nat := 0
  /-- Since when the device is idle, plus 1 (R377). -/
  idleSince : Nat := 0
  /-- Since when each cluster is idle, plus 1 (R384). -/
  clusterIdle : Tab Nat := []
  /-- A DVFS request held during a transition, plus 1 (R373). -/
  held : Nat := 0
  /-- The raise in progress: acknowledgement of VOUT_COMMAND, last poll, whether confirmed and when, last READ_VOUT (R371). -/
  raiseAt : Nat := 0
  pollAt : Nat := 0
  confirmedAt : Nat := 0
  lastMv : Nat := 0
  /-- Since when VCORE is at or above the floor, and the throttled point (R372). -/
  throttleAt : Nat := 0
  throttlePoint : Nat := 0
  /-- MAIN_EN rose at, plus 1 (R368). -/
  mainSince : Nat := 0
  /-- RAIL_TIMEOUT latched in the always-on domain (R368). -/
  railLatched : Bool := false
  /-- Power-good's instant, and the kind a restart asked for, plus 1 (R355, R356). -/
  bootAt : Nat := 0
  restart : Nat := 0
  /-- Clocks reported lost: domain * 4 + instance (R374). -/
  lost : List Nat := []
  /-- Die temperatures in 0.1 degree, sensors 0 to 11 (R388, R390), and the start of the load window (R373). -/
  temps : Tab Nat := []
  loadAt : Nat := 0
  /-- The mode a live change stages (R385), plus 1. -/
  newMode : Nat := 0
  deriving DecidableEq, Repr


/-- An entry of the report queue (Table 16.2). -/
structure Report where
  source : Nat := 0
  level : Nat := 0
  summary : Bool := false
  escalated : Bool := false
  last : Bool := false
  count : Nat := 1
  evtSeq : Nat := 0
  detail : Nat := 0
  firstUs : Nat := 0
  deriving DecidableEq, Repr

/-- A recovery that runs (R394): participant, unit, level, source, start; reached its limit. -/
structure Recovery where
  part : Nat
  unit : Nat
  level : Nat
  source : Nat
  since : Nat
  late : Bool := false
  deriving DecidableEq, Repr

/-- The recovery controller beside its registers ("Faults, the safe state and the event recorder"). -/
structure FaultState where
  /-- The report queue, head first (R391). -/
  queue : List Report := []
  /-- Positions of the running full period's summary and last entries, where they exist (R392). -/
  fullAt : Option Nat := none
  /-- A full period runs (R392). -/
  full : Bool := false
  /-- Occurrence counters, by source (R391). -/
  occurs : Tab Nat := []
  /-- Correctable occurrences of a source in the running second of the local counter: (second, count) (R389). -/
  corr : Tab (Nat × Nat) := []
  running : List Recovery := []
  /-- End of the last recovery of the open window (R396). -/
  lastEnd : Nat := 0
  /-- Sources of independent faults and of faults in L3 whose participant has completed no recovery since (R400). -/
  owed : List Nat := []
  /-- A RESUME that runs, and CLUSTER commands that wait: (request, participant) (R400). -/
  resume : Option Req := none
  clusterWait : List (Req × Nat) := []
  /-- TEMP_WARN raised and not re-armed (R390). -/
  hot : Bool := false
  deriving DecidableEq, Repr

/-- The event recorder beside its registers (R401 to R409). -/
structure EvtState where
  /-- Records of the page being filled, and full pages that wait to be programmed, by area (R403). -/
  page : List EvtRec := []
  full : List (List EvtRec) := []
  /-- Records not made since the last that was (R403). -/
  dropped : Nat := 0
  /-- Records ever written to the permanent area or bound for it (R405). -/
  made : Nat := 0
  /-- Records made since the last EVT_READ and when the first was, plus 1 (R409). -/
  sinceRead : Nat := 0
  firstAt : Nat := 0
  /-- Vector 2 was raised since the last EVT_READ (R409). -/
  notified : Bool := false
  /-- EVT_FLUSH commands that wait for tail pages. -/
  flushing : List Req := []
  deriving DecidableEq, Repr


/-- A generator beside its registers (R417): next SEQ, bucket level in 2^-16 bytes, frames left to the end. -/
structure Gen where
  seq : Nat := 1
  level : Nat := 0
  since : Nat := 0
  deriving DecidableEq, Repr

/-- The test block beside its registers ("Test, loopback and perturbation"). -/
structure TestState where
  gens : Tab Gen := []
  /-- The SEQ each checker expects, less 1 (R418). -/
  expect : Tab Nat := []
  /-- The end of each feature's duration, plus 1; 0 none (R420). -/
  ends : Tab Nat := []
  /-- The TAP holds the device in reset (R424). -/
  tapHold : Bool := false
  deriving DecidableEq, Repr


/-- Why a step stops with a fault. No rule of the manual stops the machine, so no meaning raises one. -/
inductive Fault where
  /-- Raised by nothing: the type must have a value. Safe. -/
  | none
  deriving DecidableEq, Repr

/-- Why a step is refused. -/
inductive Refusal where
  /-- An instruction that the model gives no meaning; raised by Dispatch only. Safe. -/
  | notModelled (mnemonic : String)
  deriving DecidableEq, Repr

/-- The state of the block. -/
structure State where
  /-- Register fields that differ from their reset values, key `Fld.key` (R4). -/
  regs : Tab Nat := []
  /-- Counters that are not zero, key `Ctr.key` (R37). -/
  ctrs : Tab Nat := []
  /-- The local counter in units of 2^-16 ns: a symbol is 4,096, a TCLK cycle 81,920 (R111). -/
  now : Nat := 0
  /-- The MODEL's own: how many free values have been taken (log entry 1). -/
  fresh : Nat := 0
  /-- The MODEL's own: what has left the device, oldest first (log entry 2). -/
  out : List Out := []
  /-- Events raised and not yet made records, oldest first (R403; log entry 3). -/
  raised : List Ev := []
  /-- Timers that run, each with the local time of its start. -/
  timers : List (Timer × Nat) := []
  /-- Pins (R432 to R437). -/
  pins : Pins := {}
  /-- Modems of line ports 0 to 3. -/
  lines : Tab LinePort := []
  /-- Deframers and tributary units of line ports 0 to 3. -/
  frames : Tab FramePort := []
  /-- Terminals of line ports 0 to 3. -/
  terms : Tab Terminal := []
  /-- The time unit. -/
  time : TimeState := {}
  /-- Items on the packet path, by number (R134). -/
  items : Tab Item := []
  /-- The number of the next item. -/
  nextItem : Nat := 1
  /-- Copies queued or in transmission, by number (R221). -/
  copies : Tab Copy := []
  /-- The number of the next copy. -/
  nextCopy : Nat := 1
  /-- The classification unit. -/
  cls : ClassState := {}
  /-- The table cluster. -/
  tables : TableState := {}
  /-- The switch core and the buffer pool manager. -/
  sw : SwitchState := {}
  /-- The scheduler and the policers. -/
  sched : SchedState := {}
  /-- The cipher clusters. -/
  cipher : CipherState := {}
  /-- Overhead blocks that wait for output, per serial port, oldest first (R72). -/
  ospOut : Tab (List Nat) := []
  /-- Capture buffers: port * 131,072 + line, 512 bits (R38). -/
  capture : Tab Nat := []
  /-- The settings journal (R352, R353). -/
  journal : Journal := {}
  /-- The host lanes and ports. -/
  host : HostState := {}
  /-- The core cluster. -/
  core : CoreState := {}
  /-- The store controller and the external store. -/
  store : StoreState := {}
  /-- The fuse array. -/
  fuses : Fuses := {}
  /-- The power manager. -/
  power : PowerState := {}
  /-- The recovery controller. -/
  fault : FaultState := {}
  /-- The event recorder. -/
  evt : EvtState := {}
  /-- The test block. -/
  test : TestState := {}
  /-- The command channel. -/
  cmd : CmdState := {}
  /-- The commands and events that wait, first in, first out. -/
  pending : List Instr := []
  deriving DecidableEq, Repr

/-- The state right after device reset: every register field and counter at its reset value (nothing listed in `regs` and
`ctrs`), every table and memory empty, nothing running, nothing pending. Which of these the manual states and which are
the model's choices (log entries 4 to 7) is listed in INVENTORY.md. -/
def State.reset : State := {}

end Sys2Proof.Machine
end

