-- ==== Sys2Proof/Machine/Ops.lean ====
section
/-!
DEFINITION. The named operations over State: register fields, counters, tables of per-port records, events, interrupts,
output, timers and free values. Every meaning reads and writes through them.
-/
namespace Sys2Proof.Machine

open Sys2Proof

/-- The key of a field instance in the register file. -/
def Fld.key (f : Fld) (i j : Nat) : Nat := Nat.pair f.ctorIdx (Nat.pair i j)

/-- The key of a counter instance. -/
def Ctr.key (c : Ctr) (i j : Nat) : Nat := Nat.pair c.ctorIdx (Nat.pair i j)

/-- The value of a register field (R4). -/
def State.get (s : State) (f : Fld) (i : Nat := 0) (j : Nat := 0) : Nat :=
  Tab.get (f.resetAt i j) s.regs (f.key i j)

/-- A register field read as a signed number, two's complement. -/
def State.getI (s : State) (f : Fld) (i : Nat := 0) (j : Nat := 0) : Int := toSigned f.row.w (s.get f i j)

/-- A register field takes a value, cut to its width. -/
def State.set (s : State) (f : Fld) (v : Nat) (i : Nat := 0) (j : Nat := 0) : State :=
  { s with regs := Tab.put (f.resetAt i j) s.regs (f.key i j) (v % 2 ^ f.row.w) }

/-- A register field takes a signed value. -/
def State.setI (s : State) (f : Fld) (v : Int) (i : Nat := 0) (j : Nat := 0) : State :=
  s.set f (ofSigned f.row.w v) i j

/-- A one-bit field as a truth value. -/
def State.isSet (s : State) (f : Fld) (i : Nat := 0) (j : Nat := 0) : Bool := s.get f i j == 1

/-- Several fields of one instance take values, in order. -/
def State.setAll (s : State) (l : List (Fld × Nat)) (i : Nat := 0) (j : Nat := 0) : State :=
  l.foldl (fun s p => s.set p.1 p.2 i j) s

/-- The value of a counter (R37). -/
def State.ctr (s : State) (c : Ctr) (i : Nat := 0) (j : Nat := 0) : Nat := Tab.get 0 s.ctrs (c.key i j)

/-- In STANDBY a counter stands still (R378), but for those of the line cluster of a dozing port and STANDBY_DISCARD, which R379 counts
before the device is ACTIVE. The blocks of the line ports lie at 0x0100_0000 to 0x01FF_FFFF (Table 20.2). -/
def State.standsStill (s : State) (c : Ctr) (i : Nat) : Bool :=
  s.get .PWR_STATE_STATE == 4 && c != .PWR_STANDBY_DISCARD &&
    !(c.row.base / 2 ^ 24 == 1 && s.get .LINE_TREE_STATE_STATE i == 5)

/-- A counter rises by n and stops at 2^64 - 1 (R37). -/
def State.bump (s : State) (c : Ctr) (n : Nat) (i : Nat := 0) (j : Nat := 0) : State :=
  { s with ctrs := Tab.put 0 s.ctrs (c.key i j) (if s.standsStill c i then s.ctr c i j else min (s.ctr c i j + n) ctrMax) }

/-- A counter rises by 1 (R37). -/
def State.inc (s : State) (c : Ctr) (i : Nat := 0) (j : Nat := 0) : State := s.bump c 1 i j

/-- An event is raised: it waits for the recorder (R401, R403). -/
def State.raise (s : State) (code : Nat) (ws : List Nat := []) (tail : List Nat := []) : State :=
  { s with raised := s.raised ++ [⟨code, ws, tail⟩] }

/-- Something leaves the device. -/
def State.emit (s : State) (o : Out) : State := { s with out := s.out ++ [o] }

/-- An MSI-X vector of a function is raised (R327). -/
def State.msix (s : State) (fn vector : Nat) : State := s.emit (.msix fn vector)

/-- A W1C status bit is set by hardware, and the interrupt raised where its enable bit is 1 (Table 1.10). -/
def State.irq (s : State) (status enable : Fld) (vector : Nat) (i : Nat := 0) : State :=
  let t := s.set status 1 i
  if s.isSet enable i then t.msix 0 vector else t

/-- Conditional change. -/
def State.when (s : State) (c : Bool) (f : State → State) : State := if c then f s else s

/-- A free value and the state that has taken it (log entry 1). -/
def State.free (s : State) : Nat := Config.freeValue s.fresh

/-- The state after a free value has been taken. -/
def State.took (s : State) : State := { s with fresh := s.fresh + 1 }

/-- A timer starts, or starts again, now. -/
def State.start (s : State) (t : Timer) : State :=
  { s with timers := (t, s.now) :: s.timers.filter (fun e => e.1 ≠ t) }

/-- A timer stops. -/
def State.stop (s : State) (t : Timer) : State := { s with timers := s.timers.filter (fun e => e.1 ≠ t) }

/-- When a running timer started. -/
def State.timer (s : State) (t : Timer) : Option Nat := (s.timers.find? (fun e => e.1 = t)).map (·.2)

/-- A timer runs and has reached its limit. -/
def State.expired (s : State) (t : Timer) (limit : Nat) : Bool :=
  match s.timer t with
  | some a => decide (a + limit ≤ s.now)
  | none => false

/-- Rows of one kind that wait in this same cycle and that a rule takes before the row at hand, of rank r, lowest rank first: no row waits
longer than its cycle (log entry 19). -/
def sooner {α : Type} (s : State) (pick : Instr → Option α) (rank : α → Nat) (r : Nat) : List α :=
  ((s.pending.filterMap pick).filter (fun a => decide (rank a < r))).insertionSort (fun a b => rank a ≤ rank b)

/-- An access of the device to host memory for function u lies wholly within one valid window with the needed right (R325). -/
def windowOk (s : State) (u addr len : Nat) (write : Bool) : Bool :=
  (List.range 8).any (fun w =>
    s.isSet .CMD_WIN_VALID u w && s.isSet (if write then .CMD_WIN_WRITE else .CMD_WIN_READ) u w &&
      decide (s.get .CMD_WIN_BASE u w * 4096 ≤ addr ∧ addr + len ≤ (s.get .CMD_WIN_LAST u w + 1) * 4096))

/-- A write to host memory for a function, made where its windows allow it, else counted (R325). -/
def hostWrite (u addr : Nat) (ws : List Nat) (s : State) : State :=
  if windowOk s u addr (8 * ws.length) true then s.emit (.hostWrite u addr ws) else s.inc .CMD_WIN_DENIED

/-- The modem of a line port, and its update. -/
def State.line (s : State) (n : Nat) : LinePort := Tab.get {} s.lines n
def State.setLine (s : State) (n : Nat) (f : LinePort → LinePort) : State :=
  { s with lines := Tab.put {} s.lines n (f (s.line n)) }

/-- The deframer and tributary unit of a line port, and its update. -/
def State.frame (s : State) (n : Nat) : FramePort := Tab.get {} s.frames n
def State.setFrame (s : State) (n : Nat) (f : FramePort → FramePort) : State :=
  { s with frames := Tab.put {} s.frames n (f (s.frame n)) }

/-- The terminal of a line port, and its update. -/
def State.term (s : State) (n : Nat) : Terminal := Tab.get {} s.terms n
def State.setTerm (s : State) (n : Nat) (f : Terminal → Terminal) : State :=
  { s with terms := Tab.put {} s.terms n (f (s.term n)) }

/-- The device is in STANDBY or on its way back: an arriving frame or envelope is discarded (R379). -/
def State.asleep (s : State) : Bool := s.get .PWR_STATE_STATE == 4 || s.get .PWR_STATE_STATE == 5

/-- The line cluster of a port receives nothing: power-gated in STANDBY and until the device is ACTIVE again, but for a port that is
DOZING (R378), whose terminal keeps its state and makes no progress; or held in reset by an L2 (Table 16.3). -/
def State.portGated (s : State) (n : Nat) : Bool :=
  (s.asleep && s.get .LINE_TREE_STATE_STATE n != 5) || s.get .FLT_RECOVERY_LEVEL n == 2

/-- A live change to FRUGAL awaits its drain point: work is steered away from the clusters to be gated (R385). -/
def State.toFrugal (s : State) : Bool := s.isSet .PWR_MODE_CHANGING && s.power.newMode == 5

/-- Work for a dozing cluster wakes it (R384). -/
def undoze (c : Nat) (s : State) : State := if s.isSet .PWR_DOZE_DOZING c then s.set .PWR_DOZE_DOZING 0 c else s

/-- The command channel's update. -/
def State.setCmd (s : State) (f : CmdState → CmdState) : State := { s with cmd := f s.cmd }

end Sys2Proof.Machine
end

