-- ==== Sys2Proof/Machine/Operands.lean ====
section
/-!
DEFINITION. The operand forms: register writes of form W (R312) with their checks, direct register writes (R4, R5),
BAR0 addresses (R459), and the fields of 64-bit words.
-/
namespace Sys2Proof.Machine

open Sys2Proof

/-- The instance of a field whose word stands at a BAR0 offset, as (i, j of the word). -/
def FldRow.index (r : FldRow) (off : Nat) : Option (Nat × Nat) :=
  if off < r.base then none
  else
    let d := off - r.base
    let a := if r.hi = 0 then 0 else d / r.hi
    let d1 := d - a * r.hi
    let b := if r.lo = 0 then 0 else min (d1 / r.lo) (r.g - 1)
    let d2 := d1 - b * r.lo
    let c := if r.sj = 0 then 0 else d2 / r.sj
    if d2 = c * r.sj ∧ a * r.g + b < r.ni ∧ c < r.nj then some (a * r.g + b, c) else none

/-- The field instances that share the 64-bit word at a BAR0 offset. -/
def fieldsAt (off : Nat) : List (Fld × Nat × Nat) :=
  Fld.all.flatMap (fun f =>
    match f.row.index off with
    | none => []
    | some (i, c) =>
      if f.row.sl = 0 then [(f, i, c)]
      else (List.range f.row.nj).map (fun j => (f, i, j)))

/-- A value lies in a field's stated range. -/
def Fld.inRange (f : Fld) (v : Nat) : Bool :=
  let x : Int := if f.row.signed then toSigned f.row.w v else (v : Int)
  decide (f.row.rmin ≤ x) && decide (x ≤ f.row.rmax)

/-- The MASK bits of a field instance: none, all, or some of them set. -/
def maskOf (e : WEntry) (p : Fld × Nat × Nat) : Nat := bits e.mask (p.1.lowBit p.2.2) p.1.row.w

/-- A field instance is wholly masked by an entry. -/
def masked (e : WEntry) (p : Fld × Nat × Nat) : Bool := maskOf e p == 2 ^ p.1.row.w - 1

/-- The mask bits that fields a command may write cover wholly. -/
def coveredMask (allow : Fld → Bool) (e : WEntry) : Nat :=
  ((fieldsAt e.off).filter (fun p => allow p.1 && p.1.row.acc == .cw && masked e p)).foldl
    (fun m p => m + (2 ^ p.1.row.w - 1) * 2 ^ p.1.lowBit p.2.2) 0

/-- What is wrong with an entry of form W, as an offset within its 24 bytes (R310, R312): 0 for a register the command
does not name, the first MASK byte that covers a bit no CW field of the command takes wholly, the first byte of a
value out of range. -/
def wEntryErr (allow : Fld → Bool) (e : WEntry) : Option Nat :=
  let fs := fieldsAt e.off
  if fs.all (fun p => !(allow p.1)) then some 0
  else
    let bad := (e.mask % 2 ^ 64) - coveredMask allow e
    if bad ≠ 0 then some (8 + (7 - Nat.log2 bad / 8))
    else
      match fs.find? (fun p => masked e p && !(p.1.inRange (bits e.value (p.1.lowBit p.2.2) p.1.row.w))) with
      | some p => some (16 + (7 - (p.1.lowBit p.2.2 + p.1.row.w - 1) / 8))
      | none => none

/-- The first offending byte of a list of W entries, counted from byte 0 of the packet (R310). -/
def wErr (allow : Fld → Bool) (es : List WEntry) : Option Nat :=
  let rec go : List WEntry → Nat → Option Nat
    | [], _ => none
    | e :: r, k =>
      match wEntryErr allow e with
      | some d => some (16 + 24 * k + d)
      | none => go r (k + 1)
  go es 0

/-- A W entry takes effect: the fields whose MASK bits are 1 take VALUE (R312). -/
def wApply (s : State) (e : WEntry) : State :=
  ((fieldsAt e.off).filter (masked e)).foldl
    (fun s p => s.set p.1 (bits e.value (p.1.lowBit p.2.2) p.1.row.w) p.2.1 p.2.2) s

/-- The entries of a W command apply in order (R312). -/
def wApplyAll (s : State) (es : List WEntry) : State := es.foldl wApply s

/-- The instances of field f that a list of entries writes, with their new values, in order. -/
def wWrites (f : Fld) (es : List WEntry) : List (Nat × Nat × Nat) :=
  es.flatMap (fun e =>
    ((fieldsAt e.off).filter (fun p => p.1 == f && masked e p)).map
      (fun p => (p.2.1, p.2.2, bits e.value (p.1.lowBit p.2.2) p.1.row.w)))

/-- The instances i that a list of entries touches, for commands that take all entries for one instance. -/
def wInstances (es : List WEntry) : List Nat :=
  (es.flatMap (fun e => (fieldsAt e.off).map (fun p => p.2.1))).dedup

/-- What a direct write of a 64-bit word does to one field (R4, R5): RW takes the value, W1C is cleared by 1, every other
access ignores it. A ring size outside 4 to 12 leaves its field (R315), and ring bases and sizes are written only while
the ring is disabled. -/
def directWrite (value : Nat) (s : State) (p : Fld × Nat × Nat) : State :=
  let v := bits value (p.1.lowBit p.2.2) p.1.row.w
  let off := s.get .CMD_FN_ENABLE p.2.1 == 0
  match p.1.row.acc with
  | .rw =>
    match p.1 with
    | .CMD_FN_SUB_SIZE_LOG2 => s.when (off && decide (4 ≤ v ∧ v ≤ 12)) (fun s => s.set p.1 v p.2.1 p.2.2)
    | .CMD_FN_CPL_SIZE_LOG2 => s.when (off && decide (4 ≤ v ∧ v ≤ 12)) (fun s => s.set p.1 v p.2.1 p.2.2)
    | .CMD_FN_SUB_BASE => s.when off (fun s => s.set p.1 v p.2.1 p.2.2)
    | .CMD_FN_CPL_BASE => s.when off (fun s => s.set p.1 v p.2.1 p.2.2)
    | _ => s.set p.1 v p.2.1 p.2.2
  | .w1c => if v = 1 then s.set p.1 0 p.2.1 p.2.2 else s
  | _ => s

/-- The 64-bit word at a BAR0 offset as its fields read (R4, R5): reserved bits and unassigned addresses read 0. -/
def readWord (s : State) (off : Nat) : Nat :=
  (fieldsAt off).foldl (fun a p => a + s.get p.1 p.2.1 p.2.2 * 2 ^ p.1.lowBit p.2.2) 0
    + (Ctr.all.foldl (fun a c =>
        let r := c.row
        let x : FldRow := mkRow r.base r.g r.hi r.lo r.sj r.ni r.nj 0 0 64 .ro 0 0 0 false
        match x.index off with
        | some (i, j) => a + s.ctr c i j
        | none => a) 0)

end Sys2Proof.Machine
end

