-- ==== Sys2Proof/Machine/NandOps.lean ====
section
/-!
DEFINITION. The external store's pages (R340 to R349): where they lie, spare blocks, erases, operations that begin.
-/
namespace Sys2Proof.Machine

open Sys2Proof

/-- The store controller and the external store, and their updates. -/
def State.setStore (s : State) (f : StoreState → StoreState) : State := { s with store := f s.store }
def State.setNand (s : State) (f : Nand → Nand) : State := s.setStore (fun x => { x with nand := f x.nand })

/-- Devices of the store, and blocks of each (R340). -/
def storeDevs (s : State) : Nat := s.store.nand.devices.length
def storeBlocks (s : State) : Nat := s.store.nand.devices.headD 0

/-- The store is open, and not stopped by PFAIL_N (R364). -/
def storeOpen (s : State) : Bool := s.isSet .STORE_STATUS_OPEN
def storeHeld (s : State) : Bool := s.isSet .STORE_STATUS_PFAIL_HOLD

/-- First logical page and pages of the areas that are written in rotation (Table 14.3): 0 settings, 1 permanent events,
2 circulating events, 3 event tail. -/
def areaBase (a : Nat) : Nat := match a with | 0 => 32768 | 1 => 40960 | 2 => 41216 | _ => 58112
def areaPages (a : Nat) : Nat := match a with | 0 => 8192 | 1 => 256 | 2 => 16896 | _ => 1536

/-- The physical block that a logical block is bound to (R343); before any remap, in order, after the anchor blocks. -/
def physBlock (s : State) (dev lb : Nat) : Nat :=
  match Tab.get 0 s.store.nand.map (dev * 8192 + lb) with
  | 0 => lb + (if dev = 0 then 2 else 0)
  | m + 1 => m

/-- Device and physical page of a logical page (R343). -/
def placeOf (s : State) (lp : Nat) : Nat × Nat :=
  let d := max 1 (storeDevs s)
  (lp % d, physBlock s (lp % d) (lp / d / 64) * 64 + lp / d % 64)

/-- The logical block that a physical block holds, if any. -/
def logicalOf (s : State) (dev pb : Nat) : Option Nat :=
  match s.store.nand.map.find? (fun p => p.1 / 8192 == dev && p.2 == pb + 1) with
  | some p => some (p.1 % 8192)
  | none =>
    let off := if dev = 0 then 2 else 0
    if pb < off ∨ Tab.get 0 s.store.nand.map (dev * 8192 + (pb - off)) ≠ 0 then none else some (pb - off)

/-- Spare blocks of a device. -/
def spares (s : State) (dev : Nat) : List Nat := Tab.get [] s.store.nand.spare dev

/-- Writes to a device's areas have stopped: no spare block is left (R348). -/
def devStopped (s : State) (dev : Nat) : Bool := storeOpen s && (spares s dev).isEmpty

/-- Table 14.17 and SPARE_MIN of a device read what the store holds. -/
def devShow (dev : Nat) (s : State) : State :=
  let es := s.store.nand.erases.filter (fun p => p.1 / 8192 == dev)
  let lo := if es.length < storeBlocks s then 0 else es.foldl (fun m p => min m p.2) 65535
  let hi := es.foldl (fun m p => max m p.2) 0
  let s := s.setAll [(.STORE_DEV_ERASE_MAX, min hi 65535), (.STORE_DEV_ERASE_MIN, lo),
    (.STORE_DEV_RETIRED, (s.store.nand.retired.filter (fun k => k / 8192 == dev)).length), (.STORE_DEV_SPARE, (spares s dev).length)] dev
  s.set .STORE_STATUS_SPARE_MIN (((List.range (storeDevs s)).map (fun d => (spares s d).length)).foldl min 255)

/-- An erase count rises, reads start afresh, raw pages of the block are gone (R349). -/
def blockErased (dev block : Nat) (s : State) : State :=
  let k := dev * 8192 + block
  devShow dev ((s.inc .STORE_BLOCKS_ERASED).setNand (fun n =>
    { n with erases := Tab.put 0 n.erases k (Tab.get 0 n.erases k + 1), reads := Tab.put 0 n.reads k 0,
             raw := n.raw.filter (fun p => p.1 / 524288 ≠ dev ∨ p.1 % 524288 / 64 ≠ block) }))

/-- A target page is erased (R341, R346): at most 8 of its bits read 0. -/
def pageErased (e : NandEnd) : Bool := decide (e.zeros ≤ 8)

/-- A codeword of a page read needs more than 24 corrections (R347); bits corrected in the others, and the most in any one. -/
def pageUncorr (e : NandEnd) : Bool := e.flips.any (fun f => decide (24 < f))
def pageCorrected (e : NandEnd) : Nat := (e.flips.filter (fun f => decide (f ≤ 24))).foldl (· + ·) 0
def pageWorst (e : NandEnd) : Nat := e.flips.foldl max 0

/-- The bytes of an event record with its tail (Table 16.7). -/
def recBytes (r : EvtRec) : List Nat :=
  let units := ceilDiv (min r.tail.length 224) 32
  let tail := (r.tail.take 224 ++ List.replicate 32 0).take (units * 32)
  let fixed := toBytes 2 r.code ++ [r.flags, units] ++ toBytes 8 r.seq ++ ((r.words ++ [0, 0, 0, 0]).take 4).flatMap (toBytes 4)
  fixed ++ toBytes 4 (crc32c (fixed ++ tail)) ++ tail

/-- The bytes of a journal record (Table 14.6). -/
def journalBytes (r : JRec) : List Nat :=
  let body := (List.range (r.bytes - 20)).map (fun k => (Config.journalBody r.kind r.op r.seq k).toNat)
  let head := toBytes 4 r.bytes ++ toBytes 2 r.kind ++ [0, 0] ++ toBytes 8 r.seq ++ body
  head ++ toBytes 4 (crc32c head)

/-- Bytes in pages of 4,096, the last one filled with 0xFF (R353, R403). -/
def inPages (bs : List Nat) : List (List Nat) :=
  (List.range (ceilDiv bs.length 4096)).map (fun k => ((bs.drop (4096 * k)).take 4096 ++ List.replicate 4096 255).take 4096)

/-- Logical pages of the store (R342, R343). -/
def storePages (s : State) : Nat := (List.range (storeDevs s)).foldl (fun a d => a + (storeBlocks s - (spares s d).length) * 64) 0

/-- An anchor page with its check (R344). -/
def anchorCheck (bs : List Nat) : List Nat :=
  let bs := (bs ++ List.replicate 4092 0).take 4092
  bs ++ toBytes 4 (crc32c bs)

/-- Pages of a device's block map (R344): SEQ, then the physical block of each logical block, 2,040 to a page. -/
def mapPages (seq dev : Nat) (s : State) : List (List Nat) :=
  let n := storeBlocks s - (spares s dev).length
  (List.range (ceilDiv n 2040)).map (fun p => anchorCheck (toBytes 8 seq ++
    (List.range (min 2040 (n - 2040 * p))).flatMap (fun k => toBytes 2 (physBlock s dev (2040 * p + k)))))

/-- The pages of an anchor record (R344, Table 14.4): the areas are those of Table 14.3 after the anchor. -/
def anchorBytes (a : Anchor) (s : State) : List (List Nat) :=
  let maps := (List.range (storeDevs s)).flatMap (fun d => mapPages a.seq d s)
  let areas : List (Nat × Nat) := [(0, 16384), (16384, 16384), (32768, 8192), (40960, 256), (41216, 16896), (58112, 1536), (59648, storePages s - 59648)]
  let page := [0x45, 0x4D, 0x49, 0x53, 0x54, 0x45, 0x42, 0x31] ++ toBytes 2 1 ++ toBytes 2 (maps.length + 1) ++ [0, 0, 0, 0] ++ toBytes 8 a.seq ++
    [a.bootSlot, b2n a.trial + 2 * b2n a.fallback, a.trialCount, storeDevs s] ++ toBytes 4 (storeBlocks s) ++
    ((a.versions ++ [0, 0]).take 2).flatMap (toBytes 8) ++ areas.flatMap (fun x => toBytes 4 x.1 ++ toBytes 4 x.2)
  anchorCheck page :: maps

/-- A page as the store holds it (R284, R341): the ciphertext of its data unit, the parity of its four codewords, 0xFF. -/
def storedPage (s : State) (unit : Nat) (plain : List Nat) : List Nat :=
  let k := s.cipher.storeKeys.getD (0, 0)
  let ct := xts true k.1 k.2 unit plain
  ct ++ (List.range 4).flatMap (fun c => (List.range 42).map (fun i => (Config.bchParity ((ct.drop (1024 * c)).take 1024) i).toNat)) ++
    List.replicate 88 255

/-- The data unit number of a physical page (R343): its logical page, or 2^63 and the page in the anchor blocks. -/
def unitOfPage (s : State) (dev page : Nat) : Nat :=
  match logicalOf s dev (page / 64) with
  | some lb => (lb * 64 + page % 64) * max 1 (storeDevs s) + dev
  | none => 2 ^ 63 + page

/-- The plain pages that a program carries to the store. -/
def taskPages (o : NandOp) (s : State) : List (List Nat) :=
  match o.task with
  | .events _ recs => inPages (recs.flatMap recBytes)
  | .tail recs => inPages (recs.flatMap recBytes)
  | .journal recs => inPages (recs.flatMap journalBytes)
  | .anchor a _ => anchorBytes a s
  | .image slot => inPages (((Tab.get [] s.store.nand.images slot).drop (unitOfPage s o.dev o.page % 16384 * 4096)).take 4096)
  | _ => []

/-- What a program drives onto the store's bus (R340, R341): the pages as they are stored; a raw program's bytes are the host's own. -/
def programData (o : NandOp) (s : State) : List Nat :=
  match o.task with
  | .rawProgram _ data => data
  | _ => (taskPages o s).zipIdx.flatMap (fun p => storedPage s (unitOfPage s o.dev (o.page + p.2)) p.1)

/-- A NAND operation begins: 0 a read, 1 a program with its data, 2 an erase. -/
def startOp (o : NandOp) (kind : Nat) (s : State) : State :=
  (s.setStore (fun x => { x with ops := x.ops ++ [o] })).emit
    (.nand o.dev kind (o.page / 64) o.page (if kind = 1 then programData o s else []))

/-- A program takes the next page of an area; a block that rotation comes to again is erased first (R349). -/
def programNext (area : Nat) (task : NandTask) (s : State) : State :=
  let pos := Tab.get 0 s.store.nand.pos area
  let lp := areaBase area + pos % areaPages area
  let (dev, page) := placeOf s lp
  let s := s.setNand (fun n => { n with pos := Tab.put 0 n.pos area (pos + 1) })
  let s := if areaPages area ≤ pos ∧ page % 64 = 0 then blockErased dev (page / 64) s else s
  startOp ⟨task, dev, page⟩ 1 s

end Sys2Proof.Machine
end

