-- ==== Sys2Proof/Machine/Jadex.lean ====
section
/-!
DEFINITION. What every Jadex command shares ("Command channel and host interface"): the checks of R310 in their order,
the three classes of R313 and R314, the completion with its history (R324), journal record (R351, R353) and mirror
record (R329).
-/
namespace Sys2Proof.Machine

open Sys2Proof

/-- The modes in which a command is permitted (Table 13.6, R333). -/
inductive ModeRule where
  | all | notFrugal | notMaint | maint | maintRescue
  deriving DecidableEq, Repr

/-- A row of the opcode tables: opcode, physical function only, P mark, RESCUE mark, modes, persistent (Table 14.5), bytes
of one entry of a best-effort command, participants (Table 13.3). -/
structure CmdInfo where
  op : Nat
  phys : Bool := true
  pel : Bool := false
  rescue : Bool := false
  modes : ModeRule := .all
  persist : Bool := false
  esz : Nat := 24
  parts : List Nat := []
  deriving DecidableEq, Repr

/-- Status codes of Table 13.2. -/
def stDone : Nat := 0
def stPartial : Nat := 1
def stRolledBack : Nat := 2
def stParam : Nat := 3
def stState : Nat := 4
def stPermission : Nat := 5
def stBusy : Nat := 6
def stStale : Nat := 7
def stNotErased : Nat := 8
def stAuthFail : Nat := 9
def stNoSpace : Nat := 10
def stTimeout : Nat := 11
def stDoubtful : Nat := 12
def stFlushed : Nat := 13
def stAbandoned : Nat := 14
def stUnknown : Nat := 15

/-- What carrying a command out gives: the state, and the reply. -/
structure Result where
  state : State
  status : Nat := 0
  detail : Nat := 0
  data : List Nat := []

/-- The operating mode in force (Table 0.4). -/
def State.mode (s : State) : Nat := s.get .PWR_MODE_CURRENT

/-- The device runs in RESCUE (R358). -/
def State.inRescue (s : State) : Bool := s.get .SYS_BOOT_KIND == 2

/-- L3 is in force (R398, R399). -/
def State.safe (s : State) : Bool := s.isSet .FLT_STATUS_SAFE

/-- A mode rule admits the mode in force. -/
def ModeRule.admits (m : ModeRule) (s : State) : Bool :=
  match m with
  | .all => true
  | .notFrugal => s.mode != 4
  | .notMaint => s.mode != 5
  | .maint => s.mode == 5
  | .maintRescue => s.mode == 5 || s.inRescue

/-- The function a transport assigns (R310 check 2, R318, R321, R330, R354). -/
def srcAssigns (r : Src) (user : Nat) : Bool :=
  match r with
  | .ring u => user == u && user < 32
  | .inband _ => user < 32
  | _ => user == 0

/-- A unit of participant c is held or under L2 (R313, Table 16.13). -/
def State.restarting (s : State) (c : Nat) : Bool :=
  s.get .FLT_RECOVERY_LEVEL c == 2 || s.isSet .FLT_RECOVERY_HELD c

/-- Bytes of the journal record a command can make at most (R353). -/
def journalBound (len : Nat) : Nat := ceilDiv (20 + 16 + len) 8 * 8

/-- The journal cannot take a record: it would need a new page while the previous page is being programmed (R353), or the
store has stopped under PFAIL_N (R364). -/
def journalFull (q : Req) (s : State) : Bool :=
  storeHeld s || (s.journal.programming.isSome && decide (4096 < s.journal.fill + journalBound q.len))

/-- A device of the open store has no spare block left: writes to its areas have stopped, and the journal with them (R348). -/
def journalStopped (s : State) : Bool := storeOpen s && (List.range (storeDevs s)).any (fun d => devStopped s d)

/-- Checks 2, 4 and 5 of R310, which need no parameter: the status of the first that fails. Check 1 and check 3 are the
transport's (CMD_SUBMISSION_READ and its like). PWR_STATE is taken during a boot as well, since R381 says what an off request
does then (log entry 74). -/
def gate (c : CmdInfo) (q : Req) (s : State) : Option Nat :=
  if !(srcAssigns q.src q.user) then some stPermission
  else if c.phys && q.user != 0 then some stPermission
  else if q.src == .peldel && !c.pel then some stPermission
  else if !s.cmd.accepting && q.src != .journal && c.op != 0x0201 then some stState
  else if (s.inRescue || s.safe) && !c.rescue then some stState
  else if !(c.modes.admits s) then some stState
  else none

/-- The journal takes a record of one persistent command or an internal record (R352, R353): into the page being filled; where
it does not fit, that page is closed and programmed, and the record starts the next. Without an open store it takes none. -/
def journalPut (kind op : Nat) (keys : List Nat) (first bytes : Nat) (s : State) : State :=
  let j := s.journal
  let r : JRec := ⟨kind, j.seq + 1, op, keys, bytes, first⟩
  if !(storeOpen s) then s
  else if j.fill + bytes ≤ 4096 ∨ j.programming.isSome then
    let t := { s with journal := { j with filling := j.filling ++ [r], fill := j.fill + bytes, seq := j.seq + 1 } }
    if j.filling = [] then t.start .journalPage else t
  else
    let t := { s with journal := { j with programming := some j.filling, filling := [r], fill := bytes, seq := j.seq + 1 } }
    programNext 0 (.journal j.filling) (t.start .journalPage)

/-- The sizes of the records that a command's record of `bytes` is cut into where it would exceed a page (R353): each holds the command
header, and whole entries of `esz` bytes. -/
def journalRuns (bytes esz : Nat) : List Nat :=
  if bytes ≤ 4096 then [bytes]
  else
    let per := max 1 ((4096 - 44) / max 1 esz)
    let n := ceilDiv (bytes - 44) (max 1 esz)
    (List.range (ceilDiv n per)).map (fun k => ceilDiv (44 + min per (n - k * per) * esz) 8 * 8)

/-- A command's record, or an internal one, enters the journal (R353): one record, or several in succession that stand for one. -/
def journalAdd (kind op : Nat) (keys : List Nat) (bytes esz : Nat) (s : State) : State :=
  let first := s.journal.seq + 1
  (journalRuns bytes esz).foldl (fun s b => journalPut kind op keys first b s) s

/-- A command of a masked family that completed DONE or DONE_PARTIAL is mirrored: its record waits to be written (R329).
A record that overflows the 4 MiB local queue is lost, and the device says so (R330). -/
def mirrorAdd (op len : Nat) (s : State) : State :=
  if s.isSet .CMD_PEER_CFG_ENABLE && s.isSet .CMD_PEER_CFG_ROLE
      && bit (s.get .CMD_PEER_CFG_FAMILY_MASK) (op / 256) then
    let bytes := 16 + ceilDiv (16 + len) 16 * 16
    let seq := s.cmd.mirrorSeq + 1
    if s.cmd.mirrorBytes + bytes ≤ 4194304 then
      s.setCmd (fun c => { c with mirrorSeq := seq, mirrorQueue := c.mirrorQueue ++ [(⟨seq, op, 16 + len, true⟩ : MirrorRec)],
                                  mirrorBytes := c.mirrorBytes + bytes })
    else
      ((s.setCmd (fun c => { c with mirrorSeq := seq })).set .CMD_PEER_STATUS_DESYNC 1).raise 0x0103
        [3, seq / 2 ^ 32, seq % 2 ^ 32]
  else s

/-- A completion enters the history of its function (R324). -/
def historyAdd (user tag op status detail : Nat) (s : State) : State :=
  let n := Tab.get 0 s.cmd.counts user + 1
  s.setCmd (fun c =>
    let old : List Hist := Tab.get [] c.history user
    { c with counts := Tab.put 0 c.counts user n,
             history := Tab.put [] c.history user ((old ++ [(⟨tag, op, status, detail, n⟩ : Hist)]).drop (old.length - 63)) })

/-- The standby device's own source: a status other than DONE stops applying (R330). -/
def peerDone (status : Nat) (s : State) : State :=
  let t := s.inc .CMD_PEER_APPLIED
  if status = stDone then t.setCmd (fun c => { c with applying := none })
  else
    let seq := s.cmd.rxSeq
    ((t.setCmd (fun c => { c with applying := none })).set .CMD_PEER_STATUS_DESYNC 1).raise 0x0103
      [2, seq / 2 ^ 32, seq % 2 ^ 32]

/-- A replayed setting that fails is skipped, counted and reported (R354). A replayed command's TAG is its record's SEQ
(log entry 9). -/
def replayDone (op status seq : Nat) (s : State) : State :=
  if status = stDone ∨ status = stPartial then s
  else (s.inc .STORE_SETTING_FAILED).raise 0x0309 [op, status, seq % 2 ^ 32]

/-- A command completes: its reply waits to be written by its transport; it enters the history, and the journal and the
mirror where they take it. `failed` entries of a DONE_PARTIAL command are removed from what persists and is mirrored. -/
def complete (c : CmdInfo) (q : Req) (keys : List Nat) (failed : Nat) (r : Result) : State :=
  let s := historyAdd q.user q.tag c.op r.status r.detail (r.state.inc .CMD_CMDS_DONE)
  let ok := r.status = stDone ∨ r.status = stPartial
  let len := q.len - failed * c.esz
  let s := if ok ∧ c.persist ∧ q.src ≠ .journal then journalAdd 1 c.op keys (journalBound len) c.esz s else s
  let s := if ok ∧ q.src ≠ .peer ∧ q.src ≠ .journal then mirrorAdd c.op len s else s
  match q.src with
  | .peer => peerDone r.status s
  | .journal => replayDone c.op r.status q.tag s
  | _ => s.setCmd (fun m => { m with replies := m.replies ++ [⟨q, c.op, r.status, r.detail, r.data⟩] })

/-- A rejection: nothing but the completion changes (R310). -/
def reject (c : CmdInfo) (q : Req) (status detail : Nat) (s : State) : State :=
  complete c q [] 0 { state := s, status := status, detail := detail }

/-- The table cluster of a warm boot has not loaded its snapshot (R357). -/
def tablesLoading (s : State) : Bool := s.get .SYS_BOOT_KIND == 1 && decide (s.get .SYS_BOOT_PHASE < 12)

/-- The tables are not ready for a command (R357); a setting that the boot replays does not wait for them (R218, R354). -/
def tablesAwait (q : Req) (s : State) : Bool := tablesLoading s && q.src != .journal

/-- The first participant that is restarting, or loading tables (R357); the system cluster, which every command passes, is one
(R311, Table 16.4). -/
def busyPart (c : CmdInfo) (q : Req) (s : State) : Option Nat :=
  (c.parts ++ [23]).find? (fun p => s.restarting p || (p == 21 && tablesAwait q s))

/-- A command that is held stays with its source, which presents it again (log entry 124): from the entry to STANDBY until the device is
ACTIVE again one that is no power command (R380, R321), and one that shares a participant with a staged command, until that one has
completed (R190, R322). -/
def heldBack (c : CmdInfo) (s : State) : Bool :=
  let st := s.get .PWR_STATE_STATE
  ((st == 3 || st == 4 || st == 5 && decide (s.get .PWR_STATE_PHASE ≤ 3)) && c.op / 256 != 2) ||
    s.cmd.staged.any (fun g => c.parts.any (fun p => g.parts.contains p))

/-- The checks of R310 in their order, then RETRY_BUSY for a participant that restarts (R311) and for a journal without
room (R353), NO_SPACE where the store takes no more writes (R348); then `body`. `unit` is the unit-state check (a status and DETAIL), `param` the parameter check (the byte offset). -/
def checked (c : CmdInfo) (q : Req) (unit : State → Option (Nat × Nat)) (param : State → Option Nat)
    (body : State → State) (s : State) : State :=
  if heldBack c s then s else
  match gate c q s with
  | some st => reject c q st 0 s
  | none =>
    match unit s with
    | some (st, d) => reject c q st d s
    | none =>
      match param s with
      | some off => reject c q stParam off s
      | none =>
        match busyPart c q s with
        | some p => reject c q stBusy p s
        | none =>
          if c.persist ∧ q.src ≠ .journal ∧ journalFull q s then reject c q stBusy 25 s
          else if c.persist ∧ q.src ≠ .journal ∧ journalStopped s then reject c q stNoSpace 0 s
          else body s

/-- A single command that replies when it is carried out (R313). -/
def single (c : CmdInfo) (q : Req) (keys : List Nat) (unit : State → Option (Nat × Nat)) (param : State → Option Nat)
    (body : State → Result) (s : State) : State :=
  checked c q unit param (fun s => complete c q keys 0 (body s)) s

/-- No unit-state check. -/
def anyState : State → Option (Nat × Nat) := fun _ => none

/-- No parameter check. -/
def anyParam : State → Option Nat := fun _ => none

/-- REJECTED_STATE unless the condition holds. -/
def needs (b : State → Bool) : State → Option (Nat × Nat) := fun s => if b s then none else some (stState, 0)

/-- Parameter byte `off` (counted from the packet's start) is wrong unless the condition holds. -/
def want (off : Nat) (b : Bool) : Option Nat := if b then none else some off

/-- The first of several parameter checks that fails. -/
def firstErr : List (Option Nat) → Option Nat
  | [] => none
  | some e :: _ => some e
  | none :: r => firstErr r

/-- A single command of form W that only writes registers (R312). -/
def writeCmd (c : CmdInfo) (q : Req) (allow : Fld → Bool) (es : List WEntry) (s : State) : State :=
  single c q (es.map (·.off)) anyState (fun _ => wErr allow es) (fun s => { state := wApplyAll s es }) s

/-- Bit k of a list of truth values, packed in bytes, byte 0 bit 0 first (R314). -/
def bitmap (bs : List Bool) : List Nat :=
  (List.range (ceilDiv bs.length 8)).map (fun k =>
    (List.range 8).foldl (fun a i => a + b2n (bs.getD (8 * k + i) false) * 2 ^ i) 0)

/-- Reply data of DONE_PARTIAL (R314): COUNT, the bitmap of entries that succeeded, one status byte per entry. -/
def partialData (sts : List Nat) : List Nat :=
  words (toBytes 4 sts.length ++ [0, 0, 0, 0] ++ pad8 (bitmap (sts.map (· == 0))) ++ pad8 sts)

/-- Entries applied one at a time, in order, each keeping its effect; the statuses in order (R313, R314). -/
def applyEach {α : Type} (step : State → α → State × Nat) : State → List α → State × List Nat
  | s, [] => (s, [])
  | s, e :: r =>
    let (s1, st) := step s e
    let (s2, sts) := applyEach step s1 r
    (s2, st :: sts)

/-- A best-effort command (R314). -/
def bestEffort {α : Type} (c : CmdInfo) (q : Req) (keys : List Nat) (unit : State → Option (Nat × Nat))
    (param : State → Option Nat) (step : State → α → State × Nat) (es : List α) (s : State) : State :=
  checked c q unit param
    (fun s =>
      let (t, sts) := applyEach step s es
      let bad := (sts.filter (· ≠ 0)).length
      if bad = 0 then complete c q keys 0 { state := t }
      else complete c q keys bad { state := t, status := stPartial, detail := min bad 0xFFFF, data := partialData sts }) s

/-- The participants of an atomic command: a persistent one counts the store controller (R313). -/
def CmdInfo.staging (c : CmdInfo) : List Nat := if c.persist ∧ !(c.parts.contains 25) then c.parts ++ [25] else c.parts

/-- An atomic command stages its change in every participant (R313); ATOMIC_COMMIT commits or rolls back. A participant
that restarts does not end it here: it refuses, and the commit rolls back. -/
def atomicCmd (c : CmdInfo) (q : Req) (unit : State → Option (Nat × Nat)) (param : State → Option Nat) (act : Act)
    (s : State) : State :=
  if heldBack { c with parts := c.staging } s then s
  else checked { c with parts := [] } q unit param
    (fun s => s.setCmd (fun m => { m with staged := m.staged ++ [({ req := q, op := c.op, parts := c.staging, persist := c.persist, act := act } : Staged)] })) s

end Sys2Proof.Machine
end

