-- ==== Sys2Proof/Machine/StoreOps.lean ====
section
/-!
DEFINITION. The store controller's shared operations ("Fuses, boot, the external store and image updates"): the anchor,
retired and refreshed blocks, reads, wear levelling, the journal's pages and checkpoints.
-/
namespace Sys2Proof.Machine

open Sys2Proof

/-- The anchor record that is current once every write in progress has ended (R345). -/
def anchorLast (s : State) : Option Anchor :=
  s.store.ops.foldl (fun a o => match o.task with | .anchor x _ => some x | _ => a) s.store.nand.anchor

/-- Table 14.16 reads the current anchor record. -/
def anchorShow (s : State) : State :=
  match s.store.nand.anchor with
  | none => s
  | some a => s.setAll [(.STORE_ANCHOR_SEQ, a.seq), (.STORE_ANCHOR_TRIAL_COUNT, a.trialCount),
      (.STORE_ANCHOR_FALLBACK_VALID, b2n a.fallback), (.STORE_ANCHOR_TRIAL, b2n a.trial), (.STORE_ANCHOR_BOOT_SLOT, a.bootSlot)]

/-- Pages of an anchor record (R344): page 0 and the block maps, 2,040 entries to a page. -/
def anchorPages (s : State) : Nat :=
  1 + ((List.range (storeDevs s)).foldl (fun a d => a + ceilDiv (storeBlocks s - (spares s d).length) 2040) 0)

/-- Pages of the store are read and decrypted (R284, Table 14.11). -/
def pagesRead (n : Nat) (s : State) : State := (s.bump .STORE_PAGES_READ n).bump .CIPH_XTS_UNITS n

/-- A new anchor record is written with SEQ + 1 (R345): after the current record where it fits, else the other block is erased
first; its events are raised once it is current. -/
def anchorWrite (f : Anchor → Anchor) (ev : List Ev) (s : State) : State :=
  match anchorLast s with
  | none => s
  | some a =>
    let n := anchorPages s
    let pos := Tab.get 0 s.store.nand.pos 4
    let fits := decide (pos % 64 ≠ 0 ∧ pos % 64 + n ≤ 64)
    let at_ := if fits then pos else 64 - (pos - 1) / 64 * 64
    let s := if fits then s else blockErased 0 (at_ / 64) s
    startOp ⟨.anchor { f a with seq := a.seq + 1 } ev, 0, at_⟩ 1 (s.setNand (fun x => { x with pos := Tab.put 0 x.pos 4 (at_ + n) }))

/-- A logical block is bound to a spare block (R348); in image slots and settings the anchor is rewritten, elsewhere the
journal takes a remap record (R345). -/
def remap (dev lb : Nat) (s : State) : State :=
  match spares s dev with
  | [] => s
  | x :: rest =>
    let s := s.setNand (fun n => { n with spare := Tab.put [] n.spare dev rest, map := Tab.put 0 n.map (dev * 8192 + lb) (x + 1) })
    let s := if rest.length = 7 then s.raise 0x0308 [dev, 7] else s
    let s := devShow dev s
    let lp := lb * 64 * max 1 (storeDevs s)
    if lp < 40960 then anchorWrite id [] s else journalAdd 6 0 [dev * 8192 + lb] 32 0 s

/-- A block is retired (R348): why 0 program, 1 erase, 2 uncorrectable. -/
def retireBlock (dev block why : Nat) (s : State) : State :=
  let s := (s.inc .STORE_BLOCKS_RETIRED).raise 0x0306 [dev, block, why]
  let lb := logicalOf s dev block
  let s := s.setNand (fun n => { n with retired := if n.retired.contains (dev * 8192 + block) then n.retired else n.retired ++ [dev * 8192 + block],
                                        spare := Tab.put [] n.spare dev ((Tab.get [] n.spare dev).filter (· ≠ block)) })
  match lb with
  | some b => remap dev b s
  | none => devShow dev s

/-- A block is refreshed (R347): copied to a spare block, remapped, erased; the erased block joins the spare pool. -/
def refreshBlock (dev block : Nat) (s : State) : State :=
  match logicalOf s dev block with
  | none => s
  | some lb =>
    if (spares s dev).isEmpty then s
    else
      let s := blockErased dev block (remap dev lb (s.inc .STORE_REFRESHES))
      devShow dev (s.setNand (fun n => { n with spare := Tab.put [] n.spare dev (Tab.get [] n.spare dev ++ [block]) }))

/-- A page was read (R347): counts, and a refresh where the read calls for one. -/
def pageRead (dev page : Nat) (e : NandEnd) (s : State) : State :=
  let k := dev * 8192 + page / 64
  let s := (s.inc .STORE_PAGES_READ).bump .STORE_BITS_CORRECTED (pageCorrected e)
  let s := s.setNand (fun n => { n with reads := Tab.put 0 n.reads k (Tab.get 0 n.reads k + 1) })
  let d := max 1 (storeDevs s)
  let lp : Nat := match logicalOf s dev (page / 64) with
    | some lb => (lb * 64 + page % 64) * d + dev
    | none => 0xFFFFFFFF
  let s := if pageUncorr e then (s.inc .STORE_PAGES_UNCORR).raise 0x0305 [dev, page, lp] else s
  if pageUncorr e ∨ 16 ≤ pageWorst e ∨ 50000 ≤ Tab.get 0 s.store.nand.reads k then refreshBlock dev (page / 64) s else s

/-- Wear levelling (R349): past a spread of 2,000 the contents of the least-erased data block go to the most-erased spare. -/
def levelWear (dev : Nat) (s : State) : State :=
  let n := s.store.nand
  let count (b : Nat) : Nat := Tab.get 0 n.erases (dev * 8192 + b)
  let data := (List.range (storeBlocks s)).filter (fun b =>
    !((spares s dev).contains b) && !(n.retired.contains (dev * 8192 + b)) && decide (dev ≠ 0 ∨ 2 ≤ b))
  let least := data.foldl (fun m b => match m with | none => some b | some x => if count b < count x then some b else m) (none : Option Nat)
  let most := (spares s dev).foldl (fun m b => match m with | none => some b | some x => if count x < count b then some b else m) (none : Option Nat)
  match least, most with
  | some a, some b =>
    if 2000 + count a < count b then
      match logicalOf s dev a with
      | some lb =>
        blockErased dev a (s.setNand (fun n =>
          { n with map := Tab.put 0 n.map (dev * 8192 + lb) (b + 1),
                   spare := Tab.put [] n.spare dev ((Tab.get [] n.spare dev).filter (· ≠ b) ++ [a]) }))
      | none => s
    else s
  | _, _ => s

/-- A record supersedes an earlier one: same kind and opcode, and an index in common or none named (R352); the records of one command do
not supersede each other (R353). -/
def supersedes (new old : JRec) : Bool :=
  new.first != old.first && new.kind == old.kind && new.op == old.op && (new.keys == old.keys || old.keys.all new.keys.contains)

/-- Live records of the journal. -/
def liveRecords : List JRec → List JRec
  | [] => []
  | r :: rest => if rest.any (fun n => supersedes n r) ∨ r.kind = 3 ∨ r.kind = 4 then liveRecords rest else r :: liveRecords rest

/-- The erase counts as journal records (R351): of each device, 2,000 blocks to a record. They are written with each checkpoint, which no
rule states (log entry 136). -/
def eraseRecords (s : State) : List JRec :=
  (List.range (storeDevs s)).flatMap (fun d => (List.range (ceilDiv (storeBlocks s) 2000)).map (fun p =>
    ({ kind := 5, seq := 0, op := 0, keys := [d * 8 + p], bytes := ceilDiv (20 + 2 * min 2000 (storeBlocks s - 2000 * p)) 8 * 8 } : JRec)))

/-- A checkpoint (R352): less than a quarter of the settings area is free; every live record is written again between START
and END, and the blocks before it are erased. The model writes it in one step (log entry 55). -/
def checkpoint (s : State) : State :=
  if s.journal.pages ≤ 6144 ∨ storeHeld s ∨ s.safe then s
  else
    let j := s.journal
    let live := (liveRecords j.stored).filter (fun r => r.kind ≠ 5) ++ eraseRecords s
    let mark (kind : Nat) : JRec := { kind := kind, seq := 0, op := 0, keys := [], bytes := 24 }
    let all := (mark 3 :: live ++ [mark 4]).zipIdx.map (fun p =>
      { p.1 with seq := j.seq + 1 + p.2, first := if p.1.kind = 1 then p.1.first else j.seq + 1 + p.2 })
    let pages := ceilDiv (all.foldl (fun a r => a + r.bytes) 0) 4096
    let s := { s with journal := { j with stored := all, seq := j.seq + all.length, pages := pages } }
    (s.bump .STORE_PAGES_PROGRAMMED pages).bump .STORE_BLOCKS_ERASED (j.pages / 64)

/-- The journal page being filled is closed and programmed (R353). -/
def journalClose (s : State) : State :=
  if s.journal.filling = [] ∨ s.journal.programming.isSome ∨ !(storeOpen s) then s
  else
    let recs := s.journal.filling
    programNext 0 (.journal recs)
      ({ s with journal := { s.journal with programming := some recs, filling := [], fill := 0 } }.stop .journalPage)

end Sys2Proof.Machine
end

