-- ==== Sys2Proof/Machine/EvtOps.lean ====
section
/-!
DEFINITION. The event recorder's shared operations (R401 to R409): records, the buffer and its pages, tail pages.
-/
namespace Sys2Proof.Machine

open Sys2Proof

/-- The event recorder's update. -/
def State.setEvt (s : State) (f : EvtState → EvtState) : State := { s with evt := f s.evt }

/-- Bytes of a record: the fixed part and its tail in units of 32 (R401). -/
def EvtRec.size (r : EvtRec) : Nat := 32 + ceilDiv (min r.tail.length 224) 32 * 32

/-- Bytes of several records. -/
def recsSize (rs : List EvtRec) : Nat := rs.foldl (fun a r => a + r.size) 0

/-- Programs of event pages in progress. -/
def evtOps (s : State) : List (List EvtRec) :=
  s.store.ops.filterMap (fun o => match o.task with | .events _ rs => some rs | _ => none)

/-- A program of an event page can begin: a device is free, the store works. -/
def evtCanStart (s : State) : Bool :=
  storeOpen s && !(storeHeld s) && decide ((evtOps s).length < storeDevs s) && (List.range (storeDevs s)).any (fun d => !(devStopped s d))

/-- Records that stand in no page programmed or being programmed (R403), oldest first. -/
def unflushed (s : State) : List EvtRec := s.evt.full.flatten ++ s.evt.page

/-- BUFFERED, NEXT_SEQ, OLDEST_SEQ and PERMANENT_FULL read what the recorder holds (Table 16.14). -/
def evtShow (s : State) : State :=
  let s := s.set .EVT_STATUS_BUFFERED (recsSize (unflushed s) + recsSize (evtOps s).flatten)
  let oldest := (s.store.nand.permanent ++ s.store.nand.circulating.flatten ++ s.store.nand.tail.flatten ++ (evtOps s).flatten ++ unflushed s).map (·.seq)
  let s := match oldest with
    | [] => s
    | x :: r => s.set .EVT_OLDEST_SEQ_SEQ (r.foldl min x)
  s.set .EVT_STATUS_PERMANENT_FULL (b2n (decide (4096 ≤ s.store.nand.permanent.length)))

/-- The area of the oldest unflushed record (R405). -/
def frontArea (s : State) : Nat := if s.evt.made - (unflushed s).length < 4096 then 1 else 2

/-- Full pages begin to be programmed while they can (R403). -/
def evtStart : Nat → State → State
  | 0, s => s
  | fuel + 1, s =>
    match s.evt.full with
    | [] => s
    | p :: rest =>
      if evtCanStart s then
        let area := frontArea s
        evtStart fuel (programNext area (.events area p) (s.setEvt (fun e => { e with full := rest })))
      else s

/-- The page being filled is closed; it is programmed as soon as the store takes it. -/
def evtClose (s : State) : State :=
  if s.evt.page = [] then s else evtStart 16 (s.setEvt (fun e => { e with full := e.full ++ [e.page], page := [] }))

/-- A record of n bytes has room (R403): the unflushed records stay within one page per store device, and the buffer within
64 KiB. -/
def evtRoom (n : Nat) (s : State) : Bool :=
  let fits := decide (recsSize s.evt.page + n ≤ 4096)
  let starts := evtCanStart s && s.evt.full.isEmpty
  let full := s.evt.full.length + (if fits || s.evt.page.isEmpty || starts then 0 else 1)
  decide (full + 1 ≤ storeDevs s) && decide (s.get .EVT_STATUS_BUFFERED + n ≤ 65536)

/-- A record is made: it takes the next number (R402, R403). `flags` beside PFAIL and RECOVERY. -/
def evtPut (flags : Nat) (e : Ev) (s : State) : State :=
  let n := s.get .EVT_NEXT_SEQ_SEQ
  let f := flags + (if s.pins.pfail then 0 else 2) + (if s.fault.running.isEmpty then 0 else 4)
  let ws := (e.words ++ [0, 0, 0, 0]).take 4
  let r : EvtRec := ⟨e.code, f, n, ws, e.tail.take 224⟩
  let s := if recsSize s.evt.page + r.size ≤ 4096 then s else evtClose s
  let now := s.now
  let s := s.setEvt (fun v => { v with page := v.page ++ [r], made := v.made + 1, sinceRead := v.sinceRead + 1,
                                       firstAt := if v.firstAt = 0 then now + 1 else v.firstAt })
  let s := (s.set .EVT_NEXT_SEQ_SEQ (n + 1)).inc .FLT_EVT_RECORDS
  evtShow (if recsSize s.evt.page = 4096 ∨ s.evt.made = 4096 then evtClose s else s)

/-- EVENTS_LOST is recorded at the first moment the buffer has room (R403). -/
def evtLost (s : State) : State :=
  if s.evt.dropped ≠ 0 ∧ s.isSet .EVT_STATUS_RUNNING ∧ evtRoom 32 s then
    let k := s.evt.dropped
    evtPut 0 ⟨0x0E09, [k], []⟩ (s.setEvt (fun e => { e with dropped := 0 }))
  else s

/-- One event becomes a record, or is dropped and counted where the buffer is full (R403); without an open store no record
is made (R358, R403). -/
def evtMake (flags : Nat) (e : Ev) (s : State) : State :=
  if s.isSet .EVT_STATUS_RUNNING then
    let s := evtLost s
    let n := 32 + ceilDiv (min e.tail.length 224) 32 * 32
    if evtRoom n s then evtPut flags e s
    else (s.inc .FLT_EVT_DROPPED).setEvt (fun v => { v with dropped := v.dropped + 1 })
  else s

/-- The recorder has not yet begun to number: events raised before boot step 7 are held (R402). -/
def evtHolding (s : State) : Bool := !(s.isSet .EVT_STATUS_RUNNING) && decide (s.get .SYS_BOOT_PHASE < 7) && !(s.inRescue)

/-- Every event raised so far becomes a record, in order (R403); held ones stay. -/
def recordAll (s : State) : State :=
  if evtHolding s then s
  else
    let es := s.raised
    es.foldl (fun s e => evtMake 0 e s) { s with raised := [] }

/-- Records grouped into pages of 4 KiB, in order. -/
def packPages : List EvtRec → List EvtRec → List (List EvtRec)
  | cur, [] => if cur = [] then [] else [cur]
  | cur, r :: rest => if recsSize cur + r.size ≤ 4096 then packPages (cur ++ [r]) rest else cur :: packPages [r] rest

/-- The unflushed records are programmed at once as tail pages (R404): copies, counted one by one. -/
def tailFlush (s : State) : State :=
  let s := recordAll s
  if !(s.isSet .EVT_STATUS_RUNNING) then s
  else (packPages [] (unflushed s)).foldl (fun s p => (programNext 3 (.tail p) s).inc .FLT_EMERGENCY_FLUSHES) s

/-- The number that the record of an event now raised takes, or 0 when none is made (R391): the event's record is made at
once, after those raised before it. -/
def recordNow (e : Ev) (s : State) : State × Nat :=
  if s.isSet .EVT_STATUS_RUNNING then
    let s := recordAll s
    let n := s.ctr .FLT_EVT_DROPPED
    let t := evtMake 0 e s
    (t, if t.ctr .FLT_EVT_DROPPED = n then t.get .EVT_NEXT_SEQ_SEQ - 1 else 0)
  else (s.raise e.code e.words e.tail, 0)

end Sys2Proof.Machine
end

