-- ==== Sys2Proof/Machine/LineCode.lean ====
section
/-!
DEFINITION. The codes of a line port ("Coherent line ports"): the outer code RS(544,514) with its encoder and its decoder, the codeword
pair, the inner convolutional code with its puncturing, the mapper, and the symbols of a burst.
-/
namespace Sys2Proof.Machine

/-! ### GF(2^10) and RS(544,514) (R11; polynomials, symbol order: log entry 125) -/

/-- An element of GF(2^10) times α: the field polynomial is x^10 + x^3 + 1. -/
def gfX (a : Nat) : Nat := if 512 ≤ a then (2 * a % 1024) ^^^ 9 else 2 * a

/-- A product in GF(2^10). -/
def gfMul (a b : Nat) : Nat :=
  if a = 0 ∨ b = 0 then 0
  else ((List.range 10).foldl (fun (p : Nat × Nat) i => (if bit b i then p.1 ^^^ p.2 else p.1, gfX p.2)) (0, a)).1

/-- α to the power k. -/
def gfAlpha : Nat → Nat
  | 0 => 1
  | k + 1 => gfX (gfAlpha k)

/-- The inverse of an element, its power 1,022. -/
def gfInv (a : Nat) : Nat :=
  ((List.range 9).foldl (fun (p : Nat × Nat) _ => let q := gfMul p.2 p.2; (gfMul p.1 q, q)) (1, a)).1

/-- A polynomial, highest coefficient first, times x + r. -/
def gfTimesRoot (g : List Nat) (r : Nat) : List Nat := List.zipWith (· ^^^ ·) (g ++ [0]) (0 :: g.map (gfMul r))

/-- The generator polynomial: the product of x + α^j for j from 0 to 29, highest coefficient first. -/
def rsGenerator : List Nat := (List.range 30).foldl (fun g j => gfTimesRoot g (gfAlpha j)) [1]

/-- The 30 parity symbols of a message, first message symbol highest (R11). -/
def rsParity (msg : List Nat) : List Nat :=
  msg.foldl (fun r m =>
    let fb := m ^^^ r.headD 0
    List.zipWith (· ^^^ ·) (r.drop 1 ++ [0]) ((rsGenerator.drop 1).map (gfMul fb))) (List.replicate 30 0)

/-- A received word, highest symbol first, at α^j. -/
def rsAt (w : List Nat) (x : Nat) : Nat := w.foldl (fun a c => gfMul a x ^^^ c) 0

/-- The 30 syndromes of a received word. -/
def rsSyndromes (w : List Nat) : List Nat := (List.range 30).map (fun j => rsAt w (gfAlpha j))

/-- A polynomial, lowest coefficient first, plus k x^m times another. -/
def gfAddShifted (c b : List Nat) (k m : Nat) : List Nat :=
  let t := List.replicate m 0 ++ b.map (gfMul k)
  (List.range (max c.length t.length)).map (fun i => c.getD i 0 ^^^ t.getD i 0)

/-- The error locator of a list of syndromes, lowest coefficient first, with its length (the shortest register that makes them). -/
def rsLocator (syn : List Nat) : List Nat × Nat :=
  let f := (List.range syn.length).foldl
    (fun (p : List Nat × List Nat × Nat × Nat × Nat) n =>
      let (c, b, l, m, d0) := p
      let d := (List.range (l + 1)).foldl (fun a i => a ^^^ gfMul (c.getD i 0) (syn.getD (n - i) 0)) 0
      if d = 0 then (c, b, l, m + 1, d0)
      else
        let c' := gfAddShifted c b (gfMul d (gfInv d0)) m
        if 2 * l ≤ n then (c', c, n + 1 - l, 1, d) else (c', b, l, m + 1, d0))
    ([1], [1], 0, 1, 1)
  (f.1, f.2.2.1)

/-- A polynomial, lowest coefficient first, at a point. -/
def gfEval (p : List Nat) (x : Nat) : Nat := p.reverse.foldl (fun a c => gfMul a x ^^^ c) 0

/-- The outer decoder on one codeword of 544 symbols (R13): up to 15 symbols are repaired, and more are reported as a failure. The word
as repaired, or as received. -/
def rsDecode (w : List Nat) : Codeword × List Nat :=
  let syn := rsSyndromes w
  if syn.all (· == 0) then (.decoded 0, w)
  else
    let (c, l) := rsLocator syn
    let at_ := (List.range w.length).filter (fun i => gfEval c (gfAlpha (1023 - (w.length - 1 - i))) == 0)
    if 15 < l ∨ at_.length ≠ l then (.uncorrectable, w)
    else
      let omega := (List.range 30).map (fun k =>
        (List.range (k + 1)).foldl (fun a i => a ^^^ gfMul (c.getD i 0) (syn.getD (k - i) 0)) 0)
      let odd := (List.range c.length).map (fun i => if i % 2 = 0 then c.getD (i + 1) 0 else 0)
      let fix := at_.foldl (fun w i =>
        let p := w.length - 1 - i
        let z := gfAlpha (1023 - p)
        w.set i (w.getD i 0 ^^^ gfMul (gfAlpha p) (gfMul (gfEval omega z) (gfInv (gfEval odd z))))) w
      if (rsSyndromes fix).all (· == 0) then (.decoded l, fix) else (.uncorrectable, w)

/-! ### The codeword pair (R12) -/

/-- Bytes, most significant bit first, cut into symbols of 10 bits. -/
def symbols10 : List Nat → List Nat
  | a :: b :: c :: d :: e :: r =>
    let v := ofBytes [a, b, c, d, e]
    [bits v 30 10, bits v 20 10, bits v 10 10, bits v 0 10] ++ symbols10 r
  | _ => []

/-- The bytes that symbols of 10 bits spell. -/
def bytes10 : List Nat → List Nat
  | a :: b :: c :: d :: r => toBytes 5 (a * 2 ^ 30 + b * 2 ^ 20 + c * 2 ^ 10 + d) ++ bytes10 r
  | _ => []

/-- The entries of a list at even places, and those at odd places. -/
def unweave : List Nat → List Nat × List Nat
  | a :: b :: r => let p := unweave r; (a :: p.1, b :: p.2)
  | [a] => ([a], [])
  | [] => ([], [])

/-- Two lists interleaved, the first one first. -/
def weave : List Nat → List Nat → List Nat
  | a :: r, b :: t => a :: b :: weave r t
  | r, [] => r
  | [], t => t

/-- The coded pair of 1,285 data bytes: 1,088 symbols of 10 bits, message symbols of A and B in turn, then their parity (R12). -/
def codedPair (data : List Nat) : List Nat :=
  let x := symbols10 data
  let p := unweave x
  x ++ weave (rsParity p.1) (rsParity p.2)

/-- What the outer decoders make of the 1,088 symbols of a pair (R12, R13): a result for each codeword, and the 1,285 data bytes. -/
def decodePair (word : List Nat) : Codeword × Codeword × List Nat :=
  let p := unweave word
  let a := rsDecode p.1
  let b := rsDecode p.2
  (a.1, b.1, bytes10 (weave (a.2.take 514) (b.2.take 514)))

/-- The bits of symbols of w bits, most significant first. -/
def bitsOf (w : Nat) (xs : List Nat) : List Nat := xs.flatMap (fun x => (List.range w).map (fun i => bits x (w - 1 - i) 1))

/-! ### The inner code (R15 to R17) -/

/-- The parity of the seven low bits. -/
def parity7 (v : Nat) : Nat := ((List.range 7).map (fun i => bits v i 1)).foldl (· + ·) 0 % 2

/-- The puncturing patterns of Table 1.3, X and Y, from j = 0 on. -/
def puncture : Nat → List (Nat × Nat)
  | 0 => [(1, 1)]
  | 1 => [(1, 1), (0, 1)]
  | 2 => [(1, 1), (0, 1), (1, 0)]
  | 3 => [(1, 1), (0, 1), (1, 0), (0, 1), (1, 0)]
  | _ => [(1, 1), (0, 1), (0, 1), (0, 1), (1, 0), (0, 1), (1, 0)]

/-- The outputs the encoder emits for one input bit b after the six bits `st` (the newest highest), at place j of the period (R15):
generators 171 and 133 octal, whose highest digit takes the bit itself (log entry 125). -/
def convOut (rate st j b : Nat) : List Nat :=
  let r := b * 64 + st
  let p := (puncture rate).getD (j % (puncture rate).length) (1, 1)
  (if p.1 = 1 then [parity7 (r &&& 0o171)] else []) ++ (if p.2 = 1 then [parity7 (r &&& 0o133)] else [])

/-- The encoder over input bits, from six earlier bits and a place in the puncturing period: the coded bits, and the six bits it ends
with. -/
def convEncode (rate st j : Nat) : List Nat → List Nat × Nat
  | [] => ([], st)
  | b :: r =>
    let (out, e) := convEncode rate ((b * 64 + st) / 2) (j + 1) r
    (convOut rate st j b ++ out, e)

/-- The coded bits of pair `pair` of a downstream superframe (R16): always rate 5/6, without termination, so that the six bits before it
count; the puncturing period restarts at the superframe's first symbol, with pair 0. -/
def downstreamBits (before pair : Nat) (word : List Nat) : List Nat :=
  (convEncode 3 before (pair * 10880 % 5) (bitsOf 10 word)).1

/-- The coded bits of an upstream body (R17): from the all-zero state the pairs, 6 zero tail bits, zeros up to a multiple of k, and zeros
up to a whole symbol of b bits. -/
def bodyBits (rate b : Nat) (body : List Nat) (pairs : Nat) : List Nat :=
  let data := (List.range pairs).flatMap (fun i => bitsOf 10 (codedPair ((body ++ List.replicate (1285 * pairs - body.length) 0).drop (1285 * i)
    |>.take 1285)))
  let k := (puncture rate).length
  let input := data ++ List.replicate 6 0
  let coded := (convEncode rate 0 0 (input ++ List.replicate (ceilDiv input.length k * k - input.length) 0)).1
  coded ++ List.replicate (ceilDiv coded.length b * b - coded.length) 0

/-- Coded bits that come before those of input bit i (R15): k bits make k + 1. -/
def codedBefore (rate i : Nat) : Nat :=
  let p := puncture rate
  i / p.length * (p.length + 1) + ((p.take (i % p.length)).map (fun x => x.1 + x.2)).foldl (· + ·) 0

/-- The symbol, of a stretch of pairs coded from its first bit on, that carries the first coded bit of data byte a (R12, R15 to R17). -/
def byteSymbol (rate format a : Nat) : Nat := codedBefore rate (a / 1285 * 10880 + a % 1285 * 8) / (4 * (format + 1))

/-! ### The mapper (R10) -/

/-- The level of an axis label (Table 1.2); `axis` is the number of bits per axis. -/
def axisLevel (axis label : Nat) : Int :=
  match axis with
  | 1 => [-1, 1].getD label 0
  | 2 => [-3, -1, 3, 1].getD label 0
  | _ => [-7, -5, -1, -3, 7, 5, 1, 3].getD label 0

/-- The symbol of b = 4 axis bits: X before Y, I before Q, the first bit of an axis the most significant of its label. -/
def mapSymbol (axis : Nat) (bs : List Nat) : LineSym :=
  let lv (k : Nat) : Int := axisLevel axis (((bs.drop (k * axis)).take axis).foldl (fun a b => 2 * a + b) 0)
  ⟨lv 0, lv 1, lv 2, lv 3⟩

/-- The symbols of coded bits in a format (R10, Table 1.1). -/
def mapBits (format : Nat) (bs : List Nat) : List LineSym :=
  let b := 4 * (format + 1)
  (List.range (bs.length / b)).map (fun k => mapSymbol (format + 1) ((bs.drop (k * b)).take b))

/-! ### The symbols of a burst (R63, R64) -/

/-- Preamble symbol m (R64). -/
def preambleSym (m : Nat) : LineSym := if m % 2 = 0 then ⟨1, 1, 1, -1⟩ else ⟨-1, -1, -1, 1⟩

/-- Delimiter symbol k: bit k of 0x7A12_C5E3_9B04_6FD8, most significant first, on X, its inverse on Y (R64). -/
def delimiterSym (k : Nat) : LineSym :=
  let v : Int := 2 * (bits 0x7A12C5E39B046FD8 (63 - k) 1 : Nat) - 1
  ⟨v, v, -v, -v⟩

/-- What one subcarrier of a burst carries (R63): ramps of so many symbols, preamble and delimiter at the levels of DP-QPSK, the body at
those of its format; every part has the same average power (R10, R64). -/
def lineWave (sc ramp preamble rate format pairs : Nat) (body : List Nat) : LineWave :=
  { sc := sc, ramp := ramp, preamble := (List.range preamble).map preambleSym, delimiter := (List.range 64).map delimiterSym,
    format := format, body := mapBits format (bodyBits rate (4 * (format + 1)) body pairs) }

/-! ### The bytes of a burst (R57, R59, R63, R65) -/

/-- Preamble symbols of a grant (Tables 1.17 and 2.7). -/
def preambleOf (prof : Nat) (long : Bool) : Nat := if long then 4096 else (bits prof 4 4 + 1) * 256

/-- The 8 bytes of an upstream envelope header (Table 2.9). -/
def envHeader (type key aid len : Nat) : List Nat :=
  let b := toBytes 6 (len * 2 ^ 34 + type * 2 ^ 30 + key * 2 ^ 28 + aid * 2 ^ 19)
  b ++ toBytes 2 (crc16 b)

/-- An envelope with its padding (R59). -/
def envelope (type key aid : Nat) (body : List Nat) : List Nat := envHeader type key aid body.length ++ pad8 body

/-- Idle bytes in front of a later envelope, a multiple of 8 of them (R59). -/
def idleBytes (k : Nat) : List Nat :=
  (List.replicate (k / 16384) (envHeader 0 0 0 16376 ++ List.replicate 16376 0)).flatten ++
    (if k % 16384 = 0 then [] else envHeader 0 0 0 (k % 16384 - 8) ++ List.replicate (k % 16384 - 8) 0)

/-- The 48 bytes of REPORT[0-7] (Table 2.11). -/
def reportBytes (rs : List (Nat × Nat)) : List Nat :=
  (List.range 8).flatMap (fun k => match rs[k]? with
    | some (a, v) => [128 + a, 0] ++ toBytes 4 v
    | none => [0, 0, 0, 0, 0, 0])

/-- A burst header (Table 2.11). -/
def burstHeader (tid epoch aid flags seq : Nat) (rs : List (Nat × Nat)) : List Nat :=
  let b := toBytes 2 tid ++ toBytes 2 epoch ++ [aid, flags] ++ toBytes 2 seq ++ [0, 0, 0, 0] ++ reportBytes rs
  b ++ toBytes 4 (crc32c b)

/-- The local instant at which the symbol begins that carries the first bit of byte `pos` of a burst's streams (R17, R63, R91, R120). -/
def Burst.timeAt (b : Burst) (pos : Nat) : Nat :=
  b.bodyFrom + byteSymbol (bits b.grant.prof 1 3) (bits b.grant.prof 0 1) (64 + pos) * uSym

/-- The first number from `lo` to `hi` that passes a test which every later one passes too, `hi` where none below it does. The first argument
bounds the halvings. -/
def firstOf (ok : Nat → Bool) : Nat → Nat → Nat → Nat
  | 0, lo, _ => lo
  | fuel + 1, lo, hi =>
    if hi ≤ lo then lo
    else
      let m := (lo + hi) / 2
      if ok m then firstOf ok fuel lo m else firstOf ok fuel (m + 1) hi

/-- Of the stretch of a stream from byte `from_` to byte `to_`, the first byte whose symbol does not begin before an instant. -/
def Burst.byteFrom (b : Burst) (t from_ to_ : Nat) : Nat := firstOf (fun m => decide (t ≤ b.timeAt m)) 64 from_ to_

/-- Bytes of an envelope of LENGTH `len`, with its header and its padding (R59). -/
def spanOf (len : Nat) : Nat := 8 + ceilDiv len 8 * 8

/-- The closing fill of a stream (R59): IDLE envelopes, and zeros in a tail shorter than 8 bytes. -/
def closingFill (k : Nat) : List Nat := idleBytes (k / 8 * 8) ++ List.replicate (k % 8) 0

/-- The bodies of a burst by subcarrier: its header, its stream, and the closing fill (R59, R65). -/
def burstBodies (b : Burst) : List (Nat × List Nat) :=
  b.streams.zipIdx.map (fun p =>
    (p.1.sc, (if p.2 = 0 then b.head else b.headRest) ++ p.1.bytes ++ closingFill (p.1.cap - p.1.bytes.length)))

end Sys2Proof.Machine
end

