-- ==== Sys2Proof/Machine/TreeOps.lean ====
section
/-!
DEFINITION. The terminal state machine's shared operations ("Joining, ranging and staying on the tree"): change of state,
identity, downstream loss, dark condition, the return rule, deposition, and Bay's latch.
-/
namespace Sys2Proof.Machine

open Sys2Proof

/-- Terminal states of Table 3.1. -/
def tsOffline : Nat := 0
def tsListen : Nat := 1
def tsCandidate : Nat := 2
def tsRanging : Nat := 3
def tsMember : Nat := 4
def tsDozing : Nat := 5
def tsHoldover : Nat := 6
def tsDeposed : Nat := 7
def tsDark : Nat := 8

/-- The terminal state of port n. -/
def State.tree (s : State) (n : Nat) : Nat := s.get .LINE_TREE_STATE_STATE n

/-- The lock bit of a clock (Tables 15.5, 15.22): domain and instance; a recovered DCLK is one of its own register, PCLK and SCLK have none. -/
def clkShow (domain inst : Nat) (up : Bool) (s : State) : State :=
  let locked (k : Nat) : State := s.set .PWR_CLK_LOCKED (withBit (s.get .PWR_CLK_LOCKED) k up)
  match domain with
  | 0 => locked 0
  | 1 => locked 1
  | 2 => if up then s else s.set .PWR_CLK_DCLK_RECOVERED (withBit (s.get .PWR_CLK_DCLK_RECOVERED) inst false)
  | 3 => locked 2
  | 4 => locked (4 + inst)
  | 5 => s.set .PWR_CLK_LCLK_LOCKED (withBit (s.get .PWR_CLK_LCLK_LOCKED) inst up)
  | 8 => locked 3
  | _ => s

/-- Lost clocks that run again: they lock, and their CLOCK_LOSS condition ends (R374, R400). -/
def clkBack (codes : List Nat) (s : State) : State :=
  let s := codes.foldl (fun s c => clkShow (c / 4) (c % 4) true s) s
  { s with power := { s.power with lost := s.power.lost.filter (fun c => !(codes.contains c)) } }

/-- The silence clock in whole ms (R79). -/
def silentMs (n : Nat) (s : State) : Nat :=
  match (s.term n).silentSince with
  | some a => (s.now - a) / uMs
  | none => 0

/-- The silence clock stops, reset to 0 (R79). -/
def silenceStop (n : Nat) (s : State) : State :=
  (s.setTerm n (fun t => { t with silentSince := none })).set .LINE_TREE_STATE_SILENT_MS 0 n

/-- The wait for the own directory entry ends (R82). -/
def endWait (n : Nat) (s : State) : State := (s.stop (.returnEntry n)).setTerm n (fun t => { t with awaiting := false })

/-- A change of terminal state: PREV_STATE, STATE and event STATE_CHANGE with its cause (R81, Table 3.11). The silence clock
stops at entry to MEMBER, LISTEN, DEPOSED or OFFLINE, and the ranging timer and directory wait of another state end. -/
def setTree (n new cause : Nat) (s : State) : State :=
  let old := s.tree n
  let s := (s.set .LINE_TREE_STATE_PREV_STATE old n).set .LINE_TREE_STATE_STATE new n
  let s := s.raise 0x0501 [n, new + old * 16, cause]
  let s := s.when (new == tsMember || new == tsListen || new == tsDeposed || new == tsOffline) (silenceStop n)
  let s := s.when (new == tsListen || new == tsDeposed || new == tsOffline) (fun s => s.setTerm n (fun t => { t with afterOutage := false }))
  let s := s.when (new != tsRanging) (fun s => s.stop (.ranging n))
  let s := s.when (new != tsHoldover && new != tsDark)
    (endWait n)
  s.when (new == tsListen) (fun s => s.setTerm n (fun t => { t with mismatchSeen := false }))

/-- OUTAGE_END with the silence the return rule read, and its outcome (R82). -/
def outageEnd (n ms outcome : Nat) (s : State) : State :=
  (s.raise 0x050A [n, min ms (2 ^ 32 - 1), outcome]).setTerm n (fun t => { t with afterOutage := false })

/-- The transmitter is dark again; a fine tune withheld during the burst is sent by DEFERRED_FINE_TUNE (R20, R28). -/
def txDark (n : Nat) (s : State) : State := (s.set .LINE_STATUS_TX_ACTIVE 0 n).set .LINE_TX_DARK 1 n

/-- A copy in a burst ends (R63, R97): `sent` bytes of it were sent, all of them when `ok`. -/
def endInBurst (k sent : Nat) (ok : Bool) (s : State) : State :=
  let c : Copy := Tab.get {} s.copies k
  let new : Copy := { c with phase := 3, sent := sent, ok := ok }
  if c = {} ∨ c.phase = 3 then s else { s with copies := Tab.put {} s.copies k new }

/-- A copy that is being sent and has begun by now is counted, once: in SPEC_START where it is speculative (R146), and as its launch time has
it (R127). -/
def countStart (k : Nat) (s : State) : State :=
  let c : Copy := Tab.get {} s.copies k
  let new : Copy := { c with startCounted := true }
  if c.phase = 2 ∧ !c.startCounted ∧ c.begunAt ≤ s.now then
    let s := s.when c.spec (fun s => s.inc .SWS_SPEC_START c.dest)
    let s := (s.when (c.timed == 1) (fun s => s.inc .TIME_TIMED_SENT c.dest)).when (c.timed == 2) (fun s => s.inc .TIME_TIMED_LATE_SENT c.dest)
    { s with copies := Tab.put {} s.copies k new }
  else s

/-- The frames of a burst that stops now: those wholly sent are sent; of one in the middle the bytes so far; others none. -/
def cutBurst (b : Burst) (s : State) : State :=
  b.placed.foldl (fun s p =>
    let s := s.when b.onAir (countStart p.copy)
    if b.onAir ∧ p.to_ ≤ s.now then endInBurst p.copy ((Tab.get ({} : Copy) s.copies p.copy).len + 4) true s
    else if b.onAir ∧ p.from_ < s.now then
      endInBurst p.copy (b.byteFrom s.now p.pos (p.pos + spanOf p.len) - p.pos) false s
    else endInBurst p.copy 0 false s) s

/-- Frames of a burst that have not been sent whole. -/
def unsentOf (b : Burst) (s : State) : Nat := (b.placed.filter (fun p => !(b.onAir && decide (p.to_ ≤ s.now)))).length

/-- A burst being built is given up: the frames dequeued into it are dropped and counted (R98). -/
def giveUp (n : Nat) (s : State) (b : Burst) : State := cutBurst b (s.bump .LP_TRUNC_FRAMES b.placed.length n)

/-- Pending grants are discarded, with their windows and what has been built for them (R97, R98, R101). -/
def discardGrants (n : Nat) (s : State) : State :=
  let t := s.term n
  let s := t.built.foldl (giveUp n) (s.bump .LP_GRANT_DISCARD (t.grants.length + t.built.length) n)
  s.setTerm n (fun t =>
    { t with grants := [], built := [],
             windows := t.windows.filter (fun w => match t.burst with
               | some b => b.onAir && w.anchor == b.grant.anchor && w.start == b.grant.start
               | none => false) })

/-- A burst ends (R63, R65): it is counted, and what the subcarriers of its mask carried has left the device, up to `dark` in local
time. -/
def burstOut (n : Nat) (b : Burst) (dark : Nat) (s : State) : State :=
  let g := b.grant
  let bodies := burstBodies b
  let wave (x : Nat × List Nat) : LineWave :=
    lineWave x.1 (32 * (bits g.prof 8 5 + 1)) (preambleOf g.prof g.longPreamble) (bits g.prof 1 3) (bits g.prof 0 1) g.length x.2
  (s.inc .LP_BURSTS_SENT n).emit
    (.burst n g.upSf g.start g.scMask g.lastSym g.aid b.flags b.seq bodies (bodies.map wave) dark)

/-- A burst in progress is truncated, by a ramp-down, whose end BURST_END sees, or, where Bay trips, without one; frames dequeued into
it and not sent are dropped (R28, R97, R98, R102). R98 counts them in TRUNC_FRAMES at downstream loss; that frames of a burst cut by
deposition or by a dark condition are counted there too is the model's choice (log entry 126). -/
def cutOff (n : Nat) (ramp : Bool) (s : State) : State :=
  match (s.term n).burst with
  | none => s
  | some b =>
    let end_ := s.now + 32 * (bits b.grant.prof 8 5 + 1) * uSym
    let s := if b.cutTo.isSome then s
      else
        let s := (s.inc .LP_BURST_TRUNC n).when ramp (fun s => s.emit (.rampDown n))
        cutBurst b (s.bump .LP_TRUNC_FRAMES (unsentOf b s) n)
    if ramp then
      s.setTerm n (fun t => { t with burst := some { b with placed := [], cutTo := some (b.cutTo.getD end_) }, windows := [] })
    else txDark n (burstOut n b s.now (s.setTerm n (fun t => { t with burst := none, windows := [] })))

/-- A burst in progress begins its ramp-down (R97, R98). -/
def truncateBurst (n : Nat) (s : State) : State := cutOff n true s

/-- The identity is cleared (Table 3.2); the terminal has nothing more to send. -/
def clearIdentity (n : Nat) (s : State) : State :=
  let s := truncateBurst n (discardGrants n s)
  let s := s.setAll [(.LINE_TREE_STATE_IDENT_VALID, 0), (.LINE_TREE_STATE_DIR_GRACE, 0), (.LINE_TREE_ID_TID, 0),
    (.LINE_TREE_ID_EPOCH, 0), (.LINE_TREE_RANGE_EQD, 0), (.LINE_TREE_RANGE_TRIM, 0), (.LINE_TREE_RANGE_DN_DELAY, 0),
    (.LINE_TREE_DOZE_REQUESTED, 0), (.LINE_TREE_DOZE_PERIOD, 0)] n
  ((s.stop (.dirGrace n)).stop (.checkin n)).setTerm n (fun t =>
    { t with lastUpSf := none, rangeNext := [], rangeBase := none, wakePending := false, dozeMissed := false,
             awaiting := false, txPowered := true })

/-- Identity and profiles are cleared, the profiles to 0 (Table 3.2, Table 1.17). -/
def clearProfiles (n : Nat) (s : State) : State :=
  let s := (List.range 16).foldl (fun s j => [Fld.LINE_UP_PROFILE_VALID, .LINE_UP_PROFILE_RAMP,
    .LINE_UP_PROFILE_PREAMBLE, .LINE_UP_PROFILE_RATE, .LINE_UP_PROFILE_FORMAT].foldl (fun s f => s.set f 0 n j) s)
    (clearIdentity n s)
  s.setTerm n (fun t => { t with profileNext := [], profileBase := none })

/-- A dark condition holds: Bay is tripped or the host set the port dark (R79). -/
def darkHolds (n : Nat) (s : State) : Bool := s.isSet .LINE_BAY_TRIPPED n || s.isSet .LINE_TREE_CFG_HOST_DARK n

/-- The control subcarrier of port n is in SYNC (R46). -/
def controlSync (n : Nat) (s : State) : Bool :=
  (s.line n).controlKnown && s.get .LINE_FRM_STATE n (s.get .LINE_STATUS_CONTROL_SC n) == 2

/-- A subcarrier is the control subcarrier in force; none is before the first search succeeds (R26, R40). -/
def isControl (n sc : Nat) (s : State) : Bool := (s.line n).controlKnown && sc == s.get .LINE_STATUS_CONTROL_SC n

/-- The silence clock starts unless it runs (R79). -/
def silenceStart (n : Nat) (s : State) : State :=
  match (s.term n).silentSince with
  | some _ => s
  | none =>
    let from_ := s.tree n
    s.setTerm n (fun t => { t with silentSince := some s.now, silentFrom := from_ })

/-- A pending presence burst is abandoned (Table 3.2). -/
def abandonPresence (n : Nat) (s : State) : State :=
  (s.stop (.assignWait n)).setTerm n (fun t => { t with presence := none, nonce := none })

/-- Downstream loss at the terminal (R79, R80, R98): to HOLDOVER with the burst truncated and pending grants discarded, or
back to LISTEN from CANDIDATE; Bay's SYNC cause becomes present and is due 80 ns later (Table 3.8). -/
def downstreamLoss (n cause : Nat) (s : State) : State :=
  let now := s.now
  let s := (endWait n s).setTerm n (fun t => { t with lossAt := some now })
  let s := s.set .LINE_BAY_PRESENT (withBit (s.get .LINE_BAY_PRESENT n) 2 true) n
  let st := s.tree n
  if st = tsCandidate then setTree n tsListen cause (truncateBurst n (abandonPresence n s))
  else if st = tsMember ∨ st = tsDozing ∨ st = tsRanging then
    (setTree n tsHoldover cause (discardGrants n (truncateBurst n (silenceStart n s)))).inc .LP_OUTAGES n
  else if st = tsDark then (setTree n tsHoldover cause s).inc .LP_OUTAGES n
  else s

/-- A dark condition arises (R80); a terminal that awaits its directory entry enters or stays in DARK (R82). -/
def darkArises (n cause : Nat) (s : State) : State :=
  let st := s.tree n
  let waited := (s.term n).awaiting
  let s := endWait n s
  if st = tsCandidate then setTree n tsListen cause (truncateBurst n (abandonPresence n s))
  else if st = tsMember ∨ st = tsDozing ∨ st = tsRanging then
    setTree n tsDark cause (truncateBurst n (discardGrants n (silenceStart n s)))
  else if st = tsHoldover ∧ waited then setTree n tsDark cause s
  else s

/-- Entry to RANGING with its timer (R80, R89). -/
def toRanging (n cause : Nat) (s : State) : State :=
  ((setTree n tsRanging cause s).setTerm n (fun t => { t with txPowered := true })).start (.ranging n)

/-- The return rule on leaving HOLDOVER or DARK with the control subcarrier in SYNC (R82). The 16 superframes of its step 2 are counted
from here, also where the subcarrier was in SYNC before: the model's choice (log entry 126). -/
def returnRule (n cause : Nat) (s : State) : State :=
  let ms := silentMs n s
  let t := s.term n
  if darkHolds n s then (if s.tree n = tsDark then s else setTree n tsDark cause s)
  else if ms < s.get .LINE_TREE_TIMERS_RESUME_LIMIT n ∧ (t.silentFrom = tsMember ∨ t.silentFrom = tsDozing) then
    (s.setTerm n (fun t => { t with awaiting := true, outageMs := ms })).start (.returnEntry n)
  else if ms < s.get .LINE_TREE_TIMERS_REREG_LIMIT n * 100 then
    toRanging n cause (s.setTerm n (fun t => { t with outageMs := ms, afterOutage := true }))
  else s

/-- The dark condition may have ended: the return rule runs if it has and the control subcarrier is in SYNC (R80). -/
def darkMayEnd (n cause : Nat) (s : State) : State :=
  if s.tree n = tsDark ∧ !(darkHolds n s) ∧ controlSync n s ∧ (s.term n).awaiting = false then returnRule n cause s else s

/-- Epoch e is newer than o (R96). -/
def newerEpoch (e o : Nat) : Bool :=
  let d := (e + 65536 - o % 65536) % 65536
  decide (1 ≤ d ∧ d ≤ 32767)

/-- Deposition (R96, R97): at once, with identity and profiles cleared; AUTO_REJOIN takes the terminal on to LISTEN. -/
def depose (n reason seen cause : Nat) (s : State) : State :=
  let own := s.get .LINE_TREE_ID_EPOCH n
  let s := setTree n tsDeposed cause (clearProfiles n s)
  let s := (s.raise 0x0502 [n, reason, own + seen % 65536 * 65536]).inc .LP_DEPOSITIONS n
  let s := s.setTerm n (fun t => { t with afterOutage := false })
  if s.isSet .LINE_TREE_CFG_AUTO_REJOIN n then setTree n tsListen cause s else s

/-- Bay releases causes: BAY_RELEASE, and the dark condition may end (R103). -/
def bayRelease (n causes cause : Nat) (s : State) : State :=
  let left := s.get .LINE_BAY_LATCHED n &&& (31 - causes % 32)
  let s := (s.set .LINE_BAY_LATCHED left n).set .LINE_BAY_TRIPPED (b2n (left != 0)) n
  let s := s.raise 0x0504 [n, causes % 32]
  darkMayEnd n cause s

/-- Bay trips on cause bit k: the transmitter is dark without a ramp, the cause latched, counted and reported (R102). A
latched cause does not trip again. -/
def bayTripOn (n k : Nat) (s : State) : State :=
  if bit (s.get .LINE_BAY_LATCHED n) k then s
  else
    let s := (s.set .LINE_BAY_LATCHED (withBit (s.get .LINE_BAY_LATCHED n) k true) n).set .LINE_BAY_TRIPPED 1 n
    let s := ((txDark n (cutOff n false s)).inc .LP_BAY_TRIPS n).raise 0x0503 [n, k]
    darkArises n 0x0503 s

/-- A cause's condition becomes present or clear (Table 3.8, Table 3.21). -/
def bayPresent (n k : Nat) (present : Bool) (s : State) : State :=
  s.set .LINE_BAY_PRESENT (withBit (s.get .LINE_BAY_PRESENT n) k present) n

/-- The control subcarrier has reached SYNC: Bay's SYNC condition clears, AUTO_RELEASE_SYNC releases the cause, and a
terminal in HOLDOVER or DARK takes the return rule (R80, R82, R103). -/
def controlSynced (n cause : Nat) (s : State) : State :=
  let s := bayPresent n 2 false (s.setTerm n (fun t => { t with lossAt := none }))
  let s := (s.stop (.lightBack n)).setLine n (fun l => { l with blind := false })
  let s := s.when (s.isSet .LINE_TREE_CFG_AUTO_RELEASE_SYNC n && bit (s.get .LINE_BAY_LATCHED n) 2)
    (bayRelease n 4 cause)
  if s.tree n = tsHoldover then returnRule n cause s
  else if s.tree n = tsDark ∧ !(darkHolds n s) ∧ (s.term n).awaiting = false then returnRule n cause s
  else s

end Sys2Proof.Machine
end

