-- ==== Sys2Proof/Machine/BurstOps.lean ====
section
/-!
DEFINITION. Envelopes in bursts that are built or on the line ("Superframes, sectors, bursts and tributaries", "Speculation and the release
rule"): where a copy stands in one, and how it is taken out of it again.
-/
namespace Sys2Proof.Machine

/-- The burst of a port in which a copy stands, and its place there. -/
def burstPlace (n k : Nat) (s : State) : Option (Burst × Placed) :=
  ((s.term n).burst.toList ++ (s.term n).built).findSome? (fun b => (b.placed.find? (fun p => p.copy == k)).map (fun p => (b, p)))

/-- A copy in a burst has begun to leave: its burst is on the air and its first symbol lies before this instant. -/
def placeBegun (n k : Nat) (s : State) : Bool :=
  match burstPlace n k s with
  | some (b, p) => b.onAir && decide (p.from_ < s.now)
  | none => false

/-- The envelopes of stream x behind one that has been taken out, once the stream up to its end has become `head`: each keeps its place or,
where `head` reaches beyond it, moves back to the next one. The stream, the places, and the places of those that no longer fit. -/
def moveBack (b : Burst) (x : BodyStream) (head : List Nat) (later : List Placed) : List Nat × List Placed × List Placed :=
  later.foldl (fun (r : List Nat × List Placed × List Placed) p =>
    let (bs, keep, gone) := r
    let pos := max p.pos bs.length
    let span := spanOf p.len
    if x.cap < pos + span then (bs, keep, gone ++ [p])
    else
      let moved : Placed := { p with pos := pos, from_ := b.timeAt pos, to_ := b.timeAt (pos + span) }
      (bs ++ idleBytes (pos - bs.length) ++ (x.bytes.drop p.pos).take span, keep ++ [moved], gone)) (head, [], [])

/-- Copy k's envelope is taken out of its burst, what replaces it being made of the bytes of its stream and its place. A frame that the
bytes of an ABORT push out of the body is dropped and counted as one of a truncated burst: the model's choice (log entry 126). -/
def takeOut (n k : Nat) (with_ : Burst → Placed → List Nat → List Nat) (s : State) : State :=
  match burstPlace n k s with
  | none => s
  | some (b, p) =>
    match b.streams[p.stream]? with
    | none => s
    | some x =>
      let (bs, keep, gone) := moveBack b x (with_ b p x.bytes) (b.placed.filter (fun q => q.stream == p.stream && decide (p.pos < q.pos)))
      let before := b.placed.filter (fun q => q.stream != p.stream || decide (q.pos < p.pos))
      let new : Burst := { b with streams := b.streams.set p.stream { x with bytes := bs }, placed := before ++ keep }
      let put (o : Burst) : Burst := if o = b then new else o
      let s := s.setTerm n (fun t => { t with burst := t.burst.map put, built := t.built.map put })
      let begin_ (s : State) (q : Placed) : State :=
        let c : Copy := Tab.get {} s.copies q.copy
        let c : Copy := { c with begunAt := q.from_ }
        { s with copies := Tab.put {} s.copies q.copy c }
      gone.foldl (fun s q => endInBurst q.copy 0 false s) (keep.foldl begin_ (s.bump .LP_TRUNC_FRAMES gone.length n))

/-- A copy that has not begun leaves its burst: IDLE takes its place. -/
def withdraw (n k : Nat) (s : State) : State :=
  takeOut n k (fun _ p bs => bs.take p.pos ++ idleBytes (spanOf p.len)) s

/-- A copy that has begun is retracted (R62, R144): the remainder of its LENGTH is sent as zeros, then an ABORT with the same DEST. The bytes
of both are part of what was sent: its envelope's, and the ABORT's 8. -/
def abortPlaced (n k : Nat) (s : State) : State :=
  let now := s.now
  let bytes := match burstPlace n k s with | some (_, p) => spanOf p.len + 8 | none => 0
  let s := takeOut n k (fun b p bs =>
    let cut := b.byteFrom now (p.pos + 8) (p.pos + 8 + p.len)
    bs.take cut ++ List.replicate (p.pos + spanOf p.len - cut) 0 ++ envHeader 3 0 b.grant.aid 0) s
  endInBurst k bytes false s

end Sys2Proof.Machine
end

