-- ==== Sys2Proof/Machine/TblOps.lean ====
section
/-!
DEFINITION. The table cluster's shared operations ("Forwarding tables and learning"): the exact-match table with its
summary filter and relocation, the longest-prefix memory with its groups, the result of a lookup, learn notices.
-/
namespace Sys2Proof.Machine

open Sys2Proof

/-- The table cluster's update. -/
def State.setTbl (s : State) (f : TableState → TableState) : State := { s with tables := f s.tables }

/-- The update of the tables that a snapshot holds. -/
def State.setTables (s : State) (f : Tables → Tables) : State := s.setTbl (fun t => { t with t := f t.t })

/-- One more change of the tables (R219). -/
def tblGen (s : State) : State := s.set .TBL_STATE_GEN (s.get .TBL_STATE_GEN + 1)

/-- H0 and H1 of a 16-byte key (R200). -/
def emHash0 (key : Nat) : Nat := crc32c (toBytes 16 key)
def emHash1 (key : Nat) : Nat := crc32 (toBytes 16 key)

/-- The bucket a hash names: on die bits 19:0, in the extension its upper bits (R200). -/
def emBucketOf (ext : Bool) (log2 hash : Nat) : Nat := if ext then hash / 2 ^ (32 - log2) else hash % 2 ^ 20

/-- The candidate buckets of a key, H0's first; one when they are equal (R200). -/
def emBuckets (ext : Bool) (s : State) (key : Nat) : List Nat :=
  let l := s.get .TBL_STATE_EXT_BUCKETS_LOG2
  let a := emBucketOf ext l (emHash0 key)
  let b := emBucketOf ext l (emHash1 key)
  if a = b then [a] else [a, b]

/-- The entries of a tier, and their update. -/
def emTab (ext : Bool) (s : State) : Tab EmEntry := if ext then s.tables.ext else s.tables.t.em
def emAt (ext : Bool) (s : State) (k : Nat) : EmEntry := Tab.get {} (emTab ext s) k
def emSet (ext : Bool) (k : Nat) (e : EmEntry) (s : State) : State :=
  if ext then s.setTbl (fun t => { t with ext := Tab.put {} t.ext k e })
  else s.setTables (fun t => { t with em := Tab.put {} t.em k e })

/-- The slots of a bucket, way 0 first. -/
def emWays (b : Nat) : List Nat := (List.range 4).map (fun w => b * 4 + w)

/-- Where a key lies in a tier, the first place a probe finds (R208). -/
def emFind (ext : Bool) (s : State) (key : Nat) : Option Nat :=
  ((emBuckets ext s key).flatMap emWays).find? (fun k => (emAt ext s k).valid && (emAt ext s k).key == key)

/-- A free way of a bucket (R207). -/
def emFree (ext : Bool) (s : State) (b : Nat) : Option Nat := (emWays b).find? (fun k => !(emAt ext s k).valid)

/-- The filter positions of a key (R204). -/
def filterPos (key : Nat) : List Nat := [emHash0 key % 2 ^ 29, emHash1 key % 2 ^ 29]

/-- The summary filter predicts absence (R204, R206). -/
def filterAbsent (s : State) (key : Nat) : Bool :=
  !(s.isSet .TBL_STATE_FILTER_ALL_ONES) && (filterPos key).any (fun p => Tab.get 0 s.tables.filter p == 0)

/-- An insert into the extension sets its positions, in both arrays while a rebuild runs (R204, R205). -/
def filterSet (key : Nat) (s : State) : State :=
  let add (m : Tab Nat) : Tab Nat := (filterPos key).foldl (fun m p => Tab.put 0 m p 1) m
  s.setTbl (fun t => { t with filter := add t.filter, shadow := t.shadow.map add })

/-- The breadth-first search for the shortest chain of moves (R207 step 4): buckets to visit with the slots whose
occupants would move, the last to move first; at most `fuel` buckets. -/
def emChain (ext : Bool) (s : State) : Nat → List (Nat × List Nat) → List Nat → Option (List Nat × Nat)
  | 0, _, _ => none
  | _ + 1, [], _ => none
  | fuel + 1, (b, path) :: rest, seen =>
    match emFree ext s b with
    | some k => some (path, k)
    | none =>
      if 32 ≤ path.length then emChain ext s fuel rest seen
      else
        let next := (emWays b).filterMap (fun k =>
          ((emBuckets ext s (emAt ext s k).key).find? (fun o => o ≠ b && !(seen.contains o))).map (fun o => (o, k :: path)))
        emChain ext s fuel (rest ++ next) (seen ++ next.map (·.1))

/-- One relocation: the destination is written whole, then the source's VALID 0; the source's HIT is kept (R207 step 5). -/
def emMove (ext : Bool) (from_ to_ : Nat) (s : State) : State :=
  let e := emAt ext s from_
  (emSet ext from_ { e with valid := false } (emSet ext to_ e s)).inc .TBL_EM_MOVES

/-- A chain runs from its far end; the slot it leaves free. -/
def emRun (ext : Bool) : List Nat → Nat → State → State × Nat
  | [], free, s => (s, free)
  | k :: r, free, s => emRun ext r k (emMove ext k free s)

/-- A key is placed in a tier (R207 steps 3 to 6), or the tier is full. -/
def emPlace (ext : Bool) (e : EmEntry) (s : State) : Option State :=
  let start := emBuckets ext s e.key
  match emChain ext s 512 (start.map (fun b => (b, []))) start with
  | none => none
  | some (path, free) =>
    let s := s.when ext (filterSet e.key)
    let (s, k) := emRun ext path free s
    some (emSet ext k e s)

/-- TBL_EM_INSERT of one entry (R207): the new state and the entry's status. -/
def emInsert (tier : Nat) (replace : Bool) (e : EmEntry) (s : State) : State × Nat :=
  let done (s : State) : State :=
    (tblGen s).setTbl (fun t => { t with learnHold := t.learnHold.filter (fun h => h.1 ≠ e.key) })
  let rewrite (ext : Bool) (k : Nat) : State × Nat :=
    if replace then
      let old := emAt ext s k
      (done (emSet ext k { old with kind := e.kind, index := e.index, user := e.user } s), stDone)
    else (s, stParam)
  match emFind false s e.key, emFind true s e.key with
  | some k, _ => rewrite false k
  | none, some k => rewrite true k
  | none, none =>
    let onDie := if tier = 2 then none else emPlace false e s
    match onDie with
    | some t => (done t, stDone)
    | none =>
      match (if tier = 1 then none else emPlace true e s) with
      | some t => (done t, stDone)
      | none => (s, stNoSpace)

/-- The scan of a rebuild starts (R205). One that runs absorbs it. -/
def filterRebuild (s : State) : State :=
  if s.isSet .TBL_STATE_REBUILDING then s
  else (s.set .TBL_STATE_REBUILDING 1).setTbl (fun t => { t with shadow := some [], deletes := 0 })

/-- TBL_EM_DELETE of one key (R208, R205): VALID 0, and a rebuild when the deletes exceed 1/8 of the extension. -/
def emDelete (key : Nat) (s : State) : State × Nat :=
  match emFind false s key, emFind true s key with
  | some k, _ => (tblGen (emSet false k { emAt false s k with valid := false } s), stDone)
  | none, some k =>
    let s := tblGen (emSet true k { emAt true s k with valid := false } s)
    let s := s.setTbl (fun t => { t with deletes := t.deletes + 1 })
    let cap := 2 ^ s.get .TBL_STATE_EXT_BUCKETS_LOG2 * 4
    (s.when (decide (cap < s.tables.deletes * 8)) filterRebuild, stDone)
  | none, none => (s, stState)

/-- A confirmed hit sets HIT in the first place the key is found (R208). -/
def emHit (key : Nat) (s : State) : State :=
  match emFind false s key, emFind true s key with
  | some k, _ => emSet false k { emAt false s k with hit := true } s
  | none, some k => emSet true k { emAt true s k with hit := true } s
  | none, none => s

/-- The slots of the associative memory. -/
def lpmSlots : Nat := 1048576

/-- First slot of a group's range; group 0's range ends with the memory (R210; log entry 23). -/
def lpmStart (t : Tables) (g : Nat) : Nat := Tab.get 0 t.lpmStart g
def lpmEnd (t : Tables) (g : Nat) : Nat := if g = 0 then lpmSlots else lpmStart t (g - 1)

/-- A half holds an entry of a prefix: family, VRF, address and length. -/
def lpmIs (h : LpmHalf) (family vrf addr len : Nat) : Bool :=
  h.family == family && h.vrf == vrf && h.addr == addr && bits h.result 4 8 == len

/-- Where a prefix stands: the slot and, for IPv4, the half (0 high). -/
def lpmWhere (t : Tables) (v6 : Bool) (vrf addr len : Nat) : Option (Nat × Nat) :=
  t.lpm.findSome? (fun p =>
    if v6 then
      if lpmIs p.2.hi 1 vrf (addr / 2 ^ 64) len && p.2.lo.family == 2 && p.2.lo.addr == addr % 2 ^ 64 then some (p.1, 0) else none
    else if lpmIs p.2.hi 0 vrf (addr * 2 ^ 32) len then some (p.1, 0)
    else if lpmIs p.2.lo 0 vrf (addr * 2 ^ 32) len then some (p.1, 1)
    else none)

/-- A slot is free when it holds nothing. -/
def lpmFree (x : LpmSlot) : Bool := x.hi.family == 3 && x.lo.family == 3

/-- The first free slot at or above `lo` and below `hi`. -/
def lpmFirstFree (t : Tables) (lo hi : Nat) : Option Nat :=
  let k := t.lpm.foldl (fun k p => if p.1 = k ∧ !(lpmFree p.2) then k + 1 else k) lo
  if k < hi then some k else none

/-- The last free slot at or above `lo` and below `hi`. -/
def lpmLastFree (t : Tables) (lo hi : Nat) : Option Nat :=
  let k := t.lpm.foldr (fun p k => if p.1 + 1 = k ∧ !(lpmFree p.2) then k - 1 else k) hi
  if lo < k then some (k - 1) else none

/-- A half, and a slot, whose FAMILY is written to 0b11; its other bits stay (R211). -/
def LpmHalf.freed (h : LpmHalf) : LpmHalf := { h with family := 3 }
def LpmSlot.freed (x : LpmSlot) : LpmSlot := ⟨x.hi.freed, x.lo.freed⟩

/-- A slot moves within the memory (R211, R212). -/
def lpmMove (from_ to_ : Nat) (s : State) : State :=
  (s.setTables (fun t =>
    let x := Tab.get {} t.lpm from_
    { t with lpm := Tab.put {} (Tab.put {} t.lpm to_ x) from_ x.freed })).inc .TBL_LPM_MOVES

/-- A group's range starts at another slot. -/
def lpmSetStart (g k : Nat) (s : State) : State := s.setTables (fun t => { t with lpmStart := Tab.put 0 t.lpmStart g k })

/-- A free slot above g's range is brought to its end (R211 step 4): one move in each group from the one that holds it. -/
def lpmPullUp (g : Nat) (p : State × Nat) (k : Nat) : State × Nat :=
  if k < g ∧ lpmStart p.1.tables.t k ≤ p.2 ∧ p.2 < lpmEnd p.1.tables.t k then
    let b := lpmStart p.1.tables.t k
    let s := if b = p.2 then p.1 else lpmMove b p.2 p.1
    (lpmSetStart k (b + 1) s, b)
  else p

/-- A free slot below g's range is brought to its start. -/
def lpmPullDown (g : Nat) (p : State × Nat) (k : Nat) : State × Nat :=
  if g < k ∧ lpmStart p.1.tables.t k ≤ p.2 ∧ p.2 < lpmEnd p.1.tables.t k then
    let b := lpmEnd p.1.tables.t k - 1
    let s := if b = p.2 then p.1 else lpmMove b p.2 p.1
    (lpmSetStart (k - 1) b s, b)
  else p

/-- A free slot in g's range, made there if need be; none when the memory is full (R211 steps 3 to 5). -/
def lpmTake (g : Nat) (s : State) : Option (State × Nat) :=
  let t := s.tables.t
  let a := lpmStart t g
  let e := lpmEnd t g
  match lpmFirstFree t a e with
  | some k => some (s, k)
  | none =>
    let up := lpmFirstFree t e lpmSlots
    let down := lpmLastFree t 0 a
    let useUp (f : Nat) : State × Nat := (List.range g).foldl (lpmPullUp g) (s, f)
    let useDown (f : Nat) : State × Nat := ((List.range 129).reverse).foldl (lpmPullDown g) (s, f)
    match up, down with
    | some u, some d => some (if a - d ≤ u - e + 1 then useDown d else useUp u)
    | some u, none => some (useUp u)
    | none, some d => some (useDown d)
    | none, none => none

/-- A slot is written. -/
def lpmSet (k : Nat) (x : LpmSlot) (s : State) : State := s.setTables (fun t => { t with lpm := Tab.put {} t.lpm k x })

/-- TBL_LPM_INSERT of one prefix (R211): `result` holds KIND, INDEX and LEN as R209 places them. -/
def lpmInsert (v6 : Bool) (vrf addr result : Nat) (replace : Bool) (s : State) : State × Nat :=
  let len := bits result 4 8
  match lpmWhere s.tables.t v6 vrf addr len with
  | some (k, half) =>
    if replace then
      let x := Tab.get {} s.tables.t.lpm k
      let x := if half = 0 then { x with hi := { x.hi with result := result } } else { x with lo := { x.lo with result := result } }
      (tblGen (lpmSet k x s), stDone)
    else (s, stParam)
  | none =>
    if v6 then
      match lpmTake len s with
      | none => (s, stNoSpace)
      | some (s, k) =>
        (tblGen (lpmSet k ⟨⟨1, vrf, addr / 2 ^ 64, result⟩, ⟨2, vrf, addr % 2 ^ 64, 0⟩⟩ s), stDone)
    else
      let h : LpmHalf := ⟨0, vrf, addr * 2 ^ 32, result⟩
      let t := s.tables.t
      let half := t.lpm.find? (fun p => decide (lpmStart t len ≤ p.1 ∧ p.1 < lpmEnd t len) &&
        (p.2.hi.family == 3) != (p.2.lo.family == 3))
      match half with
      | some (k, x) =>
        (tblGen (lpmSet k (if x.hi.family = 3 then { x with hi := h } else { x with lo := h }) s), stDone)
      | none =>
        match lpmTake len s with
        | none => (s, stNoSpace)
        | some (s, k) => (tblGen (lpmSet k { Tab.get {} s.tables.t.lpm k with hi := h } s), stDone)

/-- TBL_LPM_DELETE of one prefix (R211). -/
def lpmDelete (v6 : Bool) (vrf addr len : Nat) (s : State) : State × Nat :=
  match lpmWhere s.tables.t v6 vrf addr len with
  | none => (s, stState)
  | some (k, half) =>
    let x := Tab.get {} s.tables.t.lpm k
    let x := if v6 then x.freed else if half = 0 then { x with hi := x.hi.freed } else { x with lo := x.lo.freed }
    (tblGen (lpmSet k x s), stDone)

/-- An entry matches an address under its length (R209). -/
def lpmCovers (width len entry addr : Nat) : Bool := entry / 2 ^ (width - len) == addr / 2 ^ (width - len)

/-- The longest prefix that matches: the lowest slot (R210). -/
def lpmFind (t : Tables) (v6 : Bool) (vrf addr : Nat) : Option Nat :=
  t.lpm.findSome? (fun p =>
    if v6 then
      if p.2.hi.family == 1 && p.2.lo.family == 2 && p.2.hi.vrf == vrf &&
          lpmCovers 128 (bits p.2.hi.result 4 8) (p.2.hi.addr * 2 ^ 64 + p.2.lo.addr) addr then some p.2.hi.result else none
    else
      let m (h : LpmHalf) : Bool := h.family == 0 && h.vrf == vrf && lpmCovers 32 (bits h.result 4 8) (h.addr / 2 ^ 32) addr
      if m p.2.hi then some p.2.hi.result else if m p.2.lo then some p.2.lo.result else none)

/-- What a lookup says (R199, R213): the decision's kind (0 drop, 1 exception, 2 next hop), its operand, and the counters
that the confirmed item counts. -/
structure Found where
  kind : Nat
  arg : Nat := 0
  counts : List Ctr := []
  hit : Option Nat := none
  /-- The reads of the HBM extension are outstanding or were made (R202). -/
  hbm : Bool := false
  deriving DecidableEq, Repr

/-- Byte k onward of a classification key of `klen` bytes, as n bytes; bytes past the key read zero (R198). -/
def keyBytes (key klen k n : Nat) : Nat := field (toBytes klen key ++ List.replicate 128 0) k n

/-- The next hop that a result names (Table 8.1, R213): FH is the low 16 bits of the CRC-32C of the key. -/
def resultOf (t : Tables) (kind index fh : Nat) : Found :=
  let hop (i : Nat) : Found :=
    if i < 262144 ∧ bit (Tab.get 0 t.nextHop i) 127 then { kind := 2, arg := i } else { kind := 0, counts := [.TBL_NH_INVALID] }
  match kind with
  | 0 => hop index
  | 1 =>
    let g := Tab.get 0 t.ecmpGroup index
    if bit g 63 then
      let m := bits g 44 18 + fh * (bits g 36 8 + 1) / 65536
      if m < 262144 then hop (Tab.get 0 t.ecmpMember m) else { kind := 0, counts := [.TBL_NH_INVALID] }
    else { kind := 0, counts := [.TBL_NH_INVALID] }
  | 2 => { kind := 0, counts := [.TBL_RESULT_DROP] }
  | _ => { kind := 1, arg := index }

/-- Entry i of the lookup profiles, as it stands (Table 8.8). -/
def lprofOf (s : State) (i : Nat) : LookupProfile :=
  { emEn := s.isSet .TBL_LPROF_EM_EN i, emOff := s.get .TBL_LPROF_EM_OFF i, emTable := s.get .TBL_LPROF_EM_TABLE i,
    lpmEn := s.isSet .TBL_LPROF_LPM_EN i, lpmV6 := s.isSet .TBL_LPROF_LPM_V6 i, lpmOff := s.get .TBL_LPROF_LPM_OFF i,
    vrfSrc := s.isSet .TBL_LPROF_VRF_SRC i, vrf := s.get .TBL_LPROF_VRF i, prec := s.isSet .TBL_LPROF_PREC i,
    learnEn := s.isSet .TBL_LPROF_LEARN_EN i, learnOff := s.get .TBL_LPROF_LEARN_OFF i,
    learnTable := s.get .TBL_LPROF_LEARN_TABLE i, miss := s.isSet .TBL_LPROF_MISS i, missExc := s.get .TBL_LPROF_MISS_EXC i }

/-- The exact-match key of a profile (R198). -/
def emKeyOf (p : LookupProfile) (key klen : Nat) : Nat := p.emTable * 2 ^ 120 + keyBytes key klen p.emOff 15

/-- A lookup under a profile (R199, R202): `readExt` when the reads of the extension have returned; without them the
extension is taken to miss (R203). -/
def lookup (s : State) (p : LookupProfile) (key klen vport : Nat) (readExt : Bool) : Found :=
  let t := s.tables.t
  let fh := crc32c (toBytes klen key) % 65536
  let emKey := emKeyOf p key klen
  let em : Option EmEntry × List Ctr × Bool :=
    if p.emEn then
      match emFind false s emKey with
      | some k => (some (emAt false s k), [.TBL_EM_HIT_ONDIE], false)
      | none =>
        if filterAbsent s emKey then (none, [.TBL_EM_MISS, .TBL_FILTER_ABSENT], false)
        else if readExt then
          match emFind true s emKey with
          | some k => (some (emAt true s k), [.TBL_EM_HIT_HBM], true)
          | none => (none, [.TBL_EM_MISS, .TBL_FILTER_FALSE], true)
        else (none, [], true)
    else (none, [], false)
  let vrf := if p.vrfSrc then vport else p.vrf
  let lpm : Option Nat :=
    if p.lpmEn then lpmFind t p.lpmV6 vrf (keyBytes key klen p.lpmOff (if p.lpmV6 then 16 else 4)) else none
  let counts := em.2.1 ++ (if lpm.isSome then [.TBL_LPM_HIT] else [])
  let fromEm (e : EmEntry) : Found := resultOf t e.kind e.index fh
  let fromLpm (r : Nat) : Found := resultOf t (bits r 30 2) (bits r 12 18) fh
  let r : Found :=
    match em.1, lpm with
    | some e, some r => if p.prec then fromLpm r else fromEm e
    | some e, none => fromEm e
    | none, some r => fromLpm r
    | none, none =>
      if p.miss then { kind := 0, counts := [.TBL_LOOKUP_MISS_DROP] } else { kind := 1, arg := p.missExc }
  { r with counts := counts ++ r.counts, hit := em.1.map (·.key), hbm := em.2.2 }

/-- The learn notice an item calls for (R214): its key, moved or new, and the existing USER. -/
def learnOf (s : State) (p : LookupProfile) (key klen slot vport : Nat) : Option (Nat × Bool × Nat) :=
  if p.learnEn then
    let k := p.learnTable * 2 ^ 120 + keyBytes key klen p.learnOff 15
    let entry := match emFind false s k with
      | some a => some (emAt false s a)
      | none => (emFind true s k).map (emAt true s)
    match entry with
    | none => some (k, false, 0)
    | some e => if e.user % 2 ^ 18 = slot * 4096 + vport then none else some (k, true, e.user)
  else none

/-- A learn notice of a confirmed item (R215, R216): suppressed, dropped for a full ring, or written and TAIL advanced. -/
def postLearn (key : Nat) (moved : Bool) (user slot vport : Nat) (s : State) : State :=
  if s.tables.learnHold.any (fun h => h.1 == key) then s.inc .TBL_LEARN_SUPPRESSED
  else
    let tail := s.get .TBL_LEARN_RING_TAIL
    let denied := !(windowOk s 0 (s.tables.learnBase + tail * 32) 32 true)
    if denied ∨ s.isSet .FLT_STATUS_SAFE then (s.when denied (fun s => s.inc .CMD_WIN_DENIED)).inc .TBL_LEARN_DROP
    else if (tail + 1) % 65536 = s.get .TBL_LEARN_RING_HEAD then
      let s := s.inc .TBL_LEARN_DROP
      if s.tables.learnFull then s else (s.setTbl (fun t => { t with learnFull := true })).raise 0x0901 [tail]
    else
      let seq := s.tables.learnSeq + 1
      let notice := [key / 2 ^ 64, key % 2 ^ 64,
        slot * 2 ^ 56 + (b2n moved + 2 * b2n (decide (32 ≤ slot))) * 2 ^ 48 + vport * 2 ^ 32 + user % 2 ^ 32, seq % 2 ^ 64]
      let s := s.emit (.hostWrite 0 (s.tables.learnBase + tail * 32) notice)
      let now := s.now
      let s := s.setTbl (fun t =>
        let hold := if t.learnHold.length < 4096 then t.learnHold ++ [(key, now)] else t.learnHold
        { t with learnSeq := seq, learnHold := hold })
      (s.set .TBL_LEARN_RING_TAIL (tail + 1)).inc .TBL_LEARN_POSTED

end Sys2Proof.Machine
end

