-- ==== Sys2Proof/Machine/SchedOps.lean ====
section
/-!
DEFINITION. The scheduler's and the policers' shared operations ("Scheduling, shaping and policing"): the hierarchy, node
conditions, selection, reservations, buckets and their refills, the colour decision.
-/
namespace Sys2Proof.Machine

open Sys2Proof

/-- Key of a scheduler node (Table 10.1). -/
def nodeKey (level n : Nat) : Nat := level * 131072 + n

/-- A scheduler node, and its update. -/
def State.node (s : State) (level n : Nat) : Node := Tab.get {} s.sched.nodes (nodeKey level n)
def State.setNodeAt (s : State) (k : Nat) (f : Node → Node) : State :=
  { s with sched := { s.sched with nodes := Tab.put {} s.sched.nodes k (f (Tab.get {} s.sched.nodes k)) } }

/-- A policer, and its update. -/
def State.policer (s : State) (p : Nat) : Policer := Tab.get {} s.sched.policers p
def State.setPolicer (s : State) (p : Nat) (f : Policer → Policer) : State :=
  { s with sched := { s.sched with policers := Tab.put {} s.sched.policers p (f (s.policer p)) } }

/-- The destination above a level-2 node (Table 10.1). -/
def destOfNode2 (s : State) (v : Nat) : Nat := if v < 256 then 32 + v / 64 else (s.node 2 v).parent

/-- The destination above a group. -/
def destOfGroup (s : State) (g : Nat) : Nat := destOfNode2 s (s.node 3 g).parent

/-- The node of level 2 to 5 above queue q of class c (5: the queue itself). -/
def ancestor (s : State) (q c level : Nat) : Nat :=
  let g := (s.node 5 q).parent
  match level with
  | 5 => q
  | 4 => 8 * g + c
  | 3 => g
  | _ => (s.node 3 g).parent

/-- The overhead of a length profile (R260). -/
def overhead (s : State) (prof : Nat) : Int := s.getI .SCHED_LEN_PROF_OVERHEAD prof

/-- Counted length of a frame of L bytes (R260). -/
def counted (len : Nat) (oh : Int) : Nat := (max 1 ((len : Int) + 4 + oh)).toNat

/-- A node's condition by its net levels (R255): 2 committed-eligible, 1 excess-eligible, 0 blocked. -/
def Node.cond (n : Node) : Nat :=
  let net (l : Int) : Bool := decide ((n.held : Int) * 65536 ≤ l)
  let peak := !n.cfg.pirEn || net n.pir
  if n.cfg.cirEn && net n.cir && peak then 2 else if peak then 1 else 0

/-- The condition of a node; a timed class node is committed-eligible (R255). -/
def condOf (s : State) (d level n : Nat) : Nat :=
  if level = 4 ∧ d < 36 ∧ s.isSet .TIME_PORT_TIMED_EN d ∧ n % 8 = s.get .TIME_PORT_TIMED_Q d then 2
  else (s.node level n).cond

/-- A queue that could be chosen: number, class, and its head copy's length (L of R222). -/
structure Cand where
  q : Nat
  cls : Nat
  len : Nat
  deriving DecidableEq, Repr

/-- Every node on a candidate's path is open. -/
def pathOpen (s : State) (d : Nat) (c : Cand) : Bool :=
  [2, 3, 4, 5].all (fun l => condOf s d l (ancestor s c.q c.cls l) != 0)

/-- The node of a level above a candidate; level 1 is the destination. -/
def above (s : State) (d : Nat) (c : Cand) (level : Nat) : Nat := if level = 1 then d else ancestor s c.q c.cls level

/-- Children of a node that have a candidate beneath, ascending. -/
def childrenOf (s : State) (d level n : Nat) (cs : List Cand) : List Nat :=
  (((cs.filter (fun c => above s d c level == n)).map (fun c => above s d c (level + 1))).dedup).insertionSort (· ≤ ·)

/-- The next number after `last` in ascending order, wrapping. -/
def nextAfter (last : Nat) (l : List Nat) : Option Nat :=
  match l.find? (fun x => decide (last < x)) with
  | some x => some x
  | none => l.head?

/-- Deficit round robin among excess-eligible children (R256): the child at the cursor is served while its deficit holds
its head frame; else the cursor moves on and the next child takes its quantum. `lenOf` is the counted length at a child. -/
def drr (level : Nat) (lenOf : Nat → Nat) (kids : List Nat) : Nat → Nat → State → Option (Nat × State)
  | 0, _, _ => none
  | fuel + 1, cur, s =>
    if kids.contains cur ∧ lenOf cur ≤ (s.node level cur).deficit then
      some (cur, s.setNodeAt (nodeKey level cur) (fun n => { n with deficit := n.deficit - lenOf cur }))
    else
      match nextAfter cur kids with
      | none => none
      | some k =>
        drr level lenOf kids fuel k
          (s.setNodeAt (nodeKey level k) (fun n => { n with deficit := n.deficit + n.weight * 256 }))

/-- Descent from a node of a level to a queue (R256): the queue chosen, with cursors and deficits moved. The second
argument is the number of levels still below. -/
def descend (d : Nat) (cs : List Cand) : Nat → Nat → State → Option (Nat × State)
  | 0, q, s => some (q, s)
  | depth + 1, n, s =>
    let level := 4 - depth
    let kids := childrenOf s d level n cs
    let conds := kids.map (fun k => (k, condOf s d (level + 1) k))
    let com := (conds.filter (fun p => p.2 == 2)).map (·.1)
    let exc := (conds.filter (fun p => p.2 == 1)).map (·.1)
    let self := nodeKey level n
    if level = 3 then
      match com.getLast?, exc.getLast? with
      | some k, _ => descend d cs depth k s
      | none, some k => descend d cs depth k s
      | none, none => none
    else
      match nextAfter (Tab.get {} s.sched.nodes self).last com with
      | some k => descend d cs depth k (s.setNodeAt self (fun x => { x with last := k }))
      | none =>
        let lenOf (k : Nat) : Nat :=
          match descend d cs depth k s with
          | some (q, _) =>
            match cs.find? (fun c => c.q == q) with
            | some c => counted c.len (overhead s (s.node (level + 1) k).lenProf)
            | none => 1
          | none => 1
        match drr (level + 1) lenOf exc (exc.length * 64 + 1) (Tab.get {} s.sched.nodes self).drrLast s with
        | some (k, s) => descend d cs depth k (s.setNodeAt self (fun x => { x with drrLast := k }))
        | none => none

/-- Deficits of nodes of a destination that have no work are reset (R256). -/
def resetDeficits (d : Nat) (work : List Cand) (s : State) : State :=
  s.sched.nodes.foldl (fun s p =>
    let level := p.1 / 131072
    let n := p.1 % 131072
    if p.2.deficit ≠ 0 ∧ 2 ≤ level ∧ work.all (fun c => ancestor s c.q c.cls level != n) ∧
        (if level = 2 then destOfNode2 s n = d else if level = 3 then destOfGroup s n = d
         else if level = 4 then destOfGroup s (n / 8) = d else destOfGroup s (s.node 5 n).parent = d) then
      s.setNodeAt p.1 (fun x => { x with deficit := 0 })
    else s) s

/-- A selection at destination d among the queues with work (R254 to R256): the queue, or none; a selection that finds
work everywhere blocked is counted. -/
def selectQueue (d : Nat) (work : List Cand) (s : State) : Option Nat × State :=
  let s := resetDeficits d work s
  if work = [] then (none, s)
  else
    match descend d (work.filter (pathOpen s d)) 4 d s with
    | some (q, s) => (some q, s)
    | none => (none, s.inc .SCHED_BLOCKED_SELECTIONS d)

/-- The path of a queue and the overheads in force: what a dequeued frame reserves (R256, R260). -/
def pathNodes (s : State) (q c : Nat) : List (Nat × Int) :=
  [2, 3, 4, 5].map (fun l =>
    let n := ancestor s q c l
    (nodeKey l n, overhead s (s.node l n).lenProf))

/-- The counted length is reserved in every bucket of the path (R256). -/
def reserve (len : Nat) (path : List (Nat × Int)) (s : State) : State :=
  path.foldl (fun s p => s.setNodeAt p.1 (fun n => { n with held := n.held + counted len p.2 })) s

/-- A reservation is released and the buckets are debited the counted length of the bytes sent (R257): `sent` of a frame
of `len` bytes; 0 debits nothing. -/
def release (len : Nat) (full : Bool) (sent : Nat) (path : List (Nat × Int)) (s : State) : State :=
  path.foldl (fun s p =>
    let debit : Nat := if full then counted len p.2 else if sent = 0 then 0 else (max 1 ((sent : Int) + p.2)).toNat
    s.setNodeAt p.1 (fun n =>
      let c := if n.cfg.cirEn then n.cir - (debit : Int) * 65536 else n.cir
      let e := if n.cfg.pirEn then n.pir - (debit : Int) * 65536 else n.pir
      { n with held := n.held - counted len p.2, cir := c, pir := e })) s

/-- One refill of a level at a rate in kb/s, capped at a burst in bytes; the fraction has 16 bits (R257). -/
def refillLevel (level : Int) (rate burst : Nat) : Int := min (level + (rate * 65536 / 8000 : Nat)) ((burst * 65536 : Nat) : Int)

/-- A node at the refill of microsecond `us` (R257, R258). -/
def Node.refill (us : Nat) (n : Node) : Node :=
  let c := if n.cfg.cirEn then refillLevel n.cir n.cfg.cirRate n.cfg.cirBurst else n.cir
  let p := if n.cfg.pirEn then refillLevel n.pir n.cfg.pirRate n.cfg.pirBurst else n.pir
  match n.next with
  | some g =>
    if n.nextAt < us then
      let take (was is_ : Bool) (l : Int) (burst : Nat) : Int :=
        if is_ then (if was then min l ((burst * 65536 : Nat) : Int) else ((burst * 65536 : Nat) : Int)) else 0
      { n with cfg := g, next := none, cir := take n.cfg.cirEn g.cirEn c g.cirBurst, pir := take n.cfg.pirEn g.pirEn p g.pirBurst }
    else { n with cir := c, pir := p }
  | none => { n with cir := c, pir := p }

/-- A policer at the refill of microsecond `us` (R261). -/
def Policer.refill (us : Nat) (p : Policer) : Policer :=
  let add := p.cfg.cir * 65536 / 8000
  let cbs := p.cfg.cbs * 65536
  let ebs := p.cfg.ebs * 65536
  let tc := min (p.tc + add) cbs
  let te := if p.cfg.trtcm then min (p.te + p.cfg.pir * 65536 / 8000) ebs else min (p.te + (p.tc + add - tc)) ebs
  match p.next with
  | some g =>
    if p.nextAt < us then
      { p with cfg := g, next := none, tc := min tc (g.cbs * 65536), te := min te (g.ebs * 65536) }
    else { p with tc := tc, te := te }
  | none => { p with tc := tc, te := te }

/-- The refill of a whole microsecond of the local counter, once its time has come (R257, R258, R261): every bucket and policer refills, and
changes that wait are adopted. -/
def refillDue (s : State) : State :=
  let us := s.sched.refilled + 1
  if s.now < us * uUs then s
  else
    let nodes : Tab Node := (s.sched.nodes.map (fun p => (p.1, p.2.refill us))).filter (fun p => p.2 ≠ {})
    let pols : Tab Policer := (s.sched.policers.map (fun p => (p.1, p.2.refill us))).filter (fun p => p.2 ≠ {})
    { s with sched := { s.sched with nodes := nodes, policers := pols, refilled := us } }

/-- The colour decision of Table 10.3: colour, and the levels after the debit. Levels in 2^-16 bytes, B in bytes. -/
def polColour (p : Policer) (b input : Nat) : Nat × Nat × Nat :=
  let w := b * 65536
  if 2 ≤ input then (2, p.tc, p.te)
  else if p.cfg.trtcm then
    if p.te < w then (2, p.tc, p.te)
    else if input = 1 ∨ p.tc < w then (1, p.tc, p.te - w)
    else (0, p.tc - w, p.te - w)
  else if input = 0 ∧ w ≤ p.tc then (0, p.tc - w, p.te)
  else if w ≤ p.te then (1, p.tc, p.te - w)
  else (2, p.tc, p.te)

/-- The result a colour carries (R263). -/
def polResult (c : PolCfg) (colour : Nat) : PolResult :=
  ⟨colour, if colour = 0 then c.green else if colour = 1 then c.yellow else c.red, c.remark⟩

/-- A policer's counters at commit (R265). -/
def Policer.count (p : Policer) (colour b : Nat) (dropped : Bool) : Policer :=
  let up (x n : Nat) : Nat := min (x + n) ctrMax
  let p := if colour = 0 then { p with greenPkts := up p.greenPkts 1, greenBytes := up p.greenBytes b }
    else if colour = 1 then { p with yellowPkts := up p.yellowPkts 1, yellowBytes := up p.yellowBytes b }
    else { p with redPkts := up p.redPkts 1, redBytes := up p.redBytes b }
  if dropped then { p with dropPkts := up p.dropPkts 1, dropBytes := up p.dropBytes b } else p

end Sys2Proof.Machine
end

