-- ==== Sys2Proof/Machine/LineOps.lean ====
section
/-!
DEFINITION. The line modem's shared operations ("Coherent line ports"): settling marks, the laser bus, gain control,
deframers forced to HUNT, the start of a Dill search, a retune.
-/
namespace Sys2Proof.Machine

open Sys2Proof

/-- An interrupt source of line port n: the status bit is set, and vector 4 + n raised where enabled (R41, R327). -/
def lineIrq (n : Nat) (status enable : Fld) (s : State) : State := s.irq status enable (4 + n) n

/-- Carrier lock of port n comes or goes (R21): LOCK of `LINE[n].CFO` and, as DCLK[n] is locked to the recovered symbol clock
only then, DCLK_RECOVERED (R374, log entry 73). -/
def carrierSet (n : Nat) (on : Bool) (s : State) : State :=
  (s.setAll [(.LINE_STATUS_CARRIER_LOCK, b2n on), (.LINE_CFO_LOCK, b2n on)] n).set .PWR_CLK_DCLK_RECOVERED
    (withBit (s.get .PWR_CLK_DCLK_RECOVERED) n on)

/-- A window opens on one subcarrier now, for `len` symbols, or until re-acquisition (R32, R33). Windows are kept apart, so that none
is shortened by another; those that ended are kept for the look-back of R34. -/
def markSc (n sc : Nat) (len : Option Nat) (s : State) : State :=
  let w : Mark := ⟨sc, s.now, len.map (fun l => s.now + l * uSym), false⟩
  ((s.setLine n (fun l => { l with marks := w :: l.marks })).set .LINE_SC_SETTLING 1 n sc).set .LINE_STATUS_SETTLING 1 n

/-- The symbols that windows cover together (R33): the union of their stretches, in order of their beginnings. -/
def unionSymbols (ms : List (Nat × Nat)) : Nat :=
  ((ms.insertionSort (fun a b => a.1 ≤ b.1)).foldl
    (fun (p : Nat × Nat) m => (p.1 + (m.2 - max m.1 p.2), max p.2 m.2)) (0, 0)).1 / uSym

/-- A set of subcarriers is marked. -/
def markMask (n mask : Nat) (len : Option Nat) (s : State) : State :=
  ((List.range 16).filter (bit mask)).foldl (fun s sc => markSc n sc len s) s

/-- Some symbol of a pair, or of the 64 before it, carries a settling flag (R34); a and b are the local times of the
pair's first and last symbols. -/
def suspect (n sc a b : Nat) (s : State) : Bool :=
  (s.line n).marks.any (fun m => m.sc == sc && decide (m.since ≤ b) &&
    (match m.till with | none => true | some t => decide (a < t + 64 * uSym)))

/-- Marking until re-acquisition ends (Table 1.5). -/
def reacquired (n : Nat) (s : State) : State :=
  let now := s.now
  s.setLine n (fun l => { l with marks := l.marks.map (fun m => if m.till = none then { m with till := some now } else m) })

/-- A laser transfer's code and operand (Table 1.4). -/
def laserOut (n : Nat) (c : LaserCmd) : Out :=
  match c with
  | .setFreq m => .laser n 0x10 m
  | .fineTune f => .laser n 0x11 f
  | .output b => .laser n 0x12 (b2n b : Nat)
  | .status => .laser n 0x20 0

/-- A transfer goes to the laser: it waits for its acknowledgement. During a bus fault, and in L3, none is sent (R22,
Table 16.5). -/
def laserSend (n : Nat) (c : LaserCmd) (s : State) : State :=
  if s.isSet .LINE_STATUS_LASER_BUS_OK n ∧ !s.safe then
    (s.setLine n (fun l => { l with bus := l.bus ++ [c] })).emit (laserOut n c)
  else s

/-- The last OUTPUT among transfers. -/
def lastOutput (bus : List LaserCmd) : Option Bool :=
  bus.foldl (fun a c => match c with | .output b => some b | _ => a) none

/-- OUTPUT on or off, as NOMINAL_MHZ calls for (Table 1.11), unless the laser has it or it is on its way. -/
def laserOutput (n : Nat) (on : Bool) (s : State) : State :=
  if (lastOutput (s.line n).bus).getD (s.line n).laserOn = on then s else laserSend n (.output on) s

/-- A transfer is acknowledged, and with it every OUTPUT sent before it: the bus carries them in order. -/
def busAck (c : LaserCmd) (l : LinePort) : LinePort :=
  let pre := l.bus.takeWhile (· ≠ c)
  { l with bus := pre.filter (fun x => match x with | .output _ => false | _ => true) ++ l.bus.drop (pre.length + 1), tries := 0,
           laserOn := (lastOutput pre).getD l.laserOn }

/-- Carrier lock is lost with the light (R21, R41). -/
def lockLost (n : Nat) (s : State) : State :=
  let s := s.when (s.isSet .LINE_STATUS_CARRIER_LOCK n) (fun s =>
    lineIrq n .LINE_EVT_STATUS_LOCK_LOST .LINE_EVT_ENABLE_LOCK_LOST
      ((carrierSet n false s).raise 0x0403 [n, ofSigned 32 (roundDiv (s.getI .LINE_CFO_OFFSET_KHZ n) 1000)]))
  s.setLine n (fun l => { l with goodRun := 0, badRun := 0 })

/-- FT takes a value and is sent; between the start of a burst's ramp-up and the end of its ramp-down it is withheld, and goes out
then (R20). -/
def sendFt (n : Nat) (ft : Int) (s : State) : State :=
  if s.isSet .LINE_STATUS_TX_ACTIVE n then s.setLine n (fun l => { l with ft := ft, heldFt := some ft })
  else laserSend n (.fineTune ft) (s.setLine n (fun l => { l with ft := ft, heldFt := none }))

/-- A trigger of a capture arrives, where CAP_CTL names its cause (R38, Table 1.20): 0 the command, 1 loss of light, 2 loss of sync on
the control subcarrier, 3 an uncorrectable codeword, 4 the drift alarm, 5 a superframe number. CAPTURE_TRIGGER takes it. -/
def captureCause (n cause : Nat) (s : State) : State :=
  if s.get .LINE_CAP_CTL_TRIGGER n = cause then s.setLine n (fun l => { l with trigger := true }) else s

/-- The AGC unfreezes (R23): DRIFT reads 0, the alarm clears without an event, a pending step is dropped (R24, R25). -/
def agcUnfreeze (n : Nat) (s : State) : State :=
  (s.setAll [(.LINE_STATUS_AGC_FROZEN, 0), (.LINE_AGC_FROZEN, 0), (.LINE_AGC_DRIFT, 0), (.LINE_STATUS_DRIFT_ALARM, 0),
    (.LINE_AGC_STEP_PENDING, 0)] n).setLine n (fun l => { l with stepDue := false })

/-- A deframer goes to HUNT (Table 2.3, last row: no count, no event); its envelope delineation enters HUNT (R60). On the
control subcarrier, leaving SYNC unfreezes the AGC (R23) and is downstream loss (R79). -/
def hunt (n sc cause : Nat) (s : State) : State :=
  let was := s.get .LINE_FRM_STATE n sc
  let ctl := isControl n sc s
  let s := ((s.set .LINE_FRM_STATE 0 n sc).set .LINE_FRM_ENV_STATE 0 n sc).setFrame n (fun f =>
    { f with hdrOk := Tab.put 0 f.hdrOk sc 0,
             pmDefect := if was = 2 then sc :: ((if ctl then [16] else []) ++ f.pmDefect) else f.pmDefect })
  if was = 2 ∧ ctl then downstreamLoss n cause (agcUnfreeze n (captureCause n 2 s)) else s

/-- Every deframer of a port goes to HUNT. -/
def huntAll (n cause : Nat) (s : State) : State := (List.range 16).foldl (fun s sc => hunt n sc cause s) s

/-- Light is lost, or counts as lost (R39, R46, R79): every deframer hunts, and the terminal meets downstream loss whatever the control
subcarrier's state was. -/
def lightLost (n : Nat) (s : State) : State :=
  let was := controlSync n s
  let s := (huntAll n 0x0401 s).setFrame n (fun f => { f with pmDefect := List.range 17 ++ f.pmDefect })
  if was then s else downstreamLoss n 0x0401 s

/-- A Dill search starts (R26): BEACON_FOUND clears, the AGC unfreezes, every deframer hunts. -/
def startSearch (n cause : Nat) (s : State) : State :=
  let s := (s.set .LINE_STATUS_SEARCHING 1 n).set .LINE_STATUS_BEACON_FOUND 0 n
  let s := (s.setLine n (fun l => { l with rateReported := false })).setFrame n (fun f => { f with mapKnown := false })
  (huntAll n cause (agcUnfreeze n s)).start (.dillPass n)

/-- A retune begins (R39): SET_FREQ with NOMINAL_MHZ is owed until the laser acknowledges it. In a state other than OFFLINE and
LISTEN the retune is a forced one. -/
def startRetune (n : Nat) (s : State) : State :=
  let mhz := s.get .LINE_LASER_NOMINAL_MHZ n
  let st := s.tree n
  let s := s.setLine n (fun l =>
    { l with wantMHz := mhz, laserMHz := 0, retuning := true, forced := st != tsOffline && st != tsListen })
  laserOutput n true (laserSend n (.setFreq mhz) s)

/-- A re-level is requested (R25); one that is pending absorbs it. -/
def requestStep (n : Nat) (s : State) : State :=
  if s.isSet .LINE_AGC_STEP_PENDING n then s
  else (s.set .LINE_AGC_STEP_PENDING 1 n).setLine n (fun l => { l with stepDue := false })

/-- A swap is requested: one of its kind that is pending takes the new value and keeps its application point (R27). -/
def requestSwap (old : Option PendingSwap) (value : Int) (by_ : List Req) : Option PendingSwap :=
  match old with
  | some p => some { p with value := value, waiters := p.waiters ++ by_ }
  | none => some ⟨value, false, by_⟩

end Sys2Proof.Machine
end

