-- ==== Sys2Proof/Machine/TimeOps.lean ====
section
/-!
DEFINITION. The time unit's shared operations ("Time, timestamps and timed launch"): time values, domains, service time
with its residual, selection, measurements, pulse schedules, and what a step of service time does to the bins.
-/
namespace Sys2Proof.Machine

open Sys2Proof

/-- Time values wrap at 2^48 s (R109). -/
def timeMod : Nat := 2 ^ 48 * uS

/-- The time unit's update. -/
def State.setTime (s : State) (f : TimeState → TimeState) : State := { s with time := f s.time }

/-- A domain, and its update. -/
def State.domain (s : State) (d : Nat) : Domain := Tab.get {} s.time.domains d
def State.setDomain (s : State) (d : Nat) (f : Domain → Domain) : State :=
  s.setTime (fun t => { t with domains := Tab.put {} t.domains d (f (s.domain d)) })

/-- A pulse output, and its update. -/
def State.pulseOut (s : State) (k : Nat) : Pulse := Tab.get {} s.time.pulses k
def State.setPulse (s : State) (k : Nat) (f : Pulse → Pulse) : State :=
  s.setTime (fun t => { t with pulses := Tab.put {} t.pulses k (f (s.pulseOut k)) })

/-- A sum taken modulo 2^48 s. -/
def timeAdd (a : Nat) (b : Int) : Nat := (((a : Int) + b) % (timeMod : Int)).toNat

/-- The signed difference a - b of two time values, the shorter way round. -/
def timeDiff (a b : Nat) : Int :=
  let d := ((a : Int) - b) % (timeMod : Int)
  if d < (timeMod / 2 : Nat) then d else d - timeMod

/-- 96 bits read as a time value. -/
def timeOfWord (w : Nat) : Nat := bits w 48 48 * uS + bits w 16 32 * uNs + bits w 0 16

/-- The short timestamp of a time value (R110). -/
def shortStamp (t : Nat) : Nat := (t / uS % 2 ^ 16) * 2 ^ 48 + (t % uS / uNs) * 2 ^ 16 + t % uNs

/-- A short timestamp read as the nearest instant to `ref` (R110). -/
def shortTime (w ref : Nat) : Nat :=
  let low := bits w 48 16 * uS + bits w 16 32 * uNs + bits w 0 16
  let span := 65536 * uS
  let d := ((low : Int) - (ref % span : Nat)) % (span : Int)
  timeAdd ref (if d < (span / 2 : Nat) then d else d - span)

/-- Picoseconds as units of 2^-16 ns. -/
def psUnits (ps : Int) : Int := roundDiv (ps * 65536) 1000

/-- A domain's time at a local time (R111): the local counter with the domain's phase and frequency. -/
def domainAt (d : Domain) (at_ : Nat) : Nat :=
  let dt : Int := (at_ : Int) - d.since
  timeAdd d.base (dt + dt * d.freq / (65536 * 1000000000))

/-- The residual O at the present moment (R117): slewed toward 0 at SLEW_RATE. -/
def residualNow (s : State) : Int :=
  let o := s.time.residual
  let moved : Nat := (s.now - s.time.residualAt) * s.get .TIME_SEL_SLEW_RATE / 1000000000
  if o < 0 then min 0 (o + moved) else max 0 (o - moved)

/-- The selected domain. -/
def selected (s : State) : Nat := s.get .TIME_STATUS_SELECTED

/-- Service time: the selected domain's time plus O (R117). -/
def serviceTime (s : State) : Nat := timeAdd (domainAt (s.domain (selected s)) s.now) (residualNow s)

/-- Service time is valid while the selected domain is (R116). -/
def serviceValid (s : State) : Bool := s.isSet .TIME_STATUS_VALID

/-- Service time at a local time, by the domain's phase and frequency and the slew of now (R111, R117). -/
def serviceAt (t : Nat) (s : State) : Nat := serviceTime { s with now := t }

/-- The local time at which service time reaches L (R91, R126): the difference to it, taken again where it leads, as the rate of service
time differs little from that of the local counter. -/
def localOf (l : Nat) (s : State) : Nat :=
  (List.range 6).foldl (fun t _ => ((t : Int) + timeDiff l (serviceAt t s)).toNat) s.now

/-- NOW_SUB and RESIDUAL show service time as it stands (Tables 4.9, 4.11). -/
def refreshTime (s : State) : State :=
  let t := serviceTime s
  ((s.set .TIME_NOW_SUB_NS (t % uS / uNs)).set .TIME_NOW_SUB_FRAC (t % uNs)).setI .TIME_STATUS_RESIDUAL
    (roundDiv (residualNow s) uNs)

/-- A read of NOW_SUB latches the seconds in NOW_SEC (R4, Tables 4.9 and 4.10). -/
def latchNow (s : State) : State := (refreshTime s).set .TIME_NOW_SEC_SECONDS (serviceTime s / uS)

/-- A signed number of ns in two 32-bit words. -/
def nsWords (u : Int) : List Nat :=
  let v := ofSigned 64 (roundDiv u uNs)
  [v / 2 ^ 32, v % 2 ^ 32]

/-- A bin record's age shift: every kept bin grows older by one, `top` bins kept (R74, R75). -/
def shiftBins (key top : Nat) (closed fresh_ : PmBin) (m : Tab PmBin) : Tab PmBin :=
  let m := (List.range (top - 1)).foldl (fun m a =>
    Tab.put {} m (key + (top - a)) (Tab.get {} m (key + (top - a - 1)))) m
  Tab.put {} (Tab.put {} m (key + 1) closed) key fresh_

/-- Key of the current bin of a subject; kind 0 quarter-hour, 1 day. -/
def binKey (subject kind : Nat) : Nat := (subject * 2 + kind) * 64

/-- A bin that has ended enters the history (R75): event PM_BIN_CLOSED. -/
def closeEnded (n subject kind : Nat) (s : State) : State :=
  let k := binKey subject kind
  let f := s.frame n
  let bins := shiftBins k (if kind = 0 then 32 else 1) (Tab.get {} f.bins (k + 63)) (Tab.get {} f.bins k)
    (Tab.put {} f.bins (k + 63) {})
  ((s.setFrame n (fun f => { f with bins := bins })).stop (.binEnd n subject kind)).raise 0x040F [n, kind]

/-- Every bin that runs while service time becomes invalid is TIME_SUSPECT (R75). -/
def suspectBins (s : State) : State :=
  (List.range 4).foldl (fun s n => s.setFrame n (fun f =>
    { f with bins := f.bins.map (fun p => if p.1 % 64 = 0 ∧ p.2.valid then (p.1, { p.2 with timeSuspect := true }) else p) })) s

/-- A step of service time closes every current bin at once, marked TIME_SUSPECT and PARTIAL; the bin that opens is PARTIAL
(R75). -/
def closeBinsAtStep (s : State) : State :=
  let sec := serviceTime s / uS
  (List.range 4).foldl (fun s n =>
    (List.range 17).foldl (fun s subj =>
      [0, 1].foldl (fun s kind =>
        let k := binKey subj kind
        let s := s.when (Tab.get {} (s.frame n).bins (k + 63)).valid (closeEnded n subj kind)
        let cur := Tab.get {} (s.frame n).bins k
        if cur.valid then
          let closed : PmBin := { cur with timeSuspect := true, part := true }
          let opened : PmBin := { start := sec, timeSuspect := !(serviceValid s), part := true, valid := true }
          let bins := shiftBins k (if kind = 0 then 32 else 1) closed opened (s.frame n).bins
          (s.setFrame n (fun f => { f with bins := bins })).raise 0x040F [n, kind]
        else s) s) s) s

/-- First point of a schedule after a service time (R128). -/
def nextPoint (k : Nat) (s : State) : Option Nat :=
  let st := s.get .TIME_PULSE_CTL_START_SEC k * uS + s.get .TIME_PULSE_TIMES_START_NS k * uNs
  let p := s.get .TIME_PULSE_PERIOD_PERIOD_NS k * uNs
  let t := serviceTime s
  if s.get .TIME_PULSE_CTL_ENABLE k = 0 then none
  else if s.get .TIME_PULSE_CTL_PERIODIC k = 1 then
    if t < st ∨ p = 0 then some st else some (st + ((t - st) / p + 1) * p)
  else if s.isSet .TIME_PULSE_CTL_ARMED k ∧ t < st then some st else none

/-- After a step the next pulse of every output is at its first schedule point after the new service time (R128). -/
def repointPulses (s : State) : State :=
  (List.range 4).foldl (fun s k => let p := nextPoint k s; s.setPulse k (fun x => { x with next := p })) s

/-- A step moves the schedules, and with them the end of a pulse that runs, so that it keeps its width (R128; log entry 123). -/
def stepPulses (step : Int) (s : State) : State :=
  repointPulses ((List.range 4).foldl (fun s k => s.setPulse k (fun x => { x with fallAt := timeAdd x.fallAt step })) s)

/-- A pulse schedule takes effect (R128). -/
def takePulse (k : Nat) (es : List WEntry) (s : State) : State :=
  let s := wApplyAll s es
  let s := s.set .TIME_PULSE_CTL_ARMED (b2n (s.isSet .TIME_PULSE_CTL_ENABLE k && !s.isSet .TIME_PULSE_CTL_PERIODIC k)) k
  let p := nextPoint k s
  s.setPulse k (fun x => { x with next := p, waiting := [] })

/-- A pulse output is driven low (R128, Table 16.5); a schedule that waited for its pulse is taken over. -/
def pulseLow (k : Nat) (s : State) : State :=
  let x := s.pulseOut k
  let s := (s.setPulse k (fun p => { p with high := false })).emit (.pulse k false)
  if x.waiting = [] then s else takePulse k x.waiting s

/-- Rises that fell while an output had to be low are passed over: a periodic output goes on at its next instant to come, another
has none. -/
def pulseResume (k : Nat) (s : State) : State :=
  let x := s.pulseOut k
  let t := serviceTime s
  match x.next with
  | none => s
  | some p =>
    if t ≤ p then s
    else
      let per := s.get .TIME_PULSE_PERIOD_PERIOD_NS k * uNs
      let nx : Option Nat := if s.isSet .TIME_PULSE_CTL_PERIODIC k ∧ per ≠ 0 then some (p + ceilDiv (t - p) per * per) else none
      s.setPulse k (fun x => { x with next := nx })

/-- Service time becomes invalid, or valid again: an output without FREE_RUN is low between (R128). -/
def pulseValidity (valid : Bool) (k : Nat) (s : State) : State :=
  if s.isSet .TIME_PULSE_CTL_FREE_RUN k then s
  else if valid then pulseResume k s
  else s.when (s.pulseOut k).high (pulseLow k)

/-- O is set so that service time, `before`, is unchanged at this instant; beyond 1 µs it is dropped, which is a step of
service time (R117). -/
def settleResidual (before : Nat) (s : State) : State :=
  let o := timeDiff before (domainAt (s.domain (selected s)) s.now)
  let now := s.now
  if o.natAbs ≤ 1000 * uNs then
    refreshTime ((s.setTime (fun t => { t with residual := o, residualAt := now })).set .TIME_STATUS_SLEWING (b2n (o != 0)))
  else
    let s := (s.setTime (fun t => { t with residual := 0, residualAt := now })).set .TIME_STATUS_SLEWING 0
    let s := (s.inc .TIME_SERVICE_STEPS).raise 0x0604 (selected s :: nsWords (-o))
    stepPulses (-o) (closeBinsAtStep (refreshTime (s.setTime (fun t => { t with clk10 := { t.clk10 with next := none } }))))

/-- The service time of CLK10M_OUT's next edge where it has to find its phase (R129): rising edges fall on multiples of 100 ns and falling ones
halfway between, 50 ns or more after the last edge. -/
def clk10Aim (s : State) : Nat :=
  let c := s.time.clk10
  let from_ := serviceAt (c.last + 50 * uNs) s
  let half := if c.high then 50 * uNs else 0
  half + ceilDiv (from_ - half) (100 * uNs) * (100 * uNs)

/-- CLK10M_OUT has an edge at a local time. -/
def clk10Edge (at_ : Nat) (next : Option Nat) (s : State) : State :=
  let high := !s.time.clk10.high
  let c : Clk10 := { high := high, last := at_, next := next }
  (s.setTime (fun t => { t with clk10 := c })).emit (.clk10m high at_)

/-- CLK10M_OUT runs on by a cycle of TCLK (R129): in service time while that is valid, else at nominal rate from the local counter; a step,
like a return to validity, makes it find its phase anew, one cycle being stretched. -/
def clk10Run (s : State) : State :=
  let c := s.time.clk10
  if !(s.isSet .TIME_SEL_CLK10M_EN) then s
  else if serviceValid s then
    let aim := c.next.getD (clk10Aim s)
    if 0 ≤ timeDiff (serviceTime s) aim then clk10Edge (localOf aim s) (some (timeAdd aim (50 * uNs : Nat))) s
    else s.setTime (fun t => { t with clk10 := { c with next := some aim } })
  else if c.last + 50 * uNs ≤ s.now then clk10Edge (c.last + 50 * uNs) none s
  else s.setTime (fun t => { t with clk10 := { c with next := none } })

/-- CLK10M_OUT is low while it is not enabled, and begins with a low phase (R129). -/
def clk10Enable (was : Bool) (s : State) : State :=
  let on := s.isSet .TIME_SEL_CLK10M_EN
  if was == on then s
  else
    let now := s.now
    let s := s.when s.time.clk10.high (fun s => s.emit (.clk10m false now))
    s.setTime (fun t => { t with clk10 := if on then { last := now } else {} })

/-- Validity of both domains and of service time follows their states (R115, R116). -/
def updateValid (s : State) : State :=
  let valid (s : State) (d : Nat) : Bool :=
    s.get .TIME_DOMAIN_STATE_STATE d == 2 ||
      (s.get .TIME_DOMAIN_STATE_STATE d == 3 &&
        decide (s.now - (s.domain d).holdSince < s.get .TIME_DOMAIN_CFG_HOLDOVER_LIMIT d * uS))
  let s := (s.set .TIME_DOMAIN_STATE_VALID (b2n (valid s 0)) 0).set .TIME_DOMAIN_STATE_VALID (b2n (valid s 1)) 1
  let v := s.get .TIME_DOMAIN_STATE_VALID (selected s)
  if v = s.get .TIME_STATUS_VALID then s
  else
    let s := ((s.set .TIME_STATUS_VALID v).set .TIME_NOW_SUB_VALID v).raise 0x0605 [selected s, v]
    (List.range 4).foldl (fun s k => pulseValidity (v == 1) k s) (s.when (v == 0) suspectBins)

/-- The selection changes (R118, R117). -/
def selectDomain (d : Nat) (auto : Bool) (s : State) : State :=
  if selected s = d then s
  else
    let before := serviceTime s
    let s := (s.set .TIME_STATUS_SELECTED d).setTime (fun t => { t with autoSelected := auto && d == 1 })
    let o := timeDiff before (domainAt (s.domain d) s.now)
    let s := (s.inc .TIME_DOMAIN_SWITCHES).raise 0x0603 [d, ofSigned 32 (roundDiv o uNs), b2n auto]
    updateValid (settleResidual before s)

/-- An automatic switch: the selected domain has left LOCKED while the other is LOCKED (R118). It comes before a TIME_SELECT of the same
instant, whose choice stands (R119). -/
def autoSwitch (left : Nat) (s : State) : State :=
  let back : Option Nat := match s.time.commanded with
    | some (t, was) => if t = s.now then some was else none
    | none => none
  if s.isSet .TIME_SEL_AUTO_SWITCH ∧ back.getD (selected s) = left ∧ s.get .TIME_DOMAIN_STATE_STATE (1 - left) = 2 then
    let chosen := selected s
    let s := selectDomain (1 - left) true s
    if back.isSome then (selectDomain chosen false s).setTime (fun t => { t with autoSelected := false }) else s
  else s

/-- A domain changes state, a holdover age starting anew; `event` where Table 4.2 raises DOMAIN_STATE. Leaving LOCKED may switch the
selection, before the validity of service time is judged. -/
def setDomainState (d new : Nat) (event : Bool) (s : State) : State :=
  let old := s.get .TIME_DOMAIN_STATE_STATE d
  let now := s.now
  let s := (s.set .TIME_DOMAIN_STATE_STATE new d).set .TIME_DOMAIN_STATE_HOLDOVER_S 0 d
  let s := s.setDomain d (fun x => { x with goodRun := 0, badRun := 0, lockedSince := if new = 2 then some now else none })
  let s := s.when event (fun s => s.raise 0x0601 [d, new + old * 4])
  updateValid (s.when (old == 2 && new != 2) (autoSwitch d))

/-- A domain's time moves by `e` at once (domain step); where the domain is selected O absorbs it (R117). -/
def moveDomain (d : Nat) (e : Int) (s : State) : State :=
  let before := serviceTime s
  let now := s.now
  let s := s.setDomain d (fun x => { x with base := timeAdd (domainAt x now) e, since := now })
  if selected s = d then settleResidual before s else s

/-- A domain step with its event (Table 4.2, Table 4.7). -/
def domainStep (d : Nat) (e : Int) (s : State) : State := moveDomain d e (s.raise 0x0602 (d :: nsWords e))

/-- The servo absorbs a measurement: a second-order loop, which corrects the phase and the frequency it holds, within the ±100 ppm of its
pull-in. By how much is outside the manual (Config.servoPhase, log entry 12). -/
def servo (d : Nat) (e : Int) (s : State) : State :=
  let bw := s.get .TIME_DOMAIN_CFG_BW d
  let now := s.now
  let ppm100 : Int := 100000 * 65536
  s.setDomain d (fun x => { x with base := timeAdd (domainAt x now) (Config.servoPhase d bw e), since := now,
                                   freq := clamp (-ppm100) ppm100 (x.freq + Config.servoFreq d bw e) })

/-- Measurements in succession that lock a domain (R115): 64 for a line source, 8 for TIMEIN. -/
def lockRun (d : Nat) (s : State) : Nat := if s.get .TIME_DOMAIN_CFG_SOURCE d ≤ 4 then 64 else 8

/-- A measurement of a line or TIMEIN domain (Table 4.2): the error in ERROR, then the row of its state. The first one after a change of source,
and the one that ends HOLDOVER, take their own rows and do not count among the N of ACQUIRING; R115 is silent on it, and this is the model's
choice (log entry 126). -/
def measure (d : Nat) (e : Int) (s : State) : State :=
  let s := (s.setI .TIME_DOMAIN_STATE_ERROR (clamp (-(2 ^ 31)) (2 ^ 31 - 1) (roundDiv e uSym)) d).start (.domainLoss d)
  let far := decide (1000 * uNs < e.natAbs)
  let x := s.domain d
  match s.get .TIME_DOMAIN_STATE_STATE d with
  | 1 =>
    if x.first then domainStep d e (s.setDomain d (fun x => { x with first := false }))
    else
      let run := if e.natAbs < 20 * uNs then x.goodRun + 1 else 0
      let s := servo d e (s.setDomain d (fun x => { x with goodRun := run }))
      if lockRun d s ≤ run then setDomainState d 2 true s else s
  | 2 =>
    let run := if far then x.badRun + 1 else 0
    if 4 ≤ run then domainStep d e (setDomainState d 1 false s)
    else servo d e (s.setDomain d (fun x => { x with badRun := run }))
  | 3 =>
    let s := setDomainState d 1 false (s.setDomain d (fun x => { x with first := false }))
    if far then domainStep d e s else servo d e s
  | _ => s

/-- The domain disciplined by a source, if any. -/
def domainOf (source : Nat) (s : State) : Option Nat :=
  [0, 1].find? (fun d => s.get .TIME_DOMAIN_CFG_SOURCE d == source)

/-- One-way downstream delay that governs the time mark of downstream superframe j (R113, R85). -/
def markDelay (n j delta : Nat) (s : State) : Nat :=
  match (s.term n).rangeNext.filter (fun r => decide ((j + delta + 2 ^ 25 - r.apply) % 2 ^ 25 < 2 ^ 24)) with
  | [] => s.get .LINE_TREE_RANGE_DN_DELAY n
  | l => (l.getLast?.map (·.delay)).getD (s.get .LINE_TREE_RANGE_DN_DELAY n)

/-- The time mark of an accepted control header of port n is a measurement of its domain (R113). -/
def timeMark (n mark : Nat) (s : State) : State :=
  match domainOf (n + 1) s with
  | none => s
  | some d =>
    if (s.frame n).timeValid ∧ (s.tree n = tsMember ∨ s.tree n = tsDozing) then
      let f := s.frame n
      let head := timeAdd (timeOfWord mark)
        ((markDelay n f.sf f.delta s * 256 : Nat) + psUnits (s.getI .TIME_ADJ_VALUE n))
      let hold := bit (Tab.get 0 f.remote (s.get .LINE_STATUS_CONTROL_SC n)) 1
      measure d (timeDiff head (domainAt (s.domain d) f.arrival)) (s.set .TIME_DOMAIN_STATE_SRC_HOLDOVER (b2n hold) d)
    else s

/-- A two-step entry is posted to a port's ring; a full ring drops it (R123). -/
def postTwoStep (x stamp seqId msgType domain : Nat) (s : State) : State :=
  let ring := Tab.get [] s.time.rings x
  if ring.length < 1024 then
    let e := stamp * 2 ^ 64 + (seqId % 65536) * 2 ^ 48 + (msgType % 16) * 2 ^ 40 + (domain % 256) * 2 ^ 32 + x % 256 * 2 ^ 24
    s.setTime (fun t => { t with rings := Tab.put [] t.rings x (ring ++ [e]) })
  else
    let s := s.inc .TIME_TS_OVERFLOW x
    if Tab.get 0 s.time.overflowed x = 0 then
      (s.setTime (fun t => { t with overflowed := Tab.put 0 t.overflowed x 1 })).raise 0x0606 [x]
    else s

end Sys2Proof.Machine
end

