-- ==== Sys2Proof/Machine/WakeOps.lean ====
section
/-! DEFINITION. The states of the power manager and its wake sources (R379, R380, R383). -/
namespace Sys2Proof.Machine

open Sys2Proof

/-- The power manager's update. -/
def State.setPower (s : State) (f : PowerState → PowerState) : State := { s with power := f s.power }

/-- A change of power state with its event (Table 15.14). -/
def setPowerState (new phase : Nat) (s : State) : State :=
  let old := s.get .PWR_STATE_STATE
  let s := s.setAll [(.PWR_STATE_STATE, new), (.PWR_STATE_PHASE, phase)]
  if new = old then s else s.raise 0x0201 [new, old]

/-- PFAIL_N holds every power transition (R383); the pin's rise is taken 10 ms after it, by PFAIL_RELEASE (log entry 76). -/
def pfailHolds (s : State) : Bool := !s.pins.pfail

/-- STANDBY is left (R379): the phases S3 to S1 are undone. -/
def leaveStandby (s : State) : State := setPowerState 5 3 (s.setPower (fun w => { w with request := none, back := true, wokeBy := 0 }))

/-- An enabled wake source (Table 15.8) leaves STANDBY, or ends an entry at its next phase boundary (R379, R380). -/
def wakeBy (src : Nat) (s : State) : State :=
  let st := s.get .PWR_STATE_STATE
  let now := s.now
  if !(bit (s.get .PWR_WAKE_ENABLE) src) ∨ (src = 6 ∧ serviceTime s / uS < s.get .PWR_WAKE_AT_S) then s
  else if st = 2 then s.setPower (fun w => { w with wokeAt := now + 1 })
  else if st = 3 then s.setPower (fun w => { w with wokeBy := if w.wokeBy = 0 then src + 1 else w.wokeBy })
  else if st = 4 ∧ s.power.request ≠ some 0 then
    let s := (s.set .PWR_STATE_LAST_WAKE src).raise 0x0203 [src]
    if pfailHolds s then s.setPower (fun w => { w with request := some 0 }) else leaveStandby s
  else s

end Sys2Proof.Machine
end

