-- ==== Sys2Proof/Machine/SwOps.lean ====
section
/-!
DEFINITION. The switch core's shared operations ("Switch core, cell store and buffer pools"): items, copies and queues, the
cell accounts, ingress accounting, the freeing of copies, flushes.
-/
namespace Sys2Proof.Machine

open Sys2Proof

/-- An item, a copy, a queue, and their updates. -/
def State.item (s : State) (k : Nat) : Item := Tab.get {} s.items k
def State.setItem (s : State) (k : Nat) (f : Item → Item) : State := { s with items := Tab.put {} s.items k (f (s.item k)) }
def State.copy (s : State) (k : Nat) : Copy := Tab.get {} s.copies k
def State.setCopy (s : State) (k : Nat) (f : Copy → Copy) : State := { s with copies := Tab.put {} s.copies k (f (s.copy k)) }
def State.setSw (s : State) (f : SwitchState → SwitchState) : State := { s with sw := f s.sw }
def State.queue (s : State) (q : Nat) : Queue := Tab.get {} s.sw.queues q
def State.setQueue (s : State) (q : Nat) (f : Queue → Queue) : State :=
  s.setSw (fun w => { w with queues := Tab.put {} w.queues q (f (s.queue q)) })

/-- An item is on the path. -/
def hasItem (s : State) (k : Nat) : Bool := s.items.any (fun p => p.1 == k)

/-- A new item joins the path; its number. -/
def newItem (it : Item) (s : State) : State :=
  { s with items := Tab.put {} s.items s.nextItem it, nextItem := s.nextItem + 1 }

/-- An item leaves the path. -/
def dropItem (k : Nat) (s : State) : State := { s with items := Tab.put {} s.items k {} }

/-- A counter that waits for an item's confirmation (R142). -/
def countLater (k : Nat) (c : Ctr) (n i j : Nat) (s : State) : State :=
  s.setItem k (fun it => { it with counts := it.counts ++ [(c, n, i, j)] })

/-- Every confirmation point of an item has passed and its decision is made (R134). -/
def isConfirmed (it : Item) : Bool := it.points.isEmpty && it.failed.isNone

/-- What an item's passage counts: at once where nothing is awaited for it, else at its confirmation (R142). -/
def countFor (k : Nat) (c : Ctr) (i : Nat) (s : State) : State :=
  if hasItem s k && !(isConfirmed (s.item k)) then countLater k c 1 i 0 s else s.inc c i

/-- The numbers of an item's copies. -/
def copiesOf (s : State) (item : Nat) : List Nat := (s.copies.filter (fun p => p.2.item == item)).map (·.1)

/-- Cells of a frame of L bytes (R222). -/
def cellsOf (len : Nat) : Nat := ceilDiv (len + 32) 256

/-- Cells of the HBM area and of the whole store, by the operating mode (R224, Table 9.11). -/
def hbmArea (s : State) : Nat := if s.mode = 3 then 134217728 else 268435456
def allCells (s : State) : Nat := 1048576 + hbmArea s

/-- Cells a queue holds, as admission counts them (R230). -/
def queueDepth (s : State) (q : Nat) : Nat := (s.queue q).copies.foldl (fun a c => a + (s.copy c).cells) 0

/-- Cells charged to a destination's shared allocation, as admission counts them (R230). -/
def sharedUsed (s : State) (d : Nat) : Nat := s.copies.foldl (fun a p => if p.2.dest = d then a + p.2.charged else a) 0

/-- Cells of an ingress slot and priority that the core holds: of confirmed frames, and of all (R228, R229). -/
def ingCells (s : State) (x p : Nat) (confirmedOnly : Bool) : Nat :=
  s.copies.foldl (fun a e => if e.2.ing = some (x, p) ∧ (e.2.counted ∨ !confirmedOnly) then a + e.2.cells else a) 0

/-- Cells in use on die and in HBM; the copies of an item share its cells, which are counted once (R223, R224). -/
def ownsCells (s : State) (p : Nat × Copy) : Bool := (copiesOf s p.2.item).head? == some p.1
def sramUsed (s : State) : Nat := s.copies.foldl (fun a p => if ownsCells s p then a + (p.2.cells - p.2.hbm) else a) 0
def hbmUsed (s : State) : Nat := s.copies.foldl (fun a p => if ownsCells s p then a + p.2.hbm else a) 0

/-- A host port, and its update. -/
def State.hp (s : State) (x : Nat) : HostPort := Tab.get {} s.host.ports x
def State.setHp (s : State) (x : Nat) (f : HostPort → HostPort) : State :=
  { s with host := { s.host with ports := Tab.put {} s.host.ports x (f (s.hp x)) } }

/-- The MAC of a port has nothing to send: every transmit queue empty, no pause frame due (R162). -/
def macIdle (s : State) (x : Nat) : Bool :=
  Tab.get 0 s.sw.sending x == 0 && (Tab.get [] s.sw.pauseDue x).isEmpty &&
    (List.range 8).all (fun c => (Tab.get [] s.sw.mac (x * 8 + c)).isEmpty)

/-- The idle clock of low-power idle follows the transmit queues (R162). -/
def markIdle (x : Nat) (s : State) : State :=
  let now := s.now
  s.setHp x (fun h => { h with idleSince := if macIdle s x then (if h.idleSince = 0 then now + 1 else h.idleSince) else 0 })

/-- A pause frame becomes due on a host slot where MODE has pauses (R169). -/
def pauseDue (x prioMask quanta : Nat) (s : State) : State :=
  if s.get .PORT_PAUSE_MODE x = 0 then s
  else markIdle x (s.setSw (fun w => { w with pauseDue := Tab.put [] w.pauseDue x (Tab.get [] w.pauseDue x ++ [(prioMask, quanta)]) }))

/-- PAUSE_CALL of a slot and priority follows ING_CELLS (R228); a call or its end makes a pause frame due (R169). -/
def pauseTest (x p : Nat) (s : State) : State :=
  let k := x * 8 + p
  let c := ingCells s x p true
  if !(s.isSet .SW_ING_PAUSE_CALL k) && decide (s.get .SW_ING_XOFF k ≤ c) then
    pauseDue x (2 ^ p) (s.get .PORT_PAUSE_QUANTA x) (s.set .SW_ING_PAUSE_CALL 1 k)
  else if s.isSet .SW_ING_PAUSE_CALL k && decide (c ≤ s.get .SW_ING_XON k) then
    pauseDue x (2 ^ p) 0 (s.set .SW_ING_PAUSE_CALL 0 k)
  else s

/-- SHARED_USED of a destination reads its confirmed cells (R230). -/
def refreshShared (d : Nat) (s : State) : State :=
  s.set .SW_DEST_STATE_SHARED_USED
    (s.copies.foldl (fun a p => if p.2.dest = d ∧ p.2.counted then a + p.2.charged else a) 0) d

/-- The accounts that a copy's presence or confirmation moves. -/
def refreshAccounts (c : Copy) (s : State) : State :=
  let s := refreshShared c.dest s
  match c.ing with
  | some (x, p) => pauseTest x p s
  | none => s

/-- A queue stops being spilled when its last HBM cell has been read, those of its frames in transmission among them (R225). -/
def respill (q : Nat) (s : State) : State :=
  if s.copies.all (fun p => p.2.queue != q || p.2.hbm == 0) then s.setQueue q (fun x => { x with spilled := false }) else s

/-- A copy leaves its queue, or the MAC queue that holds it. -/
def unlink (k : Nat) (s : State) : State :=
  let c := s.copy k
  let s := s.setQueue c.queue (fun x => { x with copies := x.copies.filter (· ≠ k) })
  let m := c.dest * 8 + c.cls
  let s := s.setSw (fun w => { w with mac := Tab.put [] w.mac m ((Tab.get [] w.mac m).filter (· ≠ k)) })
  if c.dest < 32 ∧ c.phase = 1 then markIdle c.dest s else s

/-- The cells of an item return to the free list once its last copy has gone (R223); `c` is the copy that has gone. -/
def returnCells (c : Copy) (s : State) : State :=
  if copiesOf s c.item = [] then s.set .SW_SHARED_FREE (min (allCells s) (s.get .SW_SHARED_FREE + c.cells)) else s

/-- A copy's cells return to the accounts and the copy is gone (R227). Marks it had placed are removed. -/
def freeCopy (k : Nat) (s : State) : State :=
  let c := s.copy k
  let s := unlink k s
  let left : Tab Copy := Tab.put {} s.copies k {}
  let unmark (p : Nat × Copy) : Nat × Copy := if p.2.markedBy = some k then (p.1, { p.2 with markedBy := none }) else p
  let s := respill c.queue { s with copies := left.map unmark }
  refreshAccounts c (returnCells c s)

/-- A copy that has not begun is dropped: it leaves the burst body that holds it, and a reservation it held is released without a debit
(R257). -/
def dropCopy (k : Nat) (s : State) : State :=
  let c := s.copy k
  let s := if 32 ≤ c.dest ∧ c.dest < 36 ∧ c.phase = 2 then withdraw (c.dest - 32) k s else s
  freeCopy k (release c.len false 0 c.reserved s)

/-- An item whose last copy has gone leaves the path; one whose outcome is still unknown stays until then, dropped (R142). -/
def closeItem (k : Nat) (s : State) : State :=
  if copiesOf s k ≠ [] ∨ !(hasItem s k) then s
  else if isConfirmed (s.item k) then dropItem k s
  else s.setItem k (fun it => { it with decision := some .drop, points := it.points.filter (· ≠ 0) })

/-- A copy is dropped before it has begun, and counted in `ctr` once its item's outcome is known (R142). -/
def dropLone (k : Nat) (ctr : Ctr) (i : Nat) (s : State) : State :=
  let x := (s.copy k).item
  closeItem x (dropCopy k (countFor x ctr i s))

/-- The frames an arrival marked (R232). -/
def markedBy (s : State) (k : Nat) : List Nat := (s.copies.filter (fun p => p.2.markedBy == some k)).map (·.1)

/-- The frames that a confirmed arrival marked are freed and counted (R232). -/
def pushOut (k : Nat) (s : State) : State :=
  (markedBy s k).foldl (fun s m =>
    let c := s.copy m
    let s := (s.inc .SWD_PUSHOUT_FRAMES c.dest).bump .SWD_PUSHOUT_CELLS c.cells c.dest
    closeItem c.item (dropCopy m s)) s

/-- Occupancy of an AID: bytes of the confirmed frames queued beneath its node (R95, R259). -/
def aidBytes (s : State) (n aid : Nat) : Nat :=
  s.copies.foldl (fun a p => if p.2.dest = 32 + n ∧ p.2.aid = aid ∧ p.2.counted ∧ p.2.phase = 0 then a + p.2.len else a) 0

/-- A wake by command or threshold (R100): the next check-in burst carries DOZE 0. It wakes the device too (Table 15.8). `cause` is the
command's opcode, 0 for a threshold (R107). -/
def wakeRequest (n cause : Nat) (s : State) : State :=
  (wakeBy 3 s).setTerm n (fun t => { t with wakePending := true, wakeCause := if t.wakePending then t.wakeCause else cause })

/-- An AID's occupancy reaching WAKE_THRESHOLD wakes a dozing terminal (R100). -/
def thresholdWake (n aid : Nat) (s : State) : State :=
  let th := s.get .LINE_TREE_DOZE_WAKE_THRESHOLD n
  if s.tree n = tsDozing ∧ th ≠ 0 ∧ th ≤ ceilDiv (aidBytes s n aid) 4096 then wakeRequest n 0 s else s

/-- A copy's confirmation is known: it enters the read-back accounts and the counters, and its push-out is done (R230,
R232, Table 9.9). -/
def countCopy (k : Nat) (s : State) : State :=
  let c := s.copy k
  if c.counted then s
  else
    let s := s.setCopy k (fun c => { c with counted := true })
    let s := ((s.inc .SWD_ENQ_FRAMES c.dest).bump .SWD_ENQ_CELLS c.cells c.dest).bump .SWD_SPILL_CELLS c.spilt c.dest
    let s := refreshAccounts c (pushOut k s)
    if 32 ≤ c.dest ∧ c.dest < 36 then thresholdWake (c.dest - 32) c.aid s else s

/-- A copy is being sent and has begun. -/
def isBegun (s : State) (k : Nat) : Bool :=
  let c := s.copy k
  c.phase == 2 && (decide (c.dest < 32 ∨ 36 ≤ c.dest) || placeBegun (c.dest - 32) k s)

/-- A copy that has not begun to leave, and can still be taken back. -/
def notYet (s : State) (k : Nat) : Bool := decide ((s.copy k).phase < 3) && !(isBegun s k)

/-- A destination's copies that have not begun transmission. -/
def notBegun (s : State) (d : Nat) : List Nat := ((s.copies.filter (fun p => p.2.dest == d)).map (·.1)).filter (notYet s)

/-- Bytes of an item received by now (R140, R179); an item of rate 0 is whole. -/
def received (s : State) (it : Item) : Nat :=
  if it.rate = 0 then it.bytes.length else min it.bytes.length ((s.now - it.since) * it.rate / uUs)

/-- A flushed copy: it and the cells still to arrive, which are absorbed, are counted at once where its item is confirmed, else once its
outcome is known (R142, R235). -/
def flushCopy (d : Nat) (s : State) (k : Nat) : State :=
  let c := s.copy k
  let it := s.item c.item
  let absorbed := c.cells - min c.cells (cellsOf (received s it))
  let s := dropCopy k s
  let s := s.setSw (fun w => { w with flushFreed := Tab.put 0 w.flushFreed d (Tab.get 0 w.flushFreed d + 1) })
  if isConfirmed it then closeItem c.item ((s.inc .SWD_FLUSH_FRAMES d).bump .SWD_FLUSH_ABSORBED absorbed d)
  else (countLater c.item .SWD_FLUSH_ABSORBED absorbed d 0 s).setItem c.item (fun i => { i with flushed := i.flushed ++ [d], decision := some .drop, points := i.points.filter (· ≠ 0) })

/-- A flush of a destination starts (R233); one that runs absorbs it (R236). -/
def startFlush (d : Nat) (s : State) : State :=
  if s.isSet .SW_DEST_STATE_FLUSHING d then s
  else
    let s := s.set .SW_DEST_STATE_FLUSHING 1 d
    let now := s.now
    let s := s.setSw (fun w => { w with flushFreed := Tab.put 0 w.flushFreed d 0, flushSince := Tab.put 0 w.flushSince d now })
    (notBegun s d).foldl (flushCopy d) s

/-- The whole store is flushed in bulk, and the free lists of both tiers are rebuilt: every cell but those of frames that have begun is
free (R233). Sage pauses (R237). -/
def flushAll (s : State) : State :=
  let s := (List.range 42).foldl (fun s d => startFlush d s) s
  let s := s.setSw (fun w => { w with wholeFlush := true, sage := { w.sage with seen := [], doubles := [] } })
  s.setAll [(.SW_SHARED_FREE, allCells s - sramUsed s - hbmUsed s), (.SW_SAGE_PAUSED, 1)] 0

/-- The queue of a decided frame (log entry 22): the lowest-numbered queue bound to its destination and class and, on a
line destination, beneath its AID node. -/
def queueFor (s : State) (d cls aid : Nat) : Option Nat :=
  let ok (q : Nat) (r : Queue) : Bool :=
    r.dest == d && r.cls == cls && (decide (d < 32 ∨ 36 ≤ d) || ancestor s q cls 2 == 64 * (d - 32) + aid)
  let listed := (s.sw.queues.find? (fun p => ok p.1 p.2)).map (·.1)
  if d = 0 ∧ cls = 0 then
    let free := s.sw.queues.foldl (fun k p => if p.1 = k then k + 1 else k) 0
    match listed with
    | some q => some (min q free)
    | none => if free < 131072 then some free else none
  else listed

end Sys2Proof.Machine
end

