-- ==== Sys2Proof/Machine/ClsOps.lean ====
section
/-!
DEFINITION. Parsing and classification of one frame ("Parsing and classification"): the walk of the parser graph, the parse
result, the key, the rule search, and the edits of a forwarding result.
-/
namespace Sys2Proof.Machine

open Sys2Proof

def State.setCls (s : State) (f : ClassState → ClassState) : State := { s with cls := f s.cls }

/-- Byte k of a frame; bytes past its end read zero. -/
def byteAt (bs : List Nat) (k : Nat) : Nat := bs.getD k 0

/-- HTYPE word of a type in a bank (Table 7.5). -/
def htype (b : ParserBank) (t : Nat) : Nat := Tab.get 0 b.htype t

/-- ROLE of a type (R180). -/
def roleOf (b : ParserBank) (t : Nat) : Nat := bits (htype b t) 60 3

/-- The length of a header of type word w at an offset (R177). -/
def headerLen (w : Nat) (bs : List Nat) (off : Nat) : Nat :=
  let base := bits w 37 8
  if bits w 45 1 = 0 then base
  else base + ((byteAt bs (off + bits w 31 6) &&& bits w 23 8) / 2 ^ bits w 20 3) * 2 ^ bits w 16 4

/-- The one's complement sum of 16-bit words (R179 code 5). -/
def onesSum (bs : List Nat) : Nat :=
  let words16 := (List.range (ceilDiv bs.length 2)).map (fun k => byteAt bs (2 * k) * 256 + byteAt bs (2 * k + 1))
  words16.foldl (fun a w => let t := a + w; t % 65536 + t / 65536) 0

/-- A header is a fragment (R180). -/
def isFragment (role : Nat) (bs : List Nat) (off : Nat) : Bool :=
  role == 3 || (role == 1 && (bit (byteAt bs (off + 6)) 5 || byteAt bs (off + 6) % 32 * 256 + byteAt bs (off + 7) != 0))

/-- The type that follows a header, if any (R178): the lowest valid transition whose selector matches. -/
def nextType (b : ParserBank) (t : Nat) (bs : List Nat) (off : Nat) : Option Nat :=
  let w := htype b t
  let n := bits w 52 2
  if n = 0 then none
  else
    let at_ := off + bits w 46 6
    let sel := if n = 1 then byteAt bs at_ else byteAt bs at_ * 256 + byteAt bs (at_ + 1)
    match b.htrans.find? (fun p => bit p.2 63 && bits p.2 57 6 == t && (sel &&& bits p.2 19 16) == bits p.2 35 16) with
    | some p => if bits p.2 51 6 = 63 then none else some (bits p.2 51 6)
    | none => none

/-- The walk (R178 to R180) of a frame of n bytes, of which `bs` are the first 512: records as (type, offset, length), the error code, and
whether a fragment ended it. -/
def walk (b : ParserBank) (n : Nat) (bs : List Nat) : Nat → Nat → Nat → List (Nat × Nat × Nat) → List (Nat × Nat × Nat) × Nat × Bool
  | 0, _, _, recs => (recs, 3, false)
  | fuel + 1, t, off, recs =>
    let w := htype b t
    if t = 63 ∨ bits w 63 1 = 0 then (recs, 6, false)
    else
      let len := headerLen w bs off
      if len < bits w 8 8 ∨ bits w 0 8 < len then (recs, 4, false)
      else if n < off + len then (recs, 1, false)
      else if 512 < off + len then (recs, 2, false)
      else if bits w 60 3 = 1 ∧ bit w 59 ∧ onesSum ((bs.drop off).take len) ≠ 65535 then (recs, 5, false)
      else
        let recs := recs ++ [(t, off, len)]
        if isFragment (bits w 60 3) bs off then (recs, 0, true)
        else
          match nextType b t bs off with
          | none => (recs, 0, false)
          | some t => walk b n bs fuel t (off + len) recs

/-- The parse result (R181, R182). -/
def parseFrame (b : ParserBank) (start : Nat) (bs : List Nat) : Parsed :=
  let (recs, err, frag) := walk b bs.length (bs.take 512) 16 start 0 []
  let ipAt := recs.findIdx? (fun r => roleOf b r.1 == 1 || roleOf b r.1 == 2)
  let bad := err != 0
  let cut : List (Nat × Nat × Nat) := match ipAt with
    | some k => if bad ∨ frag then recs.take (k + 1) else recs
    | none => recs
  let l4 : Bool := match ipAt with
    | some k => (recs.drop (k + 1)).any (fun r => roleOf b r.1 == 4)
    | none => false
  let prof := cut.reverse.find? (fun r => bit (htype b r.1) 54)
  let outer := match ipAt with
    | some k => recs[k]?
    | none => none
  { records := cut.map (fun r => (r.1, r.2.1))
    parseErr := bad && ipAt.isNone
    innerFail := bad && ipAt.isSome
    frag := frag && !bad
    l4Absent := if bad && ipAt.isNone then false else bad || frag || !l4
    errCode := err
    errIndex := if bad then recs.length % 16 else 0
    profile := match prof with | some r => bits (htype b r.1) 55 4 | none => 16
    outerIp := ipAt.getD 31
    outerRole := match outer with | some r => roleOf b r.1 | none => 0
    outerOff := match outer with | some r => r.2.1 | none => 0
    payload := match cut.getLast? with | some r => r.2.1 + r.2.2 | none => 0 }

/-- The parse result as it travels (R182): the 64-bit summary of Table 7.1, then 16 header records of 16 bits. -/
def parseWords (p : Parsed) : List Nat :=
  (b2n p.parseErr * 2 ^ 35 + b2n p.innerFail * 2 ^ 34 + b2n p.frag * 2 ^ 33 + b2n p.l4Absent * 2 ^ 32 + p.errCode % 16 * 2 ^ 28 +
    p.errIndex % 16 * 2 ^ 24 + p.profile % 16 * 2 ^ 20 + p.records.length % 32 * 2 ^ 15 + p.outerIp % 32 * 2 ^ 10 + p.payload % 1024) ::
  (List.range 16).map (fun k => match p.records[k]? with | some r => r.1 * 1024 + r.2 | none => 0xFC00)

/-- The metadata block (Table 7.2). -/
def metadata (it : Item) (p : Parsed) : List Nat :=
  [it.slot, it.rxClass % 16, it.vport / 256, it.vport % 256,
   b2n p.frag + 2 * b2n p.innerFail + 4 * b2n p.l4Absent + 8 * b2n (decide (32 ≤ it.slot)) + 16 * b2n it.sealed,
   p.records.length, p.outerIp, 0, it.bytes.length / 256, it.bytes.length % 256, 0, 0, 0, 0, 0, 0]

/-- The bytes an extract copies (R183). -/
def extractBytes (it : Item) (p : Parsed) (e : Extract) : List Nat :=
  let zeros := List.replicate e.len 0
  if e.src = 1 then ((metadata it p ++ List.replicate 64 0).drop e.off).take e.len
  else
    match (p.records.filter (fun r => r.1 == e.type))[e.occ]? with
    | none => zeros
    | some r => (List.range e.len).map (fun k => let a := r.2 + e.off + k; if a < 512 then byteAt it.bytes a else 0)

/-- The classification key (R183), key byte 0 most significant. -/
def buildKey (it : Item) (p : Parsed) (prof : KeyProfile) : Nat :=
  let klen := if prof.wide then 64 else 32
  ofBytes (prof.extracts.foldl (fun key e =>
    (key.take e.keyOff ++ extractBytes it p e ++ key.drop (e.keyOff + e.len)).take klen) (List.replicate klen 0))

/-- A key half matches an entry (R185). -/
def keyMatches (r : Rule) (key : Nat) : Bool := ((key ^^^ r.value) &&& r.mask) == 0

/-- A rule's control word admits a profile of a width under a plane (R185). -/
def ruleApplies (r : Rule) (wide : Bool) (profile plane : Nat) : Bool :=
  bit r.control 63 && bit r.control 60 == wide && (bit r.control 55 || bits r.control 56 4 == profile) &&
    (bit r.control 61 || bits r.control 62 1 == plane)

/-- The lowest rule of a replica that matches (R185). -/
def findRule (s : State) (replica : Nat) (wide : Bool) (profile plane key : Nat) : Option (Nat × Rule) :=
  let base := replica * 65536
  (s.cls.replicas.find? (fun p =>
    decide (base ≤ p.1 ∧ p.1 < base + 65536) && ruleApplies p.2 wide profile plane &&
      (if wide then p.1 % 2 == 0 && keyMatches p.2 (key / 2 ^ 256) &&
          keyMatches (Tab.get {} s.cls.replicas (p.1 + 1)) (key % 2 ^ 256)
       else keyMatches p.2 key))).map (fun p => (p.1 - base, p.2))

/-- The outer tag of a frame is recognised (R164): TPID 0x88A8, 0x8100, or the port's alternative when nonzero. -/
def isTagged (alt : Nat) (bs : List Nat) : Bool :=
  let t := byteAt bs 12 * 256 + byteAt bs 13
  t == 0x88A8 || t == 0x8100 || (alt != 0 && t == alt)

/-- TPID_ALT of an ingress slot. -/
def altTpid (s : State) (slot : Nat) : Nat := if slot < 32 then s.get .PORT_CFG_TPID_ALT slot else 0

/-- One byte of a frame is replaced. -/
def putByte (bs : List Nat) (k v : Nat) : List Nat := bs.set k (v % 256)

/-- Some bytes of a frame are replaced. -/
def putBytes (bs : List Nat) (k : Nat) (v : List Nat) : List Nat := bs.take k ++ v ++ bs.drop (k + v.length)

/-- The offset of the TTL or hop limit of an outermost IP header. -/
def ttlAt (p : Parsed) : Option Nat :=
  if p.outerRole = 1 then some (p.outerOff + 8) else if p.outerRole = 2 then some (p.outerOff + 7) else none

/-- The header checksum of an IPv4 header is set to match its bytes (log entry 26). -/
def fixChecksum (bs : List Nat) (off : Nat) : List Nat :=
  let len := byteAt bs off % 16 * 4
  let z := putBytes bs (off + 10) [0, 0]
  let c := 65535 - onesSum ((z.drop off).take len)
  putBytes z (off + 10) [c / 256, c % 256]

/-- The edits of a next-hop entry r (Table 8.4): TTL, MAC addresses (the egress slot's `smac` as source), VLAN; `tag` gives the bits of a pushed tag that the
manual does not state (TPID in bits 31:16, PCP and DEI in bits 15:12). -/
def editFrame (s : State) (slot smac r tag : Nat) (p : Parsed) (bs : List Nat) : List Nat :=
  let bs := match ttlAt p with
    | some k =>
      if bit r 37 then
        let b := putByte bs k (byteAt bs k + 255)
        if p.outerRole = 1 then fixChecksum b p.outerOff else b
      else bs
    | none => bs
  let bs := putBytes bs 0 (toBytes 6 (bits r 52 48))
  let bs := if bit r 36 then putBytes bs 6 (toBytes 6 smac) else bs
  let tagged := isTagged (altTpid s slot) bs
  match bits r 50 2 with
  | 1 => bs.take 12 ++ toBytes 4 (bits tag 16 16 * 65536 + bits tag 12 4 * 4096 + bits r 38 12) ++ bs.drop 12
  | 2 =>
    if tagged then
      let v := byteAt bs 14 / 16 * 4096 + bits r 38 12
      putBytes bs 14 [v / 256, v % 256]
    else bs
  | 3 => if tagged then bs.take 12 ++ bs.drop 16 else bs
  | _ => bs

/-- The frame an item leaves as: its bytes with the edits of its decision, and outer DEI set where its policer says so
(R213, R263). -/
def outBytes (s : State) (it : Item) : List Nat :=
  let bs := match it.decision with
    | some (.forward _ _ _ _ nh tag) =>
      if 0 < nh then editFrame s it.slot it.smac nh tag (it.parsed.getD {}) it.bytes else it.bytes
    | _ => it.bytes
  if it.dei ∧ isTagged (altTpid s it.slot) bs then putByte bs 14 (byteAt bs 14 ||| 16) else bs

/-- The item as one of its copies leaves: a copy beside the forwarded one carries the frame unedited to its own destination (R223, log
entry 131). -/
def copyItem (s : State) (c : Copy) : Item :=
  let it := s.item c.item
  if c.extra then { it with decision := some (.forward c.dest c.cls c.aid it.vport 0 0), dei := false } else it

end Sys2Proof.Machine
end

