-- ==== Sys2Proof/Machine/StampOps.lean ====
section
/-!
DEFINITION. Stamps in frames ("Time, timestamps and timed launch") and the system header of a host port ("Host lanes and Ethernet ports").
-/
namespace Sys2Proof.Machine

open Sys2Proof

/-- The offset of an IEEE 1588 message in a frame (R121): EtherType 0x88F7 after up to two tags, or UDP to port 319 over
IPv4 or IPv6. -/
def ptpAt (bs : List Nat) : Option Nat :=
  let et (k : Nat) : Nat := byteAt bs k * 256 + byteAt bs (k + 1)
  let tag (t : Nat) : Bool := t == 0x88A8 || t == 0x8100
  let k := if tag (et 12) then (if et 16 = 0x8100 then 20 else 16) else 12
  if et k = 0x88F7 then some (k + 2)
  else if et k = 0x0800 then
    let ihl := byteAt bs (k + 2) % 16 * 4
    if byteAt bs (k + 11) = 17 ∧ et (k + 2 + ihl + 2) = 319 then some (k + 2 + ihl + 8) else none
  else if et k = 0x86DD then
    if byteAt bs (k + 8) = 17 ∧ et (k + 42 + 2) = 319 then some (k + 50) else none
  else none

/-- An event message: messageType 0 to 3 (R121). -/
def ptpEvent (bs : List Nat) : Bool :=
  match ptpAt bs with
  | some k => decide (k < bs.length ∧ byteAt bs k % 16 < 4)
  | none => false

/-- The time of a port's stamps (R120): service time, or a domain. -/
def stampTime (x : Nat) (s : State) : Nat :=
  match s.get .TIME_PORT_STAMP_DOMAIN x with
  | 1 => domainAt (s.domain 0) s.now
  | 2 => domainAt (s.domain 1) s.now
  | _ => serviceTime s

/-- The receive stamp of a frame on port slot x (R121). -/
def rxStampOf (x : Nat) (bs : List Nat) (s : State) : Option Nat :=
  if s.isSet .TIME_PORT_STAMP_RX x ∧ ptpEvent bs then
    some (shortStamp (timeAdd (stampTime x s) (if x < 32 then psUnits (s.getI .TIME_PORT_INGRESS_ADJ x) else 0)))
  else none

/-- The one's-complement update of a 16-bit checksum for a change of bytes (R122). -/
def updateSum (old : Nat) (was is_ : List Nat) : Nat :=
  65535 - onesSum (toBytes 2 (65535 - old) ++ was.map (fun b => 255 - b) ++ is_)

/-- One-step insertion (R122) of a transmit time t: into a Sync, ORIGIN (1) writes originTimestamp and adds the fraction to
correctionField; into an event message, RESIDENCE (2) adds the time since reception; the UDP checksum follows. -/
def oneStep (stamp t : Nat) (rx : Option Nat) (bs : List Nat) : List Nat :=
  match ptpAt bs with
  | none => bs
  | some k =>
    if (if stamp = 1 then 1 else 4) ≤ byteAt bs k % 16 then bs else
    let cf := toSigned 64 (field bs (k + 8) 8)
    let add : Int := if stamp = 1 then ((t % uNs : Nat) : Int) else
      (match rx with | some r => timeDiff t (shortTime r t) | none => 0)
    let bs1 := putBytes bs (k + 8) (toBytes 8 (ofSigned 64 (cf + add)))
    let bs2 := if stamp = 1 then putBytes bs1 (k + 34) (toBytes 6 (t / uS) ++ toBytes 4 (t % uS / uNs)) else bs1
    let udp : Option Nat := if field bs (k - 6) 2 = 319 ∧ 34 ≤ k ∧ field bs (k - 2) 2 ≠ 0 then some (k - 2) else none
    match udp with
    | some u =>
      let c := updateSum (field bs u 2) ((bs.drop (k + 8)).take 36) ((bs2.drop (k + 8)).take 36)
      putBytes bs2 u (toBytes 2 (if c = 0 then 65535 else c))
    | none => bs2

/-- The transmit time of a frame that starts now on a port (R120). -/
def txTime (s : State) (x at_ : Nat) : Nat :=
  timeAdd (stampTime x { s with now := at_ }) (if x < 32 then psUnits (s.getI .TIME_PORT_EGRESS_ADJ x) else 0)

/-- Bytes of the system header a port sends and takes (R167). -/
def sysHdr (s : State) (x : Nat) : Nat := if s.isSet .PORT_CFG_SYSHDR_EN x then 16 else 0

/-- The virtual port of an item's forwarding result (Tables 6.7, 8.4). -/
def outVport (it : Item) : Nat :=
  match it.decision with
  | some (.forward _ _ _ vport _ _) => vport
  | _ => it.vport

/-- The 16-byte header a port sends with a frame (Table 6.7). -/
def txHeader (s : State) (it : Item) (c : Copy) : List Nat :=
  if s.isSet .PORT_CFG_SYSHDR_EN c.dest then
    let line := match it.origin with | .line _ _ => true | _ => false
    [16, it.slot, c.cls * 32 + b2n it.rxStamp.isSome * 16 + b2n line * 8, 0] ++ toBytes 2 (outVport it) ++ [0, 0] ++
      toBytes 8 (it.rxStamp.getD 0)
  else []

/-- A frame's bytes as they leave on port slot x, a one-step stamp of time t inserted where one is asked for (R122). -/
def stamped (s : State) (it : Item) (t : Nat) : List Nat :=
  let bs := outBytes s it
  if it.stamp = 1 ∨ it.stamp = 2 then oneStep it.stamp t it.rxStamp bs else bs

end Sys2Proof.Machine
end

