-- ==== Sys2Proof/Machine/TestOps.lean ====
section
/-! DEFINITION. What the test block does inside other units' steps (R415, R418, R421): loopbacks, checkers, injections. -/
namespace Sys2Proof.Machine

open Sys2Proof

/-- The loopback point in force on a line port (Table 17.1), or none. -/
def lineLooped (n : Nat) (s : State) : Bool :=
  bit (s.get .TEST_LOOP_LINE_LINE_ELEC) n || bit (s.get .TEST_LOOP_LINE_LINE_DIGITAL) n

/-- A host slot's transmit data comes back as its receive data: MAC, PCS, or near PMA on its first lane (Table 17.1). -/
def hostLooped (x : Nat) (s : State) : Bool :=
  bit (s.get .TEST_LOOP_LANE_MAC (x / 8)) (x % 8) || bit (s.get .TEST_LOOP_LANE_PCS (x / 8)) (x % 8) ||
    bit (s.get .TEST_LOOP_LANE_PMA_NEAR (x / 8)) (x % 8)

/-- The register of PRBS31 after a further bit, its newest in bit 0: x^31 + x^28 + 1 (log entry 53). -/
def prbs31Step (r : Nat) : Nat := 2 * r % 2 ^ 31 + (bits r 30 1 + bits r 27 1) % 2

/-- The next n bytes of a PRBS31, each bit-first from its most significant bit. -/
def prbs31Bytes : Nat → Nat → List Nat
  | 0, _ => []
  | n + 1, r => let r := (List.range 8).foldl (fun r _ => prbs31Step r) r; r % 256 :: prbs31Bytes n r

/-- A generator's payload of n bytes (R417, Table 17.7): PRBS31, incrementing bytes, or FILL. -/
def testPayload (g seq n : Nat) (s : State) : List Nat :=
  let start := (Config.testStart (s.get .TEST_GEN_PATTERN g) g seq).toNat
  match s.get .TEST_GEN_PATTERN g with
  | 0 => prbs31Bytes n (start % (2 ^ 31 - 1) + 1)
  | 1 => (List.range n).map (fun k => (start + k) % 256)
  | _ => List.replicate n (s.get .TEST_GEN_FILL g)

/-- The bytes of a generator's frame (R417): addresses, EtherType, test header, payload; `len` excludes the FCS. -/
def testFrame (g seq len : Nat) (s : State) : List Nat :=
  toBytes 6 (s.get .TEST_GEN_DMAC g) ++ toBytes 6 0 ++ toBytes 2 (s.get .TEST_GEN_ETYPE g) ++ [g, 0, 0, 0, 0, 0, 0, 0] ++
    toBytes 8 seq ++ testPayload g seq (len - 30) s

/-- A checker's counter rises (R37, R419). -/
def chkBump (f : Fld) (n c : Nat) (s : State) : State := s.set f (min (s.get f c + n) ctrMax) c

/-- One checker counts a frame that it takes (R418). -/
def checkOne (bs : List Nat) (s : State) (c : Nat) : State :=
  let g := s.get .TEST_CHK_GEN c
  let seq := field bs 22 8
  let e := Tab.get 0 s.test.expect c + 1
  let s := if seq < e then chkBump .TEST_CHK_REORDER 1 c s
    else
      let s := if e < seq then chkBump .TEST_CHK_LOST (seq - e) c s else s
      chkBump .TEST_CHK_BYTES bs.length c (chkBump .TEST_CHK_FRAMES 1 c s)
  let s := if bs.drop 30 ≠ (testFrame g seq bs.length s).drop 30 then chkBump .TEST_CHK_PAYLOAD_ERR 1 c s else s
  { s with test := { s.test with expect := Tab.put 0 s.test.expect c (max e (seq + 1) - 1) } }

/-- CHECKER_FRAME (R418): every running checker of a point and slot takes a frame of its EtherType and generator. -/
def checkFrame (point slot : Nat) (bs : List Nat) (s : State) : State :=
  ((List.range 8).filter (fun c => s.isSet .TEST_CHK_RUN c && s.get .TEST_CHK_POINT c == point && s.get .TEST_CHK_SLOT c == slot &&
    field bs 12 2 == s.get .TEST_CHK_ETYPE c && bs.getD 14 256 == s.get .TEST_CHK_GEN c)).foldl (checkOne bs) s

/-- An injection target's opportunity (R421): whether an error is injected, and the state with it counted. -/
def inject (t target : Nat) (s : State) : Bool × State :=
  let left := s.get .TEST_INJECT_REMAINING t
  if left ≠ 0 ∧ s.get .TEST_INJECT_TARGET t = target then
    let s := (s.set .TEST_INJECT_REMAINING (left - 1) t).set .TEST_INJECTED_COUNT (min (s.get .TEST_INJECTED_COUNT t + 1) ctrMax) t
    (true, s.when (left == 1) (fun s => s.set .TEST_STATUS_INJECT_ARMED (withBit (s.get .TEST_STATUS_INJECT_ARMED) t false)))
  else (false, s)

end Sys2Proof.Machine
end

