-- ==== Sys2Proof/Machine/PathOps.lean ====
section
/-!
DEFINITION. The packet path's shared operations ("Speculation and the release rule"): release behaviour, decisions,
policing, admission, confirmation and failure of an item, retraction, exceptions.
-/
namespace Sys2Proof.Machine

open Sys2Proof

/-- The release behaviour in force (Table 5.2): 0 ASSURED, 1 BALANCED, 2 SWIFT. -/
def behaviour (s : State) : Nat := s.get .SW_RELEASE_BEHAVIOUR

/-- MAC rate of a host port in bytes per µs, by its type (Table 6.1). -/
def macRate (s : State) (x : Nat) : Nat :=
  match s.get .PORT_CFG_TYPE x with
  | 1 => 25000 | 2 => 50000 | 3 => 100000 | 4 => 200000 | _ => 0

/-- Payload rate of a subcarrier in bytes per µs, by its format (Table 1.1). -/
def scRate (s : State) (n sc : Nat) : Nat :=
  match s.get .LINE_SC_FORMAT n sc with
  | 0 => 6250 | 1 => 12500 | 2 => 18750 | _ => 0

/-- The input colour of a policer (R262): 0 green, 1 yellow, 2 red. -/
def inputColour (s : State) (it : Item) (c : PolCfg) : Nat :=
  if !c.aware then 0
  else
    match c.src with
    | 1 => if isTagged (altTpid s it.slot) it.bytes && bit (byteAt it.bytes 14) 4 then 1 else 0
    | 2 =>
      let p := it.parsed.getD {}
      let dscp : Option Nat :=
        if p.outerRole = 1 then some (byteAt it.bytes (p.outerOff + 1) / 4)
        else if p.outerRole = 2 then
          some ((byteAt it.bytes p.outerOff % 16 * 16 + byteAt it.bytes (p.outerOff + 1) / 16) / 4)
        else none
      match dscp with
      | some d => min 2 (s.get .SCHED_DSCP_COLOUR (d / 32) (d % 32))
      | none => 0
    | _ => 0

/-- The counted length of an item at its policer (R260, R262). -/
def polLength (s : State) (it : Item) (c : PolCfg) : Nat := counted it.bytes.length (overhead s c.lenProf)

/-- The result a policer would give now (R135, R264). -/
def evalPolicer (s : State) (it : Item) (p : Nat) : PolResult × Nat × Nat :=
  let x := s.policer p
  let (col, tc, te) := polColour x (polLength s it x.cfg) (inputColour s it x.cfg)
  (polResult x.cfg col, tc, te)

/-- Commit (R135, R265): the result from the levels of this moment, with its debit and its counts; a refill of this cycle comes first
(R264). -/
def commitPolicer (k p : Nat) (s : State) : State × PolResult :=
  let s := refillDue s
  let it := s.item k
  let (r, tc, te) := evalPolicer s it p
  let b := polLength s it (s.policer p).cfg
  (s.setPolicer p (fun x => ({ x with tc := tc, te := te }).count r.colour b (r.action == 2)), r)

/-- The result as it bears on the decision (R263): DROP drops, FORWARD_CLASS sets the class, FORWARD_DEI the DEI. -/
def applyPolicer (r : PolResult) (it : Item) : Item :=
  let d := match it.decision, r.action with
    | some _, 2 => some Decision.drop
    | some (.forward dest _ aid vp nh tag), 1 => some (Decision.forward dest r.cls aid vp nh tag)
    | d, _ => d
  { it with decision := d, dei := r.action == 3 }

/-- An exception of a confirmed item (R193, R194): delivered where its bucket holds a packet, else dropped and counted. -/
def deliverException (k c : Nat) (s : State) : State :=
  let b := Tab.get {} s.cls.exc c
  if b.rate ≠ 0 ∧ 1000000 ≤ b.level then
    let b := { b with level := b.level - 1000000, dropping := false }
    (s.setCls (fun x => { x with exc := Tab.put {} x.exc c b, delivered := x.delivered ++ [(c, k)] })).inc .EXC_SENT c
  else
    let s := dropItem k (s.inc .EXC_DROP c)
    if b.dropping then s
    else
      let b := { b with dropping := true }
      (s.setCls (fun x => { x with exc := Tab.put {} x.exc c b })).raise 0x0803 [c]

/-- The replay check of a confirmed envelope (R279): accepted, with the window moved, or a replay. -/
def replayAccept (w : ReplayWin) (pn : Nat) : Option ReplayWin :=
  if w.high < pn then some { high := pn, seen := (w.seen * 2 ^ (min (pn - w.high) 4096) + 1) % 2 ^ 4096 }
  else if w.high - pn < 4096 ∧ !(bit w.seen (w.high - pn)) then some { w with seen := withBit w.seen (w.high - pn) true }
  else none

/-- Counters that an item's confirmation releases (R142). -/
def releaseCounts (cs : List (Ctr × Nat × Nat × Nat)) (s : State) : State :=
  cs.foldl (fun s c => s.bump c.1 c.2.1 c.2.2.1 c.2.2.2) s

/-- A dropped or consumed item goes, with the copies that have not begun; one on a wire ends there. -/
def discardItem (k : Nat) (s : State) : State :=
  dropItem k (((copiesOf s k).filter (notYet s)).foldl (fun s c => dropCopy c s) s)

/-- What the confirmation of an item releases (R142, Table 5.3): counters, hit bits, rule hits, learn notice, the checkers
that watch its ingress slot (R418); then its decision acts: a drop, an exception, a consumer, or its copies enter the read-back accounts. -/
def onConfirmed (k : Nat) (s : State) : State :=
  let it := s.item k
  let s := releaseCounts (it.counts ++ it.admission) (s.setItem k (fun i => { i with counts := [], admission := [], hits := [], learn := none }))
  let s := it.hits.foldl (fun s h => emHit h s) s
  let s := match it.rule with
    | some r => s.setCls (fun c => { c with hits := Tab.put 0 c.hits r (min (Tab.get 0 c.hits r + 1) ctrMax) })
    | none => s
  let s := match it.learn with
    | some (key, moved, user) => postLearn key moved user it.slot it.vport s
    | none => s
  let s := checkFrame 0 it.slot it.bytes (it.flushed.foldl (fun s d => s.inc .SWD_FLUSH_FRAMES d) s)
  match it.decision with
  | some (.exception c) => deliverException k c s
  | some (.forward ..) => (copiesOf s k).foldl (fun s c => countCopy c s) s
  | _ => discardItem k s

/-- The confirmation of an item, its replay check first (R279): a replay is dropped. -/
def confirmItem (k : Nat) (s : State) : State :=
  let it := s.item k
  match it.origin, it.enc with
  | .line n _, some (_, idx, bc, pn) =>
    if s.isSet .CIPH_LINE_CFG_REPLAY_EN n then
      let w := n * 8 + b2n bc * 4 + idx
      match replayAccept (Tab.get {} s.cipher.replay w) pn with
      | some x => onConfirmed k { s with cipher := { s.cipher with replay := Tab.put {} s.cipher.replay w x } }
      | none =>
        let own := it.counts.filter (fun c => c.1 == .LSC_ENV_OWN || c.1 == .CIPHP_RX_OPENED)
        discardItem k ((releaseCounts own s).inc .CIPHP_RX_REPLAY n)
    else onConfirmed k s
  | _, _ => onConfirmed k s

/-- A point is met: the item is confirmed once none is left. -/
def passPoint (k p : Nat) (s : State) : State :=
  let s := s.setItem k (fun it => { it with points := it.points.filter (· ≠ p) })
  if isConfirmed (s.item k) then confirmItem k s else s

/-- What a host port sends of a copy before its FCS (R143, R167). -/
def wireBytes (s : State) (c : Copy) : List Nat :=
  let it := copyItem s c
  txHeader s it c ++ stamped s it c.sentTime

/-- Bytes of a copy that a host port has sent by now, its FCS included. -/
def sentBytes (s : State) (c : Copy) : Nat :=
  min (c.len + sysHdr s c.dest + 4) (ceilDiv ((s.now - c.begunAt) * macRate s c.dest) uUs)

/-- What a host port has sent of a frame that is retracted now (R143): bytes up to the next 8-byte boundary or the end of the frame, zeros
up to 60, and the inverted FCS of all of them. -/
def retractedBytes (s : State) (c : Copy) : List Nat :=
  let bs := (wireBytes s c).take (ceilDiv (sentBytes s c) 8 * 8)
  let bs := bs ++ List.replicate (60 - bs.length) 0
  bs ++ (toBytes 4 (crc32 bs)).map (255 - ·)

/-- Bytes of a copy's LENGTH upstream: its body, sealed where its AID is (R259, R277). -/
def upLength (s : State) (n : Nat) (c : Copy) : Nat := c.len + (if bit (s.get .CIPH_LINE_UP_ENC_AID_MASK n) c.aid then 24 else 0)

/-- Bytes of a copy's upstream envelope: its header, its body, and the padding (R59, R259). -/
def upSpan (s : State) (n : Nat) (c : Copy) : Nat := spanOf (upLength s n c)

/-- A frame on a host port ends early with `bytes` of it sent (R143, R161, R172); the inter-packet gap follows (R168). -/
def endOnPort (k : Nat) (bytes : List Nat) (s : State) : State :=
  let c := s.copy k
  let x := c.dest
  let gap := c.begunAt + (bytes.length + 12) * uUs / max 1 (macRate s x)
  let s := s.when (!(hostLooped x s)) (fun s => s.emit (.cutFrame x c.item bytes))
  let s := (s.setSw (fun w => { w with sending := Tab.put 0 w.sending x 0 })).setHp x (fun h => { h with holdUntil := gap })
  markIdle x (s.setCopy k (fun c => { c with phase := 3, sent := bytes.length, ok := false, old := false }))

/-- A copy that has begun on a host port or in a burst is taken back there (R143, R144): what it has sent is its `sent`. -/
def endOnWire (k : Nat) (s : State) : State :=
  let c := s.copy k
  if c.dest < 32 then endOnPort k (retractedBytes s c) s
  else (abortPlaced (c.dest - 32) k (countStart k s)).emit (.abort (c.dest - 32) c.item)

/-- A copy being sent speculatively is retracted on its egress slot, and its bytes are counted (R143, R144, R146). -/
def retractCopy (k : Nat) (s : State) : State :=
  let s := endOnWire k s
  s.bump .SWS_RETRACT_BYTES (s.copy k).sent (s.copy k).dest

/-- The retraction counter of a point (R146). -/
def retractCtr (p : Nat) : Option Ctr :=
  match p with
  | 1 => some .SWS_RETRACT_C1
  | 3 => some .SWS_RETRACT_C3
  | 5 => some .SWS_RETRACT_C5
  | _ => none

/-- Copies of an item that are being sent and have begun. -/
def begunCopies (s : State) (k : Nat) : List Nat := (copiesOf s k).filter (isBegun s)

/-- The copies of a failed item: those begun are retracted and counted, the others dropped; marks are removed (R138, R143,
R146, R232). -/
def takeBack (k p : Nat) (s : State) : State :=
  let begun := begunCopies s k
  let s := begun.foldl (fun s c =>
    let x := (s.copy c).dest
    let s := match retractCtr p with | some r => s.inc r x | none => s
    retractCopy c s) s
  ((copiesOf s k).filter (notYet s)).foldl (fun s c => dropCopy c s) s

/-- An item fails at a point (R134, R142): only that point's counter counts it, and the frames of a flush that took it. -/
def failItem (k p : Nat) (count : List (Ctr × Nat × Nat)) (s : State) : State :=
  let it := s.item k
  let s := count.foldl (fun s c => s.inc c.1 c.2.1 c.2.2) s
  let s := it.flushed.foldl (fun s d => s.inc .SWD_FLUSH_FRAMES d) s
  dropItem k (takeBack k p s)

/-- An item bound for, or inside, a unit or cluster under recovery is discarded (R395): counted once its confirmation is
known (R142). -/
def recoveryDrop (k : Nat) (s : State) : State :=
  let s := ((copiesOf s k).filter (notYet s)).foldl (fun s c => dropCopy c s) s
  passPoint k 0 (s.setItem k (fun it =>
    { it with parsed := some (it.parsed.getD {}), decision := some .drop, policer := none, hits := [],
              counts := it.counts ++ [(.FLT_RECOVERY_DISCARD, 1, 0, 0)], points := it.points.filter (fun p => p != 4 && p != 5) }))

/-- Where an admitted frame's cells lie (R225): cells in HBM of n arriving cells; those that find the HBM area full stay on die (log
entry 131). -/
def hbmPart (s : State) (q n : Nat) : Nat :=
  let free := 1048576 - sramUsed s
  min (hbmArea s - hbmUsed s)
    (if free < s.get .SW_SPILL_GLOBAL_FREE ∨ (s.queue q).spilled then n
     else
       let depth := queueDepth s q
       let room := s.get .SW_SPILL_QUEUE_CELLS - depth
       n - min n (min room (free + 1 - s.get .SW_SPILL_GLOBAL_FREE)))

/-- Candidates of a push-out for an arrival of a class at a destination (R231), in the order they are taken. -/
def pushCandidates (s : State) (d cls : Nat) : List Nat :=
  let ok (k : Nat) (c : Copy) : Bool :=
    let it := s.item c.item
    c.dest == d && decide (c.cls < cls) && c.phase == 0 && c.markedBy.isNone && isConfirmed it && hasItem s c.item &&
      !(match c.ing with | some (x, p) => s.isSet .SW_ING_LOSSLESS (x * 8 + p) | none => false) &&
      !(decide (d < 36) && s.isSet .TIME_PORT_TIMED_EN d && c.cls == s.get .TIME_PORT_TIMED_Q d) && decide (0 < k)
  let all := s.copies.filter (fun p => ok p.1 p.2)
  let ofClass (c : Nat) : List Nat :=
    let qs := (((all.filter (fun p => p.2.cls == c)).map (fun p => p.2.queue)).dedup).insertionSort
      (fun a b => queueDepth s b < queueDepth s a ∨ (queueDepth s a = queueDepth s b ∧ a ≤ b))
    qs.flatMap (fun q => ((s.queue q).copies.reverse).filter (fun k => all.any (fun p => p.1 == k)))
  (List.range 8).flatMap ofClass

/-- Whole frames taken until their cells reach `need`; none when all together are too few (R231). -/
def takeUntil (s : State) : List Nat → Nat → Option (List Nat)
  | _, 0 => some []
  | [], _ + 1 => none
  | k :: r, need + 1 => (takeUntil s r (need + 1 - (s.copy k).cells)).map (k :: ·)

/-- A copy that admission drops is counted once its item's confirmation is known (R230). -/
def dropAtAdmission (k : Nat) (c : Ctr) (d : Nat) (s : State) : State :=
  if isConfirmed (s.item k) then s.inc c d
  else s.setItem k (fun it => { it with admission := it.admission ++ [(c, 1, d, 0)] })

/-- A copy enters its queue (R227): its cells are charged, and where its item is confirmed the read-back accounts take it. A further copy
shares the cells of the first, where they lie (R223). -/
def enqueue (k q charged : Nat) (c : Copy) (marks : List Nat) (s : State) : State :=
  let it := s.item k
  let ing : Option (Nat × Nat) := it.prio.map (fun p => (it.slot, p))
  let first := (copiesOf s k).head?
  let h := match first with | some o => (s.copy o).hbm | none => hbmPart s q c.cells
  let new : Copy := { c with queue := q, ing := ing, charged := charged, hbm := h, spilt := if first.isSome then 0 else h }
  let id := s.nextCopy
  let s := { s with copies := Tab.put {} s.copies id new, nextCopy := id + 1 }
  let s := s.setQueue q (fun x => { x with copies := x.copies ++ [id], spilled := x.spilled || h != 0 })
  let s := s.when first.isNone (fun s => s.set .SW_SHARED_FREE (s.get .SW_SHARED_FREE - c.cells))
  let s := marks.foldl (fun s m => s.setCopy m (fun c => { c with markedBy := some id })) s
  if isConfirmed it then countCopy id s else s

/-- A frame whose launch time lies more than MAX_AHEAD beyond service time (R127). -/
def tooFarAhead (s : State) (d cls : Nat) (it : Item) : Bool :=
  match it.launch with
  | some (l, _) =>
    let t := serviceTime s
    decide (d < 36) && s.isSet .TIME_PORT_TIMED_EN d && cls == s.get .TIME_PORT_TIMED_Q d &&
      decide (((s.get .TIME_PORT_MAX_AHEAD d * uMs : Nat) : Int) < timeDiff (shortTime l t) t)
  | none => false

/-- Admission of one copy of an item (R223, R227 to R232): the rules in their order. `c` says where it goes and what it holds. -/
def admitCopy (k : Nat) (c : Copy) (s : State) : State :=
  let it := s.item k
  let d := c.dest
  if tooFarAhead s d c.cls it then dropAtAdmission k .TIME_TIMED_AHEAD_DROP d s
  else
    match queueFor s d c.cls c.aid with
    | none => s
    | some q =>
      let r := s.queue q
      let n := c.cells
      let depth := queueDepth s q
      let shared := (depth + n - r.min) - (depth - r.min)
      let lossless : Option Nat := it.prio.bind (fun p =>
        if it.slot < 32 ∧ s.isSet .SW_ING_LOSSLESS (it.slot * 8 + p) then some p else none)
      if s.isSet .SW_DEST_STATE_FLUSHING d then
        if isConfirmed it then s.inc .SWD_FLUSH_FRAMES d else s.setItem k (fun i => { i with flushed := i.flushed ++ [d] })
      else if d < 32 ∧ (s.isSet .SW_DEST_STATE_DOWN_DROPPING d ∨ s.get .PORT_STATUS_LINK_STATE d = 0) then dropAtAdmission k .SWD_DOWN_DROP d s
      else
        match lossless with
        | some p =>
          let i := it.slot * 8 + p
          if ingCells s it.slot p false + n ≤ s.get .SW_ING_XOFF i + s.get .SW_ING_HEADROOM i ∧
              n ≤ s.get .SW_SHARED_FREE then enqueue k q shared c [] s
          else dropAtAdmission k .SWD_HEADROOM_DROP d s
        | none =>
          if r.max < depth + n then dropAtAdmission k .SWD_QMAX_DROP d s
          else if depth + n ≤ r.min then enqueue k q shared c [] s
          else if s.get .SW_SHARED_FREE < n + s.get .SW_SHARED_RESERVE then dropAtAdmission k .SWD_GLOBAL_DROP d s
          else if sharedUsed s d + shared ≤ s.get .SW_DEST_ALLOC_SHARED_LIMIT d then enqueue k q shared c [] s
          else
            match takeUntil s (pushCandidates s d c.cls) shared with
            | some ms => enqueue k q shared c ms s
            | none => dropAtAdmission k .SWD_SHARED_DROP d s

/-- The copy of an item for a destination: the frame as it leaves there, and its cells (R222). -/
def newCopy (s : State) (k d cls aid : Nat) (extra : Bool) : Copy :=
  let c : Copy := { item := k, dest := d, cls := cls, aid := aid, extra := extra }
  let n := (outBytes s (copyItem s c)).length
  { c with len := n, cells := cellsOf n }

/-- Admission of a decided frame, and of the `more` copies that are made of it (R223): each on its own; copies beside the forwarded one
are made from the confirmed item (Table 5.3). An item whose every copy was dropped goes. -/
def admitItem (k : Nat) (more : List CopyTo) (s : State) : State :=
  match (s.item k).decision with
  | some (.forward d cls aid _ _ _) =>
    let s := admitCopy k (newCopy s k d cls aid false) s
    let more := if isConfirmed (s.item k) then more.take 63 else []
    closeItem k (more.foldl (fun s m => admitCopy k (newCopy s k m.dest m.cls m.aid true) s) s)
  | _ => s

/-- The action word's decision (Table 7.3), with the lookup's result (R199, R213): decision, counters, hit key, whether HBM
reads are outstanding. -/
def decide_ (s : State) (it : Item) (p : Parsed) (klen : Nat) (readExt : Bool) : Decision × Found :=
  let a := it.action
  match bits a 60 4 with
  | 0 =>
    let f := lookup s it.lprof it.key klen it.vport readExt
    match f.kind with
    | 0 => (.drop, f)
    | 1 => (.exception f.arg, f)
    | _ =>
      let r := Tab.get 0 s.tables.t.nextHop f.arg
      let expired : Bool := bit r 37 && (match ttlAt p with | some k => decide (byteAt it.bytes k ≤ 1) | none => false)
      if expired then (.exception 8, f)
      else (.forward (bits r 121 6) (if bit a 38 then bits a 39 3 else bits r 118 3) (bits r 112 6) (bits r 100 12)
        r s.free, f)
  | 1 => (.drop, { kind := 0, counts := [.PIPE_RULE_DROP] })
  | 2 => (.exception (bits a 54 6), { kind := 1 })
  | _ => (.forward (bits a 42 6) (bits a 39 3) (bits a 13 6) it.vport 0 0, { kind := 2 })

/-- The source MAC address that a decision's next hop writes (Table 8.4). -/
def smacOf (d : Decision) (s : State) : Nat :=
  match d with
  | .forward dest .. => s.get .TBL_SMAC_MAC dest
  | _ => 0

/-- The decision is taken: what it counts and hits waits for confirmation; C4 applies while its HBM reads are outstanding,
and C5 where a policer acts, which under ASSURED commits at once (R134, R135, R137). -/
def takeDecision (k : Nat) (d : Decision) (f : Found) (waiting : Bool) (s : State) : State :=
  let pushTag : Bool := match d with
    | .forward _ _ _ _ nh _ => bits nh 50 2 == 1
    | _ => false
  let s := if pushTag then s.took else s
  let s := s.setItem k (fun i =>
    let cs := f.counts.map (fun c => (c, 1, if c == .PIPE_RULE_DROP then i.cluster else 0, 0))
    let pol : Option Nat := if bit i.action 19 ∧ i.rule.isSome ∧ d ≠ .drop then some (bits i.action 20 18) else none
    { i with decision := some d, base := some d, policer := pol, smac := smacOf d s,
             counts := if waiting then i.counts else i.counts ++ cs, hits := if waiting then [] else f.hit.toList,
             points := i.points.filter (fun p => p != 5 && p != 4) ++ (if waiting then [4] else []) })
  let s :=
    match (s.item k).policer with
    | none => s
    | some p =>
      if behaviour s = 0 ∧ (s.item k).points.all (· == 0) then
        let (s, r) := commitPolicer k p s
        s.setItem k (fun i => applyPolicer r { i with provisional := some r })
      else
        let r := (evalPolicer s (s.item k) p).1
        s.setItem k (fun i => applyPolicer r { i with provisional := some r, points := i.points ++ [5] })
  passPoint k 0 s

/-- Frames of a class on a slot are timed (R125, R126). -/
def timedClass (s : State) (x cls : Nat) : Bool := decide (x < 36) && s.isSet .TIME_PORT_TIMED_EN x && cls == s.get .TIME_PORT_TIMED_Q x

/-- The length of a copy on its egress wire (R140). -/
def wireLength (s : State) (c : Copy) : Nat :=
  if c.dest < 32 then c.len + sysHdr s c.dest + 4 else if c.dest < 36 then upSpan s (c.dest - 32) c else c.len + 4

/-- A frame that begins on a host port or in a burst while unconfirmed may do so (R139): SWIFT, C4 and C2 not outstanding,
the slot's SPEC_EN bit, none of R150, no receive timestamp that would travel with it (R124), and the rate condition of R140. `rOut` in bytes
per µs, `wire` the egress length. -/
def maySpeculate (s : State) (it : Item) (x cls rOut wire : Nat) : Bool :=
  behaviour s == 2 && !it.noSpec && !(it.points.contains 4) && !(it.points.contains 0) && !it.sealed && it.enc.isNone &&
    bit (s.get .SW_RELEASE_SPEC_EN) x && !it.held && !(timedClass s x cls) && (it.stamp == 0 || it.stamp == 3) &&
    !(it.rxStamp.isSome && decide (x < 32) && s.isSet .PORT_CFG_SYSHDR_EN x) &&
    (if rOut ≤ it.rate ∨ it.rate = 0 then true
     else decide (ceilDiv (wire * (rOut - it.rate)) rOut ≤ received s it))

/-- The head of a queue that could be scheduled now (R254): confirmed or releasable, not marked, its first min(n, 8) cells on
die (R226), and `fits`. -/
def headCand (s : State) (x rOut : Nat) (fits : Copy → Item → Bool → Bool) (q : Nat) (r : Queue) : Option Cand :=
  match r.copies.head? with
  | none => none
  | some c =>
    let cp := s.copy c
    let it := s.item cp.item
    let conf := isConfirmed it
    if cp.markedBy.isNone && decide (cp.hbm + min cp.cells 8 ≤ cp.cells) && (s.node 5 q).mapped && fits cp it conf &&
        (conf || (decide (x < 36) && maySpeculate s it x cp.cls rOut (wireLength s cp))) then some ⟨q, r.cls, cp.len⟩
    else none

/-- The queues of a destination with work (R254). -/
def workAt (s : State) (d rOut : Nat) (fits : Copy → Item → Bool → Bool) : List Cand :=
  (s.sw.queues.filter (fun p => p.2.dest == d)).filterMap (fun p => headCand s d rOut fits p.1 p.2)

/-- A dequeued frame has ended: its reservation is released and the buckets are debited what was sent (R147, R257), its cells return (R227);
a frame sent in full is counted (R266). -/
def debitFrame (k : Nat) (s : State) : State :=
  let c := s.copy k
  let oh : Int := (c.reserved.getLast?.map (·.2)).getD 0
  let s := release c.len c.ok c.sent c.reserved s
  let s := if c.ok then (s.inc .SCHED_DEQ_FRAMES c.dest).bump .SCHED_DEQ_BYTES (counted c.len oh) c.dest else s
  closeItem c.item (freeCopy k s)

/-- The buckets as the eligibility tests of a cycle find them (R258): refilled first, then debited for every frame that has ended. -/
def bucketsNow (s : State) : State :=
  let s := refillDue s
  ((s.copies.filter (fun p => p.2.phase == 3)).map (·.1)).foldl (fun s k => debitFrame k s) s

/-- The head of a chosen queue is dequeued and its length reserved on its path (R256). -/
def dequeue (q : Nat) (s : State) : State × Option Nat :=
  let r := s.queue q
  match r.copies with
  | [] => (s, none)
  | c :: rest =>
    let path := pathNodes s q r.cls
    let s := reserve (s.copy c).len path s
    let s := s.setQueue q (fun x => { x with copies := rest })
    let s := s.setCopy c (fun x => { x with phase := 1, reserved := path })
    (s, some c)

/-- A retracted copy stands for its item no more: only the debit of what it sent is left of it (R147). -/
def detach (c : Nat) (s : State) : State :=
  s.setCopy c (fun x => { x with item := 0, cells := 0, charged := 0, hbm := 0, ing := none, counted := true })

/-- A retracted frame that is to be sent again returns to the head of its queue (R135, R145): a new copy of it. -/
def requeue (k : Nat) (c : Nat) (s : State) : State :=
  let old := s.copy c
  let id := s.nextCopy
  let new : Copy := { old with phase := 0, sent := 0, spec := false, startCounted := false, reserved := [], markedBy := none }
  let s := { s with copies := Tab.put {} s.copies id new, nextCopy := id + 1 }
  (detach c (s.setItem k (fun it => { it with noSpec := true }))).setQueue old.queue (fun q => { q with copies := id :: q.copies })

/-- A retracted frame that is to be sent again to another place (R135): its cells return to the accounts, and it is admitted anew. -/
def readmit (c : Nat) (s : State) : State :=
  let old := s.copy c
  refreshAccounts old (returnCells old (detach c s))

/-- The instant the first FCS byte of a host frame is due (R145): its bytes, and its system header where one is sent. -/
def fcsDue (s : State) (c : Copy) : Nat := c.begunAt + (c.len + sysHdr s c.dest) * uUs / max 1 (macRate s c.dest)

/-- The instant the last byte of an upstream copy's LENGTH is due (R145): within its place in its burst. -/
def lengthDue (s : State) (k : Nat) (c : Copy) : Nat :=
  match burstPlace (c.dest - 32) k s with
  | some (b, p) => b.timeAt (p.pos + 8 + p.len - 1)
  | none => s.now

/-- A speculative copy's deadline lies before this cycle, its confirmation still outstanding (R145): one known in the same cycle is in
time. -/
def pastDeadline (s : State) (k : Nat) : Bool :=
  let c := s.copy k
  isBegun s k && c.spec && !(isConfirmed (s.item c.item)) &&
    decide ((if c.dest < 32 then fcsDue s c else lengthDue s k c) + uTclk ≤ s.now)

/-- A copy past its deadline is retracted, counted, and sent again once confirmed (R145). -/
def retractLate (k : Nat) (s : State) : State :=
  if pastDeadline s k then
    let c := s.copy k
    requeue c.item k (retractCopy k (s.inc .SWS_RETRACT_LATE c.dest))
  else s

/-- A result comes too late for the copies of an item that are past their deadline (R145). -/
def lateCopies (k : Nat) (s : State) : State := (copiesOf s k).foldl (fun s c => retractLate c s) s

end Sys2Proof.Machine
end

