-- ==== Sys2Proof/Machine/CiphOps.lean ====
section
/-!
DEFINITION. The cipher clusters' shared operations ("Cipher engines and keys"): line keys and their labels, the cache of
derived keys, clusters and their jobs, packet numbers, key pages.
-/
namespace Sys2Proof.Machine

open Sys2Proof

/-- The cipher clusters' update. -/
def State.setCipher (s : State) (f : CipherState → CipherState) : State := { s with cipher := f s.cipher }

/-- A tree secret, a key slot, and the update of a slot. -/
def State.secret (s : State) (n : Nat) : TreeSecret := Tab.get {} s.cipher.secrets n
def State.keySlot (s : State) (page k : Nat) : KeySlot := Tab.get {} s.cipher.slots (page * 256 + k)

/-- GEN and SLOTS_USED of a page after a change of its slots (R289). -/
def pageChanged (page : Nat) (s : State) : State :=
  let used := (s.cipher.slots.filter (fun p => p.1 / 256 == page && p.2.type != 0)).length
  s.setAll [(.CIPH_PAGE_SLOTS_USED, used), (.CIPH_PAGE_GEN, s.get .CIPH_PAGE_GEN page + 1)] page

/-- A slot takes a new content; PERSIST keeps it in the store (R288). SLOT_GEN is the page's GEN at the change. -/
def setKeySlot (page k : Nat) (v : KeySlot) (s : State) : State :=
  let s := s.setCipher (fun c => { c with slots := Tab.put {} c.slots (page * 256 + k) { v with gen := 0 } })
  let s := pageChanged page s
  let g := s.get .CIPH_PAGE_GEN page
  let w : KeySlot := if v.type = 0 then {} else { v with gen := g }
  let s := s.setCipher (fun c => { c with slots := Tab.put {} c.slots (page * 256 + k) w })
  s.setNand (fun n => { n with keys := Tab.put {} n.keys (page * 256 + k) (if v.persist then w else {}) })

/-- A page is cleared, persisted copies included (R290). -/
def pageClear (page : Nat) (s : State) : State :=
  let s := s.setCipher (fun c => { c with slots := c.slots.filter (fun p => p.1 / 256 ≠ page) })
  (pageChanged page (s.setNand (fun n => { n with keys := n.keys.filter (fun p => p.1 / 256 ≠ page) }))).raise 0x0C05 [page]

/-- The LINE label of R274: direction 0 downstream unicast, 1 downstream broadcast, 2 upstream. -/
def lineLabel (s : State) (n dir idx : Nat) : List Nat :=
  let id := if dir = 1 then [0, 0, 0, 0] else toBytes 2 (s.get .LINE_TREE_ID_TID n) ++ toBytes 2 (s.get .LINE_TREE_ID_EPOCH n)
  [1, 1, dir, idx % 4] ++ id ++ toBytes 8 (s.get .CIPH_LINE_KEYID_KEY_ID n idx) ++ toBytes 4 (s.frame n).systemId ++
    [(s.frame n).treeNo % 64] ++ List.replicate 11 0

/-- The current generation of a root (R276). -/
def rootGen (s : State) (r : RootRef) : Nat :=
  match r with
  | .tree n => (s.secret n).gen
  | .device => 0
  | .slot p k => (s.keySlot p k).gen

/-- A derived key is asked for (R276), for item `k` or, with 0, for none: a hit moves it to the newest place; a miss begins its
derivation. -/
def useDerived (r : RootRef) (label : List Nat) (k : Nat) (s : State) : State :=
  let e : CacheKey := ⟨r, rootGen s r, label⟩
  if s.cipher.cache.contains e then
    countFor k .CIPH_CACHE_HIT 0 (s.setCipher (fun c => { c with cache := c.cache.filter (· ≠ e) ++ [e] }))
  else
    let s := countFor k .CIPH_CACHE_MISS 0 s
    if s.cipher.deriving_.contains e then s else s.setCipher (fun c => { c with deriving_ := c.deriving_ ++ [e] })

/-- A line key (R277): derived from the port's tree secret under its label. -/
def lineKey (s : State) (n dir idx : Nat) : Nat := kdf (s.secret n).key (lineLabel s n dir idx)

/-- A downstream key is valid (R278). -/
def dnKeyValid (s : State) (n : Nat) (bc : Bool) (idx : Nat) : Bool :=
  s.isSet .CIPH_LINE_CFG_SECRET_VALID n &&
    (if bc then bit (s.get .CIPH_LINE_CFG_BC_VALID n) idx && (s.frame n).mapKnown
     else bit (s.get .CIPH_LINE_CFG_DN_VALID n) idx && s.isSet .LINE_TREE_STATE_IDENT_VALID n)

/-- NO_KEY, once per port, direction and index until the key becomes valid (R278, R280). -/
def noKey (n dir idx : Nat) (s : State) : State :=
  let k := n * 16 + dir * 4 + idx
  if s.cipher.noKey.contains k then s
  else (s.setCipher (fun c => { c with noKey := c.noKey ++ [k] })).raise 0x0C01 [n, dir, idx]

/-- A key that is valid re-arms its NO_KEY. -/
def keyFound (n dir idx : Nat) (s : State) : State :=
  s.setCipher (fun c => { c with noKey := c.noKey.filter (· ≠ n * 16 + dir * 4 + idx) })

/-- A cipher cluster takes jobs: powered, not held, not under L2 (R268). -/
def clusterServes (s : State) (c : Nat) : Bool := bit (s.get .CIPH_STATUS_CLUSTERS_ON) c && !(s.restarting (16 + c))

/-- Line jobs that a cluster holds. -/
def clusterLoad (s : State) (c : Nat) : Nat := (s.cipher.jobs.filter (fun j => j.cluster == c)).length

/-- What a cluster can hold now (R268, log entry 52). -/
def clusterRoom (s : State) (c : Nat) : Nat :=
  Config.cipherCapacity c (s.fault.running.filter (fun r => r.part == 16 + c && r.level == 1)).length

/-- The home cluster of a line port (R268); on the way to FRUGAL it is cluster n mod 2 once the port has no job in the cluster
to be gated (R385). -/
def homeCluster (s : State) (n : Nat) : Nat :=
  if s.mode = 4 ∨ (s.toFrugal ∧ s.cipher.jobs.all (fun j => !(j.port == n && j.cluster == n))) then n % 2 else n

/-- The powered cluster with the fewest jobs that has room, the lower-numbered on a tie (R268). -/
def leastCluster (s : State) : Option Nat :=
  ((List.range 4).filter (fun c => clusterServes s c && decide (clusterLoad s c < clusterRoom s c))).foldl
    (fun b c => match b with
      | none => some c
      | some x => if clusterLoad s c < clusterLoad s x then some c else b) (none : Option Nat)

/-- A job goes to a cluster: one that dozes wakes (R384). -/
def wakeCipher (c : Option Nat) (s : State) : State := match c with | some c => undoze (16 + c) s | none => s

/-- The cluster that takes a job of port n (R268): the home cluster below 3/4 of its room, else the least loaded. -/
def lineCluster (s : State) (n : Nat) : Option Nat :=
  let h := homeCluster s n
  if clusterServes s h ∧ 4 * clusterLoad s h < 3 * clusterRoom s h then some h
  else leastCluster s

/-- A downstream envelope of an encrypted frame is given to the clusters (R268, R277, R278): without a valid key, with PN 0,
or with no cluster to take it, it fails C2. -/
def startLineJob (n k : Nat) (s : State) : State :=
  match (s.item k).enc with
  | none => s
  | some (_, idx, bc, pn) =>
    let dir := b2n bc
    if !(dnKeyValid s n bc idx) then failItem k 2 [(.CIPHP_RX_AUTH_FAIL, n, 0)] (noKey n dir idx s)
    else
      let s := keyFound n dir idx s
      if pn = 0 then failItem k 2 [(.CIPHP_RX_AUTH_FAIL, n, 0)] s
      else
        match lineCluster s n with
        | none => failItem k 2 [(.CIPHP_RX_CIPHER_BUSY, n, 0)] s
        | some c =>
          let label := lineLabel s n dir idx
          let entry : CacheKey := ⟨.tree n, rootGen s (.tree n), label⟩
          let key := lineKey s n dir idx
          let s := wakeCipher (some c) (useDerived (.tree n) label k s)
          s.setCipher (fun x => { x with jobs := x.jobs ++ [(⟨c, n, k, entry, key⟩ : LineJob)] })

/-- A job has ended: a pinned entry that a flush waits for is emptied once no job uses it (R276). -/
def unpin (e : CacheKey) (s : State) : State :=
  if s.cipher.flushing.contains e ∧ s.cipher.jobs.all (fun j => j.entry ≠ e) then
    let s := s.setCipher (fun c => { c with cache := c.cache.filter (· ≠ e), flushing := c.flushing.filter (· ≠ e) })
    s.set .CIPH_STATUS_CACHE_FLUSHING (b2n (!s.cipher.flushing.isEmpty))
  else s

/-- The jobs of a cluster are discarded at its restart (R290): downstream envelopes fail C2. -/
def discardJobs (c : Nat) (s : State) : State :=
  let js := s.cipher.jobs.filter (fun j => j.cluster == c)
  let s := s.setCipher (fun x => { x with jobs := x.jobs.filter (fun j => j.cluster ≠ c) })
  js.foldl (fun s j => unpin j.entry <| if hasItem s j.item then failItem j.item 2 [(.CIPHP_RX_AUTH_FAIL, j.port, 0)] s
    else s.inc .CIPHP_RX_AUTH_FAIL j.port) s

/-- Frames of an AID are sealed (R280). -/
def aidSealed (s : State) (n aid : Nat) : Bool := bit (s.get .CIPH_LINE_UP_ENC_AID_MASK n) aid

/-- A packet number may be spent (R280, R281): below the mark, not the last, and on a fresh store only under a KEY_ID
written since the boot. -/
def pnUsable (s : State) (n : Nat) : Bool :=
  let pn := s.get .CIPH_LINE_PN_NEXT_PN n
  let k := s.get .CIPH_LINE_CFG_UP_KEY n
  decide (pn < s.get .CIPH_LINE_PN_MARK_MARK n) && decide (pn < 2 ^ 64 - 1) &&
    (!(bit (s.get .CIPH_STATUS_PN_FRESH) n) || s.cipher.keyIdNew.contains (n * 4 + k))

/-- The upstream key is usable (R280). -/
def upKeyValid (s : State) (n : Nat) : Bool :=
  s.isSet .CIPH_LINE_CFG_SECRET_VALID n && s.isSet .LINE_TREE_STATE_IDENT_VALID n &&
    bit (s.get .CIPH_LINE_CFG_UP_VALID n) (s.get .CIPH_LINE_CFG_UP_KEY n)

/-- The next packet number moves on (R280). At the last of all, sealing stops for good as it does when no mark can be written: PN_STORE_OK
is cleared and the event raised, whose store status no rule gives for it (log entry 1). -/
def spendPn (n : Nat) (s : State) : State :=
  let pn := s.get .CIPH_LINE_PN_NEXT_PN n + 1
  let s := s.set .CIPH_LINE_PN_NEXT_PN pn n
  if pn = 2 ^ 64 - 1 then (s.took.set .CIPH_STATUS_PN_STORE_OK 0).raise 0x0C02 [n, s.free % 2 ^ 32] else s

/-- A frame is sealed (R277, R280): ciphertext and tag under the next packet number, which is spent. -/
def sealFrame (n k : Nat) (header bs : List Nat) (s : State) : State × List Nat :=
  let idx := s.get .CIPH_LINE_CFG_UP_KEY n
  let pn := s.get .CIPH_LINE_PN_NEXT_PN n
  let s := wakeCipher (lineCluster s n) (useDerived (.tree n) (lineLabel s n 2 idx) k (keyFound n 2 idx s))
  let key := lineKey s n 2 idx
  let aad := header ++ toBytes 8 pn
  let body := toBytes 8 pn ++ gcmSeal key pn bs ++ toBytes 16 (gcmTag key pn aad bs)
  (countFor k .CIPHP_UP_SEALED n (spendPn n s), body)

/-- The key that a slot holds for use: loaded, or derived from its root (R271, R273); none while empty. -/
def slotKey (s : State) (page k : Nat) : Option Nat :=
  let v := s.keySlot page k
  match v.type with
  | 1 => some v.key
  | 2 =>
    if v.label.headD 0 = 0x10 then some (kdf s.cipher.rootKey v.label)
    else
      let r := s.keySlot page v.rootSlot
      if r.type = 1 ∧ bit r.use 3 then some (kdf r.key v.label) else none
  | _ => none

/-- A derived slot's use asks the cache (R276). -/
def touchSlot (page k : Nat) (s : State) : State :=
  let v := s.keySlot page k
  if v.type ≠ 2 then s
  else if v.label.headD 0 = 0x10 then useDerived .device v.label 0 s
  else useDerived (.slot page v.rootSlot) v.label 0 s

/-- A tree secret is installed or cleared (R282): its generation rises, replay windows of the port reset (R279). -/
def setSecret (n : Nat) (key : Option Nat) (persist : Bool) (s : State) : State :=
  let g := (s.secret n).gen + 1
  let v : TreeSecret := ⟨key.getD 0, g, persist && key.isSome⟩
  let s := s.setCipher (fun c =>
    { c with secrets := Tab.put {} c.secrets n v, replay := c.replay.filter (fun p => p.1 / 8 ≠ n) })
  let s := s.setNand (fun x => { x with secrets := Tab.put {} x.secrets n (if v.persist then v else {}) })
  (s.set .CIPH_LINE_CFG_SECRET_VALID (b2n key.isSome) n).raise 0x0C03 [n, b2n key.isSome]

end Sys2Proof.Machine
end

