-- ==== Sys2Proof/Machine/CiphEvt.lean ====
section
/-! DEFINITION. The events of the cipher clusters ("Cipher engines and keys"): job ends, derivations, packet-number marks. -/
namespace Sys2Proof.Machine

open Sys2Proof

/-- The plaintext of an item's envelope under a key, where its tag checks (R277): the body is PN, ciphertext, tag. -/
def openEnvelope (key : Nat) (it : Item) : Option (List Nat) :=
  match it.enc with
  | none => none
  | some (h, _, _, pn) =>
    let n := it.bytes.length
    let aad := toBytes 8 h ++ toBytes 8 pn
    let plain := gcmSeal key pn ((it.bytes.drop 8).take (n - 24))
    if 24 ≤ n ∧ gcmTag key pn aad plain = field it.bytes (n - 16) 16 then some plain else none

/-- CIPHER_JOB_DONE (R268, R277, R278): the oldest job of item k's port is done, its key at hand: the tag decides C2; RX_OPENED
waits for confirmation, and only an event message keeps its receive stamp (R121). Results of a port come back in the order of submission. -/
def effCipherJobDone (k : Nat) (s : State) : State :=
  match s.cipher.jobs.find? (fun j => j.item == k) with
  | none => s
  | some j =>
    let first : Bool := (s.cipher.jobs.find? (fun x => x.port == j.port)) == some j
    if !first ∨ s.cipher.deriving_.contains j.entry then s
    else
      let s := s.setCipher (fun c => { c with jobs := c.jobs.filter (· ≠ j) })
      let s := unpin j.entry s
      if !(hasItem s k) then s
      else
        match openEnvelope j.key (s.item k) with
        | none => failItem k 2 [(.CIPHP_RX_AUTH_FAIL, j.port, 0)] s
        | some plain =>
          passPoint k 2 (s.setItem k (fun it =>
            { it with bytes := plain, rate := 0, counts := it.counts ++ [(.CIPHP_RX_OPENED, 1, j.port, 0)],
                      rxStamp := if ptpEvent plain then it.rxStamp else none }))

def execCipherJobDone (k : Nat) (s : State) : Host.Outcome State Fault Refusal := .next (effCipherJobDone k s)

/-- KEY_DERIVATION (R273, R276): the oldest miss is filled; with the cache full the least recently used unpinned entry gives way. -/
def effKeyDerivation (s : State) : State :=
  match s.cipher.deriving_ with
  | [] => s
  | e :: rest =>
    let c := s.cipher.cache
    let room := if c.length < 8192 then c
      else
        match c.findIdx? (fun x => s.cipher.jobs.all (fun j => j.entry ≠ x)) with
        | some i => c.eraseIdx i
        | none => c
    (s.setCipher (fun x => { x with deriving_ := rest, cache := room ++ [e] })).inc .CIPH_DERIVATIONS

def execKeyDerivation (s : State) : Host.Outcome State Fault Refusal := .next (effKeyDerivation s)

/-- PN_RESERVE (R280, R281): fewer than 2^31 packet numbers remain below the mark: a new mark 2^32 above it is written, as a
journal record and as event PN_MARK; or it cannot be. -/
def effPnReserve (n : Nat) (ok : Bool) (status : Nat) (s : State) : State :=
  let m := s.get .CIPH_LINE_PN_MARK_MARK n
  if s.get .CIPH_LINE_PN_NEXT_PN n + 2 ^ 31 ≤ m then s
  else if ok ∧ storeOpen s then
    let m := min (m + 2 ^ 32) (2 ^ 64 - 1)
    let s := (s.set .CIPH_LINE_PN_MARK_MARK m n).set .CIPH_STATUS_PN_STORE_OK 1
    let s := s.setNand (fun x => { x with marks := Tab.put 0 x.marks n m })
    (journalAdd 2 0 [n] 40 0 s).raise 0x0C06 [n, m / 2 ^ 32, m % 2 ^ 32]
  else (s.set .CIPH_STATUS_PN_STORE_OK 0).raise 0x0C02 [n, status]

def execPnReserve (n : Fin 4) (ok : Bool) (status : Nat) (s : State) : Host.Outcome State Fault Refusal :=
  .next (effPnReserve n ok status s)

end Sys2Proof.Machine
end

