-- ==== Sys2Proof/Machine/BpmOps.lean ====
section
/-!
DEFINITION. The buffer pool manager's shared operations (R240 to R248): pools, allocation with fall-back, the checks of
Table 9.5, free, hand-off, reclaim, audit.
-/
namespace Sys2Proof.Machine

open Sys2Proof

/-- A pool, and its update. -/
def State.pool (s : State) (p : Nat) : Pool := Tab.get {} s.sw.pools p
def State.setPool (s : State) (p : Nat) (f : Pool → Pool) : State :=
  s.setSw (fun w => { w with pools := Tab.put {} w.pools p (f (s.pool p)) })

/-- Bytes of a buffer of a pool (Table 9.3). -/
def bufSize (s : State) (p : Nat) : Nat :=
  match s.get .BPM_POOL_CFG_CLASS p with
  | 0 => 256 | 1 => 2048 | 2 => 16384 | _ => 65536

/-- First byte of a pool in the region, and its buffers. -/
def poolBase (s : State) (p : Nat) : Nat := s.get .BPM_POOL_CFG_BASE p * 256
def poolCount (s : State) (p : Nat) : Nat := s.get .BPM_POOL_CFG_COUNT p

/-- Free buffers of a pool. -/
def Pool.free (x : Pool) (count : Nat) : Nat := (count - x.first) + x.ring.length + x.cache.length

/-- CACHED and FREE read what the pool holds. -/
def poolShow (p : Nat) (s : State) : State :=
  let x := s.pool p
  s.setAll [(.BPM_POOL_STATUS_CACHED, x.cache.length), (.BPM_POOL_STATUS_FREE, x.free (poolCount s p))] p

/-- The cache of a pool is refilled from the ring or written back to it (R242). -/
def poolBalance (p : Nat) (s : State) : State :=
  let n := poolCount s p
  poolShow p (s.setPool p (fun x =>
    if 3072 ≤ x.cache.length then
      { x with ring := x.ring ++ x.cache.drop (x.cache.length - 1024), cache := x.cache.take (x.cache.length - 1024) }
    else if x.cache.length ≤ 1024 then
      let fromFirst := min 1024 (n - x.first)
      let back := min (1024 - fromFirst) x.ring.length
      { x with cache := x.cache ++ (List.range fromFirst).map (x.first + ·) ++ x.ring.take back,
               first := x.first + fromFirst, ring := x.ring.drop back }
    else x))

/-- The count of buffers an owner holds (R247). -/
def ownerAdd (o : Nat) (d : Int) (s : State) : State := s.set .BPM_OWNER_OUT ((s.get .BPM_OWNER_OUT o : Int) + d).toNat o

/-- One buffer is taken from a pool that has one free (R242, R243): its address. -/
def poolTake (p owner : Nat) (s : State) : Option (State × Nat) :=
  let s := poolBalance p s
  match (s.pool p).cache with
  | [] => none
  | i :: rest =>
    let now := s.now
    let s := s.setPool p (fun x => { x with cache := rest, bufs := Tab.put {} x.bufs i ⟨true, owner, now⟩ })
    some (((ownerAdd owner 1 (poolShow p s)).inc .BPM_ALLOC), poolBase s p + i * bufSize s p)

/-- A buffer takes a frame's bytes (R248), and what stands there; memory that nothing has written reads 0 (log entry 132). -/
def bufWrite (a : Nat) (bs : List Nat) (s : State) : State := s.setSw (fun w => { w with region := Tab.put [] w.region a bs })
def bufRead (a len : Nat) (s : State) : List Nat := (Tab.get [] s.sw.region a ++ List.replicate len 0).take len

/-- An allocation along the chain of fall-back pools (R241); `fuel` bounds the chain, classes rising along it. -/
def bpmAllocFrom (owner first : Nat) : Nat → Nat → State → State × Option Nat
  | 0, _, s => (s.inc .BPM_NOSPACE, none)
  | fuel + 1, p, s =>
    match (if p < 16 then poolTake p owner s else none) with
    | some (t, a) => (if p = first then t else t.inc .BPM_FALLBACK, some a)
    | none =>
      let fb := s.get .BPM_POOL_CFG_FALLBACK p
      if 16 ≤ p ∨ 16 ≤ fb then (s.inc .BPM_NOSPACE, none) else bpmAllocFrom owner first fuel fb s

/-- An allocation of one buffer (R241). -/
def bpmAlloc (p owner : Nat) (s : State) : State × Option Nat := bpmAllocFrom owner p 5 p s

/-- The pool whose range holds an address, and its buffer's index (R244). -/
def poolAt (s : State) (a : Nat) : Option Nat :=
  (List.range 16).find? (fun p => poolCount s p ≠ 0 && decide (poolBase s p ≤ a ∧ a < poolBase s p + poolCount s p * bufSize s p))

/-- The checks of Table 9.5 on a buffer request (R244): the row of the first that fails, or the pool and the index. -/
def bpmCheck (s : State) (owner a : Nat) (target : Option Nat) : Nat ⊕ (Nat × Nat) :=
  match poolAt s a with
  | none => .inl 0
  | some p =>
    let d := a - poolBase s p
    let i := d / bufSize s p
    let b := Tab.get {} (s.pool p).bufs i
    if d % bufSize s p ≠ 0 then .inl 1
    else if !b.out then .inl 2
    else if b.owner ≠ owner then .inl 3
    else
      match target with
      | some t => if 104 ≤ t ∨ s.isSet .BPM_OWNER_IN_RESET t then .inl 4 else .inr (p, i)
      | none => .inr (p, i)

/-- The counter and the status of each row of Table 9.5. -/
def bpmRowCtr (row : Nat) : Ctr :=
  match row with
  | 0 => .BPM_BAD_RANGE | 1 => .BPM_BAD_ALIGN | 2 => .BPM_DOUBLE_FREE | 3 => .BPM_NOT_OWNER | _ => .BPM_BAD_TARGET
def bpmRowStatus (row : Nat) : Nat :=
  match row with
  | 0 => stParam | 1 => stParam | 3 => stPermission | _ => stState

/-- A buffer goes back to its pool's cache (R242). -/
def bpmPut (p i : Nat) (s : State) : State :=
  let o := (Tab.get {} (s.pool p).bufs i).owner
  poolBalance p ((ownerAdd o (-1) (s.setPool p (fun x => { x with cache := x.cache ++ [i], bufs := Tab.put {} x.bufs i {} }))).inc
    .BPM_FREE)

/-- A buffer passes to another owner (R243). -/
def bpmPass (p i target : Nat) (s : State) : State :=
  let b := Tab.get {} (s.pool p).bufs i
  ownerAdd target 1 (ownerAdd b.owner (-1) (s.setPool p (fun x => { x with bufs := Tab.put {} x.bufs i { b with owner := target } })))

/-- A buffer that its owner gives back, unchecked where the device itself holds it. -/
def bpmFreeAt (a : Nat) (s : State) : State :=
  match poolAt s a with
  | some p =>
    let i := (a - poolBase s p) / bufSize s p
    if (Tab.get {} (s.pool p).bufs i).out then bpmPut p i s else s
  | none => s

/-- A buffer passes from whoever holds it to an owner. -/
def bpmMoveTo (a target : Nat) (s : State) : State :=
  match poolAt s a with
  | some p =>
    let i := (a - poolBase s p) / bufSize s p
    if (Tab.get {} (s.pool p).bufs i).out then bpmPass p i target s else s
  | none => s

/-- Every buffer that an owner still holds is freed when its reset ends (R246). -/
def reclaimOwner (o : Nat) (s : State) : State :=
  let held := (List.range 16).flatMap (fun p => ((s.pool p).bufs.filter (fun b => b.2.out && b.2.owner == o)).map (fun b => (p, b.1)))
  let s := (held.foldl (fun s b => bpmPut b.1 b.2 s) s).set .BPM_OWNER_IN_RESET 0 o
  if held = [] then s else (s.bump .BPM_RECLAIMED held.length).raise 0x0A04 [o, held.length]

/-- The bin of a buffer's age in ms (R247). -/
def ageBin (ms : Nat) : Nat :=
  if ms < 1 then 0 else if ms < 10 then 1 else if ms < 100 then 2 else if ms < 1000 then 3 else if ms < 10000 then 4
  else if ms < 100000 then 5 else if ms < 1000000 then 6 else 7

/-- Buffers that are out: (owner, age in ms). -/
def outBuffers (s : State) : List (Nat × Nat) :=
  (List.range 16).flatMap (fun p =>
    ((s.pool p).bufs.filter (fun b => b.2.out)).map (fun b => (b.2.owner, (s.now - b.2.since) / uMs)))

/-- An audit (R247): BPM_AGED where a buffer is older than AGE_ALARM_S, with the lowest owner of the oldest bin (log entry 47). -/
def bpmAudit (s : State) : State :=
  let bs := outBuffers s
  if bs.all (fun b => decide (b.2 ≤ s.get .BPM_STATUS_AGE_ALARM_S * 1000)) then s
  else
    let bin := bs.foldl (fun m b => max m (ageBin b.2)) 0
    let inBin := (bs.filter (fun b => ageBin b.2 == bin)).map (·.1)
    let o := inBin.foldl min 127
    s.raise 0x0A05 [o, bin, (inBin.filter (· == o)).length]

/-- The reply of an audit: count and histogram of each owner (R247; log entry 48). -/
def auditReply (s : State) : List (Nat × List Nat) :=
  (List.range 128).map (fun o =>
    let mine := (outBuffers s).filter (fun b => b.1 == o)
    (o, mine.length :: (List.range 8).map (fun k => (mine.filter (fun b => ageBin b.2 == k)).length)))

end Sys2Proof.Machine
end

