-- ==== Sys2Proof/Machine/CoreOps.lean ====
section
/-!
DEFINITION. The core cluster's shared operations ("Work cores, task scheduling and locks"): work items and their flight,
release by Thyme, hardware locks, what a reset of a core, a function or the cluster does to them.
-/
namespace Sys2Proof.Machine

open Sys2Proof

/-- The core cluster, a work item, a lock, a function's rings, and their updates. -/
def State.setCore (s : State) (f : CoreState → CoreState) : State := { s with core := f s.core }
def State.work (s : State) (k : Nat) : Work := Tab.get {} s.core.works k
def State.setWork (s : State) (k : Nat) (f : Work → Work) : State :=
  s.setCore (fun c => { c with works := Tab.put {} c.works k (f (s.work k)) })
def State.lock (s : State) (k : Nat) : Lock := Tab.get {} s.core.locks k
def State.setLock (s : State) (k : Nat) (f : Lock → Lock) : State :=
  s.setCore (fun c => { c with locks := Tab.put {} c.locks k (f (s.lock k)) })
def State.workRing (s : State) (u : Nat) : WorkRing := Tab.get {} s.core.rings u
def State.setWorkRing (s : State) (u : Nat) (f : WorkRing → WorkRing) : State :=
  s.setCore (fun c => { c with rings := Tab.put {} c.rings u (f (s.workRing u)) })

/-- A work item is in flight. -/
def hasWork (s : State) (k : Nat) : Bool := s.core.works.any (fun p => p.1 == k)

/-- Waiting items of a queue, in order. -/
def waitingOf (s : State) (q : Nat) : List Nat := Tab.get [] s.core.waiting q
def setWaiting (q : Nat) (f : List Nat → List Nat) (s : State) : State :=
  s.setCore (fun c => { c with waiting := Tab.put [] c.waiting q (f (waitingOf s q)) })

/-- The item that runs on a core, or is being saved there. -/
def runningOn (s : State) (core : Nat) : Option Nat :=
  (s.core.works.find? (fun p => decide (p.2.phase = 1 ∨ p.2.phase = 4) && p.2.core == core)).map (·.1)

/-- A work item holds a hardware lock (R298). -/
def holdsLock (s : State) (k : Nat) : Bool := s.core.locks.any (fun p => p.2.holder == some (.item k))

/-- WAITING and RUNNING of a queue (Table 12.9). -/
def wqShow (q : Nat) (s : State) : State :=
  let count (f : Work → Bool) : Nat := (s.core.works.filter (fun p => p.2.queue == q && f p.2)).length
  s.setAll [(.CORE_WQ_STATE_RUNNING, count (fun w => decide (w.phase = 1 ∨ w.phase = 2 ∨ w.phase = 4))), (.CORE_WQ_STATE_WAITING, count (fun w => w.phase == 0))] q

/-- A core's register reads what it runs (Table 12.10). -/
def cpuShow (core : Nat) (s : State) : State :=
  match runningOn s core with
  | some k =>
    let w := s.work k
    s.setAll [(.CORE_CPU_SERVICE, w.service), (.CORE_CPU_QUEUE, w.queue), (.CORE_CPU_PRIORITY, s.get .CORE_WQ_CFG_PRIORITY w.queue),
      (.CORE_CPU_LOCKS_HELD, b2n (holdsLock s k)), (.CORE_CPU_STATE, if w.phase = 4 then 2 else 1)] core
  | none =>
    s.setAll [(.CORE_CPU_SERVICE, 0), (.CORE_CPU_QUEUE, 0), (.CORE_CPU_PRIORITY, 0), (.CORE_CPU_LOCKS_HELD, 0),
      (.CORE_CPU_STATE, if s.fault.running.any (fun r => r.part == 22 && (r.level == 2 || r.unit == core)) then 3
        else if s.isSet .PWR_DOZE_DOZING 22 then 4 else 0)] core

/-- The registers of every core follow a recovery or a doze of the cluster. -/
def cpuShowAll (s : State) : State := (List.range 68).foldl (fun s c => cpuShow c s) s

/-- Items in flight, and internal ones among them (R296). -/
def inFlight (s : State) : Nat := s.core.works.length
def internalFlight (s : State) : Nat := (s.core.works.filter (fun p => p.2.fn.isNone)).length

/-- CORE.STATUS reads the items in flight. -/
def flightShow (s : State) : State :=
  s.setAll [(.CORE_STATUS_INTERNAL, internalFlight s), (.CORE_STATUS_IN_FLIGHT, inFlight s)]

/-- An item enters flight: it waits at the end of its queue and takes the next position of its flow (R294, R302). -/
def admitWork (w : Work) (s : State) : State :=
  let k := s.core.nextWork
  let s := s.setCore (fun c =>
    let fl : Tab (List Nat) := match w.flow with
      | some f => Tab.put [] c.flows f (Tab.get [] c.flows f ++ [k])
      | none => c.flows
    { c with works := Tab.put {} c.works k w, nextWork := k + 1, flows := fl, dropping := c.dropping.filter (· ≠ w.queue) })
  flightShow (wqShow w.queue ((setWaiting w.queue (· ++ [k]) s).inc .WQ_ADMIT w.queue))

/-- An internal item that finds no room is dropped, its buffer freed (R295, R296). -/
def dropInternal (q buf : Nat) (s : State) : State :=
  let s := (bpmFreeAt buf s).inc .WQ_DROP q
  if s.core.dropping.contains q then s
  else (s.setCore (fun c => { c with dropping := c.dropping ++ [q] })).raise 0x0D03 [q]

/-- The result entry of a host item (R303, R304, Table 12.3): written at RES_TAIL, which advances; vector 1. -/
def writeResult (u status : Nat) (returned : Bool) (w : Work) (s : State) : State :=
  let r := s.workRing u
  let tail := s.get .CORE_FN_RES_TAIL u
  let s := s.setWorkRing u (fun r => { r with reserved := r.reserved - 1 })
  let entry := [status * 2 ^ 56 + b2n returned * 2 ^ 48 + w.service * 2 ^ 32 + w.outLen % 2 ^ 32, w.tag,
    if returned then w.bufAddr else 0, w.data]
  let s := hostWrite u (r.resBase + tail * 32) entry s
  let s := s.set .CORE_FN_RES_TAIL ((tail + 1) % 2 ^ r.resLog2) u
  if s.isSet .CORE_FN_RES_IRQ_EN u then s.msix u 1 else s

/-- A frame that a core emits joins the path confirmed, with its decision made (R302, Table 5.1). -/
def emitFrame (k : Nat) (f : Nat × Nat × Nat × List Nat) (s : State) : State :=
  newItem { origin := .core k, slot := 40, bytes := f.2.2.2, since := s.now, decision := some (.forward f.1 f.2.1 f.2.2.1 0 0 0),
            base := some (.forward f.1 f.2.1 f.2.2.1 0 0 0) } s

/-- An item leaves flight: its place in its flow, its queue and its record are gone (R296). -/
def leaveFlight (k : Nat) (s : State) : State :=
  let w := s.work k
  let s := setWaiting w.queue (fun l => l.filter (· ≠ k)) s
  let s := s.setCore (fun c =>
    let fl : Tab (List Nat) := match w.flow with
      | some f => Tab.put [] c.flows f ((Tab.get [] c.flows f).filter (· ≠ k))
      | none => c.flows
    { c with works := Tab.put {} c.works k {}, flows := fl })
  flightShow (wqShow w.queue s)

/-- Thyme releases an ended item: result entry, buffer, frames (R302, R303). A dead item's result is discarded and its place
in its flow is a skip (R305). In L3 the work rings stop: a host item waits (Table 16.5). -/
def releaseWork (k : Nat) (s : State) : State :=
  let w := s.work k
  if s.safe ∧ w.fn.isSome ∧ !w.dead then s else
  let s := s.when (w.dead && w.flow.isSome) (fun s => s.inc .CORE_THYME_SKIPS)
  let s := if w.dead then s else w.frames.foldl (fun s f => emitFrame k f s) s
  let returned := w.returnBuf && decide (w.bufAddr ≠ 0) && !w.dead && w.fn.isSome
  let s := if w.bufAddr = 0 then s
    else if returned then (match w.fn with | some u => bpmMoveTo w.bufAddr u s | none => s)
    else bpmFreeAt w.bufAddr s
  let s := match w.fn with
    | some u => if w.dead then s else writeResult u w.status returned w s
    | none => s
  leaveFlight k s

/-- Ended items at the head of a flow are released in sequence order (R302). -/
def releaseFlow (f : Nat) : Nat → State → State
  | 0, s => s
  | fuel + 1, s =>
    match Tab.get [] s.core.flows f with
    | [] => s
    | k :: _ => if (s.work k).phase = 3 ∧ !(s.safe && (s.work k).fn.isSome && !(s.work k).dead) then releaseFlow f fuel (releaseWork k s) else s

/-- The flow of an item goes on once the item has ended or gone. -/
def flowOn (w : Work) (s : State) : State :=
  match w.flow with
  | some f => releaseFlow f ((Tab.get [] s.core.flows f).length + 1) s
  | none => s

/-- An item is discarded: no output; its position is released as a skip (R302); its buffer is reclaimed. -/
def discardWork (k : Nat) (s : State) : State :=
  let w := s.work k
  let s := if w.bufAddr = 0 then s else bpmFreeAt w.bufAddr s
  let s := s.when w.flow.isSome (fun s => s.inc .CORE_THYME_SKIPS)
  flowOn w (leaveFlight k s)

/-- An owner's ID (Table 9.4, R306). -/
def ownerId (s : State) (o : LockOwner) : Nat :=
  match o with
  | .fn u => u
  | .item k => 32 + (s.work k).core
  | .mgmt m => 96 + m

/-- The register of a lock (Table 12.13). ABANDONED is set and cleared where it changes. -/
def lockShow (k : Nat) (s : State) : State :=
  let l := s.lock k
  let h : Nat := match l.holder with | some o => ownerId s o | none => 0
  let s := s.setAll [(.CORE_LOCK_WAITERS, l.waiters.length), (.CORE_LOCK_HOLDER, h), (.CORE_LOCK_HELD, b2n l.holder.isSome)] k
  match l.holder with
  | some (.item w) => cpuShow (s.work w).core s
  | _ => s

def ciLockAcquire : CmdInfo := { op := 0x0D06, phys := false, parts := [22] }
def ciLockRelease : CmdInfo := { op := 0x0D07, phys := false, parts := [22] }

/-- The reply of an acquire, where it came as a command. -/
def lockReply (req : Option Req) (status detail : Nat) (s : State) : State :=
  match req with
  | some q => complete ciLockAcquire q [] 0 { state := s, status := status, detail := detail }
  | none => s

/-- A lock is granted (R306): ABANDONED_LOCK to the first holder after an abandoned one (R307). -/
def grantLock (k : Nat) (o : LockOwner) (req : Option Req) (s : State) : State :=
  let st := if s.isSet .CORE_LOCK_ABANDONED k then stAbandoned else stDone
  let s := (s.setLock k (fun l => { l with holder := some o })).set .CORE_LOCK_ABANDONED 0 k
  lockReply req st (if st = stAbandoned then k else 0) ((lockShow k s).inc .CORE_LOCK_GRANTS)

/-- A freed lock passes to its first waiter in the same cycle (R306). -/
def passLock (k : Nat) (s : State) : State :=
  let old := (s.lock k).holder
  let s := s.setLock k (fun l => { l with holder := none })
  let s := match old with
    | some (.item w) => cpuShow (s.work w).core s
    | _ => s
  match (s.lock k).waiters with
  | [] => lockShow k s
  | w :: rest => grantLock k w.owner w.req (s.setLock k (fun l => { l with waiters := rest }))

/-- A lock whose holder ceased without releasing it (R307). -/
def abandonLock (k : Nat) (s : State) : State :=
  match (s.lock k).holder with
  | none => s
  | some o => passLock k (((s.inc .CORE_LOCK_ABANDONED).raise 0x0D02 [k, ownerId s o]).set .CORE_LOCK_ABANDONED 1 k)

/-- An owner ceases: its waits are removed and its locks are abandoned (R307). -/
def ownerCeases (o : LockOwner) (s : State) : State :=
  let waits := (s.core.locks.filter (fun p => p.2.waiters.any (fun w => w.owner == o))).map (·.1)
  let s := waits.foldl (fun s k => lockShow k (s.setLock k (fun l => { l with waiters := l.waiters.filter (fun w => w.owner ≠ o) }))) s
  let held := (s.core.locks.filter (fun p => p.2.holder == some o)).map (·.1)
  held.foldl (fun s k => abandonLock k s) s

/-- A host item that ends with a status and no output: its result entry is released in its turn (R299, R302). -/
def failWork (k status : Nat) (s : State) : State :=
  let core := (s.work k).core
  let s := ownerCeases (.item k) s
  let w := s.work k
  let s := s.setWork k (fun w => { w with phase := 3, status := status, frames := [], outLen := 0, data := 0, returnBuf := false })
  let s := wqShow w.queue (cpuShow core s)
  match w.flow with
  | some _ => flowOn w (s.inc .CORE_THYME_SKIPS)
  | none => releaseWork k s

/-- An item is lost with its core (R299): status for a host item; an internal one is discarded and counted. -/
def loseWork (k status : Nat) (s : State) : State :=
  match (s.work k).fn with
  | some _ => failWork k status s
  | none =>
    let core := (s.work k).core
    cpuShow core (discardWork k ((ownerCeases (.item k) s).inc .CORE_ITEM_LOST))

/-- An L1 restart of a work core (R299, R246): the item on it is lost; the core is under reset for the buffer pools, and its
buffers are freed when the restart ends. -/
def coreRestart (core status : Nat) (s : State) : State :=
  let s := match runningOn s core with
    | some k => loseWork k status s
    | none => s
  s.set .BPM_OWNER_IN_RESET 1 (32 + core)

/-- A function-level reset's part in the core cluster (R305, R307): admission has stopped; items waiting or running go on,
their results discarded; rings empty; locks of the function abandoned. -/
def coreFunctionReset (u : Nat) (s : State) : State :=
  let mine := (s.core.works.filter (fun p => p.2.fn == some u)).map (·.1)
  let s := mine.foldl (fun s k => s.setWork k (fun w => { w with dead := true, returnBuf := false })) s
  let s := (ownerCeases (.fn u) s).setWorkRing u (fun r => { r with reserved := 0 })
  s.setAll [(.CORE_FN_SUB_TAIL, 0), (.CORE_FN_SUB_HEAD, 0), (.CORE_FN_RES_TAIL, 0), (.CORE_FN_RES_HEAD, 0)] u

/-- An L2 of the core cluster (Table 16.4, R307): running items lost, every held lock abandoned, host waiters receive
RETRY_BUSY; the work and management cores are under reset for the buffer pools (R246). -/
def coreL2 (s : State) : State :=
  let waits := s.core.locks.flatMap (fun p => p.2.waiters.map (fun w => (p.1, w)))
  let s := waits.foldl (fun s p =>
    lockReply p.2.req stBusy 22 (lockShow p.1 (s.setLock p.1 (fun l => { l with waiters := l.waiters.filter (· ≠ p.2) })))) s
  let running := (s.core.works.filter (fun p => decide (p.2.phase = 1 ∨ p.2.phase = 2 ∨ p.2.phase = 4))).map (·.1)
  let s := running.foldl (fun s k => loseWork k stBusy s) s
  let held := (s.core.locks.filter (fun p => p.2.holder.isSome)).map (·.1)
  let s := held.foldl (fun s k => abandonLock k s) s
  (List.range 68).foldl (fun s c => s.set .BPM_OWNER_IN_RESET 1 (32 + c)) s

/-- Results that L3 held back are released, in flow order (Table 16.5). -/
def thymeResume (s : State) : State :=
  let s := (s.core.flows.map (·.1)).foldl (fun s f => releaseFlow f ((Tab.get [] s.core.flows f).length + 1) s) s
  ((s.core.works.filter (fun p => p.2.phase == 3 && p.2.flow.isNone)).map (·.1)).foldl (fun s k => releaseWork k s) s

/-- When the L2 of the core cluster ends, the buffers its owners still hold are freed (R246). -/
def coreReclaim (s : State) : State := ((List.range 68).map (32 + ·)).foldl (fun s o => reclaimOwner o s) s

end Sys2Proof.Machine
end

