-- ==== Sys2Proof/Machine/FrameCmd.lean ====
section
/-! DEFINITION. The framing commands of Table 2.14. -/
namespace Sys2Proof.Machine

open Sys2Proof

def ciLineFrameConfig : CmdInfo := { op := 0x040A, persist := true, parts := [0, 1, 2, 3] }
def ciLineTsiWrite : CmdInfo := { op := 0x040B, esz := 16, parts := [0, 1, 2, 3] }
def ciLineTsiReady (n : Nat) : CmdInfo := { op := 0x040C, parts := [n] }
def ciLineTribConfig (n : Nat) : CmdInfo := { op := 0x040D, persist := true, parts := [n, 25] }
def ciLineOspConfig : CmdInfo := { op := 0x040E, persist := true, parts := [23] }

/-- The registers LINE_FRAME_CONFIG names. -/
def frameConfigAllow (f : Fld) : Bool :=
  f ∈ [Fld.LINE_FRM_CFG_DELTA, .LINE_FRM_CFG_OH_AID, .LINE_FRM_CFG_PM_OFFSET]

/-- LINE_FRAME_CONFIG (R46, R73, R75): DELTA (0 is refused), OH_AID and the PM offset. -/
def execLineFrameConfig (q : Req) (es : List WEntry) (s : State) : Host.Outcome State Fault Refusal :=
  .next (writeCmd ciLineFrameConfig q frameConfigAllow es s)

/-- The standby page of a direction (0 downstream, 1 upstream). -/
def standbyPage (n dir : Nat) (s : State) : Nat :=
  1 - (if dir = 0 then s.get .LINE_TSI_DN_PAGE n else s.get .LINE_TSI_UP_PAGE n)

/-- READY of a direction's standby page. -/
def tsiReady (n dir : Nat) (s : State) : Bool :=
  if dir = 0 then s.isSet .LINE_TSI_DN_READY n else s.isSet .LINE_TSI_UP_READY n

/-- Key of a connection-memory entry (R66). -/
def tsiKey (dir page entry : Nat) : Nat := (dir * 2 + page) * 153600 + entry

/-- What is wrong with an entry of LINE_TSI_WRITE (Table 13.15), as an offset within its 16 bytes: INDEX first, then the
record byte. -/
def tsiEntryErr (e : REntry) : Option Nat :=
  let b0 := bits e.data 56 8
  let badIndex := decide (2 ^ 36 ≤ e.index) ||
    (if bits e.index 32 1 = 0 then decide (153600 ≤ bits e.index 0 18) || bits e.index 18 14 != 0
     else bits e.index 9 23 != 0)
  if badIndex then some 0 else if bit b0 6 then some 8 else if e.data % 2 ^ 56 ≠ 0 then some 9 else none

/-- The first offending byte of a list of R entries whose slots are `size` bytes long (R310, R312). -/
def rErr {α : Type} (size : Nat) (bad : α → Option Nat) (es : List α) : Option Nat :=
  (es.zipIdx.findSome? (fun p => (bad p.1).map (fun d => 24 + size * p.2 + d)))

/-- One entry of LINE_TSI_WRITE takes effect: kind 0 a connection-memory entry of the standby page, kind 1 a slot of the slot
table (Table 13.15). -/
def tsiWriteOne (s : State) (e : REntry) : State :=
  let n := bits e.index 34 2
  let dir := bits e.index 33 1
  let b0 := bits e.data 56 8
  if bits e.index 32 1 = 0 then
    let key := tsiKey dir (standbyPage n dir s) (bits e.index 0 18)
    s.setFrame n (fun f => { f with tsi := Tab.put 0 f.tsi key b0 })
  else
    let v := if bit b0 7 then 1 + b0 % 64 else 0
    s.setFrame n (fun f => { f with slots := Tab.put 0 f.slots (bits e.index 0 4 * 32 + bits e.index 4 5) v })

/-- LINE_TSI_WRITE (R69, Table 13.15): single; a page that is READY refuses the whole command with REJECTED_STATE. -/
def execLineTsiWrite (q : Req) (es : List REntry) (s : State) : Host.Outcome State Fault Refusal :=
  .next (single ciLineTsiWrite q (es.map (·.index))
    (needs (fun s => es.all (fun e => bits e.index 32 1 != 0 || !tsiReady (bits e.index 34 2) (bits e.index 33 1) s)))
    (fun _ => rErr 16 tsiEntryErr es) (fun s => { state := es.foldl tsiWriteOne s }) s)

/-- A swap of some direction is announced on port n. -/
def swapAnnounced (n : Nat) (s : State) : Bool := (s.frame n).dnSwapAt.isSome || (s.frame n).upSwapAt.isSome

/-- LINE_TSI_READY (R69): sets READY; refused while any swap is announced. -/
def execLineTsiReady (q : Req) (n : Nat) (up : Bool) (s : State) : Host.Outcome State Fault Refusal :=
  .next (single (ciLineTsiReady n) q [n] (needs (fun s => 4 ≤ n || !swapAnnounced n s)) (fun _ => want 16 (n < 4))
    (fun s => { state := s.set (if up then .LINE_TSI_UP_READY else .LINE_TSI_DN_READY) 1 n }) s)

/-- LINE_TRIB_CONFIG (R71, Table 13.15): atomic; host slot, addresses and VLAN of tributary INDEX = 64 n + t. -/
def execLineTribConfig (q : Req) (index slot dest source vlan : Nat) (s : State) : Host.Outcome State Fault Refusal :=
  .next (atomicCmd (ciLineTribConfig (index / 64)) q anyState
    (fun _ => firstErr [want 16 (index < 256), want 24 (slot < 32), want 32 (dest < 2 ^ 48), want 40 (source < 2 ^ 48),
      want 48 (vlan < 2 ^ 32)])
    (.trib (index / 64) (index % 64) slot dest source vlan) s)

/-- What LINE_TRIB_CONFIG does at its commit. -/
def commitTrib (n t slot dest source vlan : Nat) (s : State) : State :=
  s.setFrame n (fun f =>
    let old := Tab.get {} f.tribs t
    let new : Trib := { old with slot := slot, dest := dest, source := source, vlan := vlan }
    { f with tribs := Tab.put {} f.tribs t new })

/-- The registers LINE_OSP_CONFIG names. -/
def ospAllow (f : Fld) : Bool := f ∈ [Fld.SYS_OSP_RX_EN, .SYS_OSP_TX_EN, .SYS_OSP_CHANNEL, .SYS_OSP_PORT]

/-- LINE_OSP_CONFIG (R72): writes SYS.OSP[k]. -/
def execLineOspConfig (q : Req) (es : List WEntry) (s : State) : Host.Outcome State Fault Refusal :=
  .next (writeCmd ciLineOspConfig q ospAllow es s)

end Sys2Proof.Machine
end

