-- ==== Sys2Proof/Machine/FrameOps.lean ====
section
/-!
DEFINITION. The framing unit's shared operations ("Superframes, sectors, bursts and tributaries"): header fields and their
tests, function fields and FF_LOST, formats, page swaps, PTP messages in frames.
-/
namespace Sys2Proof.Machine

open Sys2Proof

/-- Sectors of a superframe in a format (Table 1.1). -/
def sectorsOf (format : Nat) : Nat := 64 * (format + 1)

/-- Fields of a 128-bit sector header (Table 2.2). -/
def hdrSector (h : Nat) : Nat := bits h 120 8
def hdrSf (h : Nat) : Nat := bits h 95 25
def hdrSc (h : Nat) : Nat := bits h 91 4
def hdrFormat (h : Nat) : Nat := bits h 89 2
def hdrPage (h : Nat) : Nat := bits h 88 1

/-- CHECK of a sector header (R43, R44). -/
def hdrCheck (h : Nat) : Bool := bits h 0 32 == crc32c (toBytes 12 (h / 2 ^ 32))

/-- The position-independent part of a fit (R45). -/
def hdrFits (h sc : Nat) : Bool :=
  hdrCheck h && decide (hdrFormat h < 3) && decide (hdrSector h < sectorsOf (hdrFormat h)) && hdrSc h == sc

/-- SF_NUMBER * 256 + SECTOR of the header after one (R46). -/
def nextHeader (sf sector format : Nat) : Nat :=
  if sector + 1 < sectorsOf format then sf * 256 + sector + 1 else (sf + 1) % 2 ^ 25 * 256

/-- The record of a decoded pair. -/
def pairOf (n sc : Nat) (p : Nat × Nat) (s : State) : Option PairRec :=
  (s.frame n).pairs.find? (fun r => r.sc == sc && r.sf == p.1 && r.pair == p.2)

/-- The pair that opens a sector: pair 8 k of its superframe carries header and function field (R42). -/
def sectorPair (n sc sf sector : Nat) (s : State) : Option PairRec := pairOf n sc (sf, 8 * sector) s

/-- A function field may be used (R49): the subcarrier is in SYNC, the sector's header fits there, and the pair that carries the field has
passed C1. -/
def fieldUsable (a : FieldAt) (s : State) : Bool :=
  s.get .LINE_FRM_STATE a.port a.sc == 2 && Tab.get 0 (s.frame a.port).hdrOk a.sc == a.sector + 1 && !(s.portGated a.port) &&
    (match sectorPair a.port a.sc (s.frame a.port).sf a.sector s with | some p => p.pass | none => false)

/-- The 64 bytes of a function field, bytes 16 to 79 of its sector (R42). -/
def fieldBytes (a : FieldAt) (s : State) : List Nat :=
  match sectorPair a.port a.sc (s.frame a.port).sf a.sector s with
  | some p => (p.data.drop 16).take 64
  | none => []

/-- The same field in another sector of the superframe. -/
def inSector (a : FieldAt) (k : Nat) : FieldAt := { a with sector := k }

/-- A field of a sector is used, or discarded: SECTOR_HEADER has counted the discarded ones (R49). -/
def onField (a : FieldAt) (f : List Nat → State → State) (s : State) : State :=
  if fieldUsable a s then f (fieldBytes a s) s else s

/-- The map of an accepted header (R47, R50): the format of every subcarrier in HUNT, and HUNT for one that it shows IDLE; a format adopted
in delineation stands otherwise until an announcement changes it (R51). -/
def mapInForce (n map : Nat) (s : State) : State :=
  (List.range 16).foldl (fun s sc =>
    let f := bits map (2 * sc) 2
    if s.get .LINE_FRM_STATE n sc = 0 then s.set .LINE_SC_FORMAT f n sc
    else if f = 3 then hunt n sc 0 (s.set .LINE_SC_FORMAT 3 n sc) else s) s

/-- An announced format map comes into force (R51): subcarriers announced IDLE hunt. -/
def applyMap (n map : Nat) (s : State) : State :=
  (List.range 16).foldl (fun s sc =>
    let f := bits map (2 * sc) 2
    let s := s.set .LINE_SC_FORMAT f n sc
    if f = 3 ∧ s.get .LINE_FRM_STATE n sc ≠ 0 then hunt n sc 0 s else s) s

/-- The signed distance from superframe y to superframe x, modulo 2^25. -/
def sfDiff (x y : Nat) : Int := toSigned 25 ((x + 2 ^ 25 - y % 2 ^ 25) % 2 ^ 25)

/-- The arrival instant A(j) in local time (R90). -/
def arrivalOf (n j : Nat) (s : State) : Int := ((s.frame n).arrival : Int) + sfDiff j (s.frame n).sf * uSf

/-! ### Where a byte of a superframe lies (R42, R59, R66) -/

/-- The format of a subcarrier in superframe sf: the one in force, or the one announced for it (R51). -/
def formatIn (n sc sf : Nat) (s : State) : Nat :=
  match (s.frame n).nextMap with
  | some (map, at_) => if 0 ≤ sfDiff sf at_ then bits map (2 * sc) 2 else s.get .LINE_SC_FORMAT n sc
  | none => s.get .LINE_SC_FORMAT n sc

/-- The downstream page of superframe sf (R68): the one in force, the other one before the last swap and from a swap that is announced
on. -/
def dnPageIn (n sf : Nat) (s : State) : Nat :=
  let f := s.frame n
  let page := s.get .LINE_TSI_DN_PAGE n
  let after : Bool := match f.dnSwapAt with | some a => decide (0 ≤ sfDiff sf a) | none => false
  let before : Bool := match f.dnSwapped with | some a => decide (sfDiff sf a < 0) | none => false
  if after || before then 1 - page else page

/-- The tributary of a slot, if bound (R66). -/
def slotTrib (n sc slot : Nat) (s : State) : Option Nat :=
  match Tab.get 0 (s.frame n).slots (sc * 32 + slot) with
  | 0 => none
  | t + 1 => some t

/-- A tributary has a slot on a subcarrier. -/
def hasSlot (n sc t : Nat) (s : State) : Bool := (List.range 32).any (fun k => slotTrib n sc k s == some t)

/-- The tributary of cell e = 50 sector + cell of a subcarrier on a page (dir 0 downstream, 1 upstream); none for a cell that is
unassigned, or assigned to a tributary without a slot there, which is treated as unassigned (R66). -/
def cellTrib (n dir page sc e : Nat) (s : State) : Option Nat :=
  let v := Tab.get 0 (s.frame n).tsi ((dir * 2 + page) * 153600 + sc * 9600 + e)
  if bit v 7 && hasSlot n sc (v % 64) s then some (v % 64) else none

/-- The byte of its superframe, among the data bytes of its pairs in order, at which byte `k` of cell e lies (R42). -/
def cellByte (e k : Nat) : Nat := e / 50 * 10280 + 80 + 204 * (e % 50) + k

/-- The stretches of a subcarrier's pairs that `left` bytes of its envelope stream take, from byte `off` of cell e of superframe sf on
(R59): (superframe, pair, bytes). The stream runs over the packet cells in order of sector and cell, and on into the next superframe.
The first argument bounds the cells walked. -/
def streamPairs : Nat → Nat → Nat → Nat → Nat → Nat → Nat → State → List (Nat × Nat × Nat)
  | 0, _, _, _, _, _, _, _ => []
  | fuel + 1, n, sc, sf, e, off, left, s =>
    if left = 0 then []
    else if 50 * sectorsOf (formatIn n sc sf s) ≤ e then streamPairs fuel n sc ((sf + 1) % 2 ^ 25) 0 0 left s
    else if (cellTrib n 0 (dnPageIn n sf s) sc e s).isSome ∨ 204 ≤ off then streamPairs fuel n sc sf (e + 1) 0 left s
    else
      let k := min left (204 - off)
      let a := cellByte e off
      let first := min k (1285 - a % 1285)
      (sf, a / 1285, first) :: (if first < k then [(sf, a / 1285 + 1, k - first)] else []) ++
        streamPairs fuel n sc sf (e + 1) 0 (left - k) s

/-- The local instant at which byte `off` of cell e of superframe sf arrives: A(sf) and the symbol position (R120). -/
def byteArrival (n sc sf e off : Nat) (s : State) : Nat :=
  (arrivalOf n sf s + (byteSymbol 3 (formatIn n sc sf s) (cellByte e off) * uSym : Nat)).toNat

/-- What is known of C1 of some pairs of a subcarrier (R14, R134): 0 not all decoded and none failed, 1 all passed, 2 one failed,
3 one is suspect. -/
def pairsC1 (n sc : Nat) (ps : List (Nat × Nat)) (s : State) : Nat :=
  let rs := ps.map (fun p => pairOf n sc p s)
  let bad := rs.filterMap (fun r => r.bind (fun x => if x.pass then none else some x))
  if bad.any (·.suspect) then 3 else if bad ≠ [] then 2 else if rs.all Option.isSome then 1 else 0

/-- A page swap of a direction (R68). -/
def pageSwap (n dir : Nat) (s : State) : State :=
  let page := standbyPage n dir s
  let s := if dir = 0 then (List.range 16).foldl (fun s sc => s.set .LINE_FRM_PAGE page n sc)
      (s.setAll [(.LINE_TSI_DN_PAGE, page), (.LINE_TSI_DN_READY, 0), (.LINE_TSI_DN_SWAP, 0)] n)
    else s.setAll [(.LINE_TSI_UP_PAGE, page), (.LINE_TSI_UP_READY, 0), (.LINE_TSI_UP_SWAP, 0)] n
  let s := s.setFrame n (fun f => if dir = 0 then { f with dnSwapAt := none, dnUnready := false, dnSwapped := some f.sf }
    else { f with upSwapAt := none, upUnready := false })
  s.raise 0x040C [n, dir + 2 * page]

/-- A swap announcement of an accepted header (R68): m superframes on, or none pending; PAGE_UNREADY once for each. An upstream swap
announced for this superframe's grants stands: it comes with the next anchor. -/
def announceSwap (n dir m at_ : Nat) (s : State) : State :=
  let s := s.set (if dir = 0 then .LINE_TSI_DN_SWAP else .LINE_TSI_UP_SWAP) m n
  let f := s.frame n
  let when_ : Option Nat := if m = 0 then (if dir = 1 ∧ f.upSwapAt = some at_ then f.upSwapAt else none) else some at_
  let same := (if dir = 0 then f.dnSwapAt else f.upSwapAt) == when_
  let told := same && (if dir = 0 then f.dnUnready else f.upUnready)
  let tell := when_.isSome && !told && !(tsiReady n dir s)
  let s := s.setFrame n (fun f => if dir = 0 then { f with dnSwapAt := when_, dnUnready := told || tell }
    else { f with upSwapAt := when_, upUnready := told || tell })
  s.when tell (fun s => s.raise 0x040D [n, dir])

/-- While unfrozen the AGC follows its fast loop: GAIN takes the loop's value, 0 to 30 dB in steps of 0.1 dB (R23). -/
def agcFollow (n gain : Nat) (s : State) : State :=
  if s.isSet .LINE_AGC_FROZEN n then s else s.set .LINE_AGC_GAIN (min gain 300) n

/-- The AGC freezes at the first fitting header on the control subcarrier, and keeps the gain of that moment (R23). -/
def agcFreeze (n : Nat) (s : State) : State :=
  if s.isSet .LINE_AGC_FROZEN n then s
  else s.setAll [(.LINE_STATUS_AGC_FROZEN, 1), (.LINE_AGC_FROZEN, 1), (.LINE_AGC_FROZEN_GAIN, s.get .LINE_AGC_GAIN n)] n

/-- The replay windows of a port are emptied: an input of its keys' labels has changed (R279). -/
def resetReplay (n : Nat) (s : State) : State :=
  { s with cipher := { s.cipher with replay := s.cipher.replay.filter (fun p => p.1 / 8 ≠ n) } }

/-- The unicast windows of a port are emptied: its terminal's identity has changed, which no broadcast label holds (R274,
R279, R290). -/
def resetUnicastReplay (n : Nat) (s : State) : State :=
  { s with cipher := { s.cipher with replay := s.cipher.replay.filter (fun p => decide (p.1 / 8 ≠ n ∨ 4 ≤ p.1 % 8)) } }

end Sys2Proof.Machine
end

