-- ==== Sys2Proof/Machine/LaneCode.lean ====
section
/-!
DEFINITION. What host lanes carry ("Host lanes and Ethernet ports"): Gray mapping, precoding and polarity, the FEC codewords of a port with
their interleaving, the training PRBS13, the blocks of fast retrain and the wake pattern.
-/
namespace Sys2Proof.Machine

open Sys2Proof

/-! ### Levels of a lane (R155, R157) -/

/-- A pair of bits, the first one most significant, as the rank of its level by Gray mapping: 0 for −3 up to 3 for +3 (R155). -/
def grayRank : Bool → Bool → Nat
  | false, false => 0
  | false, true => 1
  | true, true => 2
  | true, false => 3

/-- The pair of bits of a rank. -/
def grayPair (r : Nat) : List Bool := if r = 0 then [false, false] else if r = 1 then [false, true] else if r = 2 then [true, true] else [true, false]

/-- The level of a rank. -/
def rankLevel (r : Nat) : Int := 2 * (r : Int) - 3

/-- The rank of a level. -/
def levelRank (v : Int) : Nat := ((v + 3) / 2).toNat

/-- Precoding by 1/(1+D) mod 4 of a lane's ranks, from the rank it sent last (R155). -/
def precode : Nat → List Nat → List Nat
  | _, [] => []
  | y, x :: r => let z := (x + 3 * y) % 4; z :: precode z r

/-- What a receiver makes of precoded ranks: each plus the one before it. -/
def unprecode : Nat → List Nat → List Nat
  | _, [] => []
  | y, z :: r => ((z + y) % 4) :: unprecode z r

/-- The ranks of a list of bits, two bits a symbol. -/
def ranksOf : List Bool → List Nat
  | a :: b :: r => grayRank a b :: ranksOf r
  | _ => []

/-- The levels at the contacts for a lane's bits (R155, R157): Gray-mapped, precoded where the lane precodes, inverted where its polarity
is. The lane's last rank was 0. -/
def laneLevels (precoded inverted : Bool) (bs : List Bool) : List Int :=
  let r := ranksOf bs
  (if precoded then precode 0 r else r).map (fun k => if inverted then -rankLevel k else rankLevel k)

/-- The bits a receiver reads from levels, with its own polarity and its partner's precoding undone (R155, R157). -/
def laneBits (precoded inverted : Bool) (vs : List Int) : List Bool :=
  let r := vs.map (fun v => levelRank (if inverted then -v else v))
  (if precoded then unprecode 0 r else r).flatMap grayPair

/-! ### FEC (R154; which PCS interleaves how many codewords: log entry 127) -/

/-- Codewords that the PCS of a port type interleaves. -/
def pcsWays (type : Nat) : Nat := if type ≤ 2 then 2 else 4

/-- Every m-th entry of a list, from entry k on. -/
def strided (m k : Nat) (xs : List Nat) : List Nat := (List.range (xs.length / m)).map (fun i => xs.getD (i * m + k) 0)

/-- Lists of one length, interleaved. -/
def interleave (ws : List (List Nat)) : List Nat :=
  (List.range ((ws.headD []).length)).flatMap (fun i => ws.map (fun w => w.getD i 0))

/-- The RS(544,514) codewords of a group of message symbols, dealt out to them in turn. -/
def pcsCodewords (type : Nat) (msg : List Nat) : List (List Nat) :=
  (List.range (pcsWays type)).map (fun k => let m := strided (pcsWays type) k msg; m ++ rsParity m)

/-- The symbols a port's PCS distributes to its lanes for a group of message symbols (R154). -/
def pcsSymbols (type : Nat) (msg : List Nat) : List Nat := interleave (pcsCodewords type msg)

/-! ### Fast-retrain blocks and the wake pattern (R160, R163) -/

/-- The taps of a lane's training PRBS13, the powers of x below 13 in its polynomial (log entry 127). -/
def prbsTaps (l : Nat) : List Nat :=
  match l % 4 with
  | 0 => [0, 1, 2, 12]
  | 1 => [0, 2, 3, 7]
  | 2 => [0, 2, 4, 8]
  | _ => [0, 2, 5, 9]

/-- The first 13 bits of a lane's training PRBS13 (log entry 127). -/
def prbsSeed (l : Nat) : List Bool :=
  match l % 4 with
  | 0 => [false, false, false, false, false, true, false, true, false, true, false, true, true]
  | 1 => [false, false, true, true, true, false, true, false, false, false, false, false, true]
  | 2 => [true, false, false, true, false, false, false, true, false, true, true, false, false]
  | _ => [false, true, false, false, false, true, false, false, false, false, false, true, false]

/-- The register of a PRBS13, its oldest bit first, after n further bits. -/
def prbsAfter (taps : List Nat) : Nat → List Bool → List Bool
  | 0, r => r
  | n + 1, r => prbsAfter taps n (r.drop 1 ++ [taps.foldl (fun a k => a != r.getD k false) false])

/-- The next n bits of a PRBS13. -/
def prbsBits (taps : List Nat) : Nat → List Bool → List Bool
  | 0, _ => []
  | n + 1, r => r.headD false :: prbsBits taps n (prbsAfter taps 1 r)

/-- Block n of a fast retrain on a lane (Table 6.5), REQ or READY: 64 symbols, Gray-mapped and never precoded; the PRBS13 goes on from
block to block, 64 of its bits in each. -/
def frtBlock (l n : Nat) (ready : Bool) : List (Int × Nat) :=
  let first : Int := if ready then -3 else 3
  let start := prbsAfter (prbsTaps l) (n * 64 % 8191) (prbsSeed l)
  [(first, 16), (-first, 16)] ++ (laneLevels false false (prbsBits (prbsTaps l) 64 start)).map (fun v => (v, 1))

/-- One period of the wake pattern (R163). -/
def wakePeriod : List (Int × Nat) := [(3, 512), (-3, 512)]

end Sys2Proof.Machine
end

