-- ==== Sys2Proof/Machine/HostOps.lean ====
section
/-!
DEFINITION. The host side's shared operations ("Host lanes and Ethernet ports"): ports and lanes, the link state machine's
transitions with what each exit from UP does, pauses and overrides, receive classes, the system header, frames on the wire.
-/
namespace Sys2Proof.Machine

open Sys2Proof

/-- The settings a lane took over at its last entry to TRAINING. -/
def State.laneSet (s : State) (l : Nat) : LaneForce := Tab.get { txMap := l % 8 } s.host.lanes l

/-- The settings in force on a lane change. -/
def State.setLane (l : Nat) (f : LaneForce → LaneForce) (s : State) : State :=
  { s with host := { s.host with lanes := Tab.put { txMap := l % 8 } s.host.lanes l (f (s.laneSet l)) } }

/-- Link states (Table 6.16). -/
def lsDisabled : Nat := 0
def lsWait : Nat := 1
def lsTraining : Nat := 2
def lsAligning : Nat := 3
def lsUp : Nat := 4
def lsFrt : Nat := 5
def State.link (s : State) (x : Nat) : Nat := s.get .PORT_STATUS_LINK_STATE x

/-- Lanes of a port type (Table 6.1). -/
def typeLanes (t : Nat) : Nat :=
  match t with
  | 1 => 1 | 2 => 2 | 3 => 4 | 4 => 8 | _ => 0

/-- Global lanes of a port. -/
def lanesOf (s : State) (x : Nat) : List Nat := (List.range (typeLanes (s.get .PORT_CFG_TYPE x))).map (x + ·)

/-- The slot whose port holds a lane (R153). -/
def slotOfLane (s : State) (l : Nat) : Option Nat := (List.range 32).find? (fun x => (lanesOf s x).contains l)

/-- A host event (R174): recorded, and raised as the lane cluster's vector where the slot's events are enabled. -/
def hostEvent (x code : Nat) (ws : List Nat) (s : State) : State :=
  let s := s.raise code ws
  if (s.hp x).evtEnable then s.msix 0 (8 + x / 8) else s

/-- Blocks of a fast retrain that a port has sent by now (Table 6.5): 64 symbols each, at 106,250 symbols per µs. -/
def frtIndex (s : State) (x : Nat) : Nat := (s.now - (s.hp x).frtSince) * 106250 / (64 * uUs)

/-- What a lane of a slot sends (R155, R157, R160, R163): the lane that carries it, polarity, precoding of PCS data, and the levels of a wake
period or of the fast-retrain block that is due. -/
def laneWave (s : State) (x what l : Nat) : LaneOut :=
  let c := s.laneSet l
  let inv : Bool := c.polTx == 1
  let levels := match what with
    | 3 => wakePeriod
    | 4 => frtBlock l (frtIndex s x) false
    | 5 => frtBlock l (frtIndex s x) true
    | _ => []
  { lane := l, phys := l / 8 * 8 + c.txMap, inverted := inv,
    precoded := s.isSet .LN_STATUS_PRECODE_TX_ON l && [2, 6, 8, 9].contains what,
    levels := if inv then levels.map (fun p => (-p.1, p.2)) else levels }

/-- What a slot's lanes send: 0 squelched, 1 training frames, 2 PCS data, 3 wake pattern, 4 REQ blocks, 5 READY blocks, 7 auto-negotiation;
as PCS data, 6 Local Fault, 8 Remote Fault, 9 idle. -/
def laneOut (x what : Nat) (s : State) : State := s.emit (.lane x what ((lanesOf s x).map (laneWave s x what)))

/-- PAUSED and OVERRIDE of Table 6.16: under 802.3x all eight bits show. -/
def showPause (x : Nat) (s : State) : State :=
  let h := s.hp x
  let mask (t : Tab Nat) : Nat :=
    if Tab.get 0 t 8 ≠ 0 then 255 else (List.range 8).foldl (fun m p => if Tab.get 0 t p ≠ 0 then m + 2 ^ p else m) 0
  s.setAll [(.PORT_STATUS_PAUSED, mask h.pauseEnd), (.PORT_STATUS_OVERRIDE, mask h.override_)] x

/-- A priority (8: the port under 802.3x) becomes unpaused, and its watchdog resets (R169, R170). -/
def unpause (x p : Nat) (s : State) : State :=
  showPause x (s.setHp x (fun h => { h with pauseEnd := Tab.put 0 h.pauseEnd p 0, pausedSince := Tab.put 0 h.pausedSince p 0 }))

/-- A priority is paused now. -/
def isPaused (s : State) (x p : Nat) : Bool := decide (s.now < Tab.get 0 (s.hp x).pauseEnd p)

/-- An override ends (R170): reason 0 zero quanta, 1 period expired, 2 command, 3 link down. -/
def endOverride (x p reason : Nat) (s : State) : State :=
  if Tab.get 0 (s.hp x).override_ p = 0 then s
  else
    hostEvent x 0x0707 [x, p, reason] (unpause x p (s.setHp x (fun h => { h with override_ := Tab.put 0 h.override_ p 0 })))

/-- A transmit queue is stopped by a pause (R169). -/
def queueStopped (s : State) (x c : Nat) : Bool :=
  isPaused s x 8 || (List.range 8).any (fun p => isPaused s x p && bit (s.get .PORT_PFC_QMAP x p) c)

/-- A frame in progress on receive is cut short (R171): C3 fails and RX_TRUNC counts it. -/
def cutRx (x : Nat) (s : State) : State :=
  let cut := s.items.filter (fun p => p.2.origin == .host x && p.2.points.contains 3 && decide (received s p.2 < p.2.bytes.length))
  cut.foldl (fun s p => failItem p.1 3 [(.HP_RX_TRUNC, x, 0)] s) s

/-- A frame in progress on transmit is cut at once, counted in TX_ABANDONED and not sent again (R161, R172). -/
def cutTx (x : Nat) (s : State) : State :=
  match Tab.get 0 s.sw.sending x with
  | 0 => s
  | c =>
    let cp := s.copy c
    let bs := wireBytes s cp
    endOnPort c ((bs ++ toBytes 4 (crc32 bs)).take (sentBytes s cp)) (s.inc .HP_TX_ABANDONED x)

/-- The link leaves UP (R158, R161, R170, R171): frames in progress are cut, overrides end, low-power idle ends. -/
def leaveUp (x : Nat) (s : State) : State :=
  let s := cutTx x (cutRx x s)
  let s := (List.range 9).foldl (fun s p => endOverride x p 3 s) s
  (s.setAll [(.PORT_STATUS_RX_LPI, 0), (.PORT_STATUS_TX_LPI, 0)] x).setHp x (fun h => { h with idleSince := 0 })

/-- The link state takes a value; LOCAL_FAULT shows that the PCS of an enabled port is not up, and Remote Fault is received in UP only (log
entry 51). What the new state sends takes the place of a wake pattern (R158, R163); lanes are in fast retrain in FAST_RETRAIN only. -/
def setLink (x new : Nat) (s : State) : State :=
  let now := s.now
  let s := (s.setAll [(.PORT_STATUS_LINK_STATE, new), (.PORT_STATUS_LOCAL_FAULT, b2n (new ≠ lsDisabled ∧ new ≠ lsUp)),
    (.PORT_STATUS_REMOTE_FAULT, 0), (.PORT_STATUS_WAKE_SENDING, 0)] x).setHp x (fun h => { h with since := now })
  (lanesOf s x).foldl (fun s l => s.set .LN_STATUS_FRT (b2n (new = lsFrt)) l) s

/-- TRAINING begins (R158): the lanes take over their settings, FFE_INIT among them (Table 6.9, R156). -/
def toTraining (x : Nat) (s : State) : State :=
  let take (s : State) (l : Nat) : State :=
    let g (f : Fld) : Nat := s.get f l
    let ffe := [g .LN_FFE_INIT_C_M3, g .LN_FFE_INIT_C_M2, g .LN_FFE_INIT_C_M1, g .LN_FFE_INIT_C_0, g .LN_FFE_INIT_C_P1, g .LN_FFE_INIT_C_P2]
    let s := s.setLane l (fun _ => { precodeTx := g .LN_CFG_PRECODE_TX, precodeRx := g .LN_CFG_PRECODE_RX, polTx := g .LN_CFG_POL_TX,
                                     polRx := g .LN_CFG_POL_RX, txMap := g .LN_CFG_TX_MAP, ffe := ffe })
    s.setAll [(.LN_FFE_C_M3, ffe.getD 0 0), (.LN_FFE_C_M2, ffe.getD 1 0), (.LN_FFE_C_M1, ffe.getD 2 0), (.LN_FFE_C_0, ffe.getD 3 0),
      (.LN_FFE_C_P1, ffe.getD 4 0), (.LN_FFE_C_P2, ffe.getD 5 0), (.LN_STATUS_RX_READY, 0), (.LN_STATUS_PARTNER_READY, 0)] l
  laneOut x 1 (setLink x lsTraining ((lanesOf s x).foldl take s))

/-- A port auto-negotiates (R154): AN_EN, on media KR and CR. -/
def autoNeg (s : State) (x : Nat) : Bool :=
  s.isSet .PORT_CFG_AN_EN x && decide (s.get .PORT_CFG_MEDIA x = 1 ∨ s.get .PORT_CFG_MEDIA x = 2)

/-- Auto-negotiation (R154): the one technology ability of the port's type and medium is advertised. -/
def negotiate (x : Nat) (s : State) : State :=
  (laneOut x 7 s).emit (.ability x (s.get .PORT_CFG_TYPE x) (s.get .PORT_CFG_MEDIA x))

/-- Signal on every lane of a port in WAIT goes on to TRAINING, auto-negotiation first (R158), except in LANE_PMA_FAR (R414). -/
def leaveWait (x : Nat) (s : State) : State :=
  let far := (lanesOf s x).any (fun l => bit (s.get .TEST_LOOP_LANE_PMA_FAR (l / 8)) (l % 8))
  if lanesOf s x ≠ [] ∧ (lanesOf s x).all (fun l => s.isSet .LN_STATUS_SIGNAL l) ∧ !far then
    toTraining x (s.when (autoNeg s x) (negotiate x))
  else s

/-- WAIT begins (R158): training frames on every lane. -/
def toWait (x : Nat) (s : State) : State := leaveWait x (laneOut x 1 (setLink x lsWait s))

/-- An exit from UP or FAST_RETRAIN is counted and reported (R158, log entry 50). -/
def linkDown (x cause : Nat) (s : State) : State :=
  let st := s.link x
  if st = lsUp ∨ st = lsFrt then
    let s := if st = lsUp then leaveUp x s else s
    let now := s.now
    hostEvent x 0x0702 [x, cause] ((s.inc .HP_LINK_DOWNS x).setHp x (fun h => { h with downSince := now + 1 }))
  else s

/-- DISABLED (R158, R233, R234): the link leaves what it was, the transmitter is squelched, frames for the port are dropped;
`flush`: its destination is flushed now. -/
def toDisabled (x cause : Nat) (flush : Bool) (s : State) : State :=
  if s.link x = lsDisabled then s
  else
    let s := cutRx x (linkDown x cause s)
    let s := laneOut x 0 (setLink x lsDisabled s)
    let s := (s.setHp x (fun h => { h with downSince := 0, lfSince := 0 })).set .SW_DEST_STATE_DOWN_DROPPING 1 x
    if flush then startFlush x s else s

/-- A port that is enabled, has a type and stands in DISABLED goes to WAIT (R158). -/
def admin (x : Nat) (s : State) : State :=
  if s.isSet .PORT_CFG_ENABLE x ∧ s.get .PORT_CFG_TYPE x ≠ 0 ∧ s.link x = lsDisabled then
    toWait x (s.set .SW_DEST_STATE_DOWN_DROPPING 1 x)
  else s

/-- FAST_RETRAIN begins (R160, R161): `began` on the side that initiates; `lost` the lanes that lost lock. -/
def toFrt (x : Nat) (began : Bool) (lost : Nat) (s : State) : State :=
  let s := (leaveUp x s).inc .HP_LINK_DOWNS x
  let s := setLink x lsFrt s
  let now := s.now
  laneOut x 4 (s.setHp x (fun h => { h with frtSince := now, frtLost := lost, frtBegan := began, frtSeen := false }))

/-- FAST_RETRAIN falls back to TRAINING (R158): cause 0 no answer, 1 FRT_LIMIT. -/
def frtFallback (x why : Nat) (s : State) : State :=
  let s := hostEvent x 0x0705 [x, why] (s.inc .HP_FRT_FALLBACK x)
  toTraining x (linkDown x 2 s)

/-- The pause calls of a slot that stand are due to be sent (R169). -/
def callsDue (x : Nat) (s : State) : State :=
  markIdle x ((List.range 8).foldl (fun s p =>
    if s.isSet .SW_ING_PAUSE_CALL (x * 8 + p) then pauseDue x (2 ^ p) (s.get .PORT_PAUSE_QUANTA x) s else s) s)

/-- UP (R158): event LINK_UP, or FRT_DONE after a fast retrain; a pause call that stands is sent again. -/
def toUp (x : Nat) (s : State) : State :=
  let h := s.hp x
  let s := laneOut x 2 (setLink x lsUp s)
  let s := (s.set .SW_DEST_STATE_DOWN_DROPPING 0 x).setHp x (fun h => { h with downSince := 0, fromFrt := false })
  let s := if h.fromFrt then
      hostEvent x 0x0704 [x, (s.now - h.frtSince) / uUs, h.frtLost] (s.inc .HP_FRT_DONE x)
    else hostEvent x 0x0701 [x, s.get .PORT_CFG_TYPE x] s
  callsDue x s

/-- Coefficients of a lane in force. -/
def ffeNow (s : State) (l : Nat) : List Int :=
  [.LN_FFE_C_M3, .LN_FFE_C_M2, .LN_FFE_C_M1, .LN_FFE_C_0, .LN_FFE_C_P1, .LN_FFE_C_P2].map (fun f => s.getI f l)

/-- The tap ranges of Table 6.3. -/
def tapRange : List (Int × Int) := [(-4, 4), (-8, 8), (-24, 0), (32, 64), (-16, 0), (-4, 4)]

/-- Σ|c(i)| ≤ 64 (R156). -/
def ffeSum (cs : List Int) : Bool := decide (cs.foldl (fun a c => a + c.natAbs) 0 ≤ 64)

/-- The tags of a received frame (R164): offsets of the EtherType after them, and how many. -/
def tagsOf (alt : Nat) (bs : List Nat) : Nat :=
  if isTagged alt bs then (if field bs 16 2 = 0x8100 then 2 else 1) else 0

/-- A filter entry matches a frame (R164). -/
def filterMatches (s : State) (x e : Nat) (bs : List Nat) : Bool :=
  let g (f : Fld) : Nat := s.get f x e
  let n := tagsOf (s.get .PORT_CFG_TPID_ALT x) bs
  let outer := field bs 14 2
  let inner := field bs 18 2
  let must (on : Fld) (ok : Bool) : Bool := g on == 0 || ok
  s.isSet .FILTER_CTL_VALID x e && (g .FILTER_CTL_TAGS == 3 || g .FILTER_CTL_TAGS == n) &&
    must .FILTER_CTL_M_ETYPE (field bs (12 + 4 * n) 2 == g .FILTER_MATCH_ETYPE) &&
    must .FILTER_CTL_M_OVID (decide (1 ≤ n) && outer % 4096 == g .FILTER_MATCH_OVID) &&
    must .FILTER_CTL_M_OPCP (decide (1 ≤ n) && outer / 8192 == g .FILTER_MATCH_OPCP) &&
    must .FILTER_CTL_M_IVID (decide (2 ≤ n) && inner % 4096 == g .FILTER_MATCH_IVID) &&
    must .FILTER_CTL_M_IPCP (decide (2 ≤ n) && inner / 8192 == g .FILTER_MATCH_IPCP)

/-- The receive class of a frame (R164). -/
def rxClassOf (s : State) (x : Nat) (bs : List Nat) : Nat :=
  match (List.range 16).find? (fun e => filterMatches s x e bs) with
  | some e => s.get .FILTER_CTL_CLASS x e
  | none => s.get .PORT_CFG_DEFAULT_CLASS x

/-- Where a class sends a frame (R165): none into the pipeline, else the consumer of `Decision.consumed`. -/
def rxDest (s : State) (x c : Nat) (bs : List Nat) : Option Nat :=
  let et := field bs (12 + 4 * tagsOf (s.get .PORT_CFG_TPID_ALT x) bs) 2
  match s.get .PORT_CLASS_DEST x c with
  | 0 => none
  | 1 => some (if et = 0x88B6 then 1 else 0)
  | 2 => some (if et = 0x88B5 then 2 else 0)
  | _ => some 0

/-- The item of a received frame (R164 to R167, R171): `bytes` as received after the start-frame delimiter, FCS included,
of an oversized frame the first MAX_FRAME + 1. Its C3 result, with the cases of R171 that its length decides, comes with
its confirmation. -/
def rxItem (x part : Nat) (bytes : List Nat) (s : State) : Item :=
  let h := bytes.take (sysHdr s x)
  let frame := (bytes.drop (sysHdr s x)).take (s.get .PORT_CFG_MAX_FRAME x + 1)
  let bs := frame.take (frame.length - 4)
  let c := rxClassOf s x bs
  let b (k : Nat) : Nat := h.getD k 0
  let type := b 0 % 16
  let hdr := !h.isEmpty
  let bad := hdr && (b 0 / 16 != 1 || decide (2 < type) || (type == 1 && decide (35 < b 1)))
  let counts : List (Ctr × Nat × Nat × Nat) := [(.HP_RX_FRAMES_OK, 1, x, 0), (.HP_RX_BYTES_OK, frame.length, x, 0)]
  let it : Item := { origin := .host x, slot := x, bytes := bs, points := [0, 3], since := s.now, rate := macRate s x, rxClass := c,
                     prio := some (c % 8), rxStamp := rxStampOf x bs { s with now := s.now + part * uSym }, counts := counts }
  let it : Item := if hdr then
      { it with vport := field h 4 2 % 4096, stamp := b 2 / 2 % 4,
                launch := if bit (b 2) 4 then some (field h 8 8, bit (b 2) 3) else none,
                direct := if type = 1 then some (b 1, b 2 / 32, b 3 % 64) else if type = 2 then some (40, 0, 0) else none }
    else it
  if bad then { it with points := [3], decision := some (.consumed 0), counts := counts ++ [(.HP_RX_HDR_ERR, 1, x, 0)] }
  else
    match rxDest s x c bs with
    | none => it
    | some 0 => { it with points := [3], decision := some (.consumed 0), counts := counts ++ [(.HP_RX_FILTER_DROP, 1, x, 0)] }
    | some k => { it with points := [3], decision := some (.consumed k), held := true }

/-- The FCS of a received frame fits (R167, R171); it covers the system header. -/
def fcsFits (bytes : List Nat) : Bool := decide (4 ≤ bytes.length) && bytes.drop (bytes.length - 4) == toBytes 4 (crc32 (bytes.take (bytes.length - 4)))

/-- A MAC Control frame goes no further (R167, R169): one with a wrong FCS, or too short, is counted as every received frame is (R171), and a
sound one acts with PAUSE_RX. -/
def controlFrame (x : Nat) (bytes : List Nat) (s : State) : State :=
  if !(fcsFits bytes) then s.inc .HP_RX_FCS_ERR x else s.when (decide (bytes.length < 64)) (fun s => s.inc .HP_RX_TRUNC x)

/-- A frame comes in on a host port (R164, R167). Its FCS, which an armed injection breaks (R421), is found wrong at its end; an oversized
frame is not taken so far (R171). -/
def receiveFrame (x part : Nat) (bytes : List Nat) (s : State) : State :=
  if (bytes.take 6) = [0x01, 0x80, 0xC2, 0, 0, 1] then controlFrame x bytes s
  else if s.asleep then s.inc .PWR_STANDBY_DISCARD
  else
    let (bad, s) := inject 1 x s
    let whole : Bool := decide (bytes.length ≤ sysHdr s x + s.get .PORT_CFG_MAX_FRAME x)
    let it := rxItem x part bytes s
    newItem (if bad || (whole && !(fcsFits bytes)) then { it with failed := some 3 } else it) s

/-- A copy at the head of a MAC queue starts on the wire (R139, R146, R167): speculative where its item is unconfirmed, `timed` as its launch
time has it (R127), `part` times 62.5 ps into the TCLK cycle (R111). A looped slot sends nothing outside. -/
def startTx (c timed part : Nat) (s : State) : State :=
  let cp := s.copy c
  let x := cp.dest
  let spec := !(isConfirmed (s.item cp.item))
  let m := x * 8 + cp.cls
  let s := s.setSw (fun w => { w with mac := Tab.put [] w.mac m ((Tab.get [] w.mac m).filter (· ≠ c)), sending := Tab.put 0 w.sending x c })
  let now := s.now
  let t := txTime s x (now + part * uSym)
  let s := countStart c (s.setCopy c (fun k => { k with phase := 2, spec := spec, begunAt := now, sentTime := t, timed := timed }))
  let it := copyItem s cp
  let s := s.when (!(hostLooped x s)) (fun s => s.emit (.frame x cp.item (txHeader s it cp) (stamped s it t)))
  markIdle x s

/-- The head of a slot's timed queue (R125), with its launch time and LATE flag. -/
def timedHead (s : State) (x : Nat) : Option (Nat × Nat × Bool) :=
  if s.isSet .TIME_PORT_TIMED_EN x then
    match Tab.get [] s.sw.mac (x * 8 + s.get .TIME_PORT_TIMED_Q x) with
    | [] => none
    | c :: _ => ((s.item (s.copy c).item).launch).map (fun l => (c, l.1, l.2))
  else none

/-- How far a launch time lies ahead of the instant at which a frame started now would cross the contacts (R125). -/
def launchAhead (s : State) (x l : Nat) : Int :=
  let t := timeAdd (serviceTime s) (psUnits (s.getI .TIME_PORT_EGRESS_ADJ x))
  timeDiff (shortTime l t) t

/-- A transmission of `bytes` on the wire that starts now would stand in the way of the slot's timed frame (R125, R168). -/
def wouldBlockTimed (s : State) (x bytes : Nat) : Bool :=
  match timedHead s x with
  | none => false
  | some (_, l, _) =>
    let a := launchAhead s x l
    if a < 0 then !(queueStopped s x (s.get .TIME_PORT_TIMED_Q x))
    else decide (a < ((bytes * uUs / max 1 (macRate s x) : Nat) : Int))

end Sys2Proof.Machine
end

