-- ==== Sys2Proof/Machine/TimeCmd.lean ====
section
/-! DEFINITION. The time commands of Table 4.6. -/
namespace Sys2Proof.Machine

open Sys2Proof

def ciTimeConfig : CmdInfo := { op := 0x0601, persist := true, parts := [24, 25] }
def ciTimeSelect : CmdInfo := { op := 0x0602, parts := [24] }
def ciTimeSet : CmdInfo := { op := 0x0603, parts := [24] }
def ciTimeAdjust : CmdInfo := { op := 0x0604, parts := [24] }
def ciTimePulse : CmdInfo := { op := 0x0605, persist := true, parts := [24] }
def ciTimeTsRead : CmdInfo := { op := 0x0606, parts := [24] }

/-- The registers TIME_CONFIG names (Table 4.6). -/
def timeConfigAllow (f : Fld) : Bool :=
  f ∈ [Fld.TIME_DOMAIN_CFG_SOURCE, .TIME_DOMAIN_CFG_BW, .TIME_DOMAIN_CFG_HOLDOVER_LIMIT, .TIME_SEL_SLEW_RATE,
    .TIME_SEL_CLK10M_EN, .TIME_SEL_REVERTIVE, .TIME_SEL_AUTO_SWITCH, .TIME_ADJ_VALUE, .TIME_PORT_EGRESS_ADJ,
    .TIME_PORT_INGRESS_ADJ, .TIME_PORT_MAX_AHEAD, .TIME_PORT_STAMP_DOMAIN, .TIME_PORT_STAMP_RX, .TIME_PORT_TIMED_EN,
    .TIME_PORT_TIMED_Q]

/-- The limits of R112: the primary takes sources 0 to 4, and the two domains do not name the same line port. -/
def sourcesLegal (s : State) : Bool :=
  let a := s.get .TIME_DOMAIN_CFG_SOURCE 0
  let b := s.get .TIME_DOMAIN_CFG_SOURCE 1
  decide (a ≤ 4 ∧ b ≤ 7 ∧ ¬(a = b ∧ 1 ≤ a))

/-- The last entry that writes a field, by its position. -/
def lastWriter (f : Fld) (es : List WEntry) : Nat :=
  (es.zipIdx.filter (fun p => wWrites f [p.1] != [])).foldl (fun _ p => p.2) 0

/-- TIME_CONFIG (R112): atomic; a source setting that breaks R112 is REJECTED_PARAM at the entry's VALUE. -/
def execTimeConfig (q : Req) (es : List WEntry) (s : State) : Host.Outcome State Fault Refusal :=
  .next (atomicCmd ciTimeConfig q anyState
    (fun s => firstErr [wErr timeConfigAllow es,
      want (16 + 24 * lastWriter .TIME_DOMAIN_CFG_SOURCE es + 23) (sourcesLegal (wApplyAll s es))])
    (.timeConfig es) s)

/-- What TIME_CONFIG does at its commit: registers, the residual slewed on at the new rate from here, the first rows of Table 4.2
for a changed source, and validity under the new limits. -/
def commitTimeConfig (es : List WEntry) (s : State) : State :=
  let o := residualNow s
  let now := s.now
  let t := (wApplyAll s es).setTime (fun t => { t with residual := o, residualAt := now })
  clk10Enable (s.isSet .TIME_SEL_CLK10M_EN) <| updateValid <| [0, 1].foldl (fun t d =>
    let new := t.get .TIME_DOMAIN_CFG_SOURCE d
    if new = s.get .TIME_DOMAIN_CFG_SOURCE d then t
    else
      let t := t.setDomain d (fun x => { x with first := true, nextSec := none })
      if new = 0 then (setDomainState d 0 false t).stop (.domainLoss d)
      else (setDomainState d 1 false t).start (.domainLoss d)) t

/-- A TIME_SELECT arrives: the selection of its instant is noted, for an automatic switch that comes before it (R119). -/
def noteSelect (s : State) : State :=
  let was := match s.time.commanded with
    | some (t, was) => if t = s.now then was else selected s
    | none => selected s
  let now := s.now
  s.setTime (fun t => { t with autoSelected := false, commanded := some (now, was) })

/-- TIME_SELECT (R118): a domain that is not valid is refused without FORCE. -/
def execTimeSelect (q : Req) (d : Nat) (s : State) : Host.Outcome State Fault Refusal :=
  .next (single ciTimeSelect q [d]
    (needs (fun s => q.force || 2 ≤ d || s.isSet .TIME_DOMAIN_STATE_VALID d)) (fun _ => want 16 (d < 2))
    (fun s => { state := selectDomain d false (noteSelect s) }) s)

/-- TIME_SET (R114): the seconds of the next 1PPS edge for a domain whose source is TIMEIN0 or TIMEIN1. -/
def execTimeSet (q : Req) (d seconds : Nat) (s : State) : Host.Outcome State Fault Refusal :=
  .next (single ciTimeSet q [d]
    (needs (fun s => 2 ≤ d || 6 ≤ s.get .TIME_DOMAIN_CFG_SOURCE d)) (fun _ => firstErr [want 16 (d < 2), want 24 (seconds < 2 ^ 48)])
    (fun s => { state := s.setDomain d (fun x => { x with nextSec := some seconds }) }) s)

/-- A host measurement (R114, Table 4.2): the phase is applied at once, the frequency taken, and the LOCKED flag moves the
domain between ACQUIRING and LOCKED. -/
def hostMeasure (d : Nat) (phase freq : Int) (locked : Bool) (s : State) : State :=
  let s := (s.setI .TIME_DOMAIN_STATE_ERROR (clamp (-(2 ^ 31)) (2 ^ 31 - 1) (roundDiv phase uSym)) d).start (.domainLoss d)
  let x := s.domain d
  let far := decide (1000 * uNs < phase.natAbs)
  let take (s : State) : State := s.setDomain d (fun y => { y with freq := freq, base := domainAt y s.now, since := s.now })
  match s.get .TIME_DOMAIN_STATE_STATE d with
  | 1 =>
    let s := take (if x.first then domainStep d phase (s.setDomain d (fun y => { y with first := false })) else moveDomain d phase s)
    if locked then setDomainState d 2 true s else s
  | 2 =>
    let run := if far then x.badRun + 1 else 0
    if 4 ≤ run then take (domainStep d phase (setDomainState d 1 false s))
    else
      let s := take (moveDomain d phase (s.setDomain d (fun y => { y with badRun := run })))
      if locked then s else setDomainState d 1 true s
  | 3 =>
    let s := setDomainState d 1 false (s.setDomain d (fun y => { y with first := false }))
    take (if far then domainStep d phase s else moveDomain d phase s)
  | _ => s

/-- TIME_ADJUST (R114): refused for a domain whose source is not HOST. -/
def execTimeAdjust (q : Req) (d : Nat) (phase freq : Int) (locked : Bool) (s : State) : Host.Outcome State Fault Refusal :=
  .next (single ciTimeAdjust q [d]
    (needs (fun s => 2 ≤ d || s.get .TIME_DOMAIN_CFG_SOURCE d == 5)) (fun _ => want 16 (d < 2))
    (fun s => { state := hostMeasure d phase freq locked s }) s)

/-- The registers TIME_PULSE names (Table 13.15). -/
def timePulseAllow (f : Fld) : Bool :=
  f ∈ [Fld.TIME_PULSE_CTL_START_SEC, .TIME_PULSE_CTL_FREE_RUN, .TIME_PULSE_CTL_PERIODIC, .TIME_PULSE_CTL_ENABLE,
    .TIME_PULSE_TIMES_START_NS, .TIME_PULSE_WIDTH_WIDTH_NS, .TIME_PULSE_PERIOD_PERIOD_NS]

/-- The schedule of output k as a whole obeys R128: P from 100 ns to 1,099 s, W from 8 ns to P - 8 ns, START_NS below
1 s, and a single pulse not in the past. A disabled output's schedule is not checked (log entry 13). -/
def pulseLegal (k : Nat) (s : State) : Bool :=
  if s.get .TIME_PULSE_CTL_ENABLE k = 0 then true
  else
    let p := s.get .TIME_PULSE_PERIOD_PERIOD_NS k
    let w := s.get .TIME_PULSE_WIDTH_WIDTH_NS k
    let st := s.get .TIME_PULSE_CTL_START_SEC k * uS + s.get .TIME_PULSE_TIMES_START_NS k * uNs
    decide (100 ≤ p ∧ p ≤ 1099000000000 ∧ 8 ≤ w ∧ w + 8 ≤ p ∧ s.get .TIME_PULSE_TIMES_START_NS k < 1000000000)
      && (s.isSet .TIME_PULSE_CTL_PERIODIC k || decide (serviceTime s < st))

/-- TIME_PULSE (R128): one schedule; while the output is high it waits for the pulse to end, behind those that wait already. -/
def execTimePulse (q : Req) (es : List WEntry) (s : State) : Host.Outcome State Fault Refusal :=
  let ks := wInstances es
  let k := ks.headD 0
  .next (single ciTimePulse q (es.map (·.off)) anyState
    (fun s => firstErr [wErr timePulseAllow es, want 16 (ks.length ≤ 1), want 32 (pulseLegal k (wApplyAll s ((s.pulseOut k).waiting ++ es)))])
    (fun s => { state := if (s.pulseOut k).high then s.setPulse k (fun x => { x with waiting := x.waiting ++ es }) else takePulse k es s }) s)

/-- TIME_TS_READ (R123): up to 64 two-step entries of one port; reading the ring empty re-arms TS_OVERFLOW. -/
def execTimeTsRead (q : Req) (x : Nat) (s : State) : Host.Outcome State Fault Refusal :=
  .next (single ciTimeTsRead q [x] anyState (fun _ => want 16 (x < 36))
    (fun s =>
      let ring := Tab.get [] s.time.rings x
      let left := ring.drop 64
      let t := s.setTime (fun t => { t with rings := Tab.put [] t.rings x left,
                                            overflowed := if left = [] then Tab.put 0 t.overflowed x 0 else t.overflowed })
      { state := t, data := formR ((ring.take 64).map (fun e => (x, [e / 2 ^ 64, e % 2 ^ 64]))) }) s)

end Sys2Proof.Machine
end

