-- ==== Sys2Proof/Machine/FaultOps.lean ====
section
/-!
DEFINITION. The recovery controller's shared operations ("Faults, the safe state and the event recorder"): reports and their
queue, recoveries of the three levels with what each does to its cluster, the window's rules, the safe state.
-/
namespace Sys2Proof.Machine

open Sys2Proof

/-- The recovery controller's update. -/
def State.setFault (s : State) (f : FaultState → FaultState) : State := { s with fault := f s.fault }

/-- Participant, unit and error type of a source (R388). -/
def srcPart (source : Nat) : Nat := bits source 11 5
def srcUnit (source : Nat) : Nat := bits source 5 6
def srcType (source : Nat) : Nat := bits source 0 5

/-- A source from its parts. -/
def mkSource (part unit type : Nat) : Nat := part * 2048 + unit * 32 + type

/-- The cluster of a participant, by its lowest participant: 23 to 26 are the system cluster (R394). -/
def clusterOf (p : Nat) : Nat := if 23 ≤ p ∧ p ≤ 26 then 23 else p

/-- The participants of a cluster. -/
def clusterParts (c : Nat) : List Nat := if c = 23 then [23, 24, 25, 26] else [c]

/-- The recovery that runs in a cluster. -/
def recoveryOf (s : State) (c : Nat) : Option Recovery := s.fault.running.find? (fun r => clusterOf r.part == c)

/-- An error is consequential (R395): from the unit under an L1, or any unit of a cluster under an L2. -/
def consequential (s : State) (source : Nat) : Bool :=
  s.fault.running.any (fun r => clusterOf r.part == clusterOf (srcPart source) &&
    (r.level == 2 || (r.part == srcPart source && r.unit == srcUnit source)))

/-- USED, FULL and SUMMARY read the queue (Table 16.10). -/
def queueShow (s : State) : State :=
  s.setAll [(.FLT_STATUS_USED, s.fault.queue.length), (.FLT_STATUS_FULL, b2n (decide (4094 ≤ s.fault.queue.length))),
    (.FLT_STATUS_SUMMARY, b2n (s.fault.queue.any (·.summary)))]

/-- A report enters the queue (R392): at the end while fewer than 4,094 entries are in use; then with a summary entry before
it, as the last entry; then in the last entry's place, the report it displaces being lost (log entries 41 and 56). -/
def enterReport (r : Report) (s : State) : State :=
  let q := s.fault.queue
  if q.length < 4094 then s.setFault (fun f => { f with queue := q ++ [r] })
  else
    match s.fault.fullAt with
    | none =>
      let l : Report := { r with last := true }
      let sum : Report := { summary := true, count := 0, firstUs := s.now / uUs }
      if q.length = 4094 then s.setFault (fun f => { f with queue := q ++ [sum, l], fullAt := some 4094 })
      else if q.length = 4095 then s.setFault (fun f => { f with queue := q ++ [l], fullAt := some 4095 })
      else s.inc .FLT_REPORTS_LOST
    | some p =>
      let isSum := (q.getD p {}).summary
      let at_ := if isSum then p + 1 else p
      let q := q.set at_ { r with last := true }
      let old := q.getD p {}
      let q := if isSum then q.set p { old with count := min (old.count + 1) 0xFFFFFFFF } else q
      (s.setFault (fun f => { f with queue := q })).inc .FLT_REPORTS_LOST

/-- A report (R391): an occurrence of an open source adds to its COUNT; else a full entry, with its FAULT record and
vector 3. A full period begins when 4,094 entries are in use (R392). -/
def makeEntry (source level detail : Nat) (escalated : Bool) (captured : List Nat) (s : State) : State :=
  match s.fault.queue.findIdx? (fun r => !r.summary && r.source == source) with
  | some i =>
    let r := s.fault.queue.getD i {}
    let q := s.fault.queue.set i { r with count := min (r.count + 1) 0xFFFFFFFF }
    (s.setFault (fun f => { f with queue := q })).inc .FLT_COALESCED
  | none =>
    let n := s.fault.queue.length
    let s := if 4093 ≤ n ∧ !s.fault.full then
        (s.setFault (fun f => { f with full := true })).raise 0x0E02 [max n 4094]
      else s
    let (s, seq) := recordNow ⟨0x0E01, [source, level, detail / 2 ^ 32 % 2 ^ 32, detail % 2 ^ 32], captured⟩ s
    let r : Report := { source := source, level := level, escalated := escalated, evtSeq := seq, detail := detail % 2 ^ 64, firstUs := s.now / uUs }
    let s := queueShow (enterReport r (s.inc .FLT_REPORTS))
    if s.isSet .FLT_CFG_IRQ_EN then s.msix 0 3 else s

/-- Items inside a pipeline cluster are discarded and counted (R395, Table 16.4). -/
def discardPipe (p : Nat) (s : State) : State :=
  let inside := (s.items.filter (fun i => i.2.parsed.isSome && i.2.cluster == p && (i.2.points.contains 0 || i.2.points.contains 4))).map (·.1)
  inside.foldl (fun s k => recoveryDrop k s) s

/-- What an L1 does to its unit beyond reloading it (Table 16.3; log entries 57 and 58): the item on a work core is lost; jobs
of a cipher cluster and items of a pipeline cluster are discarded; the transmitter of a line cluster is dark (R105). -/
def l1Effect (part unit : Nat) (s : State) : State :=
  if part = 22 then cpuShow unit (coreRestart unit stBusy s)
  else if 16 ≤ part ∧ part ≤ 19 then discardJobs (part - 16) s
  else if 4 ≤ part ∧ part ≤ 11 then discardPipe (part - 4) s
  else if part ≤ 3 then txDark part (cutOff part false s)
  else s

/-- An L2 of line cluster n: transmitter dark, downstream loss (Table 16.4). -/
def lineL2 (n : Nat) (s : State) : State :=
  let st := s.tree n
  let s := agcUnfreeze n (huntAll n 0x0E03 s)
  let s := carrierSet n false s
  txDark n (cutOff n false (if s.tree n = st ∧ (s.term n).lossAt.isNone then downstreamLoss n 0x0E03 s else s))

/-- Commands not yet committed return RETRY_BUSY at an L2 of the system cluster (Table 16.4): those staged, and those that wait for a FENCE
or a lock. A command whose pages the store already programs or reads goes on (log entry 138). -/
def abandonCommands (s : State) : State :=
  let staged := s.cmd.staged
  let fences := s.cmd.fences
  let waits := s.core.locks.flatMap (fun p => (p.2.waiters.filter (·.req.isSome)).map (fun w => (p.1, w)))
  let s := waits.foldl (fun s p =>
    lockReply p.2.req stBusy 23 (lockShow p.1 (s.setLock p.1 (fun l => { l with waiters := l.waiters.filter (· ≠ p.2) })))) s
  let s := s.setCmd (fun c => { c with staged := [], fences := [] })
  let s := staged.foldl (fun s g => complete { op := g.op } g.req [] 0 { state := s, status := stBusy, detail := 23 }) s
  fences.foldl (fun s f => complete { op := 0x0103 } f.req [] 0 { state := s, status := stBusy, detail := 23 }) s

/-- What the start of an L2 does to a cluster (Table 16.4). -/
def l2Start (c : Nat) (s : State) : State :=
  if c ≤ 3 then lineL2 c s
  else if c ≤ 11 then
    let s := discardPipe (c - 4) s
    s.setCls (fun x => { x with loading := Tab.put 0 x.loading (c - 4) 1 })
  else if c ≤ 15 then ((List.range 8).map ((c - 12) * 8 + ·)).foldl (fun s x => toDisabled x 4 false s) s
  else if c ≤ 19 then discardJobs (c - 16) s
  else if c = 20 then flushAll s
  else if c = 21 then
    let waiting := (s.items.filter (fun i => i.2.points.contains 4)).map (·.1)
    let s := waiting.foldl (fun s k => failItem k 4 [(.TBL_LOOKUP_ERR, 0, 0)] s) s
    let s := s.set .TBL_STATE_FILTER_ALL_ONES 1
    if s.isSet .TBL_STATE_REBUILDING then s.setTbl (fun t => { t with shadow := some [], deletes := 0 })
    else (s.set .TBL_STATE_REBUILDING 1).setTbl (fun t => { t with shadow := some [], deletes := 0 })
  else if c = 22 then cpuShowAll (coreL2 s)
  else if c = 23 then (abandonCommands s).set .BPM_OWNER_IN_RESET 1 100 |>.set .BPM_OWNER_IN_RESET 1 101
  else s

/-- What the end of an L2 does to a cluster (R233, R246, Table 16.4). -/
def l2End (c : Nat) (s : State) : State :=
  if 12 ≤ c ∧ c ≤ 15 then
    let xs := (List.range 8).map ((c - 12) * 8 + ·)
    xs.foldl (fun s x => (if s.safe then id else admin x) (startFlush x s)) s
  else if c ≤ 3 then startFlush (32 + c) s
  else if c = 22 then coreReclaim (startFlush 40 s)
  else if c = 23 then reclaimOwner 101 (reclaimOwner 100 s)
  else s

/-- A cluster's reset withdraws the acknowledgements its participants gave to staged commands (R313). -/
def withdrawAcks (c : Nat) (s : State) : State :=
  s.setCmd (fun m => { m with staged := m.staged.map (fun g =>
    { g with withdrew := g.withdrew ++ (clusterParts c).filter (fun p => g.parts.contains p && !(g.withdrew.contains p)) }) })

/-- A recovery of level L1 or L2 begins (R394): registers, counter, event RECOVERY_START, effects; the running L1 of the
cluster is absorbed by an L2. At an L2 the event tail is flushed (R404). -/
def startRecovery (part unit level source : Nat) (s : State) : State :=
  if 27 ≤ part then s
  else
    let c := clusterOf part
    let now := s.now
    if level = 1 then
      let s := s.setFault (fun f => { f with running := f.running ++ [(⟨part, unit, 1, source, now, false⟩ : Recovery)] })
      let s := ((s.set .FLT_RECOVERY_LEVEL 1 part).inc .FLT_L1_RECOVERIES).raise 0x0E03 [part, 1, source]
      l1Effect part unit s
    else
      let s := s.setFault (fun f =>
        { f with running := f.running.filter (fun r => clusterOf r.part ≠ c) ++ [(⟨c, unit, 2, source, now, false⟩ : Recovery)] })
      let s := (clusterParts c).foldl (fun s p => s.set .FLT_RECOVERY_LEVEL 2 p) s
      let s := tailFlush ((s.inc .FLT_L2_RECOVERIES).raise 0x0E03 [c, 2, source])
      l2Start c (withdrawAcks c s)

/-- Every test feature turns off and every armed injection is cancelled (R422, R423). -/
def savoryOff (s : State) : State :=
  let on := s.get .TEST_STATUS_PERTURB_ON
  let s := ((List.range 4).filter (bit on)).foldl (fun s f =>
    (s.setAll [(.TEST_PERTURB_ON, 0), (.TEST_PERTURB_DURATION_MS, 0)] f).raise 0x0F02 [f, 2]) s
  let s := (List.range 4).foldl (fun s t => s.set .TEST_INJECT_REMAINING 0 t) s
  { s.setAll [(.TEST_STATUS_PERTURB_ON, 0), (.TEST_STATUS_INJECT_ARMED, 0)] with test := { s.test with ends := [] } }

/-- A host port at the entry to L3 (Table 16.5, R171): where its PCS is up, Local Fault for LF_HOLD_MS with the frames in progress
cut; else squelched at once. -/
def portSafe (x : Nat) (s : State) : State :=
  if s.link x = lsUp then
    let now := s.now
    laneOut x 6 ((cutTx x (cutRx x s)).setHp x (fun h => { h with lfSince := now + 1 }))
  else toDisabled x 4 true s

/-- A terminal at the entry to L3: dark, OFFLINE, its join state kept (R398). -/
def terminalSafe (n : Nat) (s : State) : State :=
  let s := txDark n (cutOff n false (clearProfiles n (abandonPresence n s)))
  if s.tree n = tsOffline then s else setTree n tsOffline 0x0E06 s

/-- L3 is entered (R398, Table 16.5): a RESUME that runs ends with REJECTED_STATE (log entry 59). -/
def enterL3 (source : Nat) (s : State) : State :=
  let waiting := s.fault.resume
  let s := s.setFault (fun f => { f with resume := none })
  let s := (s.setAll [(.FLT_STATUS_SAFE, 1), (.FLT_STATUS_L3_SOURCE, source)]).inc .FLT_L3_ENTRIES
  let s := (tailFlush s).raise 0x0E06 [source]
  let s := (List.range 4).foldl (fun s n => terminalSafe n s) s
  let s := (List.range 32).foldl (fun s x => portSafe x s) s
  let s := (List.range 4).foldl (fun s k => pulseLow k s) s
  let s := savoryOff (flushAll s)
  match waiting with
  | some q => complete { op := 0x0E05 } q [] 0 { state := s, status := stState }
  | none => s

/-- The level that the window's rules give a fault (R396), with the cause of an escalation: 0 same cluster, 1 third fault. -/
def windowRule (s : State) (source own : Nat) : Nat × Nat :=
  if s.isSet .FLT_STATUS_WINDOW_OPEN ∧ 2 ≤ s.get .FLT_STATUS_WINDOW_FAULTS then (max 3 own, 1)
  else
    match recoveryOf s (clusterOf (srcPart source)) with
    | some r => if r.level = 1 then (max 2 own, 0) else (max 3 own, 0)
    | none => (own, 0)

/-- An escalation (R394, R396): counted, with its event. -/
def escalate (part old new cause : Nat) (s : State) : State :=
  (s.inc .FLT_ESCALATIONS).raise 0x0E05 [part, old, new, cause]

/-- The level of an occurrence (R389): its type's level in force; a correctable error whose occurrences of the running second
reach CORR_PER_S counts once as ECC_STATE. -/
def occurrenceLevel (source : Nat) (s : State) : State × Nat :=
  let t := srcType source
  let own := if t < 16 then s.get .FLT_ACTION_LEVEL t else 0
  if t ≠ 0 then (s, own)
  else
    let sec := s.now / uS
    let (a, n) := Tab.get (0, 0) s.fault.corr source
    let n := if a = sec then n + 1 else 1
    let s := s.setFault (fun f => { f with corr := Tab.put (0, 0) f.corr source (sec, n) })
    (s, if n = s.get .FLT_CFG_CORR_PER_S then max own (s.get .FLT_ACTION_LEVEL 2) else own)

/-- An error report (R389 to R397): every occurrence is counted; a consequential one goes no further; a fault of level none,
and any fault in L3, is reported only; else it is taken at the level that its window's rules give, the higher of that and
its own. -/
def report (source detail : Nat) (captured : List Nat) (s : State) : State :=
  let s := s.setFault (fun f => { f with occurs := Tab.put 0 f.occurs source (min (Tab.get 0 f.occurs source + 1) ctrMax) })
  let part := srcPart source
  if consequential s source then s
  else
    let (s, own) := occurrenceLevel source s
    let owe (s : State) : State :=
      if part ≤ 26 then s.setFault (fun f => { f with owed := f.owed.filter (fun x => srcPart x ≠ part) ++ [source] }) else s
    if own = 0 then makeEntry source 0 detail false captured s
    else if s.safe ∧ s.fault.resume.isNone then makeEntry source 0 detail false captured (owe s)
    else
      let (level, cause) := windowRule s source own
      let faults := if s.isSet .FLT_STATUS_WINDOW_OPEN then min 3 (s.get .FLT_STATUS_WINDOW_FAULTS + 1) else 1
      let s := s.setAll [(.FLT_STATUS_WINDOW_OPEN, 1), (.FLT_STATUS_WINDOW_FAULTS, faults)]
      let s := makeEntry source level detail (decide (own < level)) captured (owe s)
      let old := match recoveryOf s (clusterOf part), cause with
        | some r, 0 => r.level
        | _, _ => own
      let s := s.when (decide (own < level)) (escalate (if cause = 0 then clusterOf part else part) old level cause)
      if level = 3 then enterL3 source s else startRecovery part (srcUnit source) level source s

/-- A condition of type SUPPLY, THERMAL or CLOCK_LOSS persists (R400). -/
def conditionPersists (s : State) : Bool :=
  !s.pins.pwrGood || !s.power.lost.isEmpty || s.power.temps.any (fun p => decide (2300 < p.2))

/-- The outputs are released (R400): host ports to their administrative state, TREE_JOIN to each joined terminal, held
results, event SAFE_EXIT, and the RESUME's reply. -/
def releaseSafe (s : State) : State :=
  let waiting := s.fault.resume
  let s := (s.setFault (fun f => { f with resume := none })).set .FLT_STATUS_SAFE 0
  let s := (List.range 32).foldl (fun s x =>
    admin x (if (s.hp x).lfSince ≠ 0 then toDisabled x 4 true s else s)) s
  let s := (List.range 4).foldl (fun s n =>
    if (s.term n).joined ∧ s.tree n = tsOffline then
      let dill := !(controlSync n s) && !(s.isSet .LINE_STATUS_SEARCHING n)
      (setTree n tsListen 0x0501 s).when dill (startSearch n 0x0501)
    else s) s
  let s := (List.range 4).foldl (fun s k => pulseResume k s) s
  let s := (thymeResume s).raise 0x0E07 [0]
  match waiting with
  | some q => complete { op := 0x0E05 } q [] 0 { state := s }
  | none => s

/-- A recovery ends (R246, R394, R396, R400): registers, buffers of a restarted core, event RECOVERY_END with the µs taken, effects, waiting CLUSTER commands;
the last L2 of a RESUME releases the outputs. -/
def endRecovery (r : Recovery) (s : State) : State :=
  let c := clusterOf r.part
  let us := (s.now - r.since) / uUs
  let parts := if r.level = 2 then clusterParts c else [r.part]
  let now := s.now
  let s := s.setFault (fun f => { f with running := f.running.filter (· ≠ r), lastEnd := now,
                                         owed := f.owed.filter (fun x => !(parts.contains (srcPart x))) })
  let s := parts.foldl (fun s p => s.setAll [(.FLT_RECOVERY_LEVEL, 0), (.FLT_RECOVERY_LAST_US, min us (2 ^ 24 - 1)),
    (.FLT_RECOVERY_LAST_SOURCE, r.source)] p) s
  let s := if r.level = 1 ∧ c = 22 then reclaimOwner (32 + r.unit) s else s
  let s := (if c = 22 then cpuShowAll else id) ((if r.level = 2 then l2End c s else s).raise 0x0E04 [r.part, r.level, min us (2 ^ 32 - 1)])
  let done := s.fault.clusterWait.filter (fun w => r.level == 2 && clusterOf w.2 == c)
  let s := s.setFault (fun f => { f with clusterWait := f.clusterWait.filter (fun w => !(done.contains w)) })
  let s := done.foldl (fun s w => complete { op := 0x0E05 } w.1 [] 0 { state := s }) s
  if s.fault.resume.isSome ∧ s.fault.running.all (fun x => x.level ≠ 2) then releaseSafe s else s

/-- An error that a participant finds itself makes its report; the unit is the participant's own (log entry 60). -/
def reportUnit (part type detail : Nat) (captured : List Nat) (s : State) : State :=
  report (mkSource part (Config.unitOf part type % 64) type) detail captured s

end Sys2Proof.Machine
end

