-- ==== Sys2Proof/Machine/BootOps.lean ====
section
/-!
DEFINITION. Device reset and restarts (R355, R356, R435, R436): what a device reset keeps, the restart that waits for the store.
-/
namespace Sys2Proof.Machine

open Sys2Proof

/-- The levels of the input pins read back, and the straps (Table 18.6). -/
def pinsShow (s : State) : State :=
  s.setAll [(.SYS_STRAPS_PWR_GOOD_PIN, b2n s.pins.pwrGood), (.SYS_STRAPS_PFAIL_PIN, b2n s.pins.pfail),
    (.SYS_STRAPS_MFG_TEST, b2n s.pins.mfgTest), (.SYS_STRAPS_ADDR, s.pins.straps), (.PWR_STATE_PFAIL, b2n (!s.pins.pfail))]

/-- Device reset (R435, R436): every register, counter and unit as at reset, the local counter at 0 (R111); kept are the pins,
the fuses, the external store with its journal, snapshots and join states, and the always-on domain: MAIN_EN, PELDEL_OFF,
the straps, a latched RAIL_TIMEOUT; and a TAP that holds the device (R424). The outputs take the states of Table 18.5. A TX_DISABLE_N pin that is low trips Bay again (R102). -/
def deviceReset (s : State) : State :=
  let s := (List.range 4).foldl (fun s n => txDark n (cutOff n false s)) s
  let joined : Tab Terminal := s.terms.filterMap (fun p => if p.2.joined then some (p.1, { joined := true }) else none)
  let base : State :=
    { fresh := s.fresh, out := s.out, pending := s.pending, pins := s.pins, terms := joined,
      journal := { stored := s.journal.stored, seq := s.journal.seq, pages := s.journal.pages },
      tables := { copies := s.tables.copies, newest := s.tables.newest },
      store := { nand := s.store.nand }, fuses := { words := s.fuses.words },
      power := { railLatched := s.power.railLatched, restart := s.power.restart }, test := { tapHold := s.test.tapHold } }
  let t := pinsShow (base.set .PWR_STATE_PELDEL_OFF (s.get .PWR_STATE_PELDEL_OFF))
  let t := ((List.range 4).foldl (fun t k => t.emit (.pulse k false)) t).when s.time.clk10.high (fun t => t.emit (.clk10m false s.now))
  let t := (List.range 32).foldl (fun t x => t.emit (.lane x 0 [])) t
  (List.range 4).foldl (fun t n =>
    if s.get .LINE_BAY_TX_DISABLE_PIN n = 0 then bayTripOn n 4 (bayPresent n 4 true (t.set .LINE_BAY_TX_DISABLE_PIN 0 n)) else t) t

/-- The boot begins (R356, R435): step 1 of Table 14.7, counted from now. A restart's kind stands in `power.restart`, plus 5
from here on. -/
def bootBegin (s : State) : State :=
  let now := s.now
  let r := s.power.restart
  let s := s.setAll [(.SYS_BOOT_PHASE, 1), (.PWR_STATE_STATE, 1), (.SYS_BOOT_CAUSE, b2n (r != 0))]
  { s with power := { s.power with bootAt := now, restart := if r = 0 then 0 else r + 4 } }

/-- Records of the tail area that stand in no page of their own area, in order (R404). -/
def tailOnly (s : State) : List EvtRec :=
  let n := s.store.nand
  let own := n.permanent ++ n.circulating.flatten
  ((n.tail.flatten.filter (fun r => !(own.any (fun o => o.seq == r.seq)))).foldr
    (List.orderedInsert (fun a b => a.seq ≤ b.seq)) []).dedup

/-- The recorder starts (R402, R404): records that stand only in tail pages go to packed pages of their own area, SEQ_START takes
number S + 2^20, and the events held so far follow it. -/
def recorderStart (s : State) : State :=
  let n := s.store.nand
  let all := n.permanent ++ n.circulating.flatten ++ n.tail.flatten
  let top := all.foldl (fun m r => max m r.seq) 0
  let back := tailOnly s
  let room := 4096 - n.permanent.length
  let pages := packPages [] (back.take room) ++ packPages [] (back.drop room)
  let whole := decide (back.length = room)
  let s := s.setEvt (fun e => { e with made := n.permanent.length + (n.circulating.flatten).length + back.length,
                                       full := if whole then pages else pages.dropLast, page := if whole then [] else pages.getLastD [] })
  let s := s.setAll [(.EVT_STATUS_RUNNING, 1), (.EVT_NEXT_SEQ_SEQ, top + 2 ^ 20)]
  let s := evtStart 16 (evtShow s)
  recordAll (evtMake 0 ⟨0x0E0A, [top / 2 ^ 32 % 2 ^ 32, top % 2 ^ 32, s.get .SYS_BOOT_KIND], []⟩ s)

/-- A restart that waits proceeds once no operation of the store, no journal record and no reply is outstanding (R355). -/
def restartReady (s : State) : State :=
  if 1 ≤ s.power.restart ∧ s.power.restart ≤ 3 ∧ s.store.ops = [] ∧ s.cmd.replies = [] ∧
      (s.journal.filling = [] ∨ !(storeOpen s)) then bootBegin (deviceReset s)
  else s

/-- A restart is ordered (R355, R404): kind 0 cold, 1 warm, 2 RESCUE; the journal buffer and the unflushed records are
programmed first. -/
def restartOrder (kind : Nat) (s : State) : State :=
  let s := { s with power := { s.power with restart := kind + 1 } }
  tailFlush (journalClose s)

end Sys2Proof.Machine
end

