-- ==== Sys2Proof/Machine/PwrOps.lean ====
section
/-!
DEFINITION. The power manager's shared operations ("Supplies, clocks and power states"): DVFS, idleness, power states and their
phases.
-/
namespace Sys2Proof.Machine

open Sys2Proof

/-- VCORE of a point, and its floor, in mV (Table 15.3). -/
def pointMv (p : Nat) : Nat := match p with | 0 => 800 | 1 => 700 | 2 => 620 | _ => 600
def floorMv (p : Nat) : Nat := match p with | 0 => 770 | 1 => 675 | 2 => 600 | _ => 580

/-- What a point divides the 4.8 GHz PLL by (R370, Table 15.3). -/
def pointDivider (p : Nat) : Nat := match p with | 0 => 3 | 1 => 4 | 2 => 6 | _ => 12

/-- CCLK at a point, in MHz (R370). -/
def pointMhz (p : Nat) : Nat := 4800 / pointDivider p

/-- Capacity of a point in thousandths of F0's (Table 15.3, R373). -/
def pointCapacity (p : Nat) : Nat := 1000 * pointMhz p / pointMhz 0

/-- The point at whose frequency CCLK runs: the running one, or the lower one of a throttle (R372). -/
def cclkPoint (s : State) : Nat :=
  max (s.get .PWR_DVFS_POINT) (if s.isSet .PWR_DVFS_THROTTLED then s.power.throttlePoint else 0)

/-- A PMBus command to the VCORE regulator or another (R369): VOUT_COMMAND 0x21, STATUS_WORD 0x79. -/
def pmbusSend (addr code value : Nat) (s : State) : State := s.emit (.pmbus addr code value)

/-- VOUT_COMMAND for a point's voltage; none while the bus is out (R369). -/
def voutCommand (p : Nat) (s : State) : State :=
  if s.isSet .PWR_PMBUS_BUS_OK then pmbusSend (s.get .PWR_PMBUS_VCORE_ADDR) 0x21 (pointMv p) s else s

/-- CCLK switches to a point (R370, Table 15.15). -/
def switchPoint (p : Nat) (s : State) : State := (s.set .PWR_DVFS_POINT p).inc .PWR_DVFS_CHANGES

/-- A transition to a point begins (R371): a lowering switches CCLK first and is then done; a raise issues the voltage first and
waits for confirmation. No raise in the safe state, no change without the bus. -/
def startDvfs (p : Nat) (s : State) : State :=
  let cur := s.get .PWR_DVFS_POINT
  if p = cur ∨ !(s.isSet .PWR_PMBUS_BUS_OK) then s
  else if cur < p then voutCommand p (switchPoint p (s.set .PWR_DVFS_TARGET p))
  else if s.safe then s
  else
    let now := s.now
    let s := voutCommand p (s.setAll [(.PWR_DVFS_TRANSITION, 1), (.PWR_DVFS_TARGET, p)])
    s.setPower (fun w => { w with raiseAt := now, pollAt := now, confirmedAt := 0 })

/-- A fixed point asked for (R373): held during a transition, else applied. 15 is automatic. -/
def applyDvfs (p : Nat) (s : State) : State :=
  if s.isSet .PWR_DVFS_TRANSITION then s.setPower (fun w => { w with held := p + 1 })
  else if p < 4 then startDvfs p s
  else s

/-- A transition ends; a held request is applied (R373). -/
def endTransition (s : State) : State :=
  let h := s.power.held
  let s := (s.set .PWR_DVFS_TRANSITION 0).setPower (fun w => { w with held := 0, confirmedAt := 0 })
  if h = 0 then s else applyDvfs (h - 1) s

/-- A confirmed raise whose settling has passed switches CCLK, unless a throttle holds the frequency down (R371, R372). While the bus
is out DVFS holds its point (R369): the raise ends without the switch. -/
def finishRaise (s : State) : State :=
  let c := s.power.confirmedAt
  if s.isSet .PWR_DVFS_TRANSITION ∧ !(s.isSet .PWR_PMBUS_BUS_OK) then endTransition s
  else if s.isSet .PWR_DVFS_TRANSITION ∧ c ≠ 0 ∧ c - 1 + s.get .PWR_PMBUS_SETTLE_US * uUs ≤ s.now ∧ !(s.isSet .PWR_DVFS_THROTTLED) then
    endTransition (switchPoint (s.get .PWR_DVFS_TARGET) s)
  else s

/-- The setting in force (R373): F2 in FRUGAL, else the requested point; automatic keeps the running one. -/
def dvfsSetting (s : State) : State := if s.mode = 4 then applyDvfs 2 s else applyDvfs (s.get .PWR_DVFS_REQUEST) s

/-- DRAINING reads 1 until, after the drain point, the last transmission begun under the old behaviour has ended (R141). -/
def refreshDraining (s : State) : State :=
  if s.isSet .PWR_MODE_CHANGING || s.copies.any (fun p => p.2.old && p.2.phase == 2) then s else s.set .SW_RELEASE_DRAINING 0

/-- Commands in flight (R377). -/
def commandsInFlight (s : State) : Nat :=
  s.cmd.taken.length + s.cmd.inband.length + b2n s.cmd.peldelBusy + b2n s.cmd.applying.isSome + s.cmd.staged.length + s.cmd.fences.length

/-- The device is idle but for `own` commands (R377). -/
def deviceIdle (own : Nat) (s : State) : Bool :=
  (List.range 32).all (fun x =>
    s.link x == lsDisabled || (s.link x == lsWait && (lanesOf s x).all (fun l => !(s.isSet .LN_STATUS_SIGNAL l)))) &&
  (List.range 4).all (fun n =>
    s.tree n == tsOffline || s.tree n == tsListen || s.tree n == tsDeposed || s.tree n == tsDozing) &&
  s.copies.isEmpty && s.core.works.isEmpty && decide (commandsInFlight s ≤ own) && s.store.ops.isEmpty && s.tables.staging.isNone

/-- A cluster is idle (Table 15.10): pipeline 4 to 11, cipher 16 to 19, core 22, lane 12 to 15, line 0 to 3. -/
def clusterIdle (c : Nat) (s : State) : Bool :=
  if c ≤ 3 then s.tree c == tsOffline && !(s.isSet .LINE_STATUS_LIGHT c) && !(s.isSet .LINE_STATUS_SEARCHING c)
  else if c ≤ 11 then s.items.all (fun p => p.2.cluster != c - 4 || p.2.points.isEmpty)
  else if c ≤ 15 then
    ((List.range 8).map ((c - 12) * 8 + ·)).all (fun x =>
      s.link x == lsDisabled || (s.isSet .PORT_STATUS_TX_LPI x && s.isSet .PORT_STATUS_RX_LPI x))
  else if c ≤ 19 then s.cipher.jobs.all (fun j => j.cluster != c - 16)
  else if c = 22 then s.core.waiting.all (fun p => p.2.isEmpty)
  else false

/-- The idle timers as they stand (R377, R384): each runs from the moment since which its unit has been idle. -/
def refreshIdle (s : State) : State :=
  let now := s.now
  let dev := deviceIdle 0 s
  let cl : Tab Nat := (List.range 23).foldl (fun t c =>
    let old := Tab.get 0 s.power.clusterIdle c
    Tab.put 0 t c (if clusterIdle c s then (if old = 0 then now + 1 else old) else 0)) []
  s.setPower (fun w => { w with idleSince := if dev then (if w.idleSince = 0 then now + 1 else w.idleSince) else 0, clusterIdle := cl })

/-- Cipher clusters that the mode powers (R268, R385). -/
def modeClusters (m : Nat) : Nat := if m = 4 then 3 else 15

/-- The clusters are gated (R378, R380) or held in reset (Table 15.9): the cipher clusters take no job. -/
def gateClusters (s : State) : State := s.set .CIPH_STATUS_CLUSTERS_ON 0

/-- VCORE is lowered to the F3 voltage by R371 as CCLK stops in S3 (R380): a transition in progress ends where it stands. -/
def lowerForStandby (s : State) : State :=
  let raising := s.isSet .PWR_DVFS_TRANSITION
  let s := (s.set .PWR_DVFS_TRANSITION 0).setPower (fun w => { w with held := 0, confirmedAt := 0 })
  if s.get .PWR_DVFS_POINT = 3 then s.when raising (voutCommand 3) else startDvfs 3 s

/-- S3 is undone (R379): the clusters are powered, and the DVFS setting is applied. -/
def ungateClusters (s : State) : State := dvfsSetting (s.set .CIPH_STATUS_CLUSTERS_ON (modeClusters s.mode))

/-- D1 (Table 15.9): line transmitters dark, terminals OFFLINE with their join state kept, host ports DISABLED, every
destination flushed. -/
def powerDownD1 (s : State) : State :=
  let s := (List.range 4).foldl (fun s n =>
    let s := txDark n (cutOff n false (clearProfiles n (abandonPresence n s)))
    if s.tree n = tsOffline then s else setTree n tsOffline 0x0201 s) s
  flushAll ((List.range 32).foldl (fun s x => toDisabled x 3 false s) s)

/-- D2 (Table 15.9): event tail and journal buffer are programmed. -/
def powerDownD2 (s : State) : State := tailFlush (journalClose s)

/-- The terminals and host ports come back (R381): join states, administrative states. -/
def powerBack (s : State) : State :=
  let s := (List.range 32).foldl (fun s x => admin x s) s
  (List.range 4).foldl (fun s n =>
    if (s.term n).joined ∧ s.tree n = tsOffline then
      let dill := !(controlSync n s) && !(s.isSet .LINE_STATUS_SEARCHING n)
      (setTree n tsListen 0x0501 s).when dill (startSearch n 0x0501)
    else s) s

/-- A power-down begins at D1 (R381). -/
def beginPowerDown (s : State) : State :=
  powerDownD1 (setPowerState 6 4 (s.setPower (fun w => { w with request := none, back := false, wokeBy := 0 })))

/-- An entry to STANDBY begins at S1 (R380); a wake in the same cycle wins, and it never begins. -/
def beginStandby (s : State) : State :=
  let s := s.setPower (fun w => { w with request := none, back := false, wokeBy := 0 })
  if s.power.wokeAt = s.now + 1 then s else setPowerState 3 1 s

/-- The device is ACTIVE after STANDBY (R378): each port resumes in its state, and a LISTEN port whose control subcarrier is not in SYNC
starts Dill. -/
def portsResume (s : State) : State :=
  (List.range 4).foldl (fun s n =>
    s.when (s.tree n == tsListen && !(controlSync n s) && !(s.isSet .LINE_STATUS_SEARCHING n)) (startSearch n 0x0201)) s

/-- A request that waits is taken up at a phase boundary (R381, R383): 0 on, 1 standby, 2 off. -/
def takeRequest (s : State) : State :=
  if pfailHolds s then s
  else
    let st := s.get .PWR_STATE_STATE
    let clear (s : State) : State := s.setPower (fun w => { w with request := none })
    match s.power.request with
    | some 2 => beginPowerDown s
    | some 1 => if st = 2 ∧ deviceIdle 1 s then beginStandby s else if st = 2 then clear s else s
    | some _ => if st = 4 then leaveStandby s else clear s
    | none => s

/-- The rails are asked for (R368, R382): MAIN_EN rises, POWERING_UP. -/
def powerUp (s : State) : State :=
  let now := s.now
  let s := { s with pins := { s.pins with mainEn := true } }.emit (.rail 0 true)
  setPowerState 1 0 (s.setPower (fun w => { w with mainSince := now + 1, request := none }))

/-- OFF (R381, R382): only the always-on domain stands. -/
def reachOff (s : State) : State :=
  let on := s.power.request
  let t := deviceReset (s.setPower (fun w => { w with restart := 0 }))
  let t := t.setAll [(.PWR_STATE_STATE, 0), (.PWR_STATE_PHASE, 0)]
  if on = some 0 then powerUp t else t

/-- An on request (R381): PWR_STATE 0, or a Peldel address match with PELDEL_OFF 1. -/
def onRequest (s : State) : State :=
  let st := s.get .PWR_STATE_STATE
  if st = 0 then powerUp s
  else if st = 4 ∧ !(pfailHolds s) then leaveStandby s
  else if st = 4 ∨ st = 6 then s.setPower (fun w => { w with request := some 0 })
  else if st = 3 then s.setPower (fun w => { w with request := none, wokeBy := if w.wokeBy = 0 then 8 else w.wokeBy })
  else s.setPower (fun w => { w with request := none })

/-- An off request (R381): at once from ACTIVE or STANDBY, else at the next phase boundary; a power-down in progress goes on. -/
def offRequest (s : State) : State :=
  let st := s.get .PWR_STATE_STATE
  if (st = 2 ∨ st = 4) ∧ !(pfailHolds s) then beginPowerDown s
  else if st = 6 then s.setPower (fun w => { w with request := none })
  else s.setPower (fun w => { w with request := some 2 })

/-- A request for STANDBY that the device may take (R377, R381). -/
def standbyRequest (s : State) : State :=
  let st := s.get .PWR_STATE_STATE
  if st = 2 ∧ !(pfailHolds s) then beginStandby s
  else if st = 3 ∨ st = 4 then s.setPower (fun w => { w with request := none })
  else s.setPower (fun w => { w with request := some 1 })

end Sys2Proof.Machine
end

