-- ==== Sys2Proof/Machine/CiphCmd.lean ====
section
/-! DEFINITION. The cipher commands of Table 11.3. -/
namespace Sys2Proof.Machine

open Sys2Proof

def ciCiphKeyLoad (persist : Bool) : CmdInfo := { op := 0x0C01, phys := false, persist := persist, esz := 56 }
def ciCiphKeyDerive (persist : Bool) : CmdInfo := { op := 0x0C02, phys := false, persist := persist, esz := 56 }
def ciCiphKeyClear : CmdInfo := { op := 0x0C03, phys := false, persist := true, esz := 16 }
def ciCiphTreeSecret (persist : Bool) : CmdInfo := { op := 0x0C04, persist := persist }
def ciCiphLineKey : CmdInfo := { op := 0x0C05, parts := [23] }
def ciCiphInbandKey : CmdInfo := { op := 0x0C06, phys := false, persist := true }
def ciCiphSeal : CmdInfo := { op := 0x0C07, phys := false }
def ciCiphOpen : CmdInfo := { op := 0x0C08, phys := false }
def ciCiphCmac : CmdInfo := { op := 0x0C09, phys := false }
def ciCiphCacheFlush : CmdInfo := { op := 0x0C0A }

/-- A USE mask that R272 accepts: four bits, ROOT alone. -/
def useOk (use : Nat) : Bool := decide (use < 16) && (!(bit use 3) || use == 8)

/-- A job that is no line job finds a cluster (R268). -/
def anyCluster (s : State) : Bool := (List.range 4).any (fun c => clusterServes s c)

/-- A slot's key needs the device root key, which no word in use gives (R285): the first doubtful KEY word. -/
def rootDoubtWord (s : State) : Option Nat :=
  if s.get .CIPH_STATUS_ROOT_STATE = 2 then some ((s.fuses.lost.find? (fun w => decide (12 ≤ w ∧ w ≤ 19))).getD 12) else none

/-- A slot is DERIVED with a USER label. -/
def isUser (v : KeySlot) : Bool := v.type == 2 && v.label.headD 0 == 0x10

/-- What keeps a request from a slot of a page for a use (R272, R285): status and DETAIL. -/
def slotRefused (s : State) (page k use : Nat) : Option (Nat × Nat) :=
  let v := s.keySlot page k
  if !(bit v.use use) then some (stPermission, 0)
  else
    match rootDoubtWord s with
    | some w => if isUser v then some (stDoubtful, w) else if (slotKey s page k).isNone then some (stPermission, 0) else none
    | none => if (slotKey s page k).isNone then some (stPermission, 0) else none

/-- An unwrap under a WRAP slot (R272): the bytes' key, or a status. -/
def unwrap (s : State) (page k : Nat) (blob : List Nat) : Nat ⊕ Nat :=
  match slotRefused s page k 2 with
  | some (st, _) => .inr st
  | none =>
    if !(anyCluster s) then .inr stBusy
    else
      match keyUnwrap ((slotKey s page k).getD 0) blob with
      | some key => .inl key
      | none => .inr stAuthFail

/-- One entry of CIPH_KEY_LOAD (R288): a plain key only over a PCIe ring. -/
def keyLoadOne (q : Req) (persist : Bool) (s : State) (e : KeyLoad) : State × Nat :=
  let put (key : Nat) (s : State) : State :=
    setKeySlot q.user e.slot { type := 1, persist := persist, use := e.use, key := key % 2 ^ 256 } s
  if 256 ≤ e.slot ∨ !(useOk e.use) then (s, stParam)
  else
    match e.wrap with
    | none =>
      let overRing : Bool := match q.src with | .inband _ => false | .peldel => false | _ => true
      if !overRing then (s, stPermission)
      else if e.bytes.length ≠ 32 then (s, stParam)
      else (put (ofBytes e.bytes) s, stDone)
    | some k =>
      if 256 ≤ k ∨ e.bytes.length ≠ 40 then (s, stParam)
      else
        let s := touchSlot q.user k s
        match unwrap s q.user k e.bytes with
        | .inl key => (put key s, stDone)
        | .inr st => (s, st)

/-- CIPH_KEY_LOAD (R288): best-effort, up to 16 slots of the caller's page. -/
def effCiphKeyLoad (q : Req) (persist : Bool) (es : List KeyLoad) (s : State) : State :=
  bestEffort (ciCiphKeyLoad persist) q (es.map (fun e => q.user * 256 + e.slot)) anyState (fun _ => want 16 (es.length ≤ 16))
    (keyLoadOne q persist) es s

def execCiphKeyLoad (q : Req) (persist : Bool) (es : List KeyLoad) (s : State) : Host.Outcome State Fault Refusal :=
  .next (effCiphKeyLoad q persist es s)

/-- One entry of CIPH_KEY_DERIVE (R274, R275): the device places the page in a USER label; a PAGE label's root is a LOADED slot of
the page with USE ROOT. -/
def keyDeriveOne (q : Req) (persist : Bool) (s : State) (e : KeyDerive) : State × Nat :=
  let purpose := e.label.headD 0
  let root := s.keySlot q.user e.rootSlot
  if 256 ≤ e.slot ∨ !(useOk e.use) ∨ e.label.length ≠ 32 ∨ (purpose ≠ 0x10 ∧ purpose ≠ 0x11) ∨ e.label.getD 1 0 ≠ 1 ∨
      256 ≤ e.rootSlot then (s, stParam)
  else if purpose = 0x10 ∧ (rootDoubtWord s).isSome then (s, stDoubtful)
  else if purpose = 0x11 ∧ !(root.type == 1 && bit root.use 3) then (s, stPermission)
  else
    let label := if purpose = 0x10 then e.label.set 2 q.user else e.label
    (setKeySlot q.user e.slot { type := 2, persist := persist, use := e.use, rootSlot := if purpose = 0x11 then e.rootSlot else 0,
                                label := label } s, stDone)

/-- CIPH_KEY_DERIVE (R275): best-effort, up to 16 slots of the caller's page. -/
def effCiphKeyDerive (q : Req) (persist : Bool) (es : List KeyDerive) (s : State) : State :=
  bestEffort (ciCiphKeyDerive persist) q (es.map (fun e => q.user * 256 + e.slot)) anyState (fun _ => want 16 (es.length ≤ 16))
    (keyDeriveOne q persist) es s

def execCiphKeyDerive (q : Req) (persist : Bool) (es : List KeyDerive) (s : State) : Host.Outcome State Fault Refusal :=
  .next (effCiphKeyDerive q persist es s)

/-- CIPH_KEY_CLEAR (R288): best-effort, up to 64 slots; persisted copies go with them. -/
def effCiphKeyClear (q : Req) (slots : List Nat) (s : State) : State :=
  bestEffort ciCiphKeyClear q (slots.map (fun k => q.user * 256 + k)) anyState (fun _ => want 16 (slots.length ≤ 64))
    (fun s k => if k < 256 then (setKeySlot q.user k {} s, stDone) else (s, stParam)) slots s

def execCiphKeyClear (q : Req) (slots : List Nat) (s : State) : Host.Outcome State Fault Refusal := .next (effCiphKeyClear q slots s)

/-- CIPH_TREE_SECRET (R282): installs a port's secret, wrapped under a WRAP slot of page 0, or clears it with its copy. -/
def effCiphTreeSecret (q : Req) (n : Nat) (persist clear : Bool) (wrap : Nat) (blob : List Nat) (s : State) : State :=
  single (ciCiphTreeSecret persist) q [n] anyState
    (fun _ => firstErr [want 24 (n < 4), want 32 (clear || decide (wrap < 256)), want 40 (clear || blob.length == 40)])
    (fun s =>
      if clear then { state := setSecret n none false s }
      else
        match slotRefused s 0 wrap 2 with
        | some (st, d) => { state := s, status := st, detail := d }
        | none =>
          let s := touchSlot 0 wrap s
          match unwrap s 0 wrap blob with
          | .inl key => { state := setSecret n (some (key % 2 ^ 256)) persist s }
          | .inr st => { state := s, status := st, detail := if st = stBusy then 0xFFFF else 0 }) s

def execCiphTreeSecret (q : Req) (port : Nat) (persist clear : Bool) (wrap : Nat) (blob : List Nat) (s : State) :
    Host.Outcome State Fault Refusal := .next (effCiphTreeSecret q port persist clear wrap blob s)

/-- Fields that CIPH_LINE_KEY writes (Tables 11.7 to 11.9). -/
def lineKeyFields : List Fld :=
  [.CIPH_LINE_CFG_REPLAY_EN, .CIPH_LINE_CFG_UP_KEY, .CIPH_LINE_CFG_UP_VALID, .CIPH_LINE_CFG_BC_VALID, .CIPH_LINE_CFG_DN_VALID,
    .CIPH_LINE_KEYID_KEY_ID, .CIPH_LINE_UP_ENC_AID_MASK]

/-- CIPH_LINE_KEY (R283): atomic, for one port. -/
def effCiphLineKey (q : Req) (es : List WEntry) (s : State) : State :=
  let port (e : WEntry) : Option Nat := ((fieldsAt e.off).map (fun p => p.2.1)).head?
  let other : Option Nat :=
    es.zipIdx.findSome? (fun p => if port p.1 ≠ (es.head?.bind port) then some (16 + 24 * p.2) else none)
  atomicCmd ciCiphLineKey q anyState (fun _ => firstErr [wErr (fun f => lineKeyFields.contains f) es, other]) (.lineKey es) s

def execCiphLineKey (q : Req) (es : List WEntry) (s : State) : Host.Outcome State Fault Refusal := .next (effCiphLineKey q es s)

/-- The commit of CIPH_LINE_KEY: the replay windows of a KEY_ID that changes are emptied (R279), a KEY_ID written counts for
R281, and keys now valid re-arm NO_KEY (R278). -/
def commitLineKey (es : List WEntry) (s : State) : State :=
  let ids := wWrites .CIPH_LINE_KEYID_KEY_ID es
  let changed := ids.filter (fun w => s.get .CIPH_LINE_KEYID_KEY_ID w.1 w.2.1 != w.2.2)
  let s := wApplyAll s es
  let s := s.setCipher (fun c =>
    { c with replay := c.replay.filter (fun p => changed.all (fun w => p.1 ≠ w.1 * 8 + w.2.1 ∧ p.1 ≠ w.1 * 8 + 4 + w.2.1)),
             keyIdNew := c.keyIdNew ++ (ids.map (fun w => w.1 * 4 + w.2.1)).filter (fun k => !(c.keyIdNew.contains k)) })
  (wInstances es).foldl (fun s n =>
    (List.range 4).foldl (fun s i =>
      let s := if dnKeyValid s n false i then keyFound n 0 i s else s
      let s := if dnKeyValid s n true i then keyFound n 1 i s else s
      if upKeyValid s n ∧ s.get .CIPH_LINE_CFG_UP_KEY n = i then keyFound n 2 i s else s) s) s

/-- CIPH_INBAND_KEY (R286, R320): names a CMAC slot of the caller's page for in-band commands, and sets its T to 0. -/
def effCiphInbandKey (q : Req) (es : List WEntry) (s : State) : State :=
  let fields : List Fld := [.CIPH_PAGE_INBAND_EN, .CIPH_PAGE_INBAND_SLOT]
  single ciCiphInbandKey q (es.map (·.off)) anyState (fun _ => wErr (fun f => fields.contains f) es)
    (fun s =>
      let t := wApplyAll s es
      let foreign := es.any (fun e => (fieldsAt e.off).any (fun p => p.2.1 ≠ q.user))
      let bad := t.isSet .CIPH_PAGE_INBAND_EN q.user && !(bit (s.keySlot q.user (t.get .CIPH_PAGE_INBAND_SLOT q.user)).use 1)
      if foreign || bad then { state := s, status := stPermission }
      else { state := t.set .CMD_FN_INBAND_TAG 0 q.user }) s

def execCiphInbandKey (q : Req) (es : List WEntry) (s : State) : Host.Outcome State Fault Refusal := .next (effCiphInbandKey q es s)

/-- A host request on a slot of the caller's page (R287): refused by the slot, or for want of a cluster; else `go`. -/
def hostJob (c : CmdInfo) (q : Req) (slot use : Nat) (param : State → Option Nat) (go : Nat → State → Result) (s : State) : State :=
  single c q [] anyState param
    (fun s =>
      match slotRefused s q.user slot use with
      | some (st, d) => { state := s, status := st, detail := d }
      | none =>
        if !(anyCluster s) then { state := s, status := stBusy, detail := 0xFFFF }
        else go ((slotKey s q.user slot).getD 0) (wakeCipher (leastCluster s) (touchSlot q.user slot s))) s

/-- A host request's accesses lie within the caller's windows (R287, R325); a refused one is counted and fails the request. -/
def jobWindows (q : Req) (src dst len : Nat) (go : State → Result) (s : State) : Result :=
  if !(windowOk s q.user src len false) || !(windowOk s q.user dst len true) then
    { state := s.inc .CMD_WIN_DENIED, status := stPermission }
  else go s

/-- CIPH_SEAL (R287): the ciphertext goes to host memory, the tag into the reply (log entry 66). -/
def effCiphSeal (q : Req) (slot iv src dst : Nat) (aad data : List Nat) (s : State) : State :=
  hostJob ciCiphSeal q slot 0 (fun _ => firstErr [want 24 (slot < 256), want 32 (aad.length ≤ 1024 ∧ data.length ≤ 61440)])
    (fun key s =>
      jobWindows q src dst data.length (fun s =>
        { state := s.emit (.hostBytes q.user dst (gcmSeal key iv data)),
          data := words (toBytes 16 (gcmTag key iv aad data)) }) s) s

def execCiphSeal (q : Req) (slot iv src dst : Nat) (aad data : List Nat) (s : State) : Host.Outcome State Fault Refusal :=
  .next (effCiphSeal q slot iv src dst aad data s)

/-- CIPH_OPEN (R287): plaintext is written only when the tag checks. -/
def effCiphOpen (q : Req) (slot iv src dst : Nat) (aad data : List Nat) (tag : Nat) (s : State) : State :=
  hostJob ciCiphOpen q slot 0 (fun _ => firstErr [want 24 (slot < 256), want 32 (aad.length ≤ 1024 ∧ data.length ≤ 61440)])
    (fun key s =>
      jobWindows q src dst data.length (fun s =>
        let plain := gcmSeal key iv data
        if gcmTag key iv aad plain = tag then { state := s.emit (.hostBytes q.user dst plain) }
        else { state := s.inc .CIPH_HOST_OPEN_FAIL, status := stAuthFail }) s) s

def execCiphOpen (q : Req) (slot iv src dst : Nat) (aad data : List Nat) (tag : Nat) (s : State) : Host.Outcome State Fault Refusal :=
  .next (effCiphOpen q slot iv src dst aad data tag s)

/-- CIPH_CMAC (R287): computes a tag, or verifies one. -/
def effCiphCmac (q : Req) (slot src : Nat) (data : List Nat) (verify : Option Nat) (s : State) : State :=
  hostJob ciCiphCmac q slot 1 (fun _ => firstErr [want 24 (slot < 256), want 32 (data.length ≤ 61440)])
    (fun key s =>
      if !(windowOk s q.user src data.length false) then { state := s.inc .CMD_WIN_DENIED, status := stPermission }
      else
        let tag := cmac key data
        match verify with
        | none => { state := s, data := words (toBytes 16 tag) }
        | some v => { state := s, status := if tag = v then stDone else stAuthFail }) s

def execCiphCmac (q : Req) (slot src : Nat) (data : List Nat) (verify : Option Nat) (s : State) : Host.Outcome State Fault Refusal :=
  .next (effCiphCmac q slot src data verify s)

/-- CIPH_CACHE_FLUSH (R276): unpinned entries are emptied at once, each pinned one when its job ends. -/
def effCiphCacheFlush (q : Req) (s : State) : State :=
  single ciCiphCacheFlush q [] anyState anyParam
    (fun s =>
      let pinned := s.cipher.cache.filter (fun e => s.cipher.jobs.any (fun j => j.entry == e))
      { state := (s.setCipher (fun c => { c with cache := pinned, flushing := pinned })).set .CIPH_STATUS_CACHE_FLUSHING
          (b2n (!pinned.isEmpty)) }) s

def execCiphCacheFlush (q : Req) (s : State) : Host.Outcome State Fault Refusal := .next (effCiphCacheFlush q s)

end Sys2Proof.Machine
end

