-- ==== Sys2Proof/Machine/StoreCmd.lean ====
section
/-! DEFINITION. The store's commands (family 0x03 of Table 13.6). -/
namespace Sys2Proof.Machine

open Sys2Proof

def ciStoreImageWrite : CmdInfo := { op := 0x0301, rescue := true, pel := true, parts := [25] }
def ciStoreImageVerify : CmdInfo := { op := 0x0302, rescue := true, pel := true, parts := [25] }
def ciStoreImageActivate : CmdInfo := { op := 0x0303, rescue := true, pel := true, parts := [25] }
def ciStoreImageConfirm : CmdInfo := { op := 0x0304, pel := true, parts := [25] }
def ciStoreInfo : CmdInfo := { op := 0x0305, rescue := true, pel := true, parts := [25] }
def ciStoreScrub : CmdInfo := { op := 0x0306, parts := [25] }
def ciStoreFormat : CmdInfo := { op := 0x0307, rescue := true, modes := .maintRescue, parts := [25] }
def ciStorePageRead : CmdInfo := { op := 0x0308, rescue := true, modes := .maintRescue, parts := [25] }
def ciStorePageProgram : CmdInfo := { op := 0x0309, rescue := true, modes := .maintRescue, parts := [25] }
def ciStoreBlockErase : CmdInfo := { op := 0x030A, rescue := true, modes := .maintRescue, parts := [25] }

/-- The store takes no operation while PFAIL_N holds it (R364): RETRY_BUSY. -/
def storeBody (f : State → Result) (s : State) : Result :=
  if storeHeld s then { state := s, status := stBusy, detail := 25 } else f s

/-- The anchor that is current, or will be once its write ends (R345, R362). -/
def anchorNow (s : State) : Anchor := (anchorLast s).getD {}

/-- LENGTH of an image, from the first bytes of its header (Table 14.8). -/
def imageLength (img : List Nat) : Nat := field img 12 4

/-- The image slot that takes a download (R360), and the bytes it holds. -/
def downSlot (s : State) : Nat := 1 - (anchorNow s).bootSlot
def slotBytes (s : State) (slot : Nat) : List Nat := Tab.get [] s.store.nand.images slot

/-- LENGTH that a chunk runs under: its own header's at OFFSET 0, else the download's. -/
def chunkLength (offset : Nat) (data : List Nat) (s : State) : Nat := if offset = 0 then imageLength data else s.store.length

/-- A chunk fits the download (R360): OFFSET 0 or the bytes written so far, a multiple of 512 bytes but for the chunk that reaches
LENGTH, which may carry up to 7 bytes of padding. -/
def chunkErr (offset : Nat) (data : List Nat) (s : State) : Option Nat :=
  let len := chunkLength offset data s
  let stop := offset + data.length
  firstErr [want 24 (offset = 0 ∨ (s.isSet .STORE_ANCHOR_DOWNLOADING ∧ offset = s.get .STORE_DOWNLOAD_BYTES)),
    want 32 (1 ≤ data.length ∧ data.length ≤ 61440 ∧ data.all (fun b => decide (b < 256))),
    want 32 (stop < len + 8 ∧ stop ≤ 67108864 ∧ (len ≤ stop ∨ data.length % 512 = 0))]

/-- Pages of a slot that a chunk fills begin to be programmed; a block is erased before its first page (R346). -/
def programSlot (slot first : Nat) : Nat → State → State
  | 0, s => s
  | n + 1, s =>
    let (dev, page) := placeOf s (slot * 16384 + first)
    let s := s.when (page % 64 = 0) (blockErased dev (page / 64))
    programSlot slot (first + 1) n (startOp ⟨.image slot, dev, page⟩ 1 s)

/-- STORE_IMAGE_WRITE (R360, R362): into the slot that is not BOOT_SLOT. -/
def effStoreImageWrite (q : Req) (offset : Nat) (data : List Nat) (s : State) : State :=
  single ciStoreImageWrite q [] (needs (fun s => storeOpen s && !(anchorNow s).trial)) (chunkErr offset data)
    (storeBody (fun s =>
      if journalStopped s then { state := s, status := stNoSpace }
      else
        let slot := downSlot s
        let len := chunkLength offset data s
        let s := s.when (offset = 0 ∧ (anchorNow s).fallback) (anchorWrite (fun a => { a with fallback := false }) [])
        let upto := min (offset + data.length) len
        let img := ((if offset = 0 then [] else slotBytes s slot) ++ data).take len
        let done := decide (len ≤ upto)
        let pages := (if done then ceilDiv upto 4096 else upto / 4096) - offset / 4096
        let s := s.setNand (fun n => { n with images := Tab.put [] n.images slot img })
        let s := s.setStore (fun x => { x with length := len })
        let s := s.setAll [(.STORE_DOWNLOAD_BYTES, upto), (.STORE_ANCHOR_VERIFIED, 0), (.STORE_ANCHOR_DOWNLOADING, b2n !done)]
        { state := programSlot slot (offset / 4096) pages s })) s

def execStoreImageWrite (q : Req) (offset : Nat) (data : List Nat) (s : State) : Host.Outcome State Fault Refusal :=
  .next (effStoreImageWrite q offset data s)

/-- Bits of a number that are 1, of the low n. -/
def popCount (n v : Nat) : Nat := ((List.range n).filter (bit v)).length

/-- The count of blown VERSION bits (R335, Table 14.2). -/
def blownVersion (s : State) : Nat :=
  ((List.range 8).map (fun k => popCount 32 (Tab.get 0 s.fuses.inUse (32 + k)))).foldl (· + ·) 0

/-- The first SIGNER word without a value in use (Table 14.2). -/
def signerLost (s : State) : Option Nat := s.fuses.lost.find? (fun w => decide (20 ≤ w ∧ w ≤ 31))

/-- An image verifies (R359). -/
def imageOk (img : List Nat) (s : State) : Bool :=
  field img 0 8 == 0x4F58494D41474531 && field img 8 4 == 1 && decide (8192 ≤ imageLength img ∧ imageLength img ≤ 67108864) &&
  decide (imageLength img ≤ img.length) && field img 25 1 == 0xB1 && decide (blownVersion s ≤ field img 24 1) &&
  (signerLost s).isNone && Config.imageVerifies ((List.range 12).map (fun k => Tab.get 0 s.fuses.inUse (20 + k))) img

/-- A slot holds a whole image (R360, Table 14.9: a download that reached LENGTH stays complete across a power failure). -/
def slotComplete (img : List Nat) : Bool := !img.isEmpty && decide (imageLength img ≤ img.length)

/-- STORE_IMAGE_VERIFY (R360): the slot that is not BOOT_SLOT. -/
def effStoreImageVerify (q : Req) (s : State) : State :=
  single ciStoreImageVerify q []
    (needs (fun s => storeOpen s && !(s.isSet .STORE_ANCHOR_DOWNLOADING) && slotComplete (slotBytes s (downSlot s)))) anyParam
    (storeBody (fun s =>
      let img := slotBytes s (downSlot s)
      match signerLost s with
      | some w => { state := s, status := stDoubtful, detail := w }
      | none =>
        let s := pagesRead (ceilDiv img.length 4096) s
        if imageOk img s then { state := s.set .STORE_ANCHOR_VERIFIED 1, data := [field img 16 8] }
        else { state := s, status := stAuthFail })) s

def execStoreImageVerify (q : Req) (s : State) : Host.Outcome State Fault Refusal := .next (effStoreImageVerify q s)

/-- STORE_IMAGE_ACTIVATE (R360): needs VERIFIED 1 and TRIAL 0. The slot verified is then BOOT_SLOT, so that VERIFIED, which speaks
of the other, falls (log entry 81). -/
def effStoreImageActivate (q : Req) (s : State) : State :=
  single ciStoreImageActivate q []
    (needs (fun s => storeOpen s && s.isSet .STORE_ANCHOR_VERIFIED && !(anchorNow s).trial)) anyParam
    (storeBody (fun s =>
      let slot := downSlot s
      let seq := (anchorNow s).seq + 1
      let v := field (slotBytes s slot) 16 8
      let s := anchorWrite (fun a => { a with bootSlot := slot, trial := true, trialCount := 0, fallback := true, versions := a.versions.set slot v })
        [⟨0x0301, [slot, seq % 2 ^ 32], []⟩] s
      { state := s.setAll [(.STORE_ANCHOR_VERIFIED, 0), (.STORE_DOWNLOAD_BYTES, 0)], data := [seq] })) s

def execStoreImageActivate (q : Req) (s : State) : Host.Outcome State Fault Refusal := .next (effStoreImageActivate q s)

/-- VERSION fuses as a thermometer of n bits, from bit 0 of word 32 on (R335, R360): bits are only ever blown. -/
def blowVersion (n : Nat) (s : State) : State :=
  { s with fuses := { s.fuses with
      words := (List.range 8).foldl (fun t k =>
        Tab.put 0 t (32 + k) (Tab.get 0 t (32 + k) ||| (2 ^ (min 32 (n - 32 * k)) - 1))) s.fuses.words } }

/-- STORE_IMAGE_CONFIRM (R360): only while a trial image runs. -/
def effStoreImageConfirm (q : Req) (s : State) : State :=
  single ciStoreImageConfirm q []
    (needs (fun s => storeOpen s && !s.inRescue && (anchorNow s).trial && (anchorNow s).bootSlot == s.get .SYS_BOOT_SLOT)) anyParam
    (storeBody (fun s =>
      let slot := (anchorNow s).bootSlot
      { state := blowVersion (s.get .SYS_ID_SEC_VERSION) (anchorWrite (fun a => { a with trial := false }) [⟨0x0302, [slot], []⟩] s) })) s

def execStoreImageConfirm (q : Req) (s : State) : Host.Outcome State Fault Refusal := .next (effStoreImageConfirm q s)

/-- First logical page and pages of the areas after the anchor (Table 14.3): A, B, settings, permanent, circulating, tail, and the
snapshot area that takes the rest. -/
def storeAreas (s : State) : List (Nat × Nat) :=
  let total := (List.range (storeDevs s)).foldl (fun a d =>
    a + (storeBlocks s - (spares s d).length - (if d = 0 then 2 else 0)) * 64) 0
  [(0, 16384), (16384, 16384), (32768, 8192), (40960, 256), (41216, 16896), (58112, 1536), (59648, total - 59648)]

/-- STORE_INFO (R342, R347 to R349): the areas at INDEX 0 to 6, then a word for each device, each retired block and each block with
an erase count (log entry 82). -/
def effStoreInfo (q : Req) (s : State) : State :=
  single ciStoreInfo q [] anyState anyParam
    (storeBody (fun s =>
      let areas := (storeAreas s).zipIdx.map (fun p => (p.2, [p.1.1 * 2 ^ 32 + p.1.2]))
      let devs := (List.range (storeDevs s)).map (fun d => (7 + d, [storeBlocks s]))
      let bad := s.store.nand.retired.map (fun k => (2 ^ 32 + k, [1]))
      let wear := s.store.nand.erases.map (fun p => (2 ^ 33 + p.1, [p.2]))
      { state := s, data := formR (areas ++ devs ++ bad ++ wear) })) s

def execStoreInfo (q : Req) (s : State) : Host.Outcome State Fault Refusal := .next (effStoreInfo q s)

/-- Blocks that hold data: neither spare nor retired. -/
def dataBlocks (s : State) : Nat :=
  (List.range (storeDevs s)).foldl (fun a d =>
    a + (storeBlocks s - (spares s d).length - (s.store.nand.retired.filter (fun k => k / 8192 == d)).length)) 0

/-- STORE_SCRUB (R347): a full pass is queued. -/
def effStoreScrub (q : Req) (s : State) : State :=
  single ciStoreScrub q [] (needs storeOpen) anyParam
    (storeBody (fun s =>
      let n := dataBlocks s
      { state := (s.setStore (fun x => { x with scrubLeft := n })).set .STORE_STATUS_SCRUBBING (b2n (decide (n ≠ 0))), data := [n] })) s

def execStoreScrub (q : Req) (s : State) : Host.Outcome State Fault Refusal := .next (effStoreScrub q s)

/-- A physical block holds pages of the event areas of a readable store (R350). -/
def eventBlock (s : State) (dev block : Nat) : Bool :=
  match logicalOf s dev block with
  | some lb => decide (lb * 64 * storeDevs s < 59648 ∧ 40960 < (lb + 1) * 64 * storeDevs s)
  | none => false

/-- A block is protected from raw programs and erases, and kept by STORE_FORMAT (R350). -/
def keptBlock (s : State) (dev block : Nat) : Bool :=
  (dev == 0 && decide (block < 2)) || ((anchorLast s).isSome && eventBlock s dev block)

/-- Spare blocks of a device after a format: the highest-numbered good blocks, max(16, 3 %) of them (R342, log entry 55). -/
def freshSpares (n : Nand) (blocks dev : Nat) : List Nat :=
  ((List.range blocks).reverse.filter (fun b => !(n.retired.contains (dev * 8192 + b)))).take (max 16 (ceilDiv (3 * blocks) 100))

/-- Logical blocks whose place under a format is not a good block take spares: the map skips retired blocks. -/
def freshMap (n : Nand) (blocks dev : Nat) (spare : List Nat) : Tab Nat :=
  let off := if dev = 0 then 2 else 0
  let good := (List.range blocks).filter (fun b => off ≤ b && !(n.retired.contains (dev * 8192 + b)) && !(spare.contains b))
  good.zipIdx.foldl (fun t p => if p.1 = p.2 + off then t else Tab.put 0 t (dev * 8192 + p.2) (p.1 + 1)) []

/-- STORE_FORMAT (R350): every area is erased and rebuilt. With a current anchor the event areas, their block map and the
packet-number marks stand. -/
def formatStore (s : State) : State :=
  let n := s.store.nand
  let readable := (anchorLast s).isSome
  let devs := List.range (storeDevs s)
  let blocks := storeBlocks s
  let seq := ((anchorLast s).map (·.seq + 1)).getD 0
  let erased := devs.flatMap (fun d => ((List.range blocks).filter (fun b =>
    !(n.retired.contains (d * 8192 + b)) && !(readable && eventBlock s d b))).map (fun b => (d, b)))
  let s := erased.foldl (fun s p => blockErased p.1 p.2 s) s
  let s := s.setNand (fun n =>
    { n with images := [], keys := [], secrets := [], mode := 0,
             marks := if readable then n.marks else [],
             permanent := if readable then n.permanent else [], circulating := if readable then n.circulating else [],
             tail := if readable then n.tail else [],
             spare := if readable then n.spare else devs.foldl (fun t d => Tab.put [] t d (freshSpares n blocks d)) [],
             map := if readable then n.map else devs.flatMap (fun d => freshMap n blocks d (freshSpares n blocks d)),
             pos := if readable then Tab.put 0 (Tab.put 0 n.pos 0 0) 4 0 else [],
             anchor := some { seq := seq } })
  let pages := anchorPages s
  let s := s.setNand (fun n => { n with pos := Tab.put 0 n.pos 4 pages })
  let s := { s with journal := {}, tables := { s.tables with copies := [], newest := 0 } }
  let s := (List.range 4).foldl (fun s k => s.setTerm k (fun t => { t with joined := false })) s
  let s := (s.bump .STORE_PAGES_PROGRAMMED pages).set .STORE_STATUS_OPEN 1
  let s := s.setAll [(.STORE_DOWNLOAD_BYTES, 0), (.STORE_ANCHOR_VERIFIED, 0), (.STORE_ANCHOR_DOWNLOADING, 0)]
  let s := anchorShow (devs.foldl (fun s d => devShow d s) s)
  let s := if readable then (List.range 4).foldl (fun s k =>
      if Tab.get 0 s.store.nand.marks k = 0 then s else journalAdd 2 0 [k] 40 0 s) s else s
  if s.isSet .EVT_STATUS_RUNNING then s else recorderStart s

/-- STORE_FORMAT (R350): the devices named must be those present. -/
def effStoreFormat (q : Req) (mask : Nat) (s : State) : State :=
  single ciStoreFormat q [] (needs (fun s => decide (4096 ≤ storeDevs s * storeBlocks s) && s.get .STORE_STATUS_BLOCKS != 0))
    (fun s => want 24 (mask = s.get .STORE_STATUS_PRESENT))
    (storeBody (fun s =>
      match rootDoubtWord s with
      | some w => { state := s, status := stDoubtful, detail := w }
      | none => { state := formatStore s })) s

def execStoreFormat (q : Req) (mask : Nat) (s : State) : Host.Outcome State Fault Refusal := .next (effStoreFormat q mask s)

/-- Device and page, or block, of a raw command (R350). -/
def rawErr (dev unit limit : Nat) (s : State) : Option Nat :=
  firstErr [want 24 (dev < 4 ∧ bit (s.get .STORE_STATUS_PRESENT) dev), want 32 (unit < s.get .STORE_STATUS_BLOCKS * limit)]

/-- STORE_PAGE_READ (R350): the reply waits for the read. -/
def effStorePageRead (q : Req) (dev page : Nat) (s : State) : State :=
  checked ciStorePageRead q anyState (rawErr dev page 64)
    (fun s => if storeHeld s then reject ciStorePageRead q stBusy 25 s else startOp ⟨.rawRead q, dev, page⟩ 0 s) s

def execStorePageRead (q : Req) (dev page : Nat) (s : State) : Host.Outcome State Fault Refusal := .next (effStorePageRead q dev page s)

/-- STORE_PAGE_PROGRAM (R346, R350). -/
def effStorePageProgram (q : Req) (dev page : Nat) (data : List Nat) (s : State) : State :=
  checked ciStorePageProgram q (needs (fun s => !(keptBlock s dev (page / 64))))
    (fun s => firstErr [rawErr dev page 64 s, want 40 (data.length = 4352 ∧ data.all (fun b => decide (b < 256)))])
    (fun s =>
      if storeHeld s then reject ciStorePageProgram q stBusy 25 s
      else
        match rootDoubtWord s with
        | some w => reject ciStorePageProgram q stDoubtful w s
        | none => startOp ⟨.rawProgram q data, dev, page⟩ 1 s) s

def execStorePageProgram (q : Req) (dev page : Nat) (data : List Nat) (s : State) : Host.Outcome State Fault Refusal :=
  .next (effStorePageProgram q dev page data s)

/-- STORE_BLOCK_ERASE (R350). -/
def effStoreBlockErase (q : Req) (dev block : Nat) (s : State) : State :=
  checked ciStoreBlockErase q (needs (fun s => !(keptBlock s dev block))) (rawErr dev block 1)
    (fun s =>
      if storeHeld s then reject ciStoreBlockErase q stBusy 25 s
      else
        match rootDoubtWord s with
        | some w => reject ciStoreBlockErase q stDoubtful w s
        | none => startOp ⟨.rawErase q, dev, block * 64⟩ 2 s) s

def execStoreBlockErase (q : Req) (dev block : Nat) (s : State) : Host.Outcome State Fault Refusal := .next (effStoreBlockErase q dev block s)

end Sys2Proof.Machine
end

