-- ==== Sys2Proof/Machine/TreeCmd.lean ====
section
/-! DEFINITION. The tree commands of Table 3.10. -/
namespace Sys2Proof.Machine

open Sys2Proof

def ciTreeJoin (n : Nat) : CmdInfo := { op := 0x0501, modes := .notMaint, persist := true, parts := [n] }
def ciTreeLeave (n : Nat) : CmdInfo := { op := 0x0502, persist := true, parts := [n] }
def ciTreeConfig : CmdInfo := { op := 0x0503, persist := true, parts := [0, 1, 2, 3] }
def ciTreeDoze (n : Nat) : CmdInfo := { op := 0x0504, modes := .notMaint, parts := [n] }
def ciTreeWake (n : Nat) : CmdInfo := { op := 0x0505, parts := [n] }
def ciTreeGuardRelease (n : Nat) : CmdInfo := { op := 0x0506, parts := [n] }
def ciTreeDark (n : Nat) : CmdInfo := { op := 0x0507, parts := [n] }
def ciTreeMsgRead (n : Nat) : CmdInfo := { op := 0x0508, parts := [n] }

/-- A port number that names a port stands in a state that a rule accepts; a wrong number is left to the parameter check. -/
def inTree (n : Nat) (ok : Nat → Bool) (s : State) : Bool := decide (4 ≤ n) || ok (s.tree n)

/-- TREE_JOIN's unit state: a serial of the port with no value in use (R337), else OFFLINE or DEPOSED (R80). -/
def joinState (n : Nat) (s : State) : Option (Nat × Nat) :=
  match s.fuses.lost.find? (fun w => w / 2 == 2 + n) with
  | some w => if n < 4 then some (stDoubtful, w) else none
  | none => if inTree n (fun t => t == tsOffline || t == tsDeposed) s then none else some (stState, 0)

/-- TREE_JOIN (R80): from OFFLINE or DEPOSED to LISTEN; from OFFLINE Dill starts unless the control subcarrier is in SYNC. -/
def effTreeJoin (q : Req) (n : Nat) (s : State) : State :=
  single (ciTreeJoin n) q [n] (joinState n) (fun _ => want 16 (n < 4))
    (fun s =>
      let dill := s.tree n == tsOffline && !(controlSync n s) && !(s.isSet .LINE_STATUS_SEARCHING n)
      let s := setTree n tsListen 0x0501 (s.setTerm n (fun t => { t with joined := true }))
      { state := s.when dill (startSearch n 0x0501) }) s

def execTreeJoin (q : Req) (n : Nat) (s : State) : Host.Outcome State Fault Refusal := .next (effTreeJoin q n s)

/-- TREE_LEAVE (R80): to OFFLINE; a burst ramps down, pending grants are discarded, identity and profiles cleared. -/
def execTreeLeave (q : Req) (n : Nat) (s : State) : Host.Outcome State Fault Refusal :=
  .next (single (ciTreeLeave n) q [n] anyState (fun _ => want 16 (n < 4))
    (fun s =>
      let s := s.setTerm n (fun t => { t with joined := false, afterOutage := false })
      { state := if s.tree n = tsOffline then s
          else setTree n tsOffline 0x0502 (clearProfiles n (abandonPresence n s)) }) s)

/-- The registers TREE_CONFIG names. -/
def treeConfigAllow (f : Fld) : Bool :=
  f ∈ [Fld.LINE_TREE_TIMERS_BACKOFF_MAX, .LINE_TREE_TIMERS_ASSIGN_WAIT, .LINE_TREE_TIMERS_RANGING_TIMEOUT,
    .LINE_TREE_TIMERS_REREG_LIMIT, .LINE_TREE_TIMERS_RESUME_LIMIT, .LINE_TREE_CFG_HOST_DARK,
    .LINE_TREE_CFG_AUTO_RELEASE_SYNC, .LINE_TREE_CFG_AUTO_REJOIN, .LINE_TREE_FILTER_ENABLE, .LINE_TREE_FILTER_TREE,
    .LINE_TREE_FILTER_SYSTEM_ID, .LINE_TREE_DOZE_WAKE_THRESHOLD]

/-- The ports whose filter a list of entries writes. -/
def filterPorts (es : List WEntry) : List Nat :=
  [Fld.LINE_TREE_FILTER_ENABLE, .LINE_TREE_FILTER_TREE, .LINE_TREE_FILTER_SYSTEM_ID].flatMap
    (fun f => (wWrites f es).map (·.1))

/-- The host dark condition has been written (R79, R80): it arises or ends. -/
def hostDarkChanged (n op : Nat) (before : State) (s : State) : State :=
  let was := before.isSet .LINE_TREE_CFG_HOST_DARK n
  let is_ := s.isSet .LINE_TREE_CFG_HOST_DARK n
  if is_ && !was then darkArises n op s else if was && !is_ then darkMayEnd n op s else s

/-- TREE_CONFIG (R106): timers, TREE_CFG, the filter (in OFFLINE only) and WAKE_THRESHOLD. -/
def execTreeConfig (q : Req) (es : List WEntry) (s : State) : Host.Outcome State Fault Refusal :=
  .next (single ciTreeConfig q (es.map (·.off))
    (needs (fun s => (filterPorts es).all (fun n => s.tree n == tsOffline)))
    (fun _ => wErr treeConfigAllow es)
    (fun s => { state := (List.range 4).foldl (fun t n => hostDarkChanged n 0x0503 s t) (wApplyAll s es) }) s)

/-- TREE_DOZE (R99): requests doze in MEMBER. -/
def execTreeDoze (q : Req) (n : Nat) (s : State) : Host.Outcome State Fault Refusal :=
  .next (single (ciTreeDoze n) q [n] (needs (inTree n (· == tsMember))) (fun _ => want 16 (n < 4))
    (fun s => { state := s.set .LINE_TREE_DOZE_REQUESTED 1 n }) s)

/-- TREE_WAKE (R100): the next check-in burst carries DOZE 0, and MEMBER follows when it ends. -/
def execTreeWake (q : Req) (n : Nat) (s : State) : Host.Outcome State Fault Refusal :=
  .next (single (ciTreeWake n) q [n] (needs (inTree n (· == tsDozing))) (fun _ => want 16 (n < 4))
    (fun s => { state := wakeRequest n 0x0505 s }) s)

/-- TREE_GUARD_RELEASE (R103): releases the named causes when every one is latched and its condition clear. That a command which names
no cause succeeds, and raises BAY_RELEASE with none, is the model's choice (log entry 126). -/
def execTreeGuardRelease (q : Req) (n causes : Nat) (s : State) : Host.Outcome State Fault Refusal :=
  .next (single (ciTreeGuardRelease n) q [n]
    (needs (fun s => decide (4 ≤ n ∨ 32 ≤ causes) ||
      ((s.get .LINE_BAY_LATCHED n &&& causes) == causes && (s.get .LINE_BAY_PRESENT n &&& causes) == 0)))
    (fun _ => firstErr [want 16 (n < 4), want 24 (causes < 32)])
    (fun s => { state := bayRelease n causes 0x0506 s }) s)

/-- TREE_DARK (R79, R80): sets or clears the host dark condition. -/
def execTreeDark (q : Req) (n : Nat) (on : Bool) (s : State) : Host.Outcome State Fault Refusal :=
  .next (single (ciTreeDark n) q [n] anyState (fun _ => want 16 (n < 4))
    (fun s => { state := hostDarkChanged n 0x0507 s (s.set .LINE_TREE_CFG_HOST_DARK (b2n on) n) }) s)

/-- A tree message as its 64-byte function field (R55). -/
def msgBytes (bcast : Bool) (tid epoch type blen : Nat) (body : List Nat) : List Nat :=
  toBytes 2 (b2n bcast * 32768 + tid % 512) ++ toBytes 2 epoch ++ [type % 256, blen % 256] ++
    (body ++ List.replicate 54 0).take 54

/-- TREE_MSG_READ (R55, R106): up to 16 queued HOST messages leave the queue and are returned, each as its 64-byte field
(log entry 29). -/
def execTreeMsgRead (q : Req) (n : Nat) (s : State) : Host.Outcome State Fault Refusal :=
  .next (single (ciTreeMsgRead n) q [n] anyState (fun _ => want 16 (n < 4))
    (fun s =>
      let out := (s.frame n).msgs.take 16
      let rec_ (m : HostMsg) : List Nat :=
        let b := msgBytes m.bcast m.tid m.epoch m.type m.body.length m.body
        words (b ++ toBytes 4 (crc32c b))
      { state := s.setFrame n (fun f => { f with msgs := f.msgs.drop 16 }),
        data := formR (out.map (fun m => (0, rec_ m))) }) s)

end Sys2Proof.Machine
end

