-- ==== Sys2Proof/Machine/BootEvt.lean ====
section
/-! DEFINITION. The boot's steps (Table 14.7), the fuses, and what happens in the external store. -/
namespace Sys2Proof.Machine

open Sys2Proof

/-- The class of a fuse word, as its bit of CLASS_DOUBT (Tables 14.1, 14.13): ID, SERIAL, KEY, SIGNER, VERSION, TRIM, REPAIR;
7 for the unprogrammed words. -/
def fuseClass (w : Nat) : Nat :=
  if w < 4 then 0 else if w < 12 then 1 else if w < 20 then 2 else if w < 32 then 3 else if w < 40 then 4
  else if w < 224 then 5 else if w < 496 then 6 else 7

/-- A word's doubt is marked in `SYS.FUSE_DOUBT` (Table 14.14). -/
def markDoubt (w : Nat) (s : State) : State :=
  s.set .SYS_FUSE_DOUBT_WORDS (withBit (s.get .SYS_FUSE_DOUBT_WORDS (w / 64)) (w % 64) true) (w / 64)

/-- One word doubtful at boot (R337, Table 14.2): the value in use, if any. Which read a TRIM default or a REPAIR self-test gives is
not the manual's to say: a free value, and a free choice of the two reads. -/
def doubtWord (d : Nat × Nat × Nat) (s : State) : State :=
  let (w, lo, hi) := d
  let c := fuseClass w
  let lost := c == 1 || c == 2 || c == 3
  let v := if lost then 0 else if c = 4 then lo ||| hi else if c = 5 then s.free % 2 ^ 32
    else if c = 6 then (if s.free % 2 = 0 then lo else hi) else lo
  let s := if c = 5 ∨ c = 6 then s.took else s
  let s := { s with fuses := { s.fuses with inUse := Tab.put 0 s.fuses.inUse w (v % 2 ^ 32),
                                            lost := if lost then s.fuses.lost ++ [w] else s.fuses.lost } }
  let s := (markDoubt w s).set .SYS_FUSE_STATUS_DOUBTFUL (min 255 (s.get .SYS_FUSE_STATUS_DOUBTFUL + 1))
  let s := if c < 7 then s.set .SYS_FUSE_STATUS_CLASS_DOUBT (withBit (s.get .SYS_FUSE_STATUS_CLASS_DOUBT) c true) else s
  s.raise 0x0106 [w, 0]

/-- A fuse word as it is in use (R338). -/
def fuseWord (s : State) (w : Nat) : Nat := Tab.get 0 s.fuses.inUse w

/-- Step 2 (R336, R337, R339, R285): margin reads. Clusters whose memory fails under both repair reads are held and reported. -/
def bootFuses (b : BootIn) (s : State) : State :=
  let s := { s with fuses := { s.fuses with inUse := s.fuses.words, lost := [] } }
  let s := (b.doubt.filter (fun d => decide (d.1 < 512))).foldl (fun s d => doubtWord d s) s
  let s := s.fuses.inUse.foldl (fun s p => if 12 ≤ p.1 ∧ p.1 ≤ 19 then s else s.set .SYS_FUSE_VALUE p.2 p.1) s
  let s := s.set .SYS_DEVICE_ID_ID (fuseWord s 0 * 2 ^ 32 + fuseWord s 1)
  let s := (List.range 4).foldl (fun s n =>
    let lost := s.fuses.lost.any (fun w => w / 2 == 2 + n)
    let v := if lost then 0 else fuseWord s (4 + 2 * n) * 2 ^ 32 + fuseWord s (5 + 2 * n)
    s.setAll [(.LINE_TREE_SERIAL_SERIAL, v), (.LINE_TREE_ID_SERIAL_TAG, crc32c (toBytes 8 v))] n) s
  let keyLost := s.fuses.lost.any (fun w => decide (12 ≤ w ∧ w ≤ 19))
  let root := (List.range 8).foldl (fun a k => a * 2 ^ 32 + fuseWord s (12 + k)) 0
  let s := (s.setCipher (fun c => { c with rootKey := if keyLost then 0 else root })).set .CIPH_STATUS_ROOT_STATE (if keyLost then 2 else 1)
  let s := (s.setAll [(.SYS_FUSE_STATUS_DONE, 1), (.SYS_FUSE_STATUS_BAND, s.free % 9)]).took
  (b.failed.filter (fun c => decide (c ≤ 26))).foldl (fun s c => reportUnit c 9 0 [] (s.set .FLT_RECOVERY_HELD 1 c)) s

/-- The store's devices answer and fit (R340): as many as come before the first that differs from none, all alike, 4,096 blocks. -/
def storeFits (devices : List Nat) : Bool :=
  match devices with
  | [] => false
  | b :: r => r.all (· == b) && decide (r.length < 4) && decide (1024 ≤ b ∧ b ≤ 8192) && decide (4096 ≤ b * (r.length + 1))

/-- Step 3 (R340, R341): device IDs; factory-marked blocks count as retired. -/
def bootStore (b : BootIn) (s : State) : State :=
  let devs := b.devices.take 4
  let marks := (b.bad.filter (fun p => decide (p.1 < devs.length ∧ p.2 < devs.headD 0 ∧ !(p.1 = 0 ∧ p.2 < 2)))).map (fun p => p.1 * 8192 + p.2)
  let s := s.setNand (fun n => { n with devices := devs, retired := n.retired ++ marks.filter (fun k => !(n.retired.contains k)) })
  let s := s.setAll [(.STORE_STATUS_PRESENT, 2 ^ devs.length - 1), (.STORE_STATUS_BLOCKS, devs.headD 0)]
  (List.range devs.length).foldl (fun s d => devShow d s) s

/-- The device boots into RESCUE (R358): reasons 1 to 6 of Table 14.12. The recorder runs where the store is open. -/
def toRescue (reason : Nat) (s : State) : State :=
  let s := s.setAll [(.SYS_BOOT_KIND, 2), (.SYS_BOOT_RESCUE_REASON, reason)]
  if storeOpen s ∧ !(s.isSet .EVT_STATUS_RUNNING) then recorderStart s else s

/-- The store's keys under a root (R274, R284); none where they are equal, which makes the store unusable. -/
def deriveStoreKeys (root : Nat) : Option (Nat × Nat) :=
  let k (purpose : Nat) : Nat := kdf root ([purpose, 1] ++ List.replicate 30 0)
  if k 2 = k 3 then none else some (k 2, k 3)

/-- The store's keys are derived and pinned (R284, R285). -/
def pinStoreKeys (s : State) : State :=
  if s.get .CIPH_STATUS_ROOT_STATE ≠ 1 then s
  else (s.setCipher (fun c => { c with storeKeys := deriveStoreKeys c.rootKey })).bump .CIPH_DERIVATIONS 2

/-- Step 4 (R284, R345, R355, R358): store keys, the current anchor, the kind of the boot. Equal store keys are taken as a doubtful root
key is (R284, R285). -/
def bootAnchor (s : State) : State :=
  let s := pinStoreKeys s
  let rootOk := s.cipher.storeKeys.isSome
  let fits := storeFits s.store.nand.devices
  let opened := rootOk && fits && s.store.nand.anchor.isSome
  let s := anchorShow (s.set .STORE_STATUS_OPEN (b2n opened))
  let r := s.power.restart
  let kind := (r - 1) % 4
  if r ≠ 0 ∧ kind = 2 then toRescue 6 s
  else if !rootOk then toRescue 1 s
  else if (signerLost s).isSome then toRescue 2 s
  else if !fits then toRescue 3 s
  else if !opened then toRescue 4 s
  else s.set .SYS_BOOT_KIND (if s.tables.newest ≠ 0 ∧ (r = 0 ∨ kind = 1) then 1 else 0)

/-- A revert (R361): the fallback slot becomes BOOT_SLOT; reason 0 trials used up, 1 verification. -/
def revertImage (reason : Nat) (s : State) : State :=
  let slot := 1 - (anchorNow s).bootSlot
  (anchorWrite (fun a => { a with bootSlot := slot, trial := false, fallback := false }) [⟨0x0303, [slot, reason], []⟩] s).set .SYS_BOOT_CAUSE 2

/-- Step 5 (R361): a trial boot counts, or the fourth reverts. -/
def bootTrial (s : State) : State :=
  let a := anchorNow s
  if !a.trial then s
  else if a.trialCount < 3 then
    anchorWrite (fun a => { a with trialCount := a.trialCount + 1 }) [⟨0x0304, [a.trialCount + 1], []⟩] s
  else revertImage 0 s

/-- The image of a slot is entered (R359, Tables 20.3 and 14.12). -/
def enterImage (slot : Nat) (s : State) : State :=
  let img := slotBytes s slot
  s.setAll [(.SYS_BOOT_SLOT, slot), (.SYS_IMAGE_MAJOR, field img 16 2), (.SYS_IMAGE_MINOR, field img 18 2), (.SYS_IMAGE_BUILD, field img 20 4),
    (.SYS_ID_SEC_VERSION, field img 24 1)]

/-- Step 6 (R359, R361, R358): the boot slot is read and verified; where it fails, the fallback, if there is one. -/
def bootImage (s : State) : State :=
  let a := anchorNow s
  let verify (slot : Nat) (s : State) : State × Bool :=
    let img := slotBytes s slot
    (pagesRead (ceilDiv img.length 4096) s, imageOk img s)
  let (s, ok) := verify a.bootSlot s
  if ok then enterImage a.bootSlot s
  else if a.fallback then
    let s := revertImage 1 s
    let (s, ok) := verify (1 - a.bootSlot) s
    if ok then enterImage (1 - a.bootSlot) s else toRescue 5 s
  else toRescue 5 s

/-- Step 8 (R200, R282, R288, R354, R386): the journal is read: the operating mode with its split of HBM, persisted keys and secrets; a warm boot's pipeline
clusters wait for the snapshot. -/
def bootJournal (s : State) : State :=
  let n := s.store.nand
  let m := if n.mode = 0 then s.mode else n.mode - 1
  let s := (pagesRead s.free s).took
  let s := s.setAll [(.PWR_MODE_CURRENT, m), (.TBL_STATE_EXT_BUCKETS_LOG2, if m = 3 then 26 else 25), (.SW_RELEASE_BEHAVIOUR, if m = 0 then 0 else if m = 2 then 2 else 1), (.TEST_STATUS_MAINT, b2n (m == 5))]
  let s := s.setCipher (fun c => { c with slots := n.keys, secrets := n.secrets, keyIdNew := [] })
  let s := (List.range 33).foldl (fun s u => s.set .CIPH_PAGE_SLOTS_USED (n.keys.filter (fun p => p.1 / 256 == u)).length u) s
  let s := n.secrets.foldl (fun s p => s.set .CIPH_LINE_CFG_SECRET_VALID (b2n p.2.persist) p.1) s
  if s.get .SYS_BOOT_KIND = 1 then s.setCls (fun c => { c with loading := (List.range 8).map (fun p => (p, 1)) }) else s

/-- Step 9 (R233, R373): rails, DVFS and HBM training complete; clusters released, and every destination flushed. -/
def bootPower (s : State) : State :=
  flushAll <| dvfsSetting (s.setAll [(.CIPH_STATUS_CLUSTERS_ON, modeClusters s.mode), (.PWR_CLK_LOCKED, 255), (.PWR_CLK_LCLK_LOCKED, 15)])

/-- The highest PN_MARK of a port in the event log, 0 for none (R281, Table 11.4). -/
def loggedMark (n : Nat) (s : State) : Nat :=
  let d := s.store.nand
  (d.permanent ++ d.circulating.flatten ++ d.tail.flatten).foldl (fun m r =>
    match r.code, r.words with
    | 0x0C06, [p, hi, lo] => if p = n then max m (hi * 2 ^ 32 + lo) else m
    | _, _ => m) 0

/-- A port's packet-number counter at boot (R280, R281): at the higher of the mark in the journal and the highest in the log, or at 1 with
PN_FRESH; a new mark above it. -/
def bootPn (n : Nat) (s : State) : State :=
  let m := max (Tab.get 0 s.store.nand.marks n) (loggedMark n s)
  let fresh := m == 0
  let pn := if fresh then 1 else m
  let s := s.setAll [(.CIPH_LINE_PN_NEXT_PN, pn), (.CIPH_LINE_PN_MARK_MARK, pn)] n
  let s := s.set .CIPH_STATUS_PN_FRESH (withBit (s.get .CIPH_STATUS_PN_FRESH) n fresh)
  effPnReserve n true 0 s

/-- Step 10 (R240, R280, R354): settings have been replayed; marks advanced; TREE_JOIN to every joined port. -/
def bootSettings (s : State) : State :=
  let gib := s.get .BPM_STATUS_REGION_GIB
  let s := (List.range 4).foldl (fun s n => bootPn n s) { s with sw := { s.sw with regionGib := gib } }
  (List.range 4).foldl (fun s n => if (s.term n).joined then effTreeJoin ⟨.journal, 0, 0, false, 0⟩ n s else s) s

/-- Step 11 (R356, R358): commands are accepted, BOOT_DONE. A RAIL_TIMEOUT latched in the always-on domain is reported by a boot that
succeeds (R368, R402). -/
def bootDone (s : State) : State :=
  let ms := (s.now - s.power.bootAt) / uMs
  let rescue := s.inRescue
  let s := s.setAll [(.SYS_BOOT_PHASE, 11), (.SYS_BOOT_READY_MS, ms), (.PWR_STATE_STATE, 2), (.PWR_STATE_PHASE, 0)]
  let s := (s.raise 0x0105 [s.get .SYS_BOOT_KIND, s.get .SYS_BOOT_CAUSE, ms]).raise 0x0201 [2, 1]
  let s := s.when (s.power.railLatched && !rescue) (fun s => s.raise 0x0207 [])
  let s := s.setPower (fun w => { w with restart := 0, railLatched := w.railLatched && rescue })
  takeRequest (s.setCmd (fun c => { c with accepting := true }))

/-- The steps 2 to 10 of Table 14.7. -/
def bootStep (b : BootIn) (n : Nat) (s : State) : State :=
  match n with
  | 2 => bootFuses b s
  | 3 => bootStore b s
  | 4 => bootAnchor s
  | 5 => bootTrial s
  | 6 => bootImage s
  | 7 => recorderStart (s.set .SYS_BOOT_PHASE 7)
  | 8 => bootJournal s
  | 9 => bootPower s
  | _ => bootSettings s

/-- BOOT_PHASE (R356): the next step of Table 14.7 completes; step 12 is RESTORED. An off request during the boot powers down
after the step (R381). -/
def effBootPhase (b : BootIn) (s : State) : State :=
  let p := s.get .SYS_BOOT_PHASE
  if p = 0 ∨ 11 ≤ p ∨ !s.pins.sysReset then s
  else if s.inRescue then bootDone s
  else if p = 10 then bootDone s
  else
    let s := (bootStep b (p + 1) s).set .SYS_BOOT_PHASE (p + 1)
    if s.power.request = some 2 ∧ !(pfailHolds s) then beginPowerDown s else s

def execBootPhase (b : BootIn) (s : State) : Host.Outcome State Fault Refusal := .next (effBootPhase b s)

/-- The temperature band after a reading in °C (R336): a boundary counts once the temperature has moved 2 °C past it. -/
def bandAfter (b : Nat) (t : Int) : Nat :=
  let edge (k : Nat) : Int := 20 * (k : Int) - 20
  let up := ((List.range 8).filter (fun k => decide (b ≤ k ∧ edge k + 2 ≤ t))).length
  let down := ((List.range 8).filter (fun k => decide (k < b ∧ t ≤ edge k - 2))).length
  b + up - down

/-- FUSE_REREAD (R336, R338, R285): a band crossing; words that turn doubtful keep their boot value. -/
def effFuseReread (temp : Int) (doubt : List Nat) (s : State) : State :=
  let b := s.get .SYS_FUSE_STATUS_BAND
  let nb := bandAfter b temp
  if nb = b ∨ !(s.isSet .SYS_FUSE_STATUS_DONE) then s
  else
    let s := s.set .SYS_FUSE_STATUS_BAND nb
    let new := doubt.filter (fun w => decide (w < 512) && !(bit (s.get .SYS_FUSE_DOUBT_WORDS (w / 64)) (w % 64)))
    let s := new.foldl (fun s w => (markDoubt w s).raise 0x0106 [w, 1]) s
    match new.find? (fun w => fuseClass w == 2) with
    | none => s
    | some w =>
      if s.get .CIPH_STATUS_ROOT_STATE ≠ 1 then s
      else
        let s := s.set .CIPH_STATUS_ROOT_STATE 3
        if s.cipher.rootDoubtSaid then s
        else (s.setCipher (fun c => { c with rootDoubtSaid := true })).raise 0x0C04 [w]

def execFuseReread (temp : Int) (doubt : List Nat) (s : State) : Host.Outcome State Fault Refusal := .next (effFuseReread temp doubt s)

/-- The newest records of a rotating area, cut to its size by dropping its oldest block (R404, R405). -/
def rotate (limit : Nat) (l : List (List EvtRec)) : List (List EvtRec) := if limit < l.length then l.drop 64 else l

/-- EVT_FLUSH replies once no tail page is in progress (R404). -/
def flushReplies (s : State) : State :=
  if s.store.ops.any (fun o => match o.task with | .tail _ => true | _ => false) then s
  else
    let qs := s.evt.flushing
    qs.foldl (fun s q => complete { op := 0x0E03 } q [] 0 { state := s }) (s.setEvt (fun e => { e with flushing := [] }))

/-- The journal goes on being programmed where the store is about to stop (R355, R364, R380, Table 15.9). -/
def journalGoOn (s : State) : State :=
  let st := s.get .PWR_STATE_STATE
  let stopping := s.power.restart ≠ 0 || !s.pins.pfail || (st == 3 && s.get .PWR_STATE_PHASE == 2) || (st == 6 && s.get .PWR_STATE_PHASE == 5)
  if stopping then journalClose s else s

/-- Settings pages that some records fill: a record longer than a page takes several (R353). -/
def journalPages (recs : List JRec) : Nat := max 1 (ceilDiv (recs.foldl (fun a r => a + r.bytes) 0) 4096)

/-- A page of the settings journal is durable (R352, R353, R386). -/
def journalDurable (recs : List JRec) (s : State) : State :=
  let j := s.journal
  let s := { s with journal := { j with stored := j.stored ++ recs, programming := none, pages := j.pages + journalPages recs } }
  let m := if s.isSet .PWR_MODE_PENDING_VALID then s.get .PWR_MODE_PENDING + 1
    else if s.isSet .PWR_MODE_CHANGING then s.power.newMode else s.mode + 1
  let s := if recs.any (fun r => r.kind == 1 && r.op == 0x0104) then s.setNand (fun n => { n with mode := m }) else s
  journalGoOn (checkpoint s)

/-- A program of a task has succeeded (R345, R353, R403, R404). -/
def taskDone (t : NandTask) (s : State) : State :=
  match t with
  | .events area recs =>
    let s := s.setNand (fun n => if area = 1 then { n with permanent := n.permanent ++ recs }
      else { n with circulating := rotate 16896 (n.circulating ++ [recs]) })
    evtStart 16 (evtShow s)
  | .tail recs => flushReplies (evtShow (s.setNand (fun n => { n with tail := rotate 1536 (n.tail ++ [recs]) })))
  | .journal recs => journalDurable recs s
  | .anchor a evs =>
    let s := anchorShow (s.setNand (fun n => { n with anchor := some a }))
    evs.foldl (fun s e => { s with raised := s.raised ++ [e] }) s
  | _ => s

/-- A task is programmed again elsewhere (R346, R348): areas in rotation at their next page, other pages in the block that now
holds their logical block. -/
def taskAgain (o : NandOp) (lb : Option Nat) (s : State) : State :=
  match o.task with
  | .events area _ => programNext area o.task s
  | .tail _ => programNext 3 o.task s
  | .journal _ => programNext 0 o.task s
  | .anchor _ _ => startOp o 1 s
  | t => match lb with
    | some b => startOp ⟨t, o.dev, physBlock s o.dev b * 64 + o.page % 64⟩ 1 s
    | none => startOp o 1 s

/-- A raw command completes; where the manual names no status for a block that fails, it is a free value (log entry 87). -/
def rawFailed (c : CmdInfo) (q : Req) (s : State) : State := complete c q [] 0 { state := s.took, status := s.free % 16 }

/-- An internal program ends. -/
def programDone (o : NandOp) (e : NandEnd) (s : State) : State :=
  let lb := logicalOf s o.dev (o.page / 64)
  if !(pageErased e) then
    let s := (s.inc .STORE_PROG_REFUSED).raise 0x0307 [o.dev, o.page]
    let s := match o.task with | .image _ => refreshBlock o.dev (o.page / 64) s | _ => s
    taskAgain o lb s
  else if !e.ok then taskAgain o lb (retireBlock o.dev (o.page / 64) 0 s)
  else
    let n := match o.task with | .anchor _ _ => anchorPages s | .journal recs => journalPages recs | _ => 1
    taskDone o.task (levelWear o.dev ((s.bump .STORE_PAGES_PROGRAMMED n).bump .CIPH_XTS_UNITS n))

/-- How long ago a rotating area's page was written, in pages, when the next one to be written is `pos`. -/
def pageAge (pos size idx : Nat) : Nat := ((pos + size - 1) % size + size - idx) % size

/-- What an uncorrectable page takes with it (R347): an image fails verification, records are lost, a snapshot copy is no longer
committed. -/
def pageLost (lp : Nat) (s : State) : State :=
  let dropAt (l : List (List EvtRec)) (age : Nat) : List (List EvtRec) := if age < l.length then l.eraseIdx (l.length - 1 - age) else l
  if lp < 32768 then s.setNand (fun n => { n with images := Tab.put [] n.images (lp / 16384) [] })
  else if lp < 40960 then s
  else if lp < 41216 then
    evtShow (s.setNand (fun n => { n with permanent := ((packPages [] n.permanent).eraseIdx (lp - 40960)).flatten }))
  else if lp < 58112 then
    evtShow (s.setNand (fun n => { n with circulating := dropAt n.circulating (pageAge (Tab.get 0 n.pos 2) 16896 (lp - 41216)) }))
  else if lp < 59648 then
    evtShow (s.setNand (fun n => { n with tail := dropAt n.tail (pageAge (Tab.get 0 n.pos 3) 1536 (lp - 58112)) }))
  else
    let c := min 1 ((lp - 59648) / 33152)
    s.setTbl (fun t =>
      let copies := Tab.put none t.copies c none
      { t with copies := copies,
               newest := if t.newest ≠ c + 1 then t.newest else if (Tab.get none copies (1 - c)).isSome then 2 - c else 0 })

/-- A raw erase has ended: what the block held of an area is lost with it (R347, R350). -/
def rawErased (dev block : Nat) (s : State) : State :=
  let d := max 1 (storeDevs s)
  let t := blockErased dev block s
  match logicalOf s dev block with
  | some lb => pageLost ((lb * 64 + 63) * d + dev) (pageLost (lb * 64 * d + dev) t)
  | none => t

/-- NAND_OPERATION_DONE (R346 to R349): operation k of those in progress ends. An erase waits while PFAIL_N holds the store. -/
def effNandOperationDone (k : Nat) (e : NandEnd) (s : State) : State :=
  match s.store.ops[k]? with
  | none => s
  | some o =>
    let held := storeHeld s
    let t := s.setStore (fun x => { x with ops := x.ops.eraseIdx k })
    match o.task with
    | .rawErase q =>
      if held then s
      else if e.ok then restartReady (complete ciStoreBlockErase q [] 0 { state := rawErased o.dev (o.page / 64) t })
      else restartReady (rawFailed ciStoreBlockErase q (retireBlock o.dev (o.page / 64) 1 t))
    | .rawRead q =>
      let bytes := match Tab.get [] t.store.nand.raw (o.dev * 524288 + o.page) with
        | [] => (e.data ++ List.replicate 4352 255).take 4352
        | l => l
      restartReady (complete ciStorePageRead q [] 0 { state := t.inc .STORE_PAGES_READ, data := words bytes })
    | .rawProgram q data =>
      restartReady (if !(pageErased e) then
          complete ciStorePageProgram q [] 0 { state := t.inc .STORE_PROG_REFUSED, status := stNotErased }
        else if !e.ok then rawFailed ciStorePageProgram q (retireBlock o.dev (o.page / 64) 0 t)
        else
          let t := (t.inc .STORE_PAGES_PROGRAMMED).setNand (fun n => { n with raw := Tab.put [] n.raw (o.dev * 524288 + o.page) data })
          complete ciStorePageProgram q [] 0 { state := t })
    | _ => restartReady (programDone o e t)

def execNandOperationDone (k : Nat) (e : NandEnd) (s : State) : Host.Outcome State Fault Refusal := .next (effNandOperationDone k e s)

/-- JOURNAL_PAGE_TIMER (R353): 5 ms after its first record the page being filled is programmed; in L3 the store only records events
(Table 16.5). -/
def effJournalPageTimer (s : State) : State :=
  if !s.safe ∧ s.expired .journalPage (5 * uMs) then journalClose s else s

def execJournalPageTimer (s : State) : Host.Outcome State Fault Refusal := .next (effJournalPageTimer s)

/-- PATROL_READ (R347, R421): a written page is read; a STORE injection flips bits of one codeword in this read only. -/
def effPatrolRead (dev page : Nat) (e : NandEnd) (s : State) : State :=
  if !(storeOpen s) ∨ storeHeld s ∨ s.safe ∨ storeDevs s ≤ dev ∨ storeBlocks s * 64 ≤ page then s
  else
    let (hit, s) := inject 3 dev s
    let flips := if hit then s.get .TEST_INJECT_BITS 3 else 0
    let lost := pageUncorr e
    let e := { e with flips := (e.flips.headD 0 + flips) :: e.flips.drop 1 }
    let lb := logicalOf s dev (page / 64)
    let s := pageRead dev page e s
    let s := if lost then (match lb with
      | some b => pageLost ((b * 64 + page % 64) * max 1 (storeDevs s) + dev) s
      | none => s) else s
    if page % 64 = 63 ∧ s.store.scrubLeft ≠ 0 then
      let n := s.store.scrubLeft - 1
      (s.setStore (fun x => { x with scrubLeft := n })).set .STORE_STATUS_SCRUBBING (b2n (decide (n ≠ 0)))
    else s

def execPatrolRead (dev page : Nat) (e : NandEnd) (s : State) : Host.Outcome State Fault Refusal := .next (effPatrolRead dev page e s)

end Sys2Proof.Machine
end

