-- ==== Sys2Proof/Machine/BpmCmd.lean ====
section
/-! DEFINITION. The buffer pool commands of Table 9.6 (R240 to R247). -/
namespace Sys2Proof.Machine

open Sys2Proof

def ciBpmPoolConfig : CmdInfo := { op := 0x0A07, persist := true, parts := [22, 25] }
def ciBpmAlloc : CmdInfo := { op := 0x0A08, phys := false, parts := [22] }
def ciBpmFree : CmdInfo := { op := 0x0A09, phys := false, parts := [22] }
def ciBpmHandoff : CmdInfo := { op := 0x0A0A, phys := false, parts := [22] }
def ciBpmAudit : CmdInfo := { op := 0x0A0B, parts := [22] }

/-- Fields that BPM_POOL_CONFIG writes (Tables 9.16 and 9.18). -/
def poolFields : List Fld :=
  [.BPM_POOL_CFG_BASE, .BPM_POOL_CFG_COUNT, .BPM_POOL_CFG_FALLBACK, .BPM_POOL_CFG_CLASS, .BPM_STATUS_AGE_ALARM_S,
    .BPM_STATUS_AUDIT_S, .BPM_STATUS_REGION_GIB]

/-- The pools whose record a list of entries writes. -/
def poolsTouched (es : List WEntry) : List Nat :=
  (es.flatMap (fun e => ((fieldsAt e.off).filter (fun p => p.1 == .BPM_POOL_CFG_COUNT)).map (fun p => p.2.1))).dedup

/-- No buffer of a pool is out (R240). -/
def poolIdle (s : State) (p : Nat) : Bool := (s.pool p).bufs.all (fun b => !b.2.out)

/-- A pool lies where R240 lets it: BASE aligned to the class size, the pool within the region. -/
def poolPlaced (t : State) (p : Nat) : Bool :=
  poolBase t p % bufSize t p == 0 && decide (poolBase t p + poolCount t p * bufSize t p ≤ t.sw.regionGib * 2 ^ 30)

/-- FALLBACK names a pool of the next larger class, or none (R241). -/
def fallbackOk (t : State) (p : Nat) : Bool :=
  let f := t.get .BPM_POOL_CFG_FALLBACK p
  f == 31 || (decide (f < 16) && t.get .BPM_POOL_CFG_CLASS f == t.get .BPM_POOL_CFG_CLASS p + 1)

/-- The first entry that leaves a pool misplaced, or a fall-back from or to its pool wrong (R240, R241). -/
def poolErr (es : List WEntry) (s : State) : Option Nat :=
  let t := wApplyAll s es
  es.zipIdx.findSome? (fun e =>
    (poolsTouched [e.1]).findSome? (fun p =>
      if !(poolPlaced t p) then some (16 + 24 * e.2 + 16)
      else if !(fallbackOk t p) || (List.range 16).any (fun x => t.get .BPM_POOL_CFG_FALLBACK x == p && !(fallbackOk t x)) then
        some (16 + 24 * e.2 + 23)
      else none))

/-- BPM_POOL_CONFIG (R240): atomic; REJECTED_STATE while a buffer of a pool it writes is out. -/
def effBpmPoolConfig (q : Req) (es : List WEntry) (s : State) : State :=
  atomicCmd ciBpmPoolConfig q (needs (fun s => (poolsTouched es).all (poolIdle s)))
    (fun s => firstErr [wErr (fun f => poolFields.contains f) es, poolErr es s]) (.poolConfig es) s

def execBpmPoolConfig (q : Req) (es : List WEntry) (s : State) : Host.Outcome State Fault Refusal := .next (effBpmPoolConfig q es s)

/-- The commit of BPM_POOL_CONFIG: the pools it writes start anew, every buffer free, their caches filled (R242); a new AUDIT_S
begins its period (R247). -/
def commitPoolConfig (es : List WEntry) (s : State) : State :=
  let s := wApplyAll s es
  let s := (poolsTouched es).foldl (fun s p => poolBalance p (s.setPool p (fun _ => {}))) s
  if wWrites .BPM_STATUS_AUDIT_S es = [] then s
  else
    let since : Option Nat := if s.get .BPM_STATUS_AUDIT_S = 0 then none else some s.now
    s.setSw (fun w => { w with auditSince := since })

/-- Several buffers of one pool for one owner, all or none (log entry 61): their addresses. -/
def allocMany (p owner : Nat) : Nat → State → Option (State × List Nat)
  | 0, s => some (s, [])
  | k + 1, s =>
    match bpmAlloc p owner s with
    | (t, some a) => (allocMany p owner k t).map (fun r => (r.1, a :: r.2))
    | (_, none) => none

/-- BPM_ALLOC (R241): up to 64 buffers, owned by the caller; NO_SPACE when the chain is exhausted. -/
def effBpmAlloc (q : Req) (pool count : Nat) (s : State) : State :=
  single ciBpmAlloc q [] (needs (fun s => !(s.isSet .BPM_OWNER_IN_RESET q.user)))
    (fun _ => firstErr [want 24 (pool < 16), want 32 (1 ≤ count ∧ count ≤ 64)])
    (fun s =>
      match allocMany pool q.user count s with
      | some (t, as_) => { state := t, data := formR (as_.zipIdx.map (fun a => (a.2, [a.1]))) }
      | none => { state := s.inc .BPM_NOSPACE, status := stNoSpace }) s

def execBpmAlloc (q : Req) (pool count : Nat) (s : State) : Host.Outcome State Fault Refusal := .next (effBpmAlloc q pool count s)

/-- A request that fails a check (R244): counted, recorded, reported with requester and address (log entry 61). -/
def bpmFail (owner row addr : Nat) (s : State) : State :=
  reportUnit 22 13 addr (toBytes 8 owner) ((s.inc (bpmRowCtr row)).raise 0x0A06 [owner, row, addr % 2 ^ 32])

/-- One free or hand-off of an owner; the entry's status (R243, R244, log entry 46). -/
def bpmOne (owner addr : Nat) (target : Option Nat) (s : State) : State × Nat :=
  if s.isSet .BPM_OWNER_IN_RESET owner then (s, stState)
  else
    match bpmCheck s owner addr target with
    | .inl row => (bpmFail owner row addr s, bpmRowStatus row)
    | .inr (p, i) =>
      match target with
      | some t => (bpmPass p i t s, stDone)
      | none => (bpmPut p i s, stDone)

/-- BPM_FREE (R244): best-effort, up to 64. -/
def effBpmFree (q : Req) (es : List REntry) (s : State) : State :=
  bestEffort ciBpmFree q [] anyState (fun _ => want 16 (es.length ≤ 64)) (fun s e => bpmOne q.user e.data none s) es s

def execBpmFree (q : Req) (es : List REntry) (s : State) : Host.Outcome State Fault Refusal := .next (effBpmFree q es s)

/-- BPM_HANDOFF (R243, R244): best-effort, up to 64. -/
def effBpmHandoff (q : Req) (es : List REntry) (s : State) : State :=
  bestEffort ciBpmHandoff q [] anyState (fun _ => want 16 (es.length ≤ 64))
    (fun s e => bpmOne q.user (e.data / 2 ^ 64) (some (e.data % 2 ^ 64)) s) es s

def execBpmHandoff (q : Req) (es : List REntry) (s : State) : Host.Outcome State Fault Refusal := .next (effBpmHandoff q es s)

/-- BPM_AUDIT (R247). -/
def effBpmAudit (q : Req) (s : State) : State :=
  single ciBpmAudit q [] anyState anyParam (fun s => { state := bpmAudit s, data := formR (auditReply s) }) s

def execBpmAudit (q : Req) (s : State) : Host.Outcome State Fault Refusal := .next (effBpmAudit q s)

end Sys2Proof.Machine
end

