-- ==== Sys2Proof/Machine/ClsCmd.lean ====
section
/-! DEFINITION. The classification commands of Table 7.7. -/
namespace Sys2Proof.Machine

open Sys2Proof

/-- The pipeline clusters that are powered: 4 to 7 are gated in FRUGAL (R192, R385). -/
def poweredPipes (s : State) : List Nat := if s.mode = 4 then [0, 1, 2, 3] else List.range 8

def ciClsParserWrite : CmdInfo := { op := 0x0801, parts := [4, 5, 6, 7, 8, 9, 10, 11] }
def ciClsProfileWrite : CmdInfo := { op := 0x0802, parts := [4, 5, 6, 7, 8, 9, 10, 11] }
def ciClsRuleWrite : CmdInfo := { op := 0x0803, persist := true, esz := 88, parts := [21] }
def ciClsRuleDelete : CmdInfo := { op := 0x0804, persist := true, esz := 8, parts := [21] }
def ciClsFlip (s : State) : CmdInfo := { op := 0x0805, persist := true, parts := (poweredPipes s).map (4 + ·) ++ [21] }
def ciClsStart : CmdInfo := { op := 0x0806, persist := true, parts := [4, 5, 6, 7, 8, 9, 10, 11] }
def ciClsExcConfig : CmdInfo := { op := 0x0807, persist := true, parts := [4] }

/-- RETRY_BUSY while a powered cluster's standby banks are being copied (R189, R192). -/
def notCopying (s : State) : Option (Nat × Nat) :=
  ((poweredPipes s).find? (fun p => s.isSet .CLS_GEN_COPYING p)).map (fun p => (stBusy, 4 + p))

/-- The standby HTYPE or HTRANS entry at a BAR0 offset (Tables 7.5 and 7.6): cluster, whether HTRANS, entry. -/
def parserAt (off : Nat) : Option (Nat × Bool × Nat) :=
  let d := off % 0x200000
  if off < 0x3000000 ∨ 0x4000000 ≤ off ∨ off % 8 ≠ 0 then none
  else
    let p := (off - 0x3000000) / 0x200000
    if 0x2000 ≤ d ∧ d < 0x2000 + 63 * 8 then some (p, false, (d - 0x2000) / 8)
    else if 0x6000 ≤ d ∧ d < 0x6000 + 1024 * 8 then some (p, true, (d - 0x6000) / 8)
    else none

/-- The fields (low bit, width, greatest value) of an HTYPE and of an HTRANS entry (Tables 7.5 and 7.6). -/
def htypeFields : List (Nat × Nat × Nat) :=
  [(63, 1, 1), (60, 3, 4), (59, 1, 1), (55, 4, 15), (54, 1, 1), (52, 2, 2), (46, 6, 63), (45, 1, 1), (37, 8, 255), (31, 6, 63),
    (23, 8, 255), (20, 3, 7), (16, 4, 4), (8, 8, 255), (0, 8, 255)]
def htransFields : List (Nat × Nat × Nat) := [(63, 1, 1), (57, 6, 63), (51, 6, 63), (35, 16, 65535), (19, 16, 65535)]

/-- What is wrong with an entry of CLS_PARSER_WRITE, by the rules of form W (R312). -/
def parserEntryErr (e : WEntry) : Option Nat :=
  match parserAt e.off with
  | none => some 0
  | some (_, isTrans, _) =>
    let fs := if isTrans then htransFields else htypeFields
    let whole := fs.filter (fun f => bits e.mask f.1 f.2.1 == 2 ^ f.2.1 - 1)
    let bad := e.mask % 2 ^ 64 - whole.foldl (fun m f => m + (2 ^ f.2.1 - 1) * 2 ^ f.1) 0
    if bad ≠ 0 then some (8 + (7 - Nat.log2 bad / 8))
    else (whole.find? (fun f => decide (f.2.2 < bits e.value f.1 f.2.1))).map (fun f => 16 + (7 - (f.1 + f.2.1 - 1) / 8))

/-- The first offending byte of the entries. -/
def parserErr (es : List WEntry) : Option Nat :=
  es.zipIdx.findSome? (fun p => (parserEntryErr p.1).map (fun d => 16 + 24 * p.2 + d))

/-- The bits of a word under a mask take a value. -/
def maskWrite (old mask value : Nat) : Nat := (value &&& mask) + (old &&& (2 ^ 64 - 1 - mask % 2 ^ 64))

/-- An HTRANS entry never written reads NEXT_TYPE 63 (Table 7.6). -/
def htransReset : Nat := 63 * 2 ^ 51

/-- One entry of CLS_PARSER_WRITE changes the standby bank of a powered cluster; a gated cluster's banks stay frozen (R192). -/
def parserWriteOne (s : State) (e : WEntry) : State :=
  match parserAt e.off with
  | some (p, isTrans, k) =>
    if (poweredPipes s).contains p then
      s.setCls (fun c =>
        let b := Tab.get {} c.standby p
        let b : ParserBank :=
          if isTrans then { b with htrans := Tab.put htransReset b.htrans k (maskWrite (Tab.get htransReset b.htrans k) e.mask e.value) }
          else { b with htype := Tab.put 0 b.htype k (maskWrite (Tab.get 0 b.htype k) e.mask e.value) }
        { c with standby := Tab.put {} c.standby p b })
    else s
  | none => s

/-- CLS_PARSER_WRITE (R189): standby HTYPE and HTRANS entries. -/
def effClsParserWrite (q : Req) (es : List WEntry) (s : State) : State :=
  single ciClsParserWrite q (es.map (·.off)) notCopying (fun _ => parserErr es)
    (fun s => { state := es.foldl parserWriteOne s }) s

def execClsParserWrite (q : Req) (es : List WEntry) (s : State) : Host.Outcome State Fault Refusal :=
  .next (effClsParserWrite q es s)

/-- A key profile is acceptable (R183): its extracts lie in range and none runs past the key. -/
def profOk (p : KeyProfile) : Bool :=
  decide (p.extracts.length ≤ 24) &&
    p.extracts.all (fun x => decide (x.src < 2 ∧ x.type < 64 ∧ x.occ < 4 ∧ x.off < 64 ∧ 1 ≤ x.len ∧ x.len ≤ 16 ∧
      x.keyOff + x.len ≤ (if p.wide then 64 else 32)))

/-- CLS_PROFILE_WRITE (R183, R189): standby key profiles of every powered cluster. The record's layout is not given, so the
DETAIL of a rejection is a free value (log entry 36). -/
def effClsProfileWrite (q : Req) (es : List ProfEntry) (s : State) : State :=
  let bad := !(es.all (fun e => decide (e.index < 16) && profOk e.prof))
  (single ciClsProfileWrite q (es.map (·.index)) notCopying (fun s => if bad then some (s.free % 65536) else none)
    (fun s => { state := es.foldl (fun s e => (poweredPipes s).foldl (fun s p =>
      s.setCls (fun c =>
        let b := Tab.get {} c.standby p
        { c with standby := Tab.put {} c.standby p { b with profiles := Tab.put {} b.profiles e.index e.prof } })) s) s }) s).when
    (bad && !(heldBack ciClsProfileWrite s) && gate ciClsProfileWrite q s == none && notCopying s == none) State.took

def execClsProfileWrite (q : Req) (es : List ProfEntry) (s : State) : Host.Outcome State Fault Refusal :=
  .next (effClsProfileWrite q es s)

/-- A rule record as ten words (R184): words 0 to 3 value, 4 to 7 mask, 8 action, 9 control. -/
def ruleOf (d : Nat) : Rule :=
  { value := bits d 384 256, mask := bits d 128 256, action := bits d 64 64, control := bits d 0 64 }

/-- A rule entry that CLS_RULE_WRITE accepts (R184, R186). -/
def ruleOk (i : Nat) (r : Rule) : Bool :=
  decide (i < 65536) && decide (bits r.action 60 4 ≤ 3) && decide (bits r.action 60 4 ≠ 2 ∨ 8 ≤ bits r.action 54 6) &&
    decide (bits r.action 42 6 ≤ 35) && decide (bits r.action 0 13 = 0 ∧ bits r.control 0 55 = 0) &&
    decide (r.value &&& (2 ^ 256 - 1 - r.mask) = 0) && !(bit r.control 60 && bit r.control 63 && i % 2 == 1)

/-- An entry is written in the master copy and in all four replicas (R186, R187). -/
def ruleSet (i : Nat) (r : Rule) (s : State) : State :=
  s.setCls (fun c => { c with master := Tab.put {} c.master i r,
                              replicas := (List.range 4).foldl (fun m k => Tab.put {} m (k * 65536 + i) r) c.replicas })

/-- One entry of CLS_RULE_WRITE (R186), with CLEAR of its hit counter (R188). -/
def ruleWriteOne (clear : Bool) (s : State) (e : REntry) : State × Nat :=
  let r := ruleOf e.data
  if ruleOk e.index r then
    ((ruleSet e.index r s).when clear (fun s => s.setCls (fun c => { c with hits := Tab.put 0 c.hits e.index 0 })), stDone)
  else (s, stParam)

/-- At most `n` entries in a best-effort command. -/
def atMost {α : Type} (n : Nat) (es : List α) : State → Option Nat := fun _ => want 16 (es.length ≤ n)

/-- CLS_RULE_WRITE (R186): best-effort, up to 64 entries. -/
def effClsRuleWrite (q : Req) (clear : Bool) (es : List REntry) (s : State) : State :=
  bestEffort ciClsRuleWrite q (es.map (·.index)) anyState (atMost 64 es) (ruleWriteOne clear) es s

def execClsRuleWrite (q : Req) (clear : Bool) (es : List REntry) (s : State) : Host.Outcome State Fault Refusal :=
  .next (effClsRuleWrite q clear es s)

/-- One entry of CLS_RULE_DELETE: word 9 with VALID 0 (R186). -/
def ruleDeleteOne (s : State) (e : REntry) : State × Nat :=
  if e.index < 65536 then
    let r := Tab.get {} s.cls.master e.index
    (ruleSet e.index { r with control := r.control % 2 ^ 63 } s, stDone)
  else (s, stParam)

/-- CLS_RULE_DELETE (R186): best-effort. -/
def effClsRuleDelete (q : Req) (es : List REntry) (s : State) : State :=
  bestEffort ciClsRuleDelete q (es.map (·.index)) anyState anyParam ruleDeleteOne es s

def execClsRuleDelete (q : Req) (es : List REntry) (s : State) : Host.Outcome State Fault Refusal :=
  .next (effClsRuleDelete q es s)

/-- CLS_FLIP (R189, R192): atomic across the powered pipeline clusters and the table cluster. Its stage wakes those that doze. -/
def effClsFlip (q : Req) (s : State) : State :=
  let t := atomicCmd (ciClsFlip s) q notCopying anyParam .clsFlip s
  if s.cmd.staged.length < t.cmd.staged.length then (poweredPipes s).foldl (fun t p => undoze (4 + p) t) t else t

def execClsFlip (q : Req) (s : State) : Host.Outcome State Fault Refusal := .next (effClsFlip q s)

/-- What CLS_FLIP does at its commit (R189): banks and plane swap and the generation advances in every powered cluster; the
copying of the banks begins. -/
def commitClsFlip (s : State) : State :=
  let ps := poweredPipes s
  let s := ps.foldl (fun s p =>
    let s := s.setCls (fun c =>
      { c with active := Tab.put {} c.active p (Tab.get {} c.standby p),
               standby := Tab.put {} c.standby p (Tab.get {} c.active p) })
    s.setAll [(.CLS_GEN_GEN, s.get .CLS_GEN_GEN p + 1), (.CLS_GEN_PLANE, 1 - s.get .CLS_GEN_PLANE p), (.CLS_GEN_COPYING, 1)] p) s
  s.raise 0x0802 [s.get .CLS_GEN_GEN 0, s.get .CLS_GEN_PLANE 0]

/-- CLS_START (Table 7.11): the start types of ingress slots. -/
def effClsStart (q : Req) (es : List WEntry) (s : State) : State :=
  writeCmd ciClsStart q (fun f => f == Fld.PIPE_START_TYPE) es s

def execClsStart (q : Req) (es : List WEntry) (s : State) : Host.Outcome State Fault Refusal := .next (effClsStart q es s)

/-- CLS_EXC_CONFIG (Table 7.12); RATE and BURST act from the next refill (R194). -/
def effClsExcConfig (q : Req) (es : List WEntry) (s : State) : State :=
  writeCmd ciClsExcConfig q (fun f => f ∈ [Fld.EXC_CFG_QUEUE, .EXC_CFG_ORDERED, .EXC_CFG_RATE, .EXC_CFG_BURST]) es s

def execClsExcConfig (q : Req) (es : List WEntry) (s : State) : Host.Outcome State Fault Refusal := .next (effClsExcConfig q es s)

end Sys2Proof.Machine
end

