-- ==== Sys2Proof/Machine/CoreCmd.lean ====
section
/-! DEFINITION. The core, task and lock commands of Table 12.5. -/
namespace Sys2Proof.Machine

open Sys2Proof

def ciCoreQueueConfig : CmdInfo := { op := 0x0D01, persist := true, parts := [22] }
def ciCoreRingConfig : CmdInfo := { op := 0x0D02, phys := false, parts := [22] }
def ciCoreFnConfig : CmdInfo := { op := 0x0D03, persist := true, parts := [22, 25] }
def ciCoreLimits : CmdInfo := { op := 0x0D04, persist := true, parts := [22, 25] }
def ciCoreServiceList : CmdInfo := { op := 0x0D05, phys := false, parts := [22] }

/-- Fields of `CORE.WQ[q].CFG` (Table 12.8). -/
def wqFields : List Fld :=
  [.CORE_WQ_CFG_ENABLE, .CORE_WQ_CFG_PRIORITY, .CORE_WQ_CFG_SUBMIT_FN, .CORE_WQ_CFG_MAX_ITEMS, .CORE_WQ_CFG_GROUPS,
    .CORE_WQ_CFG_PREEMPTIBLE, .CORE_WQ_CFG_ORDER_INTERNAL]

/-- Some waiting or running item belongs to a queue. -/
def wqBusy (s : State) (q : Nat) : Bool := s.core.works.any (fun p => p.2.queue == q && p.2.phase != 3)

/-- One queue of CORE_QUEUE_CONFIG (R300): SUBMIT_FN 32 to 62 is invalid, and changes only while the queue holds no item. -/
def wqConfigOne (s : State) (e : WEntry) : State × Nat :=
  let fns := wWrites .CORE_WQ_CFG_SUBMIT_FN [e]
  if (wEntryErr (fun f => wqFields.contains f) e).isSome ∨ fns.any (fun w => decide (32 ≤ w.2.2 ∧ w.2.2 ≤ 62)) then (s, stParam)
  else if fns.any (fun w => w.2.2 != s.get .CORE_WQ_CFG_SUBMIT_FN w.1 && wqBusy s w.1) then (s, stState)
  else (wApply s e, stDone)

/-- CORE_QUEUE_CONFIG (R300, Table 13.15): best-effort, up to 64 queues. -/
def effCoreQueueConfig (q : Req) (es : List WEntry) (s : State) : State :=
  bestEffort ciCoreQueueConfig q (es.map (·.off)) anyState (fun _ => want 16 (es.length ≤ 64)) wqConfigOne es s

def execCoreQueueConfig (q : Req) (es : List WEntry) (s : State) : Host.Outcome State Fault Refusal :=
  .next (effCoreQueueConfig q es s)

/-- CORE_RING_CONFIG (R303): the caller's own rings, 64 to 65,536 entries; both rings' pointers return to 0. -/
def effCoreRingConfig (q : Req) (subBase subLog2 resBase resLog2 irq : Nat) (s : State) : State :=
  single ciCoreRingConfig q [] anyState
    (fun _ => firstErr [want 32 (6 ≤ subLog2 ∧ subLog2 ≤ 16), want 48 (6 ≤ resLog2 ∧ resLog2 ≤ 16), want 56 (irq < 2)])
    (fun s =>
      let u := q.user
      let s := s.setWorkRing u (fun r => { r with subBase := subBase, subLog2 := subLog2, resBase := resBase, resLog2 := resLog2 })
      { state := s.setAll [(.CORE_FN_SUB_TAIL, 0), (.CORE_FN_SUB_HEAD, 0), (.CORE_FN_RES_TAIL, 0), (.CORE_FN_RES_HEAD, 0),
          (.CORE_FN_RES_IRQ_EN, irq)] u }) s

def execCoreRingConfig (q : Req) (subBase subLog2 resBase resLog2 irq : Nat) (s : State) : Host.Outcome State Fault Refusal :=
  .next (effCoreRingConfig q subBase subLog2 resBase resLog2 irq s)

/-- CORE_FN_CONFIG (R301): atomic, flow ranges of functions. -/
def effCoreFnConfig (q : Req) (es : List WEntry) (s : State) : State :=
  atomicCmd ciCoreFnConfig q anyState (fun _ => wErr (fun f => [Fld.CORE_FN_FLOW_COUNT, .CORE_FN_FLOW_BASE].contains f) es)
    (.fnFlows es) s

def execCoreFnConfig (q : Req) (es : List WEntry) (s : State) : Host.Outcome State Fault Refusal := .next (effCoreFnConfig q es s)

/-- CORE_LIMITS (R299): atomic. -/
def effCoreLimits (q : Req) (es : List WEntry) (s : State) : State :=
  atomicCmd ciCoreLimits q anyState (fun _ => wErr (fun f => f == Fld.CORE_RUN_LIMIT_US_LIMIT) es) (.regs es) s

def execCoreLimits (q : Req) (es : List WEntry) (s : State) : Host.Outcome State Fault Refusal := .next (effCoreLimits q es s)

/-- The service table of the active image (R293). -/
def serviceTable (s : State) : List (Nat × Nat) := Config.services (s.get .SYS_IMAGE_BUILD)

/-- CORE_SERVICE_LIST (R293). -/
def effCoreServiceList (q : Req) (s : State) : State :=
  single ciCoreServiceList q [] anyState anyParam
    (fun s => { state := s, data := formR ((serviceTable s).map (fun e => (e.1, [e.2]))) }) s

def execCoreServiceList (q : Req) (s : State) : Host.Outcome State Fault Refusal := .next (effCoreServiceList q s)

/-- An acquire that passed its checks (R306): granted, refused to its holder, turned away with WAIT_US 0, or made to wait. -/
def acquire (o : LockOwner) (req : Option Req) (lock waitUs : Nat) (s : State) : State :=
  match (s.lock lock).holder with
  | none => grantLock lock o req s
  | some h =>
    if h = o then lockReply req stState 0 s
    else if waitUs = 0 then lockReply req stBusy 22 s
    else
      let now := s.now
      let s := s.setLock lock (fun l => { l with waiters := l.waiters ++ [(⟨o, req, now, waitUs⟩ : LockWait)] })
      lockShow lock (s.inc .CORE_LOCK_WAITS)

/-- The part of a lock command that both kinds share: its checks, where it came from a function (R310). -/
def lockChecked (c : CmdInfo) (q : Req) (o : LockOwner) (lock : Nat) (go : LockOwner → Option Req → State → State) (s : State) : State :=
  match o with
  | .fn _ => checked c q anyState (fun _ => want 24 (lock < 1024)) (fun s => go (.fn q.user) (some q) s) s
  | .item k => if lock < 1024 ∧ (s.work k).phase = 1 then go o none s else s
  | .mgmt m => if lock < 1024 ∧ m < 4 then go o none s else s

/-- LOCK_ACQUIRE (R306, R307): by a function's command, a running work item or a management core (log entry 40). -/
def effLockAcquire (q : Req) (o : LockOwner) (lock waitUs : Nat) (s : State) : State :=
  lockChecked ciLockAcquire q o lock (fun o req s => acquire o req lock waitUs s) s

def execLockAcquire (q : Req) (owner : LockOwner) (lock waitUs : Nat) (s : State) : Host.Outcome State Fault Refusal :=
  .next (effLockAcquire q owner lock waitUs s)

/-- LOCK_RELEASE (R306): by the holder alone; the lock passes to its first waiter. -/
def effLockRelease (q : Req) (o : LockOwner) (lock : Nat) (s : State) : State :=
  lockChecked ciLockRelease q o lock
    (fun o req s =>
      let holds : Bool := (s.lock lock).holder == some o
      let s := if holds then passLock lock s else s
      match req with
      | some q => complete ciLockRelease q [] 0 { state := s, status := if holds then stDone else stPermission }
      | none => s) s

def execLockRelease (q : Req) (owner : LockOwner) (lock : Nat) (s : State) : Host.Outcome State Fault Refusal :=
  .next (effLockRelease q owner lock s)

end Sys2Proof.Machine
end

