-- ==== Sys2Proof/Machine/PipeEvt.lean ====
section
/-!
DEFINITION. The events of the pipeline and table clusters ("Parsing and classification", "Forwarding tables and learning"):
parse and classify, HBM reads, replica check, bank copies and loads, exception buckets, learning, filter, snapshots.
-/
namespace Sys2Proof.Machine

open Sys2Proof

/-- A pipeline cluster takes traffic: powered and not being emptied for FRUGAL (R385), in service, and loaded (R192). -/
def pipeOn (s : State) (p : Nat) : Bool :=
  decide (p < 8) && ((s.mode != 4 && !s.toFrugal) || decide (p < 4)) && Tab.get 0 s.cls.loading p == 0 && !(s.restarting (4 + p))

/-- An item may be parsed now (R137 to R139, R179): its decision is awaited, its decryption done, and under ASSURED every
arrival point passed; else min(512, L) bytes received. -/
def mayParse (s : State) (it : Item) : Bool :=
  it.points.contains 0 && it.parsed.isNone && !(it.points.contains 2 && it.enc.isSome) &&
    (if behaviour s = 0 then it.points.all (fun p => p == 0) else decide (min 512 it.bytes.length ≤ received s it))

/-- Counters of a parse, released at confirmation (R195, Table 7.9). -/
def parseCounts (p : Nat) (r : Parsed) : List (Ctr × Nat × Nat × Nat) :=
  [(.PIPE_PARSED, 1, p, 0)] ++ (if r.parseErr then [(.PIPE_PARSE_ERR, 1, p, 0)] else []) ++
    (if r.innerFail then [(.PIPE_INNER_FAIL, 1, p, 0)] else []) ++ (if r.frag then [(.PIPE_FRAG, 1, p, 0)] else [])

/-- An exception that classification itself raises (R181, R183, R185). -/
def classException (k c : Nat) (s : State) : State := takeDecision k (.exception c) { kind := 1, arg := c } false s

/-- A pipeline cluster takes what recirculation r - 1 brings, r of `Item.recirc` (Table 9.1): its own pair, or where that pair is steered
away the pair four below (R385). -/
def recircTo (s : State) (r p : Nat) : Bool :=
  r == 0 || p / 2 == r - 1 || ((s.mode == 4 || s.toFrugal) && p / 2 + 2 == r - 1)

/-- An on-die probe meets an uncorrectable error in entry e (R202): the entry is invalidated, the error reported, and the item dropped. -/
def probeFails (k e : Nat) (s : State) : State :=
  let s := emSet false e { emAt false s e with valid := false } s
  takeDecision k .drop { kind := 0, counts := [.TBL_LOOKUP_ERR] } false (reportUnit 21 1 e [] (s.raise 0x0907 [0, e]))

/-- The lookup of a classified item and its decision (R199 to R203): provisional while HBM reads are outstanding, except
under ASSURED, which waits for them. `upset` is the way, of those its on-die probe reads, that an uncorrectable error of the memory has
changed. -/
def forwardItem (k klen : Nat) (upset : Option (Fin 8)) (s : State) : State :=
  let it := s.item k
  let r := it.parsed.getD {}
  let cont := bits it.action 60 4 == 0
  let prof := lprofOf s (bits it.action 48 6)
  let probed := if cont && prof.emEn then (emBuckets false s (emKeyOf prof it.key klen)).flatMap emWays else []
  match upset.bind (fun w => probed[w.val]?) with
  | some e => probeFails k e s
  | none =>
  let s := if cont then s.setItem k (fun i => { i with lprof := prof, learn := learnOf s prof i.key klen i.slot i.vport }) else s
  let (d, f) := decide_ s (s.item k) r klen false
  let wait := cont && f.hbm
  if wait ∧ behaviour s = 0 then s.setItem k (fun i => { i with points := i.points ++ [4] })
  else takeDecision k d f wait s

/-- PARSE (R176 to R185, R191): the parse, the key, the rule search, then lookup and decision; a frame for the work cores passes
without them (R176); an item bound for a cluster under
recovery is discarded (R395). -/
def effParse (k p : Nat) (upset : Option (Fin 8)) (s : State) : State :=
  let it := s.item k
  if hasItem s k ∧ s.restarting (4 + p) ∧ mayParse s it then recoveryDrop k s
  else if !(hasItem s k) ∨ !(pipeOn s p) ∨ !(recircTo s it.recirc p) ∨ !(mayParse s it) then s
  else
  let s := undoze (4 + p) s
  if it.direct.map (·.1) = some 40 then
    let gen := s.get .CLS_GEN_GEN p
    takeDecision k (.forward 40 0 0 it.vport 0 0) { kind := 2 } false
      (s.setItem k (fun i => { i with parsed := some {}, gen := gen, cluster := p }))
  else
    let b := Tab.get {} s.cls.active p
    let r := parseFrame b (s.get .PIPE_START_TYPE p it.slot) it.bytes
    let gen := s.get .CLS_GEN_GEN p
    let s := s.setItem k (fun i => { i with parsed := some { r with profile := r.profile % 16 }, gen := gen, cluster := p,
                                            counts := i.counts ++ parseCounts p r })
    match it.direct with
    | some (dest, cls, aid) => takeDecision k (.forward dest cls aid it.vport 0 0) { kind := 2 } false s
    | none =>
      if r.parseErr ∨ r.profile = 16 then classException k 0 s
      else
        let prof := Tab.get {} b.profiles r.profile
        let klen := if prof.wide then 64 else 32
        let key := buildKey it r prof
        let s := s.setItem k (fun i => { i with key := key, wide := prof.wide })
        match findRule s (p / 2) prof.wide r.profile (s.get .CLS_GEN_PLANE p) key with
        | none =>
          classException k 1 (s.setItem k (fun i => { i with counts := i.counts ++ [(.PIPE_NO_MATCH, 1, p, 0)] }))
        | some (idx, rule) =>
          forwardItem k klen upset (s.setItem k (fun i => { i with rule := some idx, action := rule.action }))

def execParse (k : Nat) (cluster : Fin 8) (upset : Option (Fin 8)) (s : State) : Host.Outcome State Fault Refusal :=
  .next (effParse k cluster upset s)

/-- The key length of an item, by the profile its key was built by (R191). -/
def itemKeyLen (it : Item) : Nat := if it.wide then 64 else 32

/-- HBM_READ_RETURN (R202, R203): both bucket reads complete, or one with an uncorrectable error, which fails C4. A hit
replaces a provisional decision, and SPEC_ABSENT_WRONG waits for confirmation. An injected error of two bits makes the read
uncorrectable (R421); the stack a read falls on is not stated, so an armed injection takes the next read (log entry 53). An error is reported. -/
def effHbmReadReturn (k : Nat) (ok : Bool) (s : State) : State :=
  let it := s.item k
  if !(it.points.contains 4) then s
  else
    let klen := itemKeyLen it
    let bucket := ((emBuckets true s (emKeyOf it.lprof it.key klen)).head?).getD 0
    let two := s.get .TEST_INJECT_BITS 2 == 2
    let (hit, s) := inject 2 (s.get .TEST_INJECT_TARGET 2) s
    let stack := if hit then s.get .TEST_INJECT_TARGET 2 % 4 else Config.unitOf 27 bucket % 4
    let s := s.when (hit || !ok) (reportUnit (27 + stack) (b2n (!ok || two)) bucket [])
    if !ok || (hit && two) then failItem k 4 (failTbl) (s.raise 0x0907 [1, bucket])
    else
      let (d, f) := decide_ s it (it.parsed.getD {}) klen true
      let hit := f.counts.contains .TBL_EM_HIT_HBM
      if it.decision.isNone then
        passPoint k 4 (takeDecision k d f false (s.setItem k (fun i => { i with points := i.points.filter (· ≠ 4) })))
      else if hit then
        let s := (copiesOf s k).foldl (fun s c => dropCopy c s) s
        let s := s.setItem k (fun i => { i with admission := [], flushed := [] })
        let f := { f with counts := f.counts ++ [.TBL_SPEC_ABSENT_WRONG] }
        takeDecision k d f false s
      else
        let cs := f.counts.map (fun c => (c, 1, 0, 0))
        passPoint k 4 (s.setItem k (fun i => { i with counts := i.counts ++ cs }))
where
  /-- C4's counter. -/
  failTbl : List (Ctr × Nat × Nat) := [(.TBL_LOOKUP_ERR, 0, 0)]

def execHbmReadReturn (k : Nat) (ok : Bool) (s : State) : Host.Outcome State Fault Refusal := .next (effHbmReadReturn k ok s)

/-- REPLICA_CHECK (R187): every 1 µs one entry of every replica is compared with the master copy and repaired, and the error reported as a
corrected one of the table cluster. `upset` tells which replicas an error of the memory has changed there (log entry 129). -/
def effReplicaCheck (upset : Nat) (s : State) : State :=
  if s.now < s.cls.checkSince + uUs then s
  else
    let e := s.cls.checkPos
    let good := Tab.get {} s.cls.master e
    let bad := (List.range 4).filter (fun r => bit upset r || decide (Tab.get {} s.cls.replicas (r * 65536 + e) ≠ good))
    let s := s.setCls (fun c => { c with checkPos := (e + 1) % 65536, checkSince := c.checkSince + uUs,
                                         replicas := bad.foldl (fun m r => Tab.put {} m (r * 65536 + e) good) c.replicas })
    if bad = [] then s
    else
      let s := (bad.foldl (fun s r => s.inc .PIPE_REPLICA_REPAIR (2 * r)) s).raise 0x0801 [e, bad.foldl (fun m r => m + 2 ^ r) 0]
      reportUnit 21 0 e [] s

def execReplicaCheck (upset : Fin 16) (s : State) : Host.Outcome State Fault Refusal := .next (effReplicaCheck upset s)

/-- BANK_COPY_DONE (R189): the active banks have been copied into standby; those of a gated cluster stay frozen (R192). -/
def effBankCopyDone (s : State) : State :=
  (poweredPipes s).foldl (fun s p =>
    if s.isSet .CLS_GEN_COPYING p then
      let b := Tab.get {} s.cls.active p
      (s.setCls (fun c => { c with standby := Tab.put {} c.standby p b })).set .CLS_GEN_COPYING 0 p
    else s) s

def execBankCopyDone (s : State) : Host.Outcome State Fault Refusal := .next (effBankCopyDone s)

/-- BANK_LOAD (R192): a cluster back from power-down or L2 takes banks, generation and plane from an active cluster; in a warm boot none
takes traffic before the snapshot is loaded (R218). -/
def effBankLoad (p : Nat) (s : State) : State :=
  if Tab.get 0 s.cls.loading p = 0 ∨ tablesLoading s then s
  else
    let s := match (List.range 8).find? (fun a => pipeOn s a) with
      | some a =>
        let s := s.setCls (fun c => { c with active := Tab.put {} c.active p (Tab.get {} c.active a),
                                             standby := Tab.put {} c.standby p (Tab.get {} c.standby a) })
        s.setAll [(.CLS_GEN_GEN, s.get .CLS_GEN_GEN a), (.CLS_GEN_PLANE, s.get .CLS_GEN_PLANE a),
          (.CLS_GEN_COPYING, s.get .CLS_GEN_COPYING a)] p
      | none => s
    s.setCls (fun c => { c with loading := Tab.put 0 c.loading p 0 })

def execBankLoad (p : Fin 8) (s : State) : Host.Outcome State Fault Refusal := .next (effBankLoad p s)

/-- EXC_REFILL (R194): every 1 µs each bucket rises by RATE / 1,000,000 packets, up to BURST; a change is adopted here. -/
def effExcRefill (s : State) : State :=
  if s.now < s.cls.excSince + uUs then s
  else
    (List.range 64).foldl (fun s c =>
      let rate := s.get .EXC_CFG_RATE c
      let burst := s.get .EXC_CFG_BURST c
      let b := Tab.get {} s.cls.exc c
      let b := { b with rate := rate, burst := burst, level := min (b.level + rate) (burst * 1000000) }
      s.setCls (fun x => { x with exc := Tab.put {} x.exc c b })) (s.setCls (fun x => { x with excSince := x.excSince + uUs }))

def execExcRefill (s : State) : Host.Outcome State Fault Refusal := .next (effExcRefill s)

/-- LEARN_HOLD_EXPIRY (R216): keys leave the pending list after LEARN_HOLD_US. -/
def effLearnHoldExpiry (s : State) : State :=
  let now := s.now
  let hold := s.get .TBL_LEARN_RING_HOLD_US * uUs
  s.setTbl (fun t => { t with learnHold := t.learnHold.filter (fun h => decide (now < h.2 + hold)) })

def execLearnHoldExpiry (s : State) : Host.Outcome State Fault Refusal := .next (effLearnHoldExpiry s)

/-- LEARN_HEAD_WRITE (R215): HEAD moves; a ring read empty re-arms LEARN_OVERFLOW. -/
def effLearnHeadWrite (v : Nat) (s : State) : State :=
  let s := s.set .TBL_LEARN_RING_HEAD v
  if s.get .TBL_LEARN_RING_HEAD = s.get .TBL_LEARN_RING_TAIL then s.setTbl (fun t => { t with learnFull := false }) else s

def execLearnHeadWrite (value : Nat) (s : State) : Host.Outcome State Fault Refusal := .next (effLearnHeadWrite value s)

/-- FILTER_REBUILT (R205): the shadow array, built from the valid extension entries, becomes live. -/
def effFilterRebuilt (s : State) : State :=
  if !(s.isSet .TBL_STATE_REBUILDING) then s
  else
    let valid := s.tables.ext.filter (fun p => p.2.valid)
    let shadow := (valid.flatMap (fun p => filterPos p.2.key)).foldl (fun m p => Tab.put 0 m p 1) (s.tables.shadow.getD [])
    let s := s.setTbl (fun t => { t with filter := shadow, shadow := none })
    (s.setAll [(.TBL_STATE_REBUILDING, 0), (.TBL_STATE_FILTER_ALL_ONES, 0)]).raise 0x0906 [valid.length]

def execFilterRebuilt (s : State) : Host.Outcome State Fault Refusal := .next (effFilterRebuilt s)

/-- SNAPSHOT_DONE (R217): the background write ends with its commit record, or fails with a store status. It makes no progress while
PFAIL_N or L3 holds the store (R364, Table 16.5). -/
def effSnapshotDone (ok : Bool) (status : Nat) (s : State) : State :=
  if storeHeld s ∨ s.safe then s else
  match s.tables.staging with
  | none => s
  | some (c, snap) =>
    let s := (s.setTbl (fun t => { t with staging := none })).set .TBL_SNAP_WRITING 0
    if ok then
      let s := s.setTbl (fun t => { t with copies := Tab.put none t.copies c (some snap), newest := c + 1 })
      (s.setAll [(.TBL_SNAP_COPY, c), (.TBL_SNAP_GEN, snap.gen)]).raise 0x0902 [snap.gen, c]
    else s.raise 0x0903 [snap.gen, status]

def execSnapshotDone (ok : Bool) (status : Nat) (s : State) : Host.Outcome State Fault Refusal :=
  .next (effSnapshotDone ok status s)

/-- The terminal serials of the device. -/
def serials (s : State) : List Nat := (List.range 4).map (fun n => s.get .LINE_TREE_SERIAL_SERIAL n)

/-- What a restore finds (R218): the newest committed copy, loaded where its format version and serials fit, or refused with
its reason. -/
def loadSnapshot (s : State) : State :=
  match s.tables.newest with
  | 0 => s.raise 0x0905 [3]
  | c + 1 =>
    match Tab.get none s.tables.copies c with
    | none => s.raise 0x0905 [3]
    | some snap =>
      if snap.version ≠ Config.snapshotFormat (s.get .SYS_IMAGE_BUILD) then s.raise 0x0905 [1]
      else if snap.serials ≠ serials s then s.raise 0x0905 [2]
      else
        let s := s.setTbl (fun t => { t with t := snap.tables, ext := [], filter := [], shadow := none, deletes := 0 })
        (s.setAll [(.TBL_STATE_RESTORED, 1), (.TBL_STATE_GEN, snap.gen), (.TBL_SNAP_COPY, c),
          (.TBL_SNAP_GEN, snap.gen)]).raise 0x0904 [snap.gen]

/-- RESTORED (R218, R357): step 12 of a warm boot: the snapshot is loaded, or refused, and pipeline clusters take traffic. -/
def effRestored (s : State) : State :=
  if s.get .SYS_BOOT_KIND ≠ 1 ∨ s.get .SYS_BOOT_PHASE ≠ 11 then s
  else ((loadSnapshot s).set .SYS_BOOT_PHASE 12).setCls (fun c => { c with loading := [] })

def execRestored (s : State) : Host.Outcome State Fault Refusal := .next (effRestored s)

end Sys2Proof.Machine
end

