-- ==== Sys2Proof/Machine/FaultCmd.lean ====
section
/-! DEFINITION. The recovery controller's and the event recorder's commands (family 0x0E of Table 13.6). -/
namespace Sys2Proof.Machine

open Sys2Proof

def ciEvtRead : CmdInfo := { op := 0x0E01, rescue := true, pel := true, parts := [23] }
def ciEvtHostRecord : CmdInfo := { op := 0x0E02, parts := [23] }
def ciEvtFlush : CmdInfo := { op := 0x0E03, rescue := true, pel := true, parts := [23, 25] }
def ciFltReportRead : CmdInfo := { op := 0x0E04, rescue := true, pel := true, parts := [23] }
/-- FLT_RECOVER acts on clusters under recovery (R400); only the system cluster, which carries commands out, turns it away
while it restarts (Table 16.4). -/
def ciFltRecover : CmdInfo := { op := 0x0E05, rescue := true, pel := true }
def ciFltConfig : CmdInfo := { op := 0x0E06, persist := true, parts := [23] }

/-- Bytes of reply data that a request's transport can take whole (R310, R316, R319). -/
def replyRoom (q : Req) (s : State) : Nat :=
  match q.src with
  | .ring u => match s.cmd.taken.find? (fun t => t.fn == u) with
    | some t => min 65520 (t.replyCap - 16)
    | none => 65520
  | .inband _ => 8192
  | _ => 65520

/-- The records kept from a number on, in ascending order, each once (R407). -/
def recordsFrom (seq : Nat) (s : State) : List EvtRec :=
  let n := s.store.nand
  let all := n.permanent ++ n.circulating.flatten ++ n.tail.flatten ++ (evtOps s).flatten ++ unflushed s
  ((all.filter (fun r => decide (seq ≤ r.seq))).foldr (List.orderedInsert (fun a b => a.seq ≤ b.seq)) []).dedup

/-- As many records as the room takes (R407). -/
def recordsFit : Nat → List EvtRec → List EvtRec
  | _, [] => []
  | room, r :: rest => if 8 + r.size ≤ room then r :: recordsFit (room - 8 - r.size) rest else []

/-- EVT_READ (R407, R409): the pages read count in PAGES_READ, how many the manual does not say. -/
def effEvtRead (q : Req) (fromSeq max : Nat) (s : State) : State :=
  single ciEvtRead q [] anyState (fun _ => firstErr [want 24 (fromSeq < 2 ^ 64), want 32 (1 ≤ max ∧ max ≤ 2048)])
    (fun s =>
      if storeHeld s then { state := s, status := stBusy, detail := 25 }
      else
        let s := recordAll s
        let l := recordsFit (replyRoom q s - 8) ((recordsFrom fromSeq s).take max)
        let s := (pagesRead s.free s).took
        { state := s.setEvt (fun e => { e with sinceRead := 0, firstAt := 0, notified := false }),
          data := formR (l.map (fun r => (r.seq, words (recBytes r)))) }) s

def execEvtRead (q : Req) (fromSeq max : Nat) (s : State) : Host.Outcome State Fault Refusal := .next (effEvtRead q fromSeq max s)

/-- EVT_HOST_RECORD (R407): a record with HOST 1; no room in the buffer, or no recorder, gives NO_SPACE. -/
def effEvtHostRecord (q : Req) (code : Nat) (ws tail : List Nat) (s : State) : State :=
  single ciEvtHostRecord q [] anyState
    (fun _ => firstErr [want 24 (0x0E80 ≤ code ∧ code ≤ 0x0EFF), want 32 (ws.length = 4 ∧ ws.all (fun w => decide (w < 2 ^ 32))),
      want 64 (tail.length ≤ 224 ∧ tail.all (fun b => decide (b < 256)))])
    (fun s =>
      let s := recordAll s
      let t := evtMake 1 ⟨code, ws, tail⟩ s
      if t.ctr .FLT_EVT_RECORDS = s.ctr .FLT_EVT_RECORDS then { state := t, status := stNoSpace }
      else { state := t, data := [t.get .EVT_NEXT_SEQ_SEQ - 1] }) s

def execEvtHostRecord (q : Req) (code : Nat) (ws tail : List Nat) (s : State) : Host.Outcome State Fault Refusal :=
  .next (effEvtHostRecord q code ws tail s)

/-- EVT_FLUSH (R404): the unflushed records are programmed as tail pages; the reply waits for the last of them. -/
def effEvtFlush (q : Req) (s : State) : State :=
  checked ciEvtFlush q anyState anyParam
    (fun s =>
      let s := recordAll s
      if storeHeld s then reject ciEvtFlush q stBusy 25 s
      else if unflushed s = [] ∨ !(s.isSet .EVT_STATUS_RUNNING) then complete ciEvtFlush q [] 0 { state := s }
      else (tailFlush s).setEvt (fun e => { e with flushing := e.flushing ++ [q] })) s

def execEvtFlush (q : Req) (s : State) : Host.Outcome State Fault Refusal := .next (effEvtFlush q s)

/-- A report entry as it is read (Table 16.2). -/
def reportWords (r : Report) : List Nat :=
  [r.source * 2 ^ 48 + r.level * 2 ^ 40 + (b2n r.summary + 2 * b2n r.escalated + 4 * b2n r.last) * 2 ^ 32 + r.count,
    r.evtSeq, r.detail, r.firstUs % 2 ^ 64]

/-- FLT_REPORT_READ (R392, R393): up to MAX entries from the head, removed; a full period ends. -/
def effFltReportRead (q : Req) (max : Nat) (s : State) : State :=
  single ciFltReportRead q [] anyState (fun _ => want 24 (1 ≤ max ∧ max ≤ 256))
    (fun s =>
      let l := s.fault.queue.take max
      let t := if l = [] then s
        else queueShow (s.setFault (fun f => { f with queue := f.queue.drop max, full := false, fullAt := none }))
      { state := t, data := formR (l.zipIdx.map (fun p => (p.2, reportWords p.1))) }) s

def execFltReportRead (q : Req) (max : Nat) (s : State) : Host.Outcome State Fault Refusal := .next (effFltReportRead q max s)

/-- A RESUME is accepted (R400): L2 of every participant that owes a recovery; with none, the outputs are released at once. A
restart that outlived its limit starts again from the beginning (R394). -/
def resumeStart (q : Req) (s : State) : State :=
  let owed := s.fault.owed.filter (fun x => decide (srcPart x ≤ 26))
  let cs := (owed.map (fun x => clusterOf (srcPart x))).dedup
  let s := s.setFault (fun f => { f with resume := some q, running := f.running.filter (fun r => !(cs.contains (clusterOf r.part))) })
  let s := s.setAll [(.FLT_STATUS_WINDOW_OPEN, b2n (!cs.isEmpty)), (.FLT_STATUS_WINDOW_FAULTS, 0)]
  if cs = [] then releaseSafe s
  else cs.foldl (fun s c =>
    startRecovery c 0 2 ((owed.find? (fun x => clusterOf (srcPart x) == c)).getD 0) s) s

/-- Whether a lost clock is back is not the command's to say: the condition persists by a free value (R400, log entry 70). -/
def clocksBack (s : State) : State :=
  if s.power.lost = [] then s
  else
    let t := s.took
    if s.free % 2 = 1 then clkBack t.power.lost t else t

/-- FLT_RECOVER RESUME (R400): in L3 only, and while no SUPPLY, THERMAL or CLOCK_LOSS condition persists; a second RESUME
waits for the one that runs. -/
def effFltRecoverResume (q : Req) (s : State) : State :=
  checked ciFltRecover q anyState anyParam
    (fun s =>
      let s := clocksBack s
      if s.fault.resume.isSome then s.setFault (fun f => { f with clusterWait := f.clusterWait ++ [(q, 255)] })
      else if !s.safe ∨ conditionPersists s then reject ciFltRecover q stState 0 s
      else resumeStart q s) s

def execFltRecoverResume (q : Req) (s : State) : Host.Outcome State Fault Refusal := .next (effFltRecoverResume q s)

/-- A RESUME that waited runs once the one before it has ended (R400). -/
def resumeNext (s : State) : State :=
  if s.fault.resume.isSome then s
  else
    match s.fault.clusterWait.find? (fun w => w.2 == 255) with
    | none => s
    | some w =>
      let s := s.setFault (fun f => { f with clusterWait := f.clusterWait.erase w })
      if !s.safe ∨ conditionPersists s then reject ciFltRecover w.1 stState 0 s else resumeStart w.1 s

/-- FLT_RECOVER WARM or COLD (R400): as SYS_RESTART 1 or 0. -/
def recoverRestart (q : Req) (kind : Nat) (s : State) : State :=
  single ciFltRecover q [] anyState anyParam (fun s => { state := restartOrder kind s }) s

def effFltRecoverWarm (q : Req) (s : State) : State := restartReady (recoverRestart q 1 s)

def execFltRecoverWarm (q : Req) (s : State) : Host.Outcome State Fault Refusal := .next (effFltRecoverWarm q s)

def effFltRecoverCold (q : Req) (s : State) : State := restartReady (recoverRestart q 0 s)

def execFltRecoverCold (q : Req) (s : State) : Host.Outcome State Fault Refusal := .next (effFltRecoverCold q s)

/-- FLT_RECOVER CLUSTER (R400): outside L3, an L2 of the participant's cluster; a running L2 absorbs the command, a running L1
becomes an L2. It opens no window; the reply waits for the L2's end. -/
def effFltRecoverCluster (q : Req) (part : Nat) (s : State) : State :=
  checked ciFltRecover q (needs (fun s => !s.safe)) (fun _ => want 16 (part ≤ 26))
    (fun s =>
      let s := s.setFault (fun f => { f with clusterWait := f.clusterWait ++ [(q, part)] })
      match recoveryOf s (clusterOf part) with
      | some r =>
        if r.level = 2 then s
        else startRecovery part r.unit 2 r.source (escalate (clusterOf part) 1 2 0 s)
      | none => startRecovery part 0 2 (mkSource part 0 0) s) s

def execFltRecoverCluster (q : Req) (part : Nat) (s : State) : Host.Outcome State Fault Refusal := .next (effFltRecoverCluster q part s)

/-- Fields of `FLT.CFG`, `FLT.ACTION` and `EVT.NOTIFY` (Tables 16.11, 16.12, 16.15). -/
def fltFields : List Fld :=
  [.FLT_CFG_IRQ_EN, .FLT_CFG_CORR_PER_S, .FLT_CFG_WINDOW_MS, .FLT_CFG_LF_HOLD_MS, .FLT_CFG_TEMP_WARN, .FLT_ACTION_LEVEL,
    .EVT_NOTIFY_IRQ_EN, .EVT_NOTIFY_COUNT, .EVT_NOTIFY_US]

/-- The entry that sets a level below its type's default, as the offset of its value's last byte (R389). -/
def levelErr (es : List WEntry) (s : State) : Option Nat :=
  (es.zipIdx.find? (fun p =>
    (wWrites .FLT_ACTION_LEVEL [p.1]).any (fun w => decide (w.2.2 < s.get .FLT_ACTION_DEFAULT w.1)))).map (fun p => 16 + 24 * p.2 + 23)

/-- FLT_CONFIG (R389, R409). -/
def effFltConfig (q : Req) (es : List WEntry) (s : State) : State :=
  single ciFltConfig q (es.map (·.off)) anyState (fun s => firstErr [wErr (fun f => fltFields.contains f) es, levelErr es s])
    (fun s => { state := wApplyAll s es }) s

def execFltConfig (q : Req) (es : List WEntry) (s : State) : Host.Outcome State Fault Refusal := .next (effFltConfig q es s)

end Sys2Proof.Machine
end

