-- ==== Sys2Proof/Machine/PwrCmd.lean ====
section
/-! DEFINITION. The power manager's commands (Tables 13.6 and 15.13). -/
namespace Sys2Proof.Machine

open Sys2Proof

def ciPwrState : CmdInfo := { op := 0x0201, rescue := true, pel := true, parts := [26] }
def ciPwrIdleConfig : CmdInfo := { op := 0x0202, pel := true, persist := true, parts := [26] }
def ciPwrWakeConfig : CmdInfo := { op := 0x0203, pel := true, persist := true, parts := [26] }
def ciPwrDvfs : CmdInfo := { op := 0x0204, persist := true, modes := .notFrugal, parts := [26] }
def ciPwrTelemetry : CmdInfo := { op := 0x0205, rescue := true, pel := true, parts := [26] }
def ciPwrBusConfig : CmdInfo := { op := 0x0206, pel := true, persist := true, parts := [26] }

/-- PWR_STATE 0 (R379, R381). -/
def effPwrStateActive (q : Req) (s : State) : State := single ciPwrState q [] anyState anyParam (fun s => { state := onRequest s }) s

def execPwrStateActive (q : Req) (s : State) : Host.Outcome State Fault Refusal := .next (effPwrStateActive q s)

/-- Commands in flight that are the request itself (R377). -/
def ownCommand (q : Req) (s : State) : Nat :=
  match q.src with
  | .ring u => b2n (s.cmd.taken.any (fun t => t.fn == u))
  | .inband x => b2n (s.cmd.inband.any (fun t => t.1 == x))
  | .peldel => b2n s.cmd.peldelBusy
  | .peer => b2n s.cmd.applying.isSome
  | .journal => 0

/-- PWR_STATE 1 (R377): REJECTED_STATE unless the device is idle. -/
def effPwrStateStandby (q : Req) (s : State) : State :=
  single ciPwrState q [] (needs (fun s => deviceIdle (ownCommand q s) s)) anyParam (fun s => { state := standbyRequest s }) s

def execPwrStateStandby (q : Req) (s : State) : Host.Outcome State Fault Refusal := .next (effPwrStateStandby q s)

/-- PWR_STATE 2 (R381). -/
def effPwrStateOff (q : Req) (s : State) : State := single ciPwrState q [] anyState anyParam (fun s => { state := offRequest s }) s

def execPwrStateOff (q : Req) (s : State) : Host.Outcome State Fault Refusal := .next (effPwrStateOff q s)

/-- Fields of `PWR.IDLE` and `PWR.DOZE[c]` (Tables 15.18 and 15.23). -/
def idleFields : List Fld := [.PWR_IDLE_IDLE_EN, .PWR_IDLE_STANDBY_MODES, .PWR_IDLE_DEVICE_MS, .PWR_DOZE_DOZE_EN, .PWR_DOZE_TIMER_US]

/-- The entry that would let the switch or table cluster doze, as the offset of the byte that holds DOZE_EN (R384). -/
def dozeErr (es : List WEntry) : Option Nat :=
  (es.zipIdx.find? (fun p => (wWrites .PWR_DOZE_DOZE_EN [p.1]).any (fun w => (w.1 == 20 || w.1 == 21) && w.2.2 == 1))).map
    (fun p => 16 + 24 * p.2 + 21)

/-- PWR_IDLE_CONFIG (R377, R384). A cluster whose DOZE_EN falls leaves doze. -/
def effPwrIdleConfig (q : Req) (es : List WEntry) (s : State) : State :=
  single ciPwrIdleConfig q (es.map (·.off)) anyState (fun _ => firstErr [wErr (fun f => idleFields.contains f) es, dozeErr es])
    (fun s =>
      let s := wApplyAll s es
      { state := (wWrites .PWR_DOZE_DOZE_EN es).foldl (fun s w => if w.2.2 = 0 then s.set .PWR_DOZE_DOZING 0 w.1 else s) s }) s

def execPwrIdleConfig (q : Req) (es : List WEntry) (s : State) : Host.Outcome State Fault Refusal := .next (effPwrIdleConfig q es s)

/-- PWR_WAKE_CONFIG (R379, R382). -/
def effPwrWakeConfig (q : Req) (es : List WEntry) (s : State) : State :=
  writeCmd ciPwrWakeConfig q (fun f => [Fld.PWR_WAKE_AT_S, .PWR_WAKE_ENABLE, .PWR_STATE_PELDEL_OFF].contains f) es s

def execPwrWakeConfig (q : Req) (es : List WEntry) (s : State) : Host.Outcome State Fault Refusal := .next (effPwrWakeConfig q es s)

/-- PWR_DVFS (R373): a fixed point 0 to 3, or 15 automatic. -/
def effPwrDvfs (q : Req) (point : Nat) (s : State) : State :=
  single ciPwrDvfs q [] anyState (fun _ => want 24 (point < 4 ∨ point = 15))
    (fun s => { state := applyDvfs point (s.set .PWR_DVFS_REQUEST point) }) s

def execPwrDvfs (q : Req) (point : Nat) (s : State) : Host.Outcome State Fault Refusal := .next (effPwrDvfs q point s)

/-- The regulator of a rail is read (R369): READ_VOUT, READ_IOUT, READ_TEMPERATURE_1; what it answers is its own. -/
def railRead (r : Nat) (s : State) : State :=
  let addr := if r = 0 then s.get .PWR_PMBUS_VCORE_ADDR else s.get .PWR_RAIL_ADDR r
  if !(s.isSet .PWR_PMBUS_BUS_OK) ∨ addr = 0 then s
  else
    let s := pmbusSend addr 0x8D 0 (pmbusSend addr 0x8C 0 (pmbusSend addr 0x8B 0 s))
    let s := (s.set .PWR_RAIL_VOLTAGE s.free r).took
    let s := (s.set .PWR_RAIL_CURRENT s.free r).took
    (s.set .PWR_RAIL_TEMP s.free r).took

/-- PWR_TELEMETRY (R366, Table 15.13): the rails' registers at INDEX 0 to 9, then the die temperatures in 0.1 °C at INDEX 10 to
21; a sensor of which no reading is known answers a free value (log entry 77). -/
def effPwrTelemetry (q : Req) (s : State) : State :=
  single ciPwrTelemetry q [] anyState anyParam
    (fun s =>
      let s := (List.range 10).foldl (fun s r => railRead r s) s
      let rails := (List.range 10).map (fun r =>
        (r, [s.get .PWR_RAIL_ADDR r * 2 ^ 48 + s.get .PWR_RAIL_TEMP r * 2 ^ 32 + s.get .PWR_RAIL_CURRENT r * 2 ^ 16 + s.get .PWR_RAIL_VOLTAGE r]))
      let dies := (List.range 12).map (fun k =>
        let v := Tab.get 0 s.power.temps k
        (10 + k, [if v = 0 then Config.freeValue (s.fresh + k) % 2 ^ 64 else ofSigned 64 ((v : Int) - 1000)]))
      { state := { s with fresh := s.fresh + 12 }, data := formR (rails ++ dies) }) s

def execPwrTelemetry (q : Req) (s : State) : Host.Outcome State Fault Refusal := .next (effPwrTelemetry q s)

/-- PWR_BUS_CONFIG (Table 15.13): REJECTED_STATE while a DVFS transition runs. -/
def effPwrBusConfig (q : Req) (es : List WEntry) (s : State) : State :=
  single ciPwrBusConfig q (es.map (·.off)) (needs (fun s => !(s.isSet .PWR_DVFS_TRANSITION)))
    (fun _ => wErr (fun f => [Fld.PWR_PMBUS_SETTLE_US, .PWR_PMBUS_VCORE_ADDR, .PWR_RAIL_ADDR].contains f) es)
    (fun s => { state := wApplyAll s es }) s

def execPwrBusConfig (q : Req) (es : List WEntry) (s : State) : Host.Outcome State Fault Refusal := .next (effPwrBusConfig q es s)

end Sys2Proof.Machine
end

