-- ==== Sys2Proof/Machine/PwrEvt.lean ====
section
/-! DEFINITION. The power manager's events: supplies, resets, DVFS, power states, cluster doze, clocks, the drain point. -/
namespace Sys2Proof.Machine

open Sys2Proof

/-- POWER_GOOD (R435): the later of PWR_GOOD and SYS_RESET_N is high; a device in reset begins its boot. -/
def effPowerGood (s : State) : State :=
  if !s.pins.mainEn ∨ s.test.tapHold then s
  else
    let s := pinsShow { s with pins := { s.pins with pwrGood := true, sysReset := true } }
    if s.get .SYS_BOOT_PHASE ≠ 0 then s
    else
      let s := s.setPower (fun w => { w with mainSince := 0 })
      bootBegin s

def execPowerGood (s : State) : Host.Outcome State Fault Refusal := .next (effPowerGood s)

/-- RAIL_TIMEOUT (R368): 100 ms after MAIN_EN rose without PWR_GOOD. -/
def effRailTimeout (s : State) : State :=
  if s.power.mainSince ≠ 0 ∧ s.pins.mainEn ∧ s.power.mainSince - 1 + 100 * uMs ≤ s.now then
    let s := { s with pins := { s.pins with mainEn := false } }.emit (.rail 0 false)
    (reachOff (s.setPower (fun w => { w with railLatched := true, request := none }))).inc .PWR_RAIL_TIMEOUT
  else s

def execRailTimeout (s : State) : Host.Outcome State Fault Refusal := .next (effRailTimeout s)

/-- PWR_GOOD_FALL (R368, R388): a supply fault of the board, unit 10, while MAIN_EN is high. -/
def effPwrGoodFall (s : State) : State :=
  if !s.pins.pwrGood then s
  else
    let s := pinsShow { s with pins := { s.pins with pwrGood := false } }
    if s.pins.mainEn ∧ s.pins.sysReset ∧ s.get .SYS_BOOT_PHASE ≠ 0 then resumeNext (report (mkSource 31 10 7) 0 [] s) else s

def execPwrGoodFall (s : State) : Host.Outcome State Fault Refusal := .next (effPwrGoodFall s)

/-- VAON_APPLY (R367, R382, R436): the always-on domain starts afresh, the straps are sampled, MAIN_EN is high. -/
def effVaonApply (straps : Fin 8) (mfg : Bool) (s : State) : State :=
  let s := { s with pins := { s.pins with straps := straps, mfgTest := mfg, pwrGood := false } }
  let t := deviceReset (s.setPower (fun w => { w with restart := 0, railLatched := false }))
  powerUp (t.set .PWR_STATE_PELDEL_OFF 1)

def execVaonApply (straps : Fin 8) (mfg : Bool) (s : State) : Host.Outcome State Fault Refusal := .next (effVaonApply straps mfg s)

/-- SYS_RESET_ASSERT (R435): the device outside the always-on domain goes into reset; no effect in OFF, and from D4 on the
power-down completes. The device then waits in MAIN_WAIT; a wait for PWR_GOOD that had begun is counted from this reset (log entry
115). -/
def effSysResetAssert (s : State) : State :=
  let st := s.get .PWR_STATE_STATE
  let s := { s with pins := { s.pins with sysReset := false } }
  if st = 0 ∨ (st = 6 ∧ 7 ≤ s.get .PWR_STATE_PHASE) then s
  else
    let since := s.power.mainSince
    (deviceReset (s.setPower (fun w => { w with restart := 0 }))).setPower (fun w => { w with mainSince := min since 1 })

def execSysResetAssert (s : State) : Host.Outcome State Fault Refusal := .next (effSysResetAssert s)

/-- The erases in progress, which PFAIL aborts (R364). -/
def erasing (s : State) : List NandOp := s.store.ops.filter (fun o => match o.task with | .rawErase _ => true | _ => false)

/-- PFAIL_ASSERT (R364, R383, R404): event PFAIL is recorded, the unflushed records and the journal buffer are programmed, an
erase in progress is aborted by RESET and waits, the store stops. -/
def effPfailAssert (s : State) : State :=
  let held := s.pins.pfail
  let s := pinsShow { s with pins := { s.pins with pfail := false } }
  if !held ∨ s.get .PWR_STATE_STATE = 0 ∨ !(storeOpen s) then s
  else
    let s := (recordAll s)
    let s := s.raise 0x0E08 [s.get .EVT_STATUS_BUFFERED]
    let s := journalClose (tailFlush s)
    let s := (erasing s).foldl (fun s o => s.emit (.nand o.dev 3 (o.page / 64) o.page [])) s
    s.set .STORE_STATUS_PFAIL_HOLD 1

def execPfailAssert (s : State) : Host.Outcome State Fault Refusal := .next (effPfailAssert s)

/-- PFAIL_RELEASE (R364, R383): PFAIL_N has been high for 10 ms: the store resumes, aborted erases are done again, and a pending
transition begins. -/
def effPfailRelease (s : State) : State :=
  let s := pinsShow { s with pins := { s.pins with pfail := true } }
  if storeHeld s then
    let s := s.set .STORE_STATUS_PFAIL_HOLD 0
    takeRequest (evtStart 16 ((erasing s).foldl (fun s o => s.emit (.nand o.dev 2 (o.page / 64) o.page [])) s))
  else takeRequest s

def execPfailRelease (s : State) : Host.Outcome State Fault Refusal := .next (effPfailRelease s)

/-- DVFS_LOAD_WINDOW (R373): automatic DVFS. `load` is the share of pipeline and crossbar cycles in use, in thousandths at F0.
Above 90 % of the running point it raises at once; a window of 10 ms lowers to the lowest point with room. -/
def effDvfsLoadWindow (load : Nat) (s : State) : State :=
  let cur := s.get .PWR_DVFS_POINT
  if s.get .PWR_DVFS_REQUEST ≠ 15 ∨ s.mode = 4 ∨ s.isSet .PWR_DVFS_TRANSITION ∨ s.get .PWR_STATE_STATE ≠ 2 then s
  else
    let fits := [3, 2, 1, 0].find? (fun p => decide (5 * load ≤ 4 * pointCapacity p))
    let target := fits.getD 0
    if 9 * pointCapacity cur < 10 * load then
      if target < cur then startDvfs target s else s
    else if s.power.loadAt + 10 * uMs ≤ s.now then
      let now := s.now
      (s.setPower (fun w => { w with loadAt := now })).when (decide (cur < target)) (startDvfs target)
    else s

def execDvfsLoadWindow (load : Nat) (s : State) : Host.Outcome State Fault Refusal := .next (effDvfsLoadWindow load s)

/-- VOUT_POLL (R371): a READ_VOUT of a raise, and the STATUS_WORD where it lies within 10 mV of the target. -/
def effVoutPoll (mv status : Nat) (s : State) : State :=
  let w := s.power
  let s := s.set .PWR_RAIL_VOLTAGE mv 0
  if !(s.isSet .PWR_DVFS_TRANSITION) ∨ !(s.isSet .PWR_PMBUS_BUS_OK) ∨ w.confirmedAt ≠ 0 ∨ s.now < w.pollAt + 50 * uUs then s
  else
    let t := pointMv (s.get .PWR_DVFS_TARGET)
    let now := s.now
    let ok := decide (t ≤ mv + 10 ∧ mv ≤ t + 10) && status == 0
    let addr := s.get .PWR_PMBUS_VCORE_ADDR
    let s := (pmbusSend addr 0x8B 0 s).when (decide (t ≤ mv + 10 ∧ mv ≤ t + 10)) (pmbusSend addr 0x79 0)
    s.setPower (fun w => { w with pollAt := now, lastMv := mv, confirmedAt := if ok then now + 1 else 0 })

def execVoutPoll (mv status : Nat) (s : State) : Host.Outcome State Fault Refusal := .next (effVoutPoll mv status s)

/-- DVFS_SETTLE_DONE (R371). -/
def effDvfsSettleDone (s : State) : State := finishRaise s

def execDvfsSettleDone (s : State) : Host.Outcome State Fault Refusal := .next (effDvfsSettleDone s)

/-- DVFS_FAIL (R371): no confirmation within 1 ms of VOUT_COMMAND, which the model takes as acknowledged in the step that issues it (log
entry 137); the running point's voltage is commanded. -/
def effDvfsFail (s : State) : State :=
  if s.isSet .PWR_DVFS_TRANSITION ∧ s.power.confirmedAt = 0 ∧ s.power.raiseAt + uMs ≤ s.now then
    let s := s.raise 0x0204 [s.get .PWR_DVFS_TARGET, s.power.lastMv]
    endTransition (voutCommand (s.get .PWR_DVFS_POINT) s)
  else s

def execDvfsFail (s : State) : Host.Outcome State Fault Refusal := .next (effDvfsFail s)

/-- VCORE_DROOP (R372): CCLK is throttled to the highest point whose floor the reading meets, or F3. -/
def effVcoreDroop (mv : Nat) (s : State) : State :=
  let cur := s.get .PWR_DVFS_POINT
  if floorMv cur ≤ mv then s
  else
    let p := ([0, 1, 2].find? (fun p => decide (floorMv p ≤ mv))).getD 3
    let now := s.now
    let again := s.isSet .PWR_DVFS_THROTTLED
    let s := (s.set .PWR_DVFS_THROTTLED 1).setPower (fun w => { w with throttlePoint := max p (if again then w.throttlePoint else 0), throttleAt := now })
    if again then s else (s.inc .PWR_THROTTLES).raise 0x0205 [mv, p]

def execVcoreDroop (mv : Nat) (s : State) : Host.Outcome State Fault Refusal := .next (effVcoreDroop mv s)

/-- THROTTLE_END (R372): VCORE has stayed at or above the floor for 100 µs; CCLK returns to the running point (`cclkPoint`), and a raise
that waited for it completes. -/
def effThrottleEnd (s : State) : State :=
  if s.isSet .PWR_DVFS_THROTTLED ∧ s.power.throttleAt + 100 * uUs ≤ s.now then
    finishRaise ((s.set .PWR_DVFS_THROTTLED 0).setPower (fun w => { w with throttlePoint := 0 }))
  else s

def execThrottleEnd (s : State) : Host.Outcome State Fault Refusal := .next (effThrottleEnd s)

/-- PMBUS_FAULT (R369): a transaction failed after its retries. -/
def effPmbusFault (addr code : Nat) (s : State) : State := (s.set .PWR_PMBUS_BUS_OK 0).raise 0x0206 [addr, code]

def execPmbusFault (addr code : Nat) (s : State) : Host.Outcome State Fault Refusal := .next (effPmbusFault addr code s)

/-- PMB_ALERT (R432): STATUS_WORD is read of every configured regulator. -/
def effPmbAlert (s : State) : State :=
  let addrs := s.get .PWR_PMBUS_VCORE_ADDR :: ((List.range 9).map (fun r => s.get .PWR_RAIL_ADDR (r + 1))).filter (· ≠ 0)
  if s.isSet .PWR_PMBUS_BUS_OK then addrs.foldl (fun s a => pmbusSend a 0x79 0 s) s else s

def execPmbAlert (s : State) : Host.Outcome State Fault Refusal := .next (effPmbAlert s)

/-- IDLE_TIMER_EXPIRY (R377): STANDBY is entered where the timer, the mode and the device allow it. -/
def effIdleTimerExpiry (s : State) : State :=
  let s := refreshIdle s
  if s.get .PWR_STATE_STATE = 2 ∧ s.isSet .PWR_IDLE_IDLE_EN ∧ bit (s.get .PWR_IDLE_STANDBY_MODES) s.mode ∧ s.mode ≠ 5 ∧ !(pfailHolds s) ∧
      s.power.idleSince ≠ 0 ∧ s.power.idleSince - 1 + s.get .PWR_IDLE_DEVICE_MS * uMs ≤ s.now then beginStandby s
  else s

def execIdleTimerExpiry (s : State) : Host.Outcome State Fault Refusal := .next (effIdleTimerExpiry s)

/-- An entry to STANDBY is abandoned at the end of a phase (R380): cause 0 wake, 1 not idle; the phases done are undone. -/
def abandonStandby (phase cause : Nat) (s : State) : State :=
  let s := (s.inc .PWR_STANDBY_ABANDONED).raise 0x0202 [phase, cause]
  setPowerState 5 phase (s.setPower (fun w => { w with back := true, wokeBy := 0 }))

/-- The store has nothing left to program: S2 and D2 are over (R380, Table 15.9). -/
def storeQuiet (s : State) : Bool := s.store.ops.isEmpty && (s.journal.filling.isEmpty || !(storeOpen s))

/-- STANDBY_PHASE_END (R380, R381, R383): a phase of the entry ends, or one is undone. -/
def effStandbyPhaseEnd (s : State) : State :=
  let st := s.get .PWR_STATE_STATE
  let ph := s.get .PWR_STATE_PHASE
  if pfailHolds s ∨ 3 < ph ∨ ph = 0 then s
  else if st = 3 then
    if s.power.request = some 2 then beginPowerDown s
    else if ph = 2 ∧ !(storeQuiet s) then s
    else if s.power.wokeBy ≠ 0 then abandonStandby ph 0 s
    else if ph = 1 then
      if deviceIdle 1 s then journalClose (s.set .PWR_STATE_PHASE 2) else abandonStandby 1 1 s
    else if ph = 2 then lowerForStandby (gateClusters (s.set .PWR_STATE_PHASE 3))
    else takeRequest (setPowerState 4 0 (s.inc .PWR_STANDBY_ENTRIES))
  else if st = 5 then
    if s.power.request = some 2 then beginPowerDown s
    else
      let s := s.when (ph = 3) ungateClusters
      if ph = 1 then takeRequest (portsResume (setPowerState 2 0 (s.setPower (fun w => { w with back := false }))))
      else s.set .PWR_STATE_PHASE (ph - 1)
  else s

def execStandbyPhaseEnd (s : State) : Host.Outcome State Fault Refusal := .next (effStandbyPhaseEnd s)

/-- WAKE (R379, R380): a wake source of Table 15.8, as its detector gives it. -/
def effWake (src : Fin 7) (s : State) : State := wakeBy src s

def execWake (src : Fin 7) (s : State) : Host.Outcome State Fault Refusal := .next (effWake src s)

/-- POWERDOWN_PHASE_END (R381, Table 15.9): D1 to D5, or the undoing of D1 to D3 after an on request. -/
def effPowerdownPhaseEnd (s : State) : State :=
  let st := s.get .PWR_STATE_STATE
  let ph := s.get .PWR_STATE_PHASE
  if ph < 4 ∨ (pfailHolds s ∧ ph < 7) then s
  else if st = 6 then
    if ph = 5 ∧ !(storeQuiet s) then s
    else if ph ≤ 6 ∧ s.power.request = some 0 then
      setPowerState 5 ph (s.setPower (fun w => { w with request := none, back := true }))
    else if ph = 4 then powerDownD2 (s.set .PWR_STATE_PHASE 5)
    else if ph = 5 then gateClusters (s.set .PWR_STATE_PHASE 6)
    else if ph = 6 then
      ({ s with pins := { s.pins with mainEn := false } }.emit (.rail 0 false)).set .PWR_STATE_PHASE 7
    else if ph = 7 then s.set .PWR_STATE_PHASE 8
    else reachOff s
  else if st = 5 then
    if s.power.request = some 2 then beginPowerDown s
    else
      let s := s.when (ph = 6) (fun s => ungateClusters (s.setCls (fun c => { c with loading := (List.range 8).map (fun p => (p, 1)) })))
      if ph = 4 then takeRequest (powerBack (setPowerState 2 0 (s.setPower (fun w => { w with back := false }))))
      else s.set .PWR_STATE_PHASE (ph - 1)
  else s

def execPowerdownPhaseEnd (s : State) : Host.Outcome State Fault Refusal := .next (effPowerdownPhaseEnd s)

/-- CLUSTER_DOZE_ENTRY (R384): a cluster idle for TIMER_US dozes; work arriving in the same cycle wins. -/
def effClusterDozeEntry (c : Fin 23) (arrival : Bool) (s : State) : State :=
  let s := refreshIdle s
  let since := Tab.get 0 s.power.clusterIdle c
  if s.get .PWR_STATE_STATE ≠ 2 ∨ !(s.isSet .PWR_DOZE_DOZE_EN c) ∨ s.isSet .PWR_DOZE_DOZING c ∨ since = 0 ∨
      s.now < since - 1 + s.get .PWR_DOZE_TIMER_US c * uUs then s
  else if arrival then s.inc .PWR_DOZE_ABANDONED
  else
    let s := (s.set .PWR_DOZE_DOZING 1 c).inc .PWR_DOZE_ENTRIES
    if c.val = 22 then cpuShowAll s else s

def execClusterDozeEntry (c : Fin 23) (arrival : Bool) (s : State) : Host.Outcome State Fault Refusal := .next (effClusterDozeEntry c arrival s)

/-- CLUSTER_DOZE_WAKE (R384). -/
def effClusterDozeWake (c : Fin 23) (s : State) : State :=
  if s.isSet .PWR_DOZE_DOZING c then
    let s := s.set .PWR_DOZE_DOZING 0 c
    if c.val = 22 then cpuShowAll s else s
  else s

def execClusterDozeWake (c : Fin 23) (s : State) : Host.Outcome State Fault Refusal := .next (effClusterDozeWake c s)

/-- CLOCK_LOSS (R374, R388, R102): event, report of participant 31, and for MCLK (domain 3) Bay's cause 3 on every port. -/
def effClockLoss (domain : Fin 9) (inst : Fin 4) (s : State) : State :=
  let d := domain.val
  let i := if d = 2 ∨ d = 4 ∨ d = 5 then inst.val else 0
  let s := (clkShow d i false s).raise 0x0208 [d, i]
  let s := s.setPower (fun w => { w with lost := if w.lost.contains (d * 4 + i) then w.lost else w.lost ++ [d * 4 + i] })
  let s := s.when (d = 3) (fun s => (List.range 4).foldl (fun s n =>
    let s := bayPresent n 3 true (s.start (.mclkBack n))
    bayTripOn n 3 s) s)
  resumeNext (report (mkSource 31 (16 + 4 * d + i) 6) 0 [] s)

def execClockLoss (domain : Fin 9) (inst : Fin 4) (s : State) : Host.Outcome State Fault Refusal := .next (effClockLoss domain inst s)

/-- The release behaviour of a mode (R2, Table 0.4): ASSURED 0, SWIFT 2, every other BALANCED 1. -/
def modeBehaviour (m : Nat) : Nat := if m = 0 then 0 else if m = 2 then 2 else 1

/-- The drain point of a live mode change is reached (R141, R385): the clusters to be gated are empty and no transmission begun
under the former behaviour is unconfirmed (log entry 78). -/
def drained (s : State) : Bool :=
  let gated := s.power.newMode == 5
  (!gated || (s.items.all (fun p => decide (p.2.cluster < 4) || p.2.parsed.isNone || !(p.2.points.contains 0 || p.2.points.contains 4)) &&
    s.cipher.jobs.all (fun j => decide (j.cluster < 2)))) &&
  s.copies.all (fun c => !(c.2.phase == 2 && c.2.spec))

/-- The transmissions that have begun before a drain point complete under the old behaviour (R141). -/
def markOld (s : State) : State :=
  { s with copies := s.copies.map (fun p => if isBegun s p.1 then (p.1, { p.2 with old := true }) else p) }

/-- DRAIN_POINT (R141, R385): the behaviour changes, and DRAINING stays 1 until the transmissions begun before have ended; CURRENT takes the mode; FRUGAL gates clusters and fixes F2, leaving it powers and loads them. -/
def effDrainPoint (s : State) : State :=
  if !(s.isSet .PWR_MODE_CHANGING) ∨ s.power.newMode = 0 ∨ !(drained s) then s
  else
    let m := s.power.newMode - 1
    let old := s.mode
    let s := markOld (s.setAll [(.PWR_MODE_CHANGING, 0), (.PWR_MODE_CURRENT, m), (.SW_RELEASE_BEHAVIOUR, modeBehaviour m)])
    let s := refreshDraining (s.setPower (fun w => { w with newMode := 0 }))
    let s := if m = 4 ∨ old = 4 then dvfsSetting (s.set .CIPH_STATUS_CLUSTERS_ON (modeClusters m)) else s
    let s := if m ≠ 4 ∧ old = 4 then s.setCls (fun c =>
        { c with loading := [4, 5, 6, 7].foldl (fun t p => Tab.put 0 t p 1) c.loading }) else s
    s.raise 0x0107 [m, old, 0]

def execDrainPoint (s : State) : Host.Outcome State Fault Refusal := .next (effDrainPoint s)

end Sys2Proof.Machine
end

