-- ==== Sys2Proof/Machine/SwCmd.lean ====
section
/-! DEFINITION. The switch commands of Table 9.6. -/
namespace Sys2Proof.Machine

open Sys2Proof

def ciSwConfig : CmdInfo := { op := 0x0A01, persist := true, parts := [20, 25] }
def ciSwDestConfig : CmdInfo := { op := 0x0A02, persist := true, parts := [20, 25] }
def ciSwQueueConfig : CmdInfo := { op := 0x0A03, persist := true, parts := [20] }
def ciSwPortFlush : CmdInfo := { op := 0x0A04, parts := [20] }
def ciSwIngConfig : CmdInfo := { op := 0x0A05, persist := true, parts := [20, 25] }
def ciSwSageConfig : CmdInfo := { op := 0x0A06, persist := true, parts := [20] }

/-- SW_CONFIG (Table 9.6): atomic. -/
def effSwConfig (q : Req) (es : List WEntry) (s : State) : State :=
  atomicCmd ciSwConfig q anyState
    (fun _ => wErr (fun f => [Fld.SW_SPILL_GLOBAL_FREE, .SW_SPILL_QUEUE_CELLS, .SW_SHARED_RESERVE, .SW_RELEASE_SPEC_EN].contains f) es)
    (.regs es) s

def execSwConfig (q : Req) (es : List WEntry) (s : State) : Host.Outcome State Fault Refusal := .next (effSwConfig q es s)

/-- SW_DEST_CONFIG (Table 9.6): atomic; DOWN_ACTION is for host destinations only (Table 9.12). -/
def effSwDestConfig (q : Req) (es : List WEntry) (s : State) : State :=
  let lineAction : Option Nat :=
    es.zipIdx.findSome? (fun p =>
      if (wWrites .SW_DEST_ALLOC_DOWN_ACTION [p.1]).any (fun w => decide (32 ≤ w.1) && w.2.2 == 1) then some (16 + 24 * p.2 + 20)
      else none)
  atomicCmd ciSwDestConfig q anyState
    (fun _ => firstErr [wErr (fun f => [Fld.SW_DEST_ALLOC_DOWN_FLUSH_MS, .SW_DEST_ALLOC_DOWN_ACTION,
      .SW_DEST_ALLOC_SHARED_LIMIT].contains f) es, lineAction]) (.regs es) s

def execSwDestConfig (q : Req) (es : List WEntry) (s : State) : Host.Outcome State Fault Refusal :=
  .next (effSwDestConfig q es s)

/-- What a queue's copies are charged, in their order, under a reduced MIN: the excess above it, and never less than before
(R249). -/
def recharge (m : Nat) : Nat → List Nat → State → State
  | _, [], s => s
  | depth, k :: rest, s =>
    let n := (s.copy k).cells
    recharge m (depth + n) rest (s.setCopy k (fun c => { c with charged := max c.charged ((depth + n - m) - (depth - m)) }))

/-- One queue record (Table 9.7, R221): DEST changes only while the queue is empty; the read-only fields are ignored. -/
def queueConfigOne (s : State) (e : REntry) : State × Nat :=
  let b (k n : Nat) : Nat := bits e.data (8 * (16 - k - n)) (8 * n)
  let dest := b 0 1 % 64
  let pool := b 1 1 / 8
  if 131072 ≤ e.index ∨ 41 < dest ∨ bits (b 14 2) 1 5 ≠ 0 ∨ (40 ≤ dest ∧ 16 ≤ pool) then (s, stParam)
  else if dest ≠ (s.queue e.index).dest ∧ s.copies.any (fun c => c.2.queue == e.index && decide (c.2.phase = 0)) then (s, stState)
  else
    let d0 := (s.queue e.index).dest
    let m := bits (b 2 4) 0 29
    let s := if m < (s.queue e.index).min then recharge m 0 (s.queue e.index).copies s else s
    let s := s.setQueue e.index (fun x =>
      { x with dest := dest, cls := b 1 1 % 8, pool := pool, min := m, max := bits (b 6 4) 0 29,
               wq := bits (b 14 2) 6 10 })
    (refreshShared dest (refreshShared d0 s), stDone)

/-- SW_QUEUE_CONFIG (R221): best-effort, up to 64 queues. -/
def effSwQueueConfig (q : Req) (es : List REntry) (s : State) : State :=
  bestEffort ciSwQueueConfig q (es.map (·.index)) anyState (fun _ => want 16 (es.length ≤ 64)) queueConfigOne es s

def execSwQueueConfig (q : Req) (es : List REntry) (s : State) : Host.Outcome State Fault Refusal :=
  .next (effSwQueueConfig q es s)

/-- SW_PORT_FLUSH (R233, R236): a flush of each destination of the mask starts; one that runs absorbs the request. -/
def effSwPortFlush (q : Req) (mask : Nat) (s : State) : State :=
  single ciSwPortFlush q [] anyState (fun _ => want 24 (mask < 2 ^ 42))
    (fun s => { state := ((List.range 42).filter (bit mask)).foldl (fun s d => startFlush d s) s }) s

def execSwPortFlush (q : Req) (mask : Nat) (s : State) : Host.Outcome State Fault Refusal := .next (effSwPortFlush q mask s)

/-- SW_ING_CONFIG (R228): atomic; XON must lie below XOFF once every entry is taken. -/
def effSwIngConfig (q : Req) (es : List WEntry) (s : State) : State :=
  let order (s : State) : Option Nat :=
    let t := wApplyAll s es
    es.zipIdx.findSome? (fun p =>
      if (fieldsAt p.1.off).any (fun f => f.1 == .SW_ING_XOFF && decide (t.get .SW_ING_XOFF f.2.1 ≤ t.get .SW_ING_XON f.2.1)) then
        some (16 + 24 * p.2 + 16)
      else none)
  atomicCmd ciSwIngConfig q anyState
    (fun s => firstErr [wErr (fun f => [Fld.SW_ING_LOSSLESS, .SW_ING_HEADROOM, .SW_ING_XOFF, .SW_ING_XON].contains f) es, order s])
    (.regs es) s

def execSwIngConfig (q : Req) (es : List WEntry) (s : State) : Host.Outcome State Fault Refusal := .next (effSwIngConfig q es s)

/-- SW_SAGE_CONFIG (Table 9.6). -/
def effSwSageConfig (q : Req) (es : List WEntry) (s : State) : State := writeCmd ciSwSageConfig q (fun f => f == Fld.SW_SAGE_EN) es s

def execSwSageConfig (q : Req) (es : List WEntry) (s : State) : Host.Outcome State Fault Refusal := .next (effSwSageConfig q es s)

end Sys2Proof.Machine
end

