-- ==== Sys2Proof/Machine/HostCmd.lean ====
section
/-! DEFINITION. The host port commands of Table 6.9. -/
namespace Sys2Proof.Machine

open Sys2Proof

/-- The lane clusters that a list of register writes touches, as participants. -/
def laneParts (es : List WEntry) : List Nat := ((wInstances es).map (fun x => 12 + x / 8)).dedup

def ciHostPortConfig (es : List WEntry) : CmdInfo := { op := 0x0701, persist := true, parts := laneParts es ++ [25] }
def ciHostPortEnable (x : Nat) : CmdInfo := { op := 0x0702, persist := true, parts := [12 + x / 8] }
def ciHostLaneConfig (es : List WEntry) : CmdInfo := { op := 0x0703, persist := true, parts := laneParts es }
def ciHostRetrain (x : Nat) : CmdInfo := { op := 0x0704, parts := [12 + x / 8] }
def ciHostFilterWrite (es : List WEntry) : CmdInfo := { op := 0x0705, persist := true, parts := laneParts es }
def ciHostPauseConfig (es : List WEntry) : CmdInfo := { op := 0x0706, persist := true, parts := laneParts es }
def ciHostLpiConfig (es : List WEntry) : CmdInfo := { op := 0x0707, persist := true, parts := laneParts es }
def ciHostWakeSend (x : Nat) : CmdInfo := { op := 0x0708, parts := [12 + x / 8] }
def ciHostWdogClear (x : Nat) : CmdInfo := { op := 0x0709, parts := [12 + x / 8] }
def ciHostEvtEnable (x : Nat) : CmdInfo := { op := 0x070A, persist := true, parts := [12 + x / 8] }

/-- Fields of `PORT[p].CFG` that HOST_PORT_CONFIG writes (Table 6.15). -/
def portCfgFields : List Fld :=
  [.PORT_CFG_FRT_LIMIT, .PORT_CFG_FRT_EN, .PORT_CFG_AN_EN, .PORT_CFG_TRAIN_EN, .PORT_CFG_SYSHDR_EN, .PORT_CFG_DEFAULT_CLASS,
    .PORT_CFG_TPID_ALT, .PORT_CFG_MAX_FRAME, .PORT_CFG_MEDIA, .PORT_CFG_TYPE]

/-- The ports of a configuration stand where R153 lets them: first lane a multiple of the width, no two overlap. -/
def portsPlaced (t : State) (x : Nat) : Bool :=
  let w := typeLanes (t.get .PORT_CFG_TYPE x)
  w == 0 || (x % w == 0 && (List.range 32).all (fun y =>
    y == x || ((lanesOf t y).all (fun l => !(lanesOf t x).contains l))))

/-- The entry whose TYPE breaks R153, as the offset of the byte that holds TYPE. -/
def placementErr (es : List WEntry) (s : State) : Option Nat :=
  let t := wApplyAll s es
  (es.zipIdx.reverse.find? (fun p => (wInstances [p.1]).any (fun x => !(portsPlaced t x)))).map (fun p => 16 + 24 * p.2 + 23)

/-- REJECTED_STATE unless every slot whose lanes change is DISABLED (Table 6.9). -/
def lanesAtRest (es : List WEntry) (s : State) : Bool :=
  let t := wApplyAll s es
  (wInstances es).all (fun x =>
    lanesOf s x == lanesOf t x ||
      (List.range 32).all (fun y =>
        ((lanesOf s y ++ lanesOf t y ++ [y]).all (fun l => !((lanesOf s x ++ lanesOf t x).contains l))) || s.link y == lsDisabled))

/-- HOST_PORT_CONFIG (R153): atomic. -/
def effHostPortConfig (q : Req) (es : List WEntry) (s : State) : State :=
  atomicCmd (ciHostPortConfig es) q (needs (lanesAtRest es))
    (fun s => firstErr [wErr (fun f => portCfgFields.contains f) es, placementErr es s]) (.hostPort es) s

def execHostPortConfig (q : Req) (es : List WEntry) (s : State) : Host.Outcome State Fault Refusal := .next (effHostPortConfig q es s)

/-- Total MAC rate of the host ports that are not DISABLED, in units of 200 Gb/s (R385). -/
def rateTotal (s : State) : Nat :=
  (List.range 32).foldl (fun a x => if s.link x = lsDisabled then a else a + typeLanes (s.get .PORT_CFG_TYPE x)) 0

/-- An enable that FRUGAL forbids: the rates of the ports that are not DISABLED would exceed 1.6 Tb/s (R385). -/
def frugalFull (x on : Nat) (s : State) : Bool :=
  on == 1 && s.mode == 4 && s.link x == lsDisabled && decide (8 < rateTotal s + typeLanes (s.get .PORT_CFG_TYPE x))

/-- HOST_PORT_ENABLE (R158). -/
def effHostPortEnable (q : Req) (x on : Nat) (s : State) : State :=
  single (ciHostPortEnable x) q [x] (needs (fun s => !(frugalFull x on s))) (fun _ => firstErr [want 16 (x < 32), want 24 (on < 2)])
    (fun s =>
      let s := s.set .PORT_CFG_ENABLE on x
      { state := if on = 1 then admin x s else toDisabled x 3 true s }) s

def execHostPortEnable (q : Req) (slot : Nat) (on : Nat) (s : State) : Host.Outcome State Fault Refusal :=
  .next (effHostPortEnable q slot on s)

/-- Fields of `LN[l].CFG` and `FFE_INIT` (Tables 6.12 and 6.14). -/
def laneFields : List Fld :=
  [.LN_CFG_WAKE_DET, .LN_CFG_PRECODE_RX, .LN_CFG_PRECODE_TX, .LN_CFG_POL_RX, .LN_CFG_POL_TX, .LN_CFG_TX_MAP, .LN_FFE_INIT_C_M3,
    .LN_FFE_INIT_C_M2, .LN_FFE_INIT_C_M1, .LN_FFE_INIT_C_0, .LN_FFE_INIT_C_P1, .LN_FFE_INIT_C_P2]

/-- TX_MAP is a permutation within each cluster, and Σ|c(i)| ≤ 64 for each FFE_INIT (R156, R157). -/
def laneErr (es : List WEntry) (s : State) : Option Nat :=
  let t := wApplyAll s es
  let init (l : Nat) : List Int :=
    [.LN_FFE_INIT_C_M3, .LN_FFE_INIT_C_M2, .LN_FFE_INIT_C_M1, .LN_FFE_INIT_C_0, .LN_FFE_INIT_C_P1, .LN_FFE_INIT_C_P2].map
      (fun f => t.getI f l)
  let map (l : Nat) : List Nat := (List.range 8).map (fun k => t.get .LN_CFG_TX_MAP (l / 8 * 8 + k))
  es.zipIdx.findSome? (fun p =>
    (wInstances [p.1]).findSome? (fun l =>
      if (fieldsAt p.1.off).any (fun f => f.1 == .LN_FFE_INIT_C_0) then (if ffeSum (init l) then none else some (16 + 24 * p.2 + 18))
      else if (map l).dedup.length = 8 then none
      else some (16 + 24 * p.2 + 23)))

/-- HOST_LANE_CONFIG (R156, R157): the registers take the values; the lanes take them at the next entry to TRAINING. -/
def effHostLaneConfig (q : Req) (es : List WEntry) (s : State) : State :=
  single (ciHostLaneConfig es) q (es.map (·.off)) anyState
    (fun s => firstErr [wErr (fun f => laneFields.contains f) es, laneErr es s]) (fun s => { state := wApplyAll s es }) s

def execHostLaneConfig (q : Req) (es : List WEntry) (s : State) : Host.Outcome State Fault Refusal := .next (effHostLaneConfig q es s)

/-- HOST_RETRAIN (R158): kind 0 full, 1 fast; REJECTED_STATE unless UP, and for fast unless FRT_EN is 1. -/
def effHostRetrain (q : Req) (x kind : Nat) (s : State) : State :=
  single (ciHostRetrain x) q []
    (needs (fun s => !(decide (x < 32 ∧ kind < 2)) || (s.link x == lsUp && (kind == 0 || s.isSet .PORT_CFG_FRT_EN x))))
    (fun _ => firstErr [want 16 (x < 32), want 24 (kind < 2)])
    (fun s => { state := if kind = 1 then toFrt x true 0 s else toTraining x (linkDown x 5 s) }) s

def execHostRetrain (q : Req) (slot kind : Nat) (s : State) : Host.Outcome State Fault Refusal := .next (effHostRetrain q slot kind s)

/-- Fields of the filter entries and of `PORT[p].CLASS` (Tables 6.20 to 6.22). -/
def filterFields : List Fld :=
  [.FILTER_MATCH_ETYPE, .FILTER_MATCH_OVID, .FILTER_MATCH_OPCP, .FILTER_MATCH_IVID, .FILTER_MATCH_IPCP, .FILTER_CTL_VALID,
    .FILTER_CTL_TAGS, .FILTER_CTL_M_ETYPE, .FILTER_CTL_M_OVID, .FILTER_CTL_M_OPCP, .FILTER_CTL_M_IVID, .FILTER_CTL_M_IPCP,
    .FILTER_CTL_CLASS, .PORT_CLASS_DEST]

/-- HOST_FILTER_WRITE (R166): every change to a port takes effect between two received frames, so at once for the frames
that follow. -/
def effHostFilterWrite (q : Req) (es : List WEntry) (s : State) : State :=
  writeCmd (ciHostFilterWrite es) q (fun f => filterFields.contains f) es s

def execHostFilterWrite (q : Req) (es : List WEntry) (s : State) : Host.Outcome State Fault Refusal := .next (effHostFilterWrite q es s)

/-- The pauses of a port follow its MODE (R169): with none, no pause frame is due; a call that stands when pauses begin is sent. -/
def pauseFollow (before s : State) (x : Nat) : State :=
  if s.get .PORT_PAUSE_MODE x = 0 then markIdle x (s.setSw (fun w => { w with pauseDue := Tab.put [] w.pauseDue x [] }))
  else if before.get .PORT_PAUSE_MODE x = 0 then callsDue x s
  else s

/-- HOST_PAUSE_CONFIG (R169, R170). -/
def effHostPauseConfig (q : Req) (es : List WEntry) (s : State) : State :=
  single (ciHostPauseConfig es) q (es.map (·.off)) anyState
    (fun _ => wErr (fun f => [Fld.PORT_PAUSE_OVERRIDE_MS, .PORT_PAUSE_WDOG_MS, .PORT_PAUSE_REFRESH, .PORT_PAUSE_QUANTA, .PORT_PAUSE_MODE,
      .PORT_PFC_QMAP].contains f) es)
    (fun s => { state := (wInstances es).foldl (pauseFollow s) (wApplyAll s es) }) s

def execHostPauseConfig (q : Req) (es : List WEntry) (s : State) : Host.Outcome State Fault Refusal := .next (effHostPauseConfig q es s)

/-- A direction whose low-power idle is no longer enabled leaves it (R162). -/
def lpiFollow (s : State) (x : Nat) : State :=
  let s := if s.isSet .PORT_STATUS_TX_LPI x ∧ !(s.isSet .PORT_LPI_TX_EN x) then
      let t := s.now + s.get .PORT_LPI_T_W_US x * uUs
      (s.set .PORT_STATUS_TX_LPI 0 x).setHp x (fun h => { h with holdUntil := t })
    else s
  s.when (!(s.isSet .PORT_LPI_RX_EN x)) (fun s => s.set .PORT_STATUS_RX_LPI 0 x)

/-- HOST_LPI_CONFIG (R162). -/
def effHostLpiConfig (q : Req) (es : List WEntry) (s : State) : State :=
  single (ciHostLpiConfig es) q (es.map (·.off)) anyState
    (fun _ => wErr (fun f => [Fld.PORT_LPI_T_W_US, .PORT_LPI_TX_IDLE_FRUGAL_US, .PORT_LPI_TX_IDLE_US, .PORT_LPI_RX_EN,
      .PORT_LPI_TX_EN].contains f) es)
    (fun s => { state := (wInstances es).foldl lpiFollow (wApplyAll s es) }) s

def execHostLpiConfig (q : Req) (es : List WEntry) (s : State) : Host.Outcome State Fault Refusal := .next (effHostLpiConfig q es s)

/-- HOST_WAKE_SEND (R163): 20 µs to 10 ms, 0 for the default 1 ms (log entry 39); in DISABLED or WAIT only. -/
def effHostWakeSend (q : Req) (x us : Nat) (s : State) : State :=
  single (ciHostWakeSend x) q [] (needs (fun s => decide (32 ≤ x) || decide (s.link x ≤ lsWait)))
    (fun _ => firstErr [want 16 (x < 32), want 24 (us = 0 ∨ (20 ≤ us ∧ us ≤ 10000))])
    (fun s =>
      let t := s.now + (if us = 0 then 1000 else us) * uUs
      { state := laneOut x 3 ((s.set .PORT_STATUS_WAKE_SENDING 1 x).setHp x (fun h => { h with wakeEnd := t })) }) s

def execHostWakeSend (q : Req) (slot us : Nat) (s : State) : Host.Outcome State Fault Refusal := .next (effHostWakeSend q slot us s)

/-- HOST_WDOG_CLEAR (R170): override ends on the named priorities; under 802.3x any of them names the port. -/
def effHostWdogClear (q : Req) (x mask : Nat) (s : State) : State :=
  single (ciHostWdogClear x) q [] anyState (fun _ => firstErr [want 16 (x < 32), want 24 (mask < 256)])
    (fun s =>
      let ps := (List.range 8).filter (bit mask) ++ (if mask = 0 then [] else [8])
      { state := ps.foldl (fun s p => endOverride x p 2 s) s }) s

def execHostWdogClear (q : Req) (slot mask : Nat) (s : State) : Host.Outcome State Fault Refusal := .next (effHostWdogClear q slot mask s)

/-- HOST_EVT_ENABLE (R174; log entry 37). -/
def effHostEvtEnable (q : Req) (x on : Nat) (s : State) : State :=
  single (ciHostEvtEnable x) q [x] anyState (fun _ => firstErr [want 16 (x < 32), want 24 (on < 2)])
    (fun s => { state := s.setHp x (fun h => { h with evtEnable := on == 1 }) }) s

def execHostEvtEnable (q : Req) (slot on : Nat) (s : State) : Host.Outcome State Fault Refusal := .next (effHostEvtEnable q slot on s)

end Sys2Proof.Machine
end

