-- ==== Sys2Proof/Machine/SchedCmd.lean ====
section
/-! DEFINITION. The scheduling and policing commands of Table 10.5. -/
namespace Sys2Proof.Machine

open Sys2Proof

def ciSchedNodeWrite : CmdInfo := { op := 0x0B01, persist := true, esz := 40, parts := [20] }
def ciSchedQueueMap : CmdInfo := { op := 0x0B02, persist := true, esz := 40, parts := [20] }
def ciSchedLenProfile : CmdInfo := { op := 0x0B03, persist := true, parts := [20, 25] }
def ciPolWrite (reset : Bool) : CmdInfo := { op := 0x0B04, persist := !reset, esz := 104, parts := [20] }
def ciPolColourMap : CmdInfo := { op := 0x0B05, persist := true, parts := [20, 25] }
def ciPolCounterClear : CmdInfo := { op := 0x0B06, esz := 8, parts := [20] }

/-- The microsecond of the local counter: refills fall at its whole values (R257). -/
def refillUs (s : State) : Nat := s.now / uUs

/-- The level and number of a node by its entry in the window of Table 20.7. -/
def nodeAt (e : Nat) : Option (Nat × Nat) :=
  if e < 4096 then some (2, e)
  else if e < 0x5000 then some (3, e - 0x1000)
  else if 0x8000 ≤ e ∧ e < 0x28000 then some (4, e - 0x8000)
  else if 0x40000 ≤ e ∧ e < 0x60000 then some (5, e - 0x40000)
  else none

/-- Buckets of a node record (Table 10.8); `d` is its 32 bytes. -/
def bucketsOf (d : Nat) : BucketCfg :=
  { cirRate := bits d 224 32, pirRate := bits d 192 32, cirBurst := bits d 168 24, pirBurst := bits d 144 24,
    cirEn := bit d 143, pirEn := bit d 142 }

/-- The fields of a node record that are checked by themselves: WEIGHT, bursts of enabled buckets, zero bytes (Table 10.8). -/
def nodeOk (d : Nat) : Bool :=
  decide (bits d 128 8 ≠ 0) && bits d 96 16 == 0 && bits d 126 2 == 0 &&
    (!(bit d 143) || decide (bits d 168 24 ≠ 0)) && (!(bit d 142) || decide (bits d 144 24 ≠ 0))

/-- Frames are queued beneath a node (R253). -/
def queuedBelow (s : State) (level n : Nat) : Bool :=
  s.copies.any (fun c => decide (c.2.phase = 0) && ancestor s c.2.queue c.2.cls level == n)

/-- A node takes a new configuration: buckets from a later refill (R258), the rest at once. -/
def nodeTake (level n d parent : Nat) (mapped : Bool) (s : State) : State :=
  let us := refillUs s
  s.setNodeAt (nodeKey level n) (fun x =>
    { x with next := if x.cfg = bucketsOf d then none else some (bucketsOf d), nextAt := us, mapped := mapped,
             lenProf := bits d 136 4, weight := bits d 128 8, parent := parent })

/-- One entry for a node of level 2 to 4 (R253). -/
def nodeWriteInner (level n : Nat) (s : State) (d : Nat) : State × Nat :=
  let parent := bits d 112 14
  let fixed : Bool := level == 4 || (level == 2 && decide (n < 256))
  let bad : Bool :=
    if fixed then parent != 0
    else if level = 2 then decide (41 < parent ∨ (32 ≤ parent ∧ parent ≤ 35)) else decide (4096 ≤ parent)
  if bad then (s, stParam)
  else if !fixed ∧ parent ≠ (s.node level n).parent ∧ queuedBelow s level n then (s, stState)
  else (nodeTake level n d parent false s, stDone)

/-- One entry for a queue node (R253): a GROUP beneath the queue's destination, changed only while the queue is empty. -/
def queueMapOne (q : Nat) (s : State) (d : Nat) : State × Nat :=
  let g := bits d 112 14
  if !(nodeOk d) ∨ 131072 ≤ q ∨ destOfGroup s g ≠ (s.queue q).dest then (s, stParam)
  else if g ≠ (s.node 5 q).parent ∧ queuedBelow s 5 q then (s, stState)
  else (nodeTake 5 q d g (bit d 140) s, stDone)

/-- One entry of SCHED_NODE_WRITE; INDEX is the entry of the node window (log entry 49). -/
def nodeWriteOne (s : State) (e : REntry) : State × Nat :=
  match nodeAt e.index with
  | none => (s, stParam)
  | some (5, q) => queueMapOne q s e.data
  | some (l, n) => if nodeOk e.data then nodeWriteInner l n s e.data else (s, stParam)

/-- SCHED_NODE_WRITE (R253, R258): best-effort, up to 64 nodes. -/
def effSchedNodeWrite (q : Req) (es : List REntry) (s : State) : State :=
  bestEffort ciSchedNodeWrite q (es.map (·.index)) anyState (fun _ => want 16 (es.length ≤ 64)) nodeWriteOne es s

def execSchedNodeWrite (q : Req) (es : List REntry) (s : State) : Host.Outcome State Fault Refusal :=
  .next (effSchedNodeWrite q es s)

/-- SCHED_QUEUE_MAP (R253): best-effort, up to 64 queues. -/
def effSchedQueueMap (q : Req) (es : List REntry) (s : State) : State :=
  bestEffort ciSchedQueueMap q (es.map (·.index)) anyState (fun _ => want 16 (es.length ≤ 64))
    (fun s e => queueMapOne e.index s e.data) es s

def execSchedQueueMap (q : Req) (es : List REntry) (s : State) : Host.Outcome State Fault Refusal :=
  .next (effSchedQueueMap q es s)

/-- SCHED_LEN_PROFILE (Table 10.7): atomic. -/
def effSchedLenProfile (q : Req) (es : List WEntry) (s : State) : State :=
  atomicCmd ciSchedLenProfile q anyState (fun _ => wErr (fun f => f == Fld.SCHED_LEN_PROF_OVERHEAD) es) (.regs es) s

def execSchedLenProfile (q : Req) (es : List WEntry) (s : State) : Host.Outcome State Fault Refusal :=
  .next (effSchedLenProfile q es s)

/-- The configuration of a policer record (Table 10.9); `d` is its 96 bytes. -/
def polOf (d : Nat) : PolCfg :=
  let b (k n : Nat) : Nat := bits d (8 * (96 - k - n)) (8 * n)
  let f := b 14 1
  let a := b 16 1
  { cir := b 0 4, pir := b 4 4, cbs := b 8 3, ebs := b 11 3, trtcm := bit f 7, aware := bit f 6, src := bits f 4 2,
    lenProf := f % 16, remark := b 15 1 % 8, green := bits a 4 2, yellow := bits a 2 2, red := bits a 0 2 }

/-- One entry of POL_WRITE (R261): trTCM with PIR below CIR, COLOUR_SRC 3 and nonzero zero bits are refused. -/
def polWriteOne (reset : Bool) (s : State) (e : REntry) : State × Nat :=
  let c := polOf e.data
  let z (k n : Nat) : Bool := bits e.data (8 * (96 - k - n)) (8 * n) == 0
  let zeros : Bool := bits e.data (8 * 80 + 3) 4 == 0 && bits e.data (8 * 79 + 6) 2 == 0 && z 17 3 && z 28 4
  if 262144 ≤ e.index ∨ (c.trtcm ∧ c.pir < c.cir) ∨ c.src = 3 ∨ !zeros then (s, stParam)
  else
    let us := refillUs s
    (s.setPolicer e.index (fun p =>
      let p := { p with next := if p.cfg = c then none else some c, nextAt := us }
      if reset then { p with cfg := c, next := none, tc := c.cbs * 65536, te := c.ebs * 65536 } else p), stDone)

/-- POL_WRITE (R261): best-effort, up to 64; RESET sets the levels full. -/
def effPolWrite (q : Req) (reset : Bool) (es : List REntry) (s : State) : State :=
  bestEffort (ciPolWrite reset) q (es.map (·.index)) anyState (fun _ => want 16 (es.length ≤ 64)) (polWriteOne reset) es s

def execPolWrite (q : Req) (reset : Bool) (es : List REntry) (s : State) : Host.Outcome State Fault Refusal :=
  .next (effPolWrite q reset es s)

/-- POL_COLOUR_MAP (Table 10.10): atomic. -/
def effPolColourMap (q : Req) (es : List WEntry) (s : State) : State :=
  atomicCmd ciPolColourMap q anyState (fun _ => wErr (fun f => f == Fld.SCHED_DSCP_COLOUR) es) (.regs es) s

def execPolColourMap (q : Req) (es : List WEntry) (s : State) : Host.Outcome State Fault Refusal :=
  .next (effPolColourMap q es s)

/-- One entry of POL_COUNTER_CLEAR (R265). -/
def polClearOne (s : State) (e : REntry) : State × Nat :=
  if 262144 ≤ e.index then (s, stParam)
  else
    (s.setPolicer e.index (fun p =>
      { p with greenPkts := 0, greenBytes := 0, yellowPkts := 0, yellowBytes := 0, redPkts := 0, redBytes := 0, dropPkts := 0,
               dropBytes := 0 }), stDone)

/-- POL_COUNTER_CLEAR (R265): best-effort, up to 64. -/
def effPolCounterClear (q : Req) (es : List REntry) (s : State) : State :=
  bestEffort ciPolCounterClear q [] anyState (fun _ => want 16 (es.length ≤ 64)) polClearOne es s

def execPolCounterClear (q : Req) (es : List REntry) (s : State) : Host.Outcome State Fault Refusal :=
  .next (effPolCounterClear q es s)

end Sys2Proof.Machine
end

