-- ==== Sys2Proof/Machine/Windows.lean ====
section
/-!
DEFINITION. BAR0 as it reads back ("Register space index"): the blocks of Table 20.2, the indirect windows of Table 20.7, and what
R466 says of clusters that cannot answer.
-/
namespace Sys2Proof.Machine

open Sys2Proof

/-- A region of Table 20.2 or 20.7: base, length, bytes of a slot, the bytes of entry e, the participant it lies in, and whether
that participant's chapter keeps it through an L2. -/
structure Region where
  base : Nat
  len : Nat
  slot : Nat := 8
  entry : State → Nat → List Nat
  part : Nat → Nat
  kept : Bool := false

/-- The clusters are gated for STANDBY, from S3 of its entry to the undoing of S3 (R378, R380): all but the core and system clusters, and a
line cluster whose port dozes or is a member. -/
def standbyGated (s : State) (p : Nat) : Bool :=
  let st := s.get .PWR_STATE_STATE
  let ph := s.get .PWR_STATE_PHASE
  let t := s.tree p
  (st == 4 || ((st == 3 || st == 5) && ph == 3)) && decide (p < 22) &&
    (decide (4 ≤ p) || t == tsOffline || t == tsListen || t == tsDeposed)

/-- The clusters are held in reset from D3 of a power-down on (Table 15.9). -/
def powerDownHeld (s : State) (p : Nat) : Bool := s.get .PWR_STATE_STATE == 6 && decide (6 ≤ s.get .PWR_STATE_PHASE ∧ p < 23)

/-- The cluster that holds participant p does not answer reads (R466): gated in FRUGAL (R385) or STANDBY, dozing (R384), held in reset or
under L2. -/
def noAnswer (s : State) (p : Nat) : Bool :=
  (decide (8 ≤ p ∧ p ≤ 11) && s.mode == 4) || s.isSet .PWR_DOZE_DOZING p || s.restarting p || standbyGated s p || powerDownHeld s p

/-- What an entry shorter than its slot shows: zero bytes follow it (R201, R464). -/
def inSlot (n : Nat) (bs : List Nat) : List Nat := (bs ++ List.replicate n 0).take n

/-- The words of a register block (R4, R5); the parser graph of a pipeline cluster stands in its banks (R189). -/
def blockWord (s : State) (off : Nat) : Nat :=
  match parserAt off with
  | some (p, isTrans, k) =>
    let b := Tab.get {} s.cls.standby p
    if isTrans then Tab.get htransReset b.htrans k else Tab.get 0 b.htype k
  | none =>
    let d := off % 0x200000
    let b := Tab.get {} s.cls.active ((off - 0x3000000) / 0x200000)
    if 0x3000000 ≤ off ∧ off < 0x4000000 ∧ 0x1000 ≤ d ∧ d < 0x1200 then Tab.get 0 b.htype ((d - 0x1000) / 8)
    else if 0x3000000 ≤ off ∧ off < 0x4000000 ∧ 0x4000 ≤ d ∧ d < 0x6000 then Tab.get htransReset b.htrans ((d - 0x4000) / 8)
    else readWord s off

/-- The word of a block as it reads while its cluster does not answer: counters are kept (R37), the rest reads all ones (R466). -/
def deafWord (s : State) (off : Nat) : Nat :=
  let isCtr := Ctr.all.any (fun c =>
    let r := c.row
    ((mkRow r.base r.g r.hi r.lo r.sj r.ni r.nj 0 0 64 .ro 0 0 0 false).index off).isSome)
  if isCtr then readWord s off else 2 ^ 64 - 1

/-- A 64-bit register or counter as its bytes stand at ascending addresses: little-endian (R3). -/
def regBytes (v : Nat) : List Nat := (toBytes 8 v).reverse

/-- A register block: base, length, participant. -/
def blockRegion (base len p : Nat) : Region :=
  { base := base, len := len, entry := fun s e => regBytes (blockWord s (base + 8 * e)), part := fun _ => p }

/-- The blocks of Table 20.2 in ascending order. -/
def blocks : List Region :=
  [blockRegion 0x0 0x100000 23, blockRegion 0x100000 0x100000 23, blockRegion 0x200000 0x100000 23,
   blockRegion 0x300000 0x100000 23, blockRegion 0x400000 0x400000 23, blockRegion 0x800000 0x800000 23] ++
  (List.range 4).map (fun n => blockRegion (0x1000000 + n * 0x400000) 0x400000 n) ++
  (List.range 4).map (fun k => blockRegion (0x2000000 + k * 0x100000) 0x100000 (12 + k)) ++
  (List.range 8).map (fun p => blockRegion (0x3000000 + p * 0x200000) 0x200000 (4 + p)) ++
  [blockRegion 0x4000000 0x1000000 21, blockRegion 0x5000000 0x1000000 20, blockRegion 0x6000000 0x1000000 20,
   blockRegion 0x7000000 0x1000000 23, blockRegion 0x8000000 0x1000000 22, blockRegion 0x9000000 0x1000000 20,
   blockRegion 0xA000000 0x1000000 23]

/-- The bytes of an exact-match entry (Table 8.2). -/
def emEntry (x : EmEntry) : List Nat :=
  toBytes 16 x.key ++ toBytes 7 ((x.kind * 2 ^ 18 + x.index) * 2 ^ 36 + x.user) ++ [b2n x.valid * 128 + b2n x.hit * 64]

/-- An on-die exact-match entry. -/
def emBytes (s : State) (e : Nat) : List Nat := emEntry (Tab.get {} s.tables.t.em e)

/-- A prefix slot (R209). -/
def lpmBytes (s : State) (e : Nat) : List Nat :=
  let x : LpmSlot := Tab.get {} s.tables.t.lpm e
  let half (h : LpmHalf) : List Nat := toBytes 10 ((h.family * 2 ^ 14 + h.vrf) * 2 ^ 64 + h.addr)
  half x.hi ++ half x.lo ++ toBytes 4 x.hi.result ++ toBytes 4 x.lo.result

/-- Eight bytes of the summary filter (R204). -/
def filterBytes (s : State) (e : Nat) : List Nat :=
  if s.isSet .TBL_STATE_FILTER_ALL_ONES then List.replicate 8 255
  else (List.range 8).map (fun k =>
    (List.range 8).foldl (fun a i => a + Tab.get 0 s.tables.filter (64 * e + 8 * k + i) * 2 ^ i) 0)

/-- A policer record (Table 10.9). -/
def policerBytes (s : State) (e : Nat) : List Nat :=
  let p : Policer := Tab.get {} s.sched.policers e
  let c := p.next.getD p.cfg
  toBytes 4 c.cir ++ toBytes 4 c.pir ++ toBytes 3 c.cbs ++ toBytes 3 c.ebs ++
    [b2n c.trtcm * 128 + b2n c.aware * 64 + c.src % 4 * 16 + c.lenProf % 16, b2n p.next.isSome * 128 + c.remark % 8,
      c.green % 4 * 16 + c.yellow % 4 * 4 + c.red % 4, 0, 0, 0] ++
    toBytes 4 (p.tc / 65536) ++ toBytes 4 (p.te / 65536) ++ [0, 0, 0, 0] ++
    ([p.greenPkts, p.greenBytes, p.yellowPkts, p.yellowBytes, p.redPkts, p.redBytes, p.dropPkts, p.dropBytes].flatMap (toBytes 8))

/-- A scheduler node record (Table 10.8) at its place in the node window. -/
def nodeBytes (s : State) (e : Nat) : List Nat :=
  match nodeAt e with
  | none => []
  | some (l, n) =>
    let x := s.node l n
    let c := x.next.getD x.cfg
    toBytes 4 c.cirRate ++ toBytes 4 c.pirRate ++ toBytes 3 c.cirBurst ++ toBytes 3 c.pirBurst ++
      [b2n c.cirEn * 128 + b2n c.pirEn * 64 + b2n x.next.isSome * 32 + b2n x.mapped * 16 + x.lenProf % 16, x.weight] ++
      toBytes 2 x.parent ++ [0, 0] ++ toBytes 6 (ofSigned 48 x.cir) ++ toBytes 6 (ofSigned 48 x.pir)

/-- Next-hop entries, ECMP groups and members (Table 8.4, R213), in slots of four bytes. -/
def hopBytes (s : State) (e : Nat) : List Nat :=
  if e < 0x100000 then toBytes 4 (bits (Tab.get 0 s.tables.t.nextHop (e / 4)) (32 * (3 - e % 4)) 32)
  else if e < 0x140000 then
    toBytes 4 (bits (Tab.get 0 s.tables.t.ecmpGroup ((e - 0x100000) / 2)) (32 * (1 - e % 2)) 32)
  else toBytes 4 (Tab.get 0 s.tables.t.ecmpMember (e - 0x140000))

/-- A rule entry, words 0 to 9 (R184). -/
def ruleEntry (r : Rule) : List Nat := toBytes 32 r.value ++ toBytes 32 r.mask ++ toBytes 8 r.action ++ toBytes 8 r.control

/-- The rule entries of the replica of pipeline clusters 0 and 1. -/
def ruleBytes (s : State) (e : Nat) : List Nat := ruleEntry (Tab.get {} s.cls.replicas e)

/-- A key profile of the active bank (0 to 15) or the standby bank (16 to 31) (R183). -/
def profileBytes (s : State) (e : Nat) : List Nat :=
  let b := Tab.get {} (if e < 16 then s.cls.active else s.cls.standby) 0
  let p : KeyProfile := Tab.get {} b.profiles (e % 16)
  Config.recordBytes 0 (b2n p.wide :: p.extracts.flatMap (fun x => [x.src, x.type, x.occ, x.off, x.len, x.keyOff])) 256

/-- A queue record (Table 9.7); DEPTH counts confirmed cells (R230). -/
def queueBytes (s : State) (e : Nat) : List Nat :=
  let q := s.queue e
  let depth := q.copies.foldl (fun a c => if (s.copy c).counted then a + (s.copy c).cells else a) 0
  [q.dest, q.pool * 8 + q.cls] ++ toBytes 4 q.min ++ toBytes 4 q.max ++ toBytes 4 depth ++ toBytes 2 (q.wq * 64 + b2n q.spilled)

/-- A bin record (Table 2.12). -/
def binBytes (s : State) (e : Nat) : List Nat :=
  let x := e % 1024
  let b := x % 35
  let key := if b < 33 then x / 35 * 2 * 64 + b else (x / 35 * 2 + 1) * 64 + (b - 33)
  if 595 ≤ x then []
  else
    let r : PmBin := Tab.get {} (s.frame (e / 1024)).bins key
    toBytes 6 r.start ++ [b2n r.timeSuspect + 2 * b2n r.part + 4 * b2n r.valid, 0] ++
      ([r.es, r.ses, r.uas, r.suspectS].flatMap (toBytes 4)) ++ ([r.bbe, r.cw, r.cwUncorr].flatMap (toBytes 8))

/-- A cipher slot record, without its key (Table 11.11, R271). -/
def keySlotBytes (s : State) (e : Nat) : List Nat :=
  let k := s.keySlot (e / 256) (e % 256)
  [k.type + 4 * b2n k.persist, k.use, k.rootSlot, 0] ++ toBytes 4 k.gen ++ toBytes 8 0 ++
    (if k.type = 2 then (k.label ++ List.replicate 32 0).take 32 else [])

/-- The windows of Table 20.7 in ascending order. -/
def windows : List Region :=
  [{ base := 0x10000000, len := 0x8000000, slot := 32, entry := emBytes, part := fun _ => 21, kept := true },
   { base := 0x18000000, len := 0x2000000, slot := 32, entry := lpmBytes, part := fun _ => 21, kept := true },
   { base := 0x1A000000, len := 0x4000000, entry := filterBytes, part := fun _ => 21, kept := true },
   { base := 0x1E000000, len := 0x2000000, slot := 64, entry := fun s e => toBytes 64 (Tab.get 0 s.capture e),
     part := fun e => e / 131072 },
   { base := 0x20000000, len := 0x2000000, slot := 128, entry := policerBytes, part := fun _ => 20 },
   { base := 0x22000000, len := 0xC00000, slot := 32, entry := nodeBytes, part := fun _ => 20 },
   { base := 0x23000000, len := 0x600000, slot := 4, entry := hopBytes, part := fun _ => 21, kept := true },
   { base := 0x23800000, len := 0x800000, slot := 128, entry := ruleBytes, part := fun _ => 21, kept := true },
   { base := 0x24000000, len := 0x80000, entry := fun s e => regBytes (Tab.get 0 s.cls.hits e), part := fun _ => 21, kept := true },
   { base := 0x24080000, len := 0x2000, slot := 256, entry := profileBytes, part := fun _ => 4 },
   { base := 0x24100000, len := 0x200000, slot := 16, entry := queueBytes, part := fun _ => 20 },
   { base := 0x24300000, len := 0x800, entry := fun s e => regBytes (ingCells s (e / 8) (e % 8) true), part := fun _ => 20 },
   { base := 0x24310000, len := 0x2000, slot := 32, kept := true, part := fun e => e / 64, entry := fun s e =>
       match (s.term (e / 64)).windows[e % 64]? with
       | some w => Config.recordBytes 1 [w.anchor, w.start, w.lastSym] 32
       | none => [] },
   { base := 0x24320000, len := 0x40000, slot := 64, entry := binBytes, part := fun e => e / 1024 },
   { base := 0x24400000, len := 0x84000, slot := 64, entry := keySlotBytes, part := fun _ => 23 },
   { base := 0x24500000, len := 0x20000, slot := 32, part := fun _ => 23,
     entry := fun s e => ((s.fault.queue[e]?).map (fun r => (reportWords r).flatMap (toBytes 8))).getD [] },
   { base := 0x24520000, len := 0x80000, entry := fun s e => regBytes (Tab.get 0 s.fault.occurs e), part := fun _ => 23 },
   { base := 0x24600000, len := 0x10000, slot := 0x10000, part := fun _ => 23,
     entry := fun s _ => ((evtOps s).flatten ++ unflushed s).flatMap recBytes }]

/-- Byte a of the buffer-pool region (R240): what a frame has left there, else 0 (log entry 132). -/
def regionByte (s : State) (a : Nat) : Nat :=
  if s.sw.regionGib * 2 ^ 30 ≤ a then 0
  else (s.sw.region.findSome? (fun p => if p.1 ≤ a ∧ a < p.1 + p.2.length then p.2[a - p.1]? else none)).getD 0

/-- The record of the buffer at a region offset (R243): its state, owner, and allocation instant in ms of the local counter; the places of
the three are the model's (log entry 132). A place that is no buffer's shows zeros. -/
def bufferRecord (s : State) (a : Nat) : List Nat :=
  match poolAt s a with
  | none => []
  | some p =>
    let d := a - poolBase s p
    if d % bufSize s p ≠ 0 then []
    else
      let b := Tab.get {} (s.pool p).bufs (d / bufSize s p)
      [b2n b.out, b.owner, 0, 0, 0, 0, 0, 0] ++ toBytes 8 (b.since / uMs)

/-- The 8 bytes at offset `a`, a multiple of 8, of the table side of HBM (Table 20.8): bucket b of the extension, of four entries padded
to 32 bytes, at b × 128 (R201); entry i of the master rule copy at i × 128 (R187); the region; the buffer records. Beyond the part in use
it reads 0. -/
def hbmBytes (s : State) (a : Nat) : List Nat :=
  let extBytes := 128 * 2 ^ s.get .TBL_STATE_EXT_BUCKETS_LOG2
  if a < 0x200000000 then
    if a < extBytes then ((inSlot 32 (emEntry (emAt true s (a / 32)))).drop (a % 32)).take 8 else []
  else if a < 0x300000000 then
    let o := a - 0x200000000
    if o < 65536 * 128 then ((inSlot 128 (ruleEntry (Tab.get {} s.cls.master (o / 128)))).drop (o % 128)).take 8 else []
  else if a < 0x400000000 then (List.range 8).map (fun k => regionByte s (a - 0x300000000 + k))
  else ((inSlot 16 (bufferRecord s ((a - 0x400000000) / 16 * 256))).drop (a % 16)).take 8

/-- A read of 8 bytes of BAR4 (R465): all ones in STANDBY (R466). -/
def readBar4 (s : State) (a : Nat) : List Nat :=
  if s.get .PWR_STATE_STATE = 4 then List.replicate 8 255 else inSlot 8 (hbmBytes s a)

/-- The 8 bytes at offset 8k of a region, by ascending address (R464, R466). -/
def Region.bytes (r : Region) (s : State) (k : Nat) : List Nat :=
  let e := 8 * k / r.slot
  if noAnswer s (r.part e) ∧ !r.kept then
    (if r.base < 0x10000000 then regBytes (deafWord s (r.base + 8 * k)) else List.replicate 8 255)
  else if r.slot < 8 then r.entry s (2 * k) ++ r.entry s (2 * k + 1)
  else ((inSlot r.slot (r.entry s e)).drop (8 * k % r.slot)).take 8

/-- Word k of a region as a 64-bit read of BAR0 returns it: little-endian (R3). -/
def Region.word (r : Region) (s : State) (k : Nat) : Nat := ofBytes (r.bytes s k).reverse

/-- A region is read from its first word to its last: where the block holds NOW_SUB, that read latches NOW_SEC, which is read after it (R4,
R467, Table 4.10). -/
def regionRead (r : Region) (s : State) : State :=
  if r.base ≤ 0x800000 ∧ 0x800000 < r.base + r.len then latchNow s else s

/-- How many of n words at an address the windows of function 0 allow, from the first (R325, R467). -/
def admitted (s : State) (addr : Nat) : Nat → Nat
  | 0 => 0
  | n + 1 => if windowOk s 0 addr 8 true then admitted s (addr + 8) n + 1 else 0

/-- The sections of a state dump from an address, with what CAP leaves (R467): the state, the bytes written, whether a write was
refused, and whether no section was left out. A section header is in network order; the words after it stand as a read of BAR0 returns
them (R3). -/
def dumpSections : List Region → Nat → Nat → State → State × Nat × Bool × Bool
  | [], _, _, s => (s, 0, false, true)
  | r :: rest, addr, room, s =>
    if room < 16 + r.len then (s, 0, false, false)
    else
      let s := regionRead r s
      let ws := [r.base, r.len * 2 ^ 32] ++ (List.range (r.len / 8)).map (fun k => ofBytes (r.bytes s k))
      let n := admitted s addr ws.length
      let t := if n = 0 then s else s.emit (.hostWrite 0 addr (ws.take n))
      if n < ws.length then (t.inc .CMD_WIN_DENIED, 8 * n, true, false)
      else
        let (u, b, bad, whole) := dumpSections rest (addr + 16 + r.len) (room - 16 - r.len) t
        (u, 16 + r.len + b, bad, whole)

/-- The byte at an offset of BAR0: of the block or window entry that holds it, else 0 (R460, R464). -/
def readByte (s : State) (a : Nat) : Nat :=
  match (blocks ++ windows).find? (fun r => decide (r.base ≤ a ∧ a < r.base + r.len)) with
  | some r => (r.bytes s ((a - r.base) / 8)).getD ((a - r.base) % 8) 0
  | none => 0

/-- A read of n bytes of BAR0 of the physical function at any alignment (R460): the bytes it covers, and what the read leaves: a read of any
byte of NOW_SUB latches NOW_SEC, which stands after it (R4). No field of the register space is cleared by a read. -/
def readBar0 (s : State) (a n : Nat) : State × List Nat :=
  let s := if a < 0x800008 ∧ 0x800000 < a + n then latchNow s else s
  (s, (List.range n).map (fun k => readByte s (a + k)))

/-- The BAR0 offset that a byte of function u's page stands for (Table 20.6): its copy of SYS.ID, its CMD.FN and its CORE.FN, the same
registers under a second address (R463). The MSI-X table and pending bits are the PCIe endpoint's, in no register of this manual. -/
def pageOffset (u o : Nat) : Option Nat :=
  if o < 8 then some o
  else if 0x100 ≤ o ∧ o < 0x130 then some (0x301000 + u * 0x40 + (o - 0x100))
  else if 0x200 ≤ o ∧ o < 0x228 then some (0x8010000 + u * 0x40 + (o - 0x200))
  else none

/-- A read of n bytes of function u's page (R460, R463): no byte of it is another function's (R459). -/
def readPage (s : State) (u o n : Nat) : List Nat :=
  (List.range n).map (fun k => match pageOffset u (o + k) with | some a => readByte s a | none => 0)

end Sys2Proof.Machine
end

