-- ==== Sys2Proof/Machine/SysCmd.lean ====
section
/-! DEFINITION. The system commands (family 0x01 of Table 13.6). -/
namespace Sys2Proof.Machine

open Sys2Proof

def ciSysNop : CmdInfo := { op := 0x0101, phys := false, pel := true, rescue := true }
def ciSysIdentify : CmdInfo := { op := 0x0102, phys := false, pel := true, rescue := true }
def ciFence : CmdInfo := { op := 0x0103, phys := false }
/-- SYS_MODE has every cluster as a participant (R385), and the store, which keeps the mode (R313, R386). -/
def ciSysMode : CmdInfo := { op := 0x0104, pel := true, persist := true, parts := List.range 24 ++ [25] }
def ciSysRestart : CmdInfo := { op := 0x0105, pel := true, rescue := true }
def ciSysWindowSet : CmdInfo := { op := 0x0106, rescue := true, parts := [23] }
def ciSysStateDump : CmdInfo := { op := 0x0107, rescue := true }
def ciSysCmdHistory : CmdInfo := { op := 0x0108, phys := false, pel := true, rescue := true }
def ciSysPeerConfig : CmdInfo := { op := 0x0109, parts := [23] }
def ciSysPeerRole : CmdInfo := { op := 0x010A }
def ciSysInbandConfig : CmdInfo := { op := 0x010B, persist := true }

/-- SYS_NOP (R332). -/
def effSysNop (q : Req) (s : State) : State := single ciSysNop q [] anyState anyParam (fun s => { state := s }) s

def execSysNop (q : Req) (s : State) : Host.Outcome State Fault Refusal := .next (effSysNop q s)

/-- SYS_IDENTIFY (R332): eight words in the order Table 13.6 names them (log entry 99). -/
def effSysIdentify (q : Req) (s : State) : State :=
  single ciSysIdentify q [] anyState anyParam
    (fun s => { state := s, data := [readWord s 0x0] ++ (List.range 4).map (fun n => s.get .LINE_TREE_SERIAL_SERIAL n) ++
      [readWord s 0x10, s.mode, s.get .SYS_BOOT_KIND] }) s

def execSysIdentify (q : Req) (s : State) : Host.Outcome State Fault Refusal := .next (effSysIdentify q s)

/-- The current generation of a rule set (R326): 0 classification, 1 windows, 2 key page of a function. -/
def ruleGen (set fn : Nat) (s : State) : Nat :=
  if set = 0 then s.get .CLS_GEN_GEN 0 else if set = 1 then s.get .CMD_WIN_GEN_GEN fn else s.get .CIPH_PAGE_GEN fn

/-- FENCE (R326): it waits for FENCE_RETURN, under the generation in force when it is accepted. -/
def effFence (q : Req) (fn set timeoutUs : Nat) (s : State) : State :=
  checked ciFence q
    (fun _ => if q.user ≠ 0 ∧ (set = 0 ∨ fn ≠ q.user) then some (stPermission, 0) else none)
    (fun _ => firstErr [want 16 (fn < 32 ∧ (set ≠ 0 ∨ fn = 0)), want 24 (set ≤ 2), want 32 (timeoutUs < 2 ^ 32)])
    (fun s => s.setCmd (fun c => { c with fences := c.fences ++
      [(⟨q, set, fn, ruleGen set fn s, s.now, timeoutUs⟩ : FenceWait)] })) s

def execFence (q : Req) (fn set timeoutUs : Nat) (s : State) : Host.Outcome State Fault Refusal := .next (effFence q fn set timeoutUs s)

/-- SYS_MODE (R385, R386): atomic; to FRUGAL only while the host ports' rates allow it. -/
def effSysMode (q : Req) (mode : Nat) (s : State) : State :=
  atomicCmd ciSysMode q (needs (fun s => mode != 4 || decide (rateTotal s ≤ 8))) (fun _ => want 24 (mode ≤ 5)) (.mode mode) s

def execSysMode (q : Req) (mode : Nat) (s : State) : Host.Outcome State Fault Refusal := .next (effSysMode q mode s)

/-- The commit of SYS_MODE: among ASSURED, BALANCED, SWIFT and FRUGAL the change begins and awaits its drain point (R385, R141);
to or from DENSE or MAINTENANCE it stands pending until the next boot; the current mode clears PENDING (R386). -/
def commitMode (m : Nat) (s : State) : State :=
  let cur := s.mode
  let clear := s.setAll [(.PWR_MODE_PENDING_VALID, 0), (.PWR_MODE_PENDING, 0)]
  if m = cur ∧ !(s.isSet .PWR_MODE_CHANGING) then clear
  else if m = 3 ∨ m = 5 ∨ cur = 3 ∨ cur = 5 then
    (s.setAll [(.PWR_MODE_PENDING_VALID, 1), (.PWR_MODE_PENDING, m)]).raise 0x0107 [m, cur, 1]
  else
    let t := clear.setAll [(.PWR_MODE_CHANGING, 1), (.SW_RELEASE_DRAINING, 1)]
    { t with power := { t.power with newMode := m + 1 } }

/-- SYS_RESTART (R355): the reply goes out first; then the store is flushed and the device restarts. -/
def effSysRestart (q : Req) (kind : Nat) (s : State) : State :=
  restartReady (single ciSysRestart q [] anyState (fun _ => want 24 (kind ≤ 2)) (fun s => { state := restartOrder kind s }) s)

def execSysRestart (q : Req) (kind : Nat) (s : State) : Host.Outcome State Fault Refusal := .next (effSysRestart q kind s)

/-- The first byte of a window pair that sets a reserved bit (Table 13.9, log entry 97). -/
def windowErr (pairs : List (Nat × Nat)) : Option Nat :=
  pairs.zipIdx.findSome? (fun p =>
    let o := 24 + 16 * p.2
    firstErr [want (o + 6) (bits p.1.1 8 4 == 0), want (o + 7) (bits p.1.1 3 5 == 0), want (o + 14) (bits p.1.2 8 4 == 0),
      want (o + 15) (bits p.1.2 0 8 == 0)])

/-- SYS_WINDOW_SET (R325): atomic; all eight windows of a function. -/
def effSysWindowSet (q : Req) (fn : Nat) (pairs : List (Nat × Nat)) (s : State) : State :=
  atomicCmd ciSysWindowSet q anyState
    (fun _ => firstErr [want 16 (fn < 32), want 8 (pairs.length = 8), windowErr pairs]) (.windows fn pairs) s

def execSysWindowSet (q : Req) (fn : Nat) (pairs : List (Nat × Nat)) (s : State) : Host.Outcome State Fault Refusal :=
  .next (effSysWindowSet q fn pairs s)

/-- The commit of SYS_WINDOW_SET: the windows, and the generation by one (R325, R326). -/
def commitWindows (fn : Nat) (pairs : List (Nat × Nat)) (s : State) : State :=
  let s := pairs.zipIdx.foldl (fun s p =>
    s.setAll [(.CMD_WIN_BASE, bits p.1.1 12 52), (.CMD_WIN_VALID, bits p.1.1 2 1), (.CMD_WIN_WRITE, bits p.1.1 1 1),
      (.CMD_WIN_READ, bits p.1.1 0 1), (.CMD_WIN_LAST, bits p.1.2 12 52)] fn p.2) s
  s.set .CMD_WIN_GEN_GEN (s.get .CMD_WIN_GEN_GEN fn + 1) fn

/-- SYS_STATE_DUMP (R467): every block and window region from ADDR on, as CAP and the windows of function 0 allow. -/
def effSysStateDump (q : Req) (addr cap : Nat) (s : State) : State :=
  single ciSysStateDump q [] anyState (fun _ => firstErr [want 24 (addr < 2 ^ 64), want 32 (cap < 2 ^ 64)])
    (fun s =>
      let r := dumpSections (blocks ++ windows) addr cap s
      { state := r.1, status := if r.2.2.1 then stPermission else stDone, data := [r.2.1, b2n r.2.2.2 * 2 ^ 56] }) s

def execSysStateDump (q : Req) (addr cap : Nat) (s : State) : Host.Outcome State Fault Refusal := .next (effSysStateDump q addr cap s)

/-- SYS_CMD_HISTORY (R324): the last 64 completions of a function, its own unless the caller is the physical one. -/
def effSysCmdHistory (q : Req) (fn : Nat) (s : State) : State :=
  single ciSysCmdHistory q [] (fun _ => if q.user ≠ 0 ∧ fn ≠ q.user then some (stPermission, 0) else none) (fun _ => want 16 (fn < 32))
    (fun s => { state := s, data := formR ((Tab.get ([] : List Hist) s.cmd.history fn).map (fun h =>
      (h.count, [h.tag * 2 ^ 32 + h.op * 2 ^ 16 + h.status * 2 ^ 8, h.detail * 2 ^ 48]))) }) s

def execSysCmdHistory (q : Req) (fn : Nat) (s : State) : Host.Outcome State Fault Refusal := .next (effSysCmdHistory q fn s)

/-- The fields of `CMD.PEER` a command writes (Table 13.14). -/
def peerFields : List Fld :=
  [.CMD_PEER_CFG_FAMILY_MASK, .CMD_PEER_CFG_PARTNER_RID, .CMD_PEER_CFG_APPLY, .CMD_PEER_CFG_ROLE, .CMD_PEER_CFG_ENABLE,
    .CMD_PEER_ADDR_PARTNER_BAR0]

/-- SYS_PEER_CONFIG (R328): atomic. -/
def effSysPeerConfig (q : Req) (es : List WEntry) (s : State) : State :=
  atomicCmd ciSysPeerConfig q anyState (fun _ => wErr (fun f => peerFields.contains f) es) (.peer es) s

def execSysPeerConfig (q : Req) (es : List WEntry) (s : State) : Host.Outcome State Fault Refusal := .next (effSysPeerConfig q es s)

/-- The commit of SYS_PEER_CONFIG (R328 to R330): DESYNC is cleared; records are numbered from 1 and written from offset 0 again (log
entry 100). -/
def commitPeer (es : List WEntry) (s : State) : State :=
  ((wApplyAll s es).setAll [(.CMD_PEER_STATUS_DESYNC, 0), (.CMD_PEER_RX_RX_HEAD, 0), (.CMD_PEER_RX_RX_TAIL, 0)]).setCmd (fun c =>
    { c with mirrorSeq := 0, mirrorPos := 0, mirrorQueue := [], mirrorBytes := 0, rxRecords := [], rxSeq := 0, rxDrain := 0, applying := none })

/-- SYS_PEER_ROLE (R330): the new role, with its event where it changes; a device that becomes active stops applying after the last
complete record. -/
def effSysPeerRole (q : Req) (role : Nat) (s : State) : State :=
  single ciSysPeerRole q [] anyState (fun _ => want 24 (role < 2))
    (fun s => { state := if s.get .CMD_PEER_CFG_ROLE = role then s
      else ((s.set .CMD_PEER_CFG_ROLE role).setCmd (fun c => { c with rxDrain := c.rxRecords.length })).raise 0x0104 [role] }) s

def execSysPeerRole (q : Req) (role : Nat) (s : State) : Host.Outcome State Fault Refusal := .next (effSysPeerRole q role s)

/-- SYS_INBAND_CONFIG (R319). -/
def effSysInbandConfig (q : Req) (es : List WEntry) (s : State) : State :=
  writeCmd ciSysInbandConfig q (fun f => f == Fld.CMD_INBAND_CLASS || f == Fld.CMD_INBAND_MAC) es s

def execSysInbandConfig (q : Req) (es : List WEntry) (s : State) : Host.Outcome State Fault Refusal := .next (effSysInbandConfig q es s)

end Sys2Proof.Machine
end

