-- ==== Sys2Proof/Machine/TblCmd.lean ====
section
/-! DEFINITION. The table commands of Table 8.5. -/
namespace Sys2Proof.Machine

open Sys2Proof

def ciTblEmInsert : CmdInfo := { op := 0x0901, esz := 32, parts := [21] }
def ciTblEmDelete : CmdInfo := { op := 0x0902, esz := 24, parts := [21] }
def ciTblEmFind : CmdInfo := { op := 0x0903, parts := [21] }
def ciTblLpmInsert : CmdInfo := { op := 0x0904, esz := 40, parts := [21] }
def ciTblLpmDelete : CmdInfo := { op := 0x0905, esz := 40, parts := [21] }
def ciTblNhWrite : CmdInfo := { op := 0x0906, esz := 24, parts := [21] }
def ciTblEcmpWrite : CmdInfo := { op := 0x0907, esz := 16, parts := [21] }
def ciTblProfileWrite : CmdInfo := { op := 0x0908, persist := true, parts := [21, 25] }
def ciTblLearnConfig : CmdInfo := { op := 0x0909, persist := true, parts := [21, 25] }
def ciTblHitScan : CmdInfo := { op := 0x090A, parts := [21] }
def ciTblSnapshot : CmdInfo := { op := 0x090B, parts := [21] }
def ciTblFilterRebuild : CmdInfo := { op := 0x090C, parts := [21] }

/-- In a warm boot, table commands return RETRY_BUSY until the snapshot is loaded (R357). -/
def tblReady (q : Req) (s : State) : Option (Nat × Nat) := if tablesAwait q s then some (stBusy, 21) else none

/-- The entry that a 24-byte record spells (Table 8.2). -/
def emEntryOf (d : Nat) : EmEntry :=
  { key := bits d 64 128, kind := bits d 62 2, index := bits d 44 18, user := bits d 8 32, valid := true }

/-- KIND and INDEX lie in the ranges of Table 8.1. -/
def resultOk (kind index : Nat) : Bool :=
  match kind with
  | 1 => decide (index < 16384)
  | 3 => decide (8 ≤ index ∧ index < 64)
  | _ => true

/-- One entry of TBL_EM_INSERT (R207). -/
def emInsertOne (tier : Nat) (replace : Bool) (s : State) (e : REntry) : State × Nat :=
  let x := emEntryOf e.data
  if resultOk x.kind x.index && bits e.data 40 4 == 0 && bits e.data 0 6 == 0 then emInsert tier replace x s else (s, stParam)

/-- TBL_EM_INSERT (R207): best-effort, up to 64 entries; TIER 0 to 2. -/
def effTblEmInsert (q : Req) (tier : Nat) (replace : Bool) (es : List REntry) (s : State) : State :=
  bestEffort ciTblEmInsert q [] (tblReady q) (fun s => firstErr [atMost64 es s, want 20 (tier < 3)]) (emInsertOne tier replace) es s
where
  /-- At most 64 entries. -/
  atMost64 (es : List REntry) : State → Option Nat := fun _ => want 16 (es.length ≤ 64)

def execTblEmInsert (q : Req) (tier : Nat) (replace : Bool) (es : List REntry) (s : State) : Host.Outcome State Fault Refusal :=
  .next (effTblEmInsert q tier replace es s)

/-- TBL_EM_DELETE (R208): best-effort, up to 64 keys; the record is the 16-byte key. -/
def effTblEmDelete (q : Req) (es : List REntry) (s : State) : State :=
  bestEffort ciTblEmDelete q [] (tblReady q) (fun _ => want 16 (es.length ≤ 64)) (fun s e => emDelete e.data s) es s

def execTblEmDelete (q : Req) (es : List REntry) (s : State) : Host.Outcome State Fault Refusal := .next (effTblEmDelete q es s)

/-- The 24 bytes of an entry as words (Table 8.2). -/
def emRecord (e : EmEntry) : List Nat :=
  [e.key / 2 ^ 64 % 2 ^ 64, e.key % 2 ^ 64,
   (((e.kind * 2 ^ 18 + e.index) * 2 ^ 4 * 2 ^ 32 + e.user) * 256 + b2n e.valid * 128 + b2n e.hit * 64) % 2 ^ 64]

/-- TBL_EM_FIND (Table 8.5): tier, bucket, way and entry of a key; REJECTED_STATE when it is absent (log entry 44). -/
def effTblEmFind (q : Req) (key : Nat) (s : State) : State :=
  let answer (tier : Nat) (ext : Bool) (k : Nat) : State → Result := fun s =>
    { state := s, data := formR [(0, [tier * 2 ^ 56 + k / 4 * 2 ^ 16 + k % 4] ++ emRecord (emAt ext s k))] }
  single ciTblEmFind q [] (tblReady q) (fun _ => want 24 (key < 2 ^ 128))
    (fun s =>
      match emFind false s key, emFind true s key with
      | some k, _ => answer 1 false k s
      | none, some k => answer 2 true k s
      | none, none => { state := s, status := stState }) s

def execTblEmFind (q : Req) (key : Nat) (s : State) : Host.Outcome State Fault Refusal := .next (effTblEmFind q key s)

/-- A prefix record (log entry 35): the two 80-bit entries and the result word of a slot (R209); IPv6 flag, VRF, address,
result word, or none where an entry breaks R209. -/
def prefixOf (d : Nat) : Option (Bool × Nat × Nat × Nat) :=
  let hi := bits d 176 80
  let lo := bits d 96 80
  let r := bits d 64 32
  let len := bits r 4 8
  let vrf := bits hi 64 14
  if bits r 0 4 ≠ 0 ∨ !(resultOk (bits r 30 2) (bits r 12 18)) then none
  else if bits hi 78 2 = 0 then
    let a := bits hi 32 32
    if len ≤ 32 ∧ bits hi 0 32 = 0 ∧ a % 2 ^ (32 - len) = 0 then some (false, vrf, a, r) else none
  else if bits hi 78 2 = 1 ∧ bits lo 78 2 = 2 ∧ bits lo 64 14 = vrf then
    let a := bits hi 0 64 * 2 ^ 64 + bits lo 0 64
    if len ≤ 128 ∧ a % 2 ^ (128 - len) = 0 then some (true, vrf, a, r) else none
  else none

/-- One entry of TBL_LPM_INSERT (R209, R211). -/
def lpmInsertOne (replace : Bool) (s : State) (e : REntry) : State × Nat :=
  match prefixOf e.data with
  | some (v6, vrf, a, r) => lpmInsert v6 vrf a r replace s
  | none => (s, stParam)

/-- TBL_LPM_INSERT (R211): best-effort, up to 64 prefixes. -/
def effTblLpmInsert (q : Req) (replace : Bool) (es : List REntry) (s : State) : State :=
  bestEffort ciTblLpmInsert q [] (tblReady q) (fun _ => want 16 (es.length ≤ 64)) (lpmInsertOne replace) es s

def execTblLpmInsert (q : Req) (replace : Bool) (es : List REntry) (s : State) : Host.Outcome State Fault Refusal :=
  .next (effTblLpmInsert q replace es s)

/-- One entry of TBL_LPM_DELETE (R211). -/
def lpmDeleteOne (s : State) (e : REntry) : State × Nat :=
  match prefixOf e.data with
  | some (v6, vrf, a, r) => lpmDelete v6 vrf a (bits r 4 8) s
  | none => (s, stParam)

/-- TBL_LPM_DELETE (R211): best-effort, up to 64 prefixes. -/
def effTblLpmDelete (q : Req) (es : List REntry) (s : State) : State :=
  bestEffort ciTblLpmDelete q [] (tblReady q) (fun _ => want 16 (es.length ≤ 64)) lpmDeleteOne es s

def execTblLpmDelete (q : Req) (es : List REntry) (s : State) : Host.Outcome State Fault Refusal := .next (effTblLpmDelete q es s)

/-- One entry of TBL_NH_WRITE (Table 8.4). -/
def nhWriteOne (s : State) (e : REntry) : State × Nat :=
  if e.index < 262144 ∧ bits e.data 121 6 ≤ 35 ∧ bits e.data 0 36 = 0 then
    (tblGen (s.setTables (fun t => { t with nextHop := Tab.put 0 t.nextHop e.index (e.data % 2 ^ 128) })), stDone)
  else (s, stParam)

/-- TBL_NH_WRITE (Table 8.5): best-effort, up to 64 entries. -/
def effTblNhWrite (q : Req) (es : List REntry) (s : State) : State :=
  bestEffort ciTblNhWrite q [] (tblReady q) (fun _ => want 16 (es.length ≤ 64)) nhWriteOne es s

def execTblNhWrite (q : Req) (es : List REntry) (s : State) : Host.Outcome State Fault Refusal := .next (effTblNhWrite q es s)

/-- One entry of TBL_ECMP_WRITE (R213): INDEX bit 32 tells a group word (0) from a member entry (1), its record in bytes 0-7
or 0-3 (log entry 45). -/
def ecmpWriteOne (s : State) (e : REntry) : State × Nat :=
  let i := e.index % 2 ^ 32
  if e.index / 2 ^ 32 = 0 then
    if i < 16384 ∧ bits e.data 62 1 = 0 ∧ bits e.data 0 36 = 0 then
      (tblGen (s.setTables (fun t => { t with ecmpGroup := Tab.put 0 t.ecmpGroup i (e.data % 2 ^ 64) })), stDone)
    else (s, stParam)
  else if e.index / 2 ^ 32 = 1 ∧ i < 262144 ∧ bits e.data 50 14 = 0 ∧ bits e.data 0 32 = 0 then
    (tblGen (s.setTables (fun t => { t with ecmpMember := Tab.put 0 t.ecmpMember i (bits e.data 32 18) })), stDone)
  else (s, stParam)

/-- TBL_ECMP_WRITE (R213): best-effort. -/
def effTblEcmpWrite (q : Req) (es : List REntry) (s : State) : State :=
  bestEffort ciTblEcmpWrite q [] (tblReady q) anyParam ecmpWriteOne es s

def execTblEcmpWrite (q : Req) (es : List REntry) (s : State) : Host.Outcome State Fault Refusal := .next (effTblEcmpWrite q es s)

/-- The registers TBL_PROFILE_WRITE names. -/
def lprofAllow (f : Fld) : Bool :=
  f ∈ [Fld.TBL_LPROF_EM_EN, .TBL_LPROF_EM_OFF, .TBL_LPROF_EM_TABLE, .TBL_LPROF_LPM_EN, .TBL_LPROF_LPM_V6, .TBL_LPROF_LPM_OFF,
    .TBL_LPROF_VRF_SRC, .TBL_LPROF_VRF, .TBL_LPROF_PREC, .TBL_LPROF_LEARN_EN, .TBL_LPROF_LEARN_OFF, .TBL_LPROF_LEARN_TABLE,
    .TBL_LPROF_MISS, .TBL_LPROF_MISS_EXC, .TBL_SMAC_MAC]

/-- TBL_PROFILE_WRITE (R219): atomic. -/
def effTblProfileWrite (q : Req) (es : List WEntry) (s : State) : State :=
  atomicCmd ciTblProfileWrite q (tblReady q) (fun _ => wErr lprofAllow es) (.tblProfile es) s

def execTblProfileWrite (q : Req) (es : List WEntry) (s : State) : Host.Outcome State Fault Refusal :=
  .next (effTblProfileWrite q es s)

/-- What TBL_PROFILE_WRITE does at its commit (R219): the entries, and the generation by one each. -/
def commitTblProfile (es : List WEntry) (s : State) : State :=
  es.foldl (fun s e => tblGen (wApply s e)) s

/-- TBL_LEARN_CONFIG (Table 8.5): atomic; ring base and LEARN_HOLD_US. -/
def effTblLearnConfig (q : Req) (base hold : Nat) (s : State) : State :=
  atomicCmd ciTblLearnConfig q (tblReady q) (fun _ => firstErr [want 24 (base < 2 ^ 64), want 32 (1 ≤ hold ∧ hold < 65536)])
    (.learn base hold) s

def execTblLearnConfig (q : Req) (base hold : Nat) (s : State) : Host.Outcome State Fault Refusal :=
  .next (effTblLearnConfig q base hold s)

/-- What TBL_LEARN_CONFIG does at its commit: TAIL and HEAD go to 0 and the ring is empty (R215). -/
def commitLearn (base hold : Nat) (s : State) : State :=
  (tblGen (s.setTbl (fun t => { t with learnBase := base, learnFull := false }))).setAll
    [(.TBL_LEARN_RING_HOLD_US, hold), (.TBL_LEARN_RING_TAIL, 0), (.TBL_LEARN_RING_HEAD, 0)]

/-- The exact-match entries a scan can name (R216, log entry 130): those on die by bucket and way, then those of the extension. -/
def emEntries (s : State) : Nat := 4194304 + 4 * 2 ^ s.get .TBL_STATE_EXT_BUCKETS_LOG2

/-- The entries whose HIT is set in a range of a tier whose entry 0 has the number `base`, as (index in the tier, number). -/
def hitsOf (ext : Bool) (base first count : Nat) (s : State) : List (Nat × Nat) :=
  ((emTab ext s).filter (fun p => decide (first ≤ base + p.1 ∧ base + p.1 < first + count) && p.2.hit)).map (fun p => (p.1, base + p.1))

/-- HIT of some entries of a tier is cleared. -/
def clearHits (ext : Bool) (ks : List (Nat × Nat)) (s : State) : State :=
  ks.foldl (fun s k => emSet ext k.1 { emAt ext s k.1 with hit := false } s) s

/-- TBL_HIT_SCAN (R216): the indices of a range whose HIT is set, each then cleared, on die and in the extension. -/
def effTblHitScan (q : Req) (first count : Nat) (s : State) : State :=
  single ciTblHitScan q [] (tblReady q) (fun s => firstErr [want 24 (first < emEntries s), want 32 (first + count ≤ emEntries s)])
    (fun s =>
      let a := hitsOf false 0 first count s
      let b := hitsOf true 4194304 first count s
      { state := clearHits true b (clearHits false a s), data := formR ((a ++ b).map (fun k => (k.2, []))) }) s

def execTblHitScan (q : Req) (first count : Nat) (s : State) : Host.Outcome State Fault Refusal :=
  .next (effTblHitScan q first count s)

/-- TBL_SNAPSHOT (R217): the cut is taken, HIT cleared in the copy, and the background write begins; RETRY_BUSY while one
runs. -/
def effTblSnapshot (q : Req) (s : State) : State :=
  single ciTblSnapshot q []
    (fun s => if s.isSet .TBL_SNAP_WRITING then some (stBusy, 21) else tblReady q s) anyParam
    (fun s =>
      let gen := s.get .TBL_STATE_GEN
      let t := s.tables.t
      let em : Tab EmEntry := (t.em.map (fun p => (p.1, { p.2 with hit := false }))).filter (fun p => p.2 ≠ {})
      let copy := if s.tables.newest = 1 then 1 else 0
      let serials := (List.range 4).map (fun n => s.get .LINE_TREE_SERIAL_SERIAL n)
      let snap : Snapshot := ⟨gen, Config.snapshotFormat (s.get .SYS_IMAGE_BUILD), serials, { t with em := em }⟩
      { state := (s.setTbl (fun x => { x with staging := some (copy, snap) })).set .TBL_SNAP_WRITING 1,
        data := [gen * 2 ^ 32] }) s

def execTblSnapshot (q : Req) (s : State) : Host.Outcome State Fault Refusal := .next (effTblSnapshot q s)

/-- TBL_FILTER_REBUILD (R205). -/
def effTblFilterRebuild (q : Req) (s : State) : State :=
  single ciTblFilterRebuild q [] (tblReady q) anyParam (fun s => { state := filterRebuild s }) s

def execTblFilterRebuild (q : Req) (s : State) : Host.Outcome State Fault Refusal := .next (effTblFilterRebuild q s)

end Sys2Proof.Machine
end

