-- ==== Sys2Proof/Machine/CmdEvt.lean ====
section
/-!
DEFINITION. The command channel's own steps ("Command channel and host interface"): direct writes, command rings, in-band
commands, the Peldel port, the commit of atomic commands, FENCE, mirroring, function-level resets.
-/
namespace Sys2Proof.Machine

open Sys2Proof

/-- The opcodes that the opcode tables define, as the count of each family's (Table 13.6, R333). -/
def definedOp (op : Nat) : Bool :=
  let n := [0, 11, 6, 10, 14, 8, 6, 10, 7, 12, 11, 6, 10, 7, 6, 5].getD (op / 256) 0
  decide (1 ≤ op % 256 ∧ op % 256 ≤ n)

/-- Entries of a function's submission and completion ring (R315). -/
def cmdSubSize (s : State) (u : Nat) : Nat := 2 ^ s.get .CMD_FN_SUB_SIZE_LOG2 u
def cmdCplSize (s : State) (u : Nat) : Nat := 2 ^ s.get .CMD_FN_CPL_SIZE_LOG2 u

/-- ENABLE goes from 0 to 1: every pointer to 0 (R315). -/
def ringEnable (u : Nat) (s : State) : State :=
  if s.isSet .CMD_FN_ENABLE u then s
  else
    (s.setAll [(.CMD_FN_ENABLE, 1), (.CMD_FN_SUB_HEAD, 0), (.CMD_FN_SUB_TAIL, 0), (.CMD_FN_CPL_HEAD, 0), (.CMD_FN_CPL_TAIL, 0)] u).setCmd
      (fun c => { c with reserved := Tab.put 0 c.reserved u 0 })

/-- The mark of a command whose ring was disabled under it: its completion is not written (R324). -/
def abandonedIndex : Nat := 65536

/-- ENABLE goes to 0: the commands already read complete without reply or completion, and BUSY reads 1 until they have (R324). -/
def ringDisable (u : Nat) (s : State) : State :=
  let s := (s.set .CMD_FN_ENABLE 0 u).setCmd (fun c =>
    { c with taken := c.taken.map (fun t => if t.fn = u then { t with index := abandonedIndex } else t),
             reserved := Tab.put 0 c.reserved u 0 })
  s.set .CMD_FN_BUSY (b2n (s.cmd.taken.any (fun t => t.fn == u))) u

def effCmdRingEnable (u : Nat) (s : State) : State := ringEnable u s

/-- CMD_RING_ENABLE (R315). -/
def execCmdRingEnable (fn : Fin 32) (s : State) : Host.Outcome State Fault Refusal := .next (effCmdRingEnable fn s)

def effCmdRingDisable (u : Nat) (s : State) : State := if s.isSet .CMD_FN_ENABLE u then ringDisable u s else s

/-- CMD_RING_DISABLE (R324). -/
def execCmdRingDisable (fn : Fin 32) (s : State) : Host.Outcome State Fault Refusal := .next (effCmdRingDisable fn s)

/-- CMD_SUB_TAIL_WRITE (R315, R316): a doorbell, which wakes the device (Table 15.8). -/
def effCmdSubTailWrite (u v : Nat) (s : State) : State := wakeBy 4 (s.set .CMD_FN_SUB_TAIL v u)

def execCmdSubTailWrite (fn : Fin 32) (v : Nat) (s : State) : Host.Outcome State Fault Refusal := .next (effCmdSubTailWrite fn v s)

/-- CMD_CPL_HEAD_WRITE (R315, R316). -/
def effCmdCplHeadWrite (u v : Nat) (s : State) : State := s.set .CMD_FN_CPL_HEAD v u

def execCmdCplHeadWrite (fn : Fin 32) (v : Nat) (s : State) : Host.Outcome State Fault Refusal := .next (effCmdCplHeadWrite fn v s)

/-- PEER_RX_TAIL_WRITE (R329, R330). -/
def effPeerRxTailWrite (v : Nat) (s : State) : State := s.set .CMD_PEER_RX_RX_TAIL v

def execPeerRxTailWrite (v : Nat) (s : State) : Host.Outcome State Fault Refusal := .next (effPeerRxTailWrite v s)

/-- One field of a directly written word: ENABLE acts as its own steps do, every other by its access code (R4 to R6). -/
def registerField (value : Nat) (s : State) (p : Fld × Nat × Nat) : State :=
  match p.1 with
  | .CMD_FN_ENABLE => if bits value (p.1.lowBit p.2.2) 1 = 1 then effCmdRingEnable p.2.1 s else effCmdRingDisable p.2.1 s
  | .CMD_FN_SUB_TAIL | .CORE_FN_SUB_TAIL => wakeBy 4 (directWrite value s p)
  | .TBL_LEARN_RING_HEAD => effLearnHeadWrite (bits value (p.1.lowBit p.2.2) p.1.row.w) s
  | _ => directWrite value s p

/-- REGISTER_WRITE (R4 to R6, R315, R460): an aligned 8-byte write; one to no register is discarded. -/
def effRegisterWrite (off value : Nat) (s : State) : State :=
  if off % 8 ≠ 0 then s else (fieldsAt off).foldl (registerField value) s

def execRegisterWrite (off value : Nat) (s : State) : Host.Outcome State Fault Refusal := .next (effRegisterWrite off value s)

/-- INTERRUPT_CLEAR (R4): the W1C fields of a word whose bits are written 1. -/
def effInterruptClear (off value : Nat) (s : State) : State :=
  if off % 8 ≠ 0 then s
  else ((fieldsAt off).filter (fun p => p.1.row.acc == .w1c)).foldl (directWrite value) s

def execInterruptClear (off value : Nat) (s : State) : Host.Outcome State Fault Refusal := .next (effInterruptClear off value s)

/-- Check 1 of R310 on a header: the first offending byte; `avail` is the packet's length. -/
def headerErr (h : Header) (avail : Nat) : Option Nat :=
  firstErr [want 0 (h.version == 1), want 1 (!h.reply && !h.truncated && h.zeros == 0),
    want 8 (h.len % 8 = 0 ∧ 16 + h.len ≤ avail ∧ 16 + h.len ≤ 65536), want 13 (h.status == 0), want 14 (h.detail == 0)]

/-- What the transport itself answers (R310 checks 1 to 3): status and DETAIL of the first check that fails. -/
def transportCheck (h : Header) (avail : Nat) (src : Src) : Option (Nat × Nat) :=
  match headerErr h avail with
  | some off => some (stParam, off)
  | none =>
    if !(srcAssigns src h.user) then some (stPermission, 0)
    else if !(definedOp h.opcode) then some (stUnknown, 0)
    else none

/-- The request that a header makes. -/
def headerReq (h : Header) (src : Src) : Req := { src := src, user := h.user, tag := h.tag, force := h.force, len := h.len }

/-- A submission or completion ring outside the windows (R317): 0 submission, 1 completion. -/
def ringFault (u which : Nat) (s : State) : State :=
  ((ringDisable u (s.inc .CMD_WIN_DENIED)).set .CMD_FN_FAULT 1 u).raise 0x0101 [u, which]

/-- The reply address of a command that gets no reply (R317). -/
def noReplyAddr : Nat := 2 ^ 64

/-- CMD_SUBMISSION_READ (R316, R317, R322): with no command of the ring in progress (log entry 103) and a completion entry free, the
entry at SUB_HEAD is read and a completion entry reserved; then the packet's header is checked. -/
def effCmdSubmissionRead (u : Nat) (e : SubEntry) (h : Header) (s : State) : State :=
  let n := cmdCplSize s u
  let used := (s.get .CMD_FN_CPL_TAIL u + n - s.get .CMD_FN_CPL_HEAD u % n) % n
  let i := s.get .CMD_FN_SUB_HEAD u
  if !(s.cmd.accepting) ∨ !(s.isSet .CMD_FN_ENABLE u) ∨ s.restarting 23 ∨ i = s.get .CMD_FN_SUB_TAIL u ∨
      s.cmd.taken.any (fun t => t.fn == u) ∨ n ≤ used + Tab.get 0 s.cmd.reserved u + 1 then s
  else if !(windowOk s u (s.get .CMD_FN_SUB_BASE u * 4096 + i * 32) 32 false) then ringFault u 0 s
  else
    let s := s.set .CMD_FN_SUB_HEAD ((i + 1) % cmdSubSize s u) u
    let take (addr : Nat) (s : State) : State := s.setCmd (fun c =>
      { c with taken := c.taken ++ [(⟨u, i, addr, e.replyCap⟩ : Taken)], reserved := Tab.put 0 c.reserved u (Tab.get 0 c.reserved u + 1) })
    if !(windowOk s u e.addr e.len false) ∨ (e.replyCap ≠ 0 ∧ !(windowOk s u e.replyAddr e.replyCap true)) then
      reject { op := 0 } { src := .ring u, user := u, tag := 0, force := false, len := 0 } stPermission 0
        ((take noReplyAddr s).inc .CMD_WIN_DENIED)
    else
      let s := take e.replyAddr s
      match transportCheck h e.len (.ring u) with
      | some (st, d) => reject { op := h.opcode } { headerReq h (.ring u) with user := u } st d s
      | none => s

def execCmdSubmissionRead (fn : Fin 32) (e : SubEntry) (h : Header) (s : State) : Host.Outcome State Fault Refusal :=
  .next (effCmdSubmissionRead fn e h s)

/-- A reply cut to `room` bytes of data (R316, R319): its header and data words, and whether it was cut (Table 13.1). -/
def replyPacket (r : Reply) (room : Nat) : List Nat × Bool :=
  let data := r.data.take (room / 8)
  let cut := decide (data.length < r.data.length)
  let flags := 0x80 + 0x40 * b2n cut + b2n r.req.force
  ([2 ^ 56 + flags * 2 ^ 48 + r.op * 2 ^ 32 + r.req.tag,
    8 * data.length * 2 ^ 32 + r.req.user * 2 ^ 24 + r.status * 2 ^ 16 + r.detail] ++ data, cut)

/-- The completion of a ring's command (R316, R317, R324). -/
def completeRing (u : Nat) (t : Taken) (r : Reply) (s : State) : State :=
  let s := s.setCmd (fun c => { c with taken := c.taken.erase t })
  if t.index = abandonedIndex then s.set .CMD_FN_BUSY (b2n (s.cmd.taken.any (fun x => x.fn == u))) u
  else
    let full := 16 + 8 * r.data.length
    let none_ := t.replyAddr = noReplyAddr
    let ws := (replyPacket r (t.replyCap - 16)).1
    let s := if none_ ∨ t.replyCap < 16 then s else hostWrite u t.replyAddr ws s
    let n := cmdCplSize s u
    let j := s.get .CMD_FN_CPL_TAIL u
    let addr := s.get .CMD_FN_CPL_BASE u * 4096 + j * 16
    let s := s.setCmd (fun c => { c with reserved := Tab.put 0 c.reserved u (Tab.get 0 c.reserved u - 1) })
    if !(windowOk s u addr 16 true) then ringFault u 1 s
    else
      let flags := b2n (!none_ && decide (t.replyCap < full))
      let s := s.emit (.hostWrite u addr [r.req.tag * 2 ^ 32 + r.status * 2 ^ 24 + flags * 2 ^ 16, (if none_ then 0 else full) * 2 ^ 32 + t.index])
      let s := s.set .CMD_FN_CPL_TAIL ((j + 1) % n) u
      if s.isSet .CMD_FN_CPL_IRQ_EN u then s.msix u 0 else s

/-- The key of a page for in-band commands (R286): none where INBAND_EN is 0 or its slot holds no key for CMAC. -/
def inbandKey (s : State) (u : Nat) : Option Nat :=
  let k := s.get .CIPH_PAGE_INBAND_SLOT u
  if u < 32 ∧ s.isSet .CIPH_PAGE_INBAND_EN u ∧ bit (s.keySlot u k).use 1 then slotKey s u k else none

/-- The bytes of 64-bit words in network order. -/
def wordBytes (ws : List Nat) : List Nat := ws.flatMap (toBytes 8)

/-- The reply frame to an in-band command (R319): to the command's source, with its outer tag, cut at 8,192 bytes of data, under the
same key; without a key the CMAC is a free value (log entry 104). -/
def inbandReply (slot : Nat) (src : Nat) (tag : List Nat) (r : Reply) (s : State) : State :=
  let packet := wordBytes (replyPacket r 8192).1
  let key := inbandKey s r.req.user
  let mac := match key with
    | some k => cmac k packet
    | none => s.free % 2 ^ 128
  let body := toBytes 6 src ++ toBytes 6 (s.get .CMD_INBAND_MAC) ++ tag ++ [0x88, 0xB5] ++ packet ++ toBytes 16 mac
  (s.when key.isNone State.took).emit
    (.inbandReply slot (s.get .CMD_INBAND_CLASS) (body ++ List.replicate (60 - body.length) 0))

/-- COMMAND_COMPLETION (R316, R317, R319, R321, R324, R355): the oldest command carried out is answered by its transport; a restart that
waits for it proceeds. -/
def effCommandCompletion (s : State) : State :=
  match s.cmd.replies with
  | [] => s
  | r :: rest =>
    let s := s.setCmd (fun c => { c with replies := rest })
    let s : State := match r.req.src with
      | .ring u =>
        match s.cmd.taken.find? (fun t => t.fn == u) with
        | some t => completeRing u t r s
        | none => s
      | .inband x =>
        match s.cmd.inband.find? (fun t => t.1 == x && t.2.2.2 == r.req.user) with
        | some t => inbandReply x t.2.1 t.2.2.1 r (s.setCmd (fun c => { c with inband := c.inband.erase t }))
        | none => s
      | .peldel => s.setCmd (fun c => { c with peldelReply := some r, peldelBusy := false })
      | _ => s
    restartReady s

def execCommandCompletion (s : State) : Host.Outcome State Fault Refusal := .next (effCommandCompletion s)

/-- A Jadex header as its 16 bytes spell it (Table 13.1). -/
def headerOf (bs : List Nat) : Header :=
  let f := bs.getD 1 0
  { version := bs.getD 0 0, reply := bit f 7, truncated := bit f 6, zeros := bits f 1 5, force := bit f 0, opcode := field bs 2 2,
    tag := field bs 4 4, len := field bs 8 4, user := bs.getD 12 0, status := bs.getD 13 0, detail := field bs 14 2 }

/-- A refused in-band command is answered at most 1,000 times a second per port; beyond that the reply is dropped and counted, the
completion standing in the history alone (R319, R324). -/
def inbandRefuse (slot : Nat) (t : Nat × Nat × List Nat × Nat) (h : Header) (status : Nat) (s : State) : State :=
  let sec := s.now / uS
  let sent := Tab.get 0 s.cmd.refusedSent slot
  let n := if sent / 2048 = sec then sent % 2048 else 0
  if n < 1000 then
    reject { op := h.opcode } (headerReq h (.inband slot)) status 0 (s.setCmd (fun c =>
      { c with refusedSent := Tab.put 0 c.refusedSent slot (sec * 2048 + n + 1), inband := c.inband ++ [t] }))
  else historyAdd h.user h.tag h.opcode status 0 ((s.inc .CMD_CMDS_DONE).inc .CMD_INBAND_REPLY_DROP)

/-- INBAND_COMMAND (R286, R318 to R320): the CMAC under USER's page key is verified first, then the TAG's newness, then the header.
`frame` is the frame from its destination address on, without FCS. -/
def effInbandCommand (x : Nat) (frame : List Nat) (s : State) : State :=
  let n := tagsOf (s.get .PORT_CFG_TPID_ALT x) frame
  let at_ := 12 + 4 * n
  let body := frame.drop (at_ + 2)
  let h := headerOf body
  if s.inRescue ∨ s.link x ≠ lsUp ∨ field frame at_ 2 ≠ 0x88B5 then s
  else
    let t : Nat × Nat × List Nat × Nat := (x, field frame 6 6, if n = 0 then [] else (frame.drop 12).take 4, h.user)
    let fits := decide (32 + h.len ≤ body.length)
    let covered := if fits then 16 + h.len else body.length - 16
    let good : Bool := match inbandKey s h.user with
      | some k => cmac k (body.take covered) % 2 ^ 128 == field body covered 16
      | none => false
    let d := (h.tag + 2 ^ 32 - s.get .CMD_FN_INBAND_TAG h.user) % 2 ^ 32
    if !good then inbandRefuse x t h stAuthFail (s.inc .CIPH_CMD_AUTH_FAIL)
    else if d = 0 ∨ 2 ^ 31 ≤ d then inbandRefuse x t h stStale (s.inc .CMD_INBAND_REPLAY)
    else
      let s := (s.set .CMD_FN_INBAND_TAG h.tag h.user).setCmd (fun c => { c with inband := c.inband ++ [t] })
      match transportCheck h (body.length - 16) (.inband x) with
      | some (st, d) => reject { op := h.opcode } (headerReq h (.inband x)) st d s
      | none => s

def execInbandCommand (slot : Fin 32) (frame : List Nat) (s : State) : Host.Outcome State Fault Refusal :=
  .next (effInbandCommand slot frame s)

/-- PELDEL_WRITE (R321): length, packet, CRC-32C of both. While a command runs, or the port's cluster restarts (Table 16.4), the
address phase is refused. -/
def effPeldelWrite (bytes : List Nat) (s : State) : State :=
  let n := field bytes 0 2
  let packet := (bytes.drop 2).take n
  if s.cmd.peldelBusy ∨ s.restarting 23 then s
  else if 4096 < n ∨ bytes.length ≠ n + 6 ∨ field bytes (n + 2) 4 ≠ crc32c (bytes.take (n + 2)) then s.inc .CMD_PELDEL_BADCHECK
  else
    let h := headerOf packet
    let s := s.setCmd (fun c => { c with peldelBusy := true })
    match transportCheck h n .peldel with
    | some (st, d) => reject { op := h.opcode } { headerReq h .peldel with user := 0 } st d s
    | none => s

def execPeldelWrite (bytes : List Nat) (s : State) : Host.Outcome State Fault Refusal := .next (effPeldelWrite bytes s)

/-- PELDEL_READ (R321): the state byte, and a ready reply in the framing of writes; a reply read is gone (log entry 105). -/
def effPeldelRead (s : State) : State :=
  if s.cmd.peldelBusy then s.emit (.peldel [1])
  else
    match s.cmd.peldelReply with
    | none => s.emit (.peldel [0])
    | some r =>
      let packet := wordBytes (replyPacket r 65512).1
      let framed := toBytes 2 packet.length ++ packet
      (s.emit (.peldel ([2] ++ framed ++ toBytes 4 (crc32c framed)))).setCmd (fun c => { c with peldelReply := none })

def execPeldelRead (s : State) : Host.Outcome State Fault Refusal := .next (effPeldelRead s)

/-- PELDEL_ADDRESS_MATCH (R379, R381, R382): a wake source; with PELDEL_OFF 1 an on request in OFF and during a power-down. -/
def effPeldelAddressMatch (s : State) : State :=
  let st := s.get .PWR_STATE_STATE
  if st = 2 ∨ st = 3 ∨ st = 4 then wakeBy 5 s
  else if s.isSet .PWR_STATE_PELDEL_OFF ∧ (st = 0 ∨ st = 6) then onRequest s
  else s

def execPeldelAddressMatch (s : State) : Host.Outcome State Fault Refusal := .next (effPeldelAddressMatch s)

/-- Registers of several units take values together; the pause calls of changed thresholds follow (R228). -/
def commitRegs (es : List WEntry) (s : State) : State :=
  let ks := ((wWrites .SW_ING_XOFF es ++ wWrites .SW_ING_XON es).map (·.1)).dedup
  ks.foldl (fun s k => pauseTest (k / 8) (k % 8) s) (wApplyAll s es)

/-- What an atomic command's participants adopt (R313). -/
def commitAct (a : Act) (s : State) : State :=
  match a with
  | .regs es => commitRegs es s
  | .trib n t slot dest source vlan => commitTrib n t slot dest source vlan s
  | .clsFlip => commitClsFlip s
  | .tblProfile es => commitTblProfile es s
  | .learn base hold => commitLearn base hold s
  | .lineKey es => commitLineKey es s
  | .fnFlows es => wApplyAll s es
  | .mode m => commitMode m s
  | .windows fn pairs => commitWindows fn pairs s
  | .peer es => commitPeer es s
  | .hostPort es => wApplyAll s es
  | .timeConfig es => commitTimeConfig es s
  | .poolConfig es => commitPoolConfig es s

/-- The indices that an atomic command's entries name, for its journal record (R352). -/
def actKeys (a : Act) : List Nat :=
  match a with
  | .regs es => es.map (·.off)
  | .trib n t _ _ _ _ => [64 * n + t]
  | .tblProfile es => es.map (·.off)
  | .lineKey es => es.map (·.off)
  | .fnFlows es => es.map (·.off)
  | .windows fn _ => [fn]
  | .peer es => es.map (·.off)
  | .hostPort es => es.map (·.off)
  | .timeConfig es => es.map (·.off)
  | .poolConfig es => es.map (·.off)
  | _ => []

/-- The participants that refuse, or have withdrawn with a reset, with their own status (R313, R353, R357). -/
def refusals (g : Staged) (other : Option (Nat × Nat)) (s : State) : List (Nat × Nat) :=
  let busy := (g.parts.filter (fun p => s.restarting p || g.withdrew.contains p || (p == 21 && tablesAwait g.req s))).map (fun p => (p, stBusy))
  let store := if !g.persist ∨ g.req.src = .journal then []
    else if journalFull g.req s then [(25, stBusy)] else if journalStopped s then [(25, stNoSpace)] else []
  busy ++ store ++ (match other with
    | some (p, st) => if g.parts.contains p && decide (1 ≤ st ∧ st ≤ 15) then [(p, st)] else []
    | none => [])

/-- ATOMIC_COMMIT (R313): the command staged first is committed when every participant acknowledges, else rolled back with the lowest
that does not. `refused` is a participant's refusal for a cause that the model does not hold (log entry 106). -/
def effAtomicCommit (refused : Option (Nat × Nat)) (s : State) : State :=
  match s.cmd.staged with
  | [] => s
  | g :: rest =>
    let s := s.setCmd (fun c => { c with staged := rest })
    let c : CmdInfo := { op := g.op, persist := g.persist }
    match (refusals g refused s).foldl (fun (b : Option (Nat × Nat)) x =>
        match b with
        | none => some x
        | some y => if x.1 < y.1 then some x else b) none with
    | some (p, st) => complete c g.req [] 0 { state := s, status := stRolledBack, detail := p, data := [st * 2 ^ 56] }
    | none => complete c g.req (actKeys g.act) 0 { state := commitAct g.act s }

def execAtomicCommit (refused : Option (Nat × Nat)) (s : State) : Host.Outcome State Fault Refusal := .next (effAtomicCommit refused s)

/-- An item is in flight for FENCE from its parse until its pipeline cluster has enqueued it and made its policer commit, handed it to the
work cores, or discarded it (R191). -/
def clsInFlight (s : State) (k : Nat) (it : Item) : Bool :=
  it.parsed.isSome && !(match it.decision with
    | some (.forward ..) => !(copiesOf s k).isEmpty && !(it.points.contains 5)
    | some (.exception _) => s.cls.delivered.any (fun d => d.2 == k)
    | some _ => !(it.points.contains 4)
    | none => false)

/-- What is in flight under generations older than `gen`, a count modulo 2^16 (R191, R326, log entry 98). -/
def olderInFlight (s : State) (set gen : Nat) : Nat :=
  let older (g : Nat) : Bool := decide (1 ≤ (gen + 65536 - g) % 65536 ∧ (gen + 65536 - g) % 65536 < 32768)
  if set = 0 then (s.items.filter (fun p => clsInFlight s p.1 p.2 && older p.2.gen)).length else 0

/-- FENCE_RETURN (R326): fence k returns DONE with its generation once no older one is in flight, or TIMEOUT with the count. -/
def effFenceReturn (k : Nat) (s : State) : State :=
  match s.cmd.fences[k]? with
  | none => s
  | some f =>
    let n := olderInFlight s f.set f.gen
    let t := s.setCmd (fun c => { c with fences := c.fences.eraseIdx k })
    if n = 0 then complete ciFence f.req [] 0 { state := t, data := [f.gen] }
    else if f.limitUs ≠ 0 ∧ f.since + f.limitUs * uUs ≤ s.now then
      complete ciFence f.req [] 0 { state := t, status := stTimeout, data := [n] }
    else s

def execFenceReturn (k : Nat) (s : State) : Host.Outcome State Fault Refusal := .next (effFenceReturn k s)

/-- Bytes of the mirror receive area (R328). -/
def mirrorArea : Nat := 524288

/-- Bytes a mirror record takes (Table 13.7). -/
def mirrorSize (len : Nat) : Nat := 16 + ceilDiv len 16 * 16

/-- MIRROR_RECORD_WRITE (R329, R398): the oldest waiting record is written to the partner's area, behind a wrap marker where it does
not fit before the end, then RX_TAIL. That the area has room is the row's own condition. CHECK covers the packet, whose bytes the
model does not hold, and stands as a free value (log entry 107). -/
def effMirrorRecordWrite (s : State) : State :=
  match s.cmd.mirrorQueue with
  | [] => s
  | r :: rest =>
    if !(s.isSet .CMD_PEER_CFG_ENABLE) ∨ !(s.isSet .CMD_PEER_CFG_ROLE) ∨ s.safe then s
    else
      let size := mirrorSize r.len
      let wrap := decide (mirrorArea < s.cmd.mirrorPos + size)
      let pos := if wrap then 0 else s.cmd.mirrorPos
      let s := if wrap ∧ s.cmd.mirrorPos < mirrorArea then
          s.emit (.partnerWrite (0x380000 + s.cmd.mirrorPos) [r.seq, 0xFFFFFFFF * 2 ^ 32])
        else s
      let s := (s.emit (.partnerWrite (0x380000 + pos) [r.seq, r.len * 2 ^ 32 + s.free % 2 ^ 32])).took
      let s := s.emit (.partnerWrite 0x300210 [(pos + size) % mirrorArea * 2 ^ 32])
      (s.inc .CMD_PEER_SENT).setCmd (fun c =>
        { c with mirrorQueue := rest, mirrorPos := (pos + size) % mirrorArea, mirrorBytes := c.mirrorBytes - size })

def execMirrorRecordWrite (s : State) : Host.Outcome State Fault Refusal := .next (effMirrorRecordWrite s)

/-- MIRROR_AREA_WRITE (R328): a write from any requester but the partner is discarded and counted. -/
def effMirrorAreaWrite (rid seq op len : Nat) (checkOk : Bool) (s : State) : State :=
  if rid ≠ s.get .CMD_PEER_CFG_PARTNER_RID then s.inc .CMD_PEER_FOREIGN
  else s.setCmd (fun c => { c with rxRecords := c.rxRecords ++ [(⟨seq, op, len, checkOk⟩ : MirrorRec)] })

def execMirrorAreaWrite (rid seq op len : Nat) (checkOk : Bool) (s : State) : Host.Outcome State Fault Refusal :=
  .next (effMirrorAreaWrite rid seq op len checkOk s)

/-- Applying stops (R330): cause 0 check, 1 gap. -/
def desync (cause seq : Nat) (s : State) : State :=
  (s.set .CMD_PEER_STATUS_DESYNC 1).raise 0x0103 [cause, seq / 2 ^ 32, seq % 2 ^ 32]

/-- MIRROR_APPLY (R330): the next complete record is taken, its CHECK and SEQ tested; its command then comes as its own row from the
mirror's source. A device that has become active applies no record that was not complete by then. -/
def effMirrorApply (s : State) : State :=
  let head := s.get .CMD_PEER_RX_RX_HEAD
  if !(s.isSet .CMD_PEER_CFG_APPLY) ∨ s.isSet .CMD_PEER_STATUS_DESYNC ∨ s.cmd.applying.isSome ∨ head = s.get .CMD_PEER_RX_RX_TAIL ∨
      !(s.cmd.accepting) ∨ (s.isSet .CMD_PEER_CFG_ROLE ∧ s.cmd.rxDrain = 0) then s
  else
    match s.cmd.rxRecords with
    | [] => s
    | r :: rest =>
      if r.len = 0xFFFFFFFF then (s.set .CMD_PEER_RX_RX_HEAD 0).setCmd (fun c => { c with rxRecords := rest, rxDrain := c.rxDrain - 1 })
      else if !r.checkOk then desync 0 r.seq s
      else if r.seq ≠ s.cmd.rxSeq + 1 then desync 1 r.seq s
      else (s.set .CMD_PEER_RX_RX_HEAD ((head + mirrorSize r.len) % mirrorArea)).setCmd (fun c =>
        { c with rxRecords := rest, rxSeq := r.seq, rxDrain := c.rxDrain - 1, applying := some r.op })

def execMirrorApply (s : State) : Host.Outcome State Fault Refusal := .next (effMirrorApply s)

/-- PEER_POLL (R331): every 1 ms the partner's `CMD.PEER.STATUS` is read; a read that completes sets PARTNER_OK. -/
def effPeerPoll (completed : Bool) (s : State) : State :=
  if (s.timer .peerPoll).isSome ∧ !(s.expired .peerPoll uMs) then s
  else
    let s := (s.start .peerPoll).emit .partnerRead
    if completed then (s.set .CMD_PEER_STATUS_PARTNER_OK 1).stop .peerRead
    else if (s.timer .peerRead).isNone then s.start .peerRead else s

def execPeerPoll (completed : Bool) (s : State) : Host.Outcome State Fault Refusal := .next (effPeerPoll completed s)

/-- PEER_LOST (R331): a read not completed within 50 ms. Word 0 is the last SEQ written (log entry 108). -/
def effPeerLost (s : State) : State :=
  if s.expired .peerRead (50 * uMs) then
    ((s.set .CMD_PEER_STATUS_PARTNER_OK 0).stop .peerRead).raise 0x0102 [(s.cmd.mirrorSeq - s.cmd.mirrorQueue.length) % 2 ^ 32]
  else s

def execPeerLost (s : State) : Host.Outcome State Fault Refusal := .next (effPeerLost s)

/-- FUNCTION_LEVEL_RESET (R246, R289, R290, R305, R307, R324): the function's command ring is disabled with its pointers at 0, its work
rings empty, its locks abandoned, its buffers reclaimed later, its key page cleared. -/
def effFunctionLevelReset (u : Nat) (s : State) : State :=
  let s := ringDisable u s
  let s := s.setAll [(.CMD_FN_SUB_HEAD, 0), (.CMD_FN_SUB_TAIL, 0), (.CMD_FN_CPL_HEAD, 0), (.CMD_FN_CPL_TAIL, 0)] u
  pageClear u (coreFunctionReset u (s.set .BPM_OWNER_IN_RESET 1 u))

def execFunctionLevelReset (fn : Fin 32) (s : State) : Host.Outcome State Fault Refusal := .next (effFunctionLevelReset fn s)

end Sys2Proof.Machine
end

