-- ==== Sys2Proof/Machine/SchedEvt.lean ====
section
/-!
DEFINITION. The events of the scheduler ("Scheduling, shaping and policing"): the refill of the buckets, selection at a
destination, the debit of a frame that has ended.
-/
namespace Sys2Proof.Machine

open Sys2Proof

/-- BUCKET_REFILL (R257, R258, R261): at a whole microsecond of the local counter every bucket and policer refills, and changes
that wait are adopted. -/
def effBucketRefill (s : State) : State := refillDue s

def execBucketRefill (s : State) : Host.Outcome State Fault Refusal := .next (effBucketRefill s)

/-- A frame chosen for a host slot joins the MAC transmit queue of its class (R259). -/
def toMac (x c : Nat) (s : State) : State :=
  let m := x * 8 + (s.copy c).cls
  markIdle x (s.setSw (fun w => { w with mac := Tab.put [] w.mac m (Tab.get [] w.mac m ++ [c]) }))

/-- A frame chosen for recirculation enters a pipeline cluster again, from the start type of its original ingress slot (R176,
Table 9.1); it has no ingress accounting (R228). -/
def recirculate (c : Nat) (s : State) : State :=
  let it := copyItem s (s.copy c)
  let s := newItem { origin := .core 0, slot := it.slot, vport := it.vport, rxStamp := it.rxStamp, bytes := outBytes s it, points := [0],
                     since := s.now, recirc := (s.copy c).dest - 35 } s
  s.setCopy c (fun x => { x with phase := 3, sent := x.len + 4, ok := true })

/-- A frame that finds no buffer is dropped without a debit and counted (R248, R257). -/
def noBuffer (c : Nat) (s : State) : State :=
  dropLone c .SWD_DMA_NOBUF (s.copy c).dest s

/-- A frame chosen for CORE is copied into a buffer of egress delivery and waits to become a work item (R248, R295). -/
def toCores (c : Nat) (s : State) : State :=
  let cp := s.copy c
  match bpmAlloc (s.queue cp.queue).pool 102 s with
  | (s, none) => noBuffer c s
  | (s, some a) =>
    ((bufWrite a (outBytes s (copyItem s cp)) s).setSw (fun w => { w with toCore := w.toCore ++ [(cp.queue, cp.item, a, cp.len)] })).setCopy c (fun x => { x with phase := 2 })

/-- A frame chosen for HOSTDMA is copied into a buffer, which passes to the receiving function with the completion (R248); the
manual names no rule for which function that is (log entry 62). -/
def toHostMemory (c : Nat) (s : State) : State :=
  let cp := s.copy c
  match bpmAlloc (s.queue cp.queue).pool 102 s with
  | (s, none) => noBuffer c s
  | (s, some a) =>
    (bpmMoveTo a (s.free % 32) (bufWrite a (outBytes s (copyItem s cp)) s.took)).setCopy c (fun x => { x with phase := 3, sent := x.len + 4, ok := true })

/-- The consumer of a destination accepts a frame (R259, R296, Table 16.5). -/
def accepts (s : State) (d : Nat) : Bool :=
  if d < 32 then true
  else if d < 36 then false
  else if d < 40 then (List.range 8).any (fun p => pipeOn s p && recircTo s (d - 35) p)
  else if d = 40 then
    decide (internalFlight s + s.sw.toCore.length + s.cls.delivered.length < 7680) &&
      decide (inFlight s + s.sw.toCore.length + s.cls.delivered.length < 8192) && !(s.restarting 22)
  else !s.safe

/-- The queue that the descent chooses at a destination (R254 to R256): of a host slot, one whose MAC transmit queue has room (R259). -/
def chosenQueue (d : Nat) (s : State) : Option Nat × State :=
  selectQueue d (workAt s d (macRate s d) (fun c _ _ => decide (32 ≤ d) || decide ((Tab.get [] s.sw.mac (d * 8 + c.cls)).length < 2))) s

/-- The consumer of a destination takes a frame (R248, R259). -/
def consume (d c : Nat) (s : State) : State :=
  if d < 32 then toMac d c s else if d < 40 then recirculate c s else if d = 40 then toCores c s else toHostMemory c s

/-- The first frame of the chosen queue goes to the consumer. -/
def serve (d : Nat) (s : State) : State :=
  match chosenQueue d s with
  | (none, s) => s
  | (some q, s) =>
    match dequeue q s with
    | (s, none) => s
    | (s, some c) => consume d c s

/-- SCHED_SELECT (R254 to R256, R259): a refill and debits of this cycle come first (R258); then the destination's consumer takes the frame
that the descent chooses. A line destination is served by the building of a burst body alone. -/
def effSchedSelect (d : Nat) (s : State) : State := if accepts s d then serve d (bucketsNow s) else s

def execSchedSelect (d : Fin 42) (s : State) : Host.Outcome State Fault Refusal := .next (effSchedSelect d s)

/-- FRAME_DEBIT (R147, R257): a dequeued frame has ended: its reservation is released, the buckets are debited what was sent,
and its cells return (R227); a frame sent in full is counted (R266); a refill of this cycle comes first (R258). -/
def effFrameDebit (k : Nat) (s : State) : State := if (s.copy k).phase ≠ 3 then s else debitFrame k (refillDue s)

def execFrameDebit (copy : Nat) (s : State) : Host.Outcome State Fault Refusal := .next (effFrameDebit copy s)

end Sys2Proof.Machine
end

