-- ==== Sys2Proof/Machine/SwitchEvt.lean ====
section
/-!
DEFINITION. The events of the switch core, Sage and the buffer pool manager ("Switch core, cell store and buffer pools").
-/
namespace Sys2Proof.Machine

open Sys2Proof

/-- The admission of an item (R223, R227 to R232): one decided to be forwarded, with no copy yet, is admitted to its queue or dropped; under
ASSURED it must be confirmed (R137); bound for a switch cluster under recovery it is discarded (R395). `more` are the copies beside the
forwarded one, which no rule says how the device chooses (log entry 131). -/
def admitOne (s : State) (a : Nat × List CopyTo) : State :=
  let (k, more) := a
  let it := s.item k
  let forward : Bool := match it.decision with | some (.forward ..) => true | _ => false
  if !(hasItem s k) ∨ !forward ∨ it.points.contains 0 ∨ !(copiesOf s k).isEmpty ∨ (behaviour s = 0 ∧ !(isConfirmed it)) then s
  else if s.restarting 20 then recoveryDrop k s
  else admitItem k more s

/-- ADMISSION (R223, R227 to R232): arrivals of the same cycle are taken in order of ingress slot, lower first. -/
def effAdmission (k : Nat) (more : List CopyTo) (s : State) : State :=
  let waiting (i : Instr) : Option (Nat × List CopyTo) := match i with | .admission j m => some (j, m) | _ => none
  (sooner s waiting (fun a => (s.item a.1).slot) (s.item k).slot ++ [(k, more)]).foldl admitOne s

def execAdmission (k : Nat) (more : List CopyTo) (s : State) : Host.Outcome State Fault Refusal := .next (effAdmission k more s)

/-- FLUSH_DONE (R233, Table 9.8): the flush of a destination ends; the last of a flush of the whole store lets Sage go on. -/
def effFlushDone (d : Nat) (s : State) : State :=
  if !(s.isSet .SW_DEST_STATE_FLUSHING d) then s
  else
    let freed := Tab.get 0 s.sw.flushFreed d
    let s := (s.set .SW_DEST_STATE_FLUSHING 0 d).raise 0x0A03 [d, freed]
    let s := s.setSw (fun w => { w with flushFreed := Tab.put 0 w.flushFreed d 0, flushSince := Tab.put 0 w.flushSince d 0 })
    if s.sw.wholeFlush ∧ (List.range 42).all (fun x => !(s.isSet .SW_DEST_STATE_FLUSHING x)) then
      (s.setSw (fun w => { w with wholeFlush := false })).set .SW_SAGE_PAUSED 0
    else s

def execFlushDone (d : Fin 42) (s : State) : Host.Outcome State Fault Refusal := .next (effFlushDone d s)

/-- DOWN_FLUSH_TIMER (R234): DOWN_FLUSH_MS after a link left UP, a destination of FLUSH_AFTER is flushed, and its arrivals are
dropped until the link is UP. -/
def effDownFlushTimer (x : Nat) (s : State) : State :=
  let since := (s.hp x).downSince
  if since = 0 ∨ !(s.isSet .SW_DEST_ALLOC_DOWN_ACTION x) ∨ s.link x = lsUp ∨ s.isSet .SW_DEST_STATE_DOWN_DROPPING x ∨
      s.now < since - 1 + s.get .SW_DEST_ALLOC_DOWN_FLUSH_MS x * uMs then s
  else (startFlush x s).set .SW_DEST_STATE_DOWN_DROPPING 1 x

def execDownFlushTimer (d : Fin 32) (s : State) : Host.Outcome State Fault Refusal := .next (effDownFlushTimer d s)

/-- SAGE.SRAM_POS counts the SRAM's cells and HBM_POS those of the HBM area (R224). -/
def sageCells (s : State) (hbm : Bool) : Nat := if hbm then hbmArea s else 1048576

/-- The number of a cell: HBM cells follow those of the SRAM. -/
def cellNumber (hbm : Bool) (pos : Nat) : Nat := if hbm then 1048576 + pos else pos

/-- Sage's records. -/
def State.setSage (s : State) (f : SageState → SageState) : State := s.setSw (fun w => { w with sage := f w.sage })

/-- What Sage does at one cell (R238, R239): a cell leaked with the same tag in two sweeps returns to the free list; a doubly
owned one leaves it, and returns on the next sweep if nothing holds it any more. -/
def sageAt (cell : Nat) (hbm : Bool) (found : SageCell) (s : State) : State :=
  let back (s : State) : State := s.set .SW_SHARED_FREE (min (allCells s) (s.get .SW_SHARED_FREE + 1))
  let forget (s : State) : State :=
    s.setSage (fun g => { g with seen := g.seen.filter (fun p => p.1 ≠ cell), doubles := g.doubles.filter (· ≠ cell) })
  match found with
  | .sound => forget s
  | .leaked tag =>
    if s.sw.sage.doubles.contains cell then back (forget s)
    else if s.sw.sage.seen.contains (cell, tag) then
      let s := (back (forget s)).inc .SW_SAGE_RECLAIMED
      s.setSage (fun g => if hbm then { g with reclaimedHbm := g.reclaimedHbm + 1 } else { g with reclaimedSram := g.reclaimedSram + 1 })
    else (forget s).setSage (fun g => { g with seen := g.seen ++ [(cell, tag)] })
  | .doubly holder =>
    let s := (forget s).setSage (fun g => { g with doubles := g.doubles ++ [cell] })
    let s := s.set .SW_SHARED_FREE (s.get .SW_SHARED_FREE - 1)
    reportUnit 20 12 cell (toBytes 8 holder) ((s.inc .SW_SAGE_DOUBLE).raise 0x0A02 [cell, holder])

/-- Sage moves on to the next cell of a tier; at the end of a sweep it counts it and raises CELL_LEAK for what it reclaimed
(R237, R238). -/
def sageNext (hbm : Bool) (s : State) : State :=
  let f : Fld := if hbm then .SW_SAGE_HBM_POS else .SW_SAGE_SRAM_POS
  let pos := s.get f + 1
  if pos < sageCells s hbm then s.set f pos
  else
    let n := if hbm then s.sw.sage.reclaimedHbm else s.sw.sage.reclaimedSram
    let s := ((s.set f 0).inc .SW_SAGE_SWEEPS).setSage
      (fun g => if hbm then { g with reclaimedHbm := 0 } else { g with reclaimedSram := 0 })
    if n = 0 then s else s.raise 0x0A01 [n, b2n hbm]

/-- SAGE_EXAMINE (R237 to R239): one SRAM cell and one HBM cell, in parallel, while Sage runs. -/
def effSageExamine (sram hbm : SageCell) (s : State) : State :=
  if !(s.isSet .SW_SAGE_EN) ∨ s.isSet .SW_SAGE_PAUSED ∨ s.restarting 20 then s
  else
    let s := sageNext false (sageAt (cellNumber false (s.get .SW_SAGE_SRAM_POS)) false sram s)
    sageNext true (sageAt (cellNumber true (s.get .SW_SAGE_HBM_POS)) true hbm s)

def execSageExamine (sram hbm : SageCell) (s : State) : Host.Outcome State Fault Refusal := .next (effSageExamine sram hbm s)

/-- Cells of a copy that its transmitter has done with: the first holds a descriptor of 32 bytes (R222). -/
def cellsDone (s : State) (c : Copy) : Nat :=
  if c.phase = 2 ∧ c.dest < 32 then min c.cells ((sentBytes s c - sysHdr s c.dest + 32) / 256) else 0

/-- The next cells of a queue are brought on die, `left` of them (R225); a burst body takes the frames it holds whole. -/
def prefetch : List Nat → Nat → State → State
  | [], _, s => s
  | c :: rest, left, s =>
    let x := s.copy c
    if x.phase = 2 ∧ 32 ≤ x.dest then prefetch rest left (s.setCopy c (fun x => { x with hbm := 0 }))
    else
      let n := x.cells - cellsDone s x
      let keep := n - min n left
      prefetch rest (left - min n left) (s.setCopy c (fun x => { x with hbm := min x.hbm keep }))

/-- SPILL_PREFETCH (R225): the next 16 cells of a spilled queue, frames in transmission first, are brought on die; the queue is spilled
no more when its last HBM cell has been read. -/
def effSpillPrefetch (q : Nat) (s : State) : State :=
  let going := (s.copies.filter (fun p => p.2.queue == q && decide (p.2.phase = 1 ∨ p.2.phase = 2))).map (·.1)
  if (s.queue q).spilled then respill q (prefetch (going ++ (s.queue q).copies) 16 s) else s

def execSpillPrefetch (q : Nat) (s : State) : Host.Outcome State Fault Refusal := .next (effSpillPrefetch q s)

/-- BPM_CACHE_REFILL (R242): indices move between a pool's ring and its cache. -/
def effBpmCacheRefill (p : Nat) (s : State) : State := poolBalance p s

def execBpmCacheRefill (pool : Fin 16) (s : State) : Host.Outcome State Fault Refusal := .next (effBpmCacheRefill pool s)

/-- BPM_RECLAIM (R246): an owner's reset has ended: the buffers it still holds are freed. -/
def effBpmReclaim (o : Nat) (s : State) : State := if s.isSet .BPM_OWNER_IN_RESET o then reclaimOwner o s else s

def execBpmReclaim (owner : Fin 128) (s : State) : Host.Outcome State Fault Refusal := .next (effBpmReclaim owner s)

/-- BPM_AUDIT_TIMER (R247): with AUDIT_S nonzero, an audit every AUDIT_S seconds. -/
def effBpmAuditTimer (s : State) : State :=
  let period := s.get .BPM_STATUS_AUDIT_S
  match s.sw.auditSince with
  | none => s
  | some t =>
    if period = 0 ∨ s.now < t + period * uS then s
    else bpmAudit (s.setSw (fun w => { w with auditSince := some (t + period * uS) }))

def execBpmAuditTimer (s : State) : Host.Outcome State Fault Refusal := .next (effBpmAuditTimer s)

/-- The cell that the transmitter of a frame needs next is not on die (R226). -/
def cellMissing (s : State) (c : Copy) : Bool := decide (0 < c.hbm) && decide (c.cells - c.hbm ≤ cellsDone s c ∨ 32 ≤ c.dest)

/-- TX_UNDERRUN (R172, R226): a cell of a frame in transmission is not on die in time; or a cell read has an uncorrectable ECC
error, which also drops a frame that has not begun. -/
def effTxUnderrun (k : Nat) (ecc : Bool) (s : State) : State :=
  let c := s.copy k
  let live : Bool := s.copies.any (fun p => p.1 == k) && decide (c.phase < 3) && decide (c.dest < 36 ∨ c.phase < 2)
  let begun := isBegun s k
  if !live ∨ (!ecc ∧ !(begun && cellMissing s c)) then s
  else
    let ctr : Ctr := if ecc then .SWD_CELL_ECC_DROP else if c.dest < 32 then .HP_TX_UNDERRUN else .SWD_TX_UNDERRUN
    let s := s.when ecc (reportUnit 20 1 c.queue [])
    if begun then endOnWire k (countFor c.item ctr c.dest s) else dropLone k ctr c.dest s

def execTxUnderrun (copy : Nat) (ecc : Bool) (s : State) : Host.Outcome State Fault Refusal := .next (effTxUnderrun copy ecc s)

end Sys2Proof.Machine
end

