-- ==== Sys2Proof/Machine/CoreEvt.lean ====
section
/-!
DEFINITION. The events of the core cluster ("Work cores, task scheduling and locks"): submission reads, internal items, dispatch,
pre-emption, ends and time-outs of items, lock waits, the direct writes of the work rings.
-/
namespace Sys2Proof.Machine

open Sys2Proof

/-- WORK_SUB_TAIL_WRITE (R303): the host advances SUB_TAIL. -/
def effWorkSubTailWrite (u v : Nat) (s : State) : State := wakeBy 4 (s.set .CORE_FN_SUB_TAIL v u)

def execWorkSubTailWrite (fn : Fin 32) (v : Nat) (s : State) : Host.Outcome State Fault Refusal := .next (effWorkSubTailWrite fn v s)

/-- WORK_RES_HEAD_WRITE (R304): the host has consumed results. -/
def effWorkResHeadWrite (u v : Nat) (s : State) : State := s.set .CORE_FN_RES_HEAD v u

def execWorkResHeadWrite (fn : Fin 32) (v : Nat) (s : State) : Host.Outcome State Fault Refusal := .next (effWorkResHeadWrite fn v s)

/-- Entries waiting in a function's submission ring. -/
def subWaiting (s : State) (u : Nat) : Nat :=
  let n := 2 ^ (s.workRing u).subLog2
  (s.get .CORE_FN_SUB_TAIL u + n - s.get .CORE_FN_SUB_HEAD u % n) % n

/-- A result entry is free that no admitted item has reserved (R303, R304). -/
def resultFree (s : State) (u : Nat) : Bool :=
  let r := s.workRing u
  let n := 2 ^ r.resLog2
  decide ((s.get .CORE_FN_RES_TAIL u + n - s.get .CORE_FN_RES_HEAD u % n) % n + r.reserved + 1 < n)

/-- Items waiting in a queue (Table 12.9). -/
def waitingCount (s : State) (q : Nat) : Nat := ((waitingOf s q).filter (fun k => (s.work k).phase == 0)).length

/-- The admission checks of Table 12.2, in order: the status of the first that fails, with the state it leaves; a failed
hand-off is counted and reported (R244). -/
def admitCheck (u : Nat) (e : WorkEntry) (s : State) : Option (Nat × State) :=
  let base := s.get .CORE_FN_FLOW_BASE u
  if e.version ≠ 1 ∨ !e.zeros ∨ 1023 < e.queue then some (stParam, s)
  else if !(s.isSet .CORE_WQ_CFG_ENABLE e.queue) ∨ s.get .CORE_WQ_CFG_SUBMIT_FN e.queue ≠ u then some (stPermission, s)
  else if e.ordered ∧ (e.flow < base ∨ base + s.get .CORE_FN_FLOW_COUNT u ≤ e.flow) then some (stPermission, s)
  else
    let hand : Nat ⊕ (Nat × Nat) := if e.bufAddr = 0 then .inr (0, 0) else bpmCheck s u e.bufAddr (some 103)
    match hand with
    | .inl row => some (bpmRowStatus row, bpmFail u row e.bufAddr s)
    | .inr _ =>
      if s.get .CORE_WQ_CFG_MAX_ITEMS e.queue ≤ waitingCount s e.queue then some (stNoSpace, s)
      else if (serviceTable s).all (fun x => x.1 != e.service) then some (stUnknown, s)
      else none

/-- The work item that a submission entry describes (Table 12.1). -/
def hostWork (u : Nat) (e : WorkEntry) : Work :=
  { fn := some u, queue := e.queue, flow := if e.ordered then some e.flow else none, preemptible := e.preemptible,
    returnBuf := e.returnBuf, service := e.service, tag := e.tag, bufAddr := e.bufAddr, bufLen := e.bufLen, args := e.args }

/-- SUBMISSION_READ (R293, R294, R301 to R304): the entry at SUB_HEAD is read where the function's result ring and the limits of
R296 let it; it is admitted, or its result tells the check that failed. In L3 the work rings stop (Table 16.5). -/
def effSubmissionRead (u : Nat) (e : WorkEntry) (s : State) : State :=
  let r := s.workRing u
  if r.subLog2 < 6 ∨ subWaiting s u = 0 ∨ s.safe ∨ s.asleep ∨ s.isSet .BPM_OWNER_IN_RESET u ∨ s.restarting 22 ∨ 8192 ≤ inFlight s then s
  else if !(resultFree s u) then s.inc .CORE_SUB_STALL
  else if !(windowOk s u (r.subBase + s.get .CORE_FN_SUB_HEAD u * 64) 64 false) then s.inc .CMD_WIN_DENIED
  else
    let s := s.set .CORE_FN_SUB_HEAD ((s.get .CORE_FN_SUB_HEAD u + 1) % 2 ^ r.subLog2) u
    let s := s.setWorkRing u (fun r => { r with reserved := r.reserved + 1 })
    match admitCheck u e s with
    | some (st, s) => writeResult u st false (hostWork u e) s
    | none => admitWork (hostWork u e) (if e.bufAddr = 0 then s else bpmMoveTo e.bufAddr 103 s)

def execSubmissionRead (fn : Fin 32) (e : WorkEntry) (s : State) : Host.Outcome State Fault Refusal :=
  .next (effSubmissionRead fn e s)

/-- The low 16 bits of a CRC-32C name a flow (R193, R295). -/
def flowOf (bs : List Nat) : Nat := crc32c bs % 65536

/-- An internal item finds its queue (R295, R296): it is admitted with its buffer handed to the task scheduler, or dropped. A
disabled queue admits nothing (R300). Its service is not stated (log entry 64). -/
def internalWork (w : Work) (s : State) : State :=
  if !(s.isSet .CORE_WQ_CFG_ENABLE w.queue) ∨ s.get .CORE_WQ_CFG_MAX_ITEMS w.queue ≤ waitingCount s w.queue ∨
      7680 ≤ internalFlight s ∨ 8192 ≤ inFlight s then dropInternal w.queue w.bufAddr s
  else admitWork { w with service := s.free % 65536 } (bpmMoveTo w.bufAddr 103 s.took)

/-- A confirmed exception becomes a work item (R193, R295): queue, ordering and flow from its class. The pool of its buffer is
not stated (log entry 64); without a buffer it is dropped. -/
def exceptionItem (c k : Nat) (s : State) : State :=
  let it := s.item k
  let q := s.get .EXC_CFG_QUEUE c
  let key := if c = 0 then it.bytes.take 64 else toBytes (itemKeyLen it) it.key
  let flow : Option Nat := if s.isSet .EXC_CFG_ORDERED c then some (flowOf key) else none
  let pool := s.free % 16
  match bpmAlloc pool 102 s.took with
  | (s, none) => dropItem k (s.inc .SWD_DMA_NOBUF 40)
  | (s, some a) =>
    let s := bufWrite a it.bytes s
    internalWork { queue := q, flow := flow, bufAddr := a, bufLen := it.bytes.length, slot := it.slot, exc := some c, frame := it.bytes,
                   parse := parseWords (it.parsed.getD {}), metaBlock := metadata it (it.parsed.getD {}) }
      (dropItem k s)

/-- A frame of destination CORE becomes a work item (R248, R295). -/
def coreFrame (sq k a len : Nat) (s : State) : State :=
  let it := s.item k
  let q := (s.queue sq).wq
  let bs := bufRead a len s
  let flow : Option Nat := if s.isSet .CORE_WQ_CFG_ORDER_INTERNAL q then some (flowOf (bs.take 64)) else none
  internalWork { queue := q, flow := flow, bufAddr := a, bufLen := len, slot := it.slot, frame := bs,
                 parse := parseWords (it.parsed.getD {}), metaBlock := metadata it (it.parsed.getD {}) } s

/-- The copy of an item that is on its way to the cores has ended: taken whole, or discarded at the crossing. -/
def endDelivery (k : Nat) (ok : Bool) (s : State) : State :=
  ((copiesOf s k).filter (fun c => (s.copy c).dest == 40 && (s.copy c).phase == 2)).foldl
    (fun s c => s.setCopy c (fun x => { x with phase := 3, sent := if ok then x.len + 4 else 0, ok := ok })) s

/-- INTERNAL_ITEM (R193, R248, R295, R296): the oldest delivered exception, or frame of destination CORE, becomes a work item;
bound for a core cluster under recovery it is discarded (R395). -/
def effInternalItem (exception : Bool) (s : State) : State :=
  if exception then
    match s.cls.delivered with
    | [] => s
    | (c, k) :: rest =>
      let s := s.setCls (fun x => { x with delivered := rest })
      if s.restarting 22 then dropItem k (s.inc .FLT_RECOVERY_DISCARD) else exceptionItem c k s
  else
    match s.sw.toCore with
    | [] => s
    | (sq, k, a, len) :: rest =>
      let s := s.setSw (fun w => { w with toCore := rest })
      if s.restarting 22 then endDelivery k false (bpmFreeAt a (s.inc .FLT_RECOVERY_DISCARD))
      else endDelivery k true (coreFrame sq k a len s)

def execInternalItem (exception : Bool) (s : State) : Host.Outcome State Fault Refusal := .next (effInternalItem exception s)

/-- A work core is free: it runs nothing, its cluster serves and is awake. -/
def coreFree (s : State) (core : Nat) : Bool :=
  (runningOn s core).isNone && !(s.restarting 22) && !(s.isSet .PWR_DOZE_DOZING 22) &&
    !(s.fault.running.any (fun r => r.part == 22 && r.unit == core))

/-- A queue lists a core's group (R297). -/
def listsCore (s : State) (q core : Nat) : Bool := bit (s.get .CORE_WQ_CFG_GROUPS q) (core / 8)

/-- The queue that a freed core serves (R297): the highest priority; among its queues the next in ascending order. -/
def nextQueue (s : State) (core : Nat) : Option Nat :=
  let qs := ((s.core.waiting.filter (fun p => !p.2.isEmpty && listsCore s p.1 core)).map (·.1))
  let top := qs.foldl (fun m q => max m (s.get .CORE_WQ_CFG_PRIORITY q)) 0
  let qs := qs.filter (fun q => s.get .CORE_WQ_CFG_PRIORITY q == top)
  match qs.find? (fun q => decide (Tab.get 0 s.core.served top ≤ q)) with
  | some q => some q
  | none => qs.head?

/-- An item starts or resumes on a core. -/
def startOn (k core : Nat) (s : State) : State :=
  let q := (s.work k).queue
  let prio := s.get .CORE_WQ_CFG_PRIORITY q
  let now := s.now
  let s := setWaiting q (fun l => l.filter (· ≠ k)) s
  let turn := s.core.turns + 1
  let s := s.setWork k (fun w => { w with phase := 1, core := core, startedAt := now, turn := turn })
  let s := s.setCore (fun c => { c with turns := turn, served := Tab.put 0 c.served prio (q + 1) })
  cpuShow core (wqShow q (s.inc .CORE_DISPATCHED))

/-- CORE_DISPATCH (R297): a free core takes its next item. -/
def effCoreDispatch (core : Nat) (s : State) : State :=
  if !(coreFree s core) then s
  else
    match nextQueue s core with
    | none => s
    | some q =>
      match waitingOf s q with
      | [] => s
      | k :: _ => startOn k core s

def execCoreDispatch (core : Fin 64) (s : State) : Host.Outcome State Fault Refusal := .next (effCoreDispatch core s)

/-- A running item may be pre-empted for a priority above its own (R298). -/
def isVictim (s : State) (q prio : Nat) (p : Nat × Work) : Bool :=
  let w := p.2
  w.phase == 1 && listsCore s q w.core && decide (s.get .CORE_WQ_CFG_PRIORITY w.queue < prio) && !(holdsLock s p.1) &&
    (if w.fn.isSome then w.preemptible else s.isSet .CORE_WQ_CFG_PREEMPTIBLE w.queue)

/-- The victim of R298: lowest priority, then dispatched last, then the lowest-numbered core. -/
def victimOf (s : State) (q prio : Nat) : Option Nat :=
  let worse (a b : Nat × Work) : Bool :=
    let pa := s.get .CORE_WQ_CFG_PRIORITY a.2.queue
    let pb := s.get .CORE_WQ_CFG_PRIORITY b.2.queue
    decide (pa < pb ∨ (pa = pb ∧ (b.2.turn < a.2.turn ∨ (b.2.turn = a.2.turn ∧ a.2.core < b.2.core))))
  ((s.core.works.filter (isVictim s q prio)).foldl
    (fun (m : Option (Nat × Work)) p => match m with
      | none => some p
      | some x => if worse p x then some p else m) none).map (·.1)

/-- A victim runs no more, and is being saved on its core for a waiting item (R298, R299). -/
def beginSave (v k : Nat) (s : State) : State :=
  let w := s.work v
  let now := s.now
  let s := s.setWork v (fun w => { w with phase := 4, savedFor := some k, ran := w.ran + (now - w.startedAt) })
  cpuShow w.core (s.inc .CORE_PREEMPTIONS)

/-- A pre-empted item has been saved and returns to its queue, behind items pre-empted before it and before all others (R297, R298). -/
def saveItem (k : Nat) (s : State) : State :=
  let w := s.work k
  let s := s.setWork k (fun w => { w with phase := 2, savedFor := none })
  let pre (s : State) (l : List Nat) : List Nat := l.filter (fun x => (s.work x).phase == 2)
  let s := setWaiting w.queue (fun l => pre s l ++ [k] ++ l.filter (fun x => (s.work x).phase != 2)) s
  cpuShow w.core (wqShow w.queue s)

/-- The pre-emption that stands out for an item, of which it has at most one (R298): the victim that is being saved for it. -/
def savingFor (s : State) (k : Nat) : Option Nat :=
  (s.core.works.find? (fun p => p.2.phase == 4 && p.2.savedFor == some k)).map (·.1)

/-- PREEMPTION (R298), which acts twice. First, the item at the head of its queue is ready and no eligible core is idle: a victim begins to be
saved. Then the victim has been saved and waits in its queue: the item takes the freed core, where it still waits. -/
def effPreemption (k : Nat) (s : State) : State :=
  let q := (s.work k).queue
  match savingFor s k with
  | some v =>
    let core := (s.work v).core
    let s := saveItem v s
    if (waitingOf s q).contains k then startOn k core s else s
  | none =>
    let idle := (List.range 64).any (fun c => coreFree s c && listsCore s q c)
    if (waitingOf s q).head? ≠ some k ∨ idle ∨ s.restarting 22 then s
    else
      match victimOf s q (s.get .CORE_WQ_CFG_PRIORITY q) with
      | none => s
      | some v => beginSave v k s

def execPreemption (work : Nat) (s : State) : Host.Outcome State Fault Refusal := .next (effPreemption work s)

/-- ITEM_END (R302, R303, R307): a running item ends: its core is free, locks it still holds are abandoned, its outputs are
released in their turn. -/
def effItemEnd (k status outLen data : Nat) (frames : List Emitted) (s : State) : State :=
  if (s.work k).phase ≠ 1 ∨ !(hasWork s k) then s
  else
    let core := (s.work k).core
    let s := ownerCeases (.item k) s
    let s := s.setWork k (fun w => { w with phase := 3, status := status % 256, outLen := outLen % 2 ^ 32, data := data % 2 ^ 64,
                                            frames := frames.map (fun f => (f.dest % 42, f.cls % 8, f.aid % 64, f.bytes)) })
    let w := s.work k
    let s := wqShow w.queue (cpuShow core s)
    match w.flow with
    | none => releaseWork k s
    | some f =>
      let early : Bool := (Tab.get [] s.core.flows f).head? != some k
      flowOn w (s.when early (fun s => s.inc .CORE_THYME_HELD))

def execItemEnd (work status outLen data : Nat) (frames : List Emitted) (s : State) : Host.Outcome State Fault Refusal :=
  .next (effItemEnd work status outLen data frames s)

/-- A recovery that the device itself calls for, with no report, opens the window (R396). -/
def openWindow (s : State) : State :=
  if s.isSet .FLT_STATUS_WINDOW_OPEN then s else s.setAll [(.FLT_STATUS_WINDOW_OPEN, 1), (.FLT_STATUS_WINDOW_FAULTS, 0)]

/-- ITEM_TIMEOUT (R299): an item that has run longer than RUN_LIMIT_US is aborted by an L1 restart of its core (log entry 65): a
host item completes with TIMEOUT, an internal one is discarded. -/
def effItemTimeout (k : Nat) (s : State) : State :=
  let w := s.work k
  if w.phase ≠ 1 ∨ !(hasWork s k) ∨ w.ran + (s.now - w.startedAt) ≤ s.get .CORE_RUN_LIMIT_US_LIMIT * uUs then s
  else
    let s := (s.inc .CORE_TIMEOUTS).raise 0x0D01 [w.core, w.queue, w.service]
    startRecovery 22 w.core 1 (mkSource 22 w.core 4) (openWindow (loseWork k stTimeout s))

def execItemTimeout (work : Nat) (s : State) : Host.Outcome State Fault Refusal := .next (effItemTimeout work s)

/-- LOCK_WAIT_TIMEOUT (R306): the first waiter whose wait has run out leaves the queue with TIMEOUT. -/
def effLockWaitTimeout (lock : Nat) (s : State) : State :=
  match (s.lock lock).waiters.find? (fun w => decide (w.since + w.waitUs * uUs ≤ s.now)) with
  | none => s
  | some w =>
    lockReply w.req stTimeout 0 (lockShow lock (s.setLock lock (fun l => { l with waiters := l.waiters.filter (· ≠ w) })))

def execLockWaitTimeout (lock : Fin 1024) (s : State) : Host.Outcome State Fault Refusal := .next (effLockWaitTimeout lock s)

end Sys2Proof.Machine
end

