-- ==== Sys2Proof/Machine/FaultEvt.lean ====
section
/-! DEFINITION. The events of the recovery controller and the event recorder (R388 to R409). -/
namespace Sys2Proof.Machine

open Sys2Proof

/-- ERROR_REPORT (R389 to R397). -/
def effErrorReport (source : Fin 65536) (detail : Nat) (captured : List Nat) (s : State) : State :=
  resumeNext (report source detail captured s)

def execErrorReport (source : Fin 65536) (detail : Nat) (captured : List Nat) (s : State) : Host.Outcome State Fault Refusal :=
  .next (effErrorReport source detail captured s)

/-- RECOVERY_END (R394): the recovery of a participant's cluster completes, and a released cluster's commands. -/
def effRecoveryEnd (part : Fin 27) (s : State) : State :=
  match recoveryOf s (clusterOf part) with
  | none => s
  | some r => resumeNext (endRecovery r s)

def execRecoveryEnd (part : Fin 27) (s : State) : Host.Outcome State Fault Refusal := .next (effRecoveryEnd part s)

/-- RECOVERY_TIMEOUT (R394): an L1 of 10 µs becomes an L2, an L2 of 5 ms an L3, the restart going on; each is an escalation
with cause 2. In L3 already, an L2 only outlives its limit (log entry 71). -/
def effRecoveryTimeout (part : Fin 27) (s : State) : State :=
  match recoveryOf s (clusterOf part) with
  | none => s
  | some r =>
    if r.level = 1 then
      if r.since + 10 * uUs ≤ s.now then startRecovery r.part r.unit 2 r.source (escalate (clusterOf part) 1 2 2 s) else s
    else if r.late ∨ s.now < r.since + 5 * uMs then s
    else
      let s := s.setFault (fun f =>
        { f with running := f.running.map (fun x => if x = r then { x with late := true } else x),
                 owed := if f.owed.any (fun x => srcPart x == r.part) then f.owed else f.owed ++ [mkSource r.part r.unit (srcType r.source)] })
      if s.safe ∧ s.fault.resume.isNone then s
      else resumeNext (enterL3 r.source (escalate (clusterOf part) 2 3 2 s))

def execRecoveryTimeout (part : Fin 27) (s : State) : Host.Outcome State Fault Refusal := .next (effRecoveryTimeout part s)

/-- FAULT_WINDOW_CLOSE (R396): WINDOW_MS after the end of the last recovery. -/
def effFaultWindowClose (s : State) : State :=
  if s.isSet .FLT_STATUS_WINDOW_OPEN ∧ s.fault.running = [] ∧ s.fault.lastEnd + s.get .FLT_CFG_WINDOW_MS * uMs ≤ s.now then
    s.setAll [(.FLT_STATUS_WINDOW_OPEN, 0), (.FLT_STATUS_WINDOW_FAULTS, 0)]
  else s

def execFaultWindowClose (s : State) : Host.Outcome State Fault Refusal := .next (effFaultWindowClose s)

/-- TEMP_WARN (R390): a reading of a die sensor in 0.1 °C. At the threshold the event is raised once, and re-armed when every
sensor has fallen 5 °C below it. A reading that passes 130 °C is a THERMAL fault of its sensor (Table 16.1). -/
def effTempWarn (sensor : Fin 12) (reading : Int) (s : State) : State :=
  let was := Tab.get 0 s.power.temps sensor
  let s := { s with power := { s.power with temps := Tab.put 0 s.power.temps sensor (reading + 1000).toNat } }
  let limit : Int := ((s.get .FLT_CFG_TEMP_WARN * 10 : Nat) : Int)
  let s :=
    if limit ≤ reading ∧ !s.fault.hot then
      (s.setFault (fun f => { f with hot := true })).raise 0x0E0B [sensor, ofSigned 32 reading]
    else if s.power.temps.all (fun p => decide ((p.2 : Int) - 1000 ≤ limit - 50)) then s.setFault (fun f => { f with hot := false })
    else s
  if 1300 < reading ∧ was ≤ 2300 then resumeNext (report (mkSource 31 (52 + sensor) 8) 0 [] s) else s

def execTempWarn (sensor : Fin 12) (reading : Int) (s : State) : Host.Outcome State Fault Refusal := .next (effTempWarn sensor reading s)

/-- LF_HOLD_END (R398, Table 16.5): ports whose LF_HOLD_MS of Local Fault has passed are disabled and squelched. -/
def effLfHoldEnd (s : State) : State :=
  (List.range 32).foldl (fun s x =>
    if (s.hp x).lfSince ≠ 0 ∧ (s.hp x).lfSince - 1 + s.get .FLT_CFG_LF_HOLD_MS * uMs ≤ s.now then toDisabled x 4 true s else s) s

def execLfHoldEnd (s : State) : Host.Outcome State Fault Refusal := .next (effLfHoldEnd s)

/-- EVENT_RECORD (R402, R403): the oldest raised event becomes a record, or is dropped and counted; before boot step 7 it is
held. -/
def effEventRecord (s : State) : State :=
  if evtHolding s then s
  else
    match s.raised with
    | [] => s
    | e :: rest => evtMake 0 e { s with raised := rest }

def execEventRecord (s : State) : Host.Outcome State Fault Refusal := .next (effEventRecord s)

/-- EVENTS_LOST (R403). -/
def effEventsLost (s : State) : State := evtLost s

def execEventsLost (s : State) : Host.Outcome State Fault Refusal := .next (effEventsLost s)

/-- EVT_NOTIFY (R409): vector 2, once after each EVT_READ, when COUNT records or US microseconds have come. -/
def effEvtNotify (s : State) : State :=
  let e := s.evt
  let due := decide (s.get .EVT_NOTIFY_COUNT ≤ e.sinceRead) ||
    (e.firstAt != 0 && decide (e.firstAt - 1 + s.get .EVT_NOTIFY_US * uUs ≤ s.now))
  if due ∧ !e.notified then
    let t := s.setEvt (fun e => { e with notified := true })
    t.when (s.isSet .EVT_NOTIFY_IRQ_EN) (fun t => t.msix 0 2)
  else s

def execEvtNotify (s : State) : Host.Outcome State Fault Refusal := .next (effEvtNotify s)

end Sys2Proof.Machine
end

