-- ==== Sys2Proof/Machine/LineCmd.lean ====
section
/-! DEFINITION. The line-port commands of Table 1.7. -/
namespace Sys2Proof.Machine

open Sys2Proof

/-- Every line port, as participants (Table 13.3). -/
def lineParts : List Nat := [0, 1, 2, 3]

def ciLineConfig : CmdInfo := { op := 0x0401, persist := true, parts := lineParts }
def ciLineSearch (n : Nat) : CmdInfo := { op := 0x0402, parts := [n] }
def ciLineRelevel (n : Nat) : CmdInfo := { op := 0x0403, parts := [n] }
def ciLineSetCd (n : Nat) : CmdInfo := { op := 0x0404, parts := [n] }
def ciLineEqRestart (n : Nat) : CmdInfo := { op := 0x0405, parts := [n] }
def ciLineScEnable (n : Nat) : CmdInfo := { op := 0x0406, parts := [n] }
def ciLineLaserRetune (n : Nat) : CmdInfo := { op := 0x0407, parts := [n] }
def ciLineCapture (n : Nat) : CmdInfo := { op := 0x0408, parts := [n] }
def ciLineEvtEnable : CmdInfo := { op := 0x0409, persist := true, parts := lineParts }

/-- The registers LINE_CONFIG names (Table 1.7). -/
def lineConfigAllow (f : Fld) : Bool :=
  f ∈ [Fld.LINE_LASER_NOMINAL_MHZ, .LINE_LASER_BUS_ADDR, .LINE_LASER_FT_ENABLE, .LINE_TX_POWER,
    .LINE_AGC_AUTO_RELEVEL, .LINE_EQ_CD_AUTO]

/-- A retune is admitted in OFFLINE and LISTEN, elsewhere only with FORCE (R39). -/
def retuneAllowed (q : Req) (n : Nat) (s : State) : Bool :=
  q.force || s.tree n == tsOffline || s.tree n == tsListen

/-- A new nominal frequency is a step of at most 50 MHz from a frequency that is set (R39). -/
def smallStep (old new : Nat) : Bool :=
  decide (old ≠ 0 ∧ new ≠ 0 ∧ ((new : Int) - old).natAbs ≤ 50)

/-- What a new nominal frequency makes the device do (R39, Table 1.11): nothing, OUTPUT 0, one FINE_TUNE of the whole
step of up to 50 MHz (log entry 10), or a retune. -/
def newNominal (n old new : Nat) (s : State) : State :=
  if new = old then s
  else if new = 0 then
    laserOutput n false (s.setLine n (fun l => { l with wantMHz := 0, retuning := false }))
  else if smallStep old new then
    sendFt n (clamp (-250) 250 ((s.line n).ft + roundDiv ((new : Int) - old) 10)) s
  else startRetune n s

/-- LINE_CONFIG (R30, R39): laser nominal frequency, bus address, FT_ENABLE, launch power, AUTO_RELEVEL, CD_AUTO. -/
def execLineConfig (q : Req) (es : List WEntry) (s : State) : Host.Outcome State Fault Refusal :=
  .next (single ciLineConfig q (es.map (·.off))
    (needs (fun s => (wWrites .LINE_LASER_NOMINAL_MHZ es).all (fun w =>
      w.2.2 == s.get .LINE_LASER_NOMINAL_MHZ w.1 || smallStep (s.get .LINE_LASER_NOMINAL_MHZ w.1) w.2.2
        || retuneAllowed q w.1 s)))
    (fun _ => wErr lineConfigAllow es)
    (fun s => { state := (List.range 4).foldl (fun t n =>
      newNominal n (s.get .LINE_LASER_NOMINAL_MHZ n) (t.get .LINE_LASER_NOMINAL_MHZ n) t) (wApplyAll s es) }) s)

/-- LINE_SEARCH (R26): starts Dill unless it runs, or stops it. -/
def execLineSearch (q : Req) (n : Nat) (start : Bool) (s : State) : Host.Outcome State Fault Refusal :=
  .next (single (ciLineSearch n) q [n] anyState (fun _ => want 16 (n < 4))
    (fun s => { state :=
      if start then (if s.isSet .LINE_STATUS_SEARCHING n then s else startSearch n 0x0402 s)
      else (s.set .LINE_STATUS_SEARCHING 0 n).stop (.dillPass n) }) s)

/-- LINE_RELEVEL (R25): requests a gain step; refused while the AGC is unfrozen. -/
def execLineRelevel (q : Req) (n : Nat) (s : State) : Host.Outcome State Fault Refusal :=
  .next (single (ciLineRelevel n) q [n] (needs (fun s => 4 ≤ n || s.isSet .LINE_AGC_FROZEN n))
    (fun _ => want 16 (n < 4)) (fun s => { state := requestStep n s }) s)

/-- LINE_SET_CD (R27): the applied dispersion, swapped port-wide at the application point; replies then. -/
def execLineSetCd (q : Req) (n : Nat) (cd : Int) (s : State) : Host.Outcome State Fault Refusal :=
  .next (checked (ciLineSetCd n) q anyState
    (fun _ => firstErr [want 16 (n < 4), want 24 (-12000 ≤ cd ∧ cd ≤ 12000)])
    (fun s => s.setLine n (fun l => { l with cdSwap := requestSwap l.cdSwap cd [q] })) s)

/-- LINE_EQ_RESTART (R27): a butterfly tap-set swap on a mask; replies once it is applied. -/
def execLineEqRestart (q : Req) (n mask : Nat) (s : State) : Host.Outcome State Fault Refusal :=
  .next (checked (ciLineEqRestart n) q anyState (fun _ => firstErr [want 16 (n < 4), want 24 (mask < 65536)])
    (fun s => s.setLine n (fun l => { l with eqSwap := requestSwap l.eqSwap mask [q] })) s)

/-- LINE_SC_ENABLE (R40): the mask of subcarriers enabled in the channeliser; a mask without the control subcarrier is
refused. Applied at the application point; replies then. That the mask is the whole map of enabled subcarriers, not a set of them to
enable or to disable, is the model's choice (log entry 126). -/
def execLineScEnable (q : Req) (n mask : Nat) (s : State) : Host.Outcome State Fault Refusal :=
  .next (checked (ciLineScEnable n) q anyState
    (fun s => firstErr [want 16 (n < 4), want 24 (mask < 65536 &&
      (!(s.line n).controlKnown || bit mask (s.get .LINE_STATUS_CONTROL_SC n)))])
    (fun s => s.setLine n (fun l => { l with scSwaps := l.scSwaps ++ [(⟨(mask : Int), false, [q]⟩ : PendingSwap)] })) s)

/-- LINE_LASER_RETUNE (R39): SET_FREQ with NOMINAL_MHZ; refused while none is set. -/
def execLineLaserRetune (q : Req) (n : Nat) (s : State) : Host.Outcome State Fault Refusal :=
  .next (single (ciLineLaserRetune n) q [n]
    (needs (fun s => 4 ≤ n || (s.get .LINE_LASER_NOMINAL_MHZ n != 0 && retuneAllowed q n s)))
    (fun _ => want 16 (n < 4)) (fun s => { state := startRetune n s }) s)

/-- LINE_CAPTURE (R38): arms or disarms the capture of a port with its point, subcarrier, trigger and pre-trigger share. With TRIGGER 0
the command that arms is itself the trigger (log entry 126). -/
def execLineCapture (q : Req) (n : Nat) (arm : Bool) (point sc trigger pre trigSf : Nat) (s : State) :
    Host.Outcome State Fault Refusal :=
  .next (single (ciLineCapture n) q [n] anyState
    (fun _ => firstErr [want 16 (n < 4), want 32 (point ≤ 1), want 40 (sc < 16), want 48 (trigger ≤ 5),
      want 56 (pre < 128), want 64 (trigSf < 2 ^ 25)])
    (fun s =>
      let s := s.setAll [(.LINE_CAP_CTL_POINT, point), (.LINE_CAP_CTL_SC, sc), (.LINE_CAP_CTL_TRIGGER, trigger),
        (.LINE_CAP_CTL_PRE, pre), (.LINE_CAP_CTL_TRIG_SF, trigSf), (.LINE_CAP_STATUS_DONE, 0), (.LINE_CAP_STATUS_ARMED, b2n arm)] n
      { state := s.setLine n (fun l => { l with trigger := arm && trigger == 0, triggered := false }) }) s)

/-- The fields of EVT_ENABLE. -/
def lineEvtAllow (f : Fld) : Bool :=
  f ∈ [Fld.LINE_EVT_ENABLE_QUALITY_UPDATE, .LINE_EVT_ENABLE_CAPTURE_DONE, .LINE_EVT_ENABLE_RATE_UNSUPPORTED,
    .LINE_EVT_ENABLE_BEACON_CONFLICT, .LINE_EVT_ENABLE_BEACON_FOUND, .LINE_EVT_ENABLE_FT_LIMIT,
    .LINE_EVT_ENABLE_LASER_BUS_FAULT, .LINE_EVT_ENABLE_RELEVEL, .LINE_EVT_ENABLE_DRIFT, .LINE_EVT_ENABLE_LOCK_LOST,
    .LINE_EVT_ENABLE_LIGHT_RETURN, .LINE_EVT_ENABLE_LOS]

/-- LINE_EVT_ENABLE (R41): writes LINE[n].EVT_ENABLE. -/
def execLineEvtEnable (q : Req) (es : List WEntry) (s : State) : Host.Outcome State Fault Refusal :=
  .next (writeCmd ciLineEvtEnable q lineEvtAllow es s)

end Sys2Proof.Machine
end

