-- ==== Sys2Proof/Machine/LineEvt.lean ====
section
/-! DEFINITION. What happens on a line port's modem: offset measurements, the laser bus, light, Dill passes, application
points, settling, decoded pairs, quality updates, capture. -/
namespace Sys2Proof.Machine

open Sys2Proof

/-- The limit condition of R20 at a measurement: FT at an end of its range and a step outward called for. -/
def ftLimit (ft step : Int) : Bool := decide ((ft = 250 ∧ 1 ≤ step) ∨ (ft = -250 ∧ step ≤ -1))

/-- Carrier lock from consecutive measurements (R21); none while a forced retune counts as lost light (R39). -/
def carrierLock (n : Nat) (offKHz : Int) (s : State) : State :=
  let good := if offKHz.natAbs < 50000 ∧ (s.line n).blind = false then (s.line n).goodRun + 1 else 0
  let bad := if 100000 ≤ offKHz.natAbs then (s.line n).badRun + 1 else 0
  let s := s.setLine n (fun l => { l with goodRun := min good 3, badRun := min bad 2 })
  if s.isSet .LINE_STATUS_CARRIER_LOCK n then
    if 2 ≤ bad then
      lineIrq n .LINE_EVT_STATUS_LOCK_LOST .LINE_EVT_ENABLE_LOCK_LOST
        ((carrierSet n false s).raise 0x0403
          [n, ofSigned 32 (roundDiv offKHz 1000)])
    else s
  else if 3 ≤ good then carrierSet n true s
  else s

/-- CFO_MEASUREMENT (R20, R21): the offset, the limit condition, carrier lock, and the FINE_TUNE of the loop, withheld
during a burst; none until the bus has been brought back in full (R22), and none while NOMINAL_MHZ is 0 and the laser is off (the
model's choice, log entry 126). -/
def effCfoMeasurement (n : Nat) (offKHz : Int) (s : State) : State :=
  let step := roundDiv offKHz 10000
  let ft := (s.line n).ft
  let lim := ftLimit ft step
  let was := s.isSet .LINE_STATUS_FT_LIMIT n
  let s := carrierLock n offKHz (s.setI .LINE_CFO_OFFSET_KHZ offKHz n)
  let s := s.set .LINE_STATUS_FT_LIMIT (b2n lim) n
  let s := s.when (lim && !was) (fun s => lineIrq n .LINE_EVT_STATUS_FT_LIMIT .LINE_EVT_ENABLE_FT_LIMIT
    (s.raise 0x0407 [n, ofSigned 32 (roundDiv offKHz 1000)]))
  if s.isSet .LINE_LASER_FT_ENABLE n ∧ s.isSet .LINE_STATUS_LASER_BUS_OK n ∧ s.get .LINE_LASER_NOMINAL_MHZ n ≠ 0 ∧ !s.safe ∧
      (s.line n).resuming = false then
    sendFt n (clamp (-250) 250 (ft + clamp (-5) 5 step)) s
  else s

def execCfoMeasurement (n : Fin 4) (offsetKHz : Int) (s : State) : Host.Outcome State Fault Refusal :=
  .next (effCfoMeasurement n.val offsetKHz s)

/-- DEFERRED_FINE_TUNE (R20): the FINE_TUNE withheld during a burst is sent at the end of its ramp-down. -/
def execDeferredFineTune (n : Fin 4) (s : State) : Host.Outcome State Fault Refusal :=
  .next (match (s.line n).heldFt with
    | some ft =>
      if s.isSet .LINE_STATUS_TX_ACTIVE n.val then s else sendFt n ft s
    | none => s)

/-- The oldest FINE_TUNE that waits for its acknowledgement. -/
def oldestFt (bus : List LaserCmd) : Option Int :=
  bus.findSome? (fun c => match c with | .fineTune f => some f | _ => none)

/-- The oldest SET_FREQ that waits for its acknowledgement. -/
def oldestFreq (bus : List LaserCmd) : Option Nat :=
  bus.findSome? (fun c => match c with | .setFreq m => some m | _ => none)

/-- FINE_TUNE_ACK (R20, R22): FT_APPLIED and FT_SENT; the loop resumes. A change of the laser by more than 50 MHz marks symbols until
re-acquisition (Table 1.5); the FINE_TUNE of a retune stands under the marks of its SET_FREQ. -/
def effFineTuneAck (n : Nat) (s : State) : State :=
  match oldestFt (s.line n).bus with
  | some ft =>
    let far := 5 < (ft - s.getI .LINE_LASER_FT_APPLIED n).natAbs && !(s.line n).dillDue
    let s := ((s.setLine n (fun l => { busAck (.fineTune ft) l with resuming := false })).setI .LINE_LASER_FT_APPLIED ft n).inc
      .LP_FT_SENT n
    s.when far (markMask n 0xFFFF none)
  | none => s

def execFineTuneAck (n : Fin 4) (s : State) : Host.Outcome State Fault Refusal := .next (effFineTuneAck n s)

/-- SET_FREQ_ACK (R39): the laser has taken SET_FREQ. Every symbol is marked until re-acquisition (Table 1.5), a forced retune
counts as lost light from here, and the device sends FINE_TUNE 0 and sets FT to 0; after a bus fault it sends the FT it holds (R22).
Treated as lost light, the port leaves carrier lock, the frozen gain and SYNC; STATUS.LIGHT, event LOS and LOS_COUNT, which tell of the
received power, stay as they are: the model's choice (log entry 126). -/
def effSetFreqAck (n : Nat) (s : State) : State :=
  match oldestFreq (s.line n).bus with
  | some m =>
    let forced := (s.line n).forced
    let s := s.setLine n (fun l =>
      { busAck (.setFreq m) l with laserMHz := m, heldFt := none, forced := false, blind := forced, dillDue := true })
    let s := markMask n 0xFFFF none s
    let ft := if (s.line n).resuming then (s.line n).ft else 0
    sendFt n ft (if forced then lightLost n (agcUnfreeze n (lockLost n s)) else s)
  | none => s

def execSetFreqAck (n : Fin 4) (s : State) : Host.Outcome State Fault Refusal := .next (effSetFreqAck n s)

/-- LASER_FREQ_STABLE (R39): a new search starts; in OFFLINE only where one was running. -/
def effLaserFreqStable (n : Nat) (s : State) : State :=
  if (s.line n).retuning then
    let s := s.setLine n (fun l => { l with retuning := false })
    if s.tree n = tsOffline ∧ !s.isSet .LINE_STATUS_SEARCHING n then s else startSearch n 0 s
  else s

def execLaserFreqStable (n : Fin 4) (s : State) : Host.Outcome State Fault Refusal := .next (effLaserFreqStable n s)

/-- The code of a laser transfer (Table 1.4). -/
def laserCode (c : LaserCmd) : Nat :=
  match c with
  | .setFreq _ => 0x10
  | .fineTune _ => 0x11
  | .output _ => 0x12
  | .status => 0x20

/-- LASER_BUS_FAIL (R22): the oldest transfer failed; it is retried up to three times, then the bus is given up. -/
def effLaserBusFail (n : Nat) (s : State) : State :=
  match (s.line n).bus with
  | [] => s
  | c :: _ =>
    let s := s.inc .LP_BUS_ERR n
    if (s.line n).tries < 3 then (s.setLine n (fun l => { l with tries := l.tries + 1 })).emit (laserOut n c)
    else
      let s := (s.setLine n (fun l => { l with tries := 0, bus := [] })).set .LINE_STATUS_LASER_BUS_OK 0 n
      lineIrq n .LINE_EVT_STATUS_LASER_BUS_FAULT .LINE_EVT_ENABLE_LASER_BUS_FAULT
        ((s.raise 0x0406 [n, laserCode c]).start (.laserPoll n))

def execLaserBusFail (n : Fin 4) (s : State) : Host.Outcome State Fault Refusal := .next (effLaserBusFail n s)

/-- LASER_BUS_POLL (R22): 100 ms after a bus fault, and every 100 ms, a STATUS read; on success the laser is brought to the
state the device requires: a SET_FREQ or OUTPUT that is owed, then FINE_TUNE with the FT held, then the loop. -/
def effLaserBusPoll (n : Nat) (ok : Bool) (s : State) : State :=
  if s.expired (.laserPoll n) (100 * uMs) then
    let s := s.emit (laserOut n .status)
    if ok then
      let s := (s.stop (.laserPoll n)).set .LINE_STATUS_LASER_BUS_OK 1 n
      let s := s.setLine n (fun l => { l with resuming := true })
      let l := s.line n
      if l.wantMHz ≠ 0 ∧ l.wantMHz ≠ l.laserMHz then startRetune n s
      else sendFt n l.ft (laserOutput n (l.wantMHz != 0) s)
    else (s.inc .LP_BUS_ERR n).start (.laserPoll n)
  else s

def execLaserBusPoll (n : Fin 4) (ok : Bool) (s : State) : Host.Outcome State Fault Refusal :=
  .next (effLaserBusPoll n ok s)

/-- LOSS_OF_LIGHT (R37): LIGHT clears; carrier lock is lost (R21), the AGC unfreezes (R23), every deframer hunts (R46), and the terminal
meets downstream loss (R79). -/
def effLossOfLight (n : Nat) (dBm10 : Int) (s : State) : State :=
  if s.isSet .LINE_STATUS_LIGHT n then
    let s := (s.set .LINE_STATUS_LIGHT 0 n).inc .LP_LOS_COUNT n
    let s := lineIrq n .LINE_EVT_STATUS_LOS .LINE_EVT_ENABLE_LOS (s.raise 0x0401 [n, ofSigned 32 dBm10])
    lightLost n (agcUnfreeze n (captureCause n 1 ((lockLost n s).stop (.lightBack n))))
  else s

def execLossOfLight (n : Fin 4) (dBm10 : Int) (s : State) : Host.Outcome State Fault Refusal :=
  .next (effLossOfLight n dBm10 s)

/-- LIGHT_RETURN (R37, R98). -/
def effLightReturn (n : Nat) (dBm10 : Int) (s : State) : State :=
  if s.isSet .LINE_STATUS_LIGHT n then s
  else
    (lineIrq n .LINE_EVT_STATUS_LIGHT_RETURN .LINE_EVT_ENABLE_LIGHT_RETURN
      (((wakeBy 2 s).set .LINE_STATUS_LIGHT 1 n).raise 0x0402 [n, ofSigned 32 dBm10])).start (.lightBack n)

def execLightReturn (n : Fin 4) (dBm10 : Int) (s : State) : Host.Outcome State Fault Refusal :=
  .next (effLightReturn n dBm10 s)

/-- One SEARCH entry takes what a pass found (Table 1.16). -/
def setSearch (n : Nat) (s : State) (p : Hyp × Nat) : State :=
  let h := p.1
  (s.setAll [(.LINE_SEARCH_SNR, h.snr), (.LINE_SEARCH_CONTROL_SC, h.controlSc), (.LINE_SEARCH_BEACON, b2n h.beacon),
    (.LINE_SEARCH_HEADER_FIT, b2n h.headerFit), (.LINE_SEARCH_PRESENT, b2n h.present)] n p.2).setI
    .LINE_SEARCH_OFFSET_MHZ h.offsetMHz n p.2

/-- The hypotheses at one rate that hold beacons: (position, named control subcarrier). -/
def beaconsAt (r : Nat) (hyps : List Hyp) : List (Nat × Nat) :=
  (List.range 16).filterMap (fun p =>
    match hyps[r * 16 + p]? with
    | some h => if h.beacon then some (p, h.controlSc % 16) else none
    | none => none)

/-- The control subcarrier is in SYNC and Dill has succeeded: marking until re-acquisition ends (Table 1.5, R39). -/
def maybeReacquired (n : Nat) (s : State) : State :=
  if !(s.line n).dillDue && controlSync n s && (s.line n).marks.any (fun m => m.till.isNone) then reacquired n s else s

/-- DILL_PASS_END (R26): the 48 entries are rewritten; the search succeeds, reports a conflict or a rate, or goes on. On success the
channeliser takes the found offset, and subcarriers that move are marked (Table 1.5, log entry 121). Where beacons are found at both 4
and 8 GBd, event 0x0409 names 4: the model's choice (log entry 126). -/
def effDillPassEnd (n : Nat) (hyps : List Hyp) (s : State) : State :=
  if s.isSet .LINE_STATUS_SEARCHING n && s.expired (.dillPass n) uMs && !(s.portGated n) then
    let s := ((hyps.take 48).zipIdx).foldl (setSearch n) s
    match beaconsAt 2 hyps with
    | (p0, c) :: rest =>
      if rest.all (fun b => b.2 == c) then
        let s := s.setAll [(.LINE_STATUS_BEACON_FOUND, 1), (.LINE_STATUS_CONTROL_SC, c), (.LINE_STATUS_SEARCHING, 0)] n
        let off := (hyps[32 + p0]?).map (·.offsetMHz)
        let s := s.when ((s.line n).chanMHz != off) (markMask n 0xFFFF (some 4096))
        let s := s.setLine n (fun l => { l with controlKnown := true, chanMHz := off, dillDue := l.dillDue && l.retuning })
        maybeReacquired n (lineIrq n .LINE_EVT_STATUS_BEACON_FOUND .LINE_EVT_ENABLE_BEACON_FOUND (s.stop (.dillPass n)))
      else
        let map := ((p0, c) :: rest).foldl (fun m b => m + 2 ^ b.1) 0
        (lineIrq n .LINE_EVT_STATUS_BEACON_CONFLICT .LINE_EVT_ENABLE_BEACON_CONFLICT (s.raise 0x0408 [n, map])).start (.dillPass n)
    | [] =>
      let rate := if beaconsAt 0 hyps ≠ [] then 4 else if beaconsAt 1 hyps ≠ [] then 8 else 0
      let s := s.start (.dillPass n)
      if rate ≠ 0 ∧ !(s.line n).rateReported then
        lineIrq n .LINE_EVT_STATUS_RATE_UNSUPPORTED .LINE_EVT_ENABLE_RATE_UNSUPPORTED
          ((s.setLine n (fun l => { l with rateReported := true })).raise 0x0409 [n, rate])
      else s
  else s

def execDillPassEnd (n : Fin 4) (hyps : List Hyp) (s : State) : Host.Outcome State Fault Refusal :=
  .next (effDillPassEnd n hyps s)

/-- A pending gain step applies (R25). -/
def applyStep (n : Nat) (s : State) : State :=
  if s.isSet .LINE_AGC_STEP_PENDING n ∧ (s.line n).stepDue then
    let step := -(s.getI .LINE_AGC_DRIFT n)
    let gain := clamp 0 300 (s.get .LINE_AGC_GAIN n + step)
    let s := s.setAll [(.LINE_AGC_GAIN, gain.toNat), (.LINE_AGC_FROZEN_GAIN, gain.toNat), (.LINE_AGC_STEP_PENDING, 0)] n
    let s := (s.setLine n (fun l => { l with stepDue := false })).inc .LP_RELEVEL_COUNT n
    markMask n 0xFFFF (some 256) (lineIrq n .LINE_EVT_STATUS_RELEVEL .LINE_EVT_ENABLE_RELEVEL
      (s.raise 0x0405 [n, ofSigned 32 step]))
  else s

/-- The commands that waited for a swap reply (R27, R40). -/
def replyAll (c : CmdInfo) (n : Nat) (qs : List Req) (s : State) : State :=
  qs.foldl (fun s q => complete c q [n] 0 { state := s }) s

/-- A due dispersion swap applies, on every subcarrier (R27). -/
def applyCd (n : Nat) (s : State) : State :=
  match (s.line n).cdSwap with
  | some ⟨v, true, qs⟩ =>
    let s := (s.setLine n (fun l => { l with cdSwap := none })).setI .LINE_EQ_CD_APPLIED v n
    replyAll (ciLineSetCd n) n qs (markMask n 0xFFFF (some 2048) s)
  | _ => s

/-- A due butterfly swap applies, on its mask (R27). -/
def applyEq (n : Nat) (s : State) : State :=
  match (s.line n).eqSwap with
  | some ⟨v, true, qs⟩ =>
    replyAll (ciLineEqRestart n) n qs (markMask n v.toNat (some 2048) (s.setLine n (fun l => { l with eqSwap := none })))
  | _ => s

/-- One channeliser change applies (R40): subcarriers that change are marked, those disabled hunt. -/
def applySc (n : Nat) (s : State) (p : PendingSwap) : State :=
  let s := (List.range 16).foldl (fun s sc =>
    let on := bit p.value.toNat sc || ((s.line n).controlKnown && sc == s.get .LINE_STATUS_CONTROL_SC n)
    if s.isSet .LINE_SC_ENABLED n sc = on then s
    else
      let s := markSc n sc (some 4096) (s.set .LINE_SC_ENABLED (b2n on) n sc)
      if on then s else hunt n sc 0x0406 s) s
  replyAll (ciLineScEnable n) n p.waiters s

/-- APPLICATION_POINT (R25, R27, R40): the gain step, tap-set swaps and channeliser changes requested in an earlier
superframe apply. -/
def effApplicationPoint (n : Nat) (s : State) : State :=
  let s := applyEq n (applyCd n (applyStep n s))
  let due := (s.line n).scSwaps.filter (·.due)
  due.foldl (applySc n) (s.setLine n (fun l => { l with scSwaps := l.scSwaps.filter (fun p => !p.due) }))

def execApplicationPoint (n : Fin 4) (s : State) : Host.Outcome State Fault Refusal := .next (effApplicationPoint n s)

/-- A mark has run out. -/
def Mark.ended (now : Nat) (m : Mark) : Bool := match m.till with | some t => decide (t ≤ now) | none => false

/-- SETTLING_WINDOW_END (R33): the union of a subcarrier's windows has run out; its symbols are counted. -/
def effSettlingWindowEnd (n sc : Nat) (s : State) : State :=
  let now := s.now
  let mine := (s.line n).marks.filter (fun m => m.sc == sc && !m.counted)
  if mine ≠ [] ∧ mine.all (Mark.ended now) then
    let s := s.bump .LSC_SYM_SETTLE (unionSymbols (mine.map (fun m => (m.since, m.till.getD m.since)))) n sc
    let s := s.setLine n (fun l => { l with marks := l.marks.map (fun m => if m.sc = sc then { m with counted := true } else m) })
    let s := s.set .LINE_SC_SETTLING 0 n sc
    s.set .LINE_STATUS_SETTLING (b2n ((s.line n).marks.any (fun m => !m.counted))) n
  else s

def execSettlingWindowEnd (n : Fin 4) (sc : Fin 16) (s : State) : Host.Outcome State Fault Refusal :=
  .next (effSettlingWindowEnd n sc s)

/-- A decoded codeword that is not suspect is counted (Table 1.6). -/
def countCodeword (n sc : Nat) (c : Codeword) (s : State) : State :=
  match c with
  | .decoded k =>
    let s := s.inc .LSC_CW_OK n sc
    if k = 0 then s else (s.inc .LSC_CW_CORR n sc).bump .LSC_RS_SYM_CORR k n sc
  | .uncorrectable => s.inc .LSC_CW_UNCORR n sc

/-- A pair passes C1 (R14): both codewords decode and the pair is not suspect. -/
def pairPasses (n sc first last : Nat) (a b : Codeword) (s : State) : Bool :=
  a != .uncorrectable && b != .uncorrectable && !suspect n sc first last s

/-- An injected error of R421 on the first codeword of a pair: its symbols are corrupted, and more than 15 in all make it
uncorrectable (R13). -/
def injectPair (n sc : Nat) (a : Codeword) (s : State) : Codeword × State :=
  let k := s.get .TEST_INJECT_BITS 0
  let (hit, s) := inject 0 (n * 256 + sc) s
  match hit, a with
  | true, .decoded c => (if 15 < c + k then .uncorrectable else .decoded (c + k), s)
  | _, _ => (a, s)

/-- Coded bits whose hard decision differs from the trellis decoder's own output coded again (Table 1.6, R15, R16). -/
def trellisErrors (before pair : Nat) (word hard : List Nat) : Nat :=
  ((downstreamBits before pair word).zip hard).countP (fun p => p.1 != p.2)

/-- Codewords that are not suspect enter the running second of their subcarrier, and of the port where it is enabled (R34, R74). -/
def pmCodewords (n sc uncorr : Nat) (s : State) : State :=
  let en := s.isSet .LINE_SC_ENABLED n sc
  s.setFrame n (fun f =>
    let add (m : Tab (Nat × Nat)) (k : Nat) : Tab (Nat × Nat) :=
      let c := Tab.get (0, 0) m k
      Tab.put (0, 0) m k (c.1 + 2, c.2 + uncorr)
    let m := add f.pmCw sc
    { f with pmCw := if en then add m 16 else m })

/-- PAIR_DECODED (R13, R14, R34, R37, R42): in PRESYNC and SYNC the outer decoders take the 1,088 symbols of pair `pair` of superframe `sf`,
as the trellis units decoded them after the six bits `before`; `hard` are the hard decisions of its coded bits. The pair is counted and
kept with its C1 result; one that fails sends the envelope delineation of its subcarrier to HUNT (R60), and the result of the function field it carries
is known (R49). -/
def effPairDecoded (n sc sf pair first last before : Nat) (word hard : List Nat) (s : State) : State :=
  if s.get .LINE_FRM_STATE n sc = 0 ∨ s.portGated n then s
  else
    let (a, b, data) := decodePair word
    let (a, s) := injectPair n sc a s
    let pass := pairPasses n sc first last a b s
    let sus := suspect n sc first last s
    let bad := b2n (a == .uncorrectable) + b2n (b == .uncorrectable)
    let s := if sus then s.bump .LSC_CW_SUSPECT 2 n sc
      else pmCodewords n sc bad (countCodeword n sc b (countCodeword n sc a
        (s.bump .LSC_TRELLIS_CORR (trellisErrors before pair word hard) n sc)))
    let s := s.when (bad != 0 && !sus) (captureCause n 3)
    let st := s.get .LINE_FRM_ENV_STATE n sc
    let lost := !pass && (st == 2 || (match (s.frame n).pairs.find? (fun p => p.sc == sc) with | some p => p.lost | none => false))
    let r : PairRec := { sc := sc, sf := sf % 2 ^ 25, pair := pair, first := first, last := last, pass := pass, suspect := sus, lost := lost,
                         data := data }
    let s := s.setFrame n (fun f => { f with pairs := r :: f.pairs })
    if pass ∨ s.get .LINE_FRM_STATE n sc ≠ 2 then s
    else
      let s := s.when (s.get .LINE_FRM_ENV_STATE n sc == 2) (fun s => s.inc .LSC_ENV_HEC_ERR n sc)
      s.set .LINE_FRM_ENV_STATE 0 n sc

def execPairDecoded (n : Fin 4) (sc : Fin 16) (sf pair first last before : Nat) (word hard : List Nat) (s : State) :
    Host.Outcome State Fault Refusal := .next (effPairDecoded n sc sf pair first last before word hard s)

/-- A power in units of 10^-12 of full scale, in steps of 0.1 dB relative to full scale, rounded (R36, R468): the largest v with
10^(v - 1/2) not above the hundredth power of the ratio; -2,000 for less than the scale holds. -/
def dBFullScale (p : Nat) : Int :=
  match (List.range 2001).find? (fun k => decide (10 ^ (12 * 200) ≤ p ^ 200 * 10 ^ (2 * k + 1))) with
  | some k => -(k : Int)
  | none => -2000

/-- The noise floor (R36): the densities measured in the two edge bands, 9.6 GHz each, and in the slots, 16.8 GHz each, of the subcarriers
that are disabled or IDLE, weighted by bandwidth. Densities are powers per 16.8 GHz in units of 10^-12 of full scale. -/
def noiseFloor (n : Nat) (edges slots : List Nat) (s : State) : Int :=
  let free := (List.range 16).filter (fun sc => !(s.isSet .LINE_SC_ENABLED n sc) || s.get .LINE_SC_FORMAT n sc == 3)
  let sum := 96 * (edges.getD 0 0 + edges.getD 1 0) + 168 * (free.map (fun sc => slots.getD sc 0)).sum
  dBFullScale (sum / (192 + 168 * free.length))

/-- QUALITY_UPDATE (R35, R36): every 64 superframes the set is updated; CD_AUTO may order a dispersion swap (R27). -/
def effQualityUpdate (n : Nat) (edges slots snr : List Nat) (cd : Int) (dgd : Nat) (s : State) : State :=
  if 64 ≤ (s.line n).sfCount then
    let s := s.setLine n (fun l => { l with sfCount := 0 })
    let s := (snr.take 16).zipIdx.foldl (fun s p => s.set .LINE_SC_SNR p.1 n p.2) s
    let floor := noiseFloor n edges slots s
    let s := ((s.setI .LINE_QUALITY_NOISE_FLOOR floor n).set .LINE_QUALITY_SF_NUMBER (s.frame n).sf n).set .LINE_EQ_DGD_EST dgd n
    let s := s.setI .LINE_EQ_CD_EST cd n
    let s := s.when (s.isSet .LINE_EQ_CD_AUTO n && decide (50 < (cd - s.getI .LINE_EQ_CD_APPLIED n).natAbs))
      (fun s => s.setLine n (fun l => { l with cdSwap := requestSwap l.cdSwap (clamp (-12000) 12000 cd) [] }))
    lineIrq n .LINE_EVT_STATUS_QUALITY_UPDATE .LINE_EVT_ENABLE_QUALITY_UPDATE s
  else s

def execQualityUpdate (n : Fin 4) (edges slots snr : List Nat) (cd : Int) (dgd : Nat) (s : State) :
    Host.Outcome State Fault Refusal := .next (effQualityUpdate n edges slots snr cd dgd s)

/-- CAPTURE_TRIGGER (R38): the trigger that is on its way arrives: at its line where a capture is armed, else in CAP_MISSED. A second one
while the capture is armed and triggered changes nothing: the model's choice (log entry 126). -/
def effCaptureTrigger (n line : Nat) (s : State) : State :=
  if (s.line n).trigger = false then s
  else
    let s := s.setLine n (fun l => { l with trigger := false })
    if s.isSet .LINE_CAP_STATUS_ARMED n then
      if (s.line n).triggered then s
      else (s.set .LINE_CAP_STATUS_TRIG_LINE (line % 131072) n).setLine n (fun l => { l with triggered := true })
    else s.inc .LP_CAP_MISSED n

def execCaptureTrigger (n : Fin 4) (line : Nat) (s : State) : Host.Outcome State Fault Refusal :=
  .next (effCaptureTrigger n line s)

/-- When line k of a capture begins and ends, in local time, its first line beginning at t0 (R38): 15 sample instants at 288 GS/s, or 15
symbols. -/
def captureLine (point t0 k : Nat) : Nat × Nat :=
  if point = 0 then (t0 + k * 15 * uNs / 288, t0 + (k + 1) * 15 * uNs / 288) else (t0 + k * 15 * uSym, t0 + (k + 1) * 15 * uSym)

/-- Some sample or symbol of a line carries a settling flag (R38): on the captured subcarrier, or on any for raw samples. -/
def captureFlag (n t0 k : Nat) (s : State) : Bool :=
  let p := s.get .LINE_CAP_CTL_POINT n
  let (a, b) := captureLine p t0 k
  (s.line n).marks.any (fun m => (p == 0 || m.sc == s.get .LINE_CAP_CTL_SC n) && decide (m.since < b) &&
    (match m.till with | none => true | some t => decide (a < t)))

/-- The line that holds line k of the captured stretch: the trigger's line follows PRE / 128 of the buffer (R38, Table 1.20). -/
def capturePlace (n k : Nat) (s : State) : Nat :=
  (s.get .LINE_CAP_STATUS_TRIG_LINE n + 131072 - s.get .LINE_CAP_CTL_PRE n * 1024 % 131072 + k) % 131072

/-- CAPTURE_DONE (R38): the post-trigger part is full; the buffer holds the lines captured, 60 data bytes and a tag each, oldest first
from t0. -/
def effCaptureDone (n t0 : Nat) (samples : List Nat) (s : State) : State :=
  if s.isSet .LINE_CAP_STATUS_ARMED n && (s.line n).triggered then
    let tag (k : Nat) : Nat := b2n (captureFlag n t0 k s) + 2 * b2n (k == s.get .LINE_CAP_CTL_PRE n * 1024)
    let cap := ((samples.take 131072).zipIdx).foldl (fun m p =>
      Tab.put 0 m (n * 131072 + capturePlace n p.2 s) (p.1 % 2 ^ 480 * 2 ^ 32 + tag p.2)) s.capture
    let s := { s with capture := cap }
    lineIrq n .LINE_EVT_STATUS_CAPTURE_DONE .LINE_EVT_ENABLE_CAPTURE_DONE
      ((s.set .LINE_CAP_STATUS_ARMED 0 n).set .LINE_CAP_STATUS_DONE 1 n)
  else s

def execCaptureDone (n : Fin 4) (t0 : Nat) (samples : List Nat) (s : State) : Host.Outcome State Fault Refusal :=
  .next (effCaptureDone n t0 samples s)

end Sys2Proof.Machine
end

