-- ==== Sys2Proof/Machine/FrameEvt.lean ====
section
/-! DEFINITION. The framing events: superframes, headers, function fields, envelopes, tributaries, performance bins. -/
namespace Sys2Proof.Machine

open Sys2Proof

/-- What a fitting header leaves in FRM[i] (Table 2.16), and the next prediction. -/
def noteHeader (n sc h : Nat) (s : State) : State :=
  let s := (s.set .LINE_FRM_SF_NUMBER (hdrSf h) n sc).set .LINE_FRM_SECTOR (hdrSector h) n sc
  s.setFrame n (fun f => { f with predicted := Tab.put 0 f.predicted sc (nextHeader (hdrSf h) (hdrSector h) (hdrFormat h)) })

/-- The prediction advances without a header (Table 2.3, neutral row; R46). -/
def advancePrediction (n sc : Nat) (s : State) : State :=
  let p := Tab.get 0 (s.frame n).predicted sc
  s.setFrame n (fun f => { f with predicted := Tab.put 0 f.predicted sc (nextHeader (p / 256) (p % 256) (s.get .LINE_SC_FORMAT n sc)) })

/-- A fitting header on the control subcarrier, whose first symbol arrived at `first`: the superframe's number and, before SYNC, its
arrival instant A by the alignment (R90), the AGC freeze (R23), and at sector 0 the page bit, which is authoritative (R68). -/
def controlHeader (n h first : Nat) (s : State) : State :=
  let s := agcFreeze n s
  let sync := s.get .LINE_FRM_STATE n (hdrSc h) == 2
  let a := first - hdrSector h * (26112 / (hdrFormat h + 1)) * uSym
  let s := s.setFrame n (fun f => { f with sf := hdrSf h, arrival := if sync then f.arrival else a })
  if hdrSector h = 0 ∧ sync ∧ hdrPage h ≠ s.get .LINE_TSI_DN_PAGE n then
    pageSwap n 0 ((s.inc .LP_PAGE_MISMATCH n).raise 0x040E [n, hdrPage h])
  else s

/-- The subcarrier reaches SYNC (R46, R56). -/
def reachSync (n sc : Nat) (s : State) : State :=
  let s := ((s.set .LINE_FRM_STATE 2 n sc).set .LINE_FRM_MISFIT_RUN 0 n sc).raise 0x040A [n, sc]
  let s := s.setFrame n (fun f => { f with remote := Tab.put 0 f.remote sc 0 })
  if isControl n sc s then maybeReacquired n (controlSynced n 0x040A s) else s

/-- Loss of sync: the fourth misfit (R46, R79). -/
def loseSync (n sc : Nat) (s : State) : State :=
  hunt n sc 0x040B ((s.inc .LSC_SYNC_LOSS n sc).raise 0x040B [n, sc])

/-- The suspect test for a header (R34), in every state. Marks that run until re-acquisition make headers neutral until Dill has
succeeded, and from then on no longer, as re-acquisition needs headers that count (log entry 11). -/
def headerNeutral (n sc a b : Nat) (s : State) : Bool :=
  if (s.line n).dillDue then suspect n sc a b s
  else suspect n sc a b (s.setLine n (fun l => { l with marks := l.marks.filter (fun m => m.till.isSome) }))

/-- The one other format under which a header fits at the first symbol of a superframe (R51). -/
def otherFormat (n sc : Nat) (others : List (Nat × Nat)) (s : State) : Option (Nat × Nat) :=
  let p := Tab.get 0 (s.frame n).predicted sc
  let ok := others.filter (fun o => o.1 != s.get .LINE_SC_FORMAT n sc && hdrCheck o.2 && hdrSector o.2 == 0 &&
    hdrSf o.2 == p / 256 && hdrFormat o.2 == o.1 && decide (o.1 < 3))
  match ok with
  | [o] => if p % 256 = 0 then some o else none
  | _ => none

/-- The header of the sector in progress: 1 + SECTOR where it fits in SYNC, else 0 (R49). -/
def noteField (n sc v : Nat) (s : State) : State := s.setFrame n (fun f => { f with hdrOk := Tab.put 0 f.hdrOk sc v })

/-- The function field of a sector whose position was predicted as p is discarded, and counted (R49), unless its header fits in SYNC and
the pair that carries it has passed C1. -/
def fieldTaken (n sc p : Nat) (fitsInSync : Bool) (s : State) : State :=
  let ok := fitsInSync && (match sectorPair n sc (p / 256) (p % 256) s with | some r => r.pass | none => false)
  s.when (!ok) (fun s => s.inc .LSC_FF_LOST n sc)

/-- A header that fits at its predicted place, or is adopted there under another format. -/
def fitHeader (n sc h first : Nat) (s : State) : State :=
  let s := noteHeader n sc h (s.inc .LSC_HDR_FIT n sc)
  if isControl n sc s then controlHeader n h first s else s

/-- SECTOR_HEADER (R23, R45, R46, R49, R51): one header tested, as the sector's first pair has been decoded; the deframer's state machine (Table
2.3). `others` are the headers decoded at the same symbol under the other formats, with those formats; `gain` is where the AGC's fast
loop stands. -/
def effSectorHeader (n sc header first last gain : Nat) (others : List (Nat × Nat)) (s : State) : State :=
  let h := header % 2 ^ 128
  let st := s.get .LINE_FRM_STATE n sc
  let off := !(s.isSet .LINE_SC_ENABLED n sc) || ((s.frame n).mapKnown && s.get .LINE_SC_FORMAT n sc == 3)
  let p := Tab.get 0 (s.frame n).predicted sc
  let s := noteField n sc 0 s
  if off ∨ s.portGated n then s
  else
    let s := agcFollow n gain s
    if headerNeutral n sc first last s then (if st = 0 then s else advancePrediction n sc (fieldTaken n sc p false s))
    else if st = 0 then
      if hdrFits h sc then
        let s := (s.set .LINE_FRM_STATE 1 n sc).set .LINE_FRM_FIT_RUN 0 n sc
        let s := if (s.frame n).mapKnown then s else s.set .LINE_SC_FORMAT (hdrFormat h) n sc
        fitHeader n sc h first s
      else s
    else if hdrFits h sc && hdrSf h * 256 + hdrSector h == p && hdrFormat h == s.get .LINE_SC_FORMAT n sc then
      let s := fitHeader n sc h first s
      if st = 2 then
        let s := fieldTaken n sc p true (noteField n sc (p % 256 + 1) (s.set .LINE_FRM_MISFIT_RUN 0 n sc))
        if isControl n sc s then maybeReacquired n s else s
      else
        let s := fieldTaken n sc p false s
        let run := s.get .LINE_FRM_FIT_RUN n sc + 1
        if s.get .LINE_FRM_CFG_DELTA n ≤ run then reachSync n sc s else s.set .LINE_FRM_FIT_RUN run n sc
    else
      match (if st = 2 then otherFormat n sc others s else none) with
      | some (f, g) =>
        let s := ((s.set .LINE_SC_FORMAT f n sc).inc .LSC_FMT_UNANNOUNCED n sc).raise 0x0411 [n, sc + f * 16]
        fieldTaken n sc p true (noteField n sc (p % 256 + 1) (fitHeader n sc g first s))
      | none =>
        let s := fieldTaken n sc p false (s.inc .LSC_HDR_MISFIT n sc)
        if st = 1 then hunt n sc 0 s
        else if 3 ≤ s.get .LINE_FRM_MISFIT_RUN n sc then loseSync n sc s
        else advancePrediction n sc (s.set .LINE_FRM_MISFIT_RUN (s.get .LINE_FRM_MISFIT_RUN n sc + 1) n sc)

def execSectorHeader (n : Fin 4) (sc : Fin 16) (header first last gain : Nat) (others : List (Nat × Nat)) (s : State) :
    Host.Outcome State Fault Refusal := .next (effSectorHeader n sc header first last gain others s)

/-- A superframe header is accepted by its own fields (R50). -/
def sfAccepted (h : Nat) : Bool :=
  bits h 0 32 == crc32c (toBytes 60 (h / 2 ^ 32)) && decide (1 ≤ bits h 312 8 ∧ bits h 312 8 ≤ 63) && bits h 264 8 == 1

/-- LISTEN's rows of Table 3.2 at an accepted header. -/
def listenHeader (n systemId tree : Nat) (s : State) : State :=
  if s.tree n ≠ tsListen then s
  else if !(s.isSet .LINE_TREE_FILTER_ENABLE n) ∨
      (s.get .LINE_TREE_FILTER_SYSTEM_ID n = systemId ∧ s.get .LINE_TREE_FILTER_TREE n = tree) then
    if darkHolds n s ∨ !(controlSync n s) then s
    else setTree n tsCandidate 0 (s.setTerm n (fun t => { t with backoff := 0, skip := 0 }))
  else if (s.term n).mismatchSeen then s
  else (s.setTerm n (fun t => { t with mismatchSeen := true })).raise 0x0509 [n, systemId, tree]

/-- A subcarrier named as control is enabled at once if it is disabled (R40, R50); its symbols are marked (Table 1.5). -/
def enableControl (n c : Nat) (s : State) : State :=
  if s.isSet .LINE_SC_ENABLED n c then s else markSc n c (some 4096) (s.set .LINE_SC_ENABLED 1 n c)

/-- What is taken from an accepted superframe header (Table 2.6, R50, R51, R68); the control subcarrier's own (`own`) is also a
measurement of time (R113). -/
def takeHeader (n h : Nat) (own : Bool) (s : State) : State :=
  let sf := (s.frame n).sf
  let map := bits h 384 32
  let m := bits h 344 8
  let sysId := bits h 280 32
  let tree := bits h 272 6
  let changed := (s.frame n).systemId != sysId || (s.frame n).treeNo != tree
  let ctl := bits h 320 4
  let next : Option (Nat × Nat) := if m = 0 then none else some (bits h 352 32, (sf + m) % 2 ^ 25)
  let newCtl : Option Nat := if (s.line n).controlKnown ∧ ctl = s.get .LINE_STATUS_CONTROL_SC n then none else some ctl
  let s := s.setFrame n (fun f => { f with mapKnown := true, nextMap := next, nextControl := newCtl, delta := bits h 312 8,
                                           discoveryOpen := bit h 256, timeValid := bit h 257, systemId := sysId,
                                           treeNo := tree })
  let s := s.when changed (resetReplay n)
  let s := mapInForce n map (s.when newCtl.isSome (enableControl n ctl))
  let s := announceSwap n 0 (bits h 336 7) ((sf + bits h 336 7) % 2 ^ 25) s
  let s := announceSwap n 1 (bits h 328 7) ((sf + bits h 328 7 + 1) % 2 ^ 25) s
  (listenHeader n sysId tree s).when own (timeMark n (bits h 416 96))

/-- The fallback of R50: the accepted header of the lowest-numbered subcarrier in SYNC that carries one, once the headers of the
subcarriers in SYNC below it have been seen. -/
def fallbackHeader (n : Nat) (s : State) : Option (Nat × Nat) :=
  let f := s.frame n
  match f.offered with
  | (k, h) :: _ =>
    if (List.range k).all (fun sc => s.get .LINE_FRM_STATE n sc != 2 || f.heard.contains sc) then some (k, h) else none
  | [] => none

/-- SUPERFRAME_HEADER (R50): sector 0 of a subcarrier. The control subcarrier's header is taken; another's serves when that one is lost. A
usable field whose header is not accepted is counted in FF_LOST. -/
def effSuperframeHeader (at_ : FieldAt) (s : State) : State :=
  let a := inSector at_ 0
  let n := a.port
  let usable := fieldUsable a s
  let h := ofBytes (fieldBytes a s)
  let good := usable && sfAccepted h
  let own := isControl n a.sc s
  let s := s.when (usable && !good) (fun s => s.inc .LSC_FF_LOST n a.sc)
  if s.portGated n then s
  else if (s.frame n).headerTaken.isSome then s
  else
    let s := s.setFrame n (fun f =>
      { f with heard := a.sc :: f.heard, offered := if good && !own then Tab.put 0 f.offered a.sc h else f.offered,
               controlLost := f.controlLost || (own && !good) })
    if own ∧ good then takeHeader n h true (s.setFrame n (fun f => { f with headerTaken := some a.sc }))
    else if (s.frame n).controlLost ∨ !(controlSync n s) then
      match fallbackHeader n s with
      | some (k, g) => takeHeader n g false (s.setFrame n (fun f => { f with headerTaken := some k }))
      | none => s
    else s

def execSuperframeHeader (at_ : FieldAt) (s : State) : Host.Outcome State Fault Refusal := .next (effSuperframeHeader at_ s)

/-- The drift of the superframe that ends, and its alarm (R24); `drift` in 0.01 dB. -/
def driftUpdate (n : Nat) (drift : Int) (s : State) : State :=
  if !(s.isSet .LINE_AGC_FROZEN n) then s
  else
    let d := roundDiv drift 10
    let s := s.setI .LINE_AGC_DRIFT d n
    if !(s.isSet .LINE_STATUS_DRIFT_ALARM n) ∧ 30 < d.natAbs then
      let s := lineIrq n .LINE_EVT_STATUS_DRIFT .LINE_EVT_ENABLE_DRIFT
        ((s.set .LINE_STATUS_DRIFT_ALARM 1 n).raise 0x0404 [n, ofSigned 32 d])
      captureCause n 4 (s.when (s.isSet .LINE_AGC_AUTO_RELEVEL n) (requestStep n))
    else if s.isSet .LINE_STATUS_DRIFT_ALARM n ∧ d.natAbs ≤ 25 then s.set .LINE_STATUS_DRIFT_ALARM 0 n
    else s

/-- Requests of an earlier superframe become due at this one's application point (R25, R27). -/
def duePoints (n : Nat) (s : State) : State :=
  let pending := s.isSet .LINE_AGC_STEP_PENDING n
  s.setLine n (fun l =>
    let due (o : Option PendingSwap) : Option PendingSwap := o.map (fun p => { p with due := true })
    let scs := l.scSwaps.map (fun p => { p with due := true })
    { l with stepDue := pending, cdSwap := due l.cdSwap, eqSwap := due l.eqSwap, scSwaps := scs, sfCount := l.sfCount + 1 })

/-- The named control subcarrier takes over (R50): its sync state governs from here. -/
def changeControl (n : Nat) (s : State) : State :=
  match (s.frame n).nextControl with
  | none => s
  | some c =>
    let was := controlSync n s
    let s := ((s.set .LINE_STATUS_CONTROL_SC c n).setLine n (fun l => { l with controlKnown := true })).setFrame n
      (fun f => { f with nextControl := none })
    if was ∧ !(controlSync n s) then downstreamLoss n 0 (agcUnfreeze n s)
    else if !was ∧ controlSync n s then maybeReacquired n (controlSynced n 0 s)
    else s

/-- Superframe x is y or later, modulo 2^25 (R85, R92). -/
def sfReached (x y : Nat) : Bool := decide ((x + 2 ^ 25 - y % 2 ^ 25) % 2 ^ 25 < 2 ^ 24)

/-- A PROFILE value is loaded; one with VALID 0 withdraws it (R85, Table 1.17). -/
def loadProfile (n : Nat) (s : State) (e : Nat × Nat) : State :=
  let j := e.1 % 16
  let v := e.2
  [(Fld.LINE_UP_PROFILE_VALID, bits v 13 1), (.LINE_UP_PROFILE_RAMP, bits v 8 5), (.LINE_UP_PROFILE_PREAMBLE, bits v 4 4),
   (.LINE_UP_PROFILE_RATE, bits v 1 3), (.LINE_UP_PROFILE_FORMAT, bits v 0 1)].foldl (fun s p => s.set p.1 p.2 n j) s

/-- The profile registers as 14-bit values (Table 1.17). -/
def profileValue (n j : Nat) (s : State) : Nat :=
  s.get .LINE_UP_PROFILE_VALID n j * 2 ^ 13 + s.get .LINE_UP_PROFILE_RAMP n j * 2 ^ 8 + s.get .LINE_UP_PROFILE_PREAMBLE n j * 2 ^ 4 +
    s.get .LINE_UP_PROFILE_RATE n j * 2 + s.get .LINE_UP_PROFILE_FORMAT n j

/-- The RANGE values under those that wait: the registers, where none wait (R92). -/
def rangeUnder (n : Nat) (s : State) : RangeValues :=
  ((s.term n).rangeBase).getD
    ⟨s.get .LINE_TREE_RANGE_EQD n, s.get .LINE_TREE_RANGE_TRIM n, s.get .LINE_TREE_RANGE_DN_DELAY n, 0, 0⟩

/-- The profiles under those that wait. -/
def profilesUnder (n : Nat) (s : State) : List Nat :=
  ((s.term n).profileBase).getD ((List.range 16).map (fun j => profileValue n j s))

/-- A PROFILE message's entries over a list of 16 profiles. -/
def overProfiles (ps : List Nat) (v : ProfileValues) : List Nat := v.entries.foldl (fun ps e => ps.set (e.1 % 16) e.2) ps

/-- Values of RANGE and PROFILE come into force for the upstream superframe anchored on this one (R85, R91), and go out of force where a
fall of DELTA brings its number below APPLY_UP_SF again; those that every later number has reached are kept for good (R92). -/
def treeValues (n : Nat) (s : State) : State :=
  let t := s.term n
  let k := (s.frame n).sf + (s.frame n).delta
  let least := (s.frame n).sf + 1
  let rb := (t.rangeNext.filter (fun r => sfReached least r.apply)).foldl (fun _ r => r) (rangeUnder n s)
  let rn := (t.rangeNext.filter (fun r => sfReached k r.apply)).foldl (fun _ r => r) (rangeUnder n s)
  let pb := (t.profileNext.filter (fun p => sfReached least p.apply)).foldl overProfiles (profilesUnder n s)
  let pn := (t.profileNext.filter (fun p => sfReached k p.apply)).foldl overProfiles (profilesUnder n s)
  let s := s.when (!t.rangeNext.isEmpty) (fun s =>
    s.setAll [(.LINE_TREE_RANGE_EQD, rn.eqd), (.LINE_TREE_RANGE_TRIM, rn.trim), (.LINE_TREE_RANGE_DN_DELAY, rn.delay)] n)
  let s := s.when (!t.profileNext.isEmpty) (fun s => pn.zipIdx.foldl (fun s p => loadProfile n s (p.2, p.1)) s)
  let rest := t.rangeNext.filter (fun r => !(sfReached least r.apply))
  let more := t.profileNext.filter (fun p => !(sfReached least p.apply))
  s.setTerm n (fun t => { t with rangeNext := rest, rangeBase := if rest.isEmpty then none else some rb,
                                 profileNext := more, profileBase := if more.isEmpty then none else some pb })

/-- Assigned cells of a page: (subcarrier, tributary) of each within the sector count in force (R66). -/
def assignedCells (n dir page : Nat) (s : State) : List (Nat × Nat) :=
  let base := (dir * 2 + page) * 153600
  (s.frame n).tsi.filterMap (fun p =>
    if base ≤ p.1 ∧ p.1 < base + 153600 ∧ bit p.2 7 then
      let e := p.1 - base
      let sc := e / 9600
      let f := s.get .LINE_SC_FORMAT n sc
      if f < 3 ∧ e % 9600 / 50 < sectorsOf f then some (sc, p.2 % 64) else none
    else none)

/-- Cells of the page in force of a direction that are assigned without a slot are counted (R66). -/
def countNoSlot (n dir : Nat) (s : State) : State :=
  let page := s.get (if dir = 0 then .LINE_TSI_DN_PAGE else .LINE_TSI_UP_PAGE) n
  let lost := (assignedCells n dir page s).filter (fun c => !(hasSlot n c.1 c.2 s))
  lost.foldl (fun s c => s.inc .LSC_TRIB_NOSLOT n c.1) s

/-- A decoded pair of this superframe or of the two before it. -/
def recentPair (sf : Nat) (p : PairRec) : Bool := decide ((sf + 2 ^ 25 - p.sf) % 2 ^ 25 ≤ 2)

/-- An item on the path still waits for the result of a pair. -/
def awaited (n : Nat) (p : PairRec) (s : State) : Bool :=
  s.items.any (fun i => i.2.origin == .line n p.sc && i.2.points.contains 1 && i.2.pairs.contains (p.sf, p.pair))

/-- SUPERFRAME_START (R16, R24, R25, R51, R68): the first symbol of a downstream superframe, where the puncturing period restarts with pair
0 (`downstreamBits`). -/
def effSuperframeStart (n : Nat) (drift : Int) (s : State) : State :=
  if s.portGated n then s else
  let s := driftUpdate n drift (duePoints n s)
  let now := s.now
  let s := s.setFrame n (fun f =>
    let just := f.justNext.foldl (fun m p => Tab.put 0 m p.1 p.2) f.justLast
    { f with sf := (f.sf + 1) % 2 ^ 25, arrival := now, headerTaken := none, offered := [], controlLost := false,
             heard := [], justPrev := f.justLast, justLast := just, justNext := [],
             pairs := f.pairs.filter (fun p => recentPair ((f.sf + 1) % 2 ^ 25) p || awaited n p s) })
  let s := changeControl n s
  let sf := (s.frame n).sf
  let s : State := match (s.frame n).nextMap with
    | some (map, at_) => if at_ = sf then applyMap n map (s.setFrame n (fun f => { f with nextMap := none })) else s
    | none => s
  let s := if (s.frame n).dnSwapAt = some sf then pageSwap n 0 s else s
  countNoSlot n 0 (treeValues n (s.when (s.get .LINE_CAP_CTL_TRIG_SF n == sf) (captureCause n 5)))

def execSuperframeStart (n : Fin 4) (drift : Int) (s : State) : Host.Outcome State Fault Refusal :=
  .next (effSuperframeStart n drift s)

/-- UP_SUPERFRAME_START (R66, R68): the upstream superframe anchored on A(anchor) begins. -/
def effUpSuperframeStart (n anchor : Nat) (s : State) : State :=
  countNoSlot n 1 (if (s.frame n).upSwapAt = some (anchor % 2 ^ 25) then pageSwap n 1 s else s)

def execUpSuperframeStart (n : Fin 4) (anchor : Nat) (s : State) : Host.Outcome State Fault Refusal :=
  .next (effUpSuperframeStart n anchor s)

/-- A terminal that holds an identity and reads the directory: in RANGING, MEMBER, DOZING, DARK, and in HOLDOVER while it
awaits its entry (R80, R82). -/
def readsDirectory (n : Nat) (s : State) : Bool :=
  s.isSet .LINE_TREE_STATE_IDENT_VALID n &&
    (s.tree n == tsRanging || s.tree n == tsMember || s.tree n == tsDozing || s.tree n == tsDark ||
      (s.tree n == tsHoldover && (s.term n).awaiting))

/-- Step 2 of the return rule ends with the own entry (R82). -/
def returnEntry (n : Nat) (resume : Bool) (s : State) : State :=
  let t := s.term n
  let s := (s.stop (.returnEntry n)).setTerm n (fun t => { t with awaiting := false })
  if resume then outageEnd n t.outageMs 0 (setTree n t.silentFrom 0 s)
  else toRanging n 0 (s.setTerm n (fun t => { t with afterOutage := true }))

/-- DIRECTORY_ENTRY (R52, R82, R96): slot is the entry within its superframe, entry slot mod 8 of sector 1 + slot / 8; its TID is 64
(SF_NUMBER mod 8) + slot. -/
def effDirectoryEntry (a : FieldAt) (slot : Nat) (s : State) : State :=
  let n := a.port
  if !(isControl n a.sc s) then s
  else
    onField (inSector a (1 + slot / 8)) (fun bs s =>
      let e := field bs (slot % 8 * 8) 8
      if bits e 0 8 ≠ crc8 (toBytes 7 (e / 256)) then s.inc .LP_DIR_BADCHECK n
      else if !(readsDirectory n s) ∨ s.get .LINE_TREE_ID_TID n ≠ 64 * ((s.frame n).sf % 8) + slot then s
      else
        let ep := bits e 48 16
        let own := bits e 16 32 == s.get .LINE_TREE_ID_SERIAL_TAG n
        let mine := s.get .LINE_TREE_ID_EPOCH n
        let st := bits e 13 3
        let grace := s.isSet .LINE_TREE_STATE_DIR_GRACE n
        if !grace ∧ st = 0 then depose n 3 ep 0x0502 s
        else if !grace ∧ !own then depose n 1 ep 0x0502 s
        else if !grace ∧ newerEpoch ep mine then depose n 2 ep 0x0502 s
        else if own ∧ ep ≠ mine ∧ !(newerEpoch ep mine) then s.inc .LP_DIR_STALE n
        else if (s.term n).awaiting ∧ own ∧ ep = mine then returnEntry n (bit e 12) s
        else s) s

def execDirectoryEntry (at_ : FieldAt) (slot : Fin 64) (s : State) : Host.Outcome State Fault Refusal :=
  .next (effDirectoryEntry at_ slot s)

/-- REMOTE_INDICATIONS (R56): sector 31, compared with the last one used. REMOTE_DEFECT is raised once for each byte that differs, and its
'changed byte in bits 15:8' is that byte's number, 0 to 8: the model's reading (log entry 126). -/
def effRemoteIndications (a : FieldAt) (s : State) : State :=
  onField (inSector a 31) (fun bs s =>
    let n := a.port
    let v := field bs 0 9
    let new := v / 256 * 256 + v % 4
    let old := Tab.get 0 (s.frame n).remote a.sc
    let s := s.setFrame n (fun f => { f with remote := Tab.put 0 f.remote a.sc new })
    (List.range 9).foldl (fun s k =>
      if bits new (8 * (8 - k)) 8 = bits old (8 * (8 - k)) 8 then s else s.raise 0x0410 [n, a.sc + k * 256]) s) s

def execRemoteIndications (at_ : FieldAt) (s : State) : Host.Outcome State Fault Refusal := .next (effRemoteIndications at_ s)

/-- Bytes a tributary's cells on a subcarrier hold in the next superframe (R67). -/
def nextCapacity (n sc t : Nat) (s : State) : Nat :=
  let f := s.frame n
  let page := if f.dnSwapAt = some ((f.sf + 1) % 2 ^ 25) then standbyPage n 0 s else s.get .LINE_TSI_DN_PAGE n
  204 * ((assignedCells n 0 page s).filter (fun c => c == (sc, t))).length

/-- JUSTIFICATION_COUNT (R67): the count of a bound slot for the next superframe, entry slot mod 16 of sector 29 or 30; one lost, not VALID
or above the capacity is replaced by the last valid one (log entry 27). -/
def effJustificationCount (at_ : FieldAt) (slot : Nat) (s : State) : State :=
  let a := inSector at_ (29 + slot / 16)
  let n := a.port
  match slotTrib n a.sc slot s with
  | none => s
  | some t =>
    if s.get .LINE_FRM_STATE n a.sc = 0 then s
    else
      let k := a.sc * 32 + slot
      let e := field (fieldBytes a s) (slot % 16 * 4) 4
      let v := bits e 0 16
      if fieldUsable a s ∧ bit e 25 ∧ v ≤ nextCapacity n a.sc t s then
        s.setFrame n (fun f => { f with justNext := Tab.put 0 f.justNext k v })
      else
        let s := s.inc .LSC_JUST_ERR n a.sc
        s.setFrame n (fun f => { f with justNext := Tab.put 0 f.justNext k (Tab.get 0 f.justLast k) })

def execJustificationCount (at_ : FieldAt) (slot : Fin 32) (s : State) : Host.Outcome State Fault Refusal :=
  .next (effJustificationCount at_ slot s)

/-- OVERHEAD_BLOCK_RX (R72): the block of sector 25 + channel goes to every serial port bound to this port and channel; one discarded is
counted. -/
def effOverheadBlockRx (at_ : FieldAt) (channel : Nat) (s : State) : State :=
  let a := inSector at_ (25 + channel)
  let n := a.port
  if !(isControl n a.sc s) then s
  else if fieldUsable a s then
    (List.range 8).foldl (fun s k =>
      if s.isSet .SYS_OSP_TX_EN k ∧ s.get .SYS_OSP_PORT k = n ∧ s.get .SYS_OSP_CHANNEL k = channel then
        { s with ospOut := Tab.put [] s.ospOut k (Tab.get [] s.ospOut k ++ [ofBytes (fieldBytes a s)]) }
      else s) s
  else s.when (s.get .LINE_FRM_STATE n a.sc != 0 && !(s.portGated n)) (fun s => s.inc .LP_OH_LOST n)

def execOverheadBlockRx (at_ : FieldAt) (channel : Fin 4) (s : State) : Host.Outcome State Fault Refusal :=
  .next (effOverheadBlockRx at_ channel s)

/-- OSP_BLOCK_OUT (R72): the oldest block that waits is shifted out; nothing in the safe state (Table 16.5). -/
def effOspBlockOut (k : Nat) (s : State) : State :=
  match Tab.get [] s.ospOut k with
  | [] => s
  | b :: r =>
    let s := { s with ospOut := Tab.put [] s.ospOut k r }
    if s.isSet .SYS_OSP_TX_EN k ∧ !s.safe then s.emit (.osp k b) else s

def execOspBlockOut (k : Fin 8) (s : State) : Host.Outcome State Fault Refusal := .next (effOspBlockOut k s)

/-- OSP_BLOCK_IN (R73): 512 bits sampled; up to 4 blocks wait, and a fifth pushes out the oldest. -/
def effOspBlockIn (k block : Nat) (s : State) : State :=
  if !(s.isSet .SYS_OSP_RX_EN k) then s
  else
    let n := s.get .SYS_OSP_PORT k
    let w := (s.frame n).ohWaiting ++ [(s.get .SYS_OSP_CHANNEL k, block % 2 ^ 512)]
    let s := s.when (decide (4 < w.length)) (fun s => s.inc .LP_OH_DROP n)
    s.setFrame n (fun f => { f with ohWaiting := w.drop (w.length - 4) })

def execOspBlockIn (k : Fin 8) (block : Nat) (s : State) : Host.Outcome State Fault Refusal := .next (effOspBlockIn k block s)

/-- An envelope header fits (R60, Tables 2.9 and 2.10). -/
def envFits (h : Nat) : Bool :=
  let len := bits h 50 14
  bits h 0 16 == crc16 (toBytes 6 (h / 65536)) &&
    (match bits h 46 4 with
     | 0 => decide (len ≤ 16376)
     | 1 => decide (60 ≤ len ∧ len ≤ 9212)
     | 2 => decide (84 ≤ len ∧ len ≤ 9236)
     | 3 => len == 0
     | 4 => decide (2 ≤ len ∧ len ≤ 1024)
     | _ => false)

/-- An envelope is for this terminal: broadcast, or its TID (R61). -/
def envOwn (n h : Nat) (s : State) : Bool :=
  bit h 34 || (s.isSet .LINE_TREE_STATE_IDENT_VALID n && bits h 35 9 == s.get .LINE_TREE_ID_TID n)

/-- Bytes an envelope occupies in the stream (R59). -/
def envSpan (h : Nat) : Nat := 8 + ceilDiv (bits h 50 14) 8 * 8

/-- The item of a delivered envelope (R61, R134): `pairs` are those of its bytes, `at_` the local instant of its first symbol (R120), `c1`
0 while its pairs are still being decoded. The stamp of an encrypted frame is taken before it is known whether it is an event message. -/
def envItem (n sc h : Nat) (pairs : List (Nat × Nat)) (at_ c1 : Nat) (body : List Nat) (s : State) : Item :=
  let bs := body.take (bits h 50 14)
  let p1 := if c1 = 0 then [1] else []
  let then_ : State := { s with now := at_ }
  let it : Item := { origin := .line n sc, slot := 32 + n, bytes := bs, points := 0 :: p1, pairs := pairs, since := s.now,
                     rate := scRate s n sc, counts := [(.LSC_ENV_OWN, 1, n, sc)] }
  match bits h 46 4 with
  | 1 => { it with rxStamp := rxStampOf (32 + n) bs then_ }
  | 2 =>
    let stamp : Option Nat := if s.isSet .TIME_PORT_STAMP_RX (32 + n) then some (shortStamp (stampTime (32 + n) then_)) else none
    { it with points := it.points ++ [2], enc := some (h, bits h 44 2, bit h 34, field bs 0 8), sealed := true,
              rxStamp := stamp }
  | 3 => { it with points := p1, decision := some (.consumed 3), counts := [(.LP_ABORT_RX, 1, n, 0)] }
  | _ => { it with points := p1, decision := some (.consumed 3) }

/-- A delivered envelope takes its way (R61, R62; in a line loopback whatever its address and the terminal state, R415): an
item joins the path; one with nothing outstanding is confirmed. Under ASSURED it enters the cipher cluster only once its pairs have passed
C1 (R137). -/
def deliverEnvelope (n sc h : Nat) (pairs : List (Nat × Nat)) (at_ c1 : Nat) (body : List Nat) (s : State) : State :=
  let st := s.tree n
  if bits h 46 4 = 0 then s
  else if !(envOwn n h s) ∧ !(lineLooped n s) then s.inc .LSC_ENV_OTHER n sc
  else if (st = tsOffline ∨ st = tsHoldover) ∧ !(lineLooped n s) then s
  else
  let s := if st = tsDozing ∧ !(bit h 34) then wakeBy 3 s else s
  if s.asleep then s.inc .PWR_STANDBY_DISCARD
  else
    let it := envItem n sc h pairs at_ c1 body s
    let k := s.nextItem
    let s := newItem it s
    if isConfirmed it then confirmItem k s
    else if behaviour s = 0 ∧ c1 = 0 then s
    else startLineJob n k s

/-- An envelope with a byte in a failed pair (R60, R34); `suspectPair` when that pair is suspect. -/
def discardEnvelope (n sc h : Nat) (suspectPair : Bool) (s : State) : State :=
  let st := s.tree n
  if bits h 46 4 = 0 then s
  else if !(envOwn n h s) then s.inc .LSC_ENV_OTHER n sc
  else if st = tsOffline ∨ st = tsHoldover then s
  else if suspectPair then s.inc .LSC_SETTLE_DISCARD n sc
  else s.inc .LSC_ENV_FAILED n sc

/-- Bytes among stretches of the stream that lie in HUNT (R60): all but those of failed pairs that the stream passed over. -/
def huntBytes (n sc : Nat) (ps : List (Nat × Nat × Nat)) (s : State) : Nat :=
  ps.foldl (fun a p => match pairOf n sc (p.1, p.2.1) s with
    | some r => if r.lost then a else a + p.2.2
    | none => a + p.2.2) 0

/-- ENVELOPE (R59 to R62): the header at one position of a subcarrier's stream is tested: byte `offset` of cell `cell` (50 sector + cell) of
superframe sf. What is known of its pairs decides with it: an envelope with a byte in a failed pair is discarded. -/
def effEnvelope (n sc sf cell offset header : Nat) (body : List Nat) (s : State) : State :=
  let h := header % 2 ^ 64
  if s.get .LINE_FRM_STATE n sc ≠ 2 then s
  else
    let st := s.get .LINE_FRM_ENV_STATE n sc
    let fits := envFits h
    let ps := streamPairs 40000 n sc sf cell offset (if fits then envSpan h else 8) s
    let pairs := (ps.map (fun p => (p.1, p.2.1))).dedup
    let c1 := pairsC1 n sc pairs s
    let passed := s.bump .LSC_ENV_HUNT_BYTES (huntBytes n sc ps s) n sc
    if 2 ≤ c1 then
      let s := if st = 2 then s else passed
      if fits then discardEnvelope n sc h (c1 == 3) s else s
    else if !fits then
      (passed.when (st == 2) (fun s => s.inc .LSC_ENV_HEC_ERR n sc)).set .LINE_FRM_ENV_STATE 0 n sc
    else if st = 0 then passed.set .LINE_FRM_ENV_STATE 1 n sc
    else deliverEnvelope n sc h pairs (byteArrival n sc sf cell offset s) c1 body (s.set .LINE_FRM_ENV_STATE 2 n sc)

def execEnvelope (n : Fin 4) (sc : Fin 16) (sf cell offset : Nat) (header : Nat) (body : List Nat) (s : State) :
    Host.Outcome State Fault Refusal := .next (effEnvelope n sc sf cell offset header body s)

/-- The cells of a tributary in superframe sf, in order of sector, then subcarrier, then cell (R67): (subcarrier, cell). A subcarrier
whose deframer is not in SYNC carries none. -/
def tribCells (n t sf : Nat) (s : State) : List (Nat × Nat) :=
  let page := dnPageIn n sf s
  let cells := (s.frame n).tsi.filterMap (fun p =>
    let e := p.1 % 9600
    let sc := p.1 / 9600 % 16
    if p.1 / 153600 = page ∧ e / 50 < sectorsOf (formatIn n sc sf s) ∧ s.get .LINE_FRM_STATE n sc = 2 ∧
        cellTrib n 0 page sc e s = some t then some (sc, e) else none)
  cells.insertionSort (fun a b => (a.2 / 50 * 16 + a.1) * 50 + a.2 % 50 ≤ (b.2 / 50 * 16 + b.1) * 50 + b.2 % 50)

/-- The pairs that a cell's 204 bytes lie in. -/
def cellPairs (sf e : Nat) : List (Nat × Nat) := ([cellByte e 0 / 1285, cellByte e 203 / 1285].dedup).map (fun p => (sf, p))

/-- The bytes of a cell as decoded, and whether a pair of them failed C1. -/
def cellData (n sc sf e : Nat) (s : State) : List (Nat × Bool) :=
  let a := cellByte e 0
  let of_ (p : Nat) : List (Nat × Bool) := match pairOf n sc (sf, p) s with
    | some r => r.data.map (fun b => (b, !r.pass))
    | none => []
  (((of_ (a / 1285)).drop (a % 1285)) ++ of_ (a / 1285 + 1)).take 204

/-- The justification count of a tributary on a subcarrier in superframe sf (R67): that of the superframe in progress, or of the one
before it. -/
def justOf (n sc t sf : Nat) (s : State) : Nat :=
  let f := s.frame n
  match (List.range 32).find? (fun k => slotTrib n sc k s == some t) with
  | some k => Tab.get 0 (if sf = f.sf then f.justLast else f.justPrev) (sc * 32 + k)
  | none => 0

/-- The data bytes of a tributary in superframe sf (R67): on each subcarrier the first of its cells' bytes, as many as the count says, the
rest being filler. -/
def tribData (n t sf : Nat) (s : State) : List (Nat × Bool) :=
  ((tribCells n t sf s).foldl (fun (p : List (Nat × Bool) × Tab Nat) c =>
    let used := Tab.get 0 p.2 c.1
    let k := min 204 (justOf n c.1 t sf s - used)
    (p.1 ++ (cellData n c.1 sf c.2 s).take k, Tab.put 0 p.2 c.1 (used + k))) ([], [])).1

/-- A tributary frame (R71): addresses, tag where one is configured, EtherType 0x88B6, the 8-byte header, the data, and the FCS. -/
def tribFrame (n t : Nat) (x : Trib) (flags : Nat) (data : List Nat) : List Nat :=
  let bs := toBytes 6 x.dest ++ toBytes 6 x.source ++ (if x.vlan = 0 then [] else toBytes 4 x.vlan) ++ [0x88, 0xB6] ++
    [1, n * 64 + t] ++ toBytes 2 x.seqDown ++ [flags, 0, 0, 0] ++ data
  bs ++ toBytes 4 (crc32 bs)

/-- TRIB_FRAME_TX (R71): the next downstream frame of a tributary of superframe sf, once every pair of its cells has been decoded; up to 8,192
of its bytes. FDI follows the remote indications of its slots (R56). A superframe without data bytes makes no frame (log entry 126). The frame leaves
the host port while that is UP; none leaves in L3 (Table 16.5). -/
def effTribFrameTx (n t sf : Nat) (s : State) : State :=
  let f := s.frame n
  let x := Tab.get {} f.tribs t
  let known := (tribCells n t sf s).all (fun c => (cellPairs sf c.2).all (fun p => (pairOf n c.1 p s).isSome))
  let sent := if Tab.get 0 f.tribSf t = sf + 1 then Tab.get 0 f.tribSent t else 0
  let rest := (tribData n t sf s).drop sent
  if !known ∨ rest = [] ∨ s.isSet .FLT_STATUS_SAFE then s
  else
    let part := rest.take 8192
    let fdi := (List.range 16).any (fun sc => (List.range 32).any (fun k =>
      slotTrib n sc k s == some t && bit (Tab.get 0 f.remote sc) (40 + k)))
    let flags := b2n (part.any (·.2)) + 2 * b2n fdi + 4 * b2n (decide (rest.length ≤ 8192))
    let new : Trib := { x with seqDown := (x.seqDown + 1) % 65536 }
    let s := s.setFrame n (fun f => { f with tribs := Tab.put {} f.tribs t new, tribSf := Tab.put 0 f.tribSf t (sf + 1),
                                             tribSent := Tab.put 0 f.tribSent t (sent + part.length) })
    s.when (s.link x.slot == lsUp) (fun s => s.emit (.tribFrame n t x.slot (tribFrame n t x flags (part.map (·.1)))))

def execTribFrameTx (n : Fin 4) (t : Fin 64) (sf : Nat) (s : State) : Host.Outcome State Fault Refusal :=
  .next (effTribFrameTx n t sf s)

/-- A frame's bytes take their place in SEQ order among those that wait (R71). -/
def seqInsert (seq : Nat) (bytes : List Nat) (buf : List (Nat × Nat)) : List (Nat × Nat) :=
  let before (p : Nat × Nat) : Bool := decide ((seq + 65536 - p.1) % 65536 < 32768)
  buf.takeWhile before ++ bytes.map (fun b => (seq, b)) ++ buf.dropWhile before

/-- TRIB_FRAME_RX (R71, R164, R165): a frame, without its FCS, that the receive filters of its host port steer to the time-slot
interchange: its bytes enter its tributary's 512 KiB buffer, or are dropped when it is full. -/
def effTribFrameRx (slot : Nat) (frame : List Nat) (s : State) : State :=
  let k := 14 + 4 * tagsOf (s.get .PORT_CFG_TPID_ALT slot) frame
  let n := byteAt frame (k + 1) / 64
  let t := byteAt frame (k + 1) % 64
  let bytes := frame.drop (k + 8)
  if s.link slot ≠ lsUp ∨ rxDest s slot (rxClassOf s slot frame) frame ≠ some 1 ∨ byteAt frame k ≠ 1 then s
  else
    let x := Tab.get {} (s.frame n).tribs t
    if 524288 < x.buffer.length + bytes.length then s.inc .LP_TRIB_OVERFLOW n
    else
      let new : Trib := { x with buffer := seqInsert (field frame (k + 2) 2) bytes x.buffer }
      s.setFrame n (fun f => { f with tribs := Tab.put {} f.tribs t new })

def execTribFrameRx (slot : Fin 32) (frame : List Nat) (s : State) : Host.Outcome State Fault Refusal :=
  .next (effTribFrameRx slot frame s)

/-- A settled second enters the bin in which it lies (R74): the current one, or the one that waits to be closed. -/
def countSecond (n subject kind : Nat) (unavailable : Bool) (s : State) (x : PmSecond) : State :=
  let k := binKey subject kind
  let cur := Tab.get {} (s.frame n).bins k
  let key := if cur.valid ∧ cur.start ≤ x.second then k else k + 63
  let b := Tab.get {} (s.frame n).bins key
  if !b.valid then s
  else
    let b : PmBin := if unavailable then { b with uas := b.uas + 1 }
      else { b with suspectS := b.suspectS + b2n x.suspectTime, es := b.es + b2n x.es, ses := b.ses + b2n x.ses, bbe := b.bbe + (if x.ses then 0 else x.uncorr),
                    cw := b.cw + x.cw, cwUncorr := b.cwUncorr + x.uncorr }
    s.setFrame n (fun f => { f with bins := Tab.put {} f.bins key b })

/-- Seconds settle as available or unavailable, in both bins. -/
def settleSeconds (n subject : Nat) (unavailable : Bool) (xs : List PmSecond) (s : State) : State :=
  xs.foldl (fun s x => countSecond n subject 1 unavailable (countSecond n subject 0 unavailable s x) x) s

/-- A bin in which service time was invalid is TIME_SUSPECT (R75). -/
def suspectBin (n subject kind : Nat) (s : State) : State :=
  let k := binKey subject kind
  let b := Tab.get {} (s.frame n).bins k
  if b.valid then
    let b : PmBin := { b with timeSuspect := true }
    s.setFrame n (fun f => { f with bins := Tab.put {} f.bins k b })
  else s

/-- A subject has a defect now (R74): no light; for a subcarrier its sync is lost, for the port (16) that of the control subcarrier. A subcarrier
that is disabled or IDLE carries nothing whose loss could be one: the model's choice (log entry 126). -/
def pmDefectNow (n subject : Nat) (s : State) : Bool :=
  !(s.isSet .LINE_STATUS_LIGHT n) ||
    (if subject = 16 then !(controlSync n s)
     else s.isSet .LINE_SC_ENABLED n subject && s.get .LINE_SC_FORMAT n subject != 3 && s.get .LINE_FRM_STATE n subject != 2)

/-- PM_SECOND (R74): a second of a subject (0 to 15 a subcarrier, 16 the port) is classed by the codewords counted in it, suspect ones left
out, and by the defects it contained; the runs of ten settle it. -/
def effPmSecond (n subject : Nat) (s : State) : State :=
  let f := s.frame n
  let (cw, u) := Tab.get (0, 0) f.pmCw subject
  let defect := f.pmDefect.contains subject || pmDefectNow n subject s
  let x : PmSecond := ⟨serviceTime s / uS, defect || decide (0 < u), defect || (decide (0 < cw) && decide (3 * cw ≤ 10 * u)), cw, u,
    !(serviceValid s)⟩
  let s := s.setFrame n (fun f =>
    { f with pmCw := Tab.put (0, 0) f.pmCw subject (0, 0), pmDefect := f.pmDefect.filter (· ≠ subject) })
  let s := s.when (!(serviceValid s)) (fun s => suspectBin n subject 1 (suspectBin n subject 0 s))
  let r := Tab.get {} (s.frame n).runs subject
  let put (r : PmRun) (s : State) : State := s.setFrame n (fun f => { f with runs := Tab.put {} f.runs subject r })
  if x.ses != r.unavailable then
    let run := r.run ++ [x]
    if 10 ≤ run.length then settleSeconds n subject (!r.unavailable) run (put ⟨!r.unavailable, []⟩ s)
    else put { r with run := run } s
  else settleSeconds n subject r.unavailable (r.run ++ [x]) (put { r with run := [] } s)

def execPmSecond (n : Fin 4) (subject : Fin 17) (s : State) : Host.Outcome State Fault Refusal := .next (effPmSecond n subject s)

/-- PM_BIN_OPEN (R75): at an aligned boundary the bin that runs ends and a new one opens; the old one is closed 10 s later. -/
def effPmBinOpen (n subject : Nat) (day : Bool) (s : State) : State :=
  let sec := serviceTime s / uS
  let len := if day then 86400 else 900
  let k := binKey subject (b2n day)
  let cur := Tab.get {} (s.frame n).bins k
  if sec % len ≠ s.get .LINE_FRM_CFG_PM_OFFSET n * 900 % len ∨ (cur.valid ∧ cur.start = sec) then s
  else
    let new : PmBin := { start := sec, valid := true, timeSuspect := !(serviceValid s) }
    let s := s.when cur.valid (fun s =>
      (s.setFrame n (fun f => { f with bins := Tab.put {} f.bins (k + 63) cur })).start (.binEnd n subject (b2n day)))
    s.setFrame n (fun f => { f with bins := Tab.put {} f.bins k new })

def execPmBinOpen (n : Fin 4) (subject : Fin 17) (day : Bool) (s : State) : Host.Outcome State Fault Refusal :=
  .next (effPmBinOpen n subject day s)

/-- PM_BIN_CLOSED (R75): 10 s after its end a bin is closed; the history shifts. -/
def effPmBinClosed (n subject : Nat) (day : Bool) (s : State) : State :=
  if s.expired (.binEnd n subject (b2n day)) (10 * uS) then
    closeEnded n subject (b2n day) s
  else s

def execPmBinClosed (n : Fin 4) (subject : Fin 17) (day : Bool) (s : State) : Host.Outcome State Fault Refusal :=
  .next (effPmBinClosed n subject day s)

end Sys2Proof.Machine
end

