-- ==== Sys2Proof/Machine/TreeEvt.lean ====
section
/-! DEFINITION. The tree messages and the terminal's other events ("Joining, ranging and staying on the tree"). -/
namespace Sys2Proof.Machine

open Sys2Proof

/-- How a type of tree message is handled (Table 3.3): broadcast or unicast, the states that act on it. -/
structure MsgRule where
  type : Nat
  bcast : Bool
  states : List Nat

/-- A tree message counted in MSG_UNKNOWN (R83). -/
def msgUnknown (a : FieldAt) (s : State) : State := s.inc .LP_MSG_UNKNOWN a.port

/-- The message of a function field (R55). -/
def msgOf (bs : List Nat) : TreeMsg :=
  { bcast := bit (field bs 0 2) 15, tid := field bs 0 2 % 512, epoch := field bs 2 2, type := byteAt bs 4, blen := byteAt bs 5,
    body := (bs.drop 6).take 54 }

/-- A message whose field is usable and whose check fits is taken when it is broadcast or carries the terminal's TID (R55);
in HOLDOVER nothing is received unless the terminal awaits its directory entry. -/
def taken (a : FieldAt) (m : TreeMsg) (s : State) : Bool :=
  (m.bcast || (s.isSet .LINE_TREE_STATE_IDENT_VALID a.port && m.tid == s.get .LINE_TREE_ID_TID a.port)) &&
    (s.tree a.port != tsHoldover || (s.term a.port).awaiting)

/-- The handling every tree message shares (R48, R49, R55, R83), at a function field of sectors 32 to 63 whose TYPE is among those of
the event: check, addressing, length byte, the epoch test, then `act`. -/
def onMessage (a : FieldAt) (types : Nat → Bool) (act : TreeMsg → State → State) (s : State) : State :=
  if a.sector < 32 ∨ 63 < a.sector then s
  else
    onField a (fun bs s =>
      let n := a.port
      let m := msgOf bs
      if !(types m.type) then s
      else if field bs 60 4 ≠ crc32c (bs.take 60) then s.inc .LSC_MSG_BADCHECK n a.sc
      else if m.type = 0 ∨ !(taken a m s) then s
      else if 54 < m.blen then msgUnknown a s
      else if !m.bcast ∧ m.epoch ≠ s.get .LINE_TREE_ID_EPOCH n then
        let s := s.inc .LP_MSG_STALE n
        if newerEpoch m.epoch (s.get .LINE_TREE_ID_EPOCH n) then depose n 4 m.epoch 0x0502 s else s
      else act m s) s

/-- A typed message: addressing, state, length and ranges as Tables 3.3 and 3.4 give them, else MSG_UNKNOWN (R83). -/
def onTyped (a : FieldAt) (r : MsgRule) (ok : TreeMsg → Bool) (act : TreeMsg → State → State) (s : State) : State :=
  onMessage a (· == r.type) (fun m s =>
    if m.bcast == r.bcast && r.states.contains (s.tree a.port) && ok m then act m s else msgUnknown a s) s

/-- Body symbols of a burst of P pairs (R17): rate index gives k and n of the inner code (Table 1.3). -/
def bodySymbols (pairs rate format : Nat) : Nat :=
  let k := [1, 2, 3, 5, 7].getD rate 1
  let n := k + 1
  ceilDiv (n * ceilDiv (10880 * pairs + 6) k) (4 * (format + 1))

/-- Symbols of a burst: ramps, preamble, delimiter, body (R63, Table 1.17). -/
def burstSymbols (ramp preamble pairs rate format : Nat) : Nat :=
  2 * (32 * (ramp + 1)) + preamble + 64 + bodySymbols pairs rate format

/-- Upstream superframe `up` of an EqD has begun (R86, R91). -/
def upBegun (n up eqd : Nat) (s : State) : Bool :=
  let f := s.frame n
  let d : Int := toSigned 25 ((f.sf + f.delta + 2 ^ 25 - up % 2 ^ 25) % 2 ^ 25)
  decide ((f.arrival : Int) - d * uSf + (eqd * uSym : Nat) ≤ s.now)

/-- DISCOVERY (R86): a candidate that neither sends a presence burst nor waits for an answer takes the window, at a start drawn
uniformly, unless it lets it pass (R87), the burst does not fit or the superframe has begun. -/
def effDiscovery (a : FieldAt) (drawR drawNonce : Nat) (s : State) : State :=
  let ok (m : TreeMsg) : Bool :=
    let prof := field m.body 14 2
    m.blen == 20 && bit prof 13 && decide (bits prof 1 3 ≤ 4)
  onTyped a ⟨1, true, [tsCandidate]⟩ ok (fun m s =>
    let n := a.port
    let t := s.term n
    let b := m.body
    if !(s.frame n).discoveryOpen ∨ (s.frame n).headerTaken.isNone ∨ t.presence.isSome ∨ t.nonce.isSome ∨ t.burst.isSome then s
    else if 0 < t.skip then s.setTerm n (fun t => { t with skip := t.skip - 1 })
    else
      let prof := field b 14 2
      let up := field b 0 4 % 2 ^ 25
      let width := field b 8 4
      let eqd := bits (field b 16 4) 4 24
      let l := burstSymbols (bits prof 8 5) 4096 1 (bits prof 1 3) (bits prof 0 1)
      if width < l ∨ upBegun n up eqd s then s
      else
        let r := drawR % ((width - l) / 256 + 1)
        let p : Presence := ⟨up, field b 4 4 % 2 ^ 21 + 256 * r, field b 12 2, prof, eqd, drawNonce % 2 ^ 32⟩
        s.setTerm n (fun t => { t with presence := some p })) s

def execDiscovery (at_ : FieldAt) (drawR drawNonce : Nat) (s : State) : Host.Outcome State Fault Refusal :=
  .next (effDiscovery at_ drawR drawNonce s)

/-- The identity that ASSIGN gives is taken (R80, R96). -/
def takeIdentity (n tid epoch eqdField delay : Nat) (s : State) : State :=
  let s := s.setAll [(.LINE_TREE_STATE_IDENT_VALID, 1), (.LINE_TREE_STATE_DIR_GRACE, 1), (.LINE_TREE_ID_TID, tid % 512),
    (.LINE_TREE_ID_EPOCH, epoch), (.LINE_TREE_RANGE_EQD, bits eqdField 4 24), (.LINE_TREE_RANGE_TRIM, eqdField % 16),
    (.LINE_TREE_RANGE_DN_DELAY, delay)] n
  resetUnicastReplay n (s.start (.dirGrace n))

/-- ASSIGN (R83, R87): accepted while the answer to the own nonce is awaited; one with the own serial that carries another nonce, or
that comes outside the wait, whatever the state, is ASSIGN_IGNORED. -/
def effAssign (a : FieldAt) (s : State) : State :=
  onMessage a (· == 2) (fun m s =>
    let n := a.port
    let b := m.body
    if !m.bcast ∨ m.blen ≠ 24 then msgUnknown a s
    else if field b 0 8 ≠ s.get .LINE_TREE_SERIAL_SERIAL n then (if s.tree n = tsCandidate then s else msgUnknown a s)
    else if s.tree n = tsCandidate ∧ (s.term n).nonce = some (field b 8 4) then
      toRanging n 0 (takeIdentity n (field b 12 2) (field b 14 2) (field b 16 4) (field b 20 4) (abandonPresence n s))
    else s.inc .LP_ASSIGN_IGNORED n) s

def execAssign (at_ : FieldAt) (s : State) : Host.Outcome State Fault Refusal := .next (effAssign at_ s)

/-- The superframe from which late values apply (R85): the given one, or the first without an accepted grant. -/
def applyFrom (n apply : Nat) (s : State) : Nat × Bool :=
  match (s.term n).lastUpSf with
  | some l => if sfReached l apply then ((l + 1) % 2 ^ 25, true) else (apply, false)
  | none => (apply, false)

/-- RANGE (R85, R88, R89): new values from APPLY_UP_SF; COMPLETE ends ranging, else the ranging timer starts again. -/
def effRange (a : FieldAt) (s : State) : State :=
  onTyped a ⟨3, false, [tsRanging, tsMember, tsDozing]⟩ (fun m => m.blen == 13) (fun m s =>
    let n := a.port
    let b := m.body
    let (ap, late) := applyFrom n (field b 8 4 % 2 ^ 25) s
    let v : RangeValues := ⟨bits (field b 0 4) 4 24, field b 0 4 % 16, field b 4 4, ap, (s.frame n).sf⟩
    let under := rangeUnder n s
    let s := (s.when late (fun s => s.inc .LP_RANGE_LATE n)).setTerm n
      (fun t => { t with rangeNext := t.rangeNext ++ [v], rangeBase := some under })
    if s.tree n ≠ tsRanging then s
    else if bit (field b 12 1) 0 then
      let o := s.term n
      let s := (setTree n tsMember 0x0506 s).raise 0x0506 [n, v.eqd, v.trim]
      if o.afterOutage then outageEnd n o.outageMs 1 s else s
    else s.start (.ranging n)) s

def execRange (at_ : FieldAt) (s : State) : Host.Outcome State Fault Refusal := .next (effRange at_ s)

/-- PROFILE (R84, R85). -/
def effProfile (a : FieldAt) (s : State) : State :=
  let count (m : TreeMsg) : Nat := field m.body 4 1
  onTyped a ⟨4, false, [tsRanging, tsMember, tsDozing, tsDark]⟩
    (fun m => decide (1 ≤ count m ∧ count m ≤ 16) && m.blen == 5 + 3 * count m) (fun m s =>
    let n := a.port
    let b := m.body
    let (ap, late) := applyFrom n (field b 0 4 % 2 ^ 25) s
    let es := (List.range (count m)).map (fun k => (field b (5 + 3 * k) 1 % 16, field b (6 + 3 * k) 2 % 2 ^ 14))
    let v : ProfileValues := ⟨es, ap, (s.frame n).sf⟩
    let under := profilesUnder n s
    (s.when late (fun s => s.inc .LP_RANGE_LATE n)).setTerm n
      (fun t => { t with profileNext := t.profileNext ++ [v], profileBase := some under })) s

def execProfile (at_ : FieldAt) (s : State) : Host.Outcome State Fault Refusal := .next (effProfile at_ s)

/-- DOZE_ACK (R99): a terminal that has asked for doze enters it; its transmit path is powered down. -/
def effDozeAck (a : FieldAt) (s : State) : State :=
  let p (m : TreeMsg) : Nat := field m.body 0 2
  onTyped a ⟨5, false, [tsMember]⟩ (fun m => m.blen == 2 && p m != 0) (fun m s =>
    let n := a.port
    if s.isSet .LINE_TREE_DOZE_REQUESTED n then
      let s := s.setAll [(.LINE_TREE_DOZE_REQUESTED, 0), (.LINE_TREE_DOZE_PERIOD, p m)] n
      let s := s.setTerm n (fun t => { t with txPowered := false, dozeMissed := false, wakePending := false })
      (setTree n tsDozing 0 s).start (.checkin n)
    else s) s

def execDozeAck (at_ : FieldAt) (s : State) : Host.Outcome State Fault Refusal := .next (effDozeAck at_ s)

/-- DEREGISTER (R80). -/
def effDeregister (a : FieldAt) (s : State) : State :=
  onTyped a ⟨6, false, [tsRanging, tsMember, tsDozing, tsDark]⟩ (fun m => m.blen == 0)
    (fun _ s => setTree a.port tsListen 0 (clearProfiles a.port s)) s

def execDeregister (at_ : FieldAt) (s : State) : Host.Outcome State Fault Refusal := .next (effDeregister at_ s)

/-- HOST_MESSAGE (R55, R83): TYPE 64 to 255 is queued for the host in any state but OFFLINE; TYPE 7 to 63 is reserved; TYPE 0 is empty, and
only its check is tested. -/
def effHostMessage (a : FieldAt) (s : State) : State :=
  onMessage a (fun type => decide (type = 0 ∨ 7 ≤ type)) (fun m s =>
    let n := a.port
    if m.type < 64 ∨ s.tree n = tsOffline then msgUnknown a s
    else if 256 ≤ (s.frame n).msgs.length then s.inc .LP_MSG_OVERFLOW n
    else
      let x : HostMsg := ⟨m.bcast, m.tid, m.epoch, m.type, m.body.take m.blen⟩
      s.setFrame n (fun f => { f with msgs := f.msgs ++ [x] })) s

def execHostMessage (at_ : FieldAt) (s : State) : Host.Outcome State Fault Refusal := .next (effHostMessage at_ s)

/-- RANGING_TIMEOUT (R89). Where the ranging followed an outage, OUTAGE_END with outcome 2, registration, ends it too: R82 has the event report
the outcome, and Table 3.2's row does not name it (log entry 126). -/
def effRangingTimeout (n : Nat) (s : State) : State :=
  if s.tree n = tsRanging ∧ s.expired (.ranging n) (s.get .LINE_TREE_TIMERS_RANGING_TIMEOUT n * 10 * uMs) then
    let o := s.term n
    let s := (setTree n tsListen 0 (clearIdentity n s)).raise 0x0507 [n]
    if o.afterOutage then outageEnd n o.outageMs 2 s else s
  else s

def execRangingTimeout (n : Fin 4) (s : State) : Host.Outcome State Fault Refusal := .next (effRangingTimeout n s)

/-- REREG_LIMIT_EXPIRY (R80). -/
def effReregLimitExpiry (n : Nat) (s : State) : State :=
  let ms := silentMs n s
  if (s.tree n = tsHoldover ∨ s.tree n = tsDark) ∧ (s.term n).silentSince.isSome ∧
      s.get .LINE_TREE_TIMERS_REREG_LIMIT n * 100 ≤ ms then
    outageEnd n ms 2 (setTree n tsListen 0 (clearIdentity n s))
  else s

def execReregLimitExpiry (n : Fin 4) (s : State) : Host.Outcome State Fault Refusal := .next (effReregLimitExpiry n s)

/-- RETURN_ENTRY_TIMEOUT (R82): 16 superframes of SYNC without the own entry. -/
def effReturnEntryTimeout (n : Nat) (s : State) : State :=
  if (s.term n).awaiting ∧ s.expired (.returnEntry n) (16 * uSf) then returnEntry n false s else s

def execReturnEntryTimeout (n : Fin 4) (s : State) : Host.Outcome State Fault Refusal := .next (effReturnEntryTimeout n s)

/-- ASSIGN_WAIT_EXPIRY (R87): no answer; b windows pass unused, b drawn up to min(2^c - 1, BACKOFF_MAX). -/
def effAssignWaitExpiry (n drawB : Nat) (s : State) : State :=
  if s.tree n = tsCandidate ∧ s.expired (.assignWait n) (s.get .LINE_TREE_TIMERS_ASSIGN_WAIT n * uSf) then
    let c := (s.term n).backoff
    let top := min (2 ^ (c + 1) - 1) (s.get .LINE_TREE_TIMERS_BACKOFF_MAX n)
    let s := ((s.stop (.assignWait n)).inc .LP_PRESENCE_UNANSWERED n).raise 0x0505 [n, c]
    s.setTerm n (fun t => { t with nonce := none, backoff := c + 1, skip := drawB % (top + 1) })
  else s

def execAssignWaitExpiry (n : Fin 4) (drawB : Nat) (s : State) : Host.Outcome State Fault Refusal :=
  .next (effAssignWaitExpiry n drawB s)

/-- DIR_GRACE_END (R96). -/
def effDirGraceEnd (n : Nat) (s : State) : State :=
  if s.expired (.dirGrace n) (16 * uSf) then (s.stop (.dirGrace n)).set .LINE_TREE_STATE_DIR_GRACE 0 n else s

def execDirGraceEnd (n : Fin 4) (s : State) : Host.Outcome State Fault Refusal := .next (effDirGraceEnd n s)

/-- DOZE_MISSED (R100): once, after 4 x PERIOD superframes without a used check-in grant. -/
def effDozeMissed (n : Nat) (s : State) : State :=
  if s.tree n = tsDozing ∧ !(s.term n).dozeMissed ∧ s.expired (.checkin n) (4 * s.get .LINE_TREE_DOZE_PERIOD n * uSf) then
    let since := (s.now - ((s.timer (.checkin n)).getD s.now)) / uSf
    ((s.setTerm n (fun t => { t with dozeMissed := true })).inc .LP_DOZE_CHECKIN_MISSED n).raise 0x0508 [n, since]
  else s

def execDozeMissed (n : Fin 4) (s : State) : Host.Outcome State Fault Refusal := .next (effDozeMissed n s)

/-- HOLDOVER_DILL_RESTART (R98): 20 ms after light returned without SYNC. -/
def effHoldoverDillRestart (n : Nat) (s : State) : State :=
  if s.tree n = tsHoldover ∧ !(controlSync n s) ∧ s.expired (.lightBack n) (20 * uMs) then
    startSearch n 0 (s.stop (.lightBack n))
  else s

def execHoldoverDillRestart (n : Fin 4) (s : State) : Host.Outcome State Fault Refusal := .next (effHoldoverDillRestart n s)

/-- BAY_TRIP (R102): a lit symbol outside every window, or too many lit symbols in an upstream superframe. -/
def execBayTrip (n : Fin 4) (duty : Bool) (s : State) : Host.Outcome State Fault Refusal := .next (bayTripOn n (b2n duty) s)

/-- BAY_SYNC_TRIP (R102): 80 ns after downstream loss. -/
def effBaySyncTrip (n : Nat) (s : State) : State :=
  match (s.term n).lossAt with
  | some a => if a + 80 * uNs ≤ s.now then bayTripOn n 2 (s.setTerm n (fun t => { t with lossAt := none })) else s
  | none => s

def execBaySyncTrip (n : Fin 4) (s : State) : Host.Outcome State Fault Refusal := .next (effBaySyncTrip n s)

/-- BAY_MCLK_CLEAR (R102, Table 3.8): MCLK has run for 1 ms. -/
def effBayMclkClear (n : Nat) (s : State) : State :=
  if s.expired (.mclkBack n) uMs then
    bayPresent n 3 false (clkBack [12] (s.stop (.mclkBack n)))
  else s

def execBayMclkClear (n : Fin 4) (s : State) : Host.Outcome State Fault Refusal := .next (effBayMclkClear n s)

/-- TX_DISABLE_FALL (R102, R457): the pin low trips Bay. -/
def effTxDisableFall (n : Nat) (s : State) : State := bayTripOn n 4 (bayPresent n 4 true (s.set .LINE_BAY_TX_DISABLE_PIN 0 n))

def execTxDisableFall (n : Fin 4) (s : State) : Host.Outcome State Fault Refusal := .next (effTxDisableFall n s)

/-- TX_DISABLE_RISE (R102): the pin high clears the cause's condition; the latch stays. -/
def execTxDisableRise (n : Fin 4) (s : State) : Host.Outcome State Fault Refusal :=
  .next (bayPresent n 4 false (s.set .LINE_BAY_TX_DISABLE_PIN 1 n))

end Sys2Proof.Machine
end

