-- ==== Sys2Proof/Machine/GrantEvt.lean ====
section
/-!
DEFINITION. Grants and the bursts they carry ("Superframes, sectors, bursts and tributaries", "Joining, ranging and staying
on the tree"): acceptance of a grant, the building of a burst body, the burst on the line, presence bursts.
-/
namespace Sys2Proof.Machine

open Sys2Proof

/-- U of a grant's upstream superframe (R91). -/
def upStart (n : Nat) (g : Grant) (s : State) : Int := arrivalOf n g.anchor s + g.offset

/-- The window of a grant in local time: its first instant and the instant after its last symbol (R63, R91). -/
def winFrom (n : Nat) (g : Grant) (s : State) : Int := upStart n g s + (g.start * uSym : Nat)
def winTo (n : Nat) (g : Grant) (s : State) : Int := upStart n g s + ((g.lastSym + 1) * uSym : Nat)

/-- A value of a message applies to upstream superframe k of a grant carried in superframe j (R92): it was carried in an earlier one, and k is
APPLY_UP_SF or later. -/
def appliesTo (j k apply carried : Nat) : Bool := sfReached k apply && decide (0 < sfDiff j carried)

/-- EqD and trim in force for upstream superframe k of a grant carried in superframe j (R85, R92), in local time units. -/
def offsetFor (n j k : Nat) (s : State) : Nat :=
  let v := ((s.term n).rangeNext.filter (fun r => appliesTo j k r.apply r.carried)).foldl (fun _ r => r) (rangeUnder n s)
  v.eqd * uSym + v.trim * 256

/-- The value of profile p in force for upstream superframe k of a grant carried in superframe j (R85): VALID in bit 13. -/
def profileFor (n p j k : Nat) (s : State) : Nat :=
  (((s.term n).profileNext.filter (fun v => appliesTo j k v.apply v.carried)).foldl overProfiles (profilesUnder n s)).getD p 0

/-- Symbols of a grant's burst (R63). -/
def grantSymbols (prof : Nat) (long : Bool) (length : Nat) : Nat :=
  burstSymbols (bits prof 8 5) (preambleOf prof long) length (bits prof 1 3) (bits prof 0 1)

/-- A profile value is usable (R31). -/
def profileOk (prof : Nat) : Bool := bit prof 13 && decide (bits prof 1 3 ≤ 4)

/-- The windows of two grants overlap in time (R94). -/
def overlaps (n : Nat) (a b : Grant) (s : State) : Bool :=
  decide (winFrom n a s < winTo n b s) && decide (winFrom n b s < winTo n a s)

/-- Of two overlapping grants, the first is used: the earlier START, or the lower AID (R94). -/
def prevails (n : Nat) (a b : Grant) (s : State) : Bool :=
  decide (winFrom n a s < winFrom n b s) || (winFrom n a s == winFrom n b s && decide (a.aid < b.aid))

/-- Bay's entry of a grant (R101). -/
def bayWindow (g : Grant) : BayWindow := ⟨g.anchor, g.start, g.lastSym⟩

/-- A window leaves Bay's table (R101). -/
def bayLeave (n : Nat) (g : Grant) (s : State) : State :=
  s.setTerm n (fun t => { t with windows := t.windows.filter (· ≠ bayWindow g) })

/-- The terminal leaves DOZING for MEMBER by a wake: its transmit path is powered (R80, R100). `cause` is that of STATE_CHANGE: 0, or the
opcode of TREE_WAKE (R107). -/
def wakeNow (n cause : Nat) (s : State) : State :=
  (setTree n tsMember cause ((wakeBy 3 s).stop (.checkin n))).setTerm n (fun t =>
    { t with txPowered := true, wakePending := false, dozeMissed := false })

/-- The line cluster of a port recovers, at any level, or is held in reset (R105). -/
def lineRecovers (n : Nat) (s : State) : Bool := decide (0 < s.get .FLT_RECOVERY_LEVEL n) || s.isSet .FLT_RECOVERY_HELD n

/-- The terminal's state permits a grant (R93, Table 3.1), and nothing else keeps the transmitter dark (R105). -/
def statePermits (n : Nat) (g : Grant) (s : State) : Bool :=
  !(darkHolds n s) && !s.safe && !(lineRecovers n s) &&
    (match s.tree n with
     | 3 => g.ranging
     | 4 => true
     | 5 => g.checkin || g.ranging
     | _ => false)

/-- An own grant is used or left unused (R93, R94, R101): the overlapping ones that it prevails over are left unused. -/
def useGrant (n : Nat) (g : Grant) (s : State) : State :=
  let t := s.term n
  if !(statePermits n g s) then s.inc .LP_GRANT_STATE n
  else if !(profileOk g.prof) then s.inc .LP_GRANT_BADPROF n
  else
    let fixed := (t.burst.toList ++ t.built).map (·.grant)
    let rivals := t.grants.filter (fun x => overlaps n g x s)
    if fixed.any (fun x => overlaps n g x s) ∨ rivals.any (fun x => !(prevails n g x s)) then s.inc .LP_GRANT_CONFLICT n
    else
      let s := rivals.foldl (fun s x => bayLeave n x (s.inc .LP_GRANT_CONFLICT n)) s
      let s := s.setTerm n (fun t => { t with grants := t.grants.filter (fun x => !(rivals.contains x)) })
      if 64 ≤ (s.term n).windows.length then s.inc .LP_GRANT_BAYFULL n
      else
        let last : Option Nat := match t.lastUpSf with
          | some l => if sfReached l g.upSf then some l else some g.upSf
          | none => some g.upSf
        s.setTerm n (fun t => { t with grants := t.grants ++ [g], windows := t.windows ++ [bayWindow g], lastUpSf := last })

/-- The grant of an entry (Table 2.7), received in the superframe in progress (R54, R91). -/
def grantOf (n entry : Nat) (s : State) : Grant :=
  let f := s.frame n
  let k := (f.sf + f.delta + 1) % 2 ^ 25
  let prof := profileFor n (bits entry 40 4) f.sf k s
  let start := bits entry 60 21
  let l := bits entry 44 16
  { aid := bits entry 97 6, scMask := bits entry 81 16, start := start, length := l, profile := bits entry 40 4,
    ranging := bit entry 39, longPreamble := bit entry 38, reportReq := bit entry 37, checkin := bit entry 36, carried := f.sf,
    anchor := (f.sf + 1) % 2 ^ 25, upSf := k, offset := offsetFor n f.sf k s, prof := prof,
    lastSym := start + grantSymbols prof (bit entry 38) l - 1 }

/-- GRANT (R53, R54, R93, R96, R100): one of the 64 slots of a subcarrier's sectors 9 to 24. A terminal in HOLDOVER receives it only while
it awaits its directory entry. -/
def effGrant (a : FieldAt) (slot : Nat) (s : State) : State :=
  onField (inSector a (9 + slot / 4)) (fun bs s =>
    let n := a.port
    let entry := ofBytes ((bs.drop (slot % 4 * 16)).take 16)
    if bits entry 44 16 = 0 then s
    else if bits entry 0 32 ≠ crc32c (toBytes 12 (bits entry 32 96)) then s.inc .LSC_GRANT_BADCHECK n a.sc
    else if !(s.isSet .LINE_TREE_STATE_IDENT_VALID n) ∨ bits entry 119 9 ≠ s.get .LINE_TREE_ID_TID n then s
    else if s.tree n = tsHoldover ∧ !(s.term n).awaiting then s
    else
      let g := grantOf n entry s
      if profileOk g.prof ∧ 1671167 < g.lastSym then s.inc .LP_GRANT_OVERRUN n
      else if bits entry 103 16 ≠ s.get .LINE_TREE_ID_EPOCH n then depose n 0 (bits entry 103 16) 0x0502 s
      else
        let s := s.inc .LP_GRANT_OWN n
        let s := if s.tree n = tsDozing ∧ !g.checkin ∧ !g.ranging then wakeNow n 0 s else s
        useGrant n g s) s

def execGrant (at_ : FieldAt) (slot : Fin 64) (s : State) : Host.Outcome State Fault Refusal := .next (effGrant at_ slot s)

/-- Occupancy reports (R95): up to 8 (AID, occupancy in 4 KiB units), the granted AID first, and the AIDs nonzero now. -/
def reports (n aid : Nat) (s : State) : List (Nat × Nat) × List Nat :=
  let f := s.frame n
  let occ (a : Nat) : Nat := min (ceilDiv (aidBytes s n a) 4096) 0xFFFFFFFF
  let order := (List.range 64).map (fun k => (f.lastAid + 1 + k) % 64)
  let busy := order.filter (fun a => a != aid && occ a != 0)
  let gone := f.lastReport.filter (fun a => a != aid && occ a == 0)
  let l := ((aid :: busy) ++ gone).take 8
  (l.map (fun a => (a, occ a)), (aid :: busy).filter (fun a => l.contains a && occ a != 0))

/-- Bytes that a grant's burst carries on each masked subcarrier after its header (R63). -/
def bodyCap (g : Grant) : Nat := 1285 * g.length - 64

/-- The burst of a grant before anything is put into it (R63, R65, R91). -/
def emptyBurst (n : Nat) (g : Grant) (s : State) : Burst :=
  let lead := 32 * (bits g.prof 8 5 + 1) + preambleOf g.prof g.longPreamble + 64
  { grant := g, bodyFrom := (winFrom n g s + (lead * uSym : Nat)).toNat, presence := none, placed := [], onAir := false, doze := false,
    flags := 0, seq := 0, reports := [],
    streams := ((List.range 16).filter (bit g.scMask ·)).map (fun sc => (⟨sc, bodyCap g, false, []⟩ : BodyStream)) }

/-- Where an envelope of `span` bytes stands in the first stream that can hold it from byte `from_` on: the stream's place and
the position. -/
def placeIn (span from_ : Nat) (spec : Bool) (xs : List BodyStream) : Option (Nat × Nat) :=
  let at_ (x : BodyStream) : Nat := max x.bytes.length (ceilDiv from_ 8 * 8)
  (xs.findIdx? (fun x => decide (at_ x + span + 8 * b2n (x.reserve || spec) ≤ x.cap))).map
    (fun i => (i, match xs[i]? with | some x => at_ x | none => 0))

/-- An envelope is put into a stream at a position, behind IDLE where it lies further on. -/
def putIn (i pos : Nat) (spec : Bool) (env : List Nat) (xs : List BodyStream) : List BodyStream :=
  xs.modify i (fun x => { x with reserve := x.reserve || spec, bytes := x.bytes ++ idleBytes (pos - x.bytes.length) ++ env })

/-- What becomes of a timed head at a body's building (R126, R127). -/
inductive Launch where
  | plain
  | wait
  | at_ (byte : Nat)
  | late
  | dropLate
  | dropNoTime
  deriving DecidableEq, Repr

/-- The launch of a copy in a burst (R126, R127): at the first boundary at or after L with room where the window contains L; where no used
burst does, it is late. A late frame whose flag lets it go takes the next used burst: this one where its window lies after L, the next one
where this window contains L but has no room. -/
def launchOf (n : Nat) (b : Burst) (xs : List BodyStream) (c : Copy) (s : State) : Launch :=
  let x := 32 + n
  if !(timedClass s x c.cls) then .plain
  else
    match (s.item c.item).launch with
    | none => .plain
    | some (l, lateOk) =>
      if !(serviceValid s) then .dropNoTime
      else
        let at_ := localOf (shortTime l (serviceTime s)) s
        if winTo n b.grant s ≤ (at_ : Int) then .wait
        else if (at_ : Int) < winFrom n b.grant s then (if lateOk then .late else .dropLate)
        else
          let k := ceilDiv (b.byteFrom at_ 0 (bodyCap b.grant)) 8 * 8
          if (placeIn (upSpan s n c) k false xs).isSome then .at_ k else if lateOk then .wait else .dropLate

/-- A copy of the granted AID fits the body, and a cluster can take its job (R259, R268). -/
def fitsBody (n : Nat) (b : Burst) (xs : List BodyStream) (c : Copy) (conf : Bool) (s : State) : Bool :=
  let room (k : Nat) : Bool := (placeIn (upSpan s n c) k (!conf) xs).isSome
  (!(aidSealed s n b.grant.aid) || (lineCluster s n).isSome) &&
    (match launchOf n b xs c s with
     | .plain => room 0
     | .at_ k => room k
     | .late => room 0
     | .wait => false
     | .dropLate => true
     | .dropNoTime => true)

/-- Payload rate of a burst's masked subcarriers, bytes per µs (R140). -/
def burstRate (b : Burst) : Nat :=
  let g := b.grant
  b.streams.length * (1285 * g.length) * uUs / max 1 (bodySymbols g.length (bits g.prof 1 3) (bits g.prof 0 1) * uSym)

/-- The envelope of a dequeued frame, stamped one-step with time t and then sealed (R122, R277, R280); none where it cannot be
sealed. -/
def frameEnvelope (n aid : Nat) (c : Copy) (t : Nat) (s : State) : State × Option (List Nat) :=
  let bs := stamped s (copyItem s c) t
  if !(aidSealed s n aid) then (s, some (envelope 1 0 aid bs))
  else
    let idx := s.get .CIPH_LINE_CFG_UP_KEY n
    if !(upKeyValid s n) then (noKey n 2 idx s, none)
    else if !(pnUsable s n) then (s, none)
    else
      let h := envHeader 2 idx aid (bs.length + 24)
      let (s, body) := sealFrame n c.item h bs s
      (s, some (h ++ pad8 body))

/-- A dequeued frame takes its place (R139, R146): its copy is being sent from its first byte's instant on, `timed` as its launch time has
it. -/
def placeFrame (n : Nat) (b : Burst) (c pos i timed : Nat) (spec : Bool) (xs : List BodyStream) (s : State) :
    State × List BodyStream × List Placed :=
  let cp := s.copy c
  let from_ := b.timeAt pos
  let t := txTime s (32 + n) from_
  match frameEnvelope n b.grant.aid cp t s with
  | (s, none) => (dropLone c .CIPHP_UP_NOPN n s, xs, [])
  | (s, some env) =>
    let s := s.setCopy c (fun k => { k with phase := 2, spec := spec, begunAt := from_, sentTime := t, timed := timed })
    let p : Placed := { copy := c, from_ := from_, to_ := b.timeAt (pos + env.length), stream := i, pos := pos, len := upLength s n cp }
    (s, putIn i pos spec env xs, [p])

/-- A chosen frame goes into the body, or is dropped as its launch time says (R127). -/
def takeFrame (n : Nat) (b : Burst) (c : Nat) (xs : List BodyStream) (s : State) : State × List BodyStream × List Placed :=
  let cp := s.copy c
  let x := 32 + n
  let spec := !(isConfirmed (s.item cp.item))
  let go (k timed : Nat) : State × List BodyStream × List Placed :=
    match placeIn (upSpan s n cp) k spec xs with
    | some (i, pos) => placeFrame n b c pos i timed spec xs s
    | none => (s, xs, [])
  match launchOf n b xs cp s with
  | .at_ k => go k 1
  | .late => go 0 2
  | .dropLate => (dropLone c .TIME_TIMED_LATE_DROP x s, xs, [])
  | .dropNoTime => (dropLone c .TIME_TIMED_NOTIME x s, xs, [])
  | _ => go 0 0

/-- Frames of the granted AID are dequeued while one fits (R259). The first argument bounds the number of frames. -/
def fillBody : Nat → Nat → Burst → List BodyStream → List Placed → State → State × List BodyStream × List Placed
  | 0, _, _, xs, placed, s => (s, xs, placed)
  | fuel + 1, n, b, xs, placed, s =>
    let d := 32 + n
    let aid := b.grant.aid
    let work := (workAt s d (burstRate b) (fun c _ conf => c.aid == aid && fitsBody n b xs c conf s)).filter
      (fun c => ancestor s c.q c.cls 2 == 64 * n + aid)
    match selectQueue d work s with
    | (none, s) => (s, xs, placed)
    | (some q, s) =>
      match dequeue q s with
      | (s, none) => (s, xs, placed)
      | (s, some c) =>
        let (s, xs, new) := takeFrame n b c xs s
        fillBody fuel n b xs (placed ++ new) s

/-- Overhead blocks of the port go into a burst of OH_AID, oldest first, where they fit (R73). -/
def putOverhead (n aid : Nat) (xs : List BodyStream) (s : State) : State × List BodyStream :=
  (s.frame n).ohWaiting.foldl (fun (p : State × List BodyStream) b =>
    let env := envelope 4 0 aid ([1, b.1] ++ toBytes 64 b.2)
    match placeIn env.length 0 false p.2 with
    | some (i, pos) =>
      (p.1.setFrame n (fun f => { f with ohWaiting := f.ohWaiting.drop 1 }), putIn i pos false env p.2)
    | none => p) (s, xs)

/-- The upstream page that a grant's superframe uses (R68). -/
def upPage (n : Nat) (g : Grant) (s : State) : Nat :=
  if (s.frame n).upSwapAt = some g.anchor then standbyPage n 1 s else s.get .LINE_TSI_UP_PAGE n

/-- The tributaries of the cells that an upstream page assigns, in entry order (R66, R70): those within the sectors of the format in force, and
with a slot on their subcarrier. -/
def upCells (n page : Nat) (s : State) : List Nat := ((assignedCells n 1 page s).filter (fun c => hasSlot n c.1 c.2 s)).map (·.2)

/-- The next cell of a tributary: up to 204 of its bytes, zero-filled (R67, R70). -/
def nextCell (n t : Nat) (s : State) : State × List Nat :=
  let x := Tab.get {} (s.frame n).tribs t
  let b := (x.buffer.take 204).map (·.2)
  let new : Trib := { x with buffer := x.buffer.drop 204 }
  (s.setFrame n (fun f => { f with tribs := Tab.put {} f.tribs t new }), b ++ List.replicate (204 - b.length) 0)

/-- A body on AID 63 while the page assigns cells (R70): the justification block, then the cells in entry order, cut over the
masked subcarriers in turn; what the superframe's last such burst cannot hold is counted. An entry of the block is VALID where the page
assigns its tributary a cell: R70 gives the layout and leaves VALID open (log entry 126). -/
def tribBody (n : Nat) (g : Grant) (xs : List BodyStream) (cells : List Nat) (s : State) : State × List BodyStream :=
  let f := s.frame n
  let done := if f.tribAnchor = g.anchor + 1 then f.tribCells else 0
  let cap := xs.foldl (fun a x => a + x.cap) 0
  let rest := cells.drop done
  let here := rest.take ((cap - 256) / 204)
  let later := rest.drop here.length
  let had (t : Nat) : Nat := (Tab.get ({} : Trib) f.tribs t).buffer.length
  let carried (t : Nat) : Nat := min (204 * (here.filter (· == t)).length) (had t)
  let just := (List.range 64).flatMap (fun t => toBytes 4 (t * 2 ^ 26 + b2n (cells.contains t) * 2 ^ 25 + carried t % 65536))
  let (s, data) := here.foldl (fun (q : State × List Nat) t =>
    let (s, b) := nextCell n t q.1
    (s, q.2 ++ b)) (s, [])
  let more := (s.term n).grants.any (fun x => x.aid == 63 && x.anchor == g.anchor)
  let short := (later.dedup).foldl (fun a t => a + min (204 * (later.filter (· == t)).length) (had t - carried t)) 0
  let s := if more then s else s.bump .LP_TRIB_SHORT short n
  let s := s.setFrame n (fun f => { f with tribAnchor := g.anchor + 1, tribCells := done + here.length })
  (s, (xs.foldl (fun (q : List BodyStream × List Nat) x =>
    (q.1 ++ [{ x with bytes := q.2.take x.cap ++ List.replicate (x.cap - q.2.length) 0 }], q.2.drop x.cap)) ([], just ++ data)).1)

/-- Reports of a burst's header, the AID last reported and the nonzero AIDs taking note of them (R95). -/
def takeReports (n aid : Nat) (s : State) : State × List (Nat × Nat) :=
  let (rs, nonzero) := reports n aid s
  let last := (((rs.drop 1).filter (fun r => decide (0 < r.2))).getLast?).map (·.1)
  (s.setFrame n (fun f => { f with lastReport := nonzero, lastAid := last.getD f.lastAid }), rs)

/-- The body of a used grant is built (R65, R70, R88, R95, R98, R99, R259): reports, then what the burst carries. -/
def buildBody (n : Nat) (g : Grant) (s : State) : State :=
  let t := s.term n
  let dozing := s.tree n == tsDozing
  let cells := upCells n (upPage n g s) s
  let trib := g.aid == 63 && !cells.isEmpty && !g.ranging
  let doze := s.isSet .LINE_TREE_DOZE_REQUESTED n || (dozing && !(t.wakePending && g.checkin))
  let report := g.reportReq || dozing
  let b := emptyBurst n g s
  let (s, rs) := if report then takeReports n g.aid s else (s, [])
  let (s, xs, placed) : State × List BodyStream × List Placed :=
    if g.ranging then (s, b.streams, [])
    else if trib then
      let (s, xs) := tribBody n g b.streams cells s
      (s, xs, [])
    else
      let (s, xs) := if g.aid = s.get .LINE_FRM_CFG_OH_AID n then putOverhead n g.aid b.streams s else (s, b.streams)
      fillBody (s.copies.length + 1) n b xs [] (bucketsNow s)
  let idle := xs.foldl (fun a x => a + (x.cap - x.bytes.length)) 0
  let s := if g.ranging ∨ trib then s else s.bump .SCHED_GRANT_IDLE_BYTES idle (32 + n)
  let b : Burst := { b with placed := placed, doze := doze, reports := rs, streams := xs,
                            flags := b2n g.ranging + 2 * b2n report + 4 * b2n doze + 8 * b2n trib }
  s.setTerm n (fun t => { t with built := t.built ++ [b] })

/-- The pending grant whose window opens first. -/
def nextGrant (n : Nat) (s : State) : Option Grant :=
  (s.term n).grants.foldl (fun b g => match b with
    | none => some g
    | some x => if winFrom n g s < winFrom n x s then some g else some x) none

/-- BURST_BODY_BUILD (R98): from 2 µs before ramp-up. A grant that the terminal's state permits no more is left unused (R93). -/
def effBurstBodyBuild (n : Nat) (s : State) : State :=
  match nextGrant n s with
  | none => s
  | some g =>
    if (s.now : Int) + (2 * uUs : Nat) < winFrom n g s then s
    else
      let s := s.setTerm n (fun t => { t with grants := t.grants.filter (· ≠ g) })
      if statePermits n g s then buildBody n g s else bayLeave n g (s.inc .LP_GRANT_STATE n)

def execBurstBodyBuild (n : Fin 4) (s : State) : Host.Outcome State Fault Refusal := .next (effBurstBodyBuild n s)

/-- The transmitter lights for a burst (R28, R63, R65): it takes the port's next number, its headers are made, and ramp-up begins. A presence
burst carries TID 0 and epoch 0 (R86). -/
def light (n : Nat) (b : Burst) (s : State) : State :=
  let g := b.grant
  let seq := (s.frame n).burstSeq
  let own (f : Fld) : Nat := if b.presence.isSome then 0 else s.get f n
  let head (rs : List (Nat × Nat)) : List Nat := burstHeader (own .LINE_TREE_ID_TID) (own .LINE_TREE_ID_EPOCH) g.aid b.flags seq rs
  let lit : Burst := { b with onAir := true, seq := seq, head := head b.reports, headRest := head [] }
  let s := s.setFrame n (fun f => { f with burstSeq := (f.burstSeq + 1) % 65536 })
  let s := (s.set .LINE_STATUS_TX_ACTIVE 1 n).set .LINE_TX_DARK 0 n
  (s.setTerm n (fun t => { t with burst := some lit, txPowered := true })).emit
    (.rampUp n g.upSf g.start g.scMask g.aid (s.get .LINE_TX_POWER n))

/-- BURST_START (R21, R88, R91, R93, R101, R105): ramp-up at U + START; without carrier lock, in a state that permits it no more, or without
its window in Bay's table, the grant is left unused and its frames are dropped. -/
def effBurstStart (n : Nat) (s : State) : State :=
  match (s.term n).built with
  | [] => s
  | b :: rest =>
    if (s.now : Int) < winFrom n b.grant s ∨ (s.term n).burst.isSome then s
    else
      let s := s.setTerm n (fun t => { t with built := rest })
      if !(s.isSet .LINE_STATUS_CARRIER_LOCK n) then giveUp n (bayLeave n b.grant (s.inc .LP_GRANT_UNLOCKED n)) b
      else if !(statePermits n b.grant s) ∨ !((s.term n).windows.contains (bayWindow b.grant)) then
        giveUp n (bayLeave n b.grant (s.inc .LP_GRANT_STATE n)) b
      else
        let s := light n b s
        let s := s.when b.grant.ranging (fun s => s.inc .LP_RANGING_BURSTS n)
        s.when b.grant.checkin (fun s => (s.start (.checkin n)).setTerm n (fun t => { t with dozeMissed := false }))

def execBurstStart (n : Fin 4) (s : State) : Host.Outcome State Fault Refusal := .next (effBurstStart n s)

/-- After a presence burst the candidate waits for its answer (R87). -/
def awaitAssign (n nonce : Nat) (s : State) : State :=
  if s.tree n = tsCandidate then (s.setTerm n (fun t => { t with nonce := some nonce })).start (.assignWait n) else s

/-- BURST_END (R28, R63, R87, R100, R101): ramp-down has ended, that of a truncated burst too: the window leaves Bay's table. The wait for an
answer follows a presence burst; a check-in burst sent with DOZE 0 ends the doze, any other powers the transmit path of a dozing terminal
down again (R99). -/
def effBurstEnd (n : Nat) (s : State) : State :=
  match (s.term n).burst with
  | none => s
  | some b =>
    let dark := b.cutTo.getD (winTo n b.grant s).toNat
    if s.now < dark then s
    else
      let s := b.placed.foldl (fun s p => countStart p.copy s) s
      let s := txDark n (burstOut n b dark (bayLeave n b.grant (s.setTerm n (fun t => { t with burst := none }))))
      match b.presence with
      | some nonce => awaitAssign n nonce s
      | none =>
        if s.tree n ≠ tsDozing then s
        else if b.grant.checkin ∧ !b.doze ∧ b.cutTo.isNone then wakeNow n (s.term n).wakeCause s
        else s.setTerm n (fun t => { t with txPowered := false })

def execBurstEnd (n : Fin 4) (s : State) : Host.Outcome State Fault Refusal := .next (effBurstEnd n s)

/-- The grant that a presence burst's window amounts to (R86): its upstream superframe anchored by the DELTA in force. -/
def presenceGrant (n : Nat) (p : Presence) (s : State) : Grant :=
  let f := s.frame n
  { aid := 0, scMask := p.scMask, start := p.start, length := 1, profile := 0, ranging := true, longPreamble := true,
    reportReq := false, checkin := false, carried := f.sf, anchor := (p.upSf + 2 ^ 25 - f.delta) % 2 ^ 25, upSf := p.upSf,
    offset := p.eqd * uSym, prof := p.profile, lastSym := p.start + grantSymbols p.profile true 1 - 1 }

/-- The envelope of a presence burst (R86): subtype 0x02, the terminal's serial, the nonce and four zeros. -/
def presenceOam (n nonce : Nat) (s : State) : List Nat :=
  envelope 4 0 0 (2 :: (toBytes 8 (s.get .LINE_TREE_SERIAL_SERIAL n) ++ toBytes 4 nonce ++ [0, 0, 0, 0]))

/-- PRESENCE_BURST (R86): the burst with the serial and the nonce begins. Without carrier lock the burst assembler starts none (R21), and none
while the transmitter must be dark (R105). -/
def effPresenceBurst (n : Nat) (s : State) : State :=
  match (s.term n).presence with
  | none => s
  | some p =>
    let g := presenceGrant n p s
    if (s.now : Int) < winFrom n g s ∨ (s.term n).burst.isSome then s
    else
      let s := s.setTerm n (fun t => { t with presence := none })
      if s.tree n ≠ tsCandidate ∨ darkHolds n s ∨ s.safe ∨ lineRecovers n s ∨ !(s.isSet .LINE_STATUS_CARRIER_LOCK n) then s
      else
        let b := emptyBurst n g s
        let b : Burst := { b with presence := some p.nonce, flags := 1,
                                  streams := putIn 0 0 false (presenceOam n p.nonce s) b.streams }
        let s := (light n b s).inc .LP_PRESENCE_SENT n
        s.setTerm n (fun t => { t with windows := t.windows ++ [bayWindow g] })

def execPresenceBurst (n : Fin 4) (s : State) : Host.Outcome State Fault Refusal := .next (effPresenceBurst n s)

/-- TX_POWER_UP (R99): in DOZING, 50 µs before a used grant. -/
def effTxPowerUp (n : Nat) (s : State) : State :=
  match nextGrant n s with
  | none => s
  | some g =>
    if s.tree n = tsDozing ∧ winFrom n g s ≤ (s.now : Int) + (50 * uUs : Nat) then
      s.setTerm n (fun t => { t with txPowered := true })
    else s

def execTxPowerUp (n : Fin 4) (s : State) : Host.Outcome State Fault Refusal := .next (effTxPowerUp n s)

end Sys2Proof.Machine
end

