-- ==== Sys2Proof/Machine/HostEvt.lean ====
section
/-!
DEFINITION. What happens on the host side ("Host lanes and Ethernet ports", and the timed queue of R125 to R127): lanes and
link states, training, fast retrain, low-power idle, wake, reception, pauses, transmission.
-/
namespace Sys2Proof.Machine

open Sys2Proof

/-- LANE_SIGNAL_CHANGE (R158): signal on every lane takes WAIT to TRAINING; its loss takes UP or FAST_RETRAIN to WAIT. Signal on a lane of a
port in WAIT is a wake source (Table 15.8). -/
def effLaneSignalChange (l : Nat) (present : Bool) (s : State) : State :=
  let s := s.set .LN_STATUS_SIGNAL (b2n present) l
  let s := s.when (!present) (fun s => s.set .LN_STATUS_CDR_LOCK 0 l)
  match slotOfLane s l with
  | none => s
  | some x =>
    let st := s.link x
    if present then (if st = lsWait then leaveWait x (wakeBy 0 s) else s)
    else if st = lsUp ∨ st = lsFrt then toWait x (linkDown x 0 s)
    else s

def execLaneSignalChange (lane : Fin 32) (present : Bool) (s : State) : Host.Outcome State Fault Refusal :=
  .next (effLaneSignalChange lane present s)

/-- Whether a lane's port trains: TRAIN_EN, and not in the near loopback of R414. -/
def trains (s : State) (x : Nat) : Bool :=
  s.isSet .PORT_CFG_TRAIN_EN x && !(bit (s.get .TEST_LOOP_LANE_PMA_NEAR (x / 8)) (x % 8))

/-- The precoding choice of a lane when training ends (R155): `measured`, the first post-cursor reaches half the main cursor. The receiver's
request goes to the partner in training; where the port does not train, neither side asks, so that AUTO and AS_REQUESTED are off (log
entry 128). -/
def fixPrecoding (l : Nat) (train measured : Bool) (s : State) : State :=
  let c := s.laneSet l
  let rx : Bool := match c.precodeRx with | 0 => train && measured | 1 => false | _ => true
  let tx : Bool := match c.precodeTx with | 0 => train && c.asked | 1 => false | _ => true
  (s.when train (fun s => s.emit (.precodeRequest l rx))).setAll [(.LN_STATUS_PRECODE_RX_ON, b2n rx), (.LN_STATUS_PRECODE_TX_ON, b2n tx), (.LN_STATUS_RX_READY, 1),
    (.LN_STATUS_PARTNER_READY, 1), (.LN_STATUS_CDR_LOCK, 1)] l

/-- TRAINING_DONE (R158): every lane is ready on both sides, or has CDR lock where training is off; the precoding choice is
fixed (R155), and PCS data goes out. `measured` is a bitmap of the port's lanes. -/
def effTrainingDone (x measured : Nat) (s : State) : State :=
  if s.link x = lsTraining then
    let s := (lanesOf s x).foldl (fun s l => fixPrecoding l (trains s x) (bit measured (l - x)) s) s
    laneOut x 2 ((setLink x lsAligning s).setHp x (fun h => { h with fromFrt := false }))
  else s

def execTrainingDone (x : Fin 32) (measured : Nat) (s : State) : Host.Outcome State Fault Refusal :=
  .next (effTrainingDone x measured s)

/-- TRAINING_TIMEOUT (R158): 500 ms in TRAINING; `ready` is the bitmap of lanes that were. -/
def effTrainingTimeout (x ready : Nat) (s : State) : State :=
  if s.link x = lsTraining ∧ (s.hp x).since + 500 * uMs ≤ s.now then
    let lanes := lanesOf s x
    let bad := lanes.foldl (fun m l => if bit ready (l - x) then m else m + 2 ^ (l - x)) 0
    toWait x (hostEvent x 0x0703 [x, bad] (s.inc .HP_TRAIN_FAIL x))
  else s

def execTrainingTimeout (x : Fin 32) (ready : Nat) (s : State) : Host.Outcome State Fault Refusal :=
  .next (effTrainingTimeout x ready s)

/-- The coefficients of a lane take values. -/
def setFfe (l : Nat) (cs : List Int) (s : State) : State :=
  let v (k : Nat) : Nat := ofSigned 8 (cs.getD k 0)
  s.setAll [(.LN_FFE_C_M3, v 0), (.LN_FFE_C_M2, v 1), (.LN_FFE_C_M1, v 2), (.LN_FFE_C_0, v 3), (.LN_FFE_C_P1, v 4), (.LN_FFE_C_P2, v 5)] l

/-- A partner's request is honoured (R159): it changes what it names and is counted; it is answered NOT_UPDATED, and UPDATED once it has
been applied. -/
def honour (l : Nat) (f : State → State) (s : State) : State :=
  ((f (s.emit (.tapAnswer l .notUpdated))).inc .HL_TAP_REQ_RX l).emit (.tapAnswer l .updated)

/-- TAP_REQUEST (R156, R159): a request of the partner is honoured, or answered AT_LIMIT, EQ_LIMIT or NOT_SUPPORTED without effect; one
that this lane's receiver sends is counted. -/
def effTapRequest (l : Nat) (r : TapReq) (s : State) : State :=
  match slotOfLane s l with
  | none => s
  | some x =>
    if s.link x ≠ lsTraining ∨ !(trains s x) then s
    else
      match r with
      | .sent => s.inc .HL_TAP_REQ_TX l
      | .precode on => honour l (fun s => s.setLane l (fun c => { c with asked := on })) s
      | .preset k =>
        if k = 1 then honour l (fun s => setFfe l ((s.laneSet l).ffe.map (toSigned 8)) s) s else s.emit (.tapAnswer l .notSupported)
      | .step tap up =>
        let cs := ffeNow s l
        let c := cs.getD tap 0 + (if up then 1 else -1)
        let (lo, hi) := tapRange.getD tap (0, 0)
        let new := cs.set tap c
        if c < lo ∨ hi < c then s.emit (.tapAnswer l .atLimit)
        else if !(ffeSum new) then s.emit (.tapAnswer l .eqLimit)
        else honour l (setFfe l new) s

def execTapRequest (lane : Fin 32) (r : TapReq) (s : State) : Host.Outcome State Fault Refusal := .next (effTapRequest lane r s)

/-- ALIGN_LOCK (R158): alignment-marker and FEC lock on every lane. -/
def effAlignLock (x : Nat) (s : State) : State := if s.link x = lsAligning then toUp x s else s

def execAlignLock (x : Fin 32) (s : State) : Host.Outcome State Fault Refusal := .next (effAlignLock x s)

/-- ALIGN_TIMEOUT (R158): 10 ms in ALIGNING; event LINK_DOWN, cause 6, after a fast retrain. -/
def effAlignTimeout (x : Nat) (s : State) : State :=
  if s.link x = lsAligning ∧ (s.hp x).since + 10 * uMs ≤ s.now then
    let s := s.when (s.hp x).fromFrt (fun s => hostEvent x 0x0702 [x, 6] s)
    toTraining x (s.setHp x (fun h => { h with fromFrt := false }))
  else s

def execAlignTimeout (x : Fin 32) (s : State) : Host.Outcome State Fault Refusal := .next (effAlignTimeout x s)

/-- LANE_LOCK_LOSS (R158, R160): CDR or alignment-marker lock lost with the signal kept. -/
def effLaneLockLoss (l : Nat) (s : State) : State :=
  match slotOfLane s l with
  | none => s
  | some x =>
    if !(s.isSet .LN_STATUS_SIGNAL l) then s
    else if s.link x = lsUp then
      let s := s.set .LN_STATUS_CDR_LOCK 0 l
      if s.isSet .PORT_CFG_FRT_EN x then toFrt x true (2 ^ (l - x)) s else toTraining x (linkDown x 1 s)
    else if s.link x = lsFrt then
      (s.set .LN_STATUS_CDR_LOCK 0 l).setHp x (fun h => { h with frtLost := withBit h.frtLost (l - x) true })
    else s

def execLaneLockLoss (lane : Fin 32) (s : State) : Host.Outcome State Fault Refusal := .next (effLaneLockLoss lane s)

/-- FRT_REQ_RECEIVED (R160): 8 consecutive REQ blocks on a lane of a partner in UP. -/
def effFrtReqReceived (l : Nat) (s : State) : State :=
  match slotOfLane s l with
  | none => s
  | some x => if s.link x = lsUp ∧ s.isSet .PORT_CFG_FRT_EN x then toFrt x false 0 s else s

def execFrtReqReceived (lane : Fin 32) (s : State) : Host.Outcome State Fault Refusal := .next (effFrtReqReceived lane s)

/-- FRT_PARTNER_RECOGNISED (R160): the partner's blocks are recognised on every lane; READY is sent. -/
def effFrtPartnerRecognised (x : Nat) (s : State) : State :=
  if s.link x = lsFrt then laneOut x 5 (s.setHp x (fun h => { h with frtSeen := true })) else s

def execFrtPartnerRecognised (x : Fin 32) (s : State) : Host.Outcome State Fault Refusal := .next (effFrtPartnerRecognised x s)

/-- FRT_DONE (R160): READY received on every lane and 64 further READY sent; PCS data resumes. -/
def effFrtDone (x : Nat) (s : State) : State :=
  if s.link x = lsFrt ∧ (s.hp x).frtSeen then
    let s := (lanesOf s x).foldl (fun s l => s.set .LN_STATUS_CDR_LOCK 1 l) s
    laneOut x 2 ((setLink x lsAligning s).setHp x (fun h => { h with fromFrt := true }))
  else s

def execFrtDone (x : Fin 32) (s : State) : Host.Outcome State Fault Refusal := .next (effFrtDone x s)

/-- FRT_NO_ANSWER (R160): the initiator has recognised no block of its partner 50 µs after its first REQ. -/
def effFrtNoAnswer (x : Nat) (s : State) : State :=
  let h := s.hp x
  if s.link x = lsFrt ∧ h.frtBegan ∧ !h.frtSeen ∧ h.frtSince + 50 * uUs ≤ s.now then frtFallback x 0 s else s

def execFrtNoAnswer (x : Fin 32) (s : State) : Host.Outcome State Fault Refusal := .next (effFrtNoAnswer x s)

/-- FRT_LIMIT_EXPIRY (R160): FRT_LIMIT passes before ALIGNING. -/
def effFrtLimitExpiry (x : Nat) (s : State) : State :=
  if s.link x = lsFrt ∧ (s.hp x).frtSince + s.get .PORT_CFG_FRT_LIMIT x * 100 * uUs ≤ s.now then frtFallback x 1 s else s

def execFrtLimitExpiry (x : Fin 32) (s : State) : Host.Outcome State Fault Refusal := .next (effFrtLimitExpiry x s)

/-- REMOTE_FAULT (R158): what the reconciliation sublayer of a port in UP receives; each change of Remote Fault raises its event. To Local
Fault it answers with Remote Fault, to Remote Fault with idle (log entry 127). -/
def effRemoteFault (x : Nat) (f : RsFault) (s : State) : State :=
  if s.link x = lsUp then
    let on := b2n (f = .remote)
    let changed : Bool := s.get .PORT_STATUS_REMOTE_FAULT x != on
    let s := s.setAll [(.PORT_STATUS_REMOTE_FAULT, on), (.PORT_STATUS_LOCAL_FAULT, b2n (f = .local_))] x
    let s := laneOut x (match f with | .none_ => 2 | .local_ => 8 | .remote => 9) s
    s.when changed (hostEvent x 0x0709 [x, on])
  else s

def execRemoteFault (x : Fin 32) (fault : RsFault) (s : State) : Host.Outcome State Fault Refusal := .next (effRemoteFault x fault s)

/-- The reconciliation sublayer of a port lets frames out: UP, with no fault received (R158, log entry 127). -/
def linkOk (s : State) (x : Nat) : Bool :=
  s.link x == lsUp && !(s.isSet .PORT_STATUS_REMOTE_FAULT x) && !(s.isSet .PORT_STATUS_LOCAL_FAULT x)

/-- LPI_TX_ENTRY (R162): every transmit queue empty and no pause frame due for TX_IDLE_US, or TX_IDLE_FRUGAL_US in FRUGAL. -/
def effLpiTxEntry (x : Nat) (s : State) : State :=
  let limit := (if s.mode = 4 then s.get .PORT_LPI_TX_IDLE_FRUGAL_US x else s.get .PORT_LPI_TX_IDLE_US x) * uUs
  let since := (s.hp x).idleSince
  if s.link x = lsUp ∧ s.isSet .PORT_LPI_TX_EN x ∧ !(s.isSet .PORT_STATUS_TX_LPI x) ∧ macIdle s x ∧ since ≠ 0 ∧
      since - 1 + limit ≤ s.now then
    (s.set .PORT_STATUS_TX_LPI 1 x).inc .HP_LPI_TX_ENTRIES x
  else s

def execLpiTxEntry (x : Fin 32) (s : State) : Host.Outcome State Fault Refusal := .next (effLpiTxEntry x s)

/-- LPI_RX_ENTRY (R162): the partner's LPI is accepted with RX_EN 1. -/
def effLpiRxEntry (x : Nat) (s : State) : State :=
  if s.link x = lsUp ∧ s.isSet .PORT_LPI_RX_EN x ∧ !(s.isSet .PORT_STATUS_RX_LPI x) then
    (s.set .PORT_STATUS_RX_LPI 1 x).inc .HP_LPI_RX_ENTRIES x
  else s

def execLpiRxEntry (x : Fin 32) (s : State) : Host.Outcome State Fault Refusal := .next (effLpiRxEntry x s)

/-- LPI_RX_EXIT (R162): the partner leaves LPI. -/
def effLpiRxExit (x : Nat) (s : State) : State := s.set .PORT_STATUS_RX_LPI 0 x

def execLpiRxExit (x : Fin 32) (s : State) : Host.Outcome State Fault Refusal := .next (effLpiRxExit x s)

/-- The MAC leaves transmit LPI: no frame starts for T_W_US (R162). -/
def leaveTxLpi (x : Nat) (s : State) : State :=
  let t := s.now + s.get .PORT_LPI_T_W_US x * uUs
  (s.set .PORT_STATUS_TX_LPI 0 x).setHp x (fun h => { h with holdUntil := t })

/-- TIMED_LPI_EXIT (R162): the MAC leaves LPI at L − T_W_US for a timed frame. -/
def effTimedLpiExit (x : Nat) (s : State) : State :=
  match timedHead s x with
  | some (_, l, _) =>
    if s.isSet .PORT_STATUS_TX_LPI x ∧ launchAhead s x l ≤ ((s.get .PORT_LPI_T_W_US x * uUs : Nat) : Int) then leaveTxLpi x s else s
  | none => s

def execTimedLpiExit (x : Fin 32) (s : State) : Host.Outcome State Fault Refusal := .next (effTimedLpiExit x s)

/-- WAKE_DETECT (R163): 10 µs of the wake pattern on a lane whose detector is armed and whose port is not beyond WAIT; a wake source of
STANDBY (Table 15.8). -/
def effWakeDetect (l : Nat) (s : State) : State :=
  let free : Bool := match slotOfLane s l with | some x => decide (s.link x ≤ lsWait) | none => true
  if s.isSet .LN_CFG_WAKE_DET l ∧ free then
    wakeBy 1 (hostEvent ((slotOfLane s l).getD l) 0x0708 [l] ((s.set .LN_STATUS_WAKE_SEEN 1 l).inc .HL_WAKE_DETECTS l))
  else s

def execWakeDetect (lane : Fin 32) (s : State) : Host.Outcome State Fault Refusal := .next (effWakeDetect lane s)

/-- WAKE_SEND_END (R163): the wake pattern has been sent for its time; the lanes send what their state says. -/
def effWakeSendEnd (x : Nat) (s : State) : State :=
  if s.isSet .PORT_STATUS_WAKE_SENDING x ∧ (s.hp x).wakeEnd ≤ s.now then
    laneOut x (s.link x) (s.set .PORT_STATUS_WAKE_SENDING 0 x)
  else s

def execWakeSendEnd (x : Fin 32) (s : State) : Host.Outcome State Fault Refusal := .next (effWakeSendEnd x s)

/-- FEC codewords that ended are counted as the decoder finishes them (R173). -/
def countFec (x : Nat) (f : FecCount) (s : State) : State :=
  let sum := f.lanes.foldl (fun a p => a + p.2) 0
  let s := ((s.bump .HP_FEC_CW_CORR f.corr x).bump .HP_FEC_CW_UNCORR f.uncorr x).bump .HP_FEC_SYM_CORR sum x
  f.lanes.foldl (fun s p => if p.1 < 32 then s.bump .HL_FEC_LANE_SYM p.2 p.1 else s) s

/-- FRAME_RX (R164 to R167, R173): a frame comes in on a port in UP, its timestamp point `part` times 62.5 ps into the TCLK cycle (R111). -/
def effFrameRx (x part : Nat) (bytes : List Nat) (fec : FecCount) (s : State) : State :=
  let s := countFec x fec s
  if s.link x = lsUp then receiveFrame x part bytes s else s

def execFrameRx (x : Fin 32) (part : Fin 20) (bytes : List Nat) (fec : FecCount) (s : State) : Host.Outcome State Fault Refusal :=
  .next (effFrameRx x part bytes fec s)

/-- A pause of q quanta at a port's MAC rate (R169). -/
def quantaTime (s : State) (x q : Nat) : Nat := q * 64 * uUs / max 1 (macRate s x)

/-- The watchdog fires for a priority (R170): override begins, and the priority's queues resume. -/
def fireWdog (x p : Nat) (s : State) : State :=
  let now := s.now
  let s := unpause x p (s.setHp x (fun h => { h with override_ := Tab.put 0 h.override_ p (now + 1) }))
  hostEvent x 0x0706 [x, p] (s.inc .HP_WDOG_FIRES x)

/-- A priority has been paused without a break for WDOG_MS (R170). -/
def wdogDue (s : State) (x p : Nat) : Bool :=
  let since := Tab.get 0 (s.hp x).pausedSince p
  s.get .PORT_PAUSE_WDOG_MS x != 0 && since != 0 && Tab.get 0 (s.hp x).override_ p == 0 &&
    decide (since - 1 + s.get .PORT_PAUSE_WDOG_MS x * uMs ≤ s.now)

/-- The override of a priority has lasted OVERRIDE_MS (R170). -/
def overrideDue (s : State) (x p : Nat) : Bool :=
  let since := Tab.get 0 (s.hp x).override_ p
  since != 0 && decide (since - 1 + s.get .PORT_PAUSE_OVERRIDE_MS x * uMs ≤ s.now)

/-- A received pause acts on one priority, with the coincidences of R170. -/
def pauseOne (x p q : Nat) (s : State) : State :=
  let s := if isPaused s x p then s else unpause x p s
  if q = 0 then unpause x p (endOverride x p 0 s)
  else
    let s := if wdogDue s x p then fireWdog x p s else if overrideDue s x p then endOverride x p 1 s else s
    if Tab.get 0 (s.hp x).override_ p ≠ 0 then s.inc .HP_PAUSE_IGNORED x
    else
      let till := s.now + quantaTime s x q
      let now := s.now
      showPause x (s.setHp x (fun h =>
        { h with pauseEnd := Tab.put 0 h.pauseEnd p till,
                 pausedSince := if Tab.get 0 h.pausedSince p = 0 then Tab.put 0 h.pausedSince p (now + 1) else h.pausedSince }))

/-- PAUSE_RX (R169, R170): a pause frame whose FCS has been checked, of the kind that MODE selects. -/
def effPauseRx (x : Nat) (pfc : Bool) (mask : Nat) (quanta : List Nat) (s : State) : State :=
  let mode := s.get .PORT_PAUSE_MODE x
  if s.link x ≠ lsUp ∨ !((mode = 1 ∧ !pfc) ∨ (mode = 2 ∧ pfc)) then s
  else
    let s := s.inc .HP_RX_PAUSE x
    if pfc then ((List.range 8).filter (bit mask)).foldl (fun s p => pauseOne x p (quanta.getD p 0 % 65536) s) s
    else pauseOne x 8 (quanta.getD 0 0 % 65536) s

def execPauseRx (x : Fin 32) (pfc : Bool) (mask : Nat) (quanta : List Nat) (s : State) : Host.Outcome State Fault Refusal :=
  .next (effPauseRx x pfc mask quanta s)

/-- PAUSE_EXPIRY (R169): a pause has run out. -/
def effPauseExpiry (x p : Nat) (s : State) : State :=
  if Tab.get 0 (s.hp x).pauseEnd p ≠ 0 ∧ !(isPaused s x p) then unpause x p s else s

def execPauseExpiry (x : Fin 32) (p : Fin 9) (s : State) : Host.Outcome State Fault Refusal := .next (effPauseExpiry x p s)

/-- PAUSE_REFRESH (R169): while a call stands, the pause frame is due again every REFRESH quanta. -/
def effPauseRefresh (x p : Nat) (s : State) : State :=
  let sent := Tab.get 0 (s.hp x).pauseSent p
  if s.isSet .SW_ING_PAUSE_CALL (x * 8 + p) ∧ sent ≠ 0 ∧ sent - 1 + quantaTime s x (s.get .PORT_PAUSE_REFRESH x) ≤ s.now then
    let s := s.setHp x (fun h => { h with pauseSent := Tab.put 0 h.pauseSent p 0 })
    markIdle x (pauseDue x (2 ^ p) (s.get .PORT_PAUSE_QUANTA x) s)
  else s

def execPauseRefresh (x : Fin 32) (p : Fin 8) (s : State) : Host.Outcome State Fault Refusal := .next (effPauseRefresh x p s)

/-- PAUSE_WDOG (R170): the priority has been paused for WDOG_MS without a break. -/
def effPauseWdog (x p : Nat) (s : State) : State := if isPaused s x p && wdogDue s x p then fireWdog x p s else s

def execPauseWdog (x : Fin 32) (p : Fin 9) (s : State) : Host.Outcome State Fault Refusal := .next (effPauseWdog x p s)

/-- PAUSE_WDOG_END (R170): the override has lasted OVERRIDE_MS. -/
def effPauseWdogEnd (x p : Nat) (s : State) : State := if overrideDue s x p then endOverride x p 1 s else s

def execPauseWdogEnd (x : Fin 32) (p : Fin 9) (s : State) : Host.Outcome State Fault Refusal := .next (effPauseWdogEnd x p s)

/-- A pause frame goes out (R168, R169): 802.3x carries one value for the port, zero once no call stands. -/
def sendPause (x mask quanta : Nat) (rest : List (Nat × Nat)) (s : State) : State :=
  let mode := s.get .PORT_PAUSE_MODE x
  let s := s.setSw (fun w => { w with pauseDue := Tab.put [] w.pauseDue x rest })
  if mode = 0 then markIdle x s
  else
    let any := (List.range 8).any (fun p => s.isSet .SW_ING_PAUSE_CALL (x * 8 + p))
    let q := if mode = 1 then (if any then s.get .PORT_PAUSE_QUANTA x else 0) else quanta
    let s := (s.inc .HP_TX_PAUSE x).emit (.pause x (if mode = 1 then 256 else mask) q)
    let now := s.now
    let gap := now + 84 * uUs / max 1 (macRate s x)
    let s := s.setHp x (fun h =>
      { h with holdUntil := gap,
               pauseSent := (List.range 8).foldl (fun t p => if bit mask p ∧ q ≠ 0 then Tab.put 0 t p (now + 1) else t) h.pauseSent })
    markIdle x s

/-- The copy that the MAC starts next (R168): the head of the highest-numbered queue that is not paused and whose head is
confirmed or may be sent ahead of its confirmation (R139); the timed queue goes by R125. -/
def nextTx (s : State) (x : Nat) : Option Nat :=
  ([7, 6, 5, 4, 3, 2, 1, 0] : List Nat).findSome? (fun c =>
    match Tab.get [] s.sw.mac (x * 8 + c) with
    | [] => none
    | k :: _ =>
      let cp := s.copy k
      let it := s.item cp.item
      let wire := cp.len + 4 + sysHdr s x
      let timed := s.isSet .TIME_PORT_TIMED_EN x && c == s.get .TIME_PORT_TIMED_Q x && it.launch.isSome
      if timed || queueStopped s x c || wouldBlockTimed s x (wire + 8) then none
      else if isConfirmed it || maySpeculate s it x c (macRate s x) wire then some k
      else none)

/-- MAC_TX_START (R168): a due pause frame first, then the next frame; an exit from LPI starts nothing for T_W_US (R162). -/
def effMacTxStart (x part : Nat) (s : State) : State :=
  if !(linkOk s x) ∨ s.safe ∨ Tab.get 0 s.sw.sending x ≠ 0 ∨ s.now < (s.hp x).holdUntil then s
  else
    let pauses := Tab.get [] s.sw.pauseDue x
    let next := nextTx s x
    if pauses = [] ∧ next = none then s
    else if s.isSet .PORT_STATUS_TX_LPI x then leaveTxLpi x s
    else
      match pauses with
      | (mask, q) :: rest => if wouldBlockTimed s x 72 then s else sendPause x mask q rest s
      | [] =>
        match next with
        | some k => startTx k 0 part s
        | none => s

def execMacTxStart (x : Fin 32) (part : Fin 20) (s : State) : Host.Outcome State Fault Refusal := .next (effMacTxStart x part s)

/-- TIMED_LAUNCH (R125, R127): the timed queue's head is evaluated: sent at L ± 4 ns, dropped without valid time, and late
dropped or sent at once by its LATE flag. -/
def effTimedLaunch (x part : Nat) (s : State) : State :=
  match timedHead s x with
  | none => s
  | some (k, l, lateOk) =>
    let busy : Bool := !(linkOk s x) || s.safe || Tab.get 0 s.sw.sending x != 0 || decide (s.now < (s.hp x).holdUntil) ||
      s.isSet .PORT_STATUS_TX_LPI x || queueStopped s x (s.get .TIME_PORT_TIMED_Q x) || !(isConfirmed (s.item (s.copy k).item))
    let a := launchAhead s x l
    let four : Int := ((4 * uNs : Nat) : Int)
    let drop (c : Ctr) : State := markIdle x (dropLone k c x s)
    if !(serviceValid s) then drop .TIME_TIMED_NOTIME
    else if four < a then s
    else if a < -four ∧ !lateOk then drop .TIME_TIMED_LATE_DROP
    else if busy then s
    else if a < -four then startTx k 2 part s
    else startTx k 1 part s

def execTimedLaunch (x : Fin 32) (part : Fin 20) (s : State) : Host.Outcome State Fault Refusal := .next (effTimedLaunch x part s)

/-- The two-step entry of a frame sent in full (R123, R124). -/
def postStamp (it : Item) (bs : List Nat) (c : Copy) (s : State) : State :=
  match it.stamp, ptpAt bs with
  | 3, some k =>
    postTwoStep c.dest (shortStamp c.sentTime) (field bs (k + 30) 2) (byteAt bs k % 16) (byteAt bs (k + 4)) s
  | _, _ => s

/-- FRAME_TX_END (R123, R173, R418): a confirmed frame has been sent in full: counted, stamped, taken by the egress
checkers; in a loopback it comes back in (R413). -/
def effFrameTxEnd (k : Nat) (s : State) : State :=
  let c := s.copy k
  let it := copyItem s c
  if c.phase ≠ 2 ∨ !(isConfirmed it) then s
  else
    let bs := stamped s it c.sentTime
    let s := checkFrame 1 c.dest bs (postStamp it bs c (countStart k s))
    let s := s.setCopy k (fun c => { c with phase := 3, sent := c.len + 4, ok := true, old := false })
    if c.dest < 32 then
      let x := c.dest
      let s := (s.inc .HP_TX_FRAMES x).bump .HP_TX_BYTES (c.len + 4) x
      let gap := s.now + 12 * uUs / max 1 (macRate s x)
      let s := (s.setSw (fun w => { w with sending := Tab.put 0 w.sending x 0 })).setHp x (fun h => { h with holdUntil := gap })
      let wire := txHeader s it c ++ bs
      let back := wire ++ toBytes 4 (crc32 wire)
      markIdle x (if hostLooped x s then receiveFrame x 0 back s else s)
    else s

def execFrameTxEnd (copy : Nat) (s : State) : Host.Outcome State Fault Refusal := .next (effFrameTxEnd copy s)

end Sys2Proof.Machine
end

