-- ==== Sys2Proof/Machine/ReleaseEvt.lean ====
section
/-! DEFINITION. The events of the release rule ("Speculation and the release rule"): confirmation, commit, deadline. -/
namespace Sys2Proof.Machine

open Sys2Proof

/-- The counter that a failure at a point counts (Table 5.1); `how` 0 or 1 tells the two counters of C1, C2 and C3 apart. -/
def failCounter (it : Item) (point how : Nat) : List (Ctr × Nat × Nat) :=
  match point, it.origin with
  | 1, .line n sc => [(if how = 1 then .LSC_SETTLE_DISCARD else .LSC_ENV_FAILED, n, sc)]
  | 2, .line n _ => [(if how = 1 then .CIPHP_RX_CIPHER_BUSY else .CIPHP_RX_AUTH_FAIL, n, 0)]
  | 3, .host x => [(if how = 1 then .HP_RX_TRUNC else .HP_RX_FCS_ERR, x, 0)]
  | 4, _ => [(.TBL_LOOKUP_ERR, 0, 0)]
  | _, _ => []

/-- What C3 says of a host frame (R171): a wrong FCS, or a block that the port marked (`pass` false), counts RX_FCS_ERR; else a frame too
short or too long counts RX_TRUNC. None: nothing is wrong. -/
def c3Fault (s : State) (it : Item) (pass : Bool) : Option Nat :=
  match it.origin with
  | .host x =>
    if it.failed.isSome ∨ !pass then some 0
    else if it.bytes.length + 4 < 64 ∨ s.get .PORT_CFG_MAX_FRAME x < it.bytes.length + 4 then some 1
    else none
  | _ => if pass then none else some 0

/-- The result of C1 for an item from a line port, as its pairs have been decoded (R14, R134): 0 none yet, 1 passed, 2 failed, 3 failed with a
suspect pair. -/
def c1Result (s : State) (it : Item) : Nat :=
  match it.origin with
  | .line n sc => pairsC1 n sc it.pairs s
  | _ => 1

/-- C1 has passed. An encrypted envelope that has waited for it, as under ASSURED, enters its cipher cluster (R137). -/
def passC1 (k : Nat) (s : State) : State :=
  let s := passPoint k 1 s
  let it := s.item k
  match it.origin with
  | .line n _ =>
    if it.enc.isSome ∧ it.points.contains 2 ∧ s.cipher.jobs.all (fun j => j.item ≠ k) then startLineJob n k s else s
  | _ => s

/-- The result of point 1 or 3, which item k waits for (R134, R142 to R145); points 2 and 4 give theirs with CIPHER_JOB_DONE and
HBM_READ_RETURN, and point 5 with POLICER_COMMIT. Copies past their deadline are taken back first. -/
def confirmPoint (k point : Nat) (pass : Bool) (s : State) : State :=
  if !((s.item k).points.contains point) then s
  else
    match point with
    | 1 =>
      let r := c1Result s (s.item k)
      if r = 0 then s
      else
        let s := lateCopies k s
        if r = 1 then passC1 k s else failItem k 1 (failCounter (s.item k) 1 (r - 2)) s
    | 3 =>
      let s := lateCopies k s
      match c3Fault s (s.item k) pass with
      | some h => failItem k 3 (failCounter (s.item k) 3 h) s
      | none => passPoint k 3 s
    | _ => s

/-- The subcarrier of an item that came on line port n, one on. -/
def lineRank (s : State) (n k : Nat) : Nat :=
  match (s.item k).origin with
  | .line m sc => if m = n then sc + 1 else 17
  | _ => 17

/-- CONFIRMATION (R134, R279): envelopes of a port confirmed in the same cycle are taken in ascending order of subcarrier. -/
def effConfirmation (k point : Nat) (pass : Bool) (s : State) : State :=
  let waiting (i : Instr) : Option Nat := match i with | .confirmation j p _ => if p.val = 1 then some j else none | _ => none
  let first := match point, (s.item k).origin with
    | 1, .line n _ => sooner s waiting (lineRank s n) (lineRank s n k)
    | _, _ => []
  confirmPoint k point pass (first.foldl (fun s j => confirmPoint j 1 true s) s)

def execConfirmation (k : Nat) (point : Fin 6) (pass : Bool) (s : State) : Host.Outcome State Fault Refusal :=
  .next (effConfirmation k point pass s)

/-- Two results of a policer agree in action and bytes (R135). -/
def sameResult (a b : PolResult) : Bool := a.action == b.action && (a.action != 1 || a.cls == b.cls)

/-- A copy of an item whose committed result differs (R135): retracted first if it has begun, and then sent again in full; it keeps its
place where its destination and class stand, and else leaves it, to be admitted anew where the item is still forwarded. -/
def recommitCopy (k : Nat) (d : Option Decision) (s : State) (c : Nat) : State :=
  let x := s.copy c
  let begun := isBegun s c
  let s := if begun then retractCopy c (s.inc .SWS_RETRACT_C5 x.dest) else s
  match d with
  | some (.forward dest cls ..) =>
    if dest = x.dest ∧ cls = x.cls then (if begun then requeue k c s else s)
    else if begun then readmit c s else dropCopy c s
  | _ => if begun then s else dropCopy c s

/-- An item was dropped at its admission or by a flush before its outcome was known: its policer had not dropped it. -/
def droppedEarly (it : Item) : Bool := it.decision == some .drop && it.base != some .drop && (it.provisional.map (·.action)) != some 2

/-- The committed result takes the place of the provisional one (R135). -/
def takeResult (k : Nat) (r : PolResult) (s : State) : State :=
  s.setItem k (fun i => applyPolicer r { i with decision := i.base, provisional := some r })

/-- The copies of an item that have not ended follow its decision (R135). -/
def recommit (k : Nat) (s : State) : State :=
  ((copiesOf s k).filter (fun c => decide ((s.copy c).phase < 3))).foldl (recommitCopy k (s.item k).decision) s

/-- An item's policer has given its committed result (R135): the item passes; one whose result differs takes the committed one first. -/
def settleResult (k : Nat) (r : PolResult) (s : State) : State :=
  if ((s.item k).provisional.map (sameResult r)).getD false ∨ droppedEarly (s.item k) then passPoint k 5 s
  else passPoint k 5 (recommit k (takeResult k r s))

/-- The commit of an item's policer (R135, R264): every other point has passed; the result is recomputed with its debit. -/
def policerCommitOne (s : State) (k : Nat) : State :=
  match (s.item k).policer with
  | some p =>
    if (s.item k).points ≠ [5] then s
    else
      let c := commitPolicer k p (lateCopies k s)
      settleResult k c.2 c.1
  | none => s

/-- POLICER_COMMIT (R135, R264): commits that wait in the same cycle are applied in ascending order of pipeline cluster; the lane of an item
within its cluster is the manual's only by name, and commits of one cluster follow the order of the queue (log entry 135). -/
def effPolicerCommit (k : Nat) (s : State) : State :=
  let waiting (i : Instr) : Option Nat := match i with | .policerCommit j => some j | _ => none
  (sooner s waiting (fun j => (s.item j).cluster) (s.item k).cluster ++ [k]).foldl policerCommitOne s

def execPolicerCommit (k : Nat) (s : State) : Host.Outcome State Fault Refusal := .next (effPolicerCommit k s)

/-- RETRACT_DEADLINE (R145): a point is still outstanding after the cycle of the deadline; the copy is retracted, counted, and sent again
once confirmed. -/
def effRetractDeadline (c : Nat) (s : State) : State := retractLate c s

def execRetractDeadline (copy : Nat) (s : State) : Host.Outcome State Fault Refusal := .next (effRetractDeadline copy s)

end Sys2Proof.Machine
end

