-- ==== Sys2Proof/Machine/TestCmd.lean ====
section
/-! DEFINITION. The test commands (family 0x0F of Table 13.6; "Test, loopback and perturbation"). -/
namespace Sys2Proof.Machine

open Sys2Proof

/-- The loopback fields of Table 17.6 by point. -/
def loopField (point : Nat) : Fld :=
  match point with
  | 0 => .TEST_LOOP_LINE_LINE_ELEC
  | 1 => .TEST_LOOP_LINE_LINE_DIGITAL
  | 2 => .TEST_LOOP_LANE_PMA_NEAR
  | 3 => .TEST_LOOP_LANE_PMA_FAR
  | 4 => .TEST_LOOP_LANE_PCS
  | _ => .TEST_LOOP_LANE_MAC

/-- The point of the same kind of instance that excludes it (R413): each port or lane holds at most one. -/
def loopOther (point : Nat) : Nat := if point % 2 = 0 then point + 1 else point - 1

/-- A loopback bit: word and bit of an instance. -/
def loopBit (point inst : Nat) (s : State) : Bool :=
  if point ≤ 1 then bit (s.get (loopField point)) inst else bit (s.get (loopField point) (inst / 8)) (inst % 8)

/-- The instance is at rest (R413): the terminal OFFLINE, or every port that uses the lane or stands in the slot DISABLED. -/
def loopRest (point inst : Nat) (s : State) : Bool :=
  if point ≤ 1 then s.tree inst == tsOffline
  else if point ≤ 3 then (List.range 32).all (fun x => !((lanesOf s x).contains inst) || s.link x == lsDisabled)
  else s.link inst == lsDisabled

def ciTestLoopback (point inst : Nat) : CmdInfo :=
  { op := 0x0F01, modes := .maint, parts := if point ≤ 1 then [inst % 4] else [12 + inst / 8 % 4] }

/-- TEST_LOOPBACK (R413, R416): in a line loopback Bay sees the looped drive outside every window and trips on WINDOW, a cause that
stays present until the loop is removed. -/
def effTestLoopback (q : Req) (point inst on : Nat) (s : State) : State :=
  single (ciTestLoopback point inst) q []
    (needs (fun s => 5 < point || on != 1 || (loopRest point inst s && !(loopBit (loopOther point) inst s))))
    (fun _ => firstErr [want 16 (inst < if point ≤ 1 then 4 else 32), want 24 (point ≤ 5), want 32 (on < 2)])
    (fun s =>
      let f := loopField point
      let b := on == 1
      if point ≤ 1 then
        let s := bayPresent inst 0 b (s.set f (withBit (s.get f) inst b))
        { state := if b then bayTripOn inst 0 s else s }
      else { state := s.set f (withBit (s.get f (inst / 8)) (inst % 8) b) (inst / 8) }) s

def execTestLoopback (q : Req) (point inst on : Nat) (s : State) : Host.Outcome State Fault Refusal :=
  .next (effTestLoopback q point inst on s)

def ciTestGen : CmdInfo := { op := 0x0F02, modes := .maint }

/-- The fields of a generator that a command writes (Table 17.7). -/
def genFields : List Fld :=
  [.TEST_GEN_RUN, .TEST_GEN_PATTERN, .TEST_GEN_SLOT, .TEST_GEN_POINT, .TEST_GEN_LEN_MIN, .TEST_GEN_LEN_MAX, .TEST_GEN_FILL,
    .TEST_GEN_CLASS, .TEST_GEN_RATE, .TEST_GEN_COUNT, .TEST_GEN_ETYPE, .TEST_GEN_DMAC]

/-- The last entry that leaves LEN_MAX below LEN_MIN (Table 17.7), as the offset of the byte that holds LEN_MAX. -/
def lenErr (es : List WEntry) (s : State) : Option Nat :=
  let t := wApplyAll s es
  (es.zipIdx.reverse.find? (fun p =>
    (wInstances [p.1]).any (fun g => decide (t.get .TEST_GEN_LEN_MAX g < t.get .TEST_GEN_LEN_MIN g)))).map (fun p => 16 + 24 * p.2 + 19)

/-- TEST_GEN (R417): a generator that starts begins with SEQ 1 and a full bucket (log entry 110). -/
def effTestGen (q : Req) (es : List WEntry) (s : State) : State :=
  single ciTestGen q [] anyState (fun s => firstErr [wErr (fun f => genFields.contains f) es, lenErr es s])
    (fun s =>
      let t := wApplyAll s es
      { state := (List.range 8).foldl (fun t g =>
          if t.isSet .TEST_GEN_RUN g && !(s.isSet .TEST_GEN_RUN g) then
            let new : Gen := { seq := 1, level := t.get .TEST_GEN_LEN_MAX g * 65536, since := t.now / uUs }
            { t with test := { t.test with gens := Tab.put {} t.test.gens g new } }
          else t) t }) s

def execTestGen (q : Req) (es : List WEntry) (s : State) : Host.Outcome State Fault Refusal := .next (effTestGen q es s)

def ciTestCheck : CmdInfo := { op := 0x0F03, modes := .maint }

/-- The counts of a checker (Table 17.8). -/
def chkCounts : List Fld := [.TEST_CHK_FRAMES, .TEST_CHK_BYTES, .TEST_CHK_LOST, .TEST_CHK_REORDER, .TEST_CHK_PAYLOAD_ERR]

/-- TEST_CHECK (R418, R419): RUN 1 sets a checker's counters to 0 and E to 1; the reply carries the counts as they stood before
(log entry 111). -/
def effTestCheck (q : Req) (es : List WEntry) (s : State) : State :=
  single ciTestCheck q [] anyState
    (fun _ => wErr (fun f => [Fld.TEST_CHK_RUN, .TEST_CHK_SLOT, .TEST_CHK_POINT, .TEST_CHK_GEN, .TEST_CHK_ETYPE].contains f) es)
    (fun s =>
      let t := wApplyAll s es
      let start := (wWrites .TEST_CHK_RUN es).filter (fun w => w.2.2 == 1)
      { state := start.foldl (fun t w =>
          let t := chkCounts.foldl (fun t f => t.set f 0 w.1) t
          { t with test := { t.test with expect := Tab.put 0 t.test.expect w.1 0 } }) t,
        data := formR ((wInstances es).map (fun c => (c, chkCounts.map (fun f => s.get f c)))) }) s

def execTestCheck (q : Req) (es : List WEntry) (s : State) : Host.Outcome State Fault Refusal := .next (effTestCheck q es s)

def ciTestPerturb : CmdInfo := { op := 0x0F04 }

/-- Instances of the rows of Table 15.6 (R420): the clocks of the row that have several. -/
def crossingInstances (row : Nat) : Nat := [4, 4, 1, 4, 4, 1, 1, 1, 1, 1, 1].getD row 0

/-- TARGET of a feature (Table 17.2). -/
def perturbTarget (feature target : Nat) : Bool :=
  if feature ≤ 1 then decide (target < 65536 ∧ target % 256 < crossingInstances (target / 256)) else decide (target < 16)

/-- VALUE of a feature (Table 17.2); BACKPRESSURE has none. -/
def perturbValue (feature value : Nat) : Bool :=
  match feature with
  | 0 => decide (value ≤ 7)
  | 1 => decide (value < 65536)
  | 2 => decide (value ≤ 250)
  | _ => decide (value ≤ 1000)

/-- A feature turns off: cause 0 command, 1 duration (R423). -/
def perturbEnd (f cause : Nat) (s : State) : State :=
  let s := (s.setAll [(.TEST_PERTURB_ON, 0), (.TEST_PERTURB_DURATION_MS, 0)] f).set .TEST_STATUS_PERTURB_ON
    (withBit (s.get .TEST_STATUS_PERTURB_ON) f false)
  ({ s with test := { s.test with ends := Tab.put 0 s.test.ends f 0 } }).raise 0x0F02 [f, cause]

/-- TEST_PERTURB (R420, R423). Outside MAINTENANCE every command needs a DURATION_MS. -/
def effTestPerturb (q : Req) (feature on prob target value durationMs : Nat) (s : State) : State :=
  single ciTestPerturb q [] anyState
    (fun s => firstErr [want 24 (feature ≤ 3), want 32 (on < 2), want 40 (prob < 256), want 48 (perturbTarget feature target),
      want 56 (perturbValue feature value), want 64 (if s.mode = 5 then durationMs < 65536 else 1 ≤ durationMs ∧ durationMs ≤ 60000)])
    (fun s =>
      if on = 0 then { state := if s.isSet .TEST_PERTURB_ON feature then perturbEnd feature 0 s else s }
      else
        let s := (s.setAll [(.TEST_PERTURB_ON, 1), (.TEST_PERTURB_PROB, prob), (.TEST_PERTURB_TARGET, target),
          (.TEST_PERTURB_VALUE, value), (.TEST_PERTURB_DURATION_MS, durationMs)] feature).set .TEST_STATUS_PERTURB_ON
            (withBit (s.get .TEST_STATUS_PERTURB_ON) feature true)
        let until_ := if durationMs = 0 then 0 else s.now + durationMs * uMs + 1
        { state := ({ s with test := { s.test with ends := Tab.put 0 s.test.ends feature until_ } }).raise 0x0F01
            [feature, target, value] }) s

def execTestPerturb (q : Req) (feature on prob target value durationMs : Nat) (s : State) : Host.Outcome State Fault Refusal :=
  .next (effTestPerturb q feature on prob target value durationMs s)

def ciTestInject : CmdInfo := { op := 0x0F05 }

/-- TARGET and BITS of an injection target (Table 17.3); LINE_CW names port and subcarrier as 256 n + i (log entry 53). -/
def injectTarget (target tgt : Nat) : Bool :=
  match target with
  | 0 => decide (tgt / 256 < 4 ∧ tgt % 256 < 16)
  | 1 => decide (tgt < 32)
  | _ => decide (tgt < 4)

def injectBits (target n : Nat) : Bool :=
  match target with
  | 1 => decide (n < 256)
  | 2 => decide (1 ≤ n ∧ n ≤ 2)
  | _ => decide (1 ≤ n ∧ n ≤ 32)

/-- TEST_INJECT (R421, R423). -/
def effTestInject (q : Req) (target tgt nbits count : Nat) (s : State) : State :=
  single ciTestInject q [] anyState
    (fun _ => firstErr [want 24 (target ≤ 3), want 32 (injectTarget target tgt), want 40 (injectBits target nbits),
      want 48 (1 ≤ count ∧ count ≤ 65535)])
    (fun s =>
      let s := (s.setAll [(.TEST_INJECT_TARGET, tgt), (.TEST_INJECT_BITS, nbits), (.TEST_INJECT_REMAINING, count)] target).set
        .TEST_STATUS_INJECT_ARMED (withBit (s.get .TEST_STATUS_INJECT_ARMED) target true)
      { state := s.raise 0x0F03 [target, tgt, count] }) s

def execTestInject (q : Req) (target tgt bits count : Nat) (s : State) : Host.Outcome State Fault Refusal :=
  .next (effTestInject q target tgt bits count s)

end Sys2Proof.Machine
end

