-- ==== Sys2Proof/Machine/TestEvt.lean ====
section
/-! DEFINITION. The test block's events: generated frames, the end of a Savory feature, the TAP. -/
namespace Sys2Proof.Machine

open Sys2Proof

/-- A generator's bucket as it stands (R417): refilled at every whole microsecond by RATE / 8,000 bytes, up to one frame. -/
def genLevel (g : Nat) (s : State) : Nat :=
  let x : Gen := Tab.get {} s.test.gens g
  min (x.level + (s.now / uUs - x.since) * (s.get .TEST_GEN_RATE g * 65536 / 8000)) (s.get .TEST_GEN_LEN_MAX g * 65536)

/-- The frame takes its point (R417): ingress on SLOT, or destination SLOT and CLASS with no lookup; a frame for a line port in
loopback comes back as an envelope of its stream, on a subcarrier that the manual does not name (R415, log entry 110). -/
def genInject (g : Nat) (bs : List Nat) (s : State) : State :=
  let x := s.get .TEST_GEN_SLOT g
  if s.get .TEST_GEN_POINT g = 0 then
    newItem { origin := .generator g, slot := x, bytes := bs, points := [0], since := s.now } s
  else if 32 ≤ x ∧ lineLooped (x - 32) s then
    deliverEnvelope (x - 32) (s.free % 16) (bs.length * 2 ^ 50 + 2 ^ 46) [] s.now 1 bs (checkFrame 1 x bs s.took)
  else
    let d : Decision := .forward x (s.get .TEST_GEN_CLASS g) 0 0 0 0
    newItem { origin := .generator g, slot := 40, bytes := bs, since := s.now, decision := some d, base := some d } s

/-- GEN_FRAME (R417): a running generator sends its next frame once its bucket holds it; after COUNT frames it clears RUN. The length is
drawn between LEN_MIN and LEN_MAX: a free value. -/
def effGenFrame (g : Nat) (s : State) : State :=
  let x : Gen := Tab.get {} s.test.gens g
  let lo := s.get .TEST_GEN_LEN_MIN g
  let len := lo + s.free % (s.get .TEST_GEN_LEN_MAX g - lo + 1)
  let level := genLevel g s
  if !(s.isSet .TEST_GEN_RUN g) ∨ level < len * 65536 then s
  else
    let bs := testFrame g x.seq len s
    let s := genInject g bs s.took
    let new : Gen := { seq := x.seq + 1, level := level - len * 65536, since := s.now / uUs }
    let s := { s with test := { s.test with gens := Tab.put {} s.test.gens g new } }
    let s := s.set .TEST_GEN_SENT (min (s.get .TEST_GEN_SENT g + 1) ctrMax) g
    s.when (s.get .TEST_GEN_COUNT g != 0 && decide (s.get .TEST_GEN_COUNT g ≤ x.seq)) (fun s => s.set .TEST_GEN_RUN 0 g)

def execGenFrame (g : Fin 8) (s : State) : Host.Outcome State Fault Refusal := .next (effGenFrame g s)

/-- PERTURB_OFF (R420, R423): a feature's duration has ended. -/
def effPerturbOff (f : Nat) (s : State) : State :=
  let e := Tab.get 0 s.test.ends f
  if s.isSet .TEST_PERTURB_ON f ∧ e ≠ 0 ∧ e - 1 ≤ s.now then perturbEnd f 1 s else s

def execPerturbOff (f : Fin 4) (s : State) : Host.Outcome State Fault Refusal := .next (effPerturbOff f s)

/-- The TAP takes the pins: the device is held in reset (R424). -/
def tapTake (s : State) : State :=
  let s := { s with test := { s.test with tapHold := true } }
  if s.get .PWR_STATE_STATE = 0 then s
  else
    let since := s.power.mainSince
    (deviceReset (s.setPower (fun w => { w with restart := 0 }))).setPower (fun w => { w with mainSince := min since 1 })

/-- TAP_INSTRUCTION (R424): IDCODE shifts out the identity; the instructions that drive pins hold the device in reset until the TAP
is reset, from which the boot begins. BYPASS and SAMPLE/PRELOAD change nothing. -/
def effTapInstruction (i : TapInstr) (s : State) : State :=
  match i with
  | .bypass => s
  | .samplePreload => s
  | .idcode => s.emit (.tdo (s.get .SYS_ID_IDCODE))
  | .extest => tapTake s
  | .extestPulse => tapTake s
  | .extestTrain => tapTake s
  | .clamp => tapTake s
  | .highz => tapTake s
  | .reset =>
    if !s.test.tapHold then s
    else
      let s := { s with test := { s.test with tapHold := false } }
      if s.pins.pwrGood ∧ s.pins.sysReset then effPowerGood s else s

def execTapInstruction (i : TapInstr) (s : State) : Host.Outcome State Fault Refusal := .next (effTapInstruction i s)

end Sys2Proof.Machine
end

