-- ==== Sys2Proof/Machine/TimeEvt.lean ====
section
/-! DEFINITION. What happens in the time unit: loss of a source, holdover, selection, 1PPS edges, pulses, and the read of
NOW_SUB. -/
namespace Sys2Proof.Machine

open Sys2Proof

/-- The loss time of a domain's source (R115). -/
def lossTime (d : Nat) (s : State) : Nat :=
  match s.get .TIME_DOMAIN_CFG_SOURCE d with
  | 5 => 2 * uS
  | 6 => 3 * uS / 2
  | 7 => 3 * uS / 2
  | _ => 16 * uSf

/-- DOMAIN_LOSS_TIME (R115): LOCKED or ACQUIRING, the loss time without a measurement (or 1 µs without 10 MHz edges): the
domain enters HOLDOVER with its frequency frozen. A TIME_ADJUST for it that waits at the same instant is taken first (R119). -/
def effDomainLossTime (d : Nat) (tenLost : Bool) (s : State) : State :=
  let st := s.get .TIME_DOMAIN_STATE_STATE d
  let adjusted : Bool := s.pending.any (fun i => match i with | .timeAdjust _ k _ _ _ => k == d | _ => false)
  if (st = 1 ∨ st = 2) ∧ !(adjusted && s.get .TIME_DOMAIN_CFG_SOURCE d == 5) ∧ (s.expired (.domainLoss d) (lossTime d s) ∨ (tenLost ∧ 6 ≤ s.get .TIME_DOMAIN_CFG_SOURCE d)) then
    let now := s.now
    setDomainState d 3 true ((s.setDomain d (fun x => { x with holdSince := now })).stop (.domainLoss d))
  else s

def execDomainLossTime (d : Fin 2) (tenLost : Bool) (s : State) : Host.Outcome State Fault Refusal :=
  .next (effDomainLossTime d tenLost s)

/-- HOLDOVER_LIMIT_EXPIRY (R115): the holdover age has reached HOLDOVER_LIMIT; the domain is no longer valid. -/
def effHoldoverLimitExpiry (d : Nat) (s : State) : State :=
  let age := (s.now - (s.domain d).holdSince) / uS
  if s.get .TIME_DOMAIN_STATE_STATE d = 3 ∧ s.get .TIME_DOMAIN_CFG_HOLDOVER_LIMIT d ≤ age then
    updateValid (s.set .TIME_DOMAIN_STATE_HOLDOVER_S (min age (2 ^ 20 - 1)) d)
  else s

def execHoldoverLimitExpiry (d : Fin 2) (s : State) : Host.Outcome State Fault Refusal := .next (effHoldoverLimitExpiry d s)

/-- REVERT_TIMER (R118): REVERTIVE, the secondary selected automatically, the primary LOCKED for 10 s without a break. -/
def effRevertTimer (s : State) : State :=
  match (s.domain 0).lockedSince with
  | some a =>
    if s.isSet .TIME_SEL_REVERTIVE ∧ s.time.autoSelected ∧ a + 10 * uS ≤ s.now then selectDomain 0 true s else s
  | none => s

def execRevertTimer (s : State) : Host.Outcome State Fault Refusal := .next (effRevertTimer s)

/-- SLEW_COMPLETE (R117): O has reached 0. -/
def effSlewComplete (s : State) : State :=
  if residualNow s = 0 then
    refreshTime ((s.setTime (fun t => { t with residual := 0 })).set .TIME_STATUS_SLEWING 0)
  else s

def execSlewComplete (s : State) : Host.Outcome State Fault Refusal := .next (effSlewComplete s)

/-- TIMEIN_OK of input i. -/
def timeinOk (i : Nat) : Fld := if i = 0 then .TIME_STATUS_TIMEIN0_OK else .TIME_STATUS_TIMEIN1_OK

/-- TIMEIN_PPS_EDGE (R114, R130): the edge is captured as a short timestamp of service time, and is a measurement of the
domain that takes this input once TIME_SET has given its seconds. The edge lies `part` times 62.5 ps into the TCLK cycle (R111); `freq` is what
the 10 MHz input says of the frequency. -/
def effTimeinPpsEdge (i part : Nat) (freq : Int) (tenOk : Bool) (s : State) : State :=
  let edge := s.now + part * uSym
  let st := shortStamp (serviceAt edge s)
  let s := s.setAll [(.TIME_TIMEIN_CAP_SEC_LO, st / 2 ^ 48), (.TIME_TIMEIN_CAP_NS, bits st 16 32), (.TIME_TIMEIN_CAP_FRAC, st % 65536)] i
  let s := s.when (s.isSet (timeinOk i) && !tenOk) (fun s => s.raise 0x0607 [i, 2])
  let s := (s.start (.timein i)).set (timeinOk i) (b2n tenOk)
  match domainOf (6 + i) s with
  | none => s
  | some d =>
    match (s.domain d).nextSec with
    | none => s.start (.domainLoss d)
    | some sec =>
      let e := timeDiff (timeAdd (sec * uS) (psUnits (s.getI .TIME_ADJ_VALUE (4 + i)))) (domainAt (s.domain d) edge)
      let s := measure d e (s.setDomain d (fun x => { x with nextSec := some ((sec + 1) % 2 ^ 48) }))
      let now := s.now
      s.setDomain d (fun x => { x with base := domainAt x now, since := now, freq := freq })

def execTimeinPpsEdge (i : Fin 2) (part : Fin 20) (freq : Int) (tenOk : Bool) (s : State) : Host.Outcome State Fault Refusal :=
  .next (effTimeinPpsEdge i part freq tenOk s)

/-- TIMEIN_LOST (R130): pulses absent for 1.5 s, or 10 MHz edges for 1 µs. -/
def effTimeinLost (i : Nat) (tenLost : Bool) (s : State) : State :=
  let pulses := s.expired (.timein i) (3 * uS / 2)
  if s.isSet (timeinOk i) ∧ (pulses ∨ tenLost) then
    (s.set (timeinOk i) 0).raise 0x0607 [i, b2n pulses + 2 * b2n tenLost]
  else s

def execTimeinLost (i : Fin 2) (tenLost : Bool) (s : State) : Host.Outcome State Fault Refusal :=
  .next (effTimeinLost i tenLost s)

/-- PULSE_RISE (R128): service time has reached the output's next point. -/
def effPulseRise (k : Nat) (s : State) : State :=
  let x := s.pulseOut k
  match x.next with
  | none => s
  | some p =>
    if s.isSet .TIME_PULSE_CTL_ENABLE k ∧ !x.high ∧ !s.safe ∧ p ≤ serviceTime s ∧
        (serviceValid s ∨ s.isSet .TIME_PULSE_CTL_FREE_RUN k) then
      let per := s.isSet .TIME_PULSE_CTL_PERIODIC k
      let s := s.when (!per) (fun s => s.set .TIME_PULSE_CTL_ARMED 0 k)
      let w := s.get .TIME_PULSE_WIDTH_WIDTH_NS k * uNs
      let nx := if per then some (p + s.get .TIME_PULSE_PERIOD_PERIOD_NS k * uNs) else none
      (s.setPulse k (fun x => { x with high := true, next := nx, fallAt := p + w })).emit (.pulse k true)
    else s

def execPulseRise (k : Fin 4) (s : State) : Host.Outcome State Fault Refusal := .next (effPulseRise k s)

/-- PULSE_FALL (R128): W after the rise; a schedule that waited takes effect. -/
def effPulseFall (k : Nat) (s : State) : State :=
  let x := s.pulseOut k
  if x.high ∧ x.fallAt ≤ serviceTime s then
    let s := (s.setPulse k (fun x => { x with high := false })).emit (.pulse k false)
    if x.waiting = [] then s else takePulse k x.waiting s
  else s

def execPulseFall (k : Fin 4) (s : State) : Host.Outcome State Fault Refusal := .next (effPulseFall k s)

/-- NOW_SUB_READ (R4, Tables 4.9 and 4.10): the read latches the seconds in NOW_SEC. -/
def execNowSubRead (s : State) : Host.Outcome State Fault Refusal :=
  .next (latchNow s)

end Sys2Proof.Machine
end

