-- ==== Sys2Proof/Machine/Dispatch.lean ====
section
/-! DEFINITION. The dispatcher of the model: one arm per row of the table, each one direct call of its meaning. -/
namespace Sys2Proof.Machine

open Sys2Proof

/-- The effect of a command or event on everything but the queue. -/
def exec (i : Instr) (s : State) : Host.Outcome State Fault Refusal :=
  match i with
  | .lineConfig q es => Sys2Proof.Machine.execLineConfig q es s
  | .lineSearch q n start => Sys2Proof.Machine.execLineSearch q n start s
  | .lineRelevel q n => Sys2Proof.Machine.execLineRelevel q n s
  | .lineSetCd q n cd => Sys2Proof.Machine.execLineSetCd q n cd s
  | .lineEqRestart q n mask => Sys2Proof.Machine.execLineEqRestart q n mask s
  | .lineScEnable q n mask => Sys2Proof.Machine.execLineScEnable q n mask s
  | .lineLaserRetune q n => Sys2Proof.Machine.execLineLaserRetune q n s
  | .lineCapture q n arm point sc trigger pre trigSf => Sys2Proof.Machine.execLineCapture q n arm point sc trigger pre trigSf s
  | .lineEvtEnable q es => Sys2Proof.Machine.execLineEvtEnable q es s
  | .lineFrameConfig q es => Sys2Proof.Machine.execLineFrameConfig q es s
  | .lineTsiWrite q es => Sys2Proof.Machine.execLineTsiWrite q es s
  | .lineTsiReady q n up => Sys2Proof.Machine.execLineTsiReady q n up s
  | .lineTribConfig q index slot dest source vlan => Sys2Proof.Machine.execLineTribConfig q index slot dest source vlan s
  | .lineOspConfig q es => Sys2Proof.Machine.execLineOspConfig q es s
  | .treeJoin q n => Sys2Proof.Machine.execTreeJoin q n s
  | .treeLeave q n => Sys2Proof.Machine.execTreeLeave q n s
  | .treeConfig q es => Sys2Proof.Machine.execTreeConfig q es s
  | .treeDoze q n => Sys2Proof.Machine.execTreeDoze q n s
  | .treeWake q n => Sys2Proof.Machine.execTreeWake q n s
  | .treeGuardRelease q n causes => Sys2Proof.Machine.execTreeGuardRelease q n causes s
  | .treeDark q n on => Sys2Proof.Machine.execTreeDark q n on s
  | .treeMsgRead q n => Sys2Proof.Machine.execTreeMsgRead q n s
  | .timeConfig q es => Sys2Proof.Machine.execTimeConfig q es s
  | .timeSelect q d => Sys2Proof.Machine.execTimeSelect q d s
  | .timeSet q d seconds => Sys2Proof.Machine.execTimeSet q d seconds s
  | .timeAdjust q d phase freq locked => Sys2Proof.Machine.execTimeAdjust q d phase freq locked s
  | .timePulse q es => Sys2Proof.Machine.execTimePulse q es s
  | .timeTsRead q x => Sys2Proof.Machine.execTimeTsRead q x s
  | .hostPortConfig q es => Sys2Proof.Machine.execHostPortConfig q es s
  | .hostPortEnable q slot on => Sys2Proof.Machine.execHostPortEnable q slot on s
  | .hostLaneConfig q es => Sys2Proof.Machine.execHostLaneConfig q es s
  | .hostRetrain q slot kind => Sys2Proof.Machine.execHostRetrain q slot kind s
  | .hostFilterWrite q es => Sys2Proof.Machine.execHostFilterWrite q es s
  | .hostPauseConfig q es => Sys2Proof.Machine.execHostPauseConfig q es s
  | .hostLpiConfig q es => Sys2Proof.Machine.execHostLpiConfig q es s
  | .hostWakeSend q slot us => Sys2Proof.Machine.execHostWakeSend q slot us s
  | .hostWdogClear q slot mask => Sys2Proof.Machine.execHostWdogClear q slot mask s
  | .hostEvtEnable q slot on => Sys2Proof.Machine.execHostEvtEnable q slot on s
  | .clsParserWrite q es => Sys2Proof.Machine.execClsParserWrite q es s
  | .clsProfileWrite q es => Sys2Proof.Machine.execClsProfileWrite q es s
  | .clsRuleWrite q clear es => Sys2Proof.Machine.execClsRuleWrite q clear es s
  | .clsRuleDelete q es => Sys2Proof.Machine.execClsRuleDelete q es s
  | .clsFlip q => Sys2Proof.Machine.execClsFlip q s
  | .clsStart q es => Sys2Proof.Machine.execClsStart q es s
  | .clsExcConfig q es => Sys2Proof.Machine.execClsExcConfig q es s
  | .tblEmInsert q tier replace es => Sys2Proof.Machine.execTblEmInsert q tier replace es s
  | .tblEmDelete q es => Sys2Proof.Machine.execTblEmDelete q es s
  | .tblEmFind q key => Sys2Proof.Machine.execTblEmFind q key s
  | .tblLpmInsert q replace es => Sys2Proof.Machine.execTblLpmInsert q replace es s
  | .tblLpmDelete q es => Sys2Proof.Machine.execTblLpmDelete q es s
  | .tblNhWrite q es => Sys2Proof.Machine.execTblNhWrite q es s
  | .tblEcmpWrite q es => Sys2Proof.Machine.execTblEcmpWrite q es s
  | .tblProfileWrite q es => Sys2Proof.Machine.execTblProfileWrite q es s
  | .tblLearnConfig q base hold => Sys2Proof.Machine.execTblLearnConfig q base hold s
  | .tblHitScan q first count => Sys2Proof.Machine.execTblHitScan q first count s
  | .tblSnapshot q => Sys2Proof.Machine.execTblSnapshot q s
  | .tblFilterRebuild q => Sys2Proof.Machine.execTblFilterRebuild q s
  | .swConfig q es => Sys2Proof.Machine.execSwConfig q es s
  | .swDestConfig q es => Sys2Proof.Machine.execSwDestConfig q es s
  | .swQueueConfig q es => Sys2Proof.Machine.execSwQueueConfig q es s
  | .swPortFlush q mask => Sys2Proof.Machine.execSwPortFlush q mask s
  | .swIngConfig q es => Sys2Proof.Machine.execSwIngConfig q es s
  | .swSageConfig q es => Sys2Proof.Machine.execSwSageConfig q es s
  | .bpmPoolConfig q es => Sys2Proof.Machine.execBpmPoolConfig q es s
  | .bpmAlloc q pool count => Sys2Proof.Machine.execBpmAlloc q pool count s
  | .bpmFree q es => Sys2Proof.Machine.execBpmFree q es s
  | .bpmHandoff q es => Sys2Proof.Machine.execBpmHandoff q es s
  | .bpmAudit q => Sys2Proof.Machine.execBpmAudit q s
  | .schedNodeWrite q es => Sys2Proof.Machine.execSchedNodeWrite q es s
  | .schedQueueMap q es => Sys2Proof.Machine.execSchedQueueMap q es s
  | .schedLenProfile q es => Sys2Proof.Machine.execSchedLenProfile q es s
  | .polWrite q reset es => Sys2Proof.Machine.execPolWrite q reset es s
  | .polColourMap q es => Sys2Proof.Machine.execPolColourMap q es s
  | .polCounterClear q es => Sys2Proof.Machine.execPolCounterClear q es s
  | .ciphKeyLoad q persist es => Sys2Proof.Machine.execCiphKeyLoad q persist es s
  | .ciphKeyDerive q persist es => Sys2Proof.Machine.execCiphKeyDerive q persist es s
  | .ciphKeyClear q slots => Sys2Proof.Machine.execCiphKeyClear q slots s
  | .ciphTreeSecret q port persist clear wrap blob => Sys2Proof.Machine.execCiphTreeSecret q port persist clear wrap blob s
  | .ciphLineKey q es => Sys2Proof.Machine.execCiphLineKey q es s
  | .ciphInbandKey q es => Sys2Proof.Machine.execCiphInbandKey q es s
  | .ciphSeal q slot iv src dst aad data => Sys2Proof.Machine.execCiphSeal q slot iv src dst aad data s
  | .ciphOpen q slot iv src dst aad data tag => Sys2Proof.Machine.execCiphOpen q slot iv src dst aad data tag s
  | .ciphCmac q slot src data verify => Sys2Proof.Machine.execCiphCmac q slot src data verify s
  | .ciphCacheFlush q => Sys2Proof.Machine.execCiphCacheFlush q s
  | .coreQueueConfig q es => Sys2Proof.Machine.execCoreQueueConfig q es s
  | .coreRingConfig q subBase subLog2 resBase resLog2 irq => Sys2Proof.Machine.execCoreRingConfig q subBase subLog2 resBase resLog2 irq s
  | .coreFnConfig q es => Sys2Proof.Machine.execCoreFnConfig q es s
  | .coreLimits q es => Sys2Proof.Machine.execCoreLimits q es s
  | .coreServiceList q => Sys2Proof.Machine.execCoreServiceList q s
  | .lockAcquire q owner lock waitUs => Sys2Proof.Machine.execLockAcquire q owner lock waitUs s
  | .lockRelease q owner lock => Sys2Proof.Machine.execLockRelease q owner lock s
  | .sysNop q => Sys2Proof.Machine.execSysNop q s
  | .sysIdentify q => Sys2Proof.Machine.execSysIdentify q s
  | .fence q fn set timeoutUs => Sys2Proof.Machine.execFence q fn set timeoutUs s
  | .sysMode q mode => Sys2Proof.Machine.execSysMode q mode s
  | .sysRestart q kind => Sys2Proof.Machine.execSysRestart q kind s
  | .sysWindowSet q fn pairs => Sys2Proof.Machine.execSysWindowSet q fn pairs s
  | .sysStateDump q addr cap => Sys2Proof.Machine.execSysStateDump q addr cap s
  | .sysCmdHistory q fn => Sys2Proof.Machine.execSysCmdHistory q fn s
  | .sysPeerConfig q es => Sys2Proof.Machine.execSysPeerConfig q es s
  | .sysPeerRole q role => Sys2Proof.Machine.execSysPeerRole q role s
  | .sysInbandConfig q es => Sys2Proof.Machine.execSysInbandConfig q es s
  | .pwrStateActive q => Sys2Proof.Machine.execPwrStateActive q s
  | .pwrStateStandby q => Sys2Proof.Machine.execPwrStateStandby q s
  | .pwrStateOff q => Sys2Proof.Machine.execPwrStateOff q s
  | .pwrIdleConfig q es => Sys2Proof.Machine.execPwrIdleConfig q es s
  | .pwrWakeConfig q es => Sys2Proof.Machine.execPwrWakeConfig q es s
  | .pwrDvfs q point => Sys2Proof.Machine.execPwrDvfs q point s
  | .pwrTelemetry q => Sys2Proof.Machine.execPwrTelemetry q s
  | .pwrBusConfig q es => Sys2Proof.Machine.execPwrBusConfig q es s
  | .storeImageWrite q offset data => Sys2Proof.Machine.execStoreImageWrite q offset data s
  | .storeImageVerify q => Sys2Proof.Machine.execStoreImageVerify q s
  | .storeImageActivate q => Sys2Proof.Machine.execStoreImageActivate q s
  | .storeImageConfirm q => Sys2Proof.Machine.execStoreImageConfirm q s
  | .storeInfo q => Sys2Proof.Machine.execStoreInfo q s
  | .storeScrub q => Sys2Proof.Machine.execStoreScrub q s
  | .storeFormat q mask => Sys2Proof.Machine.execStoreFormat q mask s
  | .storePageRead q dev page => Sys2Proof.Machine.execStorePageRead q dev page s
  | .storePageProgram q dev page data => Sys2Proof.Machine.execStorePageProgram q dev page data s
  | .storeBlockErase q dev block => Sys2Proof.Machine.execStoreBlockErase q dev block s
  | .evtRead q fromSeq max => Sys2Proof.Machine.execEvtRead q fromSeq max s
  | .evtHostRecord q code ws tail => Sys2Proof.Machine.execEvtHostRecord q code ws tail s
  | .evtFlush q => Sys2Proof.Machine.execEvtFlush q s
  | .fltReportRead q max => Sys2Proof.Machine.execFltReportRead q max s
  | .fltRecoverResume q => Sys2Proof.Machine.execFltRecoverResume q s
  | .fltRecoverWarm q => Sys2Proof.Machine.execFltRecoverWarm q s
  | .fltRecoverCold q => Sys2Proof.Machine.execFltRecoverCold q s
  | .fltRecoverCluster q part => Sys2Proof.Machine.execFltRecoverCluster q part s
  | .fltConfig q es => Sys2Proof.Machine.execFltConfig q es s
  | .testLoopback q point inst on => Sys2Proof.Machine.execTestLoopback q point inst on s
  | .testGen q es => Sys2Proof.Machine.execTestGen q es s
  | .testCheck q es => Sys2Proof.Machine.execTestCheck q es s
  | .testPerturb q feature on prob target value durationMs => Sys2Proof.Machine.execTestPerturb q feature on prob target value durationMs s
  | .testInject q target tgt bits count => Sys2Proof.Machine.execTestInject q target tgt bits count s
  | .registerWrite off value => Sys2Proof.Machine.execRegisterWrite off value s
  | .interruptClear off value => Sys2Proof.Machine.execInterruptClear off value s
  | .nowSubRead => Sys2Proof.Machine.execNowSubRead s
  | .cmdRingEnable fn => Sys2Proof.Machine.execCmdRingEnable fn s
  | .cmdRingDisable fn => Sys2Proof.Machine.execCmdRingDisable fn s
  | .cmdSubTailWrite fn v => Sys2Proof.Machine.execCmdSubTailWrite fn v s
  | .cmdCplHeadWrite fn v => Sys2Proof.Machine.execCmdCplHeadWrite fn v s
  | .workSubTailWrite fn v => Sys2Proof.Machine.execWorkSubTailWrite fn v s
  | .workResHeadWrite fn v => Sys2Proof.Machine.execWorkResHeadWrite fn v s
  | .learnHeadWrite value => Sys2Proof.Machine.execLearnHeadWrite value s
  | .peerRxTailWrite v => Sys2Proof.Machine.execPeerRxTailWrite v s
  | .mirrorAreaWrite rid seq op len checkOk => Sys2Proof.Machine.execMirrorAreaWrite rid seq op len checkOk s
  | .cmdSubmissionRead fn e h => Sys2Proof.Machine.execCmdSubmissionRead fn e h s
  | .commandCompletion => Sys2Proof.Machine.execCommandCompletion s
  | .inbandCommand slot frame => Sys2Proof.Machine.execInbandCommand slot frame s
  | .peldelWrite bytes => Sys2Proof.Machine.execPeldelWrite bytes s
  | .peldelRead => Sys2Proof.Machine.execPeldelRead s
  | .peldelAddressMatch => Sys2Proof.Machine.execPeldelAddressMatch s
  | .atomicCommit refused => Sys2Proof.Machine.execAtomicCommit refused s
  | .fenceReturn k => Sys2Proof.Machine.execFenceReturn k s
  | .mirrorRecordWrite => Sys2Proof.Machine.execMirrorRecordWrite s
  | .mirrorApply => Sys2Proof.Machine.execMirrorApply s
  | .peerPoll completed => Sys2Proof.Machine.execPeerPoll completed s
  | .peerLost => Sys2Proof.Machine.execPeerLost s
  | .functionLevelReset fn => Sys2Proof.Machine.execFunctionLevelReset fn s
  | .cfoMeasurement n offsetKHz => Sys2Proof.Machine.execCfoMeasurement n offsetKHz s
  | .deferredFineTune n => Sys2Proof.Machine.execDeferredFineTune n s
  | .fineTuneAck n => Sys2Proof.Machine.execFineTuneAck n s
  | .setFreqAck n => Sys2Proof.Machine.execSetFreqAck n s
  | .laserFreqStable n => Sys2Proof.Machine.execLaserFreqStable n s
  | .laserBusFail n => Sys2Proof.Machine.execLaserBusFail n s
  | .laserBusPoll n ok => Sys2Proof.Machine.execLaserBusPoll n ok s
  | .lossOfLight n dBm10 => Sys2Proof.Machine.execLossOfLight n dBm10 s
  | .lightReturn n dBm10 => Sys2Proof.Machine.execLightReturn n dBm10 s
  | .dillPassEnd n hyps => Sys2Proof.Machine.execDillPassEnd n hyps s
  | .applicationPoint n => Sys2Proof.Machine.execApplicationPoint n s
  | .settlingWindowEnd n sc => Sys2Proof.Machine.execSettlingWindowEnd n sc s
  | .pairDecoded n sc sf pair first last before word hard => Sys2Proof.Machine.execPairDecoded n sc sf pair first last before word hard s
  | .qualityUpdate n edges slots snr cd dgd => Sys2Proof.Machine.execQualityUpdate n edges slots snr cd dgd s
  | .captureTrigger n line => Sys2Proof.Machine.execCaptureTrigger n line s
  | .captureDone n t0 samples => Sys2Proof.Machine.execCaptureDone n t0 samples s
  | .superframeStart n drift => Sys2Proof.Machine.execSuperframeStart n drift s
  | .upSuperframeStart n anchor => Sys2Proof.Machine.execUpSuperframeStart n anchor s
  | .sectorHeader n sc header first last gain others => Sys2Proof.Machine.execSectorHeader n sc header first last gain others s
  | .superframeHeader at_ => Sys2Proof.Machine.execSuperframeHeader at_ s
  | .directoryEntry at_ slot => Sys2Proof.Machine.execDirectoryEntry at_ slot s
  | .grant at_ slot => Sys2Proof.Machine.execGrant at_ slot s
  | .discovery at_ drawR drawNonce => Sys2Proof.Machine.execDiscovery at_ drawR drawNonce s
  | .assign at_ => Sys2Proof.Machine.execAssign at_ s
  | .range at_ => Sys2Proof.Machine.execRange at_ s
  | .profile at_ => Sys2Proof.Machine.execProfile at_ s
  | .dozeAck at_ => Sys2Proof.Machine.execDozeAck at_ s
  | .deregister at_ => Sys2Proof.Machine.execDeregister at_ s
  | .hostMessage at_ => Sys2Proof.Machine.execHostMessage at_ s
  | .remoteIndications at_ => Sys2Proof.Machine.execRemoteIndications at_ s
  | .justificationCount at_ slot => Sys2Proof.Machine.execJustificationCount at_ slot s
  | .overheadBlockRx at_ channel => Sys2Proof.Machine.execOverheadBlockRx at_ channel s
  | .ospBlockOut k => Sys2Proof.Machine.execOspBlockOut k s
  | .ospBlockIn k block => Sys2Proof.Machine.execOspBlockIn k block s
  | .envelope n sc sf cell offset header body => Sys2Proof.Machine.execEnvelope n sc sf cell offset header body s
  | .tribFrameTx n t sf => Sys2Proof.Machine.execTribFrameTx n t sf s
  | .tribFrameRx slot frame => Sys2Proof.Machine.execTribFrameRx slot frame s
  | .pmSecond n subject => Sys2Proof.Machine.execPmSecond n subject s
  | .pmBinOpen n subject day => Sys2Proof.Machine.execPmBinOpen n subject day s
  | .pmBinClosed n subject day => Sys2Proof.Machine.execPmBinClosed n subject day s
  | .burstBodyBuild n => Sys2Proof.Machine.execBurstBodyBuild n s
  | .burstStart n => Sys2Proof.Machine.execBurstStart n s
  | .burstEnd n => Sys2Proof.Machine.execBurstEnd n s
  | .presenceBurst n => Sys2Proof.Machine.execPresenceBurst n s
  | .txPowerUp n => Sys2Proof.Machine.execTxPowerUp n s
  | .rangingTimeout n => Sys2Proof.Machine.execRangingTimeout n s
  | .reregLimitExpiry n => Sys2Proof.Machine.execReregLimitExpiry n s
  | .returnEntryTimeout n => Sys2Proof.Machine.execReturnEntryTimeout n s
  | .assignWaitExpiry n drawB => Sys2Proof.Machine.execAssignWaitExpiry n drawB s
  | .dirGraceEnd n => Sys2Proof.Machine.execDirGraceEnd n s
  | .dozeMissed n => Sys2Proof.Machine.execDozeMissed n s
  | .holdoverDillRestart n => Sys2Proof.Machine.execHoldoverDillRestart n s
  | .bayTrip n duty => Sys2Proof.Machine.execBayTrip n duty s
  | .baySyncTrip n => Sys2Proof.Machine.execBaySyncTrip n s
  | .bayMclkClear n => Sys2Proof.Machine.execBayMclkClear n s
  | .txDisableFall n => Sys2Proof.Machine.execTxDisableFall n s
  | .txDisableRise n => Sys2Proof.Machine.execTxDisableRise n s
  | .domainLossTime d tenLost => Sys2Proof.Machine.execDomainLossTime d tenLost s
  | .holdoverLimitExpiry d => Sys2Proof.Machine.execHoldoverLimitExpiry d s
  | .revertTimer => Sys2Proof.Machine.execRevertTimer s
  | .slewComplete => Sys2Proof.Machine.execSlewComplete s
  | .timeinPpsEdge x part freq tenOk => Sys2Proof.Machine.execTimeinPpsEdge x part freq tenOk s
  | .timeinLost x tenLost => Sys2Proof.Machine.execTimeinLost x tenLost s
  | .pulseRise k => Sys2Proof.Machine.execPulseRise k s
  | .pulseFall k => Sys2Proof.Machine.execPulseFall k s
  | .timedLaunch x part => Sys2Proof.Machine.execTimedLaunch x part s
  | .timedLpiExit x => Sys2Proof.Machine.execTimedLpiExit x s
  | .confirmation k point pass => Sys2Proof.Machine.execConfirmation k point pass s
  | .policerCommit k => Sys2Proof.Machine.execPolicerCommit k s
  | .retractDeadline copy => Sys2Proof.Machine.execRetractDeadline copy s
  | .drainPoint => Sys2Proof.Machine.execDrainPoint s
  | .laneSignalChange lane present => Sys2Proof.Machine.execLaneSignalChange lane present s
  | .trainingDone x measured => Sys2Proof.Machine.execTrainingDone x measured s
  | .trainingTimeout x ready => Sys2Proof.Machine.execTrainingTimeout x ready s
  | .tapRequest lane r => Sys2Proof.Machine.execTapRequest lane r s
  | .alignLock x => Sys2Proof.Machine.execAlignLock x s
  | .alignTimeout x => Sys2Proof.Machine.execAlignTimeout x s
  | .laneLockLoss lane => Sys2Proof.Machine.execLaneLockLoss lane s
  | .frtReqReceived lane => Sys2Proof.Machine.execFrtReqReceived lane s
  | .frtPartnerRecognised x => Sys2Proof.Machine.execFrtPartnerRecognised x s
  | .frtDone x => Sys2Proof.Machine.execFrtDone x s
  | .frtNoAnswer x => Sys2Proof.Machine.execFrtNoAnswer x s
  | .frtLimitExpiry x => Sys2Proof.Machine.execFrtLimitExpiry x s
  | .remoteFault x fault => Sys2Proof.Machine.execRemoteFault x fault s
  | .lpiTxEntry x => Sys2Proof.Machine.execLpiTxEntry x s
  | .lpiRxEntry x => Sys2Proof.Machine.execLpiRxEntry x s
  | .wakeDetect lane => Sys2Proof.Machine.execWakeDetect lane s
  | .wakeSendEnd x => Sys2Proof.Machine.execWakeSendEnd x s
  | .frameRx x part bytes fec => Sys2Proof.Machine.execFrameRx x part bytes fec s
  | .pauseRx x pfc mask quanta => Sys2Proof.Machine.execPauseRx x pfc mask quanta s
  | .pauseExpiry x p => Sys2Proof.Machine.execPauseExpiry x p s
  | .pauseRefresh x p => Sys2Proof.Machine.execPauseRefresh x p s
  | .pauseWdog x p => Sys2Proof.Machine.execPauseWdog x p s
  | .pauseWdogEnd x p => Sys2Proof.Machine.execPauseWdogEnd x p s
  | .macTxStart x part => Sys2Proof.Machine.execMacTxStart x part s
  | .frameTxEnd copy => Sys2Proof.Machine.execFrameTxEnd copy s
  | .txUnderrun copy ecc => Sys2Proof.Machine.execTxUnderrun copy ecc s
  | .parse k cluster upset => Sys2Proof.Machine.execParse k cluster upset s
  | .hbmReadReturn k ok => Sys2Proof.Machine.execHbmReadReturn k ok s
  | .replicaCheck upset => Sys2Proof.Machine.execReplicaCheck upset s
  | .bankCopyDone => Sys2Proof.Machine.execBankCopyDone s
  | .bankLoad p => Sys2Proof.Machine.execBankLoad p s
  | .excRefill => Sys2Proof.Machine.execExcRefill s
  | .learnHoldExpiry => Sys2Proof.Machine.execLearnHoldExpiry s
  | .filterRebuilt => Sys2Proof.Machine.execFilterRebuilt s
  | .snapshotDone ok status => Sys2Proof.Machine.execSnapshotDone ok status s
  | .restored => Sys2Proof.Machine.execRestored s
  | .admission k more => Sys2Proof.Machine.execAdmission k more s
  | .flushDone d => Sys2Proof.Machine.execFlushDone d s
  | .downFlushTimer d => Sys2Proof.Machine.execDownFlushTimer d s
  | .sageExamine sram hbm => Sys2Proof.Machine.execSageExamine sram hbm s
  | .spillPrefetch q => Sys2Proof.Machine.execSpillPrefetch q s
  | .bpmCacheRefill pool => Sys2Proof.Machine.execBpmCacheRefill pool s
  | .bpmReclaim owner => Sys2Proof.Machine.execBpmReclaim owner s
  | .bpmAuditTimer => Sys2Proof.Machine.execBpmAuditTimer s
  | .bucketRefill => Sys2Proof.Machine.execBucketRefill s
  | .schedSelect d => Sys2Proof.Machine.execSchedSelect d s
  | .frameDebit copy => Sys2Proof.Machine.execFrameDebit copy s
  | .cipherJobDone k => Sys2Proof.Machine.execCipherJobDone k s
  | .keyDerivation => Sys2Proof.Machine.execKeyDerivation s
  | .pnReserve n ok status => Sys2Proof.Machine.execPnReserve n ok status s
  | .submissionRead fn e => Sys2Proof.Machine.execSubmissionRead fn e s
  | .internalItem exception => Sys2Proof.Machine.execInternalItem exception s
  | .coreDispatch core => Sys2Proof.Machine.execCoreDispatch core s
  | .preemption work => Sys2Proof.Machine.execPreemption work s
  | .itemEnd work status outLen data frames => Sys2Proof.Machine.execItemEnd work status outLen data frames s
  | .itemTimeout work => Sys2Proof.Machine.execItemTimeout work s
  | .lockWaitTimeout lock => Sys2Proof.Machine.execLockWaitTimeout lock s
  | .powerGood => Sys2Proof.Machine.execPowerGood s
  | .bootPhase b => Sys2Proof.Machine.execBootPhase b s
  | .fuseReread temp doubt => Sys2Proof.Machine.execFuseReread temp doubt s
  | .nandOperationDone k e => Sys2Proof.Machine.execNandOperationDone k e s
  | .journalPageTimer => Sys2Proof.Machine.execJournalPageTimer s
  | .patrolRead dev page e => Sys2Proof.Machine.execPatrolRead dev page e s
  | .pfailAssert => Sys2Proof.Machine.execPfailAssert s
  | .pfailRelease => Sys2Proof.Machine.execPfailRelease s
  | .railTimeout => Sys2Proof.Machine.execRailTimeout s
  | .pwrGoodFall => Sys2Proof.Machine.execPwrGoodFall s
  | .vaonApply straps mfg => Sys2Proof.Machine.execVaonApply straps mfg s
  | .sysResetAssert => Sys2Proof.Machine.execSysResetAssert s
  | .dvfsLoadWindow load => Sys2Proof.Machine.execDvfsLoadWindow load s
  | .voutPoll mv status => Sys2Proof.Machine.execVoutPoll mv status s
  | .dvfsSettleDone => Sys2Proof.Machine.execDvfsSettleDone s
  | .dvfsFail => Sys2Proof.Machine.execDvfsFail s
  | .vcoreDroop mv => Sys2Proof.Machine.execVcoreDroop mv s
  | .throttleEnd => Sys2Proof.Machine.execThrottleEnd s
  | .pmbusFault addr code => Sys2Proof.Machine.execPmbusFault addr code s
  | .pmbAlert => Sys2Proof.Machine.execPmbAlert s
  | .idleTimerExpiry => Sys2Proof.Machine.execIdleTimerExpiry s
  | .standbyPhaseEnd => Sys2Proof.Machine.execStandbyPhaseEnd s
  | .wake src => Sys2Proof.Machine.execWake src s
  | .powerdownPhaseEnd => Sys2Proof.Machine.execPowerdownPhaseEnd s
  | .clusterDozeEntry c arrival => Sys2Proof.Machine.execClusterDozeEntry c arrival s
  | .clusterDozeWake c => Sys2Proof.Machine.execClusterDozeWake c s
  | .clockLoss domain inst => Sys2Proof.Machine.execClockLoss domain inst s
  | .errorReport source detail captured => Sys2Proof.Machine.execErrorReport source detail captured s
  | .recoveryEnd part => Sys2Proof.Machine.execRecoveryEnd part s
  | .recoveryTimeout part => Sys2Proof.Machine.execRecoveryTimeout part s
  | .faultWindowClose => Sys2Proof.Machine.execFaultWindowClose s
  | .tempWarn sensor reading => Sys2Proof.Machine.execTempWarn sensor reading s
  | .lfHoldEnd => Sys2Proof.Machine.execLfHoldEnd s
  | .eventRecord => Sys2Proof.Machine.execEventRecord s
  | .eventsLost => Sys2Proof.Machine.execEventsLost s
  | .evtNotify => Sys2Proof.Machine.execEvtNotify s
  | .genFrame g => Sys2Proof.Machine.execGenFrame g s
  | .perturbOff f => Sys2Proof.Machine.execPerturbOff f s
  | .tapInstruction x => Sys2Proof.Machine.execTapInstruction x s
  | .lpiRxExit x => Sys2Proof.Machine.execLpiRxExit x s

end Sys2Proof.Machine
end

