-- ==== Sys2Proof/Machine/Tick.lean ====
section
/-!
DEFINITION. What passes while no command waits: one cycle of TCLK (log entry 19), and the read-back fields that follow the clock.
-/
namespace Sys2Proof.Machine

open Sys2Proof

/-- SILENT_MS of a port follows its silence clock (R79, R81). -/
def refreshSilent (s : State) (n : Nat) : State :=
  match (s.term n).silentSince with
  | some a => s.set .LINE_TREE_STATE_SILENT_MS (min ((s.now - a) / uMs) (2 ^ Fld.LINE_TREE_STATE_SILENT_MS.row.w - 1)) n
  | none => s

/-- DURATION_MS of a Savory feature reads the milliseconds that remain (Table 17.9). -/
def refreshPerturb (s : State) (f : Nat) : State :=
  let e := Tab.get 0 s.test.ends f
  if e = 0 then s else s.set .TEST_PERTURB_DURATION_MS (ceilDiv (e - 1 - s.now) uMs) f

/-- HOLDOVER_S of a domain counts the seconds of its holdover (R115). -/
def refreshHoldover (s : State) (d : Nat) : State :=
  if s.get .TIME_DOMAIN_STATE_STATE d = 3 then
    s.set .TIME_DOMAIN_STATE_HOLDOVER_S (min ((s.now - (s.domain d).holdSince) / uS) (2 ^ 20 - 1)) d
  else s

/-- A dozing cluster that is no longer idle has work, and wakes in this cycle, well within 200 ns (R384). -/
def wakeWorking (s : State) : State :=
  (List.range 23).foldl (fun s c => s.when (s.isSet .PWR_DOZE_DOZING c && !(clusterIdle c s)) (fun s =>
    let s := s.set .PWR_DOZE_DOZING 0 c
    if c = 22 then cpuShowAll s else s)) s

/-- One cycle of TCLK: 1.25 ns of local time, 81,920 units of 2^-16 ns (R111). -/
def tick (s : State) : State :=
  let s := refreshTime { s with now := s.now + uTclk }
  let s := [0, 1].foldl refreshHoldover ((List.range 4).foldl refreshSilent s)
  clk10Run <| wakeWorking <| refreshIdle (refreshDraining ((List.range 4).foldl refreshPerturb s))

end Sys2Proof.Machine
end

