-- ==== Sys2Proof/Machine/Rows.lean ====
section
/-! DEFINITION. The rows that are Jadex commands, with their line of the opcode tables (Table 13.6). -/
namespace Sys2Proof.Machine

open Sys2Proof

/-- The line of an atomic command with the participants that it stages, the store controller among them (R313). -/
def CmdInfo.atomic (c : CmdInfo) : CmdInfo := { c with parts := c.staging }

/-- The opcode-table line and the request of a row that is a Jadex command; none for the block's events and direct writes. -/
def commandOf (i : Instr) (s : State) : Option (CmdInfo × Req) :=
  match i with
  | .lineConfig q _ => some (ciLineConfig, q)
  | .lineSearch q n _ => some ((ciLineSearch n), q)
  | .lineRelevel q n => some ((ciLineRelevel n), q)
  | .lineSetCd q n _ => some ((ciLineSetCd n), q)
  | .lineEqRestart q n _ => some ((ciLineEqRestart n), q)
  | .lineScEnable q n _ => some ((ciLineScEnable n), q)
  | .lineLaserRetune q n => some ((ciLineLaserRetune n), q)
  | .lineCapture q n _ _ _ _ _ _ => some ((ciLineCapture n), q)
  | .lineEvtEnable q _ => some (ciLineEvtEnable, q)
  | .lineFrameConfig q _ => some (ciLineFrameConfig, q)
  | .lineTsiWrite q _ => some (ciLineTsiWrite, q)
  | .lineTsiReady q n _ => some ((ciLineTsiReady n), q)
  | .lineTribConfig q index _ _ _ _ => some ((ciLineTribConfig (index / 64)).atomic, q)
  | .lineOspConfig q _ => some (ciLineOspConfig, q)
  | .treeJoin q n => some ((ciTreeJoin n), q)
  | .treeLeave q n => some ((ciTreeLeave n), q)
  | .treeConfig q _ => some (ciTreeConfig, q)
  | .treeDoze q n => some ((ciTreeDoze n), q)
  | .treeWake q n => some ((ciTreeWake n), q)
  | .treeGuardRelease q n _ => some ((ciTreeGuardRelease n), q)
  | .treeDark q n _ => some ((ciTreeDark n), q)
  | .treeMsgRead q n => some ((ciTreeMsgRead n), q)
  | .timeConfig q _ => some (ciTimeConfig.atomic, q)
  | .timeSelect q _ => some (ciTimeSelect, q)
  | .timeSet q _ _ => some (ciTimeSet, q)
  | .timeAdjust q _ _ _ _ => some (ciTimeAdjust, q)
  | .timePulse q _ => some (ciTimePulse, q)
  | .timeTsRead q _ => some (ciTimeTsRead, q)
  | .hostPortConfig q es => some ((ciHostPortConfig es).atomic, q)
  | .hostPortEnable q slot _ => some ((ciHostPortEnable slot), q)
  | .hostLaneConfig q es => some ((ciHostLaneConfig es), q)
  | .hostRetrain q slot _ => some ((ciHostRetrain slot), q)
  | .hostFilterWrite q es => some ((ciHostFilterWrite es), q)
  | .hostPauseConfig q es => some ((ciHostPauseConfig es), q)
  | .hostLpiConfig q es => some ((ciHostLpiConfig es), q)
  | .hostWakeSend q slot _ => some ((ciHostWakeSend slot), q)
  | .hostWdogClear q slot _ => some ((ciHostWdogClear slot), q)
  | .hostEvtEnable q slot _ => some ((ciHostEvtEnable slot), q)
  | .clsParserWrite q _ => some (ciClsParserWrite, q)
  | .clsProfileWrite q _ => some (ciClsProfileWrite, q)
  | .clsRuleWrite q _ _ => some (ciClsRuleWrite, q)
  | .clsRuleDelete q _ => some (ciClsRuleDelete, q)
  | .clsFlip q => some ((ciClsFlip s).atomic, q)
  | .clsStart q _ => some (ciClsStart, q)
  | .clsExcConfig q _ => some (ciClsExcConfig, q)
  | .tblEmInsert q _ _ _ => some (ciTblEmInsert, q)
  | .tblEmDelete q _ => some (ciTblEmDelete, q)
  | .tblEmFind q _ => some (ciTblEmFind, q)
  | .tblLpmInsert q _ _ => some (ciTblLpmInsert, q)
  | .tblLpmDelete q _ => some (ciTblLpmDelete, q)
  | .tblNhWrite q _ => some (ciTblNhWrite, q)
  | .tblEcmpWrite q _ => some (ciTblEcmpWrite, q)
  | .tblProfileWrite q _ => some (ciTblProfileWrite.atomic, q)
  | .tblLearnConfig q _ _ => some (ciTblLearnConfig.atomic, q)
  | .tblHitScan q _ _ => some (ciTblHitScan, q)
  | .tblSnapshot q => some (ciTblSnapshot, q)
  | .tblFilterRebuild q => some (ciTblFilterRebuild, q)
  | .swConfig q _ => some (ciSwConfig.atomic, q)
  | .swDestConfig q _ => some (ciSwDestConfig.atomic, q)
  | .swQueueConfig q _ => some (ciSwQueueConfig, q)
  | .swPortFlush q _ => some (ciSwPortFlush, q)
  | .swIngConfig q _ => some (ciSwIngConfig.atomic, q)
  | .swSageConfig q _ => some (ciSwSageConfig, q)
  | .bpmPoolConfig q _ => some (ciBpmPoolConfig.atomic, q)
  | .bpmAlloc q _ _ => some (ciBpmAlloc, q)
  | .bpmFree q _ => some (ciBpmFree, q)
  | .bpmHandoff q _ => some (ciBpmHandoff, q)
  | .bpmAudit q => some (ciBpmAudit, q)
  | .schedNodeWrite q _ => some (ciSchedNodeWrite, q)
  | .schedQueueMap q _ => some (ciSchedQueueMap, q)
  | .schedLenProfile q _ => some (ciSchedLenProfile.atomic, q)
  | .polWrite q reset _ => some ((ciPolWrite reset), q)
  | .polColourMap q _ => some (ciPolColourMap.atomic, q)
  | .polCounterClear q _ => some (ciPolCounterClear, q)
  | .ciphKeyLoad q persist _ => some ((ciCiphKeyLoad persist), q)
  | .ciphKeyDerive q persist _ => some ((ciCiphKeyDerive persist), q)
  | .ciphKeyClear q _ => some (ciCiphKeyClear, q)
  | .ciphTreeSecret q _ persist _ _ _ => some ((ciCiphTreeSecret persist), q)
  | .ciphLineKey q _ => some (ciCiphLineKey.atomic, q)
  | .ciphInbandKey q _ => some (ciCiphInbandKey, q)
  | .ciphSeal q _ _ _ _ _ _ => some (ciCiphSeal, q)
  | .ciphOpen q _ _ _ _ _ _ _ => some (ciCiphOpen, q)
  | .ciphCmac q _ _ _ _ => some (ciCiphCmac, q)
  | .ciphCacheFlush q => some (ciCiphCacheFlush, q)
  | .coreQueueConfig q _ => some (ciCoreQueueConfig, q)
  | .coreRingConfig q _ _ _ _ _ => some (ciCoreRingConfig, q)
  | .coreFnConfig q _ => some (ciCoreFnConfig.atomic, q)
  | .coreLimits q _ => some (ciCoreLimits.atomic, q)
  | .coreServiceList q => some (ciCoreServiceList, q)
  | .lockAcquire q (.fn _) _ _ => some (ciLockAcquire, q)
  | .lockAcquire _ (.item _) _ _ => none
  | .lockAcquire _ (.mgmt _) _ _ => none
  | .lockRelease q (.fn _) _ => some (ciLockRelease, q)
  | .lockRelease _ (.item _) _ => none
  | .lockRelease _ (.mgmt _) _ => none
  | .sysNop q => some (ciSysNop, q)
  | .sysIdentify q => some (ciSysIdentify, q)
  | .fence q _ _ _ => some (ciFence, q)
  | .sysMode q _ => some (ciSysMode.atomic, q)
  | .sysRestart q _ => some (ciSysRestart, q)
  | .sysWindowSet q _ _ => some (ciSysWindowSet.atomic, q)
  | .sysStateDump q _ _ => some (ciSysStateDump, q)
  | .sysCmdHistory q _ => some (ciSysCmdHistory, q)
  | .sysPeerConfig q _ => some (ciSysPeerConfig.atomic, q)
  | .sysPeerRole q _ => some (ciSysPeerRole, q)
  | .sysInbandConfig q _ => some (ciSysInbandConfig, q)
  | .pwrStateActive q => some (ciPwrState, q)
  | .pwrStateStandby q => some (ciPwrState, q)
  | .pwrStateOff q => some (ciPwrState, q)
  | .pwrIdleConfig q _ => some (ciPwrIdleConfig, q)
  | .pwrWakeConfig q _ => some (ciPwrWakeConfig, q)
  | .pwrDvfs q _ => some (ciPwrDvfs, q)
  | .pwrTelemetry q => some (ciPwrTelemetry, q)
  | .pwrBusConfig q _ => some (ciPwrBusConfig, q)
  | .storeImageWrite q _ _ => some (ciStoreImageWrite, q)
  | .storeImageVerify q => some (ciStoreImageVerify, q)
  | .storeImageActivate q => some (ciStoreImageActivate, q)
  | .storeImageConfirm q => some (ciStoreImageConfirm, q)
  | .storeInfo q => some (ciStoreInfo, q)
  | .storeScrub q => some (ciStoreScrub, q)
  | .storeFormat q _ => some (ciStoreFormat, q)
  | .storePageRead q _ _ => some (ciStorePageRead, q)
  | .storePageProgram q _ _ _ => some (ciStorePageProgram, q)
  | .storeBlockErase q _ _ => some (ciStoreBlockErase, q)
  | .evtRead q _ _ => some (ciEvtRead, q)
  | .evtHostRecord q _ _ _ => some (ciEvtHostRecord, q)
  | .evtFlush q => some (ciEvtFlush, q)
  | .fltReportRead q _ => some (ciFltReportRead, q)
  | .fltRecoverResume q => some (ciFltRecover, q)
  | .fltRecoverWarm q => some (ciFltRecover, q)
  | .fltRecoverCold q => some (ciFltRecover, q)
  | .fltRecoverCluster q _ => some (ciFltRecover, q)
  | .fltConfig q _ => some (ciFltConfig, q)
  | .testLoopback q point inst _ => some ((ciTestLoopback point inst), q)
  | .testGen q _ => some (ciTestGen, q)
  | .testCheck q _ => some (ciTestCheck, q)
  | .testPerturb q _ _ _ _ _ _ => some (ciTestPerturb, q)
  | .testInject q _ _ _ _ => some (ciTestInject, q)
  | .registerWrite _ _ => none
  | .interruptClear _ _ => none
  | .nowSubRead => none
  | .cmdRingEnable _ => none
  | .cmdRingDisable _ => none
  | .cmdSubTailWrite _ _ => none
  | .cmdCplHeadWrite _ _ => none
  | .workSubTailWrite _ _ => none
  | .workResHeadWrite _ _ => none
  | .learnHeadWrite _ => none
  | .peerRxTailWrite _ => none
  | .mirrorAreaWrite _ _ _ _ _ => none
  | .cmdSubmissionRead _ _ _ => none
  | .commandCompletion => none
  | .inbandCommand _ _ => none
  | .peldelWrite _ => none
  | .peldelRead => none
  | .peldelAddressMatch => none
  | .atomicCommit _ => none
  | .fenceReturn _ => none
  | .mirrorRecordWrite => none
  | .mirrorApply => none
  | .peerPoll _ => none
  | .peerLost => none
  | .functionLevelReset _ => none
  | .cfoMeasurement _ _ => none
  | .deferredFineTune _ => none
  | .fineTuneAck _ => none
  | .setFreqAck _ => none
  | .laserFreqStable _ => none
  | .laserBusFail _ => none
  | .laserBusPoll _ _ => none
  | .lossOfLight _ _ => none
  | .lightReturn _ _ => none
  | .dillPassEnd _ _ => none
  | .applicationPoint _ => none
  | .settlingWindowEnd _ _ => none
  | .pairDecoded _ _ _ _ _ _ _ _ _ => none
  | .qualityUpdate _ _ _ _ _ _ => none
  | .captureTrigger _ _ => none
  | .captureDone _ _ _ => none
  | .superframeStart _ _ => none
  | .upSuperframeStart _ _ => none
  | .sectorHeader _ _ _ _ _ _ _ => none
  | .superframeHeader _ => none
  | .directoryEntry _ _ => none
  | .grant _ _ => none
  | .discovery _ _ _ => none
  | .assign _ => none
  | .range _ => none
  | .profile _ => none
  | .dozeAck _ => none
  | .deregister _ => none
  | .hostMessage _ => none
  | .remoteIndications _ => none
  | .justificationCount _ _ => none
  | .overheadBlockRx _ _ => none
  | .ospBlockOut _ => none
  | .ospBlockIn _ _ => none
  | .envelope _ _ _ _ _ _ _ => none
  | .tribFrameTx _ _ _ => none
  | .tribFrameRx _ _ => none
  | .pmSecond _ _ => none
  | .pmBinOpen _ _ _ => none
  | .pmBinClosed _ _ _ => none
  | .burstBodyBuild _ => none
  | .burstStart _ => none
  | .burstEnd _ => none
  | .presenceBurst _ => none
  | .txPowerUp _ => none
  | .rangingTimeout _ => none
  | .reregLimitExpiry _ => none
  | .returnEntryTimeout _ => none
  | .assignWaitExpiry _ _ => none
  | .dirGraceEnd _ => none
  | .dozeMissed _ => none
  | .holdoverDillRestart _ => none
  | .bayTrip _ _ => none
  | .baySyncTrip _ => none
  | .bayMclkClear _ => none
  | .txDisableFall _ => none
  | .txDisableRise _ => none
  | .domainLossTime _ _ => none
  | .holdoverLimitExpiry _ => none
  | .revertTimer => none
  | .slewComplete => none
  | .timeinPpsEdge _ _ _ _ => none
  | .timeinLost _ _ => none
  | .pulseRise _ => none
  | .pulseFall _ => none
  | .timedLaunch _ _ => none
  | .timedLpiExit _ => none
  | .confirmation _ _ _ => none
  | .policerCommit _ => none
  | .retractDeadline _ => none
  | .drainPoint => none
  | .laneSignalChange _ _ => none
  | .trainingDone _ _ => none
  | .trainingTimeout _ _ => none
  | .tapRequest _ _ => none
  | .alignLock _ => none
  | .alignTimeout _ => none
  | .laneLockLoss _ => none
  | .frtReqReceived _ => none
  | .frtPartnerRecognised _ => none
  | .frtDone _ => none
  | .frtNoAnswer _ => none
  | .frtLimitExpiry _ => none
  | .remoteFault _ _ => none
  | .lpiTxEntry _ => none
  | .lpiRxEntry _ => none
  | .wakeDetect _ => none
  | .wakeSendEnd _ => none
  | .frameRx _ _ _ _ => none
  | .pauseRx _ _ _ _ => none
  | .pauseExpiry _ _ => none
  | .pauseRefresh _ _ => none
  | .pauseWdog _ _ => none
  | .pauseWdogEnd _ _ => none
  | .macTxStart _ _ => none
  | .frameTxEnd _ => none
  | .txUnderrun _ _ => none
  | .parse _ _ _ => none
  | .hbmReadReturn _ _ => none
  | .replicaCheck _ => none
  | .bankCopyDone => none
  | .bankLoad _ => none
  | .excRefill => none
  | .learnHoldExpiry => none
  | .filterRebuilt => none
  | .snapshotDone _ _ => none
  | .restored => none
  | .admission _ _ => none
  | .flushDone _ => none
  | .downFlushTimer _ => none
  | .sageExamine _ _ => none
  | .spillPrefetch _ => none
  | .bpmCacheRefill _ => none
  | .bpmReclaim _ => none
  | .bpmAuditTimer => none
  | .bucketRefill => none
  | .schedSelect _ => none
  | .frameDebit _ => none
  | .cipherJobDone _ => none
  | .keyDerivation => none
  | .pnReserve _ _ _ => none
  | .submissionRead _ _ => none
  | .internalItem _ => none
  | .coreDispatch _ => none
  | .preemption _ => none
  | .itemEnd _ _ _ _ _ => none
  | .itemTimeout _ => none
  | .lockWaitTimeout _ => none
  | .powerGood => none
  | .bootPhase _ => none
  | .fuseReread _ _ => none
  | .nandOperationDone _ _ => none
  | .journalPageTimer => none
  | .patrolRead _ _ _ => none
  | .pfailAssert => none
  | .pfailRelease => none
  | .railTimeout => none
  | .pwrGoodFall => none
  | .vaonApply _ _ => none
  | .sysResetAssert => none
  | .dvfsLoadWindow _ => none
  | .voutPoll _ _ => none
  | .dvfsSettleDone => none
  | .dvfsFail => none
  | .vcoreDroop _ => none
  | .throttleEnd => none
  | .pmbusFault _ _ => none
  | .pmbAlert => none
  | .idleTimerExpiry => none
  | .standbyPhaseEnd => none
  | .wake _ => none
  | .powerdownPhaseEnd => none
  | .clusterDozeEntry _ _ => none
  | .clusterDozeWake _ => none
  | .clockLoss _ _ => none
  | .errorReport _ _ _ => none
  | .recoveryEnd _ => none
  | .recoveryTimeout _ => none
  | .faultWindowClose => none
  | .tempWarn _ _ => none
  | .lfHoldEnd => none
  | .eventRecord => none
  | .eventsLost => none
  | .evtNotify => none
  | .genFrame _ => none
  | .perturbOff _ => none
  | .tapInstruction _ => none
  | .lpiRxExit _ => none

/-- The rows whose completion may at once begin a device restart (R355): SYS_RESTART, and WARM and COLD of FLT_RECOVER. -/
def isRestart (i : Instr) : Bool :=
  match i with
  | .sysRestart _ _ => true
  | .fltRecoverWarm _ => true
  | .fltRecoverCold _ => true
  | _ => false

end Sys2Proof.Machine
end

