-- ==== Sys2Proof/Laws/PerInstr.lean ====
section
/-! SUPPORT. Facts of every row as syntax: a row that is a command has an opcode that the opcode tables define. -/
namespace Sys2Proof.Laws.CommandOpcode

open Sys2Proof Sys2Proof.Machine

/-- The opcode of a row that is a Jadex command is one of the opcode tables' (Table 13.6, R333). -/
def Statement (i : Instr) : Prop :=
  ∀ (s : State) (c : CmdInfo) (q : Req), commandOf i s = some (c, q) → definedOp c.op = true

theorem lineConfig (x0 x1 : _) : Statement (.lineConfig x0 x1) := by rintro s c q ⟨⟩; exact (rfl : definedOp 0x0401 = true)
theorem lineSearch (x0 x1 x2 : _) : Statement (.lineSearch x0 x1 x2) := by rintro s c q ⟨⟩; exact (rfl : definedOp 0x0402 = true)
theorem lineRelevel (x0 x1 : _) : Statement (.lineRelevel x0 x1) := by rintro s c q ⟨⟩; exact (rfl : definedOp 0x0403 = true)
theorem lineSetCd (x0 x1 x2 : _) : Statement (.lineSetCd x0 x1 x2) := by rintro s c q ⟨⟩; exact (rfl : definedOp 0x0404 = true)
theorem lineEqRestart (x0 x1 x2 : _) : Statement (.lineEqRestart x0 x1 x2) := by rintro s c q ⟨⟩; exact (rfl : definedOp 0x0405 = true)
theorem lineScEnable (x0 x1 x2 : _) : Statement (.lineScEnable x0 x1 x2) := by rintro s c q ⟨⟩; exact (rfl : definedOp 0x0406 = true)
theorem lineLaserRetune (x0 x1 : _) : Statement (.lineLaserRetune x0 x1) := by rintro s c q ⟨⟩; exact (rfl : definedOp 0x0407 = true)
theorem lineCapture (x0 x1 x2 x3 x4 x5 x6 x7 : _) : Statement (.lineCapture x0 x1 x2 x3 x4 x5 x6 x7) := by rintro s c q ⟨⟩; exact (rfl : definedOp 0x0408 = true)
theorem lineEvtEnable (x0 x1 : _) : Statement (.lineEvtEnable x0 x1) := by rintro s c q ⟨⟩; exact (rfl : definedOp 0x0409 = true)
theorem lineFrameConfig (x0 x1 : _) : Statement (.lineFrameConfig x0 x1) := by rintro s c q ⟨⟩; exact (rfl : definedOp 0x040A = true)
theorem lineTsiWrite (x0 x1 : _) : Statement (.lineTsiWrite x0 x1) := by rintro s c q ⟨⟩; exact (rfl : definedOp 0x040B = true)
theorem lineTsiReady (x0 x1 x2 : _) : Statement (.lineTsiReady x0 x1 x2) := by rintro s c q ⟨⟩; exact (rfl : definedOp 0x040C = true)
theorem lineTribConfig (x0 x1 x2 x3 x4 x5 : _) : Statement (.lineTribConfig x0 x1 x2 x3 x4 x5) := by rintro s c q ⟨⟩; exact (rfl : definedOp 0x040D = true)
theorem lineOspConfig (x0 x1 : _) : Statement (.lineOspConfig x0 x1) := by rintro s c q ⟨⟩; exact (rfl : definedOp 0x040E = true)
theorem treeJoin (x0 x1 : _) : Statement (.treeJoin x0 x1) := by rintro s c q ⟨⟩; exact (rfl : definedOp 0x0501 = true)
theorem treeLeave (x0 x1 : _) : Statement (.treeLeave x0 x1) := by rintro s c q ⟨⟩; exact (rfl : definedOp 0x0502 = true)
theorem treeConfig (x0 x1 : _) : Statement (.treeConfig x0 x1) := by rintro s c q ⟨⟩; exact (rfl : definedOp 0x0503 = true)
theorem treeDoze (x0 x1 : _) : Statement (.treeDoze x0 x1) := by rintro s c q ⟨⟩; exact (rfl : definedOp 0x0504 = true)
theorem treeWake (x0 x1 : _) : Statement (.treeWake x0 x1) := by rintro s c q ⟨⟩; exact (rfl : definedOp 0x0505 = true)
theorem treeGuardRelease (x0 x1 x2 : _) : Statement (.treeGuardRelease x0 x1 x2) := by rintro s c q ⟨⟩; exact (rfl : definedOp 0x0506 = true)
theorem treeDark (x0 x1 x2 : _) : Statement (.treeDark x0 x1 x2) := by rintro s c q ⟨⟩; exact (rfl : definedOp 0x0507 = true)
theorem treeMsgRead (x0 x1 : _) : Statement (.treeMsgRead x0 x1) := by rintro s c q ⟨⟩; exact (rfl : definedOp 0x0508 = true)
theorem timeConfig (x0 x1 : _) : Statement (.timeConfig x0 x1) := by rintro s c q ⟨⟩; exact (rfl : definedOp 0x0601 = true)
theorem timeSelect (x0 x1 : _) : Statement (.timeSelect x0 x1) := by rintro s c q ⟨⟩; exact (rfl : definedOp 0x0602 = true)
theorem timeSet (x0 x1 x2 : _) : Statement (.timeSet x0 x1 x2) := by rintro s c q ⟨⟩; exact (rfl : definedOp 0x0603 = true)
theorem timeAdjust (x0 x1 x2 x3 x4 : _) : Statement (.timeAdjust x0 x1 x2 x3 x4) := by rintro s c q ⟨⟩; exact (rfl : definedOp 0x0604 = true)
theorem timePulse (x0 x1 : _) : Statement (.timePulse x0 x1) := by rintro s c q ⟨⟩; exact (rfl : definedOp 0x0605 = true)
theorem timeTsRead (x0 x1 : _) : Statement (.timeTsRead x0 x1) := by rintro s c q ⟨⟩; exact (rfl : definedOp 0x0606 = true)
theorem hostPortConfig (x0 x1 : _) : Statement (.hostPortConfig x0 x1) := by rintro s c q ⟨⟩; exact (rfl : definedOp 0x0701 = true)
theorem hostPortEnable (x0 x1 x2 : _) : Statement (.hostPortEnable x0 x1 x2) := by rintro s c q ⟨⟩; exact (rfl : definedOp 0x0702 = true)
theorem hostLaneConfig (x0 x1 : _) : Statement (.hostLaneConfig x0 x1) := by rintro s c q ⟨⟩; exact (rfl : definedOp 0x0703 = true)
theorem hostRetrain (x0 x1 x2 : _) : Statement (.hostRetrain x0 x1 x2) := by rintro s c q ⟨⟩; exact (rfl : definedOp 0x0704 = true)
theorem hostFilterWrite (x0 x1 : _) : Statement (.hostFilterWrite x0 x1) := by rintro s c q ⟨⟩; exact (rfl : definedOp 0x0705 = true)
theorem hostPauseConfig (x0 x1 : _) : Statement (.hostPauseConfig x0 x1) := by rintro s c q ⟨⟩; exact (rfl : definedOp 0x0706 = true)
theorem hostLpiConfig (x0 x1 : _) : Statement (.hostLpiConfig x0 x1) := by rintro s c q ⟨⟩; exact (rfl : definedOp 0x0707 = true)
theorem hostWakeSend (x0 x1 x2 : _) : Statement (.hostWakeSend x0 x1 x2) := by rintro s c q ⟨⟩; exact (rfl : definedOp 0x0708 = true)
theorem hostWdogClear (x0 x1 x2 : _) : Statement (.hostWdogClear x0 x1 x2) := by rintro s c q ⟨⟩; exact (rfl : definedOp 0x0709 = true)
theorem hostEvtEnable (x0 x1 x2 : _) : Statement (.hostEvtEnable x0 x1 x2) := by rintro s c q ⟨⟩; exact (rfl : definedOp 0x070A = true)
theorem clsParserWrite (x0 x1 : _) : Statement (.clsParserWrite x0 x1) := by rintro s c q ⟨⟩; exact (rfl : definedOp 0x0801 = true)
theorem clsProfileWrite (x0 x1 : _) : Statement (.clsProfileWrite x0 x1) := by rintro s c q ⟨⟩; exact (rfl : definedOp 0x0802 = true)
theorem clsRuleWrite (x0 x1 x2 : _) : Statement (.clsRuleWrite x0 x1 x2) := by rintro s c q ⟨⟩; exact (rfl : definedOp 0x0803 = true)
theorem clsRuleDelete (x0 x1 : _) : Statement (.clsRuleDelete x0 x1) := by rintro s c q ⟨⟩; exact (rfl : definedOp 0x0804 = true)
theorem clsFlip (x0 : _) : Statement (.clsFlip x0) := by rintro s c q ⟨⟩; exact (rfl : definedOp 0x0805 = true)
theorem clsStart (x0 x1 : _) : Statement (.clsStart x0 x1) := by rintro s c q ⟨⟩; exact (rfl : definedOp 0x0806 = true)
theorem clsExcConfig (x0 x1 : _) : Statement (.clsExcConfig x0 x1) := by rintro s c q ⟨⟩; exact (rfl : definedOp 0x0807 = true)
theorem tblEmInsert (x0 x1 x2 x3 : _) : Statement (.tblEmInsert x0 x1 x2 x3) := by rintro s c q ⟨⟩; exact (rfl : definedOp 0x0901 = true)
theorem tblEmDelete (x0 x1 : _) : Statement (.tblEmDelete x0 x1) := by rintro s c q ⟨⟩; exact (rfl : definedOp 0x0902 = true)
theorem tblEmFind (x0 x1 : _) : Statement (.tblEmFind x0 x1) := by rintro s c q ⟨⟩; exact (rfl : definedOp 0x0903 = true)
theorem tblLpmInsert (x0 x1 x2 : _) : Statement (.tblLpmInsert x0 x1 x2) := by rintro s c q ⟨⟩; exact (rfl : definedOp 0x0904 = true)
theorem tblLpmDelete (x0 x1 : _) : Statement (.tblLpmDelete x0 x1) := by rintro s c q ⟨⟩; exact (rfl : definedOp 0x0905 = true)
theorem tblNhWrite (x0 x1 : _) : Statement (.tblNhWrite x0 x1) := by rintro s c q ⟨⟩; exact (rfl : definedOp 0x0906 = true)
theorem tblEcmpWrite (x0 x1 : _) : Statement (.tblEcmpWrite x0 x1) := by rintro s c q ⟨⟩; exact (rfl : definedOp 0x0907 = true)
theorem tblProfileWrite (x0 x1 : _) : Statement (.tblProfileWrite x0 x1) := by rintro s c q ⟨⟩; exact (rfl : definedOp 0x0908 = true)
theorem tblLearnConfig (x0 x1 x2 : _) : Statement (.tblLearnConfig x0 x1 x2) := by rintro s c q ⟨⟩; exact (rfl : definedOp 0x0909 = true)
theorem tblHitScan (x0 x1 x2 : _) : Statement (.tblHitScan x0 x1 x2) := by rintro s c q ⟨⟩; exact (rfl : definedOp 0x090A = true)
theorem tblSnapshot (x0 : _) : Statement (.tblSnapshot x0) := by rintro s c q ⟨⟩; exact (rfl : definedOp 0x090B = true)
theorem tblFilterRebuild (x0 : _) : Statement (.tblFilterRebuild x0) := by rintro s c q ⟨⟩; exact (rfl : definedOp 0x090C = true)
theorem swConfig (x0 x1 : _) : Statement (.swConfig x0 x1) := by rintro s c q ⟨⟩; exact (rfl : definedOp 0x0A01 = true)
theorem swDestConfig (x0 x1 : _) : Statement (.swDestConfig x0 x1) := by rintro s c q ⟨⟩; exact (rfl : definedOp 0x0A02 = true)
theorem swQueueConfig (x0 x1 : _) : Statement (.swQueueConfig x0 x1) := by rintro s c q ⟨⟩; exact (rfl : definedOp 0x0A03 = true)
theorem swPortFlush (x0 x1 : _) : Statement (.swPortFlush x0 x1) := by rintro s c q ⟨⟩; exact (rfl : definedOp 0x0A04 = true)
theorem swIngConfig (x0 x1 : _) : Statement (.swIngConfig x0 x1) := by rintro s c q ⟨⟩; exact (rfl : definedOp 0x0A05 = true)
theorem swSageConfig (x0 x1 : _) : Statement (.swSageConfig x0 x1) := by rintro s c q ⟨⟩; exact (rfl : definedOp 0x0A06 = true)
theorem bpmPoolConfig (x0 x1 : _) : Statement (.bpmPoolConfig x0 x1) := by rintro s c q ⟨⟩; exact (rfl : definedOp 0x0A07 = true)
theorem bpmAlloc (x0 x1 x2 : _) : Statement (.bpmAlloc x0 x1 x2) := by rintro s c q ⟨⟩; exact (rfl : definedOp 0x0A08 = true)
theorem bpmFree (x0 x1 : _) : Statement (.bpmFree x0 x1) := by rintro s c q ⟨⟩; exact (rfl : definedOp 0x0A09 = true)
theorem bpmHandoff (x0 x1 : _) : Statement (.bpmHandoff x0 x1) := by rintro s c q ⟨⟩; exact (rfl : definedOp 0x0A0A = true)
theorem bpmAudit (x0 : _) : Statement (.bpmAudit x0) := by rintro s c q ⟨⟩; exact (rfl : definedOp 0x0A0B = true)
theorem schedNodeWrite (x0 x1 : _) : Statement (.schedNodeWrite x0 x1) := by rintro s c q ⟨⟩; exact (rfl : definedOp 0x0B01 = true)
theorem schedQueueMap (x0 x1 : _) : Statement (.schedQueueMap x0 x1) := by rintro s c q ⟨⟩; exact (rfl : definedOp 0x0B02 = true)
theorem schedLenProfile (x0 x1 : _) : Statement (.schedLenProfile x0 x1) := by rintro s c q ⟨⟩; exact (rfl : definedOp 0x0B03 = true)
theorem polWrite (x0 x1 x2 : _) : Statement (.polWrite x0 x1 x2) := by rintro s c q ⟨⟩; exact (rfl : definedOp 0x0B04 = true)
theorem polColourMap (x0 x1 : _) : Statement (.polColourMap x0 x1) := by rintro s c q ⟨⟩; exact (rfl : definedOp 0x0B05 = true)
theorem polCounterClear (x0 x1 : _) : Statement (.polCounterClear x0 x1) := by rintro s c q ⟨⟩; exact (rfl : definedOp 0x0B06 = true)
theorem ciphKeyLoad (x0 x1 x2 : _) : Statement (.ciphKeyLoad x0 x1 x2) := by rintro s c q ⟨⟩; exact (rfl : definedOp 0x0C01 = true)
theorem ciphKeyDerive (x0 x1 x2 : _) : Statement (.ciphKeyDerive x0 x1 x2) := by rintro s c q ⟨⟩; exact (rfl : definedOp 0x0C02 = true)
theorem ciphKeyClear (x0 x1 : _) : Statement (.ciphKeyClear x0 x1) := by rintro s c q ⟨⟩; exact (rfl : definedOp 0x0C03 = true)
theorem ciphTreeSecret (x0 x1 x2 x3 x4 x5 : _) : Statement (.ciphTreeSecret x0 x1 x2 x3 x4 x5) := by rintro s c q ⟨⟩; exact (rfl : definedOp 0x0C04 = true)
theorem ciphLineKey (x0 x1 : _) : Statement (.ciphLineKey x0 x1) := by rintro s c q ⟨⟩; exact (rfl : definedOp 0x0C05 = true)
theorem ciphInbandKey (x0 x1 : _) : Statement (.ciphInbandKey x0 x1) := by rintro s c q ⟨⟩; exact (rfl : definedOp 0x0C06 = true)
theorem ciphSeal (x0 x1 x2 x3 x4 x5 x6 : _) : Statement (.ciphSeal x0 x1 x2 x3 x4 x5 x6) := by rintro s c q ⟨⟩; exact (rfl : definedOp 0x0C07 = true)
theorem ciphOpen (x0 x1 x2 x3 x4 x5 x6 x7 : _) : Statement (.ciphOpen x0 x1 x2 x3 x4 x5 x6 x7) := by rintro s c q ⟨⟩; exact (rfl : definedOp 0x0C08 = true)
theorem ciphCmac (x0 x1 x2 x3 x4 : _) : Statement (.ciphCmac x0 x1 x2 x3 x4) := by rintro s c q ⟨⟩; exact (rfl : definedOp 0x0C09 = true)
theorem ciphCacheFlush (x0 : _) : Statement (.ciphCacheFlush x0) := by rintro s c q ⟨⟩; exact (rfl : definedOp 0x0C0A = true)
theorem coreQueueConfig (x0 x1 : _) : Statement (.coreQueueConfig x0 x1) := by rintro s c q ⟨⟩; exact (rfl : definedOp 0x0D01 = true)
theorem coreRingConfig (x0 x1 x2 x3 x4 x5 : _) : Statement (.coreRingConfig x0 x1 x2 x3 x4 x5) := by rintro s c q ⟨⟩; exact (rfl : definedOp 0x0D02 = true)
theorem coreFnConfig (x0 x1 : _) : Statement (.coreFnConfig x0 x1) := by rintro s c q ⟨⟩; exact (rfl : definedOp 0x0D03 = true)
theorem coreLimits (x0 x1 : _) : Statement (.coreLimits x0 x1) := by rintro s c q ⟨⟩; exact (rfl : definedOp 0x0D04 = true)
theorem coreServiceList (x0 : _) : Statement (.coreServiceList x0) := by rintro s c q ⟨⟩; exact (rfl : definedOp 0x0D05 = true)
theorem lockAcquire (x0 x1 x2 x3 : _) : Statement (.lockAcquire x0 x1 x2 x3) := by
  rintro s c q h; cases x1 <;> cases h; exact (rfl : definedOp 0x0D06 = true)
theorem lockRelease (x0 x1 x2 : _) : Statement (.lockRelease x0 x1 x2) := by
  rintro s c q h; cases x1 <;> cases h; exact (rfl : definedOp 0x0D07 = true)
theorem sysNop (x0 : _) : Statement (.sysNop x0) := by rintro s c q ⟨⟩; exact (rfl : definedOp 0x0101 = true)
theorem sysIdentify (x0 : _) : Statement (.sysIdentify x0) := by rintro s c q ⟨⟩; exact (rfl : definedOp 0x0102 = true)
theorem fence (x0 x1 x2 x3 : _) : Statement (.fence x0 x1 x2 x3) := by rintro s c q ⟨⟩; exact (rfl : definedOp 0x0103 = true)
theorem sysMode (x0 x1 : _) : Statement (.sysMode x0 x1) := by rintro s c q ⟨⟩; exact (rfl : definedOp 0x0104 = true)
theorem sysRestart (x0 x1 : _) : Statement (.sysRestart x0 x1) := by rintro s c q ⟨⟩; exact (rfl : definedOp 0x0105 = true)
theorem sysWindowSet (x0 x1 x2 : _) : Statement (.sysWindowSet x0 x1 x2) := by rintro s c q ⟨⟩; exact (rfl : definedOp 0x0106 = true)
theorem sysStateDump (x0 x1 x2 : _) : Statement (.sysStateDump x0 x1 x2) := by rintro s c q ⟨⟩; exact (rfl : definedOp 0x0107 = true)
theorem sysCmdHistory (x0 x1 : _) : Statement (.sysCmdHistory x0 x1) := by rintro s c q ⟨⟩; exact (rfl : definedOp 0x0108 = true)
theorem sysPeerConfig (x0 x1 : _) : Statement (.sysPeerConfig x0 x1) := by rintro s c q ⟨⟩; exact (rfl : definedOp 0x0109 = true)
theorem sysPeerRole (x0 x1 : _) : Statement (.sysPeerRole x0 x1) := by rintro s c q ⟨⟩; exact (rfl : definedOp 0x010A = true)
theorem sysInbandConfig (x0 x1 : _) : Statement (.sysInbandConfig x0 x1) := by rintro s c q ⟨⟩; exact (rfl : definedOp 0x010B = true)
theorem pwrStateActive (x0 : _) : Statement (.pwrStateActive x0) := by rintro s c q ⟨⟩; exact (rfl : definedOp 0x0201 = true)
theorem pwrStateStandby (x0 : _) : Statement (.pwrStateStandby x0) := by rintro s c q ⟨⟩; exact (rfl : definedOp 0x0201 = true)
theorem pwrStateOff (x0 : _) : Statement (.pwrStateOff x0) := by rintro s c q ⟨⟩; exact (rfl : definedOp 0x0201 = true)
theorem pwrIdleConfig (x0 x1 : _) : Statement (.pwrIdleConfig x0 x1) := by rintro s c q ⟨⟩; exact (rfl : definedOp 0x0202 = true)
theorem pwrWakeConfig (x0 x1 : _) : Statement (.pwrWakeConfig x0 x1) := by rintro s c q ⟨⟩; exact (rfl : definedOp 0x0203 = true)
theorem pwrDvfs (x0 x1 : _) : Statement (.pwrDvfs x0 x1) := by rintro s c q ⟨⟩; exact (rfl : definedOp 0x0204 = true)
theorem pwrTelemetry (x0 : _) : Statement (.pwrTelemetry x0) := by rintro s c q ⟨⟩; exact (rfl : definedOp 0x0205 = true)
theorem pwrBusConfig (x0 x1 : _) : Statement (.pwrBusConfig x0 x1) := by rintro s c q ⟨⟩; exact (rfl : definedOp 0x0206 = true)
theorem storeImageWrite (x0 x1 x2 : _) : Statement (.storeImageWrite x0 x1 x2) := by rintro s c q ⟨⟩; exact (rfl : definedOp 0x0301 = true)
theorem storeImageVerify (x0 : _) : Statement (.storeImageVerify x0) := by rintro s c q ⟨⟩; exact (rfl : definedOp 0x0302 = true)
theorem storeImageActivate (x0 : _) : Statement (.storeImageActivate x0) := by rintro s c q ⟨⟩; exact (rfl : definedOp 0x0303 = true)
theorem storeImageConfirm (x0 : _) : Statement (.storeImageConfirm x0) := by rintro s c q ⟨⟩; exact (rfl : definedOp 0x0304 = true)
theorem storeInfo (x0 : _) : Statement (.storeInfo x0) := by rintro s c q ⟨⟩; exact (rfl : definedOp 0x0305 = true)
theorem storeScrub (x0 : _) : Statement (.storeScrub x0) := by rintro s c q ⟨⟩; exact (rfl : definedOp 0x0306 = true)
theorem storeFormat (x0 x1 : _) : Statement (.storeFormat x0 x1) := by rintro s c q ⟨⟩; exact (rfl : definedOp 0x0307 = true)
theorem storePageRead (x0 x1 x2 : _) : Statement (.storePageRead x0 x1 x2) := by rintro s c q ⟨⟩; exact (rfl : definedOp 0x0308 = true)
theorem storePageProgram (x0 x1 x2 x3 : _) : Statement (.storePageProgram x0 x1 x2 x3) := by rintro s c q ⟨⟩; exact (rfl : definedOp 0x0309 = true)
theorem storeBlockErase (x0 x1 x2 : _) : Statement (.storeBlockErase x0 x1 x2) := by rintro s c q ⟨⟩; exact (rfl : definedOp 0x030A = true)
theorem evtRead (x0 x1 x2 : _) : Statement (.evtRead x0 x1 x2) := by rintro s c q ⟨⟩; exact (rfl : definedOp 0x0E01 = true)
theorem evtHostRecord (x0 x1 x2 x3 : _) : Statement (.evtHostRecord x0 x1 x2 x3) := by rintro s c q ⟨⟩; exact (rfl : definedOp 0x0E02 = true)
theorem evtFlush (x0 : _) : Statement (.evtFlush x0) := by rintro s c q ⟨⟩; exact (rfl : definedOp 0x0E03 = true)
theorem fltReportRead (x0 x1 : _) : Statement (.fltReportRead x0 x1) := by rintro s c q ⟨⟩; exact (rfl : definedOp 0x0E04 = true)
theorem fltRecoverResume (x0 : _) : Statement (.fltRecoverResume x0) := by rintro s c q ⟨⟩; exact (rfl : definedOp 0x0E05 = true)
theorem fltRecoverWarm (x0 : _) : Statement (.fltRecoverWarm x0) := by rintro s c q ⟨⟩; exact (rfl : definedOp 0x0E05 = true)
theorem fltRecoverCold (x0 : _) : Statement (.fltRecoverCold x0) := by rintro s c q ⟨⟩; exact (rfl : definedOp 0x0E05 = true)
theorem fltRecoverCluster (x0 x1 : _) : Statement (.fltRecoverCluster x0 x1) := by rintro s c q ⟨⟩; exact (rfl : definedOp 0x0E05 = true)
theorem fltConfig (x0 x1 : _) : Statement (.fltConfig x0 x1) := by rintro s c q ⟨⟩; exact (rfl : definedOp 0x0E06 = true)
theorem testLoopback (x0 x1 x2 x3 : _) : Statement (.testLoopback x0 x1 x2 x3) := by rintro s c q ⟨⟩; exact (rfl : definedOp 0x0F01 = true)
theorem testGen (x0 x1 : _) : Statement (.testGen x0 x1) := by rintro s c q ⟨⟩; exact (rfl : definedOp 0x0F02 = true)
theorem testCheck (x0 x1 : _) : Statement (.testCheck x0 x1) := by rintro s c q ⟨⟩; exact (rfl : definedOp 0x0F03 = true)
theorem testPerturb (x0 x1 x2 x3 x4 x5 x6 : _) : Statement (.testPerturb x0 x1 x2 x3 x4 x5 x6) := by rintro s c q ⟨⟩; exact (rfl : definedOp 0x0F04 = true)
theorem testInject (x0 x1 x2 x3 x4 : _) : Statement (.testInject x0 x1 x2 x3 x4) := by rintro s c q ⟨⟩; exact (rfl : definedOp 0x0F05 = true)
theorem registerWrite (x0 x1 : _) : Statement (.registerWrite x0 x1) := by rintro s c q ⟨⟩
theorem interruptClear (x0 x1 : _) : Statement (.interruptClear x0 x1) := by rintro s c q ⟨⟩
theorem nowSubRead : Statement .nowSubRead := by rintro s c q ⟨⟩
theorem cmdRingEnable (x0 : _) : Statement (.cmdRingEnable x0) := by rintro s c q ⟨⟩
theorem cmdRingDisable (x0 : _) : Statement (.cmdRingDisable x0) := by rintro s c q ⟨⟩
theorem cmdSubTailWrite (x0 x1 : _) : Statement (.cmdSubTailWrite x0 x1) := by rintro s c q ⟨⟩
theorem cmdCplHeadWrite (x0 x1 : _) : Statement (.cmdCplHeadWrite x0 x1) := by rintro s c q ⟨⟩
theorem workSubTailWrite (x0 x1 : _) : Statement (.workSubTailWrite x0 x1) := by rintro s c q ⟨⟩
theorem workResHeadWrite (x0 x1 : _) : Statement (.workResHeadWrite x0 x1) := by rintro s c q ⟨⟩
theorem learnHeadWrite (x0 : _) : Statement (.learnHeadWrite x0) := by rintro s c q ⟨⟩
theorem peerRxTailWrite (x0 : _) : Statement (.peerRxTailWrite x0) := by rintro s c q ⟨⟩
theorem mirrorAreaWrite (x0 x1 x2 x3 x4 : _) : Statement (.mirrorAreaWrite x0 x1 x2 x3 x4) := by rintro s c q ⟨⟩
theorem cmdSubmissionRead (x0 x1 x2 : _) : Statement (.cmdSubmissionRead x0 x1 x2) := by rintro s c q ⟨⟩
theorem commandCompletion : Statement .commandCompletion := by rintro s c q ⟨⟩
theorem inbandCommand (x0 x1 : _) : Statement (.inbandCommand x0 x1) := by rintro s c q ⟨⟩
theorem peldelWrite (x0 : _) : Statement (.peldelWrite x0) := by rintro s c q ⟨⟩
theorem peldelRead : Statement .peldelRead := by rintro s c q ⟨⟩
theorem peldelAddressMatch : Statement .peldelAddressMatch := by rintro s c q ⟨⟩
theorem atomicCommit (x0 : _) : Statement (.atomicCommit x0) := by rintro s c q ⟨⟩
theorem fenceReturn (x0 : _) : Statement (.fenceReturn x0) := by rintro s c q ⟨⟩
theorem mirrorRecordWrite : Statement .mirrorRecordWrite := by rintro s c q ⟨⟩
theorem mirrorApply : Statement .mirrorApply := by rintro s c q ⟨⟩
theorem peerPoll (x0 : _) : Statement (.peerPoll x0) := by rintro s c q ⟨⟩
theorem peerLost : Statement .peerLost := by rintro s c q ⟨⟩
theorem functionLevelReset (x0 : _) : Statement (.functionLevelReset x0) := by rintro s c q ⟨⟩
theorem cfoMeasurement (x0 x1 : _) : Statement (.cfoMeasurement x0 x1) := by rintro s c q ⟨⟩
theorem deferredFineTune (x0 : _) : Statement (.deferredFineTune x0) := by rintro s c q ⟨⟩
theorem fineTuneAck (x0 : _) : Statement (.fineTuneAck x0) := by rintro s c q ⟨⟩
theorem setFreqAck (x0 : _) : Statement (.setFreqAck x0) := by rintro s c q ⟨⟩
theorem laserFreqStable (x0 : _) : Statement (.laserFreqStable x0) := by rintro s c q ⟨⟩
theorem laserBusFail (x0 : _) : Statement (.laserBusFail x0) := by rintro s c q ⟨⟩
theorem laserBusPoll (x0 x1 : _) : Statement (.laserBusPoll x0 x1) := by rintro s c q ⟨⟩
theorem lossOfLight (x0 x1 : _) : Statement (.lossOfLight x0 x1) := by rintro s c q ⟨⟩
theorem lightReturn (x0 x1 : _) : Statement (.lightReturn x0 x1) := by rintro s c q ⟨⟩
theorem dillPassEnd (x0 x1 : _) : Statement (.dillPassEnd x0 x1) := by rintro s c q ⟨⟩
theorem applicationPoint (x0 : _) : Statement (.applicationPoint x0) := by rintro s c q ⟨⟩
theorem settlingWindowEnd (x0 x1 : _) : Statement (.settlingWindowEnd x0 x1) := by rintro s c q ⟨⟩
theorem pairDecoded (x0 x1 x2 x3 x4 x5 x6 x7 x8 : _) : Statement (.pairDecoded x0 x1 x2 x3 x4 x5 x6 x7 x8) := by rintro s c q ⟨⟩
theorem qualityUpdate (x0 x1 x2 x3 x4 x5 : _) : Statement (.qualityUpdate x0 x1 x2 x3 x4 x5) := by rintro s c q ⟨⟩
theorem captureTrigger (x0 x1 : _) : Statement (.captureTrigger x0 x1) := by rintro s c q ⟨⟩
theorem captureDone (x0 x1 x2 : _) : Statement (.captureDone x0 x1 x2) := by rintro s c q ⟨⟩
theorem superframeStart (x0 x1 : _) : Statement (.superframeStart x0 x1) := by rintro s c q ⟨⟩
theorem upSuperframeStart (x0 x1 : _) : Statement (.upSuperframeStart x0 x1) := by rintro s c q ⟨⟩
theorem sectorHeader (x0 x1 x2 x3 x4 x5 x6 : _) : Statement (.sectorHeader x0 x1 x2 x3 x4 x5 x6) := by rintro s c q ⟨⟩
theorem superframeHeader (x0 : _) : Statement (.superframeHeader x0) := by rintro s c q ⟨⟩
theorem directoryEntry (x0 x1 : _) : Statement (.directoryEntry x0 x1) := by rintro s c q ⟨⟩
theorem grant (x0 x1 : _) : Statement (.grant x0 x1) := by rintro s c q ⟨⟩
theorem discovery (x0 x1 x2 : _) : Statement (.discovery x0 x1 x2) := by rintro s c q ⟨⟩
theorem assign (x0 : _) : Statement (.assign x0) := by rintro s c q ⟨⟩
theorem range (x0 : _) : Statement (.range x0) := by rintro s c q ⟨⟩
theorem profile (x0 : _) : Statement (.profile x0) := by rintro s c q ⟨⟩
theorem dozeAck (x0 : _) : Statement (.dozeAck x0) := by rintro s c q ⟨⟩
theorem deregister (x0 : _) : Statement (.deregister x0) := by rintro s c q ⟨⟩
theorem hostMessage (x0 : _) : Statement (.hostMessage x0) := by rintro s c q ⟨⟩
theorem remoteIndications (x0 : _) : Statement (.remoteIndications x0) := by rintro s c q ⟨⟩
theorem justificationCount (x0 x1 : _) : Statement (.justificationCount x0 x1) := by rintro s c q ⟨⟩
theorem overheadBlockRx (x0 x1 : _) : Statement (.overheadBlockRx x0 x1) := by rintro s c q ⟨⟩
theorem ospBlockOut (x0 : _) : Statement (.ospBlockOut x0) := by rintro s c q ⟨⟩
theorem ospBlockIn (x0 x1 : _) : Statement (.ospBlockIn x0 x1) := by rintro s c q ⟨⟩
theorem envelope (x0 x1 x2 x3 x4 x5 x6 : _) : Statement (.envelope x0 x1 x2 x3 x4 x5 x6) := by rintro s c q ⟨⟩
theorem tribFrameTx (x0 x1 x2 : _) : Statement (.tribFrameTx x0 x1 x2) := by rintro s c q ⟨⟩
theorem tribFrameRx (x0 x1 : _) : Statement (.tribFrameRx x0 x1) := by rintro s c q ⟨⟩
theorem pmSecond (x0 x1 : _) : Statement (.pmSecond x0 x1) := by rintro s c q ⟨⟩
theorem pmBinOpen (x0 x1 x2 : _) : Statement (.pmBinOpen x0 x1 x2) := by rintro s c q ⟨⟩
theorem pmBinClosed (x0 x1 x2 : _) : Statement (.pmBinClosed x0 x1 x2) := by rintro s c q ⟨⟩
theorem burstBodyBuild (x0 : _) : Statement (.burstBodyBuild x0) := by rintro s c q ⟨⟩
theorem burstStart (x0 : _) : Statement (.burstStart x0) := by rintro s c q ⟨⟩
theorem burstEnd (x0 : _) : Statement (.burstEnd x0) := by rintro s c q ⟨⟩
theorem presenceBurst (x0 : _) : Statement (.presenceBurst x0) := by rintro s c q ⟨⟩
theorem txPowerUp (x0 : _) : Statement (.txPowerUp x0) := by rintro s c q ⟨⟩
theorem rangingTimeout (x0 : _) : Statement (.rangingTimeout x0) := by rintro s c q ⟨⟩
theorem reregLimitExpiry (x0 : _) : Statement (.reregLimitExpiry x0) := by rintro s c q ⟨⟩
theorem returnEntryTimeout (x0 : _) : Statement (.returnEntryTimeout x0) := by rintro s c q ⟨⟩
theorem assignWaitExpiry (x0 x1 : _) : Statement (.assignWaitExpiry x0 x1) := by rintro s c q ⟨⟩
theorem dirGraceEnd (x0 : _) : Statement (.dirGraceEnd x0) := by rintro s c q ⟨⟩
theorem dozeMissed (x0 : _) : Statement (.dozeMissed x0) := by rintro s c q ⟨⟩
theorem holdoverDillRestart (x0 : _) : Statement (.holdoverDillRestart x0) := by rintro s c q ⟨⟩
theorem bayTrip (x0 x1 : _) : Statement (.bayTrip x0 x1) := by rintro s c q ⟨⟩
theorem baySyncTrip (x0 : _) : Statement (.baySyncTrip x0) := by rintro s c q ⟨⟩
theorem bayMclkClear (x0 : _) : Statement (.bayMclkClear x0) := by rintro s c q ⟨⟩
theorem txDisableFall (x0 : _) : Statement (.txDisableFall x0) := by rintro s c q ⟨⟩
theorem txDisableRise (x0 : _) : Statement (.txDisableRise x0) := by rintro s c q ⟨⟩
theorem domainLossTime (x0 x1 : _) : Statement (.domainLossTime x0 x1) := by rintro s c q ⟨⟩
theorem holdoverLimitExpiry (x0 : _) : Statement (.holdoverLimitExpiry x0) := by rintro s c q ⟨⟩
theorem revertTimer : Statement .revertTimer := by rintro s c q ⟨⟩
theorem slewComplete : Statement .slewComplete := by rintro s c q ⟨⟩
theorem timeinPpsEdge (x0 x1 x2 x3 : _) : Statement (.timeinPpsEdge x0 x1 x2 x3) := by rintro s c q ⟨⟩
theorem timeinLost (x0 x1 : _) : Statement (.timeinLost x0 x1) := by rintro s c q ⟨⟩
theorem pulseRise (x0 : _) : Statement (.pulseRise x0) := by rintro s c q ⟨⟩
theorem pulseFall (x0 : _) : Statement (.pulseFall x0) := by rintro s c q ⟨⟩
theorem timedLaunch (x0 x1 : _) : Statement (.timedLaunch x0 x1) := by rintro s c q ⟨⟩
theorem timedLpiExit (x0 : _) : Statement (.timedLpiExit x0) := by rintro s c q ⟨⟩
theorem confirmation (x0 x1 x2 : _) : Statement (.confirmation x0 x1 x2) := by rintro s c q ⟨⟩
theorem policerCommit (x0 : _) : Statement (.policerCommit x0) := by rintro s c q ⟨⟩
theorem retractDeadline (x0 : _) : Statement (.retractDeadline x0) := by rintro s c q ⟨⟩
theorem drainPoint : Statement .drainPoint := by rintro s c q ⟨⟩
theorem laneSignalChange (x0 x1 : _) : Statement (.laneSignalChange x0 x1) := by rintro s c q ⟨⟩
theorem trainingDone (x0 x1 : _) : Statement (.trainingDone x0 x1) := by rintro s c q ⟨⟩
theorem trainingTimeout (x0 x1 : _) : Statement (.trainingTimeout x0 x1) := by rintro s c q ⟨⟩
theorem tapRequest (x0 x1 : _) : Statement (.tapRequest x0 x1) := by rintro s c q ⟨⟩
theorem alignLock (x0 : _) : Statement (.alignLock x0) := by rintro s c q ⟨⟩
theorem alignTimeout (x0 : _) : Statement (.alignTimeout x0) := by rintro s c q ⟨⟩
theorem laneLockLoss (x0 : _) : Statement (.laneLockLoss x0) := by rintro s c q ⟨⟩
theorem frtReqReceived (x0 : _) : Statement (.frtReqReceived x0) := by rintro s c q ⟨⟩
theorem frtPartnerRecognised (x0 : _) : Statement (.frtPartnerRecognised x0) := by rintro s c q ⟨⟩
theorem frtDone (x0 : _) : Statement (.frtDone x0) := by rintro s c q ⟨⟩
theorem frtNoAnswer (x0 : _) : Statement (.frtNoAnswer x0) := by rintro s c q ⟨⟩
theorem frtLimitExpiry (x0 : _) : Statement (.frtLimitExpiry x0) := by rintro s c q ⟨⟩
theorem remoteFault (x0 x1 : _) : Statement (.remoteFault x0 x1) := by rintro s c q ⟨⟩
theorem lpiTxEntry (x0 : _) : Statement (.lpiTxEntry x0) := by rintro s c q ⟨⟩
theorem lpiRxEntry (x0 : _) : Statement (.lpiRxEntry x0) := by rintro s c q ⟨⟩
theorem wakeDetect (x0 : _) : Statement (.wakeDetect x0) := by rintro s c q ⟨⟩
theorem wakeSendEnd (x0 : _) : Statement (.wakeSendEnd x0) := by rintro s c q ⟨⟩
theorem frameRx (x0 x1 x2 x3 : _) : Statement (.frameRx x0 x1 x2 x3) := by rintro s c q ⟨⟩
theorem pauseRx (x0 x1 x2 x3 : _) : Statement (.pauseRx x0 x1 x2 x3) := by rintro s c q ⟨⟩
theorem pauseExpiry (x0 x1 : _) : Statement (.pauseExpiry x0 x1) := by rintro s c q ⟨⟩
theorem pauseRefresh (x0 x1 : _) : Statement (.pauseRefresh x0 x1) := by rintro s c q ⟨⟩
theorem pauseWdog (x0 x1 : _) : Statement (.pauseWdog x0 x1) := by rintro s c q ⟨⟩
theorem pauseWdogEnd (x0 x1 : _) : Statement (.pauseWdogEnd x0 x1) := by rintro s c q ⟨⟩
theorem macTxStart (x0 x1 : _) : Statement (.macTxStart x0 x1) := by rintro s c q ⟨⟩
theorem frameTxEnd (x0 : _) : Statement (.frameTxEnd x0) := by rintro s c q ⟨⟩
theorem txUnderrun (x0 x1 : _) : Statement (.txUnderrun x0 x1) := by rintro s c q ⟨⟩
theorem parse (x0 x1 x2 : _) : Statement (.parse x0 x1 x2) := by rintro s c q ⟨⟩
theorem hbmReadReturn (x0 x1 : _) : Statement (.hbmReadReturn x0 x1) := by rintro s c q ⟨⟩
theorem replicaCheck (x0 : _) : Statement (.replicaCheck x0) := by rintro s c q ⟨⟩
theorem bankCopyDone : Statement .bankCopyDone := by rintro s c q ⟨⟩
theorem bankLoad (x0 : _) : Statement (.bankLoad x0) := by rintro s c q ⟨⟩
theorem excRefill : Statement .excRefill := by rintro s c q ⟨⟩
theorem learnHoldExpiry : Statement .learnHoldExpiry := by rintro s c q ⟨⟩
theorem filterRebuilt : Statement .filterRebuilt := by rintro s c q ⟨⟩
theorem snapshotDone (x0 x1 : _) : Statement (.snapshotDone x0 x1) := by rintro s c q ⟨⟩
theorem restored : Statement .restored := by rintro s c q ⟨⟩
theorem admission (x0 x1 : _) : Statement (.admission x0 x1) := by rintro s c q ⟨⟩
theorem flushDone (x0 : _) : Statement (.flushDone x0) := by rintro s c q ⟨⟩
theorem downFlushTimer (x0 : _) : Statement (.downFlushTimer x0) := by rintro s c q ⟨⟩
theorem sageExamine (x0 x1 : _) : Statement (.sageExamine x0 x1) := by rintro s c q ⟨⟩
theorem spillPrefetch (x0 : _) : Statement (.spillPrefetch x0) := by rintro s c q ⟨⟩
theorem bpmCacheRefill (x0 : _) : Statement (.bpmCacheRefill x0) := by rintro s c q ⟨⟩
theorem bpmReclaim (x0 : _) : Statement (.bpmReclaim x0) := by rintro s c q ⟨⟩
theorem bpmAuditTimer : Statement .bpmAuditTimer := by rintro s c q ⟨⟩
theorem bucketRefill : Statement .bucketRefill := by rintro s c q ⟨⟩
theorem schedSelect (x0 : _) : Statement (.schedSelect x0) := by rintro s c q ⟨⟩
theorem frameDebit (x0 : _) : Statement (.frameDebit x0) := by rintro s c q ⟨⟩
theorem cipherJobDone (x0 : _) : Statement (.cipherJobDone x0) := by rintro s c q ⟨⟩
theorem keyDerivation : Statement .keyDerivation := by rintro s c q ⟨⟩
theorem pnReserve (x0 x1 x2 : _) : Statement (.pnReserve x0 x1 x2) := by rintro s c q ⟨⟩
theorem submissionRead (x0 x1 : _) : Statement (.submissionRead x0 x1) := by rintro s c q ⟨⟩
theorem internalItem (x0 : _) : Statement (.internalItem x0) := by rintro s c q ⟨⟩
theorem coreDispatch (x0 : _) : Statement (.coreDispatch x0) := by rintro s c q ⟨⟩
theorem preemption (x0 : _) : Statement (.preemption x0) := by rintro s c q ⟨⟩
theorem itemEnd (x0 x1 x2 x3 x4 : _) : Statement (.itemEnd x0 x1 x2 x3 x4) := by rintro s c q ⟨⟩
theorem itemTimeout (x0 : _) : Statement (.itemTimeout x0) := by rintro s c q ⟨⟩
theorem lockWaitTimeout (x0 : _) : Statement (.lockWaitTimeout x0) := by rintro s c q ⟨⟩
theorem powerGood : Statement .powerGood := by rintro s c q ⟨⟩
theorem bootPhase (x0 : _) : Statement (.bootPhase x0) := by rintro s c q ⟨⟩
theorem fuseReread (x0 x1 : _) : Statement (.fuseReread x0 x1) := by rintro s c q ⟨⟩
theorem nandOperationDone (x0 x1 : _) : Statement (.nandOperationDone x0 x1) := by rintro s c q ⟨⟩
theorem journalPageTimer : Statement .journalPageTimer := by rintro s c q ⟨⟩
theorem patrolRead (x0 x1 x2 : _) : Statement (.patrolRead x0 x1 x2) := by rintro s c q ⟨⟩
theorem pfailAssert : Statement .pfailAssert := by rintro s c q ⟨⟩
theorem pfailRelease : Statement .pfailRelease := by rintro s c q ⟨⟩
theorem railTimeout : Statement .railTimeout := by rintro s c q ⟨⟩
theorem pwrGoodFall : Statement .pwrGoodFall := by rintro s c q ⟨⟩
theorem vaonApply (x0 x1 : _) : Statement (.vaonApply x0 x1) := by rintro s c q ⟨⟩
theorem sysResetAssert : Statement .sysResetAssert := by rintro s c q ⟨⟩
theorem dvfsLoadWindow (x0 : _) : Statement (.dvfsLoadWindow x0) := by rintro s c q ⟨⟩
theorem voutPoll (x0 x1 : _) : Statement (.voutPoll x0 x1) := by rintro s c q ⟨⟩
theorem dvfsSettleDone : Statement .dvfsSettleDone := by rintro s c q ⟨⟩
theorem dvfsFail : Statement .dvfsFail := by rintro s c q ⟨⟩
theorem vcoreDroop (x0 : _) : Statement (.vcoreDroop x0) := by rintro s c q ⟨⟩
theorem throttleEnd : Statement .throttleEnd := by rintro s c q ⟨⟩
theorem pmbusFault (x0 x1 : _) : Statement (.pmbusFault x0 x1) := by rintro s c q ⟨⟩
theorem pmbAlert : Statement .pmbAlert := by rintro s c q ⟨⟩
theorem idleTimerExpiry : Statement .idleTimerExpiry := by rintro s c q ⟨⟩
theorem standbyPhaseEnd : Statement .standbyPhaseEnd := by rintro s c q ⟨⟩
theorem wake (x0 : _) : Statement (.wake x0) := by rintro s c q ⟨⟩
theorem powerdownPhaseEnd : Statement .powerdownPhaseEnd := by rintro s c q ⟨⟩
theorem clusterDozeEntry (x0 x1 : _) : Statement (.clusterDozeEntry x0 x1) := by rintro s c q ⟨⟩
theorem clusterDozeWake (x0 : _) : Statement (.clusterDozeWake x0) := by rintro s c q ⟨⟩
theorem clockLoss (x0 x1 : _) : Statement (.clockLoss x0 x1) := by rintro s c q ⟨⟩
theorem errorReport (x0 x1 x2 : _) : Statement (.errorReport x0 x1 x2) := by rintro s c q ⟨⟩
theorem recoveryEnd (x0 : _) : Statement (.recoveryEnd x0) := by rintro s c q ⟨⟩
theorem recoveryTimeout (x0 : _) : Statement (.recoveryTimeout x0) := by rintro s c q ⟨⟩
theorem faultWindowClose : Statement .faultWindowClose := by rintro s c q ⟨⟩
theorem tempWarn (x0 x1 : _) : Statement (.tempWarn x0 x1) := by rintro s c q ⟨⟩
theorem lfHoldEnd : Statement .lfHoldEnd := by rintro s c q ⟨⟩
theorem eventRecord : Statement .eventRecord := by rintro s c q ⟨⟩
theorem eventsLost : Statement .eventsLost := by rintro s c q ⟨⟩
theorem evtNotify : Statement .evtNotify := by rintro s c q ⟨⟩
theorem genFrame (x0 : _) : Statement (.genFrame x0) := by rintro s c q ⟨⟩
theorem perturbOff (x0 : _) : Statement (.perturbOff x0) := by rintro s c q ⟨⟩
theorem tapInstruction (x0 : _) : Statement (.tapInstruction x0) := by rintro s c q ⟨⟩
theorem lpiRxExit (x0 : _) : Statement (.lpiRxExit x0) := by rintro s c q ⟨⟩

end Sys2Proof.Laws.CommandOpcode
end

