-- ==== Sys2Proof/Safety.lean ====
section
/-!
DEFINITION. What a sound state of the block is, in the terms that statements use: register fields within their widths, counters within
theirs, both tables in their canonical form; and when a command is taken up at all.
-/
namespace Sys2Proof.Machine

open Sys2Proof

/-- The register file and the counters are as the manual lets them be: indices strictly rising, no field listed at its reset value and no
counter at 0, every field below 2^width (R3, R4), no counter beyond its stop value (R37). -/
structure RegInv (s : State) : Prop where
  regsSorted : Tab.sorted s.regs = true
  ctrsSorted : Tab.sorted s.ctrs = true
  regsLean : ∀ (f : Fld) (i j : Nat), (f.key i j, f.resetAt i j) ∉ s.regs
  ctrsLean : ∀ (c : Ctr) (i j : Nat), (c.key i j, 0) ∉ s.ctrs
  width : ∀ (f : Fld) (i j : Nat), s.get f i j < 2 ^ f.row.w
  stop : ∀ (c : Ctr) (i j : Nat), s.ctr c i j ≤ ctrMax

/-- A Jadex command is taken up: STANDBY holds it not (R380), the checks of R310 that look at no parameter pass, no participant restarts (R311), and the journal
takes a persistent command's record (R348, R353). -/
def takenUp (c : CmdInfo) (q : Req) (s : State) : Bool :=
  !(heldBack c s) && gate c q s == none && busyPart c q s == none &&
    !(c.persist && q.src != .journal && (journalFull q s || journalStopped s))

/-- An atomic command is taken up: nothing staged shares a participant with it, and the checks of R310 that look at no parameter pass. A
participant that restarts refuses at the commit, not here (R313). -/
def takenAtomic (c : CmdInfo) (q : Req) (s : State) : Bool :=
  !(heldBack { c with parts := c.staging } s) && takenUp { c with parts := [] } q s

/-- The commands of the queue are well-formed. -/
def QueueWf (wf : Instr → Bool) (s : State) : Prop := ∀ c ∈ s.pending, wf c = true

end Sys2Proof.Machine
end

