-- ==== Sys2Proof/Certificates/Slice0/Obligations.lean ====
section
/-!
DEFINITION. The statements about the model, for the provers. A clause gives, under conditions on the state and the operands alone, the
whole next state of a row: what does not stand in it is as it was, which is the row's frame.
-/
namespace Sys2Proof.Machine

open Sys2Proof

/-- Row i completes at s, with the next state t. -/
abbrev Next (i : Instr) (s t : State) : Prop := exec i s = .next t

/-- Command i completes with status DONE: it leaves t, and its completion (`complete`, see `CompletionOfACommand`) follows, whose reply
carries `data`. -/
abbrev Done (i : Instr) (c : CmdInfo) (q : Req) (keys : List Nat) (s t : State) (data : List Nat := []) : Prop :=
  exec i s = .next (complete c q keys 0 { state := t, data := data })

/-- Atomic command i is staged in its participants, which ATOMIC_COMMIT commits or rolls back (R313). -/
abbrev Stages (i : Instr) (c : CmdInfo) (q : Req) (s : State) (act : Act) : Prop :=
  exec i s = .next (s.setCmd (fun m => { m with staged := m.staged ++ [⟨q, c.op, c.staging, c.persist, act, []⟩] }))

/-- A best-effort command applies its entries one at a time, in order, each keeping its effect: DONE where all succeed, else DONE_PARTIAL
with the number that failed and a status for each (R313, R314). -/
def DoneEach {α : Type} (i : Instr) (c : CmdInfo) (q : Req) (keys : List Nat) (one : State → α → State × Nat) (es : List α) (s : State) : Prop :=
  ((∀ st ∈ (applyEach one s es).2, st = 0) → Done i c q keys s (applyEach one s es).1) ∧
  (∀ bad, bad = ((applyEach one s es).2.filter (· ≠ 0)).length → bad ≠ 0 → Next i s (complete c q keys bad
    { state := (applyEach one s es).1, status := stPartial, detail := min bad 0xFFFF, data := partialData (applyEach one s es).2 }))

/-- The function field at a holds a tree message of a type that its row handles, and it is sound: the field is usable, its check fits, it
is addressed to the terminal, its length byte is in range, and a unicast one carries the terminal's epoch (R48, R49, R55, R83, R96). -/
def goodMessage (a : FieldAt) (types : Nat → Bool) (m : TreeMsg) (s : State) : Prop :=
  32 ≤ a.sector ∧ a.sector ≤ 63 ∧ fieldUsable a s = true ∧ msgOf (fieldBytes a s) = m ∧ types m.type = true ∧ m.type ≠ 0 ∧
    field (fieldBytes a s) 60 4 = crc32c ((fieldBytes a s).take 60) ∧ taken a m s = true ∧ m.blen ≤ 54 ∧
    (m.bcast = false → m.epoch = s.get .LINE_TREE_ID_EPOCH a.port)

/-- The rows of the tree messages, each with the types it handles. -/
def messageRows (a : FieldAt) (x y : Nat) : List (Instr × (Nat → Bool)) :=
  [(.discovery a x y, (· == 1)), (.assign a, (· == 2)), (.range a, (· == 3)), (.profile a, (· == 4)), (.dozeAck a, (· == 5)),
   (.deregister a, (· == 6)), (.hostMessage a, fun type => decide (type = 0 ∨ 7 ≤ type))]

end Sys2Proof.Machine

open Sys2Proof Sys2Proof.Machine

/-- The line-port commands of Table 1.7. -/
def Obligations.LineModemCommandsComplete : Prop :=
  -- LINE_CONFIG (R30, R39): the fields masked take their values, and each port acts on its new NOMINAL_MHZ; a retune that is not allowed
  -- is refused.
  (∀ (q : Req) (es : List WEntry) (s : State), takenUp ciLineConfig q s = true → wErr lineConfigAllow es = none →
    ((∀ w ∈ wWrites .LINE_LASER_NOMINAL_MHZ es, w.2.2 = s.get .LINE_LASER_NOMINAL_MHZ w.1 ∨
        smallStep (s.get .LINE_LASER_NOMINAL_MHZ w.1) w.2.2 = true ∨ retuneAllowed q w.1 s = true) →
      Done (.lineConfig q es) ciLineConfig q (es.map (·.off)) s ((List.range 4).foldl (fun t n =>
        newNominal n (s.get .LINE_LASER_NOMINAL_MHZ n) (t.get .LINE_LASER_NOMINAL_MHZ n) t) (wApplyAll s es))) ∧
    (∀ w ∈ wWrites .LINE_LASER_NOMINAL_MHZ es, w.2.2 ≠ s.get .LINE_LASER_NOMINAL_MHZ w.1 →
      smallStep (s.get .LINE_LASER_NOMINAL_MHZ w.1) w.2.2 = false → retuneAllowed q w.1 s = false →
      Next (.lineConfig q es) s (reject ciLineConfig q stState 0 s))) ∧
  -- A new NOMINAL_MHZ (R39, Table 1.11): none, nothing; 0, the laser goes off; a step of at most 50 MHz, one FINE_TUNE; any other, a retune.
  (∀ (n old new : Nat) (s : State),
    newNominal n old old s = s ∧
    (old ≠ 0 → newNominal n old 0 s = laserOutput n false (s.setLine n (fun l => { l with wantMHz := 0, retuning := false }))) ∧
    (new ≠ old → smallStep old new = true →
      newNominal n old new s = sendFt n (clamp (-250) 250 ((s.line n).ft + roundDiv ((new : Int) - old) 10)) s) ∧
    (new ≠ old → new ≠ 0 → smallStep old new = false → newNominal n old new s = startRetune n s)) ∧
  -- LINE_SEARCH (R26): a start while Dill runs changes nothing; a stop ends the search.
  (∀ (q : Req) (n : Nat) (s : State), n < 4 → takenUp (ciLineSearch n) q s = true →
    (s.get .LINE_STATUS_SEARCHING n = 1 → Done (.lineSearch q n true) (ciLineSearch n) q [n] s s) ∧
    (s.get .LINE_STATUS_SEARCHING n ≠ 1 → Done (.lineSearch q n true) (ciLineSearch n) q [n] s (startSearch n 0x0402 s)) ∧
    Done (.lineSearch q n false) (ciLineSearch n) q [n] s ((s.set .LINE_STATUS_SEARCHING 0 n).stop (.dillPass n))) ∧
  -- LINE_RELEVEL (R25): a step is requested; one that is pending absorbs it; refused while the AGC is not frozen.
  (∀ (q : Req) (n : Nat) (s : State), n < 4 → takenUp (ciLineRelevel n) q s = true →
    (s.get .LINE_AGC_FROZEN n ≠ 1 → Next (.lineRelevel q n) s (reject (ciLineRelevel n) q stState 0 s)) ∧
    (s.get .LINE_AGC_FROZEN n = 1 → s.get .LINE_AGC_STEP_PENDING n = 1 →
      Done (.lineRelevel q n) (ciLineRelevel n) q [n] s s) ∧
    (s.get .LINE_AGC_FROZEN n = 1 → s.get .LINE_AGC_STEP_PENDING n ≠ 1 →
      Done (.lineRelevel q n) (ciLineRelevel n) q [n] s
        ((s.set .LINE_AGC_STEP_PENDING 1 n).setLine n (fun l => { l with stepDue := false })))) ∧
  -- LINE_SET_CD (R27): the swap waits for its application point and keeps that of one that is pending; the reply waits with it.
  (∀ (q : Req) (n : Nat) (cd : Int) (s : State), n < 4 → takenUp (ciLineSetCd n) q s = true → -12000 ≤ cd → cd ≤ 12000 →
    ((s.line n).cdSwap = none →
      Next (.lineSetCd q n cd) s (s.setLine n (fun l => { l with cdSwap := some ⟨cd, false, [q]⟩ }))) ∧
    (∀ p, (s.line n).cdSwap = some p →
      Next (.lineSetCd q n cd) s (s.setLine n (fun l => { l with cdSwap := some ⟨cd, p.due, p.waiters ++ [q]⟩ })))) ∧
  -- LINE_EQ_RESTART (R27): likewise, for a mask of subcarriers.
  (∀ (q : Req) (n mask : Nat) (s : State), n < 4 → takenUp (ciLineEqRestart n) q s = true → mask < 65536 →
    ((s.line n).eqSwap = none →
      Next (.lineEqRestart q n mask) s (s.setLine n (fun l => { l with eqSwap := some ⟨mask, false, [q]⟩ }))) ∧
    (∀ p, (s.line n).eqSwap = some p →
      Next (.lineEqRestart q n mask) s (s.setLine n (fun l => { l with eqSwap := some ⟨mask, p.due, p.waiters ++ [q]⟩ })))) ∧
  -- LINE_SC_ENABLE (R40): a mask that holds the control subcarrier waits for its application point; one without it is refused.
  (∀ (q : Req) (n mask : Nat) (s : State), n < 4 → takenUp (ciLineScEnable n) q s = true → mask < 65536 →
    ((s.line n).controlKnown = false ∨ bit mask (s.get .LINE_STATUS_CONTROL_SC n) = true →
      Next (.lineScEnable q n mask) s
        (s.setLine n (fun l => { l with scSwaps := l.scSwaps ++ [(⟨(mask : Int), false, [q]⟩ : PendingSwap)] }))) ∧
    ((s.line n).controlKnown = true → bit mask (s.get .LINE_STATUS_CONTROL_SC n) = false →
      Next (.lineScEnable q n mask) s (reject (ciLineScEnable n) q stParam 24 s))) ∧
  -- LINE_LASER_RETUNE (R39): refused while no frequency is set, and outside OFFLINE and LISTEN without FORCE.
  (∀ (q : Req) (n : Nat) (s : State), n < 4 → takenUp (ciLineLaserRetune n) q s = true →
    (s.get .LINE_LASER_NOMINAL_MHZ n ≠ 0 → (q.force = true ∨ s.tree n = tsOffline ∨ s.tree n = tsListen) →
      Done (.lineLaserRetune q n) (ciLineLaserRetune n) q [n] s (startRetune n s)) ∧
    (s.get .LINE_LASER_NOMINAL_MHZ n = 0 ∨ (q.force = false ∧ s.tree n ≠ tsOffline ∧ s.tree n ≠ tsListen) →
      Next (.lineLaserRetune q n) s (reject (ciLineLaserRetune n) q stState 0 s))) ∧
  -- LINE_CAPTURE (R38): CAP_CTL takes the parameters; ARMED as asked, DONE clears; with TRIGGER 0 the command that arms is the trigger (the
  -- model's choice, log entry 126).
  (∀ (q : Req) (n : Nat) (arm : Bool) (point sc trigger pre trigSf : Nat) (s : State), n < 4 → takenUp (ciLineCapture n) q s = true →
    point ≤ 1 → sc < 16 → trigger ≤ 5 → pre < 128 → trigSf < 2 ^ 25 →
    Done (.lineCapture q n arm point sc trigger pre trigSf) (ciLineCapture n) q [n] s
      ((s.setAll [(.LINE_CAP_CTL_POINT, point), (.LINE_CAP_CTL_SC, sc), (.LINE_CAP_CTL_TRIGGER, trigger), (.LINE_CAP_CTL_PRE, pre),
        (.LINE_CAP_CTL_TRIG_SF, trigSf), (.LINE_CAP_STATUS_DONE, 0), (.LINE_CAP_STATUS_ARMED, b2n arm)] n).setLine n
          (fun l => { l with trigger := arm && trigger == 0, triggered := false }))) ∧
  -- LINE_EVT_ENABLE (R41): the enable bits masked take their values.
  (∀ (q : Req) (es : List WEntry) (s : State), takenUp ciLineEvtEnable q s = true → wErr lineEvtAllow es = none →
    Done (.lineEvtEnable q es) ciLineEvtEnable q (es.map (·.off)) s (wApplyAll s es))

/-- The laser's frequency and its bus (R20 to R22, R32, R39). -/
def Obligations.LaserBusEventsComplete : Prop :=
  -- CFO_MEASUREMENT (R20, R21): OFFSET_KHZ, carrier lock, the limit condition with its event; then, where the loop runs, a FINE_TUNE.
  (∀ (n : Fin 4) (k : Int) (s u t : State),
    u = (carrierLock n k (s.setI .LINE_CFO_OFFSET_KHZ k n)).set .LINE_STATUS_FT_LIMIT (b2n (ftLimit (s.line n).ft (roundDiv k 10000))) n →
    t = u.when (ftLimit (s.line n).ft (roundDiv k 10000) && !(s.isSet .LINE_STATUS_FT_LIMIT n)) (fun u =>
      (u.raise 0x0407 [n, ofSigned 32 (roundDiv k 1000)]).irq .LINE_EVT_STATUS_FT_LIMIT .LINE_EVT_ENABLE_FT_LIMIT (4 + n) n) →
    (t.get .LINE_LASER_FT_ENABLE n = 1 → t.get .LINE_STATUS_LASER_BUS_OK n = 1 → t.get .LINE_LASER_NOMINAL_MHZ n ≠ 0 →
      t.get .FLT_STATUS_SAFE ≠ 1 → (t.line n).resuming = false →
      Next (.cfoMeasurement n k) s (sendFt n (clamp (-250) 250 ((s.line n).ft + clamp (-5) 5 (roundDiv k 10000))) t)) ∧
    (t.get .LINE_LASER_FT_ENABLE n ≠ 1 ∨ t.get .LINE_STATUS_LASER_BUS_OK n ≠ 1 ∨ t.get .LINE_LASER_NOMINAL_MHZ n = 0 ∨
      t.get .FLT_STATUS_SAFE = 1 ∨ (t.line n).resuming = true → Next (.cfoMeasurement n k) s t)) ∧
  -- Carrier lock (R21): declared by the third measurement in succession below 50 MHz, lost by the second of 100 MHz or more.
  (∀ (n : Nat) (k : Int) (s : State),
    (k.natAbs < 50000 → (s.line n).blind = false → s.get .LINE_STATUS_CARRIER_LOCK n ≠ 1 → 2 ≤ (s.line n).goodRun →
      carrierLock n k s = carrierSet n true (s.setLine n (fun l => { l with goodRun := min (l.goodRun + 1) 3, badRun := 0 }))) ∧
    (k.natAbs < 50000 → (s.line n).blind = false → s.get .LINE_STATUS_CARRIER_LOCK n = 1 ∨ (s.line n).goodRun < 2 →
      carrierLock n k s = s.setLine n (fun l => { l with goodRun := min (l.goodRun + 1) 3, badRun := 0 })) ∧
    (k.natAbs < 50000 → (s.line n).blind = true → carrierLock n k s = s.setLine n (fun l => { l with goodRun := 0, badRun := 0 })) ∧
    (50000 ≤ k.natAbs → k.natAbs < 100000 → carrierLock n k s = s.setLine n (fun l => { l with goodRun := 0, badRun := 0 })) ∧
    (100000 ≤ k.natAbs → s.get .LINE_STATUS_CARRIER_LOCK n = 1 → 1 ≤ (s.line n).badRun → carrierLock n k s =
      ((carrierSet n false (s.setLine n (fun l => { l with goodRun := 0, badRun := min (l.badRun + 1) 2 }))).raise 0x0403
        [n, ofSigned 32 (roundDiv k 1000)]).irq .LINE_EVT_STATUS_LOCK_LOST .LINE_EVT_ENABLE_LOCK_LOST (4 + n) n) ∧
    (100000 ≤ k.natAbs → s.get .LINE_STATUS_CARRIER_LOCK n ≠ 1 ∨ (s.line n).badRun = 0 →
      carrierLock n k s = s.setLine n (fun l => { l with goodRun := 0, badRun := min (l.badRun + 1) 2 }))) ∧
  -- FT takes a value (R20, R22, R398): during a burst it is withheld; else FINE_TUNE is sent, unless the bus is out or L3 is in force.
  (∀ (n : Nat) (ft : Int) (s : State),
    (s.get .LINE_STATUS_TX_ACTIVE n = 1 → sendFt n ft s = s.setLine n (fun l => { l with ft := ft, heldFt := some ft })) ∧
    (s.get .LINE_STATUS_TX_ACTIVE n ≠ 1 → s.get .LINE_STATUS_LASER_BUS_OK n = 1 → s.get .FLT_STATUS_SAFE ≠ 1 → sendFt n ft s =
      (((s.setLine n (fun l => { l with ft := ft, heldFt := none })).setLine n
        (fun l => { l with bus := l.bus ++ [.fineTune ft] })).emit (.laser n 0x11 ft))) ∧
    (s.get .LINE_STATUS_TX_ACTIVE n ≠ 1 → s.get .LINE_STATUS_LASER_BUS_OK n ≠ 1 ∨ s.get .FLT_STATUS_SAFE = 1 →
      sendFt n ft s = s.setLine n (fun l => { l with ft := ft, heldFt := none }))) ∧
  -- DEFERRED_FINE_TUNE (R20): the FINE_TUNE withheld during a burst is sent once the transmitter is dark.
  (∀ (n : Fin 4) (s : State),
    ((s.line n).heldFt = none ∨ s.get .LINE_STATUS_TX_ACTIVE n = 1 → Next (.deferredFineTune n) s s) ∧
    (∀ ft, (s.line n).heldFt = some ft → s.get .LINE_STATUS_TX_ACTIVE n ≠ 1 → Next (.deferredFineTune n) s (sendFt n ft s))) ∧
  -- FINE_TUNE_ACK (R20, R22, R32): FT_APPLIED takes the value the laser acknowledged, FT_SENT rises; a change by more than 50 MHz outside a
  -- retune marks every symbol until re-acquisition.
  (∀ (n : Fin 4) (s : State), (oldestFt (s.line n).bus = none → Next (.fineTuneAck n) s s) ∧
    (∀ ft t, oldestFt (s.line n).bus = some ft →
      t = ((s.setLine n (fun l => { busAck (.fineTune ft) l with resuming := false })).setI .LINE_LASER_FT_APPLIED ft n).inc .LP_FT_SENT n →
      ((ft - s.getI .LINE_LASER_FT_APPLIED n).natAbs ≤ 5 ∨ (s.line n).dillDue = true → Next (.fineTuneAck n) s t) ∧
      (5 < (ft - s.getI .LINE_LASER_FT_APPLIED n).natAbs → (s.line n).dillDue = false →
        Next (.fineTuneAck n) s (markMask n 0xFFFF none t)))) ∧
  -- SET_FREQ_ACK (R22, R39, Table 1.5): the laser has the frequency; every symbol is marked until re-acquisition; FT becomes 0, or after a bus
  -- fault the FT held, and is sent; a forced retune counts as lost light.
  (∀ (n : Fin 4) (s : State), (oldestFreq (s.line n).bus = none → Next (.setFreqAck n) s s) ∧
    (∀ m t, oldestFreq (s.line n).bus = some m →
      t = markMask n 0xFFFF none (s.setLine n (fun l =>
        { busAck (.setFreq m) l with laserMHz := m, heldFt := none, forced := false, blind := (s.line n).forced, dillDue := true })) →
      ((s.line n).forced = false → Next (.setFreqAck n) s (sendFt n (if (t.line n).resuming then (t.line n).ft else 0) t)) ∧
      ((s.line n).forced = true → Next (.setFreqAck n) s
        (sendFt n (if (t.line n).resuming then (t.line n).ft else 0) (lightLost n (agcUnfreeze n (lockLost n t))))))) ∧
  -- LASER_FREQ_STABLE (R39): the retune ends and a search starts, in OFFLINE only where one was running.
  (∀ (n : Fin 4) (s : State), ((s.line n).retuning = false → Next (.laserFreqStable n) s s) ∧
    ((s.line n).retuning = true → s.tree n = tsOffline → s.get .LINE_STATUS_SEARCHING n ≠ 1 →
      Next (.laserFreqStable n) s (s.setLine n (fun l => { l with retuning := false }))) ∧
    ((s.line n).retuning = true → s.tree n ≠ tsOffline ∨ s.get .LINE_STATUS_SEARCHING n = 1 →
      Next (.laserFreqStable n) s (startSearch n 0 (s.setLine n (fun l => { l with retuning := false }))))) ∧
  -- LASER_BUS_FAIL (R22): each failure is counted; up to three retries; then LASER_BUS_OK clears and LASER_BUS_FAULT is raised.
  (∀ (n : Fin 4) (s : State), ((s.line n).bus = [] → Next (.laserBusFail n) s s) ∧
    (∀ c r, (s.line n).bus = c :: r →
      ((s.line n).tries < 3 →
        Next (.laserBusFail n) s
          (((s.inc .LP_BUS_ERR n).setLine n (fun l => { l with tries := l.tries + 1 })).emit (laserOut n c))) ∧
      (3 ≤ (s.line n).tries →
        Next (.laserBusFail n) s
          ((((((s.inc .LP_BUS_ERR n).setLine n (fun l => { l with tries := 0, bus := [] })).set .LINE_STATUS_LASER_BUS_OK 0 n).raise 0x0406
            [n, laserCode c]).start (.laserPoll n)).irq .LINE_EVT_STATUS_LASER_BUS_FAULT .LINE_EVT_ENABLE_LASER_BUS_FAULT (4 + n) n)))) ∧
  -- LASER_BUS_POLL (R22): every 100 ms a STATUS read; one that fails is counted and repeated 100 ms later; after one that succeeds a SET_FREQ
  -- that is owed is sent, else OUTPUT as NOMINAL_MHZ calls for and FINE_TUNE with the FT held.
  (∀ (n : Fin 4) (s t : State),
    (s.expired (.laserPoll n) (100 * uMs) = false → ∀ ok, Next (.laserBusPoll n ok) s s) ∧
    (s.expired (.laserPoll n) (100 * uMs) = true →
      Next (.laserBusPoll n false) s (((s.emit (.laser n 0x20 0)).inc .LP_BUS_ERR n).start (.laserPoll n))) ∧
    (s.expired (.laserPoll n) (100 * uMs) = true →
      t = ((((s.emit (.laser n 0x20 0)).stop (.laserPoll n)).set .LINE_STATUS_LASER_BUS_OK 1 n).setLine n (fun l => { l with resuming := true })) →
      ((t.line n).wantMHz ≠ 0 → (t.line n).wantMHz ≠ (t.line n).laserMHz → Next (.laserBusPoll n true) s (startRetune n t)) ∧
      ((t.line n).wantMHz = 0 ∨ (t.line n).wantMHz = (t.line n).laserMHz →
        Next (.laserBusPoll n true) s (sendFt n (t.line n).ft (laserOutput n ((t.line n).wantMHz != 0) t)))))

/-- Light, Dill passes, settling and decoded pairs of a line port (R13 to R16, R25 to R27, R32 to R38, R40, R60, R79, R98). -/
def Obligations.LineSignalEventsComplete : Prop :=
  -- LOSS_OF_LIGHT (R21, R23, R37, R79): nothing while LIGHT reads 0.
  (∀ (n : Fin 4) (p : Int) (s : State), (s.get .LINE_STATUS_LIGHT n ≠ 1 → Next (.lossOfLight n p) s s) ∧
    (s.get .LINE_STATUS_LIGHT n = 1 → Next (.lossOfLight n p) s
      (lightLost n (agcUnfreeze n (captureCause n 1 ((lockLost n ((((s.set .LINE_STATUS_LIGHT 0 n).inc .LP_LOS_COUNT n).raise 0x0401
        [n, ofSigned 32 p]).irq .LINE_EVT_STATUS_LOS .LINE_EVT_ENABLE_LOS (4 + n) n)).stop (.lightBack n))))))) ∧
  -- LIGHT_RETURN (R37, R98, R379): LIGHT, the event and its interrupt; the 20 ms of R98 begin; the device is woken.
  (∀ (n : Fin 4) (p : Int) (s : State), (s.get .LINE_STATUS_LIGHT n = 1 → Next (.lightReturn n p) s s) ∧
    (s.get .LINE_STATUS_LIGHT n ≠ 1 → Next (.lightReturn n p) s
      (((((wakeBy 2 s).set .LINE_STATUS_LIGHT 1 n).raise 0x0402 [n, ofSigned 32 p]).irq .LINE_EVT_STATUS_LIGHT_RETURN
        .LINE_EVT_ENABLE_LIGHT_RETURN (4 + n) n).start (.lightBack n)))) ∧
  -- DILL_PASS_END (R26): a pass ends no earlier than 1 ms after its start; its 48 results are shown; one subcarrier named by every beacon at
  -- 16 GBd is found; different ones are a conflict; beacons at a lower rate alone are reported once.
  (∀ (n : Fin 4) (hyps : List Hyp) (s t : State), t = (hyps.take 48).zipIdx.foldl (setSearch n) s →
    (s.get .LINE_STATUS_SEARCHING n ≠ 1 ∨ s.expired (.dillPass n) uMs = false ∨ s.portGated n = true → Next (.dillPassEnd n hyps) s s) ∧
    (∀ p c rest, s.get .LINE_STATUS_SEARCHING n = 1 → s.expired (.dillPass n) uMs = true → s.portGated n = false →
      beaconsAt 2 hyps = (p, c) :: rest → (∃ b ∈ rest, b.2 ≠ c) → Next (.dillPassEnd n hyps) s
        (((t.raise 0x0408 [n, ((p, c) :: rest).foldl (fun m b => m + 2 ^ b.1) 0]).irq .LINE_EVT_STATUS_BEACON_CONFLICT
          .LINE_EVT_ENABLE_BEACON_CONFLICT (4 + n) n).start (.dillPass n))) ∧
    (∀ p c rest u off, s.get .LINE_STATUS_SEARCHING n = 1 → s.expired (.dillPass n) uMs = true → s.portGated n = false →
      beaconsAt 2 hyps = (p, c) :: rest → (∀ b ∈ rest, b.2 = c) → off = (hyps[32 + p]?).map (·.offsetMHz) →
      u = t.setAll [(.LINE_STATUS_BEACON_FOUND, 1), (.LINE_STATUS_CONTROL_SC, c), (.LINE_STATUS_SEARCHING, 0)] n →
      Next (.dillPassEnd n hyps) s (maybeReacquired n
        ((((u.when ((u.line n).chanMHz != off) (markMask n 0xFFFF (some 4096))).setLine n
          (fun l => { l with controlKnown := true, chanMHz := off, dillDue := l.dillDue && l.retuning })).stop (.dillPass n)).irq
            .LINE_EVT_STATUS_BEACON_FOUND .LINE_EVT_ENABLE_BEACON_FOUND (4 + n) n))) ∧
    (∀ rate, s.get .LINE_STATUS_SEARCHING n = 1 → s.expired (.dillPass n) uMs = true → s.portGated n = false → beaconsAt 2 hyps = [] →
      rate = (if beaconsAt 0 hyps ≠ [] then 4 else if beaconsAt 1 hyps ≠ [] then 8 else 0) →
      (rate = 0 ∨ ((t.start (.dillPass n)).line n).rateReported = true → Next (.dillPassEnd n hyps) s (t.start (.dillPass n))) ∧
      (rate ≠ 0 → ((t.start (.dillPass n)).line n).rateReported = false → Next (.dillPassEnd n hyps) s
        ((((t.start (.dillPass n)).setLine n (fun l => { l with rateReported := true })).raise 0x0409 [n, rate]).irq
          .LINE_EVT_STATUS_RATE_UNSUPPORTED .LINE_EVT_ENABLE_RATE_UNSUPPORTED (4 + n) n)))) ∧
  -- APPLICATION_POINT (R25, R27, R40): the gain step, the dispersion swap, the tap-set swap and the channeliser changes that are due apply, in
  -- this order.
  (∀ (n : Fin 4) (s t : State), t = applyEq n (applyCd n (applyStep n s)) → Next (.applicationPoint n) s
    (((t.line n).scSwaps.filter (·.due)).foldl (applySc n) (t.setLine n (fun l => { l with scSwaps := l.scSwaps.filter (fun p => !p.due) })))) ∧
  -- A gain step (R25): the gain less the drift, between 0 and 30 dB, and every symbol marked for 256 symbols.
  (∀ (n g : Nat) (s : State),
    (s.get .LINE_AGC_STEP_PENDING n ≠ 1 ∨ (s.line n).stepDue = false → applyStep n s = s) ∧
    (s.get .LINE_AGC_STEP_PENDING n = 1 → (s.line n).stepDue = true →
      (g : Int) = clamp 0 300 (s.get .LINE_AGC_GAIN n + -(s.getI .LINE_AGC_DRIFT n)) →
      applyStep n s = markMask n 0xFFFF (some 256) ((((((s.setAll [(.LINE_AGC_GAIN, g), (.LINE_AGC_FROZEN_GAIN, g),
        (.LINE_AGC_STEP_PENDING, 0)] n).setLine n (fun l => { l with stepDue := false })).inc .LP_RELEVEL_COUNT n).raise 0x0405
          [n, ofSigned 32 (-(s.getI .LINE_AGC_DRIFT n))]).irq .LINE_EVT_STATUS_RELEVEL .LINE_EVT_ENABLE_RELEVEL (4 + n) n)))) ∧
  -- Swaps (R27): a due dispersion is in CD_APPLIED, every symbol is marked for 2,048 symbols, and the commands that waited complete; a due
  -- tap-set swap likewise on its mask; one that is not due waits.
  (∀ (n : Nat) (v : Int) (qs : List Req) (s : State),
    ((s.line n).cdSwap = none ∨ (s.line n).cdSwap = some ⟨v, false, qs⟩ → applyCd n s = s) ∧
    ((s.line n).cdSwap = some ⟨v, true, qs⟩ → applyCd n s = qs.foldl (fun s q => complete (ciLineSetCd n) q [n] 0 { state := s })
      (markMask n 0xFFFF (some 2048) ((s.setLine n (fun l => { l with cdSwap := none })).setI .LINE_EQ_CD_APPLIED v n))) ∧
    ((s.line n).eqSwap = none ∨ (s.line n).eqSwap = some ⟨v, false, qs⟩ → applyEq n s = s) ∧
    ((s.line n).eqSwap = some ⟨v, true, qs⟩ → applyEq n s = qs.foldl (fun s q => complete (ciLineEqRestart n) q [n] 0 { state := s })
      (markMask n v.toNat (some 2048) (s.setLine n (fun l => { l with eqSwap := none }))))) ∧
  -- SETTLING_WINDOW_END (R33): while a window of the subcarrier runs, nothing ends; once all have run out, the union of their symbols is
  -- counted and SETTLING clears.
  (∀ (n : Fin 4) (sc : Fin 16) (mine : List Mark) (s t : State), mine = (s.line n).marks.filter (fun m => m.sc == sc.val && !m.counted) →
    (mine = [] ∨ (∃ m ∈ mine, m.ended s.now = false) → Next (.settlingWindowEnd n sc) s s) ∧
    (mine ≠ [] → (∀ m ∈ mine, m.ended s.now = true) →
      t = ((s.bump .LSC_SYM_SETTLE (unionSymbols (mine.map (fun m => (m.since, m.till.getD m.since)))) n sc).setLine n
        (fun l => { l with marks := l.marks.map (fun m => if m.sc = sc.val then { m with counted := true } else m) })).set .LINE_SC_SETTLING 0 n sc →
      Next (.settlingWindowEnd n sc) s (t.set .LINE_STATUS_SETTLING (b2n ((t.line n).marks.any (fun m => !m.counted))) n))) ∧
  -- PAIR_DECODED (R13, R14, R34, R37, R60): in HUNT nothing is counted; else the codewords are counted, unless a settling flag makes the pair
  -- suspect, and the pair is kept with its result; one that fails in SYNC sends the envelope delineation to HUNT.
  (∀ (n : Fin 4) (sc : Fin 16) (sf pair x y before : Nat) (word hard data : List Nat) (a b c : Codeword) (s t u v : State) (lost : Bool),
    (s.get .LINE_FRM_STATE n sc = 0 ∨ s.portGated n = true → Next (.pairDecoded n sc sf pair x y before word hard) s s) ∧
    (s.get .LINE_FRM_STATE n sc ≠ 0 → s.portGated n = false → decodePair word = (a, b, data) → injectPair n sc a s = (c, t) →
      u = (if suspect n sc x y t = true then t.bump .LSC_CW_SUSPECT 2 n sc
        else pmCodewords n sc (b2n (c == .uncorrectable) + b2n (b == .uncorrectable)) (countCodeword n sc b (countCodeword n sc c
          (t.bump .LSC_TRELLIS_CORR (trellisErrors before pair word hard) n sc)))) →
      v = u.when (b2n (c == .uncorrectable) + b2n (b == .uncorrectable) != 0 && !(suspect n sc x y t)) (captureCause n 3) →
      lost = (!(pairPasses n sc x y c b t) && (v.get .LINE_FRM_ENV_STATE n sc == 2 ||
        (match (v.frame n).pairs.find? (fun p => p.sc == sc.val) with | some p => p.lost | none => false))) →
      ∀ w : State, w = v.setFrame n (fun f => { f with pairs := ⟨sc, sf % 2 ^ 25, pair, x, y, pairPasses n sc x y c b t,
        suspect n sc x y t, lost, data⟩ :: f.pairs }) →
      (pairPasses n sc x y c b t = true ∨ w.get .LINE_FRM_STATE n sc ≠ 2 → Next (.pairDecoded n sc sf pair x y before word hard) s w) ∧
      (pairPasses n sc x y c b t = false → w.get .LINE_FRM_STATE n sc = 2 → Next (.pairDecoded n sc sf pair x y before word hard) s
        ((w.when (w.get .LINE_FRM_ENV_STATE n sc == 2) (fun w => w.inc .LSC_ENV_HEC_ERR n sc)).set .LINE_FRM_ENV_STATE 0 n sc)))) ∧
  -- QUALITY_UPDATE (R27, R35, R36): every 64 superframes; before that nothing. The noise floor is of the edge bands and the free slots.
  (∀ (n : Fin 4) (edges slots snr : List Nat) (cd : Int) (d : Nat) (s t u : State),
    ((s.line n).sfCount < 64 → Next (.qualityUpdate n edges slots snr cd d) s s) ∧
    (64 ≤ (s.line n).sfCount →
      t = (snr.take 16).zipIdx.foldl (fun (s : State) p => s.set .LINE_SC_SNR p.1 n p.2) (s.setLine n (fun l => { l with sfCount := 0 })) →
      u = (((t.setI .LINE_QUALITY_NOISE_FLOOR (noiseFloor n edges slots t) n).set .LINE_QUALITY_SF_NUMBER (t.frame n).sf n).set
        .LINE_EQ_DGD_EST d n).setI .LINE_EQ_CD_EST cd n →
      Next (.qualityUpdate n edges slots snr cd d) s
        ((u.when (u.isSet .LINE_EQ_CD_AUTO n && decide (50 < (cd - u.getI .LINE_EQ_CD_APPLIED n).natAbs))
          (fun u => u.setLine n (fun l => { l with cdSwap := requestSwap l.cdSwap (clamp (-12000) 12000 cd) [] }))).irq
            .LINE_EVT_STATUS_QUALITY_UPDATE .LINE_EVT_ENABLE_QUALITY_UPDATE (4 + n) n))) ∧
  -- CAPTURE_TRIGGER (R38): the first trigger of an armed capture; without one armed CAP_MISSED rises; a second is ignored (the model's
  -- choice, log entry 126).
  (∀ (n : Fin 4) (line : Nat) (s t : State), t = s.setLine n (fun l => { l with trigger := false }) →
    ((s.line n).trigger = false → Next (.captureTrigger n line) s s) ∧
    ((s.line n).trigger = true → t.get .LINE_CAP_STATUS_ARMED n ≠ 1 → Next (.captureTrigger n line) s (t.inc .LP_CAP_MISSED n)) ∧
    ((s.line n).trigger = true → t.get .LINE_CAP_STATUS_ARMED n = 1 → (t.line n).triggered = true → Next (.captureTrigger n line) s t) ∧
    ((s.line n).trigger = true → t.get .LINE_CAP_STATUS_ARMED n = 1 → (t.line n).triggered = false →
      Next (.captureTrigger n line) s
        ((t.set .LINE_CAP_STATUS_TRIG_LINE (line % 131072) n).setLine n (fun l => { l with triggered := true })))) ∧
  -- CAPTURE_DONE (R38): ARMED clears, DONE reads 1, the interrupt is raised; the buffer holds the lines captured, each with its tag: bit 0
  -- where a settling flag falls into it, bit 1 on the trigger's line.
  (∀ (n : Fin 4) (t0 : Nat) (samples : List Nat) (s : State),
    (s.get .LINE_CAP_STATUS_ARMED n ≠ 1 ∨ (s.line n).triggered = false → Next (.captureDone n t0 samples) s s) ∧
    (s.get .LINE_CAP_STATUS_ARMED n = 1 → (s.line n).triggered = true → Next (.captureDone n t0 samples) s
      (((({ s with capture := (samples.take 131072).zipIdx.foldl (fun (m : Tab Nat) (p : Nat × Nat) => Tab.put 0 m (n * 131072 + capturePlace n p.2 s)
          (p.1 % 2 ^ 480 * 2 ^ 32 + (b2n (captureFlag n t0 p.2 s) + 2 * b2n (p.2 == s.get .LINE_CAP_CTL_PRE n * 1024)))) s.capture }).set
        .LINE_CAP_STATUS_ARMED 0 n).set .LINE_CAP_STATUS_DONE 1 n).irq .LINE_EVT_STATUS_CAPTURE_DONE
          .LINE_EVT_ENABLE_CAPTURE_DONE (4 + n) n)))
/-- The framing commands of Table 2.14. -/
def Obligations.FramingCommandsComplete : Prop :=
  -- LINE_FRAME_CONFIG (R46, R73, R75) and LINE_OSP_CONFIG (R72): the fields masked take their values.
  (∀ (q : Req) (es : List WEntry) (s : State), takenUp ciLineFrameConfig q s = true → wErr frameConfigAllow es = none →
    Done (.lineFrameConfig q es) ciLineFrameConfig q (es.map (·.off)) s (wApplyAll s es)) ∧
  (∀ (q : Req) (es : List WEntry) (s : State), takenUp ciLineOspConfig q s = true → wErr ospAllow es = none →
    Done (.lineOspConfig q es) ciLineOspConfig q (es.map (·.off)) s (wApplyAll s es)) ∧
  -- LINE_TSI_WRITE (R69, Table 13.15): every entry takes effect, in order; one for a page that is READY refuses the whole command.
  (∀ (q : Req) (es : List REntry) (s : State), takenUp ciLineTsiWrite q s = true → rErr 16 tsiEntryErr es = none →
    ((∀ e ∈ es, bits e.index 32 1 = 0 → tsiReady (bits e.index 34 2) (bits e.index 33 1) s = false) →
      Done (.lineTsiWrite q es) ciLineTsiWrite q (es.map (·.index)) s (es.foldl tsiWriteOne s)) ∧
    (∀ e ∈ es, bits e.index 32 1 = 0 → tsiReady (bits e.index 34 2) (bits e.index 33 1) s = true →
      Next (.lineTsiWrite q es) s (reject ciLineTsiWrite q stState 0 s))) ∧
  -- An entry is one of the connection memory, on the standby page of its direction, or a slot of the slot table.
  (∀ (e : REntry) (n dir : Nat) (s : State), bits e.index 34 2 = n → bits e.index 33 1 = dir →
    (bits e.index 32 1 = 0 → tsiWriteOne s e = s.setFrame n (fun f =>
      { f with tsi := Tab.put 0 f.tsi (tsiKey dir (standbyPage n dir s) (bits e.index 0 18)) (bits e.data 56 8) })) ∧
    (bits e.index 32 1 ≠ 0 → tsiWriteOne s e = s.setFrame n (fun f =>
      { f with slots := Tab.put 0 f.slots (bits e.index 0 4 * 32 + bits e.index 4 5)
                          (if bit (bits e.data 56 8) 7 then 1 + bits e.data 56 8 % 64 else 0) }))) ∧
  -- LINE_TSI_READY (R69): READY of the direction; refused while a swap is announced.
  (∀ (q : Req) (n : Nat) (up : Bool) (s : State), n < 4 → takenUp (ciLineTsiReady n) q s = true →
    (swapAnnounced n s = false → Done (.lineTsiReady q n up) (ciLineTsiReady n) q [n] s
      (s.set (if up then .LINE_TSI_UP_READY else .LINE_TSI_DN_READY) 1 n)) ∧
    (swapAnnounced n s = true → Next (.lineTsiReady q n up) s (reject (ciLineTsiReady n) q stState 0 s))) ∧
  -- LINE_TRIB_CONFIG (R71, Table 13.15): atomic; its effect comes with the commit.
  (∀ (q : Req) (index slot dest source vlan : Nat) (s : State), index < 256 → slot < 32 → dest < 2 ^ 48 → source < 2 ^ 48 → vlan < 2 ^ 32 →
    takenAtomic (ciLineTribConfig (index / 64)) q s = true →
    Stages (.lineTribConfig q index slot dest source vlan) (ciLineTribConfig (index / 64)) q s
      (.trib (index / 64) (index % 64) slot dest source vlan)) ∧
  (∀ (n t slot dest source vlan : Nat) (x : Trib) (s : State), Tab.get {} (s.frame n).tribs t = x →
    commitTrib n t slot dest source vlan s = s.setFrame n (fun f =>
      { f with tribs := Tab.put {} f.tribs t { x with slot := slot, dest := dest, source := source, vlan := vlan } }))

/-- Sector headers and superframe headers (R23, R45 to R51, R66, R68). -/
def Obligations.HeaderEventsComplete : Prop :=
  -- SECTOR_HEADER (R45 to R49, R51, Table 2.3): nothing is tested on a subcarrier that is not enabled or that the map shows IDLE; else the
  -- header moves the deframer by its state, and the function field of the sector is used only after a fitting header in SYNC.
  (∀ (n : Fin 4) (sc : Fin 16) (header a b gain : Nat) (others : List (Nat × Nat)) (s u : State) (h p : Nat),
    h = header % 2 ^ 128 → p = Tab.get 0 (s.frame n).predicted sc → u = agcFollow n gain (noteField n sc 0 s) →
    (s.get .LINE_SC_ENABLED n sc ≠ 1 ∨ ((s.frame n).mapKnown = true ∧ s.get .LINE_SC_FORMAT n sc = 3) ∨ (noteField n sc 0 s).portGated n = true →
      Next (.sectorHeader n sc header a b gain others) s (noteField n sc 0 s)) ∧
    (s.get .LINE_SC_ENABLED n sc = 1 → (s.frame n).mapKnown = false ∨ s.get .LINE_SC_FORMAT n sc ≠ 3 → (noteField n sc 0 s).portGated n = false →
      -- suspect: neutral in every state, the prediction goes on
      (headerNeutral n sc a b u = true →
        (s.get .LINE_FRM_STATE n sc = 0 → Next (.sectorHeader n sc header a b gain others) s u) ∧
        (s.get .LINE_FRM_STATE n sc ≠ 0 →
          Next (.sectorHeader n sc header a b gain others) s (advancePrediction n sc (fieldTaken n sc p false u)))) ∧
      -- HUNT: a fitting header leads to PRESYNC
      (headerNeutral n sc a b u = false → s.get .LINE_FRM_STATE n sc = 0 →
        (hdrFits h sc = false → Next (.sectorHeader n sc header a b gain others) s u) ∧
        (∀ t, hdrFits h sc = true → t = (u.set .LINE_FRM_STATE 1 n sc).set .LINE_FRM_FIT_RUN 0 n sc →
          ((t.frame n).mapKnown = true → Next (.sectorHeader n sc header a b gain others) s (fitHeader n sc h a t)) ∧
          ((t.frame n).mapKnown = false → Next (.sectorHeader n sc header a b gain others) s
            (fitHeader n sc h a (t.set .LINE_SC_FORMAT (hdrFormat h) n sc))))) ∧
      -- PRESYNC: DELTA fitting headers in succession lead to SYNC, one that does not fit to HUNT
      (headerNeutral n sc a b u = false → s.get .LINE_FRM_STATE n sc = 1 →
        (∀ t, hdrFits h sc = true → hdrSf h * 256 + hdrSector h = p → hdrFormat h = u.get .LINE_SC_FORMAT n sc →
          t = fieldTaken n sc p false (fitHeader n sc h a u) →
          (t.get .LINE_FRM_CFG_DELTA n ≤ t.get .LINE_FRM_FIT_RUN n sc + 1 →
            Next (.sectorHeader n sc header a b gain others) s (reachSync n sc t)) ∧
          (t.get .LINE_FRM_FIT_RUN n sc + 1 < t.get .LINE_FRM_CFG_DELTA n →
            Next (.sectorHeader n sc header a b gain others) s (t.set .LINE_FRM_FIT_RUN (t.get .LINE_FRM_FIT_RUN n sc + 1) n sc))) ∧
        (hdrFits h sc = false ∨ hdrSf h * 256 + hdrSector h ≠ p ∨ hdrFormat h ≠ u.get .LINE_SC_FORMAT n sc →
          Next (.sectorHeader n sc header a b gain others) s (hunt n sc 0 (fieldTaken n sc p false (u.inc .LSC_HDR_MISFIT n sc))))) ∧
      -- SYNC: a fitting header clears the misfits, one under another format alone is adopted, the fourth misfit in succession loses sync
      (headerNeutral n sc a b u = false → s.get .LINE_FRM_STATE n sc = 2 →
        (∀ t, hdrFits h sc = true → hdrSf h * 256 + hdrSector h = p → hdrFormat h = u.get .LINE_SC_FORMAT n sc →
          t = fieldTaken n sc p true (noteField n sc (p % 256 + 1) ((fitHeader n sc h a u).set .LINE_FRM_MISFIT_RUN 0 n sc)) →
          (isControl n sc t = true → Next (.sectorHeader n sc header a b gain others) s (maybeReacquired n t)) ∧
          (isControl n sc t = false → Next (.sectorHeader n sc header a b gain others) s t)) ∧
        (hdrFits h sc = false ∨ hdrSf h * 256 + hdrSector h ≠ p ∨ hdrFormat h ≠ u.get .LINE_SC_FORMAT n sc →
          (∀ f g, otherFormat n sc others u = some (f, g) → Next (.sectorHeader n sc header a b gain others) s
            (fieldTaken n sc p true (noteField n sc (p % 256 + 1) (fitHeader n sc g a
              (((u.set .LINE_SC_FORMAT f n sc).inc .LSC_FMT_UNANNOUNCED n sc).raise 0x0411 [n, sc + f * 16]))))) ∧
          (∀ t, otherFormat n sc others u = none → t = fieldTaken n sc p false (u.inc .LSC_HDR_MISFIT n sc) →
            (3 ≤ t.get .LINE_FRM_MISFIT_RUN n sc → Next (.sectorHeader n sc header a b gain others) s (loseSync n sc t)) ∧
            (t.get .LINE_FRM_MISFIT_RUN n sc < 3 → Next (.sectorHeader n sc header a b gain others) s
              (advancePrediction n sc (t.set .LINE_FRM_MISFIT_RUN (t.get .LINE_FRM_MISFIT_RUN n sc + 1) n sc)))))))) ∧
  -- SUPERFRAME_HEADER (R49, R50): a usable field whose header is not accepted is counted; a superframe whose header is taken takes no other;
  -- the control subcarrier's is taken; where that is lost, the accepted header of the lowest-numbered subcarrier in SYNC.
  (∀ (at_ a : FieldAt) (h : Nat) (good : Bool) (s t u : State), a = inSector at_ 0 → h = ofBytes (fieldBytes a s) →
    good = (fieldUsable a s && sfAccepted h) → t = s.when (fieldUsable a s && !good) (fun s => s.inc .LSC_FF_LOST a.port a.sc) →
    u = t.setFrame a.port (fun f =>
      { f with heard := a.sc :: f.heard,
               offered := if good && !(isControl a.port a.sc s) then Tab.put 0 f.offered a.sc h else f.offered,
               controlLost := f.controlLost || (isControl a.port a.sc s && !good) }) →
    (t.portGated a.port = true ∨ (t.frame a.port).headerTaken.isSome = true → Next (.superframeHeader at_) s t) ∧
    (t.portGated a.port = false → (t.frame a.port).headerTaken = none →
      (isControl a.port a.sc s = true → good = true → Next (.superframeHeader at_) s
        (takeHeader a.port h true (u.setFrame a.port (fun f => { f with headerTaken := some a.sc })))) ∧
      (isControl a.port a.sc s = false ∨ good = false →
        (((u.frame a.port).controlLost = false → controlSync a.port u = true → Next (.superframeHeader at_) s u) ∧
        ((u.frame a.port).controlLost = true ∨ controlSync a.port u = false →
          (fallbackHeader a.port u = none → Next (.superframeHeader at_) s u) ∧
          (∀ k g, fallbackHeader a.port u = some (k, g) → Next (.superframeHeader at_) s
            (takeHeader a.port g false (u.setFrame a.port (fun f => { f with headerTaken := some k }))))))))) ∧
  -- UP_SUPERFRAME_START (R66, R68): the upstream page swaps at the superframe announced, and at no other; cells without a slot are counted.
  (∀ (n : Fin 4) (anchor : Nat) (s : State),
    ((s.frame n).upSwapAt = some (anchor % 2 ^ 25) → Next (.upSuperframeStart n anchor) s (countNoSlot n 1 (pageSwap n 1 s))) ∧
    ((s.frame n).upSwapAt ≠ some (anchor % 2 ^ 25) → Next (.upSuperframeStart n anchor) s (countNoSlot n 1 s)))

/-- SUPERFRAME_START (R24, R25, R27, R47, R51, R66 to R68, R90, R92): the requests that wait become due, the drift of the superframe that ends
is taken, SF_NUMBER advances modulo 2^25, the arrival instant is noted, the counts for this superframe come into force, then the change of control,
the map and the swap announced for it. A port that is power-gated makes no progress (R378). -/
def Obligations.SuperframeStartAdvances : Prop :=
  (∀ (n : Fin 4) (drift : Int) (s : State), s.portGated n = true → Next (.superframeStart n drift) s s) ∧
  (∀ (n : Fin 4) (drift : Int) (s d t u v w : State) (sf : Nat), s.portGated n = false →
    d = s.setLine n (fun l =>
      { l with stepDue := s.isSet .LINE_AGC_STEP_PENDING n, cdSwap := l.cdSwap.map (fun p => { p with due := true }),
               eqSwap := l.eqSwap.map (fun p => { p with due := true }), scSwaps := l.scSwaps.map (fun p => { p with due := true }),
               sfCount := l.sfCount + 1 }) →
    t = (driftUpdate n drift d).setFrame n (fun f =>
      { f with sf := (f.sf + 1) % 2 ^ 25, arrival := (driftUpdate n drift d).now, headerTaken := none, offered := [], controlLost := false,
               heard := [], justPrev := f.justLast, justLast := f.justNext.foldl (fun m p => Tab.put 0 m p.1 p.2) f.justLast, justNext := [],
               pairs := f.pairs.filter (fun p => recentPair ((f.sf + 1) % 2 ^ 25) p || awaited n p (driftUpdate n drift d)) }) →
    u = changeControl n t → sf = (u.frame n).sf →
    ((∀ map, (u.frame n).nextMap ≠ some (map, sf)) → v = u) →
    (∀ map, (u.frame n).nextMap = some (map, sf) → v = applyMap n map (u.setFrame n (fun f => { f with nextMap := none }))) →
    w = (if (v.frame n).dnSwapAt = some sf then pageSwap n 0 v else v) →
    Next (.superframeStart n drift) s (countNoSlot n 0 (treeValues n (w.when (w.get .LINE_CAP_CTL_TRIG_SF n == sf) (captureCause n 5))))) ∧
  -- The drift (R24): only while the AGC is frozen; the alarm comes above 3 dB, with a gain step where AUTO_RELEVEL asks for one, and goes at
  -- 2.5 dB.
  (∀ (n : Nat) (drift d : Int) (s t : State), d = roundDiv drift 10 → t = s.setI .LINE_AGC_DRIFT d n →
    (s.get .LINE_AGC_FROZEN n ≠ 1 → driftUpdate n drift s = s) ∧
    (s.get .LINE_AGC_FROZEN n = 1 →
      (t.get .LINE_STATUS_DRIFT_ALARM n ≠ 1 → 30 < d.natAbs → ∀ u : State, u = ((t.set .LINE_STATUS_DRIFT_ALARM 1 n).raise 0x0404
          [n, ofSigned 32 d]).irq .LINE_EVT_STATUS_DRIFT .LINE_EVT_ENABLE_DRIFT (4 + n) n →
        driftUpdate n drift s = captureCause n 4 (u.when (u.isSet .LINE_AGC_AUTO_RELEVEL n) (requestStep n))) ∧
      (t.get .LINE_STATUS_DRIFT_ALARM n ≠ 1 → d.natAbs ≤ 30 → driftUpdate n drift s = t) ∧
      (t.get .LINE_STATUS_DRIFT_ALARM n = 1 → d.natAbs ≤ 25 → driftUpdate n drift s = t.set .LINE_STATUS_DRIFT_ALARM 0 n) ∧
      (t.get .LINE_STATUS_DRIFT_ALARM n = 1 → 25 < d.natAbs → driftUpdate n drift s = t)))

/-- Function fields of a sector (R49, R52, R56, R67, R72) and the overhead serial ports (R72, R73). -/
def Obligations.FunctionFieldEventsComplete : Prop :=
  -- DIRECTORY_ENTRY (R52, R80, R82, R96): read on the control subcarrier only, from a usable field; a bad check byte is counted; an entry of
  -- another terminal does nothing; the own one deposes, is counted stale, or ends the wait of a return.
  (∀ (at_ a : FieldAt) (slot : Fin 64) (s : State) (n e ep mine : Nat) (own : Bool), a = inSector at_ (1 + slot.val / 8) → n = at_.port →
    e = field (fieldBytes a s) (slot.val % 8 * 8) 8 → ep = bits e 48 16 → mine = s.get .LINE_TREE_ID_EPOCH n →
    own = (bits e 16 32 == s.get .LINE_TREE_ID_SERIAL_TAG n) →
    (isControl n at_.sc s = false ∨ fieldUsable a s = false → Next (.directoryEntry at_ slot) s s) ∧
    (isControl n at_.sc s = true → fieldUsable a s = true →
      (bits e 0 8 ≠ crc8 (toBytes 7 (e / 256)) → Next (.directoryEntry at_ slot) s (s.inc .LP_DIR_BADCHECK n)) ∧
      (bits e 0 8 = crc8 (toBytes 7 (e / 256)) →
        (readsDirectory n s = false ∨ s.get .LINE_TREE_ID_TID n ≠ 64 * ((s.frame n).sf % 8) + slot → Next (.directoryEntry at_ slot) s s) ∧
        (readsDirectory n s = true → s.get .LINE_TREE_ID_TID n = 64 * ((s.frame n).sf % 8) + slot →
          (s.get .LINE_TREE_STATE_DIR_GRACE n ≠ 1 →
            (bits e 13 3 = 0 → Next (.directoryEntry at_ slot) s (depose n 3 ep 0x0502 s)) ∧
            (bits e 13 3 ≠ 0 → own = false → Next (.directoryEntry at_ slot) s (depose n 1 ep 0x0502 s)) ∧
            (bits e 13 3 ≠ 0 → own = true → newerEpoch ep mine = true → Next (.directoryEntry at_ slot) s (depose n 2 ep 0x0502 s))) ∧
          (s.get .LINE_TREE_STATE_DIR_GRACE n = 1 ∨ (bits e 13 3 ≠ 0 ∧ own = true ∧ newerEpoch ep mine = false) →
            (own = true → ep ≠ mine → newerEpoch ep mine = false → Next (.directoryEntry at_ slot) s (s.inc .LP_DIR_STALE n)) ∧
            (own = true → ep = mine → (s.term n).awaiting = true → Next (.directoryEntry at_ slot) s (returnEntry n (bit e 12) s)) ∧
            (own = true → ep = mine → (s.term n).awaiting = false → Next (.directoryEntry at_ slot) s s) ∧
            (own = false ∨ (ep ≠ mine ∧ newerEpoch ep mine = true) → Next (.directoryEntry at_ slot) s s)))))) ∧
  -- REMOTE_INDICATIONS (R49, R56): a field that is discarded is used for nothing; REMOTE_DEFECT is raised for each byte that differs from
  -- the field last used (that the event names it by number is the model's choice, log entry 126).
  (∀ (at_ a : FieldAt) (s : State) (new old : Nat), a = inSector at_ 31 →
    new = field (fieldBytes a s) 0 9 / 256 * 256 + field (fieldBytes a s) 0 9 % 4 → old = Tab.get 0 (s.frame a.port).remote a.sc →
    (fieldUsable a s = false → Next (.remoteIndications at_) s s) ∧
    (fieldUsable a s = true → Next (.remoteIndications at_) s
      ((List.range 9).foldl (fun s k => if bits new (8 * (8 - k)) 8 = bits old (8 * (8 - k)) 8 then s else s.raise 0x0410 [a.port, a.sc + k * 256])
        (s.setFrame a.port (fun f => { f with remote := Tab.put 0 f.remote a.sc new }))))) ∧
  -- JUSTIFICATION_COUNT (R67): a slot bound to no tributary takes none; a valid count is that of the next superframe; any other is counted and
  -- replaced by the last.
  (∀ (at_ a : FieldAt) (slot : Fin 32) (s : State) (e : Nat), a = inSector at_ (29 + slot.val / 16) →
    e = field (fieldBytes a s) (slot.val % 16 * 4) 4 →
    (slotTrib a.port a.sc slot s = none ∨ s.get .LINE_FRM_STATE a.port a.sc = 0 → Next (.justificationCount at_ slot) s s) ∧
    (∀ t, slotTrib a.port a.sc slot s = some t → s.get .LINE_FRM_STATE a.port a.sc ≠ 0 →
      (fieldUsable a s = true → bit e 25 = true → bits e 0 16 ≤ nextCapacity a.port a.sc t s →
        Next (.justificationCount at_ slot) s
          (s.setFrame a.port (fun f => { f with justNext := Tab.put 0 f.justNext (a.sc * 32 + slot) (bits e 0 16) }))) ∧
      (fieldUsable a s = false ∨ bit e 25 = false ∨ nextCapacity a.port a.sc t s < bits e 0 16 →
        Next (.justificationCount at_ slot) s
          ((s.inc .LSC_JUST_ERR a.port a.sc).setFrame a.port (fun f =>
            { f with justNext := Tab.put 0 f.justNext (a.sc * 32 + slot) (Tab.get 0 f.justLast (a.sc * 32 + slot)) }))))) ∧
  -- OVERHEAD_BLOCK_RX (R72): off the control subcarrier nothing; a usable block waits at every serial port bound to the port and channel; one
  -- that is discarded outside HUNT is counted as lost.
  (∀ (at_ a : FieldAt) (ch : Fin 4) (s : State), a = inSector at_ (25 + ch.val) →
    (isControl a.port a.sc s = false → Next (.overheadBlockRx at_ ch) s s) ∧
    (isControl a.port a.sc s = true → fieldUsable a s = true → Next (.overheadBlockRx at_ ch) s
      ((List.range 8).foldl (fun t k => if t.get .SYS_OSP_TX_EN k = 1 ∧ t.get .SYS_OSP_PORT k = a.port ∧ t.get .SYS_OSP_CHANNEL k = ch.val then
        { t with ospOut := Tab.put [] t.ospOut k (Tab.get [] t.ospOut k ++ [ofBytes (fieldBytes a t)]) } else t) s)) ∧
    (isControl a.port a.sc s = true → fieldUsable a s = false →
      (s.get .LINE_FRM_STATE a.port a.sc ≠ 0 → s.portGated a.port = false → Next (.overheadBlockRx at_ ch) s (s.inc .LP_OH_LOST a.port)) ∧
      (s.get .LINE_FRM_STATE a.port a.sc = 0 ∨ s.portGated a.port = true → Next (.overheadBlockRx at_ ch) s s))) ∧
  -- OSP_BLOCK_OUT (R72): the oldest block goes out where the port transmits, and none in L3.
  (∀ (k : Fin 8) (s : State), (Tab.get [] s.ospOut k = [] → Next (.ospBlockOut k) s s) ∧
    (∀ b r, Tab.get [] s.ospOut k = b :: r →
      (s.get .SYS_OSP_TX_EN k = 1 → s.get .FLT_STATUS_SAFE ≠ 1 →
        Next (.ospBlockOut k) s (({ s with ospOut := Tab.put [] s.ospOut k r } : State).emit (.osp k b))) ∧
      (s.get .SYS_OSP_TX_EN k ≠ 1 ∨ s.get .FLT_STATUS_SAFE = 1 →
        Next (.ospBlockOut k) s { s with ospOut := Tab.put [] s.ospOut k r }))) ∧
  -- OSP_BLOCK_IN (R73): up to four blocks wait for a grant; a fifth pushes out the oldest and is counted.
  (∀ (k : Fin 8) (b n : Nat) (w : List (Nat × Nat)) (s : State), n = s.get .SYS_OSP_PORT k →
    w = (s.frame n).ohWaiting ++ [(s.get .SYS_OSP_CHANNEL k, b % 2 ^ 512)] →
    (s.get .SYS_OSP_RX_EN k ≠ 1 → Next (.ospBlockIn k b) s s) ∧
    (s.get .SYS_OSP_RX_EN k = 1 → w.length ≤ 4 → Next (.ospBlockIn k b) s (s.setFrame n (fun f => { f with ohWaiting := w }))) ∧
    (s.get .SYS_OSP_RX_EN k = 1 → 4 < w.length → Next (.ospBlockIn k b) s ((s.inc .LP_OH_DROP n).setFrame n (fun f =>
      { f with ohWaiting := w.drop (w.length - 4) }))))

/-- Envelopes, tributary frames and performance bins (R59 to R62, R71, R74, R75). -/
def Obligations.EnvelopeTributaryAndBinEventsComplete : Prop :=
  -- ENVELOPE (R59, R60): nothing is delineated outside SYNC; a header with a byte in a failed pair is discarded; one that does not fit leads to
  -- HUNT; the first that fits to PRESYNC; the next delivers. The bytes passed over before delineation are counted.
  (∀ (n : Fin 4) (sc : Fin 16) (sf cell off header h : Nat) (body : List Nat) (ps : List (Nat × Nat × Nat)) (pairs : List (Nat × Nat)) (s t : State),
    h = header % 2 ^ 64 → ps = streamPairs 40000 n sc sf cell off (if envFits h then envSpan h else 8) s →
    pairs = (ps.map (fun p => (p.1, p.2.1))).dedup → t = s.bump .LSC_ENV_HUNT_BYTES (huntBytes n sc ps s) n sc →
    (s.get .LINE_FRM_STATE n sc ≠ 2 → Next (.envelope n sc sf cell off header body) s s) ∧
    (s.get .LINE_FRM_STATE n sc = 2 → 2 ≤ pairsC1 n sc pairs s → ∀ u : State, u = (if s.get .LINE_FRM_ENV_STATE n sc = 2 then s else t) →
      (envFits h = true → Next (.envelope n sc sf cell off header body) s (discardEnvelope n sc h (pairsC1 n sc pairs s == 3) u)) ∧
      (envFits h = false → Next (.envelope n sc sf cell off header body) s u)) ∧
    (s.get .LINE_FRM_STATE n sc = 2 → pairsC1 n sc pairs s < 2 →
      (envFits h = false → s.get .LINE_FRM_ENV_STATE n sc = 2 →
        Next (.envelope n sc sf cell off header body) s ((t.inc .LSC_ENV_HEC_ERR n sc).set .LINE_FRM_ENV_STATE 0 n sc)) ∧
      (envFits h = false → s.get .LINE_FRM_ENV_STATE n sc ≠ 2 →
        Next (.envelope n sc sf cell off header body) s (t.set .LINE_FRM_ENV_STATE 0 n sc)) ∧
      (envFits h = true → s.get .LINE_FRM_ENV_STATE n sc = 0 →
        Next (.envelope n sc sf cell off header body) s (t.set .LINE_FRM_ENV_STATE 1 n sc)) ∧
      (envFits h = true → s.get .LINE_FRM_ENV_STATE n sc ≠ 0 → Next (.envelope n sc sf cell off header body) s
        (deliverEnvelope n sc h pairs (byteArrival n sc sf cell off s) (pairsC1 n sc pairs s) body (s.set .LINE_FRM_ENV_STATE 2 n sc))))) ∧
  -- A delivered envelope (R61, R62, R80, R415): IDLE goes nowhere; one of another terminal is counted; in OFFLINE and HOLDOVER none is taken.
  (∀ (n sc h at_ c1 : Nat) (pairs : List (Nat × Nat)) (body : List Nat) (s : State),
    (bits h 46 4 = 0 → deliverEnvelope n sc h pairs at_ c1 body s = s) ∧
    (bits h 46 4 ≠ 0 → lineLooped n s = false → envOwn n h s = false →
      deliverEnvelope n sc h pairs at_ c1 body s = s.inc .LSC_ENV_OTHER n sc) ∧
    (bits h 46 4 ≠ 0 → lineLooped n s = false → envOwn n h s = true → s.tree n = tsOffline ∨ s.tree n = tsHoldover →
      deliverEnvelope n sc h pairs at_ c1 body s = s) ∧
    (∀ t it, bits h 46 4 ≠ 0 → lineLooped n s = true ∨ (envOwn n h s = true ∧ s.tree n ≠ tsOffline ∧ s.tree n ≠ tsHoldover) →
      t = (if s.tree n = tsDozing ∧ bit h 34 = false then wakeBy 3 s else s) → it = envItem n sc h pairs at_ c1 body t →
      (t.asleep = true → deliverEnvelope n sc h pairs at_ c1 body s = t.inc .PWR_STANDBY_DISCARD) ∧
      (t.asleep = false → isConfirmed it = true → deliverEnvelope n sc h pairs at_ c1 body s = confirmItem t.nextItem (newItem it t)) ∧
      (t.asleep = false → isConfirmed it = false → behaviour (newItem it t) = 0 → c1 = 0 →
        deliverEnvelope n sc h pairs at_ c1 body s = newItem it t) ∧
      (t.asleep = false → isConfirmed it = false → behaviour (newItem it t) ≠ 0 ∨ c1 ≠ 0 →
        deliverEnvelope n sc h pairs at_ c1 body s = startLineJob n t.nextItem (newItem it t)))) ∧
  -- TRIB_FRAME_TX (R56, R67, R71): a frame of the next 8,192 data bytes of the superframe, with its number, which rises, ERRORED where a byte's
  -- pair failed, FDI and LAST; none before every pair is decoded, without bytes, or in L3 (Table 16.5).
  (∀ (n : Fin 4) (t : Fin 64) (sf sent flags : Nat) (x : Trib) (rest part : List (Nat × Bool)) (s u : State), x = Tab.get {} (s.frame n).tribs t →
    sent = (if Tab.get 0 (s.frame n).tribSf t = sf + 1 then Tab.get 0 (s.frame n).tribSent t else 0) →
    rest = (tribData n t sf s).drop sent → part = rest.take 8192 →
    flags = b2n (part.any (·.2)) + 2 * b2n ((List.range 16).any (fun sc => (List.range 32).any (fun k =>
      slotTrib n sc k s == some t.val && bit (Tab.get 0 (s.frame n).remote sc) (40 + k)))) + 4 * b2n (decide (rest.length ≤ 8192)) →
    u = s.setFrame n (fun f =>
      { f with tribs := Tab.put {} f.tribs t { x with seqDown := (x.seqDown + 1) % 65536 }, tribSf := Tab.put 0 f.tribSf t (sf + 1),
               tribSent := Tab.put 0 f.tribSent t (sent + part.length) }) →
    (rest = [] ∨ s.get .FLT_STATUS_SAFE = 1 ∨ (∃ c ∈ tribCells n t sf s, ∃ p ∈ cellPairs sf c.2, pairOf n c.1 p s = none) →
      Next (.tribFrameTx n t sf) s s) ∧
    (rest ≠ [] → s.get .FLT_STATUS_SAFE ≠ 1 → (∀ c ∈ tribCells n t sf s, ∀ p ∈ cellPairs sf c.2, (pairOf n c.1 p s).isSome = true) →
      (u.link x.slot ≠ lsUp → Next (.tribFrameTx n t sf) s u) ∧
      (u.link x.slot = lsUp → Next (.tribFrameTx n t sf) s (u.emit (.tribFrame n t x.slot (tribFrame n t x flags (part.map (·.1)))))))) ∧
  -- TRIB_FRAME_RX (R71, R164, R165): a frame that the port's filters steer to the interchange enters its tributary's 512 KiB buffer in SEQ
  -- order, or is dropped and counted when it finds no room; any other is no tributary frame.
  (∀ (slot : Fin 32) (frame : List Nat) (k n t : Nat) (x : Trib) (s : State), k = 14 + 4 * tagsOf (s.get .PORT_CFG_TPID_ALT slot) frame →
    n = byteAt frame (k + 1) / 64 → t = byteAt frame (k + 1) % 64 → x = Tab.get {} (s.frame n).tribs t →
    (s.link slot ≠ lsUp ∨ rxDest s slot (rxClassOf s slot frame) frame ≠ some 1 ∨ byteAt frame k ≠ 1 → Next (.tribFrameRx slot frame) s s) ∧
    (s.link slot = lsUp → rxDest s slot (rxClassOf s slot frame) frame = some 1 → byteAt frame k = 1 →
      (524288 < x.buffer.length + (frame.drop (k + 8)).length → Next (.tribFrameRx slot frame) s (s.inc .LP_TRIB_OVERFLOW n)) ∧
      (x.buffer.length + (frame.drop (k + 8)).length ≤ 524288 → Next (.tribFrameRx slot frame) s (s.setFrame n (fun f =>
        { f with tribs := Tab.put {} f.tribs t { x with buffer := seqInsert (field frame (k + 2) 2) (frame.drop (k + 8)) x.buffer } }))))) ∧
  -- PM_SECOND (R34, R74, R75): a second is classed by the codewords counted in it and the defects it contained; ten in succession settle a change
  -- of availability; the bins that run are TIME_SUSPECT where service time is invalid.
  (∀ (n : Fin 4) (sub : Fin 17) (s t u : State) (cw un : Nat) (d : Bool) (x : PmSecond) (r : PmRun),
    Tab.get (0, 0) (s.frame n).pmCw sub = (cw, un) → d = ((s.frame n).pmDefect.contains sub.val || pmDefectNow n sub s) →
    x = ⟨serviceTime s / uS, d || decide (0 < un), d || (decide (0 < cw) && decide (3 * cw ≤ 10 * un)), cw, un, !(serviceValid s)⟩ →
    t = s.setFrame n (fun f => { f with pmCw := Tab.put (0, 0) f.pmCw sub (0, 0), pmDefect := f.pmDefect.filter (· ≠ sub.val) }) →
    u = t.when (!(serviceValid t)) (fun t => suspectBin n sub 1 (suspectBin n sub 0 t)) → r = Tab.get {} (u.frame n).runs sub →
    (x.ses = r.unavailable → Next (.pmSecond n sub) s (settleSeconds n sub r.unavailable (r.run ++ [x])
      (u.setFrame n (fun f => { f with runs := Tab.put {} f.runs sub { r with run := [] } })))) ∧
    (x.ses ≠ r.unavailable → r.run.length < 9 → Next (.pmSecond n sub) s
      (u.setFrame n (fun f => { f with runs := Tab.put {} f.runs sub { r with run := r.run ++ [x] } }))) ∧
    (x.ses ≠ r.unavailable → 9 ≤ r.run.length → Next (.pmSecond n sub) s (settleSeconds n sub (!r.unavailable) (r.run ++ [x])
      (u.setFrame n (fun f => { f with runs := Tab.put {} f.runs sub ⟨!r.unavailable, []⟩ }))))) ∧
  -- PM_BIN_OPEN (R75): a bin opens at an aligned boundary only, TIME_SUSPECT where service time is invalid; the one that ran waits to be closed.
  (∀ (n : Fin 4) (sub : Fin 17) (day : Bool) (sec len k : Nat) (cur : PmBin) (s : State), sec = serviceTime s / uS →
    len = (if day then 86400 else 900) → k = binKey sub (b2n day) → cur = Tab.get {} (s.frame n).bins k →
    (sec % len ≠ s.get .LINE_FRM_CFG_PM_OFFSET n * 900 % len ∨ (cur.valid = true ∧ cur.start = sec) → Next (.pmBinOpen n sub day) s s) ∧
    (sec % len = s.get .LINE_FRM_CFG_PM_OFFSET n * 900 % len →
      (cur.valid = false → Next (.pmBinOpen n sub day) s (s.setFrame n (fun f =>
        { f with bins := Tab.put {} f.bins k { start := sec, valid := true, timeSuspect := !(serviceValid s) } }))) ∧
      (cur.valid = true → cur.start ≠ sec → Next (.pmBinOpen n sub day) s
        (((s.setFrame n (fun f => { f with bins := Tab.put {} f.bins (k + 63) cur })).start (.binEnd n sub (b2n day))).setFrame n (fun f =>
          { f with bins := Tab.put {} f.bins k { start := sec, valid := true, timeSuspect := !(serviceValid s) } }))))) ∧
  -- PM_BIN_CLOSED (R75): 10 s after its end the bin enters the history, and event PM_BIN_CLOSED is raised.
  (∀ (n : Fin 4) (sub : Fin 17) (day : Bool) (s : State),
    (s.expired (.binEnd n sub (b2n day)) (10 * uS) = false → Next (.pmBinClosed n sub day) s s) ∧
    (s.expired (.binEnd n sub (b2n day)) (10 * uS) = true → Next (.pmBinClosed n sub day) s
      (((s.setFrame n (fun f =>
        { f with bins := shiftBins (binKey sub (b2n day)) (if day then 1 else 32) (Tab.get {} f.bins (binKey sub (b2n day) + 63))
                           (Tab.get {} f.bins (binKey sub (b2n day))) (Tab.put {} f.bins (binKey sub (b2n day) + 63) {}) })).stop
            (.binEnd n sub (b2n day))).raise 0x040F [n, b2n day])))
/-- A change of terminal state (R81, Table 3.11): STATE, PREV_STATE and event STATE_CHANGE; no other register but SILENT_MS changes. -/
def Obligations.TerminalStateChangeIsReported : Prop :=
  ∀ (n new cause : Nat) (s : State), new < 16 → s.tree n < 16 →
    (setTree n new cause s).tree n = new ∧ (setTree n new cause s).get .LINE_TREE_STATE_PREV_STATE n = s.tree n ∧
    (setTree n new cause s).raised = s.raised ++ [⟨0x0501, [n, new + s.tree n * 16, cause], []⟩] ∧
    (∀ (f : Fld) (a b : Nat), f ≠ .LINE_TREE_STATE_STATE → f ≠ .LINE_TREE_STATE_PREV_STATE → f ≠ .LINE_TREE_STATE_SILENT_MS →
      (setTree n new cause s).get f a b = s.get f a b) ∧
    (setTree n new cause s).ctrs = s.ctrs ∧ (setTree n new cause s).lines = s.lines ∧ (setTree n new cause s).frames = s.frames

/-- The tree commands of Table 3.10. -/
def Obligations.TreeCommandsComplete : Prop :=
  -- TREE_JOIN (R80, R337): to LISTEN from OFFLINE or DEPOSED, elsewhere refused; from OFFLINE Dill starts where nothing is in SYNC and none
  -- runs. A port whose serial has no value in use refuses.
  (∀ (q : Req) (n : Nat) (s : State), n < 4 → takenUp (ciTreeJoin n) q s = true →
    (s.fuses.lost.find? (fun w => w / 2 == 2 + n) = none →
      (s.tree n = tsDeposed ∨ (s.tree n = tsOffline ∧ (controlSync n s = true ∨ s.get .LINE_STATUS_SEARCHING n = 1)) →
        Done (.treeJoin q n) (ciTreeJoin n) q [n] s (setTree n tsListen 0x0501 (s.setTerm n (fun t => { t with joined := true })))) ∧
      (s.tree n = tsOffline → controlSync n s = false → s.get .LINE_STATUS_SEARCHING n ≠ 1 →
        Done (.treeJoin q n) (ciTreeJoin n) q [n] s
          (startSearch n 0x0501 (setTree n tsListen 0x0501 (s.setTerm n (fun t => { t with joined := true }))))) ∧
      (s.tree n ≠ tsOffline → s.tree n ≠ tsDeposed → Next (.treeJoin q n) s (reject (ciTreeJoin n) q stState 0 s))) ∧
    (∀ w, s.fuses.lost.find? (fun w => w / 2 == 2 + n) = some w → Next (.treeJoin q n) s (reject (ciTreeJoin n) q stDoubtful w s))) ∧
  -- TREE_LEAVE (R80): to OFFLINE from any state, the identity cleared; in OFFLINE only the join state ends.
  (∀ (q : Req) (n : Nat) (s : State), n < 4 → takenUp (ciTreeLeave n) q s = true →
    (s.tree n = tsOffline → Done (.treeLeave q n) (ciTreeLeave n) q [n] s
      (s.setTerm n (fun t => { t with joined := false, afterOutage := false }))) ∧
    (s.tree n ≠ tsOffline → Done (.treeLeave q n) (ciTreeLeave n) q [n] s
      (setTree n tsOffline 0x0502 (clearProfiles n (abandonPresence n
        (s.setTerm n (fun t => { t with joined := false, afterOutage := false }))))))) ∧
  -- TREE_CONFIG (R79, R80, R106): the fields masked take their values, and each port acts on a change of its HOST_DARK; the filter is written in
  -- OFFLINE only.
  (∀ (q : Req) (es : List WEntry) (s : State), takenUp ciTreeConfig q s = true → wErr treeConfigAllow es = none →
    ((∀ n ∈ filterPorts es, s.tree n = tsOffline) → Done (.treeConfig q es) ciTreeConfig q (es.map (·.off)) s
      ((List.range 4).foldl (fun t n => hostDarkChanged n 0x0503 s t) (wApplyAll s es))) ∧
    (∀ n ∈ filterPorts es, s.tree n ≠ tsOffline → Next (.treeConfig q es) s (reject ciTreeConfig q stState 0 s))) ∧
  -- The host dark condition (R79, R80): set, it arises; cleared, it may end.
  (∀ (n op : Nat) (b s : State),
    (b.get .LINE_TREE_CFG_HOST_DARK n ≠ 1 → s.get .LINE_TREE_CFG_HOST_DARK n = 1 → hostDarkChanged n op b s = darkArises n op s) ∧
    (b.get .LINE_TREE_CFG_HOST_DARK n = 1 → s.get .LINE_TREE_CFG_HOST_DARK n ≠ 1 → hostDarkChanged n op b s = darkMayEnd n op s) ∧
    ((b.get .LINE_TREE_CFG_HOST_DARK n = 1 ↔ s.get .LINE_TREE_CFG_HOST_DARK n = 1) → hostDarkChanged n op b s = s)) ∧
  -- TREE_DARK (R79, R80): sets or clears it.
  (∀ (q : Req) (n : Nat) (on : Bool) (s : State), n < 4 → takenUp (ciTreeDark n) q s = true →
    Done (.treeDark q n on) (ciTreeDark n) q [n] s (hostDarkChanged n 0x0507 s (s.set .LINE_TREE_CFG_HOST_DARK (b2n on) n))) ∧
  -- TREE_DOZE (R99): in MEMBER only. TREE_WAKE (R100): in DOZING only.
  (∀ (q : Req) (n : Nat) (s : State), n < 4 → takenUp (ciTreeDoze n) q s = true →
    (s.tree n = tsMember → Done (.treeDoze q n) (ciTreeDoze n) q [n] s (s.set .LINE_TREE_DOZE_REQUESTED 1 n)) ∧
    (s.tree n ≠ tsMember → Next (.treeDoze q n) s (reject (ciTreeDoze n) q stState 0 s))) ∧
  (∀ (q : Req) (n : Nat) (s : State), n < 4 → takenUp (ciTreeWake n) q s = true →
    (s.tree n = tsDozing → Done (.treeWake q n) (ciTreeWake n) q [n] s (wakeRequest n 0x0505 s)) ∧
    (s.tree n ≠ tsDozing → Next (.treeWake q n) s (reject (ciTreeWake n) q stState 0 s))) ∧
  -- TREE_GUARD_RELEASE (R103): every named cause latched and its condition clear, else refused (a command that names none succeeds: the model's
  -- choice, log entry 126).
  (∀ (q : Req) (n causes : Nat) (s : State), n < 4 → causes < 32 → takenUp (ciTreeGuardRelease n) q s = true →
    ((s.get .LINE_BAY_LATCHED n &&& causes) = causes → (s.get .LINE_BAY_PRESENT n &&& causes) = 0 →
      Done (.treeGuardRelease q n causes) (ciTreeGuardRelease n) q [n] s (bayRelease n causes 0x0506 s)) ∧
    ((s.get .LINE_BAY_LATCHED n &&& causes) ≠ causes ∨ (s.get .LINE_BAY_PRESENT n &&& causes) ≠ 0 →
      Next (.treeGuardRelease q n causes) s (reject (ciTreeGuardRelease n) q stState 0 s))) ∧
  -- TREE_MSG_READ (R55): up to 16 messages leave the queue, oldest first.
  (∀ (q : Req) (n : Nat) (s : State), n < 4 → takenUp (ciTreeMsgRead n) q s = true →
    Done (.treeMsgRead q n) (ciTreeMsgRead n) q [n] s (s.setFrame n (fun f => { f with msgs := f.msgs.drop 16 }))
      (formR (((s.frame n).msgs.take 16).map (fun m => (0, words (msgBytes m.bcast m.tid m.epoch m.type m.body.length m.body ++
        toBytes 4 (crc32c (msgBytes m.bcast m.tid m.epoch m.type m.body.length m.body))))))))

/-- A message that is damaged, or for another terminal, or of another epoch, or malformed, or met in a state that does not act on it, has the
one effect that the rules give it (R48, R49, R55, R83, R84, R96). -/
def Obligations.UnsoundTreeMessagesAreCounted : Prop :=
  ∀ (a : FieldAt) (bs : List Nat) (m : TreeMsg) (s : State) (x y : Nat), bs = fieldBytes a s → m = msgOf bs →
    (∀ (i : Instr) (types : Nat → Bool), (i, types) ∈ messageRows a x y →
      -- No message field, one that is discarded, or of a type that another row handles: nothing.
      (a.sector < 32 ∨ 63 < a.sector ∨ fieldUsable a s = false ∨ types m.type = false → Next i s s) ∧
      (32 ≤ a.sector → a.sector ≤ 63 → fieldUsable a s = true → types m.type = true →
        -- CHECK does not fit: counted per subcarrier.
        (field bs 60 4 ≠ crc32c (bs.take 60) → Next i s (s.inc .LSC_MSG_BADCHECK a.port a.sc)) ∧
        (field bs 60 4 = crc32c (bs.take 60) →
          -- Empty, or for another terminal: nothing.
          (m.type = 0 ∨ taken a m s = false → Next i s s) ∧
          (m.type ≠ 0 → taken a m s = true →
            -- A length byte out of range: MSG_UNKNOWN.
            (54 < m.blen → Next i s (s.inc .LP_MSG_UNKNOWN a.port)) ∧
            -- Of another epoch: counted, and a newer one deposes.
            (m.blen ≤ 54 → m.bcast = false → m.epoch ≠ s.get .LINE_TREE_ID_EPOCH a.port → ∀ t : State, t = s.inc .LP_MSG_STALE a.port →
              (newerEpoch m.epoch (t.get .LINE_TREE_ID_EPOCH a.port) = true → Next i s (depose a.port 4 m.epoch 0x0502 t)) ∧
              (newerEpoch m.epoch (t.get .LINE_TREE_ID_EPOCH a.port) = false → Next i s t)))))) ∧
    -- With the wrong addressing, in a state that does not act on it, or with a wrong length or field: MSG_UNKNOWN.
    (∀ (i : Instr) (types : Nat → Bool) (bcast ok : Bool) (states : List Nat), (i, types, bcast, states, ok) ∈
        [(Instr.discovery a x y, (· == 1), true, [tsCandidate],
            m.blen == 20 && bit (field m.body 14 2) 13 && decide (bits (field m.body 14 2) 1 3 ≤ 4)),
         (.range a, (· == 3), false, [tsRanging, tsMember, tsDozing], m.blen == 13),
         (.profile a, (· == 4), false, [tsRanging, tsMember, tsDozing, tsDark],
            decide (1 ≤ field m.body 4 1 ∧ field m.body 4 1 ≤ 16) && m.blen == 5 + 3 * field m.body 4 1),
         (.dozeAck a, (· == 5), false, [tsMember], m.blen == 2 && field m.body 0 2 != 0),
         (.deregister a, (· == 6), false, [tsRanging, tsMember, tsDozing, tsDark], m.blen == 0)] →
      goodMessage a types m s → m.bcast ≠ bcast ∨ ¬(s.tree a.port ∈ states) ∨ ok = false → Next i s (s.inc .LP_MSG_UNKNOWN a.port)) ∧
    (goodMessage a (· == 2) m s → m.bcast = false ∨ m.blen ≠ 24 → Next (.assign a) s (s.inc .LP_MSG_UNKNOWN a.port)) ∧
    (goodMessage a (fun type => decide (type = 0 ∨ 7 ≤ type)) m s → m.type < 64 ∨ s.tree a.port = tsOffline →
      Next (.hostMessage a) s (s.inc .LP_MSG_UNKNOWN a.port))

/-- What each tree message does to the terminal that acts on it. -/
def Obligations.TreeMessagesTakeEffect : Prop :=
  -- DISCOVERY (R86, R87): with the discovery flag clear, without the superframe's header, or while a presence burst or its answer is awaited,
  -- nothing; a window let pass uses one up; one too short for the burst, or begun, is not used; else a presence burst is due in it.
  (∀ (a : FieldAt) (m : TreeMsg) (x y n prof up width eqd l : Nat) (s : State), goodMessage a (· == 1) m s → m.bcast = true → m.blen = 20 →
    s.tree a.port = tsCandidate → n = a.port → prof = field m.body 14 2 → bit prof 13 = true → bits prof 1 3 ≤ 4 →
    up = field m.body 0 4 % 2 ^ 25 → width = field m.body 8 4 → eqd = bits (field m.body 16 4) 4 24 →
    l = burstSymbols (bits prof 8 5) 4096 1 (bits prof 1 3) (bits prof 0 1) →
    ((s.frame n).discoveryOpen = false ∨ (s.frame n).headerTaken = none ∨ (s.term n).presence.isSome = true ∨ (s.term n).nonce.isSome = true ∨
        (s.term n).burst.isSome = true → Next (.discovery a x y) s s) ∧
    ((s.frame n).discoveryOpen = true → (s.frame n).headerTaken.isSome = true → (s.term n).presence = none → (s.term n).nonce = none →
        (s.term n).burst = none →
      (0 < (s.term n).skip → Next (.discovery a x y) s (s.setTerm n (fun t => { t with skip := t.skip - 1 }))) ∧
      ((s.term n).skip = 0 → width < l ∨ upBegun n up eqd s = true → Next (.discovery a x y) s s) ∧
      ((s.term n).skip = 0 → l ≤ width → upBegun n up eqd s = false → Next (.discovery a x y) s (s.setTerm n (fun t =>
        { t with presence := some ⟨up, field m.body 4 4 % 2 ^ 21 + 256 * (x % ((width - l) / 256 + 1)), field m.body 12 2, prof, eqd, y % 2 ^ 32⟩ }))))) ∧
  -- ASSIGN (R83, R87): for another serial nothing in CANDIDATE, else unknown; the own serial with the awaited nonce gives the identity and starts
  -- ranging; else counted.
  (∀ (a : FieldAt) (m : TreeMsg) (n : Nat) (s : State), goodMessage a (· == 2) m s → m.bcast = true → m.blen = 24 → n = a.port →
    (field m.body 0 8 ≠ s.get .LINE_TREE_SERIAL_SERIAL n →
      (s.tree n = tsCandidate → Next (.assign a) s s) ∧ (s.tree n ≠ tsCandidate → Next (.assign a) s (s.inc .LP_MSG_UNKNOWN n))) ∧
    (field m.body 0 8 = s.get .LINE_TREE_SERIAL_SERIAL n →
      (s.tree n = tsCandidate → (s.term n).nonce = some (field m.body 8 4) →
        Next (.assign a) s (toRanging n 0 (takeIdentity n (field m.body 12 2) (field m.body 14 2) (field m.body 16 4)
          (field m.body 20 4) (abandonPresence n s)))) ∧
      (s.tree n ≠ tsCandidate ∨ (s.term n).nonce ≠ some (field m.body 8 4) → Next (.assign a) s (s.inc .LP_ASSIGN_IGNORED n)))) ∧
  -- RANGE (R85, R88, R89): the values wait for their superframe; a late one is counted and applies from the first that can. In RANGING, COMPLETE
  -- ends the ranging: MEMBER, and event RANGED, and an outage before it ends; without COMPLETE the ranging timer starts again.
  (∀ (a : FieldAt) (m : TreeMsg) (n ap : Nat) (late : Bool) (v : RangeValues) (s u t : State), goodMessage a (· == 3) m s → m.bcast = false →
    m.blen = 13 → s.tree a.port = tsRanging ∨ s.tree a.port = tsMember ∨ s.tree a.port = tsDozing → n = a.port →
    applyFrom n (field m.body 8 4 % 2 ^ 25) s = (ap, late) →
    v = ⟨bits (field m.body 0 4) 4 24, field m.body 0 4 % 16, field m.body 4 4, ap, (s.frame n).sf⟩ → u = s.when late (fun s => s.inc .LP_RANGE_LATE n) →
    t = u.setTerm n (fun t => { t with rangeNext := t.rangeNext ++ [v], rangeBase := some (rangeUnder n s) }) →
    (t.tree n ≠ tsRanging → Next (.range a) s t) ∧
    (t.tree n = tsRanging →
      (bit (field m.body 12 1) 0 = false → Next (.range a) s (t.start (.ranging n))) ∧
      (bit (field m.body 12 1) 0 = true → (t.term n).afterOutage = false →
        Next (.range a) s ((setTree n tsMember 0x0506 t).raise 0x0506 [n, v.eqd, v.trim])) ∧
      (bit (field m.body 12 1) 0 = true → (t.term n).afterOutage = true → Next (.range a) s
        (outageEnd n (t.term n).outageMs 1 ((setTree n tsMember 0x0506 t).raise 0x0506 [n, v.eqd, v.trim]))))) ∧
  -- PROFILE (R84, R85): its entries wait for their superframe.
  (∀ (a : FieldAt) (m : TreeMsg) (n k ap : Nat) (late : Bool) (s u : State), goodMessage a (· == 4) m s → m.bcast = false → k = field m.body 4 1 →
    1 ≤ k → k ≤ 16 → m.blen = 5 + 3 * k → s.tree a.port ∈ [tsRanging, tsMember, tsDozing, tsDark] → n = a.port →
    applyFrom n (field m.body 0 4 % 2 ^ 25) s = (ap, late) → u = s.when late (fun s => s.inc .LP_RANGE_LATE n) →
    Next (.profile a) s (u.setTerm n (fun t => { t with profileBase := some (profilesUnder n s), profileNext := t.profileNext ++
      [⟨(List.range k).map (fun j => (field m.body (5 + 3 * j) 1 % 16, field m.body (6 + 3 * j) 2 % 2 ^ 14)), ap, (s.frame n).sf⟩] }))) ∧
  -- DOZE_ACK (R99): a terminal that asked for it enters DOZING with the period given; one that did not stays.
  (∀ (a : FieldAt) (m : TreeMsg) (s : State), goodMessage a (· == 5) m s → m.bcast = false → m.blen = 2 → field m.body 0 2 ≠ 0 →
    s.tree a.port = tsMember →
    (s.get .LINE_TREE_DOZE_REQUESTED a.port ≠ 1 → Next (.dozeAck a) s s) ∧
    (s.get .LINE_TREE_DOZE_REQUESTED a.port = 1 → Next (.dozeAck a) s
      ((setTree a.port tsDozing 0 ((s.setAll [(.LINE_TREE_DOZE_REQUESTED, 0), (.LINE_TREE_DOZE_PERIOD, field m.body 0 2)] a.port).setTerm a.port
        (fun t => { t with txPowered := false, dozeMissed := false, wakePending := false }))).start (.checkin a.port)))) ∧
  -- DEREGISTER (R80): identity and profiles cleared, LISTEN.
  (∀ (a : FieldAt) (m : TreeMsg) (s : State), goodMessage a (· == 6) m s → m.bcast = false → m.blen = 0 →
    s.tree a.port ∈ [tsRanging, tsMember, tsDozing, tsDark] →
    Next (.deregister a) s (setTree a.port tsListen 0 (clearProfiles a.port s))) ∧
  -- HOST_MESSAGE (R55, R83): TYPE 64 to 255 waits for the host, 256 at most.
  (∀ (a : FieldAt) (m : TreeMsg) (s : State), goodMessage a (fun type => decide (type = 0 ∨ 7 ≤ type)) m s → s.tree a.port ≠ tsOffline → 64 ≤ m.type →
    ((s.frame a.port).msgs.length < 256 → Next (.hostMessage a) s (s.setFrame a.port (fun f =>
      { f with msgs := f.msgs ++ [⟨m.bcast, m.tid, m.epoch, m.type, m.body.take m.blen⟩] }))) ∧
    (256 ≤ (s.frame a.port).msgs.length → Next (.hostMessage a) s (s.inc .LP_MSG_OVERFLOW a.port)))

/-- The terminal's timers (R80, R82, R87, R89, R96, R98, R100): none acts before its time, or in a state that does not run it. -/
def Obligations.TerminalTimersComplete : Prop :=
  -- RANGING_TIMEOUT (R89); after an outage OUTAGE_END is raised too (the model's choice, log entry 126).
  (∀ (n : Fin 4) (s : State) (u : Bool), u = s.expired (.ranging n) (s.get .LINE_TREE_TIMERS_RANGING_TIMEOUT n * 10 * uMs) →
    (s.tree n ≠ tsRanging ∨ u = false → Next (.rangingTimeout n) s s) ∧
    (s.tree n = tsRanging → u = true → (s.term n).afterOutage = false →
      Next (.rangingTimeout n) s ((setTree n tsListen 0 (clearIdentity n s)).raise 0x0507 [n])) ∧
    (s.tree n = tsRanging → u = true → (s.term n).afterOutage = true → Next (.rangingTimeout n) s
      (outageEnd n (s.term n).outageMs 2 ((setTree n tsListen 0 (clearIdentity n s)).raise 0x0507 [n])))) ∧
  -- REREG_LIMIT_EXPIRY (R80): outcome 2, and LISTEN.
  (∀ (n : Fin 4) (s : State),
    ((s.tree n ≠ tsHoldover ∧ s.tree n ≠ tsDark) ∨ (s.term n).silentSince = none → Next (.reregLimitExpiry n) s s) ∧
    (∀ a, s.tree n = tsHoldover ∨ s.tree n = tsDark → (s.term n).silentSince = some a →
      (s.get .LINE_TREE_TIMERS_REREG_LIMIT n * 100 ≤ (s.now - a) / uMs →
        Next (.reregLimitExpiry n) s (outageEnd n ((s.now - a) / uMs) 2 (setTree n tsListen 0 (clearIdentity n s)))) ∧
      ((s.now - a) / uMs < s.get .LINE_TREE_TIMERS_REREG_LIMIT n * 100 → Next (.reregLimitExpiry n) s s))) ∧
  -- RETURN_ENTRY_TIMEOUT (R82): 16 superframes without the own entry; ranging follows.
  (∀ (n : Fin 4) (s : State),
    ((s.term n).awaiting = false ∨ s.expired (.returnEntry n) (16 * uSf) = false → Next (.returnEntryTimeout n) s s) ∧
    ((s.term n).awaiting = true → s.expired (.returnEntry n) (16 * uSf) = true →
      Next (.returnEntryTimeout n) s (toRanging n 0 (((s.stop (.returnEntry n)).setTerm n (fun t => { t with awaiting := false })).setTerm n
        (fun t => { t with afterOutage := true }))))) ∧
  -- ASSIGN_WAIT_EXPIRY (R87): counted and reported; between 0 and min(2^(c+1) - 1, BACKOFF_MAX) windows pass unused, drawn uniformly.
  (∀ (n : Fin 4) (b : Nat) (s : State) (u : Bool), u = s.expired (.assignWait n) (s.get .LINE_TREE_TIMERS_ASSIGN_WAIT n * uSf) →
    (s.tree n ≠ tsCandidate ∨ u = false → Next (.assignWaitExpiry n b) s s) ∧
    (s.tree n = tsCandidate → u = true →
      Next (.assignWaitExpiry n b) s ((((s.stop (.assignWait n)).inc .LP_PRESENCE_UNANSWERED n).raise 0x0505 [n, (s.term n).backoff]).setTerm n
        (fun t => { t with nonce := none, backoff := (s.term n).backoff + 1,
                           skip := b % (min (2 ^ ((s.term n).backoff + 1) - 1) (s.get .LINE_TREE_TIMERS_BACKOFF_MAX n) + 1) })))) ∧
  -- DIR_GRACE_END (R96).
  (∀ (n : Fin 4) (s : State), (s.expired (.dirGrace n) (16 * uSf) = false → Next (.dirGraceEnd n) s s) ∧
    (s.expired (.dirGrace n) (16 * uSf) = true → Next (.dirGraceEnd n) s ((s.stop (.dirGrace n)).set .LINE_TREE_STATE_DIR_GRACE 0 n))) ∧
  -- DOZE_MISSED (R100): once in a doze.
  (∀ (n : Fin 4) (a : Nat) (s : State),
    (s.tree n ≠ tsDozing ∨ (s.term n).dozeMissed = true ∨ s.timer (.checkin n) = none → Next (.dozeMissed n) s s) ∧
    (s.timer (.checkin n) = some a → s.now < a + 4 * s.get .LINE_TREE_DOZE_PERIOD n * uSf → Next (.dozeMissed n) s s) ∧
    (s.tree n = tsDozing → (s.term n).dozeMissed = false → s.timer (.checkin n) = some a → a + 4 * s.get .LINE_TREE_DOZE_PERIOD n * uSf ≤ s.now →
      Next (.dozeMissed n) s (((s.setTerm n (fun t => { t with dozeMissed := true })).inc .LP_DOZE_CHECKIN_MISSED n).raise 0x0508
        [n, (s.now - a) / uSf]))) ∧
  -- HOLDOVER_DILL_RESTART (R98).
  (∀ (n : Fin 4) (s : State),
    (s.tree n = tsHoldover → controlSync n s = false → s.expired (.lightBack n) (20 * uMs) = true →
      Next (.holdoverDillRestart n) s (startSearch n 0 (s.stop (.lightBack n)))) ∧
    (s.tree n ≠ tsHoldover ∨ controlSync n s = true ∨ s.expired (.lightBack n) (20 * uMs) = false → Next (.holdoverDillRestart n) s s))

/-- Bay, the burst guard (R102, R103, Table 3.8). -/
def Obligations.BayTripsAndReleases : Prop :=
  -- BAY_TRIP (R102): a cause that is latched trips no more; one that is not is latched, counted and reported, the transmitter dark.
  (∀ (n : Fin 4) (duty : Bool) (s : State),
    (bit (s.get .LINE_BAY_LATCHED n) (b2n duty) = true → Next (.bayTrip n duty) s s) ∧
    (bit (s.get .LINE_BAY_LATCHED n) (b2n duty) = false →
      Next (.bayTrip n duty) s (darkArises n 0x0503 ((((txDark n (cutOff n false ((s.set .LINE_BAY_LATCHED
        (withBit (s.get .LINE_BAY_LATCHED n) (b2n duty) true) n).set .LINE_BAY_TRIPPED 1 n))).inc .LP_BAY_TRIPS n).raise 0x0503 [n, b2n duty]))))) ∧
  -- BAY_SYNC_TRIP (R102): 80 ns after downstream loss, not before.
  (∀ (n : Fin 4) (s : State), ((s.term n).lossAt = none → Next (.baySyncTrip n) s s) ∧
    (∀ a, (s.term n).lossAt = some a →
      (s.now < a + 80 * uNs → Next (.baySyncTrip n) s s) ∧
      (a + 80 * uNs ≤ s.now → Next (.baySyncTrip n) s (bayTripOn n 2 (s.setTerm n (fun t => { t with lossAt := none })))))) ∧
  -- BAY_MCLK_CLEAR (Table 3.8): MCLK has run for 1 ms.
  (∀ (n : Fin 4) (s : State), (s.expired (.mclkBack n) uMs = false → Next (.bayMclkClear n) s s) ∧
    (s.expired (.mclkBack n) uMs = true → Next (.bayMclkClear n) s ((clkBack [12] (s.stop (.mclkBack n))).set .LINE_BAY_PRESENT
      (withBit ((clkBack [12] (s.stop (.mclkBack n))).get .LINE_BAY_PRESENT n) 3 false) n))) ∧
  -- TX_DISABLE_FALL (R102, R457): the pin low is cause 4. TX_DISABLE_RISE: its condition clears, the latch stays.
  (∀ (n : Fin 4) (s : State),
    Next (.txDisableFall n) s (bayTripOn n 4 ((s.set .LINE_BAY_TX_DISABLE_PIN 0 n).set .LINE_BAY_PRESENT
      (withBit (s.get .LINE_BAY_PRESENT n) 4 true) n)) ∧
    Next (.txDisableRise n) s ((s.set .LINE_BAY_TX_DISABLE_PIN 1 n).set .LINE_BAY_PRESENT (withBit (s.get .LINE_BAY_PRESENT n) 4 false) n))
/-- Grants and the bursts they carry (R21, R28, R53, R54, R63, R65, R70, R86 to R88, R91 to R95, R98 to R101, R105). -/
def Obligations.GrantAndBurstEventsComplete : Prop :=
  -- GRANT (R49, R53, R93, R96, R100): nothing from a discarded field; LENGTH 0 is no grant; a bad CHECK is counted; one of another terminal, or in
  -- HOLDOVER without a wait for the directory entry, is not looked at; an own one that overruns the superframe is counted, one of another epoch
  -- deposes; a sound one is taken, and a plain one wakes a dozing terminal.
  (∀ (at_ a : FieldAt) (slot : Fin 64) (n e : Nat) (g : Grant) (s u : State), a = inSector at_ (9 + slot.val / 4) → n = at_.port →
    e = ofBytes (((fieldBytes a s).drop (slot.val % 4 * 16)).take 16) → g = grantOf n e s → u = s.inc .LP_GRANT_OWN n →
    (fieldUsable a s = false ∨ bits e 44 16 = 0 → Next (.grant at_ slot) s s) ∧
    (fieldUsable a s = true → bits e 44 16 ≠ 0 →
      (bits e 0 32 ≠ crc32c (toBytes 12 (bits e 32 96)) → Next (.grant at_ slot) s (s.inc .LSC_GRANT_BADCHECK n at_.sc)) ∧
      (bits e 0 32 = crc32c (toBytes 12 (bits e 32 96)) →
        (s.get .LINE_TREE_STATE_IDENT_VALID n ≠ 1 ∨ bits e 119 9 ≠ s.get .LINE_TREE_ID_TID n ∨
          (s.tree n = tsHoldover ∧ (s.term n).awaiting = false) → Next (.grant at_ slot) s s) ∧
        (s.get .LINE_TREE_STATE_IDENT_VALID n = 1 → bits e 119 9 = s.get .LINE_TREE_ID_TID n →
            s.tree n ≠ tsHoldover ∨ (s.term n).awaiting = true →
          (profileOk g.prof = true → 1671167 < g.lastSym → Next (.grant at_ slot) s (s.inc .LP_GRANT_OVERRUN n)) ∧
          (profileOk g.prof = false ∨ g.lastSym ≤ 1671167 →
            (bits e 103 16 ≠ s.get .LINE_TREE_ID_EPOCH n → Next (.grant at_ slot) s (depose n 0 (bits e 103 16) 0x0502 s)) ∧
            (bits e 103 16 = s.get .LINE_TREE_ID_EPOCH n →
              (u.tree n = tsDozing → g.checkin = false → g.ranging = false → Next (.grant at_ slot) s (useGrant n g (wakeNow n 0 u))) ∧
              (u.tree n ≠ tsDozing ∨ g.checkin = true ∨ g.ranging = true → Next (.grant at_ slot) s (useGrant n g u)))))))) ∧
  -- A grant that is taken (R31, R93, R94, R101): refused by the state, by an unusable profile, by an overlapping one that prevails, or by a full
  -- table of windows; else the ones that it prevails over are left unused, and it waits with its window.
  (∀ (n : Nat) (g : Grant) (s u : State) (rivals : List Grant), rivals = (s.term n).grants.filter (fun x => overlaps n g x s) →
    u = (rivals.foldl (fun s x => bayLeave n x (s.inc .LP_GRANT_CONFLICT n)) s).setTerm n
      (fun t => { t with grants := t.grants.filter (fun x => !(rivals.contains x)) }) →
    (statePermits n g s = false → useGrant n g s = s.inc .LP_GRANT_STATE n) ∧
    (statePermits n g s = true → profileOk g.prof = false → useGrant n g s = s.inc .LP_GRANT_BADPROF n) ∧
    (statePermits n g s = true → profileOk g.prof = true →
      ((∃ b ∈ (s.term n).burst.toList ++ (s.term n).built, overlaps n g b.grant s = true) ∨ (∃ x ∈ rivals, prevails n g x s = false) →
        useGrant n g s = s.inc .LP_GRANT_CONFLICT n) ∧
      ((∀ b ∈ (s.term n).burst.toList ++ (s.term n).built, overlaps n g b.grant s = false) → (∀ x ∈ rivals, prevails n g x s = true) →
        (64 ≤ (u.term n).windows.length → useGrant n g s = u.inc .LP_GRANT_BAYFULL n) ∧
        ((u.term n).windows.length < 64 → useGrant n g s = u.setTerm n (fun t =>
          { t with grants := t.grants ++ [g], windows := t.windows ++ [bayWindow g],
                   lastUpSf := match (s.term n).lastUpSf with
                     | some l => if sfReached l g.upSf then some l else some g.upSf
                     | none => some g.upSf }))))) ∧
  -- BURST_BODY_BUILD (R93, R98): from 2 µs before ramp-up, not before; a grant that the state permits no more is left unused.
  (∀ (n : Fin 4) (s : State),
    (nextGrant n s = none → Next (.burstBodyBuild n) s s) ∧
    (∀ g t, nextGrant n s = some g → t = s.setTerm n (fun t => { t with grants := t.grants.filter (· ≠ g) }) →
      ((s.now : Int) + (2 * uUs : Nat) < winFrom n g s → Next (.burstBodyBuild n) s s) ∧
      (winFrom n g s ≤ (s.now : Int) + (2 * uUs : Nat) →
        (statePermits n g t = true → Next (.burstBodyBuild n) s (buildBody n g t)) ∧
        (statePermits n g t = false → Next (.burstBodyBuild n) s (bayLeave n g (t.inc .LP_GRANT_STATE n)))))) ∧
  -- A body (R65, R70, R73, R88, R95, R259): the reports asked for; then for ranging nothing, on AID 63 the tributary cells the page assigns, else
  -- overhead blocks on OH_AID and the granted AID's frames, what they leave being counted as idle.
  (∀ (n : Nat) (g : Grant) (s u v : State) (b : Burst) (rs : List (Nat × Nat)) (xs : List BodyStream) (placed : List Placed) (report doze : Bool),
    b = emptyBurst n g s → report = (g.reportReq || s.tree n == tsDozing) →
    doze = (s.isSet .LINE_TREE_DOZE_REQUESTED n || (s.tree n == tsDozing && !((s.term n).wakePending && g.checkin))) →
    (if report then takeReports n g.aid s else (s, [])) = (u, rs) →
    (g.ranging = true → buildBody n g s = u.setTerm n (fun t => { t with built := t.built ++
      [{ b with placed := [], doze := doze, reports := rs, flags := 1 + 2 * b2n report + 4 * b2n doze }] })) ∧
    (g.ranging = false → g.aid = 63 → upCells n (upPage n g s) s ≠ [] → tribBody n g b.streams (upCells n (upPage n g s) s) u = (v, xs) →
      buildBody n g s = v.setTerm n (fun t => { t with built := t.built ++
        [{ b with placed := [], doze := doze, reports := rs, streams := xs, flags := 2 * b2n report + 4 * b2n doze + 8 }] })) ∧
    (g.ranging = false → g.aid ≠ 63 ∨ upCells n (upPage n g s) s = [] →
      ∀ (w : State) (ys : List BodyStream), (if g.aid = u.get .LINE_FRM_CFG_OH_AID n then putOverhead n g.aid b.streams u else (u, b.streams)) = (w, ys) →
      fillBody (w.copies.length + 1) n b ys [] (bucketsNow w) = (v, xs, placed) →
      buildBody n g s = (v.bump .SCHED_GRANT_IDLE_BYTES (xs.foldl (fun a x => a + (x.cap - x.bytes.length)) 0) (32 + n)).setTerm n (fun t =>
        { t with built := t.built ++ [{ b with placed := placed, doze := doze, reports := rs, streams := xs, flags := 2 * b2n report + 4 * b2n doze }] }))) ∧
  -- BURST_START (R21, R88, R91, R93, R100, R101, R105): not before U + START nor while a burst runs; without carrier lock, permission or window
  -- the grant is left unused and what was built for it given up; else the transmitter lights.
  (∀ (n : Fin 4) (s : State),
    ((s.term n).built = [] → Next (.burstStart n) s s) ∧
    (∀ b rest t, (s.term n).built = b :: rest → t = s.setTerm n (fun t => { t with built := rest }) →
      ((s.now : Int) < winFrom n b.grant s ∨ (s.term n).burst.isSome = true → Next (.burstStart n) s s) ∧
      (winFrom n b.grant s ≤ (s.now : Int) → (s.term n).burst = none →
        (t.get .LINE_STATUS_CARRIER_LOCK n ≠ 1 →
          Next (.burstStart n) s (giveUp n (bayLeave n b.grant (t.inc .LP_GRANT_UNLOCKED n)) b)) ∧
        (t.get .LINE_STATUS_CARRIER_LOCK n = 1 →
          (statePermits n b.grant t = false ∨ bayWindow b.grant ∉ (t.term n).windows →
            Next (.burstStart n) s (giveUp n (bayLeave n b.grant (t.inc .LP_GRANT_STATE n)) b)) ∧
          (statePermits n b.grant t = true → bayWindow b.grant ∈ (t.term n).windows →
            Next (.burstStart n) s (((light n b t).when b.grant.ranging (fun s => s.inc .LP_RANGING_BURSTS n)).when b.grant.checkin
              (fun s => (s.start (.checkin n)).setTerm n (fun t => { t with dozeMissed := false })))))))) ∧
  -- BURST_END (R28, R63, R76, R87, R99 to R101): once ramp-down has ended, that of a truncated burst too, the burst is counted, the transmitter is
  -- dark and the window leaves Bay's table; a presence burst awaits its answer; in DOZING a check-in with DOZE 0 ends the doze, any other
  -- powers the transmit path down.
  (∀ (n : Fin 4) (s : State),
    ((s.term n).burst = none → Next (.burstEnd n) s s) ∧
    (∀ b dark t, (s.term n).burst = some b → dark = b.cutTo.getD (winTo n b.grant s).toNat →
      t = txDark n (burstOut n b dark (bayLeave n b.grant ((b.placed.foldl (fun s p => countStart p.copy s) s).setTerm n
        (fun t => { t with burst := none })))) →
      (s.now < dark → Next (.burstEnd n) s s) ∧
      (dark ≤ s.now →
        (∀ x, b.presence = some x → t.tree n = tsCandidate →
          Next (.burstEnd n) s ((t.setTerm n (fun t => { t with nonce := some x })).start (.assignWait n))) ∧
        (∀ x, b.presence = some x → t.tree n ≠ tsCandidate → Next (.burstEnd n) s t) ∧
        (b.presence = none → t.tree n ≠ tsDozing → Next (.burstEnd n) s t) ∧
        (b.presence = none → t.tree n = tsDozing → b.grant.checkin = true → b.doze = false → b.cutTo = none →
          Next (.burstEnd n) s (wakeNow n (t.term n).wakeCause t)) ∧
        (b.presence = none → t.tree n = tsDozing → b.grant.checkin = false ∨ b.doze = true ∨ b.cutTo ≠ none →
          Next (.burstEnd n) s (t.setTerm n (fun t => { t with txPowered := false })))))) ∧
  -- PRESENCE_BURST (R21, R86, R105): not before its start nor while a burst runs; outside CANDIDATE, without carrier lock or where the transmitter
  -- must be dark none is sent; else it is lit with the serial and the nonce.
  (∀ (n : Fin 4) (s : State),
    ((s.term n).presence = none → Next (.presenceBurst n) s s) ∧
    (∀ p g t, (s.term n).presence = some p → g = presenceGrant n p s → t = s.setTerm n (fun t => { t with presence := none }) →
      ((s.now : Int) < winFrom n g s ∨ (s.term n).burst.isSome = true → Next (.presenceBurst n) s s) ∧
      (winFrom n g s ≤ (s.now : Int) → (s.term n).burst = none →
        (t.tree n ≠ tsCandidate ∨ darkHolds n t = true ∨ t.get .FLT_STATUS_SAFE = 1 ∨ lineRecovers n t = true ∨ t.get .LINE_STATUS_CARRIER_LOCK n ≠ 1 →
          Next (.presenceBurst n) s t) ∧
        (t.tree n = tsCandidate → darkHolds n t = false → t.get .FLT_STATUS_SAFE ≠ 1 → lineRecovers n t = false → t.get .LINE_STATUS_CARRIER_LOCK n = 1 →
          Next (.presenceBurst n) s (((light n
            { emptyBurst n g t with presence := some p.nonce, flags := 1,
                                    streams := putIn 0 0 false (presenceOam n p.nonce t) (emptyBurst n g t).streams } t).inc
              .LP_PRESENCE_SENT n).setTerm n (fun t => { t with windows := t.windows ++ [bayWindow g] })))))) ∧
  -- TX_POWER_UP (R99): in DOZING, 50 µs before a used grant.
  (∀ (n : Fin 4) (s : State),
    (nextGrant n s = none ∨ s.tree n ≠ tsDozing → Next (.txPowerUp n) s s) ∧
    (∀ g, nextGrant n s = some g → s.tree n = tsDozing →
      (winFrom n g s ≤ (s.now : Int) + (50 * uUs : Nat) → Next (.txPowerUp n) s (s.setTerm n (fun t => { t with txPowered := true }))) ∧
      ((s.now : Int) + (50 * uUs : Nat) < winFrom n g s → Next (.txPowerUp n) s s)))

/-- The time commands of Table 4.6. -/
def Obligations.TimeCommandsComplete : Prop :=
  -- TIME_CONFIG (R112): atomic; sources that break R112 are refused.
  (∀ (q : Req) (es : List WEntry) (s : State), takenAtomic ciTimeConfig q s = true → wErr timeConfigAllow es = none →
    (sourcesLegal (wApplyAll s es) = true → Stages (.timeConfig q es) ciTimeConfig q s (.timeConfig es)) ∧
    (sourcesLegal (wApplyAll s es) = false → Next (.timeConfig q es) s
      (reject { ciTimeConfig with parts := [] } q stParam (16 + 24 * lastWriter .TIME_DOMAIN_CFG_SOURCE es + 23) s))) ∧
  -- TIME_SELECT (R118, R119): a domain that is not valid is refused without FORCE; else it is selected.
  (∀ (q : Req) (d : Nat) (s : State), d < 2 → takenUp ciTimeSelect q s = true →
    (q.force = false → s.get .TIME_DOMAIN_STATE_VALID d ≠ 1 → Next (.timeSelect q d) s (reject ciTimeSelect q stState 0 s)) ∧
    (q.force = true ∨ s.get .TIME_DOMAIN_STATE_VALID d = 1 → Done (.timeSelect q d) ciTimeSelect q [d] s (selectDomain d false (noteSelect s)))) ∧
  -- A selection (R117, R118): the one in force stays; another is counted and reported with the difference, and O absorbs it.
  (∀ (d : Nat) (auto : Bool) (s t : State),
    t = (s.set .TIME_STATUS_SELECTED d).setTime (fun t => { t with autoSelected := auto && d == 1 }) →
    (selected s = d → selectDomain d auto s = s) ∧
    (selected s ≠ d → selectDomain d auto s = updateValid (settleResidual (serviceTime s) ((t.inc .TIME_DOMAIN_SWITCHES).raise 0x0603
      [d, ofSigned 32 (roundDiv (timeDiff (serviceTime s) (domainAt (t.domain d) t.now)) uNs), b2n auto])))) ∧
  -- TIME_SET (R114): for a domain whose source is TIMEIN0 or TIMEIN1.
  (∀ (q : Req) (d seconds : Nat) (s : State), d < 2 → seconds < 2 ^ 48 → takenUp ciTimeSet q s = true →
    (6 ≤ s.get .TIME_DOMAIN_CFG_SOURCE d →
      Done (.timeSet q d seconds) ciTimeSet q [d] s (s.setDomain d (fun x => { x with nextSec := some seconds }))) ∧
    (s.get .TIME_DOMAIN_CFG_SOURCE d < 6 → Next (.timeSet q d seconds) s (reject ciTimeSet q stState 0 s))) ∧
  -- TIME_ADJUST (R114): for a domain whose source is HOST.
  (∀ (q : Req) (d : Nat) (phase freq : Int) (locked : Bool) (s : State), d < 2 → takenUp ciTimeAdjust q s = true →
    (s.get .TIME_DOMAIN_CFG_SOURCE d = 5 →
      Done (.timeAdjust q d phase freq locked) ciTimeAdjust q [d] s (hostMeasure d phase freq locked s)) ∧
    (s.get .TIME_DOMAIN_CFG_SOURCE d ≠ 5 → Next (.timeAdjust q d phase freq locked) s (reject ciTimeAdjust q stState 0 s))) ∧
  -- TIME_PULSE (R128): one output; while its pulse is high the schedule waits, behind those that wait; an illegal one is refused.
  (∀ (q : Req) (es : List WEntry) (k : Nat) (s : State), takenUp ciTimePulse q s = true → wErr timePulseAllow es = none →
    (wInstances es).headD 0 = k →
    (2 ≤ (wInstances es).length → Next (.timePulse q es) s (reject ciTimePulse q stParam 16 s)) ∧
    ((wInstances es).length ≤ 1 →
      (pulseLegal k (wApplyAll s ((s.pulseOut k).waiting ++ es)) = false → Next (.timePulse q es) s (reject ciTimePulse q stParam 32 s)) ∧
      (pulseLegal k (wApplyAll s ((s.pulseOut k).waiting ++ es)) = true → (s.pulseOut k).high = true →
        Done (.timePulse q es) ciTimePulse q (es.map (·.off)) s (s.setPulse k (fun x => { x with waiting := x.waiting ++ es }))) ∧
      (pulseLegal k (wApplyAll s ((s.pulseOut k).waiting ++ es)) = true → (s.pulseOut k).high = false →
        Done (.timePulse q es) ciTimePulse q (es.map (·.off)) s (takePulse k es s)))) ∧
  -- TIME_TS_READ (R123): up to 64 entries, oldest first; what is read has left the ring.
  (∀ (q : Req) (x : Nat) (s : State), x < 36 → takenUp ciTimeTsRead q s = true →
    Done (.timeTsRead q x) ciTimeTsRead q [x] s
      (s.setTime (fun t => { t with rings := Tab.put [] t.rings x ((Tab.get [] s.time.rings x).drop 64),
                                    overflowed := if (Tab.get [] s.time.rings x).drop 64 = [] then Tab.put 0 t.overflowed x 0
                                                    else t.overflowed }))
      (formR (((Tab.get [] s.time.rings x).take 64).map (fun e => (x, [e / 2 ^ 64, e % 2 ^ 64])))))

/-- The events of the time unit (R4, R111, R114 to R119, R128, R130, Tables 4.2, 4.9 and 4.10). -/
def Obligations.TimeEventsComplete : Prop :=
  -- DOMAIN_LOSS_TIME (R115, R119): an ACQUIRING or LOCKED domain whose loss time has passed, or whose 10 MHz input is lost, enters HOLDOVER; not
  -- where a TIME_ADJUST for it waits at the same instant.
  (∀ (d : Fin 2) (ten adj : Bool) (s : State), adj = s.pending.any (fun i => match i with | .timeAdjust _ k _ _ _ => k == d.val | _ => false) →
    (s.get .TIME_DOMAIN_STATE_STATE d = 1 ∨ s.get .TIME_DOMAIN_STATE_STATE d = 2 → adj = false ∨ s.get .TIME_DOMAIN_CFG_SOURCE d ≠ 5 →
      s.expired (.domainLoss d) (lossTime d s) = true ∨ (ten = true ∧ 6 ≤ s.get .TIME_DOMAIN_CFG_SOURCE d) →
      Next (.domainLossTime d ten) s
        (setDomainState d 3 true ((s.setDomain d (fun x => { x with holdSince := s.now })).stop (.domainLoss d)))) ∧
    ((s.get .TIME_DOMAIN_STATE_STATE d ≠ 1 ∧ s.get .TIME_DOMAIN_STATE_STATE d ≠ 2) ∨ (adj = true ∧ s.get .TIME_DOMAIN_CFG_SOURCE d = 5) ∨
      (s.expired (.domainLoss d) (lossTime d s) = false ∧ (ten = false ∨ s.get .TIME_DOMAIN_CFG_SOURCE d < 6)) →
      Next (.domainLossTime d ten) s s)) ∧
  -- HOLDOVER_LIMIT_EXPIRY (R115): at the limit the age shows and validity follows.
  (∀ (d : Fin 2) (s : State) (age : Nat), age = (s.now - (s.domain d).holdSince) / uS →
    (s.get .TIME_DOMAIN_STATE_STATE d = 3 → s.get .TIME_DOMAIN_CFG_HOLDOVER_LIMIT d ≤ age →
      Next (.holdoverLimitExpiry d) s (updateValid (s.set .TIME_DOMAIN_STATE_HOLDOVER_S (min age (2 ^ 20 - 1)) d))) ∧
    (s.get .TIME_DOMAIN_STATE_STATE d ≠ 3 ∨ age < s.get .TIME_DOMAIN_CFG_HOLDOVER_LIMIT d → Next (.holdoverLimitExpiry d) s s)) ∧
  -- REVERT_TIMER (R118): the primary LOCKED for 10 s after an automatic switch; not before, and not where REVERTIVE is 0.
  (∀ (s : State), ((s.domain 0).lockedSince = none ∨ s.get .TIME_SEL_REVERTIVE ≠ 1 ∨ s.time.autoSelected = false → Next .revertTimer s s) ∧
    (∀ a, (s.domain 0).lockedSince = some a → s.get .TIME_SEL_REVERTIVE = 1 → s.time.autoSelected = true →
      (a + 10 * uS ≤ s.now → Next .revertTimer s (selectDomain 0 true s)) ∧ (s.now < a + 10 * uS → Next .revertTimer s s))) ∧
  -- SLEW_COMPLETE (R117): once O is 0 SLEWING clears.
  (∀ s : State, (residualNow s ≠ 0 → Next .slewComplete s s) ∧
    (residualNow s = 0 → Next .slewComplete s (refreshTime ((s.setTime (fun t => { t with residual := 0 })).set .TIME_STATUS_SLEWING 0)))) ∧
  -- TIMEIN_PPS_EDGE (R111, R114, R130): the edge's time is captured, to 62.5 ps; one without its 10 MHz ends TIMEIN_OK, with the event; it measures
  -- the domain that follows the input, once its seconds are known.
  (∀ (x : Fin 2) (part : Fin 20) (freq : Int) (ok : Bool) (s t u : State) (st : Nat), st = shortStamp (serviceAt (s.now + part.val * uSym) s) →
    t = s.setAll [(.TIME_TIMEIN_CAP_SEC_LO, st / 2 ^ 48), (.TIME_TIMEIN_CAP_NS, bits st 16 32), (.TIME_TIMEIN_CAP_FRAC, st % 65536)] x →
    u = ((t.when (t.isSet (timeinOk x) && !ok) (fun t => t.raise 0x0607 [x, 2])).start (.timein x)).set (timeinOk x) (b2n ok) →
    (domainOf (6 + x.val) u = none → Next (.timeinPpsEdge x part freq ok) s u) ∧
    (∀ d, domainOf (6 + x.val) u = some d →
      ((u.domain d).nextSec = none → Next (.timeinPpsEdge x part freq ok) s (u.start (.domainLoss d))) ∧
      (∀ sec v, (u.domain d).nextSec = some sec →
        v = measure d (timeDiff (timeAdd (sec * uS) (psUnits (u.getI .TIME_ADJ_VALUE (4 + x.val)))) (domainAt (u.domain d) (s.now + part.val * uSym)))
          (u.setDomain d (fun y => { y with nextSec := some ((sec + 1) % 2 ^ 48) })) →
        Next (.timeinPpsEdge x part freq ok) s (v.setDomain d (fun y => { y with base := domainAt y v.now, since := v.now, freq := freq }))))) ∧
  -- A measurement (R115, Table 4.2): ERROR, and the row of the domain's state. That the first one after a change of source and the one that ends
  -- HOLDOVER do not count among the N is the model's choice (log entry 126).
  (∀ (d run : Nat) (e : Int) (s t u : State),
    t = (s.setI .TIME_DOMAIN_STATE_ERROR (clamp (-(2 ^ 31)) (2 ^ 31 - 1) (roundDiv e uSym)) d).start (.domainLoss d) →
    (t.get .TIME_DOMAIN_STATE_STATE d = 1 → (t.domain d).first = true →
      measure d e s = domainStep d e (t.setDomain d (fun x => { x with first := false }))) ∧
    (t.get .TIME_DOMAIN_STATE_STATE d = 1 → (t.domain d).first = false → run = (if e.natAbs < 20 * uNs then (t.domain d).goodRun + 1 else 0) →
      u = servo d e (t.setDomain d (fun x => { x with goodRun := run })) →
      (lockRun d u ≤ run → measure d e s = setDomainState d 2 true u) ∧ (run < lockRun d u → measure d e s = u)) ∧
    (t.get .TIME_DOMAIN_STATE_STATE d = 2 → run = (if 1000 * uNs < e.natAbs then (t.domain d).badRun + 1 else 0) →
      (4 ≤ run → measure d e s = domainStep d e (setDomainState d 1 false t)) ∧
      (run < 4 → measure d e s = servo d e (t.setDomain d (fun x => { x with badRun := run })))) ∧
    (t.get .TIME_DOMAIN_STATE_STATE d = 3 → u = setDomainState d 1 false (t.setDomain d (fun x => { x with first := false })) →
      (1000 * uNs < e.natAbs → measure d e s = domainStep d e u) ∧ (e.natAbs ≤ 1000 * uNs → measure d e s = servo d e u)) ∧
    (t.get .TIME_DOMAIN_STATE_STATE d = 0 → measure d e s = t)) ∧
  -- TIMEIN_LOST (R130): TIMEIN_OK clears once, and the event says what is missing.
  (∀ (x : Fin 2) (ten pulses : Bool) (s : State), pulses = s.expired (.timein x) (3 * uS / 2) →
    (s.get (timeinOk x) ≠ 1 ∨ (pulses = false ∧ ten = false) → Next (.timeinLost x ten) s s) ∧
    (s.get (timeinOk x) = 1 → pulses = true ∨ ten = true →
      Next (.timeinLost x ten) s ((s.set (timeinOk x) 0).raise 0x0607 [x, b2n pulses + 2 * b2n ten]))) ∧
  -- PULSE_RISE (R128): at the output's point, while service time is valid or FREE_RUN is set, and not in L3 (Table 16.5); a periodic output goes on
  -- to its next point, a single pulse disarms it.
  (∀ (k : Fin 4) (s : State), ((s.pulseOut k).next = none → Next (.pulseRise k) s s) ∧
    (∀ p, (s.pulseOut k).next = some p →
      (s.get .TIME_PULSE_CTL_ENABLE k ≠ 1 ∨ (s.pulseOut k).high = true ∨ s.get .FLT_STATUS_SAFE = 1 ∨ serviceTime s < p ∨
        (serviceValid s = false ∧ s.get .TIME_PULSE_CTL_FREE_RUN k ≠ 1) → Next (.pulseRise k) s s) ∧
      (s.get .TIME_PULSE_CTL_ENABLE k = 1 → (s.pulseOut k).high = false → s.get .FLT_STATUS_SAFE ≠ 1 → p ≤ serviceTime s →
        serviceValid s = true ∨ s.get .TIME_PULSE_CTL_FREE_RUN k = 1 →
        (s.get .TIME_PULSE_CTL_PERIODIC k = 1 → Next (.pulseRise k) s
          ((s.setPulse k (fun x => { x with high := true, next := some (p + s.get .TIME_PULSE_PERIOD_PERIOD_NS k * uNs),
                                             fallAt := p + s.get .TIME_PULSE_WIDTH_WIDTH_NS k * uNs })).emit (.pulse k true))) ∧
        (s.get .TIME_PULSE_CTL_PERIODIC k ≠ 1 → Next (.pulseRise k) s
          (((s.set .TIME_PULSE_CTL_ARMED 0 k).setPulse k (fun x =>
            { x with high := true, next := none, fallAt := p + s.get .TIME_PULSE_WIDTH_WIDTH_NS k * uNs })).emit (.pulse k true)))))) ∧
  -- PULSE_FALL (R128): W after the rise; the schedules that waited take effect.
  (∀ (k : Fin 4) (s t : State), t = (s.setPulse k (fun x => { x with high := false })).emit (.pulse k false) →
    ((s.pulseOut k).high = false ∨ serviceTime s < (s.pulseOut k).fallAt → Next (.pulseFall k) s s) ∧
    ((s.pulseOut k).high = true → (s.pulseOut k).fallAt ≤ serviceTime s →
      ((s.pulseOut k).waiting = [] → Next (.pulseFall k) s t) ∧
      ((s.pulseOut k).waiting ≠ [] → Next (.pulseFall k) s (takePulse k (s.pulseOut k).waiting t)))) ∧
  -- NOW_SUB_READ (R4, Tables 4.9 and 4.10): the read latches the seconds.
  (∀ s : State, Next .nowSubRead s ((refreshTime s).set .TIME_NOW_SEC_SECONDS (serviceTime s / uS)))

/-- The host port commands of Table 6.9. -/
def Obligations.HostPortCommandsComplete : Prop :=
  -- HOST_PORT_CONFIG (R153): atomic; refused while a slot whose lanes change is not DISABLED, and where ports would not stand as R153 says.
  (∀ (q : Req) (es : List WEntry) (s : State), takenAtomic (ciHostPortConfig es) q s = true →
    (lanesAtRest es s = true → wErr (fun f => portCfgFields.contains f) es = none → placementErr es s = none →
      Stages (.hostPortConfig q es) (ciHostPortConfig es) q s (.hostPort es)) ∧
    (lanesAtRest es s = false → Next (.hostPortConfig q es) s (reject { ciHostPortConfig es with parts := [] } q stState 0 s)) ∧
    (∀ k, lanesAtRest es s = true → wErr (fun f => portCfgFields.contains f) es = none → placementErr es s = some k →
      Next (.hostPortConfig q es) s (reject { ciHostPortConfig es with parts := [] } q stParam k s))) ∧
  -- HOST_PORT_ENABLE (R158, R385): ENABLE takes the value; a port in FRUGAL is not enabled beyond 1.6 Tb/s.
  (∀ (q : Req) (x : Nat) (s : State), x < 32 → takenUp (ciHostPortEnable x) q s = true →
    (frugalFull x 1 s = false →
      Done (.hostPortEnable q x 1) (ciHostPortEnable x) q [x] s (admin x (s.set .PORT_CFG_ENABLE 1 x))) ∧
    (frugalFull x 1 s = true → Next (.hostPortEnable q x 1) s (reject (ciHostPortEnable x) q stState 0 s)) ∧
    Done (.hostPortEnable q x 0) (ciHostPortEnable x) q [x] s (toDisabled x 3 true (s.set .PORT_CFG_ENABLE 0 x))) ∧
  -- HOST_LANE_CONFIG (R156, R157): the registers take the values; a TX_MAP that is no permutation, or a sum of taps above 64, is refused.
  (∀ (q : Req) (es : List WEntry) (s : State), takenUp (ciHostLaneConfig es) q s = true → wErr (fun f => laneFields.contains f) es = none →
    (laneErr es s = none → Done (.hostLaneConfig q es) (ciHostLaneConfig es) q (es.map (·.off)) s (wApplyAll s es)) ∧
    (∀ k, laneErr es s = some k → Next (.hostLaneConfig q es) s (reject (ciHostLaneConfig es) q stParam k s))) ∧
  -- HOST_RETRAIN (R158): from UP; a full one goes to TRAINING, a fast one, where FRT_EN is 1, to FAST_RETRAIN as its initiator.
  (∀ (q : Req) (x : Nat) (s : State), x < 32 → takenUp (ciHostRetrain x) q s = true →
    (s.link x = lsUp → Done (.hostRetrain q x 0) (ciHostRetrain x) q [] s (toTraining x (linkDown x 5 s))) ∧
    (s.link x = lsUp → s.get .PORT_CFG_FRT_EN x = 1 → Done (.hostRetrain q x 1) (ciHostRetrain x) q [] s (toFrt x true 0 s)) ∧
    (s.link x ≠ lsUp → Next (.hostRetrain q x 0) s (reject (ciHostRetrain x) q stState 0 s)) ∧
    (s.link x ≠ lsUp ∨ s.get .PORT_CFG_FRT_EN x ≠ 1 → Next (.hostRetrain q x 1) s (reject (ciHostRetrain x) q stState 0 s))) ∧
  -- HOST_FILTER_WRITE (R166), HOST_PAUSE_CONFIG (R169, R170) and HOST_LPI_CONFIG (R162): the fields masked take their values; the port's pauses
  -- follow its MODE, and a direction whose LPI is no longer enabled leaves it.
  (∀ (q : Req) (es : List WEntry) (s : State),
    (takenUp (ciHostFilterWrite es) q s = true → wErr (fun f => filterFields.contains f) es = none →
      Done (.hostFilterWrite q es) (ciHostFilterWrite es) q (es.map (·.off)) s (wApplyAll s es)) ∧
    (takenUp (ciHostPauseConfig es) q s = true → wErr (fun f => [Fld.PORT_PAUSE_OVERRIDE_MS, .PORT_PAUSE_WDOG_MS, .PORT_PAUSE_REFRESH,
        .PORT_PAUSE_QUANTA, .PORT_PAUSE_MODE, .PORT_PFC_QMAP].contains f) es = none →
      Done (.hostPauseConfig q es) (ciHostPauseConfig es) q (es.map (·.off)) s ((wInstances es).foldl (pauseFollow s) (wApplyAll s es))) ∧
    (takenUp (ciHostLpiConfig es) q s = true → wErr (fun f => [Fld.PORT_LPI_T_W_US, .PORT_LPI_TX_IDLE_FRUGAL_US, .PORT_LPI_TX_IDLE_US,
        .PORT_LPI_RX_EN, .PORT_LPI_TX_EN].contains f) es = none →
      Done (.hostLpiConfig q es) (ciHostLpiConfig es) q (es.map (·.off)) s ((wInstances es).foldl lpiFollow (wApplyAll s es)))) ∧
  -- HOST_WAKE_SEND (R163; 0 is the default of 1 ms, log entry 39): in DISABLED or WAIT the lanes send the pattern; else refused.
  (∀ (q : Req) (x us : Nat) (s : State), x < 32 → us = 0 ∨ (20 ≤ us ∧ us ≤ 10000) → takenUp (ciHostWakeSend x) q s = true →
    (s.link x ≤ lsWait → Done (.hostWakeSend q x us) (ciHostWakeSend x) q [] s
      (laneOut x 3 ((s.set .PORT_STATUS_WAKE_SENDING 1 x).setHp x (fun h =>
        { h with wakeEnd := s.now + (if us = 0 then 1000 else us) * uUs })))) ∧
    (lsWait < s.link x → Next (.hostWakeSend q x us) s (reject (ciHostWakeSend x) q stState 0 s))) ∧
  -- HOST_WDOG_CLEAR (R170): override ends on the priorities named; under 802.3x (priority 8 here) any of them names the port.
  (∀ (q : Req) (x mask : Nat) (s : State), x < 32 → mask < 256 → takenUp (ciHostWdogClear x) q s = true →
    Done (.hostWdogClear q x mask) (ciHostWdogClear x) q [] s
      (((List.range 8).filter (bit mask) ++ (if mask = 0 then [] else [8])).foldl (fun s p => endOverride x p 2 s) s)) ∧
  -- HOST_EVT_ENABLE (R174; one bit a slot, log entry 37).
  (∀ (q : Req) (x on : Nat) (s : State), x < 32 → on < 2 → takenUp (ciHostEvtEnable x) q s = true →
    Done (.hostEvtEnable q x on) (ciHostEvtEnable x) q [x] s (s.setHp x (fun h => { h with evtEnable := on == 1 })))

/-- The host port's link states (R155 to R161, R163): every condition of Table 6.16 by which a port moves, and where it stays. -/
def Obligations.LinkStateEventsComplete : Prop :=
  -- LANE_SIGNAL_CHANGE (R158, Table 15.8): the lane shows it; signal on a lane of a port in WAIT is a wake source, and on all of them ends WAIT;
  -- signal lost in UP or FAST_RETRAIN takes the port to WAIT, and is reported.
  (∀ (l : Fin 32) (on : Bool) (s t : State), t = (s.set .LN_STATUS_SIGNAL (b2n on) l).when (!on) (fun t => t.set .LN_STATUS_CDR_LOCK 0 l) →
    (slotOfLane t l = none → Next (.laneSignalChange l on) s t) ∧
    (∀ x, slotOfLane t l = some x →
      (on = true → t.link x = lsWait → Next (.laneSignalChange l on) s (leaveWait x (wakeBy 0 t))) ∧
      (on = false → t.link x = lsUp ∨ t.link x = lsFrt → Next (.laneSignalChange l on) s (toWait x (linkDown x 0 t))) ∧
      ((on = true ∧ t.link x ≠ lsWait) ∨ (on = false ∧ t.link x ≠ lsUp ∧ t.link x ≠ lsFrt) → Next (.laneSignalChange l on) s t))) ∧
  -- WAIT (R154, R158, R414): with signal on every lane the port goes on to TRAINING, auto-negotiation first; not in LANE_PMA_FAR.
  (∀ (x : Nat) (s : State),
    (lanesOf s x ≠ [] → (∀ l ∈ lanesOf s x, s.get .LN_STATUS_SIGNAL l = 1) → (∀ l ∈ lanesOf s x, bit (s.get .TEST_LOOP_LANE_PMA_FAR (l / 8)) (l % 8) = false) →
      leaveWait x s = toTraining x (s.when (autoNeg s x) (negotiate x))) ∧
    (lanesOf s x = [] ∨ (∃ l ∈ lanesOf s x, s.get .LN_STATUS_SIGNAL l ≠ 1) ∨ (∃ l ∈ lanesOf s x, bit (s.get .TEST_LOOP_LANE_PMA_FAR (l / 8)) (l % 8) = true) →
      leaveWait x s = s)) ∧
  -- TRAINING_DONE (R155, R158): from TRAINING the precoding choice is fixed, and PCS data goes out in ALIGNING.
  (∀ (x : Fin 32) (measured : Nat) (s : State),
    (s.link x = lsTraining → Next (.trainingDone x measured) s
      (laneOut x 2 ((setLink x lsAligning ((lanesOf s x).foldl (fun t l => fixPrecoding l (trains t x) (bit measured (l - x)) t) s)).setHp x
        (fun h => { h with fromFrt := false })))) ∧
    (s.link x ≠ lsTraining → Next (.trainingDone x measured) s s)) ∧
  -- The precoding choice (R155): OFF and ON as set; AUTO by the measurement; AS_REQUESTED by the partner's request, if any; a port that does not
  -- train asks for nothing, so that AUTO and AS_REQUESTED are off, which is the model's choice (log entry 128).
  (∀ (l rx tx : Nat) (train measured : Bool) (s : State),
    (rx = (match (s.laneSet l).precodeRx with | 0 => b2n (train && measured) | 1 => 0 | _ => 1)) →
    (tx = (match (s.laneSet l).precodeTx with | 0 => b2n (train && (s.laneSet l).asked) | 1 => 0 | _ => 1)) →
    fixPrecoding l train measured s = (s.when train (fun s => s.emit (.precodeRequest l (rx == 1)))).setAll
      [(.LN_STATUS_PRECODE_RX_ON, rx), (.LN_STATUS_PRECODE_TX_ON, tx), (.LN_STATUS_RX_READY, 1), (.LN_STATUS_PARTNER_READY, 1), (.LN_STATUS_CDR_LOCK, 1)] l) ∧
  -- TRAINING_TIMEOUT (R158): 500 ms in TRAINING, and not before, it is counted, reported, and begun again from WAIT.
  (∀ (x : Fin 32) (ready : Nat) (s : State),
    (s.link x = lsTraining → (s.hp x).since + 500 * uMs ≤ s.now → Next (.trainingTimeout x ready) s
      (toWait x (hostEvent x 0x0703 [x, (lanesOf s x).foldl (fun m l => if bit ready (l - x) then m else m + 2 ^ (l - x)) 0]
        (s.inc .HP_TRAIN_FAIL x)))) ∧
    (s.link x ≠ lsTraining ∨ s.now < (s.hp x).since + 500 * uMs → Next (.trainingTimeout x ready) s s)) ∧
  -- TAP_REQUEST (R156, R159): in training alone. A step within the tap's range and the sum, a PRESET1 and a precoding request are honoured, counted
  -- and answered; a step outside them, or another preset, is answered without effect.
  (∀ (l : Fin 32) (s : State),
    (∀ r, slotOfLane s l = none → Next (.tapRequest l r) s s) ∧
    (∀ r x, slotOfLane s l = some x → s.link x ≠ lsTraining ∨ trains s x = false → Next (.tapRequest l r) s s) ∧
    (∀ x, slotOfLane s l = some x → s.link x = lsTraining → trains s x = true →
      Next (.tapRequest l .sent) s (s.inc .HL_TAP_REQ_TX l) ∧
      (∀ on, Next (.tapRequest l (.precode on)) s (honour l (fun s => s.setLane l (fun c => { c with asked := on })) s)) ∧
      Next (.tapRequest l (.preset 1)) s (honour l (fun t => setFfe l ((t.laneSet l).ffe.map (toSigned 8)) t) s) ∧
      (∀ k, k ≠ 1 → Next (.tapRequest l (.preset k)) s (s.emit (.tapAnswer l .notSupported))) ∧
      (∀ (tap : Fin 6) (up : Bool) (lo hi c : Int), tapRange.getD tap (0, 0) = (lo, hi) → c = (ffeNow s l).getD tap 0 + (if up then 1 else -1) →
        (lo ≤ c → c ≤ hi → ffeSum ((ffeNow s l).set tap c) = true →
          Next (.tapRequest l (.step tap up)) s (honour l (setFfe l ((ffeNow s l).set tap c)) s)) ∧
        (c < lo ∨ hi < c → Next (.tapRequest l (.step tap up)) s (s.emit (.tapAnswer l .atLimit))) ∧
        (lo ≤ c → c ≤ hi → ffeSum ((ffeNow s l).set tap c) = false →
          Next (.tapRequest l (.step tap up)) s (s.emit (.tapAnswer l .eqLimit)))))) ∧
  -- ALIGN_LOCK and ALIGN_TIMEOUT (R158): from ALIGNING to UP; after 10 ms there, to TRAINING, reported where a fast retrain led there.
  (∀ (x : Fin 32) (s : State),
    (s.link x = lsAligning → Next (.alignLock x) s (toUp x s) ∧
      ((s.hp x).since + 10 * uMs ≤ s.now → Next (.alignTimeout x) s
        (toTraining x ((s.when (s.hp x).fromFrt (fun s => hostEvent x 0x0702 [x, 6] s)).setHp x (fun h => { h with fromFrt := false })))) ∧
      (s.now < (s.hp x).since + 10 * uMs → Next (.alignTimeout x) s s)) ∧
    (s.link x ≠ lsAligning → Next (.alignLock x) s s ∧ Next (.alignTimeout x) s s)) ∧
  -- LANE_LOCK_LOSS and FRT_REQ_RECEIVED (R158, R160): in UP with FRT_EN 1 a fast retrain, as initiator or as its partner, else TRAINING; in
  -- FAST_RETRAIN the lane joins those that lost lock; with the signal gone, or in another state, nothing.
  (∀ (l : Fin 32) (s t : State), t = s.set .LN_STATUS_CDR_LOCK 0 l →
    (slotOfLane s l = none → Next (.laneLockLoss l) s s ∧ Next (.frtReqReceived l) s s) ∧
    (∀ x, slotOfLane s l = some x →
      (s.get .LN_STATUS_SIGNAL l ≠ 1 ∨ (s.link x ≠ lsUp ∧ s.link x ≠ lsFrt) → Next (.laneLockLoss l) s s) ∧
      (s.get .LN_STATUS_SIGNAL l = 1 → s.link x = lsUp → s.get .PORT_CFG_FRT_EN x = 1 → Next (.laneLockLoss l) s (toFrt x true (2 ^ (l.val - x)) t)) ∧
      (s.get .LN_STATUS_SIGNAL l = 1 → s.link x = lsUp → s.get .PORT_CFG_FRT_EN x ≠ 1 → Next (.laneLockLoss l) s (toTraining x (linkDown x 1 t))) ∧
      (s.get .LN_STATUS_SIGNAL l = 1 → s.link x = lsFrt →
        Next (.laneLockLoss l) s (t.setHp x (fun h => { h with frtLost := withBit h.frtLost (l.val - x) true }))) ∧
      (s.link x = lsUp → s.get .PORT_CFG_FRT_EN x = 1 → Next (.frtReqReceived l) s (toFrt x false 0 s)) ∧
      (s.link x ≠ lsUp ∨ s.get .PORT_CFG_FRT_EN x ≠ 1 → Next (.frtReqReceived l) s s))) ∧
  -- FRT_PARTNER_RECOGNISED, FRT_DONE, FRT_NO_ANSWER, FRT_LIMIT_EXPIRY (R158, R160): in FAST_RETRAIN alone.
  (∀ (x : Fin 32) (s : State),
    (s.link x ≠ lsFrt → Next (.frtPartnerRecognised x) s s ∧ Next (.frtDone x) s s ∧ Next (.frtNoAnswer x) s s ∧ Next (.frtLimitExpiry x) s s) ∧
    (s.link x = lsFrt →
      Next (.frtPartnerRecognised x) s (laneOut x 5 (s.setHp x (fun h => { h with frtSeen := true }))) ∧
      ((s.hp x).frtSeen = true → Next (.frtDone x) s
        (laneOut x 2 ((setLink x lsAligning ((lanesOf s x).foldl (fun t l => t.set .LN_STATUS_CDR_LOCK 1 l) s)).setHp x
          (fun h => { h with fromFrt := true })))) ∧
      ((s.hp x).frtSeen = false → Next (.frtDone x) s s) ∧
      ((s.hp x).frtBegan = true → (s.hp x).frtSeen = false → (s.hp x).frtSince + 50 * uUs ≤ s.now →
        Next (.frtNoAnswer x) s (frtFallback x 0 s)) ∧
      ((s.hp x).frtBegan = false ∨ (s.hp x).frtSeen = true ∨ s.now < (s.hp x).frtSince + 50 * uUs → Next (.frtNoAnswer x) s s) ∧
      ((s.hp x).frtSince + s.get .PORT_CFG_FRT_LIMIT x * 100 * uUs ≤ s.now → Next (.frtLimitExpiry x) s (frtFallback x 1 s)) ∧
      (s.now < (s.hp x).frtSince + s.get .PORT_CFG_FRT_LIMIT x * 100 * uUs → Next (.frtLimitExpiry x) s s))) ∧
  -- REMOTE_FAULT (R158): in UP both faults show, the sublayer answers Local Fault with Remote Fault and Remote Fault with idle, and a change of
  -- Remote Fault is reported once.
  (∀ (x : Fin 32) (s : State),
    (∀ f, s.link x ≠ lsUp → Next (.remoteFault x f) s s) ∧
    (s.link x = lsUp → ∀ (f : RsFault) (on what : Nat) (t : State), (f, on, what) ∈ [(RsFault.none_, 0, 2), (.local_, 0, 8), (.remote, 1, 9)] →
      t = laneOut x what (s.setAll [(.PORT_STATUS_REMOTE_FAULT, on), (.PORT_STATUS_LOCAL_FAULT, b2n (f = .local_))] x) →
      (s.get .PORT_STATUS_REMOTE_FAULT x ≠ on → Next (.remoteFault x f) s (hostEvent x 0x0709 [x, on] t)) ∧
      (s.get .PORT_STATUS_REMOTE_FAULT x = on → Next (.remoteFault x f) s t))) ∧
  -- WAKE_DETECT and WAKE_SEND_END (R163, Table 15.8): an armed detector, on a port not beyond WAIT; the pattern ends with its time.
  (∀ (l : Fin 32) (s t : State), t = (s.set .LN_STATUS_WAKE_SEEN 1 l).inc .HL_WAKE_DETECTS l →
    (s.get .LN_CFG_WAKE_DET l = 1 → slotOfLane s l = none → Next (.wakeDetect l) s (wakeBy 1 (hostEvent l 0x0708 [l] t))) ∧
    (∀ x, s.get .LN_CFG_WAKE_DET l = 1 → slotOfLane s l = some x → s.link x ≤ lsWait → Next (.wakeDetect l) s (wakeBy 1 (hostEvent x 0x0708 [l] t))) ∧
    (∀ x, slotOfLane s l = some x → lsWait < s.link x → Next (.wakeDetect l) s s) ∧
    (s.get .LN_CFG_WAKE_DET l ≠ 1 → Next (.wakeDetect l) s s)) ∧
  (∀ (x : Fin 32) (s : State),
    (s.get .PORT_STATUS_WAKE_SENDING x = 1 → (s.hp x).wakeEnd ≤ s.now →
      Next (.wakeSendEnd x) s (laneOut x (s.link x) (s.set .PORT_STATUS_WAKE_SENDING 0 x))) ∧
    (s.get .PORT_STATUS_WAKE_SENDING x ≠ 1 ∨ s.now < (s.hp x).wakeEnd → Next (.wakeSendEnd x) s s))

/-- Low-power idle, pauses, reception and transmission of the host ports (R125, R127, R139, R162 to R173). -/
def Obligations.HostTrafficEventsComplete : Prop :=
  -- LPI_TX_ENTRY (R162): idle for the mode's time with TX_EN 1, in UP, and not in LPI yet.
  (∀ (x : Fin 32) (limit : Nat) (s : State),
    limit = (if s.mode = 4 then s.get .PORT_LPI_TX_IDLE_FRUGAL_US x else s.get .PORT_LPI_TX_IDLE_US x) * uUs →
    (∀ a, s.link x = lsUp → s.get .PORT_LPI_TX_EN x = 1 → s.get .PORT_STATUS_TX_LPI x ≠ 1 → macIdle s x = true → (s.hp x).idleSince = a + 1 →
      (a + limit ≤ s.now → Next (.lpiTxEntry x) s ((s.set .PORT_STATUS_TX_LPI 1 x).inc .HP_LPI_TX_ENTRIES x)) ∧
      (s.now < a + limit → Next (.lpiTxEntry x) s s)) ∧
    (s.link x ≠ lsUp ∨ s.get .PORT_LPI_TX_EN x ≠ 1 ∨ s.get .PORT_STATUS_TX_LPI x = 1 ∨ macIdle s x = false ∨ (s.hp x).idleSince = 0 →
      Next (.lpiTxEntry x) s s)) ∧
  -- LPI_RX_ENTRY and LPI_RX_EXIT (R162): the partner's, accepted with RX_EN 1.
  (∀ (x : Fin 32) (s : State),
    (s.link x = lsUp → s.get .PORT_LPI_RX_EN x = 1 → s.get .PORT_STATUS_RX_LPI x ≠ 1 →
      Next (.lpiRxEntry x) s ((s.set .PORT_STATUS_RX_LPI 1 x).inc .HP_LPI_RX_ENTRIES x)) ∧
    (s.link x ≠ lsUp ∨ s.get .PORT_LPI_RX_EN x ≠ 1 ∨ s.get .PORT_STATUS_RX_LPI x = 1 → Next (.lpiRxEntry x) s s) ∧
    Next (.lpiRxExit x) s (s.set .PORT_STATUS_RX_LPI 0 x)) ∧
  -- TIMED_LPI_EXIT (R162): at L - T_W_US, and not before.
  (∀ (x : Fin 32) (s : State), (timedHead s x = none ∨ s.get .PORT_STATUS_TX_LPI x ≠ 1 → Next (.timedLpiExit x) s s) ∧
    (∀ k l late, timedHead s x = some (k, l, late) → s.get .PORT_STATUS_TX_LPI x = 1 →
      (launchAhead s x l ≤ ((s.get .PORT_LPI_T_W_US x * uUs : Nat) : Int) → Next (.timedLpiExit x) s
        ((s.set .PORT_STATUS_TX_LPI 0 x).setHp x (fun h => { h with holdUntil := s.now + s.get .PORT_LPI_T_W_US x * uUs }))) ∧
      (((s.get .PORT_LPI_T_W_US x * uUs : Nat) : Int) < launchAhead s x l → Next (.timedLpiExit x) s s))) ∧
  -- FRAME_RX (R158, R164, R167, R169, R171, R173, R421): its codewords are counted; in UP a MAC Control frame goes no further, one that comes in
  -- STANDBY is discarded and counted, and another is a new item, failed at once where its FCS does not fit or an injection breaks it.
  (∀ (x : Fin 32) (part : Fin 20) (bytes : List Nat) (fec : FecCount) (s t : State), t = countFec x fec s →
    (t.link x ≠ lsUp → Next (.frameRx x part bytes fec) s t) ∧
    (t.link x = lsUp → bytes.take 6 = [0x01, 0x80, 0xC2, 0, 0, 1] → Next (.frameRx x part bytes fec) s (controlFrame x bytes t)) ∧
    (t.link x = lsUp → bytes.take 6 ≠ [0x01, 0x80, 0xC2, 0, 0, 1] → t.asleep = true → Next (.frameRx x part bytes fec) s (t.inc .PWR_STANDBY_DISCARD)) ∧
    (∀ (bad : Bool) (u : State), t.link x = lsUp → bytes.take 6 ≠ [0x01, 0x80, 0xC2, 0, 0, 1] → t.asleep = false → inject 1 x t = (bad, u) →
      (bad = true ∨ (bytes.length ≤ sysHdr u x + u.get .PORT_CFG_MAX_FRAME x ∧ fcsFits bytes = false) →
        Next (.frameRx x part bytes fec) s (newItem { rxItem x part bytes u with failed := some 3 } u)) ∧
      (bad = false → sysHdr u x + u.get .PORT_CFG_MAX_FRAME x < bytes.length ∨ fcsFits bytes = true →
        Next (.frameRx x part bytes fec) s (newItem (rxItem x part bytes u) u)))) ∧
  -- PAUSE_RX (R169): of the kind MODE selects, in UP; another is not counted.
  (∀ (x : Fin 32) (mask : Nat) (quanta : List Nat) (s : State),
    (s.link x = lsUp → s.get .PORT_PAUSE_MODE x = 1 →
      Next (.pauseRx x false mask quanta) s (pauseOne x 8 (quanta.getD 0 0 % 65536) (s.inc .HP_RX_PAUSE x))) ∧
    (s.link x = lsUp → s.get .PORT_PAUSE_MODE x = 2 →
      Next (.pauseRx x true mask quanta) s (((List.range 8).filter (bit mask)).foldl (fun t p => pauseOne x p (quanta.getD p 0 % 65536) t)
        (s.inc .HP_RX_PAUSE x))) ∧
    (s.link x ≠ lsUp ∨ s.get .PORT_PAUSE_MODE x ≠ 1 → Next (.pauseRx x false mask quanta) s s) ∧
    (s.link x ≠ lsUp ∨ s.get .PORT_PAUSE_MODE x ≠ 2 → Next (.pauseRx x true mask quanta) s s)) ∧
  -- PAUSE_EXPIRY (R169) and PAUSE_WDOG, PAUSE_WDOG_END (R170).
  (∀ (x : Fin 32) (p : Fin 9) (s : State),
    (Tab.get 0 (s.hp x).pauseEnd p ≠ 0 → isPaused s x p = false → Next (.pauseExpiry x p) s (unpause x p s)) ∧
    (Tab.get 0 (s.hp x).pauseEnd p = 0 ∨ isPaused s x p = true → Next (.pauseExpiry x p) s s) ∧
    (isPaused s x p = true → wdogDue s x p = true → Next (.pauseWdog x p) s (fireWdog x p s)) ∧
    (isPaused s x p = false ∨ wdogDue s x p = false → Next (.pauseWdog x p) s s) ∧
    (overrideDue s x p = true → Next (.pauseWdogEnd x p) s (endOverride x p 1 s)) ∧
    (overrideDue s x p = false → Next (.pauseWdogEnd x p) s s)) ∧
  -- PAUSE_REFRESH (R169): REFRESH quanta after it was sent, a frame whose call stands is due again.
  (∀ (x : Fin 32) (p : Fin 8) (s : State),
    (s.get .SW_ING_PAUSE_CALL (x.val * 8 + p.val) ≠ 1 ∨ Tab.get 0 (s.hp x).pauseSent p = 0 → Next (.pauseRefresh x p) s s) ∧
    (∀ a, s.get .SW_ING_PAUSE_CALL (x.val * 8 + p.val) = 1 → Tab.get 0 (s.hp x).pauseSent p = a + 1 →
      (a + quantaTime s x (s.get .PORT_PAUSE_REFRESH x) ≤ s.now → Next (.pauseRefresh x p) s
        (markIdle x (pauseDue x (2 ^ p.val) (s.get .PORT_PAUSE_QUANTA x) (s.setHp x (fun h => { h with pauseSent := Tab.put 0 h.pauseSent p 0 }))))) ∧
      (s.now < a + quantaTime s x (s.get .PORT_PAUSE_REFRESH x) → Next (.pauseRefresh x p) s s))) ∧
  -- MAC_TX_START (R158, R162, R168): nothing starts outside UP, under a fault received, in L3, while a frame is on the wire or in the gap; the port
  -- first leaves LPI; a pause frame goes first, unless a timed frame would be in its way; then the next frame.
  (∀ (x : Fin 32) (part : Fin 20) (s : State),
    (linkOk s x = false ∨ s.get .FLT_STATUS_SAFE = 1 ∨ Tab.get 0 s.sw.sending x ≠ 0 ∨ s.now < (s.hp x).holdUntil ∨
      (Tab.get [] s.sw.pauseDue x = [] ∧ nextTx s x = none) → Next (.macTxStart x part) s s) ∧
    (linkOk s x = true → s.get .FLT_STATUS_SAFE ≠ 1 → Tab.get 0 s.sw.sending x = 0 → (s.hp x).holdUntil ≤ s.now →
      (Tab.get [] s.sw.pauseDue x ≠ [] ∨ nextTx s x ≠ none → s.get .PORT_STATUS_TX_LPI x = 1 → Next (.macTxStart x part) s (leaveTxLpi x s)) ∧
      (∀ m q rest, s.get .PORT_STATUS_TX_LPI x ≠ 1 → Tab.get [] s.sw.pauseDue x = (m, q) :: rest →
        (wouldBlockTimed s x 72 = false → Next (.macTxStart x part) s (sendPause x m q rest s)) ∧
        (wouldBlockTimed s x 72 = true → Next (.macTxStart x part) s s)) ∧
      (∀ k, s.get .PORT_STATUS_TX_LPI x ≠ 1 → Tab.get [] s.sw.pauseDue x = [] → nextTx s x = some k →
        Next (.macTxStart x part) s (startTx k 0 part s)))) ∧
  -- TIMED_LAUNCH (R125, R127): not before L; without valid time, or late without its LATE flag, the frame is dropped and counted; a late one that
  -- has it goes as soon as it can.
  (∀ (x : Fin 32) (part : Fin 20) (s : State), (timedHead s x = none → Next (.timedLaunch x part) s s) ∧
    (∀ (k l : Nat) (late free : Bool) (four : Int), timedHead s x = some (k, l, late) → four = ((4 * uNs : Nat) : Int) →
      free = (linkOk s x && !s.safe && Tab.get 0 s.sw.sending x == 0 && !decide (s.now < (s.hp x).holdUntil) && !s.isSet .PORT_STATUS_TX_LPI x &&
        !queueStopped s x (s.get .TIME_PORT_TIMED_Q x) && isConfirmed (s.item (s.copy k).item)) →
      (serviceValid s = false → Next (.timedLaunch x part) s (markIdle x (dropLone k .TIME_TIMED_NOTIME x s))) ∧
      (serviceValid s = true →
        (four < launchAhead s x l → Next (.timedLaunch x part) s s) ∧
        (launchAhead s x l < -four → late = false → Next (.timedLaunch x part) s (markIdle x (dropLone k .TIME_TIMED_LATE_DROP x s))) ∧
        (launchAhead s x l < -four → late = true → free = true → Next (.timedLaunch x part) s (startTx k 2 part s)) ∧
        (-four ≤ launchAhead s x l → launchAhead s x l ≤ four → free = true → Next (.timedLaunch x part) s (startTx k 1 part s)) ∧
        (launchAhead s x l ≤ four → -four ≤ launchAhead s x l ∨ late = true → free = false → Next (.timedLaunch x part) s s)))) ∧
  -- FRAME_TX_END (R123, R146, R168, R173, R413, R418): only a confirmed frame in transmission ends: stamped, checked and closed; of a host port it is
  -- counted, the next frame starts no sooner than the gap of 12 bytes, and in a loopback it comes back in.
  (∀ (k : Nat) (s : State),
    ((s.copy k).phase ≠ 2 ∨ isConfirmed (copyItem s (s.copy k)) = false → Next (.frameTxEnd k) s s) ∧
    (∀ (c : Copy) (it : Item) (bs wire : List Nat) (t u : State), c = s.copy k → it = copyItem s c → bs = stamped s it c.sentTime →
      c.phase = 2 → isConfirmed it = true →
      t = (checkFrame 1 c.dest bs (postStamp it bs c (countStart k s))).setCopy k (fun c => { c with phase := 3, sent := c.len + 4, ok := true, old := false }) →
      (32 ≤ c.dest → Next (.frameTxEnd k) s t) ∧
      (c.dest < 32 → u = (((t.inc .HP_TX_FRAMES c.dest).bump .HP_TX_BYTES (c.len + 4) c.dest).setSw
          (fun w => { w with sending := Tab.put 0 w.sending c.dest 0 })).setHp c.dest
          (fun h => { h with holdUntil := t.now + 12 * uUs / max 1 (macRate t c.dest) }) → wire = txHeader u it c ++ bs →
        (hostLooped c.dest u = false → Next (.frameTxEnd k) s (markIdle c.dest u)) ∧
        (hostLooped c.dest u = true →
          Next (.frameTxEnd k) s (markIdle c.dest (receiveFrame c.dest 0 (wire ++ toBytes 4 (crc32 wire)) u))))))

/-- The classification commands of Table 7.7. -/
def Obligations.ClassificationCommandsComplete : Prop :=
  -- CLS_PARSER_WRITE, CLS_PROFILE_WRITE (R189, R192): the standby banks of the powered clusters change; RETRY_BUSY while one is copied.
  (∀ (q : Req) (es : List WEntry) (s : State), takenUp ciClsParserWrite q s = true → parserErr es = none →
    ((∀ p ∈ poweredPipes s, s.get .CLS_GEN_COPYING p ≠ 1) →
      Done (.clsParserWrite q es) ciClsParserWrite q (es.map (·.off)) s (es.foldl parserWriteOne s)) ∧
    (∀ st, notCopying s = some st → Next (.clsParserWrite q es) s (reject ciClsParserWrite q st.1 st.2 s))) ∧
  (∀ (q : Req) (es : List ProfEntry) (s : State), takenUp ciClsProfileWrite q s = true →
    (∀ e ∈ es, e.index < 16 ∧ profOk e.prof = true) → (∀ p ∈ poweredPipes s, s.get .CLS_GEN_COPYING p ≠ 1) →
    Done (.clsProfileWrite q es) ciClsProfileWrite q (es.map (·.index)) s
      (es.foldl (fun t e => (poweredPipes t).foldl (fun t p => t.setCls (fun c =>
        let b := Tab.get {} c.standby p
        { c with standby := Tab.put {} c.standby p { b with profiles := Tab.put {} b.profiles e.index e.prof } })) t) s)) ∧
  -- CLS_RULE_WRITE and CLS_RULE_DELETE (R186 to R188): best effort; an entry is written in the master copy and in every replica, or refused.
  (∀ (q : Req) (clear : Bool) (es : List REntry) (s : State),
    (es.length ≤ 64 → takenUp ciClsRuleWrite q s = true →
      DoneEach (.clsRuleWrite q clear es) ciClsRuleWrite q (es.map (·.index)) (ruleWriteOne clear) es s) ∧
    (takenUp ciClsRuleDelete q s = true →
      DoneEach (.clsRuleDelete q es) ciClsRuleDelete q (es.map (·.index)) ruleDeleteOne es s)) ∧
  (∀ (e : REntry) (s : State),
    (ruleOk e.index (ruleOf e.data) = true → ruleWriteOne false s e = (ruleSet e.index (ruleOf e.data) s, stDone)) ∧
    (ruleOk e.index (ruleOf e.data) = false → ∀ clear, ruleWriteOne clear s e = (s, stParam)) ∧
    (e.index < 65536 → ruleDeleteOne s e = (ruleSet e.index { (Tab.get {} s.cls.master e.index) with
      control := (Tab.get {} s.cls.master e.index).control % 2 ^ 63 } s, stDone))) ∧
  -- CLS_FLIP (R189, R192, R313): atomic across the powered pipeline clusters, which its stage wakes, the table cluster and the store controller.
  (∀ (q : Req) (s : State), takenAtomic (ciClsFlip s) q s = true → (∀ p ∈ poweredPipes s, s.get .CLS_GEN_COPYING p ≠ 1) →
    Next (.clsFlip q) s ((poweredPipes s).foldl (fun t p => undoze (4 + p) t)
      (s.setCmd (fun m => { m with staged := m.staged ++ [⟨q, 0x0805, (ciClsFlip s).staging, true, .clsFlip, []⟩] })))) ∧
  (∀ s : State, (ciClsFlip s).staging = (if s.mode = 4 then [4, 5, 6, 7] else [4, 5, 6, 7, 8, 9, 10, 11]) ++ [21, 25]) ∧
  -- CLS_START and CLS_EXC_CONFIG: the fields masked take their values.
  (∀ (q : Req) (es : List WEntry) (s : State),
    (takenUp ciClsStart q s = true → wErr (fun f => f == Fld.PIPE_START_TYPE) es = none →
      Done (.clsStart q es) ciClsStart q (es.map (·.off)) s (wApplyAll s es)) ∧
    (takenUp ciClsExcConfig q s = true → wErr (fun f => f ∈ [Fld.EXC_CFG_QUEUE, .EXC_CFG_ORDERED, .EXC_CFG_RATE, .EXC_CFG_BURST]) es = none →
      Done (.clsExcConfig q es) ciClsExcConfig q (es.map (·.off)) s (wApplyAll s es)))

/-- The events of the pipeline and table clusters (R176, R181, R187, R189, R191, R194, R202, R203, R205, R215 to R218, R395). -/
def Obligations.PipelineEventsComplete : Prop :=
  -- PARSE (R137, R176, R179, R192, R385, R395): an item bound for a cluster under recovery is discarded; one that is not ready, or not for this
  -- cluster, is left alone.
  (∀ (k : Nat) (p : Fin 8) (up : Option (Fin 8)) (s : State),
    (hasItem s k = true → s.restarting (4 + p.val) = true → mayParse s (s.item k) = true → Next (.parse k p up) s (recoveryDrop k s)) ∧
    (hasItem s k = false ∨ mayParse s (s.item k) = false ∨ (s.restarting (4 + p.val) = false ∧
      (pipeOn s p = false ∨ recircTo s (s.item k).recirc p = false)) → Next (.parse k p up) s s)) ∧
  -- Else (R176, R180, R181, R191): a frame for the work cores passes without a parse; an item that fails the parse, or whose parse ends in no
  -- profile, raises exception 0; one with a direct forward skips the search.
  (∀ (k : Nat) (p : Fin 8) (up : Option (Fin 8)) (s t u : State) (r : Parsed), hasItem s k = true → s.restarting (4 + p.val) = false →
    pipeOn s p = true → recircTo s (s.item k).recirc p = true → mayParse s (s.item k) = true → u = undoze (4 + p.val) s →
    r = parseFrame (Tab.get {} u.cls.active p) (u.get .PIPE_START_TYPE p (s.item k).slot) (s.item k).bytes →
    t = u.setItem k (fun i => { i with parsed := some { r with profile := r.profile % 16 }, gen := u.get .CLS_GEN_GEN p, cluster := p,
                                       counts := i.counts ++ parseCounts p r }) →
    (∀ c a, (s.item k).direct = some (40, c, a) → Next (.parse k p up) s (takeDecision k (.forward 40 0 0 (s.item k).vport 0 0) { kind := 2 } false
      (u.setItem k (fun i => { i with parsed := some {}, gen := u.get .CLS_GEN_GEN p, cluster := p })))) ∧
    (∀ d c a, (s.item k).direct = some (d, c, a) → d ≠ 40 →
      Next (.parse k p up) s (takeDecision k (.forward d c a (s.item k).vport 0 0) { kind := 2 } false t)) ∧
    ((s.item k).direct = none → r.parseErr = true ∨ r.profile = 16 → Next (.parse k p up) s (classException k 0 t)) ∧
    -- The rule search (R183 to R185): the key of the profile, then the rule that matches it, or exception 1 where none does.
    (∀ prof klen key v, (s.item k).direct = none → r.parseErr = false → r.profile ≠ 16 →
      prof = Tab.get {} (Tab.get {} u.cls.active p).profiles r.profile → klen = (if prof.wide then 64 else 32) → key = buildKey (s.item k) r prof →
      v = t.setItem k (fun i => { i with key := key, wide := prof.wide }) →
      (findRule v (p.val / 2) prof.wide r.profile (v.get .CLS_GEN_PLANE p) key = none →
        Next (.parse k p up) s (classException k 1 (v.setItem k (fun i => { i with counts := i.counts ++ [(Ctr.PIPE_NO_MATCH, 1, p.val, 0)] })))) ∧
      (∀ idx rule, findRule v (p.val / 2) prof.wide r.profile (v.get .CLS_GEN_PLANE p) key = some (idx, rule) →
        Next (.parse k p up) s (forwardItem k klen up (v.setItem k (fun i => { i with rule := some idx, action := rule.action })))))) ∧
  -- The lookup (R199 to R203): an action that does not go on to the tables decides at once; one that does takes the profile and the key with it,
  -- and its decision is provisional while HBM reads are outstanding, except under ASSURED, which waits for them. An uncorrectable error of an
  -- entry that the probe reads drops the item, counts it, invalidates the entry and reports it.
  (∀ (k klen : Nat) (s t : State) (it : Item) (prof : LookupProfile) (d : Decision) (f : Found), it = s.item k → prof = lprofOf s (bits it.action 48 6) →
    (bits it.action 60 4 ≠ 0 → decide_ s it (it.parsed.getD {}) klen false = (d, f) → ∀ up, forwardItem k klen up s = takeDecision k d f false s) ∧
    (bits it.action 60 4 = 0 → t = s.setItem k (fun i => { i with lprof := prof, learn := learnOf s prof i.key klen i.slot i.vport }) →
      decide_ t (t.item k) (it.parsed.getD {}) klen false = (d, f) →
      (f.hbm = true → behaviour t = 0 → forwardItem k klen none s = t.setItem k (fun i => { i with points := i.points ++ [4] })) ∧
      (f.hbm = false ∨ behaviour t ≠ 0 → forwardItem k klen none s = takeDecision k d f f.hbm t)) ∧
    (∀ (w : Fin 8) (e : Nat), bits it.action 60 4 = 0 → prof.emEn = true →
      ((emBuckets false s (emKeyOf prof it.key klen)).flatMap emWays)[w.val]? = some e → forwardItem k klen (some w) s = probeFails k e s)) ∧
  -- HBM_READ_RETURN (R202, R203, Table 5.1): an item that awaits none is left alone. A read that fails, or meets an injected error of two bits, is
  -- reported and fails point C4; a hit replaces the provisional decision and its copies, and is counted; without one the item goes on.
  (∀ (k : Nat) (ok : Bool) (s : State),
    ((s.item k).points.contains 4 = false → Next (.hbmReadReturn k ok) s s) ∧
    (∀ (hit : Bool) (klen bucket stack : Nat) (d : Decision) (f : Found) (t u : State), (s.item k).points.contains 4 = true →
      klen = (if (s.item k).wide then 64 else 32) → bucket = ((emBuckets true s (emKeyOf (s.item k).lprof (s.item k).key klen)).head?).getD 0 →
      inject 2 (s.get .TEST_INJECT_TARGET 2) s = (hit, t) →
      stack = (if hit then t.get .TEST_INJECT_TARGET 2 % 4 else Config.unitOf 27 bucket % 4) →
      u = t.when (hit || !ok) (reportUnit (27 + stack) (b2n (!ok || s.get .TEST_INJECT_BITS 2 == 2)) bucket []) →
      (ok = false ∨ (hit = true ∧ s.get .TEST_INJECT_BITS 2 = 2) →
        Next (.hbmReadReturn k ok) s (failItem k 4 [(.TBL_LOOKUP_ERR, 0, 0)] (u.raise 0x0907 [1, bucket]))) ∧
      (ok = true → hit = false ∨ s.get .TEST_INJECT_BITS 2 ≠ 2 → decide_ u (s.item k) ((s.item k).parsed.getD {}) klen true = (d, f) →
        ((s.item k).decision = none → Next (.hbmReadReturn k ok) s
          (passPoint k 4 (takeDecision k d f false (u.setItem k (fun i => { i with points := i.points.filter (· ≠ 4) }))))) ∧
        ((s.item k).decision ≠ none → f.counts.contains .TBL_EM_HIT_HBM = true → Next (.hbmReadReturn k ok) s
          (takeDecision k d { f with counts := f.counts ++ [.TBL_SPEC_ABSENT_WRONG] } false
            (((copiesOf u k).foldl (fun t c => dropCopy c t) u).setItem k (fun i => { i with admission := [], flushed := [] })))) ∧
        ((s.item k).decision ≠ none → f.counts.contains .TBL_EM_HIT_HBM = false → Next (.hbmReadReturn k ok) s
          (passPoint k 4 (u.setItem k (fun i => { i with counts := i.counts ++ f.counts.map (fun c => (c, 1, 0, 0)) }))))))) ∧
  -- REPLICA_CHECK (R187): every 1 µs one entry; a replica that differs, or that an error has changed, is repaired, counted and reported, and the
  -- recovery controller hears of it.
  (∀ (upset : Fin 16) (s t : State) (e : Nat) (good : Rule) (bad : List Nat), e = s.cls.checkPos → good = Tab.get {} s.cls.master e →
    bad = (List.range 4).filter (fun r => bit upset r || decide (Tab.get {} s.cls.replicas (r * 65536 + e) ≠ good)) →
    t = s.setCls (fun c => { c with checkPos := (e + 1) % 65536, checkSince := c.checkSince + uUs,
                                    replicas := bad.foldl (fun m r => Tab.put {} m (r * 65536 + e) good) c.replicas }) →
    (s.now < s.cls.checkSince + uUs → Next (.replicaCheck upset) s s) ∧
    (s.cls.checkSince + uUs ≤ s.now →
      (bad = [] → Next (.replicaCheck upset) s t) ∧
      (bad ≠ [] → Next (.replicaCheck upset) s (reportUnit 21 0 e []
        ((bad.foldl (fun s r => s.inc .PIPE_REPLICA_REPAIR (2 * r)) t).raise 0x0801 [e, bad.foldl (fun m r => m + 2 ^ r) 0]))))) ∧
  -- BANK_COPY_DONE (R189, R192): in every powered cluster whose COPYING is set the active banks become the standby banks, and COPYING clears.
  (∀ s : State,
    Next .bankCopyDone s ((poweredPipes s).foldl (fun t p => if t.get .CLS_GEN_COPYING p = 1 then
      (t.setCls (fun c => { c with standby := Tab.put {} c.standby p (Tab.get {} t.cls.active p) })).set .CLS_GEN_COPYING 0 p else t) s)) ∧
  -- BANK_LOAD (R192, R218): a cluster that awaits nothing is left alone, as is every one of a warm boot whose snapshot is not loaded; one with no
  -- active cluster beside it only ends its wait.
  (∀ (p : Fin 8) (s : State),
    (Tab.get 0 s.cls.loading p = 0 ∨ tablesLoading s = true → Next (.bankLoad p) s s) ∧
    (Tab.get 0 s.cls.loading p ≠ 0 → tablesLoading s = false → (∀ a, a < 8 → pipeOn s a = false) →
      Next (.bankLoad p) s (s.setCls (fun c => { c with loading := Tab.put 0 c.loading p 0 }))) ∧
    (∀ a, Tab.get 0 s.cls.loading p ≠ 0 → tablesLoading s = false → a < 8 → pipeOn s a = true → (∀ x, x < a → pipeOn s x = false) →
      Next (.bankLoad p) s (((s.setCls (fun c => { c with active := Tab.put {} c.active p (Tab.get {} c.active a),
                                                          standby := Tab.put {} c.standby p (Tab.get {} c.standby a) })).setAll
        [(.CLS_GEN_GEN, s.get .CLS_GEN_GEN a), (.CLS_GEN_PLANE, s.get .CLS_GEN_PLANE a), (.CLS_GEN_COPYING, s.get .CLS_GEN_COPYING a)] p).setCls
          (fun c => { c with loading := Tab.put 0 c.loading p 0 })))) ∧
  -- EXC_REFILL (R194): not before its microsecond; then every bucket in turn adopts RATE and BURST and rises up to BURST.
  (∀ s : State,
    (s.now < s.cls.excSince + uUs → Next .excRefill s s) ∧
    (s.cls.excSince + uUs ≤ s.now → Next .excRefill s ((List.range 64).foldl (fun t c => t.setCls (fun x =>
      { x with exc := Tab.put {} x.exc c { (Tab.get {} t.cls.exc c) with
          rate := t.get .EXC_CFG_RATE c, burst := t.get .EXC_CFG_BURST c,
          level := min ((Tab.get {} t.cls.exc c).level + t.get .EXC_CFG_RATE c) (t.get .EXC_CFG_BURST c * 1000000) } }))
      (s.setCls (fun x => { x with excSince := x.excSince + uUs }))))) ∧
  -- LEARN_HOLD_EXPIRY (R216) and LEARN_HEAD_WRITE (R215).
  (∀ s : State, Next .learnHoldExpiry s
    (s.setTbl (fun t => { t with learnHold := t.learnHold.filter (fun h => decide (s.now < h.2 + s.get .TBL_LEARN_RING_HOLD_US * uUs)) }))) ∧
  (∀ (v : Nat) (s : State), v < 65536 →
    (s.get .TBL_LEARN_RING_TAIL = v → Next (.learnHeadWrite v) s ((s.set .TBL_LEARN_RING_HEAD v).setTbl (fun t => { t with learnFull := false }))) ∧
    (s.get .TBL_LEARN_RING_TAIL ≠ v → Next (.learnHeadWrite v) s (s.set .TBL_LEARN_RING_HEAD v))) ∧
  -- FILTER_REBUILT (R205): the shadow, with every valid extension entry in it, becomes live; the entries are counted in the event.
  (∀ (s : State) (valid : Tab EmEntry) (live : Tab Nat), valid = s.tables.ext.filter (fun p => p.2.valid) →
    live = (valid.flatMap (fun p => filterPos p.2.key)).foldl (fun m p => Tab.put 0 m p 1) (s.tables.shadow.getD []) →
    (s.get .TBL_STATE_REBUILDING ≠ 1 → Next .filterRebuilt s s) ∧
    (s.get .TBL_STATE_REBUILDING = 1 → Next .filterRebuilt s (((s.setTbl (fun t => { t with filter := live, shadow := none })).setAll
        [(.TBL_STATE_REBUILDING, 0), (.TBL_STATE_FILTER_ALL_ONES, 0)]).raise 0x0906 [valid.length]))) ∧
  -- SNAPSHOT_DONE (R217, R364): not while PFAIL_N or L3 holds the store; committed, the copy is the newest; failed, the event carries the store's
  -- status and no copy changes.
  (∀ (ok : Bool) (status : Nat) (s : State), (s.tables.staging = none ∨ storeHeld s = true ∨ s.safe = true → Next (.snapshotDone ok status) s s) ∧
    (∀ (c : Nat) (snap : Snapshot), s.tables.staging = some (c, snap) → storeHeld s = false → s.safe = false →
      (ok = true → Next (.snapshotDone ok status) s
        (((((s.setTbl (fun t => { t with staging := none })).set .TBL_SNAP_WRITING 0).setTbl
          (fun t => { t with copies := Tab.put none t.copies c (some snap), newest := c + 1 })).setAll
            [(.TBL_SNAP_COPY, c), (.TBL_SNAP_GEN, snap.gen)]).raise 0x0902 [snap.gen, c])) ∧
      (ok = false → Next (.snapshotDone ok status) s
        (((s.setTbl (fun t => { t with staging := none })).set .TBL_SNAP_WRITING 0).raise 0x0903 [snap.gen, status])))) ∧
  -- RESTORED (R218, R357): step 12 of a warm boot; without a copy, of another format or of other serials, the restore is refused by reason.
  (∀ s : State,
    (s.get .SYS_BOOT_KIND ≠ 1 ∨ s.get .SYS_BOOT_PHASE ≠ 11 → Next .restored s s) ∧
    (∀ t, s.get .SYS_BOOT_KIND = 1 → s.get .SYS_BOOT_PHASE = 11 →
      (s.tables.newest = 0 ∨ (∃ c, s.tables.newest = c + 1 ∧ Tab.get none s.tables.copies c = none) → t = s.raise 0x0905 [3] →
        Next .restored s ((t.set .SYS_BOOT_PHASE 12).setCls (fun c => { c with loading := [] }))) ∧
      (∀ c snap, s.tables.newest = c + 1 → Tab.get none s.tables.copies c = some snap →
        (snap.version ≠ Config.snapshotFormat (s.get .SYS_IMAGE_BUILD) → t = s.raise 0x0905 [1] →
          Next .restored s ((t.set .SYS_BOOT_PHASE 12).setCls (fun c => { c with loading := [] }))) ∧
        (snap.version = Config.snapshotFormat (s.get .SYS_IMAGE_BUILD) → snap.serials ≠ serials s → t = s.raise 0x0905 [2] →
          Next .restored s ((t.set .SYS_BOOT_PHASE 12).setCls (fun c => { c with loading := [] }))) ∧
        (snap.version = Config.snapshotFormat (s.get .SYS_IMAGE_BUILD) → snap.serials = serials s →
          t = ((s.setTbl (fun t => { t with t := snap.tables, ext := [], filter := [], shadow := none, deletes := 0 })).setAll
            [(.TBL_STATE_RESTORED, 1), (.TBL_STATE_GEN, snap.gen), (.TBL_SNAP_COPY, c), (.TBL_SNAP_GEN, snap.gen)]).raise 0x0904 [snap.gen] →
          Next .restored s ((t.set .SYS_BOOT_PHASE 12).setCls (fun c => { c with loading := [] }))))))

/-- The table commands of Table 8.5. -/
def Obligations.TableCommandsComplete : Prop :=
  -- The best-effort commands (R207, R208, R211, R213, Table 8.4): each entry in order, with its status.
  (∀ (q : Req) (tier : Nat) (replace : Bool) (es : List REntry) (s : State), tblReady q s = none → es.length ≤ 64 →
    (tier < 3 → takenUp ciTblEmInsert q s = true → DoneEach (.tblEmInsert q tier replace es) ciTblEmInsert q [] (emInsertOne tier replace) es s) ∧
    (takenUp ciTblEmDelete q s = true → DoneEach (.tblEmDelete q es) ciTblEmDelete q [] (fun s e => emDelete e.data s) es s) ∧
    (takenUp ciTblLpmInsert q s = true → DoneEach (.tblLpmInsert q replace es) ciTblLpmInsert q [] (lpmInsertOne replace) es s) ∧
    (takenUp ciTblLpmDelete q s = true → DoneEach (.tblLpmDelete q es) ciTblLpmDelete q [] lpmDeleteOne es s) ∧
    (takenUp ciTblNhWrite q s = true → DoneEach (.tblNhWrite q es) ciTblNhWrite q [] nhWriteOne es s) ∧
    (takenUp ciTblEcmpWrite q s = true → DoneEach (.tblEcmpWrite q es) ciTblEcmpWrite q [] ecmpWriteOne es s)) ∧
  -- One next-hop and one ECMP entry (Table 8.4, R213; INDEX bit 32 tells member from group, log entry 45): written, or refused.
  (∀ (e : REntry) (s : State),
    (e.index < 262144 → bits e.data 121 6 ≤ 35 → bits e.data 0 36 = 0 →
      nhWriteOne s e = (tblGen (s.setTables (fun t => { t with nextHop := Tab.put 0 t.nextHop e.index (e.data % 2 ^ 128) })), stDone)) ∧
    (262144 ≤ e.index ∨ 35 < bits e.data 121 6 ∨ bits e.data 0 36 ≠ 0 → nhWriteOne s e = (s, stParam)) ∧
    (e.index < 16384 → bits e.data 62 1 = 0 → bits e.data 0 36 = 0 →
      ecmpWriteOne s e = (tblGen (s.setTables (fun t => { t with ecmpGroup := Tab.put 0 t.ecmpGroup e.index (e.data % 2 ^ 64) })), stDone)) ∧
    (∀ i, e.index = 2 ^ 32 + i → i < 262144 → bits e.data 50 14 = 0 → bits e.data 0 32 = 0 →
      ecmpWriteOne s e = (tblGen (s.setTables (fun t => { t with ecmpMember := Tab.put 0 t.ecmpMember i (bits e.data 32 18) })), stDone)) ∧
    ((16384 ≤ e.index ∧ e.index < 2 ^ 32) ∨ 2 ^ 32 + 262144 ≤ e.index → ecmpWriteOne s e = (s, stParam))) ∧
  -- One exact-match and one prefix entry (R207, R209, R211, Tables 8.1 and 8.2): a result out of range, or a bit that must be 0, is refused.
  (∀ (tier : Nat) (replace : Bool) (e : REntry) (s : State),
    (resultOk (bits e.data 62 2) (bits e.data 44 18) = true → bits e.data 40 4 = 0 → bits e.data 0 6 = 0 →
      emInsertOne tier replace s e = emInsert tier replace (emEntryOf e.data) s) ∧
    (resultOk (bits e.data 62 2) (bits e.data 44 18) = false ∨ bits e.data 40 4 ≠ 0 ∨ bits e.data 0 6 ≠ 0 →
      emInsertOne tier replace s e = (s, stParam)) ∧
    (∀ v6 vrf a r, prefixOf e.data = some (v6, vrf, a, r) →
      lpmInsertOne replace s e = lpmInsert v6 vrf a r replace s ∧ lpmDeleteOne s e = lpmDelete v6 vrf a (bits r 4 8) s) ∧
    (prefixOf e.data = none → lpmInsertOne replace s e = (s, stParam) ∧ lpmDeleteOne s e = (s, stParam))) ∧
  -- TBL_EM_FIND (Table 8.5): tier, bucket, way and entry of a key; REJECTED_STATE when it is absent (log entry 44).
  (∀ (q : Req) (key : Nat) (s : State), key < 2 ^ 128 → takenUp ciTblEmFind q s = true → tblReady q s = none →
    (∀ k, emFind false s key = some k → Done (.tblEmFind q key) ciTblEmFind q [] s s
      (formR [(0, [1 * 2 ^ 56 + k / 4 * 2 ^ 16 + k % 4] ++ emRecord (emAt false s k))])) ∧
    (∀ k, emFind false s key = none → emFind true s key = some k → Done (.tblEmFind q key) ciTblEmFind q [] s s
      (formR [(0, [2 * 2 ^ 56 + k / 4 * 2 ^ 16 + k % 4] ++ emRecord (emAt true s k))])) ∧
    (emFind false s key = none → emFind true s key = none → Next (.tblEmFind q key) s (reject ciTblEmFind q stState 0 s))) ∧
  -- TBL_PROFILE_WRITE and TBL_LEARN_CONFIG (R219, R215): atomic.
  (∀ (q : Req) (es : List WEntry) (s : State), takenAtomic ciTblProfileWrite q s = true → tblReady q s = none → wErr lprofAllow es = none →
    Stages (.tblProfileWrite q es) ciTblProfileWrite q s (.tblProfile es)) ∧
  (∀ (q : Req) (base hold : Nat) (s : State), takenAtomic ciTblLearnConfig q s = true → tblReady q s = none → base < 2 ^ 64 → 1 ≤ hold → hold < 65536 →
    Stages (.tblLearnConfig q base hold) ciTblLearnConfig q s (.learn base hold)) ∧
  -- TBL_HIT_SCAN (R216): the indices of the range whose HIT is set, each then cleared; that the extension's entries follow those on die is the
  -- model's choice (log entry 130).
  (∀ (q : Req) (first count : Nat) (a b : List (Nat × Nat)) (s : State), takenUp ciTblHitScan q s = true → tblReady q s = none →
    first < emEntries s → first + count ≤ emEntries s →
    a = (s.tables.t.em.filter (fun p => decide (first ≤ p.1 ∧ p.1 < first + count) && p.2.hit)).map (fun p => (p.1, p.1)) →
    b = (s.tables.ext.filter (fun p => decide (first ≤ 4194304 + p.1 ∧ 4194304 + p.1 < first + count) && p.2.hit)).map (fun p => (p.1, 4194304 + p.1)) →
    Done (.tblHitScan q first count) ciTblHitScan q [] s (clearHits true b (clearHits false a s)) (formR ((a ++ b).map (fun k => (k.2, []))))) ∧
  -- TBL_SNAPSHOT (R217): the cut waits to be written, HIT cleared in it, its copy the one that is not the newest; RETRY_BUSY while one runs.
  (∀ (q : Req) (s : State), takenUp ciTblSnapshot q s = true →
    (s.get .TBL_SNAP_WRITING = 1 → Next (.tblSnapshot q) s (reject ciTblSnapshot q stBusy 21 s)) ∧
    (s.get .TBL_SNAP_WRITING ≠ 1 → tblReady q s = none → Done (.tblSnapshot q) ciTblSnapshot q [] s
      ((s.setTbl (fun x => { x with staging := some (if s.tables.newest = 1 then 1 else 0,
        ⟨s.get .TBL_STATE_GEN, Config.snapshotFormat (s.get .SYS_IMAGE_BUILD), serials s,
          { s.tables.t with em := (s.tables.t.em.map (fun p => (p.1, { p.2 with hit := false }))).filter (fun p => p.2 ≠ {}) }⟩) })).set
        .TBL_SNAP_WRITING 1) [s.get .TBL_STATE_GEN * 2 ^ 32])) ∧
  -- TBL_FILTER_REBUILD (R205). A table command while a warm boot has not loaded its snapshot (R218, R357): RETRY_BUSY, but for what is replayed.
  (∀ (q : Req) (s : State), takenUp ciTblFilterRebuild q s = true → tblReady q s = none →
    Done (.tblFilterRebuild q) ciTblFilterRebuild q [] s (filterRebuild s)) ∧
  (∀ (q : Req) (s : State), heldBack ciTblFilterRebuild s = false → gate ciTblFilterRebuild q s = none → s.get .SYS_BOOT_KIND = 1 →
    s.get .SYS_BOOT_PHASE < 12 → q.src ≠ .journal → Next (.tblFilterRebuild q) s (reject ciTblFilterRebuild q stBusy 21 s))

/-- The switch and buffer pool commands of Table 9.6. -/
def Obligations.SwitchAndPoolCommandsComplete : Prop :=
  -- SW_CONFIG, SW_DEST_CONFIG, SW_ING_CONFIG (R228): atomic; DOWN_ACTION of a line destination, or XON not below XOFF, is refused.
  (∀ (q : Req) (es : List WEntry) (s : State), takenAtomic ciSwConfig q s = true →
    wErr (fun f => [Fld.SW_SPILL_GLOBAL_FREE, .SW_SPILL_QUEUE_CELLS, .SW_SHARED_RESERVE, .SW_RELEASE_SPEC_EN].contains f) es = none →
    Stages (.swConfig q es) ciSwConfig q s (.regs es)) ∧
  (∀ (q : Req) (es : List WEntry) (s : State), takenAtomic ciSwDestConfig q s = true →
    wErr (fun f => [Fld.SW_DEST_ALLOC_DOWN_FLUSH_MS, .SW_DEST_ALLOC_DOWN_ACTION, .SW_DEST_ALLOC_SHARED_LIMIT].contains f) es = none →
    ((∀ e ∈ es, ∀ w ∈ wWrites .SW_DEST_ALLOC_DOWN_ACTION [e], w.1 < 32 ∨ w.2.2 ≠ 1) → Stages (.swDestConfig q es) ciSwDestConfig q s (.regs es)) ∧
    (∀ e rest, es = e :: rest → (∃ w ∈ wWrites .SW_DEST_ALLOC_DOWN_ACTION [e], 32 ≤ w.1 ∧ w.2.2 = 1) →
      Next (.swDestConfig q es) s (reject { ciSwDestConfig with parts := [] } q stParam 36 s))) ∧
  (∀ (q : Req) (es : List WEntry) (s : State), takenAtomic ciSwIngConfig q s = true →
    wErr (fun f => [Fld.SW_ING_LOSSLESS, .SW_ING_HEADROOM, .SW_ING_XOFF, .SW_ING_XON].contains f) es = none →
    (∀ k, (wApplyAll s es).get .SW_ING_XON k < (wApplyAll s es).get .SW_ING_XOFF k) →
    Stages (.swIngConfig q es) ciSwIngConfig q s (.regs es)) ∧
  -- SW_QUEUE_CONFIG (R221): best effort; a record's queue takes its fields; DEST stays while the queue holds a frame.
  (∀ (q : Req) (es : List REntry) (s : State), es.length ≤ 64 → takenUp ciSwQueueConfig q s = true →
    DoneEach (.swQueueConfig q es) ciSwQueueConfig q (es.map (·.index)) queueConfigOne es s) ∧
  (∀ (e : REntry) (dest pool min max : Nat) (s t : State), dest = bits e.data 120 6 → pool = bits e.data 115 5 → min = bits e.data 80 29 →
    max = bits e.data 48 29 →
    (131072 ≤ e.index ∨ 41 < dest ∨ bits e.data 1 5 ≠ 0 ∨ (40 ≤ dest ∧ 16 ≤ pool) → queueConfigOne s e = (s, stParam)) ∧
    (e.index < 131072 → dest ≤ 41 → bits e.data 1 5 = 0 → dest < 40 ∨ pool < 16 →
      (dest ≠ (s.queue e.index).dest → s.copies.any (fun c => c.2.queue == e.index && decide (c.2.phase = 0)) = true →
        queueConfigOne s e = (s, stState)) ∧
      (dest = (s.queue e.index).dest ∨ s.copies.any (fun c => c.2.queue == e.index && decide (c.2.phase = 0)) = false →
        t = (if min < (s.queue e.index).min then recharge min 0 (s.queue e.index).copies s else s).setQueue e.index (fun x =>
          { x with dest := dest, cls := bits e.data 112 3, pool := pool, min := min, max := max, wq := bits e.data 6 10 }) →
        queueConfigOne s e = (refreshShared dest (refreshShared (s.queue e.index).dest t), stDone)))) ∧
  -- SW_PORT_FLUSH (R233, R236): a flush of each destination of the mask starts. SW_SAGE_CONFIG: EN takes its value.
  (∀ (q : Req) (mask : Nat) (s : State), mask < 2 ^ 42 → takenUp ciSwPortFlush q s = true →
    Done (.swPortFlush q mask) ciSwPortFlush q [] s (((List.range 42).filter (bit mask)).foldl (fun t d => startFlush d t) s)) ∧
  (∀ (q : Req) (es : List WEntry) (s : State), takenUp ciSwSageConfig q s = true → wErr (fun f => f == Fld.SW_SAGE_EN) es = none →
    Done (.swSageConfig q es) ciSwSageConfig q (es.map (·.off)) s (wApplyAll s es)) ∧
  -- BPM_POOL_CONFIG (R240): atomic; refused while a buffer of a pool it writes is out.
  (∀ (q : Req) (es : List WEntry) (s : State), takenAtomic ciBpmPoolConfig q s = true → wErr (fun f => poolFields.contains f) es = none →
    ((∀ p ∈ poolsTouched es, poolIdle s p = true) → poolErr es s = none →
      Stages (.bpmPoolConfig q es) ciBpmPoolConfig q s (.poolConfig es)) ∧
    (∀ p ∈ poolsTouched es, poolIdle s p = false →
      Next (.bpmPoolConfig q es) s (reject { ciBpmPoolConfig with parts := [] } q stState 0 s))) ∧
  -- BPM_ALLOC (R241; all or none, log entry 61): the buffers' addresses; an exhausted chain is counted and answers NO_SPACE.
  (∀ (q : Req) (pool count : Nat) (s : State), pool < 16 → 1 ≤ count → count ≤ 64 → takenUp ciBpmAlloc q s = true →
    s.get .BPM_OWNER_IN_RESET q.user ≠ 1 →
    (∀ t addrs, allocMany pool q.user count s = some (t, addrs) →
      Done (.bpmAlloc q pool count) ciBpmAlloc q [] s t (formR (addrs.zipIdx.map (fun a => (a.2, [a.1]))))) ∧
    (allocMany pool q.user count s = none →
      Next (.bpmAlloc q pool count) s (complete ciBpmAlloc q [] 0 { state := s.inc .BPM_NOSPACE, status := stNoSpace }))) ∧
  -- BPM_FREE and BPM_HANDOFF (R243, R244): best effort; what the check refuses is counted and reported, and changes no buffer.
  (∀ (q : Req) (es : List REntry) (s : State), es.length ≤ 64 →
    (takenUp ciBpmFree q s = true → DoneEach (.bpmFree q es) ciBpmFree q [] (fun t e => bpmOne q.user e.data none t) es s) ∧
    (takenUp ciBpmHandoff q s = true →
      DoneEach (.bpmHandoff q es) ciBpmHandoff q [] (fun t e => bpmOne q.user (e.data / 2 ^ 64) (some (e.data % 2 ^ 64)) t) es s)) ∧
  (∀ (owner addr : Nat) (target : Option Nat) (s : State), s.get .BPM_OWNER_IN_RESET owner ≠ 1 →
    (∀ row, bpmCheck s owner addr target = .inl row → bpmOne owner addr target s = (bpmFail owner row addr s, bpmRowStatus row)) ∧
    (∀ p k, bpmCheck s owner addr none = .inr (p, k) → bpmOne owner addr none s = (bpmPut p k s, stDone)) ∧
    (∀ p k t, bpmCheck s owner addr (some t) = .inr (p, k) → bpmOne owner addr (some t) s = (bpmPass p k t s, stDone))) ∧
  -- BPM_AUDIT (R247).
  (∀ (q : Req) (s : State), takenUp ciBpmAudit q s = true →
    Done (.bpmAudit q) ciBpmAudit q [] s (bpmAudit s) (formR (auditReply s)))

/-- The scheduling and policing commands of Table 10.5. -/
def Obligations.SchedulingCommandsComplete : Prop :=
  -- The best-effort commands (R253, R258, R261, R265).
  (∀ (q : Req) (reset : Bool) (es : List REntry) (s : State), es.length ≤ 64 →
    (takenUp ciSchedNodeWrite q s = true → DoneEach (.schedNodeWrite q es) ciSchedNodeWrite q (es.map (·.index)) nodeWriteOne es s) ∧
    (takenUp ciSchedQueueMap q s = true →
      DoneEach (.schedQueueMap q es) ciSchedQueueMap q (es.map (·.index)) (fun t e => queueMapOne e.index t e.data) es s) ∧
    (takenUp (ciPolWrite reset) q s = true →
      DoneEach (.polWrite q reset es) (ciPolWrite reset) q (es.map (·.index)) (polWriteOne reset) es s) ∧
    (takenUp ciPolCounterClear q s = true → DoneEach (.polCounterClear q es) ciPolCounterClear q [] polClearOne es s)) ∧
  -- One queue node (R253): a GROUP of another destination is refused, and one changed while frames are queued; else the node takes it.
  (∀ (n d : Nat) (s : State), nodeOk d = true → n < 131072 →
    (destOfGroup s (bits d 112 14) ≠ (s.queue n).dest → queueMapOne n s d = (s, stParam)) ∧
    (destOfGroup s (bits d 112 14) = (s.queue n).dest → bits d 112 14 ≠ (s.node 5 n).parent → queuedBelow s 5 n = true →
      queueMapOne n s d = (s, stState)) ∧
    (destOfGroup s (bits d 112 14) = (s.queue n).dest → bits d 112 14 = (s.node 5 n).parent ∨ queuedBelow s 5 n = false →
      queueMapOne n s d = (nodeTake 5 n d (bits d 112 14) (bit d 140) s, stDone))) ∧
  -- One inner node (R253): a fixed node, a level 4 node or the first 256 of level 2, has no parent to choose.
  (∀ (n d : Nat) (s : State),
    (bits d 112 14 ≠ 0 → nodeWriteInner 4 n s d = (s, stParam)) ∧
    (bits d 112 14 = 0 → nodeWriteInner 4 n s d = (nodeTake 4 n d 0 false s, stDone)) ∧
    (4096 ≤ bits d 112 14 → nodeWriteInner 3 n s d = (s, stParam)) ∧
    (bits d 112 14 < 4096 → bits d 112 14 ≠ (s.node 3 n).parent → queuedBelow s 3 n = true → nodeWriteInner 3 n s d = (s, stState)) ∧
    (bits d 112 14 < 4096 → bits d 112 14 = (s.node 3 n).parent ∨ queuedBelow s 3 n = false →
      nodeWriteInner 3 n s d = (nodeTake 3 n d (bits d 112 14) false s, stDone)) ∧
    (n < 256 → bits d 112 14 ≠ 0 → nodeWriteInner 2 n s d = (s, stParam)) ∧
    (n < 256 → bits d 112 14 = 0 → nodeWriteInner 2 n s d = (nodeTake 2 n d 0 false s, stDone)) ∧
    (256 ≤ n → 41 < bits d 112 14 ∨ (32 ≤ bits d 112 14 ∧ bits d 112 14 ≤ 35) → nodeWriteInner 2 n s d = (s, stParam)) ∧
    (256 ≤ n → bits d 112 14 ≤ 41 → bits d 112 14 < 32 ∨ 35 < bits d 112 14 →
      (bits d 112 14 ≠ (s.node 2 n).parent → queuedBelow s 2 n = true → nodeWriteInner 2 n s d = (s, stState)) ∧
      (bits d 112 14 = (s.node 2 n).parent ∨ queuedBelow s 2 n = false →
        nodeWriteInner 2 n s d = (nodeTake 2 n d (bits d 112 14) false s, stDone)))) ∧
  -- One policer (R261, R265): PIR below CIR in trTCM is refused; a new configuration waits for the refill, or with RESET is taken full.
  (∀ (e : REntry) (s : State),
    (262144 ≤ e.index ∨ ((polOf e.data).trtcm = true ∧ (polOf e.data).pir < (polOf e.data).cir) ∨ (polOf e.data).src = 3 →
      ∀ reset, polWriteOne reset s e = (s, stParam)) ∧
    (∀ c, c = polOf e.data → e.index < 262144 → c.trtcm = false ∨ c.cir ≤ c.pir → c.src ≠ 3 → bits e.data 643 4 = 0 → bits e.data 638 2 = 0 →
      bits e.data 608 24 = 0 → bits e.data 512 32 = 0 →
      polWriteOne false s e = (s.setPolicer e.index (fun p => { p with next := if p.cfg = c then none else some c, nextAt := refillUs s }), stDone) ∧
      polWriteOne true s e = (s.setPolicer e.index (fun p =>
        { p with cfg := c, next := none, nextAt := refillUs s, tc := c.cbs * 65536, te := c.ebs * 65536 }), stDone)) ∧
    (e.index < 262144 → polClearOne s e = (s.setPolicer e.index (fun p =>
      { p with greenPkts := 0, greenBytes := 0, yellowPkts := 0, yellowBytes := 0, redPkts := 0, redBytes := 0, dropPkts := 0,
               dropBytes := 0 }), stDone)) ∧
    (262144 ≤ e.index → polClearOne s e = (s, stParam))) ∧
  -- SCHED_LEN_PROFILE and POL_COLOUR_MAP (Tables 10.7 and 10.10): atomic.
  (∀ (q : Req) (es : List WEntry) (s : State),
    (takenAtomic ciSchedLenProfile q s = true → wErr (fun f => f == Fld.SCHED_LEN_PROF_OVERHEAD) es = none →
      Stages (.schedLenProfile q es) ciSchedLenProfile q s (.regs es)) ∧
    (takenAtomic ciPolColourMap q s = true → wErr (fun f => f == Fld.SCHED_DSCP_COLOUR) es = none →
      Stages (.polColourMap q es) ciPolColourMap q s (.regs es)))

/-- The events of the switch core, Sage and the buffer pool manager (R224 to R247). -/
def Obligations.SwitchEventsComplete : Prop :=
  -- ADMISSION (R137, R223, R227, R232, R395): arrivals that wait in the same cycle go first where their ingress slot is lower.
  (∀ (k : Nat) (more : List CopyTo) (s : State),
    Next (.admission k more) s ((sooner s (fun i => match i with | .admission j m => some (j, m) | _ => none) (fun a => (s.item a.1).slot)
      (s.item k).slot ++ [(k, more)]).foldl admitOne s)) ∧
  -- One arrival: an item decided to be forwarded that has no copy, under ASSURED only a confirmed one; bound for a cluster under recovery it is
  -- discarded; any other is left alone.
  (∀ (k : Nat) (more : List CopyTo) (s : State) (forward : Prop), (forward ↔ ∃ a b c v l w, (s.item k).decision = some (.forward a b c v l w)) →
    (hasItem s k = true → forward → (s.item k).points.contains 0 = false → copiesOf s k = [] → behaviour s ≠ 0 ∨ isConfirmed (s.item k) = true →
      (s.restarting 20 = false → admitOne s (k, more) = admitItem k more s) ∧
      (s.restarting 20 = true → admitOne s (k, more) = recoveryDrop k s)) ∧
    (hasItem s k = false ∨ ¬forward ∨ (s.item k).points.contains 0 = true ∨ copiesOf s k ≠ [] ∨ (behaviour s = 0 ∧ isConfirmed (s.item k) = false) →
      admitOne s (k, more) = s)) ∧
  -- FLUSH_DONE (R233, Table 9.8): FLUSHING clears and the event gives what was freed; the last of a flush of the whole store lets Sage go on.
  (∀ (d : Fin 42) (s t : State), t = ((s.set .SW_DEST_STATE_FLUSHING 0 d).raise 0x0A03 [d, Tab.get 0 s.sw.flushFreed d]).setSw (fun w =>
      { w with flushFreed := Tab.put 0 w.flushFreed d 0, flushSince := Tab.put 0 w.flushSince d 0 }) →
    (s.get .SW_DEST_STATE_FLUSHING d ≠ 1 → Next (.flushDone d) s s) ∧
    (s.get .SW_DEST_STATE_FLUSHING d = 1 →
      (s.sw.wholeFlush = true → (∀ x, x < 42 → t.get .SW_DEST_STATE_FLUSHING x ≠ 1) →
        Next (.flushDone d) s ((t.setSw (fun w => { w with wholeFlush := false })).set .SW_SAGE_PAUSED 0)) ∧
      (s.sw.wholeFlush = false ∨ (∃ x, x < 42 ∧ t.get .SW_DEST_STATE_FLUSHING x = 1) → Next (.flushDone d) s t))) ∧
  -- DOWN_FLUSH_TIMER (R234): DOWN_FLUSH_MS after the link left UP with FLUSH_AFTER, and not before; its arrivals are then dropped.
  (∀ (x : Fin 32) (s : State),
    ((s.hp x).downSince = 0 ∨ s.get .SW_DEST_ALLOC_DOWN_ACTION x ≠ 1 ∨ s.link x = lsUp ∨ s.get .SW_DEST_STATE_DOWN_DROPPING x = 1 →
      Next (.downFlushTimer x) s s) ∧
    (∀ a, (s.hp x).downSince = a + 1 → s.get .SW_DEST_ALLOC_DOWN_ACTION x = 1 → s.link x ≠ lsUp → s.get .SW_DEST_STATE_DOWN_DROPPING x ≠ 1 →
      (a + s.get .SW_DEST_ALLOC_DOWN_FLUSH_MS x * uMs ≤ s.now →
        Next (.downFlushTimer x) s ((startFlush x s).set .SW_DEST_STATE_DOWN_DROPPING 1 x)) ∧
      (s.now < a + s.get .SW_DEST_ALLOC_DOWN_FLUSH_MS x * uMs → Next (.downFlushTimer x) s s))) ∧
  -- SAGE_EXAMINE (R237 to R239): while Sage runs, one cell of each tier, and the sweep of each moves on.
  (∀ (a b : SageCell) (s t : State), t = sageNext false (sageAt (s.get .SW_SAGE_SRAM_POS) false a s) →
    (s.get .SW_SAGE_EN ≠ 1 ∨ s.get .SW_SAGE_PAUSED = 1 ∨ s.restarting 20 = true → Next (.sageExamine a b) s s) ∧
    (s.get .SW_SAGE_EN = 1 → s.get .SW_SAGE_PAUSED ≠ 1 → s.restarting 20 = false →
      Next (.sageExamine a b) s (sageNext true (sageAt (1048576 + t.get .SW_SAGE_HBM_POS) true b t)))) ∧
  -- A cell (R238, R239): leaked with one tag in two sweeps it is reclaimed and counted; leaked once it is only remembered; doubly owned it leaves the
  -- free list, is counted and reported.
  (∀ (cell : Nat) (hbm : Bool) (s t back : State),
    t = s.setSage (fun g => { g with seen := g.seen.filter (fun p => p.1 ≠ cell), doubles := g.doubles.filter (· ≠ cell) }) →
    back = t.set .SW_SHARED_FREE (min (allCells t) (t.get .SW_SHARED_FREE + 1)) →
    sageAt cell hbm .sound s = t ∧
    (∀ tag, s.sw.sage.doubles.contains cell = true → sageAt cell hbm (.leaked tag) s = back) ∧
    (∀ tag, s.sw.sage.doubles.contains cell = false →
      (s.sw.sage.seen.contains (cell, tag) = true → sageAt cell hbm (.leaked tag) s = (back.inc .SW_SAGE_RECLAIMED).setSage (fun g =>
        if hbm then { g with reclaimedHbm := g.reclaimedHbm + 1 } else { g with reclaimedSram := g.reclaimedSram + 1 })) ∧
      (s.sw.sage.seen.contains (cell, tag) = false →
        sageAt cell hbm (.leaked tag) s = t.setSage (fun g => { g with seen := g.seen ++ [(cell, tag)] }))) ∧
    (∀ holder u, u = t.setSage (fun g => { g with doubles := g.doubles ++ [cell] }) → sageAt cell hbm (.doubly holder) s =
      reportUnit 20 12 cell (toBytes 8 holder) (((u.set .SW_SHARED_FREE (u.get .SW_SHARED_FREE - 1)).inc .SW_SAGE_DOUBLE).raise 0x0A02 [cell, holder]))) ∧
  -- SPILL_PREFETCH (R225): a spilled queue's next 16 cells, frames in transmission first, come on die; another queue is left alone.
  (∀ (n : Nat) (s : State),
    ((s.queue n).spilled = true → Next (.spillPrefetch n) s (respill n (prefetch
      ((s.copies.filter (fun p => p.2.queue == n && decide (p.2.phase = 1 ∨ p.2.phase = 2))).map (·.1) ++ (s.queue n).copies) 16 s))) ∧
    ((s.queue n).spilled = false → Next (.spillPrefetch n) s s)) ∧
  -- BPM_CACHE_REFILL (R242), BPM_RECLAIM (R246), BPM_AUDIT_TIMER (R247).
  (∀ (p : Fin 16) (s : State), Next (.bpmCacheRefill p) s (poolBalance p s)) ∧
  (∀ (o : Fin 128) (s : State),
    (s.get .BPM_OWNER_IN_RESET o = 1 → Next (.bpmReclaim o) s (reclaimOwner o s)) ∧
    (s.get .BPM_OWNER_IN_RESET o ≠ 1 → Next (.bpmReclaim o) s s)) ∧
  (∀ s : State, (s.sw.auditSince = none ∨ s.get .BPM_STATUS_AUDIT_S = 0 → Next .bpmAuditTimer s s) ∧
    (∀ a, s.sw.auditSince = some a → s.get .BPM_STATUS_AUDIT_S ≠ 0 →
      (a + s.get .BPM_STATUS_AUDIT_S * uS ≤ s.now →
        Next .bpmAuditTimer s (bpmAudit (s.setSw (fun w => { w with auditSince := some (a + s.get .BPM_STATUS_AUDIT_S * uS) })))) ∧
      (s.now < a + s.get .BPM_STATUS_AUDIT_S * uS → Next .bpmAuditTimer s s))) ∧
  -- TX_UNDERRUN (R142, R172, R226): a frame that has begun, whose next cell is not on die, is cut and counted, with its confirmation where that is
  -- outstanding; an ECC error is reported too, and drops a frame that has not begun; one that has ended, or misses no cell, is not touched.
  (∀ (k : Nat) (ecc live : Bool) (s t : State),
    live = (s.copies.any (fun p => p.1 == k) && decide ((s.copy k).phase < 3) && decide ((s.copy k).dest < 36 ∨ (s.copy k).phase < 2)) →
    t = reportUnit 20 1 (s.copy k).queue [] s →
    (live = false → Next (.txUnderrun k ecc) s s) ∧
    (live = true → isBegun s k = false ∨ cellMissing s (s.copy k) = false → Next (.txUnderrun k false) s s) ∧
    (live = true → isBegun s k = true → cellMissing s (s.copy k) = true → Next (.txUnderrun k false) s
      (endOnWire k (countFor (s.copy k).item (if (s.copy k).dest < 32 then .HP_TX_UNDERRUN else .SWD_TX_UNDERRUN) (s.copy k).dest s))) ∧
    (live = true → isBegun s k = true → Next (.txUnderrun k true) s (endOnWire k (countFor (s.copy k).item .SWD_CELL_ECC_DROP (s.copy k).dest t))) ∧
    (live = true → isBegun s k = false → Next (.txUnderrun k true) s (dropLone k .SWD_CELL_ECC_DROP (s.copy k).dest t)))

/-- The release rule, the scheduler's events and the debit (R134, R135, R142 to R147, R254 to R261, R266, R279). -/
def Obligations.ReleaseAndScheduleEventsComplete : Prop :=
  -- CONFIRMATION (R134, R279): envelopes of a port that are confirmed in the same cycle go first where their subcarrier is lower.
  (∀ (k : Nat) (point : Fin 6) (pass : Bool) (s : State),
    (∀ n sc, point.val = 1 → (s.item k).origin = .line n sc → Next (.confirmation k point pass) s (confirmPoint k 1 pass
      ((sooner s (fun i => match i with | .confirmation j p _ => if p.val = 1 then some j else none | _ => none) (lineRank s n)
        (lineRank s n k)).foldl (fun t j => confirmPoint j 1 true t) s))) ∧
    (point.val ≠ 1 ∨ (∀ n sc, (s.item k).origin ≠ .line n sc) → Next (.confirmation k point pass) s (confirmPoint k point pass s))) ∧
  -- One result (R14, R134, R142, R145, R171, Table 5.1): copies past their deadline are taken back first. Point 1 follows from the pairs as decoded,
  -- and stays open until they are; point 3 fails by FCS or marked block, else by length; points 2, 4 and 5 have commands of their own.
  (∀ (k : Nat) (pass : Bool) (s : State),
    (∀ point, (s.item k).points.contains point = false ∨ (point ≠ 1 ∧ point ≠ 3) → confirmPoint k point pass s = s) ∧
    ((s.item k).points.contains 1 = true →
      (c1Result s (s.item k) = 0 → confirmPoint k 1 pass s = s) ∧
      (c1Result s (s.item k) = 1 → confirmPoint k 1 pass s = passC1 k (lateCopies k s)) ∧
      (∀ r, c1Result s (s.item k) = r + 2 →
        confirmPoint k 1 pass s = failItem k 1 (failCounter ((lateCopies k s).item k) 1 r) (lateCopies k s))) ∧
    (∀ t, (s.item k).points.contains 3 = true → t = lateCopies k s →
      (∀ h, c3Fault t (t.item k) pass = some h → confirmPoint k 3 pass s = failItem k 3 (failCounter (t.item k) 3 h) t) ∧
      (c3Fault t (t.item k) pass = none → confirmPoint k 3 pass s = passPoint k 3 t))) ∧
  (∀ (it : Item) (x : Nat) (pass : Bool) (s : State), it.origin = .host x →
    (it.failed ≠ none ∨ pass = false → c3Fault s it pass = some 0) ∧
    (it.failed = none → pass = true → it.bytes.length + 4 < 64 ∨ s.get .PORT_CFG_MAX_FRAME x < it.bytes.length + 4 → c3Fault s it pass = some 1) ∧
    (it.failed = none → pass = true → 64 ≤ it.bytes.length + 4 → it.bytes.length + 4 ≤ s.get .PORT_CFG_MAX_FRAME x → c3Fault s it pass = none)) ∧
  -- POLICER_COMMIT (R135, R264): commits that wait in the same cycle go first where their pipeline cluster is lower.
  (∀ (k : Nat) (s : State),
    Next (.policerCommit k) s ((sooner s (fun i => match i with | .policerCommit j => some j | _ => none) (fun j => (s.item j).cluster)
      (s.item k).cluster ++ [k]).foldl policerCommitOne s)) ∧
  -- One commit: only once every other point has passed; the same result passes, another takes the place of the provisional one, and every copy that
  -- differs from it is taken back, to be sent again in full.
  (∀ (k : Nat) (s : State),
    ((s.item k).policer = none ∨ (s.item k).points ≠ [5] → policerCommitOne s k = s) ∧
    (∀ p t r, (s.item k).policer = some p → (s.item k).points = [5] → commitPolicer k p (lateCopies k s) = (t, r) →
      ((∃ x, (t.item k).provisional = some x ∧ sameResult r x = true) ∨ droppedEarly (t.item k) = true → policerCommitOne s k = passPoint k 5 t) ∧
      ((∀ x, (t.item k).provisional = some x → sameResult r x = false) → droppedEarly (t.item k) = false →
        policerCommitOne s k = passPoint k 5 (recommit k (takeResult k r t))))) ∧
  -- RETRACT_DEADLINE (R145): a speculative copy whose item is not confirmed once its deadline has passed is retracted, counted, and waits to be sent
  -- again; any other is left alone.
  (∀ (c : Nat) (s : State),
    (pastDeadline s c = true →
      Next (.retractDeadline c) s (requeue (s.copy c).item c (retractCopy c (s.inc .SWS_RETRACT_LATE (s.copy c).dest)))) ∧
    (pastDeadline s c = false → Next (.retractDeadline c) s s)) ∧
  -- BUCKET_REFILL (R257, R258, R261): at the next whole microsecond every node and every policer refills once, and not before.
  (∀ s : State,
    (s.now < (s.sched.refilled + 1) * uUs → Next .bucketRefill s s) ∧
    ((s.sched.refilled + 1) * uUs ≤ s.now → Next .bucketRefill s
      { s with sched := { s.sched with
        nodes := (s.sched.nodes.map (fun p => (p.1, p.2.refill (s.sched.refilled + 1)))).filter (fun p => p.2 ≠ {}),
        policers := (s.sched.policers.map (fun p => (p.1, p.2.refill (s.sched.refilled + 1)))).filter (fun p => p.2 ≠ {}),
        refilled := s.sched.refilled + 1 } })) ∧
  -- SCHED_SELECT (R248, R254 to R256, R258, R259): a refill and debits of the cycle come first; the chosen queue's first frame goes to the
  -- destination's consumer; a line destination is not served here, nor one whose consumer takes nothing.
  (∀ (d : Fin 42) (s t : State), t = bucketsNow s →
    (accepts s d = false → Next (.schedSelect d) s s) ∧
    (32 ≤ d.val → d.val < 36 → Next (.schedSelect d) s s) ∧
    (accepts s d = true → ∀ (r : Option Nat × State), chosenQueue d t = r →
      (r.1 = none → Next (.schedSelect d) s r.2) ∧
      (∀ n u c, r.1 = some n → dequeue n r.2 = (u, some c) →
        (d.val < 32 → Next (.schedSelect d) s (toMac d c u)) ∧
        (32 ≤ d.val → d.val < 40 → Next (.schedSelect d) s (recirculate c u)) ∧
        (d.val = 40 → Next (.schedSelect d) s (toCores c u)) ∧
        (d.val = 41 → Next (.schedSelect d) s (toHostMemory c u))))) ∧
  -- FRAME_DEBIT (R147, R227, R257, R258, R266): a refill of the cycle comes first; a copy that has ended releases its reservation and frees its cells; a
  -- frame sent in full is counted; an item with nothing left to do is closed.
  (∀ (k : Nat) (s t : State) (c : Copy), t = refillDue s → c = t.copy k →
    ((s.copy k).phase ≠ 3 → Next (.frameDebit k) s s) ∧
    ((s.copy k).phase = 3 →
      (c.ok = true → Next (.frameDebit k) s (closeItem c.item (freeCopy k (((release c.len true c.sent c.reserved t).inc .SCHED_DEQ_FRAMES c.dest).bump
        .SCHED_DEQ_BYTES (counted c.len ((c.reserved.getLast?.map (·.2)).getD 0)) c.dest)))) ∧
      (c.ok = false → Next (.frameDebit k) s (closeItem c.item (freeCopy k (release c.len false c.sent c.reserved t))))))

/-- The cipher commands of Table 11.3 (R268, R271 to R288). -/
def Obligations.CipherCommandsComplete : Prop :=
  -- CIPH_KEY_LOAD, CIPH_KEY_DERIVE, CIPH_KEY_CLEAR (R275, R288): best effort, on slots of the caller's own page.
  (∀ (q : Req) (p : Bool) (ls : List KeyLoad) (ds : List KeyDerive) (ks : List Nat) (s : State),
    (ls.length ≤ 16 → takenUp (ciCiphKeyLoad p) q s = true →
      DoneEach (.ciphKeyLoad q p ls) (ciCiphKeyLoad p) q (ls.map (fun e => q.user * 256 + e.slot)) (keyLoadOne q p) ls s) ∧
    (ds.length ≤ 16 → takenUp (ciCiphKeyDerive p) q s = true →
      DoneEach (.ciphKeyDerive q p ds) (ciCiphKeyDerive p) q (ds.map (fun e => q.user * 256 + e.slot)) (keyDeriveOne q p) ds s) ∧
    (ks.length ≤ 64 → takenUp ciCiphKeyClear q s = true →
      DoneEach (.ciphKeyClear q ks) ciCiphKeyClear q (ks.map (fun k => q.user * 256 + k))
        (fun t k => if k < 256 then (setKeySlot q.user k {} t, stDone) else (t, stParam)) ks s)) ∧
  -- One entry of CIPH_KEY_LOAD (R288): a plain key of 32 bytes only over a PCIe ring; a wrapped one of 40 bytes is unwrapped under a WRAP slot of the page.
  (∀ (q : Req) (p : Bool) (e : KeyLoad) (s : State),
    (256 ≤ e.slot ∨ useOk e.use = false → keyLoadOne q p s e = (s, stParam)) ∧
    (e.slot < 256 → useOk e.use = true → e.wrap = none →
      ((∃ x, q.src = .inband x) ∨ q.src = .peldel → keyLoadOne q p s e = (s, stPermission)) ∧
      ((∀ x, q.src ≠ .inband x) → q.src ≠ .peldel →
        (e.bytes.length = 32 → keyLoadOne q p s e =
          (setKeySlot q.user e.slot { type := 1, persist := p, use := e.use, key := ofBytes e.bytes % 2 ^ 256 } s, stDone)) ∧
        (e.bytes.length ≠ 32 → keyLoadOne q p s e = (s, stParam)))) ∧
    (∀ (w : Nat) (t : State), e.slot < 256 → useOk e.use = true → e.wrap = some w → t = touchSlot q.user w s →
      (256 ≤ w ∨ e.bytes.length ≠ 40 → keyLoadOne q p s e = (s, stParam)) ∧
      (w < 256 → e.bytes.length = 40 →
        (∀ st, unwrap t q.user w e.bytes = .inr st → keyLoadOne q p s e = (t, st)) ∧
        (∀ key, unwrap t q.user w e.bytes = .inl key → keyLoadOne q p s e =
          (setKeySlot q.user e.slot { type := 1, persist := p, use := e.use, key := key % 2 ^ 256 } t, stDone))))) ∧
  -- Unwrapping (R268, R272, R285): a slot that may wrap, a cluster, and a key whose check word fits.
  (∀ (s : State) (page k : Nat) (blob : List Nat),
    (∀ st d, slotRefused s page k 2 = some (st, d) → unwrap s page k blob = .inr st) ∧
    (slotRefused s page k 2 = none → anyCluster s = false → unwrap s page k blob = .inr stBusy) ∧
    (∀ root, slotRefused s page k 2 = none → anyCluster s = true → slotKey s page k = some root →
      (keyUnwrap root blob = none → unwrap s page k blob = .inr stAuthFail) ∧
      (∀ key, keyUnwrap root blob = some key → unwrap s page k blob = .inl key))) ∧
  -- A slot's use (R271, R272, R285): refused without the use's bit or without a key; one under a doubtful device root says which fuse word.
  (∀ (s : State) (page k use : Nat),
    (bit (s.keySlot page k).use use = false → slotRefused s page k use = some (stPermission, 0)) ∧
    (bit (s.keySlot page k).use use = true →
      (∀ w, rootDoubtWord s = some w → isUser (s.keySlot page k) = true → slotRefused s page k use = some (stDoubtful, w)) ∧
      (rootDoubtWord s = none ∨ isUser (s.keySlot page k) = false →
        (slotKey s page k = none → slotRefused s page k use = some (stPermission, 0)) ∧
        (slotKey s page k ≠ none → slotRefused s page k use = none)))) ∧
  -- One entry of CIPH_KEY_DERIVE (R274, R275, R285): a USER label takes the caller's page; a PAGE label a LOADED slot with USE ROOT as its root.
  (∀ (q : Req) (p : Bool) (e : KeyDerive) (s : State),
    (256 ≤ e.slot ∨ useOk e.use = false ∨ e.label.length ≠ 32 ∨ (e.label.headD 0 ≠ 0x10 ∧ e.label.headD 0 ≠ 0x11) ∨ e.label.getD 1 0 ≠ 1 ∨
      256 ≤ e.rootSlot → keyDeriveOne q p s e = (s, stParam)) ∧
    (e.slot < 256 → useOk e.use = true → e.label.length = 32 → e.label.getD 1 0 = 1 → e.rootSlot < 256 →
      (e.label.headD 0 = 0x10 →
        (rootDoubtWord s ≠ none → keyDeriveOne q p s e = (s, stDoubtful)) ∧
        (rootDoubtWord s = none → keyDeriveOne q p s e = (setKeySlot q.user e.slot
          { type := 2, persist := p, use := e.use, label := e.label.set 2 q.user } s, stDone))) ∧
      (e.label.headD 0 = 0x11 →
        ((s.keySlot q.user e.rootSlot).type = 1 → bit (s.keySlot q.user e.rootSlot).use 3 = true → keyDeriveOne q p s e =
          (setKeySlot q.user e.slot { type := 2, persist := p, use := e.use, rootSlot := e.rootSlot, label := e.label } s, stDone)) ∧
        ((s.keySlot q.user e.rootSlot).type ≠ 1 ∨ bit (s.keySlot q.user e.rootSlot).use 3 = false →
          keyDeriveOne q p s e = (s, stPermission))))) ∧
  -- CIPH_TREE_SECRET (R282): clear removes the secret and its copy; a WRAP slot that page 0 does not allow refuses the command.
  (∀ (q : Req) (n wrap : Nat) (p : Bool) (blob : List Nat) (s : State), n < 4 → takenUp (ciCiphTreeSecret p) q s = true →
    Done (.ciphTreeSecret q n p true wrap blob) (ciCiphTreeSecret p) q [n] s (setSecret n none false s) ∧
    (wrap < 256 → blob.length = 40 →
      (slotRefused s 0 wrap 2 = none →
        (∀ key, unwrap (touchSlot 0 wrap s) 0 wrap blob = .inl key →
          Done (.ciphTreeSecret q n p false wrap blob) (ciCiphTreeSecret p) q [n] s (setSecret n (some (key % 2 ^ 256)) p (touchSlot 0 wrap s))) ∧
        (∀ st, unwrap (touchSlot 0 wrap s) 0 wrap blob = .inr st → Next (.ciphTreeSecret q n p false wrap blob) s
          (complete (ciCiphTreeSecret p) q [n] 0 { state := touchSlot 0 wrap s, status := st, detail := if st = stBusy then 0xFFFF else 0 }))) ∧
      (∀ st d, slotRefused s 0 wrap 2 = some (st, d) → Next (.ciphTreeSecret q n p false wrap blob) s
        (complete (ciCiphTreeSecret p) q [n] 0 { state := s, status := st, detail := d })))) ∧
  -- CIPH_LINE_KEY (R283): atomic, for one port; entries of a second port reject it at the first of them.
  (∀ (q : Req) (es : List WEntry) (n : Option Nat) (s : State), takenAtomic ciCiphLineKey q s = true →
    wErr (fun f => lineKeyFields.contains f) es = none → n = (es.head?.bind (fun e => ((fieldsAt e.off).map (·.2.1)).head?)) →
    ((∀ e ∈ es, ((fieldsAt e.off).map (·.2.1)).head? = n) → Stages (.ciphLineKey q es) ciCiphLineKey q s (.lineKey es)) ∧
    (∀ pre e post, es = pre ++ e :: post → (∀ x ∈ pre, ((fieldsAt x.off).map (·.2.1)).head? = n) → ((fieldsAt e.off).map (·.2.1)).head? ≠ n →
      Next (.ciphLineKey q es) s (reject { ciCiphLineKey with parts := [] } q stParam (16 + 24 * pre.length) s))) ∧
  -- CIPH_INBAND_KEY (R286, R320): a CMAC slot of the caller's own page; T starts at 0; a register of another page, or a slot without the use, is refused.
  (∀ (q : Req) (es : List WEntry) (s t : State) (own : Prop), takenUp ciCiphInbandKey q s = true →
    wErr (fun f => [Fld.CIPH_PAGE_INBAND_EN, .CIPH_PAGE_INBAND_SLOT].contains f) es = none → t = wApplyAll s es →
    (own ↔ ∀ e ∈ es, ∀ p ∈ fieldsAt e.off, p.2.1 = q.user) →
    (own → t.get .CIPH_PAGE_INBAND_EN q.user ≠ 1 ∨ bit (s.keySlot q.user (t.get .CIPH_PAGE_INBAND_SLOT q.user)).use 1 = true →
      Done (.ciphInbandKey q es) ciCiphInbandKey q (es.map (·.off)) s (t.set .CMD_FN_INBAND_TAG 0 q.user)) ∧
    (¬own ∨ (t.get .CIPH_PAGE_INBAND_EN q.user = 1 ∧ bit (s.keySlot q.user (t.get .CIPH_PAGE_INBAND_SLOT q.user)).use 1 = false) →
      Next (.ciphInbandKey q es) s (complete ciCiphInbandKey q (es.map (·.off)) 0 { state := s, status := stPermission }))) ∧
  -- CIPH_SEAL, CIPH_OPEN, CIPH_CMAC (R287): with an allowed slot, a cluster and allowed windows; no byte is written where the tag does not check.
  (∀ (q : Req) (slot iv src dst : Nat) (aad data : List Nat) (s t : State) (key : Nat), slot < 256 → aad.length ≤ 1024 → data.length ≤ 61440 →
    slotRefused s q.user slot 0 = none → anyCluster s = true → slotKey s q.user slot = some key →
    t = wakeCipher (leastCluster s) (touchSlot q.user slot s) →
    (windowOk t q.user src data.length false = true → windowOk t q.user dst data.length true = true →
      (takenUp ciCiphSeal q s = true → Done (.ciphSeal q slot iv src dst aad data) ciCiphSeal q [] s
        (t.emit (.hostBytes q.user dst (gcmSeal key iv data))) (words (toBytes 16 (gcmTag key iv aad data)))) ∧
      (takenUp ciCiphOpen q s = true → ∀ tag,
        (gcmTag key iv aad (gcmSeal key iv data) = tag → Done (.ciphOpen q slot iv src dst aad data tag) ciCiphOpen q [] s
          (t.emit (.hostBytes q.user dst (gcmSeal key iv data)))) ∧
        (gcmTag key iv aad (gcmSeal key iv data) ≠ tag → Next (.ciphOpen q slot iv src dst aad data tag) s
          (complete ciCiphOpen q [] 0 { state := t.inc .CIPH_HOST_OPEN_FAIL, status := stAuthFail })))) ∧
    (windowOk t q.user src data.length false = false ∨ windowOk t q.user dst data.length true = false →
      (takenUp ciCiphSeal q s = true → Next (.ciphSeal q slot iv src dst aad data) s
        (complete ciCiphSeal q [] 0 { state := t.inc .CMD_WIN_DENIED, status := stPermission })) ∧
      (takenUp ciCiphOpen q s = true → ∀ tag, Next (.ciphOpen q slot iv src dst aad data tag) s
        (complete ciCiphOpen q [] 0 { state := t.inc .CMD_WIN_DENIED, status := stPermission })))) ∧
  (∀ (q : Req) (slot src : Nat) (data : List Nat) (s t : State) (key : Nat), slot < 256 → data.length ≤ 61440 → takenUp ciCiphCmac q s = true →
    slotRefused s q.user slot 1 = none → anyCluster s = true → slotKey s q.user slot = some key →
    t = wakeCipher (leastCluster s) (touchSlot q.user slot s) →
    (windowOk t q.user src data.length false = true →
      Done (.ciphCmac q slot src data none) ciCiphCmac q [] s t (words (toBytes 16 (cmac key data))) ∧
      Done (.ciphCmac q slot src data (some (cmac key data))) ciCiphCmac q [] s t ∧
      (∀ v, v ≠ cmac key data → Next (.ciphCmac q slot src data (some v)) s
        (complete ciCiphCmac q [] 0 { state := t, status := stAuthFail }))) ∧
    (windowOk t q.user src data.length false = false → ∀ v, Next (.ciphCmac q slot src data v) s
      (complete ciCiphCmac q [] 0 { state := t.inc .CMD_WIN_DENIED, status := stPermission }))) ∧
  -- A slot that the use does not allow, or no cluster that serves, ends each of them (R268, R272, R285).
  (∀ (q : Req) (slot iv src dst tag : Nat) (aad data : List Nat) (v : Option Nat) (s : State), slot < 256 → aad.length ≤ 1024 →
    data.length ≤ 61440 → ∀ x ∈ [(Instr.ciphSeal q slot iv src dst aad data, ciCiphSeal, 0), (.ciphOpen q slot iv src dst aad data tag, ciCiphOpen, 0),
      (.ciphCmac q slot src data v, ciCiphCmac, 1)], takenUp x.2.1 q s = true →
    (∀ st d, slotRefused s q.user slot x.2.2 = some (st, d) → Next x.1 s (complete x.2.1 q [] 0 { state := s, status := st, detail := d })) ∧
    (slotRefused s q.user slot x.2.2 = none → anyCluster s = false →
      Next x.1 s (complete x.2.1 q [] 0 { state := s, status := stBusy, detail := 0xFFFF }))) ∧
  -- CIPH_CACHE_FLUSH (R276): entries that no job uses are emptied at once; each other when its job ends, FLUSHING until then.
  (∀ (q : Req) (s : State) (pinned : List CacheKey), takenUp ciCiphCacheFlush q s = true →
    pinned = s.cipher.cache.filter (fun e => s.cipher.jobs.any (fun j => j.entry == e)) →
    Done (.ciphCacheFlush q) ciCiphCacheFlush q [] s ((s.setCipher (fun c => { c with cache := pinned, flushing := pinned })).set
      .CIPH_STATUS_CACHE_FLUSHING (if pinned = [] then 0 else 1)))

/-- The events of the cipher clusters (R268, R273, R276 to R281). -/
def Obligations.CipherEventsComplete : Prop :=
  -- CIPHER_JOB_DONE (R121, R268, R277, R278): a port's oldest job, its key at hand; the tag decides point C2, and only an event message keeps its stamp.
  (∀ (k : Nat) (j : LineJob) (s t : State), s.cipher.jobs.find? (fun j => j.item == k) = some j →
    t = unpin j.entry (s.setCipher (fun c => { c with jobs := c.jobs.filter (· ≠ j) })) →
    (s.cipher.jobs.find? (fun x => x.port == j.port) ≠ some j ∨ s.cipher.deriving_.contains j.entry = true → Next (.cipherJobDone k) s s) ∧
    (s.cipher.jobs.find? (fun x => x.port == j.port) = some j → s.cipher.deriving_.contains j.entry = false →
      (hasItem t k = false → Next (.cipherJobDone k) s t) ∧
      (hasItem t k = true →
        (openEnvelope j.key (t.item k) = none → Next (.cipherJobDone k) s (failItem k 2 [(.CIPHP_RX_AUTH_FAIL, j.port, 0)] t)) ∧
        (∀ plain, openEnvelope j.key (t.item k) = some plain → Next (.cipherJobDone k) s (passPoint k 2 (t.setItem k (fun it =>
          { it with bytes := plain, rate := 0, counts := it.counts ++ [(.CIPHP_RX_OPENED, 1, j.port, 0)],
                    rxStamp := if ptpEvent plain then it.rxStamp else none }))))))) ∧
  (∀ (k : Nat) (s : State), s.cipher.jobs.find? (fun j => j.item == k) = none → Next (.cipherJobDone k) s s) ∧
  -- An envelope opens (R277): 24 bytes or more, its last 16 the tag of the plaintext under the header and the packet number.
  (∀ (key : Nat) (it : Item) (h pn a : Nat) (b : Bool) (plain : List Nat), it.enc = some (h, a, b, pn) →
    plain = gcmSeal key pn ((it.bytes.drop 8).take (it.bytes.length - 24)) →
    (24 ≤ it.bytes.length → gcmTag key pn (toBytes 8 h ++ toBytes 8 pn) plain = field it.bytes (it.bytes.length - 16) 16 →
      openEnvelope key it = some plain) ∧
    (it.bytes.length < 24 ∨ gcmTag key pn (toBytes 8 h ++ toBytes 8 pn) plain ≠ field it.bytes (it.bytes.length - 16) 16 →
      openEnvelope key it = none)) ∧
  -- KEY_DERIVATION (R273, R276): the oldest miss is filled; a full cache first loses its least recently used entry that no job uses.
  (∀ s : State,
    (s.cipher.deriving_ = [] → Next .keyDerivation s s) ∧
    (∀ e rest, s.cipher.deriving_ = e :: rest →
      (s.cipher.cache.length < 8192 → Next .keyDerivation s
        ((s.setCipher (fun x => { x with deriving_ := rest, cache := s.cipher.cache ++ [e] })).inc .CIPH_DERIVATIONS)) ∧
      (8192 ≤ s.cipher.cache.length →
        (∀ pre old post, s.cipher.cache = pre ++ old :: post → (∀ x ∈ pre, ∃ j ∈ s.cipher.jobs, j.entry = x) →
          (∀ j ∈ s.cipher.jobs, j.entry ≠ old) → Next .keyDerivation s
            ((s.setCipher (fun x => { x with deriving_ := rest, cache := pre ++ post ++ [e] })).inc .CIPH_DERIVATIONS)) ∧
        ((∀ x ∈ s.cipher.cache, ∃ j ∈ s.cipher.jobs, j.entry = x) → Next .keyDerivation s
          ((s.setCipher (fun x => { x with deriving_ := rest, cache := s.cipher.cache ++ [e] })).inc .CIPH_DERIVATIONS))))) ∧
  -- PN_RESERVE (R280, R281): not while 2^31 numbers remain; then the mark rises by 2^32 and is journalled, or the store's failure shows.
  (∀ (n : Fin 4) (ok : Bool) (status : Nat) (s : State),
    (s.get .CIPH_LINE_PN_NEXT_PN n + 2 ^ 31 ≤ s.get .CIPH_LINE_PN_MARK_MARK n → Next (.pnReserve n ok status) s s) ∧
    (∀ m, s.get .CIPH_LINE_PN_MARK_MARK n < s.get .CIPH_LINE_PN_NEXT_PN n + 2 ^ 31 → storeOpen s = true →
      m = min (s.get .CIPH_LINE_PN_MARK_MARK n + 2 ^ 32) (2 ^ 64 - 1) →
      Next (.pnReserve n true status) s ((journalAdd 2 0 [n] 40 0 (((s.set .CIPH_LINE_PN_MARK_MARK m n).set .CIPH_STATUS_PN_STORE_OK 1).setNand
        (fun x => { x with marks := Tab.put 0 x.marks n m }))).raise 0x0C06 [n, m / 2 ^ 32, m % 2 ^ 32])) ∧
    (s.get .CIPH_LINE_PN_MARK_MARK n < s.get .CIPH_LINE_PN_NEXT_PN n + 2 ^ 31 → ok = false ∨ storeOpen s = false →
      Next (.pnReserve n ok status) s ((s.set .CIPH_STATUS_PN_STORE_OK 0).raise 0x0C02 [n, status])))

/-- The core and lock commands of Table 12.5. -/
def Obligations.CoreCommandsComplete : Prop :=
  -- CORE_QUEUE_CONFIG (R300): best effort; SUBMIT_FN 32 to 62 is refused, and one that changes while the queue holds an item.
  (∀ (q : Req) (es : List WEntry) (s : State), es.length ≤ 64 → takenUp ciCoreQueueConfig q s = true →
    DoneEach (.coreQueueConfig q es) ciCoreQueueConfig q (es.map (·.off)) wqConfigOne es s) ∧
  (∀ (e : WEntry) (s : State) (fns : List (Nat × Nat × Nat)), fns = wWrites .CORE_WQ_CFG_SUBMIT_FN [e] →
    (wEntryErr (fun f => wqFields.contains f) e ≠ none ∨ (∃ w ∈ fns, 32 ≤ w.2.2 ∧ w.2.2 ≤ 62) → wqConfigOne s e = (s, stParam)) ∧
    (wEntryErr (fun f => wqFields.contains f) e = none → (∀ w ∈ fns, w.2.2 < 32 ∨ 62 < w.2.2) →
      ((∃ w ∈ fns, w.2.2 ≠ s.get .CORE_WQ_CFG_SUBMIT_FN w.1 ∧ wqBusy s w.1 = true) → wqConfigOne s e = (s, stState)) ∧
      ((∀ w ∈ fns, w.2.2 = s.get .CORE_WQ_CFG_SUBMIT_FN w.1 ∨ wqBusy s w.1 = false) → wqConfigOne s e = (wApply s e, stDone)))) ∧
  -- CORE_RING_CONFIG (R303): the caller's own rings; both rings' pointers return to 0.
  (∀ (q : Req) (sb sl rb rl irq : Nat) (s : State), 6 ≤ sl → sl ≤ 16 → 6 ≤ rl → rl ≤ 16 → irq < 2 → takenUp ciCoreRingConfig q s = true →
    Done (.coreRingConfig q sb sl rb rl irq) ciCoreRingConfig q [] s
      ((s.setWorkRing q.user (fun r => { r with subBase := sb, subLog2 := sl, resBase := rb, resLog2 := rl })).setAll
        [(.CORE_FN_SUB_TAIL, 0), (.CORE_FN_SUB_HEAD, 0), (.CORE_FN_RES_TAIL, 0), (.CORE_FN_RES_HEAD, 0), (.CORE_FN_RES_IRQ_EN, irq)] q.user)) ∧
  -- CORE_FN_CONFIG (R301) and CORE_LIMITS (R299): atomic. CORE_SERVICE_LIST (R293): the active image's services.
  (∀ (q : Req) (es : List WEntry) (s : State),
    (takenAtomic ciCoreFnConfig q s = true → wErr (fun f => [Fld.CORE_FN_FLOW_COUNT, .CORE_FN_FLOW_BASE].contains f) es = none →
      Stages (.coreFnConfig q es) ciCoreFnConfig q s (.fnFlows es)) ∧
    (takenAtomic ciCoreLimits q s = true → wErr (fun f => f == Fld.CORE_RUN_LIMIT_US_LIMIT) es = none →
      Stages (.coreLimits q es) ciCoreLimits q s (.regs es)) ∧
    (takenUp ciCoreServiceList q s = true →
      Done (.coreServiceList q) ciCoreServiceList q [] s s (formR ((serviceTable s).map (fun e => (e.1, [e.2])))))) ∧
  -- LOCK_ACQUIRE and LOCK_RELEASE (R306): by a function's command, or by a running work item or a management core (log entry 40), to which no reply
  -- goes; the command's lock is one of 1,024.
  (∀ (q : Req) (u lock waitUs : Nat) (s : State),
    (takenUp ciLockAcquire q s = true →
      (lock < 1024 → Next (.lockAcquire q (.fn u) lock waitUs) s (acquire (.fn q.user) (some q) lock waitUs s)) ∧
      (1024 ≤ lock → Next (.lockAcquire q (.fn u) lock waitUs) s (reject ciLockAcquire q stParam 24 s))) ∧
    (takenUp ciLockRelease q s = true →
      (lock < 1024 →
        ((s.lock lock).holder = some (.fn q.user) → Done (.lockRelease q (.fn u) lock) ciLockRelease q [] s (passLock lock s)) ∧
        ((s.lock lock).holder ≠ some (.fn q.user) →
          Next (.lockRelease q (.fn u) lock) s (complete ciLockRelease q [] 0 { state := s, status := stPermission }))) ∧
      (1024 ≤ lock → Next (.lockRelease q (.fn u) lock) s (reject ciLockRelease q stParam 24 s)))) ∧
  (∀ (q : Req) (o : LockOwner) (lock waitUs : Nat) (s : State) (may : Prop),
    ((∃ k, o = .item k ∧ (s.work k).phase = 1) ∨ (∃ m, o = .mgmt m ∧ m < 4) ↔ may) → (∀ u, o ≠ .fn u) →
    (lock < 1024 → may → Next (.lockAcquire q o lock waitUs) s (acquire o none lock waitUs s) ∧
      ((s.lock lock).holder = some o → Next (.lockRelease q o lock) s (passLock lock s)) ∧
      ((s.lock lock).holder ≠ some o → Next (.lockRelease q o lock) s s)) ∧
    (1024 ≤ lock ∨ ¬may → Next (.lockAcquire q o lock waitUs) s s ∧ Next (.lockRelease q o lock) s s)) ∧
  -- An acquire (R306): a free lock is granted; its holder is refused, another turned away with WAIT_US 0, or made to wait behind the others.
  (∀ (o : LockOwner) (req : Option Req) (lock waitUs : Nat) (s : State),
    ((s.lock lock).holder = none → acquire o req lock waitUs s = grantLock lock o req s) ∧
    ((s.lock lock).holder = some o → acquire o req lock waitUs s = lockReply req stState 0 s) ∧
    (∀ h, (s.lock lock).holder = some h → h ≠ o →
      acquire o req lock 0 s = lockReply req stBusy 22 s ∧
      (waitUs ≠ 0 → acquire o req lock waitUs s = lockShow lock ((s.setLock lock (fun l =>
        { l with waiters := l.waiters ++ [(⟨o, req, s.now, waitUs⟩ : LockWait)] })).inc .CORE_LOCK_WAITS))))

/-- The events of the core cluster (R293 to R307). -/
def Obligations.CoreEventsComplete : Prop :=
  -- WORK_SUB_TAIL_WRITE (R303), which may wake the device from standby (Table 15.8), and WORK_RES_HEAD_WRITE (R304).
  (∀ (u : Fin 32) (v : Nat) (s : State), Next (.workSubTailWrite u v) s (wakeBy 4 (s.set .CORE_FN_SUB_TAIL v u)) ∧
    Next (.workResHeadWrite u v) s (s.set .CORE_FN_RES_HEAD v u)) ∧
  -- SUBMISSION_READ (R293, R294, R301 to R304): one entry at SUB_HEAD is admitted, or its result names the check that failed; without a free result it
  -- waits; outside the function's windows it is not read; a ring that is stopped is left alone.
  (∀ (u : Fin 32) (e : WorkEntry) (s t : State) (stopped : Prop),
    (stopped ↔ (s.workRing u).subLog2 < 6 ∨ subWaiting s u = 0 ∨ s.get .FLT_STATUS_SAFE = 1 ∨ s.asleep = true ∨ s.get .BPM_OWNER_IN_RESET u = 1 ∨
      s.restarting 22 = true ∨ 8192 ≤ inFlight s) →
    t = (s.set .CORE_FN_SUB_HEAD ((s.get .CORE_FN_SUB_HEAD u + 1) % 2 ^ (s.workRing u).subLog2) u).setWorkRing u
      (fun r => { r with reserved := r.reserved + 1 }) →
    (stopped → Next (.submissionRead u e) s s) ∧
    (¬stopped →
      (resultFree s u = false → Next (.submissionRead u e) s (s.inc .CORE_SUB_STALL)) ∧
      (resultFree s u = true →
        (windowOk s u ((s.workRing u).subBase + s.get .CORE_FN_SUB_HEAD u * 64) 64 false = false →
          Next (.submissionRead u e) s (s.inc .CMD_WIN_DENIED)) ∧
        (windowOk s u ((s.workRing u).subBase + s.get .CORE_FN_SUB_HEAD u * 64) 64 false = true →
          (∀ st w, admitCheck u e t = some (st, w) → Next (.submissionRead u e) s (writeResult u st false (hostWork u e) w)) ∧
          (admitCheck u e t = none → Next (.submissionRead u e) s
            (admitWork (hostWork u e) (if e.bufAddr = 0 then t else bpmMoveTo e.bufAddr 103 t))))))) ∧
  -- The checks of an entry (R244, R294, Table 12.2), each where those before it pass.
  (∀ (u : Nat) (e : WorkEntry) (s : State),
    (e.version ≠ 1 ∨ e.zeros = false ∨ 1023 < e.queue → admitCheck u e s = some (stParam, s)) ∧
    (e.version = 1 → e.zeros = true → e.queue ≤ 1023 →
      (s.get .CORE_WQ_CFG_ENABLE e.queue ≠ 1 ∨ s.get .CORE_WQ_CFG_SUBMIT_FN e.queue ≠ u ∨ (e.ordered = true ∧
        (e.flow < s.get .CORE_FN_FLOW_BASE u ∨ s.get .CORE_FN_FLOW_BASE u + s.get .CORE_FN_FLOW_COUNT u ≤ e.flow)) →
        admitCheck u e s = some (stPermission, s)) ∧
      (s.get .CORE_WQ_CFG_ENABLE e.queue = 1 → s.get .CORE_WQ_CFG_SUBMIT_FN e.queue = u → (e.ordered = true →
        s.get .CORE_FN_FLOW_BASE u ≤ e.flow ∧ e.flow < s.get .CORE_FN_FLOW_BASE u + s.get .CORE_FN_FLOW_COUNT u) →
        (∀ row, e.bufAddr ≠ 0 → bpmCheck s u e.bufAddr (some 103) = .inl row →
          admitCheck u e s = some (bpmRowStatus row, bpmFail u row e.bufAddr s)) ∧
        (e.bufAddr = 0 ∨ (∃ x, bpmCheck s u e.bufAddr (some 103) = .inr x) →
          (s.get .CORE_WQ_CFG_MAX_ITEMS e.queue ≤ waitingCount s e.queue → admitCheck u e s = some (stNoSpace, s)) ∧
          (waitingCount s e.queue < s.get .CORE_WQ_CFG_MAX_ITEMS e.queue →
            ((∀ x ∈ serviceTable s, x.1 ≠ e.service) → admitCheck u e s = some (stUnknown, s)) ∧
            ((∃ x ∈ serviceTable s, x.1 = e.service) → admitCheck u e s = none)))))) ∧
  -- INTERNAL_ITEM (R193, R248, R295, R395): the oldest delivered exception, or frame of destination CORE, becomes a work item; a cluster under recovery
  -- takes none.
  (∀ s : State,
    (∀ c k rest t, s.cls.delivered = (c, k) :: rest → t = s.setCls (fun x => { x with delivered := rest }) →
      (s.restarting 22 = false → Next (.internalItem true) s (exceptionItem c k t)) ∧
      (s.restarting 22 = true → Next (.internalItem true) s (dropItem k (t.inc .FLT_RECOVERY_DISCARD)))) ∧
    (∀ sq k a len rest t, s.sw.toCore = (sq, k, a, len) :: rest → t = s.setSw (fun w => { w with toCore := rest }) →
      (s.restarting 22 = false → Next (.internalItem false) s (endDelivery k true (coreFrame sq k a len t))) ∧
      (s.restarting 22 = true → Next (.internalItem false) s (endDelivery k false (bpmFreeAt a (t.inc .FLT_RECOVERY_DISCARD))))) ∧
    (s.cls.delivered = [] → Next (.internalItem true) s s) ∧ (s.sw.toCore = [] → Next (.internalItem false) s s)) ∧
  -- CORE_DISPATCH (R297): a free core takes the first item of its next queue.
  (∀ (core : Fin 64) (s : State),
    (∀ n k rest, coreFree s core = true → nextQueue s core = some n → waitingOf s n = k :: rest → Next (.coreDispatch core) s (startOn k core s)) ∧
    (coreFree s core = false ∨ nextQueue s core = none ∨ (∃ n, nextQueue s core = some n ∧ waitingOf s n = []) → Next (.coreDispatch core) s s)) ∧
  -- PREEMPTION (R298): a victim is saved for the item at its queue's head where no listed core is free; once saved, the item takes its core.
  (∀ (k : Nat) (s t : State),
    (∀ v, savingFor s k = some v → t = saveItem v s →
      ((waitingOf t (s.work k).queue).contains k = true → Next (.preemption k) s (startOn k (s.work v).core t)) ∧
      ((waitingOf t (s.work k).queue).contains k = false → Next (.preemption k) s t)) ∧
    (savingFor s k = none →
      (∀ v, (waitingOf s (s.work k).queue).head? = some k → (∀ c, c < 64 → coreFree s c = false ∨ listsCore s (s.work k).queue c = false) →
        s.restarting 22 = false → victimOf s (s.work k).queue (s.get .CORE_WQ_CFG_PRIORITY (s.work k).queue) = some v →
        Next (.preemption k) s (beginSave v k s)) ∧
      ((waitingOf s (s.work k).queue).head? ≠ some k ∨ (∃ c, c < 64 ∧ coreFree s c = true ∧ listsCore s (s.work k).queue c = true) ∨
        s.restarting 22 = true ∨ victimOf s (s.work k).queue (s.get .CORE_WQ_CFG_PRIORITY (s.work k).queue) = none →
        Next (.preemption k) s s))) ∧
  -- ITEM_END (R302, R307): what does not run does not end; an unordered item's outputs are released at once, an ordered one's in the order of its flow,
  -- where one that is not first in it is counted as held.
  (∀ (k status outLen data : Nat) (fs : List Emitted) (s t : State),
    ((s.work k).phase ≠ 1 ∨ hasWork s k = false → Next (.itemEnd k status outLen data fs) s s) ∧
    ((s.work k).phase = 1 → hasWork s k = true →
      ∀ u, u = (ownerCeases (.item k) s).setWork k (fun w =>
        { w with phase := 3, status := status % 256, outLen := outLen % 2 ^ 32, data := data % 2 ^ 64,
                 frames := fs.map (fun f => (f.dest % 42, f.cls % 8, f.aid % 64, f.bytes)) }) →
      t = wqShow (u.work k).queue (cpuShow (s.work k).core u) →
      ((u.work k).flow = none → Next (.itemEnd k status outLen data fs) s (releaseWork k t)) ∧
      (∀ f, (u.work k).flow = some f →
        ((Tab.get [] t.core.flows f).head? = some k → Next (.itemEnd k status outLen data fs) s (flowOn (u.work k) t)) ∧
        ((Tab.get [] t.core.flows f).head? ≠ some k →
          Next (.itemEnd k status outLen data fs) s (flowOn (u.work k) (t.inc .CORE_THYME_HELD)))))) ∧
  -- ITEM_TIMEOUT (R299, R396): beyond RUN_LIMIT_US the item is lost and its core restarted at L1, which opens the window; within it nothing happens.
  (∀ (k : Nat) (s : State),
    ((s.work k).phase ≠ 1 ∨ hasWork s k = false ∨ (s.work k).ran + (s.now - (s.work k).startedAt) ≤ s.get .CORE_RUN_LIMIT_US_LIMIT * uUs →
      Next (.itemTimeout k) s s) ∧
    ((s.work k).phase = 1 → hasWork s k = true → s.get .CORE_RUN_LIMIT_US_LIMIT * uUs < (s.work k).ran + (s.now - (s.work k).startedAt) →
      Next (.itemTimeout k) s (startRecovery 22 (s.work k).core 1 (mkSource 22 (s.work k).core 4) (openWindow (loseWork k stTimeout
        ((s.inc .CORE_TIMEOUTS).raise 0x0D01 [(s.work k).core, (s.work k).queue, (s.work k).service])))))) ∧
  -- LOCK_WAIT_TIMEOUT (R306): the first waiter whose wait has run out leaves with TIMEOUT.
  (∀ (lock : Fin 1024) (s : State),
    ((∀ w ∈ (s.lock lock).waiters, s.now < w.since + w.waitUs * uUs) → Next (.lockWaitTimeout lock) s s) ∧
    (∀ pre w post, (s.lock lock).waiters = pre ++ w :: post → (∀ x ∈ pre, s.now < x.since + x.waitUs * uUs) → w.since + w.waitUs * uUs ≤ s.now →
      Next (.lockWaitTimeout lock) s (lockReply w.req stTimeout 0 (lockShow lock (s.setLock lock (fun l =>
        { l with waiters := l.waiters.filter (· ≠ w) }))))))

/-- The system commands of Table 13.6. -/
def Obligations.SystemCommandsComplete : Prop :=
  -- SYS_NOP and SYS_IDENTIFY (R332): nothing but the reply; the identification in the order Table 13.6 names it (log entry 99).
  (∀ (q : Req) (s : State),
    (takenUp ciSysNop q s = true → Done (.sysNop q) ciSysNop q [] s s) ∧
    (takenUp ciSysIdentify q s = true → Done (.sysIdentify q) ciSysIdentify q [] s s
      ([readWord s 0] ++ (List.range 4).map (fun n => s.get .LINE_TREE_SERIAL_SERIAL n) ++ [readWord s 0x10, s.mode, s.get .SYS_BOOT_KIND]))) ∧
  -- FENCE (R326): it waits under the generation in force; a function other than 0 fences its own sets only; the first bad operand rejects it.
  (∀ (q : Req) (fn set timeout : Nat) (s : State), takenUp ciFence q s = true →
    (q.user ≠ 0 → set = 0 ∨ fn ≠ q.user → Next (.fence q fn set timeout) s (reject ciFence q stPermission 0 s)) ∧
    (q.user = 0 ∨ (set ≠ 0 ∧ fn = q.user) →
      (fn < 32 → set ≤ 2 → timeout < 2 ^ 32 → (set = 0 → fn = 0) → Next (.fence q fn set timeout) s (s.setCmd (fun c =>
        { c with fences := c.fences ++ [(⟨q, set, fn, ruleGen set fn s, s.now, timeout⟩ : FenceWait)] }))) ∧
      (32 ≤ fn ∨ (set = 0 ∧ fn ≠ 0) → Next (.fence q fn set timeout) s (reject ciFence q stParam 16 s)) ∧
      (fn < 32 → 2 < set → Next (.fence q fn set timeout) s (reject ciFence q stParam 24 s)) ∧
      (fn < 32 → set ≤ 2 → (set = 0 → fn = 0) → 2 ^ 32 ≤ timeout → Next (.fence q fn set timeout) s (reject ciFence q stParam 32 s)))) ∧
  -- SYS_MODE (R385, R386): atomic; to FRUGAL only while the host ports' rates allow it.
  (∀ (q : Req) (mode : Nat) (s : State), takenAtomic ciSysMode q s = true →
    (mode ≤ 5 → mode ≠ 4 ∨ rateTotal s ≤ 8 → Stages (.sysMode q mode) ciSysMode q s (.mode mode)) ∧
    (mode = 4 → 8 < rateTotal s → Next (.sysMode q mode) s (reject { ciSysMode with parts := [] } q stState 0 s)) ∧
    (5 < mode → Next (.sysMode q mode) s (reject { ciSysMode with parts := [] } q stParam 24 s))) ∧
  -- SYS_RESTART (R355): the restart is ordered; it begins once the reply has gone out.
  (∀ (q : Req) (kind : Nat) (s : State), takenUp ciSysRestart q s = true → kind ≤ 2 →
    Next (.sysRestart q kind) s (restartReady (complete ciSysRestart q [] 0 { state := restartOrder kind s }))) ∧
  -- SYS_WINDOW_SET (R325): atomic, all eight windows of a function.
  (∀ (q : Req) (fn : Nat) (pairs : List (Nat × Nat)) (s : State), takenAtomic ciSysWindowSet q s = true → fn < 32 → pairs.length = 8 →
    windowErr pairs = none → Stages (.sysWindowSet q fn pairs) ciSysWindowSet q s (.windows fn pairs)) ∧
  -- SYS_STATE_DUMP (R467): what the windows of function 0 and CAP allow is written; a denied access answers PERMISSION.
  (∀ (q : Req) (addr cap n : Nat) (s t : State) (denied cut : Bool), takenUp ciSysStateDump q s = true → addr < 2 ^ 64 → cap < 2 ^ 64 →
    dumpSections (blocks ++ windows) addr cap s = (t, n, denied, cut) →
    Next (.sysStateDump q addr cap) s (complete ciSysStateDump q [] 0
      { state := t, status := if denied then stPermission else stDone, data := [n, b2n cut * 2 ^ 56] })) ∧
  -- SYS_CMD_HISTORY (R324): a function's last completions, its own unless the caller is the physical one.
  (∀ (q : Req) (fn : Nat) (s : State), takenUp ciSysCmdHistory q s = true → fn < 32 →
    (q.user = 0 ∨ fn = q.user → Done (.sysCmdHistory q fn) ciSysCmdHistory q [] s s
      (formR ((Tab.get ([] : List Hist) s.cmd.history fn).map (fun h =>
        (h.count, [h.tag * 2 ^ 32 + h.op * 2 ^ 16 + h.status * 2 ^ 8, h.detail * 2 ^ 48]))))) ∧
    (q.user ≠ 0 → fn ≠ q.user → Next (.sysCmdHistory q fn) s (reject ciSysCmdHistory q stPermission 0 s))) ∧
  -- SYS_PEER_CONFIG (R328): atomic. SYS_PEER_ROLE (R330): the role, with its event where it changes. SYS_INBAND_CONFIG (R319).
  (∀ (q : Req) (es : List WEntry) (s : State), takenAtomic ciSysPeerConfig q s = true → wErr (fun f => peerFields.contains f) es = none →
    Stages (.sysPeerConfig q es) ciSysPeerConfig q s (.peer es)) ∧
  (∀ (q : Req) (role : Nat) (s : State), takenUp ciSysPeerRole q s = true → role < 2 →
    (s.get .CMD_PEER_CFG_ROLE = role → Done (.sysPeerRole q role) ciSysPeerRole q [] s s) ∧
    (s.get .CMD_PEER_CFG_ROLE ≠ role →
      Done (.sysPeerRole q role) ciSysPeerRole q [] s (((s.set .CMD_PEER_CFG_ROLE role).setCmd
        (fun c => { c with rxDrain := c.rxRecords.length })).raise 0x0104 [role]))) ∧
  (∀ (q : Req) (es : List WEntry) (s : State), takenUp ciSysInbandConfig q s = true →
    wErr (fun f => f == Fld.CMD_INBAND_CLASS || f == Fld.CMD_INBAND_MAC) es = none →
    Done (.sysInbandConfig q es) ciSysInbandConfig q (es.map (·.off)) s (wApplyAll s es))

/-- The power manager's commands (Table 15.13). -/
def Obligations.PowerCommandsComplete : Prop :=
  -- PWR_STATE (R377, R379, R381): on and off are taken as requests; standby is refused unless the device is idle but for this command.
  (∀ (q : Req) (s : State), takenUp ciPwrState q s = true →
    Done (.pwrStateActive q) ciPwrState q [] s (onRequest s) ∧
    Done (.pwrStateOff q) ciPwrState q [] s (offRequest s) ∧
    (deviceIdle (ownCommand q s) s = true → Done (.pwrStateStandby q) ciPwrState q [] s (standbyRequest s)) ∧
    (deviceIdle (ownCommand q s) s = false → Next (.pwrStateStandby q) s (reject ciPwrState q stState 0 s))) ∧
  -- On (R381, R383): OFF comes up; STANDBY is left; with PFAIL_N low there, or in a power-down, it waits; an entry is abandoned as by a wake.
  (∀ (s : State) (st : Nat), st = s.get .PWR_STATE_STATE →
    (st = 0 → onRequest s = powerUp s) ∧
    (st = 4 → s.pins.pfail = true → onRequest s = leaveStandby s) ∧
    ((st = 4 ∧ s.pins.pfail = false) ∨ st = 6 → onRequest s = s.setPower (fun w => { w with request := some 0 })) ∧
    (st = 3 → onRequest s = s.setPower (fun w => { w with request := none, wokeBy := if w.wokeBy = 0 then 8 else w.wokeBy })) ∧
    (st ≠ 0 → st ≠ 3 → st ≠ 4 → st ≠ 6 → onRequest s = s.setPower (fun w => { w with request := none })) ∧
    -- Off (R381, R383): at once from ACTIVE or STANDBY, else at the next phase boundary; a power-down in progress goes on.
    (st = 2 ∨ st = 4 → s.pins.pfail = true → offRequest s = beginPowerDown s) ∧
    (st = 6 → offRequest s = s.setPower (fun w => { w with request := none })) ∧
    (st ≠ 6 → (st ≠ 2 ∧ st ≠ 4) ∨ s.pins.pfail = false → offRequest s = s.setPower (fun w => { w with request := some 2 })) ∧
    -- Standby (R380, R381, R383): from ACTIVE; where it is already, or on the way, nothing waits any more.
    (st = 2 → s.pins.pfail = true → standbyRequest s = beginStandby s) ∧
    (st = 3 ∨ st = 4 → standbyRequest s = s.setPower (fun w => { w with request := none })) ∧
    (st ≠ 3 → st ≠ 4 → st ≠ 2 ∨ s.pins.pfail = false → standbyRequest s = s.setPower (fun w => { w with request := some 1 }))) ∧
  -- PWR_IDLE_CONFIG (R377, R384): every cluster whose DOZE_EN is written 0 leaves doze; the switch and table clusters do not doze.
  (∀ (q : Req) (es : List WEntry) (s : State), takenUp ciPwrIdleConfig q s = true → wErr (fun f => idleFields.contains f) es = none →
    (dozeErr es = none → Done (.pwrIdleConfig q es) ciPwrIdleConfig q (es.map (·.off)) s
      ((wWrites .PWR_DOZE_DOZE_EN es).foldl (fun t w => if w.2.2 = 0 then t.set .PWR_DOZE_DOZING 0 w.1 else t) (wApplyAll s es))) ∧
    (∀ off, dozeErr es = some off → Next (.pwrIdleConfig q es) s (reject ciPwrIdleConfig q stParam off s))) ∧
  -- PWR_WAKE_CONFIG (R379, R382).
  (∀ (q : Req) (es : List WEntry) (s : State), takenUp ciPwrWakeConfig q s = true →
    wErr (fun f => [Fld.PWR_WAKE_AT_S, .PWR_WAKE_ENABLE, .PWR_STATE_PELDEL_OFF].contains f) es = none →
    Done (.pwrWakeConfig q es) ciPwrWakeConfig q (es.map (·.off)) s (wApplyAll s es)) ∧
  -- PWR_DVFS (R373): a point 0 to 3, or 15.
  (∀ (q : Req) (point : Nat) (s : State), takenUp ciPwrDvfs q s = true →
    (point < 4 ∨ point = 15 → Done (.pwrDvfs q point) ciPwrDvfs q [] s (applyDvfs point (s.set .PWR_DVFS_REQUEST point))) ∧
    (4 ≤ point → point ≠ 15 → Next (.pwrDvfs q point) s (reject ciPwrDvfs q stParam 24 s))) ∧
  -- PWR_TELEMETRY (R366, R369): every configured rail is read, then rails and dies are answered, a die in 0.1 degrees (an unread sensor is a free
  -- value, log entry 77).
  (∀ (q : Req) (s t : State) (rails dies : List (Nat × List Nat)), takenUp ciPwrTelemetry q s = true →
    t = (List.range 10).foldl (fun t r => railRead r t) s →
    rails = (List.range 10).map (fun r => (r, [t.get .PWR_RAIL_ADDR r * 2 ^ 48 + t.get .PWR_RAIL_TEMP r * 2 ^ 32 +
      t.get .PWR_RAIL_CURRENT r * 2 ^ 16 + t.get .PWR_RAIL_VOLTAGE r])) →
    dies = (List.range 12).map (fun k => (10 + k, [if Tab.get 0 t.power.temps k = 0 then Config.freeValue (t.fresh + k) % 2 ^ 64
      else ofSigned 64 (((Tab.get 0 t.power.temps k : Nat) : Int) - 1000)])) →
    Done (.pwrTelemetry q) ciPwrTelemetry q [] s { t with fresh := t.fresh + 12 } (formR (rails ++ dies))) ∧
  -- PWR_BUS_CONFIG (Table 15.13): refused while a DVFS transition runs.
  (∀ (q : Req) (es : List WEntry) (s : State), takenUp ciPwrBusConfig q s = true →
    wErr (fun f => [Fld.PWR_PMBUS_SETTLE_US, .PWR_PMBUS_VCORE_ADDR, .PWR_RAIL_ADDR].contains f) es = none →
    (s.get .PWR_DVFS_TRANSITION ≠ 1 → Done (.pwrBusConfig q es) ciPwrBusConfig q (es.map (·.off)) s (wApplyAll s es)) ∧
    (s.get .PWR_DVFS_TRANSITION = 1 → Next (.pwrBusConfig q es) s (reject ciPwrBusConfig q stState 0 s)))

/-- The power manager's events: supplies, resets, DVFS, clocks (R364, R367 to R374, R383, R388, R404, R432, R435, R436). -/
def Obligations.SupplyAndClockEventsComplete : Prop :=
  -- POWER_GOOD (R435): with MAIN_EN high a device in reset begins its boot, any other only shows its pins; without, or held by the test port, nothing happens.
  (∀ s t : State, t = pinsShow { s with pins := { s.pins with pwrGood := true, sysReset := true } } →
    (s.pins.mainEn = false ∨ s.test.tapHold = true → Next .powerGood s s) ∧
    (s.pins.mainEn = true → s.test.tapHold = false →
      (t.get .SYS_BOOT_PHASE ≠ 0 → Next .powerGood s t) ∧
      (t.get .SYS_BOOT_PHASE = 0 → Next .powerGood s (bootBegin (t.setPower (fun w => { w with mainSince := 0 })))))) ∧
  -- RAIL_TIMEOUT (R368): 100 ms after MAIN_EN rose without PWR_GOOD, and not before.
  (∀ s : State,
    (∀ a, s.power.mainSince = a + 1 → s.pins.mainEn = true → a + 100 * uMs ≤ s.now →
      Next .railTimeout s ((reachOff (({ s with pins := { s.pins with mainEn := false } }.emit (.rail 0 false)).setPower
        (fun w => { w with railLatched := true, request := none }))).inc .PWR_RAIL_TIMEOUT)) ∧
    (s.power.mainSince = 0 ∨ s.pins.mainEn = false ∨ s.now < s.power.mainSince - 1 + 100 * uMs → Next .railTimeout s s)) ∧
  -- PWR_GOOD_FALL (R368, R388): shown; with MAIN_EN high outside reset it is reported, unit 10 of participant 31.
  (∀ s t : State, t = pinsShow { s with pins := { s.pins with pwrGood := false } } →
    (s.pins.pwrGood = false → Next .pwrGoodFall s s) ∧
    (s.pins.pwrGood = true →
      (t.pins.mainEn = true → t.pins.sysReset = true → t.get .SYS_BOOT_PHASE ≠ 0 → Next .pwrGoodFall s (resumeNext (report (mkSource 31 10 7) 0 [] t))) ∧
      (t.pins.mainEn = false ∨ t.pins.sysReset = false ∨ t.get .SYS_BOOT_PHASE = 0 → Next .pwrGoodFall s t))) ∧
  -- VAON_APPLY (R367, R382, R436): the always-on domain starts afresh; the straps are sampled; MAIN_EN rises.
  (∀ (straps : Fin 8) (mfg : Bool) (s : State), Next (.vaonApply straps mfg) s
    (powerUp ((deviceReset (({ s with pins := { s.pins with straps := straps, mfgTest := mfg, pwrGood := false } }).setPower
      (fun w => { w with restart := 0, railLatched := false }))).set .PWR_STATE_PELDEL_OFF 1))) ∧
  -- SYS_RESET_ASSERT (R435; log entry 115): no effect in OFF, or from D4 on, but the pin's level; else the device goes into reset.
  (∀ s t : State, t = { s with pins := { s.pins with sysReset := false } } →
    (s.get .PWR_STATE_STATE = 0 ∨ (s.get .PWR_STATE_STATE = 6 ∧ 7 ≤ s.get .PWR_STATE_PHASE) → Next .sysResetAssert s t) ∧
    (s.get .PWR_STATE_STATE ≠ 0 → s.get .PWR_STATE_STATE ≠ 6 ∨ s.get .PWR_STATE_PHASE < 7 → Next .sysResetAssert s
      ((deviceReset (t.setPower (fun w => { w with restart := 0 }))).setPower (fun w => { w with mainSince := min s.power.mainSince 1 })))) ∧
  -- PFAIL_ASSERT (R364, R404): the pin shows; with PFAIL_N low already, in OFF or with the store shut, nothing more; else PFAIL is recorded, what is not yet
  -- on the store is programmed, an erase in progress is aborted by RESET, and the store holds.
  (∀ s t u v : State, t = pinsShow { s with pins := { s.pins with pfail := false } } → u = recordAll t →
    v = journalClose (tailFlush (u.raise 0x0E08 [u.get .EVT_STATUS_BUFFERED])) →
    (s.pins.pfail = false ∨ t.get .PWR_STATE_STATE = 0 ∨ storeOpen t = false → Next .pfailAssert s t) ∧
    (s.pins.pfail = true → t.get .PWR_STATE_STATE ≠ 0 → storeOpen t = true → Next .pfailAssert s
      (((erasing v).foldl (fun x o => x.emit (.nand o.dev 3 (o.page / 64) o.page [])) v).set .STORE_STATUS_PFAIL_HOLD 1))) ∧
  -- PFAIL_RELEASE (R364, R383): a held store resumes and erases again what RESET aborted; a pending transition begins.
  (∀ s t u : State, t = pinsShow { s with pins := { s.pins with pfail := true } } → u = t.set .STORE_STATUS_PFAIL_HOLD 0 →
    (storeHeld t = false → Next .pfailRelease s (takeRequest t)) ∧
    (storeHeld t = true → Next .pfailRelease s
      (takeRequest (evtStart 16 ((erasing u).foldl (fun x o => x.emit (.nand o.dev 2 (o.page / 64) o.page [])) u))))) ∧
  -- DVFS_LOAD_WINDOW (R373): only automatic DVFS in ACTIVE outside FRUGAL and outside a transition. A load above 90 % of the running point raises at
  -- once to the lowest point of which it is at most 80 %; else, 10 ms after the last window, it lowers to that point.
  (∀ (load : Nat) (s t : State) (target : Nat) (may : Prop), target = ([3, 2, 1, 0].find? (fun p => decide (5 * load ≤ 4 * pointCapacity p))).getD 0 →
    (may ↔ s.get .PWR_DVFS_REQUEST = 15 ∧ s.mode ≠ 4 ∧ s.get .PWR_DVFS_TRANSITION ≠ 1 ∧ s.get .PWR_STATE_STATE = 2) →
    t = s.setPower (fun w => { w with loadAt := s.now }) →
    (¬may → Next (.dvfsLoadWindow load) s s) ∧
    (may → 9 * pointCapacity (s.get .PWR_DVFS_POINT) < 10 * load →
      (target < s.get .PWR_DVFS_POINT → Next (.dvfsLoadWindow load) s (startDvfs target s)) ∧
      (s.get .PWR_DVFS_POINT ≤ target → Next (.dvfsLoadWindow load) s s)) ∧
    (may → 10 * load ≤ 9 * pointCapacity (s.get .PWR_DVFS_POINT) →
      (s.now < s.power.loadAt + 10 * uMs → Next (.dvfsLoadWindow load) s s) ∧
      (s.power.loadAt + 10 * uMs ≤ s.now →
        (s.get .PWR_DVFS_POINT < target → Next (.dvfsLoadWindow load) s (startDvfs target t)) ∧
        (target ≤ s.get .PWR_DVFS_POINT → Next (.dvfsLoadWindow load) s t)))) ∧
  -- VOUT_POLL (R371): the reading shows; in an unconfirmed raise, 50 µs after the last poll, it counts: within 10 mV of the target with STATUS_WORD 0, it
  -- confirms.
  (∀ (mv status target : Nat) (s t u : State) (polls near : Prop), t = s.set .PWR_RAIL_VOLTAGE mv 0 → target = pointMv (s.get .PWR_DVFS_TARGET) →
    (polls ↔ s.get .PWR_DVFS_TRANSITION = 1 ∧ s.get .PWR_PMBUS_BUS_OK = 1 ∧ s.power.confirmedAt = 0 ∧ s.power.pollAt + 50 * uUs ≤ s.now) →
    (near ↔ target ≤ mv + 10 ∧ mv ≤ target + 10) → u = pmbusSend (s.get .PWR_PMBUS_VCORE_ADDR) 0x8B 0 t →
    (¬polls → Next (.voutPoll mv status) s t) ∧
    (polls → ¬near → Next (.voutPoll mv status) s (u.setPower (fun w => { w with pollAt := s.now, lastMv := mv, confirmedAt := 0 }))) ∧
    (polls → near → Next (.voutPoll mv status) s ((pmbusSend (s.get .PWR_PMBUS_VCORE_ADDR) 0x79 0 u).setPower (fun w =>
      { w with pollAt := s.now, lastMv := mv, confirmedAt := if status = 0 then s.now + 1 else 0 })))) ∧
  -- DVFS_SETTLE_DONE and DVFS_FAIL (R369, R371, R372): SETTLE_US after its confirmation, and without a throttle, a raise switches CCLK; with the bus out it
  -- ends as it stands. A raise not confirmed within 1 ms fails, and the running point's voltage is commanded.
  (∀ s : State, Next .dvfsSettleDone s (finishRaise s) ∧
    (s.get .PWR_DVFS_TRANSITION ≠ 1 → finishRaise s = s) ∧
    (s.get .PWR_DVFS_TRANSITION = 1 → s.get .PWR_PMBUS_BUS_OK ≠ 1 → finishRaise s = endTransition s) ∧
    (s.get .PWR_DVFS_TRANSITION = 1 → s.get .PWR_PMBUS_BUS_OK = 1 →
      (∀ c, s.power.confirmedAt = c + 1 → c + s.get .PWR_PMBUS_SETTLE_US * uUs ≤ s.now → s.get .PWR_DVFS_THROTTLED ≠ 1 →
        finishRaise s = endTransition (switchPoint (s.get .PWR_DVFS_TARGET) s)) ∧
      (s.power.confirmedAt = 0 ∨ s.now < s.power.confirmedAt - 1 + s.get .PWR_PMBUS_SETTLE_US * uUs ∨ s.get .PWR_DVFS_THROTTLED = 1 →
        finishRaise s = s)) ∧
    (s.get .PWR_DVFS_TRANSITION = 1 → s.power.confirmedAt = 0 → s.power.raiseAt + uMs ≤ s.now → Next .dvfsFail s
      (endTransition (voutCommand (s.get .PWR_DVFS_POINT) (s.raise 0x0204 [s.get .PWR_DVFS_TARGET, s.power.lastMv])))) ∧
    (s.get .PWR_DVFS_TRANSITION ≠ 1 ∨ s.power.confirmedAt ≠ 0 ∨ s.now < s.power.raiseAt + uMs → Next .dvfsFail s s)) ∧
  -- VCORE_DROOP and THROTTLE_END (R372): below the floor of the running point CCLK falls to the highest point whose floor is met, else F3; a further droop
  -- can only lower it and starts the 100 µs again, after which it ends.
  (∀ (mv p : Nat) (s : State), p = (([0, 1, 2].find? (fun p => decide (floorMv p ≤ mv))).getD 3) →
    (floorMv (s.get .PWR_DVFS_POINT) ≤ mv → Next (.vcoreDroop mv) s s) ∧
    (mv < floorMv (s.get .PWR_DVFS_POINT) →
      (s.get .PWR_DVFS_THROTTLED ≠ 1 → Next (.vcoreDroop mv) s
        ((((s.set .PWR_DVFS_THROTTLED 1).setPower (fun w => { w with throttlePoint := p, throttleAt := s.now })).inc .PWR_THROTTLES).raise 0x0205 [mv, p])) ∧
      (s.get .PWR_DVFS_THROTTLED = 1 → Next (.vcoreDroop mv) s
        ((s.set .PWR_DVFS_THROTTLED 1).setPower (fun w => { w with throttlePoint := max p w.throttlePoint, throttleAt := s.now }))))) ∧
  (∀ s : State, (s.get .PWR_DVFS_THROTTLED = 1 → s.power.throttleAt + 100 * uUs ≤ s.now → Next .throttleEnd s
      (finishRaise ((s.set .PWR_DVFS_THROTTLED 0).setPower (fun w => { w with throttlePoint := 0 })))) ∧
    (s.get .PWR_DVFS_THROTTLED ≠ 1 ∨ s.now < s.power.throttleAt + 100 * uUs → Next .throttleEnd s s)) ∧
  -- PMBUS_FAULT (R369) and PMB_ALERT (R432): STATUS_WORD is read of every configured regulator while the bus is in order.
  (∀ (addr code : Nat) (s : State), Next (.pmbusFault addr code) s ((s.set .PWR_PMBUS_BUS_OK 0).raise 0x0206 [addr, code])) ∧
  (∀ s : State, (s.get .PWR_PMBUS_BUS_OK ≠ 1 → Next .pmbAlert s s) ∧
    (s.get .PWR_PMBUS_BUS_OK = 1 → Next .pmbAlert s ((s.get .PWR_PMBUS_VCORE_ADDR :: ((List.range 9).map (fun r =>
      s.get .PWR_RAIL_ADDR (r + 1))).filter (· ≠ 0)).foldl (fun t a => pmbusSend a 0x79 0 t) s))) ∧
  -- CLOCK_LOSS (R102, R374, R388): the clock's bit falls, the loss is raised and reported as participant 31; MCLK, domain 3, is Bay's cause 3 on each port.
  (∀ (d : Fin 9) (inst : Fin 4) (i : Nat) (s t u : State), i = (if d.val = 2 ∨ d.val = 4 ∨ d.val = 5 then inst.val else 0) →
    t = ((clkShow d i false s).raise 0x0208 [d.val, i]).setPower (fun w =>
      { w with lost := if w.lost.contains (d.val * 4 + i) then w.lost else w.lost ++ [d.val * 4 + i] }) →
    u = (if d.val = 3 then (List.range 4).foldl (fun x n => bayTripOn n 3 (bayPresent n 3 true (x.start (.mclkBack n)))) t else t) →
    Next (.clockLoss d inst) s (resumeNext (report (mkSource 31 (16 + 4 * d.val + i) 6) 0 [] u)))

/-- Power states, doze and the drain point (R141, R377 to R385). -/
def Obligations.PowerStateEventsComplete : Prop :=
  -- IDLE_TIMER_EXPIRY (R377, R383): the timers are brought up to date; STANDBY is entered where timer, mode, pin and device allow it.
  (∀ (s t : State) (may : Prop), t = refreshIdle s →
    (may ↔ t.get .PWR_STATE_STATE = 2 ∧ t.get .PWR_IDLE_IDLE_EN = 1 ∧ bit (t.get .PWR_IDLE_STANDBY_MODES) t.mode = true ∧ t.mode ≠ 5 ∧
      t.pins.pfail = true ∧ t.power.idleSince ≠ 0 ∧ t.power.idleSince - 1 + t.get .PWR_IDLE_DEVICE_MS * uMs ≤ t.now) →
    (may → Next .idleTimerExpiry s (beginStandby t)) ∧ (¬may → Next .idleTimerExpiry s t)) ∧
  -- STANDBY_PHASE_END (R379 to R381, R383): while PFAIL_N is high, in STANDBY's entry or its undoing; else nothing happens.
  (∀ (s : State) (st ph : Nat), st = s.get .PWR_STATE_STATE → ph = s.get .PWR_STATE_PHASE →
    (s.pins.pfail = false ∨ ph = 0 ∨ 3 < ph ∨ (st ≠ 3 ∧ st ≠ 5) → Next .standbyPhaseEnd s s) ∧
    (s.pins.pfail = true → 0 < ph → ph ≤ 3 → st = 3 ∨ st = 5 → s.power.request = some 2 → Next .standbyPhaseEnd s (beginPowerDown s)) ∧
    -- S1 to S3 in turn; a wake, or a device that is idle no more, abandons the entry.
    (s.pins.pfail = true → st = 3 → s.power.request ≠ some 2 →
      (ph = 2 → storeQuiet s = false → Next .standbyPhaseEnd s s) ∧
      (ph = 1 ∨ (ph = 2 ∧ storeQuiet s = true) ∨ ph = 3 → s.power.wokeBy ≠ 0 → Next .standbyPhaseEnd s (abandonStandby ph 0 s)) ∧
      (s.power.wokeBy = 0 →
        (ph = 1 → deviceIdle 1 s = true → Next .standbyPhaseEnd s (journalClose (s.set .PWR_STATE_PHASE 2))) ∧
        (ph = 1 → deviceIdle 1 s = false → Next .standbyPhaseEnd s (abandonStandby 1 1 s)) ∧
        (ph = 2 → storeQuiet s = true → Next .standbyPhaseEnd s (lowerForStandby (gateClusters (s.set .PWR_STATE_PHASE 3)))) ∧
        (ph = 3 → Next .standbyPhaseEnd s (takeRequest (setPowerState 4 0 (s.inc .PWR_STANDBY_ENTRIES)))))) ∧
    -- S3 to S1 undone; at the end of the last the ports resume.
    (s.pins.pfail = true → st = 5 → s.power.request ≠ some 2 →
      (ph = 3 → Next .standbyPhaseEnd s ((ungateClusters s).set .PWR_STATE_PHASE 2)) ∧
      (ph = 2 → Next .standbyPhaseEnd s (s.set .PWR_STATE_PHASE 1)) ∧
      (ph = 1 → Next .standbyPhaseEnd s (takeRequest (portsResume (setPowerState 2 0 (s.setPower (fun w => { w with back := false })))))))) ∧
  -- WAKE (R379, R380, R383, Table 15.8; log entry 134): an enabled source leaves STANDBY, or is remembered during an entry or a power-down of it; source 6
  -- only once its time has come.
  (∀ (src : Fin 7) (s t : State) (on : Prop) (st : Nat), st = s.get .PWR_STATE_STATE → t = (s.set .PWR_STATE_LAST_WAKE src).raise 0x0203 [src.val] →
    (on ↔ bit (s.get .PWR_WAKE_ENABLE) src = true ∧ (src.val = 6 → s.get .PWR_WAKE_AT_S ≤ serviceTime s / uS)) →
    (¬on ∨ (st ≠ 2 ∧ st ≠ 3 ∧ st ≠ 4) ∨ (st = 4 ∧ s.power.request = some 0) → Next (.wake src) s s) ∧
    (on → st = 2 → Next (.wake src) s (s.setPower (fun w => { w with wokeAt := s.now + 1 }))) ∧
    (on → st = 3 → Next (.wake src) s (s.setPower (fun w => { w with wokeBy := if w.wokeBy = 0 then src.val + 1 else w.wokeBy }))) ∧
    (on → st = 4 → s.power.request ≠ some 0 →
      (s.pins.pfail = true → Next (.wake src) s (leaveStandby t)) ∧
      (s.pins.pfail = false → Next (.wake src) s (t.setPower (fun w => { w with request := some 0 }))))) ∧
  -- An entry begins, unless a wake came in the same cycle (R380; log entry 134).
  (∀ s t : State, t = s.setPower (fun w => { w with request := none, back := false, wokeBy := 0 }) →
    (s.power.wokeAt = s.now + 1 → beginStandby s = t) ∧ (s.power.wokeAt ≠ s.now + 1 → beginStandby s = setPowerState 3 1 t)) ∧
  -- POWERDOWN_PHASE_END (R381, R383, Table 15.9): in a power-down or its undoing; PFAIL_N low holds D1 to D3.
  (∀ (s : State) (st ph : Nat), st = s.get .PWR_STATE_STATE → ph = s.get .PWR_STATE_PHASE →
    (ph < 4 ∨ (s.pins.pfail = false ∧ ph < 7) ∨ (st ≠ 5 ∧ st ≠ 6) → Next .powerdownPhaseEnd s s) ∧
    -- D1 to D5 in turn; an on request turns back from D1 to D3; MAIN_EN falls at the end of D3.
    (st = 6 → 4 ≤ ph → s.pins.pfail = true ∨ 7 ≤ ph →
      (ph = 5 → storeQuiet s = false → Next .powerdownPhaseEnd s s) ∧
      (ph = 4 ∨ (ph = 5 ∧ storeQuiet s = true) ∨ ph = 6 → s.power.request = some 0 →
        Next .powerdownPhaseEnd s (setPowerState 5 ph (s.setPower (fun w => { w with request := none, back := true })))) ∧
      (s.power.request ≠ some 0 →
        (ph = 4 → Next .powerdownPhaseEnd s (powerDownD2 (s.set .PWR_STATE_PHASE 5))) ∧
        (ph = 5 → storeQuiet s = true → Next .powerdownPhaseEnd s (gateClusters (s.set .PWR_STATE_PHASE 6))) ∧
        (ph = 6 → Next .powerdownPhaseEnd s (({ s with pins := { s.pins with mainEn := false } }.emit (.rail 0 false)).set .PWR_STATE_PHASE 7))) ∧
      (ph = 7 → Next .powerdownPhaseEnd s (s.set .PWR_STATE_PHASE 8)) ∧
      (8 ≤ ph → Next .powerdownPhaseEnd s (reachOff s))) ∧
    -- D3 to D1 undone: the pipelines' banks are loaded again, and at the end of the last the terminals and host ports come back.
    (∀ t, st = 5 → 4 ≤ ph → s.pins.pfail = true ∨ 7 ≤ ph →
      t = (if ph = 6 then ungateClusters (s.setCls (fun c => { c with loading := (List.range 8).map (fun p => (p, 1)) })) else s) →
      (s.power.request = some 2 → Next .powerdownPhaseEnd s (beginPowerDown s)) ∧
      (s.power.request ≠ some 2 →
        (ph = 4 → Next .powerdownPhaseEnd s (takeRequest (powerBack (setPowerState 2 0 (s.setPower (fun w => { w with back := false })))))) ∧
        (ph ≠ 4 → Next .powerdownPhaseEnd s (t.set .PWR_STATE_PHASE (ph - 1)))))) ∧
  -- CLUSTER_DOZE_ENTRY and CLUSTER_DOZE_WAKE (R384): a cluster dozes once idle for TIMER_US; arriving work wins; the cores' registers follow.
  (∀ (c : Fin 23) (w : Bool) (s t u : State) (due : Prop), t = refreshIdle s → u = (t.set .PWR_DOZE_DOZING 1 c).inc .PWR_DOZE_ENTRIES →
    (due ↔ t.get .PWR_STATE_STATE = 2 ∧ t.get .PWR_DOZE_DOZE_EN c = 1 ∧ t.get .PWR_DOZE_DOZING c ≠ 1 ∧ Tab.get 0 t.power.clusterIdle c ≠ 0 ∧
      Tab.get 0 t.power.clusterIdle c - 1 + t.get .PWR_DOZE_TIMER_US c * uUs ≤ t.now) →
    (¬due → Next (.clusterDozeEntry c w) s t) ∧
    (due → (w = true → Next (.clusterDozeEntry c w) s (t.inc .PWR_DOZE_ABANDONED)) ∧
      (w = false → Next (.clusterDozeEntry c w) s (if c.val = 22 then cpuShowAll u else u)))) ∧
  (∀ (c : Fin 23) (s : State), (s.get .PWR_DOZE_DOZING c = 1 → c.val ≠ 22 → Next (.clusterDozeWake c) s (s.set .PWR_DOZE_DOZING 0 c)) ∧
    (s.get .PWR_DOZE_DOZING c = 1 → c.val = 22 → Next (.clusterDozeWake c) s (cpuShowAll (s.set .PWR_DOZE_DOZING 0 c))) ∧
    (s.get .PWR_DOZE_DOZING c ≠ 1 → Next (.clusterDozeWake c) s s)) ∧
  -- DRAIN_POINT (R141, R373, R385): at the drain point the mode and its behaviour are in force; what began before ends under the old one; FRUGAL gates
  -- clusters and fixes the DVFS point, and leaving it powers and loads them.
  (∀ s : State, (s.get .PWR_MODE_CHANGING ≠ 1 ∨ s.power.newMode = 0 ∨ drained s = false → Next .drainPoint s s) ∧
    (∀ m t u v, s.get .PWR_MODE_CHANGING = 1 → s.power.newMode = m + 1 → drained s = true →
      t = refreshDraining ((markOld (s.setAll [(.PWR_MODE_CHANGING, 0), (.PWR_MODE_CURRENT, m), (.SW_RELEASE_BEHAVIOUR, modeBehaviour m)])).setPower
        (fun w => { w with newMode := 0 })) →
      u = (if m = 4 ∨ s.mode = 4 then dvfsSetting (t.set .CIPH_STATUS_CLUSTERS_ON (modeClusters m)) else t) →
      v = (if m ≠ 4 ∧ s.mode = 4 then u.setCls (fun c => { c with loading := [4, 5, 6, 7].foldl (fun t p => Tab.put 0 t p 1) c.loading }) else u) →
      Next .drainPoint s (v.raise 0x0107 [m, s.mode, 0])))

/-- The store's commands (Table 13.6). While PFAIL_N holds the store, one that passes its checks returns RETRY_BUSY (R364). -/
def Obligations.StoreCommandsComplete : Prop :=
  -- STORE_IMAGE_WRITE (R360, R362): a chunk of a download goes into the slot that is not BOOT_SLOT, and the pages it fills are programmed; the first one
  -- ends a fallback, the one that reaches LENGTH the download.
  (∀ (q : Req) (offset : Nat) (data : List Nat) (s u t : State) (slot len upto : Nat), takenUp ciStoreImageWrite q s = true → slot = downSlot s →
    len = chunkLength offset data s → upto = min (offset + data.length) len →
    u = (if offset = 0 ∧ (anchorNow s).fallback = true then anchorWrite (fun a => { a with fallback := false }) [] s else s) →
    t = ((u.setNand (fun n => { n with images := Tab.put [] n.images slot (((if offset = 0 then [] else slotBytes u slot) ++ data).take len) })).setStore
      (fun x => { x with length := len })).setAll
        [(.STORE_DOWNLOAD_BYTES, upto), (.STORE_ANCHOR_VERIFIED, 0), (.STORE_ANCHOR_DOWNLOADING, if upto < len then 1 else 0)] →
    (storeOpen s = false ∨ (anchorNow s).trial = true → Next (.storeImageWrite q offset data) s (reject ciStoreImageWrite q stState 0 s)) ∧
    (storeOpen s = true → (anchorNow s).trial = false →
      (∀ off, chunkErr offset data s = some off → Next (.storeImageWrite q offset data) s (reject ciStoreImageWrite q stParam off s)) ∧
      (chunkErr offset data s = none →
        (storeHeld s = true → Next (.storeImageWrite q offset data) s
          (complete ciStoreImageWrite q [] 0 { state := s, status := stBusy, detail := 25 })) ∧
        (storeHeld s = false → journalStopped s = true → Next (.storeImageWrite q offset data) s
          (complete ciStoreImageWrite q [] 0 { state := s, status := stNoSpace })) ∧
        (storeHeld s = false → journalStopped s = false → Done (.storeImageWrite q offset data) ciStoreImageWrite q [] s
          (programSlot slot (offset / 4096) ((if len ≤ upto then ceilDiv upto 4096 else upto / 4096) - offset / 4096) t))))) ∧
  -- Which chunks fit (R360): from OFFSET 0 or where the last one ended; a multiple of 512 bytes but for the last, which may carry 7 bytes of padding.
  (∀ (offset : Nat) (data : List Nat) (s : State) (len : Nat), len = (if offset = 0 then imageLength data else s.store.length) →
    (chunkErr offset data s = none ↔
      (offset = 0 ∨ (s.get .STORE_ANCHOR_DOWNLOADING = 1 ∧ offset = s.get .STORE_DOWNLOAD_BYTES)) ∧ 1 ≤ data.length ∧ data.length ≤ 61440 ∧
      (∀ b ∈ data, b < 256) ∧ offset + data.length < len + 8 ∧ offset + data.length ≤ 67108864 ∧ (len ≤ offset + data.length ∨ data.length % 512 = 0))) ∧
  -- STORE_IMAGE_VERIFY (R359, R360): VERIFIED is set with the version in the reply, or the image is refused.
  (∀ (q : Req) (s t : State) (img : List Nat) (may : Prop), takenUp ciStoreImageVerify q s = true → img = slotBytes s (downSlot s) →
    t = pagesRead (ceilDiv img.length 4096) s →
    (may ↔ storeOpen s = true ∧ s.get .STORE_ANCHOR_DOWNLOADING ≠ 1 ∧ slotComplete img = true) →
    (¬may → Next (.storeImageVerify q) s (reject ciStoreImageVerify q stState 0 s)) ∧
    (may → storeHeld s = true → Next (.storeImageVerify q) s (complete ciStoreImageVerify q [] 0 { state := s, status := stBusy, detail := 25 })) ∧
    (may → storeHeld s = false →
      (∀ w, signerLost s = some w → Next (.storeImageVerify q) s
        (complete ciStoreImageVerify q [] 0 { state := s, status := stDoubtful, detail := w })) ∧
      (signerLost s = none →
        (imageOk img t = true → Done (.storeImageVerify q) ciStoreImageVerify q [] s (t.set .STORE_ANCHOR_VERIFIED 1) [field img 16 8]) ∧
        (imageOk img t = false → Next (.storeImageVerify q) s (complete ciStoreImageVerify q [] 0 { state := t, status := stAuthFail }))))) ∧
  -- STORE_IMAGE_ACTIVATE (R360; VERIFIED then falls, log entry 81): the slot becomes BOOT_SLOT on trial, with a fallback.
  (∀ (q : Req) (s : State) (slot seq : Nat) (may : Prop), takenUp ciStoreImageActivate q s = true → slot = downSlot s → seq = (anchorNow s).seq + 1 →
    (may ↔ storeOpen s = true ∧ s.get .STORE_ANCHOR_VERIFIED = 1 ∧ (anchorNow s).trial = false) →
    (¬may → Next (.storeImageActivate q) s (reject ciStoreImageActivate q stState 0 s)) ∧
    (may → storeHeld s = true → Next (.storeImageActivate q) s
      (complete ciStoreImageActivate q [] 0 { state := s, status := stBusy, detail := 25 })) ∧
    (may → storeHeld s = false → Done (.storeImageActivate q) ciStoreImageActivate q [] s
      ((anchorWrite (fun a => { a with bootSlot := slot, trial := true, trialCount := 0, fallback := true,
                                       versions := a.versions.set slot (field (slotBytes s slot) 16 8) })
        [⟨0x0301, [slot, seq % 2 ^ 32], []⟩] s).setAll [(.STORE_ANCHOR_VERIFIED, 0), (.STORE_DOWNLOAD_BYTES, 0)]) [seq])) ∧
  -- STORE_IMAGE_CONFIRM (R360): only while a trial image runs.
  (∀ (q : Req) (s : State) (may : Prop), takenUp ciStoreImageConfirm q s = true →
    (may ↔ storeOpen s = true ∧ s.inRescue = false ∧ (anchorNow s).trial = true ∧ (anchorNow s).bootSlot = s.get .SYS_BOOT_SLOT) →
    (¬may → Next (.storeImageConfirm q) s (reject ciStoreImageConfirm q stState 0 s)) ∧
    (may → storeHeld s = true → Next (.storeImageConfirm q) s
      (complete ciStoreImageConfirm q [] 0 { state := s, status := stBusy, detail := 25 })) ∧
    (may → storeHeld s = false → Done (.storeImageConfirm q) ciStoreImageConfirm q [] s (blowVersion (s.get .SYS_ID_SEC_VERSION)
      (anchorWrite (fun a => { a with trial := false }) [⟨0x0302, [(anchorNow s).bootSlot], []⟩] s)))) ∧
  -- STORE_INFO (R342, R349; the reply's layout, log entry 82) and STORE_SCRUB (R347).
  (∀ (q : Req) (s : State), takenUp ciStoreInfo q s = true →
    (storeHeld s = false → Done (.storeInfo q) ciStoreInfo q [] s s
      (formR ((storeAreas s).zipIdx.map (fun p => (p.2, [p.1.1 * 2 ^ 32 + p.1.2])) ++ (List.range (storeDevs s)).map (fun d => (7 + d, [storeBlocks s])) ++
        s.store.nand.retired.map (fun k => (2 ^ 32 + k, [1])) ++ s.store.nand.erases.map (fun p => (2 ^ 33 + p.1, [p.2]))))) ∧
    (storeHeld s = true → Next (.storeInfo q) s (complete ciStoreInfo q [] 0 { state := s, status := stBusy, detail := 25 }))) ∧
  (∀ (q : Req) (s : State), takenUp ciStoreScrub q s = true →
    (storeOpen s = false → Next (.storeScrub q) s (reject ciStoreScrub q stState 0 s)) ∧
    (storeOpen s = true →
      (storeHeld s = true → Next (.storeScrub q) s (complete ciStoreScrub q [] 0 { state := s, status := stBusy, detail := 25 })) ∧
      (storeHeld s = false → Done (.storeScrub q) ciStoreScrub q [] s ((s.setStore (fun x => { x with scrubLeft := dataBlocks s })).set
        .STORE_STATUS_SCRUBBING (b2n (decide (dataBlocks s ≠ 0)))) [dataBlocks s]))) ∧
  -- STORE_FORMAT (R285, R350): the devices named must be those present, and hold enough blocks.
  (∀ (q : Req) (mask : Nat) (s : State), takenUp ciStoreFormat q s = true →
    (storeDevs s * storeBlocks s < 4096 ∨ s.get .STORE_STATUS_BLOCKS = 0 → Next (.storeFormat q mask) s (reject ciStoreFormat q stState 0 s)) ∧
    (4096 ≤ storeDevs s * storeBlocks s → s.get .STORE_STATUS_BLOCKS ≠ 0 →
      (mask ≠ s.get .STORE_STATUS_PRESENT → Next (.storeFormat q mask) s (reject ciStoreFormat q stParam 24 s)) ∧
      (mask = s.get .STORE_STATUS_PRESENT →
        (storeHeld s = true → Next (.storeFormat q mask) s (complete ciStoreFormat q [] 0 { state := s, status := stBusy, detail := 25 })) ∧
        (storeHeld s = false →
          (∀ w, rootDoubtWord s = some w → Next (.storeFormat q mask) s
            (complete ciStoreFormat q [] 0 { state := s, status := stDoubtful, detail := w })) ∧
          (rootDoubtWord s = none → Done (.storeFormat q mask) ciStoreFormat q [] s (formatStore s)))))) ∧
  -- The raw commands (R285, R346, R350): the operation begins and the reply waits for it; a protected block is neither programmed nor erased.
  (∀ (q : Req) (dev page : Nat) (s : State), takenUp ciStorePageRead q s = true →
    (4 ≤ dev ∨ bit (s.get .STORE_STATUS_PRESENT) dev = false → Next (.storePageRead q dev page) s (reject ciStorePageRead q stParam 24 s)) ∧
    (dev < 4 → bit (s.get .STORE_STATUS_PRESENT) dev = true →
      (s.get .STORE_STATUS_BLOCKS * 64 ≤ page → Next (.storePageRead q dev page) s (reject ciStorePageRead q stParam 32 s)) ∧
      (page < s.get .STORE_STATUS_BLOCKS * 64 →
        (storeHeld s = true → Next (.storePageRead q dev page) s (reject ciStorePageRead q stBusy 25 s)) ∧
        (storeHeld s = false → Next (.storePageRead q dev page) s (startOp ⟨.rawRead q, dev, page⟩ 0 s))))) ∧
  (∀ (q : Req) (dev page : Nat) (data : List Nat) (s : State), takenUp ciStorePageProgram q s = true →
    (keptBlock s dev (page / 64) = true → Next (.storePageProgram q dev page data) s (reject ciStorePageProgram q stState 0 s)) ∧
    (keptBlock s dev (page / 64) = false →
      (4 ≤ dev ∨ bit (s.get .STORE_STATUS_PRESENT) dev = false → Next (.storePageProgram q dev page data) s (reject ciStorePageProgram q stParam 24 s)) ∧
      (dev < 4 → bit (s.get .STORE_STATUS_PRESENT) dev = true →
        (s.get .STORE_STATUS_BLOCKS * 64 ≤ page → Next (.storePageProgram q dev page data) s (reject ciStorePageProgram q stParam 32 s)) ∧
        (page < s.get .STORE_STATUS_BLOCKS * 64 →
          (data.length ≠ 4352 ∨ (∃ b ∈ data, 256 ≤ b) → Next (.storePageProgram q dev page data) s (reject ciStorePageProgram q stParam 40 s)) ∧
          (data.length = 4352 → (∀ b ∈ data, b < 256) →
            (storeHeld s = true → Next (.storePageProgram q dev page data) s (reject ciStorePageProgram q stBusy 25 s)) ∧
            (storeHeld s = false →
              (∀ w, rootDoubtWord s = some w → Next (.storePageProgram q dev page data) s (reject ciStorePageProgram q stDoubtful w s)) ∧
              (rootDoubtWord s = none → Next (.storePageProgram q dev page data) s (startOp ⟨.rawProgram q data, dev, page⟩ 1 s)))))))) ∧
  (∀ (q : Req) (dev block : Nat) (s : State), takenUp ciStoreBlockErase q s = true →
    (keptBlock s dev block = true → Next (.storeBlockErase q dev block) s (reject ciStoreBlockErase q stState 0 s)) ∧
    (keptBlock s dev block = false →
      (4 ≤ dev ∨ bit (s.get .STORE_STATUS_PRESENT) dev = false → Next (.storeBlockErase q dev block) s (reject ciStoreBlockErase q stParam 24 s)) ∧
      (dev < 4 → bit (s.get .STORE_STATUS_PRESENT) dev = true →
        (s.get .STORE_STATUS_BLOCKS ≤ block → Next (.storeBlockErase q dev block) s (reject ciStoreBlockErase q stParam 32 s)) ∧
        (block < s.get .STORE_STATUS_BLOCKS →
          (storeHeld s = true → Next (.storeBlockErase q dev block) s (reject ciStoreBlockErase q stBusy 25 s)) ∧
          (storeHeld s = false →
            (∀ w, rootDoubtWord s = some w → Next (.storeBlockErase q dev block) s (reject ciStoreBlockErase q stDoubtful w s)) ∧
            (rootDoubtWord s = none → Next (.storeBlockErase q dev block) s (startOp ⟨.rawErase q, dev, block * 64⟩ 2 s)))))))

/-- The boot's steps, the fuses and what happens in the external store (R336 to R338, R345 to R349, R353, R356, Table 14.7). -/
def Obligations.BootAndStoreEventsComplete : Prop :=
  -- BOOT_PHASE (R356, R358, R381): each step in its turn; in RESCUE, and after step 10, the boot is over; an off request powers down after the step.
  (∀ (b : BootIn) (s : State),
    (s.get .SYS_BOOT_PHASE = 0 ∨ 11 ≤ s.get .SYS_BOOT_PHASE ∨ s.pins.sysReset = false → Next (.bootPhase b) s s) ∧
    (0 < s.get .SYS_BOOT_PHASE → s.get .SYS_BOOT_PHASE ≤ 10 → s.pins.sysReset = true → s.inRescue = true ∨ s.get .SYS_BOOT_PHASE = 10 →
      Next (.bootPhase b) s (bootDone s)) ∧
    (s.pins.sysReset = true → s.inRescue = false → ∀ x ∈ [(1, bootFuses b s), (2, bootStore b s), (3, bootAnchor s), (4, bootTrial s), (5, bootImage s),
      (6, recorderStart (s.set .SYS_BOOT_PHASE 7)), (7, bootJournal s), (8, bootPower s), (9, bootSettings s)],
      s.get .SYS_BOOT_PHASE = x.1 → ∀ t, t = x.2.set .SYS_BOOT_PHASE (x.1 + 1) →
      (t.power.request = some 2 → t.pins.pfail = true → Next (.bootPhase b) s (beginPowerDown t)) ∧
      (t.power.request ≠ some 2 ∨ t.pins.pfail = false → Next (.bootPhase b) s t))) ∧
  -- FUSE_REREAD (R285, R336, R338): a band crossing after the boot's reads shows the new band; words newly in doubt are marked and raised; the first KEY
  -- word among them puts the root key in doubt, which is raised once.
  (∀ (temp : Int) (doubt new : List Nat) (nb : Nat) (s u : State) (crosses : Prop), nb = bandAfter (s.get .SYS_FUSE_STATUS_BAND) temp →
    (crosses ↔ nb ≠ s.get .SYS_FUSE_STATUS_BAND ∧ s.get .SYS_FUSE_STATUS_DONE = 1) →
    new = doubt.filter (fun w => decide (w < 512) && !(bit ((s.set .SYS_FUSE_STATUS_BAND nb).get .SYS_FUSE_DOUBT_WORDS (w / 64)) (w % 64))) →
    u = new.foldl (fun t w => (markDoubt w t).raise 0x0106 [w, 1]) (s.set .SYS_FUSE_STATUS_BAND nb) →
    (¬crosses → Next (.fuseReread temp doubt) s s) ∧
    (crosses →
      ((∀ w ∈ new, fuseClass w ≠ 2) ∨ u.get .CIPH_STATUS_ROOT_STATE ≠ 1 → Next (.fuseReread temp doubt) s u) ∧
      (∀ pre w post v, new = pre ++ w :: post → (∀ x ∈ pre, fuseClass x ≠ 2) → fuseClass w = 2 → u.get .CIPH_STATUS_ROOT_STATE = 1 →
        v = u.set .CIPH_STATUS_ROOT_STATE 3 →
        (v.cipher.rootDoubtSaid = true → Next (.fuseReread temp doubt) s v) ∧
        (v.cipher.rootDoubtSaid = false → Next (.fuseReread temp doubt) s
          ((v.setCipher (fun c => { c with rootDoubtSaid := true })).raise 0x0C04 [w]))))) ∧
  -- NAND_OPERATION_DONE (R346, R348, R350): the raw command that waited is answered; a page that was not erased is refused, a block that fails retired
  -- (its reply's status is a free value, log entry 87); an erase waits while PFAIL_N holds the store. A program of the store's own goes on (`programDone`).
  (∀ (k : Nat) (o : NandOp) (e : NandEnd) (q : Req) (s t : State), s.store.ops[k]? = some o →
    t = s.setStore (fun x => { x with ops := x.ops.eraseIdx k }) →
    (o.task = .rawErase q →
      (storeHeld s = true → Next (.nandOperationDone k e) s s) ∧
      (storeHeld s = false → e.ok = true → Next (.nandOperationDone k e) s
        (restartReady (complete ciStoreBlockErase q [] 0 { state := rawErased o.dev (o.page / 64) t }))) ∧
      (storeHeld s = false → e.ok = false → Next (.nandOperationDone k e) s
        (restartReady (rawFailed ciStoreBlockErase q (retireBlock o.dev (o.page / 64) 1 t))))) ∧
    (∀ l, o.task = .rawRead q → Tab.get [] t.store.nand.raw (o.dev * 524288 + o.page) = l →
      (l ≠ [] → Next (.nandOperationDone k e) s
        (restartReady (complete ciStorePageRead q [] 0 { state := t.inc .STORE_PAGES_READ, data := words l }))) ∧
      (l = [] → Next (.nandOperationDone k e) s (restartReady (complete ciStorePageRead q [] 0
        { state := t.inc .STORE_PAGES_READ, data := words ((e.data ++ List.replicate 4352 255).take 4352) })))) ∧
    (∀ data, o.task = .rawProgram q data →
      (pageErased e = false → Next (.nandOperationDone k e) s
        (restartReady (complete ciStorePageProgram q [] 0 { state := t.inc .STORE_PROG_REFUSED, status := stNotErased }))) ∧
      (pageErased e = true → e.ok = false → Next (.nandOperationDone k e) s
        (restartReady (rawFailed ciStorePageProgram q (retireBlock o.dev (o.page / 64) 0 t)))) ∧
      (pageErased e = true → e.ok = true → Next (.nandOperationDone k e) s
        (restartReady (complete ciStorePageProgram q [] 0 { state := (t.inc .STORE_PAGES_PROGRAMMED).setNand (fun n =>
          { n with raw := Tab.put [] n.raw (o.dev * 524288 + o.page) data }) })))) ∧
    ((∀ x data, o.task ≠ .rawErase x ∧ o.task ≠ .rawRead x ∧ o.task ≠ .rawProgram x data) →
      Next (.nandOperationDone k e) s (restartReady (programDone o e t)))) ∧
  (∀ (k : Nat) (e : NandEnd) (s : State), s.store.ops[k]? = none → Next (.nandOperationDone k e) s s) ∧
  -- A program of the store's own (R345 to R348): refused on a page that is not erased, it is done again, an image's with its block; done again elsewhere
  -- where the block fails; else it counts and has its effect.
  (∀ (o : NandOp) (e : NandEnd) (s t : State) (n : Nat), t = (s.inc .STORE_PROG_REFUSED).raise 0x0307 [o.dev, o.page] →
    n = (match o.task with | .anchor _ _ => anchorPages s | .journal recs => journalPages recs | _ => 1) →
    (pageErased e = false →
      (∀ slot, o.task = .image slot → programDone o e s = taskAgain o (logicalOf s o.dev (o.page / 64)) (refreshBlock o.dev (o.page / 64) t)) ∧
      ((∀ slot, o.task ≠ .image slot) → programDone o e s = taskAgain o (logicalOf s o.dev (o.page / 64)) t)) ∧
    (pageErased e = true → e.ok = false →
      programDone o e s = taskAgain o (logicalOf s o.dev (o.page / 64)) (retireBlock o.dev (o.page / 64) 0 s)) ∧
    (pageErased e = true → e.ok = true →
      programDone o e s = taskDone o.task (levelWear o.dev ((s.bump .STORE_PAGES_PROGRAMMED n).bump .CIPH_XTS_UNITS n)))) ∧
  -- JOURNAL_PAGE_TIMER (R353): 5 ms after its first record the page being filled is programmed, outside the safe state.
  (∀ s : State, (s.get .FLT_STATUS_SAFE ≠ 1 → s.expired .journalPage (5 * uMs) = true → Next .journalPageTimer s (journalClose s)) ∧
    (s.get .FLT_STATUS_SAFE = 1 ∨ s.expired .journalPage (5 * uMs) = false → Next .journalPageTimer s s)) ∧
  -- PATROL_READ (R347, R421): a page of the open store is read, with the bits of an injection flipped in this read alone; what an uncorrectable page holds is
  -- lost; the last page of a block ends it for a scrub. Outside the store, held, or in the safe state none is read.
  (∀ (dev page : Nat) (e : NandEnd) (s u v w : State) (hit : Bool), inject 3 dev s = (hit, u) →
    v = pageRead dev page { e with flips := (e.flips.headD 0 + if hit then u.get .TEST_INJECT_BITS 3 else 0) :: e.flips.drop 1 } u →
    w = (match pageUncorr e, logicalOf u dev (page / 64) with
      | true, some b => pageLost ((b * 64 + page % 64) * max 1 (storeDevs v) + dev) v
      | _, _ => v) →
    (storeOpen s = false ∨ storeHeld s = true ∨ s.get .FLT_STATUS_SAFE = 1 ∨ storeDevs s ≤ dev ∨ storeBlocks s * 64 ≤ page →
      Next (.patrolRead dev page e) s s) ∧
    (storeOpen s = true → storeHeld s = false → s.get .FLT_STATUS_SAFE ≠ 1 → dev < storeDevs s → page < storeBlocks s * 64 →
      (page % 64 ≠ 63 ∨ w.store.scrubLeft = 0 → Next (.patrolRead dev page e) s w) ∧
      (∀ n, page % 64 = 63 → w.store.scrubLeft = n + 1 → Next (.patrolRead dev page e) s
        ((w.setStore (fun x => { x with scrubLeft := n })).set .STORE_STATUS_SCRUBBING (if n = 0 then 0 else 1)))))

/-- The recovery controller's and the event recorder's commands (Table 16.8). -/
def Obligations.FaultCommandsComplete : Prop :=
  -- EVT_READ (R364, R407, R409): the records kept from a number on, as many as fit; notification is armed again. How many pages were read is free.
  (∀ (q : Req) (fromSeq m : Nat) (s u : State) (l : List EvtRec), takenUp ciEvtRead q s = true → fromSeq < 2 ^ 64 → u = recordAll s →
    l = recordsFit (replyRoom q u - 8) ((recordsFrom fromSeq u).take m) →
    (1 ≤ m → m ≤ 2048 →
      (storeHeld s = true → Next (.evtRead q fromSeq m) s (complete ciEvtRead q [] 0 { state := s, status := stBusy, detail := 25 })) ∧
      (storeHeld s = false → Done (.evtRead q fromSeq m) ciEvtRead q [] s
        (((pagesRead u.free u).took).setEvt (fun e => { e with sinceRead := 0, firstAt := 0, notified := false }))
        (formR (l.map (fun r => (r.seq, words (recBytes r))))))) ∧
    (m = 0 ∨ 2048 < m → Next (.evtRead q fromSeq m) s (reject ciEvtRead q stParam 32 s))) ∧
  -- EVT_HOST_RECORD (R407): a record with HOST 1; where none is made, NO_SPACE; a code of another range is refused.
  (∀ (q : Req) (code : Nat) (ws tail : List Nat) (s t : State), takenUp ciEvtHostRecord q s = true → t = evtMake 1 ⟨code, ws, tail⟩ (recordAll s) →
    (0x0E80 ≤ code → code ≤ 0x0EFF → ws.length = 4 → (∀ w ∈ ws, w < 2 ^ 32) → tail.length ≤ 224 → (∀ b ∈ tail, b < 256) →
      (t.ctr .FLT_EVT_RECORDS ≠ (recordAll s).ctr .FLT_EVT_RECORDS →
        Done (.evtHostRecord q code ws tail) ciEvtHostRecord q [] s t [t.get .EVT_NEXT_SEQ_SEQ - 1]) ∧
      (t.ctr .FLT_EVT_RECORDS = (recordAll s).ctr .FLT_EVT_RECORDS →
        Next (.evtHostRecord q code ws tail) s (complete ciEvtHostRecord q [] 0 { state := t, status := stNoSpace }))) ∧
    (code < 0x0E80 ∨ 0x0EFF < code → Next (.evtHostRecord q code ws tail) s (reject ciEvtHostRecord q stParam 24 s))) ∧
  -- EVT_FLUSH (R364, R404): nothing unflushed, it is done at once; else the tail pages are programmed and the reply waits for them.
  (∀ (q : Req) (s u : State), takenUp ciEvtFlush q s = true → u = recordAll s →
    (storeHeld u = true → Next (.evtFlush q) s (reject ciEvtFlush q stBusy 25 u)) ∧
    (storeHeld u = false →
      (unflushed u = [] ∨ u.get .EVT_STATUS_RUNNING ≠ 1 → Done (.evtFlush q) ciEvtFlush q [] s u) ∧
      (unflushed u ≠ [] → u.get .EVT_STATUS_RUNNING = 1 →
        Next (.evtFlush q) s ((tailFlush u).setEvt (fun e => { e with flushing := e.flushing ++ [q] }))))) ∧
  -- FLT_REPORT_READ (R392, R393): up to MAX entries from the head are read and removed.
  (∀ (q : Req) (m : Nat) (s : State), takenUp ciFltReportRead q s = true →
    (1 ≤ m → m ≤ 256 →
      (s.fault.queue ≠ [] → Done (.fltReportRead q m) ciFltReportRead q [] s
        (queueShow (s.setFault (fun f => { f with queue := f.queue.drop m, full := false, fullAt := none })))
        (formR ((s.fault.queue.take m).zipIdx.map (fun p => (p.2, reportWords p.1))))) ∧
      (s.fault.queue = [] → Done (.fltReportRead q m) ciFltReportRead q [] s s (formR []))) ∧
    (m = 0 ∨ 256 < m → Next (.fltReportRead q m) s (reject ciFltReportRead q stParam 24 s))) ∧
  -- FLT_RECOVER RESUME (R400): in L3, with no condition that persists; outside L3 refused; a second one waits. Whether a lost clock is back is a free
  -- value (log entry 70).
  (∀ (q : Req) (s t : State), takenUp ciFltRecover q s = true → t = clocksBack s →
    (t.fault.resume = none → t.get .FLT_STATUS_SAFE = 1 → conditionPersists t = false → Next (.fltRecoverResume q) s (resumeStart q t)) ∧
    (t.fault.resume = none → t.get .FLT_STATUS_SAFE ≠ 1 ∨ conditionPersists t = true →
      Next (.fltRecoverResume q) s (reject ciFltRecover q stState 0 t)) ∧
    (t.fault.resume ≠ none → Next (.fltRecoverResume q) s (t.setFault (fun f => { f with clusterWait := f.clusterWait ++ [(q, 255)] })))) ∧
  (∀ s : State, (s.power.lost = [] → clocksBack s = s) ∧
    (s.power.lost ≠ [] → (s.free % 2 = 1 → clocksBack s = clkBack s.took.power.lost s.took) ∧ (s.free % 2 ≠ 1 → clocksBack s = s.took))) ∧
  -- FLT_RECOVER WARM and COLD (R400): as SYS_RESTART 1 and 0.
  (∀ (q : Req) (s : State), takenUp ciFltRecover q s = true →
    Next (.fltRecoverWarm q) s (restartReady (complete ciFltRecover q [] 0 { state := restartOrder 1 s })) ∧
    Next (.fltRecoverCold q) s (restartReady (complete ciFltRecover q [] 0 { state := restartOrder 0 s }))) ∧
  -- FLT_RECOVER CLUSTER (R400): outside L3, an L2 of the participant's cluster; a running one absorbs the command; in L3 refused.
  (∀ (q : Req) (part : Nat) (s t : State), takenUp ciFltRecover q s = true →
    t = s.setFault (fun f => { f with clusterWait := f.clusterWait ++ [(q, part)] }) →
    (s.get .FLT_STATUS_SAFE = 1 → Next (.fltRecoverCluster q part) s (reject ciFltRecover q stState 0 s)) ∧
    (s.get .FLT_STATUS_SAFE ≠ 1 →
      (26 < part → Next (.fltRecoverCluster q part) s (reject ciFltRecover q stParam 16 s)) ∧
      (part ≤ 26 →
        (recoveryOf t (clusterOf part) = none → Next (.fltRecoverCluster q part) s (startRecovery part 0 2 (mkSource part 0 0) t)) ∧
        (∀ r, recoveryOf t (clusterOf part) = some r →
          (r.level = 2 → Next (.fltRecoverCluster q part) s t) ∧
          (r.level ≠ 2 → Next (.fltRecoverCluster q part) s (startRecovery part r.unit 2 r.source (escalate (clusterOf part) 1 2 0 t))))))) ∧
  -- FLT_CONFIG (R389): a level below its type's default is refused.
  (∀ (q : Req) (es : List WEntry) (s : State), takenUp ciFltConfig q s = true → wErr (fun f => fltFields.contains f) es = none →
    (levelErr es s = none → Done (.fltConfig q es) ciFltConfig q (es.map (·.off)) s (wApplyAll s es)) ∧
    (∀ k, levelErr es s = some k → Next (.fltConfig q es) s (reject ciFltConfig q stParam k s)))

/-- The events of the recovery controller and the event recorder (R388 to R409). -/
def Obligations.FaultEventsComplete : Prop :=
  -- ERROR_REPORT (R388 to R397).
  (∀ (source : Fin 65536) (detail : Nat) (captured : List Nat) (s : State),
    Next (.errorReport source detail captured) s (resumeNext (report source detail captured s))) ∧
  -- RECOVERY_END and RECOVERY_TIMEOUT (R394): an L1 of 10 µs becomes an L2, an L2 of 5 ms an L3, once; not before, and nothing without a recovery. In L3 with
  -- no resume an L2 only outlives its limit (log entry 71).
  (∀ (part : Fin 27) (s : State), recoveryOf s (clusterOf part) = none → Next (.recoveryEnd part) s s ∧ Next (.recoveryTimeout part) s s) ∧
  (∀ (part : Fin 27) (r : Recovery) (s : State), recoveryOf s (clusterOf part) = some r →
    Next (.recoveryEnd part) s (resumeNext (endRecovery r s)) ∧
    (r.level = 1 →
      (r.since + 10 * uUs ≤ s.now → Next (.recoveryTimeout part) s (startRecovery r.part r.unit 2 r.source (escalate (clusterOf part) 1 2 2 s))) ∧
      (s.now < r.since + 10 * uUs → Next (.recoveryTimeout part) s s)) ∧
    (r.level ≠ 1 →
      (r.late = true ∨ s.now < r.since + 5 * uMs → Next (.recoveryTimeout part) s s) ∧
      (∀ t, r.late = false → r.since + 5 * uMs ≤ s.now →
        t = s.setFault (fun f =>
          { f with running := f.running.map (fun x => if x = r then { x with late := true } else x),
                   owed := if f.owed.any (fun x => srcPart x == r.part) then f.owed else f.owed ++ [mkSource r.part r.unit (srcType r.source)] }) →
        (t.get .FLT_STATUS_SAFE ≠ 1 ∨ t.fault.resume ≠ none →
          Next (.recoveryTimeout part) s (resumeNext (enterL3 r.source (escalate (clusterOf part) 2 3 2 t)))) ∧
        (t.get .FLT_STATUS_SAFE = 1 → t.fault.resume = none → Next (.recoveryTimeout part) s t)))) ∧
  -- FAULT_WINDOW_CLOSE (R396): WINDOW_MS after the last recovery's end, with none running.
  (∀ s : State,
    (s.get .FLT_STATUS_WINDOW_OPEN = 1 → s.fault.running = [] → s.fault.lastEnd + s.get .FLT_CFG_WINDOW_MS * uMs ≤ s.now →
      Next .faultWindowClose s (s.setAll [(.FLT_STATUS_WINDOW_OPEN, 0), (.FLT_STATUS_WINDOW_FAULTS, 0)])) ∧
    (s.get .FLT_STATUS_WINDOW_OPEN ≠ 1 ∨ s.fault.running ≠ [] ∨ s.now < s.fault.lastEnd + s.get .FLT_CFG_WINDOW_MS * uMs →
      Next .faultWindowClose s s)) ∧
  -- TEMP_WARN (R390): at the threshold the event is raised once, and armed again when every sensor has fallen 5 degrees below it; a reading that passes
  -- 130 degrees is a THERMAL fault of its sensor.
  (∀ (k : Fin 12) (reading limit : Int) (s t u : State), t = { s with power := { s.power with temps := Tab.put 0 s.power.temps k (reading + 1000).toNat } } →
    limit = ((t.get .FLT_CFG_TEMP_WARN * 10 : Nat) : Int) →
    u = (if limit ≤ reading ∧ t.fault.hot = false then (t.setFault (fun f => { f with hot := true })).raise 0x0E0B [k.val, ofSigned 32 reading]
      else if ∀ p ∈ t.power.temps, (p.2 : Int) - 1000 ≤ limit - 50 then t.setFault (fun f => { f with hot := false }) else t) →
    (1300 < reading → Tab.get 0 s.power.temps k ≤ 2300 → Next (.tempWarn k reading) s (resumeNext (report (mkSource 31 (52 + k.val) 8) 0 [] u))) ∧
    (reading ≤ 1300 ∨ 2300 < Tab.get 0 s.power.temps k → Next (.tempWarn k reading) s u)) ∧
  -- LF_HOLD_END (R398): each port whose Local Fault has been sent for LF_HOLD_MS is disabled.
  (∀ s : State, Next .lfHoldEnd s ((List.range 32).foldl (fun t x =>
    if (t.hp x).lfSince ≠ 0 ∧ (t.hp x).lfSince - 1 + t.get .FLT_CFG_LF_HOLD_MS * uMs ≤ t.now then toDisabled x 4 true t else t) s)) ∧
  -- EVENT_RECORD (R402, R403): the oldest raised event is recorded; before step 7 of a boot it is held.
  (∀ s : State, (evtHolding s = true ∨ s.raised = [] → Next .eventRecord s s) ∧
    (∀ e rest, evtHolding s = false → s.raised = e :: rest → Next .eventRecord s (evtMake 0 e { s with raised := rest }))) ∧
  -- EVENTS_LOST (R403): once the buffer has room, one record tells how many were dropped.
  (∀ s : State, (s.evt.dropped = 0 ∨ s.get .EVT_STATUS_RUNNING ≠ 1 ∨ evtRoom 32 s = false → Next .eventsLost s s) ∧
    (s.evt.dropped ≠ 0 → s.get .EVT_STATUS_RUNNING = 1 → evtRoom 32 s = true →
      Next .eventsLost s (evtPut 0 ⟨0x0E09, [s.evt.dropped], []⟩ (s.setEvt (fun e => { e with dropped := 0 }))))) ∧
  -- EVT_NOTIFY (R409): vector 2 once, when COUNT records or US microseconds have come.
  (∀ (s : State) (due : Prop), (due ↔ s.get .EVT_NOTIFY_COUNT ≤ s.evt.sinceRead ∨
      (s.evt.firstAt ≠ 0 ∧ s.evt.firstAt - 1 + s.get .EVT_NOTIFY_US * uUs ≤ s.now)) →
    (s.evt.notified = true ∨ ¬due → Next .evtNotify s s) ∧
    (s.evt.notified = false → due →
      (s.get .EVT_NOTIFY_IRQ_EN = 1 → Next .evtNotify s ((s.setEvt (fun e => { e with notified := true })).msix 0 2)) ∧
      (s.get .EVT_NOTIFY_IRQ_EN ≠ 1 → Next .evtNotify s (s.setEvt (fun e => { e with notified := true })))))

/-- The test block (R412 to R424). -/
def Obligations.TestBlockCompletes : Prop :=
  -- TEST_LOOPBACK (R413, R416): at rest and with its twin off; a line loop trips Bay; removal puts the condition away.
  (∀ (q : Req) (point inst on : Nat) (s : State), point ≤ 5 → inst < (if point ≤ 1 then 4 else 32) → on < 2 → takenUp (ciTestLoopback point inst) q s = true →
    (on = 1 → loopRest point inst s = false ∨ loopBit (loopOther point) inst s = true →
      Next (.testLoopback q point inst on) s (reject (ciTestLoopback point inst) q stState 0 s)) ∧
    (on = 0 ∨ (loopRest point inst s = true ∧ loopBit (loopOther point) inst s = false) →
      (point ≤ 1 → on = 1 → Done (.testLoopback q point inst on) (ciTestLoopback point inst) q [] s
        (bayTripOn inst 0 (bayPresent inst 0 true (s.set (loopField point) (withBit (s.get (loopField point)) inst true))))) ∧
      (point ≤ 1 → on = 0 → Done (.testLoopback q point inst on) (ciTestLoopback point inst) q [] s
        (bayPresent inst 0 false (s.set (loopField point) (withBit (s.get (loopField point)) inst false)))) ∧
      (2 ≤ point → Done (.testLoopback q point inst on) (ciTestLoopback point inst) q [] s
        (s.set (loopField point) (withBit (s.get (loopField point) (inst / 8)) (inst % 8) (on == 1)) (inst / 8))))) ∧
  -- TEST_GEN (R417; log entry 110): the registers take their values; a generator that starts begins with SEQ 1 and a full bucket.
  (∀ (q : Req) (es : List WEntry) (s : State), takenUp ciTestGen q s = true → wErr (fun f => genFields.contains f) es = none →
    (lenErr es s = none → Done (.testGen q es) ciTestGen q [] s ((List.range 8).foldl (fun t g =>
      if t.get .TEST_GEN_RUN g = 1 ∧ s.get .TEST_GEN_RUN g ≠ 1 then
        { t with test := { t.test with gens := Tab.put {} t.test.gens g ⟨1, t.get .TEST_GEN_LEN_MAX g * 65536, t.now / uUs⟩ } }
      else t) (wApplyAll s es))) ∧
    (∀ off, lenErr es s = some off → Next (.testGen q es) s (reject ciTestGen q stParam off s))) ∧
  -- TEST_CHECK (R418, R419; log entry 111): RUN 1 sets the checker's counts to 0; the reply carries those before.
  (∀ (q : Req) (es : List WEntry) (s : State), takenUp ciTestCheck q s = true →
    wErr (fun f => [Fld.TEST_CHK_RUN, .TEST_CHK_SLOT, .TEST_CHK_POINT, .TEST_CHK_GEN, .TEST_CHK_ETYPE].contains f) es = none →
    Done (.testCheck q es) ciTestCheck q [] s
      (((wWrites .TEST_CHK_RUN es).filter (fun w => w.2.2 == 1)).foldl (fun t w =>
        { (chkCounts.foldl (fun t f => t.set f 0 w.1) t) with test := { (chkCounts.foldl (fun t f => t.set f 0 w.1) t).test with
            expect := Tab.put 0 (chkCounts.foldl (fun t f => t.set f 0 w.1) t).test.expect w.1 0 } }) (wApplyAll s es))
      (formR ((wInstances es).map (fun c => (c, chkCounts.map (fun f => s.get f c)))))) ∧
  -- TEST_PERTURB (R420, R423): on, the feature takes its parameters and ends by itself where it has a DURATION_MS, without which none is taken outside
  -- MAINTENANCE; off, it ends.
  (∀ (q : Req) (f on prob target value ms until_ : Nat) (s t : State) (timed : Prop), f ≤ 3 → on < 2 → prob < 256 → perturbTarget f target = true →
    perturbValue f value = true → takenUp ciTestPerturb q s = true →
    (timed ↔ (s.mode = 5 ∧ ms < 65536) ∨ (s.mode ≠ 5 ∧ 1 ≤ ms ∧ ms ≤ 60000)) → until_ = (if ms = 0 then 0 else s.now + ms * uMs + 1) →
    t = (s.setAll [(.TEST_PERTURB_ON, 1), (.TEST_PERTURB_PROB, prob), (.TEST_PERTURB_TARGET, target), (.TEST_PERTURB_VALUE, value),
      (.TEST_PERTURB_DURATION_MS, ms)] f).set .TEST_STATUS_PERTURB_ON (withBit (s.get .TEST_STATUS_PERTURB_ON) f true) →
    (¬timed → Next (.testPerturb q f on prob target value ms) s (reject ciTestPerturb q stParam 64 s)) ∧
    (timed →
      (on = 1 → Done (.testPerturb q f on prob target value ms) ciTestPerturb q [] s
        (({ t with test := { t.test with ends := Tab.put 0 t.test.ends f until_ } }).raise 0x0F01 [f, target, value])) ∧
      (on = 0 → s.get .TEST_PERTURB_ON f = 1 → Done (.testPerturb q f on prob target value ms) ciTestPerturb q [] s (perturbEnd f 0 s)) ∧
      (on = 0 → s.get .TEST_PERTURB_ON f ≠ 1 → Done (.testPerturb q f on prob target value ms) ciTestPerturb q [] s s))) ∧
  -- TEST_INJECT (R421; the target's form, log entry 53): armed for COUNT errors.
  (∀ (q : Req) (k tgt n count : Nat) (s : State), k ≤ 3 → injectTarget k tgt = true → injectBits k n = true → takenUp ciTestInject q s = true →
    (1 ≤ count → count ≤ 65535 → Done (.testInject q k tgt n count) ciTestInject q [] s
      (((s.setAll [(.TEST_INJECT_TARGET, tgt), (.TEST_INJECT_BITS, n), (.TEST_INJECT_REMAINING, count)] k).set .TEST_STATUS_INJECT_ARMED
        (withBit (s.get .TEST_STATUS_INJECT_ARMED) k true)).raise 0x0F03 [k, tgt, count])) ∧
    (count = 0 ∨ 65535 < count → Next (.testInject q k tgt n count) s (reject ciTestInject q stParam 48 s))) ∧
  -- GEN_FRAME (R417; the length drawn is a free value): a generator that runs, its bucket full enough, sends one frame and counts it; the last of COUNT stops it.
  (∀ (g : Fin 8) (s t u v : State) (len : Nat),
    len = s.get .TEST_GEN_LEN_MIN g + s.free % (s.get .TEST_GEN_LEN_MAX g - s.get .TEST_GEN_LEN_MIN g + 1) →
    t = genInject g (testFrame g (Tab.get {} s.test.gens g).seq len s) s.took →
    u = { t with
      test := { t.test with
        gens := Tab.put {} t.test.gens g ⟨(Tab.get {} s.test.gens g).seq + 1, genLevel g s - len * 65536, t.now / uUs⟩ } } →
    v = u.set .TEST_GEN_SENT (min (u.get .TEST_GEN_SENT g + 1) ctrMax) g →
    (s.get .TEST_GEN_RUN g ≠ 1 ∨ genLevel g s < len * 65536 → Next (.genFrame g) s s) ∧
    (s.get .TEST_GEN_RUN g = 1 → len * 65536 ≤ genLevel g s →
      (v.get .TEST_GEN_COUNT g ≠ 0 → v.get .TEST_GEN_COUNT g ≤ (Tab.get {} s.test.gens g).seq → Next (.genFrame g) s (v.set .TEST_GEN_RUN 0 g)) ∧
      (v.get .TEST_GEN_COUNT g = 0 ∨ (Tab.get {} s.test.gens g).seq < v.get .TEST_GEN_COUNT g → Next (.genFrame g) s v))) ∧
  -- PERTURB_OFF (R420, R423): at the end of its duration, and not before.
  (∀ (f : Fin 4) (s : State),
    (∀ a, s.get .TEST_PERTURB_ON f = 1 → Tab.get 0 s.test.ends f = a + 1 → a ≤ s.now → Next (.perturbOff f) s (perturbEnd f 1 s)) ∧
    (s.get .TEST_PERTURB_ON f ≠ 1 ∨ Tab.get 0 s.test.ends f = 0 ∨ s.now < Tab.get 0 s.test.ends f - 1 → Next (.perturbOff f) s s)) ∧
  -- TAP_INSTRUCTION (R424): IDCODE shifts out the identity; those that drive pins hold the device; the TAP's reset lets the boot begin.
  (∀ s t : State, t = { s with test := { s.test with tapHold := false } } →
    Next (.tapInstruction .bypass) s s ∧ Next (.tapInstruction .samplePreload) s s ∧
    Next (.tapInstruction .idcode) s (s.emit (.tdo (s.get .SYS_ID_IDCODE))) ∧
    (∀ i ∈ [TapInstr.extest, .extestPulse, .extestTrain, .clamp, .highz], Next (.tapInstruction i) s (tapTake s)) ∧
    (s.test.tapHold = false → Next (.tapInstruction .reset) s s) ∧
    (s.test.tapHold = true → t.pins.pwrGood = false ∨ t.pins.sysReset = false → Next (.tapInstruction .reset) s t) ∧
    (s.test.tapHold = true → t.pins.pwrGood = true → t.pins.sysReset = true → Next (.tapInstruction .reset) s (effPowerGood t)))

/-- The command rings' registers, direct writes and the function-level reset (R4 to R6, R315, R316, R324, R329, R460). -/
def Obligations.RingAndRegisterWritesComplete : Prop :=
  -- CMD_RING_ENABLE (R315): every pointer to 0; a ring that is enabled already stays as it is.
  (∀ (u : Fin 32) (s : State),
    (s.get .CMD_FN_ENABLE u ≠ 1 → Next (.cmdRingEnable u) s
      ((s.setAll [(.CMD_FN_ENABLE, 1), (.CMD_FN_SUB_HEAD, 0), (.CMD_FN_SUB_TAIL, 0), (.CMD_FN_CPL_HEAD, 0), (.CMD_FN_CPL_TAIL, 0)] u).setCmd
        (fun c => { c with reserved := Tab.put 0 c.reserved u 0 }))) ∧
    (s.get .CMD_FN_ENABLE u = 1 → Next (.cmdRingEnable u) s s)) ∧
  -- CMD_RING_DISABLE (R324): the commands already read complete without reply or completion; BUSY reads 1 until they have.
  (∀ (u : Fin 32) (s : State),
    (s.get .CMD_FN_ENABLE u = 1 → Next (.cmdRingDisable u) s (((s.set .CMD_FN_ENABLE 0 u).setCmd (fun c =>
      { c with taken := c.taken.map (fun t => if t.fn = u.val then { t with index := abandonedIndex } else t), reserved := Tab.put 0 c.reserved u 0 })).set
        .CMD_FN_BUSY (b2n (s.cmd.taken.any (fun t => t.fn == u.val))) u)) ∧
    (s.get .CMD_FN_ENABLE u ≠ 1 → Next (.cmdRingDisable u) s s)) ∧
  -- The pointers that software moves (R315, R316, R329); a submission pointer is a doorbell, which wakes the device (R380).
  (∀ (u : Fin 32) (v : Nat) (s : State), Next (.cmdSubTailWrite u v) s (wakeBy 4 (s.set .CMD_FN_SUB_TAIL v u)) ∧
    Next (.cmdCplHeadWrite u v) s (s.set .CMD_FN_CPL_HEAD v u) ∧ Next (.peerRxTailWrite v) s (s.set .CMD_PEER_RX_RX_TAIL v)) ∧
  -- REGISTER_WRITE (R4 to R6): each field of the addressed word in turn; an unaligned write, or one to no register, changes nothing.
  (∀ (off v : Nat) (s : State), (off % 8 = 0 → Next (.registerWrite off v) s ((fieldsAt off).foldl (registerField v) s)) ∧
    (off % 8 ≠ 0 ∨ fieldsAt off = [] → Next (.registerWrite off v) s s)) ∧
  -- INTERRUPT_CLEAR (R4): the fields of the word that a written 1 clears.
  (∀ (off v : Nat) (s : State),
    (off % 8 = 0 → Next (.interruptClear off v) s (((fieldsAt off).filter (fun p => p.1.row.acc == .w1c)).foldl (directWrite v) s)) ∧
    (off % 8 ≠ 0 → Next (.interruptClear off v) s s)) ∧
  -- FUNCTION_LEVEL_RESET (R246, R289, R290, R305, R324).
  (∀ (u : Fin 32) (s t : State),
    t = (((s.set .CMD_FN_ENABLE 0 u).setCmd (fun c =>
      { c with taken := c.taken.map (fun x => if x.fn = u.val then { x with index := abandonedIndex } else x), reserved := Tab.put 0 c.reserved u 0 })).set
        .CMD_FN_BUSY (b2n (s.cmd.taken.any (fun x => x.fn == u.val))) u) →
    Next (.functionLevelReset u) s (pageClear u (coreFunctionReset u
      ((t.setAll [(.CMD_FN_SUB_HEAD, 0), (.CMD_FN_SUB_TAIL, 0), (.CMD_FN_CPL_HEAD, 0), (.CMD_FN_CPL_TAIL, 0)] u).set .BPM_OWNER_IN_RESET 1 u))))

/-- The command's transports: rings, in-band frames and the Peldel port (R310, R315 to R321, R379). -/
def Obligations.CommandTransportsComplete : Prop :=
  -- CMD_SUBMISSION_READ (R316, R317, R322; log entry 103): a completion entry is reserved, the header's checks follow.
  (∀ (u : Fin 32) (e : SubEntry) (h : Header) (s t : State) (n i : Nat), n = cmdCplSize s u → i = s.get .CMD_FN_SUB_HEAD u →
    s.cmd.accepting = true → s.get .CMD_FN_ENABLE u = 1 → s.restarting 23 = false → i ≠ s.get .CMD_FN_SUB_TAIL u →
    s.cmd.taken.any (fun x => x.fn == u.val) = false →
    (s.get .CMD_FN_CPL_TAIL u + n - s.get .CMD_FN_CPL_HEAD u % n) % n + Tab.get 0 s.cmd.reserved u + 1 < n →
    (windowOk s u (s.get .CMD_FN_SUB_BASE u * 4096 + i * 32) 32 false = false → Next (.cmdSubmissionRead u e h) s (ringFault u 0 s)) ∧
    (windowOk s u (s.get .CMD_FN_SUB_BASE u * 4096 + i * 32) 32 false = true →
      t = (s.set .CMD_FN_SUB_HEAD ((i + 1) % cmdSubSize s u) u) →
      (windowOk t u e.addr e.len false = true → (e.replyCap = 0 ∨ windowOk t u e.replyAddr e.replyCap true = true) →
        (transportCheck h e.len (.ring u) = none → Next (.cmdSubmissionRead u e h) s (t.setCmd (fun c =>
          { c with taken := c.taken ++ [⟨u, i, e.replyAddr, e.replyCap⟩], reserved := Tab.put 0 c.reserved u (Tab.get 0 c.reserved u + 1) }))) ∧
        (∀ st d, transportCheck h e.len (.ring u) = some (st, d) → Next (.cmdSubmissionRead u e h) s
          (reject { op := h.opcode } { headerReq h (.ring u) with user := u } st d (t.setCmd (fun c =>
            { c with taken := c.taken ++ [⟨u, i, e.replyAddr, e.replyCap⟩], reserved := Tab.put 0 c.reserved u (Tab.get 0 c.reserved u + 1) }))))) ∧
      (windowOk t u e.addr e.len false = false ∨ (e.replyCap ≠ 0 ∧ windowOk t u e.replyAddr e.replyCap true = false) →
        Next (.cmdSubmissionRead u e h) s
          (reject { op := 0 } { src := .ring u, user := u, tag := 0, force := false, len := 0 } stPermission 0 ((t.setCmd (fun c =>
            { c with taken := c.taken ++ [⟨u, i, noReplyAddr, e.replyCap⟩],
                     reserved := Tab.put 0 c.reserved u (Tab.get 0 c.reserved u + 1) })).inc .CMD_WIN_DENIED))))) ∧
  (∀ (u : Fin 32) (e : SubEntry) (h : Header) (s : State),
    s.cmd.accepting = false ∨ s.get .CMD_FN_ENABLE u ≠ 1 ∨ s.restarting 23 = true ∨ s.get .CMD_FN_SUB_HEAD u = s.get .CMD_FN_SUB_TAIL u ∨
      s.cmd.taken.any (fun x => x.fn == u.val) = true → Next (.cmdSubmissionRead u e h) s s) ∧
  (∀ (u : Fin 32) (e : SubEntry) (h : Header) (s : State) (n : Nat), n = cmdCplSize s u →
    n ≤ (s.get .CMD_FN_CPL_TAIL u + n - s.get .CMD_FN_CPL_HEAD u % n) % n + Tab.get 0 s.cmd.reserved u + 1 →
    Next (.cmdSubmissionRead u e h) s s) ∧
  -- COMMAND_COMPLETION (R316, R317, R319, R321, R355): the oldest reply goes out by its command's transport.
  (∀ (r : Reply) (rest : List Reply) (s : State), s.cmd.replies = r :: rest →
    (∀ u t, r.req.src = .ring u → s.cmd.taken.find? (fun x => x.fn == u) = some t →
      Next .commandCompletion s (restartReady (completeRing u t r (s.setCmd (fun c => { c with replies := rest }))))) ∧
    (∀ x t, r.req.src = .inband x → s.cmd.inband.find? (fun y => y.1 == x && y.2.2.2 == r.req.user) = some t →
      Next .commandCompletion s (restartReady (inbandReply x t.2.1 t.2.2.1 r
        (s.setCmd (fun c => { c with replies := rest, inband := c.inband.erase t }))))) ∧
    ((∃ u, r.req.src = .ring u ∧ s.cmd.taken.find? (fun x => x.fn == u) = none) ∨
        (∃ x, r.req.src = .inband x ∧ s.cmd.inband.find? (fun y => y.1 == x && y.2.2.2 == r.req.user) = none) ∨
        r.req.src = .peer ∨ r.req.src = .journal →
      Next .commandCompletion s (restartReady (s.setCmd (fun c => { c with replies := rest })))) ∧
    (r.req.src = .peldel → Next .commandCompletion s
      (restartReady (s.setCmd (fun c => { c with replies := rest, peldelReply := some r, peldelBusy := false }))))) ∧
  (∀ s : State, s.cmd.replies = [] → Next .commandCompletion s s) ∧
  -- INBAND_COMMAND (R286, R318 to R320): the CMAC, then the TAG's newness, then the header. Here the frame has its 0x88B5 at byte 12.
  (∀ (x : Fin 32) (frame body : List Nat) (h : Header) (s t : State) (n covered d : Nat),
    n = tagsOf (s.get .PORT_CFG_TPID_ALT x) frame → body = frame.drop (12 + 4 * n + 2) → h = headerOf body →
    s.inRescue = false → s.link x = lsUp → field frame (12 + 4 * n) 2 = 0x88B5 →
    covered = (if 32 + h.len ≤ body.length then 16 + h.len else body.length - 16) →
    d = (h.tag + 2 ^ 32 - s.get .CMD_FN_INBAND_TAG h.user) % 2 ^ 32 →
    t = ((s.set .CMD_FN_INBAND_TAG h.tag h.user).setCmd (fun c => { c with inband := c.inband ++
      [(x.val, field frame 6 6, if n = 0 then [] else (frame.drop 12).take 4, h.user)] })) →
    (inbandKey s h.user = none ∨
        (∃ k, inbandKey s h.user = some k ∧ cmac k (body.take covered) % 2 ^ 128 ≠ field body covered 16) →
      Next (.inbandCommand x frame) s (inbandRefuse x (x, field frame 6 6, if n = 0 then [] else (frame.drop 12).take 4, h.user) h stAuthFail
        (s.inc .CIPH_CMD_AUTH_FAIL))) ∧
    (∀ k, inbandKey s h.user = some k → cmac k (body.take covered) % 2 ^ 128 = field body covered 16 →
      (d = 0 ∨ 2 ^ 31 ≤ d → Next (.inbandCommand x frame) s
        (inbandRefuse x (x, field frame 6 6, if n = 0 then [] else (frame.drop 12).take 4, h.user) h stStale (s.inc .CMD_INBAND_REPLAY))) ∧
      (1 ≤ d → d < 2 ^ 31 → transportCheck h (body.length - 16) (.inband x) = none → Next (.inbandCommand x frame) s t) ∧
      (∀ st e, 1 ≤ d → d < 2 ^ 31 → transportCheck h (body.length - 16) (.inband x) = some (st, e) →
        Next (.inbandCommand x frame) s (reject { op := h.opcode } (headerReq h (.inband x)) st e t)))) ∧
  (∀ (x : Fin 32) (frame : List Nat) (s : State), s.inRescue = true ∨ s.link x ≠ lsUp ∨
      field frame (12 + 4 * tagsOf (s.get .PORT_CFG_TPID_ALT x) frame) 2 ≠ 0x88B5 → Next (.inbandCommand x frame) s s) ∧
  -- PELDEL_WRITE (R321): length, packet and check; busy, the address phase is refused.
  (∀ (bytes : List Nat) (n : Nat) (s t : State), n = field bytes 0 2 → t = s.setCmd (fun c => { c with peldelBusy := true }) →
    (s.cmd.peldelBusy = true ∨ s.restarting 23 = true → Next (.peldelWrite bytes) s s) ∧
    (s.cmd.peldelBusy = false → s.restarting 23 = false →
      (4096 < n ∨ bytes.length ≠ n + 6 ∨ field bytes (n + 2) 4 ≠ crc32c (bytes.take (n + 2)) →
        Next (.peldelWrite bytes) s (s.inc .CMD_PELDEL_BADCHECK)) ∧
      (n ≤ 4096 → bytes.length = n + 6 → field bytes (n + 2) 4 = crc32c (bytes.take (n + 2)) →
        (transportCheck (headerOf ((bytes.drop 2).take n)) n .peldel = none → Next (.peldelWrite bytes) s t) ∧
        (∀ st d, transportCheck (headerOf ((bytes.drop 2).take n)) n .peldel = some (st, d) → Next (.peldelWrite bytes) s
          (reject { op := (headerOf ((bytes.drop 2).take n)).opcode }
            { headerReq (headerOf ((bytes.drop 2).take n)) .peldel with user := 0 } st d t))))) ∧
  -- PELDEL_READ (R321; log entry 105): the state byte 0 idle, 1 busy, 2 with the reply in the framing of writes.
  (∀ s : State, (s.cmd.peldelBusy = true → Next .peldelRead s (s.emit (.peldel [1]))) ∧
    (s.cmd.peldelBusy = false → s.cmd.peldelReply = none → Next .peldelRead s (s.emit (.peldel [0]))) ∧
    (∀ r packet, s.cmd.peldelBusy = false → s.cmd.peldelReply = some r → packet = wordBytes (replyPacket r 65512).1 →
      Next .peldelRead s ((s.emit (.peldel ([2] ++ (toBytes 2 packet.length ++ packet) ++
        toBytes 4 (crc32c (toBytes 2 packet.length ++ packet))))).setCmd (fun c => { c with peldelReply := none })))) ∧
  -- PELDEL_ADDRESS_MATCH (R379, R381, R382): a wake source; with PELDEL_OFF 1 an on request.
  (∀ s : State, (s.get .PWR_STATE_STATE = 2 ∨ s.get .PWR_STATE_STATE = 3 ∨ s.get .PWR_STATE_STATE = 4 → Next .peldelAddressMatch s (wakeBy 5 s)) ∧
    (s.get .PWR_STATE_STATE = 0 ∨ s.get .PWR_STATE_STATE = 6 →
      (s.get .PWR_STATE_PELDEL_OFF = 1 → Next .peldelAddressMatch s (onRequest s)) ∧
      (s.get .PWR_STATE_PELDEL_OFF ≠ 1 → Next .peldelAddressMatch s s)) ∧
    (s.get .PWR_STATE_STATE ≠ 0 → s.get .PWR_STATE_STATE ≠ 2 → s.get .PWR_STATE_STATE ≠ 3 → s.get .PWR_STATE_STATE ≠ 4 → s.get .PWR_STATE_STATE ≠ 6 →
      Next .peldelAddressMatch s s))

/-- The commit of atomic commands, FENCE and mirroring (R313, R326 to R331). -/
def Obligations.CommitFenceAndMirrorComplete : Prop :=
  -- ATOMIC_COMMIT (R313): the oldest staged command is committed where no participant refuses, else rolled back with the lowest that does.
  (∀ (x : Option (Nat × Nat)) (g : Staged) (rest : List Staged) (s t : State), s.cmd.staged = g :: rest →
    t = s.setCmd (fun c => { c with staged := rest }) →
    (refusals g x t = [] → Next (.atomicCommit x) s
      (complete { op := g.op, persist := g.persist } g.req (actKeys g.act) 0 { state := commitAct g.act t })) ∧
    (∀ p st, (p, st) ∈ refusals g x t → (∀ y ∈ refusals g x t, y = (p, st) ∨ p < y.1) → Next (.atomicCommit x) s
      (complete { op := g.op, persist := g.persist } g.req [] 0 { state := t, status := stRolledBack, detail := p, data := [st * 2 ^ 56] }))) ∧
  (∀ (x : Option (Nat × Nat)) (s : State), s.cmd.staged = [] → Next (.atomicCommit x) s s) ∧
  -- FENCE_RETURN (R326; log entry 98): nothing older in flight, or its limit has run out.
  (∀ (k : Nat) (s : State), (s.cmd.fences[k]? = none → Next (.fenceReturn k) s s) ∧
    (∀ f n t, s.cmd.fences[k]? = some f → n = olderInFlight s f.set f.gen → t = s.setCmd (fun c => { c with fences := c.fences.eraseIdx k }) →
      (n = 0 → Next (.fenceReturn k) s (complete ciFence f.req [] 0 { state := t, data := [f.gen] })) ∧
      (n ≠ 0 → f.limitUs ≠ 0 → f.since + f.limitUs * uUs ≤ s.now →
        Next (.fenceReturn k) s (complete ciFence f.req [] 0 { state := t, status := stTimeout, data := [n] })) ∧
      (n ≠ 0 → f.limitUs = 0 ∨ s.now < f.since + f.limitUs * uUs → Next (.fenceReturn k) s s))) ∧
  -- MIRROR_RECORD_WRITE (R329, R398; log entry 107): the record, then RX_TAIL; a wrap marker before it where it does not fit before the end.
  (∀ (r : MirrorRec) (rest : List MirrorRec) (s : State), s.cmd.mirrorQueue = r :: rest →
    (s.get .CMD_PEER_CFG_ENABLE ≠ 1 ∨ s.get .CMD_PEER_CFG_ROLE ≠ 1 ∨ s.get .FLT_STATUS_SAFE = 1 → Next .mirrorRecordWrite s s) ∧
    (s.get .CMD_PEER_CFG_ENABLE = 1 → s.get .CMD_PEER_CFG_ROLE = 1 → s.get .FLT_STATUS_SAFE ≠ 1 →
      ∀ size, size = 16 + (r.len + 15) / 16 * 16 →
      (s.cmd.mirrorPos + size ≤ 524288 → Next .mirrorRecordWrite s
        ((((((s.emit (.partnerWrite (0x380000 + s.cmd.mirrorPos) [r.seq, r.len * 2 ^ 32 + s.free % 2 ^ 32])).took).emit
          (.partnerWrite 0x300210 [(s.cmd.mirrorPos + size) % 524288 * 2 ^ 32]))).inc .CMD_PEER_SENT).setCmd
          (fun c => { c with mirrorQueue := rest, mirrorPos := (s.cmd.mirrorPos + size) % 524288, mirrorBytes := c.mirrorBytes - size }))) ∧
      (∀ t, 524288 < s.cmd.mirrorPos + size → s.cmd.mirrorPos < 524288 →
        t = s.emit (.partnerWrite (0x380000 + s.cmd.mirrorPos) [r.seq, 0xFFFFFFFF * 2 ^ 32]) →
        Next .mirrorRecordWrite s
          ((((((t.emit (.partnerWrite 0x380000 [r.seq, r.len * 2 ^ 32 + t.free % 2 ^ 32])).took).emit
            (.partnerWrite 0x300210 [size % 524288 * 2 ^ 32]))).inc .CMD_PEER_SENT).setCmd
            (fun c => { c with mirrorQueue := rest, mirrorPos := size % 524288, mirrorBytes := c.mirrorBytes - size }))))) ∧
  (∀ s : State, s.cmd.mirrorQueue = [] → Next .mirrorRecordWrite s s) ∧
  -- MIRROR_AREA_WRITE (R328): from the partner alone.
  (∀ (rid seq op len : Nat) (ok : Bool) (s : State),
    (rid ≠ s.get .CMD_PEER_CFG_PARTNER_RID → Next (.mirrorAreaWrite rid seq op len ok) s (s.inc .CMD_PEER_FOREIGN)) ∧
    (rid = s.get .CMD_PEER_CFG_PARTNER_RID → Next (.mirrorAreaWrite rid seq op len ok) s
      (s.setCmd (fun c => { c with rxRecords := c.rxRecords ++ [⟨seq, op, len, ok⟩] })))) ∧
  -- MIRROR_APPLY (R330): a marker, a bad check, a gap, or the next command to apply; an active device applies only what was complete
  -- when it became active.
  (∀ s : State, s.get .CMD_PEER_CFG_APPLY ≠ 1 ∨ s.get .CMD_PEER_STATUS_DESYNC = 1 ∨ s.cmd.applying ≠ none ∨
      s.get .CMD_PEER_RX_RX_HEAD = s.get .CMD_PEER_RX_RX_TAIL ∨ s.cmd.accepting = false ∨ s.cmd.rxRecords = [] ∨
      (s.get .CMD_PEER_CFG_ROLE = 1 ∧ s.cmd.rxDrain = 0) → Next .mirrorApply s s) ∧
  (∀ (r : MirrorRec) (rest : List MirrorRec) (s : State), s.get .CMD_PEER_CFG_APPLY = 1 → s.get .CMD_PEER_STATUS_DESYNC ≠ 1 →
    s.cmd.applying = none → s.get .CMD_PEER_RX_RX_HEAD ≠ s.get .CMD_PEER_RX_RX_TAIL → s.cmd.accepting = true → s.cmd.rxRecords = r :: rest →
    s.get .CMD_PEER_CFG_ROLE = 0 ∨ 0 < s.cmd.rxDrain →
    (r.len = 0xFFFFFFFF → Next .mirrorApply s ((s.set .CMD_PEER_RX_RX_HEAD 0).setCmd (fun c => { c with rxRecords := rest, rxDrain := c.rxDrain - 1 }))) ∧
    (r.len ≠ 0xFFFFFFFF → r.checkOk = false → Next .mirrorApply s
      ((s.set .CMD_PEER_STATUS_DESYNC 1).raise 0x0103 [0, r.seq / 2 ^ 32, r.seq % 2 ^ 32])) ∧
    (r.len ≠ 0xFFFFFFFF → r.checkOk = true → r.seq ≠ s.cmd.rxSeq + 1 → Next .mirrorApply s
      ((s.set .CMD_PEER_STATUS_DESYNC 1).raise 0x0103 [1, r.seq / 2 ^ 32, r.seq % 2 ^ 32])) ∧
    (r.len ≠ 0xFFFFFFFF → r.checkOk = true → r.seq = s.cmd.rxSeq + 1 → Next .mirrorApply s
      ((s.set .CMD_PEER_RX_RX_HEAD ((s.get .CMD_PEER_RX_RX_HEAD + mirrorSize r.len) % 524288)).setCmd
        (fun c => { c with rxRecords := rest, rxSeq := r.seq, rxDrain := c.rxDrain - 1, applying := some r.op })))) ∧
  -- PEER_POLL and PEER_LOST (R331; log entry 108): a read every 1 ms; one not completed in 50 ms tells the partner's loss: the 50 ms
  -- run from the first read that has not completed.
  (∀ s : State,
    (s.timer .peerPoll = none ∨ s.expired .peerPoll uMs = true →
      Next (.peerPoll true) s ((((s.start .peerPoll).emit .partnerRead).set .CMD_PEER_STATUS_PARTNER_OK 1).stop .peerRead) ∧
      (∀ t, t = (s.start .peerPoll).emit .partnerRead →
        (t.timer .peerRead = none → Next (.peerPoll false) s (t.start .peerRead)) ∧
        (t.timer .peerRead ≠ none → Next (.peerPoll false) s t))) ∧
    (s.timer .peerPoll ≠ none → s.expired .peerPoll uMs = false → Next (.peerPoll true) s s ∧ Next (.peerPoll false) s s) ∧
    (s.expired .peerRead (50 * uMs) = true → Next .peerLost s
      (((s.set .CMD_PEER_STATUS_PARTNER_OK 0).stop .peerRead).raise 0x0102 [(s.cmd.mirrorSeq - s.cmd.mirrorQueue.length) % 2 ^ 32])) ∧
    (s.expired .peerRead (50 * uMs) = false → Next .peerLost s s))

/-- A step takes the oldest waiting command and carries it out with the rest of the queue. -/
def Obligations.StepRunsFront : Prop :=
  ∀ (c : Instr) (rest : List Instr) (s : State), step { s with pending := c :: rest } = exec c { s with pending := rest }

/-- With no command waiting, a step lets one TCLK cycle of 1.25 ns pass: the model's choice, log entry 19. The command channel, the counters
and the store stand as they were, and nothing leaves the block but, where CLK10M_OUT is enabled, an edge of it (R129). -/
def Obligations.EmptyQueueLetsACyclePass : Prop :=
  ∀ s : State, s.pending = [] → ∃ t, step s = .next t ∧ t.now = s.now + 81920 ∧ t.pending = [] ∧ t.cmd = s.cmd ∧ t.ctrs = s.ctrs ∧
    t.store = s.store ∧ (s.get .TIME_SEL_CLK10M_EN ≠ 1 → t.out = s.out) ∧
    (t.out = s.out ∨ ∃ high at_, t.out = s.out ++ [.clk10m high at_])

/-- Every command and event of the block has an effect, none a fault or a refusal, and none adds to the queue or takes from it: only a step
takes its front. -/
def Obligations.EveryCommandRunsAndLeavesTheQueue : Prop := ∀ (i : Instr) (s : State), ∃ t, exec i s = .next t ∧ t.pending = s.pending

/-- The opcode of every row that is a command is one that the opcode tables define (Table 13.6, R333). -/
def Obligations.CommandOpcodesAreDefined : Prop := ∀ i : Instr, Sys2Proof.Laws.CommandOpcode.Statement i

/-- Every step keeps the register file and the counters sound: fields within their widths, counters within theirs, canonical form. -/
def Obligations.StepKeepsRegistersSound : Prop := ∀ s t : State, RegInv s → step s = .next t → RegInv t

/-- The state after reset is sound, its fields read their reset values, its counters 0, and no command waits (R4, R6, R37). -/
def Obligations.ResetStateIsSound : Prop :=
  RegInv State.reset ∧ (∀ (f : Fld) (i j : Nat), State.reset.get f i j = f.resetAt i j) ∧
    (∀ (c : Ctr) (i j : Nat), State.reset.ctr c i j = 0) ∧ State.reset.pending = [] ∧ State.reset.cmd.replies = [] ∧
    State.reset.cmd.accepting = false

/-- A field written reads as the value written, cut to its width; a counter rises up to 2^64 - 1; all others read as before (R4, R37). In
STANDBY every counter stands still (R379) but a dozing terminal's own and STANDBY_DISCARD (R378; log entry 134). -/
def Obligations.FieldsAndCountersReadBack : Prop :=
  (∀ (s : State) (f g : Fld) (v i j a b : Nat), (s.set f v i j).get g a b =
    if g = f ∧ a = i ∧ b = j then v % 2 ^ f.row.w else s.get g a b) ∧
  (∀ (s : State) (c d : Ctr) (n i j a b : Nat), (s.bump c n i j).ctr d a b =
    if d = c ∧ a = i ∧ b = j ∧ ¬(s.get .PWR_STATE_STATE = 4 ∧ c ≠ .PWR_STANDBY_DISCARD ∧
      ¬(c.row.base / 2 ^ 24 = 1 ∧ s.get .LINE_TREE_STATE_STATE i = 5)) then min (s.ctr c i j + n) (2 ^ 64 - 1) else s.ctr d a b)

/-- An entry of form W (R312): the fields of the addressed word whose MASK bits are 1 take VALUE, every other field is as it was, and
nothing but registers changes. -/
def Obligations.MaskedFieldsTakeTheValue : Prop :=
  ∀ (e : WEntry) (s : State),
    (∀ (f : Fld) (i j : Nat), (wApply s e).get f i j =
      if (f, i, j) ∈ fieldsAt e.off ∧ maskOf e (f, i, j) = 2 ^ f.row.w - 1 then e.value / 2 ^ f.lowBit j % 2 ^ f.row.w else s.get f i j) ∧
    wApply s e = { s with regs := (wApply s e).regs }

/-- REGISTER_WRITE acts on each field by its access code (R4, R5): no RO or CW field changes but those that a ring's ENABLE moves (R315,
R324); an RW field outside the addressed word keeps its value; one in it takes its bits. A doorbell's wake out of STANDBY (R380) stands in
`RingAndRegisterWritesComplete`. -/
def Obligations.DirectWritesFollowAccessCodes : Prop :=
  ∀ (off v : Nat) (s t : State), Next (.registerWrite off v) s t →
    (s.get .PWR_STATE_STATE ≠ 4 ∨ ∀ p ∈ fieldsAt off, p.1 ≠ .CMD_FN_SUB_TAIL ∧ p.1 ≠ .CORE_FN_SUB_TAIL) → ∀ (f : Fld) (i j : Nat),
    f ∉ [Fld.CMD_FN_SUB_HEAD, .CMD_FN_CPL_TAIL, .CMD_FN_BUSY, .CMD_FN_SUB_TAIL, .CMD_FN_CPL_HEAD, .CMD_FN_ENABLE, .CMD_FN_SUB_BASE,
      .CMD_FN_CPL_BASE, .CMD_FN_SUB_SIZE_LOG2, .CMD_FN_CPL_SIZE_LOG2] →
    (f.row.acc = .ro ∨ f.row.acc = .cw → t.get f i j = s.get f i j) ∧
    ((f, i, j) ∉ fieldsAt off → t.get f i j = s.get f i j) ∧
    (f.row.acc = .rw → (f, i, j) ∈ fieldsAt off → off % 8 = 0 → t.get f i j = v / 2 ^ f.lowBit j % 2 ^ f.row.w) ∧
    (f.row.acc = .w1c → (f, i, j) ∈ fieldsAt off → off % 8 = 0 → f.row.w = 1 →
      t.get f i j = if v / 2 ^ f.lowBit j % 2 = 1 then 0 else s.get f i j)

/-- The header of a reply (Table 13.1): VERSION 1, REPLY, TRUNCATED, FORCE, OPCODE, TAG; LENGTH in bytes of the data sent, USER, STATUS and
DETAIL; data that does not fit is cut (R316, R319). -/
def Obligations.ReplyHeaderHasItsFields : Prop :=
  ∀ (r : Reply) (room : Nat), r.op < 2 ^ 16 → r.req.tag < 2 ^ 32 → r.req.user < 2 ^ 8 → r.status < 2 ^ 8 → r.detail < 2 ^ 16 →
    8 * (r.data.take (room / 8)).length < 2 ^ 32 → ∃ w0 w1, (replyPacket r room).1 = w0 :: w1 :: r.data.take (room / 8) ∧
      w0 / 2 ^ 56 = 1 ∧ bits w0 55 1 = 1 ∧ bits w0 54 1 = b2n (decide (room / 8 < r.data.length)) ∧ bits w0 49 5 = 0 ∧
      bits w0 48 1 = b2n r.req.force ∧ bits w0 32 16 = r.op ∧ bits w0 0 32 = r.req.tag ∧
      w1 / 2 ^ 32 = 8 * (r.data.take (room / 8)).length ∧ bits w1 24 8 = r.req.user ∧ bits w1 16 8 = r.status ∧ bits w1 0 16 = r.detail

/-- What a completion does (R310, R324): the reply waits for its transport, CMDS_DONE rises, the completion enters its function's history of
the last 64; other functions' histories, the queue and the commands in progress are as they were. -/
def Obligations.CompletionOfACommand : Prop :=
  ∀ (c : CmdInfo) (q : Req) (keys : List Nat) (failed : Nat) (r : Result) (s t : State), r.state = s →
    t = complete c q keys failed r →
    (q.src ≠ .peer → q.src ≠ .journal → t.cmd.replies = s.cmd.replies ++ [⟨q, c.op, r.status, r.detail, r.data⟩]) ∧
    (q.src = .peer ∨ q.src = .journal → t.cmd.replies = s.cmd.replies) ∧
    (s.get .PWR_STATE_STATE ≠ 4 → t.ctr .CMD_CMDS_DONE = min (s.ctr .CMD_CMDS_DONE + 1) (2 ^ 64 - 1)) ∧
    (s.get .PWR_STATE_STATE = 4 → t.ctr .CMD_CMDS_DONE = s.ctr .CMD_CMDS_DONE) ∧
    Tab.get 0 t.cmd.counts q.user = Tab.get 0 s.cmd.counts q.user + 1 ∧
    (Tab.get [] t.cmd.history q.user).getLast? = some ⟨q.tag, c.op, r.status, r.detail, Tab.get 0 s.cmd.counts q.user + 1⟩ ∧
    ((Tab.get [] s.cmd.history q.user).length ≤ 64 → (Tab.get [] t.cmd.history q.user).length ≤ 64) ∧
    (∀ u, u ≠ q.user → Tab.get [] t.cmd.history u = Tab.get [] s.cmd.history u ∧ Tab.get 0 t.cmd.counts u = Tab.get 0 s.cmd.counts u) ∧
    t.pending = s.pending ∧ t.cmd.taken = s.cmd.taken ∧ t.cmd.inband = s.cmd.inband ∧ t.cmd.staged = s.cmd.staged ∧
    t.cmd.fences = s.cmd.fences ∧ t.cmd.reserved = s.cmd.reserved

/-- A persistent command that completes DONE or DONE_PARTIAL leaves a journal record before its reply is written (R351, R353), and a record
for the standby device where its family is mirrored (R329); any other status leaves neither. A record that the page being filled cannot take closes that page for programming and begins the next
(R353). -/
def Obligations.CompletionsAreJournalledAndMirrored : Prop :=
  (∀ (c : CmdInfo) (q : Req) (keys : List Nat) (r : Result) (s t : State), r.state = s → t = complete c q keys 0 r →
    r.status ≠ 0 → r.status ≠ 1 → q.src ≠ .peer → q.src ≠ .journal →
    t.journal = s.journal ∧ t.store = s.store ∧ t.cmd.mirrorQueue = s.cmd.mirrorQueue ∧ t.raised = s.raised ∧ t.regs = s.regs) ∧
  (∀ (c : CmdInfo) (q : Req) (keys : List Nat) (r : Result) (s t : State), r.state = s → t = complete c q keys 0 r →
    r.status = 0 ∨ r.status = 1 → c.persist = true → q.src ≠ .journal → storeOpen s = true →
    (s.journal.fill + journalBound q.len ≤ 4096 → t.journal = { s.journal with
      filling := s.journal.filling ++ [⟨1, s.journal.seq + 1, c.op, keys, journalBound q.len, s.journal.seq + 1⟩],
      fill := s.journal.fill + journalBound q.len, seq := s.journal.seq + 1 }) ∧
    (4096 < s.journal.fill + journalBound q.len → journalBound q.len ≤ 4096 → s.journal.programming = none →
      t.journal.filling = [⟨1, s.journal.seq + 1, c.op, keys, journalBound q.len, s.journal.seq + 1⟩] ∧
      t.journal.programming = some s.journal.filling ∧ t.journal.fill = journalBound q.len)) ∧
  (∀ (c : CmdInfo) (q : Req) (keys : List Nat) (r : Result) (s t : State), r.state = s → t = complete c q keys 0 r →
    r.status = 0 ∨ r.status = 1 → c.persist = false → q.src ≠ .peer → q.src ≠ .journal → s.get .CMD_PEER_CFG_ENABLE = 1 →
    s.get .CMD_PEER_CFG_ROLE = 1 → bit (s.get .CMD_PEER_CFG_FAMILY_MASK) (c.op / 256) = true →
    (s.cmd.mirrorBytes + (16 + (16 + q.len + 15) / 16 * 16) ≤ 4194304 →
      t.cmd.mirrorQueue = s.cmd.mirrorQueue ++ [⟨s.cmd.mirrorSeq + 1, c.op, 16 + q.len, true⟩] ∧ t.get .CMD_PEER_STATUS_DESYNC = s.get .CMD_PEER_STATUS_DESYNC) ∧
    (4194304 < s.cmd.mirrorBytes + (16 + (16 + q.len + 15) / 16 * 16) →
      t.cmd.mirrorQueue = s.cmd.mirrorQueue ∧ t.get .CMD_PEER_STATUS_DESYNC = 1))

/-- A rejected command's whole effect: its completion; a device restart that waits for replies and the journal alone looks again. -/
def rejects (i : Instr) (c : CmdInfo) (q : Req) (st d : Nat) (s : State) : Prop :=
  Next i s (if isRestart i then restartReady (reject c q st d s) else reject c q st d s)

/-- The checks of R310 that look at no parameter, in their order, with the status of each: wrong function or unusable command
(REJECTED_PERMISSION), then mode, boot or unit state (REJECTED_STATE). Whatever the command, the first that fails ends it before anything
changes. A command that STANDBY holds changes nothing when its row is presented: that is the model's reading, log entry 124. -/
def Obligations.FailedChecksRejectEveryCommand : Prop :=
  (∀ (i : Instr) (s : State) (c : CmdInfo) (q : Req) (st : Nat), commandOf i s = some (c, q) → heldBack c s = false → gate c q s = some st → rejects i c q st 0 s) ∧
  (∀ (i : Instr) (s : State) (c : CmdInfo) (q : Req), commandOf i s = some (c, q) → heldBack c s = true →
    Next i s (if isRestart i then restartReady s else s)) ∧
  (∀ (c : CmdInfo) (q : Req) (s : State),
    (srcAssigns q.src q.user = false → gate c q s = some 5) ∧
    (srcAssigns q.src q.user = true → c.phys = true ∧ q.user ≠ 0 ∨ q.src = .peldel ∧ c.pel = false → gate c q s = some 5) ∧
    (srcAssigns q.src q.user = true → (c.phys = true → q.user = 0) → (q.src = .peldel → c.pel = true) →
      (s.cmd.accepting = false → q.src ≠ .journal → c.op ≠ 0x0201 → gate c q s = some 4) ∧
      (s.inRescue = true ∨ s.safe = true → c.rescue = false → gate c q s = some 4) ∧
      (c.modes.admits s = false → gate c q s = some 4) ∧
      (s.cmd.accepting = true → (s.inRescue = true ∨ s.safe = true → c.rescue = true) → c.modes.admits s = true → gate c q s = none)))

/-- R399. In L3 a command that Table 13.6 does not mark RESCUE, sent by a function that may use it, is answered REJECTED_STATE, and L3 stops
no command that is marked. A command that STANDBY holds is answered once it is taken up. -/
def Obligations.SafeStateAdmitsOnlyRescueCommands : Prop :=
  ∀ (i : Instr) (s : State) (c : CmdInfo) (q : Req), commandOf i s = some (c, q) → s.get .FLT_STATUS_SAFE = 1 →
    (heldBack c s = false → c.rescue = false → srcAssigns q.src q.user = true → (c.phys = true → q.user = 0) → (q.src = .peldel → c.pel = true) →
      rejects i c q 4 0 s) ∧
    (c.rescue = false → gate c q s ≠ none) ∧
    (c.rescue = true → gate c q s = gate c q (s.set .FLT_STATUS_SAFE 0))

/-- R386. SYS_MODE to or from DENSE (3) or MAINTENANCE (5): staged as every atomic command; its commit sets PENDING and nothing live and
replies DONE; its record is persistent, and the boot that reads it takes the mode; the current mode clears PENDING. -/
def Obligations.DeepModesAwaitTheNextBoot : Prop :=
  (∀ (q : Req) (m : Nat) (s : State), takenAtomic ciSysMode q s = true → m ≤ 5 → (m = 4 → rateTotal s ≤ 8) →
    Stages (.sysMode q m) ciSysMode q s (.mode m)) ∧
  ciSysMode.persist = true ∧ ciSysMode.op = 0x0104 ∧
  (∀ (q : Req) (m : Nat) (x : Option (Nat × Nat)) (rest : List Staged) (s t : State),
    s.cmd.staged = ⟨q, 0x0104, ciSysMode.parts, true, .mode m, []⟩ :: rest → t = s.setCmd (fun c => { c with staged := rest }) →
    refusals ⟨q, 0x0104, ciSysMode.parts, true, .mode m, []⟩ x t = [] → m ≤ 5 →
    (m ≠ s.mode → m = 3 ∨ m = 5 ∨ s.mode = 3 ∨ s.mode = 5 →
      Next (.atomicCommit x) s (complete { op := 0x0104, persist := true } q [] 0
        { state := ((t.set .PWR_MODE_PENDING_VALID 1).set .PWR_MODE_PENDING m).raise 0x0107 [m, s.mode, 1] })) ∧
    (m = s.mode → s.get .PWR_MODE_CHANGING ≠ 1 →
      Next (.atomicCommit x) s (complete { op := 0x0104, persist := true } q [] 0
        { state := (t.set .PWR_MODE_PENDING_VALID 0).set .PWR_MODE_PENDING 0 }))) ∧
  (∀ (recs : List JRec) (r : JRec) (s : State), r ∈ recs → r.kind = 1 → r.op = 0x0104 → s.get .PWR_MODE_PENDING_VALID = 1 →
    s.get .PWR_MODE_PENDING < 8 → (journalDurable recs s).store.nand.mode = s.get .PWR_MODE_PENDING + 1) ∧
  (∀ (b : BootIn) (m : Nat) (s t : State), s.get .SYS_BOOT_PHASE = 7 → s.pins.sysReset = true → s.inRescue = false →
    s.store.nand.mode = m + 1 → m ≤ 5 → s.power.request ≠ some 2 → Next (.bootPhase b) s t → t.mode = m)

/-- R103. TREE_GUARD_RELEASE releases all the causes it names or none; SYNC's own release as its condition clears; tripped while any cause
is latched. -/
def Obligations.GuardReleaseIsAllOrNothing : Prop :=
  (∀ (q : Req) (n causes : Nat) (s t : State), n < 4 → causes < 32 → takenUp (ciTreeGuardRelease n) q s = true →
    s.get .LINE_BAY_LATCHED n < 32 → t = bayRelease n causes 0x0506 s →
    ((s.get .LINE_BAY_LATCHED n &&& causes) = causes ∧ (s.get .LINE_BAY_PRESENT n &&& causes) = 0 →
      Done (.treeGuardRelease q n causes) (ciTreeGuardRelease n) q [n] s t ∧
      t.get .LINE_BAY_LATCHED n = (s.get .LINE_BAY_LATCHED n &&& (31 - causes)) ∧
      (t.get .LINE_BAY_TRIPPED n = 1 ↔ t.get .LINE_BAY_LATCHED n ≠ 0)) ∧
    (¬((s.get .LINE_BAY_LATCHED n &&& causes) = causes ∧ (s.get .LINE_BAY_PRESENT n &&& causes) = 0) →
      Next (.treeGuardRelease q n causes) s (reject (ciTreeGuardRelease n) q 4 0 s))) ∧
  (∀ (n cause : Nat) (s : State), n < 4 → s.get .LINE_BAY_LATCHED n < 32 → bit (s.get .LINE_BAY_LATCHED n) 2 = true →
    (s.get .LINE_TREE_CFG_AUTO_RELEASE_SYNC n = 1 → (controlSynced n cause s).get .LINE_BAY_LATCHED n = (s.get .LINE_BAY_LATCHED n &&& 27)) ∧
    (s.get .LINE_TREE_CFG_AUTO_RELEASE_SYNC n ≠ 1 → (controlSynced n cause s).get .LINE_BAY_LATCHED n = s.get .LINE_BAY_LATCHED n))

/-- R89. The ranging timer starts at the entry to RANGING (`toRanging`, the model's one way in), starts again at a RANGE without COMPLETE,
and ends the state when RANGING_TIMEOUT, in units of 10 ms, has run out, not before. -/
def Obligations.RangingTimerRuns : Prop :=
  (∀ (n cause : Nat) (s : State), n < 4 → (toRanging n cause s).tree n = tsRanging ∧ (toRanging n cause s).timer (.ranging n) = some s.now) ∧
  (∀ (a : FieldAt) (m : TreeMsg) (s : State), goodMessage a (· == 3) m s → m.bcast = false → m.blen = 13 → s.tree a.port = tsRanging →
    bit (field m.body 12 1) 0 = false → ∃ t, Next (.range a) s t ∧ t.timer (.ranging a.port) = some s.now ∧ t.tree a.port = tsRanging) ∧
  (∀ (n : Fin 4) (at_ : Nat) (s : State), s.tree n = tsRanging → s.timer (.ranging n) = some at_ →
    (at_ + s.get .LINE_TREE_TIMERS_RANGING_TIMEOUT n * 10 * uMs ≤ s.now → (s.term n).afterOutage = false →
      Next (.rangingTimeout n) s ((setTree n tsListen 0 (clearIdentity n s)).raise 0x0507 [n])) ∧
    (at_ + s.get .LINE_TREE_TIMERS_RANGING_TIMEOUT n * 10 * uMs ≤ s.now → (s.term n).afterOutage = true →
      Next (.rangingTimeout n) s
        (outageEnd n (s.term n).outageMs 2 ((setTree n tsListen 0 (clearIdentity n s)).raise 0x0507 [n]))) ∧
    (s.now < at_ + s.get .LINE_TREE_TIMERS_RANGING_TIMEOUT n * 10 * uMs → Next (.rangingTimeout n) s s))
end

