-- ==== Sys2Proof/Laws/Tab.lean ====
section
/-! SUPPORT. Laws of sparse tables: read after write, and that writes keep the canonical form. -/
namespace Sys2Proof.Machine

variable {α : Type}

theorem Tab.get_ins_self (d : α) (t : Tab α) (k : Nat) (v : α) : Tab.get d (Tab.ins t k v) k = v := by
  induction t with
  | nil => simp [Tab.ins, Tab.get]
  | cons e r ih =>
    obtain ⟨a, b⟩ := e
    simp only [Tab.ins]
    split
    · simp [Tab.get]
    · split
      · simp [Tab.get]
      · simp [Tab.get, *]

theorem Tab.get_ins_ne (d : α) (t : Tab α) (k j : Nat) (v : α) (h : j ≠ k) : Tab.get d (Tab.ins t k v) j = Tab.get d t j := by
  induction t with
  | nil => simp [Tab.ins, Tab.get, h.symm]
  | cons e r ih =>
    obtain ⟨a, b⟩ := e
    simp only [Tab.ins]
    split
    · simp [Tab.get, h.symm]
    · split
      · subst_vars; simp [Tab.get, h.symm]
      · simp [Tab.get, ih]

theorem Tab.get_above (d : α) (t : Tab α) (k b : Nat) (h : Tab.above b t = true) (hk : k ≤ b) : Tab.get d t k = d := by
  induction t with
  | nil => rfl
  | cons e r ih =>
    obtain ⟨a, v⟩ := e
    simp only [Tab.above, List.all_cons, Bool.and_eq_true, decide_eq_true_eq] at h
    have : a ≠ k := by omega
    simp only [Tab.get, this, if_false]
    exact ih h.2

theorem Tab.get_del_self (d : α) (t : Tab α) (k : Nat) : Tab.get d (Tab.del t k) k = d := by
  induction t with
  | nil => rfl
  | cons e r ih =>
    obtain ⟨a, v⟩ := e
    simp only [Tab.del]
    split
    · exact ih
    · simp [Tab.get, *]

theorem Tab.get_del_ne (d : α) (t : Tab α) (k j : Nat) (h : j ≠ k) : Tab.get d (Tab.del t k) j = Tab.get d t j := by
  induction t with
  | nil => rfl
  | cons e r ih =>
    obtain ⟨a, v⟩ := e
    simp only [Tab.del]
    split
    · subst_vars; simp [Tab.get, h.symm, ih]
    · simp [Tab.get, ih]

/-- A written index reads as the value written. -/
theorem Tab.get_put_self [DecidableEq α] (d : α) (t : Tab α) (k : Nat) (v : α) : Tab.get d (Tab.put d t k v) k = v := by
  unfold Tab.put
  split
  · rename_i hv; rw [hv]; exact Tab.get_del_self d t k
  · exact Tab.get_ins_self d t k v

/-- Every other index reads as before. -/
theorem Tab.get_put_ne [DecidableEq α] (d d' : α) (t : Tab α) (k j : Nat) (v : α) (h : j ≠ k) :
    Tab.get d (Tab.put d' t k v) j = Tab.get d t j := by
  unfold Tab.put
  split
  · exact Tab.get_del_ne d t k j h
  · exact Tab.get_ins_ne d t k j v h

theorem Tab.mem_ins (t : Tab α) (k : Nat) (v : α) (e : Nat × α) (h : e ∈ Tab.ins t k v) : e = (k, v) ∨ e ∈ t := by
  induction t with
  | nil => simpa [Tab.ins] using h
  | cons x r ih =>
    obtain ⟨a, b⟩ := x
    simp only [Tab.ins] at h
    split at h
    · simpa using h
    · split at h
      · rcases List.mem_cons.1 h with h | h
        · exact .inl h
        · exact .inr (List.mem_cons_of_mem _ h)
      · rcases List.mem_cons.1 h with h | h
        · exact .inr (h ▸ List.mem_cons_self)
        · rcases ih h with h | h
          · exact .inl h
          · exact .inr (List.mem_cons_of_mem _ h)

theorem Tab.mem_del (t : Tab α) (k : Nat) (e : Nat × α) (h : e ∈ Tab.del t k) : e ∈ t := by
  induction t with
  | nil => exact h
  | cons x r ih =>
    obtain ⟨a, b⟩ := x
    simp only [Tab.del] at h
    split at h
    · exact List.mem_cons_of_mem _ (ih h)
    · rcases List.mem_cons.1 h with h | h
      · exact h ▸ List.mem_cons_self
      · exact List.mem_cons_of_mem _ (ih h)

/-- An entry of a written table is the one written, which is not the unlisted value, or one that was there. -/
theorem Tab.mem_put [DecidableEq α] (d : α) (t : Tab α) (k : Nat) (v : α) (e : Nat × α) (h : e ∈ Tab.put d t k v) :
    (e = (k, v) ∧ v ≠ d) ∨ e ∈ t := by
  unfold Tab.put at h
  split at h
  · exact .inr (Tab.mem_del t k e h)
  · rename_i hv
    rcases Tab.mem_ins t k v e h with h | h
    · exact .inl ⟨h, hv⟩
    · exact .inr h

theorem Tab.above_iff (b : Nat) (t : Tab α) : Tab.above b t = true ↔ ∀ e ∈ t, b < e.1 := by
  simp [Tab.above]

theorem Tab.sorted_ins (t : Tab α) (k : Nat) (v : α) (h : Tab.sorted t = true) : Tab.sorted (Tab.ins t k v) = true := by
  induction t with
  | nil => simp [Tab.ins, Tab.sorted, Tab.above]
  | cons e r ih =>
    obtain ⟨a, b⟩ := e
    simp only [Tab.sorted, Bool.and_eq_true] at h
    obtain ⟨ha, hr⟩ := h
    rw [Tab.above_iff] at ha
    simp only [Tab.ins]
    split
    · rename_i hk
      simp only [Tab.sorted, Bool.and_eq_true, Tab.above_iff]
      refine ⟨?_, ha, hr⟩
      intro e he
      rcases List.mem_cons.1 he with he | he
      · subst he; exact hk
      · exact lt_trans hk (ha e he)
    · split
      · subst_vars
        simp only [Tab.sorted, Bool.and_eq_true, Tab.above_iff]
        exact ⟨ha, hr⟩
      · simp only [Tab.sorted, Bool.and_eq_true, Tab.above_iff]
        refine ⟨?_, ih hr⟩
        intro e he
        rcases Tab.mem_ins r k v e he with he | he
        · subst he; show a < k; omega
        · exact ha e he

theorem Tab.sorted_del (t : Tab α) (k : Nat) (h : Tab.sorted t = true) : Tab.sorted (Tab.del t k) = true := by
  induction t with
  | nil => rfl
  | cons e r ih =>
    obtain ⟨a, b⟩ := e
    simp only [Tab.sorted, Bool.and_eq_true] at h
    simp only [Tab.del]
    split
    · exact ih h.2
    · simp only [Tab.sorted, Bool.and_eq_true]
      refine ⟨?_, ih h.2⟩
      rw [Tab.above_iff] at h ⊢
      exact fun e he => h.1 e (Tab.mem_del r k e he)

/-- A write keeps the indices strictly rising. -/
theorem Tab.sorted_put [DecidableEq α] (d : α) (t : Tab α) (k : Nat) (v : α) (h : Tab.sorted t = true) :
    Tab.sorted (Tab.put d t k v) = true := by
  unfold Tab.put
  split
  · exact Tab.sorted_del t k h
  · exact Tab.sorted_ins t k v h

/-- A write keeps the canonical form. -/
theorem Tab.wf_put [DecidableEq α] (d : α) (t : Tab α) (k : Nat) (v : α) (h : Tab.wf d t = true) : Tab.wf d (Tab.put d t k v) = true := by
  simp only [Tab.wf, Bool.and_eq_true, List.all_eq_true, decide_eq_true_eq] at h ⊢
  refine ⟨Tab.sorted_put d t k v h.1, ?_⟩
  intro e he
  rcases Tab.mem_put d t k v e he with ⟨he, hv⟩ | he
  · subst he; exact hv
  · exact h.2 e he

end Sys2Proof.Machine
end

