-- ==== Sys2Proof/Laws/State.lean ====
section
/-! SUPPORT. Every update of State, field by field: which field each named operation changes, and that it leaves the others. -/
namespace Sys2Proof.Machine

open Sys2Proof

variable (s : State)

@[simp] theorem State.set_ctrs (f : Fld) (v i j : Nat) : (s.set f v i j).ctrs = s.ctrs := rfl
@[simp] theorem State.set_now (f : Fld) (v i j : Nat) : (s.set f v i j).now = s.now := rfl
@[simp] theorem State.set_fresh (f : Fld) (v i j : Nat) : (s.set f v i j).fresh = s.fresh := rfl
@[simp] theorem State.set_out (f : Fld) (v i j : Nat) : (s.set f v i j).out = s.out := rfl
@[simp] theorem State.set_raised (f : Fld) (v i j : Nat) : (s.set f v i j).raised = s.raised := rfl
@[simp] theorem State.set_timers (f : Fld) (v i j : Nat) : (s.set f v i j).timers = s.timers := rfl
@[simp] theorem State.set_pins (f : Fld) (v i j : Nat) : (s.set f v i j).pins = s.pins := rfl
@[simp] theorem State.set_lines (f : Fld) (v i j : Nat) : (s.set f v i j).lines = s.lines := rfl
@[simp] theorem State.set_frames (f : Fld) (v i j : Nat) : (s.set f v i j).frames = s.frames := rfl
@[simp] theorem State.set_terms (f : Fld) (v i j : Nat) : (s.set f v i j).terms = s.terms := rfl
@[simp] theorem State.set_time (f : Fld) (v i j : Nat) : (s.set f v i j).time = s.time := rfl
@[simp] theorem State.set_items (f : Fld) (v i j : Nat) : (s.set f v i j).items = s.items := rfl
@[simp] theorem State.set_nextItem (f : Fld) (v i j : Nat) : (s.set f v i j).nextItem = s.nextItem := rfl
@[simp] theorem State.set_copies (f : Fld) (v i j : Nat) : (s.set f v i j).copies = s.copies := rfl
@[simp] theorem State.set_nextCopy (f : Fld) (v i j : Nat) : (s.set f v i j).nextCopy = s.nextCopy := rfl
@[simp] theorem State.set_cls (f : Fld) (v i j : Nat) : (s.set f v i j).cls = s.cls := rfl
@[simp] theorem State.set_tables (f : Fld) (v i j : Nat) : (s.set f v i j).tables = s.tables := rfl
@[simp] theorem State.set_sw (f : Fld) (v i j : Nat) : (s.set f v i j).sw = s.sw := rfl
@[simp] theorem State.set_sched (f : Fld) (v i j : Nat) : (s.set f v i j).sched = s.sched := rfl
@[simp] theorem State.set_cipher (f : Fld) (v i j : Nat) : (s.set f v i j).cipher = s.cipher := rfl
@[simp] theorem State.set_ospOut (f : Fld) (v i j : Nat) : (s.set f v i j).ospOut = s.ospOut := rfl
@[simp] theorem State.set_capture (f : Fld) (v i j : Nat) : (s.set f v i j).capture = s.capture := rfl
@[simp] theorem State.set_journal (f : Fld) (v i j : Nat) : (s.set f v i j).journal = s.journal := rfl
@[simp] theorem State.set_host (f : Fld) (v i j : Nat) : (s.set f v i j).host = s.host := rfl
@[simp] theorem State.set_core (f : Fld) (v i j : Nat) : (s.set f v i j).core = s.core := rfl
@[simp] theorem State.set_store (f : Fld) (v i j : Nat) : (s.set f v i j).store = s.store := rfl
@[simp] theorem State.set_fuses (f : Fld) (v i j : Nat) : (s.set f v i j).fuses = s.fuses := rfl
@[simp] theorem State.set_power (f : Fld) (v i j : Nat) : (s.set f v i j).power = s.power := rfl
@[simp] theorem State.set_fault (f : Fld) (v i j : Nat) : (s.set f v i j).fault = s.fault := rfl
@[simp] theorem State.set_evt (f : Fld) (v i j : Nat) : (s.set f v i j).evt = s.evt := rfl
@[simp] theorem State.set_test (f : Fld) (v i j : Nat) : (s.set f v i j).test = s.test := rfl
@[simp] theorem State.set_cmd (f : Fld) (v i j : Nat) : (s.set f v i j).cmd = s.cmd := rfl
@[simp] theorem State.set_pending (f : Fld) (v i j : Nat) : (s.set f v i j).pending = s.pending := rfl

@[simp] theorem State.setI_ctrs (f : Fld) (v : Int) (i j : Nat) : (s.setI f v i j).ctrs = s.ctrs := rfl
@[simp] theorem State.setI_now (f : Fld) (v : Int) (i j : Nat) : (s.setI f v i j).now = s.now := rfl
@[simp] theorem State.setI_fresh (f : Fld) (v : Int) (i j : Nat) : (s.setI f v i j).fresh = s.fresh := rfl
@[simp] theorem State.setI_out (f : Fld) (v : Int) (i j : Nat) : (s.setI f v i j).out = s.out := rfl
@[simp] theorem State.setI_raised (f : Fld) (v : Int) (i j : Nat) : (s.setI f v i j).raised = s.raised := rfl
@[simp] theorem State.setI_timers (f : Fld) (v : Int) (i j : Nat) : (s.setI f v i j).timers = s.timers := rfl
@[simp] theorem State.setI_pins (f : Fld) (v : Int) (i j : Nat) : (s.setI f v i j).pins = s.pins := rfl
@[simp] theorem State.setI_lines (f : Fld) (v : Int) (i j : Nat) : (s.setI f v i j).lines = s.lines := rfl
@[simp] theorem State.setI_frames (f : Fld) (v : Int) (i j : Nat) : (s.setI f v i j).frames = s.frames := rfl
@[simp] theorem State.setI_terms (f : Fld) (v : Int) (i j : Nat) : (s.setI f v i j).terms = s.terms := rfl
@[simp] theorem State.setI_time (f : Fld) (v : Int) (i j : Nat) : (s.setI f v i j).time = s.time := rfl
@[simp] theorem State.setI_items (f : Fld) (v : Int) (i j : Nat) : (s.setI f v i j).items = s.items := rfl
@[simp] theorem State.setI_nextItem (f : Fld) (v : Int) (i j : Nat) : (s.setI f v i j).nextItem = s.nextItem := rfl
@[simp] theorem State.setI_copies (f : Fld) (v : Int) (i j : Nat) : (s.setI f v i j).copies = s.copies := rfl
@[simp] theorem State.setI_nextCopy (f : Fld) (v : Int) (i j : Nat) : (s.setI f v i j).nextCopy = s.nextCopy := rfl
@[simp] theorem State.setI_cls (f : Fld) (v : Int) (i j : Nat) : (s.setI f v i j).cls = s.cls := rfl
@[simp] theorem State.setI_tables (f : Fld) (v : Int) (i j : Nat) : (s.setI f v i j).tables = s.tables := rfl
@[simp] theorem State.setI_sw (f : Fld) (v : Int) (i j : Nat) : (s.setI f v i j).sw = s.sw := rfl
@[simp] theorem State.setI_sched (f : Fld) (v : Int) (i j : Nat) : (s.setI f v i j).sched = s.sched := rfl
@[simp] theorem State.setI_cipher (f : Fld) (v : Int) (i j : Nat) : (s.setI f v i j).cipher = s.cipher := rfl
@[simp] theorem State.setI_ospOut (f : Fld) (v : Int) (i j : Nat) : (s.setI f v i j).ospOut = s.ospOut := rfl
@[simp] theorem State.setI_capture (f : Fld) (v : Int) (i j : Nat) : (s.setI f v i j).capture = s.capture := rfl
@[simp] theorem State.setI_journal (f : Fld) (v : Int) (i j : Nat) : (s.setI f v i j).journal = s.journal := rfl
@[simp] theorem State.setI_host (f : Fld) (v : Int) (i j : Nat) : (s.setI f v i j).host = s.host := rfl
@[simp] theorem State.setI_core (f : Fld) (v : Int) (i j : Nat) : (s.setI f v i j).core = s.core := rfl
@[simp] theorem State.setI_store (f : Fld) (v : Int) (i j : Nat) : (s.setI f v i j).store = s.store := rfl
@[simp] theorem State.setI_fuses (f : Fld) (v : Int) (i j : Nat) : (s.setI f v i j).fuses = s.fuses := rfl
@[simp] theorem State.setI_power (f : Fld) (v : Int) (i j : Nat) : (s.setI f v i j).power = s.power := rfl
@[simp] theorem State.setI_fault (f : Fld) (v : Int) (i j : Nat) : (s.setI f v i j).fault = s.fault := rfl
@[simp] theorem State.setI_evt (f : Fld) (v : Int) (i j : Nat) : (s.setI f v i j).evt = s.evt := rfl
@[simp] theorem State.setI_test (f : Fld) (v : Int) (i j : Nat) : (s.setI f v i j).test = s.test := rfl
@[simp] theorem State.setI_cmd (f : Fld) (v : Int) (i j : Nat) : (s.setI f v i j).cmd = s.cmd := rfl
@[simp] theorem State.setI_pending (f : Fld) (v : Int) (i j : Nat) : (s.setI f v i j).pending = s.pending := rfl

@[simp] theorem State.bump_regs (c : Ctr) (n i j : Nat) : (s.bump c n i j).regs = s.regs := rfl
@[simp] theorem State.bump_now (c : Ctr) (n i j : Nat) : (s.bump c n i j).now = s.now := rfl
@[simp] theorem State.bump_fresh (c : Ctr) (n i j : Nat) : (s.bump c n i j).fresh = s.fresh := rfl
@[simp] theorem State.bump_out (c : Ctr) (n i j : Nat) : (s.bump c n i j).out = s.out := rfl
@[simp] theorem State.bump_raised (c : Ctr) (n i j : Nat) : (s.bump c n i j).raised = s.raised := rfl
@[simp] theorem State.bump_timers (c : Ctr) (n i j : Nat) : (s.bump c n i j).timers = s.timers := rfl
@[simp] theorem State.bump_pins (c : Ctr) (n i j : Nat) : (s.bump c n i j).pins = s.pins := rfl
@[simp] theorem State.bump_lines (c : Ctr) (n i j : Nat) : (s.bump c n i j).lines = s.lines := rfl
@[simp] theorem State.bump_frames (c : Ctr) (n i j : Nat) : (s.bump c n i j).frames = s.frames := rfl
@[simp] theorem State.bump_terms (c : Ctr) (n i j : Nat) : (s.bump c n i j).terms = s.terms := rfl
@[simp] theorem State.bump_time (c : Ctr) (n i j : Nat) : (s.bump c n i j).time = s.time := rfl
@[simp] theorem State.bump_items (c : Ctr) (n i j : Nat) : (s.bump c n i j).items = s.items := rfl
@[simp] theorem State.bump_nextItem (c : Ctr) (n i j : Nat) : (s.bump c n i j).nextItem = s.nextItem := rfl
@[simp] theorem State.bump_copies (c : Ctr) (n i j : Nat) : (s.bump c n i j).copies = s.copies := rfl
@[simp] theorem State.bump_nextCopy (c : Ctr) (n i j : Nat) : (s.bump c n i j).nextCopy = s.nextCopy := rfl
@[simp] theorem State.bump_cls (c : Ctr) (n i j : Nat) : (s.bump c n i j).cls = s.cls := rfl
@[simp] theorem State.bump_tables (c : Ctr) (n i j : Nat) : (s.bump c n i j).tables = s.tables := rfl
@[simp] theorem State.bump_sw (c : Ctr) (n i j : Nat) : (s.bump c n i j).sw = s.sw := rfl
@[simp] theorem State.bump_sched (c : Ctr) (n i j : Nat) : (s.bump c n i j).sched = s.sched := rfl
@[simp] theorem State.bump_cipher (c : Ctr) (n i j : Nat) : (s.bump c n i j).cipher = s.cipher := rfl
@[simp] theorem State.bump_ospOut (c : Ctr) (n i j : Nat) : (s.bump c n i j).ospOut = s.ospOut := rfl
@[simp] theorem State.bump_capture (c : Ctr) (n i j : Nat) : (s.bump c n i j).capture = s.capture := rfl
@[simp] theorem State.bump_journal (c : Ctr) (n i j : Nat) : (s.bump c n i j).journal = s.journal := rfl
@[simp] theorem State.bump_host (c : Ctr) (n i j : Nat) : (s.bump c n i j).host = s.host := rfl
@[simp] theorem State.bump_core (c : Ctr) (n i j : Nat) : (s.bump c n i j).core = s.core := rfl
@[simp] theorem State.bump_store (c : Ctr) (n i j : Nat) : (s.bump c n i j).store = s.store := rfl
@[simp] theorem State.bump_fuses (c : Ctr) (n i j : Nat) : (s.bump c n i j).fuses = s.fuses := rfl
@[simp] theorem State.bump_power (c : Ctr) (n i j : Nat) : (s.bump c n i j).power = s.power := rfl
@[simp] theorem State.bump_fault (c : Ctr) (n i j : Nat) : (s.bump c n i j).fault = s.fault := rfl
@[simp] theorem State.bump_evt (c : Ctr) (n i j : Nat) : (s.bump c n i j).evt = s.evt := rfl
@[simp] theorem State.bump_test (c : Ctr) (n i j : Nat) : (s.bump c n i j).test = s.test := rfl
@[simp] theorem State.bump_cmd (c : Ctr) (n i j : Nat) : (s.bump c n i j).cmd = s.cmd := rfl
@[simp] theorem State.bump_pending (c : Ctr) (n i j : Nat) : (s.bump c n i j).pending = s.pending := rfl

@[simp] theorem State.inc_regs (c : Ctr) (i j : Nat) : (s.inc c i j).regs = s.regs := rfl
@[simp] theorem State.inc_now (c : Ctr) (i j : Nat) : (s.inc c i j).now = s.now := rfl
@[simp] theorem State.inc_fresh (c : Ctr) (i j : Nat) : (s.inc c i j).fresh = s.fresh := rfl
@[simp] theorem State.inc_out (c : Ctr) (i j : Nat) : (s.inc c i j).out = s.out := rfl
@[simp] theorem State.inc_raised (c : Ctr) (i j : Nat) : (s.inc c i j).raised = s.raised := rfl
@[simp] theorem State.inc_timers (c : Ctr) (i j : Nat) : (s.inc c i j).timers = s.timers := rfl
@[simp] theorem State.inc_pins (c : Ctr) (i j : Nat) : (s.inc c i j).pins = s.pins := rfl
@[simp] theorem State.inc_lines (c : Ctr) (i j : Nat) : (s.inc c i j).lines = s.lines := rfl
@[simp] theorem State.inc_frames (c : Ctr) (i j : Nat) : (s.inc c i j).frames = s.frames := rfl
@[simp] theorem State.inc_terms (c : Ctr) (i j : Nat) : (s.inc c i j).terms = s.terms := rfl
@[simp] theorem State.inc_time (c : Ctr) (i j : Nat) : (s.inc c i j).time = s.time := rfl
@[simp] theorem State.inc_items (c : Ctr) (i j : Nat) : (s.inc c i j).items = s.items := rfl
@[simp] theorem State.inc_nextItem (c : Ctr) (i j : Nat) : (s.inc c i j).nextItem = s.nextItem := rfl
@[simp] theorem State.inc_copies (c : Ctr) (i j : Nat) : (s.inc c i j).copies = s.copies := rfl
@[simp] theorem State.inc_nextCopy (c : Ctr) (i j : Nat) : (s.inc c i j).nextCopy = s.nextCopy := rfl
@[simp] theorem State.inc_cls (c : Ctr) (i j : Nat) : (s.inc c i j).cls = s.cls := rfl
@[simp] theorem State.inc_tables (c : Ctr) (i j : Nat) : (s.inc c i j).tables = s.tables := rfl
@[simp] theorem State.inc_sw (c : Ctr) (i j : Nat) : (s.inc c i j).sw = s.sw := rfl
@[simp] theorem State.inc_sched (c : Ctr) (i j : Nat) : (s.inc c i j).sched = s.sched := rfl
@[simp] theorem State.inc_cipher (c : Ctr) (i j : Nat) : (s.inc c i j).cipher = s.cipher := rfl
@[simp] theorem State.inc_ospOut (c : Ctr) (i j : Nat) : (s.inc c i j).ospOut = s.ospOut := rfl
@[simp] theorem State.inc_capture (c : Ctr) (i j : Nat) : (s.inc c i j).capture = s.capture := rfl
@[simp] theorem State.inc_journal (c : Ctr) (i j : Nat) : (s.inc c i j).journal = s.journal := rfl
@[simp] theorem State.inc_host (c : Ctr) (i j : Nat) : (s.inc c i j).host = s.host := rfl
@[simp] theorem State.inc_core (c : Ctr) (i j : Nat) : (s.inc c i j).core = s.core := rfl
@[simp] theorem State.inc_store (c : Ctr) (i j : Nat) : (s.inc c i j).store = s.store := rfl
@[simp] theorem State.inc_fuses (c : Ctr) (i j : Nat) : (s.inc c i j).fuses = s.fuses := rfl
@[simp] theorem State.inc_power (c : Ctr) (i j : Nat) : (s.inc c i j).power = s.power := rfl
@[simp] theorem State.inc_fault (c : Ctr) (i j : Nat) : (s.inc c i j).fault = s.fault := rfl
@[simp] theorem State.inc_evt (c : Ctr) (i j : Nat) : (s.inc c i j).evt = s.evt := rfl
@[simp] theorem State.inc_test (c : Ctr) (i j : Nat) : (s.inc c i j).test = s.test := rfl
@[simp] theorem State.inc_cmd (c : Ctr) (i j : Nat) : (s.inc c i j).cmd = s.cmd := rfl
@[simp] theorem State.inc_pending (c : Ctr) (i j : Nat) : (s.inc c i j).pending = s.pending := rfl

@[simp] theorem State.raise_regs (code : Nat) (ws tail : List Nat) : (s.raise code ws tail).regs = s.regs := rfl
@[simp] theorem State.raise_ctrs (code : Nat) (ws tail : List Nat) : (s.raise code ws tail).ctrs = s.ctrs := rfl
@[simp] theorem State.raise_now (code : Nat) (ws tail : List Nat) : (s.raise code ws tail).now = s.now := rfl
@[simp] theorem State.raise_fresh (code : Nat) (ws tail : List Nat) : (s.raise code ws tail).fresh = s.fresh := rfl
@[simp] theorem State.raise_out (code : Nat) (ws tail : List Nat) : (s.raise code ws tail).out = s.out := rfl
@[simp] theorem State.raise_timers (code : Nat) (ws tail : List Nat) : (s.raise code ws tail).timers = s.timers := rfl
@[simp] theorem State.raise_pins (code : Nat) (ws tail : List Nat) : (s.raise code ws tail).pins = s.pins := rfl
@[simp] theorem State.raise_lines (code : Nat) (ws tail : List Nat) : (s.raise code ws tail).lines = s.lines := rfl
@[simp] theorem State.raise_frames (code : Nat) (ws tail : List Nat) : (s.raise code ws tail).frames = s.frames := rfl
@[simp] theorem State.raise_terms (code : Nat) (ws tail : List Nat) : (s.raise code ws tail).terms = s.terms := rfl
@[simp] theorem State.raise_time (code : Nat) (ws tail : List Nat) : (s.raise code ws tail).time = s.time := rfl
@[simp] theorem State.raise_items (code : Nat) (ws tail : List Nat) : (s.raise code ws tail).items = s.items := rfl
@[simp] theorem State.raise_nextItem (code : Nat) (ws tail : List Nat) : (s.raise code ws tail).nextItem = s.nextItem := rfl
@[simp] theorem State.raise_copies (code : Nat) (ws tail : List Nat) : (s.raise code ws tail).copies = s.copies := rfl
@[simp] theorem State.raise_nextCopy (code : Nat) (ws tail : List Nat) : (s.raise code ws tail).nextCopy = s.nextCopy := rfl
@[simp] theorem State.raise_cls (code : Nat) (ws tail : List Nat) : (s.raise code ws tail).cls = s.cls := rfl
@[simp] theorem State.raise_tables (code : Nat) (ws tail : List Nat) : (s.raise code ws tail).tables = s.tables := rfl
@[simp] theorem State.raise_sw (code : Nat) (ws tail : List Nat) : (s.raise code ws tail).sw = s.sw := rfl
@[simp] theorem State.raise_sched (code : Nat) (ws tail : List Nat) : (s.raise code ws tail).sched = s.sched := rfl
@[simp] theorem State.raise_cipher (code : Nat) (ws tail : List Nat) : (s.raise code ws tail).cipher = s.cipher := rfl
@[simp] theorem State.raise_ospOut (code : Nat) (ws tail : List Nat) : (s.raise code ws tail).ospOut = s.ospOut := rfl
@[simp] theorem State.raise_capture (code : Nat) (ws tail : List Nat) : (s.raise code ws tail).capture = s.capture := rfl
@[simp] theorem State.raise_journal (code : Nat) (ws tail : List Nat) : (s.raise code ws tail).journal = s.journal := rfl
@[simp] theorem State.raise_host (code : Nat) (ws tail : List Nat) : (s.raise code ws tail).host = s.host := rfl
@[simp] theorem State.raise_core (code : Nat) (ws tail : List Nat) : (s.raise code ws tail).core = s.core := rfl
@[simp] theorem State.raise_store (code : Nat) (ws tail : List Nat) : (s.raise code ws tail).store = s.store := rfl
@[simp] theorem State.raise_fuses (code : Nat) (ws tail : List Nat) : (s.raise code ws tail).fuses = s.fuses := rfl
@[simp] theorem State.raise_power (code : Nat) (ws tail : List Nat) : (s.raise code ws tail).power = s.power := rfl
@[simp] theorem State.raise_fault (code : Nat) (ws tail : List Nat) : (s.raise code ws tail).fault = s.fault := rfl
@[simp] theorem State.raise_evt (code : Nat) (ws tail : List Nat) : (s.raise code ws tail).evt = s.evt := rfl
@[simp] theorem State.raise_test (code : Nat) (ws tail : List Nat) : (s.raise code ws tail).test = s.test := rfl
@[simp] theorem State.raise_cmd (code : Nat) (ws tail : List Nat) : (s.raise code ws tail).cmd = s.cmd := rfl
@[simp] theorem State.raise_pending (code : Nat) (ws tail : List Nat) : (s.raise code ws tail).pending = s.pending := rfl

@[simp] theorem State.emit_regs (o : Out) : (s.emit o).regs = s.regs := rfl
@[simp] theorem State.emit_ctrs (o : Out) : (s.emit o).ctrs = s.ctrs := rfl
@[simp] theorem State.emit_now (o : Out) : (s.emit o).now = s.now := rfl
@[simp] theorem State.emit_fresh (o : Out) : (s.emit o).fresh = s.fresh := rfl
@[simp] theorem State.emit_raised (o : Out) : (s.emit o).raised = s.raised := rfl
@[simp] theorem State.emit_timers (o : Out) : (s.emit o).timers = s.timers := rfl
@[simp] theorem State.emit_pins (o : Out) : (s.emit o).pins = s.pins := rfl
@[simp] theorem State.emit_lines (o : Out) : (s.emit o).lines = s.lines := rfl
@[simp] theorem State.emit_frames (o : Out) : (s.emit o).frames = s.frames := rfl
@[simp] theorem State.emit_terms (o : Out) : (s.emit o).terms = s.terms := rfl
@[simp] theorem State.emit_time (o : Out) : (s.emit o).time = s.time := rfl
@[simp] theorem State.emit_items (o : Out) : (s.emit o).items = s.items := rfl
@[simp] theorem State.emit_nextItem (o : Out) : (s.emit o).nextItem = s.nextItem := rfl
@[simp] theorem State.emit_copies (o : Out) : (s.emit o).copies = s.copies := rfl
@[simp] theorem State.emit_nextCopy (o : Out) : (s.emit o).nextCopy = s.nextCopy := rfl
@[simp] theorem State.emit_cls (o : Out) : (s.emit o).cls = s.cls := rfl
@[simp] theorem State.emit_tables (o : Out) : (s.emit o).tables = s.tables := rfl
@[simp] theorem State.emit_sw (o : Out) : (s.emit o).sw = s.sw := rfl
@[simp] theorem State.emit_sched (o : Out) : (s.emit o).sched = s.sched := rfl
@[simp] theorem State.emit_cipher (o : Out) : (s.emit o).cipher = s.cipher := rfl
@[simp] theorem State.emit_ospOut (o : Out) : (s.emit o).ospOut = s.ospOut := rfl
@[simp] theorem State.emit_capture (o : Out) : (s.emit o).capture = s.capture := rfl
@[simp] theorem State.emit_journal (o : Out) : (s.emit o).journal = s.journal := rfl
@[simp] theorem State.emit_host (o : Out) : (s.emit o).host = s.host := rfl
@[simp] theorem State.emit_core (o : Out) : (s.emit o).core = s.core := rfl
@[simp] theorem State.emit_store (o : Out) : (s.emit o).store = s.store := rfl
@[simp] theorem State.emit_fuses (o : Out) : (s.emit o).fuses = s.fuses := rfl
@[simp] theorem State.emit_power (o : Out) : (s.emit o).power = s.power := rfl
@[simp] theorem State.emit_fault (o : Out) : (s.emit o).fault = s.fault := rfl
@[simp] theorem State.emit_evt (o : Out) : (s.emit o).evt = s.evt := rfl
@[simp] theorem State.emit_test (o : Out) : (s.emit o).test = s.test := rfl
@[simp] theorem State.emit_cmd (o : Out) : (s.emit o).cmd = s.cmd := rfl
@[simp] theorem State.emit_pending (o : Out) : (s.emit o).pending = s.pending := rfl

@[simp] theorem State.msix_regs (fn vector : Nat) : (s.msix fn vector).regs = s.regs := rfl
@[simp] theorem State.msix_ctrs (fn vector : Nat) : (s.msix fn vector).ctrs = s.ctrs := rfl
@[simp] theorem State.msix_now (fn vector : Nat) : (s.msix fn vector).now = s.now := rfl
@[simp] theorem State.msix_fresh (fn vector : Nat) : (s.msix fn vector).fresh = s.fresh := rfl
@[simp] theorem State.msix_raised (fn vector : Nat) : (s.msix fn vector).raised = s.raised := rfl
@[simp] theorem State.msix_timers (fn vector : Nat) : (s.msix fn vector).timers = s.timers := rfl
@[simp] theorem State.msix_pins (fn vector : Nat) : (s.msix fn vector).pins = s.pins := rfl
@[simp] theorem State.msix_lines (fn vector : Nat) : (s.msix fn vector).lines = s.lines := rfl
@[simp] theorem State.msix_frames (fn vector : Nat) : (s.msix fn vector).frames = s.frames := rfl
@[simp] theorem State.msix_terms (fn vector : Nat) : (s.msix fn vector).terms = s.terms := rfl
@[simp] theorem State.msix_time (fn vector : Nat) : (s.msix fn vector).time = s.time := rfl
@[simp] theorem State.msix_items (fn vector : Nat) : (s.msix fn vector).items = s.items := rfl
@[simp] theorem State.msix_nextItem (fn vector : Nat) : (s.msix fn vector).nextItem = s.nextItem := rfl
@[simp] theorem State.msix_copies (fn vector : Nat) : (s.msix fn vector).copies = s.copies := rfl
@[simp] theorem State.msix_nextCopy (fn vector : Nat) : (s.msix fn vector).nextCopy = s.nextCopy := rfl
@[simp] theorem State.msix_cls (fn vector : Nat) : (s.msix fn vector).cls = s.cls := rfl
@[simp] theorem State.msix_tables (fn vector : Nat) : (s.msix fn vector).tables = s.tables := rfl
@[simp] theorem State.msix_sw (fn vector : Nat) : (s.msix fn vector).sw = s.sw := rfl
@[simp] theorem State.msix_sched (fn vector : Nat) : (s.msix fn vector).sched = s.sched := rfl
@[simp] theorem State.msix_cipher (fn vector : Nat) : (s.msix fn vector).cipher = s.cipher := rfl
@[simp] theorem State.msix_ospOut (fn vector : Nat) : (s.msix fn vector).ospOut = s.ospOut := rfl
@[simp] theorem State.msix_capture (fn vector : Nat) : (s.msix fn vector).capture = s.capture := rfl
@[simp] theorem State.msix_journal (fn vector : Nat) : (s.msix fn vector).journal = s.journal := rfl
@[simp] theorem State.msix_host (fn vector : Nat) : (s.msix fn vector).host = s.host := rfl
@[simp] theorem State.msix_core (fn vector : Nat) : (s.msix fn vector).core = s.core := rfl
@[simp] theorem State.msix_store (fn vector : Nat) : (s.msix fn vector).store = s.store := rfl
@[simp] theorem State.msix_fuses (fn vector : Nat) : (s.msix fn vector).fuses = s.fuses := rfl
@[simp] theorem State.msix_power (fn vector : Nat) : (s.msix fn vector).power = s.power := rfl
@[simp] theorem State.msix_fault (fn vector : Nat) : (s.msix fn vector).fault = s.fault := rfl
@[simp] theorem State.msix_evt (fn vector : Nat) : (s.msix fn vector).evt = s.evt := rfl
@[simp] theorem State.msix_test (fn vector : Nat) : (s.msix fn vector).test = s.test := rfl
@[simp] theorem State.msix_cmd (fn vector : Nat) : (s.msix fn vector).cmd = s.cmd := rfl
@[simp] theorem State.msix_pending (fn vector : Nat) : (s.msix fn vector).pending = s.pending := rfl

@[simp] theorem State.took_regs : s.took.regs = s.regs := rfl
@[simp] theorem State.took_ctrs : s.took.ctrs = s.ctrs := rfl
@[simp] theorem State.took_now : s.took.now = s.now := rfl
@[simp] theorem State.took_out : s.took.out = s.out := rfl
@[simp] theorem State.took_raised : s.took.raised = s.raised := rfl
@[simp] theorem State.took_timers : s.took.timers = s.timers := rfl
@[simp] theorem State.took_pins : s.took.pins = s.pins := rfl
@[simp] theorem State.took_lines : s.took.lines = s.lines := rfl
@[simp] theorem State.took_frames : s.took.frames = s.frames := rfl
@[simp] theorem State.took_terms : s.took.terms = s.terms := rfl
@[simp] theorem State.took_time : s.took.time = s.time := rfl
@[simp] theorem State.took_items : s.took.items = s.items := rfl
@[simp] theorem State.took_nextItem : s.took.nextItem = s.nextItem := rfl
@[simp] theorem State.took_copies : s.took.copies = s.copies := rfl
@[simp] theorem State.took_nextCopy : s.took.nextCopy = s.nextCopy := rfl
@[simp] theorem State.took_cls : s.took.cls = s.cls := rfl
@[simp] theorem State.took_tables : s.took.tables = s.tables := rfl
@[simp] theorem State.took_sw : s.took.sw = s.sw := rfl
@[simp] theorem State.took_sched : s.took.sched = s.sched := rfl
@[simp] theorem State.took_cipher : s.took.cipher = s.cipher := rfl
@[simp] theorem State.took_ospOut : s.took.ospOut = s.ospOut := rfl
@[simp] theorem State.took_capture : s.took.capture = s.capture := rfl
@[simp] theorem State.took_journal : s.took.journal = s.journal := rfl
@[simp] theorem State.took_host : s.took.host = s.host := rfl
@[simp] theorem State.took_core : s.took.core = s.core := rfl
@[simp] theorem State.took_store : s.took.store = s.store := rfl
@[simp] theorem State.took_fuses : s.took.fuses = s.fuses := rfl
@[simp] theorem State.took_power : s.took.power = s.power := rfl
@[simp] theorem State.took_fault : s.took.fault = s.fault := rfl
@[simp] theorem State.took_evt : s.took.evt = s.evt := rfl
@[simp] theorem State.took_test : s.took.test = s.test := rfl
@[simp] theorem State.took_cmd : s.took.cmd = s.cmd := rfl
@[simp] theorem State.took_pending : s.took.pending = s.pending := rfl

@[simp] theorem State.start_regs (t : Timer) : (s.start t).regs = s.regs := rfl
@[simp] theorem State.start_ctrs (t : Timer) : (s.start t).ctrs = s.ctrs := rfl
@[simp] theorem State.start_now (t : Timer) : (s.start t).now = s.now := rfl
@[simp] theorem State.start_fresh (t : Timer) : (s.start t).fresh = s.fresh := rfl
@[simp] theorem State.start_out (t : Timer) : (s.start t).out = s.out := rfl
@[simp] theorem State.start_raised (t : Timer) : (s.start t).raised = s.raised := rfl
@[simp] theorem State.start_pins (t : Timer) : (s.start t).pins = s.pins := rfl
@[simp] theorem State.start_lines (t : Timer) : (s.start t).lines = s.lines := rfl
@[simp] theorem State.start_frames (t : Timer) : (s.start t).frames = s.frames := rfl
@[simp] theorem State.start_terms (t : Timer) : (s.start t).terms = s.terms := rfl
@[simp] theorem State.start_time (t : Timer) : (s.start t).time = s.time := rfl
@[simp] theorem State.start_items (t : Timer) : (s.start t).items = s.items := rfl
@[simp] theorem State.start_nextItem (t : Timer) : (s.start t).nextItem = s.nextItem := rfl
@[simp] theorem State.start_copies (t : Timer) : (s.start t).copies = s.copies := rfl
@[simp] theorem State.start_nextCopy (t : Timer) : (s.start t).nextCopy = s.nextCopy := rfl
@[simp] theorem State.start_cls (t : Timer) : (s.start t).cls = s.cls := rfl
@[simp] theorem State.start_tables (t : Timer) : (s.start t).tables = s.tables := rfl
@[simp] theorem State.start_sw (t : Timer) : (s.start t).sw = s.sw := rfl
@[simp] theorem State.start_sched (t : Timer) : (s.start t).sched = s.sched := rfl
@[simp] theorem State.start_cipher (t : Timer) : (s.start t).cipher = s.cipher := rfl
@[simp] theorem State.start_ospOut (t : Timer) : (s.start t).ospOut = s.ospOut := rfl
@[simp] theorem State.start_capture (t : Timer) : (s.start t).capture = s.capture := rfl
@[simp] theorem State.start_journal (t : Timer) : (s.start t).journal = s.journal := rfl
@[simp] theorem State.start_host (t : Timer) : (s.start t).host = s.host := rfl
@[simp] theorem State.start_core (t : Timer) : (s.start t).core = s.core := rfl
@[simp] theorem State.start_store (t : Timer) : (s.start t).store = s.store := rfl
@[simp] theorem State.start_fuses (t : Timer) : (s.start t).fuses = s.fuses := rfl
@[simp] theorem State.start_power (t : Timer) : (s.start t).power = s.power := rfl
@[simp] theorem State.start_fault (t : Timer) : (s.start t).fault = s.fault := rfl
@[simp] theorem State.start_evt (t : Timer) : (s.start t).evt = s.evt := rfl
@[simp] theorem State.start_test (t : Timer) : (s.start t).test = s.test := rfl
@[simp] theorem State.start_cmd (t : Timer) : (s.start t).cmd = s.cmd := rfl
@[simp] theorem State.start_pending (t : Timer) : (s.start t).pending = s.pending := rfl

@[simp] theorem State.stop_regs (t : Timer) : (s.stop t).regs = s.regs := rfl
@[simp] theorem State.stop_ctrs (t : Timer) : (s.stop t).ctrs = s.ctrs := rfl
@[simp] theorem State.stop_now (t : Timer) : (s.stop t).now = s.now := rfl
@[simp] theorem State.stop_fresh (t : Timer) : (s.stop t).fresh = s.fresh := rfl
@[simp] theorem State.stop_out (t : Timer) : (s.stop t).out = s.out := rfl
@[simp] theorem State.stop_raised (t : Timer) : (s.stop t).raised = s.raised := rfl
@[simp] theorem State.stop_pins (t : Timer) : (s.stop t).pins = s.pins := rfl
@[simp] theorem State.stop_lines (t : Timer) : (s.stop t).lines = s.lines := rfl
@[simp] theorem State.stop_frames (t : Timer) : (s.stop t).frames = s.frames := rfl
@[simp] theorem State.stop_terms (t : Timer) : (s.stop t).terms = s.terms := rfl
@[simp] theorem State.stop_time (t : Timer) : (s.stop t).time = s.time := rfl
@[simp] theorem State.stop_items (t : Timer) : (s.stop t).items = s.items := rfl
@[simp] theorem State.stop_nextItem (t : Timer) : (s.stop t).nextItem = s.nextItem := rfl
@[simp] theorem State.stop_copies (t : Timer) : (s.stop t).copies = s.copies := rfl
@[simp] theorem State.stop_nextCopy (t : Timer) : (s.stop t).nextCopy = s.nextCopy := rfl
@[simp] theorem State.stop_cls (t : Timer) : (s.stop t).cls = s.cls := rfl
@[simp] theorem State.stop_tables (t : Timer) : (s.stop t).tables = s.tables := rfl
@[simp] theorem State.stop_sw (t : Timer) : (s.stop t).sw = s.sw := rfl
@[simp] theorem State.stop_sched (t : Timer) : (s.stop t).sched = s.sched := rfl
@[simp] theorem State.stop_cipher (t : Timer) : (s.stop t).cipher = s.cipher := rfl
@[simp] theorem State.stop_ospOut (t : Timer) : (s.stop t).ospOut = s.ospOut := rfl
@[simp] theorem State.stop_capture (t : Timer) : (s.stop t).capture = s.capture := rfl
@[simp] theorem State.stop_journal (t : Timer) : (s.stop t).journal = s.journal := rfl
@[simp] theorem State.stop_host (t : Timer) : (s.stop t).host = s.host := rfl
@[simp] theorem State.stop_core (t : Timer) : (s.stop t).core = s.core := rfl
@[simp] theorem State.stop_store (t : Timer) : (s.stop t).store = s.store := rfl
@[simp] theorem State.stop_fuses (t : Timer) : (s.stop t).fuses = s.fuses := rfl
@[simp] theorem State.stop_power (t : Timer) : (s.stop t).power = s.power := rfl
@[simp] theorem State.stop_fault (t : Timer) : (s.stop t).fault = s.fault := rfl
@[simp] theorem State.stop_evt (t : Timer) : (s.stop t).evt = s.evt := rfl
@[simp] theorem State.stop_test (t : Timer) : (s.stop t).test = s.test := rfl
@[simp] theorem State.stop_cmd (t : Timer) : (s.stop t).cmd = s.cmd := rfl
@[simp] theorem State.stop_pending (t : Timer) : (s.stop t).pending = s.pending := rfl

@[simp] theorem State.setLine_regs (n : Nat) (f : LinePort → LinePort) : (s.setLine n f).regs = s.regs := rfl
@[simp] theorem State.setLine_ctrs (n : Nat) (f : LinePort → LinePort) : (s.setLine n f).ctrs = s.ctrs := rfl
@[simp] theorem State.setLine_now (n : Nat) (f : LinePort → LinePort) : (s.setLine n f).now = s.now := rfl
@[simp] theorem State.setLine_fresh (n : Nat) (f : LinePort → LinePort) : (s.setLine n f).fresh = s.fresh := rfl
@[simp] theorem State.setLine_out (n : Nat) (f : LinePort → LinePort) : (s.setLine n f).out = s.out := rfl
@[simp] theorem State.setLine_raised (n : Nat) (f : LinePort → LinePort) : (s.setLine n f).raised = s.raised := rfl
@[simp] theorem State.setLine_timers (n : Nat) (f : LinePort → LinePort) : (s.setLine n f).timers = s.timers := rfl
@[simp] theorem State.setLine_pins (n : Nat) (f : LinePort → LinePort) : (s.setLine n f).pins = s.pins := rfl
@[simp] theorem State.setLine_frames (n : Nat) (f : LinePort → LinePort) : (s.setLine n f).frames = s.frames := rfl
@[simp] theorem State.setLine_terms (n : Nat) (f : LinePort → LinePort) : (s.setLine n f).terms = s.terms := rfl
@[simp] theorem State.setLine_time (n : Nat) (f : LinePort → LinePort) : (s.setLine n f).time = s.time := rfl
@[simp] theorem State.setLine_items (n : Nat) (f : LinePort → LinePort) : (s.setLine n f).items = s.items := rfl
@[simp] theorem State.setLine_nextItem (n : Nat) (f : LinePort → LinePort) : (s.setLine n f).nextItem = s.nextItem := rfl
@[simp] theorem State.setLine_copies (n : Nat) (f : LinePort → LinePort) : (s.setLine n f).copies = s.copies := rfl
@[simp] theorem State.setLine_nextCopy (n : Nat) (f : LinePort → LinePort) : (s.setLine n f).nextCopy = s.nextCopy := rfl
@[simp] theorem State.setLine_cls (n : Nat) (f : LinePort → LinePort) : (s.setLine n f).cls = s.cls := rfl
@[simp] theorem State.setLine_tables (n : Nat) (f : LinePort → LinePort) : (s.setLine n f).tables = s.tables := rfl
@[simp] theorem State.setLine_sw (n : Nat) (f : LinePort → LinePort) : (s.setLine n f).sw = s.sw := rfl
@[simp] theorem State.setLine_sched (n : Nat) (f : LinePort → LinePort) : (s.setLine n f).sched = s.sched := rfl
@[simp] theorem State.setLine_cipher (n : Nat) (f : LinePort → LinePort) : (s.setLine n f).cipher = s.cipher := rfl
@[simp] theorem State.setLine_ospOut (n : Nat) (f : LinePort → LinePort) : (s.setLine n f).ospOut = s.ospOut := rfl
@[simp] theorem State.setLine_capture (n : Nat) (f : LinePort → LinePort) : (s.setLine n f).capture = s.capture := rfl
@[simp] theorem State.setLine_journal (n : Nat) (f : LinePort → LinePort) : (s.setLine n f).journal = s.journal := rfl
@[simp] theorem State.setLine_host (n : Nat) (f : LinePort → LinePort) : (s.setLine n f).host = s.host := rfl
@[simp] theorem State.setLine_core (n : Nat) (f : LinePort → LinePort) : (s.setLine n f).core = s.core := rfl
@[simp] theorem State.setLine_store (n : Nat) (f : LinePort → LinePort) : (s.setLine n f).store = s.store := rfl
@[simp] theorem State.setLine_fuses (n : Nat) (f : LinePort → LinePort) : (s.setLine n f).fuses = s.fuses := rfl
@[simp] theorem State.setLine_power (n : Nat) (f : LinePort → LinePort) : (s.setLine n f).power = s.power := rfl
@[simp] theorem State.setLine_fault (n : Nat) (f : LinePort → LinePort) : (s.setLine n f).fault = s.fault := rfl
@[simp] theorem State.setLine_evt (n : Nat) (f : LinePort → LinePort) : (s.setLine n f).evt = s.evt := rfl
@[simp] theorem State.setLine_test (n : Nat) (f : LinePort → LinePort) : (s.setLine n f).test = s.test := rfl
@[simp] theorem State.setLine_cmd (n : Nat) (f : LinePort → LinePort) : (s.setLine n f).cmd = s.cmd := rfl
@[simp] theorem State.setLine_pending (n : Nat) (f : LinePort → LinePort) : (s.setLine n f).pending = s.pending := rfl

@[simp] theorem State.setFrame_regs (n : Nat) (f : FramePort → FramePort) : (s.setFrame n f).regs = s.regs := rfl
@[simp] theorem State.setFrame_ctrs (n : Nat) (f : FramePort → FramePort) : (s.setFrame n f).ctrs = s.ctrs := rfl
@[simp] theorem State.setFrame_now (n : Nat) (f : FramePort → FramePort) : (s.setFrame n f).now = s.now := rfl
@[simp] theorem State.setFrame_fresh (n : Nat) (f : FramePort → FramePort) : (s.setFrame n f).fresh = s.fresh := rfl
@[simp] theorem State.setFrame_out (n : Nat) (f : FramePort → FramePort) : (s.setFrame n f).out = s.out := rfl
@[simp] theorem State.setFrame_raised (n : Nat) (f : FramePort → FramePort) : (s.setFrame n f).raised = s.raised := rfl
@[simp] theorem State.setFrame_timers (n : Nat) (f : FramePort → FramePort) : (s.setFrame n f).timers = s.timers := rfl
@[simp] theorem State.setFrame_pins (n : Nat) (f : FramePort → FramePort) : (s.setFrame n f).pins = s.pins := rfl
@[simp] theorem State.setFrame_lines (n : Nat) (f : FramePort → FramePort) : (s.setFrame n f).lines = s.lines := rfl
@[simp] theorem State.setFrame_terms (n : Nat) (f : FramePort → FramePort) : (s.setFrame n f).terms = s.terms := rfl
@[simp] theorem State.setFrame_time (n : Nat) (f : FramePort → FramePort) : (s.setFrame n f).time = s.time := rfl
@[simp] theorem State.setFrame_items (n : Nat) (f : FramePort → FramePort) : (s.setFrame n f).items = s.items := rfl
@[simp] theorem State.setFrame_nextItem (n : Nat) (f : FramePort → FramePort) : (s.setFrame n f).nextItem = s.nextItem := rfl
@[simp] theorem State.setFrame_copies (n : Nat) (f : FramePort → FramePort) : (s.setFrame n f).copies = s.copies := rfl
@[simp] theorem State.setFrame_nextCopy (n : Nat) (f : FramePort → FramePort) : (s.setFrame n f).nextCopy = s.nextCopy := rfl
@[simp] theorem State.setFrame_cls (n : Nat) (f : FramePort → FramePort) : (s.setFrame n f).cls = s.cls := rfl
@[simp] theorem State.setFrame_tables (n : Nat) (f : FramePort → FramePort) : (s.setFrame n f).tables = s.tables := rfl
@[simp] theorem State.setFrame_sw (n : Nat) (f : FramePort → FramePort) : (s.setFrame n f).sw = s.sw := rfl
@[simp] theorem State.setFrame_sched (n : Nat) (f : FramePort → FramePort) : (s.setFrame n f).sched = s.sched := rfl
@[simp] theorem State.setFrame_cipher (n : Nat) (f : FramePort → FramePort) : (s.setFrame n f).cipher = s.cipher := rfl
@[simp] theorem State.setFrame_ospOut (n : Nat) (f : FramePort → FramePort) : (s.setFrame n f).ospOut = s.ospOut := rfl
@[simp] theorem State.setFrame_capture (n : Nat) (f : FramePort → FramePort) : (s.setFrame n f).capture = s.capture := rfl
@[simp] theorem State.setFrame_journal (n : Nat) (f : FramePort → FramePort) : (s.setFrame n f).journal = s.journal := rfl
@[simp] theorem State.setFrame_host (n : Nat) (f : FramePort → FramePort) : (s.setFrame n f).host = s.host := rfl
@[simp] theorem State.setFrame_core (n : Nat) (f : FramePort → FramePort) : (s.setFrame n f).core = s.core := rfl
@[simp] theorem State.setFrame_store (n : Nat) (f : FramePort → FramePort) : (s.setFrame n f).store = s.store := rfl
@[simp] theorem State.setFrame_fuses (n : Nat) (f : FramePort → FramePort) : (s.setFrame n f).fuses = s.fuses := rfl
@[simp] theorem State.setFrame_power (n : Nat) (f : FramePort → FramePort) : (s.setFrame n f).power = s.power := rfl
@[simp] theorem State.setFrame_fault (n : Nat) (f : FramePort → FramePort) : (s.setFrame n f).fault = s.fault := rfl
@[simp] theorem State.setFrame_evt (n : Nat) (f : FramePort → FramePort) : (s.setFrame n f).evt = s.evt := rfl
@[simp] theorem State.setFrame_test (n : Nat) (f : FramePort → FramePort) : (s.setFrame n f).test = s.test := rfl
@[simp] theorem State.setFrame_cmd (n : Nat) (f : FramePort → FramePort) : (s.setFrame n f).cmd = s.cmd := rfl
@[simp] theorem State.setFrame_pending (n : Nat) (f : FramePort → FramePort) : (s.setFrame n f).pending = s.pending := rfl

@[simp] theorem State.setTerm_regs (n : Nat) (f : Terminal → Terminal) : (s.setTerm n f).regs = s.regs := rfl
@[simp] theorem State.setTerm_ctrs (n : Nat) (f : Terminal → Terminal) : (s.setTerm n f).ctrs = s.ctrs := rfl
@[simp] theorem State.setTerm_now (n : Nat) (f : Terminal → Terminal) : (s.setTerm n f).now = s.now := rfl
@[simp] theorem State.setTerm_fresh (n : Nat) (f : Terminal → Terminal) : (s.setTerm n f).fresh = s.fresh := rfl
@[simp] theorem State.setTerm_out (n : Nat) (f : Terminal → Terminal) : (s.setTerm n f).out = s.out := rfl
@[simp] theorem State.setTerm_raised (n : Nat) (f : Terminal → Terminal) : (s.setTerm n f).raised = s.raised := rfl
@[simp] theorem State.setTerm_timers (n : Nat) (f : Terminal → Terminal) : (s.setTerm n f).timers = s.timers := rfl
@[simp] theorem State.setTerm_pins (n : Nat) (f : Terminal → Terminal) : (s.setTerm n f).pins = s.pins := rfl
@[simp] theorem State.setTerm_lines (n : Nat) (f : Terminal → Terminal) : (s.setTerm n f).lines = s.lines := rfl
@[simp] theorem State.setTerm_frames (n : Nat) (f : Terminal → Terminal) : (s.setTerm n f).frames = s.frames := rfl
@[simp] theorem State.setTerm_time (n : Nat) (f : Terminal → Terminal) : (s.setTerm n f).time = s.time := rfl
@[simp] theorem State.setTerm_items (n : Nat) (f : Terminal → Terminal) : (s.setTerm n f).items = s.items := rfl
@[simp] theorem State.setTerm_nextItem (n : Nat) (f : Terminal → Terminal) : (s.setTerm n f).nextItem = s.nextItem := rfl
@[simp] theorem State.setTerm_copies (n : Nat) (f : Terminal → Terminal) : (s.setTerm n f).copies = s.copies := rfl
@[simp] theorem State.setTerm_nextCopy (n : Nat) (f : Terminal → Terminal) : (s.setTerm n f).nextCopy = s.nextCopy := rfl
@[simp] theorem State.setTerm_cls (n : Nat) (f : Terminal → Terminal) : (s.setTerm n f).cls = s.cls := rfl
@[simp] theorem State.setTerm_tables (n : Nat) (f : Terminal → Terminal) : (s.setTerm n f).tables = s.tables := rfl
@[simp] theorem State.setTerm_sw (n : Nat) (f : Terminal → Terminal) : (s.setTerm n f).sw = s.sw := rfl
@[simp] theorem State.setTerm_sched (n : Nat) (f : Terminal → Terminal) : (s.setTerm n f).sched = s.sched := rfl
@[simp] theorem State.setTerm_cipher (n : Nat) (f : Terminal → Terminal) : (s.setTerm n f).cipher = s.cipher := rfl
@[simp] theorem State.setTerm_ospOut (n : Nat) (f : Terminal → Terminal) : (s.setTerm n f).ospOut = s.ospOut := rfl
@[simp] theorem State.setTerm_capture (n : Nat) (f : Terminal → Terminal) : (s.setTerm n f).capture = s.capture := rfl
@[simp] theorem State.setTerm_journal (n : Nat) (f : Terminal → Terminal) : (s.setTerm n f).journal = s.journal := rfl
@[simp] theorem State.setTerm_host (n : Nat) (f : Terminal → Terminal) : (s.setTerm n f).host = s.host := rfl
@[simp] theorem State.setTerm_core (n : Nat) (f : Terminal → Terminal) : (s.setTerm n f).core = s.core := rfl
@[simp] theorem State.setTerm_store (n : Nat) (f : Terminal → Terminal) : (s.setTerm n f).store = s.store := rfl
@[simp] theorem State.setTerm_fuses (n : Nat) (f : Terminal → Terminal) : (s.setTerm n f).fuses = s.fuses := rfl
@[simp] theorem State.setTerm_power (n : Nat) (f : Terminal → Terminal) : (s.setTerm n f).power = s.power := rfl
@[simp] theorem State.setTerm_fault (n : Nat) (f : Terminal → Terminal) : (s.setTerm n f).fault = s.fault := rfl
@[simp] theorem State.setTerm_evt (n : Nat) (f : Terminal → Terminal) : (s.setTerm n f).evt = s.evt := rfl
@[simp] theorem State.setTerm_test (n : Nat) (f : Terminal → Terminal) : (s.setTerm n f).test = s.test := rfl
@[simp] theorem State.setTerm_cmd (n : Nat) (f : Terminal → Terminal) : (s.setTerm n f).cmd = s.cmd := rfl
@[simp] theorem State.setTerm_pending (n : Nat) (f : Terminal → Terminal) : (s.setTerm n f).pending = s.pending := rfl

@[simp] theorem State.setCmd_regs (f : CmdState → CmdState) : (s.setCmd f).regs = s.regs := rfl
@[simp] theorem State.setCmd_ctrs (f : CmdState → CmdState) : (s.setCmd f).ctrs = s.ctrs := rfl
@[simp] theorem State.setCmd_now (f : CmdState → CmdState) : (s.setCmd f).now = s.now := rfl
@[simp] theorem State.setCmd_fresh (f : CmdState → CmdState) : (s.setCmd f).fresh = s.fresh := rfl
@[simp] theorem State.setCmd_out (f : CmdState → CmdState) : (s.setCmd f).out = s.out := rfl
@[simp] theorem State.setCmd_raised (f : CmdState → CmdState) : (s.setCmd f).raised = s.raised := rfl
@[simp] theorem State.setCmd_timers (f : CmdState → CmdState) : (s.setCmd f).timers = s.timers := rfl
@[simp] theorem State.setCmd_pins (f : CmdState → CmdState) : (s.setCmd f).pins = s.pins := rfl
@[simp] theorem State.setCmd_lines (f : CmdState → CmdState) : (s.setCmd f).lines = s.lines := rfl
@[simp] theorem State.setCmd_frames (f : CmdState → CmdState) : (s.setCmd f).frames = s.frames := rfl
@[simp] theorem State.setCmd_terms (f : CmdState → CmdState) : (s.setCmd f).terms = s.terms := rfl
@[simp] theorem State.setCmd_time (f : CmdState → CmdState) : (s.setCmd f).time = s.time := rfl
@[simp] theorem State.setCmd_items (f : CmdState → CmdState) : (s.setCmd f).items = s.items := rfl
@[simp] theorem State.setCmd_nextItem (f : CmdState → CmdState) : (s.setCmd f).nextItem = s.nextItem := rfl
@[simp] theorem State.setCmd_copies (f : CmdState → CmdState) : (s.setCmd f).copies = s.copies := rfl
@[simp] theorem State.setCmd_nextCopy (f : CmdState → CmdState) : (s.setCmd f).nextCopy = s.nextCopy := rfl
@[simp] theorem State.setCmd_cls (f : CmdState → CmdState) : (s.setCmd f).cls = s.cls := rfl
@[simp] theorem State.setCmd_tables (f : CmdState → CmdState) : (s.setCmd f).tables = s.tables := rfl
@[simp] theorem State.setCmd_sw (f : CmdState → CmdState) : (s.setCmd f).sw = s.sw := rfl
@[simp] theorem State.setCmd_sched (f : CmdState → CmdState) : (s.setCmd f).sched = s.sched := rfl
@[simp] theorem State.setCmd_cipher (f : CmdState → CmdState) : (s.setCmd f).cipher = s.cipher := rfl
@[simp] theorem State.setCmd_ospOut (f : CmdState → CmdState) : (s.setCmd f).ospOut = s.ospOut := rfl
@[simp] theorem State.setCmd_capture (f : CmdState → CmdState) : (s.setCmd f).capture = s.capture := rfl
@[simp] theorem State.setCmd_journal (f : CmdState → CmdState) : (s.setCmd f).journal = s.journal := rfl
@[simp] theorem State.setCmd_host (f : CmdState → CmdState) : (s.setCmd f).host = s.host := rfl
@[simp] theorem State.setCmd_core (f : CmdState → CmdState) : (s.setCmd f).core = s.core := rfl
@[simp] theorem State.setCmd_store (f : CmdState → CmdState) : (s.setCmd f).store = s.store := rfl
@[simp] theorem State.setCmd_fuses (f : CmdState → CmdState) : (s.setCmd f).fuses = s.fuses := rfl
@[simp] theorem State.setCmd_power (f : CmdState → CmdState) : (s.setCmd f).power = s.power := rfl
@[simp] theorem State.setCmd_fault (f : CmdState → CmdState) : (s.setCmd f).fault = s.fault := rfl
@[simp] theorem State.setCmd_evt (f : CmdState → CmdState) : (s.setCmd f).evt = s.evt := rfl
@[simp] theorem State.setCmd_test (f : CmdState → CmdState) : (s.setCmd f).test = s.test := rfl
@[simp] theorem State.setCmd_pending (f : CmdState → CmdState) : (s.setCmd f).pending = s.pending := rfl

/-- What one register write keeps, a list of them keeps. -/
theorem State.setAll_keep {α : Type} (p : State → α) (hp : ∀ (s : State) (f : Fld) (v i j : Nat), p (s.set f v i j) = p s)
    (l : List (Fld × Nat)) (i j : Nat) (s : State) : p (s.setAll l i j) = p s := by
  unfold State.setAll
  induction l generalizing s with
  | nil => rfl
  | cons e r ih => exact (ih (s.set e.1 e.2 i j)).trans (hp s e.1 e.2 i j)

@[simp] theorem State.setAll_ctrs (l : List (Fld × Nat)) (i j : Nat) : (s.setAll l i j).ctrs = s.ctrs := State.setAll_keep State.ctrs (fun _ _ _ _ _ => rfl) l i j s
@[simp] theorem State.setAll_now (l : List (Fld × Nat)) (i j : Nat) : (s.setAll l i j).now = s.now := State.setAll_keep State.now (fun _ _ _ _ _ => rfl) l i j s
@[simp] theorem State.setAll_fresh (l : List (Fld × Nat)) (i j : Nat) : (s.setAll l i j).fresh = s.fresh := State.setAll_keep State.fresh (fun _ _ _ _ _ => rfl) l i j s
@[simp] theorem State.setAll_out (l : List (Fld × Nat)) (i j : Nat) : (s.setAll l i j).out = s.out := State.setAll_keep State.out (fun _ _ _ _ _ => rfl) l i j s
@[simp] theorem State.setAll_raised (l : List (Fld × Nat)) (i j : Nat) : (s.setAll l i j).raised = s.raised := State.setAll_keep State.raised (fun _ _ _ _ _ => rfl) l i j s
@[simp] theorem State.setAll_timers (l : List (Fld × Nat)) (i j : Nat) : (s.setAll l i j).timers = s.timers := State.setAll_keep State.timers (fun _ _ _ _ _ => rfl) l i j s
@[simp] theorem State.setAll_pins (l : List (Fld × Nat)) (i j : Nat) : (s.setAll l i j).pins = s.pins := State.setAll_keep State.pins (fun _ _ _ _ _ => rfl) l i j s
@[simp] theorem State.setAll_lines (l : List (Fld × Nat)) (i j : Nat) : (s.setAll l i j).lines = s.lines := State.setAll_keep State.lines (fun _ _ _ _ _ => rfl) l i j s
@[simp] theorem State.setAll_frames (l : List (Fld × Nat)) (i j : Nat) : (s.setAll l i j).frames = s.frames := State.setAll_keep State.frames (fun _ _ _ _ _ => rfl) l i j s
@[simp] theorem State.setAll_terms (l : List (Fld × Nat)) (i j : Nat) : (s.setAll l i j).terms = s.terms := State.setAll_keep State.terms (fun _ _ _ _ _ => rfl) l i j s
@[simp] theorem State.setAll_time (l : List (Fld × Nat)) (i j : Nat) : (s.setAll l i j).time = s.time := State.setAll_keep State.time (fun _ _ _ _ _ => rfl) l i j s
@[simp] theorem State.setAll_items (l : List (Fld × Nat)) (i j : Nat) : (s.setAll l i j).items = s.items := State.setAll_keep State.items (fun _ _ _ _ _ => rfl) l i j s
@[simp] theorem State.setAll_nextItem (l : List (Fld × Nat)) (i j : Nat) : (s.setAll l i j).nextItem = s.nextItem := State.setAll_keep State.nextItem (fun _ _ _ _ _ => rfl) l i j s
@[simp] theorem State.setAll_copies (l : List (Fld × Nat)) (i j : Nat) : (s.setAll l i j).copies = s.copies := State.setAll_keep State.copies (fun _ _ _ _ _ => rfl) l i j s
@[simp] theorem State.setAll_nextCopy (l : List (Fld × Nat)) (i j : Nat) : (s.setAll l i j).nextCopy = s.nextCopy := State.setAll_keep State.nextCopy (fun _ _ _ _ _ => rfl) l i j s
@[simp] theorem State.setAll_cls (l : List (Fld × Nat)) (i j : Nat) : (s.setAll l i j).cls = s.cls := State.setAll_keep State.cls (fun _ _ _ _ _ => rfl) l i j s
@[simp] theorem State.setAll_tables (l : List (Fld × Nat)) (i j : Nat) : (s.setAll l i j).tables = s.tables := State.setAll_keep State.tables (fun _ _ _ _ _ => rfl) l i j s
@[simp] theorem State.setAll_sw (l : List (Fld × Nat)) (i j : Nat) : (s.setAll l i j).sw = s.sw := State.setAll_keep State.sw (fun _ _ _ _ _ => rfl) l i j s
@[simp] theorem State.setAll_sched (l : List (Fld × Nat)) (i j : Nat) : (s.setAll l i j).sched = s.sched := State.setAll_keep State.sched (fun _ _ _ _ _ => rfl) l i j s
@[simp] theorem State.setAll_cipher (l : List (Fld × Nat)) (i j : Nat) : (s.setAll l i j).cipher = s.cipher := State.setAll_keep State.cipher (fun _ _ _ _ _ => rfl) l i j s
@[simp] theorem State.setAll_ospOut (l : List (Fld × Nat)) (i j : Nat) : (s.setAll l i j).ospOut = s.ospOut := State.setAll_keep State.ospOut (fun _ _ _ _ _ => rfl) l i j s
@[simp] theorem State.setAll_capture (l : List (Fld × Nat)) (i j : Nat) : (s.setAll l i j).capture = s.capture := State.setAll_keep State.capture (fun _ _ _ _ _ => rfl) l i j s
@[simp] theorem State.setAll_journal (l : List (Fld × Nat)) (i j : Nat) : (s.setAll l i j).journal = s.journal := State.setAll_keep State.journal (fun _ _ _ _ _ => rfl) l i j s
@[simp] theorem State.setAll_host (l : List (Fld × Nat)) (i j : Nat) : (s.setAll l i j).host = s.host := State.setAll_keep State.host (fun _ _ _ _ _ => rfl) l i j s
@[simp] theorem State.setAll_core (l : List (Fld × Nat)) (i j : Nat) : (s.setAll l i j).core = s.core := State.setAll_keep State.core (fun _ _ _ _ _ => rfl) l i j s
@[simp] theorem State.setAll_store (l : List (Fld × Nat)) (i j : Nat) : (s.setAll l i j).store = s.store := State.setAll_keep State.store (fun _ _ _ _ _ => rfl) l i j s
@[simp] theorem State.setAll_fuses (l : List (Fld × Nat)) (i j : Nat) : (s.setAll l i j).fuses = s.fuses := State.setAll_keep State.fuses (fun _ _ _ _ _ => rfl) l i j s
@[simp] theorem State.setAll_power (l : List (Fld × Nat)) (i j : Nat) : (s.setAll l i j).power = s.power := State.setAll_keep State.power (fun _ _ _ _ _ => rfl) l i j s
@[simp] theorem State.setAll_fault (l : List (Fld × Nat)) (i j : Nat) : (s.setAll l i j).fault = s.fault := State.setAll_keep State.fault (fun _ _ _ _ _ => rfl) l i j s
@[simp] theorem State.setAll_evt (l : List (Fld × Nat)) (i j : Nat) : (s.setAll l i j).evt = s.evt := State.setAll_keep State.evt (fun _ _ _ _ _ => rfl) l i j s
@[simp] theorem State.setAll_test (l : List (Fld × Nat)) (i j : Nat) : (s.setAll l i j).test = s.test := State.setAll_keep State.test (fun _ _ _ _ _ => rfl) l i j s
@[simp] theorem State.setAll_cmd (l : List (Fld × Nat)) (i j : Nat) : (s.setAll l i j).cmd = s.cmd := State.setAll_keep State.cmd (fun _ _ _ _ _ => rfl) l i j s
@[simp] theorem State.setAll_pending (l : List (Fld × Nat)) (i j : Nat) : (s.setAll l i j).pending = s.pending := State.setAll_keep State.pending (fun _ _ _ _ _ => rfl) l i j s

end Sys2Proof.Machine
end

