-- ==== Sys2Proof/Laws/Ops.lean ====
section
/-!
SUPPORT. The register file and the counters: a field written reads as the value written, cut to its width; every other reads as before;
what the named operations keep of `RegInv`.
-/
namespace Sys2Proof.Machine

open Sys2Proof

theorem Fld.ctorIdx_inj {f g : Fld} (h : f.ctorIdx = g.ctorIdx) : f = g := by
  have := congrArg Fld.ofNat h
  simpa [Fld.ofNat_ctorIdx] using this

theorem Ctr.ctorIdx_inj {f g : Ctr} (h : f.ctorIdx = g.ctorIdx) : f = g := by
  have := congrArg Ctr.ofNat h
  simpa [Ctr.ofNat_ctorIdx] using this

/-- Distinct field instances have distinct keys. -/
theorem Fld.key_inj {f g : Fld} {i j a b : Nat} : f.key i j = g.key a b ↔ f = g ∧ i = a ∧ j = b := by
  constructor
  · intro h
    obtain ⟨h1, h2⟩ := Nat.pair_eq_pair.1 h
    obtain ⟨h3, h4⟩ := Nat.pair_eq_pair.1 h2
    exact ⟨Fld.ctorIdx_inj h1, h3, h4⟩
  · rintro ⟨rfl, rfl, rfl⟩; rfl

/-- Distinct counter instances have distinct keys. -/
theorem Ctr.key_inj {f g : Ctr} {i j a b : Nat} : f.key i j = g.key a b ↔ f = g ∧ i = a ∧ j = b := by
  constructor
  · intro h
    obtain ⟨h1, h2⟩ := Nat.pair_eq_pair.1 h
    obtain ⟨h3, h4⟩ := Nat.pair_eq_pair.1 h2
    exact ⟨Ctr.ctorIdx_inj h1, h3, h4⟩
  · rintro ⟨rfl, rfl, rfl⟩; rfl

variable {s : State}

/-- A field written reads as the value written, cut to its width (R4). -/
theorem State.get_set_self (f : Fld) (v i j : Nat) : (s.set f v i j).get f i j = v % 2 ^ f.row.w :=
  Tab.get_put_self _ _ _ _

/-- Every other field instance reads as before. -/
theorem State.get_set_ne (f g : Fld) (v i j a b : Nat) (h : ¬(g = f ∧ a = i ∧ b = j)) :
    (s.set f v i j).get g a b = s.get g a b := by
  refine Tab.get_put_ne _ _ _ _ _ _ ?_
  intro e; exact h (Fld.key_inj.1 e)

/-- A counter that rises reads its old value and n, up to its stop value (R37). -/
theorem State.ctr_bump_self (c : Ctr) (n i j : Nat) (h : s.standsStill c i = false) :
    (s.bump c n i j).ctr c i j = min (s.ctr c i j + n) ctrMax := by
  refine (Tab.get_put_self _ _ _ _).trans ?_
  rw [h]
  rfl

/-- A counter that stands still in STANDBY reads as before (R378). -/
theorem State.ctr_bump_still (c : Ctr) (n i j : Nat) (h : s.standsStill c i = true) : (s.bump c n i j).ctr c i j = s.ctr c i j :=
  (Tab.get_put_self _ _ _ _).trans (if_pos h)

/-- Every other counter reads as before. -/
theorem State.ctr_bump_ne (c d : Ctr) (n i j a b : Nat) (h : ¬(d = c ∧ a = i ∧ b = j)) :
    (s.bump c n i j).ctr d a b = s.ctr d a b := by
  refine Tab.get_put_ne _ _ _ _ _ _ ?_
  intro e; exact h (Ctr.key_inj.1 e)

@[simp] theorem State.set_ctr (f : Fld) (v i j : Nat) (c : Ctr) (a b : Nat) : (s.set f v i j).ctr c a b = s.ctr c a b := rfl
@[simp] theorem State.bump_get (c : Ctr) (n i j : Nat) (f : Fld) (a b : Nat) : (s.bump c n i j).get f a b = s.get f a b := rfl
@[simp] theorem State.raise_get (code : Nat) (ws tail : List Nat) (f : Fld) (a b : Nat) : (s.raise code ws tail).get f a b = s.get f a b := rfl
@[simp] theorem State.raise_ctr (code : Nat) (ws tail : List Nat) (c : Ctr) (a b : Nat) : (s.raise code ws tail).ctr c a b = s.ctr c a b := rfl
@[simp] theorem State.emit_get (o : Out) (f : Fld) (a b : Nat) : (s.emit o).get f a b = s.get f a b := rfl
@[simp] theorem State.emit_ctr (o : Out) (c : Ctr) (a b : Nat) : (s.emit o).ctr c a b = s.ctr c a b := rfl
@[simp] theorem State.setCmd_get (g : CmdState → CmdState) (f : Fld) (a b : Nat) : (s.setCmd g).get f a b = s.get f a b := rfl
@[simp] theorem State.setCmd_ctr (g : CmdState → CmdState) (c : Ctr) (a b : Nat) : (s.setCmd g).ctr c a b = s.ctr c a b := rfl

/-- A state with the same register file and counters is as sound. -/
theorem RegInv.of_eq {t : State} (h : RegInv s) (hr : t.regs = s.regs) (hc : t.ctrs = s.ctrs) : RegInv t := by
  obtain ⟨a, b, c, d, e, f⟩ := h
  refine ⟨hr ▸ a, hc ▸ b, fun x i j => hr ▸ c x i j, fun x i j => hc ▸ d x i j, ?_, ?_⟩
  · intro x i j; have := e x i j; simp only [State.get] at this ⊢; rw [hr]; exact this
  · intro x i j; have := f x i j; simp only [State.ctr] at this ⊢; rw [hc]; exact this

/-- A register write keeps the register file sound. -/
theorem RegInv.set (h : RegInv s) (f : Fld) (v i j : Nat) : RegInv (s.set f v i j) := by
  obtain ⟨a, b, c, d, e, g⟩ := h
  refine ⟨Tab.sorted_put _ _ _ _ a, b, ?_, d, ?_, g⟩
  · intro x k l hm
    rcases Tab.mem_put _ _ _ _ _ hm with ⟨he, hv⟩ | hm
    · injection he with he1 he2
      obtain ⟨rfl, rfl, rfl⟩ := Fld.key_inj.1 he1
      exact hv he2.symm
    · exact c x k l hm
  · intro x k l
    by_cases hx : x = f ∧ k = i ∧ l = j
    · obtain ⟨rfl, rfl, rfl⟩ := hx
      rw [State.get_set_self]
      exact Nat.mod_lt _ (Nat.two_pow_pos _)
    · rw [State.get_set_ne _ _ _ _ _ _ _ hx]; exact e x k l

/-- A counter's rise keeps the counters sound. -/
theorem RegInv.bump (h : RegInv s) (c : Ctr) (n i j : Nat) : RegInv (s.bump c n i j) := by
  obtain ⟨a, b, r, d, e, g⟩ := h
  refine ⟨a, Tab.sorted_put _ _ _ _ b, r, ?_, e, ?_⟩
  · intro x k l hm
    rcases Tab.mem_put _ _ _ _ _ hm with ⟨he, hv⟩ | hm
    · injection he with he1 he2
      exact hv he2.symm
    · exact d x k l hm
  · intro x k l
    by_cases hx : x = c ∧ k = i ∧ l = j
    · obtain ⟨rfl, rfl, rfl⟩ := hx
      cases hs : s.standsStill x k
      · rw [State.ctr_bump_self _ _ _ _ hs]; exact Nat.min_le_right _ _
      · rw [State.ctr_bump_still _ _ _ _ hs]; exact g x k l
    · rw [State.ctr_bump_ne _ _ _ _ _ _ _ hx]; exact g x k l

theorem RegInv.setI (h : RegInv s) (f : Fld) (v : Int) (i j : Nat) : RegInv (s.setI f v i j) := h.set f _ i j
theorem RegInv.inc (h : RegInv s) (c : Ctr) (i j : Nat) : RegInv (s.inc c i j) := h.bump c 1 i j

theorem RegInv.setAll (h : RegInv s) (l : List (Fld × Nat)) (i j : Nat) : RegInv (s.setAll l i j) := by
  unfold State.setAll
  induction l generalizing s with
  | nil => exact h
  | cons p r ih => exact ih (h.set p.1 p.2 i j)

theorem RegInv.when (h : RegInv s) (c : Bool) (f : State → State) (hf : RegInv (f s)) : RegInv (s.when c f) := by
  unfold State.when; split <;> assumption

/-- Folding steps that keep the register file sound keeps it sound. -/
theorem RegInv.foldl {β : Type} (g : State → β → State) (hg : ∀ s b, RegInv s → RegInv (g s b)) (l : List β) (h : RegInv s) :
    RegInv (l.foldl g s) := by
  induction l generalizing s with
  | nil => exact h
  | cons b r ih => exact ih (hg s b h)

end Sys2Proof.Machine
end

