-- ==== Sys2Proof/Laws/Access.lean ====
section
/-!
SUPPORT. What each accessor reads after each named operation that does not write it: as before. For a register written, every other
register reads as before.
-/
namespace Sys2Proof.Machine

open Sys2Proof

variable (s : State)

theorem State.get_set_other {f g : Fld} (h : g ≠ f) (v i j a b : Nat) : (s.set f v i j).get g a b = s.get g a b :=
  State.get_set_ne _ _ _ _ _ _ _ (fun e => h e.1)

theorem State.irq_get_other {g st en : Fld} (h : g ≠ st) (v i a b : Nat) : (s.irq st en v i).get g a b = s.get g a b := by
  unfold State.irq; dsimp only; split <;> exact State.get_set_other _ h _ _ _ _ _

theorem State.setAll_get_other {g : Fld} {l : List (Fld × Nat)} (h : ∀ p ∈ l, g ≠ p.1) (i j a b : Nat) :
    (s.setAll l i j).get g a b = s.get g a b := by
  unfold State.setAll
  induction l generalizing s with
  | nil => rfl
  | cons p r ih =>
    rw [List.foldl_cons, ih _ (fun q hq => h q (List.mem_cons_of_mem _ hq)), State.get_set_other _ (h p List.mem_cons_self)]

@[simp] theorem State.set_get {f x : Fld} (h : x ≠ f) (v i j : Nat) (a b : Nat) : (s.set f v i j).get x a b = s.get x a b :=
  State.get_set_other _ h _ _ _ _ _
@[simp] theorem State.setI_get {f x : Fld} (h : x ≠ f) (v : Int) (i j : Nat) (a b : Nat) : (s.setI f v i j).get x a b = s.get x a b :=
  State.get_set_other _ h _ _ _ _ _
@[simp] theorem State.inc_get (c : Ctr) (i j : Nat) (x : Fld) (a b : Nat) : (s.inc c i j).get x a b = s.get x a b := rfl
@[simp] theorem State.msix_get (u v : Nat) (x : Fld) (a b : Nat) : (s.msix u v).get x a b = s.get x a b := rfl
@[simp] theorem State.took_get (x : Fld) (a b : Nat) : (s.took).get x a b = s.get x a b := rfl
@[simp] theorem State.start_get (t : Timer) (x : Fld) (a b : Nat) : (s.start t).get x a b = s.get x a b := rfl
@[simp] theorem State.stop_get (t : Timer) (x : Fld) (a b : Nat) : (s.stop t).get x a b = s.get x a b := rfl
@[simp] theorem State.setLine_get (n : Nat) (g : LinePort → LinePort) (x : Fld) (a b : Nat) : (s.setLine n g).get x a b = s.get x a b := rfl
@[simp] theorem State.setFrame_get (n : Nat) (g : FramePort → FramePort) (x : Fld) (a b : Nat) : (s.setFrame n g).get x a b = s.get x a b := rfl
@[simp] theorem State.setTerm_get (n : Nat) (g : Terminal → Terminal) (x : Fld) (a b : Nat) : (s.setTerm n g).get x a b = s.get x a b := rfl
@[simp] theorem State.setPower_get (g : PowerState → PowerState) (x : Fld) (a b : Nat) : (s.setPower g).get x a b = s.get x a b := rfl
@[simp] theorem State.setFault_get (g : FaultState → FaultState) (x : Fld) (a b : Nat) : (s.setFault g).get x a b = s.get x a b := rfl
@[simp] theorem State.setEvt_get (g : EvtState → EvtState) (x : Fld) (a b : Nat) : (s.setEvt g).get x a b = s.get x a b := rfl
@[simp] theorem State.setStore_get (g : StoreState → StoreState) (x : Fld) (a b : Nat) : (s.setStore g).get x a b = s.get x a b := rfl
@[simp] theorem State.setNand_get (g : Nand → Nand) (x : Fld) (a b : Nat) : (s.setNand g).get x a b = s.get x a b := rfl
@[simp] theorem State.setCore_get (g : CoreState → CoreState) (x : Fld) (a b : Nat) : (s.setCore g).get x a b = s.get x a b := rfl
@[simp] theorem State.setCipher_get (g : CipherState → CipherState) (x : Fld) (a b : Nat) : (s.setCipher g).get x a b = s.get x a b := rfl
@[simp] theorem State.setCls_get (g : ClassState → ClassState) (x : Fld) (a b : Nat) : (s.setCls g).get x a b = s.get x a b := rfl
@[simp] theorem State.setSw_get (g : SwitchState → SwitchState) (x : Fld) (a b : Nat) : (s.setSw g).get x a b = s.get x a b := rfl
@[simp] theorem State.setTbl_get (g : TableState → TableState) (x : Fld) (a b : Nat) : (s.setTbl g).get x a b = s.get x a b := rfl
@[simp] theorem State.setTime_get (g : TimeState → TimeState) (x : Fld) (a b : Nat) : (s.setTime g).get x a b = s.get x a b := rfl
@[simp] theorem State.irq_get {x st en : Fld} (h : x ≠ st) (v i a b : Nat) : (s.irq st en v i).get x a b = s.get x a b :=
  State.irq_get_other _ h _ _ _ _
@[simp] theorem State.setAll_get {x : Fld} {l : List (Fld × Nat)} (h : ∀ p ∈ l, x ≠ p.1) (i j a b : Nat) :
    (s.setAll l i j).get x a b = s.get x a b :=
  State.setAll_get_other _ h _ _ _ _

@[simp] theorem State.set_getI {f x : Fld} (h : x ≠ f) (v i j : Nat) (a b : Nat) : (s.set f v i j).getI x a b = s.getI x a b := by
  simp only [State.getI, State.set_get _ h]
@[simp] theorem State.setI_getI {f x : Fld} (h : x ≠ f) (v : Int) (i j : Nat) (a b : Nat) : (s.setI f v i j).getI x a b = s.getI x a b := by
  simp only [State.getI, State.setI_get _ h]
@[simp] theorem State.bump_getI (c : Ctr) (n i j : Nat) (x : Fld) (a b : Nat) : (s.bump c n i j).getI x a b = s.getI x a b := rfl
@[simp] theorem State.inc_getI (c : Ctr) (i j : Nat) (x : Fld) (a b : Nat) : (s.inc c i j).getI x a b = s.getI x a b := rfl
@[simp] theorem State.raise_getI (code : Nat) (ws tail : List Nat) (x : Fld) (a b : Nat) : (s.raise code ws tail).getI x a b = s.getI x a b := rfl
@[simp] theorem State.emit_getI (o : Out) (x : Fld) (a b : Nat) : (s.emit o).getI x a b = s.getI x a b := rfl
@[simp] theorem State.msix_getI (u v : Nat) (x : Fld) (a b : Nat) : (s.msix u v).getI x a b = s.getI x a b := rfl
@[simp] theorem State.took_getI (x : Fld) (a b : Nat) : (s.took).getI x a b = s.getI x a b := rfl
@[simp] theorem State.start_getI (t : Timer) (x : Fld) (a b : Nat) : (s.start t).getI x a b = s.getI x a b := rfl
@[simp] theorem State.stop_getI (t : Timer) (x : Fld) (a b : Nat) : (s.stop t).getI x a b = s.getI x a b := rfl
@[simp] theorem State.setLine_getI (n : Nat) (g : LinePort → LinePort) (x : Fld) (a b : Nat) : (s.setLine n g).getI x a b = s.getI x a b := rfl
@[simp] theorem State.setFrame_getI (n : Nat) (g : FramePort → FramePort) (x : Fld) (a b : Nat) : (s.setFrame n g).getI x a b = s.getI x a b := rfl
@[simp] theorem State.setTerm_getI (n : Nat) (g : Terminal → Terminal) (x : Fld) (a b : Nat) : (s.setTerm n g).getI x a b = s.getI x a b := rfl
@[simp] theorem State.setCmd_getI (g : CmdState → CmdState) (x : Fld) (a b : Nat) : (s.setCmd g).getI x a b = s.getI x a b := rfl
@[simp] theorem State.setPower_getI (g : PowerState → PowerState) (x : Fld) (a b : Nat) : (s.setPower g).getI x a b = s.getI x a b := rfl
@[simp] theorem State.setFault_getI (g : FaultState → FaultState) (x : Fld) (a b : Nat) : (s.setFault g).getI x a b = s.getI x a b := rfl
@[simp] theorem State.setEvt_getI (g : EvtState → EvtState) (x : Fld) (a b : Nat) : (s.setEvt g).getI x a b = s.getI x a b := rfl
@[simp] theorem State.setStore_getI (g : StoreState → StoreState) (x : Fld) (a b : Nat) : (s.setStore g).getI x a b = s.getI x a b := rfl
@[simp] theorem State.setNand_getI (g : Nand → Nand) (x : Fld) (a b : Nat) : (s.setNand g).getI x a b = s.getI x a b := rfl
@[simp] theorem State.setCore_getI (g : CoreState → CoreState) (x : Fld) (a b : Nat) : (s.setCore g).getI x a b = s.getI x a b := rfl
@[simp] theorem State.setCipher_getI (g : CipherState → CipherState) (x : Fld) (a b : Nat) : (s.setCipher g).getI x a b = s.getI x a b := rfl
@[simp] theorem State.setCls_getI (g : ClassState → ClassState) (x : Fld) (a b : Nat) : (s.setCls g).getI x a b = s.getI x a b := rfl
@[simp] theorem State.setSw_getI (g : SwitchState → SwitchState) (x : Fld) (a b : Nat) : (s.setSw g).getI x a b = s.getI x a b := rfl
@[simp] theorem State.setTbl_getI (g : TableState → TableState) (x : Fld) (a b : Nat) : (s.setTbl g).getI x a b = s.getI x a b := rfl
@[simp] theorem State.setTime_getI (g : TimeState → TimeState) (x : Fld) (a b : Nat) : (s.setTime g).getI x a b = s.getI x a b := rfl
@[simp] theorem State.irq_getI {x st en : Fld} (h : x ≠ st) (v i a b : Nat) : (s.irq st en v i).getI x a b = s.getI x a b := by
  simp only [State.getI, State.irq_get _ h]

@[simp] theorem State.set_isSet {f x : Fld} (h : x ≠ f) (v i j : Nat) (a b : Nat) : (s.set f v i j).isSet x a b = s.isSet x a b := by
  simp only [State.isSet, State.set_get _ h]
@[simp] theorem State.setI_isSet {f x : Fld} (h : x ≠ f) (v : Int) (i j : Nat) (a b : Nat) : (s.setI f v i j).isSet x a b = s.isSet x a b := by
  simp only [State.isSet, State.setI_get _ h]
@[simp] theorem State.bump_isSet (c : Ctr) (n i j : Nat) (x : Fld) (a b : Nat) : (s.bump c n i j).isSet x a b = s.isSet x a b := rfl
@[simp] theorem State.inc_isSet (c : Ctr) (i j : Nat) (x : Fld) (a b : Nat) : (s.inc c i j).isSet x a b = s.isSet x a b := rfl
@[simp] theorem State.raise_isSet (code : Nat) (ws tail : List Nat) (x : Fld) (a b : Nat) : (s.raise code ws tail).isSet x a b = s.isSet x a b := rfl
@[simp] theorem State.emit_isSet (o : Out) (x : Fld) (a b : Nat) : (s.emit o).isSet x a b = s.isSet x a b := rfl
@[simp] theorem State.msix_isSet (u v : Nat) (x : Fld) (a b : Nat) : (s.msix u v).isSet x a b = s.isSet x a b := rfl
@[simp] theorem State.took_isSet (x : Fld) (a b : Nat) : (s.took).isSet x a b = s.isSet x a b := rfl
@[simp] theorem State.start_isSet (t : Timer) (x : Fld) (a b : Nat) : (s.start t).isSet x a b = s.isSet x a b := rfl
@[simp] theorem State.stop_isSet (t : Timer) (x : Fld) (a b : Nat) : (s.stop t).isSet x a b = s.isSet x a b := rfl
@[simp] theorem State.setLine_isSet (n : Nat) (g : LinePort → LinePort) (x : Fld) (a b : Nat) : (s.setLine n g).isSet x a b = s.isSet x a b := rfl
@[simp] theorem State.setFrame_isSet (n : Nat) (g : FramePort → FramePort) (x : Fld) (a b : Nat) : (s.setFrame n g).isSet x a b = s.isSet x a b := rfl
@[simp] theorem State.setTerm_isSet (n : Nat) (g : Terminal → Terminal) (x : Fld) (a b : Nat) : (s.setTerm n g).isSet x a b = s.isSet x a b := rfl
@[simp] theorem State.setCmd_isSet (g : CmdState → CmdState) (x : Fld) (a b : Nat) : (s.setCmd g).isSet x a b = s.isSet x a b := rfl
@[simp] theorem State.setPower_isSet (g : PowerState → PowerState) (x : Fld) (a b : Nat) : (s.setPower g).isSet x a b = s.isSet x a b := rfl
@[simp] theorem State.setFault_isSet (g : FaultState → FaultState) (x : Fld) (a b : Nat) : (s.setFault g).isSet x a b = s.isSet x a b := rfl
@[simp] theorem State.setEvt_isSet (g : EvtState → EvtState) (x : Fld) (a b : Nat) : (s.setEvt g).isSet x a b = s.isSet x a b := rfl
@[simp] theorem State.setStore_isSet (g : StoreState → StoreState) (x : Fld) (a b : Nat) : (s.setStore g).isSet x a b = s.isSet x a b := rfl
@[simp] theorem State.setNand_isSet (g : Nand → Nand) (x : Fld) (a b : Nat) : (s.setNand g).isSet x a b = s.isSet x a b := rfl
@[simp] theorem State.setCore_isSet (g : CoreState → CoreState) (x : Fld) (a b : Nat) : (s.setCore g).isSet x a b = s.isSet x a b := rfl
@[simp] theorem State.setCipher_isSet (g : CipherState → CipherState) (x : Fld) (a b : Nat) : (s.setCipher g).isSet x a b = s.isSet x a b := rfl
@[simp] theorem State.setCls_isSet (g : ClassState → ClassState) (x : Fld) (a b : Nat) : (s.setCls g).isSet x a b = s.isSet x a b := rfl
@[simp] theorem State.setSw_isSet (g : SwitchState → SwitchState) (x : Fld) (a b : Nat) : (s.setSw g).isSet x a b = s.isSet x a b := rfl
@[simp] theorem State.setTbl_isSet (g : TableState → TableState) (x : Fld) (a b : Nat) : (s.setTbl g).isSet x a b = s.isSet x a b := rfl
@[simp] theorem State.setTime_isSet (g : TimeState → TimeState) (x : Fld) (a b : Nat) : (s.setTime g).isSet x a b = s.isSet x a b := rfl
@[simp] theorem State.irq_isSet {x st en : Fld} (h : x ≠ st) (v i a b : Nat) : (s.irq st en v i).isSet x a b = s.isSet x a b := by
  simp only [State.isSet, State.irq_get _ h]

@[simp] theorem State.setI_ctr (f : Fld) (v : Int) (i j : Nat) (x : Ctr) (a b : Nat) : (s.setI f v i j).ctr x a b = s.ctr x a b := rfl
@[simp] theorem State.msix_ctr (u v : Nat) (x : Ctr) (a b : Nat) : (s.msix u v).ctr x a b = s.ctr x a b := rfl
@[simp] theorem State.took_ctr (x : Ctr) (a b : Nat) : (s.took).ctr x a b = s.ctr x a b := rfl
@[simp] theorem State.start_ctr (t : Timer) (x : Ctr) (a b : Nat) : (s.start t).ctr x a b = s.ctr x a b := rfl
@[simp] theorem State.stop_ctr (t : Timer) (x : Ctr) (a b : Nat) : (s.stop t).ctr x a b = s.ctr x a b := rfl
@[simp] theorem State.setLine_ctr (n : Nat) (g : LinePort → LinePort) (x : Ctr) (a b : Nat) : (s.setLine n g).ctr x a b = s.ctr x a b := rfl
@[simp] theorem State.setFrame_ctr (n : Nat) (g : FramePort → FramePort) (x : Ctr) (a b : Nat) : (s.setFrame n g).ctr x a b = s.ctr x a b := rfl
@[simp] theorem State.setTerm_ctr (n : Nat) (g : Terminal → Terminal) (x : Ctr) (a b : Nat) : (s.setTerm n g).ctr x a b = s.ctr x a b := rfl
@[simp] theorem State.setPower_ctr (g : PowerState → PowerState) (x : Ctr) (a b : Nat) : (s.setPower g).ctr x a b = s.ctr x a b := rfl
@[simp] theorem State.setFault_ctr (g : FaultState → FaultState) (x : Ctr) (a b : Nat) : (s.setFault g).ctr x a b = s.ctr x a b := rfl
@[simp] theorem State.setEvt_ctr (g : EvtState → EvtState) (x : Ctr) (a b : Nat) : (s.setEvt g).ctr x a b = s.ctr x a b := rfl
@[simp] theorem State.setStore_ctr (g : StoreState → StoreState) (x : Ctr) (a b : Nat) : (s.setStore g).ctr x a b = s.ctr x a b := rfl
@[simp] theorem State.setNand_ctr (g : Nand → Nand) (x : Ctr) (a b : Nat) : (s.setNand g).ctr x a b = s.ctr x a b := rfl
@[simp] theorem State.setCore_ctr (g : CoreState → CoreState) (x : Ctr) (a b : Nat) : (s.setCore g).ctr x a b = s.ctr x a b := rfl
@[simp] theorem State.setCipher_ctr (g : CipherState → CipherState) (x : Ctr) (a b : Nat) : (s.setCipher g).ctr x a b = s.ctr x a b := rfl
@[simp] theorem State.setCls_ctr (g : ClassState → ClassState) (x : Ctr) (a b : Nat) : (s.setCls g).ctr x a b = s.ctr x a b := rfl
@[simp] theorem State.setSw_ctr (g : SwitchState → SwitchState) (x : Ctr) (a b : Nat) : (s.setSw g).ctr x a b = s.ctr x a b := rfl
@[simp] theorem State.setTbl_ctr (g : TableState → TableState) (x : Ctr) (a b : Nat) : (s.setTbl g).ctr x a b = s.ctr x a b := rfl
@[simp] theorem State.setTime_ctr (g : TimeState → TimeState) (x : Ctr) (a b : Nat) : (s.setTime g).ctr x a b = s.ctr x a b := rfl
@[simp] theorem State.irq_ctr (st en : Fld) (v i : Nat) (x : Ctr) (a b : Nat) : (s.irq st en v i).ctr x a b = s.ctr x a b := by
  unfold State.irq; dsimp only; split <;> rfl
@[simp] theorem State.setAll_ctr (l : List (Fld × Nat)) (i j : Nat) (x : Ctr) (a b : Nat) : (s.setAll l i j).ctr x a b = s.ctr x a b := by
  unfold State.setAll
  induction l generalizing s with
  | nil => rfl
  | cons p r ih => rw [List.foldl_cons, ih, State.set_ctr]

@[simp] theorem State.set_line (f : Fld) (v i j : Nat) (k : Nat) : (s.set f v i j).line k = s.line k := rfl
@[simp] theorem State.setI_line (f : Fld) (v : Int) (i j : Nat) (k : Nat) : (s.setI f v i j).line k = s.line k := rfl
@[simp] theorem State.bump_line (c : Ctr) (n i j : Nat) (k : Nat) : (s.bump c n i j).line k = s.line k := rfl
@[simp] theorem State.inc_line (c : Ctr) (i j : Nat) (k : Nat) : (s.inc c i j).line k = s.line k := rfl
@[simp] theorem State.raise_line (code : Nat) (ws tail : List Nat) (k : Nat) : (s.raise code ws tail).line k = s.line k := rfl
@[simp] theorem State.emit_line (o : Out) (k : Nat) : (s.emit o).line k = s.line k := rfl
@[simp] theorem State.msix_line (u v : Nat) (k : Nat) : (s.msix u v).line k = s.line k := rfl
@[simp] theorem State.took_line (k : Nat) : (s.took).line k = s.line k := rfl
@[simp] theorem State.start_line (t : Timer) (k : Nat) : (s.start t).line k = s.line k := rfl
@[simp] theorem State.stop_line (t : Timer) (k : Nat) : (s.stop t).line k = s.line k := rfl
@[simp] theorem State.setFrame_line (n : Nat) (g : FramePort → FramePort) (k : Nat) : (s.setFrame n g).line k = s.line k := rfl
@[simp] theorem State.setTerm_line (n : Nat) (g : Terminal → Terminal) (k : Nat) : (s.setTerm n g).line k = s.line k := rfl
@[simp] theorem State.setCmd_line (g : CmdState → CmdState) (k : Nat) : (s.setCmd g).line k = s.line k := rfl
@[simp] theorem State.setPower_line (g : PowerState → PowerState) (k : Nat) : (s.setPower g).line k = s.line k := rfl
@[simp] theorem State.setFault_line (g : FaultState → FaultState) (k : Nat) : (s.setFault g).line k = s.line k := rfl
@[simp] theorem State.setEvt_line (g : EvtState → EvtState) (k : Nat) : (s.setEvt g).line k = s.line k := rfl
@[simp] theorem State.setStore_line (g : StoreState → StoreState) (k : Nat) : (s.setStore g).line k = s.line k := rfl
@[simp] theorem State.setNand_line (g : Nand → Nand) (k : Nat) : (s.setNand g).line k = s.line k := rfl
@[simp] theorem State.setCore_line (g : CoreState → CoreState) (k : Nat) : (s.setCore g).line k = s.line k := rfl
@[simp] theorem State.setCipher_line (g : CipherState → CipherState) (k : Nat) : (s.setCipher g).line k = s.line k := rfl
@[simp] theorem State.setCls_line (g : ClassState → ClassState) (k : Nat) : (s.setCls g).line k = s.line k := rfl
@[simp] theorem State.setSw_line (g : SwitchState → SwitchState) (k : Nat) : (s.setSw g).line k = s.line k := rfl
@[simp] theorem State.setTbl_line (g : TableState → TableState) (k : Nat) : (s.setTbl g).line k = s.line k := rfl
@[simp] theorem State.setTime_line (g : TimeState → TimeState) (k : Nat) : (s.setTime g).line k = s.line k := rfl
@[simp] theorem State.irq_line (st en : Fld) (v i : Nat) (k : Nat) : (s.irq st en v i).line k = s.line k := by
  unfold State.irq; dsimp only; split <;> rfl
@[simp] theorem State.setAll_line (l : List (Fld × Nat)) (i j : Nat) (k : Nat) : (s.setAll l i j).line k = s.line k := by
  unfold State.setAll
  induction l generalizing s with
  | nil => rfl
  | cons p r ih => rw [List.foldl_cons, ih, State.set_line]

@[simp] theorem State.set_frame (f : Fld) (v i j : Nat) (k : Nat) : (s.set f v i j).frame k = s.frame k := rfl
@[simp] theorem State.setI_frame (f : Fld) (v : Int) (i j : Nat) (k : Nat) : (s.setI f v i j).frame k = s.frame k := rfl
@[simp] theorem State.bump_frame (c : Ctr) (n i j : Nat) (k : Nat) : (s.bump c n i j).frame k = s.frame k := rfl
@[simp] theorem State.inc_frame (c : Ctr) (i j : Nat) (k : Nat) : (s.inc c i j).frame k = s.frame k := rfl
@[simp] theorem State.raise_frame (code : Nat) (ws tail : List Nat) (k : Nat) : (s.raise code ws tail).frame k = s.frame k := rfl
@[simp] theorem State.emit_frame (o : Out) (k : Nat) : (s.emit o).frame k = s.frame k := rfl
@[simp] theorem State.msix_frame (u v : Nat) (k : Nat) : (s.msix u v).frame k = s.frame k := rfl
@[simp] theorem State.took_frame (k : Nat) : (s.took).frame k = s.frame k := rfl
@[simp] theorem State.start_frame (t : Timer) (k : Nat) : (s.start t).frame k = s.frame k := rfl
@[simp] theorem State.stop_frame (t : Timer) (k : Nat) : (s.stop t).frame k = s.frame k := rfl
@[simp] theorem State.setLine_frame (n : Nat) (g : LinePort → LinePort) (k : Nat) : (s.setLine n g).frame k = s.frame k := rfl
@[simp] theorem State.setTerm_frame (n : Nat) (g : Terminal → Terminal) (k : Nat) : (s.setTerm n g).frame k = s.frame k := rfl
@[simp] theorem State.setCmd_frame (g : CmdState → CmdState) (k : Nat) : (s.setCmd g).frame k = s.frame k := rfl
@[simp] theorem State.setPower_frame (g : PowerState → PowerState) (k : Nat) : (s.setPower g).frame k = s.frame k := rfl
@[simp] theorem State.setFault_frame (g : FaultState → FaultState) (k : Nat) : (s.setFault g).frame k = s.frame k := rfl
@[simp] theorem State.setEvt_frame (g : EvtState → EvtState) (k : Nat) : (s.setEvt g).frame k = s.frame k := rfl
@[simp] theorem State.setStore_frame (g : StoreState → StoreState) (k : Nat) : (s.setStore g).frame k = s.frame k := rfl
@[simp] theorem State.setNand_frame (g : Nand → Nand) (k : Nat) : (s.setNand g).frame k = s.frame k := rfl
@[simp] theorem State.setCore_frame (g : CoreState → CoreState) (k : Nat) : (s.setCore g).frame k = s.frame k := rfl
@[simp] theorem State.setCipher_frame (g : CipherState → CipherState) (k : Nat) : (s.setCipher g).frame k = s.frame k := rfl
@[simp] theorem State.setCls_frame (g : ClassState → ClassState) (k : Nat) : (s.setCls g).frame k = s.frame k := rfl
@[simp] theorem State.setSw_frame (g : SwitchState → SwitchState) (k : Nat) : (s.setSw g).frame k = s.frame k := rfl
@[simp] theorem State.setTbl_frame (g : TableState → TableState) (k : Nat) : (s.setTbl g).frame k = s.frame k := rfl
@[simp] theorem State.setTime_frame (g : TimeState → TimeState) (k : Nat) : (s.setTime g).frame k = s.frame k := rfl
@[simp] theorem State.irq_frame (st en : Fld) (v i : Nat) (k : Nat) : (s.irq st en v i).frame k = s.frame k := by
  unfold State.irq; dsimp only; split <;> rfl
@[simp] theorem State.setAll_frame (l : List (Fld × Nat)) (i j : Nat) (k : Nat) : (s.setAll l i j).frame k = s.frame k := by
  unfold State.setAll
  induction l generalizing s with
  | nil => rfl
  | cons p r ih => rw [List.foldl_cons, ih, State.set_frame]

@[simp] theorem State.set_term (f : Fld) (v i j : Nat) (k : Nat) : (s.set f v i j).term k = s.term k := rfl
@[simp] theorem State.setI_term (f : Fld) (v : Int) (i j : Nat) (k : Nat) : (s.setI f v i j).term k = s.term k := rfl
@[simp] theorem State.bump_term (c : Ctr) (n i j : Nat) (k : Nat) : (s.bump c n i j).term k = s.term k := rfl
@[simp] theorem State.inc_term (c : Ctr) (i j : Nat) (k : Nat) : (s.inc c i j).term k = s.term k := rfl
@[simp] theorem State.raise_term (code : Nat) (ws tail : List Nat) (k : Nat) : (s.raise code ws tail).term k = s.term k := rfl
@[simp] theorem State.emit_term (o : Out) (k : Nat) : (s.emit o).term k = s.term k := rfl
@[simp] theorem State.msix_term (u v : Nat) (k : Nat) : (s.msix u v).term k = s.term k := rfl
@[simp] theorem State.took_term (k : Nat) : (s.took).term k = s.term k := rfl
@[simp] theorem State.start_term (t : Timer) (k : Nat) : (s.start t).term k = s.term k := rfl
@[simp] theorem State.stop_term (t : Timer) (k : Nat) : (s.stop t).term k = s.term k := rfl
@[simp] theorem State.setLine_term (n : Nat) (g : LinePort → LinePort) (k : Nat) : (s.setLine n g).term k = s.term k := rfl
@[simp] theorem State.setFrame_term (n : Nat) (g : FramePort → FramePort) (k : Nat) : (s.setFrame n g).term k = s.term k := rfl
@[simp] theorem State.setCmd_term (g : CmdState → CmdState) (k : Nat) : (s.setCmd g).term k = s.term k := rfl
@[simp] theorem State.setPower_term (g : PowerState → PowerState) (k : Nat) : (s.setPower g).term k = s.term k := rfl
@[simp] theorem State.setFault_term (g : FaultState → FaultState) (k : Nat) : (s.setFault g).term k = s.term k := rfl
@[simp] theorem State.setEvt_term (g : EvtState → EvtState) (k : Nat) : (s.setEvt g).term k = s.term k := rfl
@[simp] theorem State.setStore_term (g : StoreState → StoreState) (k : Nat) : (s.setStore g).term k = s.term k := rfl
@[simp] theorem State.setNand_term (g : Nand → Nand) (k : Nat) : (s.setNand g).term k = s.term k := rfl
@[simp] theorem State.setCore_term (g : CoreState → CoreState) (k : Nat) : (s.setCore g).term k = s.term k := rfl
@[simp] theorem State.setCipher_term (g : CipherState → CipherState) (k : Nat) : (s.setCipher g).term k = s.term k := rfl
@[simp] theorem State.setCls_term (g : ClassState → ClassState) (k : Nat) : (s.setCls g).term k = s.term k := rfl
@[simp] theorem State.setSw_term (g : SwitchState → SwitchState) (k : Nat) : (s.setSw g).term k = s.term k := rfl
@[simp] theorem State.setTbl_term (g : TableState → TableState) (k : Nat) : (s.setTbl g).term k = s.term k := rfl
@[simp] theorem State.setTime_term (g : TimeState → TimeState) (k : Nat) : (s.setTime g).term k = s.term k := rfl
@[simp] theorem State.irq_term (st en : Fld) (v i : Nat) (k : Nat) : (s.irq st en v i).term k = s.term k := by
  unfold State.irq; dsimp only; split <;> rfl
@[simp] theorem State.setAll_term (l : List (Fld × Nat)) (i j : Nat) (k : Nat) : (s.setAll l i j).term k = s.term k := by
  unfold State.setAll
  induction l generalizing s with
  | nil => rfl
  | cons p r ih => rw [List.foldl_cons, ih, State.set_term]

@[simp] theorem State.set_item (f : Fld) (v i j : Nat) (k : Nat) : (s.set f v i j).item k = s.item k := rfl
@[simp] theorem State.setI_item (f : Fld) (v : Int) (i j : Nat) (k : Nat) : (s.setI f v i j).item k = s.item k := rfl
@[simp] theorem State.bump_item (c : Ctr) (n i j : Nat) (k : Nat) : (s.bump c n i j).item k = s.item k := rfl
@[simp] theorem State.inc_item (c : Ctr) (i j : Nat) (k : Nat) : (s.inc c i j).item k = s.item k := rfl
@[simp] theorem State.raise_item (code : Nat) (ws tail : List Nat) (k : Nat) : (s.raise code ws tail).item k = s.item k := rfl
@[simp] theorem State.emit_item (o : Out) (k : Nat) : (s.emit o).item k = s.item k := rfl
@[simp] theorem State.msix_item (u v : Nat) (k : Nat) : (s.msix u v).item k = s.item k := rfl
@[simp] theorem State.took_item (k : Nat) : (s.took).item k = s.item k := rfl
@[simp] theorem State.start_item (t : Timer) (k : Nat) : (s.start t).item k = s.item k := rfl
@[simp] theorem State.stop_item (t : Timer) (k : Nat) : (s.stop t).item k = s.item k := rfl
@[simp] theorem State.setLine_item (n : Nat) (g : LinePort → LinePort) (k : Nat) : (s.setLine n g).item k = s.item k := rfl
@[simp] theorem State.setFrame_item (n : Nat) (g : FramePort → FramePort) (k : Nat) : (s.setFrame n g).item k = s.item k := rfl
@[simp] theorem State.setTerm_item (n : Nat) (g : Terminal → Terminal) (k : Nat) : (s.setTerm n g).item k = s.item k := rfl
@[simp] theorem State.setCmd_item (g : CmdState → CmdState) (k : Nat) : (s.setCmd g).item k = s.item k := rfl
@[simp] theorem State.setPower_item (g : PowerState → PowerState) (k : Nat) : (s.setPower g).item k = s.item k := rfl
@[simp] theorem State.setFault_item (g : FaultState → FaultState) (k : Nat) : (s.setFault g).item k = s.item k := rfl
@[simp] theorem State.setEvt_item (g : EvtState → EvtState) (k : Nat) : (s.setEvt g).item k = s.item k := rfl
@[simp] theorem State.setStore_item (g : StoreState → StoreState) (k : Nat) : (s.setStore g).item k = s.item k := rfl
@[simp] theorem State.setNand_item (g : Nand → Nand) (k : Nat) : (s.setNand g).item k = s.item k := rfl
@[simp] theorem State.setCore_item (g : CoreState → CoreState) (k : Nat) : (s.setCore g).item k = s.item k := rfl
@[simp] theorem State.setCipher_item (g : CipherState → CipherState) (k : Nat) : (s.setCipher g).item k = s.item k := rfl
@[simp] theorem State.setCls_item (g : ClassState → ClassState) (k : Nat) : (s.setCls g).item k = s.item k := rfl
@[simp] theorem State.setSw_item (g : SwitchState → SwitchState) (k : Nat) : (s.setSw g).item k = s.item k := rfl
@[simp] theorem State.setTbl_item (g : TableState → TableState) (k : Nat) : (s.setTbl g).item k = s.item k := rfl
@[simp] theorem State.setTime_item (g : TimeState → TimeState) (k : Nat) : (s.setTime g).item k = s.item k := rfl
@[simp] theorem State.irq_item (st en : Fld) (v i : Nat) (k : Nat) : (s.irq st en v i).item k = s.item k := by
  unfold State.irq; dsimp only; split <;> rfl
@[simp] theorem State.setAll_item (l : List (Fld × Nat)) (i j : Nat) (k : Nat) : (s.setAll l i j).item k = s.item k := by
  unfold State.setAll
  induction l generalizing s with
  | nil => rfl
  | cons p r ih => rw [List.foldl_cons, ih, State.set_item]

@[simp] theorem State.set_copy (f : Fld) (v i j : Nat) (k : Nat) : (s.set f v i j).copy k = s.copy k := rfl
@[simp] theorem State.setI_copy (f : Fld) (v : Int) (i j : Nat) (k : Nat) : (s.setI f v i j).copy k = s.copy k := rfl
@[simp] theorem State.bump_copy (c : Ctr) (n i j : Nat) (k : Nat) : (s.bump c n i j).copy k = s.copy k := rfl
@[simp] theorem State.inc_copy (c : Ctr) (i j : Nat) (k : Nat) : (s.inc c i j).copy k = s.copy k := rfl
@[simp] theorem State.raise_copy (code : Nat) (ws tail : List Nat) (k : Nat) : (s.raise code ws tail).copy k = s.copy k := rfl
@[simp] theorem State.emit_copy (o : Out) (k : Nat) : (s.emit o).copy k = s.copy k := rfl
@[simp] theorem State.msix_copy (u v : Nat) (k : Nat) : (s.msix u v).copy k = s.copy k := rfl
@[simp] theorem State.took_copy (k : Nat) : (s.took).copy k = s.copy k := rfl
@[simp] theorem State.start_copy (t : Timer) (k : Nat) : (s.start t).copy k = s.copy k := rfl
@[simp] theorem State.stop_copy (t : Timer) (k : Nat) : (s.stop t).copy k = s.copy k := rfl
@[simp] theorem State.setLine_copy (n : Nat) (g : LinePort → LinePort) (k : Nat) : (s.setLine n g).copy k = s.copy k := rfl
@[simp] theorem State.setFrame_copy (n : Nat) (g : FramePort → FramePort) (k : Nat) : (s.setFrame n g).copy k = s.copy k := rfl
@[simp] theorem State.setTerm_copy (n : Nat) (g : Terminal → Terminal) (k : Nat) : (s.setTerm n g).copy k = s.copy k := rfl
@[simp] theorem State.setCmd_copy (g : CmdState → CmdState) (k : Nat) : (s.setCmd g).copy k = s.copy k := rfl
@[simp] theorem State.setPower_copy (g : PowerState → PowerState) (k : Nat) : (s.setPower g).copy k = s.copy k := rfl
@[simp] theorem State.setFault_copy (g : FaultState → FaultState) (k : Nat) : (s.setFault g).copy k = s.copy k := rfl
@[simp] theorem State.setEvt_copy (g : EvtState → EvtState) (k : Nat) : (s.setEvt g).copy k = s.copy k := rfl
@[simp] theorem State.setStore_copy (g : StoreState → StoreState) (k : Nat) : (s.setStore g).copy k = s.copy k := rfl
@[simp] theorem State.setNand_copy (g : Nand → Nand) (k : Nat) : (s.setNand g).copy k = s.copy k := rfl
@[simp] theorem State.setCore_copy (g : CoreState → CoreState) (k : Nat) : (s.setCore g).copy k = s.copy k := rfl
@[simp] theorem State.setCipher_copy (g : CipherState → CipherState) (k : Nat) : (s.setCipher g).copy k = s.copy k := rfl
@[simp] theorem State.setCls_copy (g : ClassState → ClassState) (k : Nat) : (s.setCls g).copy k = s.copy k := rfl
@[simp] theorem State.setSw_copy (g : SwitchState → SwitchState) (k : Nat) : (s.setSw g).copy k = s.copy k := rfl
@[simp] theorem State.setTbl_copy (g : TableState → TableState) (k : Nat) : (s.setTbl g).copy k = s.copy k := rfl
@[simp] theorem State.setTime_copy (g : TimeState → TimeState) (k : Nat) : (s.setTime g).copy k = s.copy k := rfl
@[simp] theorem State.irq_copy (st en : Fld) (v i : Nat) (k : Nat) : (s.irq st en v i).copy k = s.copy k := by
  unfold State.irq; dsimp only; split <;> rfl
@[simp] theorem State.setAll_copy (l : List (Fld × Nat)) (i j : Nat) (k : Nat) : (s.setAll l i j).copy k = s.copy k := by
  unfold State.setAll
  induction l generalizing s with
  | nil => rfl
  | cons p r ih => rw [List.foldl_cons, ih, State.set_copy]

@[simp] theorem State.set_queue (f : Fld) (v i j : Nat) (k : Nat) : (s.set f v i j).queue k = s.queue k := rfl
@[simp] theorem State.setI_queue (f : Fld) (v : Int) (i j : Nat) (k : Nat) : (s.setI f v i j).queue k = s.queue k := rfl
@[simp] theorem State.bump_queue (c : Ctr) (n i j : Nat) (k : Nat) : (s.bump c n i j).queue k = s.queue k := rfl
@[simp] theorem State.inc_queue (c : Ctr) (i j : Nat) (k : Nat) : (s.inc c i j).queue k = s.queue k := rfl
@[simp] theorem State.raise_queue (code : Nat) (ws tail : List Nat) (k : Nat) : (s.raise code ws tail).queue k = s.queue k := rfl
@[simp] theorem State.emit_queue (o : Out) (k : Nat) : (s.emit o).queue k = s.queue k := rfl
@[simp] theorem State.msix_queue (u v : Nat) (k : Nat) : (s.msix u v).queue k = s.queue k := rfl
@[simp] theorem State.took_queue (k : Nat) : (s.took).queue k = s.queue k := rfl
@[simp] theorem State.start_queue (t : Timer) (k : Nat) : (s.start t).queue k = s.queue k := rfl
@[simp] theorem State.stop_queue (t : Timer) (k : Nat) : (s.stop t).queue k = s.queue k := rfl
@[simp] theorem State.setLine_queue (n : Nat) (g : LinePort → LinePort) (k : Nat) : (s.setLine n g).queue k = s.queue k := rfl
@[simp] theorem State.setFrame_queue (n : Nat) (g : FramePort → FramePort) (k : Nat) : (s.setFrame n g).queue k = s.queue k := rfl
@[simp] theorem State.setTerm_queue (n : Nat) (g : Terminal → Terminal) (k : Nat) : (s.setTerm n g).queue k = s.queue k := rfl
@[simp] theorem State.setCmd_queue (g : CmdState → CmdState) (k : Nat) : (s.setCmd g).queue k = s.queue k := rfl
@[simp] theorem State.setPower_queue (g : PowerState → PowerState) (k : Nat) : (s.setPower g).queue k = s.queue k := rfl
@[simp] theorem State.setFault_queue (g : FaultState → FaultState) (k : Nat) : (s.setFault g).queue k = s.queue k := rfl
@[simp] theorem State.setEvt_queue (g : EvtState → EvtState) (k : Nat) : (s.setEvt g).queue k = s.queue k := rfl
@[simp] theorem State.setStore_queue (g : StoreState → StoreState) (k : Nat) : (s.setStore g).queue k = s.queue k := rfl
@[simp] theorem State.setNand_queue (g : Nand → Nand) (k : Nat) : (s.setNand g).queue k = s.queue k := rfl
@[simp] theorem State.setCore_queue (g : CoreState → CoreState) (k : Nat) : (s.setCore g).queue k = s.queue k := rfl
@[simp] theorem State.setCipher_queue (g : CipherState → CipherState) (k : Nat) : (s.setCipher g).queue k = s.queue k := rfl
@[simp] theorem State.setCls_queue (g : ClassState → ClassState) (k : Nat) : (s.setCls g).queue k = s.queue k := rfl
@[simp] theorem State.setTbl_queue (g : TableState → TableState) (k : Nat) : (s.setTbl g).queue k = s.queue k := rfl
@[simp] theorem State.setTime_queue (g : TimeState → TimeState) (k : Nat) : (s.setTime g).queue k = s.queue k := rfl
@[simp] theorem State.irq_queue (st en : Fld) (v i : Nat) (k : Nat) : (s.irq st en v i).queue k = s.queue k := by
  unfold State.irq; dsimp only; split <;> rfl
@[simp] theorem State.setAll_queue (l : List (Fld × Nat)) (i j : Nat) (k : Nat) : (s.setAll l i j).queue k = s.queue k := by
  unfold State.setAll
  induction l generalizing s with
  | nil => rfl
  | cons p r ih => rw [List.foldl_cons, ih, State.set_queue]

@[simp] theorem State.bump_tree (c : Ctr) (n i j : Nat) (k : Nat) : (s.bump c n i j).tree k = s.tree k := rfl
@[simp] theorem State.inc_tree (c : Ctr) (i j : Nat) (k : Nat) : (s.inc c i j).tree k = s.tree k := rfl
@[simp] theorem State.raise_tree (code : Nat) (ws tail : List Nat) (k : Nat) : (s.raise code ws tail).tree k = s.tree k := rfl
@[simp] theorem State.emit_tree (o : Out) (k : Nat) : (s.emit o).tree k = s.tree k := rfl
@[simp] theorem State.msix_tree (u v : Nat) (k : Nat) : (s.msix u v).tree k = s.tree k := rfl
@[simp] theorem State.took_tree (k : Nat) : (s.took).tree k = s.tree k := rfl
@[simp] theorem State.start_tree (t : Timer) (k : Nat) : (s.start t).tree k = s.tree k := rfl
@[simp] theorem State.stop_tree (t : Timer) (k : Nat) : (s.stop t).tree k = s.tree k := rfl
@[simp] theorem State.setLine_tree (n : Nat) (g : LinePort → LinePort) (k : Nat) : (s.setLine n g).tree k = s.tree k := rfl
@[simp] theorem State.setFrame_tree (n : Nat) (g : FramePort → FramePort) (k : Nat) : (s.setFrame n g).tree k = s.tree k := rfl
@[simp] theorem State.setTerm_tree (n : Nat) (g : Terminal → Terminal) (k : Nat) : (s.setTerm n g).tree k = s.tree k := rfl
@[simp] theorem State.setCmd_tree (g : CmdState → CmdState) (k : Nat) : (s.setCmd g).tree k = s.tree k := rfl
@[simp] theorem State.setPower_tree (g : PowerState → PowerState) (k : Nat) : (s.setPower g).tree k = s.tree k := rfl
@[simp] theorem State.setFault_tree (g : FaultState → FaultState) (k : Nat) : (s.setFault g).tree k = s.tree k := rfl
@[simp] theorem State.setEvt_tree (g : EvtState → EvtState) (k : Nat) : (s.setEvt g).tree k = s.tree k := rfl
@[simp] theorem State.setStore_tree (g : StoreState → StoreState) (k : Nat) : (s.setStore g).tree k = s.tree k := rfl
@[simp] theorem State.setNand_tree (g : Nand → Nand) (k : Nat) : (s.setNand g).tree k = s.tree k := rfl
@[simp] theorem State.setCore_tree (g : CoreState → CoreState) (k : Nat) : (s.setCore g).tree k = s.tree k := rfl
@[simp] theorem State.setCipher_tree (g : CipherState → CipherState) (k : Nat) : (s.setCipher g).tree k = s.tree k := rfl
@[simp] theorem State.setCls_tree (g : ClassState → ClassState) (k : Nat) : (s.setCls g).tree k = s.tree k := rfl
@[simp] theorem State.setSw_tree (g : SwitchState → SwitchState) (k : Nat) : (s.setSw g).tree k = s.tree k := rfl
@[simp] theorem State.setTbl_tree (g : TableState → TableState) (k : Nat) : (s.setTbl g).tree k = s.tree k := rfl
@[simp] theorem State.setTime_tree (g : TimeState → TimeState) (k : Nat) : (s.setTime g).tree k = s.tree k := rfl

@[simp] theorem State.bump_link (c : Ctr) (n i j : Nat) (k : Nat) : (s.bump c n i j).link k = s.link k := rfl
@[simp] theorem State.inc_link (c : Ctr) (i j : Nat) (k : Nat) : (s.inc c i j).link k = s.link k := rfl
@[simp] theorem State.raise_link (code : Nat) (ws tail : List Nat) (k : Nat) : (s.raise code ws tail).link k = s.link k := rfl
@[simp] theorem State.emit_link (o : Out) (k : Nat) : (s.emit o).link k = s.link k := rfl
@[simp] theorem State.msix_link (u v : Nat) (k : Nat) : (s.msix u v).link k = s.link k := rfl
@[simp] theorem State.took_link (k : Nat) : (s.took).link k = s.link k := rfl
@[simp] theorem State.start_link (t : Timer) (k : Nat) : (s.start t).link k = s.link k := rfl
@[simp] theorem State.stop_link (t : Timer) (k : Nat) : (s.stop t).link k = s.link k := rfl
@[simp] theorem State.setLine_link (n : Nat) (g : LinePort → LinePort) (k : Nat) : (s.setLine n g).link k = s.link k := rfl
@[simp] theorem State.setFrame_link (n : Nat) (g : FramePort → FramePort) (k : Nat) : (s.setFrame n g).link k = s.link k := rfl
@[simp] theorem State.setTerm_link (n : Nat) (g : Terminal → Terminal) (k : Nat) : (s.setTerm n g).link k = s.link k := rfl
@[simp] theorem State.setCmd_link (g : CmdState → CmdState) (k : Nat) : (s.setCmd g).link k = s.link k := rfl
@[simp] theorem State.setPower_link (g : PowerState → PowerState) (k : Nat) : (s.setPower g).link k = s.link k := rfl
@[simp] theorem State.setFault_link (g : FaultState → FaultState) (k : Nat) : (s.setFault g).link k = s.link k := rfl
@[simp] theorem State.setEvt_link (g : EvtState → EvtState) (k : Nat) : (s.setEvt g).link k = s.link k := rfl
@[simp] theorem State.setStore_link (g : StoreState → StoreState) (k : Nat) : (s.setStore g).link k = s.link k := rfl
@[simp] theorem State.setNand_link (g : Nand → Nand) (k : Nat) : (s.setNand g).link k = s.link k := rfl
@[simp] theorem State.setCore_link (g : CoreState → CoreState) (k : Nat) : (s.setCore g).link k = s.link k := rfl
@[simp] theorem State.setCipher_link (g : CipherState → CipherState) (k : Nat) : (s.setCipher g).link k = s.link k := rfl
@[simp] theorem State.setCls_link (g : ClassState → ClassState) (k : Nat) : (s.setCls g).link k = s.link k := rfl
@[simp] theorem State.setSw_link (g : SwitchState → SwitchState) (k : Nat) : (s.setSw g).link k = s.link k := rfl
@[simp] theorem State.setTbl_link (g : TableState → TableState) (k : Nat) : (s.setTbl g).link k = s.link k := rfl
@[simp] theorem State.setTime_link (g : TimeState → TimeState) (k : Nat) : (s.setTime g).link k = s.link k := rfl

@[simp] theorem State.bump_safe (c : Ctr) (n i j : Nat) : (s.bump c n i j).safe = s.safe := rfl
@[simp] theorem State.inc_safe (c : Ctr) (i j : Nat) : (s.inc c i j).safe = s.safe := rfl
@[simp] theorem State.raise_safe (code : Nat) (ws tail : List Nat) : (s.raise code ws tail).safe = s.safe := rfl
@[simp] theorem State.emit_safe (o : Out) : (s.emit o).safe = s.safe := rfl
@[simp] theorem State.msix_safe (u v : Nat) : (s.msix u v).safe = s.safe := rfl
@[simp] theorem State.took_safe  : (s.took).safe = s.safe := rfl
@[simp] theorem State.start_safe (t : Timer) : (s.start t).safe = s.safe := rfl
@[simp] theorem State.stop_safe (t : Timer) : (s.stop t).safe = s.safe := rfl
@[simp] theorem State.setLine_safe (n : Nat) (g : LinePort → LinePort) : (s.setLine n g).safe = s.safe := rfl
@[simp] theorem State.setFrame_safe (n : Nat) (g : FramePort → FramePort) : (s.setFrame n g).safe = s.safe := rfl
@[simp] theorem State.setTerm_safe (n : Nat) (g : Terminal → Terminal) : (s.setTerm n g).safe = s.safe := rfl
@[simp] theorem State.setCmd_safe (g : CmdState → CmdState) : (s.setCmd g).safe = s.safe := rfl
@[simp] theorem State.setPower_safe (g : PowerState → PowerState) : (s.setPower g).safe = s.safe := rfl
@[simp] theorem State.setFault_safe (g : FaultState → FaultState) : (s.setFault g).safe = s.safe := rfl
@[simp] theorem State.setEvt_safe (g : EvtState → EvtState) : (s.setEvt g).safe = s.safe := rfl
@[simp] theorem State.setStore_safe (g : StoreState → StoreState) : (s.setStore g).safe = s.safe := rfl
@[simp] theorem State.setNand_safe (g : Nand → Nand) : (s.setNand g).safe = s.safe := rfl
@[simp] theorem State.setCore_safe (g : CoreState → CoreState) : (s.setCore g).safe = s.safe := rfl
@[simp] theorem State.setCipher_safe (g : CipherState → CipherState) : (s.setCipher g).safe = s.safe := rfl
@[simp] theorem State.setCls_safe (g : ClassState → ClassState) : (s.setCls g).safe = s.safe := rfl
@[simp] theorem State.setSw_safe (g : SwitchState → SwitchState) : (s.setSw g).safe = s.safe := rfl
@[simp] theorem State.setTbl_safe (g : TableState → TableState) : (s.setTbl g).safe = s.safe := rfl
@[simp] theorem State.setTime_safe (g : TimeState → TimeState) : (s.setTime g).safe = s.safe := rfl

@[simp] theorem State.bump_mode (c : Ctr) (n i j : Nat) : (s.bump c n i j).mode = s.mode := rfl
@[simp] theorem State.inc_mode (c : Ctr) (i j : Nat) : (s.inc c i j).mode = s.mode := rfl
@[simp] theorem State.raise_mode (code : Nat) (ws tail : List Nat) : (s.raise code ws tail).mode = s.mode := rfl
@[simp] theorem State.emit_mode (o : Out) : (s.emit o).mode = s.mode := rfl
@[simp] theorem State.msix_mode (u v : Nat) : (s.msix u v).mode = s.mode := rfl
@[simp] theorem State.took_mode  : (s.took).mode = s.mode := rfl
@[simp] theorem State.start_mode (t : Timer) : (s.start t).mode = s.mode := rfl
@[simp] theorem State.stop_mode (t : Timer) : (s.stop t).mode = s.mode := rfl
@[simp] theorem State.setLine_mode (n : Nat) (g : LinePort → LinePort) : (s.setLine n g).mode = s.mode := rfl
@[simp] theorem State.setFrame_mode (n : Nat) (g : FramePort → FramePort) : (s.setFrame n g).mode = s.mode := rfl
@[simp] theorem State.setTerm_mode (n : Nat) (g : Terminal → Terminal) : (s.setTerm n g).mode = s.mode := rfl
@[simp] theorem State.setCmd_mode (g : CmdState → CmdState) : (s.setCmd g).mode = s.mode := rfl
@[simp] theorem State.setPower_mode (g : PowerState → PowerState) : (s.setPower g).mode = s.mode := rfl
@[simp] theorem State.setFault_mode (g : FaultState → FaultState) : (s.setFault g).mode = s.mode := rfl
@[simp] theorem State.setEvt_mode (g : EvtState → EvtState) : (s.setEvt g).mode = s.mode := rfl
@[simp] theorem State.setStore_mode (g : StoreState → StoreState) : (s.setStore g).mode = s.mode := rfl
@[simp] theorem State.setNand_mode (g : Nand → Nand) : (s.setNand g).mode = s.mode := rfl
@[simp] theorem State.setCore_mode (g : CoreState → CoreState) : (s.setCore g).mode = s.mode := rfl
@[simp] theorem State.setCipher_mode (g : CipherState → CipherState) : (s.setCipher g).mode = s.mode := rfl
@[simp] theorem State.setCls_mode (g : ClassState → ClassState) : (s.setCls g).mode = s.mode := rfl
@[simp] theorem State.setSw_mode (g : SwitchState → SwitchState) : (s.setSw g).mode = s.mode := rfl
@[simp] theorem State.setTbl_mode (g : TableState → TableState) : (s.setTbl g).mode = s.mode := rfl
@[simp] theorem State.setTime_mode (g : TimeState → TimeState) : (s.setTime g).mode = s.mode := rfl

@[simp] theorem State.set_timer (f : Fld) (v i j : Nat) (t : Timer) : (s.set f v i j).timer t = s.timer t := rfl
@[simp] theorem State.setI_timer (f : Fld) (v : Int) (i j : Nat) (t : Timer) : (s.setI f v i j).timer t = s.timer t := rfl
@[simp] theorem State.bump_timer (c : Ctr) (n i j : Nat) (t : Timer) : (s.bump c n i j).timer t = s.timer t := rfl
@[simp] theorem State.inc_timer (c : Ctr) (i j : Nat) (t : Timer) : (s.inc c i j).timer t = s.timer t := rfl
@[simp] theorem State.raise_timer (code : Nat) (ws tail : List Nat) (t : Timer) : (s.raise code ws tail).timer t = s.timer t := rfl
@[simp] theorem State.emit_timer (o : Out) (t : Timer) : (s.emit o).timer t = s.timer t := rfl
@[simp] theorem State.msix_timer (u v : Nat) (t : Timer) : (s.msix u v).timer t = s.timer t := rfl
@[simp] theorem State.took_timer (t : Timer) : (s.took).timer t = s.timer t := rfl
@[simp] theorem State.setLine_timer (n : Nat) (g : LinePort → LinePort) (t : Timer) : (s.setLine n g).timer t = s.timer t := rfl
@[simp] theorem State.setFrame_timer (n : Nat) (g : FramePort → FramePort) (t : Timer) : (s.setFrame n g).timer t = s.timer t := rfl
@[simp] theorem State.setTerm_timer (n : Nat) (g : Terminal → Terminal) (t : Timer) : (s.setTerm n g).timer t = s.timer t := rfl
@[simp] theorem State.setCmd_timer (g : CmdState → CmdState) (t : Timer) : (s.setCmd g).timer t = s.timer t := rfl
@[simp] theorem State.setPower_timer (g : PowerState → PowerState) (t : Timer) : (s.setPower g).timer t = s.timer t := rfl
@[simp] theorem State.setFault_timer (g : FaultState → FaultState) (t : Timer) : (s.setFault g).timer t = s.timer t := rfl
@[simp] theorem State.setEvt_timer (g : EvtState → EvtState) (t : Timer) : (s.setEvt g).timer t = s.timer t := rfl
@[simp] theorem State.setStore_timer (g : StoreState → StoreState) (t : Timer) : (s.setStore g).timer t = s.timer t := rfl
@[simp] theorem State.setNand_timer (g : Nand → Nand) (t : Timer) : (s.setNand g).timer t = s.timer t := rfl
@[simp] theorem State.setCore_timer (g : CoreState → CoreState) (t : Timer) : (s.setCore g).timer t = s.timer t := rfl
@[simp] theorem State.setCipher_timer (g : CipherState → CipherState) (t : Timer) : (s.setCipher g).timer t = s.timer t := rfl
@[simp] theorem State.setCls_timer (g : ClassState → ClassState) (t : Timer) : (s.setCls g).timer t = s.timer t := rfl
@[simp] theorem State.setSw_timer (g : SwitchState → SwitchState) (t : Timer) : (s.setSw g).timer t = s.timer t := rfl
@[simp] theorem State.setTbl_timer (g : TableState → TableState) (t : Timer) : (s.setTbl g).timer t = s.timer t := rfl
@[simp] theorem State.setTime_timer (g : TimeState → TimeState) (t : Timer) : (s.setTime g).timer t = s.timer t := rfl
@[simp] theorem State.irq_timer (st en : Fld) (v i : Nat) (t : Timer) : (s.irq st en v i).timer t = s.timer t := by
  unfold State.irq; dsimp only; split <;> rfl
@[simp] theorem State.setAll_timer (l : List (Fld × Nat)) (i j : Nat) (t : Timer) : (s.setAll l i j).timer t = s.timer t := by
  unfold State.setAll
  induction l generalizing s with
  | nil => rfl
  | cons p r ih => rw [List.foldl_cons, ih, State.set_timer]

@[simp] theorem State.set_work (f : Fld) (v i j : Nat) (k : Nat) : (s.set f v i j).work k = s.work k := rfl
@[simp] theorem State.setI_work (f : Fld) (v : Int) (i j : Nat) (k : Nat) : (s.setI f v i j).work k = s.work k := rfl
@[simp] theorem State.bump_work (c : Ctr) (n i j : Nat) (k : Nat) : (s.bump c n i j).work k = s.work k := rfl
@[simp] theorem State.inc_work (c : Ctr) (i j : Nat) (k : Nat) : (s.inc c i j).work k = s.work k := rfl
@[simp] theorem State.raise_work (code : Nat) (ws tail : List Nat) (k : Nat) : (s.raise code ws tail).work k = s.work k := rfl
@[simp] theorem State.emit_work (o : Out) (k : Nat) : (s.emit o).work k = s.work k := rfl
@[simp] theorem State.msix_work (u v : Nat) (k : Nat) : (s.msix u v).work k = s.work k := rfl
@[simp] theorem State.took_work (k : Nat) : (s.took).work k = s.work k := rfl
@[simp] theorem State.start_work (t : Timer) (k : Nat) : (s.start t).work k = s.work k := rfl
@[simp] theorem State.stop_work (t : Timer) (k : Nat) : (s.stop t).work k = s.work k := rfl
@[simp] theorem State.setLine_work (n : Nat) (g : LinePort → LinePort) (k : Nat) : (s.setLine n g).work k = s.work k := rfl
@[simp] theorem State.setFrame_work (n : Nat) (g : FramePort → FramePort) (k : Nat) : (s.setFrame n g).work k = s.work k := rfl
@[simp] theorem State.setTerm_work (n : Nat) (g : Terminal → Terminal) (k : Nat) : (s.setTerm n g).work k = s.work k := rfl
@[simp] theorem State.setCmd_work (g : CmdState → CmdState) (k : Nat) : (s.setCmd g).work k = s.work k := rfl
@[simp] theorem State.setPower_work (g : PowerState → PowerState) (k : Nat) : (s.setPower g).work k = s.work k := rfl
@[simp] theorem State.setFault_work (g : FaultState → FaultState) (k : Nat) : (s.setFault g).work k = s.work k := rfl
@[simp] theorem State.setEvt_work (g : EvtState → EvtState) (k : Nat) : (s.setEvt g).work k = s.work k := rfl
@[simp] theorem State.setStore_work (g : StoreState → StoreState) (k : Nat) : (s.setStore g).work k = s.work k := rfl
@[simp] theorem State.setNand_work (g : Nand → Nand) (k : Nat) : (s.setNand g).work k = s.work k := rfl
@[simp] theorem State.setCipher_work (g : CipherState → CipherState) (k : Nat) : (s.setCipher g).work k = s.work k := rfl
@[simp] theorem State.setCls_work (g : ClassState → ClassState) (k : Nat) : (s.setCls g).work k = s.work k := rfl
@[simp] theorem State.setSw_work (g : SwitchState → SwitchState) (k : Nat) : (s.setSw g).work k = s.work k := rfl
@[simp] theorem State.setTbl_work (g : TableState → TableState) (k : Nat) : (s.setTbl g).work k = s.work k := rfl
@[simp] theorem State.setTime_work (g : TimeState → TimeState) (k : Nat) : (s.setTime g).work k = s.work k := rfl
@[simp] theorem State.irq_work (st en : Fld) (v i : Nat) (k : Nat) : (s.irq st en v i).work k = s.work k := by
  unfold State.irq; dsimp only; split <;> rfl
@[simp] theorem State.setAll_work (l : List (Fld × Nat)) (i j : Nat) (k : Nat) : (s.setAll l i j).work k = s.work k := by
  unfold State.setAll
  induction l generalizing s with
  | nil => rfl
  | cons p r ih => rw [List.foldl_cons, ih, State.set_work]

@[simp] theorem State.set_domain (f : Fld) (v i j : Nat) (k : Nat) : (s.set f v i j).domain k = s.domain k := rfl
@[simp] theorem State.setI_domain (f : Fld) (v : Int) (i j : Nat) (k : Nat) : (s.setI f v i j).domain k = s.domain k := rfl
@[simp] theorem State.bump_domain (c : Ctr) (n i j : Nat) (k : Nat) : (s.bump c n i j).domain k = s.domain k := rfl
@[simp] theorem State.inc_domain (c : Ctr) (i j : Nat) (k : Nat) : (s.inc c i j).domain k = s.domain k := rfl
@[simp] theorem State.raise_domain (code : Nat) (ws tail : List Nat) (k : Nat) : (s.raise code ws tail).domain k = s.domain k := rfl
@[simp] theorem State.emit_domain (o : Out) (k : Nat) : (s.emit o).domain k = s.domain k := rfl
@[simp] theorem State.msix_domain (u v : Nat) (k : Nat) : (s.msix u v).domain k = s.domain k := rfl
@[simp] theorem State.took_domain (k : Nat) : (s.took).domain k = s.domain k := rfl
@[simp] theorem State.start_domain (t : Timer) (k : Nat) : (s.start t).domain k = s.domain k := rfl
@[simp] theorem State.stop_domain (t : Timer) (k : Nat) : (s.stop t).domain k = s.domain k := rfl
@[simp] theorem State.setLine_domain (n : Nat) (g : LinePort → LinePort) (k : Nat) : (s.setLine n g).domain k = s.domain k := rfl
@[simp] theorem State.setFrame_domain (n : Nat) (g : FramePort → FramePort) (k : Nat) : (s.setFrame n g).domain k = s.domain k := rfl
@[simp] theorem State.setTerm_domain (n : Nat) (g : Terminal → Terminal) (k : Nat) : (s.setTerm n g).domain k = s.domain k := rfl
@[simp] theorem State.setCmd_domain (g : CmdState → CmdState) (k : Nat) : (s.setCmd g).domain k = s.domain k := rfl
@[simp] theorem State.setPower_domain (g : PowerState → PowerState) (k : Nat) : (s.setPower g).domain k = s.domain k := rfl
@[simp] theorem State.setFault_domain (g : FaultState → FaultState) (k : Nat) : (s.setFault g).domain k = s.domain k := rfl
@[simp] theorem State.setEvt_domain (g : EvtState → EvtState) (k : Nat) : (s.setEvt g).domain k = s.domain k := rfl
@[simp] theorem State.setStore_domain (g : StoreState → StoreState) (k : Nat) : (s.setStore g).domain k = s.domain k := rfl
@[simp] theorem State.setNand_domain (g : Nand → Nand) (k : Nat) : (s.setNand g).domain k = s.domain k := rfl
@[simp] theorem State.setCore_domain (g : CoreState → CoreState) (k : Nat) : (s.setCore g).domain k = s.domain k := rfl
@[simp] theorem State.setCipher_domain (g : CipherState → CipherState) (k : Nat) : (s.setCipher g).domain k = s.domain k := rfl
@[simp] theorem State.setCls_domain (g : ClassState → ClassState) (k : Nat) : (s.setCls g).domain k = s.domain k := rfl
@[simp] theorem State.setSw_domain (g : SwitchState → SwitchState) (k : Nat) : (s.setSw g).domain k = s.domain k := rfl
@[simp] theorem State.setTbl_domain (g : TableState → TableState) (k : Nat) : (s.setTbl g).domain k = s.domain k := rfl
@[simp] theorem State.irq_domain (st en : Fld) (v i : Nat) (k : Nat) : (s.irq st en v i).domain k = s.domain k := by
  unfold State.irq; dsimp only; split <;> rfl
@[simp] theorem State.setAll_domain (l : List (Fld × Nat)) (i j : Nat) (k : Nat) : (s.setAll l i j).domain k = s.domain k := by
  unfold State.setAll
  induction l generalizing s with
  | nil => rfl
  | cons p r ih => rw [List.foldl_cons, ih, State.set_domain]

end Sys2Proof.Machine
end

