-- ==== Sys2Proof/Laws/Jadex.lean ====
section
/-!
SUPPORT. Jadex commands: what the checks of R310 let through is carried out; what they stop is rejected; what a completion changes.
-/
namespace Sys2Proof.Machine

open Sys2Proof

variable {c : CmdInfo} {q : Req} {unit : State → Option (Nat × Nat)} {param : State → Option Nat} {s : State}

/-- What `takenUp` means, part by part. -/
theorem takenUp_iff : takenUp c q s = true ↔ heldBack c s = false ∧ gate c q s = none ∧ busyPart c q s = none ∧
    ¬(c.persist = true ∧ q.src ≠ .journal ∧ journalFull q s = true) ∧
    ¬(c.persist = true ∧ q.src ≠ .journal ∧ journalStopped s = true) := by
  simp only [takenUp, Bool.and_eq_true, Bool.not_eq_true', Bool.and_eq_false_iff, Bool.or_eq_false_iff, beq_iff_eq, bne_eq_false_iff_eq,
    ne_eq, not_and, Bool.not_eq_true]
  constructor
  · rintro ⟨⟨⟨h0, h1⟩, h2⟩, (h3 | h3) | h3⟩ <;> simp_all
  · rintro ⟨h0, h1, h2, h3, h4⟩
    refine ⟨⟨⟨h0, h1⟩, h2⟩, ?_⟩
    cases hp : c.persist
    · simp
    · by_cases hj : q.src = .journal
      · simp [hj]
      · exact .inr ⟨h3 hp hj, h4 hp hj⟩

/-- A command that is taken up and whose own checks pass is carried out. -/
theorem checked_accepted (body : State → State) (h : takenUp c q s = true) (hu : unit s = none) (hp : param s = none) :
    checked c q unit param body s = body s := by
  obtain ⟨h0, h1, h2, h3, h4⟩ := takenUp_iff.1 h
  simp [checked, h0, h1, hu, hp, h2, h3, h4]

/-- A single command that is taken up and whose own checks pass completes with what it carries out. -/
theorem single_accepted (keys : List Nat) (body : State → Result) (h : takenUp c q s = true) (hu : unit s = none) (hp : param s = none) :
    single c q keys unit param body s = complete c q keys 0 (body s) :=
  checked_accepted _ h hu hp

/-- A register command of form W writes its entries. -/
theorem writeCmd_accepted (allow : Fld → Bool) (es : List WEntry) (h : takenUp c q s = true) (hp : wErr allow es = none) :
    writeCmd c q allow es s = complete c q (es.map (·.off)) 0 { state := wApplyAll s es } :=
  single_accepted _ _ h rfl hp

theorem takenAtomic_iff : takenAtomic c q s = true ↔ heldBack { c with parts := c.staging } s = false ∧ takenUp { c with parts := [] } q s = true := by
  simp [takenAtomic]

/-- An atomic command that is taken up is staged in its participants. -/
theorem atomicCmd_accepted (act : Act) (h : takenAtomic c q s = true) (hu : unit s = none) (hp : param s = none) :
    atomicCmd c q unit param act s = s.setCmd (fun m => { m with staged := m.staged ++ [⟨q, c.op, c.staging, c.persist, act, []⟩] }) := by
  obtain ⟨h0, h1⟩ := takenAtomic_iff.1 h
  unfold atomicCmd
  rw [if_neg (by simp [h0])]
  exact checked_accepted _ h1 hu hp

/-- A unit-state check that fails ends an atomic command before anything is staged (R310). -/
theorem atomicCmd_unit (act : Act) {st d : Nat} (h : takenAtomic c q s = true) (hu : unit s = some (st, d)) :
    atomicCmd c q unit param act s = reject { c with parts := [] } q st d s := by
  obtain ⟨h0, h1⟩ := takenAtomic_iff.1 h
  unfold atomicCmd
  rw [if_neg (by simp [h0])]
  simp [checked, (takenUp_iff.1 h1).1, (takenUp_iff.1 h1).2.1, hu]

/-- A parameter check that fails ends an atomic command before anything is staged (R310). -/
theorem atomicCmd_param (act : Act) {off : Nat} (h : takenAtomic c q s = true) (hu : unit s = none) (hp : param s = some off) :
    atomicCmd c q unit param act s = reject { c with parts := [] } q stParam off s := by
  obtain ⟨h0, h1⟩ := takenAtomic_iff.1 h
  unfold atomicCmd
  rw [if_neg (by simp [h0])]
  simp [checked, (takenUp_iff.1 h1).1, (takenUp_iff.1 h1).2.1, hu, hp]

/-- A best-effort command whose entries all succeed completes with DONE. -/
theorem bestEffort_done {α : Type} (keys : List Nat) (one : State → α → State × Nat) (es : List α) (h : takenUp c q s = true)
    (hu : unit s = none) (hp : param s = none) (ok : ∀ st ∈ (applyEach one s es).2, st = 0) :
    bestEffort c q keys unit param one es s = complete c q keys 0 { state := (applyEach one s es).1 } := by
  have hf : (applyEach one s es).2.filter (· ≠ 0) = [] := by simpa [List.filter_eq_nil_iff] using ok
  unfold bestEffort
  rw [checked_accepted _ h hu hp]
  exact if_pos (by simp only [hf]; rfl)

/-- A best-effort command with failed entries completes with DONE_PARTIAL. -/
theorem bestEffort_partial {α : Type} (keys : List Nat) (one : State → α → State × Nat) (es : List α) (h : takenUp c q s = true)
    (hu : unit s = none) (hp : param s = none) {bad : Nat} (hb : bad = ((applyEach one s es).2.filter (· ≠ 0)).length) (h0 : bad ≠ 0) :
    bestEffort c q keys unit param one es s = complete c q keys bad
      { state := (applyEach one s es).1, status := stPartial, detail := min bad 0xFFFF, data := partialData (applyEach one s es).2 } := by
  subst hb
  unfold bestEffort
  rw [checked_accepted _ h hu hp]
  exact if_neg h0

/-- A command that STANDBY holds changes nothing (R380). -/
theorem checked_held (body : State → State) (h : heldBack c s = true) : checked c q unit param body s = s := by
  simp [checked, h]

/-- A check that looks at no parameter ends the command with its status (R310). -/
theorem checked_gate (body : State → State) {st : Nat} (h0 : heldBack c s = false) (h : gate c q s = some st) :
    checked c q unit param body s = reject c q st 0 s := by
  simp [checked, h0, h]

/-- A unit-state check that fails ends the command with its status and DETAIL (R310). -/
theorem checked_unit (body : State → State) {st d : Nat} (h : takenUp c q s = true) (hu : unit s = some (st, d)) :
    checked c q unit param body s = reject c q st d s := by
  simp [checked, (takenUp_iff.1 h).1, (takenUp_iff.1 h).2.1, hu]

/-- A parameter check that fails ends the command with REJECTED_PARAM and the byte's offset (R310). -/
theorem checked_param (body : State → State) {off : Nat} (h : takenUp c q s = true) (hu : unit s = none) (hp : param s = some off) :
    checked c q unit param body s = reject c q stParam off s := by
  simp [checked, (takenUp_iff.1 h).1, (takenUp_iff.1 h).2.1, hu, hp]

@[simp] theorem want_true (off : Nat) {b : Bool} (h : b = true) : want off b = none := by simp [want, h]
@[simp] theorem want_false (off : Nat) {b : Bool} (h : b = false) : want off b = some off := by simp [want, h]
@[simp] theorem firstErr_nil : firstErr [] = none := rfl
@[simp] theorem firstErr_none (l : List (Option Nat)) : firstErr (none :: l) = firstErr l := rfl
@[simp] theorem firstErr_some (e : Nat) (l : List (Option Nat)) : firstErr (some e :: l) = some e := rfl

theorem State.when_pending (b : Bool) (f : State → State) (h : (f s).pending = s.pending) : (s.when b f).pending = s.pending := by
  unfold State.when; split <;> simp [h]

theorem devShow_pending (d : Nat) : (devShow d s).pending = s.pending := by
  simp [devShow]

theorem blockErased_pending (d b : Nat) : (blockErased d b s).pending = s.pending := by
  simp [blockErased, devShow_pending, State.setNand, State.setStore]

theorem startOp_pending (o : NandOp) (k : Nat) : (startOp o k s).pending = s.pending := by
  simp [startOp, State.setStore]

theorem programNext_pending (a : Nat) (k : NandTask) : (programNext a k s).pending = s.pending := by
  unfold programNext
  dsimp only
  rw [startOp_pending]
  split <;> simp [blockErased_pending, State.setNand, State.setStore]

/-- What every record of a run leaves as it was, the whole run does. -/
theorem journalAdd_keeps {α : Type} (f : State → α) (kind op : Nat) (keys : List Nat) (bytes esz : Nat)
    (h : ∀ (first b : Nat) (t : State), f (journalPut kind op keys first b t) = f t) : f (journalAdd kind op keys bytes esz s) = f s := by
  unfold journalAdd
  generalize s.journal.seq + 1 = first
  generalize journalRuns bytes esz = bs
  induction bs generalizing s with
  | nil => rfl
  | cons b bs ih => rw [List.foldl_cons, ih, h]

theorem journalPut_pending (kind op : Nat) (keys : List Nat) (first bytes : Nat) :
    (journalPut kind op keys first bytes s).pending = s.pending := by
  unfold journalPut
  dsimp only
  repeat' split
  all_goals first | rfl | simp [programNext_pending]

theorem journalAdd_pending (kind op : Nat) (keys : List Nat) (bytes esz : Nat) : (journalAdd kind op keys bytes esz s).pending = s.pending :=
  journalAdd_keeps (·.pending) _ _ _ _ _ (fun _ _ _ => journalPut_pending _ _ _ _ _)

theorem mirrorAdd_pending (op len : Nat) : (mirrorAdd op len s).pending = s.pending := by
  unfold mirrorAdd
  dsimp only
  repeat' split
  all_goals rfl

/-- A completion leaves the queue as it was. -/
theorem complete_pending (keys : List Nat) (failed : Nat) (r : Result) : (complete c q keys failed r).pending = r.state.pending := by
  unfold complete peerDone replayDone
  dsimp only
  repeat' split
  all_goals simp [mirrorAdd_pending, journalAdd_pending, historyAdd]

end Sys2Proof.Machine
end

