-- ==== Sys2Proof/Laws/Complete.lean ====
section
/-!
SUPPORT. The completion of a command: what its journal record, its mirror record, its history entry and its reply each change, and what
they leave alone. The provers cite these instead of unfolding `complete`.
-/
namespace Sys2Proof.Machine

open Sys2Proof

variable {s : State}

theorem devShow_cmd (d : Nat) : (devShow d s).cmd = s.cmd := by simp [devShow]

theorem blockErased_cmd (d b : Nat) : (blockErased d b s).cmd = s.cmd := by
  simp [blockErased, devShow_cmd, State.setNand, State.setStore]

theorem startOp_cmd (o : NandOp) (k : Nat) : (startOp o k s).cmd = s.cmd := by simp [startOp, State.setStore]

theorem programNext_cmd (a : Nat) (k : NandTask) : (programNext a k s).cmd = s.cmd := by
  unfold programNext
  dsimp only
  rw [startOp_cmd]
  split <;> simp [blockErased_cmd, State.setNand, State.setStore]

theorem journalPut_cmd (kind op : Nat) (keys : List Nat) (first bytes : Nat) : (journalPut kind op keys first bytes s).cmd = s.cmd := by
  unfold journalPut
  dsimp only
  repeat' split
  all_goals first | rfl | simp [programNext_cmd]

theorem journalAdd_cmd (kind op : Nat) (keys : List Nat) (bytes esz : Nat) : (journalAdd kind op keys bytes esz s).cmd = s.cmd :=
  journalAdd_keeps (·.cmd) _ _ _ _ _ (fun _ _ _ => journalPut_cmd _ _ _ _ _)

theorem devShow_ctr (d : Nat) (c : Ctr) (i j : Nat) : (devShow d s).ctr c i j = s.ctr c i j := by
  simp [devShow, State.setAll]

theorem blockErased_ctr (d b : Nat) (c : Ctr) (i j : Nat) (h : c ≠ .STORE_BLOCKS_ERASED) : (blockErased d b s).ctr c i j = s.ctr c i j := by
  unfold blockErased
  dsimp only
  rw [devShow_ctr]
  exact State.ctr_bump_ne _ _ _ _ _ _ _ (fun x => h x.1)

theorem programNext_ctr (a : Nat) (k : NandTask) (c : Ctr) (i j : Nat) (h : c ≠ .STORE_BLOCKS_ERASED) :
    (programNext a k s).ctr c i j = s.ctr c i j := by
  unfold programNext
  dsimp only
  show (if _ then _ else _ : State).ctr c i j = _
  split
  · exact blockErased_ctr _ _ _ _ _ h
  · rfl

theorem journalPut_ctr (kind op : Nat) (keys : List Nat) (first bytes : Nat) (c : Ctr) (i j : Nat) (h : c ≠ .STORE_BLOCKS_ERASED) :
    (journalPut kind op keys first bytes s).ctr c i j = s.ctr c i j := by
  unfold journalPut
  dsimp only
  repeat' split
  all_goals first | rfl | exact programNext_ctr _ _ _ _ _ h

theorem journalAdd_ctr (kind op : Nat) (keys : List Nat) (bytes esz : Nat) (c : Ctr) (i j : Nat) (h : c ≠ .STORE_BLOCKS_ERASED) :
    (journalAdd kind op keys bytes esz s).ctr c i j = s.ctr c i j :=
  journalAdd_keeps (·.ctr c i j) _ _ _ _ _ (fun _ _ _ => journalPut_ctr _ _ _ _ _ _ _ _ h)

/-- What a journal record changes of the journal itself where the page being filled has room for it (R353). -/
theorem journalAdd_journal (kind op : Nat) (keys : List Nat) (bytes esz : Nat) (ho : storeOpen s = true) (hr : s.journal.fill + bytes ≤ 4096) :
    (journalAdd kind op keys bytes esz s).journal = { s.journal with
      filling := s.journal.filling ++ [⟨kind, s.journal.seq + 1, op, keys, bytes, s.journal.seq + 1⟩], fill := s.journal.fill + bytes,
      seq := s.journal.seq + 1 } := by
  have h1 : journalRuns bytes esz = [bytes] := if_pos (by omega)
  unfold journalAdd
  rw [h1]
  show (journalPut kind op keys (s.journal.seq + 1) bytes s).journal = _
  unfold journalPut
  dsimp only
  rw [if_neg (by simp [ho]), if_pos (.inl hr)]
  split <;> rfl

/-- A mirror record, or its loss, changes nothing of the command channel but the mirror queue. -/
theorem mirrorAdd_cmd (op len : Nat) : ∃ q b n, (mirrorAdd op len s).cmd = { s.cmd with mirrorQueue := q, mirrorBytes := b, mirrorSeq := n } := by
  unfold mirrorAdd
  dsimp only
  split
  · split
    · exact ⟨_, _, _, rfl⟩
    · exact ⟨_, _, _, rfl⟩
  · exact ⟨_, _, _, rfl⟩

theorem mirrorAdd_ctr (op len : Nat) (c : Ctr) (i j : Nat) : (mirrorAdd op len s).ctr c i j = s.ctr c i j := by
  unfold mirrorAdd
  dsimp only
  repeat' split
  all_goals rfl

theorem mirrorAdd_journal (op len : Nat) : (mirrorAdd op len s).journal = s.journal := by
  unfold mirrorAdd
  dsimp only
  repeat' split
  all_goals rfl

/-- The command channel after a completion: the reply waits (unless the standby device's own source or a replay asked), the history has one
entry more, and beside the mirror queue and the record being applied nothing else of it changes (R324). -/
theorem complete_cmd (c : CmdInfo) (q : Req) (keys : List Nat) (failed : Nat) (r : Result) :
    ∃ mq mb ms ap, (complete c q keys failed r).cmd = { r.state.cmd with
      mirrorQueue := mq, mirrorBytes := mb, mirrorSeq := ms, applying := ap,
      counts := Tab.put 0 r.state.cmd.counts q.user (Tab.get 0 r.state.cmd.counts q.user + 1),
      history := Tab.put [] r.state.cmd.history q.user
        ((Tab.get [] r.state.cmd.history q.user ++ [(⟨q.tag, c.op, r.status, r.detail, Tab.get 0 r.state.cmd.counts q.user + 1⟩ : Hist)]).drop
          ((Tab.get [] r.state.cmd.history q.user).length - 63)),
      replies := if q.src = .peer ∨ q.src = .journal then r.state.cmd.replies
        else r.state.cmd.replies ++ [⟨q, c.op, r.status, r.detail, r.data⟩] } := by
  have key : ∀ (a b : Prop) [Decidable a] [Decidable b] (len : Nat) (t : State), ∃ mq mb ms,
      (if b then mirrorAdd c.op len (if a then journalAdd 1 c.op keys (journalBound len) c.esz t else t)
        else (if a then journalAdd 1 c.op keys (journalBound len) c.esz t else t)).cmd =
      { t.cmd with mirrorQueue := mq, mirrorBytes := mb, mirrorSeq := ms } := by
    intro a b _ _ len t
    have hj : (if a then journalAdd 1 c.op keys (journalBound len) c.esz t else t).cmd = t.cmd := by
      split
      · exact journalAdd_cmd _ _ _ _ _
      · rfl
    split
    · obtain ⟨x, y, z, h⟩ := mirrorAdd_cmd (s := if a then journalAdd 1 c.op keys (journalBound len) c.esz t else t) c.op len
      exact ⟨x, y, z, by rw [h, hj]⟩
    · exact ⟨_, _, _, hj⟩
  unfold complete
  dsimp only
  obtain ⟨mq, mb, ms, h⟩ := key ((r.status = stDone ∨ r.status = stPartial) ∧ c.persist = true ∧ q.src ≠ .journal)
    ((r.status = stDone ∨ r.status = stPartial) ∧ q.src ≠ .peer ∧ q.src ≠ .journal) (q.len - failed * c.esz)
    (historyAdd q.user q.tag c.op r.status r.detail (r.state.inc .CMD_CMDS_DONE))
  generalize hx : (ite ((r.status = stDone ∨ r.status = stPartial) ∧ q.src ≠ .peer ∧ q.src ≠ .journal) _ _ : State) = x at h ⊢
  clear hx key
  cases hq : q.src <;> dsimp only [peerDone, replayDone]
  case peer =>
    split
    · exact ⟨mq, mb, ms, none, by simp [State.setCmd, h, historyAdd]⟩
    · exact ⟨mq, mb, ms, none, by simp [State.setCmd, h, historyAdd]⟩
  case journal =>
    split
    · exact ⟨mq, mb, ms, r.state.cmd.applying, by simp [State.setCmd, h, historyAdd]⟩
    · exact ⟨mq, mb, ms, r.state.cmd.applying, by simp [State.setCmd, h, historyAdd]⟩
  all_goals exact ⟨mq, mb, ms, r.state.cmd.applying, by simp [State.setCmd, h, historyAdd]⟩

/-- A completion counts once (Table 13.11) and, but for the store's erase counter and the standby's PEER_APPLIED, no other counter changes. -/
theorem complete_ctr (c : CmdInfo) (q : Req) (keys : List Nat) (failed : Nat) (r : Result) (x : Ctr) (i j : Nat)
    (h1 : x ≠ .STORE_BLOCKS_ERASED) (h2 : x ≠ .CMD_PEER_APPLIED) (h3 : x ≠ .STORE_SETTING_FAILED) :
    (complete c q keys failed r).ctr x i j = (r.state.inc .CMD_CMDS_DONE).ctr x i j := by
  have key : ∀ (a b : Prop) [Decidable a] [Decidable b] (len : Nat) (t : State),
      (if b then mirrorAdd c.op len (if a then journalAdd 1 c.op keys (journalBound len) c.esz t else t)
        else (if a then journalAdd 1 c.op keys (journalBound len) c.esz t else t)).ctr x i j = t.ctr x i j := by
    intro a b _ _ len t
    repeat' split
    all_goals simp only [mirrorAdd_ctr, journalAdd_ctr _ _ _ _ _ x i j h1]
  unfold complete
  dsimp only
  have h := key ((r.status = stDone ∨ r.status = stPartial) ∧ c.persist = true ∧ q.src ≠ .journal)
    ((r.status = stDone ∨ r.status = stPartial) ∧ q.src ≠ .peer ∧ q.src ≠ .journal) (q.len - failed * c.esz)
    (historyAdd q.user q.tag c.op r.status r.detail (r.state.inc .CMD_CMDS_DONE))
  generalize hx : (ite ((r.status = stDone ∨ r.status = stPartial) ∧ q.src ≠ .peer ∧ q.src ≠ .journal) _ _ : State) = y at h ⊢
  have h' : y.ctr x i j = (r.state.inc .CMD_CMDS_DONE).ctr x i j := h
  clear hx key h
  have a1 : ∀ t : State, (t.inc .CMD_PEER_APPLIED).ctr x i j = t.ctr x i j := fun t => State.ctr_bump_ne _ _ _ _ _ _ _ (fun e => h2 e.1)
  have a2 : ∀ t : State, (t.inc .STORE_SETTING_FAILED).ctr x i j = t.ctr x i j := fun t => State.ctr_bump_ne _ _ _ _ _ _ _ (fun e => h3 e.1)
  cases q.src <;> dsimp only [peerDone, replayDone]
  case peer => split <;> simp only [State.setCmd_ctr, State.raise_ctr, State.set_ctr, a1, h']
  case journal => split <;> simp only [State.raise_ctr, a2, h']
  all_goals simp only [State.setCmd_ctr, h']

end Sys2Proof.Machine
end

