-- ==== Sys2Proof/Machine/Package.lean ====
section
/-!
DEFINITION. The module's contacts and fibres ("Module, contacts and fibres"): names of the grid, the rail of a contact, the signal of a
contact, the fibres of a port. No command reads them.
-/
namespace Sys2Proof.Machine

/-- The 19 row letters (R429). -/
def rowLetters : List String := ["A", "B", "C", "D", "E", "F", "G", "H", "J", "K", "L", "M", "N", "P", "T", "U", "V", "W", "Y"]

/-- The letters of a row index, 1 to 98 (Table 18.1). -/
def rowName (r : Nat) : String := ["", "A", "B", "C", "D", "E"].getD ((r - 1) / 19) "" ++ rowLetters.getD ((r - 1) % 19) ""

/-- A rail's zone: first and last row index, first and last column (Table 18.2). -/
structure Zone where
  rail : String
  row0 : Nat
  row1 : Nat
  col0 : Nat
  col1 : Nat
  deriving DecidableEq, Repr

/-- Table 18.2. -/
def zones : List Zone :=
  [⟨"VCORE", 9, 48, 19, 78⟩, ⟨"VDSP", 49, 78, 19, 78⟩, ⟨"VSRAM", 9, 48, 79, 90⟩, ⟨"VLANE_LO", 9, 24, 11, 18⟩,
    ⟨"VLANE_HI", 25, 36, 11, 18⟩, ⟨"VHBM VPP", 1, 8, 11, 18⟩, ⟨"VHBM VDD", 1, 8, 19, 58⟩, ⟨"VHBM VDDQ", 1, 8, 59, 90⟩,
    ⟨"VANA", 9, 28, 91, 98⟩, ⟨"VOPT", 29, 36, 91, 98⟩, ⟨"VIO", 37, 40, 91, 98⟩, ⟨"VAON", 41, 41, 91, 98⟩]

/-- Signals at a run of columns of one row. -/
structure SigRun where
  row : Nat
  col : Nat
  names : List String
  deriving DecidableEq, Repr

/-- The signals of an instance i of a numbered group. -/
def indexed (i : Nat) (names : List String) : List String := names.map (fun n => n ++ "[" ++ toString i ++ "]")

/-- The signal contacts of the south edge with fixed places (Table 18.3). -/
def fixedRuns : List SigRun :=
  [⟨89, 12, ["MAIN_EN", "PWR_GOOD", "PFAIL_N", "SYS_RESET_N", "PCIE_PERST_N"]⟩,
    ⟨89, 17, (List.range 4).flatMap (fun n => indexed n ["TX_DISABLE_N"])⟩,
    ⟨89, 36, ["ADDR[0]", "ADDR[1]", "ADDR[2]"]⟩, ⟨89, 40, ["MFG_TEST"]⟩,
    ⟨91, 51, List.replicate 10 "reserved"⟩, ⟨93, 51, List.replicate 10 "reserved"⟩,
    ⟨94, 12, ["REFCLK_A_P", "REFCLK_A_N"]⟩, ⟨94, 16, ["PCIE_REFCLK_P", "PCIE_REFCLK_N"]⟩,
    ⟨94, 20, ["TIMEIN0_PPS"]⟩, ⟨94, 22, ["TIMEIN0_10M"]⟩, ⟨94, 24, ["TIMEIN1_PPS"]⟩, ⟨94, 26, ["TIMEIN1_10M"]⟩,
    ⟨94, 28, ["CLK10M_OUT"]⟩, ⟨94, 30, ["PULSE_OUT0"]⟩, ⟨94, 32, ["PULSE_OUT1"]⟩, ⟨94, 34, ["PULSE_OUT2"]⟩, ⟨94, 36, ["PULSE_OUT3"]⟩,
    ⟨94, 40, ["THERM_DP", "THERM_DN"]⟩, ⟨94, 44, ["VCORE_SENSE_P", "VCORE_SENSE_N"]⟩,
    ⟨98, 44, ["PMB_CLK", "PMB_DAT", "PMB_ALERT_N"]⟩, ⟨98, 48, ["PEL_CK", "PEL_DA"]⟩,
    ⟨98, 52, ["TCK", "TMS", "TDI", "TDO", "TRST_N"]⟩]

/-- The signal contacts of the numbered groups (Table 18.3). -/
def groupRuns : List SigRun :=
  (List.range 32).flatMap (fun g => [⟨3 * g + 2, 2, indexed g ["HL_TXP", "HL_TXN"]⟩, ⟨3 * g + 2, 6, indexed g ["HL_RXP", "HL_RXN"]⟩]) ++
  (List.range 4).map (fun n => ⟨89, 23 + 3 * n, indexed n ["LSR_CLK", "LSR_DAT"]⟩) ++
  (List.range 8).flatMap (fun i =>
    [⟨90, 12 + 4 * i, indexed i ["PCIE_TXP", "PCIE_TXN"]⟩, ⟨92, 12 + 4 * i, indexed i ["PCIE_RXP", "PCIE_RXN"]⟩]) ++
  (List.range 8).map (fun k =>
    ⟨96, 11 + 6 * k, indexed k ["OSP_TX_CLK", "OSP_TX_DAT", "OSP_TX_FRM", "OSP_RX_CLK", "OSP_RX_DAT", "OSP_RX_FRM"]⟩) ++
  (List.range 4).map (fun d =>
    ⟨98, 11 + 8 * d, indexed d ["STORE_CLK", "STORE_CS_N"] ++
      (List.range 4).flatMap (fun b => indexed b ["STORE_IO[" ++ toString d ++ "]"])⟩)

/-- What a contact carries (R430, R431): its signal, its zone's rail where row index and column number have an even sum, else GND. -/
def contact (row col : Nat) : String :=
  match (fixedRuns ++ groupRuns).find? (fun r => r.row == row && decide (r.col ≤ col ∧ col < r.col + r.names.length)) with
  | some r => r.names.getD (col - r.col) ""
  | none =>
    match zones.find? (fun z => decide (z.row0 ≤ row ∧ row ≤ z.row1 ∧ z.col0 ≤ col ∧ col ≤ z.col1)) with
    | some z => if (row + col) % 2 = 0 then z.rail else "GND"
    | none => "GND"

/-- Rail contacts of a zone, half of its contacts (R430). -/
def Zone.contacts (z : Zone) : Nat := (z.row1 + 1 - z.row0) * (z.col1 + 1 - z.col0) / 2

/-- The fibres of a port (R438, Table 18.7). -/
def txFibre (n : Nat) : Nat := 1 + n
def laserFibre (n : Nat) : Nat := 5 + n
def rxFibre (n : Nat) : Nat := 9 + n

end Sys2Proof.Machine
end

