-- ==== Sys2Proof/WellFormed.lean ====
section
/-!
DEFINITION. What a command must be to come over its transport at all, beside what its own checks say of it (R309 to R312): header numbers
within the header's fields, entries of forms W and R within theirs, bytes below 256.
-/
namespace Sys2Proof

/-- Bytes. -/
def bytesOk (bs : List Nat) : Bool := bs.all (fun b => decide (b < 256))

/-- The numbers of a Jadex header fit their fields (Table 13.1). -/
def Req.wf (q : Req) : Bool := decide (q.user < 256) && decide (q.tag < 2 ^ 32) && decide (q.len < 2 ^ 32)

/-- A W entry's offset, MASK and VALUE fit their bytes (R312). -/
def WEntry.wf (e : WEntry) : Bool := decide (e.off < 2 ^ 32) && decide (e.mask < 2 ^ 64) && decide (e.value < 2 ^ 64)

/-- An R entry's INDEX fits its eight bytes (R312). -/
def REntry.wf (e : REntry) : Bool := decide (e.index < 2 ^ 64)

/-- The numbers of a header as read fit their fields (Table 13.1). -/
def Header.wf (h : Header) : Bool :=
  decide (h.version < 256 ∧ h.zeros < 32 ∧ h.opcode < 2 ^ 16 ∧ h.tag < 2 ^ 32 ∧ h.len < 2 ^ 32 ∧ h.user < 256 ∧ h.status < 256 ∧
    h.detail < 2 ^ 16)

/-- The numbers of a submission entry fit their fields (Table 13.4). -/
def SubEntry.wf (e : SubEntry) : Bool :=
  decide (e.addr < 2 ^ 64 ∧ e.len < 2 ^ 32 ∧ e.replyCap < 2 ^ 32 ∧ e.replyAddr < 2 ^ 64)

/-- A well-formed command or event. -/
def Instr.wf (i : Instr) : Bool :=
  match i with
  | .lineConfig q es => q.wf && es.all (·.wf)
  | .lineSearch q _ _ => q.wf
  | .lineRelevel q _ => q.wf
  | .lineSetCd q _ _ => q.wf
  | .lineEqRestart q _ _ => q.wf
  | .lineScEnable q _ _ => q.wf
  | .lineLaserRetune q _ => q.wf
  | .lineCapture q _ _ _ _ _ _ _ => q.wf
  | .lineEvtEnable q es => q.wf && es.all (·.wf)
  | .lineFrameConfig q es => q.wf && es.all (·.wf)
  | .lineTsiWrite q es => q.wf && es.all (·.wf)
  | .lineTsiReady q _ _ => q.wf
  | .lineTribConfig q _ _ _ _ _ => q.wf
  | .lineOspConfig q es => q.wf && es.all (·.wf)
  | .treeJoin q _ => q.wf
  | .treeLeave q _ => q.wf
  | .treeConfig q es => q.wf && es.all (·.wf)
  | .treeDoze q _ => q.wf
  | .treeWake q _ => q.wf
  | .treeGuardRelease q _ _ => q.wf
  | .treeDark q _ _ => q.wf
  | .treeMsgRead q _ => q.wf
  | .timeConfig q es => q.wf && es.all (·.wf)
  | .timeSelect q _ => q.wf
  | .timeSet q _ _ => q.wf
  | .timeAdjust q _ _ _ _ => q.wf
  | .timePulse q es => q.wf && es.all (·.wf)
  | .timeTsRead q _ => q.wf
  | .hostPortConfig q es => q.wf && es.all (·.wf)
  | .hostPortEnable q _ _ => q.wf
  | .hostLaneConfig q es => q.wf && es.all (·.wf)
  | .hostRetrain q _ _ => q.wf
  | .hostFilterWrite q es => q.wf && es.all (·.wf)
  | .hostPauseConfig q es => q.wf && es.all (·.wf)
  | .hostLpiConfig q es => q.wf && es.all (·.wf)
  | .hostWakeSend q _ _ => q.wf
  | .hostWdogClear q _ _ => q.wf
  | .hostEvtEnable q _ _ => q.wf
  | .clsParserWrite q es => q.wf && es.all (·.wf)
  | .clsProfileWrite q _ => q.wf
  | .clsRuleWrite q _ es => q.wf && es.all (·.wf)
  | .clsRuleDelete q es => q.wf && es.all (·.wf)
  | .clsFlip q => q.wf
  | .clsStart q es => q.wf && es.all (·.wf)
  | .clsExcConfig q es => q.wf && es.all (·.wf)
  | .tblEmInsert q _ _ es => q.wf && es.all (·.wf)
  | .tblEmDelete q es => q.wf && es.all (·.wf)
  | .tblEmFind q _ => q.wf
  | .tblLpmInsert q _ es => q.wf && es.all (·.wf)
  | .tblLpmDelete q es => q.wf && es.all (·.wf)
  | .tblNhWrite q es => q.wf && es.all (·.wf)
  | .tblEcmpWrite q es => q.wf && es.all (·.wf)
  | .tblProfileWrite q es => q.wf && es.all (·.wf)
  | .tblLearnConfig q _ _ => q.wf
  | .tblHitScan q _ _ => q.wf
  | .tblSnapshot q => q.wf
  | .tblFilterRebuild q => q.wf
  | .swConfig q es => q.wf && es.all (·.wf)
  | .swDestConfig q es => q.wf && es.all (·.wf)
  | .swQueueConfig q es => q.wf && es.all (·.wf)
  | .swPortFlush q _ => q.wf
  | .swIngConfig q es => q.wf && es.all (·.wf)
  | .swSageConfig q es => q.wf && es.all (·.wf)
  | .bpmPoolConfig q es => q.wf && es.all (·.wf)
  | .bpmAlloc q _ _ => q.wf
  | .bpmFree q es => q.wf && es.all (·.wf)
  | .bpmHandoff q es => q.wf && es.all (·.wf)
  | .bpmAudit q => q.wf
  | .schedNodeWrite q es => q.wf && es.all (·.wf)
  | .schedQueueMap q es => q.wf && es.all (·.wf)
  | .schedLenProfile q es => q.wf && es.all (·.wf)
  | .polWrite q _ es => q.wf && es.all (·.wf)
  | .polColourMap q es => q.wf && es.all (·.wf)
  | .polCounterClear q es => q.wf && es.all (·.wf)
  | .ciphKeyLoad q _ _ => q.wf
  | .ciphKeyDerive q _ _ => q.wf
  | .ciphKeyClear q _ => q.wf
  | .ciphTreeSecret q _ _ _ _ blob => q.wf && bytesOk blob
  | .ciphLineKey q es => q.wf && es.all (·.wf)
  | .ciphInbandKey q es => q.wf && es.all (·.wf)
  | .ciphSeal q _ _ _ _ aad data => q.wf && bytesOk aad && bytesOk data
  | .ciphOpen q _ _ _ _ aad data _ => q.wf && bytesOk aad && bytesOk data
  | .ciphCmac q _ _ data _ => q.wf && bytesOk data
  | .ciphCacheFlush q => q.wf
  | .coreQueueConfig q es => q.wf && es.all (·.wf)
  | .coreRingConfig q _ _ _ _ _ => q.wf
  | .coreFnConfig q es => q.wf && es.all (·.wf)
  | .coreLimits q es => q.wf && es.all (·.wf)
  | .coreServiceList q => q.wf
  | .lockAcquire q _ _ _ => q.wf
  | .lockRelease q _ _ => q.wf
  | .sysNop q => q.wf
  | .sysIdentify q => q.wf
  | .fence q _ _ _ => q.wf
  | .sysMode q _ => q.wf
  | .sysRestart q _ => q.wf
  | .sysWindowSet q _ _ => q.wf
  | .sysStateDump q _ _ => q.wf
  | .sysCmdHistory q _ => q.wf
  | .sysPeerConfig q es => q.wf && es.all (·.wf)
  | .sysPeerRole q _ => q.wf
  | .sysInbandConfig q es => q.wf && es.all (·.wf)
  | .pwrStateActive q => q.wf
  | .pwrStateStandby q => q.wf
  | .pwrStateOff q => q.wf
  | .pwrIdleConfig q es => q.wf && es.all (·.wf)
  | .pwrWakeConfig q es => q.wf && es.all (·.wf)
  | .pwrDvfs q _ => q.wf
  | .pwrTelemetry q => q.wf
  | .pwrBusConfig q es => q.wf && es.all (·.wf)
  | .storeImageWrite q _ data => q.wf && bytesOk data
  | .storeImageVerify q => q.wf
  | .storeImageActivate q => q.wf
  | .storeImageConfirm q => q.wf
  | .storeInfo q => q.wf
  | .storeScrub q => q.wf
  | .storeFormat q _ => q.wf
  | .storePageRead q _ _ => q.wf
  | .storePageProgram q _ _ data => q.wf && bytesOk data
  | .storeBlockErase q _ _ => q.wf
  | .evtRead q _ _ => q.wf
  | .evtHostRecord q _ _ tail => q.wf && bytesOk tail
  | .evtFlush q => q.wf
  | .fltReportRead q _ => q.wf
  | .fltRecoverResume q => q.wf
  | .fltRecoverWarm q => q.wf
  | .fltRecoverCold q => q.wf
  | .fltRecoverCluster q _ => q.wf
  | .fltConfig q es => q.wf && es.all (·.wf)
  | .testLoopback q _ _ _ => q.wf
  | .testGen q es => q.wf && es.all (·.wf)
  | .testCheck q es => q.wf && es.all (·.wf)
  | .testPerturb q _ _ _ _ _ _ => q.wf
  | .testInject q _ _ _ _ => q.wf
  | .registerWrite off value => decide (off < 2 ^ 32) && decide (value < 2 ^ 64)
  | .interruptClear off value => decide (off < 2 ^ 32) && decide (value < 2 ^ 64)
  | .nowSubRead => true
  | .cmdRingEnable _ => true
  | .cmdRingDisable _ => true
  | .cmdSubTailWrite _ _ => true
  | .cmdCplHeadWrite _ _ => true
  | .workSubTailWrite _ _ => true
  | .workResHeadWrite _ _ => true
  | .learnHeadWrite _ => true
  | .peerRxTailWrite _ => true
  | .mirrorAreaWrite _ _ _ _ _ => true
  | .cmdSubmissionRead _ e h => e.wf && h.wf
  | .commandCompletion => true
  | .inbandCommand _ frame => bytesOk frame
  | .peldelWrite bytes => bytesOk bytes
  | .peldelRead => true
  | .peldelAddressMatch => true
  | .atomicCommit _ => true
  | .fenceReturn _ => true
  | .mirrorRecordWrite => true
  | .mirrorApply => true
  | .peerPoll _ => true
  | .peerLost => true
  | .functionLevelReset _ => true
  | .cfoMeasurement _ _ => true
  | .deferredFineTune _ => true
  | .fineTuneAck _ => true
  | .setFreqAck _ => true
  | .laserFreqStable _ => true
  | .laserBusFail _ => true
  | .laserBusPoll _ _ => true
  | .lossOfLight _ _ => true
  | .lightReturn _ _ => true
  | .dillPassEnd _ _ => true
  | .applicationPoint _ => true
  | .settlingWindowEnd _ _ => true
  | .pairDecoded _ _ _ _ _ _ _ _ _ => true
  | .qualityUpdate _ _ _ _ _ _ => true
  | .captureTrigger _ _ => true
  | .captureDone _ _ _ => true
  | .superframeStart _ _ => true
  | .upSuperframeStart _ _ => true
  | .sectorHeader _ _ header _ _ _ _ => decide (header < 2 ^ 128)
  | .superframeHeader _ => true
  | .directoryEntry _ _ => true
  | .grant _ _ => true
  | .discovery _ _ _ => true
  | .assign _ => true
  | .range _ => true
  | .profile _ => true
  | .dozeAck _ => true
  | .deregister _ => true
  | .hostMessage _ => true
  | .remoteIndications _ => true
  | .justificationCount _ _ => true
  | .overheadBlockRx _ _ => true
  | .ospBlockOut _ => true
  | .ospBlockIn _ block => decide (block < 2 ^ 512)
  | .envelope _ _ _ _ _ header body => decide (header < 2 ^ 64) && bytesOk body
  | .tribFrameTx _ _ _ => true
  | .tribFrameRx _ frame => bytesOk frame
  | .pmSecond _ _ => true
  | .pmBinOpen _ _ _ => true
  | .pmBinClosed _ _ _ => true
  | .burstBodyBuild _ => true
  | .burstStart _ => true
  | .burstEnd _ => true
  | .presenceBurst _ => true
  | .txPowerUp _ => true
  | .rangingTimeout _ => true
  | .reregLimitExpiry _ => true
  | .returnEntryTimeout _ => true
  | .assignWaitExpiry _ _ => true
  | .dirGraceEnd _ => true
  | .dozeMissed _ => true
  | .holdoverDillRestart _ => true
  | .bayTrip _ _ => true
  | .baySyncTrip _ => true
  | .bayMclkClear _ => true
  | .txDisableFall _ => true
  | .txDisableRise _ => true
  | .domainLossTime _ _ => true
  | .holdoverLimitExpiry _ => true
  | .revertTimer => true
  | .slewComplete => true
  | .timeinPpsEdge _ _ _ _ => true
  | .timeinLost _ _ => true
  | .pulseRise _ => true
  | .pulseFall _ => true
  | .timedLaunch _ _ => true
  | .timedLpiExit _ => true
  | .confirmation _ _ _ => true
  | .policerCommit _ => true
  | .retractDeadline _ => true
  | .drainPoint => true
  | .laneSignalChange _ _ => true
  | .trainingDone _ _ => true
  | .trainingTimeout _ _ => true
  | .tapRequest _ _ => true
  | .alignLock _ => true
  | .alignTimeout _ => true
  | .laneLockLoss _ => true
  | .frtReqReceived _ => true
  | .frtPartnerRecognised _ => true
  | .frtDone _ => true
  | .frtNoAnswer _ => true
  | .frtLimitExpiry _ => true
  | .remoteFault _ _ => true
  | .lpiTxEntry _ => true
  | .lpiRxEntry _ => true
  | .wakeDetect _ => true
  | .wakeSendEnd _ => true
  | .frameRx _ _ bytes _ => bytesOk bytes
  | .pauseRx _ _ _ _ => true
  | .pauseExpiry _ _ => true
  | .pauseRefresh _ _ => true
  | .pauseWdog _ _ => true
  | .pauseWdogEnd _ _ => true
  | .macTxStart _ _ => true
  | .frameTxEnd _ => true
  | .txUnderrun _ _ => true
  | .parse _ _ _ => true
  | .hbmReadReturn _ _ => true
  | .replicaCheck _ => true
  | .bankCopyDone => true
  | .bankLoad _ => true
  | .excRefill => true
  | .learnHoldExpiry => true
  | .filterRebuilt => true
  | .snapshotDone _ _ => true
  | .restored => true
  | .admission _ _ => true
  | .flushDone _ => true
  | .downFlushTimer _ => true
  | .sageExamine _ _ => true
  | .spillPrefetch _ => true
  | .bpmCacheRefill _ => true
  | .bpmReclaim _ => true
  | .bpmAuditTimer => true
  | .bucketRefill => true
  | .schedSelect _ => true
  | .frameDebit _ => true
  | .cipherJobDone _ => true
  | .keyDerivation => true
  | .pnReserve _ _ _ => true
  | .submissionRead _ _ => true
  | .internalItem _ => true
  | .coreDispatch _ => true
  | .preemption _ => true
  | .itemEnd _ _ _ _ _ => true
  | .itemTimeout _ => true
  | .lockWaitTimeout _ => true
  | .powerGood => true
  | .bootPhase _ => true
  | .fuseReread _ _ => true
  | .nandOperationDone _ _ => true
  | .journalPageTimer => true
  | .patrolRead _ _ _ => true
  | .pfailAssert => true
  | .pfailRelease => true
  | .railTimeout => true
  | .pwrGoodFall => true
  | .vaonApply _ _ => true
  | .sysResetAssert => true
  | .dvfsLoadWindow _ => true
  | .voutPoll _ _ => true
  | .dvfsSettleDone => true
  | .dvfsFail => true
  | .vcoreDroop _ => true
  | .throttleEnd => true
  | .pmbusFault _ _ => true
  | .pmbAlert => true
  | .idleTimerExpiry => true
  | .standbyPhaseEnd => true
  | .wake _ => true
  | .powerdownPhaseEnd => true
  | .clusterDozeEntry _ _ => true
  | .clusterDozeWake _ => true
  | .clockLoss _ _ => true
  | .errorReport _ _ captured => bytesOk captured
  | .recoveryEnd _ => true
  | .recoveryTimeout _ => true
  | .faultWindowClose => true
  | .tempWarn _ _ => true
  | .lfHoldEnd => true
  | .eventRecord => true
  | .eventsLost => true
  | .evtNotify => true
  | .genFrame _ => true
  | .perturbOff _ => true
  | .tapInstruction _ => true
  | .lpiRxExit _ => true

end Sys2Proof
end

