-- ==== Sys2Proof/Tests/Slice0.lean ====
section
/-!
SUPPORT. Tests of the model: worked examples of the manual, ill-formed commands refused, and for every statement that has
hypotheses concrete states and operands that meet them.
-/
namespace Sys2Proof.Tests

set_option Elab.async false

open Sys2Proof Sys2Proof.Machine

/-! States and operands of the tests. -/

def host : Req := { src := .ring 0, user := 0, tag := 7, force := false, len := 24 }
def ready : State := { State.reset with cmd := { accepting := true } }
def maint : State := ready.set .PWR_MODE_CURRENT 5
def fld0 : FieldAt := ⟨0, 0, 0⟩
/-- The function field of the first sector that carries tree messages. -/
def fldM : FieldAt := ⟨0, 0, 32⟩
/-- The control subcarrier of port 0 in SYNC, a sector received whose function field has these bytes. -/
def fieldS (sector : Nat) (bs : List Nat) : State :=
  (((ready.set .LINE_FRM_STATE 2).setFrame 0 (fun y => { y with hdrOk := [(0, sector + 1)], pairs := [⟨0, 0, 8 * sector, 0, 0, true, false, false, List.replicate 16 0 ++ bs⟩] })).set
    .LINE_TREE_STATE_IDENT_VALID 1).setLine 0 (fun y => { y with controlKnown := true })
def onFld : State := fieldS 0 []
/-- A tree message's 64 bytes with their check. -/
def msgField (type : Nat) (bcast : Bool) (blen : Nat) (body : List Nat) : List Nat :=
  msgBytes bcast 0 0 type blen body ++ toBytes 4 (crc32c (msgBytes bcast 0 0 type blen body))
def grant0 : Grant := { aid := 1, scMask := 1, start := 0, length := 100, profile := 0, ranging := false, longPreamble := false, reportReq := false, checkin := false, carried := 0, anchor := 0, upSf := 0, offset := 0, prof := 0, lastSym := 100 }
def hdr0 : Header := { version := 1, reply := false, truncated := false, zeros := 0, force := false, opcode := 0x0101, tag := 7, len := 0, user := 0, status := 0, detail := 0 }
/-- A grant entry: its upper 96 bits, then their CRC-32C. -/
def gEnt (p : Nat) : Nat := p * 2 ^ 32 + crc32c (toBytes 12 p)
def pres0 : Presence := ⟨0, 0, 1, 0, 0, 0⟩
theorem eta3 {α β γ : Type} (p : α × β × γ) : p = (p.1, p.2.1, p.2.2) := rfl
theorem big_exists : ∃ b : List (Nat × Nat), b.length = 524289 := ⟨List.replicate 524289 (0, 0), List.length_replicate ..⟩
/-- A buffer of 524,289 bytes. -/
noncomputable def bigBuffer : List (Nat × Nat) := Classical.choose big_exists
theorem bigBuffer_length : bigBuffer.length = 524289 := Classical.choose_spec big_exists
def b0 : Burst := ⟨grant0, 0, none, [], false, false, 0, 0, [], [], [], [], none⟩
/-- A device with an open store of four devices of 1,024 blocks, in MAINTENANCE. -/
def stored : State := ((maint.setAll [(.STORE_STATUS_OPEN, 1), (.STORE_STATUS_BLOCKS, 1024), (.STORE_STATUS_PRESENT, 15)]).setNand
  (fun n => { n with devices := [1024, 1024, 1024, 1024], anchor := some {}, spare := [(0, [9]), (1, [9]), (2, [9]), (3, [9])] }))
/-- An entry of form W that gives one field a value. -/
def wd (f : Fld) (v : Nat) (i j : Nat := 0) : WEntry :=
  ⟨f.row.base + f.row.hi * (i / f.row.g) + f.row.lo * (i % f.row.g) + f.row.sj * j, (2 ^ f.row.w - 1) * 2 ^ f.lowBit j, v * 2 ^ f.lowBit j⟩
/-- A device with a plain key for every use in slot 0 of page 0, its clusters on and its first window over the first page. -/
def keyed : State := ((ready.set .CIPH_STATUS_CLUSTERS_ON 15).setCipher (fun c => { c with slots := [(0, { type := 1, use := 7, key := 5 })] })).setAll
  [(.CMD_WIN_VALID, 1), (.CMD_WIN_READ, 1), (.CMD_WIN_WRITE, 1)]
theorem ofBytes_snoc (l : List Nat) (x : Nat) : ofBytes (l ++ [x]) = ofBytes l * 256 + x % 256 := by
  simp [ofBytes]
theorem toBytes_succ (n v : Nat) : toBytes (n + 1) v = toBytes n (v / 256) ++ [v % 256] := by
  simp only [toBytes, List.range_succ, List.map_append, List.map_cons, List.map_nil]
  congr 1
  · apply List.map_congr_left; intro k hk; have := List.mem_range.1 hk
    simp only [bits]; rw [show 8 * (n + 1 - 1 - k) = 8 + 8 * (n - 1 - k) by omega, Nat.pow_add, ← Nat.div_div_eq_div_mul]
  · simp [bits]
/-- The bytes of a number, read back. -/
theorem ofBytes_toBytes (n v : Nat) : ofBytes (toBytes n v) = v % 256 ^ n := by
  induction n generalizing v with
  | zero => simp [toBytes, ofBytes, Nat.mod_one]
  | succ n ih => rw [toBytes_succ, ofBytes_snoc, ih, Nat.pow_succ, Nat.mul_comm (256 ^ n), Nat.mod_mul]; omega
/-- A CMAC that stands after what it covers is found there. -/
theorem mac_fits (k : Nat) (P body : List Nat) (c : Nat) (hb : body = P ++ toBytes 16 (cmac k P % 2 ^ 128)) (hc : c = P.length) :
    cmac k (body.take c) % 2 ^ 128 = field body c 16 := by
  subst hc; subst hb
  have h : (toBytes 16 (cmac k P % 2 ^ 128)).take 16 = toBytes 16 (cmac k P % 2 ^ 128) := by
    apply List.take_of_length_le; simp [toBytes]
  simp only [field, List.drop_left, List.take_left, h, ofBytes_toBytes]; norm_num
/-- A request header of no data: its opcode and tag. -/
def hdrBytes (op tag : Nat) : List Nat := [1, 0] ++ toBytes 2 op ++ toBytes 4 tag ++ toBytes 4 0 ++ [0, 0, 0, 0]
/-- An in-band frame with a header and the MAC under key 5. -/
def inFrame (op tag : Nat) : List Nat := (List.replicate 12 0 ++ [0x88, 0xB5]) ++ (hdrBytes op tag ++ toBytes 16 (cmac 5 (hdrBytes op tag) % 2 ^ 128))
def inKeyed : State := keyed.set .CIPH_PAGE_INBAND_EN 1
/-- A Peldel frame: its length, its packet, its CRC-32C. -/
def pelFrame (op : Nat) : List Nat := (toBytes 2 16 ++ hdrBytes op 7) ++ toBytes 4 (crc32c (toBytes 2 16 ++ hdrBytes op 7))
/-- Function 0's rings of two entries in an allowed window, one packet submitted. -/
def ringed : State := keyed.setAll [(.CMD_FN_CPL_SIZE_LOG2, 1), (.CMD_FN_SUB_SIZE_LOG2, 1), (.CMD_FN_SUB_TAIL, 1)]
theorem mac_frame (x : Nat) (frame : List Nat) (k : Nat) (P : List Nat) (c : Nat) (ht : tagsOf x frame = 0)
    (hf : frame.drop 14 = P ++ toBytes 16 (cmac k P % 2 ^ 128)) (hc : c = P.length) :
    cmac k ((frame.drop (12 + 4 * tagsOf x frame + 2)).take c) % 2 ^ 128 = field (frame.drop (12 + 4 * tagsOf x frame + 2)) c 16 := by
  rw [ht]; exact mac_fits k P _ c hf hc
/-- Words with their checks: a sector header (96 bits over CRC-32C), a superframe header (480 bits over it), an envelope header. -/
def hdrW (p : Nat) : Nat := p * 2 ^ 32 + crc32c (toBytes 12 p)
def sfW (p : Nat) : Nat := p * 2 ^ 32 + crc32c (toBytes 60 p)
def envW (p : Nat) : Nat := p * 65536 + crc16 (toBytes 6 p)
def polS : State := ready.setItem 0 (fun i => { i with policer := some 0, points := [5], provisional := some ⟨2, 0, 0⟩ })
/-- An item to be parsed: 60 bytes; pipeline 0's bank makes of it one header of 14 bytes, of profile 0. -/
def parsing (st : Nat) : State := ((ready.set .PIPE_START_TYPE st 0 0).setItem 0 (fun i => { i with points := [0], bytes := List.replicate 60 0 })).setCls
  (fun c => { c with active := [(0, { htype := [(0, 2 ^ 63 + 2 ^ 54 + 14 * 2 ^ 37 + 255)] })] })
def running8 : Tab Work := (List.range 8).map (fun k => (k + 2, { fn := some 0, queue := 1, preemptible := true, phase := 1, core := k }))
/-- Work item 1 waits in queue 0 while eight preemptible items of queue 1 run on the cores it lists. -/
def crowded : State := ((ready.setCore (fun c => { c with waiting := [(0, [1])], works := (1, { queue := 0 }) :: running8 })).set .CORE_WQ_CFG_GROUPS 1 1).setAll
  [(.CORE_WQ_CFG_GROUPS, 1), (.CORE_WQ_CFG_PRIORITY, 1)] 0
theorem resetAt_fits (f : Fld) (i j : Nat) : f.resetAt i j < 2 ^ f.row.w := by
  cases f <;> first
    | decide
    | exact Nat.mod_lt _ (by decide)
    | (show 2 ^ (j % 8) < 2 ^ 8; exact Nat.pow_lt_pow_right (by decide) (Nat.mod_lt _ (by decide)))
    | (simp only [Fld.resetAt]; repeat' split) <;> decide
    | (show [0, 0, 1, 1, 1, 2, 3, 3, 3, 0, 0, 0, 0, 0, 3, 0].getD i 0 < 2 ^ 2; rcases i with _|_|_|_|_|_|_|_|_|_|_|_|_|_|_|_|i <;> simp)
theorem regInv_ready : RegInv ready :=
  ⟨rfl, rfl, (fun _ _ _ h => nomatch h), (fun _ _ _ h => nomatch h), fun f i j => resetAt_fits f i j, fun _ _ _ => Nat.zero_le _⟩
def dmS : State := { (ready.set .SYS_BOOT_PHASE 7).setNand (fun n => { n with mode := 6 }) with pins := { ready.pins with sysReset := true } }
def pfS : State := { stored.set .PWR_STATE_STATE 2 with pins := { ready.pins with pfail := true } }
def pfU : State := recordAll (pinsShow { pfS with pins := { pfS.pins with pfail := false } })
theorem pfS_noErase : ∀ o ∈ (journalClose (tailFlush (pfU.raise 0x0E08 [pfU.get .EVT_STATUS_BUFFERED]))).store.ops, ∀ q, o.task ≠ .rawErase q := by
  have h : (journalClose (tailFlush (pfU.raise 0x0E08 [pfU.get .EVT_STATUS_BUFFERED]))).store.ops.all
      (fun o => match o.task with | .rawErase _ => false | _ => true) = true := by decide +kernel
  intro o ho q hq
  have := List.all_eq_true.1 h o ho
  rw [hq] at this
  exact absurd this (by simp)
def poolS : State := (ready.set .BPM_POOL_CFG_COUNT 5 0).setPool 0 (fun p => { p with ring := [0, 1, 2, 3, 4] })
def queueS : State := ((ready.set .PORT_CFG_TYPE 1 0).setQueue 0 (fun y => { y with dest := 0, copies := [1] })).setCopy 1 (fun c => { c with len := 60, queue := 0 })
def nodesS : State := ((queueS.setNodeAt (nodeKey 5 0) (fun n => { n with mapped := true, parent := 5 })).setNodeAt (nodeKey 3 5) (fun n => { n with mapped := true, parent := 300 })).setNodeAt
  (nodeKey 2 300) (fun n => { n with mapped := true, parent := 0 })
/-- Port 0 transmits by launch times: the head of its timed queue is copy 1, for the instant l. -/
def timedS (l : Nat) (late : Bool) : State :=
  ((((ready.set .TIME_PORT_TIMED_EN 1 0).set .TIME_PORT_TIMED_Q 0 0).setItem 1 (fun i => { i with launch := some (l, late) })).setCopy 1 (fun c => { c with item := 1 })).setSw
    (fun w => { w with mac := [(0, [1])] })
/-- One frame waits in queue 0 for destination d, its path mapped. -/
def waitS (d : Nat) : State :=
  (((((ready.set .PORT_CFG_TYPE 1 0).setQueue 0 (fun y => { y with dest := d, copies := [1] })).setCopy 1 (fun c => { c with len := 60, queue := 0, dest := d })).setNodeAt
    (nodeKey 5 0) (fun n => { n with mapped := true, parent := 5 })).setNodeAt (nodeKey 3 5) (fun n => { n with mapped := true, parent := 300 })).setNodeAt
    (nodeKey 2 300) (fun n => { n with mapped := true, parent := d })
/-- Function 0 with one work entry submitted, room for its result, and queue 0 open to it. -/
def subS : State := (keyed.setWorkRing 0 (fun r => { r with subLog2 := 6, resLog2 := 6 })).setAll
  [(.CORE_FN_SUB_TAIL, 1), (.CORE_WQ_CFG_ENABLE, 1), (.CORE_WQ_CFG_SUBMIT_FN, 0), (.CORE_WQ_CFG_MAX_ITEMS, 5)]
def work0 (service : Nat) : WorkEntry := ⟨1, false, false, false, true, 0, 0, service, 0, 0, 64, []⟩
/-- A service number that no image's table lists. -/
def noService : Nat := ((serviceTable ready).map (·.1)).sum + 1
theorem noService_not (x : Nat × Nat) (h : x ∈ serviceTable ready) : x.1 ≠ noService := by
  have := List.le_sum_of_mem (List.mem_map_of_mem (f := (·.1)) h)
  unfold noService; omega
theorem admit_ok (x : Nat × Nat) (s : State) (h1 : s.get .CORE_WQ_CFG_ENABLE 0 = 1) (h2 : s.get .CORE_WQ_CFG_SUBMIT_FN 0 = 0)
    (h3 : waitingCount s 0 < s.get .CORE_WQ_CFG_MAX_ITEMS 0) (hx : x ∈ serviceTable s) : admitCheck 0 (work0 x.1) s = none := by
  have h4 : (serviceTable s).all (fun y => y.1 != x.1) = false := by
    rw [List.all_eq_false]; exact ⟨x, hx, by simp⟩
  simp [admitCheck, work0, State.isSet, h1, h2, Nat.not_le.2 h3, h4]
theorem windowOk_wake (c : Option Nat) (s : State) (u a l : Nat) (w : Bool) : windowOk (wakeCipher c s) u a l w = windowOk s u a l w := by
  cases c with
  | none => rfl
  | some c =>
    have h (f : Fld) (i j : Nat) (hf : f ≠ .PWR_DOZE_DOZING) : (s.set .PWR_DOZE_DOZING 0 (16 + c)).get f i j = s.get f i j :=
      State.get_set_ne _ _ _ _ _ _ _ (fun x => hf x.1)
    simp only [wakeCipher, undoze]
    split
    · cases w <;> simp only [windowOk, State.isSet, reduceIte, h .CMD_WIN_VALID _ _ (by decide), h .CMD_WIN_READ _ _ (by decide),
        h .CMD_WIN_WRITE _ _ (by decide), h .CMD_WIN_BASE _ _ (by decide), h .CMD_WIN_LAST _ _ (by decide), Bool.false_eq_true]
    · rfl
theorem unwrap_ok (s : State) (page k : Nat) (blob : List Nat) (root key : Nat) (h1 : slotRefused s page k 2 = none) (h2 : anyCluster s = true)
    (h3 : slotKey s page k = some root) (h4 : keyUnwrap root blob = some key) : unwrap s page k blob = .inl key := by
  simp [unwrap, h1, h2, h3, h4]
theorem ne_add_one (n : Nat) : n ≠ n + 1 := by omega
theorem ofBytes_lt (l : List Nat) : ofBytes l < 256 ^ l.length := by
  induction l using List.reverseRecOn with
  | nil => simp [ofBytes]
  | append_singleton l x ih =>
    rw [ofBytes_snoc, List.length_append, List.length_singleton, Nat.pow_succ]
    have := Nat.mod_lt x (show 256 > 0 by decide)
    omega
theorem aesEncrypt_lt (key : Nat) (b : List Nat) : ofBytes (aesEncrypt key b) < 2 ^ 128 := by
  refine Nat.lt_of_lt_of_le (ofBytes_lt _) ?_
  have h : (aesEncrypt key b).length ≤ 16 := by
    simp only [aesEncrypt, xorBytes, List.length_zipWith, aesShift, List.length_map, List.length_range]
    exact Nat.min_le_left ..
  calc 256 ^ (aesEncrypt key b).length ≤ 256 ^ 16 := Nat.pow_le_pow_right (by decide) h
    _ = 2 ^ 128 := by norm_num
theorem foldl_keeps {α β : Type} (P : α → Prop) (f : α → β → α) (h : ∀ a b, P a → P (f a b)) (l : List β) (a : α) (ha : P a) : P (l.foldl f a) := by
  induction l generalizing a with
  | nil => exact ha
  | cons x l ih => exact ih _ (h _ _ ha)
theorem ghashMul_lt (x y : Nat) (hy : y < 2 ^ 128) : ghashMul x y < 2 ^ 128 := by
  unfold ghashMul
  refine (foldl_keeps (fun p : Nat × Nat => p.1 < 2 ^ 128 ∧ p.2 < 2 ^ 128) _ ?_ _ _ ⟨by norm_num, hy⟩).1
  rintro ⟨a, b⟩ k ⟨h1, h2⟩
  have hb : b / 2 < 2 ^ 128 := Nat.lt_of_le_of_lt (Nat.div_le_self ..) h2
  constructor
  · dsimp only; split
    · exact Nat.xor_lt_two_pow h1 h2
    · exact h1
  · dsimp only; split
    · exact Nat.xor_lt_two_pow hb (by norm_num)
    · exact hb
theorem gcmTag_lt (key iv : Nat) (aad plain : List Nat) : gcmTag key iv aad plain < 2 ^ 128 := by
  refine Nat.xor_lt_two_pow ?_ (aesEncrypt_lt ..)
  unfold ghash
  exact foldl_keeps (· < 2 ^ 128) _ (fun _ _ _ => ghashMul_lt _ _ (aesEncrypt_lt ..)) _ _ (by norm_num)
/-- A sealed envelope of no plaintext bytes. -/
def sealedItem : Item := { enc := some (0, 0, true, 0), bytes := List.replicate 8 0 ++ toBytes 16 (gcmTag 0 0 (List.replicate 16 0) []) }
theorem sealed_fits : gcmTag 0 0 (toBytes 8 0 ++ toBytes 8 0) (gcmSeal 0 0 ((sealedItem.bytes.drop 8).take (sealedItem.bytes.length - 24))) =
    field sealedItem.bytes (sealedItem.bytes.length - 16) 16 := by
  have hl : sealedItem.bytes.length = 24 := by simp [sealedItem, toBytes]
  have h1 : (sealedItem.bytes.drop 8).take (24 - 24) = [] := by simp
  have h2 : gcmSeal 0 0 [] = [] := rfl
  rw [hl, h1, h2, show toBytes 8 0 ++ toBytes 8 0 = List.replicate 16 0 from by decide]
  have h3 : field sealedItem.bytes (24 - 16) 16 = ofBytes (toBytes 16 (gcmTag 0 0 (List.replicate 16 0) [])) := by
    have h : (toBytes 16 (gcmTag 0 0 (List.replicate 16 0) [])).take 16 = toBytes 16 (gcmTag 0 0 (List.replicate 16 0) []) := by
      apply List.take_of_length_le; simp [toBytes]
    simp only [field, sealedItem]
    rw [show (24 - 16 : Nat) = (List.replicate 8 0 : List Nat).length from rfl, List.drop_left, h]
  rw [h3, ofBytes_toBytes, Nat.mod_eq_of_lt (by have := gcmTag_lt 0 0 (List.replicate 16 0) []; norm_num at this ⊢; exact this)]
theorem opens_sealed : openEnvelope 0 sealedItem = some [] := by
  have hl : sealedItem.bytes.length = 24 := by simp [sealedItem, toBytes]
  have h := sealed_fits
  unfold openEnvelope
  show (if 24 ≤ sealedItem.bytes.length ∧ _ = _ then some _ else none) = some []
  rw [if_pos ⟨by rw [hl], h⟩, hl]; simp; rfl
theorem mod_one_le (a f m b : Nat) (hm : m = 1) (h : a * 65536 ≤ b) : (a + f % m) * 65536 ≤ b := by subst hm; rw [Nat.mod_one]; exact h
/-- A state of the device and a phase of its change. -/
def pwS (st ph : Nat) : State := { ready.setAll [(.PWR_STATE_STATE, st), (.PWR_STATE_PHASE, ph)] with pins := { ready.pins with pfail := true } }
/-- Step 6 of a boot with a power request waiting. -/
def bootS (r : Option Nat) : State :=
  { (ready.set .SYS_BOOT_PHASE 6).setPower (fun w => { w with request := r }) with pins := { ready.pins with sysReset := true, pfail := true } }
/-- A download of 513 bytes, 512 of them written. -/
def loadingS : State := (stored.setAll [(.STORE_ANCHOR_DOWNLOADING, 1), (.STORE_DOWNLOAD_BYTES, 512)]).setStore (fun x => { x with length := 513 })
/-- A complete image in the download slot. -/
def imagedS : State := stored.setNand (fun n => { n with images := [(1, List.replicate 64 0)] })
/-- An image of 8,192 bytes: its magic, its format, its length, its version and key index, all else 0. -/
def wholeImage : List Nat :=
  toBytes 8 0x4F58494D41474531 ++ toBytes 4 1 ++ toBytes 4 8192 ++ List.replicate 9 0 ++ [0xB1] ++ List.replicate 8166 0
def wholeS : State := stored.setNand (fun n => { n with images := [(1, wholeImage)] })
theorem wholeImage_length : wholeImage.length = 8192 := by
  simp only [wholeImage, List.length_append, List.length_replicate, toBytes, List.length_map, List.length_range, List.length_singleton]
theorem slot_whole : slotBytes wholeS (downSlot wholeS) = wholeImage := rfl
/-- An image whose header fits is good where its signature is. -/
theorem image_good (h : Config.imageVerifies (List.replicate 12 0) wholeImage = true) :
    imageOk wholeImage (pagesRead (ceilDiv wholeImage.length 4096) wholeS) = true := by
  unfold imageOk
  rw [wholeImage_length, show (List.range 12).map (fun k => Tab.get 0 (pagesRead (ceilDiv 8192 4096) wholeS).fuses.inUse (20 + k)) = List.replicate 12 0 from by decide +kernel, h,
    Bool.and_true]
  decide +kernel
theorem image_whole : slotComplete wholeImage = true := by
  unfold slotComplete; rw [wholeImage_length]; decide +kernel
/-- A store whose journal page has no room left. -/
def journalS : State := let y := stored; { y with journal := { y.journal with fill := 4096 } }

/-! Worked examples of the manual. -/

/-- The burst bodies of the example under R17: 20 pairs in DP-16QAM 3/4 and in DP-QPSK 5/6. -/
theorem test_burst_symbols : bodySymbols 20 2 1 = 36268 ∧ bodySymbols 20 3 0 = 65283 := by decide

/-- The grant of the examples under R54 and R92, its CHECK made to fit, at a terminal whose profile 3 is DP-16QAM 3/4 with 8 ns ramps
and a 1,024-symbol preamble. -/
def grantEntry : Nat := gEnt 0x4495208A01E0640000014320
def grantState : State :=
  (((((ready.set .LINE_UP_PROFILE_VALID 1 0 3).set .LINE_UP_PROFILE_RAMP 3 0 3).set .LINE_UP_PROFILE_PREAMBLE 3 0 3).set .LINE_UP_PROFILE_RATE 2 0 3).set
    .LINE_UP_PROFILE_FORMAT 1 0 3).setFrame 0 (fun f => { f with sf := 18989, delta := 8, hdrOk := [(0, 1)] })
def rangedState : State := (grantState.set .LINE_TREE_RANGE_EQD 1234567).set .LINE_TREE_RANGE_TRIM 5

theorem test_grant_example : let g := grantOf 0 grantEntry grantState
    (g.aid, g.scMask, g.start, g.length, g.profile) = (5, 0xF0, 409600, 20, 3) ∧
    (g.ranging, g.longPreamble, g.reportReq, g.checkin) = (false, false, true, false) ∧ (g.upSf, g.anchor, g.lastSym) = (18998, 18990, 447211) := by
  decide +kernel

/-- Ramp-up begins 207,208,457.03125 ps after A(18,989), and the window ends at 209,559,207.03125 ps. -/
theorem test_transmit_instant : let g := grantOf 0 grantEntry rangedState
    winFrom 0 g rangedState * 100000000 = 20720845703125 * 65536 ∧ winTo 0 g rangedState * 100000000 = 20955920703125 * 65536 := by
  decide +kernel

/-- A grant for TID 137 and epoch 0x2A41 is the terminal's own. -/
def ownState (tid : Nat) : State :=
  (fieldS 9 (toBytes 16 grantEntry)).setAll
    [(.LINE_UP_PROFILE_VALID, 1), (.LINE_TREE_STATE_IDENT_VALID, 1), (.LINE_TREE_ID_TID, tid), (.LINE_TREE_ID_EPOCH, 0x2A41)]
theorem test_grant_own : (effGrant fld0 0 (ownState 137)).ctr .LP_GRANT_OWN = 1 ∧ (effGrant fld0 0 (ownState 136)).ctr .LP_GRANT_OWN = 0 := by
  decide +kernel

/-- A pause of 65,535 quanta at 400GbE lasts 83.8848 µs. -/
theorem test_pause_quanta : quantaTime (ready.set .PORT_CFG_TYPE 2) 0 65535 = 838848 * uUs / 10000 := by decide +kernel

/-- The header types of the example under R177, with HTYPE as Table 7.5 has it. -/
def ipv4Type : Nat := 2 ^ 63 + 2 ^ 60 + 2 * 2 ^ 55 + 2 ^ 54 + 2 ^ 52 + 9 * 2 ^ 46 + 2 ^ 45 + 0x0F * 2 ^ 23 + 2 * 2 ^ 16 + 20 * 2 ^ 8 + 60
def ipv6ExtType : Nat := 2 ^ 63 + 2 ^ 45 + 8 * 2 ^ 37 + 1 * 2 ^ 31 + 0xFF * 2 ^ 23 + 3 * 2 ^ 16 + 8 * 2 ^ 8 + 255
theorem test_header_length : headerLen ipv4Type [0x45] 0 = 20 ∧ headerLen ipv4Type [0x4F] 0 = 60 ∧ headerLen ipv6ExtType [0, 2] 0 = 24 ∧
    255 < headerLen ipv6ExtType [0, 31] 0 := by decide

/-- The fragment of the example under R183, and what the parser and the profile make of it. -/
def fragBank : ParserBank :=
  { htype := [(1, 2 ^ 63 + 2 * 2 ^ 52 + 12 * 2 ^ 46 + 14 * 2 ^ 37 + 255), (2, 2 ^ 63 + 2 * 2 ^ 52 + 2 * 2 ^ 46 + 4 * 2 ^ 37 + 255), (3, ipv4Type),
      (6, 2 ^ 63 + 4 * 2 ^ 60 + 8 * 2 ^ 37 + 255)]
    htrans := [(0, 2 ^ 63 + 1 * 2 ^ 57 + 2 * 2 ^ 51 + 0x8100 * 2 ^ 35 + 0xFFFF * 2 ^ 19), (1, 2 ^ 63 + 2 * 2 ^ 57 + 3 * 2 ^ 51 + 0x0800 * 2 ^ 35 + 0xFFFF * 2 ^ 19),
      (2, 2 ^ 63 + 3 * 2 ^ 57 + 6 * 2 ^ 51 + 0x11 * 2 ^ 35 + 0xFF * 2 ^ 19)] }
def fragProfile : KeyProfile :=
  { extracts := [⟨0, 3, 0, 12, 4, 0⟩, ⟨0, 3, 0, 16, 4, 4⟩, ⟨0, 3, 0, 9, 1, 8⟩, ⟨0, 6, 0, 0, 4, 9⟩, ⟨1, 0, 0, 4, 1, 13⟩] }
def fragBytes : List Nat :=
  List.replicate 12 0 ++ [0x81, 0, 0, 5, 8, 0] ++ [0x45, 0, 0, 40, 0, 1, 0x20, 0, 64, 0x11, 0, 0, 192, 0, 2, 10, 198, 51, 100, 7] ++ List.replicate 20 0
theorem test_parse_fragment : let p := parseFrame fragBank 1 fragBytes
    p.records = [(1, 0), (2, 14), (3, 18)] ∧ p.frag = true ∧ p.l4Absent = true ∧ p.outerIp = 2 ∧ p.profile = 2 ∧ p.payload = 38 := by decide +kernel
theorem test_key_example : let it : Item := { slot := 4, bytes := fragBytes }
    toBytes 32 (buildKey it (parseFrame fragBank 1 fragBytes) fragProfile) =
      [0xC0, 0, 2, 0x0A, 0xC6, 0x33, 0x64, 7, 0x11, 0, 0, 0, 0, 5] ++ List.replicate 18 0 := by decide +kernel

/-- The label of the example under R277. -/
theorem test_line_label :
    lineLabel (((((ready.set .LINE_TREE_ID_TID 137 1).set .LINE_TREE_ID_EPOCH 0x2A41 1).set .CIPH_LINE_KEYID_KEY_ID 0x10007 1 2).setFrame 1
      (fun f => { f with systemId := 0x5C3E0912, treeNo := 11 }))) 1 2 2 =
      [1, 1, 2, 2, 0, 0x89, 0x2A, 0x41, 0, 0, 0, 0, 0, 1, 0, 7, 0x5C, 0x3E, 9, 0x12, 0x0B] ++ List.replicate 11 0 := by decide +kernel

/-- Table 10.2: a refill of 1,250 bytes at the old rate, then the new values, clipped; later refills at the new rate. -/
def bucketNode : Node := { cfg := { pirEn := true, pirRate := 10000000, pirBurst := 20000 }, pir := 11000 * 65536 }
theorem test_bucket_refill : (bucketNode.refill 1).pir = 12250 * 65536 ∧
    ({ bucketNode with next := some { pirEn := true, pirRate := 2000000, pirBurst := 4000 } }.refill 1).pir = 4000 * 65536 ∧
    ({ bucketNode with cfg := { pirEn := true, pirRate := 2000000, pirBurst := 4000 }, pir := -5000 * 65536 }.refill 2).pir = -4750 * 65536 := by
  decide

/-- Table 13.8: the reply of CLS_FLIP rolled back by participant 9. -/
theorem test_reply_words :
    (replyPacket ⟨{ host with tag := 0x1F40 }, 0x0805, stRolledBack, 9, [0x0600000000000000]⟩ 64).1 =
      [0x0180080500001F40, 0x0000000800020009, 0x0600000000000000] := by decide +kernel

/-- Logical page 61,234 with three devices lies on device 1, logical block 318, page 59 (R343). -/
theorem test_page_map : placeOf (ready.setNand (fun n => { n with devices := [1024, 1024, 1024] })) 61234 = (1, 318 * 64 + 59) := by decide +kernel

/-- The fault sources of the example under R390. -/
theorem test_fault_sources : mkSource 7 0 3 = 0x3803 ∧ mkSource 7 3 2 = 0x3862 := by decide

/-- The record of queue node 70,000 stands at 0x22A2_2E00 (R464). -/
theorem test_node_window : nodeAt ((0x22A22E00 - 0x22000000) / 32) = some (5, 70000) := by decide

/-- Table 4.3: a residual of 600 ns slewed at 50 ns/s. -/
def slewState (seconds : Nat) : State :=
  let s : State := (ready.set .TIME_SEL_SLEW_RATE 50).setTime (fun t => { t with residual := 600 * 65536 })
  { s with now := seconds * uS }
theorem test_residual_slew : residualNow (slewState 1) = 550 * 65536 ∧ residualNow (slewState 12) = 0 := by decide +kernel

/-- The contacts of the example under R431: the first transmit contact of host lane 20, its neighbour on VCORE, and a ground (R430). -/
theorem test_contacts : contact 62 2 = "HL_TXP[20]" ∧ contact 9 19 = "VCORE" ∧ contact 9 20 = "GND" := by decide +kernel

/-- AES-256 of the example of FIPS 197, the cipher that R274 names. -/
theorem test_aes : aesEncrypt (ofBytes (List.range 32)) ((List.range 16).map (· * 17)) =
    [0x8E, 0xA2, 0xB7, 0xCA, 0x51, 0x67, 0x45, 0xBF, 0xEA, 0xFC, 0x49, 0x90, 0x4B, 0x49, 0x60, 0x89] := by decide +kernel

/-! The state after reset, the queue, the table's words. -/

theorem test_reset : State.reset.pending = [] ∧ State.reset.get .PWR_MODE_CURRENT = 1 ∧ State.reset.get .PORT_CFG_TYPE 0 = 0 := by decide +kernel

theorem test_step_takes_front : step { ready with pending := [.sysNop host, .nowSubRead] } = execSysNop host { ready with pending := [.nowSubRead] } := rfl

theorem test_step_idle : step State.reset = .next (tick State.reset) := rfl

theorem test_no_table_words : decodeTableWord 32 0 = none := rfl

/-! Ill-formed commands, one for each check of well-formedness. -/

theorem test_wf_user : (Instr.sysNop { host with user := 256 }).wf = false := by decide
theorem test_wf_tag : (Instr.sysNop { host with tag := 2 ^ 32 }).wf = false := by decide
theorem test_wf_len : (Instr.sysNop { host with len := 2 ^ 32 }).wf = false := by decide
theorem test_wf_entry_offset : (Instr.lineConfig host [⟨2 ^ 32, 0, 0⟩]).wf = false := by decide
theorem test_wf_entry_mask : (Instr.lineConfig host [⟨0, 2 ^ 64, 0⟩]).wf = false := by decide
theorem test_wf_entry_value : (Instr.lineConfig host [⟨0, 0, 2 ^ 64⟩]).wf = false := by decide
theorem test_wf_index : (Instr.bpmFree host [⟨2 ^ 64, 0⟩]).wf = false := by decide
theorem test_wf_bytes : (Instr.ciphCmac host 0 0 [256] none).wf = false := by decide
theorem test_wf_header : ({ hdr0 with tag := 2 ^ 32 } : Header).wf = false ∧ ({ hdr0 with opcode := 65536 } : Header).wf = false := by decide
theorem test_wf_submission : ({ addr := 2 ^ 64, len := 16, replyCap := 0, replyAddr := 0 } : SubEntry).wf = false := by decide
theorem test_wf_field_words : (Instr.sectorHeader 0 0 (2 ^ 128) 0 0 0 []).wf = false ∧ (Instr.envelope 0 0 0 0 0 (2 ^ 64) []).wf = false ∧
    (Instr.registerWrite (2 ^ 32) 0).wf = false := by decide
theorem test_wf_accepts : (Instr.lineConfig host [⟨0x10, 0xFF, 0x20⟩]).wf = true ∧ (Instr.grant fld0 0).wf = true := by decide +kernel

/-! Witnesses of the statements' hypotheses. -/

/-- The hypotheses of `Obligations.LineModemCommandsComplete` are met. -/
theorem witness_LineModemCommandsComplete :
    (∃ (q : Req) (es : List WEntry) (s : State), takenUp ciLineConfig q s = true ∧ wErr lineConfigAllow es = none ∧ ((∀ w ∈ wWrites .LINE_LASER_NOMINAL_MHZ es, w.2.2 = s.get .LINE_LASER_NOMINAL_MHZ w.1 ∨ smallStep (s.get .LINE_LASER_NOMINAL_MHZ w.1) w.2.2 = true ∨ retuneAllowed q w.1 s = true))) ∧
    (∃ (q : Req) (es : List WEntry) (s : State) (w : Nat × Nat × Nat), w ∈ wWrites .LINE_LASER_NOMINAL_MHZ es ∧ takenUp ciLineConfig q s = true ∧ wErr lineConfigAllow es = none ∧ w.2.2 ≠ s.get .LINE_LASER_NOMINAL_MHZ w.1 ∧ smallStep (s.get .LINE_LASER_NOMINAL_MHZ w.1) w.2.2 = false ∧ retuneAllowed q w.1 s = false) ∧
    (∃ (old : Nat), old ≠ 0) ∧
    (∃ (old : Nat) (new : Nat), new ≠ old ∧ smallStep old new = true) ∧
    (∃ (old : Nat) (new : Nat), new ≠ old ∧ new ≠ 0 ∧ smallStep old new = false) ∧
    (∃ (q : Req) (n : Nat) (s : State), n < 4 ∧ takenUp (ciLineSearch n) q s = true ∧ s.get .LINE_STATUS_SEARCHING n = 1) ∧
    (∃ (q : Req) (n : Nat) (s : State), n < 4 ∧ takenUp (ciLineSearch n) q s = true ∧ s.get .LINE_STATUS_SEARCHING n ≠ 1) ∧
    (∃ (q : Req) (n : Nat) (s : State), n < 4 ∧ takenUp (ciLineRelevel n) q s = true ∧ s.get .LINE_AGC_FROZEN n ≠ 1) ∧
    (∃ (q : Req) (n : Nat) (s : State), n < 4 ∧ takenUp (ciLineRelevel n) q s = true ∧ s.get .LINE_AGC_FROZEN n = 1 ∧ s.get .LINE_AGC_STEP_PENDING n = 1) ∧
    (∃ (q : Req) (n : Nat) (s : State), n < 4 ∧ takenUp (ciLineRelevel n) q s = true ∧ s.get .LINE_AGC_FROZEN n = 1 ∧ s.get .LINE_AGC_STEP_PENDING n ≠ 1) ∧
    (∃ (q : Req) (n : Nat) (cd : Int) (s : State), n < 4 ∧ takenUp (ciLineSetCd n) q s = true ∧ -12000 ≤ cd ∧ cd ≤ 12000 ∧ (s.line n).cdSwap = none) ∧
    (∃ (q : Req) (n : Nat) (cd : Int) (s : State) (p : PendingSwap), n < 4 ∧ takenUp (ciLineSetCd n) q s = true ∧ -12000 ≤ cd ∧ cd ≤ 12000 ∧ (s.line n).cdSwap = some p) ∧
    (∃ (q : Req) (n : Nat) (mask : Nat) (s : State), n < 4 ∧ takenUp (ciLineEqRestart n) q s = true ∧ mask < 65536 ∧ (s.line n).eqSwap = none) ∧
    (∃ (q : Req) (n : Nat) (mask : Nat) (s : State) (p : PendingSwap), n < 4 ∧ takenUp (ciLineEqRestart n) q s = true ∧ mask < 65536 ∧ (s.line n).eqSwap = some p) ∧
    (∃ (q : Req) (n : Nat) (mask : Nat) (s : State), n < 4 ∧ takenUp (ciLineScEnable n) q s = true ∧ mask < 65536 ∧ ((s.line n).controlKnown = false ∨ bit mask (s.get .LINE_STATUS_CONTROL_SC n) = true)) ∧
    (∃ (q : Req) (n : Nat) (mask : Nat) (s : State), n < 4 ∧ takenUp (ciLineScEnable n) q s = true ∧ mask < 65536 ∧ (s.line n).controlKnown = true ∧ bit mask (s.get .LINE_STATUS_CONTROL_SC n) = false) ∧
    (∃ (q : Req) (n : Nat) (s : State), n < 4 ∧ takenUp (ciLineLaserRetune n) q s = true ∧ s.get .LINE_LASER_NOMINAL_MHZ n ≠ 0 ∧ ((q.force = true ∨ s.tree n = tsOffline ∨ s.tree n = tsListen))) ∧
    (∃ (q : Req) (n : Nat) (s : State), n < 4 ∧ takenUp (ciLineLaserRetune n) q s = true ∧ (s.get .LINE_LASER_NOMINAL_MHZ n = 0 ∨ (q.force = false ∧ s.tree n ≠ tsOffline ∧ s.tree n ≠ tsListen))) ∧
    (∃ (q : Req) (n : Nat) (point : Nat) (sc : Nat) (trigger : Nat) (pre : Nat) (trigSf : Nat) (s : State), n < 4 ∧ takenUp (ciLineCapture n) q s = true ∧ point ≤ 1 ∧ sc < 16 ∧ trigger ≤ 5 ∧ pre < 128 ∧ trigSf < 2 ^ 25) ∧
    (∃ (q : Req) (es : List WEntry) (s : State), takenUp ciLineEvtEnable q s = true ∧ wErr lineEvtAllow es = none) :=
    ⟨⟨host, [], ready, by decide +kernel⟩,
    ⟨host, [wd .LINE_LASER_NOMINAL_MHZ 193500000], ((ready.set .LINE_LASER_NOMINAL_MHZ 193100000).set .LINE_TREE_STATE_STATE tsMember), (0, 0, 193500000), by decide +kernel⟩,
    ⟨1, by decide +kernel⟩,
    ⟨193100000, 193100050, by decide +kernel⟩,
    ⟨0, 1, by decide +kernel⟩,
    ⟨host, 0, (ready.set .LINE_STATUS_SEARCHING 1 0), by decide +kernel⟩,
    ⟨host, 0, (ready.set .LINE_STATUS_SEARCHING 0 0), by decide +kernel⟩,
    ⟨host, 0, (ready.set .LINE_AGC_FROZEN 0 0), by decide +kernel⟩,
    ⟨host, 0, ((ready.set .LINE_AGC_FROZEN 1 0).set .LINE_AGC_STEP_PENDING 1 0), by decide +kernel⟩,
    ⟨host, 0, ((ready.set .LINE_AGC_FROZEN 1 0).set .LINE_AGC_STEP_PENDING 0 0), by decide +kernel⟩,
    ⟨host, 0, 0, (ready.setLine 0 (fun y => { y with cdSwap := none })), by decide +kernel⟩,
    ⟨host, 0, 0, (ready.setLine 0 (fun y => { y with cdSwap := some ((⟨5, false, [host]⟩ : PendingSwap)) })), (⟨5, false, [host]⟩ : PendingSwap), by decide +kernel⟩,
    ⟨host, 0, 0, (ready.setLine 0 (fun y => { y with eqSwap := none })), by decide +kernel⟩,
    ⟨host, 0, 0, (ready.setLine 0 (fun y => { y with eqSwap := some ((⟨5, false, [host]⟩ : PendingSwap)) })), (⟨5, false, [host]⟩ : PendingSwap), by decide +kernel⟩,
    ⟨host, 0, 0, (ready.setLine 0 (fun y => { y with controlKnown := false })), by decide +kernel⟩,
    ⟨host, 0, 0, (onFld.setLine 0 (fun y => { y with controlKnown := true })), by decide +kernel⟩,
    ⟨host, 0, (ready.set .LINE_LASER_NOMINAL_MHZ 1 0), by decide +kernel⟩,
    ⟨host, 0, (ready.set .LINE_LASER_NOMINAL_MHZ 0 0), by decide +kernel⟩,
    ⟨host, 0, 0, 0, 0, 0, 0, ready, by decide +kernel⟩,
    ⟨host, [], ready, by decide +kernel⟩⟩

/-- The hypotheses of `Obligations.LaserBusEventsComplete` are met. -/
theorem witness_LaserBusEventsComplete :
    (∃ (n : Fin 4) (k : Int) (s : State) (u : State) (t : State), u = (carrierLock n k (s.setI .LINE_CFO_OFFSET_KHZ k n)).set .LINE_STATUS_FT_LIMIT (b2n (ftLimit (s.line n).ft (roundDiv k 10000))) n ∧ t = u.when (ftLimit (s.line n).ft (roundDiv k 10000) && !(s.isSet .LINE_STATUS_FT_LIMIT n)) (fun u_ => (u_.raise 0x0407 [n, ofSigned 32 (roundDiv k 1000)]).irq .LINE_EVT_STATUS_FT_LIMIT .LINE_EVT_ENABLE_FT_LIMIT (4 + n) n) ∧ t.get .LINE_LASER_FT_ENABLE n = 1 ∧ t.get .LINE_STATUS_LASER_BUS_OK n = 1 ∧ t.get .LINE_LASER_NOMINAL_MHZ n ≠ 0 ∧ t.get .FLT_STATUS_SAFE ≠ 1 ∧ (t.line n).resuming = false) ∧
    (∃ (n : Fin 4) (k : Int) (s : State) (u : State) (t : State), u = (carrierLock n k (s.setI .LINE_CFO_OFFSET_KHZ k n)).set .LINE_STATUS_FT_LIMIT (b2n (ftLimit (s.line n).ft (roundDiv k 10000))) n ∧ t = u.when (ftLimit (s.line n).ft (roundDiv k 10000) && !(s.isSet .LINE_STATUS_FT_LIMIT n)) (fun u_ => (u_.raise 0x0407 [n, ofSigned 32 (roundDiv k 1000)]).irq .LINE_EVT_STATUS_FT_LIMIT .LINE_EVT_ENABLE_FT_LIMIT (4 + n) n) ∧ (t.get .LINE_LASER_FT_ENABLE n ≠ 1 ∨ t.get .LINE_STATUS_LASER_BUS_OK n ≠ 1 ∨ t.get .LINE_LASER_NOMINAL_MHZ n = 0 ∨ t.get .FLT_STATUS_SAFE = 1 ∨ (t.line n).resuming = true)) ∧
    (∃ (n : Nat) (k : Int) (s : State), k.natAbs < 50000 ∧ (s.line n).blind = false ∧ s.get .LINE_STATUS_CARRIER_LOCK n ≠ 1 ∧ 2 ≤ (s.line n).goodRun) ∧
    (∃ (n : Nat) (k : Int) (s : State), k.natAbs < 50000 ∧ (s.line n).blind = false ∧ (s.get .LINE_STATUS_CARRIER_LOCK n = 1 ∨ (s.line n).goodRun < 2)) ∧
    (∃ (n : Nat) (k : Int) (s : State), k.natAbs < 50000 ∧ (s.line n).blind = true) ∧
    (∃ (k : Int), 50000 ≤ k.natAbs ∧ k.natAbs < 100000) ∧
    (∃ (n : Nat) (k : Int) (s : State), 100000 ≤ k.natAbs ∧ s.get .LINE_STATUS_CARRIER_LOCK n = 1 ∧ 1 ≤ (s.line n).badRun) ∧
    (∃ (n : Nat) (k : Int) (s : State), 100000 ≤ k.natAbs ∧ (s.get .LINE_STATUS_CARRIER_LOCK n ≠ 1 ∨ (s.line n).badRun = 0)) ∧
    (∃ (n : Nat) (s : State), s.get .LINE_STATUS_TX_ACTIVE n = 1) ∧
    (∃ (n : Nat) (s : State), s.get .LINE_STATUS_TX_ACTIVE n ≠ 1 ∧ s.get .LINE_STATUS_LASER_BUS_OK n = 1 ∧ s.get .FLT_STATUS_SAFE ≠ 1) ∧
    (∃ (n : Nat) (s : State), s.get .LINE_STATUS_TX_ACTIVE n ≠ 1 ∧ (s.get .LINE_STATUS_LASER_BUS_OK n ≠ 1 ∨ s.get .FLT_STATUS_SAFE = 1)) ∧
    (∃ (n : Fin 4) (s : State), ((s.line n).heldFt = none ∨ s.get .LINE_STATUS_TX_ACTIVE n = 1)) ∧
    (∃ (n : Fin 4) (s : State) (ft : _), (s.line n).heldFt = some ft ∧ s.get .LINE_STATUS_TX_ACTIVE n ≠ 1) ∧
    (∃ (n : Fin 4) (s : State), oldestFt (s.line n).bus = none) ∧
    (∃ (n : Fin 4) (s : State) (ft : Int), oldestFt (s.line n).bus = some ft ∧ ((ft - s.getI .LINE_LASER_FT_APPLIED n).natAbs ≤ 5 ∨ (s.line n).dillDue = true)) ∧
    (∃ (n : Fin 4) (s : State) (ft : Int), oldestFt (s.line n).bus = some ft ∧ 5 < (ft - s.getI .LINE_LASER_FT_APPLIED n).natAbs ∧ (s.line n).dillDue = false) ∧
    (∃ (n : Fin 4) (s : State), oldestFreq (s.line n).bus = none) ∧
    (∃ (n : Fin 4) (s : State) (m : Nat), oldestFreq (s.line n).bus = some m ∧ (s.line n).forced = false) ∧
    (∃ (n : Fin 4) (s : State) (m : Nat), oldestFreq (s.line n).bus = some m ∧ (s.line n).forced = true) ∧
    (∃ (n : Fin 4) (s : State), (s.line n).retuning = false) ∧
    (∃ (n : Fin 4) (s : State), (s.line n).retuning = true ∧ s.tree n = tsOffline ∧ s.get .LINE_STATUS_SEARCHING n ≠ 1) ∧
    (∃ (n : Fin 4) (s : State), (s.line n).retuning = true ∧ (s.tree n ≠ tsOffline ∨ s.get .LINE_STATUS_SEARCHING n = 1)) ∧
    (∃ (n : Fin 4) (s : State), (s.line n).bus = []) ∧
    (∃ (n : Fin 4) (s : State) (c : LaserCmd) (r : List LaserCmd), (s.line n).bus = c :: r ∧ (s.line n).tries < 3) ∧
    (∃ (n : Fin 4) (s : State) (c : LaserCmd) (r : List LaserCmd), (s.line n).bus = c :: r ∧ 3 ≤ (s.line n).tries) ∧
    (∃ (n : Fin 4) (s : State), s.expired (.laserPoll n) (100 * uMs) = false) ∧
    (∃ (n : Fin 4) (s : State) (t : State), s.expired (.laserPoll n) (100 * uMs) = true ∧ t = ((((s.emit (.laser n 0x20 0)).stop (.laserPoll n)).set .LINE_STATUS_LASER_BUS_OK 1 n).setLine n (fun l => { l with resuming := true })) ∧ (t.line n).wantMHz ≠ 0 ∧ (t.line n).wantMHz ≠ (t.line n).laserMHz) ∧
    (∃ (n : Fin 4) (s : State) (t : State), s.expired (.laserPoll n) (100 * uMs) = true ∧ t = ((((s.emit (.laser n 0x20 0)).stop (.laserPoll n)).set .LINE_STATUS_LASER_BUS_OK 1 n).setLine n (fun l => { l with resuming := true })) ∧ ((t.line n).wantMHz = 0 ∨ (t.line n).wantMHz = (t.line n).laserMHz)) :=
    ⟨⟨0, 0, (((((ready.set .LINE_LASER_FT_ENABLE 1 0).set .LINE_STATUS_LASER_BUS_OK 1 0).set .LINE_LASER_NOMINAL_MHZ 1 0).set .FLT_STATUS_SAFE 0).setLine 0 (fun y => { y with resuming := false })), _, _, rfl, rfl, by decide +kernel⟩,
    ⟨0, 0, (ready.set .LINE_LASER_FT_ENABLE 0 0), _, _, rfl, rfl, by decide +kernel⟩,
    ⟨0, 0, (((ready.setLine 0 (fun y => { y with blind := false })).set .LINE_STATUS_CARRIER_LOCK 0 0).setLine 0 (fun y => { y with goodRun := 3 })), by decide +kernel⟩,
    ⟨0, 0, ((ready.setLine 0 (fun y => { y with blind := false })).set .LINE_STATUS_CARRIER_LOCK 1 0), by decide +kernel⟩,
    ⟨0, 0, (ready.setLine 0 (fun y => { y with blind := true })), by decide +kernel⟩,
    ⟨(-99999), by decide +kernel⟩,
    ⟨0, (-100000), ((ready.set .LINE_STATUS_CARRIER_LOCK 1 0).setLine 0 (fun y => { y with badRun := 2 })), by decide +kernel⟩,
    ⟨0, 100000, (ready.set .LINE_STATUS_CARRIER_LOCK 0 0), by decide +kernel⟩,
    ⟨0, (ready.set .LINE_STATUS_TX_ACTIVE 1 0), by decide +kernel⟩,
    ⟨0, (((ready.set .LINE_STATUS_TX_ACTIVE 0 0).set .LINE_STATUS_LASER_BUS_OK 1 0).set .FLT_STATUS_SAFE 0), by decide +kernel⟩,
    ⟨0, ((ready.set .LINE_STATUS_TX_ACTIVE 0 0).set .LINE_STATUS_LASER_BUS_OK 0 0), by decide +kernel⟩,
    ⟨0, (ready.setLine 0 (fun y => { y with heldFt := none })), by decide +kernel⟩,
    ⟨0, ((ready.setLine 0 (fun y => { y with heldFt := some 0 })).set .LINE_STATUS_TX_ACTIVE 0 0), 0, by decide +kernel⟩,
    ⟨0, ready, by decide +kernel⟩,
    ⟨0, (ready.setLine 0 (fun y => { y with bus := [.fineTune (-5)] })), (-5), by decide +kernel⟩,
    ⟨0, ((ready.setLine 0 (fun y => { y with dillDue := false })).setLine 0 (fun y => { y with bus := [.fineTune 6] })), 6, by decide +kernel⟩,
    ⟨0, ready, by decide +kernel⟩,
    ⟨0, ((ready.setLine 0 (fun y => { y with forced := false })).setLine 0 (fun y => { y with bus := [.setFreq 193100000] })), 193100000, by decide +kernel⟩,
    ⟨0, ((ready.setLine 0 (fun y => { y with forced := true })).setLine 0 (fun y => { y with bus := [.setFreq 193100000] })), 193100000, by decide +kernel⟩,
    ⟨0, (ready.setLine 0 (fun y => { y with retuning := false })), by decide +kernel⟩,
    ⟨0, (((ready.setLine 0 (fun y => { y with retuning := true })).set .LINE_TREE_STATE_STATE tsOffline 0).set .LINE_STATUS_SEARCHING 0 0), by decide +kernel⟩,
    ⟨0, ((ready.setLine 0 (fun y => { y with retuning := true })).set .LINE_TREE_STATE_STATE tsMember 0), by decide +kernel⟩,
    ⟨0, (ready.setLine 0 (fun y => { y with bus := [] })), by decide +kernel⟩,
    ⟨0, ((ready.setLine 0 (fun y => { y with bus := .status :: ([]) })).setLine 0 (fun y => { y with bus := [.status], tries := 2 })), .status, [], by decide +kernel⟩,
    ⟨0, (((ready.setLine 0 (fun y => { y with bus := .status :: ([]) })).setLine 0 (fun y => { y with tries := 4 })).setLine 0 (fun y => { y with bus := [.status], tries := 3 })), .status, [], by decide +kernel⟩,
    ⟨0, ready, by decide +kernel⟩,
    ⟨0, (let y : State := ((ready.start (.laserPoll 0)).setLine 0 (fun y => { y with wantMHz := 193100000 })); { y with now := (100 * uMs) }), _, by decide +kernel, rfl, by decide +kernel⟩,
    ⟨0, (let y : State := ((ready.start (.laserPoll 0)).setLine 0 (fun y => { y with wantMHz := 0 })); { y with now := (100 * uMs) }), _, by decide +kernel, rfl, by decide +kernel⟩⟩

/-- The hypotheses of `Obligations.LineSignalEventsComplete` are met. -/
theorem witness_LineSignalEventsComplete :
    (∃ (n : Fin 4) (s : State), s.get .LINE_STATUS_LIGHT n ≠ 1) ∧
    (∃ (n : Fin 4) (s : State), s.get .LINE_STATUS_LIGHT n = 1) ∧
    (∃ (n : Fin 4) (s : State), (s.get .LINE_STATUS_SEARCHING n ≠ 1 ∨ s.expired (.dillPass n) uMs = false ∨ s.portGated n = true)) ∧
    (∃ (n : Fin 4) (hyps : List Hyp) (s : State) (p : Nat) (c : Nat) (rest : List (Nat × Nat)), s.get .LINE_STATUS_SEARCHING n = 1 ∧ s.expired (.dillPass n) uMs = true ∧ s.portGated n = false ∧ beaconsAt 2 hyps = (p, c) :: rest ∧ (∃ b ∈ rest, b.2 ≠ c)) ∧
    (∃ (n : Fin 4) (hyps : List Hyp) (s : State) (p : Nat) (c : Nat) (rest : List (Nat × Nat)), s.get .LINE_STATUS_SEARCHING n = 1 ∧ s.expired (.dillPass n) uMs = true ∧ s.portGated n = false ∧ beaconsAt 2 hyps = (p, c) :: rest ∧ (∀ b ∈ rest, b.2 = c)) ∧
    (∃ (n : Fin 4) (hyps : List Hyp) (s : State) (t : State) (rate : _), t = (hyps.take 48).zipIdx.foldl (setSearch n) s ∧ s.get .LINE_STATUS_SEARCHING n = 1 ∧ s.expired (.dillPass n) uMs = true ∧ s.portGated n = false ∧ beaconsAt 2 hyps = [] ∧ rate = (if beaconsAt 0 hyps ≠ [] then 4 else if beaconsAt 1 hyps ≠ [] then 8 else 0) ∧ (rate = 0 ∨ ((t.start (.dillPass n)).line n).rateReported = true)) ∧
    (∃ (n : Fin 4) (hyps : List Hyp) (s : State) (t : State) (rate : _), t = (hyps.take 48).zipIdx.foldl (setSearch n) s ∧ s.get .LINE_STATUS_SEARCHING n = 1 ∧ s.expired (.dillPass n) uMs = true ∧ s.portGated n = false ∧ beaconsAt 2 hyps = [] ∧ rate = (if beaconsAt 0 hyps ≠ [] then 4 else if beaconsAt 1 hyps ≠ [] then 8 else 0) ∧ rate ≠ 0 ∧ ((t.start (.dillPass n)).line n).rateReported = false) ∧
    (∃ (n : Nat) (s : State), (s.get .LINE_AGC_STEP_PENDING n ≠ 1 ∨ (s.line n).stepDue = false)) ∧
    (∃ (n : Nat) (g : Nat) (s : State), s.get .LINE_AGC_STEP_PENDING n = 1 ∧ (s.line n).stepDue = true ∧ (g : Int) = clamp 0 300 (s.get .LINE_AGC_GAIN n + -(s.getI .LINE_AGC_DRIFT n))) ∧
    (∃ (n : Nat) (v : Int) (qs : List Req) (s : State), ((s.line n).cdSwap = none ∨ (s.line n).cdSwap = some ⟨v, false, qs⟩)) ∧
    (∃ (n : Nat) (v : Int) (qs : List Req) (s : State), (s.line n).cdSwap = some ⟨v, true, qs⟩) ∧
    (∃ (n : Nat) (v : Int) (qs : List Req) (s : State), ((s.line n).eqSwap = none ∨ (s.line n).eqSwap = some ⟨v, false, qs⟩)) ∧
    (∃ (n : Nat) (v : Int) (qs : List Req) (s : State), (s.line n).eqSwap = some ⟨v, true, qs⟩) ∧
    (∃ (n : Fin 4) (sc : Fin 16) (mine : List Mark) (s : State), mine = (s.line n).marks.filter (fun m => m.sc == sc.val && !m.counted) ∧ (mine = [] ∨ (∃ m ∈ mine, m.ended s.now = false))) ∧
    (∃ (n : Fin 4) (sc : Fin 16) (mine : List Mark) (s : State), mine = (s.line n).marks.filter (fun m => m.sc == sc.val && !m.counted) ∧ mine ≠ [] ∧ (∀ m ∈ mine, m.ended s.now = true)) ∧
    (∃ (n : Fin 4) (sc : Fin 16) (s : State), (s.get .LINE_FRM_STATE n sc = 0 ∨ s.portGated n = true)) ∧
    (∃ (n : Fin 4) (sc : Fin 16) (sf : Nat) (pair : Nat) (x : Nat) (y : Nat) (before : Nat) (word : List Nat) (hard : List Nat) (data : List Nat) (a : Codeword) (b : Codeword) (c : Codeword) (s : State) (t : State) (u : State) (v : State) (lost : Bool) (w : State), s.get .LINE_FRM_STATE n sc ≠ 0 ∧ s.portGated n = false ∧ decodePair word = (a, b, data) ∧ injectPair n sc a s = (c, t) ∧ u = (if suspect n sc x y t = true then t.bump .LSC_CW_SUSPECT 2 n sc else pmCodewords n sc (b2n (c == .uncorrectable) + b2n (b == .uncorrectable)) (countCodeword n sc b (countCodeword n sc c (t.bump .LSC_TRELLIS_CORR (trellisErrors before pair word hard) n sc)))) ∧ v = u.when (b2n (c == .uncorrectable) + b2n (b == .uncorrectable) != 0 && !(suspect n sc x y t)) (captureCause n 3) ∧ lost = (!(pairPasses n sc x y c b t) && (v.get .LINE_FRM_ENV_STATE n sc == 2 || (match (v.frame n).pairs.find? (fun p => p.sc == sc.val) with | some p => p.lost | none => false))) ∧ w = v.setFrame n (fun f => { f with pairs := ⟨sc, sf % 2 ^ 25, pair, x, y, pairPasses n sc x y c b t, suspect n sc x y t, lost, data⟩ :: f.pairs }) ∧ (pairPasses n sc x y c b t = true ∨ w.get .LINE_FRM_STATE n sc ≠ 2)) ∧
    (∃ (n : Fin 4) (sc : Fin 16) (sf : Nat) (pair : Nat) (x : Nat) (y : Nat) (before : Nat) (word : List Nat) (hard : List Nat) (data : List Nat) (a : Codeword) (b : Codeword) (c : Codeword) (s : State) (t : State) (u : State) (v : State) (lost : Bool) (w : State), s.get .LINE_FRM_STATE n sc ≠ 0 ∧ s.portGated n = false ∧ decodePair word = (a, b, data) ∧ injectPair n sc a s = (c, t) ∧ u = (if suspect n sc x y t = true then t.bump .LSC_CW_SUSPECT 2 n sc else pmCodewords n sc (b2n (c == .uncorrectable) + b2n (b == .uncorrectable)) (countCodeword n sc b (countCodeword n sc c (t.bump .LSC_TRELLIS_CORR (trellisErrors before pair word hard) n sc)))) ∧ v = u.when (b2n (c == .uncorrectable) + b2n (b == .uncorrectable) != 0 && !(suspect n sc x y t)) (captureCause n 3) ∧ lost = (!(pairPasses n sc x y c b t) && (v.get .LINE_FRM_ENV_STATE n sc == 2 || (match (v.frame n).pairs.find? (fun p => p.sc == sc.val) with | some p => p.lost | none => false))) ∧ w = v.setFrame n (fun f => { f with pairs := ⟨sc, sf % 2 ^ 25, pair, x, y, pairPasses n sc x y c b t, suspect n sc x y t, lost, data⟩ :: f.pairs }) ∧ pairPasses n sc x y c b t = false ∧ w.get .LINE_FRM_STATE n sc = 2) ∧
    (∃ (n : Fin 4) (s : State), (s.line n).sfCount < 64) ∧
    (∃ (n : Fin 4) (s : State), 64 ≤ (s.line n).sfCount) ∧
    (∃ (n : Fin 4) (s : State), (s.line n).trigger = false) ∧
    (∃ (n : Fin 4) (s : State) (t : State), t = s.setLine n (fun l => { l with trigger := false }) ∧ (s.line n).trigger = true ∧ t.get .LINE_CAP_STATUS_ARMED n ≠ 1) ∧
    (∃ (n : Fin 4) (s : State) (t : State), t = s.setLine n (fun l => { l with trigger := false }) ∧ (s.line n).trigger = true ∧ t.get .LINE_CAP_STATUS_ARMED n = 1 ∧ (t.line n).triggered = true) ∧
    (∃ (n : Fin 4) (s : State) (t : State), t = s.setLine n (fun l => { l with trigger := false }) ∧ (s.line n).trigger = true ∧ t.get .LINE_CAP_STATUS_ARMED n = 1 ∧ (t.line n).triggered = false) ∧
    (∃ (n : Fin 4) (s : State), (s.get .LINE_CAP_STATUS_ARMED n ≠ 1 ∨ (s.line n).triggered = false)) ∧
    (∃ (n : Fin 4) (s : State), s.get .LINE_CAP_STATUS_ARMED n = 1 ∧ (s.line n).triggered = true) :=
    ⟨⟨0, (ready.set .LINE_STATUS_LIGHT 0 0), by decide +kernel⟩,
    ⟨0, (ready.set .LINE_STATUS_LIGHT 1 0), by decide +kernel⟩,
    ⟨0, (ready.set .LINE_STATUS_SEARCHING 0 0), by decide +kernel⟩,
    ⟨0, (List.replicate 32 (⟨false, false, false, 0, 0, 0⟩ : Hyp) ++ [⟨true, true, true, 3, 0, 0⟩, ⟨true, true, true, 4, 0, 0⟩]), (let y : State := ((ready.set .LINE_STATUS_SEARCHING 1 0).start (.dillPass 0)); { y with now := uMs }), 0, 3, [(1, 4)], by decide +kernel⟩,
    ⟨0, (List.replicate 32 (⟨false, false, false, 0, 0, 0⟩ : Hyp) ++ [⟨true, true, true, 3, 0, 0⟩, ⟨true, true, true, 3, 0, 0⟩]), (let y : State := ((ready.set .LINE_STATUS_SEARCHING 1 0).start (.dillPass 0)); { y with now := uMs }), 0, 3, [(1, 3)], by decide +kernel, by decide +kernel, by decide +kernel, (by decide +kernel), by first | decide +kernel | (intros; first | rfl | (simp_all; done) | decide)⟩,
    ⟨0, [], (let y : State := ((ready.set .LINE_STATUS_SEARCHING 1 0).start (.dillPass 0)); { y with now := uMs }), _, _, rfl, by decide +kernel, by decide +kernel, by decide +kernel, (by decide +kernel), rfl, by decide +kernel⟩,
    ⟨0, (List.replicate 16 (⟨false, false, false, 0, 0, 0⟩ : Hyp) ++ [⟨true, true, true, 3, 0, 0⟩]), (let y : State := ((ready.set .LINE_STATUS_SEARCHING 1 0).start (.dillPass 0)); { y with now := uMs }), _, _, rfl, by decide +kernel, by decide +kernel, by decide +kernel, (by decide +kernel), rfl, by decide +kernel⟩,
    ⟨0, (ready.set .LINE_AGC_STEP_PENDING 0 0), by decide +kernel⟩,
    ⟨0, 0, ((ready.set .LINE_AGC_STEP_PENDING 1 0).setLine 0 (fun y => { y with stepDue := true })), by decide +kernel⟩,
    ⟨0, 0, [], (ready.setLine 0 (fun y => { y with cdSwap := none })), by decide +kernel⟩,
    ⟨0, 0, [], (ready.setLine 0 (fun y => { y with cdSwap := some ⟨0, true, ([])⟩ })), by decide +kernel⟩,
    ⟨0, 0, [], (ready.setLine 0 (fun y => { y with eqSwap := none })), by decide +kernel⟩,
    ⟨0, 0, [], (ready.setLine 0 (fun y => { y with eqSwap := some ⟨0, true, ([])⟩ })), by decide +kernel⟩,
    ⟨0, 0, _, ready, rfl, by decide +kernel⟩,
    ⟨0, 0, [⟨0, 0, some 5, false⟩], (let y : State := (ready.setLine 0 (fun y => { y with marks := [⟨0, 0, some 5, false⟩] })); { y with now := 5 }), by decide +kernel, by decide +kernel, by first | decide +kernel | (intros; first | rfl | (simp_all; done) | decide)⟩,
    ⟨0, 0, (ready.set .LINE_FRM_STATE 0 0 0), by decide +kernel⟩,
    ⟨0, 0, 0, 0, 0, 0, 0, [], [], [], .decoded 0, .decoded 0, .decoded 0, (ready.set .LINE_FRM_STATE 1 0 0), (ready.set .LINE_FRM_STATE 1 0 0), _, _, _, _, by decide +kernel, by decide +kernel, by decide +kernel, (by decide +kernel), rfl, rfl, rfl, rfl, by decide +kernel⟩,
    ⟨0, 0, 0, 0, 0, 0, 0, [], [], [], .decoded 0, .decoded 0, .decoded 0, (((ready.set .LINE_FRM_STATE 1 0 0).set .LINE_FRM_STATE 2 0 0).setLine 0 (fun y => { y with marks := [⟨0, 0, none, false⟩] })), (((ready.set .LINE_FRM_STATE 1 0 0).set .LINE_FRM_STATE 2 0 0).setLine 0 (fun y => { y with marks := [⟨0, 0, none, false⟩] })), _, _, _, _, by decide +kernel, by decide +kernel, by decide +kernel, (by decide +kernel), rfl, rfl, rfl, rfl, by decide +kernel⟩,
    ⟨0, ready, by decide +kernel⟩,
    ⟨0, (ready.setLine 0 (fun y => { y with sfCount := 65 })), by decide +kernel⟩,
    ⟨0, (ready.setLine 0 (fun y => { y with trigger := false })), by decide +kernel⟩,
    ⟨0, ((ready.setLine 0 (fun y => { y with trigger := true })).set .LINE_CAP_STATUS_ARMED 0 0), _, rfl, by decide +kernel⟩,
    ⟨0, ((((ready.setLine 0 (fun y => { y with trigger := true })).set .LINE_CAP_STATUS_ARMED 1 0).setLine 0 (fun y => { y with triggered := true })).set .LINE_CAP_STATUS_ARMED 1), _, rfl, by decide +kernel⟩,
    ⟨0, ((((ready.setLine 0 (fun y => { y with trigger := true })).set .LINE_CAP_STATUS_ARMED 1 0).setLine 0 (fun y => { y with triggered := false })).set .LINE_CAP_STATUS_ARMED 1), _, rfl, by decide +kernel⟩,
    ⟨0, (ready.set .LINE_CAP_STATUS_ARMED 0 0), by decide +kernel⟩,
    ⟨0, ((ready.set .LINE_CAP_STATUS_ARMED 1 0).setLine 0 (fun y => { y with triggered := true })), by decide +kernel⟩⟩

/-- The hypotheses of `Obligations.FramingCommandsComplete` are met. -/
theorem witness_FramingCommandsComplete :
    (∃ (q : Req) (es : List WEntry) (s : State), takenUp ciLineFrameConfig q s = true ∧ wErr frameConfigAllow es = none) ∧
    (∃ (q : Req) (es : List WEntry) (s : State), takenUp ciLineOspConfig q s = true ∧ wErr ospAllow es = none) ∧
    (∃ (q : Req) (es : List REntry) (s : State), takenUp ciLineTsiWrite q s = true ∧ rErr 16 tsiEntryErr es = none ∧ (∀ e ∈ es, bits e.index 32 1 = 0 → tsiReady (bits e.index 34 2) (bits e.index 33 1) s = false)) ∧
    (∃ (q : Req) (es : List REntry) (s : State) (e : REntry), e ∈ es ∧ takenUp ciLineTsiWrite q s = true ∧ rErr 16 tsiEntryErr es = none ∧ bits e.index 32 1 = 0 ∧ tsiReady (bits e.index 34 2) (bits e.index 33 1) s = true) ∧
    (∃ (e : REntry) (n : Nat) (dir : Nat), bits e.index 34 2 = n ∧ bits e.index 33 1 = dir ∧ bits e.index 32 1 = 0) ∧
    (∃ (e : REntry) (n : Nat) (dir : Nat), bits e.index 34 2 = n ∧ bits e.index 33 1 = dir ∧ bits e.index 32 1 ≠ 0) ∧
    (∃ (q : Req) (n : Nat) (s : State), n < 4 ∧ takenUp (ciLineTsiReady n) q s = true ∧ swapAnnounced n s = false) ∧
    (∃ (q : Req) (n : Nat) (s : State), n < 4 ∧ takenUp (ciLineTsiReady n) q s = true ∧ swapAnnounced n s = true) ∧
    (∃ (q : Req) (index : Nat) (slot : Nat) (dest : Nat) (source : Nat) (vlan : Nat) (s : State), index < 256 ∧ slot < 32 ∧ dest < 2 ^ 48 ∧ source < 2 ^ 48 ∧ vlan < 2 ^ 32 ∧ takenAtomic (ciLineTribConfig (index / 64)) q s = true) ∧
    (∃ (n : Nat) (t : Nat) (x : Trib) (s : State), Tab.get {} (s.frame n).tribs t = x) :=
    ⟨⟨host, [], ready, by decide +kernel⟩,
    ⟨host, [], ready, by decide +kernel⟩,
    ⟨host, [], ready, by decide +kernel, by decide +kernel, by first | decide +kernel | (intros; first | rfl | (simp_all; done) | decide)⟩,
    ⟨host, [⟨0, 0⟩], ((ready.set .LINE_TSI_UP_READY 1).set .LINE_TSI_DN_READY 1), ⟨0, 0⟩, by decide +kernel⟩,
    ⟨⟨0, 0⟩, 0, 0, by decide +kernel⟩,
    ⟨⟨2 ^ 32 + 2 ^ 33 + 3 * 2 ^ 34, 0⟩, 3, 1, by decide +kernel⟩,
    ⟨host, 0, ready, by decide +kernel⟩,
    ⟨host, 0, (ready.setFrame 0 (fun y => { y with dnSwapAt := some 3 })), by decide +kernel⟩,
    ⟨host, 0, 0, 0, 0, 0, ready, by decide +kernel⟩,
    ⟨0, 0, {}, (ready.setFrame 0 (fun y => { y with tribs := Tab.put {} y.tribs 0 (({})) })), by decide +kernel⟩⟩

/-- The hypotheses of `Obligations.HeaderEventsComplete` are met. -/
theorem witness_HeaderEventsComplete :
    (∃ (n : Fin 4) (sc : Fin 16) (s : State), (s.get .LINE_SC_ENABLED n sc ≠ 1 ∨ ((s.frame n).mapKnown = true ∧ s.get .LINE_SC_FORMAT n sc = 3) ∨ (noteField n sc 0 s).portGated n = true)) ∧
    (∃ (n : Fin 4) (sc : Fin 16) (a : Nat) (b : Nat) (gain : Nat) (s : State) (u : State), u = agcFollow n gain (noteField n sc 0 s) ∧ s.get .LINE_SC_ENABLED n sc = 1 ∧ ((s.frame n).mapKnown = false ∨ s.get .LINE_SC_FORMAT n sc ≠ 3) ∧ (noteField n sc 0 s).portGated n = false ∧ headerNeutral n sc a b u = true ∧ s.get .LINE_FRM_STATE n sc = 0) ∧
    (∃ (n : Fin 4) (sc : Fin 16) (a : Nat) (b : Nat) (gain : Nat) (s : State) (u : State), u = agcFollow n gain (noteField n sc 0 s) ∧ s.get .LINE_SC_ENABLED n sc = 1 ∧ ((s.frame n).mapKnown = false ∨ s.get .LINE_SC_FORMAT n sc ≠ 3) ∧ (noteField n sc 0 s).portGated n = false ∧ headerNeutral n sc a b u = true ∧ s.get .LINE_FRM_STATE n sc ≠ 0) ∧
    (∃ (n : Fin 4) (sc : Fin 16) (header : Nat) (a : Nat) (b : Nat) (gain : Nat) (s : State) (u : State) (h : Nat), h = header % 2 ^ 128 ∧ u = agcFollow n gain (noteField n sc 0 s) ∧ s.get .LINE_SC_ENABLED n sc = 1 ∧ ((s.frame n).mapKnown = false ∨ s.get .LINE_SC_FORMAT n sc ≠ 3) ∧ (noteField n sc 0 s).portGated n = false ∧ headerNeutral n sc a b u = false ∧ s.get .LINE_FRM_STATE n sc = 0 ∧ hdrFits h sc = false) ∧
    (∃ (n : Fin 4) (sc : Fin 16) (header : Nat) (a : Nat) (b : Nat) (gain : Nat) (s : State) (u : State) (h : Nat) (t : _), h = header % 2 ^ 128 ∧ u = agcFollow n gain (noteField n sc 0 s) ∧ s.get .LINE_SC_ENABLED n sc = 1 ∧ ((s.frame n).mapKnown = false ∨ s.get .LINE_SC_FORMAT n sc ≠ 3) ∧ (noteField n sc 0 s).portGated n = false ∧ headerNeutral n sc a b u = false ∧ s.get .LINE_FRM_STATE n sc = 0 ∧ hdrFits h sc = true ∧ t = (u.set .LINE_FRM_STATE 1 n sc).set .LINE_FRM_FIT_RUN 0 n sc ∧ (t.frame n).mapKnown = true) ∧
    (∃ (n : Fin 4) (sc : Fin 16) (header : Nat) (a : Nat) (b : Nat) (gain : Nat) (s : State) (u : State) (h : Nat) (t : _), h = header % 2 ^ 128 ∧ u = agcFollow n gain (noteField n sc 0 s) ∧ s.get .LINE_SC_ENABLED n sc = 1 ∧ ((s.frame n).mapKnown = false ∨ s.get .LINE_SC_FORMAT n sc ≠ 3) ∧ (noteField n sc 0 s).portGated n = false ∧ headerNeutral n sc a b u = false ∧ s.get .LINE_FRM_STATE n sc = 0 ∧ hdrFits h sc = true ∧ t = (u.set .LINE_FRM_STATE 1 n sc).set .LINE_FRM_FIT_RUN 0 n sc ∧ (t.frame n).mapKnown = false) ∧
    (∃ (n : Fin 4) (sc : Fin 16) (header : Nat) (a : Nat) (b : Nat) (gain : Nat) (s : State) (u : State) (h : Nat) (p : Nat) (t : _), h = header % 2 ^ 128 ∧ p = Tab.get 0 (s.frame n).predicted sc ∧ u = agcFollow n gain (noteField n sc 0 s) ∧ s.get .LINE_SC_ENABLED n sc = 1 ∧ ((s.frame n).mapKnown = false ∨ s.get .LINE_SC_FORMAT n sc ≠ 3) ∧ (noteField n sc 0 s).portGated n = false ∧ headerNeutral n sc a b u = false ∧ s.get .LINE_FRM_STATE n sc = 1 ∧ hdrFits h sc = true ∧ hdrSf h * 256 + hdrSector h = p ∧ hdrFormat h = u.get .LINE_SC_FORMAT n sc ∧ t = fieldTaken n sc p false (fitHeader n sc h a u) ∧ t.get .LINE_FRM_CFG_DELTA n ≤ t.get .LINE_FRM_FIT_RUN n sc + 1) ∧
    (∃ (n : Fin 4) (sc : Fin 16) (header : Nat) (a : Nat) (b : Nat) (gain : Nat) (s : State) (u : State) (h : Nat) (p : Nat) (t : _), h = header % 2 ^ 128 ∧ p = Tab.get 0 (s.frame n).predicted sc ∧ u = agcFollow n gain (noteField n sc 0 s) ∧ s.get .LINE_SC_ENABLED n sc = 1 ∧ ((s.frame n).mapKnown = false ∨ s.get .LINE_SC_FORMAT n sc ≠ 3) ∧ (noteField n sc 0 s).portGated n = false ∧ headerNeutral n sc a b u = false ∧ s.get .LINE_FRM_STATE n sc = 1 ∧ hdrFits h sc = true ∧ hdrSf h * 256 + hdrSector h = p ∧ hdrFormat h = u.get .LINE_SC_FORMAT n sc ∧ t = fieldTaken n sc p false (fitHeader n sc h a u) ∧ t.get .LINE_FRM_FIT_RUN n sc + 1 < t.get .LINE_FRM_CFG_DELTA n) ∧
    (∃ (n : Fin 4) (sc : Fin 16) (header : Nat) (a : Nat) (b : Nat) (gain : Nat) (s : State) (u : State) (h : Nat) (p : Nat), h = header % 2 ^ 128 ∧ p = Tab.get 0 (s.frame n).predicted sc ∧ u = agcFollow n gain (noteField n sc 0 s) ∧ s.get .LINE_SC_ENABLED n sc = 1 ∧ ((s.frame n).mapKnown = false ∨ s.get .LINE_SC_FORMAT n sc ≠ 3) ∧ (noteField n sc 0 s).portGated n = false ∧ headerNeutral n sc a b u = false ∧ s.get .LINE_FRM_STATE n sc = 1 ∧ (hdrFits h sc = false ∨ hdrSf h * 256 + hdrSector h ≠ p ∨ hdrFormat h ≠ u.get .LINE_SC_FORMAT n sc)) ∧
    (∃ (n : Fin 4) (sc : Fin 16) (header : Nat) (a : Nat) (b : Nat) (gain : Nat) (s : State) (u : State) (h : Nat) (p : Nat) (t : _), h = header % 2 ^ 128 ∧ p = Tab.get 0 (s.frame n).predicted sc ∧ u = agcFollow n gain (noteField n sc 0 s) ∧ s.get .LINE_SC_ENABLED n sc = 1 ∧ ((s.frame n).mapKnown = false ∨ s.get .LINE_SC_FORMAT n sc ≠ 3) ∧ (noteField n sc 0 s).portGated n = false ∧ headerNeutral n sc a b u = false ∧ s.get .LINE_FRM_STATE n sc = 2 ∧ hdrFits h sc = true ∧ hdrSf h * 256 + hdrSector h = p ∧ hdrFormat h = u.get .LINE_SC_FORMAT n sc ∧ t = fieldTaken n sc p true (noteField n sc (p % 256 + 1) ((fitHeader n sc h a u).set .LINE_FRM_MISFIT_RUN 0 n sc)) ∧ isControl n sc t = true) ∧
    (∃ (n : Fin 4) (sc : Fin 16) (header : Nat) (a : Nat) (b : Nat) (gain : Nat) (s : State) (u : State) (h : Nat) (p : Nat) (t : _), h = header % 2 ^ 128 ∧ p = Tab.get 0 (s.frame n).predicted sc ∧ u = agcFollow n gain (noteField n sc 0 s) ∧ s.get .LINE_SC_ENABLED n sc = 1 ∧ ((s.frame n).mapKnown = false ∨ s.get .LINE_SC_FORMAT n sc ≠ 3) ∧ (noteField n sc 0 s).portGated n = false ∧ headerNeutral n sc a b u = false ∧ s.get .LINE_FRM_STATE n sc = 2 ∧ hdrFits h sc = true ∧ hdrSf h * 256 + hdrSector h = p ∧ hdrFormat h = u.get .LINE_SC_FORMAT n sc ∧ t = fieldTaken n sc p true (noteField n sc (p % 256 + 1) ((fitHeader n sc h a u).set .LINE_FRM_MISFIT_RUN 0 n sc)) ∧ isControl n sc t = false) ∧
    (∃ (n : Fin 4) (sc : Fin 16) (header : Nat) (a : Nat) (b : Nat) (gain : Nat) (others : List (Nat × Nat)) (s : State) (u : State) (h : Nat) (p : Nat) (f : Nat) (g : Nat), h = header % 2 ^ 128 ∧ p = Tab.get 0 (s.frame n).predicted sc ∧ u = agcFollow n gain (noteField n sc 0 s) ∧ s.get .LINE_SC_ENABLED n sc = 1 ∧ ((s.frame n).mapKnown = false ∨ s.get .LINE_SC_FORMAT n sc ≠ 3) ∧ (noteField n sc 0 s).portGated n = false ∧ headerNeutral n sc a b u = false ∧ s.get .LINE_FRM_STATE n sc = 2 ∧ (hdrFits h sc = false ∨ hdrSf h * 256 + hdrSector h ≠ p ∨ hdrFormat h ≠ u.get .LINE_SC_FORMAT n sc) ∧ otherFormat n sc others u = some (f, g)) ∧
    (∃ (n : Fin 4) (sc : Fin 16) (header : Nat) (a : Nat) (b : Nat) (gain : Nat) (others : List (Nat × Nat)) (s : State) (u : State) (h : Nat) (p : Nat) (t : _), h = header % 2 ^ 128 ∧ p = Tab.get 0 (s.frame n).predicted sc ∧ u = agcFollow n gain (noteField n sc 0 s) ∧ s.get .LINE_SC_ENABLED n sc = 1 ∧ ((s.frame n).mapKnown = false ∨ s.get .LINE_SC_FORMAT n sc ≠ 3) ∧ (noteField n sc 0 s).portGated n = false ∧ headerNeutral n sc a b u = false ∧ s.get .LINE_FRM_STATE n sc = 2 ∧ (hdrFits h sc = false ∨ hdrSf h * 256 + hdrSector h ≠ p ∨ hdrFormat h ≠ u.get .LINE_SC_FORMAT n sc) ∧ otherFormat n sc others u = none ∧ t = fieldTaken n sc p false (u.inc .LSC_HDR_MISFIT n sc) ∧ 3 ≤ t.get .LINE_FRM_MISFIT_RUN n sc) ∧
    (∃ (n : Fin 4) (sc : Fin 16) (header : Nat) (a : Nat) (b : Nat) (gain : Nat) (others : List (Nat × Nat)) (s : State) (u : State) (h : Nat) (p : Nat) (t : _), h = header % 2 ^ 128 ∧ p = Tab.get 0 (s.frame n).predicted sc ∧ u = agcFollow n gain (noteField n sc 0 s) ∧ s.get .LINE_SC_ENABLED n sc = 1 ∧ ((s.frame n).mapKnown = false ∨ s.get .LINE_SC_FORMAT n sc ≠ 3) ∧ (noteField n sc 0 s).portGated n = false ∧ headerNeutral n sc a b u = false ∧ s.get .LINE_FRM_STATE n sc = 2 ∧ (hdrFits h sc = false ∨ hdrSf h * 256 + hdrSector h ≠ p ∨ hdrFormat h ≠ u.get .LINE_SC_FORMAT n sc) ∧ otherFormat n sc others u = none ∧ t = fieldTaken n sc p false (u.inc .LSC_HDR_MISFIT n sc) ∧ t.get .LINE_FRM_MISFIT_RUN n sc < 3) ∧
    (∃ (at_ : FieldAt) (a : FieldAt) (h : Nat) (good : Bool) (s : State) (t : State), a = inSector at_ 0 ∧ h = ofBytes (fieldBytes a s) ∧ good = (fieldUsable a s && sfAccepted h) ∧ t = s.when (fieldUsable a s && !good) (fun s_ => s_.inc .LSC_FF_LOST a.port a.sc) ∧ (t.portGated a.port = true ∨ (t.frame a.port).headerTaken.isSome = true)) ∧
    (∃ (at_ : FieldAt) (a : FieldAt) (h : Nat) (good : Bool) (s : State) (t : State), a = inSector at_ 0 ∧ h = ofBytes (fieldBytes a s) ∧ good = (fieldUsable a s && sfAccepted h) ∧ t = s.when (fieldUsable a s && !good) (fun s_ => s_.inc .LSC_FF_LOST a.port a.sc) ∧ t.portGated a.port = false ∧ (t.frame a.port).headerTaken = none ∧ isControl a.port a.sc s = true ∧ good = true) ∧
    (∃ (at_ : FieldAt) (a : FieldAt) (h : Nat) (good : Bool) (s : State) (t : State) (u : State), a = inSector at_ 0 ∧ h = ofBytes (fieldBytes a s) ∧ good = (fieldUsable a s && sfAccepted h) ∧ t = s.when (fieldUsable a s && !good) (fun s_ => s_.inc .LSC_FF_LOST a.port a.sc) ∧ u = t.setFrame a.port (fun f => { f with heard := a.sc :: f.heard, offered := if good && !(isControl a.port a.sc s) then Tab.put 0 f.offered a.sc h else f.offered, controlLost := f.controlLost || (isControl a.port a.sc s && !good) }) ∧ t.portGated a.port = false ∧ (t.frame a.port).headerTaken = none ∧ (isControl a.port a.sc s = false ∨ good = false) ∧ (u.frame a.port).controlLost = false ∧ controlSync a.port u = true) ∧
    (∃ (at_ : FieldAt) (a : FieldAt) (h : Nat) (good : Bool) (s : State) (t : State) (u : State), a = inSector at_ 0 ∧ h = ofBytes (fieldBytes a s) ∧ good = (fieldUsable a s && sfAccepted h) ∧ t = s.when (fieldUsable a s && !good) (fun s_ => s_.inc .LSC_FF_LOST a.port a.sc) ∧ u = t.setFrame a.port (fun f => { f with heard := a.sc :: f.heard, offered := if good && !(isControl a.port a.sc s) then Tab.put 0 f.offered a.sc h else f.offered, controlLost := f.controlLost || (isControl a.port a.sc s && !good) }) ∧ t.portGated a.port = false ∧ (t.frame a.port).headerTaken = none ∧ (isControl a.port a.sc s = false ∨ good = false) ∧ ((u.frame a.port).controlLost = true ∨ controlSync a.port u = false) ∧ fallbackHeader a.port u = none) ∧
    (∃ (at_ : FieldAt) (a : FieldAt) (h : Nat) (good : Bool) (s : State) (t : State) (u : State) (k : Nat) (g : Nat), a = inSector at_ 0 ∧ h = ofBytes (fieldBytes a s) ∧ good = (fieldUsable a s && sfAccepted h) ∧ t = s.when (fieldUsable a s && !good) (fun s_ => s_.inc .LSC_FF_LOST a.port a.sc) ∧ u = t.setFrame a.port (fun f => { f with heard := a.sc :: f.heard, offered := if good && !(isControl a.port a.sc s) then Tab.put 0 f.offered a.sc h else f.offered, controlLost := f.controlLost || (isControl a.port a.sc s && !good) }) ∧ t.portGated a.port = false ∧ (t.frame a.port).headerTaken = none ∧ (isControl a.port a.sc s = false ∨ good = false) ∧ ((u.frame a.port).controlLost = true ∨ controlSync a.port u = false) ∧ fallbackHeader a.port u = some (k, g)) ∧
    (∃ (n : Fin 4) (anchor : Nat) (s : State), (s.frame n).upSwapAt = some (anchor % 2 ^ 25)) ∧
    (∃ (n : Fin 4) (anchor : Nat) (s : State), (s.frame n).upSwapAt ≠ some (anchor % 2 ^ 25)) :=
    ⟨⟨0, 0, (ready.set .LINE_SC_ENABLED 0 0 0), by decide +kernel⟩,
    ⟨0, 0, 0, 5, 0, ((((ready.set .LINE_SC_ENABLED 1 0 0).setFrame 0 (fun y => { y with mapKnown := false })).set .LINE_FRM_STATE 0 0 0).setLine 0 (fun y => { y with marks := [⟨0, 0, some 9, false⟩] })), _, rfl, by decide +kernel⟩,
    ⟨0, 0, 0, 5, 0, ((((ready.set .LINE_SC_ENABLED 1 0 0).setFrame 0 (fun y => { y with mapKnown := false })).set .LINE_FRM_STATE 1 0 0).setLine 0 (fun y => { y with marks := [⟨0, 0, some 9, false⟩] })), _, rfl, by decide +kernel⟩,
    ⟨0, 0, 0, 0, 0, 0, (((ready.set .LINE_SC_ENABLED 1 0 0).setFrame 0 (fun y => { y with mapKnown := false })).set .LINE_FRM_STATE 0 0 0), _, _, rfl, rfl, by decide +kernel⟩,
    ⟨0, 0, hdrW 0, 0, 0, 0, (((((ready.set .LINE_SC_ENABLED 1 0 0).setFrame 0 (fun y => { y with mapKnown := false })).set .LINE_FRM_STATE 0 0 0).setFrame 0 (fun y => { y with mapKnown := true })).set .LINE_SC_FORMAT 0), _, _, _, rfl, rfl, by decide +kernel, .inr (by decide +kernel), by decide +kernel, by decide +kernel, by decide +kernel, (by decide +kernel), rfl, by decide +kernel⟩,
    ⟨0, 0, hdrW 0, 0, 0, 0, (((((ready.set .LINE_SC_ENABLED 1 0 0).setFrame 0 (fun y => { y with mapKnown := false })).set .LINE_FRM_STATE 0 0 0).setFrame 0 (fun y => { y with mapKnown := false })).set .LINE_SC_FORMAT 0), _, _, _, rfl, rfl, by decide +kernel, by decide +kernel, by decide +kernel, (by decide +kernel), by decide +kernel, by decide +kernel, rfl, by decide +kernel⟩,
    ⟨0, 0, hdrW 0, 0, 0, 0, (((((ready.set .LINE_SC_ENABLED 1 0 0).setFrame 0 (fun y => { y with mapKnown := false })).set .LINE_FRM_STATE 1 0 0).set .LINE_SC_FORMAT 0).set .LINE_FRM_FIT_RUN 5), _, _, _, _, rfl, rfl, rfl, by decide +kernel, by decide +kernel, by decide +kernel, (by decide +kernel), by decide +kernel, by decide +kernel, by decide +kernel, (by decide +kernel), rfl, by decide +kernel⟩,
    ⟨0, 0, hdrW 0, 0, 0, 0, ((((ready.set .LINE_SC_ENABLED 1 0 0).setFrame 0 (fun y => { y with mapKnown := false })).set .LINE_FRM_STATE 1 0 0).set .LINE_SC_FORMAT 0), _, _, _, _, rfl, rfl, rfl, by decide +kernel, by decide +kernel, by decide +kernel, (by decide +kernel), by decide +kernel, by decide +kernel, by decide +kernel, (by decide +kernel), rfl, by decide +kernel⟩,
    ⟨0, 0, 0, 0, 0, 0, (((ready.set .LINE_SC_ENABLED 1 0 0).setFrame 0 (fun y => { y with mapKnown := false })).set .LINE_FRM_STATE 1 0 0), _, _, _, rfl, rfl, rfl, by decide +kernel⟩,
    ⟨0, 0, hdrW 0, 0, 0, 0, (((((ready.set .LINE_SC_ENABLED 1 0 0).setFrame 0 (fun y => { y with mapKnown := false })).set .LINE_FRM_STATE 2 0 0).set .LINE_SC_FORMAT 0).setLine 0 (fun y => { y with controlKnown := true })), _, _, _, _, rfl, rfl, rfl, by decide +kernel, by decide +kernel, by decide +kernel, (by decide +kernel), by decide +kernel, by decide +kernel, by decide +kernel, (by decide +kernel), rfl, by decide +kernel⟩,
    ⟨0, 0, hdrW 0, 0, 0, 0, ((((ready.set .LINE_SC_ENABLED 1 0 0).setFrame 0 (fun y => { y with mapKnown := false })).set .LINE_FRM_STATE 2 0 0).set .LINE_SC_FORMAT 0), _, _, _, _, rfl, rfl, rfl, by decide +kernel, by decide +kernel, by decide +kernel, (by decide +kernel), by decide +kernel, by decide +kernel, by decide +kernel, (by decide +kernel), rfl, by decide +kernel⟩,
    ⟨0, 0, 0, 0, 0, 0, [(0, hdrW 0)], ((((ready.set .LINE_SC_ENABLED 1 0 0).setFrame 0 (fun y => { y with mapKnown := false })).set .LINE_FRM_STATE 2 0 0).set .LINE_SC_FORMAT 1), _, _, _, 0, hdrW 0, rfl, rfl, rfl, by decide +kernel⟩,
    ⟨0, 0, 0, 0, 0, 0, [], ((((ready.set .LINE_SC_ENABLED 1 0 0).setFrame 0 (fun y => { y with mapKnown := false })).set .LINE_FRM_STATE 2 0 0).set .LINE_FRM_MISFIT_RUN 4 0 0), _, _, _, _, rfl, rfl, rfl, by decide +kernel, by decide +kernel, by decide +kernel, (by decide +kernel), by decide +kernel, by decide +kernel, by decide +kernel, rfl, by decide +kernel⟩,
    ⟨0, 0, 0, 0, 0, 0, [], (((ready.set .LINE_SC_ENABLED 1 0 0).setFrame 0 (fun y => { y with mapKnown := false })).set .LINE_FRM_STATE 2 0 0), _, _, _, _, rfl, rfl, rfl, by decide +kernel, by decide +kernel, by decide +kernel, (by decide +kernel), by decide +kernel, by decide +kernel, by decide +kernel, rfl, by decide +kernel⟩,
    ⟨fld0, _, _, _, (ready.setFrame 0 (fun y => { y with headerTaken := some 0 })), _, rfl, rfl, rfl, rfl, .inr (by decide +kernel)⟩,
    ⟨fld0, _, _, _, (fieldS 0 (toBytes 64 (sfW (2 ^ 280 + 2 ^ 232)))), _, rfl, rfl, rfl, rfl, by decide +kernel⟩,
    ⟨⟨0, 1, 0⟩, _, _, _, onFld, _, _, rfl, rfl, rfl, rfl, rfl, by decide +kernel⟩,
    ⟨fld0, _, _, _, ready, _, _, rfl, rfl, rfl, rfl, rfl, by decide +kernel⟩,
    ⟨⟨0, 1, 0⟩, _, _, _, (ready.setFrame 0 (fun y => { y with offered := [(1, 5)] })), _, _, 1, 5, rfl, rfl, rfl, rfl, rfl, by decide +kernel⟩,
    ⟨0, 0, (ready.setFrame 0 (fun y => { y with upSwapAt := some (0 % 2 ^ 25) })), by decide +kernel⟩,
    ⟨0, 0, ready, by decide +kernel⟩⟩

/-- The hypotheses of `Obligations.SuperframeStartAdvances` are met. -/
theorem witness_SuperframeStartAdvances :
    (∃ (n : Fin 4) (s : State), s.portGated n = true) ∧
    (∃ (n : Fin 4) (drift : Int) (s : State) (d : State) (t : State) (u : State) (v : State) (sf : Nat), s.portGated n = false ∧ d = s.setLine n (fun l => { l with stepDue := s.isSet .LINE_AGC_STEP_PENDING n, cdSwap := l.cdSwap.map (fun p => { p with due := true }), eqSwap := l.eqSwap.map (fun p => { p with due := true }), scSwaps := l.scSwaps.map (fun p => { p with due := true }), sfCount := l.sfCount + 1 }) ∧ t = (driftUpdate n drift d).setFrame n (fun f => { f with sf := (f.sf + 1) % 2 ^ 25, arrival := (driftUpdate n drift d).now, headerTaken := none, offered := [], controlLost := false, heard := [], justPrev := f.justLast, justLast := f.justNext.foldl (fun m p => Tab.put 0 m p.1 p.2) f.justLast, justNext := [], pairs := f.pairs.filter (fun p => recentPair ((f.sf + 1) % 2 ^ 25) p || awaited n p (driftUpdate n drift d)) }) ∧ u = changeControl n t ∧ sf = (u.frame n).sf ∧ ((∀ map, (u.frame n).nextMap ≠ some (map, sf)) → v = u) ∧ (∀ map, (u.frame n).nextMap = some (map, sf) → v = applyMap n map (u.setFrame n (fun f => { f with nextMap := none })))) ∧
    (∃ (n : Nat) (s : State), s.get .LINE_AGC_FROZEN n ≠ 1) ∧
    (∃ (n : Nat) (drift : Int) (d : Int) (s : State) (t : State), d = roundDiv drift 10 ∧ t = s.setI .LINE_AGC_DRIFT d n ∧ s.get .LINE_AGC_FROZEN n = 1 ∧ t.get .LINE_STATUS_DRIFT_ALARM n ≠ 1 ∧ 30 < d.natAbs) ∧
    (∃ (n : Nat) (drift : Int) (d : Int) (s : State) (t : State), d = roundDiv drift 10 ∧ t = s.setI .LINE_AGC_DRIFT d n ∧ s.get .LINE_AGC_FROZEN n = 1 ∧ t.get .LINE_STATUS_DRIFT_ALARM n ≠ 1 ∧ d.natAbs ≤ 30) ∧
    (∃ (n : Nat) (drift : Int) (d : Int) (s : State) (t : State), d = roundDiv drift 10 ∧ t = s.setI .LINE_AGC_DRIFT d n ∧ s.get .LINE_AGC_FROZEN n = 1 ∧ t.get .LINE_STATUS_DRIFT_ALARM n = 1 ∧ d.natAbs ≤ 25) ∧
    (∃ (n : Nat) (drift : Int) (d : Int) (s : State) (t : State), d = roundDiv drift 10 ∧ t = s.setI .LINE_AGC_DRIFT d n ∧ s.get .LINE_AGC_FROZEN n = 1 ∧ t.get .LINE_STATUS_DRIFT_ALARM n = 1 ∧ 25 < d.natAbs) :=
    ⟨⟨0, (ready.set .FLT_RECOVERY_LEVEL 2 0), by decide +kernel⟩,
    ⟨0, 0, ready, _, _, _, _, _, by decide +kernel, rfl, rfl, rfl, rfl, fun _ => rfl, (fun _ h => nomatch h)⟩,
    ⟨0, (ready.set .LINE_AGC_FROZEN 0 0), by decide +kernel⟩,
    ⟨0, 310, _, ((ready.set .LINE_AGC_FROZEN 1 0).set .LINE_STATUS_DRIFT_ALARM 0 0), _, rfl, rfl, by decide +kernel⟩,
    ⟨0, 0, _, ((ready.set .LINE_AGC_FROZEN 1 0).set .LINE_STATUS_DRIFT_ALARM 0 0), _, rfl, rfl, by decide +kernel⟩,
    ⟨0, 0, _, ((ready.set .LINE_AGC_FROZEN 1 0).set .LINE_STATUS_DRIFT_ALARM 1 0), _, rfl, rfl, by decide +kernel⟩,
    ⟨0, 310, _, ((ready.set .LINE_AGC_FROZEN 1 0).set .LINE_STATUS_DRIFT_ALARM 1 0), _, rfl, rfl, by decide +kernel⟩⟩

/-- The hypotheses of `Obligations.FunctionFieldEventsComplete` are met. -/
theorem witness_FunctionFieldEventsComplete :
    (∃ (at_ : FieldAt) (a : FieldAt) (slot : Fin 64) (s : State) (n : Nat), a = inSector at_ (1 + slot.val / 8) ∧ n = at_.port ∧ (isControl n at_.sc s = false ∨ fieldUsable a s = false)) ∧
    (∃ (at_ : FieldAt) (a : FieldAt) (slot : Fin 64) (s : State) (n : Nat) (e : Nat), a = inSector at_ (1 + slot.val / 8) ∧ n = at_.port ∧ e = field (fieldBytes a s) (slot.val % 8 * 8) 8 ∧ isControl n at_.sc s = true ∧ fieldUsable a s = true ∧ bits e 0 8 ≠ crc8 (toBytes 7 (e / 256))) ∧
    (∃ (at_ : FieldAt) (a : FieldAt) (slot : Fin 64) (s : State) (n : Nat) (e : Nat), a = inSector at_ (1 + slot.val / 8) ∧ n = at_.port ∧ e = field (fieldBytes a s) (slot.val % 8 * 8) 8 ∧ isControl n at_.sc s = true ∧ fieldUsable a s = true ∧ bits e 0 8 = crc8 (toBytes 7 (e / 256)) ∧ (readsDirectory n s = false ∨ s.get .LINE_TREE_ID_TID n ≠ 64 * ((s.frame n).sf % 8) + slot)) ∧
    (∃ (at_ : FieldAt) (a : FieldAt) (slot : Fin 64) (s : State) (n : Nat) (e : Nat), a = inSector at_ (1 + slot.val / 8) ∧ n = at_.port ∧ e = field (fieldBytes a s) (slot.val % 8 * 8) 8 ∧ isControl n at_.sc s = true ∧ fieldUsable a s = true ∧ bits e 0 8 = crc8 (toBytes 7 (e / 256)) ∧ readsDirectory n s = true ∧ s.get .LINE_TREE_ID_TID n = 64 * ((s.frame n).sf % 8) + slot ∧ s.get .LINE_TREE_STATE_DIR_GRACE n ≠ 1 ∧ bits e 13 3 = 0) ∧
    (∃ (at_ : FieldAt) (a : FieldAt) (slot : Fin 64) (s : State) (n : Nat) (e : Nat) (own : Bool), a = inSector at_ (1 + slot.val / 8) ∧ n = at_.port ∧ e = field (fieldBytes a s) (slot.val % 8 * 8) 8 ∧ own = (bits e 16 32 == s.get .LINE_TREE_ID_SERIAL_TAG n) ∧ isControl n at_.sc s = true ∧ fieldUsable a s = true ∧ bits e 0 8 = crc8 (toBytes 7 (e / 256)) ∧ readsDirectory n s = true ∧ s.get .LINE_TREE_ID_TID n = 64 * ((s.frame n).sf % 8) + slot ∧ s.get .LINE_TREE_STATE_DIR_GRACE n ≠ 1 ∧ bits e 13 3 ≠ 0 ∧ own = false) ∧
    (∃ (at_ : FieldAt) (a : FieldAt) (slot : Fin 64) (s : State) (n : Nat) (e : Nat) (ep : Nat) (mine : Nat) (own : Bool), a = inSector at_ (1 + slot.val / 8) ∧ n = at_.port ∧ e = field (fieldBytes a s) (slot.val % 8 * 8) 8 ∧ ep = bits e 48 16 ∧ mine = s.get .LINE_TREE_ID_EPOCH n ∧ own = (bits e 16 32 == s.get .LINE_TREE_ID_SERIAL_TAG n) ∧ isControl n at_.sc s = true ∧ fieldUsable a s = true ∧ bits e 0 8 = crc8 (toBytes 7 (e / 256)) ∧ readsDirectory n s = true ∧ s.get .LINE_TREE_ID_TID n = 64 * ((s.frame n).sf % 8) + slot ∧ s.get .LINE_TREE_STATE_DIR_GRACE n ≠ 1 ∧ bits e 13 3 ≠ 0 ∧ own = true ∧ newerEpoch ep mine = true) ∧
    (∃ (at_ : FieldAt) (a : FieldAt) (slot : Fin 64) (s : State) (n : Nat) (e : Nat) (ep : Nat) (mine : Nat) (own : Bool), a = inSector at_ (1 + slot.val / 8) ∧ n = at_.port ∧ e = field (fieldBytes a s) (slot.val % 8 * 8) 8 ∧ ep = bits e 48 16 ∧ mine = s.get .LINE_TREE_ID_EPOCH n ∧ own = (bits e 16 32 == s.get .LINE_TREE_ID_SERIAL_TAG n) ∧ isControl n at_.sc s = true ∧ fieldUsable a s = true ∧ bits e 0 8 = crc8 (toBytes 7 (e / 256)) ∧ readsDirectory n s = true ∧ s.get .LINE_TREE_ID_TID n = 64 * ((s.frame n).sf % 8) + slot ∧ (s.get .LINE_TREE_STATE_DIR_GRACE n = 1 ∨ (bits e 13 3 ≠ 0 ∧ own = true ∧ newerEpoch ep mine = false)) ∧ own = true ∧ ep ≠ mine ∧ newerEpoch ep mine = false) ∧
    (∃ (at_ : FieldAt) (a : FieldAt) (slot : Fin 64) (s : State) (n : Nat) (e : Nat) (ep : Nat) (mine : Nat) (own : Bool), a = inSector at_ (1 + slot.val / 8) ∧ n = at_.port ∧ e = field (fieldBytes a s) (slot.val % 8 * 8) 8 ∧ ep = bits e 48 16 ∧ mine = s.get .LINE_TREE_ID_EPOCH n ∧ own = (bits e 16 32 == s.get .LINE_TREE_ID_SERIAL_TAG n) ∧ isControl n at_.sc s = true ∧ fieldUsable a s = true ∧ bits e 0 8 = crc8 (toBytes 7 (e / 256)) ∧ readsDirectory n s = true ∧ s.get .LINE_TREE_ID_TID n = 64 * ((s.frame n).sf % 8) + slot ∧ (s.get .LINE_TREE_STATE_DIR_GRACE n = 1 ∨ (bits e 13 3 ≠ 0 ∧ own = true ∧ newerEpoch ep mine = false)) ∧ own = true ∧ ep = mine ∧ (s.term n).awaiting = true) ∧
    (∃ (at_ : FieldAt) (a : FieldAt) (slot : Fin 64) (s : State) (n : Nat) (e : Nat) (ep : Nat) (mine : Nat) (own : Bool), a = inSector at_ (1 + slot.val / 8) ∧ n = at_.port ∧ e = field (fieldBytes a s) (slot.val % 8 * 8) 8 ∧ ep = bits e 48 16 ∧ mine = s.get .LINE_TREE_ID_EPOCH n ∧ own = (bits e 16 32 == s.get .LINE_TREE_ID_SERIAL_TAG n) ∧ isControl n at_.sc s = true ∧ fieldUsable a s = true ∧ bits e 0 8 = crc8 (toBytes 7 (e / 256)) ∧ readsDirectory n s = true ∧ s.get .LINE_TREE_ID_TID n = 64 * ((s.frame n).sf % 8) + slot ∧ (s.get .LINE_TREE_STATE_DIR_GRACE n = 1 ∨ (bits e 13 3 ≠ 0 ∧ own = true ∧ newerEpoch ep mine = false)) ∧ own = true ∧ ep = mine ∧ (s.term n).awaiting = false) ∧
    (∃ (at_ : FieldAt) (a : FieldAt) (slot : Fin 64) (s : State) (n : Nat) (e : Nat) (ep : Nat) (mine : Nat) (own : Bool), a = inSector at_ (1 + slot.val / 8) ∧ n = at_.port ∧ e = field (fieldBytes a s) (slot.val % 8 * 8) 8 ∧ ep = bits e 48 16 ∧ mine = s.get .LINE_TREE_ID_EPOCH n ∧ own = (bits e 16 32 == s.get .LINE_TREE_ID_SERIAL_TAG n) ∧ isControl n at_.sc s = true ∧ fieldUsable a s = true ∧ bits e 0 8 = crc8 (toBytes 7 (e / 256)) ∧ readsDirectory n s = true ∧ s.get .LINE_TREE_ID_TID n = 64 * ((s.frame n).sf % 8) + slot ∧ (s.get .LINE_TREE_STATE_DIR_GRACE n = 1 ∨ (bits e 13 3 ≠ 0 ∧ own = true ∧ newerEpoch ep mine = false)) ∧ (own = false ∨ (ep ≠ mine ∧ newerEpoch ep mine = true))) ∧
    (∃ (at_ : FieldAt) (a : FieldAt) (s : State), a = inSector at_ 31 ∧ fieldUsable a s = false) ∧
    (∃ (at_ : FieldAt) (a : FieldAt) (s : State), a = inSector at_ 31 ∧ fieldUsable a s = true) ∧
    (∃ (at_ : FieldAt) (a : FieldAt) (slot : Fin 32) (s : State), a = inSector at_ (29 + slot.val / 16) ∧ (slotTrib a.port a.sc slot s = none ∨ s.get .LINE_FRM_STATE a.port a.sc = 0)) ∧
    (∃ (at_ : FieldAt) (a : FieldAt) (slot : Fin 32) (s : State) (e : Nat) (t : _), a = inSector at_ (29 + slot.val / 16) ∧ e = field (fieldBytes a s) (slot.val % 16 * 4) 4 ∧ slotTrib a.port a.sc slot s = some t ∧ s.get .LINE_FRM_STATE a.port a.sc ≠ 0 ∧ fieldUsable a s = true ∧ bit e 25 = true ∧ bits e 0 16 ≤ nextCapacity a.port a.sc t s) ∧
    (∃ (at_ : FieldAt) (a : FieldAt) (slot : Fin 32) (s : State) (e : Nat) (t : _), a = inSector at_ (29 + slot.val / 16) ∧ e = field (fieldBytes a s) (slot.val % 16 * 4) 4 ∧ slotTrib a.port a.sc slot s = some t ∧ s.get .LINE_FRM_STATE a.port a.sc ≠ 0 ∧ (fieldUsable a s = false ∨ bit e 25 = false ∨ nextCapacity a.port a.sc t s < bits e 0 16)) ∧
    (∃ (at_ : FieldAt) (a : FieldAt) (ch : Fin 4) (s : State), a = inSector at_ (25 + ch.val) ∧ isControl a.port a.sc s = false) ∧
    (∃ (at_ : FieldAt) (a : FieldAt) (ch : Fin 4) (s : State), a = inSector at_ (25 + ch.val) ∧ isControl a.port a.sc s = true ∧ fieldUsable a s = true) ∧
    (∃ (at_ : FieldAt) (a : FieldAt) (ch : Fin 4) (s : State), a = inSector at_ (25 + ch.val) ∧ isControl a.port a.sc s = true ∧ fieldUsable a s = false ∧ s.get .LINE_FRM_STATE a.port a.sc ≠ 0 ∧ s.portGated a.port = false) ∧
    (∃ (at_ : FieldAt) (a : FieldAt) (ch : Fin 4) (s : State), a = inSector at_ (25 + ch.val) ∧ isControl a.port a.sc s = true ∧ fieldUsable a s = false ∧ (s.get .LINE_FRM_STATE a.port a.sc = 0 ∨ s.portGated a.port = true)) ∧
    (∃ (k : Fin 8) (s : State), Tab.get [] s.ospOut k = []) ∧
    (∃ (k : Fin 8) (s : State) (b : Nat) (r : List Nat), Tab.get [] s.ospOut k = b :: r ∧ s.get .SYS_OSP_TX_EN k = 1 ∧ s.get .FLT_STATUS_SAFE ≠ 1) ∧
    (∃ (k : Fin 8) (s : State) (b : Nat) (r : List Nat), Tab.get [] s.ospOut k = b :: r ∧ (s.get .SYS_OSP_TX_EN k ≠ 1 ∨ s.get .FLT_STATUS_SAFE = 1)) ∧
    (∃ (k : Fin 8) (s : State), s.get .SYS_OSP_RX_EN k ≠ 1) ∧
    (∃ (k : Fin 8) (b : Nat) (n : Nat) (w : List (Nat × Nat)) (s : State), n = s.get .SYS_OSP_PORT k ∧ w = (s.frame n).ohWaiting ++ [(s.get .SYS_OSP_CHANNEL k, b % 2 ^ 512)] ∧ s.get .SYS_OSP_RX_EN k = 1 ∧ w.length ≤ 4) ∧
    (∃ (k : Fin 8) (b : Nat) (n : Nat) (w : List (Nat × Nat)) (s : State), n = s.get .SYS_OSP_PORT k ∧ w = (s.frame n).ohWaiting ++ [(s.get .SYS_OSP_CHANNEL k, b % 2 ^ 512)] ∧ s.get .SYS_OSP_RX_EN k = 1 ∧ 4 < w.length) :=
    ⟨⟨fld0, _, 0, ready, _, rfl, rfl, by decide +kernel⟩,
    ⟨fld0, _, 0, (fieldS 1 [0, 0, 0, 0, 0, 0, 0, 1]), _, _, rfl, rfl, rfl, by decide +kernel⟩,
    ⟨fld0, _, 0, (fieldS 1 (toBytes 7 (0) ++ [crc8 (toBytes 7 (0))])), _, _, rfl, rfl, rfl, by decide +kernel⟩,
    ⟨fld0, _, 0, ((fieldS 1 (toBytes 7 (0) ++ [crc8 (toBytes 7 (0))])).set .LINE_TREE_STATE_STATE tsMember), _, _, rfl, rfl, rfl, by decide +kernel⟩,
    ⟨fld0, _, 0, (((fieldS 1 (toBytes 7 (32) ++ [crc8 (toBytes 7 (32))])).set .LINE_TREE_STATE_STATE tsMember).set .LINE_TREE_ID_SERIAL_TAG 9), _, _, _, rfl, rfl, rfl, rfl, by decide +kernel⟩,
    ⟨fld0, _, 0, ((fieldS 1 (toBytes 7 (2 ^ 40 + 32) ++ [crc8 (toBytes 7 (2 ^ 40 + 32))])).set .LINE_TREE_STATE_STATE tsMember), _, _, _, _, _, rfl, rfl, rfl, rfl, rfl, rfl, by decide +kernel⟩,
    ⟨fld0, _, 0, ((((fieldS 1 (toBytes 7 (0) ++ [crc8 (toBytes 7 (0))])).set .LINE_TREE_STATE_STATE tsMember).set .LINE_TREE_STATE_DIR_GRACE 1).set .LINE_TREE_ID_EPOCH 1), _, _, _, _, _, rfl, rfl, rfl, rfl, rfl, rfl, by decide +kernel⟩,
    ⟨fld0, _, 0, ((((fieldS 1 (toBytes 7 (0) ++ [crc8 (toBytes 7 (0))])).set .LINE_TREE_STATE_STATE tsMember).set .LINE_TREE_STATE_DIR_GRACE 1).setTerm 0 (fun y => { y with awaiting := true })), _, _, _, _, _, rfl, rfl, rfl, rfl, rfl, rfl, by decide +kernel⟩,
    ⟨fld0, _, 0, (((fieldS 1 (toBytes 7 (0) ++ [crc8 (toBytes 7 (0))])).set .LINE_TREE_STATE_STATE tsMember).set .LINE_TREE_STATE_DIR_GRACE 1), _, _, _, _, _, rfl, rfl, rfl, rfl, rfl, rfl, by decide +kernel⟩,
    ⟨fld0, _, 0, ((((fieldS 1 (toBytes 7 (0) ++ [crc8 (toBytes 7 (0))])).set .LINE_TREE_STATE_STATE tsMember).set .LINE_TREE_STATE_DIR_GRACE 1).set .LINE_TREE_ID_SERIAL_TAG 9), _, _, _, _, _, rfl, rfl, rfl, rfl, rfl, rfl, by decide +kernel⟩,
    ⟨fld0, _, ready, rfl, by decide +kernel⟩,
    ⟨fld0, _, (fieldS 31 []), rfl, by decide +kernel⟩,
    ⟨fld0, _, 0, ready, rfl, by decide +kernel⟩,
    ⟨fld0, _, 0, ((fieldS 29 [2, 0, 0, 0]).setFrame 0 (fun y => { y with slots := [(0, 1)] })), _, 0, rfl, rfl, by decide +kernel⟩,
    ⟨fld0, _, 0, (onFld.setFrame 0 (fun y => { y with slots := [(0, 1)] })), _, 0, rfl, rfl, by decide +kernel⟩,
    ⟨fld0, _, 0, ready, rfl, by decide +kernel⟩,
    ⟨fld0, _, 0, (fieldS 25 []), rfl, by decide +kernel⟩,
    ⟨fld0, _, 0, onFld, rfl, by decide +kernel⟩,
    ⟨fld0, _, 0, (onFld.set .LINE_FRM_STATE 0), rfl, by decide +kernel⟩,
    ⟨0, (let y : State := ready; { y with ospOut := Tab.put [] y.ospOut 0 ([]) }), by decide +kernel⟩,
    ⟨0, (((let y : State := ready; { y with ospOut := Tab.put [] y.ospOut 0 (5 :: ([])) }).set .SYS_OSP_TX_EN 1 0).set .FLT_STATUS_SAFE 0), 5, [], by decide +kernel⟩,
    ⟨0, (((let y : State := ready; { y with ospOut := Tab.put [] y.ospOut 0 (5 :: ([])) }).set .SYS_OSP_TX_EN 0 0).set .SYS_OSP_TX_EN 0), 5, [], by decide +kernel⟩,
    ⟨0, (ready.set .SYS_OSP_RX_EN 0 0), by decide +kernel⟩,
    ⟨0, 0, _, _, (ready.set .SYS_OSP_RX_EN 1 0), rfl, rfl, by decide +kernel⟩,
    ⟨0, 0, _, _, ((ready.set .SYS_OSP_RX_EN 1 0).setFrame 0 (fun y => { y with ohWaiting := List.replicate 4 (0, 0) })), rfl, rfl, by decide +kernel⟩⟩

/-- The hypotheses of `Obligations.EnvelopeTributaryAndBinEventsComplete` are met. -/
theorem witness_EnvelopeTributaryAndBinEventsComplete :
    (∃ (n : Fin 4) (sc : Fin 16) (s : State), s.get .LINE_FRM_STATE n sc ≠ 2) ∧
    (∃ (n : Fin 4) (sc : Fin 16) (sf : Nat) (cell : Nat) (off : Nat) (header : Nat) (h : Nat) (ps : List (Nat × Nat × Nat)) (pairs : List (Nat × Nat)) (s : State), h = header % 2 ^ 64 ∧ ps = streamPairs 40000 n sc sf cell off (if envFits h then envSpan h else 8) s ∧ pairs = (ps.map (fun p => (p.1, p.2.1))).dedup ∧ s.get .LINE_FRM_STATE n sc = 2 ∧ 2 ≤ pairsC1 n sc pairs s ∧ envFits h = true) ∧
    (∃ (n : Fin 4) (sc : Fin 16) (sf : Nat) (cell : Nat) (off : Nat) (header : Nat) (h : Nat) (ps : List (Nat × Nat × Nat)) (pairs : List (Nat × Nat)) (s : State), h = header % 2 ^ 64 ∧ ps = streamPairs 40000 n sc sf cell off (if envFits h then envSpan h else 8) s ∧ pairs = (ps.map (fun p => (p.1, p.2.1))).dedup ∧ s.get .LINE_FRM_STATE n sc = 2 ∧ 2 ≤ pairsC1 n sc pairs s ∧ envFits h = false) ∧
    (∃ (n : Fin 4) (sc : Fin 16) (sf : Nat) (cell : Nat) (off : Nat) (header : Nat) (h : Nat) (ps : List (Nat × Nat × Nat)) (pairs : List (Nat × Nat)) (s : State), h = header % 2 ^ 64 ∧ ps = streamPairs 40000 n sc sf cell off (if envFits h then envSpan h else 8) s ∧ pairs = (ps.map (fun p => (p.1, p.2.1))).dedup ∧ s.get .LINE_FRM_STATE n sc = 2 ∧ pairsC1 n sc pairs s < 2 ∧ envFits h = false ∧ s.get .LINE_FRM_ENV_STATE n sc = 2) ∧
    (∃ (n : Fin 4) (sc : Fin 16) (sf : Nat) (cell : Nat) (off : Nat) (header : Nat) (h : Nat) (ps : List (Nat × Nat × Nat)) (pairs : List (Nat × Nat)) (s : State), h = header % 2 ^ 64 ∧ ps = streamPairs 40000 n sc sf cell off (if envFits h then envSpan h else 8) s ∧ pairs = (ps.map (fun p => (p.1, p.2.1))).dedup ∧ s.get .LINE_FRM_STATE n sc = 2 ∧ pairsC1 n sc pairs s < 2 ∧ envFits h = false ∧ s.get .LINE_FRM_ENV_STATE n sc ≠ 2) ∧
    (∃ (n : Fin 4) (sc : Fin 16) (sf : Nat) (cell : Nat) (off : Nat) (header : Nat) (h : Nat) (ps : List (Nat × Nat × Nat)) (pairs : List (Nat × Nat)) (s : State), h = header % 2 ^ 64 ∧ ps = streamPairs 40000 n sc sf cell off (if envFits h then envSpan h else 8) s ∧ pairs = (ps.map (fun p => (p.1, p.2.1))).dedup ∧ s.get .LINE_FRM_STATE n sc = 2 ∧ pairsC1 n sc pairs s < 2 ∧ envFits h = true ∧ s.get .LINE_FRM_ENV_STATE n sc = 0) ∧
    (∃ (n : Fin 4) (sc : Fin 16) (sf : Nat) (cell : Nat) (off : Nat) (header : Nat) (h : Nat) (ps : List (Nat × Nat × Nat)) (pairs : List (Nat × Nat)) (s : State), h = header % 2 ^ 64 ∧ ps = streamPairs 40000 n sc sf cell off (if envFits h then envSpan h else 8) s ∧ pairs = (ps.map (fun p => (p.1, p.2.1))).dedup ∧ s.get .LINE_FRM_STATE n sc = 2 ∧ pairsC1 n sc pairs s < 2 ∧ envFits h = true ∧ s.get .LINE_FRM_ENV_STATE n sc ≠ 0) ∧
    (∃ (h : Nat), bits h 46 4 = 0) ∧
    (∃ (n : Nat) (h : Nat) (s : State), bits h 46 4 ≠ 0 ∧ lineLooped n s = false ∧ envOwn n h s = false) ∧
    (∃ (n : Nat) (h : Nat) (s : State), bits h 46 4 ≠ 0 ∧ lineLooped n s = false ∧ envOwn n h s = true ∧ (s.tree n = tsOffline ∨ s.tree n = tsHoldover)) ∧
    (∃ (n : Nat) (h : Nat) (s : State) (t : State), bits h 46 4 ≠ 0 ∧ (lineLooped n s = true ∨ (envOwn n h s = true ∧ s.tree n ≠ tsOffline ∧ s.tree n ≠ tsHoldover)) ∧ (t = (if s.tree n = tsDozing ∧ bit h 34 = false then wakeBy 3 s else s)) ∧ t.asleep = true) ∧
    (∃ (n : Nat) (sc : Nat) (h : Nat) (at_ : Nat) (c1 : Nat) (pairs : List (Nat × Nat)) (body : List Nat) (s : State) (t : _) (it : _), bits h 46 4 ≠ 0 ∧ (lineLooped n s = true ∨ (envOwn n h s = true ∧ s.tree n ≠ tsOffline ∧ s.tree n ≠ tsHoldover)) ∧ (t = (if s.tree n = tsDozing ∧ bit h 34 = false then wakeBy 3 s else s)) ∧ it = envItem n sc h pairs at_ c1 body t ∧ t.asleep = false ∧ isConfirmed it = true) ∧
    (∃ (n : Nat) (sc : Nat) (h : Nat) (at_ : Nat) (c1 : Nat) (pairs : List (Nat × Nat)) (body : List Nat) (s : State) (t : State) (it : Item), bits h 46 4 ≠ 0 ∧ (lineLooped n s = true ∨ (envOwn n h s = true ∧ s.tree n ≠ tsOffline ∧ s.tree n ≠ tsHoldover)) ∧ (t = (if s.tree n = tsDozing ∧ bit h 34 = false then wakeBy 3 s else s)) ∧ it = envItem n sc h pairs at_ c1 body t ∧ t.asleep = false ∧ isConfirmed it = false ∧ behaviour (newItem it t) = 0 ∧ c1 = 0) ∧
    (∃ (n : Nat) (sc : Nat) (h : Nat) (at_ : Nat) (c1 : Nat) (pairs : List (Nat × Nat)) (body : List Nat) (s : State) (t : State) (it : Item), bits h 46 4 ≠ 0 ∧ (lineLooped n s = true ∨ (envOwn n h s = true ∧ s.tree n ≠ tsOffline ∧ s.tree n ≠ tsHoldover)) ∧ (t = (if s.tree n = tsDozing ∧ bit h 34 = false then wakeBy 3 s else s)) ∧ it = envItem n sc h pairs at_ c1 body t ∧ t.asleep = false ∧ isConfirmed it = false ∧ (behaviour (newItem it t) ≠ 0 ∨ c1 ≠ 0)) ∧
    (∃ (n : Fin 4) (t : Fin 64) (sf : Nat) (sent : Nat) (rest : List (Nat × Bool)) (s : State), sent = (if Tab.get 0 (s.frame n).tribSf t = sf + 1 then Tab.get 0 (s.frame n).tribSent t else 0) ∧ rest = (tribData n t sf s).drop sent ∧ (rest = [] ∨ s.get .FLT_STATUS_SAFE = 1 ∨ (∃ c ∈ tribCells n t sf s, ∃ p ∈ cellPairs sf c.2, pairOf n c.1 p s = none))) ∧
    (∃ (n : Fin 4) (t : Fin 64) (sf : Nat) (sent : Nat) (x : Trib) (rest : List (Nat × Bool)) (part : List (Nat × Bool)) (s : State) (u : State), x = Tab.get {} (s.frame n).tribs t ∧ sent = (if Tab.get 0 (s.frame n).tribSf t = sf + 1 then Tab.get 0 (s.frame n).tribSent t else 0) ∧ rest = (tribData n t sf s).drop sent ∧ part = rest.take 8192 ∧ u = s.setFrame n (fun f => { f with tribs := Tab.put {} f.tribs t { x with seqDown := (x.seqDown + 1) % 65536 }, tribSf := Tab.put 0 f.tribSf t (sf + 1), tribSent := Tab.put 0 f.tribSent t (sent + part.length) }) ∧ rest ≠ [] ∧ s.get .FLT_STATUS_SAFE ≠ 1 ∧ (∀ c ∈ tribCells n t sf s, ∀ p ∈ cellPairs sf c.2, (pairOf n c.1 p s).isSome = true) ∧ u.link x.slot ≠ lsUp) ∧
    (∃ (n : Fin 4) (t : Fin 64) (sf : Nat) (sent : Nat) (x : Trib) (rest : List (Nat × Bool)) (part : List (Nat × Bool)) (s : State) (u : State), x = Tab.get {} (s.frame n).tribs t ∧ sent = (if Tab.get 0 (s.frame n).tribSf t = sf + 1 then Tab.get 0 (s.frame n).tribSent t else 0) ∧ rest = (tribData n t sf s).drop sent ∧ part = rest.take 8192 ∧ u = s.setFrame n (fun f => { f with tribs := Tab.put {} f.tribs t { x with seqDown := (x.seqDown + 1) % 65536 }, tribSf := Tab.put 0 f.tribSf t (sf + 1), tribSent := Tab.put 0 f.tribSent t (sent + part.length) }) ∧ rest ≠ [] ∧ s.get .FLT_STATUS_SAFE ≠ 1 ∧ (∀ c ∈ tribCells n t sf s, ∀ p ∈ cellPairs sf c.2, (pairOf n c.1 p s).isSome = true) ∧ u.link x.slot = lsUp) ∧
    (∃ (slot : Fin 32) (frame : List Nat) (k : Nat) (s : State), k = 14 + 4 * tagsOf (s.get .PORT_CFG_TPID_ALT slot) frame ∧ (s.link slot ≠ lsUp ∨ rxDest s slot (rxClassOf s slot frame) frame ≠ some 1 ∨ byteAt frame k ≠ 1)) ∧
    (∃ (slot : Fin 32) (frame : List Nat) (k : Nat) (n : Nat) (t : Nat) (x : Trib) (s : State), k = 14 + 4 * tagsOf (s.get .PORT_CFG_TPID_ALT slot) frame ∧ n = byteAt frame (k + 1) / 64 ∧ t = byteAt frame (k + 1) % 64 ∧ x = Tab.get {} (s.frame n).tribs t ∧ s.link slot = lsUp ∧ rxDest s slot (rxClassOf s slot frame) frame = some 1 ∧ byteAt frame k = 1 ∧ 524288 < x.buffer.length + (frame.drop (k + 8)).length) ∧
    (∃ (slot : Fin 32) (frame : List Nat) (k : Nat) (n : Nat) (t : Nat) (x : Trib) (s : State), k = 14 + 4 * tagsOf (s.get .PORT_CFG_TPID_ALT slot) frame ∧ n = byteAt frame (k + 1) / 64 ∧ t = byteAt frame (k + 1) % 64 ∧ x = Tab.get {} (s.frame n).tribs t ∧ s.link slot = lsUp ∧ rxDest s slot (rxClassOf s slot frame) frame = some 1 ∧ byteAt frame k = 1 ∧ x.buffer.length + (frame.drop (k + 8)).length ≤ 524288) ∧
    (∃ (n : Fin 4) (sub : Fin 17) (s : State) (t : State) (u : State) (cw : Nat) (un : Nat) (d : Bool) (x : PmSecond) (r : PmRun), Tab.get (0, 0) (s.frame n).pmCw sub = (cw, un) ∧ d = ((s.frame n).pmDefect.contains sub.val || pmDefectNow n sub s) ∧ x = ⟨serviceTime s / uS, d || decide (0 < un), d || (decide (0 < cw) && decide (3 * cw ≤ 10 * un)), cw, un, !(serviceValid s)⟩ ∧ t = s.setFrame n (fun f => { f with pmCw := Tab.put (0, 0) f.pmCw sub (0, 0), pmDefect := f.pmDefect.filter (· ≠ sub.val) }) ∧ u = t.when (!(serviceValid t)) (fun t_ => suspectBin n sub 1 (suspectBin n sub 0 t_)) ∧ r = Tab.get {} (u.frame n).runs sub ∧ x.ses = r.unavailable) ∧
    (∃ (n : Fin 4) (sub : Fin 17) (s : State) (t : State) (u : State) (cw : Nat) (un : Nat) (d : Bool) (x : PmSecond) (r : PmRun), Tab.get (0, 0) (s.frame n).pmCw sub = (cw, un) ∧ d = ((s.frame n).pmDefect.contains sub.val || pmDefectNow n sub s) ∧ x = ⟨serviceTime s / uS, d || decide (0 < un), d || (decide (0 < cw) && decide (3 * cw ≤ 10 * un)), cw, un, !(serviceValid s)⟩ ∧ t = s.setFrame n (fun f => { f with pmCw := Tab.put (0, 0) f.pmCw sub (0, 0), pmDefect := f.pmDefect.filter (· ≠ sub.val) }) ∧ u = t.when (!(serviceValid t)) (fun t_ => suspectBin n sub 1 (suspectBin n sub 0 t_)) ∧ r = Tab.get {} (u.frame n).runs sub ∧ x.ses ≠ r.unavailable ∧ r.run.length < 9) ∧
    (∃ (n : Fin 4) (sub : Fin 17) (s : State) (t : State) (u : State) (cw : Nat) (un : Nat) (d : Bool) (x : PmSecond) (r : PmRun), Tab.get (0, 0) (s.frame n).pmCw sub = (cw, un) ∧ d = ((s.frame n).pmDefect.contains sub.val || pmDefectNow n sub s) ∧ x = ⟨serviceTime s / uS, d || decide (0 < un), d || (decide (0 < cw) && decide (3 * cw ≤ 10 * un)), cw, un, !(serviceValid s)⟩ ∧ t = s.setFrame n (fun f => { f with pmCw := Tab.put (0, 0) f.pmCw sub (0, 0), pmDefect := f.pmDefect.filter (· ≠ sub.val) }) ∧ u = t.when (!(serviceValid t)) (fun t_ => suspectBin n sub 1 (suspectBin n sub 0 t_)) ∧ r = Tab.get {} (u.frame n).runs sub ∧ x.ses ≠ r.unavailable ∧ 9 ≤ r.run.length) ∧
    (∃ (n : Fin 4) (sub : Fin 17) (day : Bool) (sec : Nat) (len : Nat) (k : Nat) (cur : PmBin) (s : State), sec = serviceTime s / uS ∧ len = (if day then 86400 else 900) ∧ k = binKey sub (b2n day) ∧ cur = Tab.get {} (s.frame n).bins k ∧ (sec % len ≠ s.get .LINE_FRM_CFG_PM_OFFSET n * 900 % len ∨ (cur.valid = true ∧ cur.start = sec))) ∧
    (∃ (n : Fin 4) (sub : Fin 17) (day : Bool) (sec : Nat) (len : Nat) (k : Nat) (cur : PmBin) (s : State), sec = serviceTime s / uS ∧ len = (if day then 86400 else 900) ∧ k = binKey sub (b2n day) ∧ cur = Tab.get {} (s.frame n).bins k ∧ sec % len = s.get .LINE_FRM_CFG_PM_OFFSET n * 900 % len ∧ cur.valid = false) ∧
    (∃ (n : Fin 4) (sub : Fin 17) (day : Bool) (sec : Nat) (len : Nat) (k : Nat) (cur : PmBin) (s : State), sec = serviceTime s / uS ∧ len = (if day then 86400 else 900) ∧ k = binKey sub (b2n day) ∧ cur = Tab.get {} (s.frame n).bins k ∧ sec % len = s.get .LINE_FRM_CFG_PM_OFFSET n * 900 % len ∧ cur.valid = true ∧ cur.start ≠ sec) ∧
    (∃ (n : Fin 4) (sub : Fin 17) (day : Bool) (s : State), s.expired (.binEnd n sub (b2n day)) (10 * uS) = false) ∧
    (∃ (n : Fin 4) (sub : Fin 17) (day : Bool) (s : State), s.expired (.binEnd n sub (b2n day)) (10 * uS) = true) :=
    ⟨⟨0, 0, (ready.set .LINE_FRM_STATE 0 0 0), by decide +kernel⟩,
    ⟨0, 0, 0, 0, 0, envW (3 * 2 ^ 30), _, _, _, (((ready.set .LINE_FRM_STATE 2 0 0).set .LINE_SC_FORMAT 0).setFrame 0 (fun y => { y with pairs := [⟨0, 0, 0, 0, 0, false, false, false, []⟩] })), rfl, rfl, rfl, by decide +kernel⟩,
    ⟨0, 0, 0, 0, 0, 0, _, _, _, (((ready.set .LINE_FRM_STATE 2 0 0).set .LINE_SC_FORMAT 0).setFrame 0 (fun y => { y with pairs := [⟨0, 0, 0, 0, 0, false, false, false, []⟩] })), rfl, rfl, rfl, by decide +kernel⟩,
    ⟨0, 0, 0, 0, 0, 0, _, _, _, ((ready.set .LINE_FRM_STATE 2 0 0).set .LINE_FRM_ENV_STATE 2 0 0), rfl, rfl, rfl, by decide +kernel⟩,
    ⟨0, 0, 0, 0, 0, 0, _, _, _, ((ready.set .LINE_FRM_STATE 2 0 0).set .LINE_FRM_ENV_STATE 0 0 0), rfl, rfl, rfl, by decide +kernel⟩,
    ⟨0, 0, 0, 0, 0, envW (3 * 2 ^ 30), _, _, _, ((ready.set .LINE_FRM_STATE 2 0 0).set .LINE_FRM_ENV_STATE 0 0 0), rfl, rfl, rfl, by decide +kernel⟩,
    ⟨0, 0, 0, 0, 0, envW (3 * 2 ^ 30), _, _, _, ((ready.set .LINE_FRM_STATE 2 0 0).set .LINE_FRM_ENV_STATE 1 0 0), rfl, rfl, rfl, by decide +kernel⟩,
    ⟨0, by decide +kernel⟩,
    ⟨0, (2 ^ 46), ready, by decide +kernel⟩,
    ⟨0, (2 ^ 46 + 2 ^ 34), (ready.set .LINE_TREE_STATE_STATE tsOffline 0), by decide +kernel⟩,
    ⟨0, (2 ^ 46), ((ready.set .TEST_LOOP_LINE_LINE_ELEC 1).set .PWR_STATE_STATE 4), _, by decide +kernel, by decide +kernel, rfl, by decide +kernel⟩,
    ⟨0, 0, (3 * 2 ^ 46), 0, 1, [], [], (ready.set .TEST_LOOP_LINE_LINE_ELEC 1), _, _, by decide +kernel, by decide +kernel, rfl, rfl, by decide +kernel⟩,
    ⟨0, 0, (2 ^ 46), 0, _, [], [], ((ready.set .TEST_LOOP_LINE_LINE_ELEC 1).set .SW_RELEASE_BEHAVIOUR 0), _, _, by decide +kernel, by decide +kernel, rfl, rfl, by decide +kernel, by decide +kernel, by decide +kernel, rfl⟩,
    ⟨0, 0, (2 ^ 46), 0, 1, [], [], (ready.set .TEST_LOOP_LINE_LINE_ELEC 1), _, _, by decide +kernel, by decide +kernel, rfl, rfl, by decide +kernel⟩,
    ⟨0, 0, 0, _, _, ready, rfl, rfl, by decide +kernel⟩,
    ⟨0, 0, 0, _, _, _, _, (((ready.set .LINE_SC_FORMAT 0).set .LINE_FRM_STATE 2).setFrame 0 (fun y => { y with tsi := [(0, 128)], slots := [(0, 1)], justLast := [(0, 1)], pairs := [⟨0, 0, 0, 0, 0, true, false, false, List.replicate 81 7⟩] })), _, rfl, rfl, rfl, rfl, rfl, by decide +kernel, by decide +kernel, by first | decide +kernel | (intros; first | rfl | (simp_all; done) | decide), by decide +kernel⟩,
    ⟨0, 0, 0, _, _, _, _, ((((ready.set .LINE_SC_FORMAT 0).set .LINE_FRM_STATE 2).setFrame 0 (fun y => { y with tsi := [(0, 128)], slots := [(0, 1)], justLast := [(0, 1)], pairs := [⟨0, 0, 0, 0, 0, true, false, false, List.replicate 81 7⟩] })).set .PORT_STATUS_LINK_STATE lsUp 0), _, rfl, rfl, rfl, rfl, rfl, by decide +kernel, by decide +kernel, by first | decide +kernel | (intros; first | rfl | (simp_all; done) | decide), by decide +kernel⟩,
    ⟨0, [], _, ready, rfl, by decide +kernel⟩,
    ⟨0, (List.replicate 12 0 ++ [0x88, 0xB6, 1] ++ List.replicate 50 0), _, _, _, _, (((ready.set .PORT_STATUS_LINK_STATE lsUp 0).set .PORT_CLASS_DEST 1).setFrame 0 (fun y => { y with tribs := [(0, { buffer := bigBuffer })] })), rfl, rfl, rfl, rfl, by decide +kernel, by decide +kernel, by decide +kernel, by show 524288 < bigBuffer.length + _; rw [bigBuffer_length]; exact Nat.lt_of_lt_of_le (by decide) (Nat.le_add_right _ _)⟩,
    ⟨0, (List.replicate 12 0 ++ [0x88, 0xB6, 1] ++ List.replicate 50 0), _, _, _, _, ((ready.set .PORT_STATUS_LINK_STATE lsUp 0).set .PORT_CLASS_DEST 1), rfl, rfl, rfl, rfl, by decide +kernel⟩,
    ⟨0, 0, ((ready.set .LINE_STATUS_LIGHT 1).set .LINE_SC_ENABLED 0), _, _, 0, 0, _, _, _, by decide +kernel, rfl, rfl, rfl, rfl, rfl, by decide +kernel⟩,
    ⟨0, 0, ready, _, _, 0, 0, _, _, _, by decide +kernel, rfl, rfl, rfl, rfl, rfl, by decide +kernel⟩,
    ⟨0, 0, (ready.setFrame 0 (fun y => { y with runs := [(0, ⟨false, List.replicate 9 ⟨0, false, false, 0, 0, false⟩⟩)] })), _, _, 0, 0, _, _, _, by decide +kernel, rfl, rfl, rfl, rfl, rfl, by decide +kernel⟩,
    ⟨0, 0, true, _, _, _, _, (ready.set .LINE_FRM_CFG_PM_OFFSET 1), rfl, rfl, rfl, rfl, by decide +kernel⟩,
    ⟨0, 0, true, _, _, _, _, ready, rfl, rfl, rfl, rfl, by decide +kernel⟩,
    ⟨0, 0, true, _, _, _, _, (ready.setFrame 0 (fun y => { y with bins := [(64, { valid := true, start := 5 })] })), rfl, rfl, rfl, rfl, by decide +kernel⟩,
    ⟨0, 0, true, ready, by decide +kernel⟩,
    ⟨0, 0, true, (let y : State := (ready.start (.binEnd 0 0 1)); { y with now := 10 * uS }), by decide +kernel⟩⟩

/-- The hypotheses of `Obligations.TerminalStateChangeIsReported` are met. -/
theorem witness_TerminalStateChangeIsReported :
    (∃ (n : Nat) (new : Nat) (s : State) (f : Fld), new < 16 ∧ s.tree n < 16 ∧ f ≠ .LINE_TREE_STATE_STATE ∧ f ≠ .LINE_TREE_STATE_PREV_STATE ∧ f ≠ .LINE_TREE_STATE_SILENT_MS) :=
    ⟨0, 0, ready, .SYS_BOOT_PHASE, by decide +kernel⟩

/-- The hypotheses of `Obligations.TreeCommandsComplete` are met. -/
theorem witness_TreeCommandsComplete :
    (∃ (q : Req) (n : Nat) (s : State), n < 4 ∧ takenUp (ciTreeJoin n) q s = true ∧ s.fuses.lost.find? (fun w => w / 2 == 2 + n) = none ∧ (s.tree n = tsDeposed ∨ (s.tree n = tsOffline ∧ (controlSync n s = true ∨ s.get .LINE_STATUS_SEARCHING n = 1)))) ∧
    (∃ (q : Req) (n : Nat) (s : State), n < 4 ∧ takenUp (ciTreeJoin n) q s = true ∧ s.fuses.lost.find? (fun w => w / 2 == 2 + n) = none ∧ s.tree n = tsOffline ∧ controlSync n s = false ∧ s.get .LINE_STATUS_SEARCHING n ≠ 1) ∧
    (∃ (q : Req) (n : Nat) (s : State), n < 4 ∧ takenUp (ciTreeJoin n) q s = true ∧ s.fuses.lost.find? (fun w => w / 2 == 2 + n) = none ∧ s.tree n ≠ tsOffline ∧ s.tree n ≠ tsDeposed) ∧
    (∃ (q : Req) (n : Nat) (s : State) (w : Nat), n < 4 ∧ takenUp (ciTreeJoin n) q s = true ∧ s.fuses.lost.find? (fun w_ => w_ / 2 == 2 + n) = some w) ∧
    (∃ (q : Req) (n : Nat) (s : State), n < 4 ∧ takenUp (ciTreeLeave n) q s = true ∧ s.tree n = tsOffline) ∧
    (∃ (q : Req) (n : Nat) (s : State), n < 4 ∧ takenUp (ciTreeLeave n) q s = true ∧ s.tree n ≠ tsOffline) ∧
    (∃ (q : Req) (es : List WEntry) (s : State), takenUp ciTreeConfig q s = true ∧ wErr treeConfigAllow es = none ∧ (∀ n ∈ filterPorts es, s.tree n = tsOffline)) ∧
    (∃ (q : Req) (es : List WEntry) (s : State) (n : _), n ∈ filterPorts es ∧ takenUp ciTreeConfig q s = true ∧ wErr treeConfigAllow es = none ∧ s.tree n ≠ tsOffline) ∧
    (∃ (n : Nat) (b : State) (s : State), b.get .LINE_TREE_CFG_HOST_DARK n ≠ 1 ∧ s.get .LINE_TREE_CFG_HOST_DARK n = 1) ∧
    (∃ (n : Nat) (b : State) (s : State), b.get .LINE_TREE_CFG_HOST_DARK n = 1 ∧ s.get .LINE_TREE_CFG_HOST_DARK n ≠ 1) ∧
    (∃ (n : Nat) (b : State) (s : State), b.get .LINE_TREE_CFG_HOST_DARK n = 1 ↔ s.get .LINE_TREE_CFG_HOST_DARK n = 1) ∧
    (∃ (q : Req) (n : Nat) (s : State), n < 4 ∧ takenUp (ciTreeDark n) q s = true) ∧
    (∃ (q : Req) (n : Nat) (s : State), n < 4 ∧ takenUp (ciTreeDoze n) q s = true ∧ s.tree n = tsMember) ∧
    (∃ (q : Req) (n : Nat) (s : State), n < 4 ∧ takenUp (ciTreeDoze n) q s = true ∧ s.tree n ≠ tsMember) ∧
    (∃ (q : Req) (n : Nat) (s : State), n < 4 ∧ takenUp (ciTreeWake n) q s = true ∧ s.tree n = tsDozing) ∧
    (∃ (q : Req) (n : Nat) (s : State), n < 4 ∧ takenUp (ciTreeWake n) q s = true ∧ s.tree n ≠ tsDozing) ∧
    (∃ (q : Req) (n : Nat) (causes : Nat) (s : State), n < 4 ∧ causes < 32 ∧ takenUp (ciTreeGuardRelease n) q s = true ∧ (s.get .LINE_BAY_LATCHED n &&& causes) = causes ∧ (s.get .LINE_BAY_PRESENT n &&& causes) = 0) ∧
    (∃ (q : Req) (n : Nat) (causes : Nat) (s : State), n < 4 ∧ causes < 32 ∧ takenUp (ciTreeGuardRelease n) q s = true ∧ ((s.get .LINE_BAY_LATCHED n &&& causes) ≠ causes ∨ (s.get .LINE_BAY_PRESENT n &&& causes) ≠ 0)) ∧
    (∃ (q : Req) (n : Nat) (s : State), n < 4 ∧ takenUp (ciTreeMsgRead n) q s = true) :=
    ⟨⟨host, 0, (ready.set .LINE_TREE_STATE_STATE tsDeposed 0), by decide +kernel⟩,
    ⟨host, 0, ((ready.set .LINE_TREE_STATE_STATE tsOffline 0).set .LINE_STATUS_SEARCHING 0 0), by decide +kernel⟩,
    ⟨host, 0, (ready.set .LINE_TREE_STATE_STATE tsMember 0), by decide +kernel⟩,
    ⟨host, 0, (let y : State := ready; { y with fuses := { y.fuses with lost := [4] } }), 4, by decide +kernel⟩,
    ⟨host, 0, (ready.set .LINE_TREE_STATE_STATE tsOffline 0), by decide +kernel⟩,
    ⟨host, 0, (ready.set .LINE_TREE_STATE_STATE tsMember 0), by decide +kernel⟩,
    ⟨host, [], ready, by decide +kernel, by decide +kernel, by first | decide +kernel | (intros; first | rfl | (simp_all; done) | decide)⟩,
    ⟨host, [wd .LINE_TREE_FILTER_ENABLE 1 0], (ready.set .LINE_TREE_STATE_STATE tsMember 0), 0, by decide +kernel⟩,
    ⟨0, (ready.set .LINE_TREE_CFG_HOST_DARK 0 0), (ready.set .LINE_TREE_CFG_HOST_DARK 1 0), by decide +kernel⟩,
    ⟨0, (ready.set .LINE_TREE_CFG_HOST_DARK 1 0), (ready.set .LINE_TREE_CFG_HOST_DARK 0 0), by decide +kernel⟩,
    ⟨0, ready, ready, by decide +kernel⟩,
    ⟨host, 0, ready, by decide +kernel⟩,
    ⟨host, 0, (ready.set .LINE_TREE_STATE_STATE tsMember 0), by decide +kernel⟩,
    ⟨host, 0, ready, by decide +kernel⟩,
    ⟨host, 0, (ready.set .LINE_TREE_STATE_STATE tsDozing 0), by decide +kernel⟩,
    ⟨host, 0, ready, by decide +kernel⟩,
    ⟨host, 0, 0, ready, by decide +kernel⟩,
    ⟨host, 0, 31, (ready.set .LINE_BAY_PRESENT 16), by decide +kernel⟩,
    ⟨host, 0, ready, by decide +kernel⟩⟩

/-- The hypotheses of `Obligations.UnsoundTreeMessagesAreCounted` are met. -/
theorem witness_UnsoundTreeMessagesAreCounted :
    (∃ (a : FieldAt) (bs : List Nat) (m : TreeMsg) (s : State) (x : Nat) (y : Nat) (i : Instr) (types : Nat → Bool), bs = fieldBytes a s ∧ m = msgOf bs ∧ (i, types) ∈ messageRows a x y ∧ (a.sector < 32 ∨ 63 < a.sector ∨ fieldUsable a s = false ∨ types m.type = false)) ∧
    (∃ (a : FieldAt) (bs : List Nat) (m : TreeMsg) (s : State) (x : Nat) (y : Nat) (i : Instr) (types : Nat → Bool), bs = fieldBytes a s ∧ m = msgOf bs ∧ (i, types) ∈ messageRows a x y ∧ 32 ≤ a.sector ∧ a.sector ≤ 63 ∧ fieldUsable a s = true ∧ types m.type = true ∧ field bs 60 4 ≠ crc32c (bs.take 60)) ∧
    (∃ (a : FieldAt) (bs : List Nat) (m : TreeMsg) (s : State) (x : Nat) (y : Nat) (i : Instr) (types : Nat → Bool), bs = fieldBytes a s ∧ m = msgOf bs ∧ (i, types) ∈ messageRows a x y ∧ 32 ≤ a.sector ∧ a.sector ≤ 63 ∧ fieldUsable a s = true ∧ types m.type = true ∧ field bs 60 4 = crc32c (bs.take 60) ∧ (m.type = 0 ∨ taken a m s = false)) ∧
    (∃ (a : FieldAt) (bs : List Nat) (m : TreeMsg) (s : State) (x : Nat) (y : Nat) (i : Instr) (types : Nat → Bool), bs = fieldBytes a s ∧ m = msgOf bs ∧ (i, types) ∈ messageRows a x y ∧ 32 ≤ a.sector ∧ a.sector ≤ 63 ∧ fieldUsable a s = true ∧ types m.type = true ∧ field bs 60 4 = crc32c (bs.take 60) ∧ m.type ≠ 0 ∧ taken a m s = true ∧ 54 < m.blen) ∧
    (∃ (a : FieldAt) (bs : List Nat) (m : TreeMsg) (s : State) (x : Nat) (y : Nat) (i : Instr) (types : Nat → Bool) (t : State), bs = fieldBytes a s ∧ m = msgOf bs ∧ (i, types) ∈ messageRows a x y ∧ 32 ≤ a.sector ∧ a.sector ≤ 63 ∧ fieldUsable a s = true ∧ types m.type = true ∧ field bs 60 4 = crc32c (bs.take 60) ∧ m.type ≠ 0 ∧ taken a m s = true ∧ m.blen ≤ 54 ∧ m.bcast = false ∧ m.epoch ≠ s.get .LINE_TREE_ID_EPOCH a.port ∧ t = s.inc .LP_MSG_STALE a.port ∧ newerEpoch m.epoch (t.get .LINE_TREE_ID_EPOCH a.port) = true) ∧
    (∃ (a : FieldAt) (bs : List Nat) (m : TreeMsg) (s : State) (x : Nat) (y : Nat) (i : Instr) (types : Nat → Bool) (t : State), bs = fieldBytes a s ∧ m = msgOf bs ∧ (i, types) ∈ messageRows a x y ∧ 32 ≤ a.sector ∧ a.sector ≤ 63 ∧ fieldUsable a s = true ∧ types m.type = true ∧ field bs 60 4 = crc32c (bs.take 60) ∧ m.type ≠ 0 ∧ taken a m s = true ∧ m.blen ≤ 54 ∧ m.bcast = false ∧ m.epoch ≠ s.get .LINE_TREE_ID_EPOCH a.port ∧ t = s.inc .LP_MSG_STALE a.port ∧ newerEpoch m.epoch (t.get .LINE_TREE_ID_EPOCH a.port) = false) ∧
    (∃ (a : FieldAt) (bs : List Nat) (m : TreeMsg) (s : State) (x : Nat) (y : Nat) (i : Instr) (types : Nat → Bool) (bcast : Bool) (ok : Bool) (states : List Nat), bs = fieldBytes a s ∧ m = msgOf bs ∧ ((i, types, bcast, states, ok) ∈ [(Instr.discovery a x y, (· == 1), true, [tsCandidate], m.blen == 20 && bit (field m.body 14 2) 13 && decide (bits (field m.body 14 2) 1 3 ≤ 4)), (.range a, (· == 3), false, [tsRanging, tsMember, tsDozing], m.blen == 13), (.profile a, (· == 4), false, [tsRanging, tsMember, tsDozing, tsDark], decide (1 ≤ field m.body 4 1 ∧ field m.body 4 1 ≤ 16) && m.blen == 5 + 3 * field m.body 4 1), (.dozeAck a, (· == 5), false, [tsMember], m.blen == 2 && field m.body 0 2 != 0), (.deregister a, (· == 6), false, [tsRanging, tsMember, tsDozing, tsDark], m.blen == 0)]) ∧ goodMessage a types m s ∧ (m.bcast ≠ bcast ∨ ¬(s.tree a.port ∈ states) ∨ ok = false)) ∧
    (∃ (a : FieldAt) (bs : List Nat) (m : TreeMsg) (s : State), bs = fieldBytes a s ∧ m = msgOf bs ∧ goodMessage a (· == 2) m s ∧ (m.bcast = false ∨ m.blen ≠ 24)) ∧
    (∃ (a : FieldAt) (bs : List Nat) (m : TreeMsg) (s : State), bs = fieldBytes a s ∧ m = msgOf bs ∧ (goodMessage a (fun type => decide (type = 0 ∨ 7 ≤ type)) m s) ∧ (m.type < 64 ∨ s.tree a.port = tsOffline)) :=
    ⟨⟨fld0, _, _, onFld, 0, 0, (.range fld0), (· == 3), rfl, rfl, by simp [messageRows], by decide +kernel⟩,
    ⟨fldM, _, _, (fieldS 32 (msgBytes false 0 0 3 0 [] ++ [0, 0, 0, 1])), 0, 0, (.range fldM), (· == 3), rfl, rfl, by simp [messageRows], by decide +kernel⟩,
    ⟨fldM, _, _, ((fieldS 32 (msgField 3 false 0 [])).set .LINE_TREE_ID_TID 5), 0, 0, (.range fldM), (· == 3), rfl, rfl, by simp [messageRows], by decide +kernel⟩,
    ⟨fldM, _, _, (fieldS 32 (msgField 3 false 55 [])), 0, 0, (.range fldM), (· == 3), rfl, rfl, by simp [messageRows], by decide +kernel⟩,
    ⟨fldM, _, _, ((fieldS 32 (msgField 3 false 0 [])).set .LINE_TREE_ID_EPOCH 65535), 0, 0, (.range fldM), (· == 3), _, rfl, rfl, by simp [messageRows], by decide +kernel, by decide +kernel, by decide +kernel, (by decide +kernel), by decide +kernel, by decide +kernel, by decide +kernel, (by decide +kernel), by decide +kernel, by decide +kernel, rfl, by decide +kernel⟩,
    ⟨fldM, _, _, ((fieldS 32 (msgField 3 false 0 [])).set .LINE_TREE_ID_EPOCH 1), 0, 0, (.range fldM), (· == 3), _, rfl, rfl, by simp [messageRows], by decide +kernel, by decide +kernel, by decide +kernel, (by decide +kernel), by decide +kernel, by decide +kernel, by decide +kernel, (by decide +kernel), by decide +kernel, by decide +kernel, rfl, by decide +kernel⟩,
    ⟨fldM, _, _, (fieldS 32 (msgField 6 false 0 [])), 0, 0, (.deregister fldM), (· == 6), false, ((msgOf (fieldBytes fldM (fieldS 32 (msgField 6 false 0 [])))).blen == 0), [tsRanging, tsMember, tsDozing, tsDark], rfl, rfl, List.Mem.tail _ (List.Mem.tail _ (List.Mem.tail _ (List.Mem.tail _ (List.Mem.head _)))), by unfold goodMessage; decide +kernel, by decide +kernel⟩,
    ⟨fldM, _, _, (fieldS 32 (msgField 2 false 0 [])), rfl, rfl, by unfold goodMessage; decide +kernel, by decide +kernel⟩,
    ⟨fldM, _, _, (fieldS 32 (msgField 7 false 0 [])), rfl, rfl, by unfold goodMessage; decide +kernel, by decide +kernel⟩⟩

/-- The hypotheses of `Obligations.TreeMessagesTakeEffect` are met. -/
theorem witness_TreeMessagesTakeEffect :
    (∃ (a : FieldAt) (m : TreeMsg) (n : Nat) (prof : Nat) (s : State), goodMessage a (· == 1) m s ∧ m.bcast = true ∧ m.blen = 20 ∧ s.tree a.port = tsCandidate ∧ n = a.port ∧ prof = field m.body 14 2 ∧ bit prof 13 = true ∧ bits prof 1 3 ≤ 4 ∧ ((s.frame n).discoveryOpen = false ∨ (s.frame n).headerTaken = none ∨ (s.term n).presence.isSome = true ∨ (s.term n).nonce.isSome = true ∨ (s.term n).burst.isSome = true)) ∧
    (∃ (a : FieldAt) (m : TreeMsg) (n : Nat) (prof : Nat) (s : State), goodMessage a (· == 1) m s ∧ m.bcast = true ∧ m.blen = 20 ∧ s.tree a.port = tsCandidate ∧ n = a.port ∧ prof = field m.body 14 2 ∧ bit prof 13 = true ∧ bits prof 1 3 ≤ 4 ∧ (s.frame n).discoveryOpen = true ∧ (s.frame n).headerTaken.isSome = true ∧ (s.term n).presence = none ∧ (s.term n).nonce = none ∧ (s.term n).burst = none ∧ 0 < (s.term n).skip) ∧
    (∃ (a : FieldAt) (m : TreeMsg) (n : Nat) (prof : Nat) (up : Nat) (width : Nat) (eqd : Nat) (l : Nat) (s : State), goodMessage a (· == 1) m s ∧ m.bcast = true ∧ m.blen = 20 ∧ s.tree a.port = tsCandidate ∧ n = a.port ∧ prof = field m.body 14 2 ∧ bit prof 13 = true ∧ bits prof 1 3 ≤ 4 ∧ up = field m.body 0 4 % 2 ^ 25 ∧ width = field m.body 8 4 ∧ eqd = bits (field m.body 16 4) 4 24 ∧ l = burstSymbols (bits prof 8 5) 4096 1 (bits prof 1 3) (bits prof 0 1) ∧ (s.frame n).discoveryOpen = true ∧ (s.frame n).headerTaken.isSome = true ∧ (s.term n).presence = none ∧ (s.term n).nonce = none ∧ (s.term n).burst = none ∧ (s.term n).skip = 0 ∧ (width < l ∨ upBegun n up eqd s = true)) ∧
    (∃ (a : FieldAt) (m : TreeMsg) (n : Nat) (prof : Nat) (up : Nat) (width : Nat) (eqd : Nat) (l : Nat) (s : State), goodMessage a (· == 1) m s ∧ m.bcast = true ∧ m.blen = 20 ∧ s.tree a.port = tsCandidate ∧ n = a.port ∧ prof = field m.body 14 2 ∧ bit prof 13 = true ∧ bits prof 1 3 ≤ 4 ∧ up = field m.body 0 4 % 2 ^ 25 ∧ width = field m.body 8 4 ∧ eqd = bits (field m.body 16 4) 4 24 ∧ l = burstSymbols (bits prof 8 5) 4096 1 (bits prof 1 3) (bits prof 0 1) ∧ (s.frame n).discoveryOpen = true ∧ (s.frame n).headerTaken.isSome = true ∧ (s.term n).presence = none ∧ (s.term n).nonce = none ∧ (s.term n).burst = none ∧ (s.term n).skip = 0 ∧ l ≤ width ∧ upBegun n up eqd s = false) ∧
    (∃ (a : FieldAt) (m : TreeMsg) (n : Nat) (s : State), goodMessage a (· == 2) m s ∧ m.bcast = true ∧ m.blen = 24 ∧ n = a.port ∧ field m.body 0 8 ≠ s.get .LINE_TREE_SERIAL_SERIAL n ∧ s.tree n = tsCandidate) ∧
    (∃ (a : FieldAt) (m : TreeMsg) (n : Nat) (s : State), goodMessage a (· == 2) m s ∧ m.bcast = true ∧ m.blen = 24 ∧ n = a.port ∧ field m.body 0 8 ≠ s.get .LINE_TREE_SERIAL_SERIAL n ∧ s.tree n ≠ tsCandidate) ∧
    (∃ (a : FieldAt) (m : TreeMsg) (n : Nat) (s : State), goodMessage a (· == 2) m s ∧ m.bcast = true ∧ m.blen = 24 ∧ n = a.port ∧ field m.body 0 8 = s.get .LINE_TREE_SERIAL_SERIAL n ∧ s.tree n = tsCandidate ∧ (s.term n).nonce = some (field m.body 8 4)) ∧
    (∃ (a : FieldAt) (m : TreeMsg) (n : Nat) (s : State), goodMessage a (· == 2) m s ∧ m.bcast = true ∧ m.blen = 24 ∧ n = a.port ∧ field m.body 0 8 = s.get .LINE_TREE_SERIAL_SERIAL n ∧ (s.tree n ≠ tsCandidate ∨ (s.term n).nonce ≠ some (field m.body 8 4))) ∧
    (∃ (a : FieldAt) (m : TreeMsg) (n : Nat) (ap : Nat) (late : Bool) (v : RangeValues) (s : State) (u : State) (t : State), goodMessage a (· == 3) m s ∧ m.bcast = false ∧ m.blen = 13 ∧ (s.tree a.port = tsRanging ∨ s.tree a.port = tsMember ∨ s.tree a.port = tsDozing) ∧ n = a.port ∧ applyFrom n (field m.body 8 4 % 2 ^ 25) s = (ap, late) ∧ v = ⟨bits (field m.body 0 4) 4 24, field m.body 0 4 % 16, field m.body 4 4, ap, (s.frame n).sf⟩ ∧ u = s.when late (fun s_ => s_.inc .LP_RANGE_LATE n) ∧ t = u.setTerm n (fun t_ => { t_ with rangeNext := t_.rangeNext ++ [v], rangeBase := some (rangeUnder n s) }) ∧ t.tree n ≠ tsRanging) ∧
    (∃ (a : FieldAt) (m : TreeMsg) (n : Nat) (ap : Nat) (late : Bool) (v : RangeValues) (s : State) (u : State) (t : State), goodMessage a (· == 3) m s ∧ m.bcast = false ∧ m.blen = 13 ∧ (s.tree a.port = tsRanging ∨ s.tree a.port = tsMember ∨ s.tree a.port = tsDozing) ∧ n = a.port ∧ applyFrom n (field m.body 8 4 % 2 ^ 25) s = (ap, late) ∧ v = ⟨bits (field m.body 0 4) 4 24, field m.body 0 4 % 16, field m.body 4 4, ap, (s.frame n).sf⟩ ∧ u = s.when late (fun s_ => s_.inc .LP_RANGE_LATE n) ∧ t = u.setTerm n (fun t_ => { t_ with rangeNext := t_.rangeNext ++ [v], rangeBase := some (rangeUnder n s) }) ∧ t.tree n = tsRanging ∧ bit (field m.body 12 1) 0 = false) ∧
    (∃ (a : FieldAt) (m : TreeMsg) (n : Nat) (ap : Nat) (late : Bool) (v : RangeValues) (s : State) (u : State) (t : State), goodMessage a (· == 3) m s ∧ m.bcast = false ∧ m.blen = 13 ∧ (s.tree a.port = tsRanging ∨ s.tree a.port = tsMember ∨ s.tree a.port = tsDozing) ∧ n = a.port ∧ applyFrom n (field m.body 8 4 % 2 ^ 25) s = (ap, late) ∧ v = ⟨bits (field m.body 0 4) 4 24, field m.body 0 4 % 16, field m.body 4 4, ap, (s.frame n).sf⟩ ∧ u = s.when late (fun s_ => s_.inc .LP_RANGE_LATE n) ∧ t = u.setTerm n (fun t_ => { t_ with rangeNext := t_.rangeNext ++ [v], rangeBase := some (rangeUnder n s) }) ∧ t.tree n = tsRanging ∧ bit (field m.body 12 1) 0 = true ∧ (t.term n).afterOutage = false) ∧
    (∃ (a : FieldAt) (m : TreeMsg) (n : Nat) (ap : Nat) (late : Bool) (v : RangeValues) (s : State) (u : State) (t : State), goodMessage a (· == 3) m s ∧ m.bcast = false ∧ m.blen = 13 ∧ (s.tree a.port = tsRanging ∨ s.tree a.port = tsMember ∨ s.tree a.port = tsDozing) ∧ n = a.port ∧ applyFrom n (field m.body 8 4 % 2 ^ 25) s = (ap, late) ∧ v = ⟨bits (field m.body 0 4) 4 24, field m.body 0 4 % 16, field m.body 4 4, ap, (s.frame n).sf⟩ ∧ u = s.when late (fun s_ => s_.inc .LP_RANGE_LATE n) ∧ t = u.setTerm n (fun t_ => { t_ with rangeNext := t_.rangeNext ++ [v], rangeBase := some (rangeUnder n s) }) ∧ t.tree n = tsRanging ∧ bit (field m.body 12 1) 0 = true ∧ (t.term n).afterOutage = true) ∧
    (∃ (a : FieldAt) (m : TreeMsg) (n : Nat) (k : Nat) (ap : Nat) (late : Bool) (s : State), goodMessage a (· == 4) m s ∧ m.bcast = false ∧ k = field m.body 4 1 ∧ 1 ≤ k ∧ k ≤ 16 ∧ m.blen = 5 + 3 * k ∧ s.tree a.port ∈ [tsRanging, tsMember, tsDozing, tsDark] ∧ n = a.port ∧ applyFrom n (field m.body 0 4 % 2 ^ 25) s = (ap, late)) ∧
    (∃ (a : FieldAt) (m : TreeMsg) (s : State), goodMessage a (· == 5) m s ∧ m.bcast = false ∧ m.blen = 2 ∧ field m.body 0 2 ≠ 0 ∧ s.tree a.port = tsMember ∧ s.get .LINE_TREE_DOZE_REQUESTED a.port ≠ 1) ∧
    (∃ (a : FieldAt) (m : TreeMsg) (s : State), goodMessage a (· == 5) m s ∧ m.bcast = false ∧ m.blen = 2 ∧ field m.body 0 2 ≠ 0 ∧ s.tree a.port = tsMember ∧ s.get .LINE_TREE_DOZE_REQUESTED a.port = 1) ∧
    (∃ (a : FieldAt) (m : TreeMsg) (s : State), goodMessage a (· == 6) m s ∧ m.bcast = false ∧ m.blen = 0 ∧ s.tree a.port ∈ [tsRanging, tsMember, tsDozing, tsDark]) ∧
    (∃ (a : FieldAt) (m : TreeMsg) (s : State), (goodMessage a (fun type => decide (type = 0 ∨ 7 ≤ type)) m s) ∧ s.tree a.port ≠ tsOffline ∧ 64 ≤ m.type ∧ (s.frame a.port).msgs.length < 256) ∧
    (∃ (a : FieldAt) (m : TreeMsg) (s : State), (goodMessage a (fun type => decide (type = 0 ∨ 7 ≤ type)) m s) ∧ s.tree a.port ≠ tsOffline ∧ 64 ≤ m.type ∧ 256 ≤ (s.frame a.port).msgs.length) :=
    ⟨⟨fldM, msgOf (msgField 1 true 20 (List.replicate 14 0 ++ [32, 0])), _, _, (((fieldS 32 (msgField 1 true 20 (List.replicate 14 0 ++ [32, 0]))).set .LINE_TREE_STATE_STATE tsCandidate 0).setFrame 0 (fun y => { y with discoveryOpen := false })), by unfold goodMessage; decide +kernel, by decide +kernel, by decide +kernel, by decide +kernel, rfl, rfl, by decide +kernel⟩,
    ⟨fldM, msgOf (msgField 1 true 20 (List.replicate 14 0 ++ [32, 0])), _, _, ((((((((fieldS 32 (msgField 1 true 20 (List.replicate 14 0 ++ [32, 0]))).set .LINE_TREE_STATE_STATE tsCandidate 0).setFrame 0 (fun y => { y with discoveryOpen := true })).setFrame 0 (fun y => { y with headerTaken := some 0 })).setTerm 0 (fun y => { y with presence := none })).setTerm 0 (fun y => { y with nonce := none })).setTerm 0 (fun y => { y with burst := none })).setTerm 0 (fun y => { y with skip := 1 })), by unfold goodMessage; decide +kernel, by decide +kernel, by decide +kernel, by decide +kernel, rfl, rfl, by decide +kernel⟩,
    ⟨fldM, msgOf (msgField 1 true 20 (List.replicate 14 0 ++ [32, 0])), _, _, _, _, _, _, ((((((((fieldS 32 (msgField 1 true 20 (List.replicate 14 0 ++ [32, 0]))).set .LINE_TREE_STATE_STATE tsCandidate 0).setFrame 0 (fun y => { y with discoveryOpen := true })).setFrame 0 (fun y => { y with headerTaken := some 0 })).setTerm 0 (fun y => { y with presence := none })).setTerm 0 (fun y => { y with nonce := none })).setTerm 0 (fun y => { y with burst := none })).setTerm 0 (fun y => { y with skip := 0 })), by unfold goodMessage; decide +kernel, by decide +kernel, by decide +kernel, by decide +kernel, rfl, rfl, by decide +kernel, by decide +kernel, rfl, rfl, rfl, rfl, by decide +kernel⟩,
    ⟨fldM, msgOf (msgField 1 true 20 ([0, 0, 0, 1, 0, 0, 0, 0, 255, 255, 255, 255, 0, 0, 32, 0])), _, _, _, _, _, _, ((((((((fieldS 32 (msgField 1 true 20 ([0, 0, 0, 1, 0, 0, 0, 0, 255, 255, 255, 255, 0, 0, 32, 0]))).set .LINE_TREE_STATE_STATE tsCandidate 0).setFrame 0 (fun y => { y with discoveryOpen := true })).setFrame 0 (fun y => { y with headerTaken := some 0 })).setTerm 0 (fun y => { y with presence := none })).setTerm 0 (fun y => { y with nonce := none })).setTerm 0 (fun y => { y with burst := none })).setTerm 0 (fun y => { y with skip := 0 })), by unfold goodMessage; decide +kernel, by decide +kernel, by decide +kernel, by decide +kernel, rfl, rfl, by decide +kernel, by decide +kernel, rfl, rfl, rfl, rfl, by decide +kernel⟩,
    ⟨fldM, msgOf (msgField 2 true 24 [0, 0, 0, 0, 0, 0, 0, 1]), _, ((fieldS 32 (msgField 2 true 24 [0, 0, 0, 0, 0, 0, 0, 1])).set .LINE_TREE_STATE_STATE tsCandidate 0), by unfold goodMessage; decide +kernel, by decide +kernel, by decide +kernel, rfl, by decide +kernel⟩,
    ⟨fldM, msgOf (msgField 2 true 24 [0, 0, 0, 0, 0, 0, 0, 1]), _, (fieldS 32 (msgField 2 true 24 [0, 0, 0, 0, 0, 0, 0, 1])), by unfold goodMessage; decide +kernel, by decide +kernel, by decide +kernel, rfl, by decide +kernel⟩,
    ⟨fldM, msgOf (msgField 2 true 24 []), _, (((fieldS 32 (msgField 2 true 24 [])).set .LINE_TREE_STATE_STATE tsCandidate 0).setTerm 0 (fun y => { y with nonce := some (field (msgOf (msgField 2 true 24 [])).body 8 4) })), by unfold goodMessage; decide +kernel, by decide +kernel, by decide +kernel, rfl, by decide +kernel⟩,
    ⟨fldM, msgOf (msgField 2 true 24 []), _, (fieldS 32 (msgField 2 true 24 [])), by unfold goodMessage; decide +kernel, by decide +kernel, by decide +kernel, rfl, by decide +kernel⟩,
    ⟨fldM, msgOf (msgField 3 false 13 []), _, 0, false, _, (((fieldS 32 (msgField 3 false 13 [])).set .LINE_TREE_STATE_STATE tsRanging 0).set .LINE_TREE_STATE_STATE tsMember), _, _, by unfold goodMessage; decide +kernel, by decide +kernel, by decide +kernel, by decide +kernel, rfl, by decide +kernel, rfl, rfl, rfl, by decide +kernel⟩,
    ⟨fldM, msgOf (msgField 3 false 13 []), _, 0, false, _, (((fieldS 32 (msgField 3 false 13 [])).set .LINE_TREE_STATE_STATE tsRanging 0).set .LINE_TREE_STATE_STATE tsRanging 0), _, _, by unfold goodMessage; decide +kernel, by decide +kernel, by decide +kernel, by decide +kernel, rfl, by decide +kernel, rfl, rfl, rfl, by decide +kernel⟩,
    ⟨fldM, msgOf (msgField 3 false 13 (List.replicate 12 0 ++ [1])), _, 0, false, _, ((((fieldS 32 (msgField 3 false 13 (List.replicate 12 0 ++ [1]))).set .LINE_TREE_STATE_STATE tsRanging 0).set .LINE_TREE_STATE_STATE tsRanging 0).setTerm 0 (fun y => { y with afterOutage := false })), _, _, by unfold goodMessage; decide +kernel, by decide +kernel, by decide +kernel, by decide +kernel, rfl, by decide +kernel, rfl, rfl, rfl, by decide +kernel⟩,
    ⟨fldM, msgOf (msgField 3 false 13 (List.replicate 12 0 ++ [1])), _, 0, false, _, ((((fieldS 32 (msgField 3 false 13 (List.replicate 12 0 ++ [1]))).set .LINE_TREE_STATE_STATE tsRanging 0).set .LINE_TREE_STATE_STATE tsRanging 0).setTerm 0 (fun y => { y with afterOutage := true })), _, _, by unfold goodMessage; decide +kernel, by decide +kernel, by decide +kernel, by decide +kernel, rfl, by decide +kernel, rfl, rfl, rfl, by decide +kernel⟩,
    ⟨fldM, msgOf (msgField 4 false 8 [0, 0, 0, 0, 1]), _, _, 0, false, ((fieldS 32 (msgField 4 false 8 [0, 0, 0, 0, 1])).set .LINE_TREE_STATE_STATE tsRanging 0), by unfold goodMessage; decide +kernel, by decide +kernel, rfl, by decide +kernel, by decide +kernel, by decide +kernel, (by decide +kernel), rfl, by decide +kernel⟩,
    ⟨fldM, msgOf (msgField 5 false 2 [0,1]), (((fieldS 32 (msgField 5 false 2 [0,1])).set .LINE_TREE_STATE_STATE tsMember 0).set .LINE_TREE_DOZE_REQUESTED 0 0), by unfold goodMessage; decide +kernel, by decide +kernel⟩,
    ⟨fldM, msgOf (msgField 5 false 2 [0,1]), (((fieldS 32 (msgField 5 false 2 [0,1])).set .LINE_TREE_STATE_STATE tsMember 0).set .LINE_TREE_DOZE_REQUESTED 1 0), by unfold goodMessage; decide +kernel, by decide +kernel⟩,
    ⟨fldM, msgOf (msgField 6 false 0 []), ((fieldS 32 (msgField 6 false 0 [])).set .LINE_TREE_STATE_STATE tsRanging 0), by unfold goodMessage; decide +kernel, by decide +kernel⟩,
    ⟨fldM, msgOf (msgField 64 false 0 []), ((fieldS 32 (msgField 64 false 0 [])).set .LINE_TREE_STATE_STATE tsMember 0), by unfold goodMessage; decide +kernel, by decide +kernel⟩,
    ⟨fldM, msgOf (msgField 64 false 0 []), (((fieldS 32 (msgField 64 false 0 [])).set .LINE_TREE_STATE_STATE tsMember 0).setFrame 0 (fun y => { y with msgs := List.replicate 256 ⟨false, 0, 0, 0, []⟩ })), by unfold goodMessage; decide +kernel, by decide +kernel⟩⟩

/-- The hypotheses of `Obligations.TerminalTimersComplete` are met. -/
theorem witness_TerminalTimersComplete :
    (∃ (n : Fin 4) (s : State) (u : Bool), u = s.expired (.ranging n) (s.get .LINE_TREE_TIMERS_RANGING_TIMEOUT n * 10 * uMs) ∧ (s.tree n ≠ tsRanging ∨ u = false)) ∧
    (∃ (n : Fin 4) (s : State) (u : Bool), u = s.expired (.ranging n) (s.get .LINE_TREE_TIMERS_RANGING_TIMEOUT n * 10 * uMs) ∧ s.tree n = tsRanging ∧ u = true ∧ (s.term n).afterOutage = false) ∧
    (∃ (n : Fin 4) (s : State) (u : Bool), u = s.expired (.ranging n) (s.get .LINE_TREE_TIMERS_RANGING_TIMEOUT n * 10 * uMs) ∧ s.tree n = tsRanging ∧ u = true ∧ (s.term n).afterOutage = true) ∧
    (∃ (n : Fin 4) (s : State), ((s.tree n ≠ tsHoldover ∧ s.tree n ≠ tsDark) ∨ (s.term n).silentSince = none)) ∧
    (∃ (n : Fin 4) (s : State) (a : _), (s.tree n = tsHoldover ∨ s.tree n = tsDark) ∧ (s.term n).silentSince = some a ∧ s.get .LINE_TREE_TIMERS_REREG_LIMIT n * 100 ≤ (s.now - a) / uMs) ∧
    (∃ (n : Fin 4) (s : State) (a : _), (s.tree n = tsHoldover ∨ s.tree n = tsDark) ∧ (s.term n).silentSince = some a ∧ (s.now - a) / uMs < s.get .LINE_TREE_TIMERS_REREG_LIMIT n * 100) ∧
    (∃ (n : Fin 4) (s : State), ((s.term n).awaiting = false ∨ s.expired (.returnEntry n) (16 * uSf) = false)) ∧
    (∃ (n : Fin 4) (s : State), (s.term n).awaiting = true ∧ s.expired (.returnEntry n) (16 * uSf) = true) ∧
    (∃ (n : Fin 4) (s : State) (u : Bool), u = s.expired (.assignWait n) (s.get .LINE_TREE_TIMERS_ASSIGN_WAIT n * uSf) ∧ (s.tree n ≠ tsCandidate ∨ u = false)) ∧
    (∃ (n : Fin 4) (s : State) (u : Bool), u = s.expired (.assignWait n) (s.get .LINE_TREE_TIMERS_ASSIGN_WAIT n * uSf) ∧ s.tree n = tsCandidate ∧ u = true) ∧
    (∃ (n : Fin 4) (s : State), s.expired (.dirGrace n) (16 * uSf) = false) ∧
    (∃ (n : Fin 4) (s : State), s.expired (.dirGrace n) (16 * uSf) = true) ∧
    (∃ (n : Fin 4) (s : State), (s.tree n ≠ tsDozing ∨ (s.term n).dozeMissed = true ∨ s.timer (.checkin n) = none)) ∧
    (∃ (n : Fin 4) (a : Nat) (s : State), s.timer (.checkin n) = some a ∧ s.now < a + 4 * s.get .LINE_TREE_DOZE_PERIOD n * uSf) ∧
    (∃ (n : Fin 4) (a : Nat) (s : State), s.tree n = tsDozing ∧ (s.term n).dozeMissed = false ∧ s.timer (.checkin n) = some a ∧ a + 4 * s.get .LINE_TREE_DOZE_PERIOD n * uSf ≤ s.now) ∧
    (∃ (n : Fin 4) (s : State), s.tree n = tsHoldover ∧ controlSync n s = false ∧ s.expired (.lightBack n) (20 * uMs) = true) ∧
    (∃ (n : Fin 4) (s : State), (s.tree n ≠ tsHoldover ∨ controlSync n s = true ∨ s.expired (.lightBack n) (20 * uMs) = false)) :=
    ⟨⟨0, ready, _, rfl, by decide +kernel⟩,
    ⟨0, (let y : State := (((ready.set .LINE_TREE_STATE_STATE tsRanging 0).setTerm 0 (fun y => { y with afterOutage := false })).start (.ranging 0)); { y with now := 10 ^ 30 }), _, rfl, by decide +kernel⟩,
    ⟨0, (let y : State := (((ready.set .LINE_TREE_STATE_STATE tsRanging 0).setTerm 0 (fun y => { y with afterOutage := true })).start (.ranging 0)); { y with now := 10 ^ 30 }), _, rfl, by decide +kernel⟩,
    ⟨0, ready, by decide +kernel⟩,
    ⟨0, (let y : State := ((ready.set .LINE_TREE_STATE_STATE tsHoldover 0).setTerm 0 (fun y => { y with silentSince := some 0 })); { y with now := uS * 100000 }), 0, by decide +kernel⟩,
    ⟨0, ((ready.set .LINE_TREE_STATE_STATE tsHoldover 0).setTerm 0 (fun y => { y with silentSince := some 0 })), 0, by decide +kernel⟩,
    ⟨0, (ready.setTerm 0 (fun y => { y with awaiting := false })), by decide +kernel⟩,
    ⟨0, (let y : State := ((ready.setTerm 0 (fun y => { y with awaiting := true })).start (.returnEntry 0)); { y with now := (16 * uSf) }), by decide +kernel⟩,
    ⟨0, ready, _, rfl, by decide +kernel⟩,
    ⟨0, (let y : State := ((ready.set .LINE_TREE_STATE_STATE tsCandidate 0).start (.assignWait 0)); { y with now := 10 ^ 30 }), _, rfl, by decide +kernel⟩,
    ⟨0, ready, by decide +kernel⟩,
    ⟨0, (let y : State := (ready.start (.dirGrace 0)); { y with now := (16 * uSf) }), by decide +kernel⟩,
    ⟨0, ready, by decide +kernel⟩,
    ⟨0, 0, ((ready.start (.checkin 0)).set .LINE_TREE_DOZE_PERIOD 1), by decide +kernel⟩,
    ⟨0, 0, (let y : State := (((ready.set .LINE_TREE_STATE_STATE tsDozing 0).setTerm 0 (fun y => { y with dozeMissed := false })).start (.checkin 0)); { y with now := 0 + 4 * ready.get .LINE_TREE_DOZE_PERIOD 0 * uSf }), by decide +kernel⟩,
    ⟨0, (let y : State := ((ready.set .LINE_TREE_STATE_STATE tsHoldover 0).start (.lightBack 0)); { y with now := (20 * uMs) }), by decide +kernel⟩,
    ⟨0, ready, by decide +kernel⟩⟩

/-- The hypotheses of `Obligations.BayTripsAndReleases` are met. -/
theorem witness_BayTripsAndReleases :
    (∃ (n : Fin 4) (duty : Bool) (s : State), bit (s.get .LINE_BAY_LATCHED n) (b2n duty) = true) ∧
    (∃ (n : Fin 4) (duty : Bool) (s : State), bit (s.get .LINE_BAY_LATCHED n) (b2n duty) = false) ∧
    (∃ (n : Fin 4) (s : State), (s.term n).lossAt = none) ∧
    (∃ (n : Fin 4) (s : State) (a : _), (s.term n).lossAt = some a ∧ s.now < a + 80 * uNs) ∧
    (∃ (n : Fin 4) (s : State) (a : _), (s.term n).lossAt = some a ∧ a + 80 * uNs ≤ s.now) ∧
    (∃ (n : Fin 4) (s : State), s.expired (.mclkBack n) uMs = false) ∧
    (∃ (n : Fin 4) (s : State), s.expired (.mclkBack n) uMs = true) :=
    ⟨⟨0, true, (ready.set .LINE_BAY_LATCHED 2), by decide +kernel⟩,
    ⟨0, true, ready, by decide +kernel⟩,
    ⟨0, (ready.setTerm 0 (fun y => { y with lossAt := none })), by decide +kernel⟩,
    ⟨0, (ready.setTerm 0 (fun y => { y with lossAt := some 0 })), 0, by decide +kernel⟩,
    ⟨0, (let y : State := (ready.setTerm 0 (fun y => { y with lossAt := some 0 })); { y with now := 0 + 80 * uNs }), 0, by decide +kernel⟩,
    ⟨0, ready, by decide +kernel⟩,
    ⟨0, (let y : State := (ready.start (.mclkBack 0)); { y with now := uMs }), by decide +kernel⟩⟩

/-- The hypotheses of `Obligations.GrantAndBurstEventsComplete` are met. -/
theorem witness_GrantAndBurstEventsComplete :
    (∃ (at_ : FieldAt) (a : FieldAt) (slot : Fin 64) (e : Nat) (s : State), a = inSector at_ (9 + slot.val / 4) ∧ e = ofBytes (((fieldBytes a s).drop (slot.val % 4 * 16)).take 16) ∧ (fieldUsable a s = false ∨ bits e 44 16 = 0)) ∧
    (∃ (at_ : FieldAt) (a : FieldAt) (slot : Fin 64) (e : Nat) (s : State), a = inSector at_ (9 + slot.val / 4) ∧ e = ofBytes (((fieldBytes a s).drop (slot.val % 4 * 16)).take 16) ∧ fieldUsable a s = true ∧ bits e 44 16 ≠ 0 ∧ bits e 0 32 ≠ crc32c (toBytes 12 (bits e 32 96))) ∧
    (∃ (at_ : FieldAt) (a : FieldAt) (slot : Fin 64) (n : Nat) (e : Nat) (s : State), a = inSector at_ (9 + slot.val / 4) ∧ n = at_.port ∧ e = ofBytes (((fieldBytes a s).drop (slot.val % 4 * 16)).take 16) ∧ fieldUsable a s = true ∧ bits e 44 16 ≠ 0 ∧ bits e 0 32 = crc32c (toBytes 12 (bits e 32 96)) ∧ (s.get .LINE_TREE_STATE_IDENT_VALID n ≠ 1 ∨ bits e 119 9 ≠ s.get .LINE_TREE_ID_TID n ∨ (s.tree n = tsHoldover ∧ (s.term n).awaiting = false))) ∧
    (∃ (at_ : FieldAt) (a : FieldAt) (slot : Fin 64) (n : Nat) (e : Nat) (g : Grant) (s : State), a = inSector at_ (9 + slot.val / 4) ∧ n = at_.port ∧ e = ofBytes (((fieldBytes a s).drop (slot.val % 4 * 16)).take 16) ∧ g = grantOf n e s ∧ fieldUsable a s = true ∧ bits e 44 16 ≠ 0 ∧ bits e 0 32 = crc32c (toBytes 12 (bits e 32 96)) ∧ s.get .LINE_TREE_STATE_IDENT_VALID n = 1 ∧ bits e 119 9 = s.get .LINE_TREE_ID_TID n ∧ (s.tree n ≠ tsHoldover ∨ (s.term n).awaiting = true) ∧ profileOk g.prof = true ∧ 1671167 < g.lastSym) ∧
    (∃ (at_ : FieldAt) (a : FieldAt) (slot : Fin 64) (n : Nat) (e : Nat) (g : Grant) (s : State), a = inSector at_ (9 + slot.val / 4) ∧ n = at_.port ∧ e = ofBytes (((fieldBytes a s).drop (slot.val % 4 * 16)).take 16) ∧ g = grantOf n e s ∧ fieldUsable a s = true ∧ bits e 44 16 ≠ 0 ∧ bits e 0 32 = crc32c (toBytes 12 (bits e 32 96)) ∧ s.get .LINE_TREE_STATE_IDENT_VALID n = 1 ∧ bits e 119 9 = s.get .LINE_TREE_ID_TID n ∧ (s.tree n ≠ tsHoldover ∨ (s.term n).awaiting = true) ∧ (profileOk g.prof = false ∨ g.lastSym ≤ 1671167) ∧ bits e 103 16 ≠ s.get .LINE_TREE_ID_EPOCH n) ∧
    (∃ (at_ : FieldAt) (a : FieldAt) (slot : Fin 64) (n : Nat) (e : Nat) (g : Grant) (s : State) (u : State), a = inSector at_ (9 + slot.val / 4) ∧ n = at_.port ∧ e = ofBytes (((fieldBytes a s).drop (slot.val % 4 * 16)).take 16) ∧ g = grantOf n e s ∧ u = s.inc .LP_GRANT_OWN n ∧ fieldUsable a s = true ∧ bits e 44 16 ≠ 0 ∧ bits e 0 32 = crc32c (toBytes 12 (bits e 32 96)) ∧ s.get .LINE_TREE_STATE_IDENT_VALID n = 1 ∧ bits e 119 9 = s.get .LINE_TREE_ID_TID n ∧ (s.tree n ≠ tsHoldover ∨ (s.term n).awaiting = true) ∧ (profileOk g.prof = false ∨ g.lastSym ≤ 1671167) ∧ bits e 103 16 = s.get .LINE_TREE_ID_EPOCH n ∧ u.tree n = tsDozing ∧ g.checkin = false ∧ g.ranging = false) ∧
    (∃ (at_ : FieldAt) (a : FieldAt) (slot : Fin 64) (n : Nat) (e : Nat) (g : Grant) (s : State) (u : State), a = inSector at_ (9 + slot.val / 4) ∧ n = at_.port ∧ e = ofBytes (((fieldBytes a s).drop (slot.val % 4 * 16)).take 16) ∧ g = grantOf n e s ∧ u = s.inc .LP_GRANT_OWN n ∧ fieldUsable a s = true ∧ bits e 44 16 ≠ 0 ∧ bits e 0 32 = crc32c (toBytes 12 (bits e 32 96)) ∧ s.get .LINE_TREE_STATE_IDENT_VALID n = 1 ∧ bits e 119 9 = s.get .LINE_TREE_ID_TID n ∧ (s.tree n ≠ tsHoldover ∨ (s.term n).awaiting = true) ∧ (profileOk g.prof = false ∨ g.lastSym ≤ 1671167) ∧ bits e 103 16 = s.get .LINE_TREE_ID_EPOCH n ∧ (u.tree n ≠ tsDozing ∨ g.checkin = true ∨ g.ranging = true)) ∧
    (∃ (n : Nat) (g : Grant) (s : State), statePermits n g s = false) ∧
    (∃ (n : Nat) (g : Grant) (s : State), statePermits n g s = true ∧ profileOk g.prof = false) ∧
    (∃ (n : Nat) (g : Grant) (s : State) (rivals : List Grant), rivals = (s.term n).grants.filter (fun x => overlaps n g x s) ∧ statePermits n g s = true ∧ profileOk g.prof = true ∧ ((∃ b ∈ (s.term n).burst.toList ++ (s.term n).built, overlaps n g b.grant s = true) ∨ (∃ x ∈ rivals, prevails n g x s = false))) ∧
    (∃ (n : Nat) (g : Grant) (s : State) (u : State) (rivals : List Grant), rivals = (s.term n).grants.filter (fun x => overlaps n g x s) ∧ u = (rivals.foldl (fun s_ x => bayLeave n x (s_.inc .LP_GRANT_CONFLICT n)) s).setTerm n (fun t => { t with grants := t.grants.filter (fun x => !(rivals.contains x)) }) ∧ statePermits n g s = true ∧ profileOk g.prof = true ∧ (∀ b ∈ (s.term n).burst.toList ++ (s.term n).built, overlaps n g b.grant s = false) ∧ (∀ x ∈ rivals, prevails n g x s = true) ∧ 64 ≤ (u.term n).windows.length) ∧
    (∃ (n : Nat) (g : Grant) (s : State) (u : State) (rivals : List Grant), rivals = (s.term n).grants.filter (fun x => overlaps n g x s) ∧ u = (rivals.foldl (fun s_ x => bayLeave n x (s_.inc .LP_GRANT_CONFLICT n)) s).setTerm n (fun t => { t with grants := t.grants.filter (fun x => !(rivals.contains x)) }) ∧ statePermits n g s = true ∧ profileOk g.prof = true ∧ (∀ b ∈ (s.term n).burst.toList ++ (s.term n).built, overlaps n g b.grant s = false) ∧ (∀ x ∈ rivals, prevails n g x s = true) ∧ (u.term n).windows.length < 64) ∧
    (∃ (n : Fin 4) (s : State), nextGrant n s = none) ∧
    (∃ (n : Fin 4) (s : State) (g : Grant), nextGrant n s = some g ∧ (s.now : Int) + (2 * uUs : Nat) < winFrom n g s) ∧
    (∃ (n : Fin 4) (s : State) (g : Grant) (t : _), nextGrant n s = some g ∧ t = s.setTerm n (fun t_ => { t_ with grants := t_.grants.filter (· ≠ g) }) ∧ winFrom n g s ≤ (s.now : Int) + (2 * uUs : Nat) ∧ statePermits n g t = true) ∧
    (∃ (n : Fin 4) (s : State) (g : Grant) (t : _), nextGrant n s = some g ∧ t = s.setTerm n (fun t_ => { t_ with grants := t_.grants.filter (· ≠ g) }) ∧ winFrom n g s ≤ (s.now : Int) + (2 * uUs : Nat) ∧ statePermits n g t = false) ∧
    (∃ (n : Nat) (g : Grant) (s : State) (u : State) (rs : List (Nat × Nat)) (report : Bool), report = (g.reportReq || s.tree n == tsDozing) ∧ (if report then takeReports n g.aid s else (s, [])) = (u, rs) ∧ g.ranging = true) ∧
    (∃ (n : Nat) (g : Grant) (s : State) (u : State) (v : State) (b : Burst) (rs : List (Nat × Nat)) (xs : List BodyStream) (report : Bool), b = emptyBurst n g s ∧ report = (g.reportReq || s.tree n == tsDozing) ∧ (if report then takeReports n g.aid s else (s, [])) = (u, rs) ∧ g.ranging = false ∧ g.aid = 63 ∧ upCells n (upPage n g s) s ≠ [] ∧ tribBody n g b.streams (upCells n (upPage n g s) s) u = (v, xs)) ∧
    (∃ (n : Nat) (g : Grant) (s : State) (u : State) (v : State) (b : Burst) (rs : List (Nat × Nat)) (xs : List BodyStream) (placed : List Placed) (report : Bool) (w : State) (ys : List BodyStream), b = emptyBurst n g s ∧ report = (g.reportReq || s.tree n == tsDozing) ∧ (if report then takeReports n g.aid s else (s, [])) = (u, rs) ∧ g.ranging = false ∧ (g.aid ≠ 63 ∨ upCells n (upPage n g s) s = []) ∧ (if g.aid = u.get .LINE_FRM_CFG_OH_AID n then putOverhead n g.aid b.streams u else (u, b.streams)) = (w, ys) ∧ fillBody (w.copies.length + 1) n b ys [] (bucketsNow w) = (v, xs, placed)) ∧
    (∃ (n : Fin 4) (s : State), (s.term n).built = []) ∧
    (∃ (n : Fin 4) (s : State) (b : Burst) (rest : List Burst), (s.term n).built = b :: rest ∧ ((s.now : Int) < winFrom n b.grant s ∨ (s.term n).burst.isSome = true)) ∧
    (∃ (n : Fin 4) (s : State) (b : Burst) (rest : List Burst) (t : _), (s.term n).built = b :: rest ∧ t = s.setTerm n (fun t_ => { t_ with built := rest }) ∧ winFrom n b.grant s ≤ (s.now : Int) ∧ (s.term n).burst = none ∧ t.get .LINE_STATUS_CARRIER_LOCK n ≠ 1) ∧
    (∃ (n : Fin 4) (s : State) (b : Burst) (rest : List Burst) (t : _), (s.term n).built = b :: rest ∧ t = s.setTerm n (fun t_ => { t_ with built := rest }) ∧ winFrom n b.grant s ≤ (s.now : Int) ∧ (s.term n).burst = none ∧ t.get .LINE_STATUS_CARRIER_LOCK n = 1 ∧ (statePermits n b.grant t = false ∨ bayWindow b.grant ∉ (t.term n).windows)) ∧
    (∃ (n : Fin 4) (s : State) (b : Burst) (rest : List Burst) (t : _), (s.term n).built = b :: rest ∧ t = s.setTerm n (fun t_ => { t_ with built := rest }) ∧ winFrom n b.grant s ≤ (s.now : Int) ∧ (s.term n).burst = none ∧ t.get .LINE_STATUS_CARRIER_LOCK n = 1 ∧ statePermits n b.grant t = true ∧ bayWindow b.grant ∈ (t.term n).windows) ∧
    (∃ (n : Fin 4) (s : State) (b : Burst) (dark : _), (s.term n).burst = some b ∧ dark = b.cutTo.getD (winTo n b.grant s).toNat ∧ s.now < dark) ∧
    (∃ (n : Fin 4) (s : State) (b : Burst) (dark : _) (t : _) (x : Nat), (s.term n).burst = some b ∧ dark = b.cutTo.getD (winTo n b.grant s).toNat ∧ t = txDark n (burstOut n b dark (bayLeave n b.grant ((b.placed.foldl (fun s_ p => countStart p.copy s_) s).setTerm n (fun t_ => { t_ with burst := none })))) ∧ dark ≤ s.now ∧ b.presence = some x ∧ t.tree n = tsCandidate) ∧
    (∃ (n : Fin 4) (s : State) (b : Burst) (dark : _) (t : _) (x : Nat), (s.term n).burst = some b ∧ dark = b.cutTo.getD (winTo n b.grant s).toNat ∧ t = txDark n (burstOut n b dark (bayLeave n b.grant ((b.placed.foldl (fun s_ p => countStart p.copy s_) s).setTerm n (fun t_ => { t_ with burst := none })))) ∧ dark ≤ s.now ∧ b.presence = some x ∧ t.tree n ≠ tsCandidate) ∧
    (∃ (n : Fin 4) (s : State) (b : Burst) (dark : _) (t : _), (s.term n).burst = some b ∧ dark = b.cutTo.getD (winTo n b.grant s).toNat ∧ t = txDark n (burstOut n b dark (bayLeave n b.grant ((b.placed.foldl (fun s_ p => countStart p.copy s_) s).setTerm n (fun t_ => { t_ with burst := none })))) ∧ dark ≤ s.now ∧ b.presence = none ∧ t.tree n ≠ tsDozing) ∧
    (∃ (n : Fin 4) (s : State) (b : Burst) (dark : _) (t : _), (s.term n).burst = some b ∧ dark = b.cutTo.getD (winTo n b.grant s).toNat ∧ t = txDark n (burstOut n b dark (bayLeave n b.grant ((b.placed.foldl (fun s_ p => countStart p.copy s_) s).setTerm n (fun t_ => { t_ with burst := none })))) ∧ dark ≤ s.now ∧ b.presence = none ∧ t.tree n = tsDozing ∧ b.grant.checkin = true ∧ b.doze = false ∧ b.cutTo = none) ∧
    (∃ (n : Fin 4) (s : State) (b : Burst) (dark : _) (t : _), (s.term n).burst = some b ∧ dark = b.cutTo.getD (winTo n b.grant s).toNat ∧ t = txDark n (burstOut n b dark (bayLeave n b.grant ((b.placed.foldl (fun s_ p => countStart p.copy s_) s).setTerm n (fun t_ => { t_ with burst := none })))) ∧ dark ≤ s.now ∧ b.presence = none ∧ t.tree n = tsDozing ∧ (b.grant.checkin = false ∨ b.doze = true ∨ b.cutTo ≠ none)) ∧
    (∃ (n : Fin 4) (s : State), (s.term n).presence = none) ∧
    (∃ (n : Fin 4) (s : State) (p : Presence) (g : _), (s.term n).presence = some p ∧ g = presenceGrant n p s ∧ ((s.now : Int) < winFrom n g s ∨ (s.term n).burst.isSome = true)) ∧
    (∃ (n : Fin 4) (s : State) (p : Presence) (g : _) (t : _), (s.term n).presence = some p ∧ g = presenceGrant n p s ∧ t = s.setTerm n (fun t_ => { t_ with presence := none }) ∧ winFrom n g s ≤ (s.now : Int) ∧ (s.term n).burst = none ∧ (t.tree n ≠ tsCandidate ∨ darkHolds n t = true ∨ t.get .FLT_STATUS_SAFE = 1 ∨ lineRecovers n t = true ∨ t.get .LINE_STATUS_CARRIER_LOCK n ≠ 1)) ∧
    (∃ (n : Fin 4) (s : State) (p : Presence) (g : _) (t : _), (s.term n).presence = some p ∧ g = presenceGrant n p s ∧ t = s.setTerm n (fun t_ => { t_ with presence := none }) ∧ winFrom n g s ≤ (s.now : Int) ∧ (s.term n).burst = none ∧ t.tree n = tsCandidate ∧ darkHolds n t = false ∧ t.get .FLT_STATUS_SAFE ≠ 1 ∧ lineRecovers n t = false ∧ t.get .LINE_STATUS_CARRIER_LOCK n = 1) ∧
    (∃ (n : Fin 4) (s : State), (nextGrant n s = none ∨ s.tree n ≠ tsDozing)) ∧
    (∃ (n : Fin 4) (s : State) (g : _), nextGrant n s = some g ∧ s.tree n = tsDozing ∧ winFrom n g s ≤ (s.now : Int) + (50 * uUs : Nat)) ∧
    (∃ (n : Fin 4) (s : State) (g : _), nextGrant n s = some g ∧ s.tree n = tsDozing ∧ (s.now : Int) + (50 * uUs : Nat) < winFrom n g s) :=
    ⟨⟨fld0, _, 0, _, ready, rfl, rfl, by decide +kernel⟩,
    ⟨fld0, _, 0, _, (fieldS 9 (toBytes 16 (2 ^ 44 + 1))), rfl, rfl, by decide +kernel⟩,
    ⟨fld0, _, 0, _, _, ((fieldS 9 (toBytes 16 (gEnt (2 ^ 12)))).set .LINE_TREE_ID_TID 5), rfl, rfl, rfl, by decide +kernel⟩,
    ⟨fld0, _, 0, _, _, _, ((fieldS 9 (toBytes 16 (gEnt (2 ^ 49 - 2 ^ 28 + 2 ^ 12)))).setTerm 0 (fun y => { y with profileBase := some [8192] })), rfl, rfl, rfl, rfl, by decide +kernel⟩,
    ⟨fld0, _, 0, _, _, _, ((fieldS 9 (toBytes 16 (gEnt (2 ^ 12)))).set .LINE_TREE_ID_EPOCH 3), rfl, rfl, rfl, rfl, by decide +kernel⟩,
    ⟨fld0, _, 0, _, _, _, ((fieldS 9 (toBytes 16 (gEnt (2 ^ 12)))).set .LINE_TREE_STATE_STATE tsDozing), _, rfl, rfl, rfl, rfl, rfl, by decide +kernel⟩,
    ⟨fld0, _, 0, _, _, _, (fieldS 9 (toBytes 16 (gEnt (2 ^ 12)))), _, rfl, rfl, rfl, rfl, rfl, by decide +kernel⟩,
    ⟨0, grant0, ready, by decide +kernel⟩,
    ⟨0, grant0, (ready.set .LINE_TREE_STATE_STATE tsMember), by decide +kernel⟩,
    ⟨0, { grant0 with prof := 8192 }, ((ready.set .LINE_TREE_STATE_STATE tsMember).setTerm 0 (fun y => { y with burst := some b0 })), _, rfl, by decide +kernel⟩,
    ⟨0, { grant0 with prof := 8192 }, ((ready.set .LINE_TREE_STATE_STATE tsMember).setTerm 0 (fun y => { y with windows := List.replicate 64 ⟨0, 0, 0⟩ })), _, _, rfl, rfl, by decide +kernel, by decide +kernel, by first | decide +kernel | (intros; first | rfl | (simp_all; done) | decide), by first | decide +kernel | (intros; first | rfl | (simp_all; done) | decide), by decide +kernel⟩,
    ⟨0, { grant0 with prof := 8192 }, (ready.set .LINE_TREE_STATE_STATE tsMember), _, _, rfl, rfl, by decide +kernel, by decide +kernel, by first | decide +kernel | (intros; first | rfl | (simp_all; done) | decide), by first | decide +kernel | (intros; first | rfl | (simp_all; done) | decide), by decide +kernel⟩,
    ⟨0, ready, by decide +kernel⟩,
    ⟨0, (ready.setTerm 0 (fun y => { y with grants := [{ grant0 with start := 1000000 }] })), { grant0 with start := 1000000 }, by decide +kernel⟩,
    ⟨0, ((ready.set .LINE_TREE_STATE_STATE tsMember).setTerm 0 (fun y => { y with grants := [grant0] })), grant0, _, by decide +kernel, rfl, by decide +kernel⟩,
    ⟨0, (ready.setTerm 0 (fun y => { y with grants := [grant0] })), grant0, _, by decide +kernel, rfl, by decide +kernel⟩,
    ⟨0, { grant0 with ranging := true }, ready, _, _, _, rfl, Prod.mk.eta.symm, by decide +kernel⟩,
    ⟨0, { grant0 with aid := 63 }, ((ready.set .LINE_SC_FORMAT 0).setFrame 0 (fun y => { y with tsi := [(307200, 128)], slots := [(0, 1)] })), _, _, _, _, _, _, rfl, rfl, Prod.mk.eta.symm, by decide +kernel, by decide +kernel, by decide +kernel, Prod.mk.eta.symm⟩,
    ⟨0, grant0, ready, _, _, _, _, _, _, _, _, _, rfl, rfl, Prod.mk.eta.symm, by decide +kernel, by decide +kernel, Prod.mk.eta.symm, eta3 _⟩,
    ⟨0, (ready.setTerm 0 (fun y => { y with built := [] })), by decide +kernel⟩,
    ⟨0, ((ready.setTerm 0 (fun y => { y with built := b0 :: ([]) })).setTerm 0 (fun y => { y with built := [b0], burst := some b0 })), b0, [], by decide +kernel⟩,
    ⟨0, ((((ready.setTerm 0 (fun y => { y with built := b0 :: ([]) })).setTerm 0 (fun y => { y with burst := none })).set .LINE_STATUS_CARRIER_LOCK 0 0).setTerm 0 (fun y => { y with built := [b0] })), b0, [], _, by decide +kernel, rfl, by decide +kernel⟩,
    ⟨0, ((((ready.setTerm 0 (fun y => { y with built := b0 :: ([]) })).setTerm 0 (fun y => { y with burst := none })).set .LINE_STATUS_CARRIER_LOCK 1 0).setTerm 0 (fun y => { y with built := [b0] })), b0, [], _, by decide +kernel, rfl, by decide +kernel⟩,
    ⟨0, (((((ready.setTerm 0 (fun y => { y with built := b0 :: ([]) })).setTerm 0 (fun y => { y with burst := none })).set .LINE_STATUS_CARRIER_LOCK 1 0).set .LINE_TREE_STATE_STATE tsMember).setTerm 0 (fun y => { y with built := [b0], windows := [⟨0, 0, 100⟩] })), b0, [], _, by decide +kernel, rfl, by decide +kernel⟩,
    ⟨0, (let y : State := (ready.setTerm 0 (fun y => { y with burst := some b0 })); { y with now := 0 }), b0, _, by decide +kernel, rfl, by decide +kernel⟩,
    ⟨0, (let y : State := ((ready.set .LINE_TREE_STATE_STATE tsCandidate).setTerm 0 (fun y => { y with burst := some { b0 with presence := some 0 } })); { y with now := 1000000000 }), { b0 with presence := some 0 }, _, _, 0, by decide +kernel, rfl, rfl, by decide +kernel⟩,
    ⟨0, (let y : State := (ready.setTerm 0 (fun y => { y with burst := some { b0 with presence := some 0 } })); { y with now := 1000000000 }), { b0 with presence := some 0 }, _, _, 0, by decide +kernel, rfl, rfl, by decide +kernel⟩,
    ⟨0, (let y : State := (ready.setTerm 0 (fun y => { y with burst := some b0 })); { y with now := 1000000000 }), b0, _, _, by decide +kernel, rfl, rfl, by decide +kernel⟩,
    ⟨0, (let y : State := ((ready.set .LINE_TREE_STATE_STATE tsDozing).setTerm 0 (fun y => { y with burst := some { b0 with grant := { grant0 with checkin := true } } })); { y with now := 1000000000 }), { b0 with grant := { grant0 with checkin := true } }, _, _, by decide +kernel, rfl, rfl, by decide +kernel⟩,
    ⟨0, (let y : State := ((ready.set .LINE_TREE_STATE_STATE tsDozing).setTerm 0 (fun y => { y with burst := some b0 })); { y with now := 1000000000 }), b0, _, _, by decide +kernel, rfl, rfl, by decide +kernel⟩,
    ⟨0, (ready.setTerm 0 (fun y => { y with presence := none })), by decide +kernel⟩,
    ⟨0, (ready.setTerm 0 (fun y => { y with presence := some pres0, burst := some b0 })), pres0, _, by decide +kernel, rfl, by decide +kernel⟩,
    ⟨0, (ready.setTerm 0 (fun y => { y with presence := some pres0 })), pres0, _, _, by decide +kernel, rfl, rfl, by decide +kernel⟩,
    ⟨0, (((ready.set .LINE_TREE_STATE_STATE tsCandidate).set .LINE_STATUS_CARRIER_LOCK 1).setTerm 0 (fun y => { y with presence := some pres0 })), pres0, _, _, by decide +kernel, rfl, rfl, by decide +kernel⟩,
    ⟨0, ready, by decide +kernel⟩,
    ⟨0, (let y : State := ((ready.setTerm 0 (fun y => { y with grants := [grant0] })).set .LINE_TREE_STATE_STATE tsDozing 0); { y with now := uS }), grant0, by decide +kernel⟩,
    ⟨0, ((ready.setTerm 0 (fun y => { y with grants := [{ grant0 with offset := uSf * 100 }] })).set .LINE_TREE_STATE_STATE tsDozing 0), { grant0 with offset := uSf * 100 }, by decide +kernel⟩⟩

/-- The hypotheses of `Obligations.TimeCommandsComplete` are met. -/
theorem witness_TimeCommandsComplete :
    (∃ (q : Req) (es : List WEntry) (s : State), takenAtomic ciTimeConfig q s = true ∧ wErr timeConfigAllow es = none ∧ sourcesLegal (wApplyAll s es) = true) ∧
    (∃ (q : Req) (es : List WEntry) (s : State), takenAtomic ciTimeConfig q s = true ∧ wErr timeConfigAllow es = none ∧ sourcesLegal (wApplyAll s es) = false) ∧
    (∃ (q : Req) (d : Nat) (s : State), d < 2 ∧ takenUp ciTimeSelect q s = true ∧ q.force = false ∧ s.get .TIME_DOMAIN_STATE_VALID d ≠ 1) ∧
    (∃ (q : Req) (d : Nat) (s : State), d < 2 ∧ takenUp ciTimeSelect q s = true ∧ (q.force = true ∨ s.get .TIME_DOMAIN_STATE_VALID d = 1)) ∧
    (∃ (d : Nat) (s : State), selected s = d) ∧
    (∃ (d : Nat) (s : State), selected s ≠ d) ∧
    (∃ (q : Req) (d : Nat) (seconds : Nat) (s : State), d < 2 ∧ seconds < 2 ^ 48 ∧ takenUp ciTimeSet q s = true ∧ 6 ≤ s.get .TIME_DOMAIN_CFG_SOURCE d) ∧
    (∃ (q : Req) (d : Nat) (seconds : Nat) (s : State), d < 2 ∧ seconds < 2 ^ 48 ∧ takenUp ciTimeSet q s = true ∧ s.get .TIME_DOMAIN_CFG_SOURCE d < 6) ∧
    (∃ (q : Req) (d : Nat) (s : State), d < 2 ∧ takenUp ciTimeAdjust q s = true ∧ s.get .TIME_DOMAIN_CFG_SOURCE d = 5) ∧
    (∃ (q : Req) (d : Nat) (s : State), d < 2 ∧ takenUp ciTimeAdjust q s = true ∧ s.get .TIME_DOMAIN_CFG_SOURCE d ≠ 5) ∧
    (∃ (q : Req) (es : List WEntry) (k : Nat) (s : State), takenUp ciTimePulse q s = true ∧ wErr timePulseAllow es = none ∧ (wInstances es).headD 0 = k ∧ 2 ≤ (wInstances es).length) ∧
    (∃ (q : Req) (es : List WEntry) (k : Nat) (s : State), takenUp ciTimePulse q s = true ∧ wErr timePulseAllow es = none ∧ (wInstances es).headD 0 = k ∧ (wInstances es).length ≤ 1 ∧ pulseLegal k (wApplyAll s ((s.pulseOut k).waiting ++ es)) = false) ∧
    (∃ (q : Req) (es : List WEntry) (k : Nat) (s : State), takenUp ciTimePulse q s = true ∧ wErr timePulseAllow es = none ∧ (wInstances es).headD 0 = k ∧ (wInstances es).length ≤ 1 ∧ pulseLegal k (wApplyAll s ((s.pulseOut k).waiting ++ es)) = true ∧ (s.pulseOut k).high = true) ∧
    (∃ (q : Req) (es : List WEntry) (k : Nat) (s : State), takenUp ciTimePulse q s = true ∧ wErr timePulseAllow es = none ∧ (wInstances es).headD 0 = k ∧ (wInstances es).length ≤ 1 ∧ pulseLegal k (wApplyAll s ((s.pulseOut k).waiting ++ es)) = true ∧ (s.pulseOut k).high = false) ∧
    (∃ (q : Req) (x : Nat) (s : State), x < 36 ∧ takenUp ciTimeTsRead q s = true) :=
    ⟨⟨host, [], ready, by decide +kernel⟩,
    ⟨host, [wd .TIME_DOMAIN_CFG_SOURCE 5 0], ready, by decide +kernel⟩,
    ⟨host, 0, (ready.set .TIME_DOMAIN_STATE_VALID 0 0), by decide +kernel⟩,
    ⟨{ host with force := true }, 0, ready, by decide +kernel⟩,
    ⟨0, ready, by decide +kernel⟩,
    ⟨1, ready, by decide +kernel⟩,
    ⟨host, 0, 0, (ready.set .TIME_DOMAIN_CFG_SOURCE 7 0), by decide +kernel⟩,
    ⟨host, 0, 0, ready, by decide +kernel⟩,
    ⟨host, 0, (ready.set .TIME_DOMAIN_CFG_SOURCE 5 0), by decide +kernel⟩,
    ⟨host, 0, (ready.set .TIME_DOMAIN_CFG_SOURCE 0 0), by decide +kernel⟩,
    ⟨host, [wd .TIME_PULSE_CTL_ENABLE 0, wd .TIME_PULSE_CTL_ENABLE 0 1], 0, ready, by decide +kernel⟩,
    ⟨host, [wd .TIME_PULSE_CTL_ENABLE 1], 0, ready, by decide +kernel⟩,
    ⟨host, [wd .TIME_PULSE_CTL_ENABLE 0 3], 3, (ready.setPulse 3 (fun y => { y with high := true })), by decide +kernel⟩,
    ⟨host, [wd .TIME_PULSE_CTL_ENABLE 0 3], 3, (ready.setPulse 3 (fun y => { y with high := false })), by decide +kernel⟩,
    ⟨host, 0, ready, by decide +kernel⟩⟩

/-- The hypotheses of `Obligations.TimeEventsComplete` are met. -/
theorem witness_TimeEventsComplete :
    (∃ (d : Fin 2) (ten : Bool) (adj : Bool) (s : State), adj = s.pending.any (fun i => match i with | .timeAdjust _ k _ _ _ => k == d.val | _ => false) ∧ (s.get .TIME_DOMAIN_STATE_STATE d = 1 ∨ s.get .TIME_DOMAIN_STATE_STATE d = 2) ∧ (adj = false ∨ s.get .TIME_DOMAIN_CFG_SOURCE d ≠ 5) ∧ (s.expired (.domainLoss d) (lossTime d s) = true ∨ (ten = true ∧ 6 ≤ s.get .TIME_DOMAIN_CFG_SOURCE d))) ∧
    (∃ (d : Fin 2) (ten : Bool) (adj : Bool) (s : State), adj = s.pending.any (fun i => match i with | .timeAdjust _ k _ _ _ => k == d.val | _ => false) ∧ ((s.get .TIME_DOMAIN_STATE_STATE d ≠ 1 ∧ s.get .TIME_DOMAIN_STATE_STATE d ≠ 2) ∨ (adj = true ∧ s.get .TIME_DOMAIN_CFG_SOURCE d = 5) ∨ (s.expired (.domainLoss d) (lossTime d s) = false ∧ (ten = false ∨ s.get .TIME_DOMAIN_CFG_SOURCE d < 6)))) ∧
    (∃ (d : Fin 2) (s : State) (age : Nat), age = (s.now - (s.domain d).holdSince) / uS ∧ s.get .TIME_DOMAIN_STATE_STATE d = 3 ∧ s.get .TIME_DOMAIN_CFG_HOLDOVER_LIMIT d ≤ age) ∧
    (∃ (d : Fin 2) (s : State) (age : Nat), age = (s.now - (s.domain d).holdSince) / uS ∧ (s.get .TIME_DOMAIN_STATE_STATE d ≠ 3 ∨ age < s.get .TIME_DOMAIN_CFG_HOLDOVER_LIMIT d)) ∧
    (∃ (s : State), ((s.domain 0).lockedSince = none ∨ s.get .TIME_SEL_REVERTIVE ≠ 1 ∨ s.time.autoSelected = false)) ∧
    (∃ (s : State) (a : _), (s.domain 0).lockedSince = some a ∧ s.get .TIME_SEL_REVERTIVE = 1 ∧ s.time.autoSelected = true ∧ a + 10 * uS ≤ s.now) ∧
    (∃ (s : State) (a : _), (s.domain 0).lockedSince = some a ∧ s.get .TIME_SEL_REVERTIVE = 1 ∧ s.time.autoSelected = true ∧ s.now < a + 10 * uS) ∧
    (∃ (s : State), residualNow s ≠ 0) ∧
    (∃ (s : State), residualNow s = 0) ∧
    (∃ (x : Fin 2) (part : Fin 20) (ok : Bool) (s : State) (t : State) (u : State) (st : Nat), st = shortStamp (serviceAt (s.now + part.val * uSym) s) ∧ t = s.setAll [(.TIME_TIMEIN_CAP_SEC_LO, st / 2 ^ 48), (.TIME_TIMEIN_CAP_NS, bits st 16 32), (.TIME_TIMEIN_CAP_FRAC, st % 65536)] x ∧ u = ((t.when (t.isSet (timeinOk x) && !ok) (fun t_ => t_.raise 0x0607 [x, 2])).start (.timein x)).set (timeinOk x) (b2n ok) ∧ domainOf (6 + x.val) u = none) ∧
    (∃ (x : Fin 2) (part : Fin 20) (ok : Bool) (s : State) (t : State) (u : State) (st : Nat) (d : Nat), st = shortStamp (serviceAt (s.now + part.val * uSym) s) ∧ t = s.setAll [(.TIME_TIMEIN_CAP_SEC_LO, st / 2 ^ 48), (.TIME_TIMEIN_CAP_NS, bits st 16 32), (.TIME_TIMEIN_CAP_FRAC, st % 65536)] x ∧ u = ((t.when (t.isSet (timeinOk x) && !ok) (fun t_ => t_.raise 0x0607 [x, 2])).start (.timein x)).set (timeinOk x) (b2n ok) ∧ domainOf (6 + x.val) u = some d ∧ (u.domain d).nextSec = none) ∧
    (∃ (x : Fin 2) (part : Fin 20) (ok : Bool) (s : State) (t : State) (u : State) (st : Nat) (d : Nat) (sec : Nat), st = shortStamp (serviceAt (s.now + part.val * uSym) s) ∧ t = s.setAll [(.TIME_TIMEIN_CAP_SEC_LO, st / 2 ^ 48), (.TIME_TIMEIN_CAP_NS, bits st 16 32), (.TIME_TIMEIN_CAP_FRAC, st % 65536)] x ∧ u = ((t.when (t.isSet (timeinOk x) && !ok) (fun t_ => t_.raise 0x0607 [x, 2])).start (.timein x)).set (timeinOk x) (b2n ok) ∧ domainOf (6 + x.val) u = some d ∧ (u.domain d).nextSec = some sec) ∧
    (∃ (d : Nat) (e : Int) (s : State) (t : State), t = (s.setI .TIME_DOMAIN_STATE_ERROR (clamp (-(2 ^ 31)) (2 ^ 31 - 1) (roundDiv e uSym)) d).start (.domainLoss d) ∧ t.get .TIME_DOMAIN_STATE_STATE d = 1 ∧ (t.domain d).first = true) ∧
    (∃ (d : Nat) (run : Nat) (e : Int) (s : State) (t : State) (u : State), t = (s.setI .TIME_DOMAIN_STATE_ERROR (clamp (-(2 ^ 31)) (2 ^ 31 - 1) (roundDiv e uSym)) d).start (.domainLoss d) ∧ t.get .TIME_DOMAIN_STATE_STATE d = 1 ∧ (t.domain d).first = false ∧ run = (if e.natAbs < 20 * uNs then (t.domain d).goodRun + 1 else 0) ∧ u = servo d e (t.setDomain d (fun x => { x with goodRun := run })) ∧ lockRun d u ≤ run) ∧
    (∃ (d : Nat) (run : Nat) (e : Int) (s : State) (t : State) (u : State), t = (s.setI .TIME_DOMAIN_STATE_ERROR (clamp (-(2 ^ 31)) (2 ^ 31 - 1) (roundDiv e uSym)) d).start (.domainLoss d) ∧ t.get .TIME_DOMAIN_STATE_STATE d = 1 ∧ (t.domain d).first = false ∧ run = (if e.natAbs < 20 * uNs then (t.domain d).goodRun + 1 else 0) ∧ u = servo d e (t.setDomain d (fun x => { x with goodRun := run })) ∧ run < lockRun d u) ∧
    (∃ (d : Nat) (run : Nat) (e : Int) (s : State) (t : State), t = (s.setI .TIME_DOMAIN_STATE_ERROR (clamp (-(2 ^ 31)) (2 ^ 31 - 1) (roundDiv e uSym)) d).start (.domainLoss d) ∧ t.get .TIME_DOMAIN_STATE_STATE d = 2 ∧ run = (if 1000 * uNs < e.natAbs then (t.domain d).badRun + 1 else 0) ∧ 4 ≤ run) ∧
    (∃ (d : Nat) (run : Nat) (e : Int) (s : State) (t : State), t = (s.setI .TIME_DOMAIN_STATE_ERROR (clamp (-(2 ^ 31)) (2 ^ 31 - 1) (roundDiv e uSym)) d).start (.domainLoss d) ∧ t.get .TIME_DOMAIN_STATE_STATE d = 2 ∧ run = (if 1000 * uNs < e.natAbs then (t.domain d).badRun + 1 else 0) ∧ run < 4) ∧
    (∃ (d : Nat) (e : Int) (s : State) (t : State), t = (s.setI .TIME_DOMAIN_STATE_ERROR (clamp (-(2 ^ 31)) (2 ^ 31 - 1) (roundDiv e uSym)) d).start (.domainLoss d) ∧ t.get .TIME_DOMAIN_STATE_STATE d = 3 ∧ 1000 * uNs < e.natAbs) ∧
    (∃ (d : Nat) (e : Int) (s : State) (t : State), t = (s.setI .TIME_DOMAIN_STATE_ERROR (clamp (-(2 ^ 31)) (2 ^ 31 - 1) (roundDiv e uSym)) d).start (.domainLoss d) ∧ t.get .TIME_DOMAIN_STATE_STATE d = 3 ∧ e.natAbs ≤ 1000 * uNs) ∧
    (∃ (d : Nat) (e : Int) (s : State) (t : State), t = (s.setI .TIME_DOMAIN_STATE_ERROR (clamp (-(2 ^ 31)) (2 ^ 31 - 1) (roundDiv e uSym)) d).start (.domainLoss d) ∧ t.get .TIME_DOMAIN_STATE_STATE d = 0) ∧
    (∃ (x : Fin 2) (ten : Bool) (pulses : Bool) (s : State), pulses = s.expired (.timein x) (3 * uS / 2) ∧ (s.get (timeinOk x) ≠ 1 ∨ (pulses = false ∧ ten = false))) ∧
    (∃ (x : Fin 2) (ten : Bool) (pulses : Bool) (s : State), pulses = s.expired (.timein x) (3 * uS / 2) ∧ s.get (timeinOk x) = 1 ∧ (pulses = true ∨ ten = true)) ∧
    (∃ (k : Fin 4) (s : State), (s.pulseOut k).next = none) ∧
    (∃ (k : Fin 4) (s : State) (p : _), (s.pulseOut k).next = some p ∧ (s.get .TIME_PULSE_CTL_ENABLE k ≠ 1 ∨ (s.pulseOut k).high = true ∨ s.get .FLT_STATUS_SAFE = 1 ∨ serviceTime s < p ∨ (serviceValid s = false ∧ s.get .TIME_PULSE_CTL_FREE_RUN k ≠ 1))) ∧
    (∃ (k : Fin 4) (s : State) (p : _), (s.pulseOut k).next = some p ∧ s.get .TIME_PULSE_CTL_ENABLE k = 1 ∧ (s.pulseOut k).high = false ∧ s.get .FLT_STATUS_SAFE ≠ 1 ∧ p ≤ serviceTime s ∧ (serviceValid s = true ∨ s.get .TIME_PULSE_CTL_FREE_RUN k = 1) ∧ s.get .TIME_PULSE_CTL_PERIODIC k = 1) ∧
    (∃ (k : Fin 4) (s : State) (p : _), (s.pulseOut k).next = some p ∧ s.get .TIME_PULSE_CTL_ENABLE k = 1 ∧ (s.pulseOut k).high = false ∧ s.get .FLT_STATUS_SAFE ≠ 1 ∧ p ≤ serviceTime s ∧ (serviceValid s = true ∨ s.get .TIME_PULSE_CTL_FREE_RUN k = 1) ∧ s.get .TIME_PULSE_CTL_PERIODIC k ≠ 1) ∧
    (∃ (k : Fin 4) (s : State), ((s.pulseOut k).high = false ∨ serviceTime s < (s.pulseOut k).fallAt)) ∧
    (∃ (k : Fin 4) (s : State), (s.pulseOut k).high = true ∧ (s.pulseOut k).fallAt ≤ serviceTime s ∧ (s.pulseOut k).waiting = []) ∧
    (∃ (k : Fin 4) (s : State), (s.pulseOut k).high = true ∧ (s.pulseOut k).fallAt ≤ serviceTime s ∧ (s.pulseOut k).waiting ≠ []) :=
    ⟨⟨0, true, _, (let y : State := ((ready.set .TIME_DOMAIN_STATE_STATE 1 0).start (.domainLoss 0)); { y with now := (lossTime 0 ready) }), rfl, by decide +kernel⟩,
    ⟨0, false, _, ready, rfl, by decide +kernel⟩,
    ⟨0, (let y : State := (ready.set .TIME_DOMAIN_STATE_STATE 3 0); { y with now := 10 ^ 30 }), _, rfl, by decide +kernel⟩,
    ⟨0, (ready.set .TIME_DOMAIN_STATE_STATE 0 0), _, rfl, by decide +kernel⟩,
    ⟨(ready.setDomain 0 (fun y => { y with lockedSince := none })), by decide +kernel⟩,
    ⟨(let y : State := (let y : State := ((ready.setDomain 0 (fun y => { y with lockedSince := some 0 })).set .TIME_SEL_REVERTIVE 1); { y with time := { y.time with autoSelected := true } }); { y with now := 0 + 10 * uS }), 0, by decide +kernel⟩,
    ⟨(let y : State := ((ready.setDomain 0 (fun y => { y with lockedSince := some 0 })).set .TIME_SEL_REVERTIVE 1); { y with time := { y.time with autoSelected := true } }), 0, by decide +kernel⟩,
    ⟨(ready.setTime (fun t => { t with residual := -3 })), by decide +kernel⟩,
    ⟨ready, by decide +kernel⟩,
    ⟨0, 0, true, ready, _, _, _, rfl, rfl, rfl, by decide +kernel⟩,
    ⟨0, 0, true, (ready.set .TIME_DOMAIN_CFG_SOURCE 6), _, _, _, 0, rfl, rfl, rfl, by decide +kernel⟩,
    ⟨0, 0, true, ((ready.set .TIME_DOMAIN_CFG_SOURCE 6).setDomain 0 (fun y => { y with nextSec := some 5 })), _, _, _, 0, 5, rfl, rfl, rfl, by decide +kernel⟩,
    ⟨0, 0, ((ready.set .TIME_DOMAIN_STATE_STATE 1 0).setDomain 0 (fun y => { y with first := true })), _, rfl, by decide +kernel⟩,
    ⟨0, _, 0, ((ready.set .TIME_DOMAIN_STATE_STATE 1).setDomain 0 (fun y => { y with first := false, goodRun := 63 })), _, _, rfl, by decide +kernel, by decide +kernel, rfl, rfl, by decide +kernel⟩,
    ⟨0, _, 0, ((ready.set .TIME_DOMAIN_STATE_STATE 1 0).setDomain 0 (fun y => { y with first := false })), _, _, rfl, by decide +kernel, by decide +kernel, rfl, rfl, by decide +kernel⟩,
    ⟨0, _, 65536001, ((ready.set .TIME_DOMAIN_STATE_STATE 2 0).setDomain 0 (fun y => { y with badRun := 3 })), _, rfl, by decide +kernel, rfl, by decide +kernel⟩,
    ⟨0, _, 0, (ready.set .TIME_DOMAIN_STATE_STATE 2 0), _, rfl, by decide +kernel, rfl, by decide +kernel⟩,
    ⟨0, 65536001, (ready.set .TIME_DOMAIN_STATE_STATE 3 0), _, rfl, by decide +kernel⟩,
    ⟨0, 0, (ready.set .TIME_DOMAIN_STATE_STATE 3 0), _, rfl, by decide +kernel⟩,
    ⟨0, 0, (ready.set .TIME_DOMAIN_STATE_STATE 0 0), _, rfl, by decide +kernel⟩,
    ⟨0, false, _, ready, rfl, by decide +kernel⟩,
    ⟨0, true, _, (ready.set .TIME_STATUS_TIMEIN0_OK 1), rfl, by decide +kernel⟩,
    ⟨0, (ready.setPulse 0 (fun y => { y with next := none })), by decide +kernel⟩,
    ⟨0, ((ready.setPulse 0 (fun y => { y with next := some 0 })).set .TIME_PULSE_CTL_ENABLE 0 0), 0, by decide +kernel⟩,
    ⟨0, ((((((ready.setPulse 0 (fun y => { y with next := some 0 })).set .TIME_PULSE_CTL_ENABLE 1 0).setPulse 0 (fun y => { y with high := false })).set .FLT_STATUS_SAFE 0).set .TIME_STATUS_VALID 1).set .TIME_PULSE_CTL_PERIODIC 1 0), 0, by decide +kernel⟩,
    ⟨0, ((((((ready.setPulse 0 (fun y => { y with next := some 0 })).set .TIME_PULSE_CTL_ENABLE 1 0).setPulse 0 (fun y => { y with high := false })).set .FLT_STATUS_SAFE 0).set .TIME_STATUS_VALID 1).set .TIME_PULSE_CTL_PERIODIC 0 0), 0, by decide +kernel⟩,
    ⟨0, (ready.setPulse 0 (fun y => { y with high := false })), by decide +kernel⟩,
    ⟨0, ((ready.setPulse 0 (fun y => { y with high := true })).setPulse 0 (fun y => { y with waiting := [] })), by decide +kernel⟩,
    ⟨0, (ready.setPulse 0 (fun y => { y with high := true, waiting := [⟨0, 0, 0⟩] })), by decide +kernel⟩⟩

/-- The hypotheses of `Obligations.HostPortCommandsComplete` are met. -/
theorem witness_HostPortCommandsComplete :
    (∃ (q : Req) (es : List WEntry) (s : State), takenAtomic (ciHostPortConfig es) q s = true ∧ lanesAtRest es s = true ∧ wErr (fun f => portCfgFields.contains f) es = none ∧ placementErr es s = none) ∧
    (∃ (q : Req) (es : List WEntry) (s : State), takenAtomic (ciHostPortConfig es) q s = true ∧ lanesAtRest es s = false) ∧
    (∃ (q : Req) (es : List WEntry) (s : State) (k : Nat), takenAtomic (ciHostPortConfig es) q s = true ∧ lanesAtRest es s = true ∧ wErr (fun f => portCfgFields.contains f) es = none ∧ placementErr es s = some k) ∧
    (∃ (q : Req) (x : Nat) (s : State), x < 32 ∧ takenUp (ciHostPortEnable x) q s = true ∧ frugalFull x 1 s = false) ∧
    (∃ (q : Req) (x : Nat) (s : State), x < 32 ∧ takenUp (ciHostPortEnable x) q s = true ∧ frugalFull x 1 s = true) ∧
    (∃ (q : Req) (es : List WEntry) (s : State), takenUp (ciHostLaneConfig es) q s = true ∧ wErr (fun f => laneFields.contains f) es = none ∧ laneErr es s = none) ∧
    (∃ (q : Req) (es : List WEntry) (s : State) (k : Nat), takenUp (ciHostLaneConfig es) q s = true ∧ wErr (fun f => laneFields.contains f) es = none ∧ laneErr es s = some k) ∧
    (∃ (q : Req) (x : Nat) (s : State), x < 32 ∧ takenUp (ciHostRetrain x) q s = true ∧ s.link x = lsUp ∧ s.get .PORT_CFG_FRT_EN x = 1) ∧
    (∃ (q : Req) (x : Nat) (s : State), x < 32 ∧ takenUp (ciHostRetrain x) q s = true ∧ s.link x ≠ lsUp) ∧
    (∃ (q : Req) (x : Nat) (s : State), x < 32 ∧ takenUp (ciHostRetrain x) q s = true ∧ (s.link x ≠ lsUp ∨ s.get .PORT_CFG_FRT_EN x ≠ 1)) ∧
    (∃ (q : Req) (es : List WEntry) (s : State), takenUp (ciHostFilterWrite es) q s = true ∧ wErr (fun f => filterFields.contains f) es = none) ∧
    (∃ (q : Req) (es : List WEntry) (s : State), takenUp (ciHostPauseConfig es) q s = true ∧ wErr (fun f => [Fld.PORT_PAUSE_OVERRIDE_MS, .PORT_PAUSE_WDOG_MS, .PORT_PAUSE_REFRESH, .PORT_PAUSE_QUANTA, .PORT_PAUSE_MODE, .PORT_PFC_QMAP].contains f) es = none) ∧
    (∃ (q : Req) (es : List WEntry) (s : State), takenUp (ciHostLpiConfig es) q s = true ∧ wErr (fun f => [Fld.PORT_LPI_T_W_US, .PORT_LPI_TX_IDLE_FRUGAL_US, .PORT_LPI_TX_IDLE_US, .PORT_LPI_RX_EN, .PORT_LPI_TX_EN].contains f) es = none) ∧
    (∃ (q : Req) (x : Nat) (us : Nat) (s : State), x < 32 ∧ (us = 0 ∨ (20 ≤ us ∧ us ≤ 10000)) ∧ takenUp (ciHostWakeSend x) q s = true ∧ s.link x ≤ lsWait) ∧
    (∃ (q : Req) (x : Nat) (us : Nat) (s : State), x < 32 ∧ (us = 0 ∨ (20 ≤ us ∧ us ≤ 10000)) ∧ takenUp (ciHostWakeSend x) q s = true ∧ lsWait < s.link x) ∧
    (∃ (q : Req) (x : Nat) (mask : Nat) (s : State), x < 32 ∧ mask < 256 ∧ takenUp (ciHostWdogClear x) q s = true) ∧
    (∃ (q : Req) (x : Nat) (on : Nat) (s : State), x < 32 ∧ on < 2 ∧ takenUp (ciHostEvtEnable x) q s = true) :=
    ⟨⟨host, [], ready, by decide +kernel⟩,
    ⟨host, [wd .PORT_CFG_TYPE 1 0], (ready.set .PORT_STATUS_LINK_STATE 1 0), by decide +kernel⟩,
    ⟨host, [wd .PORT_CFG_TYPE 4 1], ready, 39, by decide +kernel⟩,
    ⟨host, 0, ready, by decide +kernel⟩,
    ⟨host, 0, ((((((ready.set .PWR_MODE_CURRENT 4).set .PORT_CFG_TYPE 4 0).set .PORT_CFG_TYPE 4 8).set .PORT_CFG_TYPE 4 16).set .PORT_STATUS_LINK_STATE 1 8).set .PORT_STATUS_LINK_STATE 1 16), by decide +kernel⟩,
    ⟨host, [], ready, by decide +kernel⟩,
    ⟨host, [wd .LN_FFE_INIT_C_0 64 0, wd .LN_FFE_INIT_C_M3 1 0], ready, 34, by decide +kernel⟩,
    ⟨host, 0, ((ready.set .PORT_STATUS_LINK_STATE lsUp 0).set .PORT_CFG_FRT_EN 1 0), by decide +kernel⟩,
    ⟨host, 0, ready, by decide +kernel⟩,
    ⟨host, 0, ready, by decide +kernel⟩,
    ⟨host, [], ready, by decide +kernel⟩,
    ⟨host, [], ready, by decide +kernel⟩,
    ⟨host, [], ready, by decide +kernel⟩,
    ⟨host, 0, 0, ready, by decide +kernel⟩,
    ⟨host, 0, 0, (ready.set .PORT_STATUS_LINK_STATE 2 0), by decide +kernel⟩,
    ⟨host, 0, 0, ready, by decide +kernel⟩,
    ⟨host, 0, 0, ready, by decide +kernel⟩⟩

/-- The hypotheses of `Obligations.LinkStateEventsComplete` are met. -/
theorem witness_LinkStateEventsComplete :
    (∃ (l : Fin 32) (on : Bool) (s : State) (t : State), t = (s.set .LN_STATUS_SIGNAL (b2n on) l).when (!on) (fun t_ => t_.set .LN_STATUS_CDR_LOCK 0 l) ∧ slotOfLane t l = none) ∧
    (∃ (l : Fin 32) (on : Bool) (s : State) (t : State) (x : _), t = (s.set .LN_STATUS_SIGNAL (b2n on) l).when (!on) (fun t_ => t_.set .LN_STATUS_CDR_LOCK 0 l) ∧ slotOfLane t l = some x ∧ on = true ∧ t.link x = lsWait) ∧
    (∃ (l : Fin 32) (on : Bool) (s : State) (t : State) (x : _), t = (s.set .LN_STATUS_SIGNAL (b2n on) l).when (!on) (fun t_ => t_.set .LN_STATUS_CDR_LOCK 0 l) ∧ slotOfLane t l = some x ∧ on = false ∧ (t.link x = lsUp ∨ t.link x = lsFrt)) ∧
    (∃ (l : Fin 32) (on : Bool) (s : State) (t : State) (x : _), t = (s.set .LN_STATUS_SIGNAL (b2n on) l).when (!on) (fun t_ => t_.set .LN_STATUS_CDR_LOCK 0 l) ∧ slotOfLane t l = some x ∧ ((on = true ∧ t.link x ≠ lsWait) ∨ (on = false ∧ t.link x ≠ lsUp ∧ t.link x ≠ lsFrt))) ∧
    (∃ (x : Nat) (s : State), lanesOf s x ≠ [] ∧ (∀ l ∈ lanesOf s x, s.get .LN_STATUS_SIGNAL l = 1) ∧ (∀ l ∈ lanesOf s x, bit (s.get .TEST_LOOP_LANE_PMA_FAR (l / 8)) (l % 8) = false)) ∧
    (∃ (x : Nat) (s : State), (lanesOf s x = [] ∨ (∃ l ∈ lanesOf s x, s.get .LN_STATUS_SIGNAL l ≠ 1) ∨ (∃ l ∈ lanesOf s x, bit (s.get .TEST_LOOP_LANE_PMA_FAR (l / 8)) (l % 8) = true))) ∧
    (∃ (x : Fin 32) (s : State), s.link x ≠ lsTraining) ∧
    (∃ (x : Fin 32) (s : State), s.link x = lsTraining ∧ (s.hp x).since + 500 * uMs ≤ s.now) ∧
    (∃ (x : Fin 32) (s : State), (s.link x ≠ lsTraining ∨ s.now < (s.hp x).since + 500 * uMs)) ∧
    (∃ (l : Fin 32) (s : State) (x : _), slotOfLane s l = some x ∧ (s.link x ≠ lsTraining ∨ trains s x = false)) ∧
    (∃ (l : Fin 32) (s : State) (x : _) (k : _), slotOfLane s l = some x ∧ s.link x = lsTraining ∧ trains s x = true ∧ k ≠ 1) ∧
    (∃ (l : Fin 32) (s : State) (x : _) (tap : Fin 6) (up : Bool) (lo : Int) (hi : Int) (c : Int), slotOfLane s l = some x ∧ s.link x = lsTraining ∧ trains s x = true ∧ tapRange.getD tap (0, 0) = (lo, hi) ∧ c = (ffeNow s l).getD tap 0 + (if up then 1 else -1) ∧ lo ≤ c ∧ c ≤ hi ∧ ffeSum ((ffeNow s l).set tap c) = true) ∧
    (∃ (l : Fin 32) (s : State) (x : _) (tap : Fin 6) (up : Bool) (lo : Int) (hi : Int) (c : Int), slotOfLane s l = some x ∧ s.link x = lsTraining ∧ trains s x = true ∧ tapRange.getD tap (0, 0) = (lo, hi) ∧ c = (ffeNow s l).getD tap 0 + (if up then 1 else -1) ∧ (c < lo ∨ hi < c)) ∧
    (∃ (l : Fin 32) (s : State) (x : _) (tap : Fin 6) (up : Bool) (lo : Int) (hi : Int) (c : Int), slotOfLane s l = some x ∧ s.link x = lsTraining ∧ trains s x = true ∧ tapRange.getD tap (0, 0) = (lo, hi) ∧ c = (ffeNow s l).getD tap 0 + (if up then 1 else -1) ∧ lo ≤ c ∧ c ≤ hi ∧ ffeSum ((ffeNow s l).set tap c) = false) ∧
    (∃ (x : Fin 32) (s : State), s.link x = lsAligning ∧ (s.hp x).since + 10 * uMs ≤ s.now) ∧
    (∃ (x : Fin 32) (s : State), s.link x = lsAligning ∧ s.now < (s.hp x).since + 10 * uMs) ∧
    (∃ (x : Fin 32) (s : State), s.link x ≠ lsAligning) ∧
    (∃ (l : Fin 32) (s : State), slotOfLane s l = none) ∧
    (∃ (l : Fin 32) (s : State) (x : _), slotOfLane s l = some x ∧ (s.get .LN_STATUS_SIGNAL l ≠ 1 ∨ (s.link x ≠ lsUp ∧ s.link x ≠ lsFrt))) ∧
    (∃ (l : Fin 32) (s : State) (x : _), slotOfLane s l = some x ∧ s.get .LN_STATUS_SIGNAL l = 1 ∧ s.link x = lsUp ∧ s.get .PORT_CFG_FRT_EN x = 1) ∧
    (∃ (l : Fin 32) (s : State) (x : _), slotOfLane s l = some x ∧ s.get .LN_STATUS_SIGNAL l = 1 ∧ s.link x = lsUp ∧ s.get .PORT_CFG_FRT_EN x ≠ 1) ∧
    (∃ (l : Fin 32) (s : State) (x : _), slotOfLane s l = some x ∧ s.get .LN_STATUS_SIGNAL l = 1 ∧ s.link x = lsFrt) ∧
    (∃ (l : Fin 32) (s : State) (x : _), slotOfLane s l = some x ∧ (s.link x ≠ lsUp ∨ s.get .PORT_CFG_FRT_EN x ≠ 1)) ∧
    (∃ (x : Fin 32) (s : State), s.link x ≠ lsFrt) ∧
    (∃ (x : Fin 32) (s : State), s.link x = lsFrt ∧ (s.hp x).frtSeen = true) ∧
    (∃ (x : Fin 32) (s : State), s.link x = lsFrt ∧ (s.hp x).frtBegan = true ∧ (s.hp x).frtSeen = false ∧ (s.hp x).frtSince + 50 * uUs ≤ s.now) ∧
    (∃ (x : Fin 32) (s : State), s.link x = lsFrt ∧ ((s.hp x).frtBegan = false ∨ (s.hp x).frtSeen = true ∨ s.now < (s.hp x).frtSince + 50 * uUs)) ∧
    (∃ (x : Fin 32) (s : State), s.link x = lsFrt ∧ (s.hp x).frtSince + s.get .PORT_CFG_FRT_LIMIT x * 100 * uUs ≤ s.now) ∧
    (∃ (x : Fin 32) (s : State), s.link x = lsFrt ∧ s.now < (s.hp x).frtSince + s.get .PORT_CFG_FRT_LIMIT x * 100 * uUs) ∧
    (∃ (x : Fin 32) (s : State), s.link x ≠ lsUp) ∧
    (∃ (x : Fin 32) (s : State) (f : RsFault) (on : Nat) (what : Nat), s.link x = lsUp ∧ (f, on, what) ∈ [(RsFault.none_, 0, 2), (.local_, 0, 8), (.remote, 1, 9)] ∧ s.get .PORT_STATUS_REMOTE_FAULT x ≠ on) ∧
    (∃ (x : Fin 32) (s : State) (f : RsFault) (on : Nat) (what : Nat), s.link x = lsUp ∧ (f, on, what) ∈ [(RsFault.none_, 0, 2), (.local_, 0, 8), (.remote, 1, 9)] ∧ s.get .PORT_STATUS_REMOTE_FAULT x = on) ∧
    (∃ (l : Fin 32) (s : State), s.get .LN_CFG_WAKE_DET l = 1 ∧ slotOfLane s l = none) ∧
    (∃ (l : Fin 32) (s : State) (x : _), s.get .LN_CFG_WAKE_DET l = 1 ∧ slotOfLane s l = some x ∧ s.link x ≤ lsWait) ∧
    (∃ (l : Fin 32) (s : State) (x : _), slotOfLane s l = some x ∧ lsWait < s.link x) ∧
    (∃ (l : Fin 32) (s : State), s.get .LN_CFG_WAKE_DET l ≠ 1) ∧
    (∃ (x : Fin 32) (s : State), s.get .PORT_STATUS_WAKE_SENDING x = 1 ∧ (s.hp x).wakeEnd ≤ s.now) ∧
    (∃ (x : Fin 32) (s : State), (s.get .PORT_STATUS_WAKE_SENDING x ≠ 1 ∨ s.now < (s.hp x).wakeEnd)) :=
    ⟨⟨0, true, ready, _, rfl, by decide +kernel⟩,
    ⟨0, _, ((ready.set .PORT_CFG_TYPE 1 0).set .PORT_STATUS_LINK_STATE lsWait 0), _, 0, rfl, by decide +kernel, rfl, by decide +kernel⟩,
    ⟨0, _, ((ready.set .PORT_CFG_TYPE 1 0).set .PORT_STATUS_LINK_STATE lsUp 0), _, 0, rfl, by decide +kernel, rfl, by decide +kernel⟩,
    ⟨0, false, (ready.set .PORT_CFG_TYPE 1 0), _, 0, rfl, by decide +kernel⟩,
    ⟨0, ((ready.set .PORT_CFG_TYPE 1 0).set .LN_STATUS_SIGNAL 1), by decide +kernel, by first | decide +kernel | (intros; first | rfl | (simp_all; done) | decide), by first | decide +kernel | (intros; first | rfl | (simp_all; done) | decide)⟩,
    ⟨0, (ready.set .PORT_CFG_TYPE 1 0), by decide +kernel⟩,
    ⟨0, ready, by decide +kernel⟩,
    ⟨0, (let y : State := (ready.set .PORT_STATUS_LINK_STATE lsTraining 0); { y with now := (ready.hp 0).since + 500 * uMs }), by decide +kernel⟩,
    ⟨0, ready, by decide +kernel⟩,
    ⟨0, (ready.set .PORT_CFG_TYPE 1 0), 0, by decide +kernel⟩,
    ⟨0, (((ready.set .PORT_CFG_TYPE 1 0).set .PORT_CFG_TRAIN_EN 1 0).set .PORT_STATUS_LINK_STATE lsTraining 0), 0, 0, by decide +kernel⟩,
    ⟨0, ((((ready.set .PORT_CFG_TYPE 1 0).set .PORT_CFG_TRAIN_EN 1 0).set .PORT_STATUS_LINK_STATE lsTraining 0).set .LN_FFE_C_0 40 0), 0, 0, true, (-4), 4, _, by decide +kernel, by decide +kernel, by decide +kernel, (by decide +kernel), rfl, by decide +kernel⟩,
    ⟨0, ((((ready.set .PORT_CFG_TYPE 1 0).set .PORT_CFG_TRAIN_EN 1 0).set .PORT_STATUS_LINK_STATE lsTraining 0).set .LN_FFE_C_0 64 0), 0, 3, true, 32, 64, _, by decide +kernel, by decide +kernel, by decide +kernel, (by decide +kernel), rfl, by decide +kernel⟩,
    ⟨0, ((((ready.set .PORT_CFG_TYPE 1 0).set .PORT_CFG_TRAIN_EN 1 0).set .PORT_STATUS_LINK_STATE lsTraining 0).set .LN_FFE_C_0 64 0), 0, 0, true, (-4), 4, _, by decide +kernel, by decide +kernel, by decide +kernel, (by decide +kernel), rfl, by decide +kernel⟩,
    ⟨0, (let y : State := (ready.set .PORT_STATUS_LINK_STATE lsAligning 0); { y with now := (ready.hp 0).since + 10 * uMs }), by decide +kernel⟩,
    ⟨0, (ready.set .PORT_STATUS_LINK_STATE lsAligning 0), by decide +kernel⟩,
    ⟨0, ready, by decide +kernel⟩,
    ⟨0, ready, by decide +kernel⟩,
    ⟨0, ((ready.set .PORT_CFG_TYPE 1 0).set .LN_STATUS_SIGNAL 0 0), 0, by decide +kernel⟩,
    ⟨0, ((((ready.set .PORT_CFG_TYPE 1 0).set .LN_STATUS_SIGNAL 1 0).set .PORT_STATUS_LINK_STATE lsUp 0).set .PORT_CFG_FRT_EN 1 0), 0, by decide +kernel⟩,
    ⟨0, ((((ready.set .PORT_CFG_TYPE 1 0).set .LN_STATUS_SIGNAL 1 0).set .PORT_STATUS_LINK_STATE lsUp 0).set .PORT_CFG_FRT_EN 0 0), 0, by decide +kernel⟩,
    ⟨0, (((ready.set .PORT_CFG_TYPE 1 0).set .LN_STATUS_SIGNAL 1 0).set .PORT_STATUS_LINK_STATE lsFrt 0), 0, by decide +kernel⟩,
    ⟨0, (ready.set .PORT_CFG_TYPE 1 0), 0, by decide +kernel⟩,
    ⟨0, ready, by decide +kernel⟩,
    ⟨0, ((ready.set .PORT_STATUS_LINK_STATE lsFrt 0).setHp 0 (fun y => { y with frtSeen := true })), by decide +kernel⟩,
    ⟨0, (let y : State := (((ready.set .PORT_STATUS_LINK_STATE lsFrt 0).setHp 0 (fun y => { y with frtBegan := true })).setHp 0 (fun y => { y with frtSeen := false })); { y with now := (ready.hp 0).frtSince + 50 * uUs }), by decide +kernel⟩,
    ⟨0, ((ready.set .PORT_STATUS_LINK_STATE lsFrt 0).setHp 0 (fun y => { y with frtBegan := false })), by decide +kernel⟩,
    ⟨0, (let y : State := (ready.set .PORT_STATUS_LINK_STATE lsFrt 0); { y with now := (ready.hp 0).frtSince + ready.get .PORT_CFG_FRT_LIMIT 0 * 100 * uUs }), by decide +kernel⟩,
    ⟨0, (ready.set .PORT_STATUS_LINK_STATE lsFrt 0), by decide +kernel⟩,
    ⟨0, ready, by decide +kernel⟩,
    ⟨0, (((ready.set .PORT_STATUS_LINK_STATE lsUp 0).set .PORT_STATUS_REMOTE_FAULT 1 0).set .PORT_STATUS_REMOTE_FAULT 1), .none_, 0, 2, by decide +kernel⟩,
    ⟨0, ((ready.set .PORT_STATUS_LINK_STATE lsUp 0).set .PORT_STATUS_REMOTE_FAULT 0 0), .none_, 0, 2, by decide +kernel⟩,
    ⟨0, (ready.set .LN_CFG_WAKE_DET 1 0), by decide +kernel⟩,
    ⟨0, ((ready.set .PORT_CFG_TYPE 1 0).set .LN_CFG_WAKE_DET 1 0), 0, by decide +kernel⟩,
    ⟨0, ((ready.set .PORT_CFG_TYPE 1 0).set .PORT_STATUS_LINK_STATE lsUp), 0, by decide +kernel⟩,
    ⟨0, (ready.set .LN_CFG_WAKE_DET 0 0), by decide +kernel⟩,
    ⟨0, (let y : State := (ready.set .PORT_STATUS_WAKE_SENDING 1 0); { y with now := (ready.hp 0).wakeEnd }), by decide +kernel⟩,
    ⟨0, ((ready.set .PORT_STATUS_WAKE_SENDING 0 0).setHp 0 (fun y => { y with wakeEnd := 1 })), by decide +kernel⟩⟩

/-- The hypotheses of `Obligations.HostTrafficEventsComplete` are met. -/
theorem witness_HostTrafficEventsComplete :
    (∃ (x : Fin 32) (limit : Nat) (s : State) (a : Nat), limit = (if s.mode = 4 then s.get .PORT_LPI_TX_IDLE_FRUGAL_US x else s.get .PORT_LPI_TX_IDLE_US x) * uUs ∧ s.link x = lsUp ∧ s.get .PORT_LPI_TX_EN x = 1 ∧ s.get .PORT_STATUS_TX_LPI x ≠ 1 ∧ macIdle s x = true ∧ (s.hp x).idleSince = a + 1 ∧ a + limit ≤ s.now) ∧
    (∃ (x : Fin 32) (limit : Nat) (s : State) (a : _), limit = (if s.mode = 4 then s.get .PORT_LPI_TX_IDLE_FRUGAL_US x else s.get .PORT_LPI_TX_IDLE_US x) * uUs ∧ s.link x = lsUp ∧ s.get .PORT_LPI_TX_EN x = 1 ∧ s.get .PORT_STATUS_TX_LPI x ≠ 1 ∧ macIdle s x = true ∧ (s.hp x).idleSince = a + 1 ∧ s.now < a + limit) ∧
    (∃ (x : Fin 32) (s : State), (s.link x ≠ lsUp ∨ s.get .PORT_LPI_TX_EN x ≠ 1 ∨ s.get .PORT_STATUS_TX_LPI x = 1 ∨ macIdle s x = false ∨ (s.hp x).idleSince = 0)) ∧
    (∃ (x : Fin 32) (s : State), s.link x = lsUp ∧ s.get .PORT_LPI_RX_EN x = 1 ∧ s.get .PORT_STATUS_RX_LPI x ≠ 1) ∧
    (∃ (x : Fin 32) (s : State), (s.link x ≠ lsUp ∨ s.get .PORT_LPI_RX_EN x ≠ 1 ∨ s.get .PORT_STATUS_RX_LPI x = 1)) ∧
    (∃ (x : Fin 32) (s : State), (timedHead s x = none ∨ s.get .PORT_STATUS_TX_LPI x ≠ 1)) ∧
    (∃ (x : Fin 32) (s : State) (k : _) (l : _) (late : _), timedHead s x = some (k, l, late) ∧ s.get .PORT_STATUS_TX_LPI x = 1 ∧ launchAhead s x l ≤ ((s.get .PORT_LPI_T_W_US x * uUs : Nat) : Int)) ∧
    (∃ (x : Fin 32) (s : State) (k : _) (l : _) (late : _), timedHead s x = some (k, l, late) ∧ s.get .PORT_STATUS_TX_LPI x = 1 ∧ ((s.get .PORT_LPI_T_W_US x * uUs : Nat) : Int) < launchAhead s x l) ∧
    (∃ (x : Fin 32) (fec : FecCount) (s : State) (t : State), t = countFec x fec s ∧ t.link x ≠ lsUp) ∧
    (∃ (x : Fin 32) (bytes : List Nat) (fec : FecCount) (s : State) (t : State), t = countFec x fec s ∧ t.link x = lsUp ∧ bytes.take 6 = [0x01, 0x80, 0xC2, 0, 0, 1]) ∧
    (∃ (x : Fin 32) (bytes : List Nat) (fec : FecCount) (s : State) (t : State), t = countFec x fec s ∧ t.link x = lsUp ∧ bytes.take 6 ≠ [0x01, 0x80, 0xC2, 0, 0, 1] ∧ t.asleep = true) ∧
    (∃ (x : Fin 32) (bytes : List Nat) (fec : FecCount) (s : State) (t : State) (bad : Bool) (u : State), t = countFec x fec s ∧ t.link x = lsUp ∧ bytes.take 6 ≠ [0x01, 0x80, 0xC2, 0, 0, 1] ∧ t.asleep = false ∧ inject 1 x t = (bad, u) ∧ (bad = true ∨ (bytes.length ≤ sysHdr u x + u.get .PORT_CFG_MAX_FRAME x ∧ fcsFits bytes = false))) ∧
    (∃ (x : Fin 32) (bytes : List Nat) (fec : FecCount) (s : State) (t : State) (bad : Bool) (u : State), t = countFec x fec s ∧ t.link x = lsUp ∧ bytes.take 6 ≠ [0x01, 0x80, 0xC2, 0, 0, 1] ∧ t.asleep = false ∧ inject 1 x t = (bad, u) ∧ bad = false ∧ (sysHdr u x + u.get .PORT_CFG_MAX_FRAME x < bytes.length ∨ fcsFits bytes = true)) ∧
    (∃ (x : Fin 32) (s : State), s.link x = lsUp ∧ s.get .PORT_PAUSE_MODE x = 1) ∧
    (∃ (x : Fin 32) (s : State), s.link x = lsUp ∧ s.get .PORT_PAUSE_MODE x = 2) ∧
    (∃ (x : Fin 32) (s : State), (s.link x ≠ lsUp ∨ s.get .PORT_PAUSE_MODE x ≠ 1)) ∧
    (∃ (x : Fin 32) (s : State), (s.link x ≠ lsUp ∨ s.get .PORT_PAUSE_MODE x ≠ 2)) ∧
    (∃ (x : Fin 32) (p : Fin 9) (s : State), Tab.get 0 (s.hp x).pauseEnd p ≠ 0 ∧ isPaused s x p = false) ∧
    (∃ (x : Fin 32) (p : Fin 9) (s : State), (Tab.get 0 (s.hp x).pauseEnd p = 0 ∨ isPaused s x p = true)) ∧
    (∃ (x : Fin 32) (p : Fin 9) (s : State), isPaused s x p = true ∧ wdogDue s x p = true) ∧
    (∃ (x : Fin 32) (p : Fin 9) (s : State), (isPaused s x p = false ∨ wdogDue s x p = false)) ∧
    (∃ (x : Fin 32) (p : Fin 9) (s : State), overrideDue s x p = true) ∧
    (∃ (x : Fin 32) (p : Fin 9) (s : State), overrideDue s x p = false) ∧
    (∃ (x : Fin 32) (p : Fin 8) (s : State), (s.get .SW_ING_PAUSE_CALL (x.val * 8 + p.val) ≠ 1 ∨ Tab.get 0 (s.hp x).pauseSent p = 0)) ∧
    (∃ (x : Fin 32) (p : Fin 8) (s : State) (a : _), s.get .SW_ING_PAUSE_CALL (x.val * 8 + p.val) = 1 ∧ Tab.get 0 (s.hp x).pauseSent p = a + 1 ∧ a + quantaTime s x (s.get .PORT_PAUSE_REFRESH x) ≤ s.now) ∧
    (∃ (x : Fin 32) (p : Fin 8) (s : State) (a : _), s.get .SW_ING_PAUSE_CALL (x.val * 8 + p.val) = 1 ∧ Tab.get 0 (s.hp x).pauseSent p = a + 1 ∧ s.now < a + quantaTime s x (s.get .PORT_PAUSE_REFRESH x)) ∧
    (∃ (x : Fin 32) (s : State), (linkOk s x = false ∨ s.get .FLT_STATUS_SAFE = 1 ∨ Tab.get 0 s.sw.sending x ≠ 0 ∨ s.now < (s.hp x).holdUntil ∨ (Tab.get [] s.sw.pauseDue x = [] ∧ nextTx s x = none))) ∧
    (∃ (x : Fin 32) (s : State), linkOk s x = true ∧ s.get .FLT_STATUS_SAFE ≠ 1 ∧ Tab.get 0 s.sw.sending x = 0 ∧ (s.hp x).holdUntil ≤ s.now ∧ (Tab.get [] s.sw.pauseDue x ≠ [] ∨ nextTx s x ≠ none) ∧ s.get .PORT_STATUS_TX_LPI x = 1) ∧
    (∃ (x : Fin 32) (s : State) (m : Nat) (q : Nat) (rest : List (Nat × Nat)), linkOk s x = true ∧ s.get .FLT_STATUS_SAFE ≠ 1 ∧ Tab.get 0 s.sw.sending x = 0 ∧ (s.hp x).holdUntil ≤ s.now ∧ s.get .PORT_STATUS_TX_LPI x ≠ 1 ∧ Tab.get [] s.sw.pauseDue x = (m, q) :: rest ∧ wouldBlockTimed s x 72 = false) ∧
    (∃ (x : Fin 32) (s : State) (m : Nat) (q : Nat) (rest : List (Nat × Nat)), linkOk s x = true ∧ s.get .FLT_STATUS_SAFE ≠ 1 ∧ Tab.get 0 s.sw.sending x = 0 ∧ (s.hp x).holdUntil ≤ s.now ∧ s.get .PORT_STATUS_TX_LPI x ≠ 1 ∧ Tab.get [] s.sw.pauseDue x = (m, q) :: rest ∧ wouldBlockTimed s x 72 = true) ∧
    (∃ (x : Fin 32) (s : State) (k : Nat), linkOk s x = true ∧ s.get .FLT_STATUS_SAFE ≠ 1 ∧ Tab.get 0 s.sw.sending x = 0 ∧ (s.hp x).holdUntil ≤ s.now ∧ s.get .PORT_STATUS_TX_LPI x ≠ 1 ∧ Tab.get [] s.sw.pauseDue x = [] ∧ nextTx s x = some k) ∧
    (∃ (x : Fin 32) (s : State), timedHead s x = none) ∧
    (∃ (x : Fin 32) (s : State) (k : Nat) (l : Nat) (late : Bool), timedHead s x = some (k, l, late) ∧ serviceValid s = false) ∧
    (∃ (x : Fin 32) (s : State) (k : Nat) (l : Nat) (late : Bool) (four : Int), timedHead s x = some (k, l, late) ∧ four = ((4 * uNs : Nat) : Int) ∧ serviceValid s = true ∧ four < launchAhead s x l) ∧
    (∃ (x : Fin 32) (s : State) (k : Nat) (l : Nat) (late : Bool) (four : Int), timedHead s x = some (k, l, late) ∧ four = ((4 * uNs : Nat) : Int) ∧ serviceValid s = true ∧ launchAhead s x l < -four ∧ late = false) ∧
    (∃ (x : Fin 32) (s : State) (k : Nat) (l : Nat) (late : Bool) (free : Bool) (four : Int), timedHead s x = some (k, l, late) ∧ four = ((4 * uNs : Nat) : Int) ∧ free = (linkOk s x && !s.safe && Tab.get 0 s.sw.sending x == 0 && !decide (s.now < (s.hp x).holdUntil) && !s.isSet .PORT_STATUS_TX_LPI x && !queueStopped s x (s.get .TIME_PORT_TIMED_Q x) && isConfirmed (s.item (s.copy k).item)) ∧ serviceValid s = true ∧ launchAhead s x l < -four ∧ late = true ∧ free = true) ∧
    (∃ (x : Fin 32) (s : State) (k : Nat) (l : Nat) (late : Bool) (free : Bool) (four : Int), timedHead s x = some (k, l, late) ∧ four = ((4 * uNs : Nat) : Int) ∧ free = (linkOk s x && !s.safe && Tab.get 0 s.sw.sending x == 0 && !decide (s.now < (s.hp x).holdUntil) && !s.isSet .PORT_STATUS_TX_LPI x && !queueStopped s x (s.get .TIME_PORT_TIMED_Q x) && isConfirmed (s.item (s.copy k).item)) ∧ serviceValid s = true ∧ -four ≤ launchAhead s x l ∧ launchAhead s x l ≤ four ∧ free = true) ∧
    (∃ (x : Fin 32) (s : State) (k : Nat) (l : Nat) (late : Bool) (free : Bool) (four : Int), timedHead s x = some (k, l, late) ∧ four = ((4 * uNs : Nat) : Int) ∧ free = (linkOk s x && !s.safe && Tab.get 0 s.sw.sending x == 0 && !decide (s.now < (s.hp x).holdUntil) && !s.isSet .PORT_STATUS_TX_LPI x && !queueStopped s x (s.get .TIME_PORT_TIMED_Q x) && isConfirmed (s.item (s.copy k).item)) ∧ serviceValid s = true ∧ launchAhead s x l ≤ four ∧ (-four ≤ launchAhead s x l ∨ late = true) ∧ free = false) ∧
    (∃ (k : Nat) (s : State), ((s.copy k).phase ≠ 2 ∨ isConfirmed (copyItem s (s.copy k)) = false)) ∧
    (∃ (k : Nat) (s : State) (c : Copy) (it : Item), c = s.copy k ∧ it = copyItem s c ∧ c.phase = 2 ∧ isConfirmed it = true ∧ 32 ≤ c.dest) ∧
    (∃ (k : Nat) (s : State) (c : Copy) (it : Item) (bs : List Nat) (t : State) (u : State), c = s.copy k ∧ it = copyItem s c ∧ bs = stamped s it c.sentTime ∧ c.phase = 2 ∧ isConfirmed it = true ∧ t = (checkFrame 1 c.dest bs (postStamp it bs c (countStart k s))).setCopy k (fun c_ => { c_ with phase := 3, sent := c_.len + 4, ok := true, old := false }) ∧ c.dest < 32 ∧ u = (((t.inc .HP_TX_FRAMES c.dest).bump .HP_TX_BYTES (c.len + 4) c.dest).setSw (fun w => { w with sending := Tab.put 0 w.sending c.dest 0 })).setHp c.dest (fun h => { h with holdUntil := t.now + 12 * uUs / max 1 (macRate t c.dest) }) ∧ hostLooped c.dest u = false) ∧
    (∃ (k : Nat) (s : State) (c : Copy) (it : Item) (bs : List Nat) (t : State) (u : State), c = s.copy k ∧ it = copyItem s c ∧ bs = stamped s it c.sentTime ∧ c.phase = 2 ∧ isConfirmed it = true ∧ t = (checkFrame 1 c.dest bs (postStamp it bs c (countStart k s))).setCopy k (fun c_ => { c_ with phase := 3, sent := c_.len + 4, ok := true, old := false }) ∧ c.dest < 32 ∧ u = (((t.inc .HP_TX_FRAMES c.dest).bump .HP_TX_BYTES (c.len + 4) c.dest).setSw (fun w => { w with sending := Tab.put 0 w.sending c.dest 0 })).setHp c.dest (fun h => { h with holdUntil := t.now + 12 * uUs / max 1 (macRate t c.dest) }) ∧ hostLooped c.dest u = true) :=
    ⟨⟨0, _, (let y : State := ((((ready.set .PORT_STATUS_LINK_STATE lsUp 0).set .PORT_LPI_TX_EN 1 0).set .PORT_STATUS_TX_LPI 0 0).setHp 0 (fun y => { y with idleSince := 0 + 1 })); { y with now := 10 ^ 30 }), 0, rfl, by decide +kernel⟩,
    ⟨0, _, ((((ready.set .PORT_STATUS_LINK_STATE lsUp 0).set .PORT_LPI_TX_EN 1 0).set .PORT_STATUS_TX_LPI 0 0).setHp 0 (fun y => { y with idleSince := 0 + 1 })), 0, rfl, by decide +kernel⟩,
    ⟨0, ready, by decide +kernel⟩,
    ⟨0, (((ready.set .PORT_STATUS_LINK_STATE lsUp 0).set .PORT_LPI_RX_EN 1 0).set .PORT_STATUS_RX_LPI 0 0), by decide +kernel⟩,
    ⟨0, ready, by decide +kernel⟩,
    ⟨0, ready, by decide +kernel⟩,
    ⟨0, ((let y : State := (((((ready.set .TIME_PORT_TIMED_EN 1 0).set .TIME_PORT_TIMED_Q 0 0).setItem 1 (fun i => { i with launch := some (0, false) })).setCopy 1 (fun c => { c with item := 1 })).setSw (fun w => { w with mac := Tab.put [] w.mac 0 [1] })); y).set .PORT_STATUS_TX_LPI 1 0), 1, 0, false, by decide +kernel⟩,
    ⟨0, ((let y : State := (((((ready.set .TIME_PORT_TIMED_EN 1 0).set .TIME_PORT_TIMED_Q 0 0).setItem 1 (fun i => { i with launch := some (2^48, false) })).setCopy 1 (fun c => { c with item := 1 })).setSw (fun w => { w with mac := Tab.put [] w.mac 0 [1] })); y).set .PORT_STATUS_TX_LPI 1 0), 1, (2^48), false, by decide +kernel⟩,
    ⟨0, {}, ready, _, rfl, by decide +kernel⟩,
    ⟨0, [0x01, 0x80, 0xC2, 0, 0, 1], {}, (ready.set .PORT_STATUS_LINK_STATE lsUp 0), _, rfl, by decide +kernel⟩,
    ⟨0, [], {}, ((ready.set .PORT_STATUS_LINK_STATE lsUp 0).set .PWR_STATE_STATE 4), _, rfl, by decide +kernel⟩,
    ⟨0, [], {}, (ready.set .PORT_STATUS_LINK_STATE lsUp 0), _, _, _, rfl, by decide +kernel, by decide +kernel, by decide +kernel, Prod.mk.eta.symm, by decide +kernel⟩,
    ⟨0, (toBytes 4 (crc32 [])), {}, (ready.set .PORT_STATUS_LINK_STATE lsUp 0), _, _, _, rfl, by decide +kernel, by decide +kernel, by decide +kernel, Prod.mk.eta.symm, by decide +kernel⟩,
    ⟨0, ((ready.set .PORT_STATUS_LINK_STATE lsUp 0).set .PORT_PAUSE_MODE 1 0), by decide +kernel⟩,
    ⟨0, ((ready.set .PORT_STATUS_LINK_STATE lsUp 0).set .PORT_PAUSE_MODE 2 0), by decide +kernel⟩,
    ⟨0, ready, by decide +kernel⟩,
    ⟨0, ready, by decide +kernel⟩,
    ⟨0, 0, (let y : State := (ready.setHp 0 (fun y => { y with pauseEnd := Tab.put 0 y.pauseEnd 0 5 })); { y with now := 6 }), by decide +kernel⟩,
    ⟨0, 0, (ready.setHp 0 (fun y => { y with pauseEnd := Tab.put 0 y.pauseEnd 0 (0) })), by decide +kernel⟩,
    ⟨0, 0, (let y : State := ((ready.setHp 0 (fun y => { y with pauseEnd := Tab.put 0 y.pauseEnd 0 700000000000000, pausedSince := Tab.put 0 y.pausedSince 0 1 })).set .PORT_PAUSE_WDOG_MS 100 0); { y with now := 100 * uMs }), by decide +kernel⟩,
    ⟨0, 0, ready, by decide +kernel⟩,
    ⟨0, 0, (let y : State := ((ready.setHp 0 (fun y => { y with override_ := Tab.put 0 y.override_ 0 1 })).set .PORT_PAUSE_OVERRIDE_MS 100 0); { y with now := 100 * uMs }), by decide +kernel⟩,
    ⟨0, 0, ready, by decide +kernel⟩,
    ⟨0, 0, (ready.set .SW_ING_PAUSE_CALL 0 (0 * 8 + 0)), by decide +kernel⟩,
    ⟨0, 0, (let y : State := ((ready.set .SW_ING_PAUSE_CALL 1 (0 * 8 + 0)).setHp 0 (fun y => { y with pauseSent := Tab.put 0 y.pauseSent 0 (0 + 1) })); { y with now := 0 + quantaTime ready 0 (ready.get .PORT_PAUSE_REFRESH 0) }), 0, by decide +kernel⟩,
    ⟨0, 0, ((ready.set .SW_ING_PAUSE_CALL 1 (0 * 8 + 0)).setHp 0 (fun y => { y with pauseSent := Tab.put 0 y.pauseSent 0 (0 + 1) })), 0, by decide +kernel⟩,
    ⟨0, ready, by decide +kernel⟩,
    ⟨0, (let y : State := (((let y : State := ((ready.set .PORT_STATUS_LINK_STATE lsUp 0).set .FLT_STATUS_SAFE 0); { y with sw := { y.sw with sending := Tab.put 0 y.sw.sending 0 (0) } }).set .PORT_STATUS_TX_LPI 1 0).setSw (fun w => { w with pauseDue := [(0, [(255, 65535)])] })); { y with now := (ready.hp 0).holdUntil }), by decide +kernel⟩,
    ⟨0, (let y : State := (let y : State := ((let y : State := ((ready.set .PORT_STATUS_LINK_STATE lsUp 0).set .FLT_STATUS_SAFE 0); { y with sw := { y.sw with sending := Tab.put 0 y.sw.sending 0 (0) } }).set .PORT_STATUS_TX_LPI 0 0); { y with sw := { y.sw with pauseDue := Tab.put [] y.sw.pauseDue 0 ((255, 65535) :: ([])) } }); { y with now := (ready.hp 0).holdUntil }), 255, 65535, [], by decide +kernel⟩,
    ⟨0, (let y : State := (let y : State := ((let y : State := (((timedS 0 false).set .PORT_STATUS_LINK_STATE lsUp 0).set .FLT_STATUS_SAFE 0); { y with sw := { y.sw with sending := Tab.put 0 y.sw.sending 0 (0) } }).set .PORT_STATUS_TX_LPI 0 0); { y with sw := { y.sw with pauseDue := Tab.put [] y.sw.pauseDue 0 ((255, 65535) :: ([])) } }); { y with now := (ready.hp 0).holdUntil }), 255, 65535, [], by decide +kernel⟩,
    ⟨0, (let y : State := ((let y : State := ((let y : State := ((ready.set .PORT_STATUS_LINK_STATE lsUp 0).set .FLT_STATUS_SAFE 0); { y with sw := { y.sw with sending := Tab.put 0 y.sw.sending 0 (0) } }).set .PORT_STATUS_TX_LPI 0 0); { y with sw := { y.sw with pauseDue := Tab.put [] y.sw.pauseDue 0 ([]) } }).setSw (fun w => { w with mac := Tab.put [] w.mac 0 [1] })); { y with now := (ready.hp 0).holdUntil }), 1, by decide +kernel⟩,
    ⟨0, ready, by decide +kernel⟩,
    ⟨0, (timedS 0 true), 1, 0, true, by decide +kernel⟩,
    ⟨0, ((timedS 1000000 true).set .TIME_STATUS_VALID 1), 1, 1000000, true, _, by decide +kernel, rfl, by decide +kernel⟩,
    ⟨0, (let y : State := ((timedS 0 false).set .TIME_STATUS_VALID 1); { y with now := 10 ^ 18 }), 1, 0, false, _, by decide +kernel, rfl, by decide +kernel⟩,
    ⟨0, (let y : State := (((timedS 0 true).set .TIME_STATUS_VALID 1).set .PORT_STATUS_LINK_STATE lsUp); { y with now := 10 ^ 18 }), 1, 0, true, _, _, by decide +kernel, rfl, rfl, by decide +kernel⟩,
    ⟨0, (((timedS 0 true).set .TIME_STATUS_VALID 1).set .PORT_STATUS_LINK_STATE lsUp), 1, 0, true, _, _, by decide +kernel, rfl, rfl, by decide +kernel⟩,
    ⟨0, ((timedS 0 true).set .TIME_STATUS_VALID 1), 1, 0, true, _, _, by decide +kernel, rfl, rfl, by decide +kernel⟩,
    ⟨0, ready, by decide +kernel⟩,
    ⟨0, (ready.setCopy 0 (fun c => { c with phase := 2, dest := 40 })), _, _, rfl, rfl, by decide +kernel⟩,
    ⟨0, (ready.setCopy 0 (fun c => { c with phase := 2 })), _, _, _, _, _, rfl, rfl, rfl, by decide +kernel, by decide +kernel, rfl, by decide +kernel, rfl, by decide +kernel⟩,
    ⟨0, ((ready.setCopy 0 (fun c => { c with phase := 2 })).set .TEST_LOOP_LANE_MAC 1), _, _, _, _, _, rfl, rfl, rfl, by decide +kernel, by decide +kernel, rfl, by decide +kernel, rfl, by decide +kernel⟩⟩

/-- The hypotheses of `Obligations.ClassificationCommandsComplete` are met. -/
theorem witness_ClassificationCommandsComplete :
    (∃ (q : Req) (es : List WEntry) (s : State), takenUp ciClsParserWrite q s = true ∧ parserErr es = none ∧ (∀ p ∈ poweredPipes s, s.get .CLS_GEN_COPYING p ≠ 1)) ∧
    (∃ (q : Req) (es : List WEntry) (s : State) (st : Nat × Nat), takenUp ciClsParserWrite q s = true ∧ parserErr es = none ∧ notCopying s = some st) ∧
    (∃ (q : Req) (es : List ProfEntry) (s : State), takenUp ciClsProfileWrite q s = true ∧ ((∀ e ∈ es, e.index < 16 ∧ profOk e.prof = true)) ∧ (∀ p ∈ poweredPipes s, s.get .CLS_GEN_COPYING p ≠ 1)) ∧
    (∃ (q : Req) (es : List REntry) (s : State), es.length ≤ 64 ∧ takenUp ciClsRuleWrite q s = true) ∧
    (∃ (q : Req) (s : State), takenUp ciClsRuleDelete q s = true) ∧
    (∃ (e : REntry), ruleOk e.index (ruleOf e.data) = true) ∧
    (∃ (e : REntry), ruleOk e.index (ruleOf e.data) = false) ∧
    (∃ (e : REntry), e.index < 65536) ∧
    (∃ (q : Req) (s : State), takenAtomic (ciClsFlip s) q s = true ∧ (∀ p ∈ poweredPipes s, s.get .CLS_GEN_COPYING p ≠ 1)) ∧
    (∃ (q : Req) (es : List WEntry) (s : State), takenUp ciClsStart q s = true ∧ wErr (fun f => f == Fld.PIPE_START_TYPE) es = none) ∧
    (∃ (q : Req) (es : List WEntry) (s : State), takenUp ciClsExcConfig q s = true ∧ wErr (fun f => f ∈ [Fld.EXC_CFG_QUEUE, .EXC_CFG_ORDERED, .EXC_CFG_RATE, .EXC_CFG_BURST]) es = none) :=
    ⟨⟨host, [], ready, by decide +kernel, by decide +kernel, fun _ _ => (by decide : (0 : Nat) ≠ 1)⟩,
    ⟨host, [], (ready.set .CLS_GEN_COPYING 1 0), (stBusy, 4), by decide +kernel⟩,
    ⟨host, [], ready, by decide +kernel, by decide +kernel, fun _ _ => (by decide : (0 : Nat) ≠ 1)⟩,
    ⟨host, [], ready, by decide +kernel⟩,
    ⟨host, ready, by decide +kernel⟩,
    ⟨⟨0, 0⟩, by decide +kernel⟩,
    ⟨⟨65536, 0⟩, by decide +kernel⟩,
    ⟨⟨0, 0⟩, by decide +kernel⟩,
    ⟨host, ready, by decide +kernel, fun _ _ => (by decide : (0 : Nat) ≠ 1)⟩,
    ⟨host, [], ready, by decide +kernel⟩,
    ⟨host, [], ready, by decide +kernel⟩⟩

/-- The hypotheses of `Obligations.PipelineEventsComplete` are met. -/
theorem witness_PipelineEventsComplete :
    (∃ (k : Nat) (p : Fin 8) (s : State), hasItem s k = true ∧ s.restarting (4 + p.val) = true ∧ mayParse s (s.item k) = true) ∧
    (∃ (k : Nat) (p : Fin 8) (s : State), (hasItem s k = false ∨ mayParse s (s.item k) = false ∨ (s.restarting (4 + p.val) = false ∧ (pipeOn s p = false ∨ recircTo s (s.item k).recirc p = false)))) ∧
    (∃ (k : Nat) (p : Fin 8) (s : State) (c : Nat) (a : Nat), hasItem s k = true ∧ s.restarting (4 + p.val) = false ∧ pipeOn s p = true ∧ recircTo s (s.item k).recirc p = true ∧ mayParse s (s.item k) = true ∧ (s.item k).direct = some (40, c, a)) ∧
    (∃ (k : Nat) (p : Fin 8) (s : State) (d : Nat) (c : Nat) (a : Nat), hasItem s k = true ∧ s.restarting (4 + p.val) = false ∧ pipeOn s p = true ∧ recircTo s (s.item k).recirc p = true ∧ mayParse s (s.item k) = true ∧ (s.item k).direct = some (d, c, a) ∧ d ≠ 40) ∧
    (∃ (k : Nat) (p : Fin 8) (s : State) (u : State) (r : Parsed), hasItem s k = true ∧ s.restarting (4 + p.val) = false ∧ pipeOn s p = true ∧ recircTo s (s.item k).recirc p = true ∧ mayParse s (s.item k) = true ∧ u = undoze (4 + p.val) s ∧ r = parseFrame (Tab.get {} u.cls.active p) (u.get .PIPE_START_TYPE p (s.item k).slot) (s.item k).bytes ∧ (s.item k).direct = none ∧ (r.parseErr = true ∨ r.profile = 16)) ∧
    (∃ (k : Nat) (p : Fin 8) (s : State) (t : State) (u : State) (r : Parsed) (prof : _) (key : _) (v : _), hasItem s k = true ∧ s.restarting (4 + p.val) = false ∧ pipeOn s p = true ∧ recircTo s (s.item k).recirc p = true ∧ mayParse s (s.item k) = true ∧ u = undoze (4 + p.val) s ∧ r = parseFrame (Tab.get {} u.cls.active p) (u.get .PIPE_START_TYPE p (s.item k).slot) (s.item k).bytes ∧ t = u.setItem k (fun i => { i with parsed := some { r with profile := r.profile % 16 }, gen := u.get .CLS_GEN_GEN p, cluster := p, counts := i.counts ++ parseCounts p r }) ∧ (s.item k).direct = none ∧ r.parseErr = false ∧ r.profile ≠ 16 ∧ prof = Tab.get {} (Tab.get {} u.cls.active p).profiles r.profile ∧ key = buildKey (s.item k) r prof ∧ v = t.setItem k (fun i => { i with key := key, wide := prof.wide }) ∧ findRule v (p.val / 2) prof.wide r.profile (v.get .CLS_GEN_PLANE p) key = none) ∧
    (∃ (k : Nat) (p : Fin 8) (s : State) (t : State) (u : State) (r : Parsed) (prof : _) (key : _) (v : _) (idx : Nat) (rule : Rule), hasItem s k = true ∧ s.restarting (4 + p.val) = false ∧ pipeOn s p = true ∧ recircTo s (s.item k).recirc p = true ∧ mayParse s (s.item k) = true ∧ u = undoze (4 + p.val) s ∧ r = parseFrame (Tab.get {} u.cls.active p) (u.get .PIPE_START_TYPE p (s.item k).slot) (s.item k).bytes ∧ t = u.setItem k (fun i => { i with parsed := some { r with profile := r.profile % 16 }, gen := u.get .CLS_GEN_GEN p, cluster := p, counts := i.counts ++ parseCounts p r }) ∧ (s.item k).direct = none ∧ r.parseErr = false ∧ r.profile ≠ 16 ∧ prof = Tab.get {} (Tab.get {} u.cls.active p).profiles r.profile ∧ key = buildKey (s.item k) r prof ∧ v = t.setItem k (fun i => { i with key := key, wide := prof.wide }) ∧ findRule v (p.val / 2) prof.wide r.profile (v.get .CLS_GEN_PLANE p) key = some (idx, rule)) ∧
    (∃ (k : Nat) (klen : Nat) (s : State) (it : Item) (d : Decision) (f : Found), it = s.item k ∧ bits it.action 60 4 ≠ 0 ∧ decide_ s it (it.parsed.getD {}) klen false = (d, f)) ∧
    (∃ (k : Nat) (klen : Nat) (s : State) (t : State) (it : Item) (prof : LookupProfile) (d : Decision) (f : Found), it = s.item k ∧ prof = lprofOf s (bits it.action 48 6) ∧ bits it.action 60 4 = 0 ∧ t = s.setItem k (fun i => { i with lprof := prof, learn := learnOf s prof i.key klen i.slot i.vport }) ∧ decide_ t (t.item k) (it.parsed.getD {}) klen false = (d, f) ∧ f.hbm = true ∧ behaviour t = 0) ∧
    (∃ (k : Nat) (klen : Nat) (s : State) (t : State) (it : Item) (prof : LookupProfile) (d : Decision) (f : Found), it = s.item k ∧ prof = lprofOf s (bits it.action 48 6) ∧ bits it.action 60 4 = 0 ∧ t = s.setItem k (fun i => { i with lprof := prof, learn := learnOf s prof i.key klen i.slot i.vport }) ∧ decide_ t (t.item k) (it.parsed.getD {}) klen false = (d, f) ∧ (f.hbm = false ∨ behaviour t ≠ 0)) ∧
    (∃ (k : Nat) (klen : Nat) (s : State) (it : Item) (prof : LookupProfile) (w : Fin 8) (e : Nat), it = s.item k ∧ prof = lprofOf s (bits it.action 48 6) ∧ bits it.action 60 4 = 0 ∧ prof.emEn = true ∧ ((emBuckets false s (emKeyOf prof it.key klen)).flatMap emWays)[w.val]? = some e) ∧
    (∃ (k : Nat) (s : State), (s.item k).points.contains 4 = false) ∧
    (∃ (k : Nat) (ok : Bool) (s : State) (hit : Bool) (t : State), (s.item k).points.contains 4 = true ∧ inject 2 (s.get .TEST_INJECT_TARGET 2) s = (hit, t) ∧ (ok = false ∨ (hit = true ∧ s.get .TEST_INJECT_BITS 2 = 2))) ∧
    (∃ (k : Nat) (ok : Bool) (s : State) (hit : Bool) (klen : Nat) (bucket : Nat) (stack : Nat) (d : Decision) (f : Found) (t : State) (u : State), (s.item k).points.contains 4 = true ∧ klen = (if (s.item k).wide then 64 else 32) ∧ bucket = ((emBuckets true s (emKeyOf (s.item k).lprof (s.item k).key klen)).head?).getD 0 ∧ inject 2 (s.get .TEST_INJECT_TARGET 2) s = (hit, t) ∧ stack = (if hit then t.get .TEST_INJECT_TARGET 2 % 4 else Config.unitOf 27 bucket % 4) ∧ u = t.when (hit || !ok) (reportUnit (27 + stack) (b2n (!ok || s.get .TEST_INJECT_BITS 2 == 2)) bucket []) ∧ ok = true ∧ (hit = false ∨ s.get .TEST_INJECT_BITS 2 ≠ 2) ∧ decide_ u (s.item k) ((s.item k).parsed.getD {}) klen true = (d, f) ∧ (s.item k).decision = none) ∧
    (∃ (k : Nat) (ok : Bool) (s : State) (hit : Bool) (klen : Nat) (bucket : Nat) (stack : Nat) (d : Decision) (f : Found) (t : State) (u : State), (s.item k).points.contains 4 = true ∧ klen = (if (s.item k).wide then 64 else 32) ∧ bucket = ((emBuckets true s (emKeyOf (s.item k).lprof (s.item k).key klen)).head?).getD 0 ∧ inject 2 (s.get .TEST_INJECT_TARGET 2) s = (hit, t) ∧ stack = (if hit then t.get .TEST_INJECT_TARGET 2 % 4 else Config.unitOf 27 bucket % 4) ∧ u = t.when (hit || !ok) (reportUnit (27 + stack) (b2n (!ok || s.get .TEST_INJECT_BITS 2 == 2)) bucket []) ∧ ok = true ∧ (hit = false ∨ s.get .TEST_INJECT_BITS 2 ≠ 2) ∧ decide_ u (s.item k) ((s.item k).parsed.getD {}) klen true = (d, f) ∧ (s.item k).decision ≠ none ∧ f.counts.contains .TBL_EM_HIT_HBM = true) ∧
    (∃ (k : Nat) (ok : Bool) (s : State) (hit : Bool) (klen : Nat) (bucket : Nat) (stack : Nat) (d : Decision) (f : Found) (t : State) (u : State), (s.item k).points.contains 4 = true ∧ klen = (if (s.item k).wide then 64 else 32) ∧ bucket = ((emBuckets true s (emKeyOf (s.item k).lprof (s.item k).key klen)).head?).getD 0 ∧ inject 2 (s.get .TEST_INJECT_TARGET 2) s = (hit, t) ∧ stack = (if hit then t.get .TEST_INJECT_TARGET 2 % 4 else Config.unitOf 27 bucket % 4) ∧ u = t.when (hit || !ok) (reportUnit (27 + stack) (b2n (!ok || s.get .TEST_INJECT_BITS 2 == 2)) bucket []) ∧ ok = true ∧ (hit = false ∨ s.get .TEST_INJECT_BITS 2 ≠ 2) ∧ decide_ u (s.item k) ((s.item k).parsed.getD {}) klen true = (d, f) ∧ (s.item k).decision ≠ none ∧ f.counts.contains .TBL_EM_HIT_HBM = false) ∧
    (∃ (s : State), s.now < s.cls.checkSince + uUs) ∧
    (∃ (upset : Fin 16) (s : State) (e : Nat) (good : Rule) (bad : List Nat), e = s.cls.checkPos ∧ good = Tab.get {} s.cls.master e ∧ bad = (List.range 4).filter (fun r => bit upset r || decide (Tab.get {} s.cls.replicas (r * 65536 + e) ≠ good)) ∧ s.cls.checkSince + uUs ≤ s.now ∧ bad = []) ∧
    (∃ (upset : Fin 16) (s : State) (e : Nat) (good : Rule) (bad : List Nat), e = s.cls.checkPos ∧ good = Tab.get {} s.cls.master e ∧ bad = (List.range 4).filter (fun r => bit upset r || decide (Tab.get {} s.cls.replicas (r * 65536 + e) ≠ good)) ∧ s.cls.checkSince + uUs ≤ s.now ∧ bad ≠ []) ∧
    (∃ (p : Fin 8) (s : State), (Tab.get 0 s.cls.loading p = 0 ∨ tablesLoading s = true)) ∧
    (∃ (p : Fin 8) (s : State), Tab.get 0 s.cls.loading p ≠ 0 ∧ tablesLoading s = false ∧ (∀ a, a < 8 → pipeOn s a = false)) ∧
    (∃ (p : Fin 8) (s : State) (a : Nat), Tab.get 0 s.cls.loading p ≠ 0 ∧ tablesLoading s = false ∧ a < 8 ∧ pipeOn s a = true ∧ (∀ x, x < a → pipeOn s x = false)) ∧
    (∃ (s : State), s.now < s.cls.excSince + uUs) ∧
    (∃ (s : State), s.cls.excSince + uUs ≤ s.now) ∧
    (∃ (v : Nat) (s : State), v < 65536 ∧ s.get .TBL_LEARN_RING_TAIL = v) ∧
    (∃ (v : Nat) (s : State), v < 65536 ∧ s.get .TBL_LEARN_RING_TAIL ≠ v) ∧
    (∃ (s : State), s.get .TBL_STATE_REBUILDING ≠ 1) ∧
    (∃ (s : State), s.get .TBL_STATE_REBUILDING = 1) ∧
    (∃ (s : State), (s.tables.staging = none ∨ storeHeld s = true ∨ s.safe = true)) ∧
    (∃ (s : State) (c : Nat) (snap : Snapshot), s.tables.staging = some (c, snap) ∧ storeHeld s = false ∧ s.safe = false) ∧
    (∃ (s : State), (s.get .SYS_BOOT_KIND ≠ 1 ∨ s.get .SYS_BOOT_PHASE ≠ 11)) ∧
    (∃ (s : State), s.get .SYS_BOOT_KIND = 1 ∧ s.get .SYS_BOOT_PHASE = 11 ∧ (s.tables.newest = 0 ∨ (∃ c, s.tables.newest = c + 1 ∧ Tab.get none s.tables.copies c = none))) ∧
    (∃ (s : State) (c : Nat) (snap : Snapshot), s.get .SYS_BOOT_KIND = 1 ∧ s.get .SYS_BOOT_PHASE = 11 ∧ s.tables.newest = c + 1 ∧ Tab.get none s.tables.copies c = some snap ∧ snap.version ≠ Config.snapshotFormat (s.get .SYS_IMAGE_BUILD)) ∧
    (∃ (s : State) (c : Nat) (snap : Snapshot), s.get .SYS_BOOT_KIND = 1 ∧ s.get .SYS_BOOT_PHASE = 11 ∧ s.tables.newest = c + 1 ∧ Tab.get none s.tables.copies c = some snap ∧ snap.version = Config.snapshotFormat (s.get .SYS_IMAGE_BUILD) ∧ snap.serials ≠ serials s) ∧
    (∃ (s : State) (c : Nat) (snap : Snapshot), s.get .SYS_BOOT_KIND = 1 ∧ s.get .SYS_BOOT_PHASE = 11 ∧ s.tables.newest = c + 1 ∧ Tab.get none s.tables.copies c = some snap ∧ snap.version = Config.snapshotFormat (s.get .SYS_IMAGE_BUILD) ∧ snap.serials = serials s) :=
    ⟨⟨0, 0, ((parsing 0).set .FLT_RECOVERY_LEVEL 2 4), by decide +kernel⟩,
    ⟨0, 0, ready, by decide +kernel⟩,
    ⟨0, 0, ((parsing 0).setItem 0 (fun y => { y with direct := some (40, 0, 0) })), 0, 0, by decide +kernel⟩,
    ⟨0, 0, ((parsing 63).setItem 0 (fun y => { y with direct := some (5, 3, 7) })), 5, 3, 7, by decide +kernel⟩,
    ⟨0, 0, ((parsing 63).setItem 0 (fun y => { y with direct := none })), _, _, by decide +kernel, by decide +kernel, by decide +kernel, (by decide +kernel), by decide +kernel, rfl, rfl, by decide +kernel⟩,
    ⟨0, 0, ((parsing 0).setItem 0 (fun y => { y with direct := none })), _, _, _, _, _, _, by decide +kernel, by decide +kernel, by decide +kernel, (by decide +kernel), by decide +kernel, rfl, rfl, rfl, by decide +kernel, by decide +kernel, by decide +kernel, rfl, rfl, rfl, by decide +kernel⟩,
    ⟨0, 0, (((parsing 0).setCls (fun c => { c with replicas := [(0, { control := 2 ^ 63 + 2 ^ 61 + 2 ^ 55 })] })).setItem 0 (fun y => { y with direct := none })), _, _, _, _, _, _, 0, { control := 2 ^ 63 + 2 ^ 61 + 2 ^ 55 }, by decide +kernel, by decide +kernel, by decide +kernel, (by decide +kernel), by decide +kernel, rfl, rfl, rfl, by decide +kernel, by decide +kernel, by decide +kernel, rfl, rfl, rfl, by decide +kernel⟩,
    ⟨0, 0, (ready.setItem 0 (fun i => { i with action := 2 ^ 60 })), _, _, _, rfl, by decide +kernel, Prod.mk.eta.symm⟩,
    ⟨0, 0, (((ready.set .SW_RELEASE_BEHAVIOUR 0).set .TBL_LPROF_EM_EN 1).set .TBL_STATE_FILTER_ALL_ONES 1), _, _, _, _, _, rfl, rfl, by decide +kernel, rfl, Prod.mk.eta.symm, by decide +kernel⟩,
    ⟨0, 0, ready, _, _, _, _, _, rfl, rfl, by decide +kernel, rfl, Prod.mk.eta.symm, by decide +kernel⟩,
    ⟨0, 0, (ready.set .TBL_LPROF_EM_EN 1), _, _, 0, 158632, rfl, rfl, by decide +kernel⟩,
    ⟨0, ready, by decide +kernel⟩,
    ⟨0, false, (ready.setItem 0 (fun i => { i with points := [4] })), _, _, by decide +kernel, Prod.mk.eta.symm, by decide +kernel⟩,
    ⟨0, _, ((ready.setItem 0 (fun y => { y with decision := none })).setItem 0 (fun i => { i with points := [4] })), _, _, _, _, _, _, _, _, by decide +kernel, rfl, rfl, Prod.mk.eta.symm, rfl, rfl, rfl, by decide +kernel, Prod.mk.eta.symm, by decide +kernel⟩,
    ⟨0, _, (((ready.setItem 0 (fun i => { i with points := [4], decision := some .drop, lprof := { emEn := true } })).set .TBL_STATE_FILTER_ALL_ONES 1).setTbl (fun t => { t with ext := [(34833620, { valid := true })] })), _, _, _, _, _, _, _, _, by decide +kernel, rfl, rfl, Prod.mk.eta.symm, rfl, rfl, rfl, by decide +kernel, Prod.mk.eta.symm, by decide +kernel⟩,
    ⟨0, _, (ready.setItem 0 (fun i => { i with points := [4], decision := some .drop })), _, _, _, _, _, _, _, _, by decide +kernel, rfl, rfl, Prod.mk.eta.symm, rfl, rfl, rfl, by decide +kernel, Prod.mk.eta.symm, by decide +kernel⟩,
    ⟨ready, by decide +kernel⟩,
    ⟨0, (let y : State := ready; { y with now := ready.cls.checkSince + uUs }), _, _, _, rfl, rfl, rfl, by decide +kernel⟩,
    ⟨1, (let y : State := ready; { y with now := ready.cls.checkSince + uUs }), _, _, _, rfl, rfl, rfl, by decide +kernel⟩,
    ⟨0, (let y : State := ready; { y with cls := { y.cls with loading := Tab.put 0 y.cls.loading 0 (0) } }), by decide +kernel⟩,
    ⟨0, (ready.setCls (fun c => { c with loading := [(0,1),(1,1),(2,1),(3,1),(4,1),(5,1),(6,1),(7,1)] })), by decide +kernel, by decide +kernel, by intro a ha; interval_cases a <;> decide +kernel⟩,
    ⟨1, (ready.setCls (fun c => { c with loading := [(1, 1)] })), 0, by decide +kernel, by decide +kernel, by decide +kernel, (by decide +kernel), fun _ h => absurd h (Nat.not_lt_zero _)⟩,
    ⟨ready, by decide +kernel⟩,
    ⟨(let y : State := ready; { y with now := ready.cls.excSince + uUs }), by decide +kernel⟩,
    ⟨0, (ready.set .TBL_LEARN_RING_TAIL 0), by decide +kernel⟩,
    ⟨0, (ready.set .TBL_LEARN_RING_TAIL 1), by decide +kernel⟩,
    ⟨(ready.set .TBL_STATE_REBUILDING 0), by decide +kernel⟩,
    ⟨(ready.set .TBL_STATE_REBUILDING 1), by decide +kernel⟩,
    ⟨(let y : State := ready; { y with tables := { y.tables with staging := none } }), by decide +kernel⟩,
    ⟨(let y : State := ready; { y with tables := { y.tables with staging := some (0, (⟨0, 0, [], {}⟩)) } }), 0, ⟨0, 0, [], {}⟩, by decide +kernel⟩,
    ⟨(ready.set .SYS_BOOT_KIND 0), by decide +kernel⟩,
    ⟨(let y : State := ((ready.set .SYS_BOOT_KIND 1).set .SYS_BOOT_PHASE 11); { y with tables := { y.tables with newest := 0 } }), by decide +kernel, by decide +kernel, .inl (by decide +kernel)⟩,
    ⟨(let y : State := (let y : State := ((ready.set .SYS_BOOT_KIND 1).set .SYS_BOOT_PHASE 11); { y with tables := { y.tables with newest := 0 + 1 } }); { y with tables := { y.tables with copies := Tab.put none y.tables.copies 0 (some ((⟨0, Config.snapshotFormat (ready.get .SYS_IMAGE_BUILD) + 1, [], {}⟩ : Snapshot))) } }), 0, (⟨0, Config.snapshotFormat (ready.get .SYS_IMAGE_BUILD) + 1, [], {}⟩ : Snapshot), by decide +kernel, by decide +kernel, by decide +kernel, rfl, by show Config.snapshotFormat _ + 1 ≠ Config.snapshotFormat _; exact Nat.succ_ne_self _⟩,
    ⟨(let y : State := (let y : State := ((ready.set .SYS_BOOT_KIND 1).set .SYS_BOOT_PHASE 11); { y with tables := { y.tables with newest := 3 + 1 } }); { y with tables := { y.tables with copies := Tab.put none y.tables.copies 3 (some ((⟨1, Config.snapshotFormat 0, [], {}⟩ : Snapshot))) } }), 3, (⟨1, Config.snapshotFormat 0, [], {}⟩ : Snapshot), by decide +kernel, by decide +kernel, by decide +kernel, rfl, rfl, by decide +kernel⟩,
    ⟨(let y : State := (let y : State := ((ready.set .SYS_BOOT_KIND 1).set .SYS_BOOT_PHASE 11); { y with tables := { y.tables with newest := 0 + 1 } }); { y with tables := { y.tables with copies := Tab.put none y.tables.copies 0 (some ((⟨0, Config.snapshotFormat (ready.get .SYS_IMAGE_BUILD), serials ready, {}⟩ : Snapshot))) } }), 0, (⟨0, Config.snapshotFormat (ready.get .SYS_IMAGE_BUILD), serials ready, {}⟩ : Snapshot), by decide +kernel, by decide +kernel, by decide +kernel, rfl, rfl, rfl⟩⟩

/-- The hypotheses of `Obligations.TableCommandsComplete` are met. -/
theorem witness_TableCommandsComplete :
    (∃ (q : Req) (tier : Nat) (es : List REntry) (s : State), tblReady q s = none ∧ es.length ≤ 64 ∧ tier < 3 ∧ takenUp ciTblEmInsert q s = true) ∧
    (∃ (q : Req) (es : List REntry) (s : State), tblReady q s = none ∧ es.length ≤ 64 ∧ takenUp ciTblEmDelete q s = true) ∧
    (∃ (q : Req) (es : List REntry) (s : State), tblReady q s = none ∧ es.length ≤ 64 ∧ takenUp ciTblLpmInsert q s = true) ∧
    (∃ (q : Req) (es : List REntry) (s : State), tblReady q s = none ∧ es.length ≤ 64 ∧ takenUp ciTblLpmDelete q s = true) ∧
    (∃ (q : Req) (es : List REntry) (s : State), tblReady q s = none ∧ es.length ≤ 64 ∧ takenUp ciTblNhWrite q s = true) ∧
    (∃ (q : Req) (es : List REntry) (s : State), tblReady q s = none ∧ es.length ≤ 64 ∧ takenUp ciTblEcmpWrite q s = true) ∧
    (∃ (e : REntry), e.index < 262144 ∧ bits e.data 121 6 ≤ 35 ∧ bits e.data 0 36 = 0) ∧
    (∃ (e : REntry), (262144 ≤ e.index ∨ 35 < bits e.data 121 6 ∨ bits e.data 0 36 ≠ 0)) ∧
    (∃ (e : REntry), e.index < 16384 ∧ bits e.data 62 1 = 0 ∧ bits e.data 0 36 = 0) ∧
    (∃ (e : REntry) (i : _), e.index = 2 ^ 32 + i ∧ i < 262144 ∧ bits e.data 50 14 = 0 ∧ bits e.data 0 32 = 0) ∧
    (∃ (e : REntry), ((16384 ≤ e.index ∧ e.index < 2 ^ 32) ∨ 2 ^ 32 + 262144 ≤ e.index)) ∧
    (∃ (e : REntry), resultOk (bits e.data 62 2) (bits e.data 44 18) = true ∧ bits e.data 40 4 = 0 ∧ bits e.data 0 6 = 0) ∧
    (∃ (e : REntry), (resultOk (bits e.data 62 2) (bits e.data 44 18) = false ∨ bits e.data 40 4 ≠ 0 ∨ bits e.data 0 6 ≠ 0)) ∧
    (∃ (e : REntry) (v6 : _) (vrf : _) (a : _) (r : _), prefixOf e.data = some (v6, vrf, a, r)) ∧
    (∃ (e : REntry), prefixOf e.data = none) ∧
    (∃ (q : Req) (key : Nat) (s : State) (k : Nat), key < 2 ^ 128 ∧ takenUp ciTblEmFind q s = true ∧ tblReady q s = none ∧ emFind false s key = some k) ∧
    (∃ (q : Req) (key : Nat) (s : State) (k : Nat), key < 2 ^ 128 ∧ takenUp ciTblEmFind q s = true ∧ tblReady q s = none ∧ emFind false s key = none ∧ emFind true s key = some k) ∧
    (∃ (q : Req) (key : Nat) (s : State), key < 2 ^ 128 ∧ takenUp ciTblEmFind q s = true ∧ tblReady q s = none ∧ emFind false s key = none ∧ emFind true s key = none) ∧
    (∃ (q : Req) (es : List WEntry) (s : State), takenAtomic ciTblProfileWrite q s = true ∧ tblReady q s = none ∧ wErr lprofAllow es = none) ∧
    (∃ (q : Req) (base : Nat) (hold : Nat) (s : State), takenAtomic ciTblLearnConfig q s = true ∧ tblReady q s = none ∧ base < 2 ^ 64 ∧ 1 ≤ hold ∧ hold < 65536) ∧
    (∃ (q : Req) (first : Nat) (count : Nat) (s : State), takenUp ciTblHitScan q s = true ∧ tblReady q s = none ∧ first < emEntries s ∧ first + count ≤ emEntries s) ∧
    (∃ (q : Req) (s : State), takenUp ciTblSnapshot q s = true ∧ s.get .TBL_SNAP_WRITING = 1) ∧
    (∃ (q : Req) (s : State), takenUp ciTblSnapshot q s = true ∧ s.get .TBL_SNAP_WRITING ≠ 1 ∧ tblReady q s = none) ∧
    (∃ (q : Req) (s : State), takenUp ciTblFilterRebuild q s = true ∧ tblReady q s = none) ∧
    (∃ (q : Req) (s : State), heldBack ciTblFilterRebuild s = false ∧ gate ciTblFilterRebuild q s = none ∧ s.get .SYS_BOOT_KIND = 1 ∧ s.get .SYS_BOOT_PHASE < 12 ∧ q.src ≠ .journal) :=
    ⟨⟨host, 0, [], ready, by decide +kernel⟩,
    ⟨host, [], ready, by decide +kernel⟩,
    ⟨host, [], ready, by decide +kernel⟩,
    ⟨host, [], ready, by decide +kernel⟩,
    ⟨host, [], ready, by decide +kernel⟩,
    ⟨host, [], ready, by decide +kernel⟩,
    ⟨⟨0, 0⟩, by decide +kernel⟩,
    ⟨⟨262144, 0⟩, by decide +kernel⟩,
    ⟨⟨0, 0⟩, by decide +kernel⟩,
    ⟨⟨2 ^ 32, 0⟩, 0, by decide +kernel⟩,
    ⟨⟨16384, 0⟩, by decide +kernel⟩,
    ⟨⟨0, 0⟩, by decide +kernel⟩,
    ⟨⟨0, 2 ^ 40⟩, by decide +kernel⟩,
    ⟨⟨0, 0⟩, 0, 0, 0, 0, by decide +kernel⟩,
    ⟨⟨0, 2 ^ 64⟩, by decide +kernel⟩,
    ⟨host, 0, (ready.setTbl (fun t => { t with t := { t.t with em := [(158632, { valid := true })] } })), 158632, by decide +kernel⟩,
    ⟨host, 0, (ready.setTbl (fun t => { t with ext := [(34833620, { valid := true })] })), 34833620, by decide +kernel⟩,
    ⟨host, 0, ready, by decide +kernel⟩,
    ⟨host, [], ready, by decide +kernel⟩,
    ⟨host, 0, 1, ready, by decide +kernel⟩,
    ⟨host, 0, 0, ready, by decide +kernel⟩,
    ⟨host, (ready.set .TBL_SNAP_WRITING 1), by decide +kernel⟩,
    ⟨host, (ready.set .TBL_SNAP_WRITING 0), by decide +kernel⟩,
    ⟨host, ready, by decide +kernel⟩,
    ⟨host, (ready.set .SYS_BOOT_KIND 1), by decide +kernel⟩⟩

/-- The hypotheses of `Obligations.SwitchAndPoolCommandsComplete` are met. -/
theorem witness_SwitchAndPoolCommandsComplete :
    (∃ (q : Req) (es : List WEntry) (s : State), takenAtomic ciSwConfig q s = true ∧ wErr (fun f => [Fld.SW_SPILL_GLOBAL_FREE, .SW_SPILL_QUEUE_CELLS, .SW_SHARED_RESERVE, .SW_RELEASE_SPEC_EN].contains f) es = none) ∧
    (∃ (q : Req) (es : List WEntry) (s : State), takenAtomic ciSwDestConfig q s = true ∧ wErr (fun f => [Fld.SW_DEST_ALLOC_DOWN_FLUSH_MS, .SW_DEST_ALLOC_DOWN_ACTION, .SW_DEST_ALLOC_SHARED_LIMIT].contains f) es = none ∧ ((∀ e ∈ es, ∀ w ∈ wWrites .SW_DEST_ALLOC_DOWN_ACTION [e], w.1 < 32 ∨ w.2.2 ≠ 1))) ∧
    (∃ (q : Req) (es : List WEntry) (s : State) (e : WEntry) (rest : List WEntry), takenAtomic ciSwDestConfig q s = true ∧ wErr (fun f => [Fld.SW_DEST_ALLOC_DOWN_FLUSH_MS, .SW_DEST_ALLOC_DOWN_ACTION, .SW_DEST_ALLOC_SHARED_LIMIT].contains f) es = none ∧ es = e :: rest ∧ ((∃ w ∈ wWrites .SW_DEST_ALLOC_DOWN_ACTION [e], 32 ≤ w.1 ∧ w.2.2 = 1))) ∧
    (∃ (q : Req) (es : List WEntry) (s : State), takenAtomic ciSwIngConfig q s = true ∧ wErr (fun f => [Fld.SW_ING_LOSSLESS, .SW_ING_HEADROOM, .SW_ING_XOFF, .SW_ING_XON].contains f) es = none ∧ (∀ k, (wApplyAll s es).get .SW_ING_XON k < (wApplyAll s es).get .SW_ING_XOFF k)) ∧
    (∃ (q : Req) (es : List REntry) (s : State), es.length ≤ 64 ∧ takenUp ciSwQueueConfig q s = true) ∧
    (∃ (e : REntry) (dest : Nat) (pool : Nat), dest = bits e.data 120 6 ∧ pool = bits e.data 115 5 ∧ (131072 ≤ e.index ∨ 41 < dest ∨ bits e.data 1 5 ≠ 0 ∨ (40 ≤ dest ∧ 16 ≤ pool))) ∧
    (∃ (e : REntry) (dest : Nat) (pool : Nat) (s : State), dest = bits e.data 120 6 ∧ pool = bits e.data 115 5 ∧ e.index < 131072 ∧ dest ≤ 41 ∧ bits e.data 1 5 = 0 ∧ (dest < 40 ∨ pool < 16) ∧ dest ≠ (s.queue e.index).dest ∧ s.copies.any (fun c => c.2.queue == e.index && decide (c.2.phase = 0)) = true) ∧
    (∃ (e : REntry) (dest : Nat) (pool : Nat) (s : State), dest = bits e.data 120 6 ∧ pool = bits e.data 115 5 ∧ e.index < 131072 ∧ dest ≤ 41 ∧ bits e.data 1 5 = 0 ∧ (dest < 40 ∨ pool < 16) ∧ (dest = (s.queue e.index).dest ∨ s.copies.any (fun c => c.2.queue == e.index && decide (c.2.phase = 0)) = false)) ∧
    (∃ (q : Req) (mask : Nat) (s : State), mask < 2 ^ 42 ∧ takenUp ciSwPortFlush q s = true) ∧
    (∃ (q : Req) (es : List WEntry) (s : State), takenUp ciSwSageConfig q s = true ∧ wErr (fun f => f == Fld.SW_SAGE_EN) es = none) ∧
    (∃ (q : Req) (es : List WEntry) (s : State), takenAtomic ciBpmPoolConfig q s = true ∧ wErr (fun f => poolFields.contains f) es = none ∧ (∀ p ∈ poolsTouched es, poolIdle s p = true) ∧ poolErr es s = none) ∧
    (∃ (q : Req) (es : List WEntry) (s : State) (p : _), p ∈ poolsTouched es ∧ takenAtomic ciBpmPoolConfig q s = true ∧ wErr (fun f => poolFields.contains f) es = none ∧ poolIdle s p = false) ∧
    (∃ (q : Req) (pool : Nat) (count : Nat) (s : State) (t : State) (addrs : List Nat), pool < 16 ∧ 1 ≤ count ∧ count ≤ 64 ∧ takenUp ciBpmAlloc q s = true ∧ s.get .BPM_OWNER_IN_RESET q.user ≠ 1 ∧ allocMany pool q.user count s = some (t, addrs)) ∧
    (∃ (q : Req) (pool : Nat) (count : Nat) (s : State), pool < 16 ∧ 1 ≤ count ∧ count ≤ 64 ∧ takenUp ciBpmAlloc q s = true ∧ s.get .BPM_OWNER_IN_RESET q.user ≠ 1 ∧ allocMany pool q.user count s = none) ∧
    (∃ (q : Req) (es : List REntry) (s : State), es.length ≤ 64 ∧ takenUp ciBpmFree q s = true) ∧
    (∃ (q : Req) (es : List REntry) (s : State), es.length ≤ 64 ∧ takenUp ciBpmHandoff q s = true) ∧
    (∃ (owner : Nat) (addr : Nat) (target : Option Nat) (s : State) (row : _), s.get .BPM_OWNER_IN_RESET owner ≠ 1 ∧ bpmCheck s owner addr target = .inl row) ∧
    (∃ (owner : Nat) (addr : Nat) (s : State) (p : Nat) (k : Nat), s.get .BPM_OWNER_IN_RESET owner ≠ 1 ∧ bpmCheck s owner addr none = .inr (p, k)) ∧
    (∃ (owner : Nat) (addr : Nat) (s : State) (p : Nat) (k : Nat) (t : Nat), s.get .BPM_OWNER_IN_RESET owner ≠ 1 ∧ bpmCheck s owner addr (some t) = .inr (p, k)) ∧
    (∃ (q : Req) (s : State), takenUp ciBpmAudit q s = true) :=
    ⟨⟨host, [], ready, by decide +kernel⟩,
    ⟨host, [], ready, by decide +kernel⟩,
    ⟨host, [wd .SW_DEST_ALLOC_DOWN_ACTION 1 35], ready, wd .SW_DEST_ALLOC_DOWN_ACTION 1 35, [], by decide +kernel⟩,
    ⟨host, [], ready, by decide +kernel, by decide +kernel, fun _ => (by decide : (768 : Nat) < 1024)⟩,
    ⟨host, [], ready, by decide +kernel⟩,
    ⟨⟨131072, 0⟩, _, _, rfl, rfl, by decide +kernel⟩,
    ⟨⟨0, 2 ^ 120⟩, _, _, (ready.setCopy 0 (fun c => { c with len := 1 })), rfl, rfl, by decide +kernel⟩,
    ⟨⟨0, 0⟩, _, _, ready, rfl, rfl, by decide +kernel⟩,
    ⟨host, 0, ready, by decide +kernel⟩,
    ⟨host, [], ready, by decide +kernel⟩,
    ⟨host, [], ready, by decide +kernel, by decide +kernel, by first | decide +kernel | (intros; first | rfl | (simp_all; done) | decide), by decide +kernel⟩,
    ⟨host, [wd .BPM_POOL_CFG_COUNT 5 3], (ready.setPool 3 (fun p => { p with bufs := [(0, { out := true })] })), 3, by decide +kernel⟩,
    ⟨host, 0, 1, poolS, ((allocMany 0 0 1 poolS).getD (poolS, [])).1, ((allocMany 0 0 1 poolS).getD (poolS, [])).2, by decide +kernel⟩,
    ⟨host, 0, 1, (ready.set .BPM_OWNER_IN_RESET 0 host.user), by decide +kernel⟩,
    ⟨host, [], ready, by decide +kernel⟩,
    ⟨host, [], ready, by decide +kernel⟩,
    ⟨0, 0, none, (ready.set .BPM_OWNER_IN_RESET 0 0), 0, by decide +kernel⟩,
    ⟨3, 0, (((ready.set .BPM_POOL_CFG_COUNT 5 0).setPool 0 (fun p => { p with bufs := [(0, { out := true, owner := 3 })] })).set .BPM_OWNER_IN_RESET 0 3), 0, 0, by decide +kernel⟩,
    ⟨3, 0, (((ready.set .BPM_POOL_CFG_COUNT 5 0).setPool 0 (fun p => { p with bufs := [(0, { out := true, owner := 3 })] })).set .BPM_OWNER_IN_RESET 0 3), 0, 0, 0, by decide +kernel⟩,
    ⟨host, ready, by decide +kernel⟩⟩

/-- The hypotheses of `Obligations.SchedulingCommandsComplete` are met. -/
theorem witness_SchedulingCommandsComplete :
    (∃ (q : Req) (es : List REntry) (s : State), es.length ≤ 64 ∧ takenUp ciSchedNodeWrite q s = true) ∧
    (∃ (q : Req) (es : List REntry) (s : State), es.length ≤ 64 ∧ takenUp ciSchedQueueMap q s = true) ∧
    (∃ (q : Req) (reset : Bool) (es : List REntry) (s : State), es.length ≤ 64 ∧ takenUp (ciPolWrite reset) q s = true) ∧
    (∃ (q : Req) (es : List REntry) (s : State), es.length ≤ 64 ∧ takenUp ciPolCounterClear q s = true) ∧
    (∃ (n : Nat) (d : Nat) (s : State), nodeOk d = true ∧ n < 131072 ∧ destOfGroup s (bits d 112 14) ≠ (s.queue n).dest) ∧
    (∃ (n : Nat) (d : Nat) (s : State), nodeOk d = true ∧ n < 131072 ∧ destOfGroup s (bits d 112 14) = (s.queue n).dest ∧ bits d 112 14 ≠ (s.node 5 n).parent ∧ queuedBelow s 5 n = true) ∧
    (∃ (n : Nat) (d : Nat) (s : State), nodeOk d = true ∧ n < 131072 ∧ destOfGroup s (bits d 112 14) = (s.queue n).dest ∧ (bits d 112 14 = (s.node 5 n).parent ∨ queuedBelow s 5 n = false)) ∧
    (∃ (d : Nat), 4096 ≤ bits d 112 14) ∧
    (∃ (n : Nat) (d : Nat) (s : State), bits d 112 14 < 4096 ∧ bits d 112 14 ≠ (s.node 3 n).parent ∧ queuedBelow s 3 n = true) ∧
    (∃ (n : Nat) (d : Nat) (s : State), bits d 112 14 < 4096 ∧ (bits d 112 14 = (s.node 3 n).parent ∨ queuedBelow s 3 n = false)) ∧
    (∃ (n : Nat) (d : Nat), n < 256 ∧ bits d 112 14 ≠ 0) ∧
    (∃ (n : Nat) (d : Nat), n < 256 ∧ bits d 112 14 = 0) ∧
    (∃ (n : Nat) (d : Nat), 256 ≤ n ∧ (41 < bits d 112 14 ∨ (32 ≤ bits d 112 14 ∧ bits d 112 14 ≤ 35))) ∧
    (∃ (n : Nat) (d : Nat) (s : State), 256 ≤ n ∧ bits d 112 14 ≤ 41 ∧ (bits d 112 14 < 32 ∨ 35 < bits d 112 14) ∧ bits d 112 14 ≠ (s.node 2 n).parent ∧ queuedBelow s 2 n = true) ∧
    (∃ (n : Nat) (d : Nat) (s : State), 256 ≤ n ∧ bits d 112 14 ≤ 41 ∧ (bits d 112 14 < 32 ∨ 35 < bits d 112 14) ∧ (bits d 112 14 = (s.node 2 n).parent ∨ queuedBelow s 2 n = false)) ∧
    (∃ (e : REntry), (262144 ≤ e.index ∨ ((polOf e.data).trtcm = true ∧ (polOf e.data).pir < (polOf e.data).cir) ∨ (polOf e.data).src = 3)) ∧
    (∃ (e : REntry) (c : _), c = polOf e.data ∧ e.index < 262144 ∧ (c.trtcm = false ∨ c.cir ≤ c.pir) ∧ c.src ≠ 3 ∧ bits e.data 643 4 = 0 ∧ bits e.data 638 2 = 0 ∧ bits e.data 608 24 = 0 ∧ bits e.data 512 32 = 0) ∧
    (∃ (e : REntry), 262144 ≤ e.index) ∧
    (∃ (q : Req) (es : List WEntry) (s : State), takenAtomic ciSchedLenProfile q s = true ∧ wErr (fun f => f == Fld.SCHED_LEN_PROF_OVERHEAD) es = none) ∧
    (∃ (q : Req) (es : List WEntry) (s : State), takenAtomic ciPolColourMap q s = true ∧ wErr (fun f => f == Fld.SCHED_DSCP_COLOUR) es = none) :=
    ⟨⟨host, [], ready, by decide +kernel⟩,
    ⟨host, [], ready, by decide +kernel⟩,
    ⟨host, true, [], ready, by decide +kernel⟩,
    ⟨host, [], ready, by decide +kernel⟩,
    ⟨0, (2 ^ 128), (ready.setQueue 0 (fun y => { y with dest := 5 })), by decide +kernel⟩,
    ⟨0, (2 ^ 128 + 2 ^ 112), ((ready.setQueue 0 (fun y => { y with dest := 32 })).setCopy 1 (fun c => { c with queue := 0, len := 60 })), by decide +kernel⟩,
    ⟨0, (2 ^ 128), ((ready.setQueue 0 (fun y => { y with dest := 32 })).setCopy 1 (fun c => { c with queue := 0 })), by decide +kernel⟩,
    ⟨4096 * 2 ^ 112, by decide +kernel⟩,
    ⟨5, (2 ^ 112 * 7), nodesS, by decide +kernel⟩,
    ⟨0, 0, ready, by decide +kernel⟩,
    ⟨0, (2 ^ 112), by decide +kernel⟩,
    ⟨0, 0, by decide +kernel⟩,
    ⟨256, (2 ^ 112 * 50), by decide +kernel⟩,
    ⟨300, (2 ^ 112 * 2), nodesS, by decide +kernel⟩,
    ⟨256, 0, ready, by decide +kernel⟩,
    ⟨⟨262144, 0⟩, by decide +kernel⟩,
    ⟨⟨0, 0⟩, _, rfl, by decide +kernel⟩,
    ⟨⟨262144, 0⟩, by decide +kernel⟩,
    ⟨host, [], ready, by decide +kernel⟩,
    ⟨host, [], ready, by decide +kernel⟩⟩

/-- The hypotheses of `Obligations.SwitchEventsComplete` are met. -/
theorem witness_SwitchEventsComplete :
    (∃ (k : Nat) (s : State) (forward : Prop), (forward ↔ ∃ a b c v l w, (s.item k).decision = some (.forward a b c v l w)) ∧ hasItem s k = true ∧ forward ∧ (s.item k).points.contains 0 = false ∧ copiesOf s k = [] ∧ (behaviour s ≠ 0 ∨ isConfirmed (s.item k) = true) ∧ s.restarting 20 = false) ∧
    (∃ (k : Nat) (s : State) (forward : Prop), (forward ↔ ∃ a b c v l w, (s.item k).decision = some (.forward a b c v l w)) ∧ hasItem s k = true ∧ forward ∧ (s.item k).points.contains 0 = false ∧ copiesOf s k = [] ∧ (behaviour s ≠ 0 ∨ isConfirmed (s.item k) = true) ∧ s.restarting 20 = true) ∧
    (∃ (k : Nat) (s : State) (forward : Prop), (forward ↔ ∃ a b c v l w, (s.item k).decision = some (.forward a b c v l w)) ∧ (hasItem s k = false ∨ ¬forward ∨ (s.item k).points.contains 0 = true ∨ copiesOf s k ≠ [] ∨ (behaviour s = 0 ∧ isConfirmed (s.item k) = false))) ∧
    (∃ (d : Fin 42) (s : State), s.get .SW_DEST_STATE_FLUSHING d ≠ 1) ∧
    (∃ (d : Fin 42) (s : State) (t : State), t = ((s.set .SW_DEST_STATE_FLUSHING 0 d).raise 0x0A03 [d, Tab.get 0 s.sw.flushFreed d]).setSw (fun w => { w with flushFreed := Tab.put 0 w.flushFreed d 0, flushSince := Tab.put 0 w.flushSince d 0 }) ∧ s.get .SW_DEST_STATE_FLUSHING d = 1 ∧ s.sw.wholeFlush = true ∧ (∀ x, x < 42 → t.get .SW_DEST_STATE_FLUSHING x ≠ 1)) ∧
    (∃ (d : Fin 42) (s : State) (t : State), t = ((s.set .SW_DEST_STATE_FLUSHING 0 d).raise 0x0A03 [d, Tab.get 0 s.sw.flushFreed d]).setSw (fun w => { w with flushFreed := Tab.put 0 w.flushFreed d 0, flushSince := Tab.put 0 w.flushSince d 0 }) ∧ s.get .SW_DEST_STATE_FLUSHING d = 1 ∧ (s.sw.wholeFlush = false ∨ (∃ x, x < 42 ∧ t.get .SW_DEST_STATE_FLUSHING x = 1))) ∧
    (∃ (x : Fin 32) (s : State), ((s.hp x).downSince = 0 ∨ s.get .SW_DEST_ALLOC_DOWN_ACTION x ≠ 1 ∨ s.link x = lsUp ∨ s.get .SW_DEST_STATE_DOWN_DROPPING x = 1)) ∧
    (∃ (x : Fin 32) (s : State) (a : _), (s.hp x).downSince = a + 1 ∧ s.get .SW_DEST_ALLOC_DOWN_ACTION x = 1 ∧ s.link x ≠ lsUp ∧ s.get .SW_DEST_STATE_DOWN_DROPPING x ≠ 1 ∧ a + s.get .SW_DEST_ALLOC_DOWN_FLUSH_MS x * uMs ≤ s.now) ∧
    (∃ (x : Fin 32) (s : State) (a : _), (s.hp x).downSince = a + 1 ∧ s.get .SW_DEST_ALLOC_DOWN_ACTION x = 1 ∧ s.link x ≠ lsUp ∧ s.get .SW_DEST_STATE_DOWN_DROPPING x ≠ 1 ∧ s.now < a + s.get .SW_DEST_ALLOC_DOWN_FLUSH_MS x * uMs) ∧
    (∃ (s : State), (s.get .SW_SAGE_EN ≠ 1 ∨ s.get .SW_SAGE_PAUSED = 1 ∨ s.restarting 20 = true)) ∧
    (∃ (s : State), s.get .SW_SAGE_EN = 1 ∧ s.get .SW_SAGE_PAUSED ≠ 1 ∧ s.restarting 20 = false) ∧
    (∃ (cell : Nat) (s : State), s.sw.sage.doubles.contains cell = true) ∧
    (∃ (cell : Nat) (s : State) (tag : Nat), s.sw.sage.doubles.contains cell = false ∧ s.sw.sage.seen.contains (cell, tag) = true) ∧
    (∃ (cell : Nat) (s : State) (tag : _), s.sw.sage.doubles.contains cell = false ∧ s.sw.sage.seen.contains (cell, tag) = false) ∧
    (∃ (n : Nat) (s : State), (s.queue n).spilled = true) ∧
    (∃ (n : Nat) (s : State), (s.queue n).spilled = false) ∧
    (∃ (o : Fin 128) (s : State), s.get .BPM_OWNER_IN_RESET o = 1) ∧
    (∃ (o : Fin 128) (s : State), s.get .BPM_OWNER_IN_RESET o ≠ 1) ∧
    (∃ (s : State), (s.sw.auditSince = none ∨ s.get .BPM_STATUS_AUDIT_S = 0)) ∧
    (∃ (s : State) (a : _), s.sw.auditSince = some a ∧ s.get .BPM_STATUS_AUDIT_S ≠ 0 ∧ a + s.get .BPM_STATUS_AUDIT_S * uS ≤ s.now) ∧
    (∃ (s : State) (a : _), s.sw.auditSince = some a ∧ s.get .BPM_STATUS_AUDIT_S ≠ 0 ∧ s.now < a + s.get .BPM_STATUS_AUDIT_S * uS) ∧
    (∃ (k : Nat) (live : Bool) (s : State), (live = (s.copies.any (fun p => p.1 == k) && decide ((s.copy k).phase < 3) && decide ((s.copy k).dest < 36 ∨ (s.copy k).phase < 2))) ∧ live = false) ∧
    (∃ (k : Nat) (live : Bool) (s : State), (live = (s.copies.any (fun p => p.1 == k) && decide ((s.copy k).phase < 3) && decide ((s.copy k).dest < 36 ∨ (s.copy k).phase < 2))) ∧ live = true ∧ (isBegun s k = false ∨ cellMissing s (s.copy k) = false)) ∧
    (∃ (k : Nat) (live : Bool) (s : State), (live = (s.copies.any (fun p => p.1 == k) && decide ((s.copy k).phase < 3) && decide ((s.copy k).dest < 36 ∨ (s.copy k).phase < 2))) ∧ live = true ∧ isBegun s k = true ∧ cellMissing s (s.copy k) = true) ∧
    (∃ (k : Nat) (live : Bool) (s : State), (live = (s.copies.any (fun p => p.1 == k) && decide ((s.copy k).phase < 3) && decide ((s.copy k).dest < 36 ∨ (s.copy k).phase < 2))) ∧ live = true ∧ isBegun s k = false) :=
    ⟨⟨0, ((ready.setItem 0 (fun i => { i with decision := some (.forward 0 0 0 0 0 0) })).set .SW_RELEASE_BEHAVIOUR 1), _, Iff.rfl, by decide +kernel, ⟨_, _, _, _, _, _, rfl⟩, by decide +kernel⟩,
    ⟨0, (((ready.setItem 0 (fun i => { i with decision := some (.forward 0 0 0 0 0 0) })).set .SW_RELEASE_BEHAVIOUR 1).set .FLT_RECOVERY_LEVEL 2 20), _, Iff.rfl, by decide +kernel, ⟨_, _, _, _, _, _, rfl⟩, by decide +kernel⟩,
    ⟨0, ready, _, Iff.rfl, .inl (by decide +kernel)⟩,
    ⟨0, (ready.set .SW_DEST_STATE_FLUSHING 0 0), by decide +kernel⟩,
    ⟨0, (let y : State := (ready.set .SW_DEST_STATE_FLUSHING 1 0); { y with sw := { y.sw with wholeFlush := true } }), _, rfl, by decide +kernel, by decide +kernel, by first | decide +kernel | (intros; first | rfl | (simp_all; done) | decide)⟩,
    ⟨0, (let y : State := (ready.set .SW_DEST_STATE_FLUSHING 1 0); { y with sw := { y.sw with wholeFlush := false } }), _, rfl, by decide +kernel⟩,
    ⟨0, (ready.setHp 0 (fun y => { y with downSince := 0 })), by decide +kernel⟩,
    ⟨0, (let y : State := (((ready.setHp 0 (fun y => { y with downSince := 0 + 1 })).set .SW_DEST_ALLOC_DOWN_ACTION 1 0).set .SW_DEST_STATE_DOWN_DROPPING 0 0); { y with now := 0 + ready.get .SW_DEST_ALLOC_DOWN_FLUSH_MS 0 * uMs }), 0, by decide +kernel⟩,
    ⟨0, (((ready.setHp 0 (fun y => { y with downSince := 0 + 1 })).set .SW_DEST_ALLOC_DOWN_ACTION 1 0).set .SW_DEST_STATE_DOWN_DROPPING 0 0), 0, by decide +kernel⟩,
    ⟨(ready.set .SW_SAGE_EN 0), by decide +kernel⟩,
    ⟨((ready.set .SW_SAGE_EN 1).set .SW_SAGE_PAUSED 0), by decide +kernel⟩,
    ⟨0, (ready.setSage (fun g => { g with doubles := [0] })), by decide +kernel⟩,
    ⟨0, (ready.setSage (fun g => { g with seen := [(0, 5)] })), 5, by decide +kernel⟩,
    ⟨0, ready, 0, by decide +kernel⟩,
    ⟨0, (ready.setQueue 0 (fun y => { y with spilled := true })), by decide +kernel⟩,
    ⟨0, (ready.setQueue 0 (fun y => { y with spilled := false })), by decide +kernel⟩,
    ⟨0, (ready.set .BPM_OWNER_IN_RESET 1 0), by decide +kernel⟩,
    ⟨0, (ready.set .BPM_OWNER_IN_RESET 0 0), by decide +kernel⟩,
    ⟨(let y : State := ready; { y with sw := { y.sw with auditSince := none } }), by decide +kernel⟩,
    ⟨(let y : State := ((let y : State := ready; { y with sw := { y.sw with auditSince := some 0 } }).set .BPM_STATUS_AUDIT_S 1); { y with now := uS * 4294967296 }), 0, by decide +kernel⟩,
    ⟨((let y : State := ready; { y with sw := { y.sw with auditSince := some 0 } }).set .BPM_STATUS_AUDIT_S 1), 0, by decide +kernel⟩,
    ⟨0, _, ready, by decide +kernel, rfl⟩,
    ⟨0, _, (ready.setCopy 0 (fun c => { c with phase := 1 })), by decide +kernel, rfl, by decide +kernel⟩,
    ⟨0, _, (ready.setCopy 0 (fun c => { c with phase := 2, hbm := 1, cells := 1 })), by decide +kernel, rfl, by decide +kernel⟩,
    ⟨0, _, (ready.setCopy 0 (fun c => { c with phase := 1 })), by decide +kernel, rfl, by decide +kernel⟩⟩

/-- The hypotheses of `Obligations.ReleaseAndScheduleEventsComplete` are met. -/
theorem witness_ReleaseAndScheduleEventsComplete :
    (∃ (k : Nat) (point : Fin 6) (s : State) (n : _) (sc : _), point.val = 1 ∧ (s.item k).origin = .line n sc) ∧
    (∃ (k : Nat) (point : Fin 6) (s : State), (point.val ≠ 1 ∨ (∀ n sc, (s.item k).origin ≠ .line n sc))) ∧
    (∃ (k : Nat) (s : State) (point : _), ((s.item k).points.contains point = false ∨ (point ≠ 1 ∧ point ≠ 3))) ∧
    (∃ (k : Nat) (s : State), (s.item k).points.contains 1 = true ∧ c1Result s (s.item k) = 0) ∧
    (∃ (k : Nat) (s : State), (s.item k).points.contains 1 = true ∧ c1Result s (s.item k) = 1) ∧
    (∃ (k : Nat) (s : State) (r : Nat), (s.item k).points.contains 1 = true ∧ c1Result s (s.item k) = r + 2) ∧
    (∃ (k : Nat) (pass : Bool) (s : State) (t : _) (h : Nat), (s.item k).points.contains 3 = true ∧ t = lateCopies k s ∧ c3Fault t (t.item k) pass = some h) ∧
    (∃ (k : Nat) (pass : Bool) (s : State) (t : _), (s.item k).points.contains 3 = true ∧ t = lateCopies k s ∧ c3Fault t (t.item k) pass = none) ∧
    (∃ (it : Item) (x : Nat) (pass : Bool), it.origin = .host x ∧ (it.failed ≠ none ∨ pass = false)) ∧
    (∃ (it : Item) (x : Nat) (s : State), it.origin = .host x ∧ it.failed = none ∧ (it.bytes.length + 4 < 64 ∨ s.get .PORT_CFG_MAX_FRAME x < it.bytes.length + 4)) ∧
    (∃ (it : Item) (x : Nat) (s : State), it.origin = .host x ∧ it.failed = none ∧ 64 ≤ it.bytes.length + 4 ∧ it.bytes.length + 4 ≤ s.get .PORT_CFG_MAX_FRAME x) ∧
    (∃ (k : Nat) (s : State), ((s.item k).policer = none ∨ (s.item k).points ≠ [5])) ∧
    (∃ (k : Nat) (s : State) (p : Nat) (t : State) (r : PolResult), (s.item k).policer = some p ∧ (s.item k).points = [5] ∧ commitPolicer k p (lateCopies k s) = (t, r) ∧ ((∃ x, (t.item k).provisional = some x ∧ sameResult r x = true) ∨ droppedEarly (t.item k) = true)) ∧
    (∃ (k : Nat) (s : State) (p : Nat) (t : State) (r : PolResult), (s.item k).policer = some p ∧ (s.item k).points = [5] ∧ commitPolicer k p (lateCopies k s) = (t, r) ∧ (∀ x, (t.item k).provisional = some x → sameResult r x = false) ∧ droppedEarly (t.item k) = false) ∧
    (∃ (c : Nat) (s : State), pastDeadline s c = true) ∧
    (∃ (c : Nat) (s : State), pastDeadline s c = false) ∧
    (∃ (s : State), s.now < (s.sched.refilled + 1) * uUs) ∧
    (∃ (s : State), (s.sched.refilled + 1) * uUs ≤ s.now) ∧
    (∃ (d : Fin 42) (s : State), accepts s d = false) ∧
    (∃ (d : Fin 42), 32 ≤ d.val ∧ d.val < 36) ∧
    (∃ (d : Fin 42) (s : State) (t : State) (r : Option Nat × State), t = bucketsNow s ∧ accepts s d = true ∧ chosenQueue d t = r ∧ r.1 = none) ∧
    (∃ (d : Fin 42) (s : State) (t : State) (r : Option Nat × State) (n : Nat) (u : State) (c : Nat), t = bucketsNow s ∧ accepts s d = true ∧ chosenQueue d t = r ∧ r.1 = some n ∧ dequeue n r.2 = (u, some c) ∧ d.val < 32) ∧
    (∃ (d : Fin 42) (s : State) (t : State) (r : Option Nat × State) (n : Nat) (u : State) (c : Nat), t = bucketsNow s ∧ accepts s d = true ∧ chosenQueue d t = r ∧ r.1 = some n ∧ dequeue n r.2 = (u, some c) ∧ 32 ≤ d.val ∧ d.val < 40) ∧
    (∃ (d : Fin 42) (s : State) (t : State) (r : Option Nat × State) (n : Nat) (u : State) (c : Nat), t = bucketsNow s ∧ accepts s d = true ∧ chosenQueue d t = r ∧ r.1 = some n ∧ dequeue n r.2 = (u, some c) ∧ d.val = 40) ∧
    (∃ (d : Fin 42) (s : State) (t : State) (r : Option Nat × State) (n : Nat) (u : State) (c : Nat), t = bucketsNow s ∧ accepts s d = true ∧ chosenQueue d t = r ∧ r.1 = some n ∧ dequeue n r.2 = (u, some c) ∧ d.val = 41) ∧
    (∃ (k : Nat) (s : State), (s.copy k).phase ≠ 3) ∧
    (∃ (k : Nat) (s : State) (t : State) (c : Copy), t = refillDue s ∧ c = t.copy k ∧ (s.copy k).phase = 3 ∧ c.ok = true) ∧
    (∃ (k : Nat) (s : State) (t : State) (c : Copy), t = refillDue s ∧ c = t.copy k ∧ (s.copy k).phase = 3 ∧ c.ok = false) :=
    ⟨⟨0, 1, (ready.setItem 0 (fun y => { y with origin := .line 0 0 })), 0, 0, by decide +kernel⟩,
    ⟨0, 0, ready, .inl (by decide +kernel)⟩,
    ⟨0, ready, 0, by decide +kernel⟩,
    ⟨0, (ready.setItem 0 (fun i => { i with points := [1], origin := .line 0 0, pairs := [(0, 0)] })), by decide +kernel⟩,
    ⟨0, (ready.setItem 0 (fun i => { i with points := [1] })), by decide +kernel⟩,
    ⟨0, ((ready.setItem 0 (fun i => { i with points := [1], origin := .line 0 0, pairs := [(0, 0)] })).setFrame 0 (fun y => { y with pairs := [⟨0, 0, 0, 0, 0, false, false, false, []⟩] })), 0, by decide +kernel⟩,
    ⟨0, false, (ready.setItem 0 (fun i => { i with points := [3] })), _, 0, by decide +kernel, rfl, by decide +kernel⟩,
    ⟨0, true, (ready.setItem 0 (fun i => { i with points := [3], origin := .line 0 0 })), _, by decide +kernel, rfl, by decide +kernel⟩,
    ⟨{}, 0, false, by decide +kernel⟩,
    ⟨{}, 0, ready, by decide +kernel⟩,
    ⟨{ bytes := List.replicate 60 0 }, 0, ready, by decide +kernel⟩,
    ⟨0, (ready.setItem 0 (fun y => { y with policer := none })), by decide +kernel⟩,
    ⟨0, (ready.setItem 0 (fun i => { i with points := [5], policer := some 0, decision := some .drop })), 0, _, _, by decide +kernel, by decide +kernel, Prod.mk.eta.symm, .inr (by decide +kernel)⟩,
    ⟨0, (ready.setItem 0 (fun i => { i with points := [5], policer := some 0 })), 0, _, _, by decide +kernel, by decide +kernel, Prod.mk.eta.symm, (by intro x h; exact nomatch (show (none : Option PolResult) = some x from h)), by decide +kernel⟩,
    ⟨0, (let y : State := ((ready.setCopy 0 (fun c => { c with phase := 2, spec := true })).setItem 0 (fun i => { i with points := [1] })); { y with now := 10 ^ 18 }), by decide +kernel⟩,
    ⟨0, ready, by decide +kernel⟩,
    ⟨ready, by decide +kernel⟩,
    ⟨(let y : State := ready; { y with now := (ready.sched.refilled + 1) * uUs }), by decide +kernel⟩,
    ⟨32, ready, by decide +kernel⟩,
    ⟨32, by decide +kernel⟩,
    ⟨0, ready, _, _, rfl, by decide +kernel, rfl, by decide +kernel⟩,
    ⟨0, (waitS 0), _, _, 0, _, 1, rfl, by decide +kernel, rfl, by decide +kernel, rfl, by decide +kernel⟩,
    ⟨36, (waitS 36), _, _, 0, _, 1, rfl, by decide +kernel, rfl, by decide +kernel, rfl, by decide +kernel⟩,
    ⟨40, (waitS 40), _, _, 0, _, 1, rfl, by decide +kernel, rfl, by decide +kernel, rfl, by decide +kernel⟩,
    ⟨41, (waitS 41), _, _, 0, _, 1, rfl, by decide +kernel, rfl, by decide +kernel, rfl, by decide +kernel⟩,
    ⟨0, ready, by decide +kernel⟩,
    ⟨0, (ready.setCopy 0 (fun c => { c with phase := 3, ok := true })), _, _, rfl, rfl, by decide +kernel⟩,
    ⟨0, (ready.setCopy 0 (fun y => { y with phase := 3 })), _, _, rfl, rfl, by decide +kernel⟩⟩

/-- The hypotheses of `Obligations.CipherCommandsComplete` are met. -/
theorem witness_CipherCommandsComplete :
    (∃ (q : Req) (p : Bool) (ls : List KeyLoad) (s : State), ls.length ≤ 16 ∧ takenUp (ciCiphKeyLoad p) q s = true) ∧
    (∃ (q : Req) (p : Bool) (ds : List KeyDerive) (s : State), ds.length ≤ 16 ∧ takenUp (ciCiphKeyDerive p) q s = true) ∧
    (∃ (q : Req) (ks : List Nat) (s : State), ks.length ≤ 64 ∧ takenUp ciCiphKeyClear q s = true) ∧
    (∃ (e : KeyLoad), (256 ≤ e.slot ∨ useOk e.use = false)) ∧
    (∃ (q : Req) (e : KeyLoad), e.slot < 256 ∧ useOk e.use = true ∧ e.wrap = none ∧ ((∃ x, q.src = .inband x) ∨ q.src = .peldel)) ∧
    (∃ (q : Req) (e : KeyLoad), e.slot < 256 ∧ useOk e.use = true ∧ e.wrap = none ∧ (∀ x, q.src ≠ .inband x) ∧ q.src ≠ .peldel ∧ e.bytes.length = 32) ∧
    (∃ (q : Req) (e : KeyLoad), e.slot < 256 ∧ useOk e.use = true ∧ e.wrap = none ∧ (∀ x, q.src ≠ .inband x) ∧ q.src ≠ .peldel ∧ e.bytes.length ≠ 32) ∧
    (∃ (e : KeyLoad) (w : Nat), e.slot < 256 ∧ useOk e.use = true ∧ e.wrap = some w ∧ (256 ≤ w ∨ e.bytes.length ≠ 40)) ∧
    (∃ (q : Req) (e : KeyLoad) (s : State) (w : Nat) (t : State) (st : Nat), e.slot < 256 ∧ useOk e.use = true ∧ e.wrap = some w ∧ t = touchSlot q.user w s ∧ w < 256 ∧ e.bytes.length = 40 ∧ unwrap t q.user w e.bytes = .inr st) ∧
    (∀ (blob : List Nat) (key : Nat) (hl : blob.length = 40) (hk : keyUnwrap 5 blob = some key), ∃ (q : Req) (e : KeyLoad) (s : State) (w : Nat) (t : State) (key : Nat), e.slot < 256 ∧ useOk e.use = true ∧ e.wrap = some w ∧ t = touchSlot q.user w s ∧ w < 256 ∧ e.bytes.length = 40 ∧ unwrap t q.user w e.bytes = .inl key) ∧
    (∃ (s : State) (page : Nat) (k : Nat) (st : Nat) (d : Nat), slotRefused s page k 2 = some (st, d)) ∧
    (∃ (s : State) (page : Nat) (k : Nat), slotRefused s page k 2 = none ∧ anyCluster s = false) ∧
    (∃ (s : State) (page : Nat) (k : Nat) (blob : List Nat) (root : Nat), slotRefused s page k 2 = none ∧ anyCluster s = true ∧ slotKey s page k = some root ∧ keyUnwrap root blob = none) ∧
    (∀ (blob : List Nat) (key : Nat) (hl : blob.length = 40) (hk : keyUnwrap 5 blob = some key), ∃ (s : State) (page : Nat) (k : Nat) (blob : List Nat) (root : Nat) (key : Nat), slotRefused s page k 2 = none ∧ anyCluster s = true ∧ slotKey s page k = some root ∧ keyUnwrap root blob = some key) ∧
    (∃ (s : State) (page : Nat) (k : Nat) (use : Nat), bit (s.keySlot page k).use use = false) ∧
    (∃ (s : State) (page : Nat) (k : Nat) (use : Nat) (w : Nat), bit (s.keySlot page k).use use = true ∧ rootDoubtWord s = some w ∧ isUser (s.keySlot page k) = true) ∧
    (∃ (s : State) (page : Nat) (k : Nat) (use : Nat), bit (s.keySlot page k).use use = true ∧ (rootDoubtWord s = none ∨ isUser (s.keySlot page k) = false) ∧ slotKey s page k = none) ∧
    (∃ (s : State) (page : Nat) (k : Nat) (use : Nat), bit (s.keySlot page k).use use = true ∧ (rootDoubtWord s = none ∨ isUser (s.keySlot page k) = false) ∧ slotKey s page k ≠ none) ∧
    (∃ (e : KeyDerive), (256 ≤ e.slot ∨ useOk e.use = false ∨ e.label.length ≠ 32 ∨ (e.label.headD 0 ≠ 0x10 ∧ e.label.headD 0 ≠ 0x11) ∨ e.label.getD 1 0 ≠ 1 ∨ 256 ≤ e.rootSlot)) ∧
    (∃ (e : KeyDerive) (s : State), e.slot < 256 ∧ useOk e.use = true ∧ e.label.length = 32 ∧ e.label.getD 1 0 = 1 ∧ e.rootSlot < 256 ∧ e.label.headD 0 = 0x10 ∧ rootDoubtWord s ≠ none) ∧
    (∃ (e : KeyDerive) (s : State), e.slot < 256 ∧ useOk e.use = true ∧ e.label.length = 32 ∧ e.label.getD 1 0 = 1 ∧ e.rootSlot < 256 ∧ e.label.headD 0 = 0x10 ∧ rootDoubtWord s = none) ∧
    (∃ (q : Req) (e : KeyDerive) (s : State), e.slot < 256 ∧ useOk e.use = true ∧ e.label.length = 32 ∧ e.label.getD 1 0 = 1 ∧ e.rootSlot < 256 ∧ e.label.headD 0 = 0x11 ∧ (s.keySlot q.user e.rootSlot).type = 1 ∧ bit (s.keySlot q.user e.rootSlot).use 3 = true) ∧
    (∃ (q : Req) (e : KeyDerive) (s : State), e.slot < 256 ∧ useOk e.use = true ∧ e.label.length = 32 ∧ e.label.getD 1 0 = 1 ∧ e.rootSlot < 256 ∧ e.label.headD 0 = 0x11 ∧ ((s.keySlot q.user e.rootSlot).type ≠ 1 ∨ bit (s.keySlot q.user e.rootSlot).use 3 = false)) ∧
    (∀ (blob : List Nat) (key : Nat) (hl : blob.length = 40) (hk : keyUnwrap 5 blob = some key), ∃ (q : Req) (n : Nat) (wrap : Nat) (p : Bool) (blob : List Nat) (s : State) (key : Nat), n < 4 ∧ takenUp (ciCiphTreeSecret p) q s = true ∧ wrap < 256 ∧ blob.length = 40 ∧ slotRefused s 0 wrap 2 = none ∧ unwrap (touchSlot 0 wrap s) 0 wrap blob = .inl key) ∧
    (∃ (q : Req) (n : Nat) (wrap : Nat) (p : Bool) (blob : List Nat) (s : State) (st : Nat), n < 4 ∧ takenUp (ciCiphTreeSecret p) q s = true ∧ wrap < 256 ∧ blob.length = 40 ∧ slotRefused s 0 wrap 2 = none ∧ unwrap (touchSlot 0 wrap s) 0 wrap blob = .inr st) ∧
    (∃ (q : Req) (n : Nat) (wrap : Nat) (p : Bool) (blob : List Nat) (s : State) (st : Nat) (d : Nat), n < 4 ∧ takenUp (ciCiphTreeSecret p) q s = true ∧ wrap < 256 ∧ blob.length = 40 ∧ slotRefused s 0 wrap 2 = some (st, d)) ∧
    (∃ (q : Req) (es : List WEntry) (n : Option Nat) (s : State), takenAtomic ciCiphLineKey q s = true ∧ wErr (fun f => lineKeyFields.contains f) es = none ∧ n = (es.head?.bind (fun e => ((fieldsAt e.off).map (·.2.1)).head?)) ∧ (∀ e ∈ es, ((fieldsAt e.off).map (·.2.1)).head? = n)) ∧
    (∃ (q : Req) (es : List WEntry) (n : Option Nat) (s : State) (pre : List WEntry) (e : WEntry) (post : List WEntry), takenAtomic ciCiphLineKey q s = true ∧ wErr (fun f => lineKeyFields.contains f) es = none ∧ n = (es.head?.bind (fun e_ => ((fieldsAt e_.off).map (·.2.1)).head?)) ∧ es = pre ++ e :: post ∧ (∀ x ∈ pre, ((fieldsAt x.off).map (·.2.1)).head? = n) ∧ ((fieldsAt e.off).map (·.2.1)).head? ≠ n) ∧
    (∃ (q : Req) (es : List WEntry) (s : State) (t : State) (own : Prop), takenUp ciCiphInbandKey q s = true ∧ wErr (fun f => [Fld.CIPH_PAGE_INBAND_EN, .CIPH_PAGE_INBAND_SLOT].contains f) es = none ∧ t = wApplyAll s es ∧ (own ↔ ∀ e ∈ es, ∀ p ∈ fieldsAt e.off, p.2.1 = q.user) ∧ own ∧ (t.get .CIPH_PAGE_INBAND_EN q.user ≠ 1 ∨ bit (s.keySlot q.user (t.get .CIPH_PAGE_INBAND_SLOT q.user)).use 1 = true)) ∧
    (∃ (q : Req) (es : List WEntry) (s : State) (t : State) (own : Prop), takenUp ciCiphInbandKey q s = true ∧ wErr (fun f => [Fld.CIPH_PAGE_INBAND_EN, .CIPH_PAGE_INBAND_SLOT].contains f) es = none ∧ t = wApplyAll s es ∧ (own ↔ ∀ e ∈ es, ∀ p ∈ fieldsAt e.off, p.2.1 = q.user) ∧ (¬own ∨ (t.get .CIPH_PAGE_INBAND_EN q.user = 1 ∧ bit (s.keySlot q.user (t.get .CIPH_PAGE_INBAND_SLOT q.user)).use 1 = false))) ∧
    (∃ (q : Req) (slot : Nat) (src : Nat) (dst : Nat) (aad : List Nat) (data : List Nat) (s : State) (t : State) (key : Nat), slot < 256 ∧ aad.length ≤ 1024 ∧ data.length ≤ 61440 ∧ slotRefused s q.user slot 0 = none ∧ anyCluster s = true ∧ slotKey s q.user slot = some key ∧ t = wakeCipher (leastCluster s) (touchSlot q.user slot s) ∧ windowOk t q.user src data.length false = true ∧ windowOk t q.user dst data.length true = true ∧ takenUp ciCiphSeal q s = true) ∧
    (∃ (q : Req) (slot : Nat) (iv : Nat) (src : Nat) (dst : Nat) (aad : List Nat) (data : List Nat) (s : State) (t : State) (key : Nat) (tag : Nat), slot < 256 ∧ aad.length ≤ 1024 ∧ data.length ≤ 61440 ∧ slotRefused s q.user slot 0 = none ∧ anyCluster s = true ∧ slotKey s q.user slot = some key ∧ t = wakeCipher (leastCluster s) (touchSlot q.user slot s) ∧ windowOk t q.user src data.length false = true ∧ windowOk t q.user dst data.length true = true ∧ takenUp ciCiphOpen q s = true ∧ gcmTag key iv aad (gcmSeal key iv data) = tag) ∧
    (∃ (q : Req) (slot : Nat) (iv : Nat) (src : Nat) (dst : Nat) (aad : List Nat) (data : List Nat) (s : State) (t : State) (key : Nat) (tag : Nat), slot < 256 ∧ aad.length ≤ 1024 ∧ data.length ≤ 61440 ∧ slotRefused s q.user slot 0 = none ∧ anyCluster s = true ∧ slotKey s q.user slot = some key ∧ t = wakeCipher (leastCluster s) (touchSlot q.user slot s) ∧ windowOk t q.user src data.length false = true ∧ windowOk t q.user dst data.length true = true ∧ takenUp ciCiphOpen q s = true ∧ gcmTag key iv aad (gcmSeal key iv data) ≠ tag) ∧
    (∃ (q : Req) (slot : Nat) (src : Nat) (dst : Nat) (aad : List Nat) (data : List Nat) (s : State) (t : State) (key : Nat), slot < 256 ∧ aad.length ≤ 1024 ∧ data.length ≤ 61440 ∧ slotRefused s q.user slot 0 = none ∧ anyCluster s = true ∧ slotKey s q.user slot = some key ∧ t = wakeCipher (leastCluster s) (touchSlot q.user slot s) ∧ (windowOk t q.user src data.length false = false ∨ windowOk t q.user dst data.length true = false) ∧ takenUp ciCiphSeal q s = true) ∧
    (∃ (q : Req) (slot : Nat) (src : Nat) (dst : Nat) (aad : List Nat) (data : List Nat) (s : State) (t : State) (key : Nat), slot < 256 ∧ aad.length ≤ 1024 ∧ data.length ≤ 61440 ∧ slotRefused s q.user slot 0 = none ∧ anyCluster s = true ∧ slotKey s q.user slot = some key ∧ t = wakeCipher (leastCluster s) (touchSlot q.user slot s) ∧ (windowOk t q.user src data.length false = false ∨ windowOk t q.user dst data.length true = false) ∧ takenUp ciCiphOpen q s = true) ∧
    (∃ (q : Req) (slot : Nat) (src : Nat) (data : List Nat) (s : State) (t : State) (key : Nat) (v : Nat), slot < 256 ∧ data.length ≤ 61440 ∧ takenUp ciCiphCmac q s = true ∧ slotRefused s q.user slot 1 = none ∧ anyCluster s = true ∧ slotKey s q.user slot = some key ∧ t = wakeCipher (leastCluster s) (touchSlot q.user slot s) ∧ windowOk t q.user src data.length false = true ∧ v ≠ cmac key data) ∧
    (∃ (q : Req) (slot : Nat) (src : Nat) (data : List Nat) (s : State) (t : State) (key : Nat), slot < 256 ∧ data.length ≤ 61440 ∧ takenUp ciCiphCmac q s = true ∧ slotRefused s q.user slot 1 = none ∧ anyCluster s = true ∧ slotKey s q.user slot = some key ∧ t = wakeCipher (leastCluster s) (touchSlot q.user slot s) ∧ windowOk t q.user src data.length false = false) ∧
    (∃ (q : Req) (slot : Nat) (iv : Nat) (src : Nat) (dst : Nat) (tag : Nat) (aad : List Nat) (data : List Nat) (v : Option Nat) (s : State) (x : _) (st : Nat) (d : Nat), x ∈ [(Instr.ciphSeal q slot iv src dst aad data, ciCiphSeal, 0), (.ciphOpen q slot iv src dst aad data tag, ciCiphOpen, 0), (.ciphCmac q slot src data v, ciCiphCmac, 1)] ∧ slot < 256 ∧ aad.length ≤ 1024 ∧ data.length ≤ 61440 ∧ takenUp x.2.1 q s = true ∧ slotRefused s q.user slot x.2.2 = some (st, d)) ∧
    (∃ (q : Req) (slot : Nat) (iv : Nat) (src : Nat) (dst : Nat) (tag : Nat) (aad : List Nat) (data : List Nat) (v : Option Nat) (s : State) (x : _), x ∈ [(Instr.ciphSeal q slot iv src dst aad data, ciCiphSeal, 0), (.ciphOpen q slot iv src dst aad data tag, ciCiphOpen, 0), (.ciphCmac q slot src data v, ciCiphCmac, 1)] ∧ slot < 256 ∧ aad.length ≤ 1024 ∧ data.length ≤ 61440 ∧ takenUp x.2.1 q s = true ∧ slotRefused s q.user slot x.2.2 = none ∧ anyCluster s = false) ∧
    (∃ (q : Req) (s : State), takenUp ciCiphCacheFlush q s = true) :=
    ⟨⟨host, true, [], ready, by decide +kernel⟩,
    ⟨host, true, [], ready, by decide +kernel⟩,
    ⟨host, [], ready, by decide +kernel⟩,
    ⟨⟨256, 0, none, []⟩, by decide +kernel⟩,
    ⟨{ host with src := .inband 0 }, ⟨1, 0, none, []⟩, by decide +kernel, by decide +kernel, by decide +kernel, .inl ⟨0, rfl⟩⟩,
    ⟨host, ⟨0, 0, none, List.replicate 32 0⟩, by decide +kernel, by decide +kernel, by decide +kernel, (fun _ h => nomatch h), by decide +kernel⟩,
    ⟨host, ⟨1, 0, none, []⟩, by decide +kernel, by decide +kernel, by decide +kernel, (fun _ h => nomatch h), by decide +kernel⟩,
    ⟨⟨1, 0, some 0, []⟩, 0, by decide +kernel⟩,
    ⟨host, ⟨1, 0, some 0, List.replicate 40 0⟩, ready, 0, _, stPermission, by decide +kernel, by decide +kernel, by decide +kernel, rfl, by decide +kernel⟩,
    fun blob key hl hk => ⟨host, ⟨1, 0, some 0, blob⟩, keyed, 0, _, key, by show (1 : Nat) < 256; decide, by show useOk 0 = true; decide, rfl, rfl, by decide +kernel, hl, unwrap_ok _ 0 0 blob 5 key (by decide +kernel) (by decide +kernel) (by decide +kernel) hk⟩,
    ⟨ready, 0, 0, stPermission, 0, by decide +kernel⟩,
    ⟨(keyed.set .CIPH_STATUS_CLUSTERS_ON 0), 0, 0, by decide +kernel⟩,
    ⟨keyed, 0, 0, [], 5, by decide +kernel⟩,
    fun blob key hl hk => ⟨keyed, 0, 0, blob, 5, key, by decide +kernel, by decide +kernel, by decide +kernel, hk⟩,
    ⟨ready, 0, 0, 0, by decide +kernel⟩,
    ⟨((ready.set .CIPH_STATUS_ROOT_STATE 2).setCipher (fun c => { c with slots := [(0, { type := 2, use := 1, label := [16] })] })), 0, 0, 0, 12, by decide +kernel⟩,
    ⟨(ready.setCipher (fun c => { c with slots := [(0, { use := 1 })] })), 0, 0, 0, by decide +kernel⟩,
    ⟨keyed, 0, 0, 0, by decide +kernel⟩,
    ⟨⟨1, 0, 2, []⟩, by decide +kernel⟩,
    ⟨⟨1, 0, 2, 16 :: 1 :: List.replicate 30 0⟩, (ready.set .CIPH_STATUS_ROOT_STATE 2), by decide +kernel⟩,
    ⟨⟨255, 8, 255, 0x10 :: 1 :: List.replicate 30 0⟩, ready, by decide +kernel⟩,
    ⟨host, ⟨1, 0, 2, 17 :: 1 :: List.replicate 30 0⟩, (ready.setCipher (fun c => { c with slots := [(2, { type := 1, use := 8 })] })), by decide +kernel⟩,
    ⟨host, ⟨1, 0, 2, 17 :: 1 :: List.replicate 30 0⟩, ready, by decide +kernel⟩,
    fun blob key hl hk => ⟨host, 0, 0, true, blob, keyed, key, by decide +kernel, by decide +kernel, by decide +kernel, hl, by decide +kernel, unwrap_ok _ 0 0 blob 5 key (by decide +kernel) (by decide +kernel) (by decide +kernel) hk⟩,
    ⟨host, 0, 0, true, List.replicate 40 0, (keyed.set .CIPH_STATUS_CLUSTERS_ON 0), stBusy, by decide +kernel⟩,
    ⟨host, 0, 255, true, List.replicate 40 0, keyed, stPermission, 0, by decide +kernel⟩,
    ⟨host, [], _, ready, by decide +kernel, by decide +kernel, rfl, by first | decide +kernel | (intros; first | rfl | (simp_all; done) | decide)⟩,
    ⟨host, [wd .CIPH_LINE_CFG_REPLAY_EN 1, wd .CIPH_LINE_CFG_REPLAY_EN 1 1], _, ready, [wd .CIPH_LINE_CFG_REPLAY_EN 1], wd .CIPH_LINE_CFG_REPLAY_EN 1 1, [], by decide +kernel, by decide +kernel, rfl, by decide +kernel⟩,
    ⟨host, [], (ready.set .CIPH_PAGE_INBAND_EN 0 host.user), _, _, by decide +kernel, by decide +kernel, rfl, Iff.rfl, (fun _ h => nomatch h), by decide +kernel⟩,
    ⟨host, [], (ready.set .CIPH_PAGE_INBAND_EN 1), _, _, by decide +kernel, by decide +kernel, rfl, Iff.rfl, .inr (by decide +kernel)⟩,
    ⟨host, 0, 0, 0, [], [], keyed, _, 5, by decide +kernel, by decide +kernel, by decide +kernel, (by decide +kernel), by decide +kernel, by decide +kernel, rfl, (windowOk_wake ..).trans (by decide +kernel), (windowOk_wake ..).trans (by decide +kernel), by decide +kernel⟩,
    ⟨host, 0, 0, 0, 0, [], [], keyed, _, 5, gcmTag 5 0 [] (gcmSeal 5 0 []), by decide +kernel, by decide +kernel, by decide +kernel, (by decide +kernel), by decide +kernel, by decide +kernel, rfl, (windowOk_wake ..).trans (by decide +kernel), (windowOk_wake ..).trans (by decide +kernel), by decide +kernel, rfl⟩,
    ⟨host, 0, 0, 0, 0, [], [], keyed, _, 5, gcmTag 5 0 [] (gcmSeal 5 0 []) + 1, by decide +kernel, by decide +kernel, by decide +kernel, (by decide +kernel), by decide +kernel, by decide +kernel, rfl, (windowOk_wake ..).trans (by decide +kernel), (windowOk_wake ..).trans (by decide +kernel), by decide +kernel, ne_add_one _⟩,
    ⟨host, 0, 0, 0, [], [], (keyed.set .CMD_WIN_VALID 0), _, 5, by decide +kernel, by decide +kernel, by decide +kernel, (by decide +kernel), by decide +kernel, by decide +kernel, rfl, .inl ((windowOk_wake ..).trans (by decide +kernel)), by decide +kernel⟩,
    ⟨host, 0, 0, 0, [], [], (keyed.set .CMD_WIN_VALID 0), _, 5, by decide +kernel, by decide +kernel, by decide +kernel, (by decide +kernel), by decide +kernel, by decide +kernel, rfl, .inl ((windowOk_wake ..).trans (by decide +kernel)), by decide +kernel⟩,
    ⟨host, 0, 0, [], keyed, _, 5, cmac 5 [] + 1, by decide +kernel, by decide +kernel, by decide +kernel, (by decide +kernel), by decide +kernel, by decide +kernel, rfl, (windowOk_wake ..).trans (by decide +kernel), (ne_add_one _).symm⟩,
    ⟨host, 0, 0, [], (keyed.set .CMD_WIN_VALID 0), _, 5, by decide +kernel, by decide +kernel, by decide +kernel, (by decide +kernel), by decide +kernel, by decide +kernel, rfl, (windowOk_wake ..).trans (by decide +kernel)⟩,
    ⟨host, 0, 0, 0, 0, 0, [], [], none, ready, (.ciphCmac host 0 0 [] none, ciCiphCmac, 1), stPermission, 0, List.Mem.tail _ (List.Mem.tail _ (List.Mem.head _)), by decide +kernel⟩,
    ⟨host, 0, 0, 0, 0, 0, [], [], none, (keyed.set .CIPH_STATUS_CLUSTERS_ON 0), (.ciphCmac host 0 0 [] none, ciCiphCmac, 1), List.Mem.tail _ (List.Mem.tail _ (List.Mem.head _)), by decide +kernel⟩,
    ⟨host, ready, by decide +kernel⟩⟩

/-- The hypotheses of `Obligations.CipherEventsComplete` are met. -/
theorem witness_CipherEventsComplete :
    (∃ (k : Nat) (j : LineJob) (s : State), s.cipher.jobs.find? (fun j_ => j_.item == k) = some j ∧ (s.cipher.jobs.find? (fun x => x.port == j.port) ≠ some j ∨ s.cipher.deriving_.contains j.entry = true)) ∧
    (∃ (k : Nat) (j : LineJob) (s : State) (t : State), s.cipher.jobs.find? (fun j_ => j_.item == k) = some j ∧ t = unpin j.entry (s.setCipher (fun c => { c with jobs := c.jobs.filter (· ≠ j) })) ∧ s.cipher.jobs.find? (fun x => x.port == j.port) = some j ∧ s.cipher.deriving_.contains j.entry = false ∧ hasItem t k = false) ∧
    (∃ (k : Nat) (j : LineJob) (s : State) (t : State), s.cipher.jobs.find? (fun j_ => j_.item == k) = some j ∧ t = unpin j.entry (s.setCipher (fun c => { c with jobs := c.jobs.filter (· ≠ j) })) ∧ s.cipher.jobs.find? (fun x => x.port == j.port) = some j ∧ s.cipher.deriving_.contains j.entry = false ∧ hasItem t k = true ∧ openEnvelope j.key (t.item k) = none) ∧
    (∃ (k : Nat) (j : LineJob) (s : State) (t : State) (plain : List Nat), s.cipher.jobs.find? (fun j_ => j_.item == k) = some j ∧ t = unpin j.entry (s.setCipher (fun c => { c with jobs := c.jobs.filter (· ≠ j) })) ∧ s.cipher.jobs.find? (fun x => x.port == j.port) = some j ∧ s.cipher.deriving_.contains j.entry = false ∧ hasItem t k = true ∧ openEnvelope j.key (t.item k) = some plain) ∧
    (∃ (k : Nat) (s : State), s.cipher.jobs.find? (fun j => j.item == k) = none) ∧
    (∃ (key : Nat) (it : Item) (h : Nat) (pn : Nat) (a : Nat) (b : Bool) (plain : List Nat), it.enc = some (h, a, b, pn) ∧ plain = gcmSeal key pn ((it.bytes.drop 8).take (it.bytes.length - 24)) ∧ 24 ≤ it.bytes.length ∧ gcmTag key pn (toBytes 8 h ++ toBytes 8 pn) plain = field it.bytes (it.bytes.length - 16) 16) ∧
    (∃ (key : Nat) (it : Item) (h : Nat) (pn : Nat) (a : Nat) (b : Bool) (plain : List Nat), it.enc = some (h, a, b, pn) ∧ plain = gcmSeal key pn ((it.bytes.drop 8).take (it.bytes.length - 24)) ∧ (it.bytes.length < 24 ∨ gcmTag key pn (toBytes 8 h ++ toBytes 8 pn) plain ≠ field it.bytes (it.bytes.length - 16) 16)) ∧
    (∃ (s : State), s.cipher.deriving_ = []) ∧
    (∃ (s : State) (e : CacheKey) (rest : List CacheKey), s.cipher.deriving_ = e :: rest ∧ s.cipher.cache.length < 8192) ∧
    (∃ (s : State) (e : CacheKey) (rest : List CacheKey) (pre : List CacheKey) (old : CacheKey) (post : List CacheKey), s.cipher.deriving_ = e :: rest ∧ 8192 ≤ s.cipher.cache.length ∧ s.cipher.cache = pre ++ old :: post ∧ (∀ x ∈ pre, ∃ j ∈ s.cipher.jobs, j.entry = x) ∧ (∀ j ∈ s.cipher.jobs, j.entry ≠ old)) ∧
    (∃ (s : State) (e : CacheKey) (rest : List CacheKey), s.cipher.deriving_ = e :: rest ∧ 8192 ≤ s.cipher.cache.length ∧ (∀ x ∈ s.cipher.cache, ∃ j ∈ s.cipher.jobs, j.entry = x)) ∧
    (∃ (n : Fin 4) (s : State), s.get .CIPH_LINE_PN_NEXT_PN n + 2 ^ 31 ≤ s.get .CIPH_LINE_PN_MARK_MARK n) ∧
    (∃ (n : Fin 4) (s : State), s.get .CIPH_LINE_PN_MARK_MARK n < s.get .CIPH_LINE_PN_NEXT_PN n + 2 ^ 31 ∧ storeOpen s = true) ∧
    (∃ (n : Fin 4) (ok : Bool) (s : State), s.get .CIPH_LINE_PN_MARK_MARK n < s.get .CIPH_LINE_PN_NEXT_PN n + 2 ^ 31 ∧ (ok = false ∨ storeOpen s = false)) :=
    ⟨⟨0, (⟨0, 0, 0, (⟨.tree 0, 0, []⟩ : CacheKey), 0⟩ : LineJob), (ready.setCipher (fun c => { c with jobs := [(⟨0, 0, 0, (⟨.tree 0, 0, []⟩ : CacheKey), 0⟩ : LineJob)], deriving_ := [(⟨.tree 0, 0, []⟩ : CacheKey)] })), by decide +kernel⟩,
    ⟨0, (⟨0, 0, 0, (⟨.tree 0, 0, []⟩ : CacheKey), 0⟩ : LineJob), (ready.setCipher (fun c => { c with jobs := [(⟨0, 0, 0, (⟨.tree 0, 0, []⟩ : CacheKey), 0⟩ : LineJob)] })), _, by decide +kernel, rfl, by decide +kernel⟩,
    ⟨0, (⟨0, 0, 0, (⟨.tree 0, 0, []⟩ : CacheKey), 0⟩ : LineJob), ((ready.setCipher (fun c => { c with jobs := [(⟨0, 0, 0, (⟨.tree 0, 0, []⟩ : CacheKey), 0⟩ : LineJob)] })).setItem 0 (fun i => { i with rate := 1 })), _, by decide +kernel, rfl, by decide +kernel⟩,
    ⟨0, (⟨0, 0, 0, (⟨.tree 0, 0, []⟩ : CacheKey), 0⟩ : LineJob), ((ready.setCipher (fun c => { c with jobs := [(⟨0, 0, 0, (⟨.tree 0, 0, []⟩ : CacheKey), 0⟩ : LineJob)] })).setItem 0 (fun _ => sealedItem)), _, [], by decide +kernel, rfl, by decide +kernel, by decide +kernel, by decide +kernel, opens_sealed⟩,
    ⟨0, ready, by decide +kernel⟩,
    ⟨0, sealedItem, 0, 0, 0, true, _, by decide +kernel, rfl, by decide +kernel, sealed_fits⟩,
    ⟨0, { enc := some (0, 0, true, 0) }, 0, 0, 0, true, _, by decide +kernel, rfl, by decide +kernel⟩,
    ⟨(let y : State := ready; { y with cipher := { y.cipher with deriving_ := [] } }), by decide +kernel⟩,
    ⟨(let y : State := ready; { y with cipher := { y.cipher with deriving_ := ((⟨.tree 0, 0, []⟩ : CacheKey)) :: ([]) } }), (⟨.tree 0, 0, []⟩ : CacheKey), [], by decide +kernel⟩,
    ⟨(ready.setCipher (fun c => { c with deriving_ := [(⟨.tree 0, 0, []⟩ : CacheKey)], cache := List.replicate 8192 (⟨.tree 0, 0, []⟩ : CacheKey) })), (⟨.tree 0, 0, []⟩ : CacheKey), [], [], (⟨.tree 0, 0, []⟩ : CacheKey), (List.replicate 8191 (⟨.tree 0, 0, []⟩ : CacheKey)), by decide +kernel, by decide +kernel, rfl, by first | decide +kernel | (intros; first | rfl | (simp_all; done) | decide), by first | decide +kernel | (intros; first | rfl | (simp_all; done) | decide)⟩,
    ⟨(ready.setCipher (fun c => { c with deriving_ := [(⟨.tree 0, 0, []⟩ : CacheKey)], cache := List.replicate 8192 (⟨.tree 0, 0, []⟩ : CacheKey), jobs := [(⟨0, 0, 0, (⟨.tree 0, 0, []⟩ : CacheKey), 0⟩ : LineJob)] })), (⟨.tree 0, 0, []⟩ : CacheKey), [], by decide +kernel, by decide +kernel, fun x hx => ⟨(⟨0, 0, 0, (⟨.tree 0, 0, []⟩ : CacheKey), 0⟩ : LineJob), List.Mem.head _, (List.eq_of_mem_replicate (show x ∈ List.replicate 8192 (⟨.tree 0, 0, []⟩ : CacheKey) from hx)).symm⟩⟩,
    ⟨0, (ready.set .CIPH_LINE_PN_MARK_MARK 4294967295), by decide +kernel⟩,
    ⟨0, (ready.set .STORE_STATUS_OPEN 1), by decide +kernel⟩,
    ⟨0, false, ready, by decide +kernel⟩⟩

/-- The hypotheses of `Obligations.CoreCommandsComplete` are met. -/
theorem witness_CoreCommandsComplete :
    (∃ (q : Req) (es : List WEntry) (s : State), es.length ≤ 64 ∧ takenUp ciCoreQueueConfig q s = true) ∧
    (∃ (e : WEntry) (fns : List (Nat × Nat × Nat)), fns = wWrites .CORE_WQ_CFG_SUBMIT_FN [e] ∧ (wEntryErr (fun f => wqFields.contains f) e ≠ none ∨ (∃ w ∈ fns, 32 ≤ w.2.2 ∧ w.2.2 ≤ 62))) ∧
    (∃ (e : WEntry) (s : State) (fns : List (Nat × Nat × Nat)), fns = wWrites .CORE_WQ_CFG_SUBMIT_FN [e] ∧ wEntryErr (fun f => wqFields.contains f) e = none ∧ ((∀ w ∈ fns, w.2.2 < 32 ∨ 62 < w.2.2)) ∧ ((∃ w ∈ fns, w.2.2 ≠ s.get .CORE_WQ_CFG_SUBMIT_FN w.1 ∧ wqBusy s w.1 = true))) ∧
    (∃ (e : WEntry) (s : State) (fns : List (Nat × Nat × Nat)), fns = wWrites .CORE_WQ_CFG_SUBMIT_FN [e] ∧ wEntryErr (fun f => wqFields.contains f) e = none ∧ ((∀ w ∈ fns, w.2.2 < 32 ∨ 62 < w.2.2)) ∧ ((∀ w ∈ fns, w.2.2 = s.get .CORE_WQ_CFG_SUBMIT_FN w.1 ∨ wqBusy s w.1 = false))) ∧
    (∃ (q : Req) (sl : Nat) (rl : Nat) (irq : Nat) (s : State), 6 ≤ sl ∧ sl ≤ 16 ∧ 6 ≤ rl ∧ rl ≤ 16 ∧ irq < 2 ∧ takenUp ciCoreRingConfig q s = true) ∧
    (∃ (q : Req) (es : List WEntry) (s : State), takenAtomic ciCoreFnConfig q s = true ∧ wErr (fun f => [Fld.CORE_FN_FLOW_COUNT, .CORE_FN_FLOW_BASE].contains f) es = none) ∧
    (∃ (q : Req) (es : List WEntry) (s : State), takenAtomic ciCoreLimits q s = true ∧ wErr (fun f => f == Fld.CORE_RUN_LIMIT_US_LIMIT) es = none) ∧
    (∃ (q : Req) (s : State), takenUp ciCoreServiceList q s = true) ∧
    (∃ (q : Req) (lock : Nat) (s : State), takenUp ciLockAcquire q s = true ∧ lock < 1024) ∧
    (∃ (q : Req) (lock : Nat) (s : State), takenUp ciLockAcquire q s = true ∧ 1024 ≤ lock) ∧
    (∃ (q : Req) (lock : Nat) (s : State), takenUp ciLockRelease q s = true ∧ lock < 1024 ∧ (s.lock lock).holder = some (.fn q.user)) ∧
    (∃ (q : Req) (lock : Nat) (s : State), takenUp ciLockRelease q s = true ∧ lock < 1024 ∧ (s.lock lock).holder ≠ some (.fn q.user)) ∧
    (∃ (q : Req) (lock : Nat) (s : State), takenUp ciLockRelease q s = true ∧ 1024 ≤ lock) ∧
    (∃ (o : LockOwner) (lock : Nat) (s : State) (may : Prop), (((∃ k, o = .item k ∧ (s.work k).phase = 1) ∨ (∃ m, o = .mgmt m ∧ m < 4) ↔ may)) ∧ (∀ u, o ≠ .fn u) ∧ lock < 1024 ∧ may ∧ (s.lock lock).holder = some o) ∧
    (∃ (o : LockOwner) (lock : Nat) (s : State) (may : Prop), (((∃ k, o = .item k ∧ (s.work k).phase = 1) ∨ (∃ m, o = .mgmt m ∧ m < 4) ↔ may)) ∧ (∀ u, o ≠ .fn u) ∧ lock < 1024 ∧ may ∧ (s.lock lock).holder ≠ some o) ∧
    (∃ (o : LockOwner) (lock : Nat) (s : State) (may : Prop), (((∃ k, o = .item k ∧ (s.work k).phase = 1) ∨ (∃ m, o = .mgmt m ∧ m < 4) ↔ may)) ∧ (∀ u, o ≠ .fn u) ∧ (1024 ≤ lock ∨ ¬may)) ∧
    (∃ (lock : Nat) (s : State), (s.lock lock).holder = none) ∧
    (∃ (o : LockOwner) (lock : Nat) (waitUs : Nat) (s : State) (h : LockOwner), (s.lock lock).holder = some h ∧ h ≠ o ∧ waitUs ≠ 0) :=
    ⟨⟨host, [], ready, by decide +kernel⟩,
    ⟨⟨0, 0, 0⟩, _, rfl, by decide +kernel⟩,
    ⟨wd .CORE_WQ_CFG_SUBMIT_FN 5, (ready.setCore (fun c => { c with works := [(1, {})] })), _, rfl, by decide +kernel⟩,
    ⟨wd .CORE_WQ_CFG_SUBMIT_FN 5, ready, _, rfl, by decide +kernel⟩,
    ⟨host, 6, 6, 0, ready, by decide +kernel⟩,
    ⟨host, [], ready, by decide +kernel⟩,
    ⟨host, [], ready, by decide +kernel⟩,
    ⟨host, ready, by decide +kernel⟩,
    ⟨host, 0, ready, by decide +kernel⟩,
    ⟨host, 1024, ready, by decide +kernel⟩,
    ⟨host, 0, (ready.setLock 0 (fun y => { y with holder := some (.fn host.user) })), by decide +kernel⟩,
    ⟨host, 0, ready, by decide +kernel⟩,
    ⟨host, 1024, ready, by decide +kernel⟩,
    ⟨.mgmt 0, 0, (ready.setLock 0 (fun y => { y with holder := some (.mgmt 0) })), _, Iff.rfl, (fun _ h => nomatch h), by decide +kernel, .inr ⟨0, rfl, by decide⟩, by decide +kernel⟩,
    ⟨.mgmt 0, 0, ready, _, Iff.rfl, (fun _ h => nomatch h), by decide +kernel, .inr ⟨0, rfl, by decide⟩, by decide +kernel⟩,
    ⟨.mgmt 0, 1024, ready, _, Iff.rfl, (fun _ h => nomatch h), .inl (by decide)⟩,
    ⟨0, (ready.setLock 0 (fun y => { y with holder := none })), by decide +kernel⟩,
    ⟨.mgmt 0, 0, 1, (ready.setLock 0 (fun y => { y with holder := some (.mgmt 1) })), .mgmt 1, by decide +kernel⟩⟩

/-- The hypotheses of `Obligations.CoreEventsComplete` are met. -/
theorem witness_CoreEventsComplete :
    (∃ (u : Fin 32) (s : State) (stopped : Prop), ((stopped ↔ (s.workRing u).subLog2 < 6 ∨ subWaiting s u = 0 ∨ s.get .FLT_STATUS_SAFE = 1 ∨ s.asleep = true ∨ s.get .BPM_OWNER_IN_RESET u = 1 ∨ s.restarting 22 = true ∨ 8192 ≤ inFlight s)) ∧ stopped) ∧
    (∃ (u : Fin 32) (s : State) (stopped : Prop), ((stopped ↔ (s.workRing u).subLog2 < 6 ∨ subWaiting s u = 0 ∨ s.get .FLT_STATUS_SAFE = 1 ∨ s.asleep = true ∨ s.get .BPM_OWNER_IN_RESET u = 1 ∨ s.restarting 22 = true ∨ 8192 ≤ inFlight s)) ∧ ¬stopped ∧ resultFree s u = false) ∧
    (∃ (u : Fin 32) (s : State) (stopped : Prop), ((stopped ↔ (s.workRing u).subLog2 < 6 ∨ subWaiting s u = 0 ∨ s.get .FLT_STATUS_SAFE = 1 ∨ s.asleep = true ∨ s.get .BPM_OWNER_IN_RESET u = 1 ∨ s.restarting 22 = true ∨ 8192 ≤ inFlight s)) ∧ ¬stopped ∧ resultFree s u = true ∧ windowOk s u ((s.workRing u).subBase + s.get .CORE_FN_SUB_HEAD u * 64) 64 false = false) ∧
    (∃ (u : Fin 32) (e : WorkEntry) (s : State) (t : State) (stopped : Prop) (st : Nat) (w : State), ((stopped ↔ (s.workRing u).subLog2 < 6 ∨ subWaiting s u = 0 ∨ s.get .FLT_STATUS_SAFE = 1 ∨ s.asleep = true ∨ s.get .BPM_OWNER_IN_RESET u = 1 ∨ s.restarting 22 = true ∨ 8192 ≤ inFlight s)) ∧ t = (s.set .CORE_FN_SUB_HEAD ((s.get .CORE_FN_SUB_HEAD u + 1) % 2 ^ (s.workRing u).subLog2) u).setWorkRing u (fun r => { r with reserved := r.reserved + 1 }) ∧ ¬stopped ∧ resultFree s u = true ∧ windowOk s u ((s.workRing u).subBase + s.get .CORE_FN_SUB_HEAD u * 64) 64 false = true ∧ admitCheck u e t = some (st, w)) ∧
    (∀ (x : Nat × Nat) (hx : x ∈ serviceTable ready), ∃ (u : Fin 32) (e : WorkEntry) (s : State) (t : State) (stopped : Prop), ((stopped ↔ (s.workRing u).subLog2 < 6 ∨ subWaiting s u = 0 ∨ s.get .FLT_STATUS_SAFE = 1 ∨ s.asleep = true ∨ s.get .BPM_OWNER_IN_RESET u = 1 ∨ s.restarting 22 = true ∨ 8192 ≤ inFlight s)) ∧ t = (s.set .CORE_FN_SUB_HEAD ((s.get .CORE_FN_SUB_HEAD u + 1) % 2 ^ (s.workRing u).subLog2) u).setWorkRing u (fun r => { r with reserved := r.reserved + 1 }) ∧ ¬stopped ∧ resultFree s u = true ∧ windowOk s u ((s.workRing u).subBase + s.get .CORE_FN_SUB_HEAD u * 64) 64 false = true ∧ admitCheck u e t = none) ∧
    (∃ (e : WorkEntry), (e.version ≠ 1 ∨ e.zeros = false ∨ 1023 < e.queue)) ∧
    (∃ (u : Nat) (e : WorkEntry) (s : State), e.version = 1 ∧ e.zeros = true ∧ e.queue ≤ 1023 ∧ (s.get .CORE_WQ_CFG_ENABLE e.queue ≠ 1 ∨ s.get .CORE_WQ_CFG_SUBMIT_FN e.queue ≠ u ∨ (e.ordered = true ∧ (e.flow < s.get .CORE_FN_FLOW_BASE u ∨ s.get .CORE_FN_FLOW_BASE u + s.get .CORE_FN_FLOW_COUNT u ≤ e.flow)))) ∧
    (∃ (u : Nat) (e : WorkEntry) (s : State) (row : Nat), e.version = 1 ∧ e.zeros = true ∧ e.queue ≤ 1023 ∧ s.get .CORE_WQ_CFG_ENABLE e.queue = 1 ∧ s.get .CORE_WQ_CFG_SUBMIT_FN e.queue = u ∧ ((e.ordered = true → s.get .CORE_FN_FLOW_BASE u ≤ e.flow ∧ e.flow < s.get .CORE_FN_FLOW_BASE u + s.get .CORE_FN_FLOW_COUNT u)) ∧ e.bufAddr ≠ 0 ∧ bpmCheck s u e.bufAddr (some 103) = .inl row) ∧
    (∃ (u : Nat) (e : WorkEntry) (s : State), e.version = 1 ∧ e.zeros = true ∧ e.queue ≤ 1023 ∧ s.get .CORE_WQ_CFG_ENABLE e.queue = 1 ∧ s.get .CORE_WQ_CFG_SUBMIT_FN e.queue = u ∧ ((e.ordered = true → s.get .CORE_FN_FLOW_BASE u ≤ e.flow ∧ e.flow < s.get .CORE_FN_FLOW_BASE u + s.get .CORE_FN_FLOW_COUNT u)) ∧ (e.bufAddr = 0 ∨ (∃ x, bpmCheck s u e.bufAddr (some 103) = .inr x)) ∧ s.get .CORE_WQ_CFG_MAX_ITEMS e.queue ≤ waitingCount s e.queue) ∧
    (∃ (u : Nat) (e : WorkEntry) (s : State), e.version = 1 ∧ e.zeros = true ∧ e.queue ≤ 1023 ∧ s.get .CORE_WQ_CFG_ENABLE e.queue = 1 ∧ s.get .CORE_WQ_CFG_SUBMIT_FN e.queue = u ∧ ((e.ordered = true → s.get .CORE_FN_FLOW_BASE u ≤ e.flow ∧ e.flow < s.get .CORE_FN_FLOW_BASE u + s.get .CORE_FN_FLOW_COUNT u)) ∧ (e.bufAddr = 0 ∨ (∃ x, bpmCheck s u e.bufAddr (some 103) = .inr x)) ∧ waitingCount s e.queue < s.get .CORE_WQ_CFG_MAX_ITEMS e.queue ∧ (∀ x ∈ serviceTable s, x.1 ≠ e.service)) ∧
    (∀ (x : Nat × Nat) (hx : x ∈ serviceTable ready), ∃ (u : Nat) (e : WorkEntry) (s : State), e.version = 1 ∧ e.zeros = true ∧ e.queue ≤ 1023 ∧ s.get .CORE_WQ_CFG_ENABLE e.queue = 1 ∧ s.get .CORE_WQ_CFG_SUBMIT_FN e.queue = u ∧ ((e.ordered = true → s.get .CORE_FN_FLOW_BASE u ≤ e.flow ∧ e.flow < s.get .CORE_FN_FLOW_BASE u + s.get .CORE_FN_FLOW_COUNT u)) ∧ (e.bufAddr = 0 ∨ (∃ x, bpmCheck s u e.bufAddr (some 103) = .inr x)) ∧ waitingCount s e.queue < s.get .CORE_WQ_CFG_MAX_ITEMS e.queue ∧ (∃ x ∈ serviceTable s, x.1 = e.service)) ∧
    (∃ (s : State) (c : Nat) (k : Nat) (rest : List (Nat × Nat)), s.cls.delivered = (c, k) :: rest ∧ s.restarting 22 = false) ∧
    (∃ (s : State) (c : Nat) (k : Nat) (rest : List (Nat × Nat)), s.cls.delivered = (c, k) :: rest ∧ s.restarting 22 = true) ∧
    (∃ (s : State) (sq : Nat) (k : Nat) (a : Nat) (len : Nat) (rest : List (Nat × Nat × Nat × Nat)), s.sw.toCore = (sq, k, a, len) :: rest ∧ s.restarting 22 = false) ∧
    (∃ (s : State) (sq : Nat) (k : Nat) (a : Nat) (len : Nat) (rest : List (Nat × Nat × Nat × Nat)), s.sw.toCore = (sq, k, a, len) :: rest ∧ s.restarting 22 = true) ∧
    (∃ (s : State), s.cls.delivered = []) ∧
    (∃ (s : State), s.sw.toCore = []) ∧
    (∃ (core : Fin 64) (s : State) (n : Nat) (k : Nat) (rest : List Nat), coreFree s core = true ∧ nextQueue s core = some n ∧ waitingOf s n = k :: rest) ∧
    (∃ (core : Fin 64) (s : State), (coreFree s core = false ∨ nextQueue s core = none ∨ (∃ n, nextQueue s core = some n ∧ waitingOf s n = []))) ∧
    (∃ (k : Nat) (s : State) (t : State) (v : Nat), savingFor s k = some v ∧ t = saveItem v s ∧ (waitingOf t (s.work k).queue).contains k = true) ∧
    (∃ (k : Nat) (s : State) (t : State) (v : Nat), savingFor s k = some v ∧ t = saveItem v s ∧ (waitingOf t (s.work k).queue).contains k = false) ∧
    (∃ (k : Nat) (s : State) (v : _), savingFor s k = none ∧ (waitingOf s (s.work k).queue).head? = some k ∧ ((∀ c, c < 64 → coreFree s c = false ∨ listsCore s (s.work k).queue c = false)) ∧ s.restarting 22 = false ∧ victimOf s (s.work k).queue (s.get .CORE_WQ_CFG_PRIORITY (s.work k).queue) = some v) ∧
    (∃ (k : Nat) (s : State), savingFor s k = none ∧ ((waitingOf s (s.work k).queue).head? ≠ some k ∨ (∃ c, c < 64 ∧ coreFree s c = true ∧ listsCore s (s.work k).queue c = true) ∨ s.restarting 22 = true ∨ victimOf s (s.work k).queue (s.get .CORE_WQ_CFG_PRIORITY (s.work k).queue) = none)) ∧
    (∃ (k : Nat) (s : State), ((s.work k).phase ≠ 1 ∨ hasWork s k = false)) ∧
    (∃ (k : Nat) (status : Nat) (outLen : Nat) (data : Nat) (fs : List Emitted) (s : State) (u : _), (s.work k).phase = 1 ∧ hasWork s k = true ∧ u = (ownerCeases (.item k) s).setWork k (fun w => { w with phase := 3, status := status % 256, outLen := outLen % 2 ^ 32, data := data % 2 ^ 64, frames := fs.map (fun f => (f.dest % 42, f.cls % 8, f.aid % 64, f.bytes)) }) ∧ (u.work k).flow = none) ∧
    (∃ (k : Nat) (status : Nat) (outLen : Nat) (data : Nat) (fs : List Emitted) (s : State) (t : State) (u : _) (f : Nat), (s.work k).phase = 1 ∧ hasWork s k = true ∧ u = (ownerCeases (.item k) s).setWork k (fun w => { w with phase := 3, status := status % 256, outLen := outLen % 2 ^ 32, data := data % 2 ^ 64, frames := fs.map (fun f_ => (f_.dest % 42, f_.cls % 8, f_.aid % 64, f_.bytes)) }) ∧ t = wqShow (u.work k).queue (cpuShow (s.work k).core u) ∧ (u.work k).flow = some f ∧ (Tab.get [] t.core.flows f).head? = some k) ∧
    (∃ (k : Nat) (status : Nat) (outLen : Nat) (data : Nat) (fs : List Emitted) (s : State) (t : State) (u : _) (f : _), (s.work k).phase = 1 ∧ hasWork s k = true ∧ u = (ownerCeases (.item k) s).setWork k (fun w => { w with phase := 3, status := status % 256, outLen := outLen % 2 ^ 32, data := data % 2 ^ 64, frames := fs.map (fun f_ => (f_.dest % 42, f_.cls % 8, f_.aid % 64, f_.bytes)) }) ∧ t = wqShow (u.work k).queue (cpuShow (s.work k).core u) ∧ (u.work k).flow = some f ∧ (Tab.get [] t.core.flows f).head? ≠ some k) ∧
    (∃ (k : Nat) (s : State), ((s.work k).phase ≠ 1 ∨ hasWork s k = false ∨ (s.work k).ran + (s.now - (s.work k).startedAt) ≤ s.get .CORE_RUN_LIMIT_US_LIMIT * uUs)) ∧
    (∃ (k : Nat) (s : State), (s.work k).phase = 1 ∧ hasWork s k = true ∧ s.get .CORE_RUN_LIMIT_US_LIMIT * uUs < (s.work k).ran + (s.now - (s.work k).startedAt)) ∧
    (∃ (lock : Fin 1024) (s : State), (∀ w ∈ (s.lock lock).waiters, s.now < w.since + w.waitUs * uUs)) ∧
    (∃ (lock : Fin 1024) (s : State) (pre : List LockWait) (w : LockWait) (post : List LockWait), (s.lock lock).waiters = pre ++ w :: post ∧ (∀ x ∈ pre, s.now < x.since + x.waitUs * uUs) ∧ w.since + w.waitUs * uUs ≤ s.now) :=
    ⟨⟨0, ready, _, Iff.rfl, by decide +kernel⟩,
    ⟨0, (subS.setWorkRing 0 (fun r => { r with resLog2 := 0 })), _, Iff.rfl, by decide +kernel⟩,
    ⟨0, (subS.set .CMD_WIN_VALID 0), _, Iff.rfl, by decide +kernel⟩,
    ⟨0, { work0 0 with version := 2 }, subS, _, _, _, _, Iff.rfl, rfl, by decide +kernel, by decide +kernel, by decide +kernel, rfl⟩,
    fun x hx => ⟨0, work0 x.1, subS, _, _, Iff.rfl, rfl, by decide +kernel, by decide +kernel, by decide +kernel, admit_ok x _ (by decide +kernel) (by decide +kernel) (by decide +kernel) hx⟩,
    ⟨{ work0 0 with version := 2 }, by decide +kernel⟩,
    ⟨0, ⟨1, false, false, false, true, 0, 0, 0, 0, 0, 64, []⟩, ready, by decide +kernel⟩,
    ⟨0, { work0 0 with bufAddr := 5 }, subS, 0, by decide +kernel⟩,
    ⟨0, ⟨1, false, false, false, true, 0, 0, 0, 0, 0, 64, []⟩, (subS.set .CORE_WQ_CFG_MAX_ITEMS 0), by decide +kernel, by decide +kernel, by decide +kernel, (by decide +kernel), by decide +kernel, by decide +kernel, .inl (by decide +kernel), by decide +kernel⟩,
    ⟨0, work0 noService, subS, by decide +kernel, by decide +kernel, by decide +kernel, (by decide +kernel), by decide +kernel, by decide +kernel, .inl (by decide +kernel), by decide +kernel, noService_not⟩,
    fun x hx => ⟨0, work0 x.1, subS, rfl, rfl, by show (0 : Nat) ≤ 1023; decide, by show subS.get .CORE_WQ_CFG_ENABLE 0 = 1; decide +kernel, by show subS.get .CORE_WQ_CFG_SUBMIT_FN 0 = 0; decide +kernel, (fun h => nomatch h), .inl rfl, by show waitingCount subS 0 < subS.get .CORE_WQ_CFG_MAX_ITEMS 0; decide +kernel, ⟨x, hx, rfl⟩⟩,
    ⟨(let y : State := ready; { y with cls := { y.cls with delivered := (0, 0) :: ([]) } }), 0, 0, [], by decide +kernel⟩,
    ⟨((let y : State := ready; { y with cls := { y.cls with delivered := (0, 0) :: ([]) } }).set .FLT_RECOVERY_LEVEL 2 22), 0, 0, [], by decide +kernel⟩,
    ⟨(let y : State := ready; { y with sw := { y.sw with toCore := (0, 0, 0, 0) :: ([]) } }), 0, 0, 0, 0, [], by decide +kernel⟩,
    ⟨((let y : State := ready; { y with sw := { y.sw with toCore := (0, 0, 0, 0) :: ([]) } }).set .FLT_RECOVERY_LEVEL 2 22), 0, 0, 0, 0, [], by decide +kernel⟩,
    ⟨(let y : State := ready; { y with cls := { y.cls with delivered := [] } }), by decide +kernel⟩,
    ⟨(let y : State := ready; { y with sw := { y.sw with toCore := [] } }), by decide +kernel⟩,
    ⟨0, (((ready.setCore (fun c => { c with waiting := [(0, [1])] })).setWork 1 (fun w => { w with queue := 0, service := 1 })).set .CORE_WQ_CFG_GROUPS 255 0), 0, 1, [], by decide +kernel⟩,
    ⟨0, ready, by decide +kernel⟩,
    ⟨1, (ready.setCore (fun c => { c with waiting := [(0, [1])], works := [(5, { phase := 4, savedFor := some 1, queue := 7 })] })), _, 5, by decide +kernel, rfl, by decide +kernel⟩,
    ⟨1, (ready.setCore (fun c => { c with works := [(5, { phase := 4, savedFor := some 1, queue := 7 })] })), _, 5, by decide +kernel, rfl, by decide +kernel⟩,
    ⟨1, crowded, 2, by decide +kernel, by decide +kernel, by intro c hc; interval_cases c <;> decide +kernel, by decide +kernel⟩,
    ⟨0, ready, by decide +kernel⟩,
    ⟨0, ready, by decide +kernel⟩,
    ⟨0, 0, 0, 0, [], ((ready.setWork 0 (fun y => { y with phase := 1 })).setWork 0 (fun y => { y with flow := none })), _, by decide +kernel, by decide +kernel, rfl, by decide +kernel⟩,
    ⟨1, 0, 0, 0, [], (ready.setCore (fun c => { c with flows := [(3, [1])], works := [(1, { phase := 1, flow := some 3 })] })), _, _, 3, by decide +kernel, by decide +kernel, rfl, rfl, by decide +kernel⟩,
    ⟨0, 0, 0, 0, [], ((ready.setWork 0 (fun y => { y with phase := 1 })).setWork 0 (fun y => { y with flow := some 0 })), _, _, 0, by decide +kernel, by decide +kernel, rfl, rfl, by decide +kernel⟩,
    ⟨0, ready, by decide +kernel⟩,
    ⟨0, (let y : State := (ready.setWork 0 (fun y => { y with phase := 1 })); { y with now := uS * 4294967296 }), by decide +kernel⟩,
    ⟨0, ready, by intro w hw; exact absurd hw (by simp [State.lock, ready, State.reset, Tab.get])⟩,
    ⟨0, (ready.setLock 0 (fun y => { y with waiters := [⟨.item 1, none, 0, 0⟩] })), [], ⟨.item 1, none, 0, 0⟩, [], by decide +kernel, by first | decide +kernel | (intros; first | rfl | (simp_all; done) | decide), by decide +kernel⟩⟩

/-- The hypotheses of `Obligations.SystemCommandsComplete` are met. -/
theorem witness_SystemCommandsComplete :
    (∃ (q : Req) (s : State), takenUp ciSysNop q s = true) ∧
    (∃ (q : Req) (s : State), takenUp ciSysIdentify q s = true) ∧
    (∃ (q : Req) (fn : Nat) (set : Nat) (s : State), takenUp ciFence q s = true ∧ q.user ≠ 0 ∧ (set = 0 ∨ fn ≠ q.user)) ∧
    (∃ (q : Req) (fn : Nat) (set : Nat) (timeout : Nat) (s : State), takenUp ciFence q s = true ∧ (q.user = 0 ∨ (set ≠ 0 ∧ fn = q.user)) ∧ fn < 32 ∧ set ≤ 2 ∧ timeout < 2 ^ 32 ∧ (set = 0 → fn = 0)) ∧
    (∃ (q : Req) (fn : Nat) (set : Nat) (s : State), takenUp ciFence q s = true ∧ (q.user = 0 ∨ (set ≠ 0 ∧ fn = q.user)) ∧ (32 ≤ fn ∨ (set = 0 ∧ fn ≠ 0))) ∧
    (∃ (q : Req) (fn : Nat) (set : Nat) (s : State), takenUp ciFence q s = true ∧ (q.user = 0 ∨ (set ≠ 0 ∧ fn = q.user)) ∧ fn < 32 ∧ 2 < set) ∧
    (∃ (q : Req) (fn : Nat) (set : Nat) (timeout : Nat) (s : State), takenUp ciFence q s = true ∧ (q.user = 0 ∨ (set ≠ 0 ∧ fn = q.user)) ∧ fn < 32 ∧ set ≤ 2 ∧ (set = 0 → fn = 0) ∧ 2 ^ 32 ≤ timeout) ∧
    (∃ (q : Req) (mode : Nat) (s : State), takenAtomic ciSysMode q s = true ∧ mode ≤ 5 ∧ (mode ≠ 4 ∨ rateTotal s ≤ 8)) ∧
    (∃ (q : Req) (mode : Nat) (s : State), takenAtomic ciSysMode q s = true ∧ mode = 4 ∧ 8 < rateTotal s) ∧
    (∃ (q : Req) (mode : Nat) (s : State), takenAtomic ciSysMode q s = true ∧ 5 < mode) ∧
    (∃ (q : Req) (kind : Nat) (s : State), takenUp ciSysRestart q s = true ∧ kind ≤ 2) ∧
    (∃ (q : Req) (fn : Nat) (pairs : List (Nat × Nat)) (s : State), takenAtomic ciSysWindowSet q s = true ∧ fn < 32 ∧ pairs.length = 8 ∧ windowErr pairs = none) ∧
    (∃ (q : Req) (addr : Nat) (cap : Nat) (n : Nat) (s : State) (t : State) (denied : Bool) (cut : Bool), takenUp ciSysStateDump q s = true ∧ addr < 2 ^ 64 ∧ cap < 2 ^ 64 ∧ dumpSections (blocks ++ windows) addr cap s = (t, n, denied, cut)) ∧
    (∃ (q : Req) (fn : Nat) (s : State), takenUp ciSysCmdHistory q s = true ∧ fn < 32 ∧ (q.user = 0 ∨ fn = q.user)) ∧
    (∃ (q : Req) (fn : Nat) (s : State), takenUp ciSysCmdHistory q s = true ∧ fn < 32 ∧ q.user ≠ 0 ∧ fn ≠ q.user) ∧
    (∃ (q : Req) (es : List WEntry) (s : State), takenAtomic ciSysPeerConfig q s = true ∧ wErr (fun f => peerFields.contains f) es = none) ∧
    (∃ (q : Req) (role : Nat) (s : State), takenUp ciSysPeerRole q s = true ∧ role < 2 ∧ s.get .CMD_PEER_CFG_ROLE = role) ∧
    (∃ (q : Req) (role : Nat) (s : State), takenUp ciSysPeerRole q s = true ∧ role < 2 ∧ s.get .CMD_PEER_CFG_ROLE ≠ role) ∧
    (∃ (q : Req) (es : List WEntry) (s : State), takenUp ciSysInbandConfig q s = true ∧ wErr (fun f => f == Fld.CMD_INBAND_CLASS || f == Fld.CMD_INBAND_MAC) es = none) :=
    ⟨⟨host, ready, by decide +kernel⟩,
    ⟨host, ready, by decide +kernel⟩,
    ⟨{ host with src := .ring 1, user := 1 }, 0, 0, ready, by decide +kernel⟩,
    ⟨host, 0, 0, 0, ready, by decide +kernel⟩,
    ⟨host, 40, 1, ready, by decide +kernel⟩,
    ⟨host, 0, 3, ready, by decide +kernel⟩,
    ⟨host, 0, 0, (2 ^ 32), ready, by decide +kernel⟩,
    ⟨host, 0, ready, by decide +kernel⟩,
    ⟨host, 4, ((((((ready.set .PORT_CFG_TYPE 4 0).set .PORT_CFG_TYPE 4 8).set .PORT_CFG_TYPE 4 16).set .PORT_STATUS_LINK_STATE 1 0).set .PORT_STATUS_LINK_STATE 1 8).set .PORT_STATUS_LINK_STATE 1 16), by decide +kernel⟩,
    ⟨host, 6, ready, by decide +kernel⟩,
    ⟨host, 0, ready, by decide +kernel⟩,
    ⟨host, 0, (List.replicate 8 (0, 0)), ready, by decide +kernel⟩,
    ⟨host, 0, 0, 0, ready, ready, false, false, by decide +kernel⟩,
    ⟨host, 0, ready, by decide +kernel⟩,
    ⟨{ host with src := .ring 3, user := 3 }, 2, ready, by decide +kernel⟩,
    ⟨host, [], ready, by decide +kernel⟩,
    ⟨host, 0, (ready.set .CMD_PEER_CFG_ROLE 0), by decide +kernel⟩,
    ⟨host, 0, (ready.set .CMD_PEER_CFG_ROLE 1), by decide +kernel⟩,
    ⟨host, [], ready, by decide +kernel⟩⟩

/-- The hypotheses of `Obligations.PowerCommandsComplete` are met. -/
theorem witness_PowerCommandsComplete :
    (∃ (q : Req) (s : State), takenUp ciPwrState q s = true ∧ deviceIdle (ownCommand q s) s = true) ∧
    (∃ (q : Req) (s : State), takenUp ciPwrState q s = true ∧ deviceIdle (ownCommand q s) s = false) ∧
    (∃ (s : State) (st : Nat), st = s.get .PWR_STATE_STATE ∧ st = 0) ∧
    (∃ (s : State) (st : Nat), st = s.get .PWR_STATE_STATE ∧ st = 4 ∧ s.pins.pfail = true) ∧
    (∃ (s : State) (st : Nat), st = s.get .PWR_STATE_STATE ∧ ((st = 4 ∧ s.pins.pfail = false) ∨ st = 6)) ∧
    (∃ (s : State) (st : Nat), st = s.get .PWR_STATE_STATE ∧ st = 3) ∧
    (∃ (s : State) (st : Nat), st = s.get .PWR_STATE_STATE ∧ st ≠ 0 ∧ st ≠ 3 ∧ st ≠ 4 ∧ st ≠ 6) ∧
    (∃ (s : State) (st : Nat), st = s.get .PWR_STATE_STATE ∧ (st = 2 ∨ st = 4) ∧ s.pins.pfail = true) ∧
    (∃ (s : State) (st : Nat), st = s.get .PWR_STATE_STATE ∧ st = 6) ∧
    (∃ (s : State) (st : Nat), st = s.get .PWR_STATE_STATE ∧ st ≠ 6 ∧ ((st ≠ 2 ∧ st ≠ 4) ∨ s.pins.pfail = false)) ∧
    (∃ (s : State) (st : Nat), st = s.get .PWR_STATE_STATE ∧ st = 2 ∧ s.pins.pfail = true) ∧
    (∃ (s : State) (st : Nat), st = s.get .PWR_STATE_STATE ∧ (st = 3 ∨ st = 4)) ∧
    (∃ (s : State) (st : Nat), st = s.get .PWR_STATE_STATE ∧ st ≠ 3 ∧ st ≠ 4 ∧ (st ≠ 2 ∨ s.pins.pfail = false)) ∧
    (∃ (q : Req) (es : List WEntry) (s : State), takenUp ciPwrIdleConfig q s = true ∧ wErr (fun f => idleFields.contains f) es = none ∧ dozeErr es = none) ∧
    (∃ (q : Req) (es : List WEntry) (s : State) (off : Nat), takenUp ciPwrIdleConfig q s = true ∧ wErr (fun f => idleFields.contains f) es = none ∧ dozeErr es = some off) ∧
    (∃ (q : Req) (es : List WEntry) (s : State), takenUp ciPwrWakeConfig q s = true ∧ wErr (fun f => [Fld.PWR_WAKE_AT_S, .PWR_WAKE_ENABLE, .PWR_STATE_PELDEL_OFF].contains f) es = none) ∧
    (∃ (q : Req) (point : Nat) (s : State), takenUp ciPwrDvfs q s = true ∧ (point < 4 ∨ point = 15)) ∧
    (∃ (q : Req) (point : Nat) (s : State), takenUp ciPwrDvfs q s = true ∧ 4 ≤ point ∧ point ≠ 15) ∧
    (∃ (q : Req) (s : State), takenUp ciPwrTelemetry q s = true) ∧
    (∃ (q : Req) (es : List WEntry) (s : State), takenUp ciPwrBusConfig q s = true ∧ wErr (fun f => [Fld.PWR_PMBUS_SETTLE_US, .PWR_PMBUS_VCORE_ADDR, .PWR_RAIL_ADDR].contains f) es = none ∧ s.get .PWR_DVFS_TRANSITION ≠ 1) ∧
    (∃ (q : Req) (es : List WEntry) (s : State), takenUp ciPwrBusConfig q s = true ∧ wErr (fun f => [Fld.PWR_PMBUS_SETTLE_US, .PWR_PMBUS_VCORE_ADDR, .PWR_RAIL_ADDR].contains f) es = none ∧ s.get .PWR_DVFS_TRANSITION = 1) :=
    ⟨⟨host, ready, by decide +kernel⟩,
    ⟨host, (ready.setCopy 1 (fun c => { c with len := 1 })), by decide +kernel⟩,
    ⟨(pwS 0 0), _, rfl, by decide +kernel⟩,
    ⟨(pwS 4 0), _, rfl, by decide +kernel⟩,
    ⟨(pwS 6 0), _, rfl, by decide +kernel⟩,
    ⟨(pwS 3 0), _, rfl, by decide +kernel⟩,
    ⟨ready, _, rfl, by decide +kernel⟩,
    ⟨(let y : State := ready; { y with pins := { y.pins with pfail := true } }), _, rfl, by decide +kernel⟩,
    ⟨(pwS 6 0), _, rfl, by decide +kernel⟩,
    ⟨(pwS 1 0), _, rfl, by decide +kernel⟩,
    ⟨(let y : State := ready; { y with pins := { y.pins with pfail := true } }), _, rfl, by decide +kernel⟩,
    ⟨(pwS 3 0), _, rfl, by decide +kernel⟩,
    ⟨(pwS 1 0), _, rfl, by decide +kernel⟩,
    ⟨host, [wd .PWR_DOZE_DOZE_EN 0 22], ready, by decide +kernel⟩,
    ⟨host, [wd .PWR_DOZE_DOZE_EN 1 20], ready, 37, by decide +kernel⟩,
    ⟨host, [], ready, by decide +kernel⟩,
    ⟨host, 0, ready, by decide +kernel⟩,
    ⟨host, 4, ready, by decide +kernel⟩,
    ⟨host, ready, by decide +kernel⟩,
    ⟨host, [], (ready.set .PWR_DVFS_TRANSITION 0), by decide +kernel⟩,
    ⟨host, [], (ready.set .PWR_DVFS_TRANSITION 1), by decide +kernel⟩⟩

/-- The hypotheses of `Obligations.SupplyAndClockEventsComplete` are met. -/
theorem witness_SupplyAndClockEventsComplete :
    (∃ (s : State), (s.pins.mainEn = false ∨ s.test.tapHold = true)) ∧
    (∃ (s : State) (t : State), t = pinsShow { s with pins := { s.pins with pwrGood := true, sysReset := true } } ∧ s.pins.mainEn = true ∧ s.test.tapHold = false ∧ t.get .SYS_BOOT_PHASE ≠ 0) ∧
    (∃ (s : State) (t : State), t = pinsShow { s with pins := { s.pins with pwrGood := true, sysReset := true } } ∧ s.pins.mainEn = true ∧ s.test.tapHold = false ∧ t.get .SYS_BOOT_PHASE = 0) ∧
    (∃ (s : State) (a : _), s.power.mainSince = a + 1 ∧ s.pins.mainEn = true ∧ a + 100 * uMs ≤ s.now) ∧
    (∃ (s : State), (s.power.mainSince = 0 ∨ s.pins.mainEn = false ∨ s.now < s.power.mainSince - 1 + 100 * uMs)) ∧
    (∃ (s : State), s.pins.pwrGood = false) ∧
    (∃ (s : State) (t : State), t = pinsShow { s with pins := { s.pins with pwrGood := false } } ∧ s.pins.pwrGood = true ∧ t.pins.mainEn = true ∧ t.pins.sysReset = true ∧ t.get .SYS_BOOT_PHASE ≠ 0) ∧
    (∃ (s : State) (t : State), t = pinsShow { s with pins := { s.pins with pwrGood := false } } ∧ s.pins.pwrGood = true ∧ (t.pins.mainEn = false ∨ t.pins.sysReset = false ∨ t.get .SYS_BOOT_PHASE = 0)) ∧
    (∃ (s : State), (s.get .PWR_STATE_STATE = 0 ∨ (s.get .PWR_STATE_STATE = 6 ∧ 7 ≤ s.get .PWR_STATE_PHASE))) ∧
    (∃ (s : State), s.get .PWR_STATE_STATE ≠ 0 ∧ (s.get .PWR_STATE_STATE ≠ 6 ∨ s.get .PWR_STATE_PHASE < 7)) ∧
    (∃ (s : State) (t : State), t = pinsShow { s with pins := { s.pins with pfail := false } } ∧ (s.pins.pfail = false ∨ t.get .PWR_STATE_STATE = 0 ∨ storeOpen t = false)) ∧
    (∃ (s : State) (t : State), t = pinsShow { s with pins := { s.pins with pfail := false } } ∧ s.pins.pfail = true ∧ t.get .PWR_STATE_STATE ≠ 0 ∧ storeOpen t = true) ∧
    (∃ (s : State) (t : State), t = pinsShow { s with pins := { s.pins with pfail := true } } ∧ storeHeld t = false) ∧
    (∃ (s : State) (t : State), t = pinsShow { s with pins := { s.pins with pfail := true } } ∧ storeHeld t = true) ∧
    (∃ (s : State) (may : Prop), ((may ↔ s.get .PWR_DVFS_REQUEST = 15 ∧ s.mode ≠ 4 ∧ s.get .PWR_DVFS_TRANSITION ≠ 1 ∧ s.get .PWR_STATE_STATE = 2)) ∧ ¬may) ∧
    (∃ (load : Nat) (s : State) (target : Nat) (may : Prop), target = ([3, 2, 1, 0].find? (fun p => decide (5 * load ≤ 4 * pointCapacity p))).getD 0 ∧ ((may ↔ s.get .PWR_DVFS_REQUEST = 15 ∧ s.mode ≠ 4 ∧ s.get .PWR_DVFS_TRANSITION ≠ 1 ∧ s.get .PWR_STATE_STATE = 2)) ∧ may ∧ 9 * pointCapacity (s.get .PWR_DVFS_POINT) < 10 * load ∧ target < s.get .PWR_DVFS_POINT) ∧
    (∃ (load : Nat) (s : State) (target : Nat) (may : Prop), target = ([3, 2, 1, 0].find? (fun p => decide (5 * load ≤ 4 * pointCapacity p))).getD 0 ∧ ((may ↔ s.get .PWR_DVFS_REQUEST = 15 ∧ s.mode ≠ 4 ∧ s.get .PWR_DVFS_TRANSITION ≠ 1 ∧ s.get .PWR_STATE_STATE = 2)) ∧ may ∧ 9 * pointCapacity (s.get .PWR_DVFS_POINT) < 10 * load ∧ s.get .PWR_DVFS_POINT ≤ target) ∧
    (∃ (load : Nat) (s : State) (may : Prop), ((may ↔ s.get .PWR_DVFS_REQUEST = 15 ∧ s.mode ≠ 4 ∧ s.get .PWR_DVFS_TRANSITION ≠ 1 ∧ s.get .PWR_STATE_STATE = 2)) ∧ may ∧ 10 * load ≤ 9 * pointCapacity (s.get .PWR_DVFS_POINT) ∧ s.now < s.power.loadAt + 10 * uMs) ∧
    (∃ (load : Nat) (s : State) (target : Nat) (may : Prop), target = ([3, 2, 1, 0].find? (fun p => decide (5 * load ≤ 4 * pointCapacity p))).getD 0 ∧ ((may ↔ s.get .PWR_DVFS_REQUEST = 15 ∧ s.mode ≠ 4 ∧ s.get .PWR_DVFS_TRANSITION ≠ 1 ∧ s.get .PWR_STATE_STATE = 2)) ∧ may ∧ 10 * load ≤ 9 * pointCapacity (s.get .PWR_DVFS_POINT) ∧ s.power.loadAt + 10 * uMs ≤ s.now ∧ s.get .PWR_DVFS_POINT < target) ∧
    (∃ (load : Nat) (s : State) (target : Nat) (may : Prop), target = ([3, 2, 1, 0].find? (fun p => decide (5 * load ≤ 4 * pointCapacity p))).getD 0 ∧ ((may ↔ s.get .PWR_DVFS_REQUEST = 15 ∧ s.mode ≠ 4 ∧ s.get .PWR_DVFS_TRANSITION ≠ 1 ∧ s.get .PWR_STATE_STATE = 2)) ∧ may ∧ 10 * load ≤ 9 * pointCapacity (s.get .PWR_DVFS_POINT) ∧ s.power.loadAt + 10 * uMs ≤ s.now ∧ target ≤ s.get .PWR_DVFS_POINT) ∧
    (∃ (mv : Nat) (target : Nat) (s : State) (polls : Prop) (near : Prop), target = pointMv (s.get .PWR_DVFS_TARGET) ∧ ((polls ↔ s.get .PWR_DVFS_TRANSITION = 1 ∧ s.get .PWR_PMBUS_BUS_OK = 1 ∧ s.power.confirmedAt = 0 ∧ s.power.pollAt + 50 * uUs ≤ s.now)) ∧ ((near ↔ target ≤ mv + 10 ∧ mv ≤ target + 10)) ∧ ¬polls) ∧
    (∃ (mv : Nat) (target : Nat) (s : State) (polls : Prop) (near : Prop), target = pointMv (s.get .PWR_DVFS_TARGET) ∧ ((polls ↔ s.get .PWR_DVFS_TRANSITION = 1 ∧ s.get .PWR_PMBUS_BUS_OK = 1 ∧ s.power.confirmedAt = 0 ∧ s.power.pollAt + 50 * uUs ≤ s.now)) ∧ ((near ↔ target ≤ mv + 10 ∧ mv ≤ target + 10)) ∧ polls ∧ ¬near) ∧
    (∃ (mv : Nat) (target : Nat) (s : State) (polls : Prop) (near : Prop), target = pointMv (s.get .PWR_DVFS_TARGET) ∧ ((polls ↔ s.get .PWR_DVFS_TRANSITION = 1 ∧ s.get .PWR_PMBUS_BUS_OK = 1 ∧ s.power.confirmedAt = 0 ∧ s.power.pollAt + 50 * uUs ≤ s.now)) ∧ ((near ↔ target ≤ mv + 10 ∧ mv ≤ target + 10)) ∧ polls ∧ near) ∧
    (∃ (s : State), s.get .PWR_DVFS_TRANSITION ≠ 1) ∧
    (∃ (s : State), s.get .PWR_DVFS_TRANSITION = 1 ∧ s.get .PWR_PMBUS_BUS_OK ≠ 1) ∧
    (∃ (s : State) (c : _), s.get .PWR_DVFS_TRANSITION = 1 ∧ s.get .PWR_PMBUS_BUS_OK = 1 ∧ s.power.confirmedAt = c + 1 ∧ c + s.get .PWR_PMBUS_SETTLE_US * uUs ≤ s.now ∧ s.get .PWR_DVFS_THROTTLED ≠ 1) ∧
    (∃ (s : State), s.get .PWR_DVFS_TRANSITION = 1 ∧ s.get .PWR_PMBUS_BUS_OK = 1 ∧ (s.power.confirmedAt = 0 ∨ s.now < s.power.confirmedAt - 1 + s.get .PWR_PMBUS_SETTLE_US * uUs ∨ s.get .PWR_DVFS_THROTTLED = 1)) ∧
    (∃ (s : State), s.get .PWR_DVFS_TRANSITION = 1 ∧ s.power.confirmedAt = 0 ∧ s.power.raiseAt + uMs ≤ s.now) ∧
    (∃ (s : State), (s.get .PWR_DVFS_TRANSITION ≠ 1 ∨ s.power.confirmedAt ≠ 0 ∨ s.now < s.power.raiseAt + uMs)) ∧
    (∃ (mv : Nat) (s : State), floorMv (s.get .PWR_DVFS_POINT) ≤ mv) ∧
    (∃ (mv : Nat) (s : State), mv < floorMv (s.get .PWR_DVFS_POINT) ∧ s.get .PWR_DVFS_THROTTLED ≠ 1) ∧
    (∃ (mv : Nat) (s : State), mv < floorMv (s.get .PWR_DVFS_POINT) ∧ s.get .PWR_DVFS_THROTTLED = 1) ∧
    (∃ (s : State), s.get .PWR_DVFS_THROTTLED = 1 ∧ s.power.throttleAt + 100 * uUs ≤ s.now) ∧
    (∃ (s : State), (s.get .PWR_DVFS_THROTTLED ≠ 1 ∨ s.now < s.power.throttleAt + 100 * uUs)) :=
    ⟨⟨(let y : State := ready; { y with pins := { y.pins with mainEn := false } }), by decide +kernel⟩,
    ⟨((let y : State := (let y : State := ready; { y with pins := { y.pins with mainEn := true } }); { y with test := { y.test with tapHold := false } }).set .SYS_BOOT_PHASE 1), _, rfl, by decide +kernel⟩,
    ⟨((let y : State := (let y : State := ready; { y with pins := { y.pins with mainEn := true } }); { y with test := { y.test with tapHold := false } }).set .SYS_BOOT_PHASE 0), _, rfl, by decide +kernel⟩,
    ⟨(let y : State := (let y : State := (let y : State := ready; { y with power := { y.power with mainSince := 0 + 1 } }); { y with pins := { y.pins with mainEn := true } }); { y with now := 0 + 100 * uMs }), 0, by decide +kernel⟩,
    ⟨(let y : State := ready; { y with power := { y.power with mainSince := 0 } }), by decide +kernel⟩,
    ⟨(let y : State := ready; { y with pins := { y.pins with pwrGood := false } }), by decide +kernel⟩,
    ⟨((let y : State := (let y : State := (let y : State := ready; { y with pins := { y.pins with pwrGood := true } }); { y with pins := { y.pins with mainEn := true } }); { y with pins := { y.pins with sysReset := true } }).set .SYS_BOOT_PHASE 1), _, rfl, by decide +kernel⟩,
    ⟨(let y : State := (let y : State := ready; { y with pins := { y.pins with pwrGood := true } }); { y with pins := { y.pins with mainEn := false } }), _, rfl, by decide +kernel⟩,
    ⟨(ready.set .PWR_STATE_STATE 0), by decide +kernel⟩,
    ⟨(ready.set .PWR_STATE_STATE 1), by decide +kernel⟩,
    ⟨(let y : State := ready; { y with pins := { y.pins with pfail := false } }), _, rfl, by decide +kernel⟩,
    ⟨(((let y : State := ready; { y with pins := { y.pins with pfail := true } }).set .PWR_STATE_STATE 1).set .STORE_STATUS_OPEN 1), _, rfl, by decide +kernel⟩,
    ⟨ready, _, rfl, by decide +kernel⟩,
    ⟨(ready.set .STORE_STATUS_PFAIL_HOLD 1), _, rfl, by decide +kernel⟩,
    ⟨(ready.set .PWR_DVFS_REQUEST 0), _, Iff.rfl, by decide +kernel⟩,
    ⟨2000, ((((ready.set .PWR_DVFS_REQUEST 15).set .PWR_DVFS_TRANSITION 0).set .PWR_STATE_STATE 2).set .PWR_DVFS_POINT 1), _, _, rfl, Iff.rfl, by decide +kernel⟩,
    ⟨2000, ((((ready.set .PWR_DVFS_REQUEST 15).set .PWR_DVFS_TRANSITION 0).set .PWR_STATE_STATE 2).set .PWR_DVFS_POINT 0), _, _, rfl, Iff.rfl, by decide +kernel⟩,
    ⟨0, ((ready.set .PWR_DVFS_TRANSITION 0).set .PWR_STATE_STATE 2), _, Iff.rfl, by decide +kernel⟩,
    ⟨0, (let y : State := ((((ready.set .PWR_DVFS_REQUEST 15).set .PWR_DVFS_TRANSITION 0).set .PWR_STATE_STATE 2).set .PWR_DVFS_POINT 0); { y with now := 10 * uMs }), _, _, rfl, Iff.rfl, by decide +kernel⟩,
    ⟨0, (let y : State := ((ready.set .PWR_DVFS_TRANSITION 0).set .PWR_STATE_STATE 2); { y with now := ready.power.loadAt + 10 * uMs }), _, _, rfl, Iff.rfl, by decide +kernel⟩,
    ⟨0, _, (let y : State := (let y : State := (ready.set .PWR_PMBUS_BUS_OK 1); { y with power := { y.power with confirmedAt := 0 } }); { y with now := ready.power.pollAt + 50 * uUs }), _, _, rfl, Iff.rfl, Iff.rfl, by decide +kernel⟩,
    ⟨0, _, (let y : State := (((ready.set .PWR_DVFS_TRANSITION 1).set .PWR_PMBUS_BUS_OK 1).set .PWR_DVFS_TARGET 0); { y with now := 50 * uUs }), _, _, rfl, Iff.rfl, Iff.rfl, by decide +kernel⟩,
    ⟨800, _, (let y : State := (((ready.set .PWR_DVFS_TRANSITION 1).set .PWR_PMBUS_BUS_OK 1).set .PWR_DVFS_TARGET 0); { y with now := 50 * uUs }), _, _, rfl, Iff.rfl, Iff.rfl, by decide +kernel⟩,
    ⟨(ready.set .PWR_DVFS_TRANSITION 0), by decide +kernel⟩,
    ⟨((ready.set .PWR_DVFS_TRANSITION 1).set .PWR_PMBUS_BUS_OK 0), by decide +kernel⟩,
    ⟨(let y : State := ((let y : State := ((ready.set .PWR_DVFS_TRANSITION 1).set .PWR_PMBUS_BUS_OK 1); { y with power := { y.power with confirmedAt := 0 + 1 } }).set .PWR_DVFS_THROTTLED 0); { y with now := 0 + ready.get .PWR_PMBUS_SETTLE_US * uUs }), 0, by decide +kernel⟩,
    ⟨(let y : State := ((ready.set .PWR_DVFS_TRANSITION 1).set .PWR_PMBUS_BUS_OK 1); { y with power := { y.power with confirmedAt := 0 } }), by decide +kernel⟩,
    ⟨(let y : State := (let y : State := (ready.set .PWR_DVFS_TRANSITION 1); { y with power := { y.power with confirmedAt := 0 } }); { y with now := ready.power.raiseAt + uMs }), by decide +kernel⟩,
    ⟨(ready.set .PWR_DVFS_TRANSITION 0), by decide +kernel⟩,
    ⟨800, (ready.set .PWR_DVFS_POINT 0), by decide +kernel⟩,
    ⟨0, (ready.set .PWR_DVFS_THROTTLED 0), by decide +kernel⟩,
    ⟨0, (ready.set .PWR_DVFS_THROTTLED 1), by decide +kernel⟩,
    ⟨(let y : State := (ready.set .PWR_DVFS_THROTTLED 1); { y with now := ready.power.throttleAt + 100 * uUs }), by decide +kernel⟩,
    ⟨(ready.set .PWR_DVFS_THROTTLED 0), by decide +kernel⟩⟩

/-- The hypotheses of `Obligations.PowerStateEventsComplete` are met. -/
theorem witness_PowerStateEventsComplete :
    (∃ (s : State) (t : State) (may : Prop), t = refreshIdle s ∧ ((may ↔ t.get .PWR_STATE_STATE = 2 ∧ t.get .PWR_IDLE_IDLE_EN = 1 ∧ bit (t.get .PWR_IDLE_STANDBY_MODES) t.mode = true ∧ t.mode ≠ 5 ∧ t.pins.pfail = true ∧ t.power.idleSince ≠ 0 ∧ t.power.idleSince - 1 + t.get .PWR_IDLE_DEVICE_MS * uMs ≤ t.now)) ∧ may) ∧
    (∃ (s : State) (t : State) (may : Prop), t = refreshIdle s ∧ ((may ↔ t.get .PWR_STATE_STATE = 2 ∧ t.get .PWR_IDLE_IDLE_EN = 1 ∧ bit (t.get .PWR_IDLE_STANDBY_MODES) t.mode = true ∧ t.mode ≠ 5 ∧ t.pins.pfail = true ∧ t.power.idleSince ≠ 0 ∧ t.power.idleSince - 1 + t.get .PWR_IDLE_DEVICE_MS * uMs ≤ t.now)) ∧ ¬may) ∧
    (∃ (s : State) (st : Nat) (ph : Nat), st = s.get .PWR_STATE_STATE ∧ ph = s.get .PWR_STATE_PHASE ∧ (s.pins.pfail = false ∨ ph = 0 ∨ 3 < ph ∨ (st ≠ 3 ∧ st ≠ 5))) ∧
    (∃ (s : State) (st : Nat) (ph : Nat), st = s.get .PWR_STATE_STATE ∧ ph = s.get .PWR_STATE_PHASE ∧ s.pins.pfail = true ∧ 0 < ph ∧ ph ≤ 3 ∧ (st = 3 ∨ st = 5) ∧ s.power.request = some 2) ∧
    (∃ (s : State) (st : Nat) (ph : Nat), st = s.get .PWR_STATE_STATE ∧ ph = s.get .PWR_STATE_PHASE ∧ s.pins.pfail = true ∧ st = 3 ∧ s.power.request ≠ some 2 ∧ ph = 2 ∧ storeQuiet s = false) ∧
    (∃ (s : State) (st : Nat) (ph : Nat), st = s.get .PWR_STATE_STATE ∧ ph = s.get .PWR_STATE_PHASE ∧ s.pins.pfail = true ∧ st = 3 ∧ s.power.request ≠ some 2 ∧ (ph = 1 ∨ (ph = 2 ∧ storeQuiet s = true) ∨ ph = 3) ∧ s.power.wokeBy ≠ 0) ∧
    (∃ (s : State) (st : Nat) (ph : Nat), st = s.get .PWR_STATE_STATE ∧ ph = s.get .PWR_STATE_PHASE ∧ s.pins.pfail = true ∧ st = 3 ∧ s.power.request ≠ some 2 ∧ s.power.wokeBy = 0 ∧ ph = 1 ∧ deviceIdle 1 s = true) ∧
    (∃ (s : State) (st : Nat) (ph : Nat), st = s.get .PWR_STATE_STATE ∧ ph = s.get .PWR_STATE_PHASE ∧ s.pins.pfail = true ∧ st = 3 ∧ s.power.request ≠ some 2 ∧ s.power.wokeBy = 0 ∧ ph = 1 ∧ deviceIdle 1 s = false) ∧
    (∃ (s : State) (st : Nat) (ph : Nat), st = s.get .PWR_STATE_STATE ∧ ph = s.get .PWR_STATE_PHASE ∧ s.pins.pfail = true ∧ st = 3 ∧ s.power.request ≠ some 2 ∧ s.power.wokeBy = 0 ∧ ph = 2 ∧ storeQuiet s = true) ∧
    (∃ (s : State) (st : Nat) (ph : Nat), st = s.get .PWR_STATE_STATE ∧ ph = s.get .PWR_STATE_PHASE ∧ s.pins.pfail = true ∧ st = 3 ∧ s.power.request ≠ some 2 ∧ s.power.wokeBy = 0 ∧ ph = 3) ∧
    (∃ (s : State) (st : Nat) (ph : Nat), st = s.get .PWR_STATE_STATE ∧ ph = s.get .PWR_STATE_PHASE ∧ s.pins.pfail = true ∧ st = 5 ∧ s.power.request ≠ some 2 ∧ ph = 3) ∧
    (∃ (s : State) (st : Nat) (ph : Nat), st = s.get .PWR_STATE_STATE ∧ ph = s.get .PWR_STATE_PHASE ∧ s.pins.pfail = true ∧ st = 5 ∧ s.power.request ≠ some 2 ∧ ph = 2) ∧
    (∃ (s : State) (st : Nat) (ph : Nat), st = s.get .PWR_STATE_STATE ∧ ph = s.get .PWR_STATE_PHASE ∧ s.pins.pfail = true ∧ st = 5 ∧ s.power.request ≠ some 2 ∧ ph = 1) ∧
    (∃ (src : Fin 7) (s : State) (on : Prop) (st : Nat), st = s.get .PWR_STATE_STATE ∧ ((on ↔ bit (s.get .PWR_WAKE_ENABLE) src = true ∧ (src.val = 6 → s.get .PWR_WAKE_AT_S ≤ serviceTime s / uS))) ∧ (¬on ∨ (st ≠ 2 ∧ st ≠ 3 ∧ st ≠ 4) ∨ (st = 4 ∧ s.power.request = some 0))) ∧
    (∃ (src : Fin 7) (s : State) (on : Prop) (st : Nat), st = s.get .PWR_STATE_STATE ∧ ((on ↔ bit (s.get .PWR_WAKE_ENABLE) src = true ∧ (src.val = 6 → s.get .PWR_WAKE_AT_S ≤ serviceTime s / uS))) ∧ on ∧ st = 2) ∧
    (∃ (src : Fin 7) (s : State) (on : Prop) (st : Nat), st = s.get .PWR_STATE_STATE ∧ ((on ↔ bit (s.get .PWR_WAKE_ENABLE) src = true ∧ (src.val = 6 → s.get .PWR_WAKE_AT_S ≤ serviceTime s / uS))) ∧ on ∧ st = 3) ∧
    (∃ (src : Fin 7) (s : State) (on : Prop) (st : Nat), st = s.get .PWR_STATE_STATE ∧ ((on ↔ bit (s.get .PWR_WAKE_ENABLE) src = true ∧ (src.val = 6 → s.get .PWR_WAKE_AT_S ≤ serviceTime s / uS))) ∧ on ∧ st = 4 ∧ s.power.request ≠ some 0 ∧ s.pins.pfail = true) ∧
    (∃ (src : Fin 7) (s : State) (on : Prop) (st : Nat), st = s.get .PWR_STATE_STATE ∧ ((on ↔ bit (s.get .PWR_WAKE_ENABLE) src = true ∧ (src.val = 6 → s.get .PWR_WAKE_AT_S ≤ serviceTime s / uS))) ∧ on ∧ st = 4 ∧ s.power.request ≠ some 0 ∧ s.pins.pfail = false) ∧
    (∃ (s : State), s.power.wokeAt = s.now + 1) ∧
    (∃ (s : State), s.power.wokeAt ≠ s.now + 1) ∧
    (∃ (s : State) (st : Nat) (ph : Nat), st = s.get .PWR_STATE_STATE ∧ ph = s.get .PWR_STATE_PHASE ∧ (ph < 4 ∨ (s.pins.pfail = false ∧ ph < 7) ∨ (st ≠ 5 ∧ st ≠ 6))) ∧
    (∃ (s : State) (st : Nat) (ph : Nat), st = s.get .PWR_STATE_STATE ∧ ph = s.get .PWR_STATE_PHASE ∧ st = 6 ∧ 4 ≤ ph ∧ (s.pins.pfail = true ∨ 7 ≤ ph) ∧ ph = 5 ∧ storeQuiet s = false) ∧
    (∃ (s : State) (st : Nat) (ph : Nat), st = s.get .PWR_STATE_STATE ∧ ph = s.get .PWR_STATE_PHASE ∧ st = 6 ∧ 4 ≤ ph ∧ (s.pins.pfail = true ∨ 7 ≤ ph) ∧ (ph = 4 ∨ (ph = 5 ∧ storeQuiet s = true) ∨ ph = 6) ∧ s.power.request = some 0) ∧
    (∃ (s : State) (st : Nat) (ph : Nat), st = s.get .PWR_STATE_STATE ∧ ph = s.get .PWR_STATE_PHASE ∧ st = 6 ∧ 4 ≤ ph ∧ (s.pins.pfail = true ∨ 7 ≤ ph) ∧ s.power.request ≠ some 0 ∧ ph = 4) ∧
    (∃ (s : State) (st : Nat) (ph : Nat), st = s.get .PWR_STATE_STATE ∧ ph = s.get .PWR_STATE_PHASE ∧ st = 6 ∧ 4 ≤ ph ∧ (s.pins.pfail = true ∨ 7 ≤ ph) ∧ s.power.request ≠ some 0 ∧ ph = 5 ∧ storeQuiet s = true) ∧
    (∃ (s : State) (st : Nat) (ph : Nat), st = s.get .PWR_STATE_STATE ∧ ph = s.get .PWR_STATE_PHASE ∧ st = 6 ∧ 4 ≤ ph ∧ (s.pins.pfail = true ∨ 7 ≤ ph) ∧ s.power.request ≠ some 0 ∧ ph = 6) ∧
    (∃ (s : State) (st : Nat) (ph : Nat), st = s.get .PWR_STATE_STATE ∧ ph = s.get .PWR_STATE_PHASE ∧ st = 6 ∧ 4 ≤ ph ∧ (s.pins.pfail = true ∨ 7 ≤ ph) ∧ ph = 7) ∧
    (∃ (s : State) (st : Nat) (ph : Nat), st = s.get .PWR_STATE_STATE ∧ ph = s.get .PWR_STATE_PHASE ∧ st = 6 ∧ 4 ≤ ph ∧ (s.pins.pfail = true ∨ 7 ≤ ph) ∧ 8 ≤ ph) ∧
    (∃ (s : State) (st : Nat) (ph : Nat), st = s.get .PWR_STATE_STATE ∧ ph = s.get .PWR_STATE_PHASE ∧ st = 5 ∧ 4 ≤ ph ∧ (s.pins.pfail = true ∨ 7 ≤ ph) ∧ s.power.request = some 2) ∧
    (∃ (s : State) (st : Nat) (ph : Nat), st = s.get .PWR_STATE_STATE ∧ ph = s.get .PWR_STATE_PHASE ∧ st = 5 ∧ 4 ≤ ph ∧ (s.pins.pfail = true ∨ 7 ≤ ph) ∧ s.power.request ≠ some 2 ∧ ph = 4) ∧
    (∃ (s : State) (st : Nat) (ph : Nat), st = s.get .PWR_STATE_STATE ∧ ph = s.get .PWR_STATE_PHASE ∧ st = 5 ∧ 4 ≤ ph ∧ (s.pins.pfail = true ∨ 7 ≤ ph) ∧ s.power.request ≠ some 2 ∧ ph ≠ 4) ∧
    (∃ (c : Fin 23) (s : State) (t : State) (due : Prop), t = refreshIdle s ∧ ((due ↔ t.get .PWR_STATE_STATE = 2 ∧ t.get .PWR_DOZE_DOZE_EN c = 1 ∧ t.get .PWR_DOZE_DOZING c ≠ 1 ∧ Tab.get 0 t.power.clusterIdle c ≠ 0 ∧ Tab.get 0 t.power.clusterIdle c - 1 + t.get .PWR_DOZE_TIMER_US c * uUs ≤ t.now)) ∧ ¬due) ∧
    (∃ (c : Fin 23) (s : State) (t : State) (due : Prop), t = refreshIdle s ∧ ((due ↔ t.get .PWR_STATE_STATE = 2 ∧ t.get .PWR_DOZE_DOZE_EN c = 1 ∧ t.get .PWR_DOZE_DOZING c ≠ 1 ∧ Tab.get 0 t.power.clusterIdle c ≠ 0 ∧ Tab.get 0 t.power.clusterIdle c - 1 + t.get .PWR_DOZE_TIMER_US c * uUs ≤ t.now)) ∧ due) ∧
    (∃ (c : Fin 23) (s : State), s.get .PWR_DOZE_DOZING c = 1 ∧ c.val ≠ 22) ∧
    (∃ (c : Fin 23) (s : State), s.get .PWR_DOZE_DOZING c = 1 ∧ c.val = 22) ∧
    (∃ (c : Fin 23) (s : State), s.get .PWR_DOZE_DOZING c ≠ 1) ∧
    (∃ (s : State), (s.get .PWR_MODE_CHANGING ≠ 1 ∨ s.power.newMode = 0 ∨ drained s = false)) ∧
    (∃ (s : State) (m : Nat), s.get .PWR_MODE_CHANGING = 1 ∧ s.power.newMode = m + 1 ∧ drained s = true) :=
    ⟨⟨(let y : State := (let y : State := (((pwS 2 0).set .PWR_IDLE_IDLE_EN 1).set .PWR_IDLE_STANDBY_MODES 15); { y with power := { y.power with idleSince := 1 } }); { y with now := 10 ^ 18 }), _, _, rfl, Iff.rfl, by decide +kernel⟩,
    ⟨(pwS 0 0), _, _, rfl, Iff.rfl, by decide +kernel⟩,
    ⟨(let y : State := ready; { y with pins := { y.pins with pfail := false } }), _, _, rfl, rfl, by decide +kernel⟩,
    ⟨(let y : State := (pwS 3 1); { y with power := { y.power with request := some 2 } }), _, _, rfl, rfl, by decide +kernel⟩,
    ⟨(let y : State := (pwS 3 2); { y with store := { y.store with ops := [⟨.journal [], 0, 0⟩] } }), _, _, rfl, rfl, by decide +kernel⟩,
    ⟨(let y : State := (pwS 3 1); { y with power := { y.power with wokeBy := 1 } }), _, _, rfl, rfl, by decide +kernel⟩,
    ⟨(pwS 3 1), _, _, rfl, rfl, by decide +kernel⟩,
    ⟨((pwS 3 1).setCopy 1 (fun c => { c with len := 1 })), _, _, rfl, rfl, by decide +kernel⟩,
    ⟨(pwS 3 2), _, _, rfl, rfl, by decide +kernel⟩,
    ⟨(pwS 3 3), _, _, rfl, rfl, by decide +kernel⟩,
    ⟨(pwS 5 3), _, _, rfl, rfl, by decide +kernel⟩,
    ⟨(pwS 5 2), _, _, rfl, rfl, by decide +kernel⟩,
    ⟨(pwS 5 1), _, _, rfl, rfl, by decide +kernel⟩,
    ⟨0, ((pwS 2 0).set .PWR_WAKE_ENABLE 0), _, _, rfl, Iff.rfl, by decide +kernel⟩,
    ⟨0, ready, _, _, rfl, Iff.rfl, by decide +kernel⟩,
    ⟨0, ((pwS 3 1).set .PWR_WAKE_ENABLE 1), _, _, rfl, Iff.rfl, by decide +kernel⟩,
    ⟨0, ((pwS 4 0).set .PWR_WAKE_ENABLE 1), _, _, rfl, Iff.rfl, by decide +kernel⟩,
    ⟨0, (let y : State := ((ready.set .PWR_STATE_STATE 4).set .PWR_WAKE_ENABLE 1); { y with pins := { y.pins with pfail := false } }), _, _, rfl, Iff.rfl, by decide +kernel⟩,
    ⟨(let y : State := ready; { y with power := { y.power with wokeAt := 1 } }), by decide +kernel⟩,
    ⟨ready, by decide +kernel⟩,
    ⟨ready, _, _, rfl, rfl, by decide +kernel⟩,
    ⟨(let y : State := (pwS 6 5); { y with store := { y.store with ops := [⟨.journal [], 0, 0⟩] } }), _, _, rfl, rfl, by decide +kernel⟩,
    ⟨(let y : State := (pwS 6 4); { y with power := { y.power with request := some 0 } }), _, _, rfl, rfl, by decide +kernel⟩,
    ⟨(pwS 6 4), _, _, rfl, rfl, by decide +kernel⟩,
    ⟨(pwS 6 5), _, _, rfl, rfl, by decide +kernel⟩,
    ⟨(pwS 6 6), _, _, rfl, rfl, by decide +kernel⟩,
    ⟨(pwS 6 7), _, _, rfl, rfl, by decide +kernel⟩,
    ⟨(pwS 6 8), _, _, rfl, rfl, by decide +kernel⟩,
    ⟨(let y : State := (pwS 5 4); { y with power := { y.power with request := some 2 } }), _, _, rfl, rfl, by decide +kernel⟩,
    ⟨(pwS 5 4), _, _, rfl, rfl, by decide +kernel⟩,
    ⟨(pwS 5 5), _, _, rfl, rfl, by decide +kernel⟩,
    ⟨0, (pwS 0 0), _, _, rfl, Iff.rfl, by decide +kernel⟩,
    ⟨0, (let y : State := (let y : State := ((pwS 2 0).set .PWR_DOZE_DOZE_EN 1); { y with power := { y.power with clusterIdle := [(0, 1)] } }); { y with now := 10 ^ 18 }), _, _, rfl, Iff.rfl, by decide +kernel⟩,
    ⟨0, (ready.set .PWR_DOZE_DOZING 1 0), by decide +kernel⟩,
    ⟨22, (ready.set .PWR_DOZE_DOZING 1 22), by decide +kernel⟩,
    ⟨0, (ready.set .PWR_DOZE_DOZING 0 0), by decide +kernel⟩,
    ⟨((ready.set .PWR_MODE_CHANGING 0).setCopy 1 (fun c => { c with phase := 2, spec := true })), by decide +kernel⟩,
    ⟨(let y : State := (ready.set .PWR_MODE_CHANGING 1); { y with power := { y.power with newMode := 2 + 1 } }), 2, by decide +kernel⟩⟩

/-- The hypotheses of `Obligations.StoreCommandsComplete` are met. -/
theorem witness_StoreCommandsComplete :
    (∃ (q : Req) (s : State), takenUp ciStoreImageWrite q s = true ∧ (storeOpen s = false ∨ (anchorNow s).trial = true)) ∧
    (∃ (q : Req) (offset : Nat) (data : List Nat) (s : State) (off : Nat), takenUp ciStoreImageWrite q s = true ∧ storeOpen s = true ∧ (anchorNow s).trial = false ∧ chunkErr offset data s = some off) ∧
    (∃ (q : Req) (offset : Nat) (data : List Nat) (s : State), takenUp ciStoreImageWrite q s = true ∧ storeOpen s = true ∧ (anchorNow s).trial = false ∧ chunkErr offset data s = none ∧ storeHeld s = true) ∧
    (∃ (q : Req) (offset : Nat) (data : List Nat) (s : State), takenUp ciStoreImageWrite q s = true ∧ storeOpen s = true ∧ (anchorNow s).trial = false ∧ chunkErr offset data s = none ∧ storeHeld s = false ∧ journalStopped s = true) ∧
    (∃ (q : Req) (offset : Nat) (data : List Nat) (s : State), takenUp ciStoreImageWrite q s = true ∧ storeOpen s = true ∧ (anchorNow s).trial = false ∧ chunkErr offset data s = none ∧ storeHeld s = false ∧ journalStopped s = false) ∧
    (∃ (q : Req) (s : State) (img : List Nat) (may : Prop), takenUp ciStoreImageVerify q s = true ∧ img = slotBytes s (downSlot s) ∧ ((may ↔ storeOpen s = true ∧ s.get .STORE_ANCHOR_DOWNLOADING ≠ 1 ∧ slotComplete img = true)) ∧ ¬may) ∧
    (∃ (q : Req) (s : State) (img : List Nat) (may : Prop), takenUp ciStoreImageVerify q s = true ∧ img = slotBytes s (downSlot s) ∧ ((may ↔ storeOpen s = true ∧ s.get .STORE_ANCHOR_DOWNLOADING ≠ 1 ∧ slotComplete img = true)) ∧ may ∧ storeHeld s = true) ∧
    (∃ (q : Req) (s : State) (img : List Nat) (may : Prop) (w : Nat), takenUp ciStoreImageVerify q s = true ∧ img = slotBytes s (downSlot s) ∧ ((may ↔ storeOpen s = true ∧ s.get .STORE_ANCHOR_DOWNLOADING ≠ 1 ∧ slotComplete img = true)) ∧ may ∧ storeHeld s = false ∧ signerLost s = some w) ∧
    (∀ (h : Config.imageVerifies (List.replicate 12 0) wholeImage = true), ∃ (q : Req) (s : State) (t : State) (img : List Nat) (may : Prop), takenUp ciStoreImageVerify q s = true ∧ img = slotBytes s (downSlot s) ∧ t = pagesRead (ceilDiv img.length 4096) s ∧ ((may ↔ storeOpen s = true ∧ s.get .STORE_ANCHOR_DOWNLOADING ≠ 1 ∧ slotComplete img = true)) ∧ may ∧ storeHeld s = false ∧ signerLost s = none ∧ imageOk img t = true) ∧
    (∃ (q : Req) (s : State) (t : State) (img : List Nat) (may : Prop), takenUp ciStoreImageVerify q s = true ∧ img = slotBytes s (downSlot s) ∧ t = pagesRead (ceilDiv img.length 4096) s ∧ ((may ↔ storeOpen s = true ∧ s.get .STORE_ANCHOR_DOWNLOADING ≠ 1 ∧ slotComplete img = true)) ∧ may ∧ storeHeld s = false ∧ signerLost s = none ∧ imageOk img t = false) ∧
    (∃ (q : Req) (s : State) (may : Prop), takenUp ciStoreImageActivate q s = true ∧ ((may ↔ storeOpen s = true ∧ s.get .STORE_ANCHOR_VERIFIED = 1 ∧ (anchorNow s).trial = false)) ∧ ¬may) ∧
    (∃ (q : Req) (s : State) (may : Prop), takenUp ciStoreImageActivate q s = true ∧ ((may ↔ storeOpen s = true ∧ s.get .STORE_ANCHOR_VERIFIED = 1 ∧ (anchorNow s).trial = false)) ∧ may ∧ storeHeld s = true) ∧
    (∃ (q : Req) (s : State) (may : Prop), takenUp ciStoreImageActivate q s = true ∧ ((may ↔ storeOpen s = true ∧ s.get .STORE_ANCHOR_VERIFIED = 1 ∧ (anchorNow s).trial = false)) ∧ may ∧ storeHeld s = false) ∧
    (∃ (q : Req) (s : State) (may : Prop), takenUp ciStoreImageConfirm q s = true ∧ ((may ↔ storeOpen s = true ∧ s.inRescue = false ∧ (anchorNow s).trial = true ∧ (anchorNow s).bootSlot = s.get .SYS_BOOT_SLOT)) ∧ ¬may) ∧
    (∃ (q : Req) (s : State) (may : Prop), takenUp ciStoreImageConfirm q s = true ∧ ((may ↔ storeOpen s = true ∧ s.inRescue = false ∧ (anchorNow s).trial = true ∧ (anchorNow s).bootSlot = s.get .SYS_BOOT_SLOT)) ∧ may ∧ storeHeld s = true) ∧
    (∃ (q : Req) (s : State) (may : Prop), takenUp ciStoreImageConfirm q s = true ∧ ((may ↔ storeOpen s = true ∧ s.inRescue = false ∧ (anchorNow s).trial = true ∧ (anchorNow s).bootSlot = s.get .SYS_BOOT_SLOT)) ∧ may ∧ storeHeld s = false) ∧
    (∃ (q : Req) (s : State), takenUp ciStoreInfo q s = true ∧ storeHeld s = false) ∧
    (∃ (q : Req) (s : State), takenUp ciStoreInfo q s = true ∧ storeHeld s = true) ∧
    (∃ (q : Req) (s : State), takenUp ciStoreScrub q s = true ∧ storeOpen s = false) ∧
    (∃ (q : Req) (s : State), takenUp ciStoreScrub q s = true ∧ storeOpen s = true ∧ storeHeld s = true) ∧
    (∃ (q : Req) (s : State), takenUp ciStoreScrub q s = true ∧ storeOpen s = true ∧ storeHeld s = false) ∧
    (∃ (q : Req) (s : State), takenUp ciStoreFormat q s = true ∧ (storeDevs s * storeBlocks s < 4096 ∨ s.get .STORE_STATUS_BLOCKS = 0)) ∧
    (∃ (q : Req) (mask : Nat) (s : State), takenUp ciStoreFormat q s = true ∧ 4096 ≤ storeDevs s * storeBlocks s ∧ s.get .STORE_STATUS_BLOCKS ≠ 0 ∧ mask ≠ s.get .STORE_STATUS_PRESENT) ∧
    (∃ (q : Req) (mask : Nat) (s : State), takenUp ciStoreFormat q s = true ∧ 4096 ≤ storeDevs s * storeBlocks s ∧ s.get .STORE_STATUS_BLOCKS ≠ 0 ∧ mask = s.get .STORE_STATUS_PRESENT ∧ storeHeld s = true) ∧
    (∃ (q : Req) (mask : Nat) (s : State) (w : Nat), takenUp ciStoreFormat q s = true ∧ 4096 ≤ storeDevs s * storeBlocks s ∧ s.get .STORE_STATUS_BLOCKS ≠ 0 ∧ mask = s.get .STORE_STATUS_PRESENT ∧ storeHeld s = false ∧ rootDoubtWord s = some w) ∧
    (∃ (q : Req) (mask : Nat) (s : State), takenUp ciStoreFormat q s = true ∧ 4096 ≤ storeDevs s * storeBlocks s ∧ s.get .STORE_STATUS_BLOCKS ≠ 0 ∧ mask = s.get .STORE_STATUS_PRESENT ∧ storeHeld s = false ∧ rootDoubtWord s = none) ∧
    (∃ (q : Req) (dev : Nat) (s : State), takenUp ciStorePageRead q s = true ∧ (4 ≤ dev ∨ bit (s.get .STORE_STATUS_PRESENT) dev = false)) ∧
    (∃ (q : Req) (dev : Nat) (page : Nat) (s : State), takenUp ciStorePageRead q s = true ∧ dev < 4 ∧ bit (s.get .STORE_STATUS_PRESENT) dev = true ∧ s.get .STORE_STATUS_BLOCKS * 64 ≤ page) ∧
    (∃ (q : Req) (dev : Nat) (page : Nat) (s : State), takenUp ciStorePageRead q s = true ∧ dev < 4 ∧ bit (s.get .STORE_STATUS_PRESENT) dev = true ∧ page < s.get .STORE_STATUS_BLOCKS * 64 ∧ storeHeld s = true) ∧
    (∃ (q : Req) (dev : Nat) (page : Nat) (s : State), takenUp ciStorePageRead q s = true ∧ dev < 4 ∧ bit (s.get .STORE_STATUS_PRESENT) dev = true ∧ page < s.get .STORE_STATUS_BLOCKS * 64 ∧ storeHeld s = false) ∧
    (∃ (q : Req) (dev : Nat) (page : Nat) (s : State), takenUp ciStorePageProgram q s = true ∧ keptBlock s dev (page / 64) = true) ∧
    (∃ (q : Req) (dev : Nat) (page : Nat) (s : State), takenUp ciStorePageProgram q s = true ∧ keptBlock s dev (page / 64) = false ∧ (4 ≤ dev ∨ bit (s.get .STORE_STATUS_PRESENT) dev = false)) ∧
    (∃ (q : Req) (dev : Nat) (page : Nat) (s : State), takenUp ciStorePageProgram q s = true ∧ keptBlock s dev (page / 64) = false ∧ dev < 4 ∧ bit (s.get .STORE_STATUS_PRESENT) dev = true ∧ s.get .STORE_STATUS_BLOCKS * 64 ≤ page) ∧
    (∃ (q : Req) (dev : Nat) (page : Nat) (data : List Nat) (s : State), takenUp ciStorePageProgram q s = true ∧ keptBlock s dev (page / 64) = false ∧ dev < 4 ∧ bit (s.get .STORE_STATUS_PRESENT) dev = true ∧ page < s.get .STORE_STATUS_BLOCKS * 64 ∧ (data.length ≠ 4352 ∨ (∃ b ∈ data, 256 ≤ b))) ∧
    (∃ (q : Req) (dev : Nat) (page : Nat) (data : List Nat) (s : State), takenUp ciStorePageProgram q s = true ∧ keptBlock s dev (page / 64) = false ∧ dev < 4 ∧ bit (s.get .STORE_STATUS_PRESENT) dev = true ∧ page < s.get .STORE_STATUS_BLOCKS * 64 ∧ data.length = 4352 ∧ (∀ b ∈ data, b < 256) ∧ storeHeld s = true) ∧
    (∃ (q : Req) (dev : Nat) (page : Nat) (data : List Nat) (s : State) (w : Nat), takenUp ciStorePageProgram q s = true ∧ keptBlock s dev (page / 64) = false ∧ dev < 4 ∧ bit (s.get .STORE_STATUS_PRESENT) dev = true ∧ page < s.get .STORE_STATUS_BLOCKS * 64 ∧ data.length = 4352 ∧ (∀ b ∈ data, b < 256) ∧ storeHeld s = false ∧ rootDoubtWord s = some w) ∧
    (∃ (q : Req) (dev : Nat) (page : Nat) (data : List Nat) (s : State), takenUp ciStorePageProgram q s = true ∧ keptBlock s dev (page / 64) = false ∧ dev < 4 ∧ bit (s.get .STORE_STATUS_PRESENT) dev = true ∧ page < s.get .STORE_STATUS_BLOCKS * 64 ∧ data.length = 4352 ∧ (∀ b ∈ data, b < 256) ∧ storeHeld s = false ∧ rootDoubtWord s = none) ∧
    (∃ (q : Req) (dev : Nat) (block : Nat) (s : State), takenUp ciStoreBlockErase q s = true ∧ keptBlock s dev block = true) ∧
    (∃ (q : Req) (dev : Nat) (block : Nat) (s : State), takenUp ciStoreBlockErase q s = true ∧ keptBlock s dev block = false ∧ (4 ≤ dev ∨ bit (s.get .STORE_STATUS_PRESENT) dev = false)) ∧
    (∃ (q : Req) (dev : Nat) (block : Nat) (s : State), takenUp ciStoreBlockErase q s = true ∧ keptBlock s dev block = false ∧ dev < 4 ∧ bit (s.get .STORE_STATUS_PRESENT) dev = true ∧ s.get .STORE_STATUS_BLOCKS ≤ block) ∧
    (∃ (q : Req) (dev : Nat) (block : Nat) (s : State), takenUp ciStoreBlockErase q s = true ∧ keptBlock s dev block = false ∧ dev < 4 ∧ bit (s.get .STORE_STATUS_PRESENT) dev = true ∧ block < s.get .STORE_STATUS_BLOCKS ∧ storeHeld s = true) ∧
    (∃ (q : Req) (dev : Nat) (block : Nat) (s : State) (w : Nat), takenUp ciStoreBlockErase q s = true ∧ keptBlock s dev block = false ∧ dev < 4 ∧ bit (s.get .STORE_STATUS_PRESENT) dev = true ∧ block < s.get .STORE_STATUS_BLOCKS ∧ storeHeld s = false ∧ rootDoubtWord s = some w) ∧
    (∃ (q : Req) (dev : Nat) (block : Nat) (s : State), takenUp ciStoreBlockErase q s = true ∧ keptBlock s dev block = false ∧ dev < 4 ∧ bit (s.get .STORE_STATUS_PRESENT) dev = true ∧ block < s.get .STORE_STATUS_BLOCKS ∧ storeHeld s = false ∧ rootDoubtWord s = none) :=
    ⟨⟨host, ready, by decide +kernel⟩,
    ⟨host, 0, [], stored, 32, by decide +kernel⟩,
    ⟨host, 512, [0], (loadingS.set .STORE_STATUS_PFAIL_HOLD 1), by decide +kernel⟩,
    ⟨host, 512, [0], (loadingS.setNand (fun n => { n with spare := [] })), by decide +kernel⟩,
    ⟨host, 512, [0], loadingS, by decide +kernel⟩,
    ⟨host, (ready.set .STORE_ANCHOR_DOWNLOADING 0), _, _, by decide +kernel, rfl, Iff.rfl, by decide +kernel⟩,
    ⟨host, (imagedS.set .STORE_STATUS_PFAIL_HOLD 1), _, _, by decide +kernel, rfl, Iff.rfl, by decide +kernel⟩,
    ⟨host, (let y : State := imagedS; { y with fuses := { y.fuses with lost := [20] } }), _, _, 20, by decide +kernel, rfl, Iff.rfl, by decide +kernel⟩,
    fun h => ⟨host, wholeS, _, _, _, by decide +kernel, rfl, rfl, Iff.rfl, by rw [slot_whole]; exact ⟨by decide +kernel, by decide +kernel, image_whole⟩, by decide +kernel, by decide +kernel, by rw [slot_whole]; exact image_good h⟩,
    ⟨host, imagedS, _, _, _, by decide +kernel, rfl, rfl, Iff.rfl, by decide +kernel⟩,
    ⟨host, stored, _, by decide +kernel, Iff.rfl, by decide +kernel⟩,
    ⟨host, ((stored.set .STORE_ANCHOR_VERIFIED 1).set .STORE_STATUS_PFAIL_HOLD 1), _, by decide +kernel, Iff.rfl, by decide +kernel⟩,
    ⟨host, (stored.set .STORE_ANCHOR_VERIFIED 1), _, by decide +kernel, Iff.rfl, by decide +kernel⟩,
    ⟨host, stored, _, by decide +kernel, Iff.rfl, by decide +kernel⟩,
    ⟨host, ((stored.setNand (fun n => { n with anchor := some { trial := true } })).set .STORE_STATUS_PFAIL_HOLD 1), _, by decide +kernel, Iff.rfl, by decide +kernel⟩,
    ⟨host, (stored.setNand (fun n => { n with anchor := some { trial := true } })), _, by decide +kernel, Iff.rfl, by decide +kernel⟩,
    ⟨host, stored, by decide +kernel⟩,
    ⟨host, (ready.set .STORE_STATUS_PFAIL_HOLD 1), by decide +kernel⟩,
    ⟨host, (stored.set .STORE_STATUS_OPEN 0), by decide +kernel⟩,
    ⟨host, ((ready.set .STORE_STATUS_OPEN 1).set .STORE_STATUS_PFAIL_HOLD 1), by decide +kernel⟩,
    ⟨host, (ready.set .STORE_STATUS_OPEN 1), by decide +kernel⟩,
    ⟨host, (stored.set .STORE_STATUS_BLOCKS 0), by decide +kernel⟩,
    ⟨host, 7, stored, by decide +kernel⟩,
    ⟨host, 15, (stored.set .STORE_STATUS_PFAIL_HOLD 1), by decide +kernel⟩,
    ⟨host, 15, (stored.set .CIPH_STATUS_ROOT_STATE 2), 12, by decide +kernel⟩,
    ⟨host, 15, stored, by decide +kernel⟩,
    ⟨host, 4, stored, by decide +kernel⟩,
    ⟨host, 0, 65536, stored, by decide +kernel⟩,
    ⟨host, 0, 0, (stored.set .STORE_STATUS_PFAIL_HOLD 1), by decide +kernel⟩,
    ⟨host, 0, 0, stored, by decide +kernel⟩,
    ⟨host, 0, 0, stored, by decide +kernel⟩,
    ⟨host, 4, 0, stored, by decide +kernel⟩,
    ⟨host, 1, 65536, stored, by decide +kernel⟩,
    ⟨host, 1, 57600, [], stored, by decide +kernel⟩,
    ⟨host, 1, 57600, List.replicate 4352 0, (stored.set .STORE_STATUS_PFAIL_HOLD 1), by decide +kernel, by decide +kernel, by decide +kernel, (by decide +kernel), by decide +kernel, by decide +kernel, fun b hb => by rw [List.eq_of_mem_replicate hb]; decide, by decide +kernel⟩,
    ⟨host, 1, 57600, List.replicate 4352 0, (stored.set .CIPH_STATUS_ROOT_STATE 2), 12, by decide +kernel, by decide +kernel, by decide +kernel, (by decide +kernel), by decide +kernel, by decide +kernel, fun b hb => by rw [List.eq_of_mem_replicate hb]; decide, by decide +kernel⟩,
    ⟨host, 1, 57600, List.replicate 4352 0, stored, by decide +kernel, by decide +kernel, by decide +kernel, (by decide +kernel), by decide +kernel, by decide +kernel, fun b hb => by rw [List.eq_of_mem_replicate hb]; decide, by decide +kernel⟩,
    ⟨host, 0, 0, stored, by decide +kernel⟩,
    ⟨host, 4, 0, stored, by decide +kernel⟩,
    ⟨host, 1, 1024, stored, by decide +kernel⟩,
    ⟨host, 1, 900, (stored.set .STORE_STATUS_PFAIL_HOLD 1), by decide +kernel⟩,
    ⟨host, 1, 900, (stored.set .CIPH_STATUS_ROOT_STATE 2), 12, by decide +kernel⟩,
    ⟨host, 1, 900, stored, by decide +kernel⟩⟩

/-- The hypotheses of `Obligations.BootAndStoreEventsComplete` are met. -/
theorem witness_BootAndStoreEventsComplete :
    (∃ (s : State), (s.get .SYS_BOOT_PHASE = 0 ∨ 11 ≤ s.get .SYS_BOOT_PHASE ∨ s.pins.sysReset = false)) ∧
    (∃ (s : State), 0 < s.get .SYS_BOOT_PHASE ∧ s.get .SYS_BOOT_PHASE ≤ 10 ∧ s.pins.sysReset = true ∧ (s.inRescue = true ∨ s.get .SYS_BOOT_PHASE = 10)) ∧
    (∃ (b : BootIn) (s : State) (x : _) (t : _), x ∈ [(1, bootFuses b s), (2, bootStore b s), (3, bootAnchor s), (4, bootTrial s), (5, bootImage s), (6, recorderStart (s.set .SYS_BOOT_PHASE 7)), (7, bootJournal s), (8, bootPower s), (9, bootSettings s)] ∧ s.pins.sysReset = true ∧ s.inRescue = false ∧ s.get .SYS_BOOT_PHASE = x.1 ∧ t = x.2.set .SYS_BOOT_PHASE (x.1 + 1) ∧ t.power.request = some 2 ∧ t.pins.pfail = true) ∧
    (∃ (b : BootIn) (s : State) (x : _) (t : _), x ∈ [(1, bootFuses b s), (2, bootStore b s), (3, bootAnchor s), (4, bootTrial s), (5, bootImage s), (6, recorderStart (s.set .SYS_BOOT_PHASE 7)), (7, bootJournal s), (8, bootPower s), (9, bootSettings s)] ∧ s.pins.sysReset = true ∧ s.inRescue = false ∧ s.get .SYS_BOOT_PHASE = x.1 ∧ t = x.2.set .SYS_BOOT_PHASE (x.1 + 1) ∧ (t.power.request ≠ some 2 ∨ t.pins.pfail = false)) ∧
    (∃ (temp : Int) (nb : Nat) (s : State) (crosses : Prop), nb = bandAfter (s.get .SYS_FUSE_STATUS_BAND) temp ∧ ((crosses ↔ nb ≠ s.get .SYS_FUSE_STATUS_BAND ∧ s.get .SYS_FUSE_STATUS_DONE = 1)) ∧ ¬crosses) ∧
    (∃ (temp : Int) (doubt : List Nat) (new : List Nat) (nb : Nat) (s : State) (u : State) (crosses : Prop), nb = bandAfter (s.get .SYS_FUSE_STATUS_BAND) temp ∧ ((crosses ↔ nb ≠ s.get .SYS_FUSE_STATUS_BAND ∧ s.get .SYS_FUSE_STATUS_DONE = 1)) ∧ new = doubt.filter (fun w => decide (w < 512) && !(bit ((s.set .SYS_FUSE_STATUS_BAND nb).get .SYS_FUSE_DOUBT_WORDS (w / 64)) (w % 64))) ∧ u = new.foldl (fun t w => (markDoubt w t).raise 0x0106 [w, 1]) (s.set .SYS_FUSE_STATUS_BAND nb) ∧ crosses ∧ ((∀ w ∈ new, fuseClass w ≠ 2) ∨ u.get .CIPH_STATUS_ROOT_STATE ≠ 1)) ∧
    (∃ (temp : Int) (doubt : List Nat) (new : List Nat) (nb : Nat) (s : State) (u : State) (crosses : Prop) (pre : List Nat) (w : Nat) (post : List Nat) (v : _), nb = bandAfter (s.get .SYS_FUSE_STATUS_BAND) temp ∧ ((crosses ↔ nb ≠ s.get .SYS_FUSE_STATUS_BAND ∧ s.get .SYS_FUSE_STATUS_DONE = 1)) ∧ new = doubt.filter (fun w_ => decide (w_ < 512) && !(bit ((s.set .SYS_FUSE_STATUS_BAND nb).get .SYS_FUSE_DOUBT_WORDS (w_ / 64)) (w_ % 64))) ∧ u = new.foldl (fun t w_ => (markDoubt w_ t).raise 0x0106 [w_, 1]) (s.set .SYS_FUSE_STATUS_BAND nb) ∧ crosses ∧ new = pre ++ w :: post ∧ (∀ x ∈ pre, fuseClass x ≠ 2) ∧ fuseClass w = 2 ∧ u.get .CIPH_STATUS_ROOT_STATE = 1 ∧ v = u.set .CIPH_STATUS_ROOT_STATE 3 ∧ v.cipher.rootDoubtSaid = true) ∧
    (∃ (temp : Int) (doubt : List Nat) (new : List Nat) (nb : Nat) (s : State) (u : State) (crosses : Prop) (pre : List Nat) (w : Nat) (post : List Nat) (v : _), nb = bandAfter (s.get .SYS_FUSE_STATUS_BAND) temp ∧ ((crosses ↔ nb ≠ s.get .SYS_FUSE_STATUS_BAND ∧ s.get .SYS_FUSE_STATUS_DONE = 1)) ∧ new = doubt.filter (fun w_ => decide (w_ < 512) && !(bit ((s.set .SYS_FUSE_STATUS_BAND nb).get .SYS_FUSE_DOUBT_WORDS (w_ / 64)) (w_ % 64))) ∧ u = new.foldl (fun t w_ => (markDoubt w_ t).raise 0x0106 [w_, 1]) (s.set .SYS_FUSE_STATUS_BAND nb) ∧ crosses ∧ new = pre ++ w :: post ∧ (∀ x ∈ pre, fuseClass x ≠ 2) ∧ fuseClass w = 2 ∧ u.get .CIPH_STATUS_ROOT_STATE = 1 ∧ v = u.set .CIPH_STATUS_ROOT_STATE 3 ∧ v.cipher.rootDoubtSaid = false) ∧
    (∃ (k : Nat) (o : NandOp) (q : Req) (s : State), s.store.ops[k]? = some o ∧ o.task = .rawErase q ∧ storeHeld s = true) ∧
    (∃ (k : Nat) (o : NandOp) (e : NandEnd) (q : Req) (s : State), s.store.ops[k]? = some o ∧ o.task = .rawErase q ∧ storeHeld s = false ∧ e.ok = true) ∧
    (∃ (k : Nat) (o : NandOp) (e : NandEnd) (q : Req) (s : State), s.store.ops[k]? = some o ∧ o.task = .rawErase q ∧ storeHeld s = false ∧ e.ok = false) ∧
    (∃ (k : Nat) (o : NandOp) (q : Req) (s : State) (t : State) (l : List Nat), s.store.ops[k]? = some o ∧ t = s.setStore (fun x => { x with ops := x.ops.eraseIdx k }) ∧ o.task = .rawRead q ∧ Tab.get [] t.store.nand.raw (o.dev * 524288 + o.page) = l ∧ l ≠ []) ∧
    (∃ (k : Nat) (o : NandOp) (q : Req) (s : State) (t : State) (l : List Nat), s.store.ops[k]? = some o ∧ t = s.setStore (fun x => { x with ops := x.ops.eraseIdx k }) ∧ o.task = .rawRead q ∧ Tab.get [] t.store.nand.raw (o.dev * 524288 + o.page) = l ∧ l = []) ∧
    (∃ (k : Nat) (o : NandOp) (e : NandEnd) (q : Req) (s : State) (data : List Nat), s.store.ops[k]? = some o ∧ o.task = .rawProgram q data ∧ pageErased e = false) ∧
    (∃ (k : Nat) (o : NandOp) (e : NandEnd) (q : Req) (s : State) (data : List Nat), s.store.ops[k]? = some o ∧ o.task = .rawProgram q data ∧ pageErased e = true ∧ e.ok = false) ∧
    (∃ (k : Nat) (o : NandOp) (e : NandEnd) (q : Req) (s : State) (data : List Nat), s.store.ops[k]? = some o ∧ o.task = .rawProgram q data ∧ pageErased e = true ∧ e.ok = true) ∧
    (∃ (k : Nat) (o : NandOp) (s : State), s.store.ops[k]? = some o ∧ ((∀ x data, o.task ≠ .rawErase x ∧ o.task ≠ .rawRead x ∧ o.task ≠ .rawProgram x data))) ∧
    (∃ (k : Nat) (s : State), s.store.ops[k]? = none) ∧
    (∃ (o : NandOp) (e : NandEnd) (slot : Nat), pageErased e = false ∧ o.task = .image slot) ∧
    (∃ (o : NandOp) (e : NandEnd), pageErased e = false ∧ (∀ slot, o.task ≠ .image slot)) ∧
    (∃ (e : NandEnd), pageErased e = true ∧ e.ok = false) ∧
    (∃ (e : NandEnd), pageErased e = true ∧ e.ok = true) ∧
    (∃ (s : State), s.get .FLT_STATUS_SAFE ≠ 1 ∧ s.expired .journalPage (5 * uMs) = true) ∧
    (∃ (s : State), (s.get .FLT_STATUS_SAFE = 1 ∨ s.expired .journalPage (5 * uMs) = false)) ∧
    (∃ (dev : Nat) (page : Nat) (s : State) (u : State) (hit : Bool), inject 3 dev s = (hit, u) ∧ (storeOpen s = false ∨ storeHeld s = true ∨ s.get .FLT_STATUS_SAFE = 1 ∨ storeDevs s ≤ dev ∨ storeBlocks s * 64 ≤ page)) ∧
    (∃ (dev : Nat) (page : Nat) (e : NandEnd) (s : State) (u : State) (v : State) (w : State) (hit : Bool), inject 3 dev s = (hit, u) ∧ v = pageRead dev page { e with flips := (e.flips.headD 0 + if hit then u.get .TEST_INJECT_BITS 3 else 0) :: e.flips.drop 1 } u ∧ w = (match pageUncorr e, logicalOf u dev (page / 64) with | true, some b => pageLost ((b * 64 + page % 64) * max 1 (storeDevs v) + dev) v | _, _ => v) ∧ storeOpen s = true ∧ storeHeld s = false ∧ s.get .FLT_STATUS_SAFE ≠ 1 ∧ dev < storeDevs s ∧ page < storeBlocks s * 64 ∧ (page % 64 ≠ 63 ∨ w.store.scrubLeft = 0)) ∧
    (∃ (dev : Nat) (page : Nat) (e : NandEnd) (s : State) (u : State) (v : State) (w : State) (hit : Bool) (n : Nat), inject 3 dev s = (hit, u) ∧ v = pageRead dev page { e with flips := (e.flips.headD 0 + if hit then u.get .TEST_INJECT_BITS 3 else 0) :: e.flips.drop 1 } u ∧ w = (match pageUncorr e, logicalOf u dev (page / 64) with | true, some b => pageLost ((b * 64 + page % 64) * max 1 (storeDevs v) + dev) v | _, _ => v) ∧ storeOpen s = true ∧ storeHeld s = false ∧ s.get .FLT_STATUS_SAFE ≠ 1 ∧ dev < storeDevs s ∧ page < storeBlocks s * 64 ∧ page % 64 = 63 ∧ w.store.scrubLeft = n + 1) :=
    ⟨⟨(ready.set .SYS_BOOT_PHASE 0), by decide +kernel⟩,
    ⟨(let y : State := (ready.set .SYS_BOOT_PHASE 10); { y with pins := { y.pins with sysReset := true } }), by decide +kernel⟩,
    ⟨⟨[], [], [], []⟩, (bootS (some 2)), (6, recorderStart ((bootS (some 2)).set .SYS_BOOT_PHASE 7)), _, List.Mem.tail _ (List.Mem.tail _ (List.Mem.tail _ (List.Mem.tail _ (List.Mem.tail _ (List.Mem.head _))))), by decide +kernel, by decide +kernel, by decide +kernel, rfl, by decide +kernel⟩,
    ⟨⟨[], [], [], []⟩, (bootS (none)), (6, recorderStart ((bootS (none)).set .SYS_BOOT_PHASE 7)), _, List.Mem.tail _ (List.Mem.tail _ (List.Mem.tail _ (List.Mem.tail _ (List.Mem.tail _ (List.Mem.head _))))), by decide +kernel, by decide +kernel, by decide +kernel, rfl, by decide +kernel⟩,
    ⟨0, _, ready, _, rfl, Iff.rfl, by decide +kernel⟩,
    ⟨0, [], _, _, (ready.set .SYS_FUSE_STATUS_DONE 1), _, _, rfl, Iff.rfl, rfl, rfl, by decide +kernel⟩,
    ⟨100, [12], _, _, (let y : State := ((ready.set .SYS_FUSE_STATUS_DONE 1).set .CIPH_STATUS_ROOT_STATE 1); { y with cipher := { y.cipher with rootDoubtSaid := true } }), _, _, [], 12, [], _, rfl, Iff.rfl, rfl, rfl, by decide +kernel, by decide +kernel, by first | decide +kernel | (intros; first | rfl | (simp_all; done) | decide), by decide +kernel, by decide +kernel, rfl, by decide +kernel⟩,
    ⟨100, [12], _, _, (let y : State := ((ready.set .SYS_FUSE_STATUS_DONE 1).set .CIPH_STATUS_ROOT_STATE 1); { y with cipher := { y.cipher with rootDoubtSaid := false } }), _, _, [], 12, [], _, rfl, Iff.rfl, rfl, rfl, by decide +kernel, by decide +kernel, by first | decide +kernel | (intros; first | rfl | (simp_all; done) | decide), by decide +kernel, by decide +kernel, rfl, by decide +kernel⟩,
    ⟨0, (⟨.rawErase host, 3, 65535⟩ : NandOp), host, ((ready.set .STORE_STATUS_PFAIL_HOLD 1).setStore (fun x => { x with ops := [⟨.rawErase host, 3, 65535⟩] })), by decide +kernel⟩,
    ⟨0, (⟨.rawErase host, 3, 65535⟩ : NandOp), ⟨true, 0, [], []⟩, host, (ready.setStore (fun x => { x with ops := [⟨.rawErase host, 3, 65535⟩] })), by decide +kernel⟩,
    ⟨0, (⟨.rawErase host, 3, 65535⟩ : NandOp), ⟨false, 0, [], []⟩, host, (ready.setStore (fun x => { x with ops := [(⟨.rawErase host, 3, 65535⟩ : NandOp)] })), by decide +kernel⟩,
    ⟨0, (⟨.rawRead host, 3, 65535⟩ : NandOp), host, (ready.setStore (fun x => { x with ops := [⟨.rawRead host, 3, 65535⟩], nand := { x.nand with raw := [(3 * 524288 + 65535, [7])] } })), _, [7], by decide +kernel, rfl, by decide +kernel⟩,
    ⟨0, (⟨.rawRead host, 3, 65535⟩ : NandOp), host, (ready.setStore (fun x => { x with ops := [(⟨.rawRead host, 3, 65535⟩ : NandOp)] })), _, [], by decide +kernel, rfl, by decide +kernel⟩,
    ⟨0, (⟨.rawProgram host [1], 3, 65535⟩ : NandOp), ⟨true, 9, [], []⟩, host, (ready.setStore (fun x => { x with ops := [(⟨.rawProgram host [1], 3, 65535⟩ : NandOp)] })), [1], by decide +kernel⟩,
    ⟨0, (⟨.rawProgram host [1], 3, 65535⟩ : NandOp), ⟨false, 0, [], []⟩, host, (ready.setStore (fun x => { x with ops := [(⟨.rawProgram host [1], 3, 65535⟩ : NandOp)] })), [1], by decide +kernel⟩,
    ⟨0, (⟨.rawProgram host [1], 3, 65535⟩ : NandOp), ⟨true, 0, [], []⟩, host, (ready.setStore (fun x => { x with ops := [⟨.rawProgram host [1], 3, 65535⟩] })), [1], by decide +kernel⟩,
    ⟨0, (⟨.journal [], 3, 65535⟩ : NandOp), (ready.setStore (fun x => { x with ops := [(⟨.journal [], 3, 65535⟩ : NandOp)] })), by decide +kernel, (fun _ _ => ⟨(fun h => nomatch h), (fun h => nomatch h), (fun h => nomatch h)⟩)⟩,
    ⟨0, ready, by decide +kernel⟩,
    ⟨(⟨.image 0, 3, 65535⟩ : NandOp), ⟨true, 9, [], []⟩, 0, by decide +kernel⟩,
    ⟨(⟨.journal [], 3, 65535⟩ : NandOp), ⟨true, 9, [], []⟩, by decide +kernel, (fun _ h => nomatch h)⟩,
    ⟨⟨false, 0, [], []⟩, by decide +kernel⟩,
    ⟨⟨true, 0, [], []⟩, by decide +kernel⟩,
    ⟨(let y : State := ((ready.set .FLT_STATUS_SAFE 0).start .journalPage); { y with now := (5 * uMs) }), by decide +kernel⟩,
    ⟨(ready.set .FLT_STATUS_SAFE 1), by decide +kernel⟩,
    ⟨0, 0, ready, _, _, Prod.mk.eta.symm, by decide +kernel⟩,
    ⟨0, 0, ⟨true, 0, [], []⟩, stored, _, _, _, _, Prod.mk.eta.symm, rfl, rfl, by decide +kernel⟩,
    ⟨0, 63, ⟨true, 0, [], []⟩, (stored.setStore (fun x => { x with scrubLeft := 5 })), _, _, _, _, 4, Prod.mk.eta.symm, rfl, rfl, by decide +kernel⟩⟩

/-- The hypotheses of `Obligations.FaultCommandsComplete` are met. -/
theorem witness_FaultCommandsComplete :
    (∃ (q : Req) (fromSeq : Nat) (m : Nat) (s : State), takenUp ciEvtRead q s = true ∧ fromSeq < 2 ^ 64 ∧ 1 ≤ m ∧ m ≤ 2048 ∧ storeHeld s = true) ∧
    (∃ (q : Req) (fromSeq : Nat) (m : Nat) (s : State), takenUp ciEvtRead q s = true ∧ fromSeq < 2 ^ 64 ∧ 1 ≤ m ∧ m ≤ 2048 ∧ storeHeld s = false) ∧
    (∃ (q : Req) (fromSeq : Nat) (m : Nat) (s : State), takenUp ciEvtRead q s = true ∧ fromSeq < 2 ^ 64 ∧ (m = 0 ∨ 2048 < m)) ∧
    (∃ (q : Req) (code : Nat) (ws : List Nat) (tail : List Nat) (s : State) (t : State), takenUp ciEvtHostRecord q s = true ∧ t = evtMake 1 ⟨code, ws, tail⟩ (recordAll s) ∧ 0x0E80 ≤ code ∧ code ≤ 0x0EFF ∧ ws.length = 4 ∧ (∀ w ∈ ws, w < 2 ^ 32) ∧ tail.length ≤ 224 ∧ (∀ b ∈ tail, b < 256) ∧ t.ctr .FLT_EVT_RECORDS ≠ (recordAll s).ctr .FLT_EVT_RECORDS) ∧
    (∃ (q : Req) (code : Nat) (ws : List Nat) (tail : List Nat) (s : State) (t : State), takenUp ciEvtHostRecord q s = true ∧ t = evtMake 1 ⟨code, ws, tail⟩ (recordAll s) ∧ 0x0E80 ≤ code ∧ code ≤ 0x0EFF ∧ ws.length = 4 ∧ (∀ w ∈ ws, w < 2 ^ 32) ∧ tail.length ≤ 224 ∧ (∀ b ∈ tail, b < 256) ∧ t.ctr .FLT_EVT_RECORDS = (recordAll s).ctr .FLT_EVT_RECORDS) ∧
    (∃ (q : Req) (code : Nat) (s : State), takenUp ciEvtHostRecord q s = true ∧ (code < 0x0E80 ∨ 0x0EFF < code)) ∧
    (∃ (q : Req) (s : State) (u : State), takenUp ciEvtFlush q s = true ∧ u = recordAll s ∧ storeHeld u = true) ∧
    (∃ (q : Req) (s : State) (u : State), takenUp ciEvtFlush q s = true ∧ u = recordAll s ∧ storeHeld u = false ∧ (unflushed u = [] ∨ u.get .EVT_STATUS_RUNNING ≠ 1)) ∧
    (∃ (q : Req) (s : State) (u : State), takenUp ciEvtFlush q s = true ∧ u = recordAll s ∧ storeHeld u = false ∧ unflushed u ≠ [] ∧ u.get .EVT_STATUS_RUNNING = 1) ∧
    (∃ (q : Req) (m : Nat) (s : State), takenUp ciFltReportRead q s = true ∧ 1 ≤ m ∧ m ≤ 256 ∧ s.fault.queue ≠ []) ∧
    (∃ (q : Req) (m : Nat) (s : State), takenUp ciFltReportRead q s = true ∧ 1 ≤ m ∧ m ≤ 256 ∧ s.fault.queue = []) ∧
    (∃ (q : Req) (m : Nat) (s : State), takenUp ciFltReportRead q s = true ∧ (m = 0 ∨ 256 < m)) ∧
    (∃ (q : Req) (s : State) (t : State), takenUp ciFltRecover q s = true ∧ t = clocksBack s ∧ t.fault.resume = none ∧ t.get .FLT_STATUS_SAFE = 1 ∧ conditionPersists t = false) ∧
    (∃ (q : Req) (s : State) (t : State), takenUp ciFltRecover q s = true ∧ t = clocksBack s ∧ t.fault.resume = none ∧ (t.get .FLT_STATUS_SAFE ≠ 1 ∨ conditionPersists t = true)) ∧
    (∃ (q : Req) (s : State) (t : State), takenUp ciFltRecover q s = true ∧ t = clocksBack s ∧ t.fault.resume ≠ none) ∧
    (∃ (s : State), s.power.lost = []) ∧
    (∀ (h : (let y : State := ready; { y with power := { y.power with lost := [5] } }).free % 2 = 1), ∃ (s : State), s.power.lost ≠ [] ∧ s.free % 2 = 1) ∧
    (∀ (h : (let y : State := ready; { y with power := { y.power with lost := [5] } }).free % 2 ≠ 1), ∃ (s : State), s.power.lost ≠ [] ∧ s.free % 2 ≠ 1) ∧
    (∃ (q : Req) (s : State), takenUp ciFltRecover q s = true ∧ s.get .FLT_STATUS_SAFE = 1) ∧
    (∃ (q : Req) (part : Nat) (s : State), takenUp ciFltRecover q s = true ∧ s.get .FLT_STATUS_SAFE ≠ 1 ∧ 26 < part) ∧
    (∃ (q : Req) (part : Nat) (s : State) (t : State), takenUp ciFltRecover q s = true ∧ t = s.setFault (fun f => { f with clusterWait := f.clusterWait ++ [(q, part)] }) ∧ s.get .FLT_STATUS_SAFE ≠ 1 ∧ part ≤ 26 ∧ recoveryOf t (clusterOf part) = none) ∧
    (∃ (q : Req) (part : Nat) (s : State) (t : State) (r : Recovery), takenUp ciFltRecover q s = true ∧ t = s.setFault (fun f => { f with clusterWait := f.clusterWait ++ [(q, part)] }) ∧ s.get .FLT_STATUS_SAFE ≠ 1 ∧ part ≤ 26 ∧ recoveryOf t (clusterOf part) = some r ∧ r.level = 2) ∧
    (∃ (q : Req) (part : Nat) (s : State) (t : State) (r : Recovery), takenUp ciFltRecover q s = true ∧ t = s.setFault (fun f => { f with clusterWait := f.clusterWait ++ [(q, part)] }) ∧ s.get .FLT_STATUS_SAFE ≠ 1 ∧ part ≤ 26 ∧ recoveryOf t (clusterOf part) = some r ∧ r.level ≠ 2) ∧
    (∃ (q : Req) (es : List WEntry) (s : State), takenUp ciFltConfig q s = true ∧ wErr (fun f => fltFields.contains f) es = none ∧ levelErr es s = none) ∧
    (∃ (q : Req) (es : List WEntry) (s : State) (k : Nat), takenUp ciFltConfig q s = true ∧ wErr (fun f => fltFields.contains f) es = none ∧ levelErr es s = some k) :=
    ⟨⟨host, 0, 1, (ready.set .STORE_STATUS_PFAIL_HOLD 1), by decide +kernel⟩,
    ⟨host, 0, 1, ready, by decide +kernel⟩,
    ⟨host, 0, 0, ready, by decide +kernel⟩,
    ⟨host, 0x0EFF, [1, 2, 3, 4], [], ((stored.set .EVT_STATUS_RUNNING 1).set .SYS_BOOT_PHASE 12), _, by decide +kernel, rfl, by decide +kernel, by decide +kernel, by decide +kernel, by decide, by decide +kernel, by decide, by decide +kernel⟩,
    ⟨host, 0x0EFF, [1, 2, 3, 4], [], stored, _, by decide +kernel, rfl, by decide +kernel, by decide +kernel, by decide +kernel, by decide, by decide +kernel, by decide, by decide +kernel⟩,
    ⟨host, 0, ready, by decide +kernel⟩,
    ⟨host, (ready.set .STORE_STATUS_PFAIL_HOLD 1), _, by decide +kernel, rfl, by decide +kernel⟩,
    ⟨host, ready, _, by decide +kernel, rfl, by decide +kernel⟩,
    ⟨host, ((ready.set .EVT_STATUS_RUNNING 1).setEvt (fun v => { v with page := [⟨0x0301, 0, 0, [], []⟩] })), _, by decide +kernel, rfl, by decide +kernel⟩,
    ⟨host, 256, (ready.setFault (fun f => { f with queue := [{}] })), by decide +kernel⟩,
    ⟨host, 1, (let y : State := ready; { y with fault := { y.fault with queue := [] } }), by decide +kernel⟩,
    ⟨host, 0, ready, by decide +kernel⟩,
    ⟨host, ((let y : State := ready; { y with fault := { y.fault with resume := none } }).set .FLT_STATUS_SAFE 1), _, by decide +kernel, rfl, by decide +kernel⟩,
    ⟨host, ((let y : State := ready; { y with fault := { y.fault with resume := none } }).set .FLT_STATUS_SAFE 0), _, by decide +kernel, rfl, by decide +kernel⟩,
    ⟨host, (ready.setFault (fun f => { f with resume := some host })), _, by decide +kernel, rfl, by decide +kernel⟩,
    ⟨(let y : State := ready; { y with power := { y.power with lost := [] } }), by decide +kernel⟩,
    fun h => ⟨(let y : State := ready; { y with power := { y.power with lost := [5] } }), by decide +kernel, h⟩,
    fun h => ⟨(let y : State := ready; { y with power := { y.power with lost := [5] } }), by decide +kernel, h⟩,
    ⟨host, (ready.set .FLT_STATUS_SAFE 1), by decide +kernel⟩,
    ⟨host, 27, (ready.set .FLT_STATUS_SAFE 0), by decide +kernel⟩,
    ⟨host, 0, (ready.set .FLT_STATUS_SAFE 0), _, by decide +kernel, rfl, by decide +kernel⟩,
    ⟨host, 3, ((ready.set .FLT_STATUS_SAFE 0).setFault (fun f => { f with running := [⟨3, 0, 2, 0, 0, false⟩] })), _, ((⟨3, 0, 2, 0, 0, false⟩ : Recovery)), by decide +kernel, rfl, by decide +kernel⟩,
    ⟨host, 3, (ready.setFault (fun f => { f with running := [(⟨3, 0, 1, 0, 0, false⟩ : Recovery)] })), _, (⟨3, 0, 1, 0, 0, false⟩ : Recovery), by decide +kernel, rfl, by decide +kernel⟩,
    ⟨host, [], ready, by decide +kernel⟩,
    ⟨host, [wd .FLT_ACTION_LEVEL 0 2], ready, 39, by decide +kernel⟩⟩

/-- The hypotheses of `Obligations.FaultEventsComplete` are met. -/
theorem witness_FaultEventsComplete :
    (∃ (part : Fin 27) (s : State), recoveryOf s (clusterOf part) = none) ∧
    (∃ (part : Fin 27) (r : Recovery) (s : State), recoveryOf s (clusterOf part) = some r ∧ r.level = 1 ∧ r.since + 10 * uUs ≤ s.now) ∧
    (∃ (part : Fin 27) (r : Recovery) (s : State), recoveryOf s (clusterOf part) = some r ∧ r.level = 1 ∧ s.now < r.since + 10 * uUs) ∧
    (∃ (part : Fin 27) (r : Recovery) (s : State), recoveryOf s (clusterOf part) = some r ∧ r.level ≠ 1 ∧ (r.late = true ∨ s.now < r.since + 5 * uMs)) ∧
    (∃ (part : Fin 27) (r : Recovery) (s : State) (t : _), recoveryOf s (clusterOf part) = some r ∧ r.level ≠ 1 ∧ r.late = false ∧ r.since + 5 * uMs ≤ s.now ∧ t = s.setFault (fun f => { f with running := f.running.map (fun x => if x = r then { x with late := true } else x), owed := if f.owed.any (fun x => srcPart x == r.part) then f.owed else f.owed ++ [mkSource r.part r.unit (srcType r.source)] }) ∧ (t.get .FLT_STATUS_SAFE ≠ 1 ∨ t.fault.resume ≠ none)) ∧
    (∃ (part : Fin 27) (r : Recovery) (s : State) (t : _), recoveryOf s (clusterOf part) = some r ∧ r.level ≠ 1 ∧ r.late = false ∧ r.since + 5 * uMs ≤ s.now ∧ t = s.setFault (fun f => { f with running := f.running.map (fun x => if x = r then { x with late := true } else x), owed := if f.owed.any (fun x => srcPart x == r.part) then f.owed else f.owed ++ [mkSource r.part r.unit (srcType r.source)] }) ∧ t.get .FLT_STATUS_SAFE = 1 ∧ t.fault.resume = none) ∧
    (∃ (s : State), s.get .FLT_STATUS_WINDOW_OPEN = 1 ∧ s.fault.running = [] ∧ s.fault.lastEnd + s.get .FLT_CFG_WINDOW_MS * uMs ≤ s.now) ∧
    (∃ (s : State), (s.get .FLT_STATUS_WINDOW_OPEN ≠ 1 ∨ s.fault.running ≠ [] ∨ s.now < s.fault.lastEnd + s.get .FLT_CFG_WINDOW_MS * uMs)) ∧
    (∃ (k : Fin 12) (reading : Int) (s : State), 1300 < reading ∧ Tab.get 0 s.power.temps k ≤ 2300) ∧
    (∃ (k : Fin 12) (reading : Int) (s : State), (reading ≤ 1300 ∨ 2300 < Tab.get 0 s.power.temps k)) ∧
    (∃ (s : State), (evtHolding s = true ∨ s.raised = [])) ∧
    (∃ (s : State) (e : Ev) (rest : List Ev), evtHolding s = false ∧ s.raised = e :: rest) ∧
    (∃ (s : State), (s.evt.dropped = 0 ∨ s.get .EVT_STATUS_RUNNING ≠ 1 ∨ evtRoom 32 s = false)) ∧
    (∃ (s : State), s.evt.dropped ≠ 0 ∧ s.get .EVT_STATUS_RUNNING = 1 ∧ evtRoom 32 s = true) ∧
    (∃ (s : State) (due : Prop), ((due ↔ s.get .EVT_NOTIFY_COUNT ≤ s.evt.sinceRead ∨ (s.evt.firstAt ≠ 0 ∧ s.evt.firstAt - 1 + s.get .EVT_NOTIFY_US * uUs ≤ s.now))) ∧ (s.evt.notified = true ∨ ¬due)) ∧
    (∃ (s : State) (due : Prop), ((due ↔ s.get .EVT_NOTIFY_COUNT ≤ s.evt.sinceRead ∨ (s.evt.firstAt ≠ 0 ∧ s.evt.firstAt - 1 + s.get .EVT_NOTIFY_US * uUs ≤ s.now))) ∧ s.evt.notified = false ∧ due ∧ s.get .EVT_NOTIFY_IRQ_EN = 1) ∧
    (∃ (s : State) (due : Prop), ((due ↔ s.get .EVT_NOTIFY_COUNT ≤ s.evt.sinceRead ∨ (s.evt.firstAt ≠ 0 ∧ s.evt.firstAt - 1 + s.get .EVT_NOTIFY_US * uUs ≤ s.now))) ∧ s.evt.notified = false ∧ due ∧ s.get .EVT_NOTIFY_IRQ_EN ≠ 1) :=
    ⟨⟨0, ready, by decide +kernel⟩,
    ⟨3, ((⟨3, 0, 1, 0, 0, false⟩ : Recovery)), (let y : State := (ready.setFault (fun f => { f with running := [⟨3, 0, 1, 0, 0, false⟩] })); { y with now := 10 * uUs }), by decide +kernel⟩,
    ⟨3, ((⟨3, 0, 1, 0, 0, false⟩ : Recovery)), (ready.setFault (fun f => { f with running := [⟨3, 0, 1, 0, 0, false⟩] })), by decide +kernel⟩,
    ⟨3, (⟨3, 0, 2, 0, 0, false⟩ : Recovery), (ready.setFault (fun f => { f with running := [(⟨3, 0, 2, 0, 0, false⟩ : Recovery)] })), by decide +kernel⟩,
    ⟨3, (⟨3, 0, 2, 0, 0, false⟩ : Recovery), (let y : State := (ready.setFault (fun f => { f with running := [(⟨3, 0, 2, 0, 0, false⟩ : Recovery)] })); { y with now := 5 * uMs }), _, by decide +kernel, by decide +kernel, by decide +kernel, (by decide +kernel), rfl, by decide +kernel⟩,
    ⟨3, ((⟨3, 0, 2, 0, 0, false⟩ : Recovery)), (let y : State := ((let y : State := (ready.set .FLT_STATUS_SAFE 1); { y with fault := { y.fault with resume := none } }).setFault (fun f => { f with running := [⟨3, 0, 2, 0, 0, false⟩] })); { y with now := 5 * uMs }), _, by decide +kernel, by decide +kernel, by decide +kernel, (by decide +kernel), rfl, by decide +kernel⟩,
    ⟨(let y : State := (let y : State := (ready.set .FLT_STATUS_WINDOW_OPEN 1); { y with fault := { y.fault with running := [] } }); { y with now := ready.fault.lastEnd + ready.get .FLT_CFG_WINDOW_MS * uMs }), by decide +kernel⟩,
    ⟨(ready.set .FLT_STATUS_WINDOW_OPEN 0), by decide +kernel⟩,
    ⟨0, 1301, ready, by decide +kernel⟩,
    ⟨0, 0, ready, by decide +kernel⟩,
    ⟨ready, by decide +kernel⟩,
    ⟨((ready.set .EVT_STATUS_RUNNING 1).raise 0x0301 [1]), ⟨0x0301, [1], []⟩, [], by decide +kernel⟩,
    ⟨(let y : State := ready; { y with evt := { y.evt with dropped := 0 } }), by decide +kernel⟩,
    ⟨((stored.set .EVT_STATUS_RUNNING 1).setEvt (fun v => { v with dropped := 1 })), by decide +kernel⟩,
    ⟨(let y : State := ready; { y with evt := { y.evt with notified := true } }), _, Iff.rfl, by decide +kernel⟩,
    ⟨((let y : State := ready; { y with evt := { y.evt with sinceRead := 1000000 } }).set .EVT_NOTIFY_IRQ_EN 1), _, Iff.rfl, by decide +kernel, .inl (by decide +kernel), by decide +kernel⟩,
    ⟨(let y : State := ready; { y with evt := { y.evt with sinceRead := 1000000 } }), _, Iff.rfl, by decide +kernel, .inl (by decide +kernel), by decide +kernel⟩⟩

/-- The hypotheses of `Obligations.TestBlockCompletes` are met. -/
theorem witness_TestBlockCompletes :
    (∃ (q : Req) (point : Nat) (inst : Nat) (on : Nat) (s : State), point ≤ 5 ∧ inst < (if point ≤ 1 then 4 else 32) ∧ on < 2 ∧ takenUp (ciTestLoopback point inst) q s = true ∧ on = 1 ∧ (loopRest point inst s = false ∨ loopBit (loopOther point) inst s = true)) ∧
    (∃ (q : Req) (point : Nat) (inst : Nat) (on : Nat) (s : State), point ≤ 5 ∧ inst < (if point ≤ 1 then 4 else 32) ∧ on < 2 ∧ takenUp (ciTestLoopback point inst) q s = true ∧ (on = 0 ∨ (loopRest point inst s = true ∧ loopBit (loopOther point) inst s = false)) ∧ point ≤ 1 ∧ on = 1) ∧
    (∃ (q : Req) (point : Nat) (inst : Nat) (on : Nat) (s : State), point ≤ 5 ∧ inst < (if point ≤ 1 then 4 else 32) ∧ on < 2 ∧ takenUp (ciTestLoopback point inst) q s = true ∧ (on = 0 ∨ (loopRest point inst s = true ∧ loopBit (loopOther point) inst s = false)) ∧ point ≤ 1 ∧ on = 0) ∧
    (∃ (q : Req) (point : Nat) (inst : Nat) (on : Nat) (s : State), point ≤ 5 ∧ inst < (if point ≤ 1 then 4 else 32) ∧ on < 2 ∧ takenUp (ciTestLoopback point inst) q s = true ∧ (on = 0 ∨ (loopRest point inst s = true ∧ loopBit (loopOther point) inst s = false)) ∧ 2 ≤ point) ∧
    (∃ (q : Req) (es : List WEntry) (s : State), takenUp ciTestGen q s = true ∧ wErr (fun f => genFields.contains f) es = none ∧ lenErr es s = none) ∧
    (∃ (q : Req) (es : List WEntry) (s : State) (off : Nat), takenUp ciTestGen q s = true ∧ wErr (fun f => genFields.contains f) es = none ∧ lenErr es s = some off) ∧
    (∃ (q : Req) (es : List WEntry) (s : State), takenUp ciTestCheck q s = true ∧ wErr (fun f => [Fld.TEST_CHK_RUN, .TEST_CHK_SLOT, .TEST_CHK_POINT, .TEST_CHK_GEN, .TEST_CHK_ETYPE].contains f) es = none) ∧
    (∃ (q : Req) (f : Nat) (on : Nat) (prob : Nat) (target : Nat) (value : Nat) (ms : Nat) (s : State) (timed : Prop), f ≤ 3 ∧ on < 2 ∧ prob < 256 ∧ perturbTarget f target = true ∧ perturbValue f value = true ∧ takenUp ciTestPerturb q s = true ∧ ((timed ↔ (s.mode = 5 ∧ ms < 65536) ∨ (s.mode ≠ 5 ∧ 1 ≤ ms ∧ ms ≤ 60000))) ∧ ¬timed) ∧
    (∃ (q : Req) (f : Nat) (on : Nat) (prob : Nat) (target : Nat) (value : Nat) (ms : Nat) (s : State) (timed : Prop), f ≤ 3 ∧ on < 2 ∧ prob < 256 ∧ perturbTarget f target = true ∧ perturbValue f value = true ∧ takenUp ciTestPerturb q s = true ∧ ((timed ↔ (s.mode = 5 ∧ ms < 65536) ∨ (s.mode ≠ 5 ∧ 1 ≤ ms ∧ ms ≤ 60000))) ∧ timed ∧ on = 1) ∧
    (∃ (q : Req) (f : Nat) (on : Nat) (prob : Nat) (target : Nat) (value : Nat) (ms : Nat) (s : State) (timed : Prop), f ≤ 3 ∧ on < 2 ∧ prob < 256 ∧ perturbTarget f target = true ∧ perturbValue f value = true ∧ takenUp ciTestPerturb q s = true ∧ ((timed ↔ (s.mode = 5 ∧ ms < 65536) ∨ (s.mode ≠ 5 ∧ 1 ≤ ms ∧ ms ≤ 60000))) ∧ timed ∧ on = 0 ∧ s.get .TEST_PERTURB_ON f = 1) ∧
    (∃ (q : Req) (f : Nat) (on : Nat) (prob : Nat) (target : Nat) (value : Nat) (ms : Nat) (s : State) (timed : Prop), f ≤ 3 ∧ on < 2 ∧ prob < 256 ∧ perturbTarget f target = true ∧ perturbValue f value = true ∧ takenUp ciTestPerturb q s = true ∧ ((timed ↔ (s.mode = 5 ∧ ms < 65536) ∨ (s.mode ≠ 5 ∧ 1 ≤ ms ∧ ms ≤ 60000))) ∧ timed ∧ on = 0 ∧ s.get .TEST_PERTURB_ON f ≠ 1) ∧
    (∃ (q : Req) (k : Nat) (tgt : Nat) (n : Nat) (count : Nat) (s : State), k ≤ 3 ∧ injectTarget k tgt = true ∧ injectBits k n = true ∧ takenUp ciTestInject q s = true ∧ 1 ≤ count ∧ count ≤ 65535) ∧
    (∃ (q : Req) (k : Nat) (tgt : Nat) (n : Nat) (count : Nat) (s : State), k ≤ 3 ∧ injectTarget k tgt = true ∧ injectBits k n = true ∧ takenUp ciTestInject q s = true ∧ (count = 0 ∨ 65535 < count)) ∧
    (∃ (g : Fin 8) (s : State) (len : Nat), len = s.get .TEST_GEN_LEN_MIN g + s.free % (s.get .TEST_GEN_LEN_MAX g - s.get .TEST_GEN_LEN_MIN g + 1) ∧ (s.get .TEST_GEN_RUN g ≠ 1 ∨ genLevel g s < len * 65536)) ∧
    (∃ (g : Fin 8) (s : State) (t : State) (u : State) (v : State) (len : Nat), len = s.get .TEST_GEN_LEN_MIN g + s.free % (s.get .TEST_GEN_LEN_MAX g - s.get .TEST_GEN_LEN_MIN g + 1) ∧ t = genInject g (testFrame g (Tab.get {} s.test.gens g).seq len s) s.took ∧ u = { t with test := { t.test with gens := Tab.put {} t.test.gens g ⟨(Tab.get {} s.test.gens g).seq + 1, genLevel g s - len * 65536, t.now / uUs⟩ } } ∧ v = u.set .TEST_GEN_SENT (min (u.get .TEST_GEN_SENT g + 1) ctrMax) g ∧ s.get .TEST_GEN_RUN g = 1 ∧ len * 65536 ≤ genLevel g s ∧ v.get .TEST_GEN_COUNT g ≠ 0 ∧ v.get .TEST_GEN_COUNT g ≤ (Tab.get {} s.test.gens g).seq) ∧
    (∃ (g : Fin 8) (s : State) (t : State) (u : State) (v : State) (len : Nat), len = s.get .TEST_GEN_LEN_MIN g + s.free % (s.get .TEST_GEN_LEN_MAX g - s.get .TEST_GEN_LEN_MIN g + 1) ∧ t = genInject g (testFrame g (Tab.get {} s.test.gens g).seq len s) s.took ∧ u = { t with test := { t.test with gens := Tab.put {} t.test.gens g ⟨(Tab.get {} s.test.gens g).seq + 1, genLevel g s - len * 65536, t.now / uUs⟩ } } ∧ v = u.set .TEST_GEN_SENT (min (u.get .TEST_GEN_SENT g + 1) ctrMax) g ∧ s.get .TEST_GEN_RUN g = 1 ∧ len * 65536 ≤ genLevel g s ∧ (v.get .TEST_GEN_COUNT g = 0 ∨ (Tab.get {} s.test.gens g).seq < v.get .TEST_GEN_COUNT g)) ∧
    (∃ (f : Fin 4) (s : State) (a : _), s.get .TEST_PERTURB_ON f = 1 ∧ Tab.get 0 s.test.ends f = a + 1 ∧ a ≤ s.now) ∧
    (∃ (f : Fin 4) (s : State), (s.get .TEST_PERTURB_ON f ≠ 1 ∨ Tab.get 0 s.test.ends f = 0 ∨ s.now < Tab.get 0 s.test.ends f - 1)) ∧
    (∃ (s : State), s.test.tapHold = false) ∧
    (∃ (s : State) (t : State), t = { s with test := { s.test with tapHold := false } } ∧ s.test.tapHold = true ∧ (t.pins.pwrGood = false ∨ t.pins.sysReset = false)) ∧
    (∃ (s : State) (t : State), t = { s with test := { s.test with tapHold := false } } ∧ s.test.tapHold = true ∧ t.pins.pwrGood = true ∧ t.pins.sysReset = true) :=
    ⟨⟨host, 0, 0, _, (maint.set .LINE_TREE_STATE_STATE tsCandidate 0), by decide +kernel, by decide +kernel, by decide +kernel, (by decide +kernel), rfl, by decide +kernel⟩,
    ⟨host, 0, 0, _, maint, by decide +kernel, by decide +kernel, by decide +kernel, (by decide +kernel), by decide +kernel, by decide +kernel, rfl⟩,
    ⟨host, 0, 0, _, maint, by decide +kernel, by decide +kernel, by decide +kernel, (by decide +kernel), by decide +kernel, by decide +kernel, rfl⟩,
    ⟨host, 2, 0, 0, maint, by decide +kernel⟩,
    ⟨host, [], maint, by decide +kernel⟩,
    ⟨host, [wd .TEST_GEN_LEN_MIN 100], (maint.set .TEST_GEN_LEN_MAX 50), 35, by decide +kernel⟩,
    ⟨host, [], maint, by decide +kernel⟩,
    ⟨host, 0, 0, 0, 0, 0, 65536, maint, _, by decide +kernel, by decide +kernel, by decide +kernel, (by decide +kernel), by decide +kernel, by decide +kernel, Iff.rfl, by decide +kernel⟩,
    ⟨host, 0, _, 0, 0, 0, 0, maint, _, by decide +kernel, by decide +kernel, by decide +kernel, (by decide +kernel), by decide +kernel, by decide +kernel, Iff.rfl, by decide +kernel, rfl⟩,
    ⟨host, 0, _, 0, 0, 0, 0, (maint.set .TEST_PERTURB_ON 1 0), _, by decide +kernel, by decide +kernel, by decide +kernel, (by decide +kernel), by decide +kernel, by decide +kernel, Iff.rfl, by decide +kernel, rfl, by decide +kernel⟩,
    ⟨host, 0, _, 0, 0, 0, 0, (maint.set .TEST_PERTURB_ON 0 0), _, by decide +kernel, by decide +kernel, by decide +kernel, (by decide +kernel), by decide +kernel, by decide +kernel, Iff.rfl, by decide +kernel, rfl, by decide +kernel⟩,
    ⟨host, 0, 0, 1, 1, maint, by decide +kernel⟩,
    ⟨host, 0, 0, 1, 0, maint, by decide +kernel⟩,
    ⟨0, (maint.set .TEST_GEN_RUN 0 0), _, rfl, by decide +kernel⟩,
    ⟨0, (let y : State := ((((((maint.set .TEST_GEN_LEN_MIN 60).set .TEST_GEN_LEN_MAX 60).set .TEST_GEN_RATE 8000).set .TEST_GEN_RUN 1).set .TEST_GEN_COUNT 1).set .TEST_GEN_SLOT 0); { y with now := uUs * 1000000 }), _, _, _, _, rfl, rfl, rfl, rfl, by decide +kernel, mod_one_le _ _ _ _ (by decide +kernel) (by decide +kernel), by decide +kernel⟩,
    ⟨0, (let y : State := ((((maint.set .TEST_GEN_LEN_MIN 60).set .TEST_GEN_LEN_MAX 60).set .TEST_GEN_RATE 8000).set .TEST_GEN_RUN 1); { y with now := uUs * 1000000 }), _, _, _, _, rfl, rfl, rfl, rfl, by decide +kernel, mod_one_le _ _ _ _ (by decide +kernel) (by decide +kernel), by decide +kernel⟩,
    ⟨0, (let y : State := (let y : State := (maint.set .TEST_PERTURB_ON 1 0); { y with test := { y.test with ends := Tab.put 0 y.test.ends 0 (5 + 1) } }); { y with now := 5 }), 5, by decide +kernel⟩,
    ⟨0, (maint.set .TEST_PERTURB_ON 0 0), by decide +kernel⟩,
    ⟨(let y : State := maint; { y with test := { y.test with tapHold := false } }), by decide +kernel⟩,
    ⟨(let y : State := (let y : State := maint; { y with test := { y.test with tapHold := true } }); { y with pins := { y.pins with pwrGood := false } }), _, rfl, by decide +kernel⟩,
    ⟨(let y : State := (let y : State := (let y : State := maint; { y with test := { y.test with tapHold := true } }); { y with pins := { y.pins with pwrGood := true } }); { y with pins := { y.pins with sysReset := true } }), _, rfl, by decide +kernel⟩⟩

/-- The hypotheses of `Obligations.RingAndRegisterWritesComplete` are met. -/
theorem witness_RingAndRegisterWritesComplete :
    (∃ (u : Fin 32) (s : State), s.get .CMD_FN_ENABLE u ≠ 1) ∧
    (∃ (u : Fin 32) (s : State), s.get .CMD_FN_ENABLE u = 1) ∧
    (∃ (off : Nat), off % 8 = 0) ∧
    (∃ (off : Nat), (off % 8 ≠ 0 ∨ fieldsAt off = [])) ∧
    (∃ (off : Nat), off % 8 ≠ 0) :=
    ⟨⟨0, (ready.set .CMD_FN_ENABLE 0 0), by decide +kernel⟩,
    ⟨0, (ready.set .CMD_FN_ENABLE 1 0), by decide +kernel⟩,
    ⟨0, by decide +kernel⟩,
    ⟨1, by decide +kernel⟩,
    ⟨1, by decide +kernel⟩⟩

/-- The hypotheses of `Obligations.CommandTransportsComplete` are met. -/
theorem witness_CommandTransportsComplete :
    (∃ (u : Fin 32) (s : State) (n : Nat) (i : Nat), n = cmdCplSize s u ∧ i = s.get .CMD_FN_SUB_HEAD u ∧ s.cmd.accepting = true ∧ s.get .CMD_FN_ENABLE u = 1 ∧ s.restarting 23 = false ∧ i ≠ s.get .CMD_FN_SUB_TAIL u ∧ s.cmd.taken.any (fun x => x.fn == u.val) = false ∧ (s.get .CMD_FN_CPL_TAIL u + n - s.get .CMD_FN_CPL_HEAD u % n) % n + Tab.get 0 s.cmd.reserved u + 1 < n ∧ windowOk s u (s.get .CMD_FN_SUB_BASE u * 4096 + i * 32) 32 false = false) ∧
    (∃ (u : Fin 32) (e : SubEntry) (h : Header) (s : State) (t : State) (n : Nat) (i : Nat), n = cmdCplSize s u ∧ i = s.get .CMD_FN_SUB_HEAD u ∧ s.cmd.accepting = true ∧ s.get .CMD_FN_ENABLE u = 1 ∧ s.restarting 23 = false ∧ i ≠ s.get .CMD_FN_SUB_TAIL u ∧ s.cmd.taken.any (fun x => x.fn == u.val) = false ∧ (s.get .CMD_FN_CPL_TAIL u + n - s.get .CMD_FN_CPL_HEAD u % n) % n + Tab.get 0 s.cmd.reserved u + 1 < n ∧ windowOk s u (s.get .CMD_FN_SUB_BASE u * 4096 + i * 32) 32 false = true ∧ t = (s.set .CMD_FN_SUB_HEAD ((i + 1) % cmdSubSize s u) u) ∧ windowOk t u e.addr e.len false = true ∧ ((e.replyCap = 0 ∨ windowOk t u e.replyAddr e.replyCap true = true)) ∧ transportCheck h e.len (.ring u) = none) ∧
    (∃ (u : Fin 32) (e : SubEntry) (h : Header) (s : State) (t : State) (n : Nat) (i : Nat) (st : Nat) (d : Nat), n = cmdCplSize s u ∧ i = s.get .CMD_FN_SUB_HEAD u ∧ s.cmd.accepting = true ∧ s.get .CMD_FN_ENABLE u = 1 ∧ s.restarting 23 = false ∧ i ≠ s.get .CMD_FN_SUB_TAIL u ∧ s.cmd.taken.any (fun x => x.fn == u.val) = false ∧ (s.get .CMD_FN_CPL_TAIL u + n - s.get .CMD_FN_CPL_HEAD u % n) % n + Tab.get 0 s.cmd.reserved u + 1 < n ∧ windowOk s u (s.get .CMD_FN_SUB_BASE u * 4096 + i * 32) 32 false = true ∧ t = (s.set .CMD_FN_SUB_HEAD ((i + 1) % cmdSubSize s u) u) ∧ windowOk t u e.addr e.len false = true ∧ ((e.replyCap = 0 ∨ windowOk t u e.replyAddr e.replyCap true = true)) ∧ transportCheck h e.len (.ring u) = some (st, d)) ∧
    (∃ (u : Fin 32) (e : SubEntry) (s : State) (t : State) (n : Nat) (i : Nat), n = cmdCplSize s u ∧ i = s.get .CMD_FN_SUB_HEAD u ∧ s.cmd.accepting = true ∧ s.get .CMD_FN_ENABLE u = 1 ∧ s.restarting 23 = false ∧ i ≠ s.get .CMD_FN_SUB_TAIL u ∧ s.cmd.taken.any (fun x => x.fn == u.val) = false ∧ (s.get .CMD_FN_CPL_TAIL u + n - s.get .CMD_FN_CPL_HEAD u % n) % n + Tab.get 0 s.cmd.reserved u + 1 < n ∧ windowOk s u (s.get .CMD_FN_SUB_BASE u * 4096 + i * 32) 32 false = true ∧ t = (s.set .CMD_FN_SUB_HEAD ((i + 1) % cmdSubSize s u) u) ∧ (windowOk t u e.addr e.len false = false ∨ (e.replyCap ≠ 0 ∧ windowOk t u e.replyAddr e.replyCap true = false))) ∧
    (∃ (u : Fin 32) (s : State), (s.cmd.accepting = false ∨ s.get .CMD_FN_ENABLE u ≠ 1 ∨ s.restarting 23 = true ∨ s.get .CMD_FN_SUB_HEAD u = s.get .CMD_FN_SUB_TAIL u ∨ s.cmd.taken.any (fun x => x.fn == u.val) = true)) ∧
    (∃ (u : Fin 32) (s : State) (n : Nat), n = cmdCplSize s u ∧ n ≤ (s.get .CMD_FN_CPL_TAIL u + n - s.get .CMD_FN_CPL_HEAD u % n) % n + Tab.get 0 s.cmd.reserved u + 1) ∧
    (∃ (r : Reply) (rest : List Reply) (s : State) (u : Nat) (t : Taken), s.cmd.replies = r :: rest ∧ r.req.src = .ring u ∧ s.cmd.taken.find? (fun x => x.fn == u) = some t) ∧
    (∃ (r : Reply) (rest : List Reply) (s : State) (x : Nat) (t : _), s.cmd.replies = r :: rest ∧ r.req.src = .inband x ∧ s.cmd.inband.find? (fun y => y.1 == x && y.2.2.2 == r.req.user) = some t) ∧
    (∃ (r : Reply) (rest : List Reply) (s : State), s.cmd.replies = r :: rest ∧ ((∃ u, r.req.src = .ring u ∧ s.cmd.taken.find? (fun x => x.fn == u) = none) ∨ (∃ x, r.req.src = .inband x ∧ s.cmd.inband.find? (fun y => y.1 == x && y.2.2.2 == r.req.user) = none) ∨ r.req.src = .peer ∨ r.req.src = .journal)) ∧
    (∃ (r : Reply) (rest : List Reply) (s : State), s.cmd.replies = r :: rest ∧ r.req.src = .peldel) ∧
    (∃ (s : State), s.cmd.replies = []) ∧
    (∃ (x : Fin 32) (frame : List Nat) (body : List Nat) (h : Header) (s : State) (n : Nat) (covered : Nat), n = tagsOf (s.get .PORT_CFG_TPID_ALT x) frame ∧ body = frame.drop (12 + 4 * n + 2) ∧ h = headerOf body ∧ s.inRescue = false ∧ s.link x = lsUp ∧ field frame (12 + 4 * n) 2 = 0x88B5 ∧ covered = (if 32 + h.len ≤ body.length then 16 + h.len else body.length - 16) ∧ (inbandKey s h.user = none ∨ (∃ k, inbandKey s h.user = some k ∧ cmac k (body.take covered) % 2 ^ 128 ≠ field body covered 16))) ∧
    (∃ (x : Fin 32) (frame : List Nat) (body : List Nat) (h : Header) (s : State) (n : Nat) (covered : Nat) (d : Nat) (k : Nat), n = tagsOf (s.get .PORT_CFG_TPID_ALT x) frame ∧ body = frame.drop (12 + 4 * n + 2) ∧ h = headerOf body ∧ s.inRescue = false ∧ s.link x = lsUp ∧ field frame (12 + 4 * n) 2 = 0x88B5 ∧ covered = (if 32 + h.len ≤ body.length then 16 + h.len else body.length - 16) ∧ d = (h.tag + 2 ^ 32 - s.get .CMD_FN_INBAND_TAG h.user) % 2 ^ 32 ∧ inbandKey s h.user = some k ∧ cmac k (body.take covered) % 2 ^ 128 = field body covered 16 ∧ (d = 0 ∨ 2 ^ 31 ≤ d)) ∧
    (∃ (x : Fin 32) (frame : List Nat) (body : List Nat) (h : Header) (s : State) (n : Nat) (covered : Nat) (d : Nat) (k : Nat), n = tagsOf (s.get .PORT_CFG_TPID_ALT x) frame ∧ body = frame.drop (12 + 4 * n + 2) ∧ h = headerOf body ∧ s.inRescue = false ∧ s.link x = lsUp ∧ field frame (12 + 4 * n) 2 = 0x88B5 ∧ covered = (if 32 + h.len ≤ body.length then 16 + h.len else body.length - 16) ∧ d = (h.tag + 2 ^ 32 - s.get .CMD_FN_INBAND_TAG h.user) % 2 ^ 32 ∧ inbandKey s h.user = some k ∧ cmac k (body.take covered) % 2 ^ 128 = field body covered 16 ∧ 1 ≤ d ∧ d < 2 ^ 31 ∧ transportCheck h (body.length - 16) (.inband x) = none) ∧
    (∃ (x : Fin 32) (frame : List Nat) (body : List Nat) (h : Header) (s : State) (n : Nat) (covered : Nat) (d : Nat) (k : Nat) (st : Nat) (e : Nat), n = tagsOf (s.get .PORT_CFG_TPID_ALT x) frame ∧ body = frame.drop (12 + 4 * n + 2) ∧ h = headerOf body ∧ s.inRescue = false ∧ s.link x = lsUp ∧ field frame (12 + 4 * n) 2 = 0x88B5 ∧ covered = (if 32 + h.len ≤ body.length then 16 + h.len else body.length - 16) ∧ d = (h.tag + 2 ^ 32 - s.get .CMD_FN_INBAND_TAG h.user) % 2 ^ 32 ∧ inbandKey s h.user = some k ∧ cmac k (body.take covered) % 2 ^ 128 = field body covered 16 ∧ 1 ≤ d ∧ d < 2 ^ 31 ∧ transportCheck h (body.length - 16) (.inband x) = some (st, e)) ∧
    (∃ (x : Fin 32) (frame : List Nat) (s : State), (s.inRescue = true ∨ s.link x ≠ lsUp ∨ field frame (12 + 4 * tagsOf (s.get .PORT_CFG_TPID_ALT x) frame) 2 ≠ 0x88B5)) ∧
    (∃ (s : State), (s.cmd.peldelBusy = true ∨ s.restarting 23 = true)) ∧
    (∃ (bytes : List Nat) (n : Nat) (s : State), n = field bytes 0 2 ∧ s.cmd.peldelBusy = false ∧ s.restarting 23 = false ∧ (4096 < n ∨ bytes.length ≠ n + 6 ∨ field bytes (n + 2) 4 ≠ crc32c (bytes.take (n + 2)))) ∧
    (∃ (bytes : List Nat) (n : Nat) (s : State), n = field bytes 0 2 ∧ s.cmd.peldelBusy = false ∧ s.restarting 23 = false ∧ n ≤ 4096 ∧ bytes.length = n + 6 ∧ field bytes (n + 2) 4 = crc32c (bytes.take (n + 2)) ∧ transportCheck (headerOf ((bytes.drop 2).take n)) n .peldel = none) ∧
    (∃ (bytes : List Nat) (n : Nat) (s : State) (st : Nat) (d : Nat), n = field bytes 0 2 ∧ s.cmd.peldelBusy = false ∧ s.restarting 23 = false ∧ n ≤ 4096 ∧ bytes.length = n + 6 ∧ field bytes (n + 2) 4 = crc32c (bytes.take (n + 2)) ∧ transportCheck (headerOf ((bytes.drop 2).take n)) n .peldel = some (st, d)) ∧
    (∃ (s : State), s.cmd.peldelBusy = true) ∧
    (∃ (s : State), s.cmd.peldelBusy = false ∧ s.cmd.peldelReply = none) ∧
    (∃ (s : State) (r : Reply), s.cmd.peldelBusy = false ∧ s.cmd.peldelReply = some r) ∧
    (∃ (s : State), (s.get .PWR_STATE_STATE = 2 ∨ s.get .PWR_STATE_STATE = 3 ∨ s.get .PWR_STATE_STATE = 4)) ∧
    (∃ (s : State), (s.get .PWR_STATE_STATE = 0 ∨ s.get .PWR_STATE_STATE = 6) ∧ s.get .PWR_STATE_PELDEL_OFF = 1) ∧
    (∃ (s : State), (s.get .PWR_STATE_STATE = 0 ∨ s.get .PWR_STATE_STATE = 6) ∧ s.get .PWR_STATE_PELDEL_OFF ≠ 1) ∧
    (∃ (s : State), s.get .PWR_STATE_STATE ≠ 0 ∧ s.get .PWR_STATE_STATE ≠ 2 ∧ s.get .PWR_STATE_STATE ≠ 3 ∧ s.get .PWR_STATE_STATE ≠ 4 ∧ s.get .PWR_STATE_STATE ≠ 6) :=
    ⟨⟨0, (((let y : State := ringed; { y with cmd := { y.cmd with accepting := true } }).set .CMD_FN_ENABLE 1 0).set .CMD_WIN_VALID 0), _, _, rfl, rfl, by decide +kernel⟩,
    ⟨0, ⟨0, 16, 0, 0⟩, hdr0, ((let y : State := ringed; { y with cmd := { y.cmd with accepting := true } }).set .CMD_FN_ENABLE 1 0), _, _, _, rfl, rfl, by decide +kernel, by decide +kernel, by decide +kernel, (by decide +kernel), by decide +kernel, by decide +kernel, by decide +kernel, rfl, by decide +kernel⟩,
    ⟨0, ⟨0, 16, 0, 0⟩, { hdr0 with opcode := 0 }, ((let y : State := ringed; { y with cmd := { y.cmd with accepting := true } }).set .CMD_FN_ENABLE 1 0), _, _, _, stUnknown, 0, rfl, rfl, by decide +kernel, by decide +kernel, by decide +kernel, (by decide +kernel), by decide +kernel, by decide +kernel, by decide +kernel, rfl, by decide +kernel⟩,
    ⟨0, ⟨0, 16, 1, 4096⟩, (((let y : State := ringed; { y with cmd := { y.cmd with accepting := true } }).set .CMD_FN_ENABLE 1 0).set .CMD_WIN_LAST 0), _, _, _, rfl, rfl, by decide +kernel, by decide +kernel, by decide +kernel, (by decide +kernel), by decide +kernel, by decide +kernel, by decide +kernel, rfl, .inr (by decide +kernel)⟩,
    ⟨0, (let y : State := ready; { y with cmd := { y.cmd with accepting := false } }), by decide +kernel⟩,
    ⟨0, (ready.setAll [(.CMD_FN_CPL_SIZE_LOG2, 1), (.CMD_FN_CPL_TAIL, 1)]), _, rfl, by decide +kernel⟩,
    ⟨⟨host, 0x0101, 0, 0, []⟩, [], ((let y : State := ready; { y with cmd := { y.cmd with replies := (⟨host, 0x0101, 0, 0, []⟩) :: ([]) } }).setCmd (fun c => { c with taken := [⟨0, 0, 0, 0⟩] })), 0, ⟨0, 0, 0, 0⟩, by decide +kernel⟩,
    ⟨⟨{ host with src := .inband 3 }, 0x0101, 0, 0, []⟩, [], ((let y : State := ready; { y with cmd := { y.cmd with replies := (⟨{ host with src := .inband 3 }, 0x0101, 0, 0, []⟩) :: ([]) } }).setCmd (fun c => { c with inband := [(3, 0, [], 0)] })), 3, (3, 0, [], 0), by decide +kernel⟩,
    ⟨⟨{ host with src := .peer }, 0x0101, 0, 0, []⟩, [], (let y : State := ready; { y with cmd := { y.cmd with replies := (⟨{ host with src := .peer }, 0x0101, 0, 0, []⟩) :: ([]) } }), by decide +kernel, .inr (.inr (.inl rfl))⟩,
    ⟨⟨{ host with src := .peldel }, 0x0101, 0, 0, []⟩, [], (let y : State := ready; { y with cmd := { y.cmd with replies := (⟨{ host with src := .peldel }, 0x0101, 0, 0, []⟩) :: ([]) } }), by decide +kernel⟩,
    ⟨(let y : State := ready; { y with cmd := { y.cmd with replies := [] } }), by decide +kernel⟩,
    ⟨0, inFrame 0x0101 1, _, _, (ready.set .PORT_STATUS_LINK_STATE lsUp 0), _, _, rfl, rfl, rfl, by decide +kernel, by decide +kernel, by decide +kernel, rfl, .inl (by decide +kernel)⟩,
    ⟨0, inFrame 0x0101 1, _, _, ((inKeyed.set .PORT_STATUS_LINK_STATE lsUp 0).set .CMD_FN_INBAND_TAG 1), _, _, _, 5, rfl, rfl, rfl, by decide +kernel, by decide +kernel, by decide +kernel, rfl, rfl, by decide +kernel, mac_frame _ _ 5 (hdrBytes 0x0101 1) _ (by decide +kernel) rfl (by decide +kernel), by decide +kernel⟩,
    ⟨0, inFrame 0x0101 1, _, _, (inKeyed.set .PORT_STATUS_LINK_STATE lsUp 0), _, _, _, 5, rfl, rfl, rfl, by decide +kernel, by decide +kernel, by decide +kernel, rfl, rfl, by decide +kernel, mac_frame _ _ 5 (hdrBytes 0x0101 1) _ (by decide +kernel) rfl (by decide +kernel), by decide +kernel⟩,
    ⟨0, inFrame 0 1, _, _, (inKeyed.set .PORT_STATUS_LINK_STATE lsUp 0), _, _, _, 5, stUnknown, 0, rfl, rfl, rfl, by decide +kernel, by decide +kernel, by decide +kernel, rfl, rfl, by decide +kernel, mac_frame _ _ 5 (hdrBytes 0 1) _ (by decide +kernel) rfl (by decide +kernel), by decide +kernel⟩,
    ⟨0, [], ready, by decide +kernel⟩,
    ⟨(let y : State := ready; { y with cmd := { y.cmd with peldelBusy := true } }), by decide +kernel⟩,
    ⟨[], _, (let y : State := ready; { y with cmd := { y.cmd with peldelBusy := false } }), rfl, by decide +kernel⟩,
    ⟨pelFrame 0x0101, _, (let y : State := ready; { y with cmd := { y.cmd with peldelBusy := false } }), rfl, by decide +kernel⟩,
    ⟨pelFrame 0, _, (let y : State := ready; { y with cmd := { y.cmd with peldelBusy := false } }), stUnknown, 0, rfl, by decide +kernel⟩,
    ⟨(let y : State := ready; { y with cmd := { y.cmd with peldelBusy := true } }), by decide +kernel⟩,
    ⟨(let y : State := (let y : State := ready; { y with cmd := { y.cmd with peldelBusy := false } }); { y with cmd := { y.cmd with peldelReply := none } }), by decide +kernel⟩,
    ⟨(let y : State := (let y : State := ready; { y with cmd := { y.cmd with peldelBusy := false } }); { y with cmd := { y.cmd with peldelReply := some (⟨{ host with src := .peldel }, 0x0101, 0, 0, []⟩) } }), ⟨{ host with src := .peldel }, 0x0101, 0, 0, []⟩, by decide +kernel⟩,
    ⟨(ready.set .PWR_STATE_STATE 2), by decide +kernel⟩,
    ⟨((ready.set .PWR_STATE_STATE 0).set .PWR_STATE_PELDEL_OFF 1), by decide +kernel⟩,
    ⟨((ready.set .PWR_STATE_STATE 0).set .PWR_STATE_PELDEL_OFF 0), by decide +kernel⟩,
    ⟨(ready.set .PWR_STATE_STATE 1), by decide +kernel⟩⟩

/-- The hypotheses of `Obligations.CommitFenceAndMirrorComplete` are met. -/
theorem witness_CommitFenceAndMirrorComplete :
    (∃ (x : Option (Nat × Nat)) (g : Staged) (rest : List Staged) (s : State) (t : State), s.cmd.staged = g :: rest ∧ t = s.setCmd (fun c => { c with staged := rest }) ∧ refusals g x t = []) ∧
    (∃ (x : Option (Nat × Nat)) (g : Staged) (rest : List Staged) (s : State) (t : State) (p : Nat) (st : Nat), s.cmd.staged = g :: rest ∧ t = s.setCmd (fun c => { c with staged := rest }) ∧ (p, st) ∈ refusals g x t ∧ ((∀ y ∈ refusals g x t, y = (p, st) ∨ p < y.1))) ∧
    (∃ (s : State), s.cmd.staged = []) ∧
    (∃ (k : Nat) (s : State), s.cmd.fences[k]? = none) ∧
    (∃ (k : Nat) (s : State) (f : FenceWait) (n : _), s.cmd.fences[k]? = some f ∧ n = olderInFlight s f.set f.gen ∧ n = 0) ∧
    (∃ (k : Nat) (s : State) (f : FenceWait) (n : Nat), s.cmd.fences[k]? = some f ∧ n = olderInFlight s f.set f.gen ∧ n ≠ 0 ∧ f.limitUs ≠ 0 ∧ f.since + f.limitUs * uUs ≤ s.now) ∧
    (∃ (k : Nat) (s : State) (f : FenceWait) (n : _), s.cmd.fences[k]? = some f ∧ n = olderInFlight s f.set f.gen ∧ n ≠ 0 ∧ (f.limitUs = 0 ∨ s.now < f.since + f.limitUs * uUs)) ∧
    (∃ (r : MirrorRec) (rest : List MirrorRec) (s : State), s.cmd.mirrorQueue = r :: rest ∧ (s.get .CMD_PEER_CFG_ENABLE ≠ 1 ∨ s.get .CMD_PEER_CFG_ROLE ≠ 1 ∨ s.get .FLT_STATUS_SAFE = 1)) ∧
    (∃ (r : MirrorRec) (rest : List MirrorRec) (s : State) (size : _), s.cmd.mirrorQueue = r :: rest ∧ s.get .CMD_PEER_CFG_ENABLE = 1 ∧ s.get .CMD_PEER_CFG_ROLE = 1 ∧ s.get .FLT_STATUS_SAFE ≠ 1 ∧ size = 16 + (r.len + 15) / 16 * 16 ∧ s.cmd.mirrorPos + size ≤ 524288) ∧
    (∃ (r : MirrorRec) (rest : List MirrorRec) (s : State) (size : _), s.cmd.mirrorQueue = r :: rest ∧ s.get .CMD_PEER_CFG_ENABLE = 1 ∧ s.get .CMD_PEER_CFG_ROLE = 1 ∧ s.get .FLT_STATUS_SAFE ≠ 1 ∧ size = 16 + (r.len + 15) / 16 * 16 ∧ 524288 < s.cmd.mirrorPos + size ∧ s.cmd.mirrorPos < 524288) ∧
    (∃ (s : State), s.cmd.mirrorQueue = []) ∧
    (∃ (rid : Nat) (s : State), rid ≠ s.get .CMD_PEER_CFG_PARTNER_RID) ∧
    (∃ (s : State), (s.get .CMD_PEER_CFG_APPLY ≠ 1 ∨ s.get .CMD_PEER_STATUS_DESYNC = 1 ∨ s.cmd.applying ≠ none ∨ s.get .CMD_PEER_RX_RX_HEAD = s.get .CMD_PEER_RX_RX_TAIL ∨ s.cmd.accepting = false ∨ s.cmd.rxRecords = [] ∨ (s.get .CMD_PEER_CFG_ROLE = 1 ∧ s.cmd.rxDrain = 0))) ∧
    (∃ (r : MirrorRec) (rest : List MirrorRec) (s : State), s.get .CMD_PEER_CFG_APPLY = 1 ∧ s.get .CMD_PEER_STATUS_DESYNC ≠ 1 ∧ s.cmd.applying = none ∧ s.get .CMD_PEER_RX_RX_HEAD ≠ s.get .CMD_PEER_RX_RX_TAIL ∧ s.cmd.accepting = true ∧ s.cmd.rxRecords = r :: rest ∧ (s.get .CMD_PEER_CFG_ROLE = 0 ∨ 0 < s.cmd.rxDrain) ∧ r.len = 0xFFFFFFFF) ∧
    (∃ (r : MirrorRec) (rest : List MirrorRec) (s : State), s.get .CMD_PEER_CFG_APPLY = 1 ∧ s.get .CMD_PEER_STATUS_DESYNC ≠ 1 ∧ s.cmd.applying = none ∧ s.get .CMD_PEER_RX_RX_HEAD ≠ s.get .CMD_PEER_RX_RX_TAIL ∧ s.cmd.accepting = true ∧ s.cmd.rxRecords = r :: rest ∧ (s.get .CMD_PEER_CFG_ROLE = 0 ∨ 0 < s.cmd.rxDrain) ∧ r.len ≠ 0xFFFFFFFF ∧ r.checkOk = false) ∧
    (∃ (r : MirrorRec) (rest : List MirrorRec) (s : State), s.get .CMD_PEER_CFG_APPLY = 1 ∧ s.get .CMD_PEER_STATUS_DESYNC ≠ 1 ∧ s.cmd.applying = none ∧ s.get .CMD_PEER_RX_RX_HEAD ≠ s.get .CMD_PEER_RX_RX_TAIL ∧ s.cmd.accepting = true ∧ s.cmd.rxRecords = r :: rest ∧ (s.get .CMD_PEER_CFG_ROLE = 0 ∨ 0 < s.cmd.rxDrain) ∧ r.len ≠ 0xFFFFFFFF ∧ r.checkOk = true ∧ r.seq ≠ s.cmd.rxSeq + 1) ∧
    (∃ (r : MirrorRec) (rest : List MirrorRec) (s : State), s.get .CMD_PEER_CFG_APPLY = 1 ∧ s.get .CMD_PEER_STATUS_DESYNC ≠ 1 ∧ s.cmd.applying = none ∧ s.get .CMD_PEER_RX_RX_HEAD ≠ s.get .CMD_PEER_RX_RX_TAIL ∧ s.cmd.accepting = true ∧ s.cmd.rxRecords = r :: rest ∧ (s.get .CMD_PEER_CFG_ROLE = 0 ∨ 0 < s.cmd.rxDrain) ∧ r.len ≠ 0xFFFFFFFF ∧ r.checkOk = true ∧ r.seq = s.cmd.rxSeq + 1) ∧
    (∃ (s : State) (t : _), (s.timer .peerPoll = none ∨ s.expired .peerPoll uMs = true) ∧ t = (s.start .peerPoll).emit .partnerRead ∧ t.timer .peerRead = none) ∧
    (∃ (s : State) (t : _), (s.timer .peerPoll = none ∨ s.expired .peerPoll uMs = true) ∧ t = (s.start .peerPoll).emit .partnerRead ∧ t.timer .peerRead ≠ none) ∧
    (∃ (s : State), s.timer .peerPoll ≠ none ∧ s.expired .peerPoll uMs = false) ∧
    (∃ (s : State), s.expired .peerRead (50 * uMs) = true) ∧
    (∃ (s : State), s.expired .peerRead (50 * uMs) = false) :=
    ⟨⟨none, (⟨host, 0x0104, [25], true, .mode 2, []⟩ : Staged), [], (let y : State := ready; { y with cmd := { y.cmd with staged := ((⟨host, 0x0104, [25], true, .mode 2, []⟩ : Staged)) :: ([]) } }), _, by decide +kernel, rfl, by decide +kernel⟩,
    ⟨(some (25, 6)), (⟨host, 0x0104, [25], true, .mode 2, []⟩ : Staged), [], (let y : State := ready; { y with cmd := { y.cmd with staged := ((⟨host, 0x0104, [25], true, .mode 2, []⟩ : Staged)) :: ([]) } }), _, 25, 6, by decide +kernel, rfl, by decide +kernel⟩,
    ⟨(let y : State := ready; { y with cmd := { y.cmd with staged := [] } }), by decide +kernel⟩,
    ⟨0, ready, by decide +kernel⟩,
    ⟨0, (ready.setCmd (fun c => { c with fences := [(⟨host, 0, 0, 1, 0, 1000⟩ : FenceWait)] })), (⟨host, 0, 0, 1, 0, 1000⟩ : FenceWait), _, by decide +kernel, rfl, by decide +kernel⟩,
    ⟨0, (let y : State := ((ready.setCmd (fun c => { c with fences := [⟨host, 0, 0, 1, 0, 1000⟩] })).setItem 1 (fun i => { i with parsed := some {} })); { y with now := 1000 * uUs }), (⟨host, 0, 0, 1, 0, 1000⟩ : FenceWait), _, by decide +kernel, rfl, by decide +kernel⟩,
    ⟨0, ((ready.setCmd (fun c => { c with fences := [(⟨host, 0, 0, 1, 0, 1000⟩ : FenceWait)] })).setItem 1 (fun i => { i with parsed := some {} })), (⟨host, 0, 0, 1, 0, 1000⟩ : FenceWait), _, by decide +kernel, rfl, by decide +kernel⟩,
    ⟨⟨1, 0x0101, 16, true⟩, [], ((let y : State := ready; { y with cmd := { y.cmd with mirrorQueue := (⟨1, 0x0101, 16, true⟩) :: ([]) } }).set .CMD_PEER_CFG_ENABLE 0), by decide +kernel⟩,
    ⟨⟨1, 0x0101, 16, true⟩, [], ((((let y : State := ready; { y with cmd := { y.cmd with mirrorQueue := (⟨1, 0x0101, 16, true⟩) :: ([]) } }).set .CMD_PEER_CFG_ENABLE 1).set .CMD_PEER_CFG_ROLE 1).set .FLT_STATUS_SAFE 0), _, by decide +kernel, by decide +kernel, by decide +kernel, (by decide +kernel), rfl, by decide +kernel⟩,
    ⟨⟨1, 0x0101, 16, true⟩, [], (((((let y : State := ready; { y with cmd := { y.cmd with mirrorQueue := (⟨1, 0x0101, 16, true⟩) :: ([]) } }).set .CMD_PEER_CFG_ENABLE 1).set .CMD_PEER_CFG_ROLE 1).set .FLT_STATUS_SAFE 0).setCmd (fun c => { c with mirrorPos := 524272 })), _, by decide +kernel, by decide +kernel, by decide +kernel, (by decide +kernel), rfl, by decide +kernel⟩,
    ⟨(let y : State := ready; { y with cmd := { y.cmd with mirrorQueue := [] } }), by decide +kernel⟩,
    ⟨1, ready, by decide +kernel⟩,
    ⟨(ready.set .CMD_PEER_CFG_APPLY 0), by decide +kernel⟩,
    ⟨⟨1, 0x0101, 0xFFFFFFFF, true⟩, [], (((let y : State := (let y : State := (let y : State := ((ready.set .CMD_PEER_CFG_APPLY 1).set .CMD_PEER_STATUS_DESYNC 0); { y with cmd := { y.cmd with applying := none } }); { y with cmd := { y.cmd with accepting := true } }); { y with cmd := { y.cmd with rxRecords := (⟨1, 0x0101, 0xFFFFFFFF, true⟩) :: ([]) } }).set .CMD_PEER_CFG_ROLE 0).set .CMD_PEER_RX_RX_TAIL 64), by decide +kernel⟩,
    ⟨⟨1, 0x0101, 16, false⟩, [], (((let y : State := (let y : State := (let y : State := ((ready.set .CMD_PEER_CFG_APPLY 1).set .CMD_PEER_STATUS_DESYNC 0); { y with cmd := { y.cmd with applying := none } }); { y with cmd := { y.cmd with accepting := true } }); { y with cmd := { y.cmd with rxRecords := (⟨1, 0x0101, 16, false⟩) :: ([]) } }).set .CMD_PEER_CFG_ROLE 0).set .CMD_PEER_RX_RX_TAIL 64), by decide +kernel⟩,
    ⟨⟨2, 0x0101, 16, true⟩, [], (((let y : State := (let y : State := (let y : State := ((ready.set .CMD_PEER_CFG_APPLY 1).set .CMD_PEER_STATUS_DESYNC 0); { y with cmd := { y.cmd with applying := none } }); { y with cmd := { y.cmd with accepting := true } }); { y with cmd := { y.cmd with rxRecords := (⟨2, 0x0101, 16, true⟩) :: ([]) } }).set .CMD_PEER_CFG_ROLE 0).set .CMD_PEER_RX_RX_TAIL 64), by decide +kernel⟩,
    ⟨⟨1, 0x0101, 16, true⟩, [], (((let y : State := (let y : State := (let y : State := ((ready.set .CMD_PEER_CFG_APPLY 1).set .CMD_PEER_STATUS_DESYNC 0); { y with cmd := { y.cmd with applying := none } }); { y with cmd := { y.cmd with accepting := true } }); { y with cmd := { y.cmd with rxRecords := (⟨1, 0x0101, 16, true⟩) :: ([]) } }).set .CMD_PEER_CFG_ROLE 0).set .CMD_PEER_RX_RX_TAIL 64), by decide +kernel⟩,
    ⟨ready, _, by decide +kernel, rfl, by decide +kernel⟩,
    ⟨(ready.start .peerRead), _, by decide +kernel, rfl, by decide +kernel⟩,
    ⟨(ready.start .peerPoll), by decide +kernel⟩,
    ⟨(let y : State := (ready.start .peerRead); { y with now := (50 * uMs) }), by decide +kernel⟩,
    ⟨ready, by decide +kernel⟩⟩

/-- The hypotheses of `Obligations.EmptyQueueLetsACyclePass` are met. -/
theorem witness_EmptyQueueLetsACyclePass :
    (∃ (s : State), s.pending = [] ∧ s.get .TIME_SEL_CLK10M_EN ≠ 1) :=
    ⟨(ready.set .TIME_SEL_CLK10M_EN 0), by decide +kernel⟩

/-- The hypotheses of `Obligations.StepKeepsRegistersSound` are met. -/
theorem witness_StepKeepsRegistersSound :
    (∃ (s : State) (t : State), RegInv s ∧ step s = .next t) :=
    ⟨ready, (tick ready), regInv_ready, rfl⟩

/-- The hypotheses of `Obligations.DirectWritesFollowAccessCodes` are met. -/
theorem witness_DirectWritesFollowAccessCodes :
    (∃ (off : Nat) (v : Nat) (s : State) (t : State) (f : Fld), Next (.registerWrite off v) s t ∧ ((s.get .PWR_STATE_STATE ≠ 4 ∨ ∀ p ∈ fieldsAt off, p.1 ≠ .CMD_FN_SUB_TAIL ∧ p.1 ≠ .CORE_FN_SUB_TAIL)) ∧ f ∉ [Fld.CMD_FN_SUB_HEAD, .CMD_FN_CPL_TAIL, .CMD_FN_BUSY, .CMD_FN_SUB_TAIL, .CMD_FN_CPL_HEAD, .CMD_FN_ENABLE, .CMD_FN_SUB_BASE, .CMD_FN_CPL_BASE, .CMD_FN_SUB_SIZE_LOG2, .CMD_FN_CPL_SIZE_LOG2] ∧ (f.row.acc = .ro ∨ f.row.acc = .cw)) ∧
    (∃ (off : Nat) (v : Nat) (s : State) (t : State) (f : Fld) (i : Nat) (j : Nat), Next (.registerWrite off v) s t ∧ ((s.get .PWR_STATE_STATE ≠ 4 ∨ ∀ p ∈ fieldsAt off, p.1 ≠ .CMD_FN_SUB_TAIL ∧ p.1 ≠ .CORE_FN_SUB_TAIL)) ∧ f ∉ [Fld.CMD_FN_SUB_HEAD, .CMD_FN_CPL_TAIL, .CMD_FN_BUSY, .CMD_FN_SUB_TAIL, .CMD_FN_CPL_HEAD, .CMD_FN_ENABLE, .CMD_FN_SUB_BASE, .CMD_FN_CPL_BASE, .CMD_FN_SUB_SIZE_LOG2, .CMD_FN_CPL_SIZE_LOG2] ∧ (f, i, j) ∉ fieldsAt off) ∧
    (∃ (off : Nat) (v : Nat) (s : State) (t : State) (f : Fld) (i : Nat) (j : Nat), Next (.registerWrite off v) s t ∧ ((s.get .PWR_STATE_STATE ≠ 4 ∨ ∀ p ∈ fieldsAt off, p.1 ≠ .CMD_FN_SUB_TAIL ∧ p.1 ≠ .CORE_FN_SUB_TAIL)) ∧ f ∉ [Fld.CMD_FN_SUB_HEAD, .CMD_FN_CPL_TAIL, .CMD_FN_BUSY, .CMD_FN_SUB_TAIL, .CMD_FN_CPL_HEAD, .CMD_FN_ENABLE, .CMD_FN_SUB_BASE, .CMD_FN_CPL_BASE, .CMD_FN_SUB_SIZE_LOG2, .CMD_FN_CPL_SIZE_LOG2] ∧ f.row.acc = .rw ∧ (f, i, j) ∈ fieldsAt off ∧ off % 8 = 0) ∧
    (∃ (off : Nat) (v : Nat) (s : State) (t : State) (f : Fld) (i : Nat) (j : Nat), Next (.registerWrite off v) s t ∧ ((s.get .PWR_STATE_STATE ≠ 4 ∨ ∀ p ∈ fieldsAt off, p.1 ≠ .CMD_FN_SUB_TAIL ∧ p.1 ≠ .CORE_FN_SUB_TAIL)) ∧ f ∉ [Fld.CMD_FN_SUB_HEAD, .CMD_FN_CPL_TAIL, .CMD_FN_BUSY, .CMD_FN_SUB_TAIL, .CMD_FN_CPL_HEAD, .CMD_FN_ENABLE, .CMD_FN_SUB_BASE, .CMD_FN_CPL_BASE, .CMD_FN_SUB_SIZE_LOG2, .CMD_FN_CPL_SIZE_LOG2] ∧ f.row.acc = .w1c ∧ (f, i, j) ∈ fieldsAt off ∧ off % 8 = 0 ∧ f.row.w = 1) :=
    ⟨⟨0, 1, ready, (effRegisterWrite 0 1 ready), .SYS_BOOT_PHASE, rfl, by decide +kernel⟩,
    ⟨0, 1, ready, (effRegisterWrite 0 1 ready), .SYS_BOOT_PHASE, 0, 0, rfl, by decide +kernel⟩,
    ⟨0x4000010, 1, ready, (effRegisterWrite 0x4000010 1 ready), .TBL_LEARN_RING_HEAD, 0, 0, rfl, by decide +kernel⟩,
    ⟨0x1000008, 1, ready, (effRegisterWrite 0x1000008 1 ready), .LINE_EVT_STATUS_CAPTURE_DONE, 0, 0, rfl, by decide +kernel⟩⟩

/-- The hypotheses of `Obligations.ReplyHeaderHasItsFields` are met. -/
theorem witness_ReplyHeaderHasItsFields :
    (∃ (r : Reply) (room : Nat), r.op < 2 ^ 16 ∧ r.req.tag < 2 ^ 32 ∧ r.req.user < 2 ^ 8 ∧ r.status < 2 ^ 8 ∧ r.detail < 2 ^ 16 ∧ 8 * (r.data.take (room / 8)).length < 2 ^ 32) :=
    ⟨⟨host, 0x0101, 0, 0, []⟩, 0, by decide +kernel⟩

/-- The hypotheses of `Obligations.CompletionOfACommand` are met. -/
theorem witness_CompletionOfACommand :
    (∃ (q : Req) (r : Result) (s : State), r.state = s ∧ q.src ≠ .peer ∧ q.src ≠ .journal) ∧
    (∃ (q : Req) (r : Result) (s : State), r.state = s ∧ (q.src = .peer ∨ q.src = .journal)) ∧
    (∃ (r : Result) (s : State), r.state = s ∧ s.get .PWR_STATE_STATE ≠ 4) ∧
    (∃ (r : Result) (s : State), r.state = s ∧ s.get .PWR_STATE_STATE = 4) ∧
    (∃ (q : Req) (r : Result) (s : State), r.state = s ∧ (Tab.get [] s.cmd.history q.user).length ≤ 64) ∧
    (∃ (q : Req) (r : Result) (s : State) (u : Nat), r.state = s ∧ u ≠ q.user) :=
    ⟨⟨host, { state := ready }, ready, by decide +kernel⟩,
    ⟨{ host with src := .peer }, { state := ready }, ready, by decide +kernel⟩,
    ⟨{ state := ready }, ready, by decide +kernel⟩,
    ⟨{ state := (ready.set .PWR_STATE_STATE 4) }, (ready.set .PWR_STATE_STATE 4), by decide +kernel⟩,
    ⟨host, { state := ready }, ready, by decide +kernel⟩,
    ⟨host, { state := ready }, ready, 3, by decide +kernel⟩⟩

/-- The hypotheses of `Obligations.CompletionsAreJournalledAndMirrored` are met. -/
theorem witness_CompletionsAreJournalledAndMirrored :
    (∃ (q : Req) (r : Result) (s : State), r.state = s ∧ r.status ≠ 0 ∧ r.status ≠ 1 ∧ q.src ≠ .peer ∧ q.src ≠ .journal) ∧
    (∃ (c : CmdInfo) (q : Req) (r : Result) (s : State), r.state = s ∧ (r.status = 0 ∨ r.status = 1) ∧ c.persist = true ∧ q.src ≠ .journal ∧ storeOpen s = true ∧ s.journal.fill + journalBound q.len ≤ 4096) ∧
    (∃ (c : CmdInfo) (q : Req) (r : Result) (s : State), r.state = s ∧ (r.status = 0 ∨ r.status = 1) ∧ c.persist = true ∧ q.src ≠ .journal ∧ storeOpen s = true ∧ 4096 < s.journal.fill + journalBound q.len ∧ journalBound q.len ≤ 4096 ∧ s.journal.programming = none) ∧
    (∃ (c : CmdInfo) (q : Req) (r : Result) (s : State), r.state = s ∧ (r.status = 0 ∨ r.status = 1) ∧ c.persist = false ∧ q.src ≠ .peer ∧ q.src ≠ .journal ∧ s.get .CMD_PEER_CFG_ENABLE = 1 ∧ s.get .CMD_PEER_CFG_ROLE = 1 ∧ bit (s.get .CMD_PEER_CFG_FAMILY_MASK) (c.op / 256) = true ∧ s.cmd.mirrorBytes + (16 + (16 + q.len + 15) / 16 * 16) ≤ 4194304) ∧
    (∃ (c : CmdInfo) (q : Req) (r : Result) (s : State), r.state = s ∧ (r.status = 0 ∨ r.status = 1) ∧ c.persist = false ∧ q.src ≠ .peer ∧ q.src ≠ .journal ∧ s.get .CMD_PEER_CFG_ENABLE = 1 ∧ s.get .CMD_PEER_CFG_ROLE = 1 ∧ bit (s.get .CMD_PEER_CFG_FAMILY_MASK) (c.op / 256) = true ∧ 4194304 < s.cmd.mirrorBytes + (16 + (16 + q.len + 15) / 16 * 16)) :=
    ⟨⟨host, { state := ready, status := 3 }, ready, by decide +kernel⟩,
    ⟨{ op := 0x0101, persist := true }, host, { state := (ready.set .STORE_STATUS_OPEN 1) }, (ready.set .STORE_STATUS_OPEN 1), by decide +kernel⟩,
    ⟨{ op := 0x0101, persist := true }, host, { state := journalS }, journalS, by decide +kernel⟩,
    ⟨{ op := 0x0101 }, host, { state := (ready.setAll [(.CMD_PEER_CFG_ENABLE, 1), (.CMD_PEER_CFG_ROLE, 1), (.CMD_PEER_CFG_FAMILY_MASK, 65535)]) }, (ready.setAll [(.CMD_PEER_CFG_ENABLE, 1), (.CMD_PEER_CFG_ROLE, 1), (.CMD_PEER_CFG_FAMILY_MASK, 65535)]), by decide +kernel⟩,
    ⟨{ op := 0x0101 }, host, { state := ((ready.setCmd (fun c => { c with mirrorBytes := 4194304 })).setAll [(.CMD_PEER_CFG_ENABLE, 1), (.CMD_PEER_CFG_ROLE, 1), (.CMD_PEER_CFG_FAMILY_MASK, 65535)]) }, ((ready.setCmd (fun c => { c with mirrorBytes := 4194304 })).setAll [(.CMD_PEER_CFG_ENABLE, 1), (.CMD_PEER_CFG_ROLE, 1), (.CMD_PEER_CFG_FAMILY_MASK, 65535)]), by decide +kernel⟩⟩

/-- The hypotheses of `Obligations.FailedChecksRejectEveryCommand` are met. -/
theorem witness_FailedChecksRejectEveryCommand :
    (∃ (i : Instr) (s : State) (c : CmdInfo) (q : Req) (st : Nat), commandOf i s = some (c, q) ∧ heldBack c s = false ∧ gate c q s = some st) ∧
    (∃ (i : Instr) (s : State) (c : CmdInfo) (q : Req), commandOf i s = some (c, q) ∧ heldBack c s = true) ∧
    (∃ (q : Req), srcAssigns q.src q.user = false) ∧
    (∃ (c : CmdInfo) (q : Req), srcAssigns q.src q.user = true ∧ (c.phys = true ∧ q.user ≠ 0 ∨ q.src = .peldel ∧ c.pel = false)) ∧
    (∃ (c : CmdInfo) (q : Req) (s : State), srcAssigns q.src q.user = true ∧ (c.phys = true → q.user = 0) ∧ (q.src = .peldel → c.pel = true) ∧ s.cmd.accepting = false ∧ q.src ≠ .journal ∧ c.op ≠ 0x0201) ∧
    (∃ (c : CmdInfo) (q : Req) (s : State), srcAssigns q.src q.user = true ∧ (c.phys = true → q.user = 0) ∧ (q.src = .peldel → c.pel = true) ∧ (s.inRescue = true ∨ s.safe = true) ∧ c.rescue = false) ∧
    (∃ (c : CmdInfo) (q : Req) (s : State), srcAssigns q.src q.user = true ∧ (c.phys = true → q.user = 0) ∧ (q.src = .peldel → c.pel = true) ∧ c.modes.admits s = false) ∧
    (∃ (c : CmdInfo) (q : Req) (s : State), srcAssigns q.src q.user = true ∧ (c.phys = true → q.user = 0) ∧ (q.src = .peldel → c.pel = true) ∧ s.cmd.accepting = true ∧ ((s.inRescue = true ∨ s.safe = true → c.rescue = true)) ∧ c.modes.admits s = true) :=
    ⟨⟨.sysNop host, State.reset, ciSysNop, host, stState, by decide +kernel⟩,
    ⟨.sysNop host, (ready.set .PWR_STATE_STATE 4), ciSysNop, host, by decide +kernel⟩,
    ⟨{ host with user := 1 }, by decide +kernel⟩,
    ⟨{ op := 0x0101 }, { host with src := .ring 1, user := 1 }, by decide +kernel⟩,
    ⟨({ op := 0x0101 } : CmdInfo), host, State.reset, by decide +kernel⟩,
    ⟨({ op := 0x0101 } : CmdInfo), host, (ready.set .FLT_STATUS_SAFE 1), by decide +kernel⟩,
    ⟨({ op := 0x0101, modes := .maint } : CmdInfo), host, ready, by decide +kernel⟩,
    ⟨({ op := 0x0101 } : CmdInfo), host, (let y : State := ready; { y with cmd := { y.cmd with accepting := true } }), by decide +kernel⟩⟩

/-- The hypotheses of `Obligations.SafeStateAdmitsOnlyRescueCommands` are met. -/
theorem witness_SafeStateAdmitsOnlyRescueCommands :
    (∃ (i : Instr) (s : State) (c : CmdInfo) (q : Req), commandOf i s = some (c, q) ∧ s.get .FLT_STATUS_SAFE = 1 ∧ heldBack c s = false ∧ c.rescue = false ∧ srcAssigns q.src q.user = true ∧ (c.phys = true → q.user = 0) ∧ (q.src = .peldel → c.pel = true)) ∧
    (∃ (i : Instr) (s : State) (c : CmdInfo) (q : Req), commandOf i s = some (c, q) ∧ s.get .FLT_STATUS_SAFE = 1 ∧ c.rescue = true) :=
    ⟨⟨.timeSelect host 0, (ready.set .FLT_STATUS_SAFE 1), ciTimeSelect, host, by decide +kernel⟩,
    ⟨.sysNop host, (ready.set .FLT_STATUS_SAFE 1), ciSysNop, host, by decide +kernel⟩⟩

/-- The hypotheses of `Obligations.DeepModesAwaitTheNextBoot` are met. -/
theorem witness_DeepModesAwaitTheNextBoot :
    (∃ (q : Req) (m : Nat) (s : State), takenAtomic ciSysMode q s = true ∧ m ≤ 5 ∧ (m = 4 → rateTotal s ≤ 8)) ∧
    (∃ (q : Req) (m : Nat) (x : Option (Nat × Nat)) (rest : List Staged) (s : State) (t : State), s.cmd.staged = ⟨q, 0x0104, ciSysMode.parts, true, .mode m, []⟩ :: rest ∧ t = s.setCmd (fun c => { c with staged := rest }) ∧ refusals ⟨q, 0x0104, ciSysMode.parts, true, .mode m, []⟩ x t = [] ∧ m ≤ 5 ∧ m ≠ s.mode ∧ (m = 3 ∨ m = 5 ∨ s.mode = 3 ∨ s.mode = 5)) ∧
    (∃ (q : Req) (m : Nat) (x : Option (Nat × Nat)) (rest : List Staged) (s : State) (t : State), s.cmd.staged = ⟨q, 0x0104, ciSysMode.parts, true, .mode m, []⟩ :: rest ∧ t = s.setCmd (fun c => { c with staged := rest }) ∧ refusals ⟨q, 0x0104, ciSysMode.parts, true, .mode m, []⟩ x t = [] ∧ m ≤ 5 ∧ m = s.mode ∧ s.get .PWR_MODE_CHANGING ≠ 1) ∧
    (∃ (recs : List JRec) (r : JRec) (s : State), r ∈ recs ∧ r.kind = 1 ∧ r.op = 0x0104 ∧ s.get .PWR_MODE_PENDING_VALID = 1 ∧ s.get .PWR_MODE_PENDING < 8) ∧
    (∃ (b : BootIn) (m : Nat) (s : State) (t : State), s.get .SYS_BOOT_PHASE = 7 ∧ s.pins.sysReset = true ∧ s.inRescue = false ∧ s.store.nand.mode = m + 1 ∧ m ≤ 5 ∧ s.power.request ≠ some 2 ∧ Next (.bootPhase b) s t) :=
    ⟨⟨host, 4, ready, by decide +kernel⟩,
    ⟨host, 5, none, [], (let y : State := ready; { y with cmd := { y.cmd with staged := ⟨host, 0x0104, ciSysMode.parts, true, .mode 5, []⟩ :: ([]) } }), _, by decide +kernel, rfl, by decide +kernel⟩,
    ⟨host, 2, none, [], ((ready.set .PWR_MODE_CURRENT 2).setCmd (fun c => { c with staged := [⟨host, 0x0104, ciSysMode.parts, true, .mode 2, []⟩] })), _, by decide +kernel, rfl, by decide +kernel⟩,
    ⟨[⟨1, 0, 0x0104, [], 0, 0⟩], ⟨1, 0, 0x0104, [], 0, 0⟩, (ready.set .PWR_MODE_PENDING_VALID 1), by decide +kernel⟩,
    ⟨⟨[], [], [], []⟩, 5, dmS, (effBootPhase ⟨[], [], [], []⟩ dmS), by decide +kernel, by decide +kernel, by decide +kernel, (by decide +kernel), by decide +kernel, by decide +kernel, rfl⟩⟩

/-- The hypotheses of `Obligations.GuardReleaseIsAllOrNothing` are met. -/
theorem witness_GuardReleaseIsAllOrNothing :
    (∃ (q : Req) (n : Nat) (causes : Nat) (s : State), n < 4 ∧ causes < 32 ∧ takenUp (ciTreeGuardRelease n) q s = true ∧ s.get .LINE_BAY_LATCHED n < 32 ∧ ((s.get .LINE_BAY_LATCHED n &&& causes) = causes ∧ (s.get .LINE_BAY_PRESENT n &&& causes) = 0)) ∧
    (∃ (q : Req) (n : Nat) (causes : Nat) (s : State), n < 4 ∧ causes < 32 ∧ takenUp (ciTreeGuardRelease n) q s = true ∧ s.get .LINE_BAY_LATCHED n < 32 ∧ (¬((s.get .LINE_BAY_LATCHED n &&& causes) = causes ∧ (s.get .LINE_BAY_PRESENT n &&& causes) = 0))) ∧
    (∃ (n : Nat) (s : State), n < 4 ∧ s.get .LINE_BAY_LATCHED n < 32 ∧ bit (s.get .LINE_BAY_LATCHED n) 2 = true ∧ s.get .LINE_TREE_CFG_AUTO_RELEASE_SYNC n = 1) ∧
    (∃ (n : Nat) (s : State), n < 4 ∧ s.get .LINE_BAY_LATCHED n < 32 ∧ bit (s.get .LINE_BAY_LATCHED n) 2 = true ∧ s.get .LINE_TREE_CFG_AUTO_RELEASE_SYNC n ≠ 1) :=
    ⟨⟨host, 0, 0, ready, by decide +kernel⟩,
    ⟨host, 0, 31, ready, by decide +kernel⟩,
    ⟨0, ((ready.set .LINE_TREE_CFG_AUTO_RELEASE_SYNC 1 0).set .LINE_BAY_LATCHED 31), by decide +kernel⟩,
    ⟨0, ((ready.set .LINE_TREE_CFG_AUTO_RELEASE_SYNC 0 0).set .LINE_BAY_LATCHED 31), by decide +kernel⟩⟩

/-- The hypotheses of `Obligations.RangingTimerRuns` are met. -/
theorem witness_RangingTimerRuns :
    (∃ (n : Nat), n < 4) ∧
    (∃ (a : FieldAt) (m : TreeMsg) (s : State), goodMessage a (· == 3) m s ∧ m.bcast = false ∧ m.blen = 13 ∧ s.tree a.port = tsRanging ∧ bit (field m.body 12 1) 0 = false) ∧
    (∃ (n : Fin 4) (at_ : Nat) (s : State), s.tree n = tsRanging ∧ s.timer (.ranging n) = some at_ ∧ at_ + s.get .LINE_TREE_TIMERS_RANGING_TIMEOUT n * 10 * uMs ≤ s.now ∧ (s.term n).afterOutage = false) ∧
    (∃ (n : Fin 4) (at_ : Nat) (s : State), s.tree n = tsRanging ∧ s.timer (.ranging n) = some at_ ∧ at_ + s.get .LINE_TREE_TIMERS_RANGING_TIMEOUT n * 10 * uMs ≤ s.now ∧ (s.term n).afterOutage = true) ∧
    (∃ (n : Fin 4) (at_ : Nat) (s : State), s.tree n = tsRanging ∧ s.timer (.ranging n) = some at_ ∧ s.now < at_ + s.get .LINE_TREE_TIMERS_RANGING_TIMEOUT n * 10 * uMs) :=
    ⟨⟨0, by decide +kernel⟩,
    ⟨fldM, msgOf (msgField 3 false 13 []), ((fieldS 32 (msgField 3 false 13 [])).set .LINE_TREE_STATE_STATE tsRanging 0), by unfold goodMessage; decide +kernel, by decide +kernel⟩,
    ⟨0, 0, (let y : State := (((ready.set .LINE_TREE_STATE_STATE tsRanging 0).start (.ranging 0)).setTerm 0 (fun y => { y with afterOutage := false })); { y with now := 0 + ready.get .LINE_TREE_TIMERS_RANGING_TIMEOUT 0 * 10 * uMs }), by decide +kernel⟩,
    ⟨0, 0, (let y : State := (((ready.set .LINE_TREE_STATE_STATE tsRanging 0).start (.ranging 0)).setTerm 0 (fun y => { y with afterOutage := true })); { y with now := 0 + ready.get .LINE_TREE_TIMERS_RANGING_TIMEOUT 0 * 10 * uMs }), by decide +kernel⟩,
    ⟨0, 0, ((ready.set .LINE_TREE_STATE_STATE tsRanging 0).start (.ranging 0)), by decide +kernel⟩⟩

end Sys2Proof.Tests
end

/-! ## What a step can make of the register file, the counters and the queue -/

namespace Sys2Proof.Machine

open Sys2Proof

/-- What the block's operations make of a state, as far as its registers, counters and waiting commands go: a field is written, a counter
rises, something beside them changes, or a device reset starts the block afresh (R435, R436). -/
inductive Evolves (s : State) : State → Prop
  | refl : Evolves s s
  | set {t : State} {f : Fld} {v i j : Nat} : Evolves s t → Evolves s (t.set f v i j)
  | bump {t : State} {c : Ctr} {n i j : Nat} : Evolves s t → Evolves s (t.bump c n i j)
  | beside {t u : State} : Evolves s t → u.regs = t.regs → u.ctrs = t.ctrs → u.pending = t.pending → Evolves s u
  | afresh {t u : State} : Evolves s t → u.regs = [] → u.ctrs = [] → u.pending = t.pending → Evolves s u

/-- A row completes, with a state that its operations make of s. -/
def Runs (s : State) (o : Host.Outcome State Fault Refusal) : Prop := ∃ t, o = .next t ∧ Evolves s t

/-!
One lemma per operation of the model, named after it and in the model's order: what evolves from s still does after the operation. The
lemma of an operation that takes the step of a loop or the body of a command asks the same of that step or body (`hf`). A lemma takes the
operation's `let`s out (`extract_lets`) and says of each state that they name that it evolves; `fst`, `snd` and `res` find the state in what
an operation answers beside it.
-/

section
variable {s t : State}

/-- Nothing that a command does takes another one from the queue or adds one. -/
theorem Evolves.pending_eq (h : Evolves s t) : t.pending = s.pending := by
  induction h with
  | refl => rfl
  | set _ ih | bump _ ih => exact ih
  | beside _ _ _ hp ih | afresh _ _ _ hp ih => exact hp.trans ih

theorem Fld.row_reset_lt (f : Fld) : f.row.reset < 2 ^ f.row.w := by
  cases f <;> decide

/-- The reset values of FLT_ACTION's two fields fit 2 bits. -/
theorem actionReset_lt (i : Nat) : [0, 0, 1, 1, 1, 2, 3, 3, 3, 0, 0, 0, 0, 0, 3, 0].getD i 0 < 2 ^ 2 := by
  rcases Nat.lt_or_ge i 16 with h | h
  · decide +revert
  · rw [List.getD_eq_default _ _ h]; decide

/-- A reset value fits its field (R4). -/
theorem Fld.resetAt_lt (f : Fld) (i j : Nat) : f.resetAt i j < 2 ^ f.row.w := by
  have ite_lt : ∀ {c : Prop} [Decidable c] {a b n : Nat}, a < n → b < n → (if c then a else b) < n := fun ha hb => by
    split <;> assumption
  unfold Fld.resetAt
  split
  case h_1 => exact Nat.mod_lt _ (by decide)
  case h_2 => exact Nat.pow_lt_pow_right (by decide) (Nat.mod_lt _ (by decide))
  case h_3 => decide
  case h_4 | h_5 | h_6 | h_7 | h_8 => exact ite_lt (by decide) (by decide)
  case h_9 => exact ite_lt (by decide) (ite_lt (by decide) (ite_lt (by decide) (ite_lt (by decide) (by decide))))
  case h_10 | h_11 => exact actionReset_lt i
  case h_12 => exact f.row_reset_lt

/-- An empty register file and counters at 0 are sound. -/
theorem regInv_of_empty (hr : t.regs = []) (hc : t.ctrs = []) : RegInv t where
  regsSorted := by rw [hr]; rfl
  ctrsSorted := by rw [hc]; rfl
  regsLean := by simp [hr]
  ctrsLean := by simp [hc]
  width f i j := by
    simp only [State.get, hr, Tab.get]
    exact f.resetAt_lt i j
  stop c i j := by simp [State.ctr, hc, Tab.get]

/-- Whatever the block's operations make of a sound state is sound. -/
theorem Evolves.regInv (h : Evolves s t) (hs : RegInv s) : RegInv t := by
  induction h with
  | refl => exact hs
  | set _ ih => exact ih.set _ _ _ _
  | bump _ ih => exact ih.bump _ _ _ _
  | beside _ hr hc _ ih => exact ih.of_eq hr hc
  | afresh _ hr hc _ _ => exact regInv_of_empty hr hc

theorem Evolves.ite {c : Prop} {inst : Decidable c} {a b : State} (ha : Evolves s a) (hb : Evolves s b) :
    Evolves s (if c then a else b) := by split <;> assumption

theorem Evolves.foldl {β : Type} {f : State → β → State} {l : List β} (h : Evolves s t)
    (hf : ∀ t b, Evolves s t → Evolves s (f t b)) : Evolves s (l.foldl f t) := by
  induction l generalizing t with
  | nil => exact h
  | cons b r ih => exact ih (hf t b h)

/-- A fold over pairs of a state and what it gathers. -/
theorem Evolves.foldlFst {α β : Type} {f : State × α → β → State × α} {l : List β} {p : State × α} (h : Evolves s p.1)
    (hf : ∀ p b, Evolves s p.1 → Evolves s (f p b).1) : Evolves s (l.foldl f p).1 := by
  induction l generalizing p with
  | nil => exact h
  | cons b r ih => exact ih (hf p b h)

theorem Evolves.fst {α : Type} {a : α} (h : Evolves s t) : Evolves s (t, a).1 := h
theorem Evolves.snd {α : Type} {a : α} (h : Evolves s t) : Evolves s (a, t).2 := h
theorem Evolves.res {st d : Nat} {data : List Nat} (h : Evolves s t) : Evolves s (Result.mk t st d data).state := h

theorem Evolves.ofFst {α : Type} {p : State × α} {a : α} (hp : Evolves s p.1) (e : p = (t, a)) : Evolves s t := by
  rw [e] at hp; exact hp

theorem Evolves.ofSnd {α : Type} {p : α × State} {a : α} (hp : Evolves s p.2) (e : p = (a, t)) : Evolves s t := by
  rw [e] at hp; exact hp

/-! ### Ops -/

theorem Evolves.setI {f v i j} (h : Evolves s t) : Evolves s (t.setI f v i j) := h.set
theorem Evolves.setAll {l i j} (h : Evolves s t) : Evolves s (t.setAll l i j) := h.foldl fun _ _ h => h.set
theorem Evolves.inc {c i j} (h : Evolves s t) : Evolves s (t.inc c i j) := h.bump
theorem Evolves.raise {code ws tail} (h : Evolves s t) : Evolves s (t.raise code ws tail) := .beside h rfl rfl rfl
theorem Evolves.emit {o} (h : Evolves s t) : Evolves s (t.emit o) := .beside h rfl rfl rfl
theorem Evolves.msix {fn vector} (h : Evolves s t) : Evolves s (t.msix fn vector) := h.emit

theorem Evolves.irq {status enable vector i} (h : Evolves s t) : Evolves s (t.irq status enable vector i) := by
  unfold State.irq
  extract_lets t1
  have h1 : Evolves s t1 := h.set
  exact .ite h1.msix h1

theorem Evolves.when {c} {f : State → State} (h : Evolves s t) (hf : ∀ t, Evolves s t → Evolves s (f t)) : Evolves s (t.when c f) := by
  unfold State.when
  exact .ite (hf _ h) h

theorem Evolves.took (h : Evolves s t) : Evolves s t.took := .beside h rfl rfl rfl
theorem Evolves.start {t'} (h : Evolves s t) : Evolves s (t.start t') := .beside h rfl rfl rfl
theorem Evolves.stop {t'} (h : Evolves s t) : Evolves s (t.stop t') := .beside h rfl rfl rfl

theorem Evolves.hostWrite {u addr ws} (h : Evolves s t) : Evolves s (hostWrite u addr ws t) := by
  unfold Machine.hostWrite
  exact .ite h.emit h.inc

theorem Evolves.setLine {n f} (h : Evolves s t) : Evolves s (t.setLine n f) := .beside h rfl rfl rfl
theorem Evolves.setFrame {n f} (h : Evolves s t) : Evolves s (t.setFrame n f) := .beside h rfl rfl rfl
theorem Evolves.setTerm {n f} (h : Evolves s t) : Evolves s (t.setTerm n f) := .beside h rfl rfl rfl

theorem Evolves.undoze {c} (h : Evolves s t) : Evolves s (undoze c t) := by
  unfold Machine.undoze
  exact .ite h.set h

theorem Evolves.setCmd {f} (h : Evolves s t) : Evolves s (t.setCmd f) := .beside h rfl rfl rfl

/-! ### Operands -/

theorem Evolves.wApply {e} (h : Evolves s t) : Evolves s (wApply t e) := h.foldl fun _ _ h => h.set
theorem Evolves.wApplyAll {es} (h : Evolves s t) : Evolves s (wApplyAll t es) := h.foldl fun _ _ h => h.wApply

theorem Evolves.directWrite {value p} (h : Evolves s t) : Evolves s (directWrite value t p) := by
  unfold Machine.directWrite
  extract_lets
  split
  · split
    · exact h.when fun _ h => h.set
    · exact h.when fun _ h => h.set
    · exact h.when fun _ h => h.set
    · exact h.when fun _ h => h.set
    · exact h.set
  · exact .ite h.set h
  · exact h

/-! ### NandOps -/

theorem Evolves.setStore {f} (h : Evolves s t) : Evolves s (t.setStore f) := .beside h rfl rfl rfl
theorem Evolves.setNand {f} (h : Evolves s t) : Evolves s (t.setNand f) := h.setStore
theorem Evolves.devShow {dev} (h : Evolves s t) : Evolves s (devShow dev t) := h.setAll.set
theorem Evolves.blockErased {dev block} (h : Evolves s t) : Evolves s (blockErased dev block t) := h.inc.setNand.devShow
theorem Evolves.startOp {o kind} (h : Evolves s t) : Evolves s (startOp o kind t) := h.setStore.emit

theorem Evolves.programNext {area task} (h : Evolves s t) : Evolves s (programNext area task t) := by
  unfold Machine.programNext
  extract_lets _ _ t1
  have h1 : Evolves s t1 := h.setNand
  split
  extract_lets t2
  have h2 : Evolves s t2 := .ite h1.blockErased h1
  exact h2.startOp

/-! ### Jadex -/

theorem Evolves.journalPut {kind op keys first bytes} (h : Evolves s t) : Evolves s (journalPut kind op keys first bytes t) := by
  unfold Machine.journalPut
  extract_lets _ _ t1 t2
  have h1 : Evolves s t1 := .beside h rfl rfl rfl
  have h2 : Evolves s t2 := .beside h rfl rfl rfl
  refine .ite h ?_
  refine .ite ?_ h2.start.programNext
  exact .ite h1.start h1

theorem Evolves.journalAdd {kind op keys bytes esz} (h : Evolves s t) : Evolves s (journalAdd kind op keys bytes esz t) :=
  h.foldl fun _ _ h => h.journalPut

theorem Evolves.mirrorAdd {op len} (h : Evolves s t) : Evolves s (mirrorAdd op len t) := by
  unfold Machine.mirrorAdd
  extract_lets
  refine .ite ?_ h
  exact .ite h.setCmd h.setCmd.set.raise

theorem Evolves.historyAdd {user tag op status detail} (h : Evolves s t) : Evolves s (historyAdd user tag op status detail t) := by
  unfold Machine.historyAdd
  exact h.setCmd

theorem Evolves.peerDone {status} (h : Evolves s t) : Evolves s (peerDone status t) := by
  unfold Machine.peerDone
  extract_lets t1
  have h1 : Evolves s t1 := h.inc
  exact .ite h1.setCmd h1.setCmd.set.raise

theorem Evolves.replayDone {op status seq} (h : Evolves s t) : Evolves s (replayDone op status seq t) := by
  unfold Machine.replayDone
  exact .ite h h.inc.raise

theorem Evolves.complete {c q keys failed} {r : Result} (h : Evolves s r.state) : Evolves s (complete c q keys failed r) := by
  unfold Machine.complete
  extract_lets t1 _ _ t2 t3
  have h1 : Evolves s t1 := h.inc.historyAdd
  have h2 : Evolves s t2 := .ite h1.journalAdd h1
  have h3 : Evolves s t3 := .ite h2.mirrorAdd h2
  split
  · exact h3.peerDone
  · exact h3.replayDone
  · exact h3.setCmd

theorem Evolves.reject {c q status detail} (h : Evolves s t) : Evolves s (reject c q status detail t) := h.complete

theorem Evolves.checked {c q unit param} {body : State → State} (h : Evolves s t) (hf : ∀ t, Evolves s t → Evolves s (body t)) :
    Evolves s (checked c q unit param body t) := by
  unfold Machine.checked
  refine .ite h ?_
  split
  · exact h.reject
  · split
    · exact h.reject
    · split
      · exact h.reject
      · split
        · exact h.reject
        · refine .ite h.reject ?_
          exact .ite h.reject (hf _ h)

theorem Evolves.single {c q keys unit param} {body : State → Result} (h : Evolves s t) (hf : ∀ t, Evolves s t → Evolves s (body t).state) :
    Evolves s (single c q keys unit param body t) :=
  h.checked fun _ h => .complete (hf _ h)

theorem Evolves.writeCmd {c q allow es} (h : Evolves s t) : Evolves s (writeCmd c q allow es t) := h.single fun _ h => h.wApplyAll

theorem Evolves.applyEach {α : Type} {step : State → α → State × Nat} {es : List α} (h : Evolves s t)
    (hf : ∀ t e, Evolves s t → Evolves s (step t e).1) : Evolves s (applyEach step t es).1 := by
  induction es generalizing t with
  | nil => exact h
  | cons e r ih => exact ih (hf t e h)

theorem Evolves.bestEffort {α : Type} {c q keys unit param} {step : State → α → State × Nat} {es} (h : Evolves s t)
    (hf : ∀ t a1, Evolves s t → Evolves s (step t a1).1) :
    Evolves s (bestEffort c q keys unit param step es t) :=
  h.checked fun _ h => by
    split
    next u1 _ e =>
      have h1 : Evolves s u1 := .ofFst (h.applyEach fun _ _ h => hf _ _ h) e
      extract_lets
      split <;> exact .complete (.res h1)

theorem Evolves.atomicCmd {c q unit param act} (h : Evolves s t) : Evolves s (atomicCmd c q unit param act t) := by
  unfold Machine.atomicCmd
  exact .ite h (h.checked fun _ h => h.setCmd)

/-! ### StoreOps -/

theorem Evolves.anchorShow (h : Evolves s t) : Evolves s (anchorShow t) := by
  unfold Machine.anchorShow
  split
  · exact h
  · exact h.setAll

theorem Evolves.pagesRead {n} (h : Evolves s t) : Evolves s (pagesRead n t) := h.bump.bump

theorem Evolves.anchorWrite {f ev} (h : Evolves s t) : Evolves s (anchorWrite f ev t) := by
  unfold Machine.anchorWrite
  extract_lets _ _ _ _ t1
  have h1 : Evolves s t1 := .ite h h.blockErased
  split
  · exact h
  · exact h1.setNand.startOp

theorem Evolves.remap {dev lb} (h : Evolves s t) : Evolves s (remap dev lb t) := by
  unfold Machine.remap
  split
  · exact h
  · extract_lets t1 t2 t3
    have h1 : Evolves s t1 := h.setNand
    have h2 : Evolves s t2 := .ite h1.raise h1
    have h3 : Evolves s t3 := h2.devShow
    exact .ite h3.anchorWrite h3.journalAdd

theorem Evolves.retireBlock {dev block why} (h : Evolves s t) : Evolves s (retireBlock dev block why t) := by
  unfold Machine.retireBlock
  extract_lets _ lb t1
  have h1 : Evolves s t1 := h.inc.raise.setNand
  unfold lb
  split
  · exact h1.remap
  · exact h1.devShow

theorem Evolves.refreshBlock {dev block} (h : Evolves s t) : Evolves s (refreshBlock dev block t) := by
  unfold Machine.refreshBlock
  split
  · exact h
  · extract_lets
    exact .ite h h.inc.remap.blockErased.setNand.devShow

theorem Evolves.pageRead {dev page e} (h : Evolves s t) : Evolves s (pageRead dev page e t) := by
  unfold Machine.pageRead
  extract_lets _ _ t1 _ _ t2
  have h1 : Evolves s t1 := h.inc.bump.setNand
  have h2 : Evolves s t2 := .ite h1.inc.raise h1
  exact .ite h2.refreshBlock h2

theorem Evolves.levelWear {dev} (h : Evolves s t) : Evolves s (levelWear dev t) := by
  unfold Machine.levelWear
  extract_lets _ _ _ least most
  unfold least most
  split
  · refine .ite ?_ h
    split
    · exact h.setNand.blockErased
    · exact h
  · exact h

theorem Evolves.checkpoint (h : Evolves s t) : Evolves s (checkpoint t) := by
  unfold Machine.checkpoint
  extract_lets _ _ _ _ _ t1
  have h1 : Evolves s t1 := .beside h rfl rfl rfl
  exact .ite h h1.bump.bump

theorem Evolves.journalClose (h : Evolves s t) : Evolves s (journalClose t) := by
  unfold Machine.journalClose
  extract_lets
  exact .ite h (.programNext (.stop (.beside h rfl rfl rfl)))

/-! ### EvtOps -/

theorem Evolves.setEvt {f} (h : Evolves s t) : Evolves s (t.setEvt f) := .beside h rfl rfl rfl

theorem Evolves.evtShow (h : Evolves s t) : Evolves s (evtShow t) := by
  unfold Machine.evtShow
  extract_lets t1 oldest t2
  have h1 : Evolves s t1 := h.set
  have h2 : Evolves s t2 := by
    unfold t2 oldest
    split
    · exact h1
    · exact h1.set
  exact h2.set

theorem Evolves.evtStart {n} (h : Evolves s t) : Evolves s (evtStart n t) := by
  induction n generalizing t with
  | zero => exact h
  | succ n ih =>
    unfold Machine.evtStart
    split
    · exact h
    · exact .ite (ih h.setEvt.programNext) h

theorem Evolves.evtClose (h : Evolves s t) : Evolves s (evtClose t) := by
  unfold Machine.evtClose
  exact .ite h h.setEvt.evtStart

theorem Evolves.evtPut {flags e} (h : Evolves s t) : Evolves s (evtPut flags e t) := by
  unfold Machine.evtPut
  extract_lets _ _ _ _ t1 _ _ t2
  have h1 : Evolves s t1 := .ite h h.evtClose
  have h2 : Evolves s t2 := h1.setEvt.set.inc
  exact .evtShow (.ite h2.evtClose h2)

theorem Evolves.evtLost (h : Evolves s t) : Evolves s (evtLost t) := by
  unfold Machine.evtLost
  extract_lets
  exact .ite h.setEvt.evtPut h

theorem Evolves.evtMake {flags e} (h : Evolves s t) : Evolves s (evtMake flags e t) := by
  unfold Machine.evtMake
  extract_lets t1
  have h1 : Evolves s t1 := h.evtLost
  refine .ite ?_ h
  exact .ite h1.evtPut h1.inc.setEvt

theorem Evolves.recordAll (h : Evolves s t) : Evolves s (recordAll t) := by
  unfold Machine.recordAll
  extract_lets
  exact .ite h (.foldl (.beside h rfl rfl rfl) fun _ _ h => h.evtMake)

theorem Evolves.tailFlush (h : Evolves s t) : Evolves s (tailFlush t) := by
  unfold Machine.tailFlush
  extract_lets t1
  have h1 : Evolves s t1 := h.recordAll
  exact .ite h1 (h1.foldl fun _ _ h => h.programNext.inc)

theorem Evolves.recordNow {e} (h : Evolves s t) : Evolves s (recordNow e t).1 := by
  unfold Machine.recordNow
  extract_lets
  split
  · exact .fst h.recordAll.evtMake
  · exact .fst h.raise

/-! ### TreeOps -/

theorem Evolves.clkShow {domain inst' up} (h : Evolves s t) : Evolves s (clkShow domain inst' up t) := by
  unfold Machine.clkShow
  extract_lets
  split
  · exact h.set
  · exact h.set
  · exact .ite h h.set
  · exact h.set
  · exact h.set
  · exact h.set
  · exact h.set
  · exact h

theorem Evolves.clkBack {codes} (h : Evolves s t) : Evolves s (clkBack codes t) := by
  unfold Machine.clkBack
  extract_lets t1
  have h1 : Evolves s t1 := h.foldl fun _ _ h => h.clkShow
  exact .beside h1 rfl rfl rfl

theorem Evolves.silenceStop {n} (h : Evolves s t) : Evolves s (silenceStop n t) := h.setTerm.set
theorem Evolves.endWait {n} (h : Evolves s t) : Evolves s (endWait n t) := h.stop.setTerm

theorem Evolves.setTree {n new cause} (h : Evolves s t) : Evolves s (setTree n new cause t) := by
  unfold Machine.setTree
  extract_lets _ _ _ t1 t2 t3 t4
  have h1 : Evolves s t1 := h.set.set.raise.when fun _ h => h.silenceStop
  have h2 : Evolves s t2 := h1.when fun _ h => h.setTerm
  have h3 : Evolves s t3 := h2.when fun _ h => h.stop
  have h4 : Evolves s t4 := h3.when fun _ h => h.endWait
  exact h4.when fun _ h => h.setTerm

theorem Evolves.outageEnd {n ms outcome} (h : Evolves s t) : Evolves s (outageEnd n ms outcome t) := h.raise.setTerm
theorem Evolves.txDark {n} (h : Evolves s t) : Evolves s (txDark n t) := h.set.set

theorem Evolves.endInBurst {k sent ok} (h : Evolves s t) : Evolves s (endInBurst k sent ok t) := by
  unfold Machine.endInBurst
  extract_lets
  exact .ite h (.beside h rfl rfl rfl)

theorem Evolves.countStart {k} (h : Evolves s t) : Evolves s (countStart k t) := by
  unfold Machine.countStart
  extract_lets _ _ t1 t2
  have h1 : Evolves s t1 := h.when fun _ h => h.inc
  have h2 : Evolves s t2 := .when (h1.when fun _ h => h.inc) fun _ h => h.inc
  exact .ite (.beside h2 rfl rfl rfl) h

theorem Evolves.cutBurst {b} (h : Evolves s t) : Evolves s (cutBurst b t) := h.foldl fun _ _ h => by
    extract_lets t1
    have h1 : Evolves s t1 := h.when fun _ h => h.countStart
    split
    · exact h1.endInBurst
    · split <;> exact h1.endInBurst

theorem Evolves.giveUp {n b} (h : Evolves s t) : Evolves s (giveUp n t b) := h.bump.cutBurst

theorem Evolves.discardGrants {n} (h : Evolves s t) : Evolves s (discardGrants n t) := by
  unfold Machine.discardGrants
  extract_lets _ t1
  have h1 : Evolves s t1 := h.bump.foldl fun _ _ h => h.giveUp
  exact h1.setTerm

theorem Evolves.burstOut {n b dark} (h : Evolves s t) : Evolves s (burstOut n b dark t) := h.inc.emit

theorem Evolves.cutOff {n ramp} (h : Evolves s t) : Evolves s (cutOff n ramp t) := by
  unfold Machine.cutOff
  extract_lets t1
  have h1 : Evolves s t1 := h.inc.when fun _ h => h.emit
  split
  · exact h
  · extract_lets _ t2
    have h2 : Evolves s t2 := .ite h h1.bump.cutBurst
    exact .ite h2.setTerm h2.setTerm.burstOut.txDark

theorem Evolves.truncateBurst {n} (h : Evolves s t) : Evolves s (truncateBurst n t) := h.cutOff

theorem Evolves.clearIdentity {n} (h : Evolves s t) : Evolves s (clearIdentity n t) := by
  unfold Machine.clearIdentity
  exact h.discardGrants.truncateBurst.setAll.stop.stop.setTerm

theorem Evolves.clearProfiles {n} (h : Evolves s t) : Evolves s (clearProfiles n t) := by
  unfold Machine.clearProfiles
  extract_lets t1
  have h1 : Evolves s t1 := h.clearIdentity.foldl fun _ _ h => h.foldl fun _ _ h => h.set
  exact h1.setTerm

theorem Evolves.silenceStart {n} (h : Evolves s t) : Evolves s (silenceStart n t) := by
  unfold Machine.silenceStart
  extract_lets
  split
  · exact h
  · exact h.setTerm

theorem Evolves.abandonPresence {n} (h : Evolves s t) : Evolves s (abandonPresence n t) := h.stop.setTerm

theorem Evolves.downstreamLoss {n cause} (h : Evolves s t) : Evolves s (downstreamLoss n cause t) := by
  unfold Machine.downstreamLoss
  extract_lets _ _ t1
  have h1 : Evolves s t1 := h.endWait.setTerm.set
  refine .ite h1.abandonPresence.truncateBurst.setTree ?_
  exact .ite h1.silenceStart.truncateBurst.discardGrants.setTree.inc (.ite h1.setTree.inc h1)

theorem Evolves.darkArises {n cause} (h : Evolves s t) : Evolves s (darkArises n cause t) := by
  unfold Machine.darkArises
  extract_lets _ _ t1
  have h1 : Evolves s t1 := h.endWait
  refine .ite h1.abandonPresence.truncateBurst.setTree ?_
  exact .ite h1.silenceStart.discardGrants.truncateBurst.setTree (.ite h1.setTree h1)

theorem Evolves.toRanging {n cause} (h : Evolves s t) : Evolves s (toRanging n cause t) := h.setTree.setTerm.start

theorem Evolves.returnRule {n cause} (h : Evolves s t) : Evolves s (returnRule n cause t) := by
  unfold Machine.returnRule
  extract_lets
  refine .ite ?_ ?_
  · exact .ite h h.setTree
  · refine .ite h.setTerm.start ?_
    exact .ite h.setTerm.toRanging h

theorem Evolves.darkMayEnd {n cause} (h : Evolves s t) : Evolves s (darkMayEnd n cause t) := by
  unfold Machine.darkMayEnd
  exact .ite h.returnRule h

theorem Evolves.depose {n reason seen cause} (h : Evolves s t) : Evolves s (depose n reason seen cause t) := by
  unfold Machine.depose
  extract_lets _ _ _ t1
  have h1 : Evolves s t1 := h.clearProfiles.setTree.raise.inc.setTerm
  exact .ite h1.setTree h1

theorem Evolves.bayRelease {n causes cause} (h : Evolves s t) : Evolves s (bayRelease n causes cause t) := h.set.set.raise.darkMayEnd

theorem Evolves.bayTripOn {n k} (h : Evolves s t) : Evolves s (bayTripOn n k t) := by
  unfold Machine.bayTripOn
  extract_lets
  exact .ite h h.set.set.cutOff.txDark.inc.raise.darkArises

theorem Evolves.bayPresent {n k present} (h : Evolves s t) : Evolves s (bayPresent n k present t) := h.set

theorem Evolves.controlSynced {n cause} (h : Evolves s t) : Evolves s (controlSynced n cause t) := by
  unfold Machine.controlSynced
  extract_lets _ _ t1
  have h1 : Evolves s t1 := h.setTerm.bayPresent.stop.setLine.when fun _ h => h.bayRelease
  exact .ite h1.returnRule (.ite h1.returnRule h1)

/-! ### BurstOps -/

theorem Evolves.takeOut {n k with_} (h : Evolves s t) : Evolves s (takeOut n k with_ t) := by
  unfold Machine.takeOut
  extract_lets
  split
  · exact h
  · extract_lets
    split
    · exact h
    · split
      exact .foldl (h.setTerm.bump.foldl fun _ _ h => .beside h rfl rfl rfl) fun _ _ h => h.endInBurst

theorem Evolves.withdraw {n k} (h : Evolves s t) : Evolves s (withdraw n k t) := h.takeOut
theorem Evolves.abortPlaced {n k} (h : Evolves s t) : Evolves s (abortPlaced n k t) := h.takeOut.endInBurst

/-! ### TblOps -/

theorem Evolves.setTbl {f} (h : Evolves s t) : Evolves s (t.setTbl f) := .beside h rfl rfl rfl
theorem Evolves.setTables {f} (h : Evolves s t) : Evolves s (t.setTables f) := h.setTbl
theorem Evolves.tblGen (h : Evolves s t) : Evolves s (tblGen t) := h.set

theorem Evolves.emSet {ext k e} (h : Evolves s t) : Evolves s (emSet ext k e t) := by
  unfold Machine.emSet
  exact .ite h.setTbl h.setTables

theorem Evolves.filterSet {key} (h : Evolves s t) : Evolves s (filterSet key t) := by
  unfold Machine.filterSet
  exact h.setTbl

theorem Evolves.emMove {ext from_ to_} (h : Evolves s t) : Evolves s (emMove ext from_ to_ t) := h.emSet.emSet.inc

theorem Evolves.emRun {ext ks free} (h : Evolves s t) : Evolves s (emRun ext ks free t).1 := by
  induction ks generalizing t free with
  | nil => exact h
  | cons k r ih => exact ih h.emMove

theorem Evolves.emPlace {ext en u} (h : Evolves s t) (e : emPlace ext en t = some u) : Evolves s u := by
  unfold Machine.emPlace at e
  extract_lets _ t1 at e
  have h1 : Evolves s t1 := h.when fun _ h => h.filterSet
  split at e
  · cases e
  · cases e
    exact h1.emRun.emSet

theorem Evolves.emInsert {tier replace en} (h : Evolves s t) : Evolves s (emInsert tier replace en t).1 := by
  unfold Machine.emInsert
  extract_lets done rewrite onDie
  have hd : ∀ {u : State}, Evolves s u → Evolves s (done u) := fun h => h.tblGen.setTbl
  have place : ∀ {c : Prop} [Decidable c] {ext u}, (if c then none else Machine.emPlace ext en t) = some u → Evolves s u := by
    intro c _ ext u hu
    split at hu
    · cases hu
    · exact h.emPlace hu
  have hr : ∀ ext k, Evolves s (rewrite ext k).1 := by
    intro ext k
    unfold rewrite
    split
    · exact .fst (hd h.emSet)
    · exact h
  split
  · exact hr _ _
  · exact hr _ _
  · unfold onDie
    split
    next u hu => exact .fst (hd (place hu))
    · split
      next u hu => exact .fst (hd (place hu))
      · exact h

theorem Evolves.filterRebuild (h : Evolves s t) : Evolves s (filterRebuild t) := by
  unfold Machine.filterRebuild
  exact .ite h h.set.setTbl

theorem Evolves.emDelete {key} (h : Evolves s t) : Evolves s (emDelete key t).1 := by
  unfold Machine.emDelete
  split
  · extract_lets
    exact .fst h.emSet.tblGen
  · extract_lets
    exact .fst (h.emSet.tblGen.setTbl.when fun _ h => h.filterRebuild)
  · exact .fst h

theorem Evolves.emHit {key} (h : Evolves s t) : Evolves s (emHit key t) := by
  unfold Machine.emHit
  split
  · exact h.emSet
  · exact h.emSet
  · exact h

theorem Evolves.lpmMove {from_ to_} (h : Evolves s t) : Evolves s (lpmMove from_ to_ t) := h.setTables.inc
theorem Evolves.lpmSetStart {g k} (h : Evolves s t) : Evolves s (lpmSetStart g k t) := h.setTables

theorem Evolves.lpmPullUp {g} {p : State × Nat} {k} (h : Evolves s p.1) : Evolves s (lpmPullUp g p k).1 := by
  unfold Machine.lpmPullUp
  extract_lets _ t1
  have h1 : Evolves s t1 := .ite h h.lpmMove
  split
  · exact .fst h1.lpmSetStart
  · exact h

theorem Evolves.lpmPullDown {g} {p : State × Nat} {k} (h : Evolves s p.1) : Evolves s (lpmPullDown g p k).1 := by
  unfold Machine.lpmPullDown
  extract_lets _ t1
  have h1 : Evolves s t1 := .ite h h.lpmMove
  split
  · exact .fst h1.lpmSetStart
  · exact h

theorem Evolves.lpmTake {g u k} (h : Evolves s t) (e : lpmTake g t = some (u, k)) : Evolves s u := by
  unfold Machine.lpmTake at e
  extract_lets _ _ _ up down useUp useDown at e
  have hu : ∀ f, Evolves s (useUp f).1 := fun _ => .foldlFst h fun _ _ h => h.lpmPullUp
  have hd : ∀ f, Evolves s (useDown f).1 := fun _ => .foldlFst h fun _ _ h => h.lpmPullDown
  split at e
  · cases e; exact h
  · clear_value up down useUp useDown
    split at e
    · have e := Option.some.inj e
      split at e
      · exact .ofFst (hd _) e
      · exact .ofFst (hu _) e
    · exact .ofFst (hu _) (Option.some.inj e)
    · exact .ofFst (hd _) (Option.some.inj e)
    · cases e

theorem Evolves.lpmSet {k x} (h : Evolves s t) : Evolves s (lpmSet k x t) := h.setTables

theorem Evolves.lpmInsert {v6 vrf addr result replace} (h : Evolves s t) : Evolves s (lpmInsert v6 vrf addr result replace t).1 := by
  unfold Machine.lpmInsert
  extract_lets _ half _ halfSlot
  split
  · split
    · exact .fst h.lpmSet.tblGen
    · exact h
  · split
    · split
      · exact h
      · next u k hu => exact .fst (h.lpmTake hu).lpmSet.tblGen
    · unfold halfSlot
      split
      · exact .fst h.lpmSet.tblGen
      · split
        · exact h
        · next u k hu => exact .fst (h.lpmTake hu).lpmSet.tblGen

theorem Evolves.lpmDelete {v6 vrf addr len} (h : Evolves s t) : Evolves s (lpmDelete v6 vrf addr len t).1 := by
  unfold Machine.lpmDelete
  split
  · exact .fst h
  · extract_lets
    exact .fst h.lpmSet.tblGen

theorem Evolves.postLearn {key moved user slot vport} (h : Evolves s t) : Evolves s (postLearn key moved user slot vport t) := by
  unfold Machine.postLearn
  extract_lets _ _ t1
  have h1 : Evolves s t1 := h.inc
  refine .ite h.inc ?_
  refine .ite (.inc (h.when fun _ h => h.inc)) ?_
  refine .ite ?_ h.emit.setTbl.set.inc
  exact .ite h1 h1.setTbl.raise

/-! ### SchedOps -/

theorem Evolves.setNodeAt {k f} (h : Evolves s t) : Evolves s (t.setNodeAt k f) := .beside h rfl rfl rfl
theorem Evolves.setPolicer {p f} (h : Evolves s t) : Evolves s (t.setPolicer p f) := .beside h rfl rfl rfl

theorem Evolves.drr {level len kids fuel cur k u} (h : Evolves s t) (e : drr level len kids fuel cur t = some (k, u)) : Evolves s u := by
  induction fuel generalizing t cur with
  | zero => cases e
  | succ fuel ih =>
    unfold Machine.drr at e
    split at e
    · cases e; exact h.setNodeAt
    · split at e
      · cases e
      · exact ih h.setNodeAt e

theorem Evolves.descend {d cs depth n q u} (h : Evolves s t) (e : descend d cs depth n t = some (q, u)) : Evolves s u := by
  induction depth generalizing t n q u with
  | zero => cases e; exact h
  | succ depth ih =>
    unfold Machine.descend at e
    extract_lets at e
    split at e
    · split at e
      · exact ih h e
      · exact ih h e
      · cases e
    · split at e
      · exact ih h.setNodeAt e
      · split at e
        next k v hv => exact ih (h.drr hv).setNodeAt e
        · cases e

theorem Evolves.resetDeficits {d work} (h : Evolves s t) : Evolves s (resetDeficits d work t) :=
  h.foldl fun _ _ h => .ite h.setNodeAt h

theorem Evolves.selectQueue {d work} (h : Evolves s t) : Evolves s (selectQueue d work t).2 := by
  unfold Machine.selectQueue
  extract_lets t1
  have h1 : Evolves s t1 := h.resetDeficits
  split
  · exact .snd h1
  · split
    next q u hu => exact .snd (h1.descend hu)
    · exact .snd h1.inc

theorem Evolves.reserve {len path} (h : Evolves s t) : Evolves s (reserve len path t) := h.foldl fun _ _ h => h.setNodeAt

theorem Evolves.release {len full sent path} (h : Evolves s t) : Evolves s (release len full sent path t) :=
  h.foldl fun _ _ h => h.setNodeAt

theorem Evolves.refillDue (h : Evolves s t) : Evolves s (refillDue t) := by
  unfold Machine.refillDue
  extract_lets
  exact .ite h (.beside h rfl rfl rfl)

/-! ### LineOps -/

theorem Evolves.lineIrq {n status enable} (h : Evolves s t) : Evolves s (lineIrq n status enable t) := h.irq
theorem Evolves.carrierSet {n on} (h : Evolves s t) : Evolves s (carrierSet n on t) := h.setAll.set
theorem Evolves.markSc {n sc len} (h : Evolves s t) : Evolves s (markSc n sc len t) := h.setLine.set.set
theorem Evolves.markMask {n mask len} (h : Evolves s t) : Evolves s (markMask n mask len t) := h.foldl fun _ _ h => h.markSc

theorem Evolves.reacquired {n} (h : Evolves s t) : Evolves s (reacquired n t) := by
  unfold Machine.reacquired
  exact h.setLine

theorem Evolves.laserSend {n c} (h : Evolves s t) : Evolves s (laserSend n c t) := by
  unfold Machine.laserSend
  exact .ite h.setLine.emit h

theorem Evolves.laserOutput {n on} (h : Evolves s t) : Evolves s (laserOutput n on t) := by
  unfold Machine.laserOutput
  exact .ite h h.laserSend

theorem Evolves.lockLost {n} (h : Evolves s t) : Evolves s (lockLost n t) := by
  unfold Machine.lockLost
  extract_lets t1
  have h1 : Evolves s t1 := h.when fun _ h => h.carrierSet.raise.lineIrq
  exact h1.setLine

theorem Evolves.sendFt {n ft} (h : Evolves s t) : Evolves s (sendFt n ft t) := by
  unfold Machine.sendFt
  exact .ite h.setLine h.setLine.laserSend

theorem Evolves.captureCause {n cause} (h : Evolves s t) : Evolves s (captureCause n cause t) := by
  unfold Machine.captureCause
  exact .ite h.setLine h

theorem Evolves.agcUnfreeze {n} (h : Evolves s t) : Evolves s (agcUnfreeze n t) := h.setAll.setLine

theorem Evolves.hunt {n sc cause} (h : Evolves s t) : Evolves s (hunt n sc cause t) := by
  unfold Machine.hunt
  extract_lets _ _ t1
  have h1 : Evolves s t1 := h.set.set.setFrame
  exact .ite h1.captureCause.agcUnfreeze.downstreamLoss h1

theorem Evolves.huntAll {n cause} (h : Evolves s t) : Evolves s (huntAll n cause t) := h.foldl fun _ _ h => h.hunt

theorem Evolves.lightLost {n} (h : Evolves s t) : Evolves s (lightLost n t) := by
  unfold Machine.lightLost
  extract_lets _ t1
  have h1 : Evolves s t1 := h.huntAll.setFrame
  exact .ite h1 h1.downstreamLoss

theorem Evolves.startSearch {n cause} (h : Evolves s t) : Evolves s (startSearch n cause t) :=
  h.set.set.setLine.setFrame.agcUnfreeze.huntAll.start

theorem Evolves.startRetune {n} (h : Evolves s t) : Evolves s (startRetune n t) := h.setLine.laserSend.laserOutput

theorem Evolves.requestStep {n} (h : Evolves s t) : Evolves s (requestStep n t) := by
  unfold Machine.requestStep
  exact .ite h h.set.setLine

/-! ### TimeOps -/

theorem Evolves.setTime {f} (h : Evolves s t) : Evolves s (t.setTime f) := .beside h rfl rfl rfl
theorem Evolves.setDomain {d f} (h : Evolves s t) : Evolves s (t.setDomain d f) := h.setTime
theorem Evolves.setPulse {k f} (h : Evolves s t) : Evolves s (t.setPulse k f) := h.setTime
theorem Evolves.refreshTime (h : Evolves s t) : Evolves s (refreshTime t) := h.set.set.setI
theorem Evolves.latchNow (h : Evolves s t) : Evolves s (latchNow t) := h.refreshTime.set
theorem Evolves.closeEnded {n subject kind} (h : Evolves s t) : Evolves s (closeEnded n subject kind t) := h.setFrame.stop.raise
theorem Evolves.suspectBins (h : Evolves s t) : Evolves s (suspectBins t) := h.foldl fun _ _ h => h.setFrame

theorem Evolves.closeBinsAtStep (h : Evolves s t) : Evolves s (closeBinsAtStep t) :=
  h.foldl fun _ _ h => h.foldl fun _ _ h => h.foldl fun _ _ h => by
    extract_lets _ t1
    have h1 : Evolves s t1 := h.when fun _ h => h.closeEnded
    exact .ite h1.setFrame.raise h1

theorem Evolves.repointPulses (h : Evolves s t) : Evolves s (repointPulses t) := h.foldl fun _ _ h => h.setPulse
theorem Evolves.stepPulses {step} (h : Evolves s t) : Evolves s (stepPulses step t) := .repointPulses (h.foldl fun _ _ h => h.setPulse)

theorem Evolves.takePulse {k es} (h : Evolves s t) : Evolves s (takePulse k es t) := by
  unfold Machine.takePulse
  exact h.wApplyAll.set.setPulse

theorem Evolves.pulseLow {k} (h : Evolves s t) : Evolves s (pulseLow k t) := by
  unfold Machine.pulseLow
  extract_lets _ t1
  have h1 : Evolves s t1 := h.setPulse.emit
  exact .ite h1 h1.takePulse

theorem Evolves.pulseResume {k} (h : Evolves s t) : Evolves s (pulseResume k t) := by
  unfold Machine.pulseResume
  extract_lets
  split
  · exact h
  · extract_lets
    exact .ite h h.setPulse

theorem Evolves.pulseValidity {valid k} (h : Evolves s t) : Evolves s (pulseValidity valid k t) := by
  unfold Machine.pulseValidity
  exact .ite h (.ite h.pulseResume (h.when fun _ h => h.pulseLow))

theorem Evolves.settleResidual {before} (h : Evolves s t) : Evolves s (settleResidual before t) := by
  unfold Machine.settleResidual
  extract_lets
  exact .ite h.setTime.set.refreshTime h.setTime.set.inc.raise.setTime.refreshTime.closeBinsAtStep.stepPulses

theorem Evolves.clk10Edge {at_ next} (h : Evolves s t) : Evolves s (clk10Edge at_ next t) := h.setTime.emit

theorem Evolves.clk10Run (h : Evolves s t) : Evolves s (clk10Run t) := by
  unfold Machine.clk10Run
  extract_lets
  refine .ite h ?_
  refine .ite ?_ ?_
  · exact .ite h.clk10Edge h.setTime
  · exact .ite h.clk10Edge h.setTime

theorem Evolves.clk10Enable {was} (h : Evolves s t) : Evolves s (clk10Enable was t) := by
  unfold Machine.clk10Enable
  extract_lets _ _ t1
  have h1 : Evolves s t1 := h.when fun _ h => h.emit
  exact .ite h h1.setTime

theorem Evolves.updateValid (h : Evolves s t) : Evolves s (updateValid t) := by
  unfold Machine.updateValid
  extract_lets _ t1
  have h1 : Evolves s t1 := h.set.set
  exact .ite h1 (.foldl (h1.set.set.raise.when fun _ h => h.suspectBins) fun _ _ h => h.pulseValidity)

theorem Evolves.selectDomain {d auto} (h : Evolves s t) : Evolves s (selectDomain d auto t) := by
  unfold Machine.selectDomain
  extract_lets
  exact .ite h h.set.setTime.inc.raise.settleResidual.updateValid

theorem Evolves.autoSwitch {left} (h : Evolves s t) : Evolves s (autoSwitch left t) := by
  unfold Machine.autoSwitch
  extract_lets _ _ t1
  have h1 : Evolves s t1 := h.selectDomain
  refine .ite ?_ h
  exact .ite h1.selectDomain.setTime h1

theorem Evolves.setDomainState {d new event} (h : Evolves s t) : Evolves s (setDomainState d new event t) := by
  unfold Machine.setDomainState
  extract_lets _ _ _ _ t1
  have h1 : Evolves s t1 := h.set.set.setDomain.when fun _ h => h.raise
  exact .updateValid (h1.when fun _ h => h.autoSwitch)

theorem Evolves.moveDomain {d e} (h : Evolves s t) : Evolves s (moveDomain d e t) := by
  unfold Machine.moveDomain
  extract_lets _ _ t1
  have h1 : Evolves s t1 := h.setDomain
  exact .ite h1.settleResidual h1

theorem Evolves.domainStep {d e} (h : Evolves s t) : Evolves s (domainStep d e t) := h.raise.moveDomain

theorem Evolves.servo {d e} (h : Evolves s t) : Evolves s (servo d e t) := by
  unfold Machine.servo
  exact h.setDomain

theorem Evolves.measure {d e} (h : Evolves s t) : Evolves s (measure d e t) := by
  unfold Machine.measure
  extract_lets t1 _ _ _ t2 _ t3
  have h1 : Evolves s t1 := h.setI.start
  have h2 : Evolves s t2 := h1.setDomain.servo
  have h3 : Evolves s t3 := h1.setDomain.setDomainState
  split
  · refine .ite h1.setDomain.domainStep ?_
    exact .ite h2.setDomainState h2
  · exact .ite h1.setDomainState.domainStep h1.setDomain.servo
  · exact .ite h3.domainStep h3.servo
  · exact h1

theorem Evolves.timeMark {n mark} (h : Evolves s t) : Evolves s (timeMark n mark t) := by
  unfold Machine.timeMark
  extract_lets
  split
  · exact h
  · exact .ite h.set.measure h

theorem Evolves.postTwoStep {x stamp seqId msgType domain} (h : Evolves s t) : Evolves s (postTwoStep x stamp seqId msgType domain t) := by
  unfold Machine.postTwoStep
  extract_lets _ _ t1
  have h1 : Evolves s t1 := h.inc
  exact .ite h.setTime (.ite h1.setTime.raise h1)

/-! ### WakeOps -/

theorem Evolves.setPower {f} (h : Evolves s t) : Evolves s (t.setPower f) := .beside h rfl rfl rfl

theorem Evolves.setPowerState {new phase} (h : Evolves s t) : Evolves s (setPowerState new phase t) := by
  unfold Machine.setPowerState
  extract_lets _ t1
  have h1 : Evolves s t1 := h.setAll
  exact .ite h1 h1.raise

theorem Evolves.leaveStandby (h : Evolves s t) : Evolves s (leaveStandby t) := h.setPower.setPowerState

theorem Evolves.wakeBy {src} (h : Evolves s t) : Evolves s (wakeBy src t) := by
  unfold Machine.wakeBy
  extract_lets _ _ t1
  have h1 : Evolves s t1 := h.set.raise
  refine .ite h ?_
  refine .ite h.setPower ?_
  refine .ite h.setPower ?_
  refine .ite ?_ h
  exact .ite h1.setPower h1.leaveStandby

/-! ### SwOps -/

theorem Evolves.setItem {k f} (h : Evolves s t) : Evolves s (t.setItem k f) := .beside h rfl rfl rfl
theorem Evolves.setCopy {k f} (h : Evolves s t) : Evolves s (t.setCopy k f) := .beside h rfl rfl rfl
theorem Evolves.setSw {f} (h : Evolves s t) : Evolves s (t.setSw f) := .beside h rfl rfl rfl
theorem Evolves.setQueue {q f} (h : Evolves s t) : Evolves s (t.setQueue q f) := h.setSw
theorem Evolves.newItem {it} (h : Evolves s t) : Evolves s (newItem it t) := .beside h rfl rfl rfl
theorem Evolves.dropItem {k} (h : Evolves s t) : Evolves s (dropItem k t) := .beside h rfl rfl rfl
theorem Evolves.countLater {k c n i j} (h : Evolves s t) : Evolves s (countLater k c n i j t) := h.setItem

theorem Evolves.countFor {k c i} (h : Evolves s t) : Evolves s (countFor k c i t) := by
  unfold Machine.countFor
  exact .ite h.countLater h.inc

theorem Evolves.setHp {x f} (h : Evolves s t) : Evolves s (t.setHp x f) := .beside h rfl rfl rfl

theorem Evolves.markIdle {x} (h : Evolves s t) : Evolves s (markIdle x t) := by
  unfold Machine.markIdle
  exact h.setHp

theorem Evolves.pauseDue {x prioMask quanta} (h : Evolves s t) : Evolves s (pauseDue x prioMask quanta t) := by
  unfold Machine.pauseDue
  exact .ite h h.setSw.markIdle

theorem Evolves.pauseTest {x p} (h : Evolves s t) : Evolves s (pauseTest x p t) := by
  unfold Machine.pauseTest
  extract_lets
  exact .ite h.set.pauseDue (.ite h.set.pauseDue h)

theorem Evolves.refreshShared {d} (h : Evolves s t) : Evolves s (refreshShared d t) := h.set

theorem Evolves.refreshAccounts {c} (h : Evolves s t) : Evolves s (refreshAccounts c t) := by
  unfold Machine.refreshAccounts
  extract_lets t1
  have h1 : Evolves s t1 := h.refreshShared
  split
  · exact h1.pauseTest
  · exact h1

theorem Evolves.respill {q} (h : Evolves s t) : Evolves s (respill q t) := by
  unfold Machine.respill
  exact .ite h.setQueue h

theorem Evolves.unlink {k} (h : Evolves s t) : Evolves s (unlink k t) := by
  unfold Machine.unlink
  extract_lets _ _ _ t1
  have h1 : Evolves s t1 := h.setQueue.setSw
  exact .ite h1.markIdle h1

theorem Evolves.returnCells {c} (h : Evolves s t) : Evolves s (returnCells c t) := by
  unfold Machine.returnCells
  exact .ite h.set h

theorem Evolves.freeCopy {k} (h : Evolves s t) : Evolves s (freeCopy k t) := by
  unfold Machine.freeCopy
  extract_lets _ _ _ _ t1
  have h1 : Evolves s t1 := .respill (.beside h.unlink rfl rfl rfl)
  exact h1.returnCells.refreshAccounts

theorem Evolves.dropCopy {k} (h : Evolves s t) : Evolves s (dropCopy k t) := by
  unfold Machine.dropCopy
  extract_lets _ t1
  have h1 : Evolves s t1 := .ite h.withdraw h
  exact h1.release.freeCopy

theorem Evolves.closeItem {k} (h : Evolves s t) : Evolves s (closeItem k t) := by
  unfold Machine.closeItem
  exact .ite h (.ite h.dropItem h.setItem)

theorem Evolves.dropLone {k ctr i} (h : Evolves s t) : Evolves s (dropLone k ctr i t) := h.countFor.dropCopy.closeItem
theorem Evolves.pushOut {k} (h : Evolves s t) : Evolves s (pushOut k t) := h.foldl fun _ _ h => h.inc.bump.dropCopy.closeItem
theorem Evolves.wakeRequest {n cause} (h : Evolves s t) : Evolves s (wakeRequest n cause t) := h.wakeBy.setTerm

theorem Evolves.thresholdWake {n aid} (h : Evolves s t) : Evolves s (thresholdWake n aid t) := by
  unfold Machine.thresholdWake
  extract_lets
  exact .ite h.wakeRequest h

theorem Evolves.countCopy {k} (h : Evolves s t) : Evolves s (countCopy k t) := by
  unfold Machine.countCopy
  extract_lets _ _ _ t1
  have h1 : Evolves s t1 := h.setCopy.inc.bump.bump.pushOut.refreshAccounts
  exact .ite h (.ite h1.thresholdWake h1)

theorem Evolves.flushCopy {d k} (h : Evolves s t) : Evolves s (flushCopy d t k) := by
  unfold Machine.flushCopy
  extract_lets _ _ _ _ t1
  have h1 : Evolves s t1 := h.dropCopy.setSw
  exact .ite h1.inc.bump.closeItem h1.countLater.setItem

theorem Evolves.startFlush {d} (h : Evolves s t) : Evolves s (startFlush d t) := by
  unfold Machine.startFlush
  extract_lets
  exact .ite h (h.set.setSw.foldl fun _ _ h => h.flushCopy)

theorem Evolves.flushAll (h : Evolves s t) : Evolves s (flushAll t) := by
  unfold Machine.flushAll
  extract_lets t1
  have h1 : Evolves s t1 := h.foldl fun _ _ h => h.startFlush
  exact h1.setSw.setAll

/-! ### ClsOps -/

theorem Evolves.setCls {f} (h : Evolves s t) : Evolves s (t.setCls f) := .beside h rfl rfl rfl

/-! ### TestOps -/

theorem Evolves.chkBump {f n c} (h : Evolves s t) : Evolves s (chkBump f n c t) := h.set

theorem Evolves.checkOne {bs c} (h : Evolves s t) : Evolves s (checkOne bs t c) := by
  unfold Machine.checkOne
  extract_lets _ _ _ t1 t2 t3
  have h1 : Evolves s t1 := .ite h.chkBump h
  have h2 : Evolves s t2 := .ite h.chkBump h1.chkBump.chkBump
  have h3 : Evolves s t3 := .ite h2.chkBump h2
  exact .beside h3 rfl rfl rfl

theorem Evolves.checkFrame {point slot bs} (h : Evolves s t) : Evolves s (checkFrame point slot bs t) := h.foldl fun _ _ h => h.checkOne

theorem Evolves.inject {t' target} (h : Evolves s t) : Evolves s (inject t' target t).2 := by
  unfold Machine.inject
  extract_lets
  split
  · exact .snd (h.set.set.when fun _ h => h.set)
  · exact .snd h

/-! ### PathOps -/

/-- The policers' evaluation and the function itself stand as variables, so that no evaluation of the arithmetic in them is ever asked of
the kernel. -/
theorem Evolves.commitPolicer {k p} (h : Evolves s t) : Evolves s (commitPolicer k p t).1 := by
  generalize hf : Machine.commitPolicer = f
  delta Machine.commitPolicer at hf
  subst hf
  generalize evalPolicer = e
  revert e
  refine id fun e => ?_
  beta_reduce
  extract_lets
  split
  exact h.refillDue.setPolicer.fst

theorem Evolves.deliverException {k c} (h : Evolves s t) : Evolves s (deliverException k c t) := by
  unfold Machine.deliverException
  extract_lets _ _ t1
  have h1 : Evolves s t1 := h.inc.dropItem
  exact .ite h.setCls.inc (.ite h1 h1.setCls.raise)

theorem Evolves.releaseCounts {cs} (h : Evolves s t) : Evolves s (releaseCounts cs t) := h.foldl fun _ _ h => h.bump
theorem Evolves.discardItem {k} (h : Evolves s t) : Evolves s (discardItem k t) := .dropItem (h.foldl fun _ _ h => h.dropCopy)

theorem Evolves.onConfirmed {k} (h : Evolves s t) : Evolves s (onConfirmed k t) := by
  unfold Machine.onConfirmed
  extract_lets _ _ t1 t2 t3 t4
  have h1 : Evolves s t1 := h.setItem.releaseCounts.foldl fun _ _ h => h.emHit
  have h2 : Evolves s t2 := by
    unfold t2
    split
    · exact h1.setCls
    · exact h1
  have h3 : Evolves s t3 := by
    unfold t3
    split
    · exact h2.postLearn
    · exact h2
  have h4 : Evolves s t4 := .checkFrame (h3.foldl fun _ _ h => h.inc)
  split
  · exact h4.deliverException
  · exact h4.foldl fun _ _ h => h.countCopy
  · exact h4.discardItem

theorem Evolves.confirmItem {k} (h : Evolves s t) : Evolves s (confirmItem k t) := by
  unfold Machine.confirmItem
  extract_lets
  split
  · extract_lets
    refine .ite ?_ h.onConfirmed
    split
    · exact .onConfirmed (.beside h rfl rfl rfl)
    · exact h.releaseCounts.inc.discardItem
  · exact h.onConfirmed

theorem Evolves.passPoint {k p} (h : Evolves s t) : Evolves s (passPoint k p t) := by
  unfold Machine.passPoint
  extract_lets t1
  have h1 : Evolves s t1 := h.setItem
  exact .ite h1.confirmItem h1

theorem Evolves.endOnPort {k bytes} (h : Evolves s t) : Evolves s (endOnPort k bytes t) := by
  unfold Machine.endOnPort
  extract_lets _ _ _ t1
  have h1 : Evolves s t1 := h.when fun _ h => h.emit
  exact h1.setSw.setHp.setCopy.markIdle

theorem Evolves.endOnWire {k} (h : Evolves s t) : Evolves s (endOnWire k t) := by
  unfold Machine.endOnWire
  extract_lets
  exact .ite h.endOnPort h.countStart.abortPlaced.emit

theorem Evolves.retractCopy {k} (h : Evolves s t) : Evolves s (retractCopy k t) := h.endOnWire.bump

theorem Evolves.takeBack {k p} (h : Evolves s t) : Evolves s (takeBack k p t) := by
  unfold Machine.takeBack
  extract_lets _ t1
  have h1 : Evolves s t1 := h.foldl fun _ _ h => by
    extract_lets _ t2
    have h2 : Evolves s t2 := by
      unfold t2
      split
      · exact h.inc
      · exact h
    exact h2.retractCopy
  exact h1.foldl fun _ _ h => h.dropCopy

theorem Evolves.failItem {k p count} (h : Evolves s t) : Evolves s (failItem k p count t) := by
  unfold Machine.failItem
  extract_lets _ t1 t2
  have h1 : Evolves s t1 := h.foldl fun _ _ h => h.inc
  have h2 : Evolves s t2 := h1.foldl fun _ _ h => h.inc
  exact h2.takeBack.dropItem

theorem Evolves.recoveryDrop {k} (h : Evolves s t) : Evolves s (recoveryDrop k t) := by
  unfold Machine.recoveryDrop
  extract_lets t1
  have h1 : Evolves s t1 := h.foldl fun _ _ h => h.dropCopy
  exact h1.setItem.passPoint

theorem Evolves.dropAtAdmission {k c d} (h : Evolves s t) : Evolves s (dropAtAdmission k c d t) := by
  unfold Machine.dropAtAdmission
  exact .ite h.inc h.setItem

theorem Evolves.enqueue {k q charged c marks} (h : Evolves s t) : Evolves s (enqueue k q charged c marks t) := by
  unfold Machine.enqueue
  extract_lets _ _ _ _ _ _ t1 _ t2 t3
  have h1 : Evolves s t1 := .beside h rfl rfl rfl
  have h2 : Evolves s t2 := h1.setQueue.when fun _ h => h.set
  have h3 : Evolves s t3 := h2.foldl fun _ _ h => h.setCopy
  exact .ite h3.countCopy h3

theorem Evolves.admitCopy {k c} (h : Evolves s t) : Evolves s (admitCopy k c t) := by
  unfold Machine.admitCopy
  extract_lets _ _ _ lossless
  refine .ite h.dropAtAdmission ?_
  split
  · exact h
  · extract_lets
    refine .ite ?_ ?_
    · exact .ite h.inc h.setItem
    · refine .ite h.dropAtAdmission ?_
      unfold lossless
      split
      · extract_lets
        split
        · exact h.enqueue
        · exact h.dropAtAdmission
      · refine .ite h.dropAtAdmission ?_
        refine .ite h.enqueue ?_
        refine .ite h.dropAtAdmission ?_
        refine .ite h.enqueue ?_
        split
        · exact h.enqueue
        · exact h.dropAtAdmission

theorem Evolves.admitItem {k more} (h : Evolves s t) : Evolves s (admitItem k more t) := by
  unfold Machine.admitItem
  split
  · exact .closeItem (h.admitCopy.foldl fun _ _ h => h.admitCopy)
  · exact h

theorem Evolves.takeDecision {k d f waiting} (h : Evolves s t) : Evolves s (takeDecision k d f waiting t) := by
  unfold Machine.takeDecision
  extract_lets _ t1 t2 t3
  have h1 : Evolves s t1 := .ite h.took h
  have h2 : Evolves s t2 := h1.setItem
  have h3 : Evolves s t3 := by
    unfold t3
    split
    · exact h2
    · extract_lets
      refine .ite ?_ h2.setItem
      split
      next u4 _ e =>
        have h4 : Evolves s u4 := .ofFst h2.commitPolicer e
        exact h4.setItem
  exact h3.passPoint

theorem Evolves.debitFrame {k} (h : Evolves s t) : Evolves s (debitFrame k t) := by
  unfold Machine.debitFrame
  extract_lets _ _ t1 t2
  have h1 : Evolves s t1 := h.release
  have h2 : Evolves s t2 := .ite h1.inc.bump h1
  exact h2.freeCopy.closeItem

theorem Evolves.bucketsNow (h : Evolves s t) : Evolves s (bucketsNow t) := h.refillDue.foldl fun _ _ h => h.debitFrame

theorem Evolves.dequeue {q} (h : Evolves s t) : Evolves s (dequeue q t).1 := by
  unfold Machine.dequeue
  extract_lets
  split
  · exact .fst h
  · extract_lets
    exact .fst h.reserve.setQueue.setCopy

theorem Evolves.detach {c} (h : Evolves s t) : Evolves s (detach c t) := h.setCopy

theorem Evolves.requeue {k c} (h : Evolves s t) : Evolves s (requeue k c t) := by
  unfold Machine.requeue
  extract_lets _ _ _ t1
  have h1 : Evolves s t1 := .beside h rfl rfl rfl
  exact h1.setItem.detach.setQueue

theorem Evolves.readmit {c} (h : Evolves s t) : Evolves s (readmit c t) := h.detach.returnCells.refreshAccounts

theorem Evolves.retractLate {k} (h : Evolves s t) : Evolves s (retractLate k t) := by
  unfold Machine.retractLate
  extract_lets
  exact .ite h.inc.retractCopy.requeue h

theorem Evolves.lateCopies {k} (h : Evolves s t) : Evolves s (lateCopies k t) := h.foldl fun _ _ h => h.retractLate

/-! ### CiphOps -/

theorem Evolves.setCipher {f} (h : Evolves s t) : Evolves s (t.setCipher f) := .beside h rfl rfl rfl
theorem Evolves.pageChanged {page} (h : Evolves s t) : Evolves s (pageChanged page t) := h.setAll

theorem Evolves.setKeySlot {page k v} (h : Evolves s t) : Evolves s (setKeySlot page k v t) := by
  unfold Machine.setKeySlot
  exact h.setCipher.pageChanged.setCipher.setNand

theorem Evolves.pageClear {page} (h : Evolves s t) : Evolves s (pageClear page t) := h.setCipher.setNand.pageChanged.raise

theorem Evolves.useDerived {r label k} (h : Evolves s t) : Evolves s (useDerived r label k t) := by
  unfold Machine.useDerived
  extract_lets _ t1
  have h1 : Evolves s t1 := h.countFor
  exact .ite h.setCipher.countFor (.ite h1 h1.setCipher)

theorem Evolves.noKey {n dir idx} (h : Evolves s t) : Evolves s (noKey n dir idx t) := by
  unfold Machine.noKey
  extract_lets
  exact .ite h h.setCipher.raise

theorem Evolves.keyFound {n dir idx} (h : Evolves s t) : Evolves s (keyFound n dir idx t) := h.setCipher

theorem Evolves.wakeCipher {c} (h : Evolves s t) : Evolves s (wakeCipher c t) := by
  unfold Machine.wakeCipher
  split
  · exact h.undoze
  · exact h

theorem Evolves.startLineJob {n k} (h : Evolves s t) : Evolves s (startLineJob n k t) := by
  unfold Machine.startLineJob
  split
  · exact h
  · extract_lets _ t1
    have h1 : Evolves s t1 := h.keyFound
    refine .ite h.noKey.failItem ?_
    refine .ite h1.failItem ?_
    split
    · exact h1.failItem
    · exact h1.useDerived.wakeCipher.setCipher

theorem Evolves.unpin {e} (h : Evolves s t) : Evolves s (unpin e t) := by
  unfold Machine.unpin
  extract_lets
  exact .ite h.setCipher.set h

theorem Evolves.discardJobs {c} (h : Evolves s t) : Evolves s (discardJobs c t) :=
  h.setCipher.foldl fun _ _ h => .unpin (.ite h.failItem h.inc)

theorem Evolves.spendPn {n} (h : Evolves s t) : Evolves s (spendPn n t) := by
  unfold Machine.spendPn
  extract_lets _ t1
  have h1 : Evolves s t1 := h.set
  exact .ite h1.took.set.raise h1

theorem Evolves.sealFrame {n k header bs} (h : Evolves s t) : Evolves s (sealFrame n k header bs t).1 := by
  unfold Machine.sealFrame
  extract_lets
  exact .fst h.keyFound.useDerived.wakeCipher.spendPn.countFor

theorem Evolves.touchSlot {page k} (h : Evolves s t) : Evolves s (touchSlot page k t) := by
  unfold Machine.touchSlot
  extract_lets
  split
  · exact h
  · split <;> exact h.useDerived

theorem Evolves.setSecret {n key persist} (h : Evolves s t) : Evolves s (setSecret n key persist t) := h.setCipher.setNand.set.raise

/-! ### CiphEvt -/

theorem Evolves.effCipherJobDone {k} (h : Evolves s t) : Evolves s (effCipherJobDone k t) := by
  unfold Machine.effCipherJobDone
  split
  · exact h
  · extract_lets _ _ t1
    have h1 : Evolves s t1 := h.setCipher.unpin
    refine .ite h ?_
    refine .ite h1 ?_
    split
    · exact h1.failItem
    · exact h1.setItem.passPoint

theorem Evolves.effKeyDerivation (h : Evolves s t) : Evolves s (effKeyDerivation t) := by
  unfold Machine.effKeyDerivation
  extract_lets
  split
  · exact h
  · exact h.setCipher.inc

theorem Evolves.effPnReserve {n ok status} (h : Evolves s t) : Evolves s (effPnReserve n ok status t) := by
  unfold Machine.effPnReserve
  extract_lets
  exact .ite h (.ite h.set.set.setNand.journalAdd.raise h.set.raise)

/-! ### BpmOps -/

theorem Evolves.setPool {p f} (h : Evolves s t) : Evolves s (t.setPool p f) := h.setSw
theorem Evolves.poolShow {p} (h : Evolves s t) : Evolves s (poolShow p t) := h.setAll
theorem Evolves.poolBalance {p} (h : Evolves s t) : Evolves s (poolBalance p t) := h.setPool.poolShow
theorem Evolves.ownerAdd {o d} (h : Evolves s t) : Evolves s (ownerAdd o d t) := h.set

theorem Evolves.poolTake {p owner u a} (h : Evolves s t) (e : poolTake p owner t = some (u, a)) : Evolves s u := by
  unfold Machine.poolTake at e
  extract_lets t1 at e
  have h1 : Evolves s t1 := h.poolBalance
  split at e
  · cases e
  · exact .ofFst h1.setPool.poolShow.ownerAdd.inc (Option.some.inj e)

theorem Evolves.bufWrite {a bs} (h : Evolves s t) : Evolves s (bufWrite a bs t) := h.setSw

theorem Evolves.bpmAllocFrom {owner first fuel p} (h : Evolves s t) : Evolves s (bpmAllocFrom owner first fuel p t).1 := by
  induction fuel generalizing t p with
  | zero => exact h.inc
  | succ fuel ih =>
    unfold Machine.bpmAllocFrom
    split
    next u a hu =>
      split at hu
      · have hu := h.poolTake hu
        exact .fst (.ite hu hu.inc)
      · cases hu
    · extract_lets
      split
      · exact h.inc
      · exact ih h

theorem Evolves.bpmAlloc {p owner} (h : Evolves s t) : Evolves s (bpmAlloc p owner t).1 := h.bpmAllocFrom
theorem Evolves.bpmPut {p i} (h : Evolves s t) : Evolves s (bpmPut p i t) := h.setPool.ownerAdd.inc.poolBalance
theorem Evolves.bpmPass {p i target} (h : Evolves s t) : Evolves s (bpmPass p i target t) := h.setPool.ownerAdd.ownerAdd

theorem Evolves.bpmFreeAt {a} (h : Evolves s t) : Evolves s (bpmFreeAt a t) := by
  unfold Machine.bpmFreeAt
  split
  · extract_lets
    exact .ite h.bpmPut h
  · exact h

theorem Evolves.bpmMoveTo {a target} (h : Evolves s t) : Evolves s (bpmMoveTo a target t) := by
  unfold Machine.bpmMoveTo
  split
  · extract_lets
    exact .ite h.bpmPass h
  · exact h

theorem Evolves.reclaimOwner {o} (h : Evolves s t) : Evolves s (reclaimOwner o t) := by
  unfold Machine.reclaimOwner
  extract_lets _ t1
  have h1 : Evolves s t1 := .set (h.foldl fun _ _ h => h.bpmPut)
  exact .ite h1 h1.bump.raise

theorem Evolves.bpmAudit (h : Evolves s t) : Evolves s (bpmAudit t) := by
  unfold Machine.bpmAudit
  extract_lets
  exact .ite h h.raise

/-! ### CoreOps -/

theorem Evolves.setCore {f} (h : Evolves s t) : Evolves s (t.setCore f) := .beside h rfl rfl rfl
theorem Evolves.setWork {k f} (h : Evolves s t) : Evolves s (t.setWork k f) := h.setCore
theorem Evolves.setLock {k f} (h : Evolves s t) : Evolves s (t.setLock k f) := h.setCore
theorem Evolves.setWorkRing {u f} (h : Evolves s t) : Evolves s (t.setWorkRing u f) := h.setCore
theorem Evolves.setWaiting {q f} (h : Evolves s t) : Evolves s (setWaiting q f t) := h.setCore
theorem Evolves.wqShow {q} (h : Evolves s t) : Evolves s (wqShow q t) := h.setAll

theorem Evolves.cpuShow {core} (h : Evolves s t) : Evolves s (cpuShow core t) := by
  unfold Machine.cpuShow
  split <;> exact h.setAll

theorem Evolves.cpuShowAll (h : Evolves s t) : Evolves s (cpuShowAll t) := h.foldl fun _ _ h => h.cpuShow
theorem Evolves.flightShow (h : Evolves s t) : Evolves s (flightShow t) := h.setAll
theorem Evolves.admitWork {w} (h : Evolves s t) : Evolves s (admitWork w t) := h.setCore.setWaiting.inc.wqShow.flightShow

theorem Evolves.dropInternal {q buf} (h : Evolves s t) : Evolves s (dropInternal q buf t) := by
  unfold Machine.dropInternal
  extract_lets t1
  have h1 : Evolves s t1 := h.bpmFreeAt.inc
  exact .ite h1 h1.setCore.raise

theorem Evolves.writeResult {u status returned w} (h : Evolves s t) : Evolves s (writeResult u status returned w t) := by
  unfold Machine.writeResult
  extract_lets _ _ _ _ _ t1
  have h1 : Evolves s t1 := h.setWorkRing.hostWrite.set
  exact .ite h1.msix h1

theorem Evolves.emitFrame {k f} (h : Evolves s t) : Evolves s (emitFrame k f t) := h.newItem
theorem Evolves.leaveFlight {k} (h : Evolves s t) : Evolves s (leaveFlight k t) := h.setWaiting.setCore.wqShow.flightShow

theorem Evolves.releaseWork {k} (h : Evolves s t) : Evolves s (releaseWork k t) := by
  unfold Machine.releaseWork
  extract_lets _ t1 t2 _ t3 t4
  have h1 : Evolves s t1 := h.when fun _ h => h.inc
  have h2 : Evolves s t2 := .ite h1 (h1.foldl fun _ _ h => h.emitFrame)
  have h3 : Evolves s t3 := .ite h2 (.ite (by split; exacts [h2.bpmMoveTo, h2]) h2.bpmFreeAt)
  have h4 : Evolves s t4 := by
    unfold t4
    split
    · exact .ite h3 h3.writeResult
    · exact h3
  exact .ite h h4.leaveFlight

theorem Evolves.releaseFlow {f n} (h : Evolves s t) : Evolves s (releaseFlow f n t) := by
  induction n generalizing t with
  | zero => exact h
  | succ n ih =>
    unfold Machine.releaseFlow
    split
    · exact h
    · exact .ite (ih h.releaseWork) h

theorem Evolves.flowOn {w} (h : Evolves s t) : Evolves s (flowOn w t) := by
  unfold Machine.flowOn
  split
  · exact h.releaseFlow
  · exact h

theorem Evolves.discardWork {k} (h : Evolves s t) : Evolves s (discardWork k t) := by
  unfold Machine.discardWork
  extract_lets _ t1 t2
  have h1 : Evolves s t1 := .ite h h.bpmFreeAt
  have h2 : Evolves s t2 := h1.when fun _ h => h.inc
  exact h2.leaveFlight.flowOn

theorem Evolves.lockShow {k} (h : Evolves s t) : Evolves s (lockShow k t) := by
  unfold Machine.lockShow
  extract_lets _ _ t1
  have h1 : Evolves s t1 := h.setAll
  split
  · exact h1.cpuShow
  · exact h1

theorem Evolves.lockReply {req status detail} (h : Evolves s t) : Evolves s (lockReply req status detail t) := by
  unfold Machine.lockReply
  split
  · exact h.complete
  · exact h

theorem Evolves.grantLock {k o req} (h : Evolves s t) : Evolves s (grantLock k o req t) := h.setLock.set.lockShow.inc.lockReply

theorem Evolves.passLock {k} (h : Evolves s t) : Evolves s (passLock k t) := by
  unfold Machine.passLock
  extract_lets old t1 t2
  have h1 : Evolves s t1 := h.setLock
  have h2 : Evolves s t2 := by
    unfold t2 old
    split
    · exact h1.cpuShow
    · exact h1
  split
  · exact h2.lockShow
  · exact h2.setLock.grantLock

theorem Evolves.abandonLock {k} (h : Evolves s t) : Evolves s (abandonLock k t) := by
  unfold Machine.abandonLock
  split
  · exact h
  · exact h.inc.raise.set.passLock

theorem Evolves.ownerCeases {o} (h : Evolves s t) : Evolves s (ownerCeases o t) := by
  unfold Machine.ownerCeases
  extract_lets _ t1
  have h1 : Evolves s t1 := h.foldl fun _ _ h => h.setLock.lockShow
  exact h1.foldl fun _ _ h => h.abandonLock

theorem Evolves.failWork {k status} (h : Evolves s t) : Evolves s (failWork k status t) := by
  unfold Machine.failWork
  extract_lets _ _ _ _ t1
  have h1 : Evolves s t1 := h.ownerCeases.setWork.cpuShow.wqShow
  split
  · exact h1.inc.flowOn
  · exact h1.releaseWork

theorem Evolves.loseWork {k status} (h : Evolves s t) : Evolves s (loseWork k status t) := by
  unfold Machine.loseWork
  extract_lets
  split
  · exact h.failWork
  · exact h.ownerCeases.inc.discardWork.cpuShow

theorem Evolves.coreRestart {core status} (h : Evolves s t) : Evolves s (coreRestart core status t) := by
  unfold Machine.coreRestart
  extract_lets t1
  have h1 : Evolves s t1 := by
    unfold t1
    split
    · exact h.loseWork
    · exact h
  exact h1.set

theorem Evolves.coreFunctionReset {u} (h : Evolves s t) : Evolves s (coreFunctionReset u t) := by
  unfold Machine.coreFunctionReset
  extract_lets _ t1
  have h1 : Evolves s t1 := h.foldl fun _ _ h => h.setWork
  exact h1.ownerCeases.setWorkRing.setAll

theorem Evolves.coreL2 (h : Evolves s t) : Evolves s (coreL2 t) := by
  unfold Machine.coreL2
  extract_lets _ t1 _ t2 _ t3
  have h1 : Evolves s t1 := h.foldl fun _ _ h => h.setLock.lockShow.lockReply
  have h2 : Evolves s t2 := h1.foldl fun _ _ h => h.loseWork
  have h3 : Evolves s t3 := h2.foldl fun _ _ h => h.abandonLock
  exact h3.foldl fun _ _ h => h.set

theorem Evolves.thymeResume (h : Evolves s t) : Evolves s (thymeResume t) := by
  unfold Machine.thymeResume
  extract_lets t1
  have h1 : Evolves s t1 := h.foldl fun _ _ h => h.releaseFlow
  exact h1.foldl fun _ _ h => h.releaseWork

theorem Evolves.coreReclaim (h : Evolves s t) : Evolves s (coreReclaim t) := h.foldl fun _ _ h => h.reclaimOwner

/-! ### FrameCmd -/

theorem Evolves.tsiWriteOne {e} (h : Evolves s t) : Evolves s (tsiWriteOne t e) := by
  unfold Machine.tsiWriteOne
  extract_lets
  split <;> exact h.setFrame

theorem Evolves.commitTrib {n t' slot dest source vlan} (h : Evolves s t) : Evolves s (commitTrib n t' slot dest source vlan t) :=
  h.setFrame

/-! ### FrameOps -/

theorem Evolves.onField {a} {f : List Nat → State → State} (h : Evolves s t) (hf : ∀ a1 t, Evolves s t → Evolves s (f a1 t)) :
    Evolves s (onField a f t) := by
  unfold Machine.onField
  exact .ite (hf _ _ h) h

theorem Evolves.mapInForce {n map} (h : Evolves s t) : Evolves s (mapInForce n map t) := h.foldl fun _ _ h => by
    extract_lets
    exact .ite h.set (.ite h.set.hunt h)

theorem Evolves.applyMap {n map} (h : Evolves s t) : Evolves s (applyMap n map t) := h.foldl fun _ _ h => by
    extract_lets _ t1
    have h1 : Evolves s t1 := h.set
    exact .ite h1.hunt h1

theorem Evolves.pageSwap {n dir} (h : Evolves s t) : Evolves s (pageSwap n dir t) := by
  unfold Machine.pageSwap
  extract_lets _ t1
  have h1 : Evolves s t1 := .ite (h.setAll.foldl fun _ _ h => h.set) h.setAll
  exact h1.setFrame.raise

theorem Evolves.announceSwap {n dir m at_} (h : Evolves s t) : Evolves s (announceSwap n dir m at_ t) :=
  h.set.setFrame.when fun _ h => h.raise

theorem Evolves.agcFollow {n gain} (h : Evolves s t) : Evolves s (agcFollow n gain t) := by
  unfold Machine.agcFollow
  exact .ite h h.set

theorem Evolves.agcFreeze {n} (h : Evolves s t) : Evolves s (agcFreeze n t) := by
  unfold Machine.agcFreeze
  exact .ite h h.setAll

theorem Evolves.resetReplay {n} (h : Evolves s t) : Evolves s (resetReplay n t) := .beside h rfl rfl rfl
theorem Evolves.resetUnicastReplay {n} (h : Evolves s t) : Evolves s (resetUnicastReplay n t) := .beside h rfl rfl rfl

/-! ### HostOps -/

theorem Evolves.setLane {l f} (h : Evolves s t) : Evolves s (State.setLane l f t) := .beside h rfl rfl rfl

theorem Evolves.hostEvent {x code ws} (h : Evolves s t) : Evolves s (hostEvent x code ws t) := by
  unfold Machine.hostEvent
  extract_lets t1
  have h1 : Evolves s t1 := h.raise
  exact .ite h1.msix h1

theorem Evolves.laneOut {x what} (h : Evolves s t) : Evolves s (laneOut x what t) := h.emit
theorem Evolves.showPause {x} (h : Evolves s t) : Evolves s (showPause x t) := h.setAll
theorem Evolves.unpause {x p} (h : Evolves s t) : Evolves s (unpause x p t) := h.setHp.showPause

theorem Evolves.endOverride {x p reason} (h : Evolves s t) : Evolves s (endOverride x p reason t) := by
  unfold Machine.endOverride
  exact .ite h h.setHp.unpause.hostEvent

theorem Evolves.cutRx {x} (h : Evolves s t) : Evolves s (cutRx x t) := h.foldl fun _ _ h => h.failItem

theorem Evolves.cutTx {x} (h : Evolves s t) : Evolves s (cutTx x t) := by
  unfold Machine.cutTx
  split
  · exact h
  · exact h.inc.endOnPort

theorem Evolves.leaveUp {x} (h : Evolves s t) : Evolves s (leaveUp x t) := by
  unfold Machine.leaveUp
  extract_lets _ t1
  have h1 : Evolves s t1 := h.cutRx.cutTx.foldl fun _ _ h => h.endOverride
  exact h1.setAll.setHp

theorem Evolves.setLink {x new} (h : Evolves s t) : Evolves s (setLink x new t) := h.setAll.setHp.foldl fun _ _ h => h.set
theorem Evolves.toTraining {x} (h : Evolves s t) : Evolves s (toTraining x t) := .laneOut (.setLink (h.foldl fun _ _ h => h.setLane.setAll))
theorem Evolves.negotiate {x} (h : Evolves s t) : Evolves s (negotiate x t) := h.laneOut.emit

theorem Evolves.leaveWait {x} (h : Evolves s t) : Evolves s (leaveWait x t) := by
  unfold Machine.leaveWait
  extract_lets
  exact .ite (.toTraining (h.when fun _ h => h.negotiate)) h

theorem Evolves.toWait {x} (h : Evolves s t) : Evolves s (toWait x t) := h.setLink.laneOut.leaveWait

theorem Evolves.linkDown {x cause} (h : Evolves s t) : Evolves s (linkDown x cause t) := by
  unfold Machine.linkDown
  extract_lets _ t1
  have h1 : Evolves s t1 := .ite h.leaveUp h
  exact .ite h1.inc.setHp.hostEvent h

theorem Evolves.toDisabled {x cause flush} (h : Evolves s t) : Evolves s (toDisabled x cause flush t) := by
  unfold Machine.toDisabled
  extract_lets _ _ t1
  have h1 : Evolves s t1 := h.linkDown.cutRx.setLink.laneOut.setHp.set
  exact .ite h (.ite h1.startFlush h1)

theorem Evolves.admin {x} (h : Evolves s t) : Evolves s (admin x t) := by
  unfold Machine.admin
  exact .ite h.set.toWait h

theorem Evolves.toFrt {x began lost} (h : Evolves s t) : Evolves s (toFrt x began lost t) := h.leaveUp.inc.setLink.setHp.laneOut
theorem Evolves.frtFallback {x why} (h : Evolves s t) : Evolves s (frtFallback x why t) := h.inc.hostEvent.linkDown.toTraining

theorem Evolves.callsDue {x} (h : Evolves s t) : Evolves s (callsDue x t) := .markIdle (h.foldl fun _ _ h => by
    exact .ite h.pauseDue (h))

theorem Evolves.toUp {x} (h : Evolves s t) : Evolves s (toUp x t) := by
  unfold Machine.toUp
  extract_lets _ _ t1 t2
  have h1 : Evolves s t1 := h.setLink.laneOut.set.setHp
  have h2 : Evolves s t2 := .ite h1.inc.hostEvent h1.hostEvent
  exact h2.callsDue

theorem Evolves.controlFrame {x bytes} (h : Evolves s t) : Evolves s (controlFrame x bytes t) := by
  unfold Machine.controlFrame
  exact .ite h.inc (h.when fun _ h => h.inc)

theorem Evolves.receiveFrame {x part bytes} (h : Evolves s t) : Evolves s (receiveFrame x part bytes t) := by
  unfold Machine.receiveFrame
  refine .ite h.controlFrame ?_
  refine .ite h.inc ?_
  split
  next _ u1 e =>
    have h1 : Evolves s u1 := .ofSnd h.inject e
    exact h1.newItem

theorem Evolves.startTx {c timed part} (h : Evolves s t) : Evolves s (startTx c timed part t) := by
  unfold Machine.startTx
  extract_lets _ _ _ _ _ _ _ _ _ t1
  have h1 : Evolves s t1 := h.setSw.setCopy.countStart.when fun _ h => h.emit
  exact h1.markIdle

/-! ### TimeCmd -/

theorem Evolves.commitTimeConfig {es} (h : Evolves s t) : Evolves s (commitTimeConfig es t) :=
  .clk10Enable (.updateValid (h.wApplyAll.setTime.foldl fun _ _ h => by
    extract_lets _ t1
    have h1 : Evolves s t1 := h.setDomain
    exact .ite h (.ite h1.setDomainState.stop (h1.setDomainState.start))))

theorem Evolves.noteSelect (h : Evolves s t) : Evolves s (noteSelect t) := by
  unfold Machine.noteSelect
  exact h.setTime

theorem Evolves.execTimeSet {q d seconds} (h : Evolves s t) : Runs s (execTimeSet q d seconds t) :=
  ⟨_, rfl, h.single fun _ h => .res h.setDomain⟩

theorem Evolves.hostMeasure {d phase freq locked} (h : Evolves s t) : Evolves s (hostMeasure d phase freq locked t) := by
  unfold Machine.hostMeasure
  extract_lets t1 _ _ _ t2 _ t3 t4
  have h1 : Evolves s t1 := h.setI.start
  have h2 : Evolves s t2 := .setDomain (.ite h1.setDomain.domainStep h1.moveDomain)
  have h3 : Evolves s t3 := h1.setDomain.moveDomain.setDomain
  have h4 : Evolves s t4 := h1.setDomain.setDomainState
  split
  · exact .ite h2.setDomainState h2
  · refine .ite h1.setDomainState.domainStep.setDomain ?_
    exact .ite h3 h3.setDomainState
  · exact .setDomain (.ite h4.domainStep h4.moveDomain)
  · exact h1

theorem Evolves.execTimePulse {q es} (h : Evolves s t) : Runs s (execTimePulse q es t) :=
  ⟨_, rfl, h.single fun _ h => .res (.ite h.setPulse h.takePulse)⟩

theorem Evolves.execTimeTsRead {q x} (h : Evolves s t) : Runs s (execTimeTsRead q x t) := ⟨_, rfl, h.single fun _ h => by
    extract_lets
    exact .res h.setTime⟩

/-! ### FaultOps -/

theorem Evolves.setFault {f} (h : Evolves s t) : Evolves s (t.setFault f) := .beside h rfl rfl rfl
theorem Evolves.queueShow (h : Evolves s t) : Evolves s (queueShow t) := h.setAll

theorem Evolves.enterReport {r} (h : Evolves s t) : Evolves s (enterReport r t) := by
  unfold Machine.enterReport
  extract_lets
  refine .ite h.setFault ?_
  split
  · refine .ite h.setFault ?_
    exact .ite h.setFault h.inc
  · exact h.setFault.inc

theorem Evolves.makeEntry {source level detail escalated captured} (h : Evolves s t) :
    Evolves s (makeEntry source level detail escalated captured t) := by
  unfold Machine.makeEntry
  extract_lets _ t1
  have h1 : Evolves s t1 := .ite h.setFault.raise h
  split
  · exact h.setFault.inc
  · split
    next u2 _ e =>
      have h2 : Evolves s u2 := .ofFst h1.recordNow e
      extract_lets _ t3
      have h3 : Evolves s t3 := h2.inc.enterReport.queueShow
      exact .ite h3.msix h3

theorem Evolves.discardPipe {p} (h : Evolves s t) : Evolves s (discardPipe p t) := h.foldl fun _ _ h => h.recoveryDrop

theorem Evolves.l1Effect {part unit} (h : Evolves s t) : Evolves s (l1Effect part unit t) := by
  unfold Machine.l1Effect
  exact .ite h.coreRestart.cpuShow (.ite h.discardJobs (.ite h.discardPipe (.ite h.cutOff.txDark h)))

theorem Evolves.lineL2 {n} (h : Evolves s t) : Evolves s (lineL2 n t) := by
  unfold Machine.lineL2
  extract_lets _ _ t1
  have h1 : Evolves s t1 := h.huntAll.agcUnfreeze.carrierSet
  exact .txDark (.cutOff (.ite h1.downstreamLoss h1))

theorem Evolves.abandonCommands (h : Evolves s t) : Evolves s (abandonCommands t) := by
  unfold Machine.abandonCommands
  extract_lets _ _ _ t1 _ t2
  have h1 : Evolves s t1 := h.foldl fun _ _ h => h.setLock.lockShow.lockReply
  have h2 : Evolves s t2 := h1.setCmd.foldl fun _ _ h => h.complete
  exact h2.foldl fun _ _ h => .complete (.res h)

theorem Evolves.l2Start {c} (h : Evolves s t) : Evolves s (l2Start c t) := by
  unfold Machine.l2Start
  extract_lets _ _ t1 t2
  have h1 : Evolves s t1 := h.foldl fun _ _ h => h.failItem
  have h2 : Evolves s t2 := h1.set
  refine .ite h.lineL2 ?_
  refine .ite h.discardPipe.setCls ?_
  refine .ite (h.foldl fun _ _ h => h.toDisabled) ?_
  refine .ite h.discardJobs ?_
  refine .ite h.flushAll ?_
  refine .ite ?_ ?_
  · exact .ite h2.setTbl h2.set.setTbl
  · refine .ite h.coreL2.cpuShowAll ?_
    exact .ite h.abandonCommands.set.set h

theorem Evolves.l2End {c} (h : Evolves s t) : Evolves s (l2End c t) := by
  unfold Machine.l2End
  extract_lets
  refine .ite (h.foldl fun _ _ h => by split; exacts [h.startFlush, h.startFlush.admin]) ?_
  exact .ite h.startFlush (.ite h.startFlush.coreReclaim (.ite h.reclaimOwner.reclaimOwner h))

theorem Evolves.withdrawAcks {c} (h : Evolves s t) : Evolves s (withdrawAcks c t) := h.setCmd

theorem Evolves.startRecovery {part unit level source} (h : Evolves s t) : Evolves s (startRecovery part unit level source t) := by
  unfold Machine.startRecovery
  extract_lets _ _ _ _ _ t1
  have h1 : Evolves s t1 := h.setFault.foldl fun _ _ h => h.set
  exact .ite h (.ite h.setFault.set.inc.raise.l1Effect h1.inc.raise.tailFlush.withdrawAcks.l2Start)

theorem Evolves.savoryOff (h : Evolves s t) : Evolves s (savoryOff t) := by
  unfold Machine.savoryOff
  extract_lets _ t1 t2
  have h1 : Evolves s t1 := h.foldl fun _ _ h => h.setAll.raise
  have h2 : Evolves s t2 := h1.foldl fun _ _ h => h.set
  exact .beside h2.setAll rfl rfl rfl

theorem Evolves.portSafe {x} (h : Evolves s t) : Evolves s (portSafe x t) := by
  unfold Machine.portSafe
  extract_lets
  exact .ite h.cutRx.cutTx.setHp.laneOut h.toDisabled

theorem Evolves.terminalSafe {n} (h : Evolves s t) : Evolves s (terminalSafe n t) := by
  unfold Machine.terminalSafe
  extract_lets t1
  have h1 : Evolves s t1 := h.abandonPresence.clearProfiles.cutOff.txDark
  exact .ite h1 h1.setTree

theorem Evolves.enterL3 {source} (h : Evolves s t) : Evolves s (enterL3 source t) := by
  unfold Machine.enterL3
  extract_lets waiting _ _ _ t1 t2 t3 t4
  have h1 : Evolves s t1 := h.setFault.setAll.inc.tailFlush.raise.foldl fun _ _ h => h.terminalSafe
  have h2 : Evolves s t2 := h1.foldl fun _ _ h => h.portSafe
  have h3 : Evolves s t3 := h2.foldl fun _ _ h => h.pulseLow
  have h4 : Evolves s t4 := h3.flushAll.savoryOff
  unfold waiting
  split
  · exact .complete (.res h4)
  · exact h4

theorem Evolves.escalate {part old new cause} (h : Evolves s t) : Evolves s (escalate part old new cause t) := h.inc.raise

theorem Evolves.occurrenceLevel {source} (h : Evolves s t) : Evolves s (occurrenceLevel source t).1 := by
  unfold Machine.occurrenceLevel
  extract_lets
  split
  · exact .fst h
  · split
    extract_lets
    exact .fst h.setFault

theorem Evolves.report {source detail captured} (h : Evolves s t) : Evolves s (report source detail captured t) := by
  unfold Machine.report
  extract_lets t1
  have h1 : Evolves s t1 := h.setFault
  refine .ite h1 ?_
  split
  next u2 _ e =>
    have h2 : Evolves s u2 := .ofFst h1.occurrenceLevel e
    extract_lets _ t3
    have h3 : Evolves s t3 := h2.setAll
    refine .ite h2.makeEntry ?_
    refine .ite (.makeEntry (.ite h2.setFault h2)) ?_
    split
    extract_lets t4 _ t5
    have h4 : Evolves s t4 := .makeEntry (.ite h3.setFault h3)
    have h5 : Evolves s t5 := h4.when fun _ h => h.escalate
    exact .ite h5.enterL3 h5.startRecovery

theorem Evolves.releaseSafe (h : Evolves s t) : Evolves s (releaseSafe t) := by
  unfold Machine.releaseSafe
  extract_lets waiting _ t1 t2 t3 t4
  have h1 : Evolves s t1 := h.setFault.set.foldl fun _ _ h => .admin (.ite h.toDisabled h)
  have h2 : Evolves s t2 := h1.foldl fun _ _ h => by
    extract_lets
    exact .ite (h.setTree.when fun _ h => h.startSearch) h
  have h3 : Evolves s t3 := h2.foldl fun _ _ h => h.pulseResume
  have h4 : Evolves s t4 := h3.thymeResume.raise
  unfold waiting
  split
  · exact .complete (.res h4)
  · exact h4

theorem Evolves.endRecovery {r} (h : Evolves s t) : Evolves s (endRecovery r t) := by
  unfold Machine.endRecovery
  extract_lets _ _ _ _ _ t1 t2 t3 _ _ t4
  have h1 : Evolves s t1 := h.setFault.foldl fun _ _ h => h.setAll
  have h2 : Evolves s t2 := .ite h1.reclaimOwner h1
  have h3 : Evolves s t3 := by
    unfold t3
    split
    · exact .cpuShowAll (.raise (.ite h2.l2End h2))
    · exact .raise (.ite h2.l2End h2)
  have h4 : Evolves s t4 := h3.setFault.foldl fun _ _ h => h.complete
  exact .ite h4.releaseSafe h4

theorem Evolves.reportUnit {part type detail captured} (h : Evolves s t) : Evolves s (reportUnit part type detail captured t) := h.report

/-! ### BootOps -/

theorem Evolves.pinsShow (h : Evolves s t) : Evolves s (pinsShow t) := h.setAll

theorem Evolves.deviceReset (h : Evolves s t) : Evolves s (deviceReset t) := by
  unfold Machine.deviceReset
  extract_lets t1 _ t2 _ t3 t4
  have h1 : Evolves s t1 := h.foldl fun _ _ h => h.cutOff.txDark
  have h2 : Evolves s t2 := .afresh h1 rfl rfl rfl
  have h3 : Evolves s t3 := .when (h2.set.pinsShow.foldl fun _ _ h => h.emit) fun _ h => h.emit
  have h4 : Evolves s t4 := h3.foldl fun _ _ h => h.emit
  exact h4.foldl fun _ _ h => by
    exact .ite h.set.bayPresent.bayTripOn h

theorem Evolves.bootBegin (h : Evolves s t) : Evolves s (bootBegin t) := .beside h.setAll rfl rfl rfl
theorem Evolves.recorderStart (h : Evolves s t) : Evolves s (recorderStart t) := h.setEvt.setAll.evtShow.evtStart.evtMake.recordAll

theorem Evolves.restartReady (h : Evolves s t) : Evolves s (restartReady t) := by
  unfold Machine.restartReady
  exact .ite h.deviceReset.bootBegin h

theorem Evolves.restartOrder {kind} (h : Evolves s t) : Evolves s (restartOrder kind t) := by
  unfold Machine.restartOrder
  extract_lets _ t1
  have h1 : Evolves s t1 := .beside h rfl rfl rfl
  exact h1.journalClose.tailFlush

/-! ### PwrOps -/

theorem Evolves.pmbusSend {addr code value} (h : Evolves s t) : Evolves s (pmbusSend addr code value t) := h.emit

theorem Evolves.voutCommand {p} (h : Evolves s t) : Evolves s (voutCommand p t) := by
  unfold Machine.voutCommand
  exact .ite h.pmbusSend h

theorem Evolves.switchPoint {p} (h : Evolves s t) : Evolves s (switchPoint p t) := h.set.inc

theorem Evolves.startDvfs {p} (h : Evolves s t) : Evolves s (startDvfs p t) := by
  unfold Machine.startDvfs
  extract_lets
  exact .ite h (.ite h.set.switchPoint.voutCommand (.ite h h.setAll.voutCommand.setPower))

theorem Evolves.applyDvfs {p} (h : Evolves s t) : Evolves s (applyDvfs p t) := by
  unfold Machine.applyDvfs
  exact .ite h.setPower (.ite h.startDvfs h)

theorem Evolves.endTransition (h : Evolves s t) : Evolves s (endTransition t) := by
  unfold Machine.endTransition
  extract_lets _ t1
  have h1 : Evolves s t1 := h.set.setPower
  exact .ite h1 h1.applyDvfs

theorem Evolves.finishRaise (h : Evolves s t) : Evolves s (finishRaise t) := by
  unfold Machine.finishRaise
  extract_lets
  exact .ite h.endTransition (.ite h.switchPoint.endTransition h)

theorem Evolves.dvfsSetting (h : Evolves s t) : Evolves s (dvfsSetting t) := by
  unfold Machine.dvfsSetting
  split <;> exact h.applyDvfs

theorem Evolves.refreshDraining (h : Evolves s t) : Evolves s (refreshDraining t) := by
  unfold Machine.refreshDraining
  exact .ite h h.set

theorem Evolves.refreshIdle (h : Evolves s t) : Evolves s (refreshIdle t) := by
  unfold Machine.refreshIdle
  exact h.setPower

theorem Evolves.gateClusters (h : Evolves s t) : Evolves s (gateClusters t) := h.set

theorem Evolves.lowerForStandby (h : Evolves s t) : Evolves s (lowerForStandby t) := by
  unfold Machine.lowerForStandby
  extract_lets _ t1
  have h1 : Evolves s t1 := h.set.setPower
  exact .ite (h1.when fun _ h => h.voutCommand) h1.startDvfs

theorem Evolves.ungateClusters (h : Evolves s t) : Evolves s (ungateClusters t) := h.set.dvfsSetting

theorem Evolves.powerDownD1 (h : Evolves s t) : Evolves s (powerDownD1 t) := by
  unfold Machine.powerDownD1
  extract_lets t1
  have h1 : Evolves s t1 := h.foldl fun _ _ h => by
    extract_lets t2
    have h2 : Evolves s t2 := h.abandonPresence.clearProfiles.cutOff.txDark
    exact .ite h2 h2.setTree
  exact .flushAll (h1.foldl fun _ _ h => h.toDisabled)

theorem Evolves.powerDownD2 (h : Evolves s t) : Evolves s (powerDownD2 t) := h.journalClose.tailFlush

theorem Evolves.powerBack (h : Evolves s t) : Evolves s (powerBack t) := by
  unfold Machine.powerBack
  extract_lets t1
  have h1 : Evolves s t1 := h.foldl fun _ _ h => h.admin
  exact h1.foldl fun _ _ h => by
    extract_lets
    exact .ite (h.setTree.when fun _ h => h.startSearch) h

theorem Evolves.beginPowerDown (h : Evolves s t) : Evolves s (beginPowerDown t) := h.setPower.setPowerState.powerDownD1

theorem Evolves.beginStandby (h : Evolves s t) : Evolves s (beginStandby t) := by
  unfold Machine.beginStandby
  extract_lets t1
  have h1 : Evolves s t1 := h.setPower
  exact .ite h1 h1.setPowerState

theorem Evolves.portsResume (h : Evolves s t) : Evolves s (portsResume t) := h.foldl fun _ _ h => h.when fun _ h => h.startSearch

theorem Evolves.takeRequest (h : Evolves s t) : Evolves s (takeRequest t) := by
  unfold Machine.takeRequest
  extract_lets
  refine .ite h ?_
  split
  · exact h.beginPowerDown
  · refine .ite h.beginStandby ?_
    exact .ite h.setPower h
  · exact .ite h.leaveStandby h.setPower
  · exact h

theorem Evolves.powerUp (h : Evolves s t) : Evolves s (powerUp t) := by
  unfold Machine.powerUp
  extract_lets _ _ t1
  have h1 : Evolves s t1 := .emit (.beside h rfl rfl rfl)
  exact h1.setPower.setPowerState

theorem Evolves.reachOff (h : Evolves s t) : Evolves s (reachOff t) := by
  unfold Machine.reachOff
  extract_lets _ _ t1
  have h1 : Evolves s t1 := h.setPower.deviceReset.setAll
  exact .ite h1.powerUp h1

theorem Evolves.onRequest (h : Evolves s t) : Evolves s (onRequest t) := by
  unfold Machine.onRequest
  extract_lets
  refine .ite h.powerUp ?_
  refine .ite h.leaveStandby ?_
  split
  · exact h.setPower
  · split <;> exact h.setPower

theorem Evolves.offRequest (h : Evolves s t) : Evolves s (offRequest t) := by
  unfold Machine.offRequest
  extract_lets
  split
  · exact h.beginPowerDown
  · split <;> exact h.setPower

theorem Evolves.standbyRequest (h : Evolves s t) : Evolves s (standbyRequest t) := by
  unfold Machine.standbyRequest
  extract_lets
  split
  · exact h.beginStandby
  · split <;> exact h.setPower

/-! ### CiphCmd -/

theorem Evolves.keyLoadOne {q persist e} (h : Evolves s t) : Evolves s (keyLoadOne q persist t e).1 := by
  unfold Machine.keyLoadOne
  extract_lets
  split
  · exact .fst h
  · split
    · split
      · exact .fst h
      · split
        · exact .fst h
        · exact .fst h.setKeySlot
    · extract_lets t1
      have h1 : Evolves s t1 := h.touchSlot
      split
      · exact .fst h
      · split
        · exact .fst h1.setKeySlot
        · exact .fst h1

theorem Evolves.keyDeriveOne {q persist e} (h : Evolves s t) : Evolves s (keyDeriveOne q persist t e).1 := by
  unfold Machine.keyDeriveOne
  extract_lets
  split
  · exact .fst h
  · split
    · exact .fst h
    · split
      · exact .fst h
      · exact .fst h.setKeySlot

theorem Evolves.effCiphKeyClear {q slots} (h : Evolves s t) : Evolves s (effCiphKeyClear q slots t) := h.bestEffort fun _ _ h => by
    split
    · exact .fst h.setKeySlot
    · exact .fst h

theorem Evolves.effCiphTreeSecret {q n persist clear wrap blob} (h : Evolves s t) :
    Evolves s (effCiphTreeSecret q n persist clear wrap blob t) :=
  h.single fun _ h => by
    extract_lets t1
    have h1 : Evolves s t1 := h.touchSlot
    split
    · exact .res h.setSecret
    · split
      · exact .res h
      · split
        · exact .res h1.setSecret
        · exact .res h1

theorem Evolves.commitLineKey {es} (h : Evolves s t) : Evolves s (commitLineKey es t) :=
  h.wApplyAll.setCipher.foldl fun _ _ h => h.foldl fun _ _ h => by
    extract_lets t1 t2
    have h1 : Evolves s t1 := .ite h.keyFound h
    have h2 : Evolves s t2 := .ite h1.keyFound h1
    exact .ite h2.keyFound h2

theorem Evolves.effCiphInbandKey {q es} (h : Evolves s t) : Evolves s (effCiphInbandKey q es t) := h.single fun _ h => by
    extract_lets
    split
    · exact .res h
    · exact .res h.wApplyAll.set

theorem Evolves.hostJob {c q slot use param} {go : Nat → State → Result} (h : Evolves s t)
    (hf : ∀ a1 t, Evolves s t → Evolves s (go a1 t).state) :
    Evolves s (hostJob c q slot use param go t) :=
  h.single fun _ h => by
    split
    · exact h
    · split
      · exact h
      · exact hf _ _ h.touchSlot.wakeCipher

theorem Evolves.jobWindows {q src dst len} {go : State → Result} (h : Evolves s t) (hf : ∀ t, Evolves s t → Evolves s (go t).state) :
    Evolves s (jobWindows q src dst len go t).state := by
  unfold Machine.jobWindows
  split
  · exact h.inc
  · exact hf _ h

theorem Evolves.effCiphOpen {q slot iv src dst aad data tag} (h : Evolves s t) : Evolves s (effCiphOpen q slot iv src dst aad data tag t) :=
  h.hostJob fun _ _ h => by
    extract_lets
    exact h.jobWindows fun _ h => by
      split
      · exact .res h.emit
      · exact .res h.inc

theorem Evolves.effCiphCmac {q slot src data verify} (h : Evolves s t) : Evolves s (effCiphCmac q slot src data verify t) :=
  h.hostJob fun _ _ h => by
    extract_lets
    split
    · exact .res h.inc
    · split <;> exact .res h

theorem Evolves.effCiphCacheFlush {q} (h : Evolves s t) : Evolves s (effCiphCacheFlush q t) := h.single fun _ h => by
    extract_lets
    exact .res h.setCipher.set

/-! ### StoreCmd -/

theorem Evolves.storeBody {f : State → Result} (h : Evolves s t) (hf : ∀ t, Evolves s t → Evolves s (f t).state) :
    Evolves s (storeBody f t).state := by
  unfold Machine.storeBody
  split
  · exact h
  · exact hf _ h

theorem Evolves.programSlot {slot first n} (h : Evolves s t) : Evolves s (programSlot slot first n t) := by
  induction n generalizing t first with
  | zero => exact h
  | succ n ih => exact ih (.startOp (h.when fun _ h => h.blockErased))

theorem Evolves.effStoreImageWrite {q offset data} (h : Evolves s t) : Evolves s (effStoreImageWrite q offset data t) :=
  h.single fun _ h => h.storeBody fun _ h => by
    extract_lets _ _ t1
    have h1 : Evolves s t1 := h.when fun _ h => h.anchorWrite
    split
    · exact .res h
    · exact .res h1.setNand.setStore.setAll.programSlot

theorem Evolves.effStoreImageVerify {q} (h : Evolves s t) : Evolves s (effStoreImageVerify q t) :=
  h.single fun _ h => h.storeBody fun _ h => by
    extract_lets _ t1
    have h1 : Evolves s t1 := h.pagesRead
    split
    · exact .res h
    · split
      · exact .res h1.set
      · exact .res h1

theorem Evolves.effStoreImageActivate {q} (h : Evolves s t) : Evolves s (effStoreImageActivate q t) :=
  h.single fun _ h => h.storeBody fun _ h => by
    extract_lets
    exact .res h.anchorWrite.setAll

theorem Evolves.blowVersion {n} (h : Evolves s t) : Evolves s (blowVersion n t) := .beside h rfl rfl rfl

theorem Evolves.effStoreImageConfirm {q} (h : Evolves s t) : Evolves s (effStoreImageConfirm q t) :=
  h.single fun _ h => h.storeBody fun _ h => by
    extract_lets
    exact .res h.anchorWrite.blowVersion

theorem Evolves.effStoreInfo {q} (h : Evolves s t) : Evolves s (effStoreInfo q t) := h.single fun _ h => h.storeBody fun _ h => by
    extract_lets
    exact .res h

theorem Evolves.effStoreScrub {q} (h : Evolves s t) : Evolves s (effStoreScrub q t) := h.single fun _ h => h.storeBody fun _ h => by
    extract_lets
    exact .res h.setStore.set

theorem Evolves.formatStore (h : Evolves s t) : Evolves s (formatStore t) := by
  unfold Machine.formatStore
  extract_lets _ _ _ _ _ _ t1 t2 _ t3 _ t4 t5 _ _ t6 t7
  have h1 : Evolves s t1 := h.foldl fun _ _ h => h.blockErased
  have h3 : Evolves s t3 := h1.setNand.setNand
  have h4 : Evolves s t4 := h3.beside rfl rfl rfl
  have h5 : Evolves s t5 := h4.foldl fun _ _ h => h.setTerm
  have h6 : Evolves s t6 := .anchorShow (h5.bump.set.setAll.foldl fun _ _ h => h.devShow)
  have h7 : Evolves s t7 := .ite (h6.foldl fun _ _ h => by
    split
    · exact h
    · exact h.journalAdd) h6
  exact .ite h7 h7.recorderStart

theorem Evolves.effStoreFormat {q mask} (h : Evolves s t) : Evolves s (effStoreFormat q mask t) :=
  h.single fun _ h => h.storeBody fun _ h => by
    split
    · exact h
    · exact h.formatStore

theorem Evolves.effStorePageRead {q dev page} (h : Evolves s t) : Evolves s (effStorePageRead q dev page t) := h.checked fun _ h => by
    exact .ite h.reject h.startOp

theorem Evolves.effStorePageProgram {q dev page data} (h : Evolves s t) : Evolves s (effStorePageProgram q dev page data t) :=
  h.checked fun _ h => by
    refine .ite h.reject ?_
    split
    · exact h.reject
    · exact h.startOp

theorem Evolves.effStoreBlockErase {q dev block} (h : Evolves s t) : Evolves s (effStoreBlockErase q dev block t) := h.checked fun _ h => by
    refine .ite h.reject ?_
    split
    · exact h.reject
    · exact h.startOp

/-! ### TreeCmd -/

theorem Evolves.effTreeJoin {q n} (h : Evolves s t) : Evolves s (effTreeJoin q n t) := h.single fun _ h => by
    extract_lets
    exact .res (h.setTerm.setTree.when fun _ h => h.startSearch)

theorem Evolves.execTreeLeave {q n} (h : Evolves s t) : Runs s (execTreeLeave q n t) := ⟨_, rfl, h.single fun _ h => by
    extract_lets t1
    have h1 : Evolves s t1 := h.setTerm
    exact .res (.ite h1 h1.abandonPresence.clearProfiles.setTree)⟩

theorem Evolves.hostDarkChanged {n op before} (h : Evolves s t) : Evolves s (hostDarkChanged n op before t) := by
  unfold Machine.hostDarkChanged
  extract_lets
  exact .ite h.darkArises (.ite h.darkMayEnd h)

theorem Evolves.execTreeMsgRead {q n} (h : Evolves s t) : Runs s (execTreeMsgRead q n t) := ⟨_, rfl, h.single fun _ h => by
    extract_lets
    exact .res h.setFrame⟩

/-! ### BootEvt -/

theorem Evolves.markDoubt {w} (h : Evolves s t) : Evolves s (markDoubt w t) := h.set

theorem Evolves.doubtWord {d} (h : Evolves s t) : Evolves s (doubtWord d t) := by
  unfold Machine.doubtWord
  split
  extract_lets _ _ _ t1 _ t2 t3 t4
  have h1 : Evolves s t1 := .ite h.took h
  have h2 : Evolves s t2 := .beside h1 rfl rfl rfl
  have h3 : Evolves s t3 := h2.markDoubt.set
  have h4 : Evolves s t4 := .ite h3.set h3
  exact h4.raise

theorem Evolves.bootFuses {b} (h : Evolves s t) : Evolves s (bootFuses b t) := by
  unfold Machine.bootFuses
  extract_lets _ t1 t2 t3 _ t4
  have h1 : Evolves s t1 := .beside h rfl rfl rfl
  have h2 : Evolves s t2 := h1.foldl fun _ _ h => h.doubtWord
  have h3 : Evolves s t3 := h2.foldl fun _ _ h => by
    exact .ite h h.set
  have h4 : Evolves s t4 := h3.set.foldl fun _ _ h => h.setAll
  exact h4.setCipher.set.setAll.took.foldl fun _ _ h => h.set.reportUnit

theorem Evolves.bootStore {b} (h : Evolves s t) : Evolves s (bootStore b t) := h.setNand.setAll.foldl fun _ _ h => h.devShow

theorem Evolves.toRescue {reason} (h : Evolves s t) : Evolves s (toRescue reason t) := by
  unfold Machine.toRescue
  extract_lets t1
  have h1 : Evolves s t1 := h.setAll
  exact .ite h1.recorderStart h1

theorem Evolves.pinStoreKeys (h : Evolves s t) : Evolves s (pinStoreKeys t) := by
  unfold Machine.pinStoreKeys
  exact .ite h h.setCipher.bump

theorem Evolves.bootAnchor (h : Evolves s t) : Evolves s (bootAnchor t) := by
  unfold Machine.bootAnchor
  extract_lets _ _ _ _ t1
  have h1 : Evolves s t1 := h.pinStoreKeys.set.anchorShow
  exact .ite h1.toRescue (.ite h1.toRescue (.ite h1.toRescue (.ite h1.toRescue (.ite h1.toRescue h1.set))))

theorem Evolves.revertImage {reason} (h : Evolves s t) : Evolves s (revertImage reason t) := h.anchorWrite.set

theorem Evolves.bootTrial (h : Evolves s t) : Evolves s (bootTrial t) := by
  unfold Machine.bootTrial
  extract_lets
  exact .ite h (.ite h.anchorWrite h.revertImage)

theorem Evolves.enterImage {slot} (h : Evolves s t) : Evolves s (enterImage slot t) := h.setAll

theorem Evolves.bootImage (h : Evolves s t) : Evolves s (bootImage t) := by
  unfold Machine.bootImage
  extract_lets
  split
  next u1 _ e =>
    have h1 : Evolves s u1 := .ofFst (.fst h.pagesRead) e
    extract_lets
    refine .ite h1.enterImage ?_
    refine .ite ?_ h1.toRescue
    split
    next u2 _ e =>
      have h2 : Evolves s u2 := .ofFst (.fst h1.revertImage.pagesRead) e
      exact .ite h2.enterImage h2.toRescue

theorem Evolves.bootJournal (h : Evolves s t) : Evolves s (bootJournal t) := by
  unfold Machine.bootJournal
  extract_lets _ _ _ _ _ t1 t2
  have h1 : Evolves s t1 := h.pagesRead.took.setAll.setCipher.foldl fun _ _ h => h.set
  have h2 : Evolves s t2 := h1.foldl fun _ _ h => h.set
  exact .ite h2.setCls h2

theorem Evolves.bootPower (h : Evolves s t) : Evolves s (bootPower t) := h.setAll.dvfsSetting.flushAll
theorem Evolves.bootPn {n} (h : Evolves s t) : Evolves s (bootPn n t) := h.setAll.set.effPnReserve

theorem Evolves.bootSettings (h : Evolves s t) : Evolves s (bootSettings t) := by
  unfold Machine.bootSettings
  extract_lets _ _ t1
  have h1 : Evolves s t1 := .foldl (.beside h rfl rfl rfl) fun _ _ h => h.bootPn
  exact h1.foldl fun _ _ h => by
    exact .ite h.effTreeJoin h

theorem Evolves.bootDone (h : Evolves s t) : Evolves s (bootDone t) := by
  unfold Machine.bootDone
  extract_lets _ _ _ _ t1
  have h1 : Evolves s t1 := h.setAll.raise.raise.when fun _ h => h.raise
  exact h1.setPower.setCmd.takeRequest

theorem Evolves.bootStep {b n} (h : Evolves s t) : Evolves s (bootStep b n t) := by
  unfold Machine.bootStep
  split
  · exact h.bootFuses
  · exact h.bootStore
  · exact h.bootAnchor
  · exact h.bootTrial
  · exact h.bootImage
  · exact h.set.recorderStart
  · exact h.bootJournal
  · exact h.bootPower
  · exact h.bootSettings

theorem Evolves.effBootPhase {b} (h : Evolves s t) : Evolves s (effBootPhase b t) := by
  unfold Machine.effBootPhase
  extract_lets _ t1
  have h1 : Evolves s t1 := h.bootStep.set
  exact .ite h (.ite h.bootDone (.ite h.bootDone (.ite h1.beginPowerDown h1)))

theorem Evolves.effFuseReread {temp doubt} (h : Evolves s t) : Evolves s (effFuseReread temp doubt t) := by
  unfold Machine.effFuseReread
  extract_lets _ _ _ _ t1 t2
  have h1 : Evolves s t1 := h.set.foldl fun _ _ h => h.markDoubt.raise
  have h2 : Evolves s t2 := h1.set
  refine .ite h ?_
  split
  · exact h1
  · refine .ite h1 ?_
    exact .ite h2 h2.setCipher.raise

theorem Evolves.flushReplies (h : Evolves s t) : Evolves s (flushReplies t) := by
  unfold Machine.flushReplies
  extract_lets
  exact .ite h (h.setEvt.foldl fun _ _ h => .complete (.res h))

theorem Evolves.journalGoOn (h : Evolves s t) : Evolves s (journalGoOn t) := by
  unfold Machine.journalGoOn
  extract_lets
  exact .ite h.journalClose h

theorem Evolves.journalDurable {recs} (h : Evolves s t) : Evolves s (journalDurable recs t) := by
  unfold Machine.journalDurable
  extract_lets _ t1 _ t2
  have h1 : Evolves s t1 := .beside h rfl rfl rfl
  have h2 : Evolves s t2 := .ite h1.setNand h1
  exact h2.checkpoint.journalGoOn

theorem Evolves.taskDone {t'} (h : Evolves s t) : Evolves s (taskDone t' t) := by
  unfold Machine.taskDone
  split
  · exact h.setNand.evtShow.evtStart
  · exact h.setNand.evtShow.flushReplies
  · exact h.journalDurable
  · exact h.setNand.anchorShow.foldl fun _ _ h => .beside h rfl rfl rfl
  · exact h

theorem Evolves.taskAgain {o lb} (h : Evolves s t) : Evolves s (taskAgain o lb t) := by
  unfold Machine.taskAgain
  split
  · exact h.programNext
  · exact h.programNext
  · exact h.programNext
  · exact h.startOp
  · split <;> exact h.startOp

theorem Evolves.rawFailed {c q} (h : Evolves s t) : Evolves s (rawFailed c q t) := h.took.complete

theorem Evolves.programDone {o e} (h : Evolves s t) : Evolves s (programDone o e t) := by
  unfold Machine.programDone
  extract_lets _ t1 t2
  have h1 : Evolves s t1 := h.inc.raise
  have h2 : Evolves s t2 := by
    unfold t2
    split
    · exact h1.refreshBlock
    · exact h1
  exact .ite h2.taskAgain (.ite h.retireBlock.taskAgain h.bump.bump.levelWear.taskDone)

theorem Evolves.pageLost {lp} (h : Evolves s t) : Evolves s (pageLost lp t) := by
  unfold Machine.pageLost
  extract_lets
  exact .ite h.setNand (.ite h (.ite h.setNand.evtShow (.ite h.setNand.evtShow (.ite h.setNand.evtShow h.setTbl))))

theorem Evolves.rawErased {dev block} (h : Evolves s t) : Evolves s (rawErased dev block t) := by
  unfold Machine.rawErased
  extract_lets _ t1
  have h1 : Evolves s t1 := h.blockErased
  split
  · exact h1.pageLost.pageLost
  · exact h1

theorem Evolves.effNandOperationDone {k e} (h : Evolves s t) : Evolves s (effNandOperationDone k e t) := by
  unfold Machine.effNandOperationDone
  extract_lets _ t1
  have h1 : Evolves s t1 := h.setStore
  split
  · exact h
  · extract_lets
    split
    · refine .ite h ?_
      exact .ite (.restartReady (.complete (.res h1.rawErased))) h1.retireBlock.rawFailed.restartReady
    · exact .restartReady (.complete (.res h1.inc))
    · exact .restartReady (.ite (.complete (.res h1.inc)) (.ite h1.retireBlock.rawFailed (.complete (.res h1.inc.setNand))))
    · exact h1.programDone.restartReady

theorem Evolves.effJournalPageTimer (h : Evolves s t) : Evolves s (effJournalPageTimer t) := by
  unfold Machine.effJournalPageTimer
  exact .ite h.journalClose h

theorem Evolves.effPatrolRead {dev page e} (h : Evolves s t) : Evolves s (effPatrolRead dev page e t) := by
  unfold Machine.effPatrolRead
  extract_lets
  refine .ite h ?_
  split
  next _ u1 e =>
    have h1 : Evolves s u1 := .ofSnd h.inject e
    extract_lets _ _ lb t2 t3
    have h2 : Evolves s t2 := h1.pageRead
    have h3 : Evolves s t3 := .ite (by
      unfold lb
      split
      · exact h2.pageLost
      · exact h2) h2
    split
    · exact h3.setStore.set
    · exact h3

/-! ### BpmCmd -/

theorem Evolves.commitPoolConfig {es} (h : Evolves s t) : Evolves s (commitPoolConfig es t) := by
  unfold Machine.commitPoolConfig
  extract_lets _ t1
  have h1 : Evolves s t1 := h.wApplyAll.foldl fun _ _ h => h.setPool.poolBalance
  exact .ite h1 h1.setSw

theorem Evolves.allocMany {p owner n u as} (h : Evolves s t) (e : allocMany p owner n t = some (u, as)) : Evolves s u := by
  induction n generalizing t as with
  | zero => cases e; exact h
  | succ n ih =>
    unfold Machine.allocMany at e
    split at e
    next v a hv =>
      obtain ⟨⟨w, bs⟩, hw, e⟩ := Option.map_eq_some_iff.1 e
      cases e
      exact ih (.ofFst h.bpmAlloc hv) hw
    · cases e

theorem Evolves.effBpmAlloc {q pool count} (h : Evolves s t) : Evolves s (effBpmAlloc q pool count t) := h.single fun _ h => by
    split
    · next u1 _ e =>
        have h1 : Evolves s u1 := .allocMany h e
        exact h1
    · exact h.inc

theorem Evolves.bpmFail {owner row addr} (h : Evolves s t) : Evolves s (bpmFail owner row addr t) := h.inc.raise.reportUnit

theorem Evolves.bpmOne {owner addr target} (h : Evolves s t) : Evolves s (bpmOne owner addr target t).1 := by
  unfold Machine.bpmOne
  split
  · exact .fst h
  · split
    · exact .fst h.bpmFail
    · split
      · exact .fst h.bpmPass
      · exact .fst h.bpmPut

/-! ### ClsCmd -/

theorem Evolves.parserWriteOne {e} (h : Evolves s t) : Evolves s (parserWriteOne t e) := by
  unfold Machine.parserWriteOne
  split
  · exact .ite h.setCls h
  · exact h

theorem Evolves.ruleSet {i r} (h : Evolves s t) : Evolves s (ruleSet i r t) := h.setCls

theorem Evolves.ruleWriteOne {clear e} (h : Evolves s t) : Evolves s (ruleWriteOne clear t e).1 := by
  unfold Machine.ruleWriteOne
  extract_lets
  split
  · exact .fst (h.ruleSet.when fun _ h => h.setCls)
  · exact .fst h

theorem Evolves.ruleDeleteOne {e} (h : Evolves s t) : Evolves s (ruleDeleteOne t e).1 := by
  unfold Machine.ruleDeleteOne
  extract_lets
  split
  · exact .fst h.ruleSet
  · exact .fst h

theorem Evolves.effClsFlip {q} (h : Evolves s t) : Evolves s (effClsFlip q t) := by
  unfold Machine.effClsFlip
  extract_lets t1
  have h1 : Evolves s t1 := h.atomicCmd
  exact .ite (h1.foldl fun _ _ h => h.undoze) h1

theorem Evolves.commitClsFlip (h : Evolves s t) : Evolves s (commitClsFlip t) := by
  unfold Machine.commitClsFlip
  extract_lets _ t1
  have h1 : Evolves s t1 := h.foldl fun _ _ h => h.setCls.setAll
  exact h1.raise

/-! ### CoreCmd -/

theorem Evolves.wqConfigOne {e} (h : Evolves s t) : Evolves s (wqConfigOne t e).1 := by
  unfold Machine.wqConfigOne
  extract_lets
  split
  · exact .fst h
  · split
    · exact .fst h
    · exact .fst h.wApply

theorem Evolves.effCoreRingConfig {q subBase subLog2 resBase resLog2 irq} (h : Evolves s t) :
    Evolves s (effCoreRingConfig q subBase subLog2 resBase resLog2 irq t) :=
  h.single fun _ h => by
    extract_lets
    exact .res h.setWorkRing.setAll

theorem Evolves.acquire {o req lock waitUs} (h : Evolves s t) : Evolves s (acquire o req lock waitUs t) := by
  unfold Machine.acquire
  extract_lets
  split
  · exact h.grantLock
  · refine .ite h.lockReply ?_
    exact .ite h.lockReply h.setLock.inc.lockShow

theorem Evolves.lockChecked {c q o lock} {go : LockOwner → Option Req → State → State} (h : Evolves s t)
    (hf : ∀ a1 a2 t, Evolves s t → Evolves s (go a1 a2 t)) :
    Evolves s (lockChecked c q o lock go t) := by
  unfold Machine.lockChecked
  split
  · exact h.checked fun _ h => hf _ _ _ h
  · exact .ite (hf _ _ _ h) h
  · exact .ite (hf _ _ _ h) h

theorem Evolves.effLockRelease {q o lock} (h : Evolves s t) : Evolves s (effLockRelease q o lock t) := h.lockChecked fun _ _ _ h => by
    extract_lets _ t1
    have h1 : Evolves s t1 := .ite h.passLock h
    split
    · exact .complete (.res h1)
    · exact h1

/-! ### PipeEvt -/

theorem Evolves.classException {k c} (h : Evolves s t) : Evolves s (classException k c t) := h.takeDecision

theorem Evolves.probeFails {k e} (h : Evolves s t) : Evolves s (probeFails k e t) := by
  unfold Machine.probeFails
  exact h.emSet.raise.reportUnit.takeDecision

theorem Evolves.forwardItem {k klen upset} (h : Evolves s t) : Evolves s (forwardItem k klen upset t) := by
  unfold Machine.forwardItem
  extract_lets _ _ _ _ _ t1
  have h1 : Evolves s t1 := .ite h.setItem h
  split
  · exact h.probeFails
  · split
    extract_lets
    exact .ite h1.setItem h1.takeDecision

theorem Evolves.effParse {k p upset} (h : Evolves s t) : Evolves s (effParse k p upset t) := by
  unfold Machine.effParse
  extract_lets _ t1 _ _ _ t2 _ _ _ t3
  have h1 : Evolves s t1 := h.undoze
  have h2 : Evolves s t2 := h1.setItem
  have h3 : Evolves s t3 := h2.setItem
  refine .ite h.recoveryDrop ?_
  refine .ite h ?_
  refine .ite h1.setItem.takeDecision ?_
  split
  · exact h2.takeDecision
  · refine .ite h2.classException ?_
    split
    · exact h3.setItem.classException
    · exact h3.setItem.forwardItem

theorem Evolves.effHbmReadReturn {k ok} (h : Evolves s t) : Evolves s (effHbmReadReturn k ok t) := by
  unfold Machine.effHbmReadReturn
  extract_lets
  refine .ite h ?_
  split
  next _ u1 e =>
    have h1 : Evolves s u1 := .ofSnd h.inject e
    extract_lets _ t2 t3
    have h2 : Evolves s t2 := h1.when fun _ h => h.reportUnit
    have h3 : Evolves s t3 := h2.foldl fun _ _ h => h.dropCopy
    refine .ite h2.raise.failItem ?_
    split
    extract_lets
    exact .ite h2.setItem.takeDecision.passPoint (.ite h3.setItem.takeDecision h2.setItem.passPoint)

theorem Evolves.effReplicaCheck {upset} (h : Evolves s t) : Evolves s (effReplicaCheck upset t) := by
  unfold Machine.effReplicaCheck
  extract_lets _ _ _ t1 t2
  have h1 : Evolves s t1 := h.setCls
  have h2 : Evolves s t2 := .raise (h1.foldl fun _ _ h => h.inc)
  exact .ite h (.ite h1 h2.reportUnit)

theorem Evolves.effBankCopyDone (h : Evolves s t) : Evolves s (effBankCopyDone t) := h.foldl fun _ _ h => by
    extract_lets
    exact .ite h.setCls.set h

theorem Evolves.effBankLoad {p} (h : Evolves s t) : Evolves s (effBankLoad p t) := by
  unfold Machine.effBankLoad
  extract_lets t1
  have h1 : Evolves s t1 := by
    unfold t1
    split
    · exact h.setCls.setAll
    · exact h
  exact .ite h h1.setCls

theorem Evolves.effExcRefill (h : Evolves s t) : Evolves s (effExcRefill t) := by
  unfold Machine.effExcRefill
  exact .ite h (h.setCls.foldl fun _ _ h => h.setCls)

theorem Evolves.effLearnHoldExpiry (h : Evolves s t) : Evolves s (effLearnHoldExpiry t) := by
  unfold Machine.effLearnHoldExpiry
  exact h.setTbl

theorem Evolves.effLearnHeadWrite {v} (h : Evolves s t) : Evolves s (effLearnHeadWrite v t) := by
  unfold Machine.effLearnHeadWrite
  extract_lets t1
  have h1 : Evolves s t1 := h.set
  exact .ite h1.setTbl h1

theorem Evolves.effFilterRebuilt (h : Evolves s t) : Evolves s (effFilterRebuilt t) := by
  unfold Machine.effFilterRebuilt
  extract_lets
  exact .ite h h.setTbl.setAll.raise

theorem Evolves.effSnapshotDone {ok status} (h : Evolves s t) : Evolves s (effSnapshotDone ok status t) := by
  unfold Machine.effSnapshotDone
  extract_lets t1
  have h1 : Evolves s t1 := h.setTbl.set
  refine .ite h ?_
  split
  · exact h
  · extract_lets
    exact .ite h1.setTbl.setAll.raise h1.raise

theorem Evolves.loadSnapshot (h : Evolves s t) : Evolves s (loadSnapshot t) := by
  unfold Machine.loadSnapshot
  split
  · exact h.raise
  · split
    · exact h.raise
    · extract_lets
      exact .ite h.raise (.ite h.raise h.setTbl.setAll.raise)

theorem Evolves.effRestored (h : Evolves s t) : Evolves s (effRestored t) := by
  unfold Machine.effRestored
  exact .ite h h.loadSnapshot.set.setCls

/-! ### FaultCmd -/

theorem Evolves.effEvtRead {q fromSeq max} (h : Evolves s t) : Evolves s (effEvtRead q fromSeq max t) := h.single fun _ h => by
    extract_lets
    split
    · exact .res h
    · exact .res h.recordAll.pagesRead.took.setEvt

theorem Evolves.effEvtHostRecord {q code ws tail} (h : Evolves s t) : Evolves s (effEvtHostRecord q code ws tail t) :=
  h.single fun _ h => by
    extract_lets
    split <;> exact .res h.recordAll.evtMake

theorem Evolves.effEvtFlush {q} (h : Evolves s t) : Evolves s (effEvtFlush q t) := h.checked fun _ h => by
    extract_lets t1
    have h1 : Evolves s t1 := h.recordAll
    exact .ite h1.reject (.ite (.complete (.res h1)) h1.tailFlush.setEvt)

theorem Evolves.effFltReportRead {q max} (h : Evolves s t) : Evolves s (effFltReportRead q max t) := h.single fun _ h => by
    extract_lets _ t1
    have h1 : Evolves s t1 := .ite h h.setFault.queueShow
    exact .res h1

theorem Evolves.resumeStart {q} (h : Evolves s t) : Evolves s (resumeStart q t) := by
  unfold Machine.resumeStart
  extract_lets _ _ _ t1
  have h1 : Evolves s t1 := h.setFault.setAll
  exact .ite h1.releaseSafe (h1.foldl fun _ _ h => h.startRecovery)

theorem Evolves.clocksBack (h : Evolves s t) : Evolves s (clocksBack t) := by
  unfold Machine.clocksBack
  extract_lets t1
  have h1 : Evolves s t1 := h.took
  exact .ite h (.ite h1.clkBack h1)

theorem Evolves.effFltRecoverResume {q} (h : Evolves s t) : Evolves s (effFltRecoverResume q t) := h.checked fun _ h => by
    extract_lets t1
    have h1 : Evolves s t1 := h.clocksBack
    exact .ite h1.setFault (.ite h1.reject h1.resumeStart)

theorem Evolves.resumeNext (h : Evolves s t) : Evolves s (resumeNext t) := by
  unfold Machine.resumeNext
  refine .ite h ?_
  split
  · exact h
  · extract_lets t1
    have h1 : Evolves s t1 := h.setFault
    exact .ite h1.reject h1.resumeStart

theorem Evolves.recoverRestart {q kind} (h : Evolves s t) : Evolves s (recoverRestart q kind t) := h.single fun _ h => h.restartOrder

theorem Evolves.effFltRecoverCluster {q part} (h : Evolves s t) : Evolves s (effFltRecoverCluster q part t) := h.checked fun _ h => by
    extract_lets t1
    have h1 : Evolves s t1 := h.setFault
    split
    · exact .ite h1 h1.escalate.startRecovery
    · exact h1.startRecovery

/-! ### PwrCmd -/

theorem Evolves.effPwrIdleConfig {q es} (h : Evolves s t) : Evolves s (effPwrIdleConfig q es t) := h.single fun _ h => by
    extract_lets
    exact .res (h.wApplyAll.foldl fun _ _ h => by
      exact .ite h.set (h))

theorem Evolves.railRead {r} (h : Evolves s t) : Evolves s (railRead r t) := by
  unfold Machine.railRead
  extract_lets
  exact .ite h h.pmbusSend.pmbusSend.pmbusSend.set.took.set.took.set.took

theorem Evolves.effPwrTelemetry {q} (h : Evolves s t) : Evolves s (effPwrTelemetry q t) := by
  unfold Machine.effPwrTelemetry
  refine h.single fun t h => ?_
  extract_lets t1
  have h1 : Evolves s t1 := h.foldl fun _ _ h => h.railRead
  clear_value t1
  have h2 : Evolves s { t1 with fresh := t1.fresh + 12 } := .beside h1 rfl rfl rfl
  exact h2

/-! ### PwrEvt -/

theorem Evolves.effPowerGood (h : Evolves s t) : Evolves s (effPowerGood t) := by
  unfold Machine.effPowerGood
  extract_lets _ t1
  have h1 : Evolves s t1 := .pinsShow (.beside h rfl rfl rfl)
  exact .ite h (.ite h1 h1.setPower.bootBegin)

theorem Evolves.effRailTimeout (h : Evolves s t) : Evolves s (effRailTimeout t) := by
  unfold Machine.effRailTimeout
  extract_lets _ t1
  have h1 : Evolves s t1 := .emit (.beside h rfl rfl rfl)
  exact .ite h1.setPower.reachOff.inc h

theorem Evolves.effPwrGoodFall (h : Evolves s t) : Evolves s (effPwrGoodFall t) := by
  unfold Machine.effPwrGoodFall
  extract_lets _ t1
  have h1 : Evolves s t1 := .pinsShow (.beside h rfl rfl rfl)
  exact .ite h (.ite h1.report.resumeNext h1)

theorem Evolves.effVaonApply {straps mfg} (h : Evolves s t) : Evolves s (effVaonApply straps mfg t) := by
  unfold Machine.effVaonApply
  extract_lets _ t1
  have h1 : Evolves s t1 := .beside h rfl rfl rfl
  exact h1.setPower.deviceReset.set.powerUp

theorem Evolves.effSysResetAssert (h : Evolves s t) : Evolves s (effSysResetAssert t) := by
  unfold Machine.effSysResetAssert
  extract_lets _ _ t1
  have h1 : Evolves s t1 := .beside h rfl rfl rfl
  exact .ite h1 h1.setPower.deviceReset.setPower

theorem Evolves.effPfailAssert (h : Evolves s t) : Evolves s (effPfailAssert t) := by
  unfold Machine.effPfailAssert
  extract_lets _ _ t1 _ _ _ t2
  have h1 : Evolves s t1 := .pinsShow (.beside h rfl rfl rfl)
  have h2 : Evolves s t2 := h1.recordAll.raise.tailFlush.journalClose.foldl fun _ _ h => h.emit
  exact .ite h1 h2.set

theorem Evolves.effPfailRelease (h : Evolves s t) : Evolves s (effPfailRelease t) := by
  unfold Machine.effPfailRelease
  extract_lets _ t1
  have h1 : Evolves s t1 := .pinsShow (.beside h rfl rfl rfl)
  exact .ite (.takeRequest (.evtStart (h1.set.foldl fun _ _ h => h.emit))) h1.takeRequest

theorem Evolves.effDvfsLoadWindow {load} (h : Evolves s t) : Evolves s (effDvfsLoadWindow load t) := by
  unfold Machine.effDvfsLoadWindow
  extract_lets
  refine .ite h ?_
  refine .ite ?_ ?_
  · exact .ite h.startDvfs h
  · exact .ite (h.setPower.when fun _ h => h.startDvfs) h

theorem Evolves.effVoutPoll {mv status} (h : Evolves s t) : Evolves s (effVoutPoll mv status t) := by
  unfold Machine.effVoutPoll
  extract_lets _ t1 _ _ _ _ t2
  have h1 : Evolves s t1 := h.set
  have h2 : Evolves s t2 := h1.pmbusSend.when fun _ h => h.pmbusSend
  exact .ite h1 h2.setPower

theorem Evolves.effDvfsFail (h : Evolves s t) : Evolves s (effDvfsFail t) := by
  unfold Machine.effDvfsFail
  extract_lets
  exact .ite h.raise.voutCommand.endTransition h

theorem Evolves.effVcoreDroop {mv} (h : Evolves s t) : Evolves s (effVcoreDroop mv t) := by
  unfold Machine.effVcoreDroop
  extract_lets _ _ _ _ t1
  have h1 : Evolves s t1 := h.set.setPower
  exact .ite h (.ite h1 h1.inc.raise)

theorem Evolves.effThrottleEnd (h : Evolves s t) : Evolves s (effThrottleEnd t) := by
  unfold Machine.effThrottleEnd
  exact .ite h.set.setPower.finishRaise h

theorem Evolves.effPmbAlert (h : Evolves s t) : Evolves s (effPmbAlert t) := by
  unfold Machine.effPmbAlert
  extract_lets
  exact .ite (h.foldl fun _ _ h => h.pmbusSend) h

theorem Evolves.effIdleTimerExpiry (h : Evolves s t) : Evolves s (effIdleTimerExpiry t) := by
  unfold Machine.effIdleTimerExpiry
  extract_lets t1
  have h1 : Evolves s t1 := h.refreshIdle
  exact .ite h1.beginStandby h1

theorem Evolves.abandonStandby {phase cause} (h : Evolves s t) : Evolves s (abandonStandby phase cause t) :=
  h.inc.raise.setPower.setPowerState

theorem Evolves.effStandbyPhaseEnd (h : Evolves s t) : Evolves s (effStandbyPhaseEnd t) := by
  unfold Machine.effStandbyPhaseEnd
  extract_lets _ _ t1
  have h1 : Evolves s t1 := h.when fun _ h => h.ungateClusters
  refine .ite h ?_
  refine .ite ?_ ?_
  · refine .ite h.beginPowerDown ?_
    refine .ite h ?_
    refine .ite h.abandonStandby ?_
    refine .ite ?_ ?_
    · exact .ite h.set.journalClose h.abandonStandby
    · exact .ite h.set.gateClusters.lowerForStandby h.inc.setPowerState.takeRequest
  · refine .ite ?_ h
    exact .ite h.beginPowerDown (.ite h1.setPower.setPowerState.portsResume.takeRequest h1.set)

theorem Evolves.effPowerdownPhaseEnd (h : Evolves s t) : Evolves s (effPowerdownPhaseEnd t) := by
  unfold Machine.effPowerdownPhaseEnd
  extract_lets _ _ _ t1
  have h1 : Evolves s t1 := h.when fun _ h => h.setCls.ungateClusters
  refine .ite h ?_
  refine .ite ?_ ?_
  · refine .ite h ?_
    refine .ite h.setPower.setPowerState ?_
    refine .ite h.set.powerDownD2 ?_
    exact .ite h.set.gateClusters (.ite (.set (.emit (.beside h rfl rfl rfl))) (.ite h.set h.reachOff))
  · refine .ite ?_ h
    exact .ite h.beginPowerDown (.ite h1.setPower.setPowerState.powerBack.takeRequest h1.set)

theorem Evolves.effClusterDozeEntry {c arrival} (h : Evolves s t) : Evolves s (effClusterDozeEntry c arrival t) := by
  unfold Machine.effClusterDozeEntry
  extract_lets t1 _ t2
  have h1 : Evolves s t1 := h.refreshIdle
  have h2 : Evolves s t2 := h1.set.inc
  exact .ite h1 (.ite h1.inc (.ite h2.cpuShowAll h2))

theorem Evolves.effClusterDozeWake {c} (h : Evolves s t) : Evolves s (effClusterDozeWake c t) := by
  unfold Machine.effClusterDozeWake
  extract_lets t1
  have h1 : Evolves s t1 := h.set
  refine .ite ?_ h
  exact .ite h1.cpuShowAll h1

theorem Evolves.effClockLoss {domain inst'} (h : Evolves s t) : Evolves s (effClockLoss domain inst' t) := by
  unfold Machine.effClockLoss
  extract_lets _ _ _ _ t1
  have h1 : Evolves s t1 := h.clkShow.raise.setPower.when fun _ h => h.foldl fun _ _ h => h.start.bayPresent.bayTripOn
  exact h1.report.resumeNext

theorem Evolves.markOld (h : Evolves s t) : Evolves s (markOld t) := .beside h rfl rfl rfl

theorem Evolves.effDrainPoint (h : Evolves s t) : Evolves s (effDrainPoint t) := by
  unfold Machine.effDrainPoint
  extract_lets _ _ _ t1 t2 t3
  have h1 : Evolves s t1 := h.setAll.markOld.setPower.refreshDraining
  have h2 : Evolves s t2 := .ite h1.set.dvfsSetting h1
  have h3 : Evolves s t3 := .ite h2.setCls h2
  exact .ite h h3.raise

/-! ### SwCmd -/

theorem Evolves.recharge {m depth ks} (h : Evolves s t) : Evolves s (recharge m depth ks t) := by
  induction ks generalizing t depth with
  | nil => exact h
  | cons k r ih => exact ih h.setCopy

theorem Evolves.queueConfigOne {e} (h : Evolves s t) : Evolves s (queueConfigOne t e).1 := by
  unfold Machine.queueConfigOne
  extract_lets _ _ _ _ _ t1
  have h1 : Evolves s t1 := .ite h.recharge h
  split
  · exact .fst h
  · split
    · exact .fst h
    · exact .fst h1.setQueue.refreshShared.refreshShared

/-! ### HostCmd -/

theorem Evolves.effHostPortEnable {q x on} (h : Evolves s t) : Evolves s (effHostPortEnable q x on t) := h.single fun _ h => by
    extract_lets t1
    have h1 : Evolves s t1 := h.set
    exact .res (.ite h1.admin h1.toDisabled)

theorem Evolves.pauseFollow {before x} (h : Evolves s t) : Evolves s (pauseFollow before t x) := by
  unfold Machine.pauseFollow
  exact .ite h.setSw.markIdle (.ite h.callsDue h)

theorem Evolves.lpiFollow {x} (h : Evolves s t) : Evolves s (lpiFollow t x) := by
  unfold Machine.lpiFollow
  extract_lets _ t1
  have h1 : Evolves s t1 := .ite h.set.setHp h
  exact h1.when fun _ h => h.set

theorem Evolves.effHostWakeSend {q x us} (h : Evolves s t) : Evolves s (effHostWakeSend q x us t) := h.single fun _ h => by
    extract_lets
    exact .res h.set.setHp.laneOut

theorem Evolves.effHostEvtEnable {q x on} (h : Evolves s t) : Evolves s (effHostEvtEnable q x on t) :=
  h.single fun _ h => .res h.setHp

/-! ### SchedCmd -/

theorem Evolves.nodeTake {level n d parent mapped} (h : Evolves s t) : Evolves s (nodeTake level n d parent mapped t) := by
  unfold Machine.nodeTake
  exact h.setNodeAt

theorem Evolves.nodeWriteInner {level n d} (h : Evolves s t) : Evolves s (nodeWriteInner level n t d).1 := by
  unfold Machine.nodeWriteInner
  extract_lets
  split
  · exact .fst h
  · split
    · exact .fst h
    · exact .fst h.nodeTake

theorem Evolves.queueMapOne {q d} (h : Evolves s t) : Evolves s (queueMapOne q t d).1 := by
  unfold Machine.queueMapOne
  extract_lets
  split
  · exact .fst h
  · split
    · exact .fst h
    · exact .fst h.nodeTake

theorem Evolves.nodeWriteOne {e} (h : Evolves s t) : Evolves s (nodeWriteOne t e).1 := by
  unfold Machine.nodeWriteOne
  split
  · exact .fst h
  · exact h.queueMapOne
  · split
    · exact h.nodeWriteInner
    · exact .fst h

theorem Evolves.polWriteOne {reset e} (h : Evolves s t) : Evolves s (polWriteOne reset t e).1 := by
  unfold Machine.polWriteOne
  extract_lets
  split
  · exact .fst h
  · exact .fst h.setPolicer

theorem Evolves.polClearOne {e} (h : Evolves s t) : Evolves s (polClearOne t e).1 := by
  unfold Machine.polClearOne
  split
  · exact .fst h
  · exact .fst h.setPolicer

/-! ### Windows -/

theorem Evolves.regionRead {r} (h : Evolves s t) : Evolves s (regionRead r t) := by
  unfold Machine.regionRead
  exact .ite h.latchNow h

theorem Evolves.dumpSections {rs addr room} (h : Evolves s t) : Evolves s (dumpSections rs addr room t).1 := by
  induction rs generalizing t addr room with
  | nil => exact h
  | cons r rest ih =>
    unfold Machine.dumpSections
    extract_lets t1 ws n t2
    have h2 : Evolves s t2 := .ite h.regionRead h.regionRead.emit
    split
    · exact h
    · split
      · exact h2.inc
      · exact ih h2

/-! ### SysCmd -/

theorem Evolves.commitMode {m} (h : Evolves s t) : Evolves s (commitMode m t) := by
  unfold Machine.commitMode
  extract_lets _ t1
  have h1 : Evolves s t1 := h.setAll
  exact .ite h1 (.ite h.setAll.raise (.beside h1.setAll rfl rfl rfl))

theorem Evolves.commitWindows {fn pairs} (h : Evolves s t) : Evolves s (commitWindows fn pairs t) := by
  unfold Machine.commitWindows
  extract_lets t1
  have h1 : Evolves s t1 := h.foldl fun _ _ h => h.setAll
  exact h1.set

theorem Evolves.effSysStateDump {q addr cap} (h : Evolves s t) : Evolves s (effSysStateDump q addr cap t) := h.single fun _ h => by
    extract_lets
    exact .res h.dumpSections

theorem Evolves.commitPeer {es} (h : Evolves s t) : Evolves s (commitPeer es t) := h.wApplyAll.setAll.setCmd

/-! ### TblCmd -/

theorem Evolves.emInsertOne {tier replace e} (h : Evolves s t) : Evolves s (emInsertOne tier replace t e).1 := by
  unfold Machine.emInsertOne
  extract_lets
  split
  · exact h.emInsert
  · exact .fst h

theorem Evolves.effTblEmFind {q key} (h : Evolves s t) : Evolves s (effTblEmFind q key t) := h.single fun _ h => by split <;> exact .res h

theorem Evolves.lpmInsertOne {replace e} (h : Evolves s t) : Evolves s (lpmInsertOne replace t e).1 := by
  unfold Machine.lpmInsertOne
  split
  · exact h.lpmInsert
  · exact .fst h

theorem Evolves.lpmDeleteOne {e} (h : Evolves s t) : Evolves s (lpmDeleteOne t e).1 := by
  unfold Machine.lpmDeleteOne
  split
  · exact h.lpmDelete
  · exact .fst h

theorem Evolves.nhWriteOne {e} (h : Evolves s t) : Evolves s (nhWriteOne t e).1 := by
  unfold Machine.nhWriteOne
  split
  · exact .fst h.setTables.tblGen
  · exact .fst h

theorem Evolves.ecmpWriteOne {e} (h : Evolves s t) : Evolves s (ecmpWriteOne t e).1 := by
  unfold Machine.ecmpWriteOne
  extract_lets
  split
  · split
    · exact .fst h.setTables.tblGen
    · exact .fst h
  · split
    · exact .fst h.setTables.tblGen
    · exact .fst h

theorem Evolves.commitTblProfile {es} (h : Evolves s t) : Evolves s (commitTblProfile es t) := h.foldl fun _ _ h => h.wApply.tblGen
theorem Evolves.commitLearn {base hold} (h : Evolves s t) : Evolves s (commitLearn base hold t) := h.setTbl.tblGen.setAll
theorem Evolves.clearHits {ext ks} (h : Evolves s t) : Evolves s (clearHits ext ks t) := h.foldl fun _ _ h => h.emSet

theorem Evolves.effTblHitScan {q first count} (h : Evolves s t) : Evolves s (effTblHitScan q first count t) := h.single fun _ h => by
    extract_lets
    exact .res h.clearHits.clearHits

theorem Evolves.effTblSnapshot {q} (h : Evolves s t) : Evolves s (effTblSnapshot q t) := h.single fun _ h => by
    extract_lets
    exact .res h.setTbl.set

/-! ### CmdEvt -/

theorem Evolves.ringEnable {u} (h : Evolves s t) : Evolves s (ringEnable u t) := by
  unfold Machine.ringEnable
  exact .ite h h.setAll.setCmd

theorem Evolves.ringDisable {u} (h : Evolves s t) : Evolves s (ringDisable u t) := h.set.setCmd.set
theorem Evolves.effCmdRingEnable {u} (h : Evolves s t) : Evolves s (effCmdRingEnable u t) := h.ringEnable

theorem Evolves.effCmdRingDisable {u} (h : Evolves s t) : Evolves s (effCmdRingDisable u t) := by
  unfold Machine.effCmdRingDisable
  exact .ite h.ringDisable h

theorem Evolves.registerField {value p} (h : Evolves s t) : Evolves s (registerField value t p) := by
  unfold Machine.registerField
  split
  · exact .ite h.effCmdRingEnable h.effCmdRingDisable
  · exact h.directWrite.wakeBy
  · exact h.directWrite.wakeBy
  · exact h.effLearnHeadWrite
  · exact h.directWrite

theorem Evolves.effRegisterWrite {off value} (h : Evolves s t) : Evolves s (effRegisterWrite off value t) := by
  unfold Machine.effRegisterWrite
  exact .ite h (h.foldl fun _ _ h => h.registerField)

theorem Evolves.effInterruptClear {off value} (h : Evolves s t) : Evolves s (effInterruptClear off value t) := by
  unfold Machine.effInterruptClear
  exact .ite h (h.foldl fun _ _ h => h.directWrite)

theorem Evolves.ringFault {u which} (h : Evolves s t) : Evolves s (ringFault u which t) := h.inc.ringDisable.set.raise

theorem Evolves.effCmdSubmissionRead {u e h'} (h : Evolves s t) : Evolves s (effCmdSubmissionRead u e h' t) := by
  unfold Machine.effCmdSubmissionRead
  extract_lets _ _ _ t1 _ t2
  have h1 : Evolves s t1 := h.set
  have h2 : Evolves s t2 := h1.setCmd
  refine .ite h ?_
  refine .ite h.ringFault ?_
  refine .ite h1.setCmd.inc.reject ?_
  split
  · exact h2.reject
  · exact h2

theorem Evolves.completeRing {u t' r} (h : Evolves s t) : Evolves s (completeRing u t' r t) := by
  unfold Machine.completeRing
  extract_lets t1 _ _ _ t2 _ _ _ t3 _ _ t4
  have h1 : Evolves s t1 := h.setCmd
  have h2 : Evolves s t2 := .ite h1 h1.hostWrite
  have h3 : Evolves s t3 := h2.setCmd
  have h4 : Evolves s t4 := h3.emit.set
  exact .ite h1.set (.ite h3.ringFault (.ite h4.msix h4))

theorem Evolves.inbandReply {slot src tag r} (h : Evolves s t) : Evolves s (inbandReply slot src tag r t) :=
  .emit (h.when fun _ h => h.took)

theorem Evolves.effCommandCompletion (h : Evolves s t) : Evolves s (effCommandCompletion t) := by
  unfold Machine.effCommandCompletion
  split
  · exact h
  · extract_lets t1 t2
    have h1 : Evolves s t1 := h.setCmd
    have h2 : Evolves s t2 := by
      unfold t2
      split
      · split
        · exact h1.completeRing
        · exact h1
      · split
        · exact h1.setCmd.inbandReply
        · exact h1
      · exact h1.setCmd
      · exact h1
    exact h2.restartReady

theorem Evolves.inbandRefuse {slot t' h' status} (h : Evolves s t) : Evolves s (inbandRefuse slot t' h' status t) := by
  unfold Machine.inbandRefuse
  extract_lets
  exact .ite h.setCmd.reject h.inc.inc.historyAdd

theorem Evolves.effInbandCommand {x frame} (h : Evolves s t) : Evolves s (effInbandCommand x frame t) := by
  unfold Machine.effInbandCommand
  extract_lets _ _ _ _ _ _ _ _ _ t1
  have h1 : Evolves s t1 := h.set.setCmd
  refine .ite h ?_
  refine .ite h.inc.inbandRefuse ?_
  refine .ite h.inc.inbandRefuse ?_
  split
  · exact h1.reject
  · exact h1

theorem Evolves.effPeldelWrite {bytes} (h : Evolves s t) : Evolves s (effPeldelWrite bytes t) := by
  unfold Machine.effPeldelWrite
  extract_lets _ _ _ t1
  have h1 : Evolves s t1 := h.setCmd
  refine .ite h ?_
  refine .ite h.inc ?_
  split
  · exact h1.reject
  · exact h1

theorem Evolves.effPeldelRead (h : Evolves s t) : Evolves s (effPeldelRead t) := by
  unfold Machine.effPeldelRead
  refine .ite h.emit ?_
  split
  · exact h.emit
  · exact h.emit.setCmd

theorem Evolves.effPeldelAddressMatch (h : Evolves s t) : Evolves s (effPeldelAddressMatch t) := by
  unfold Machine.effPeldelAddressMatch
  extract_lets
  exact .ite h.wakeBy (.ite h.onRequest h)

theorem Evolves.commitRegs {es} (h : Evolves s t) : Evolves s (commitRegs es t) := h.wApplyAll.foldl fun _ _ h => h.pauseTest

theorem Evolves.commitAct {a} (h : Evolves s t) : Evolves s (commitAct a t) := by
  unfold Machine.commitAct
  split
  · exact h.commitRegs
  · exact h.commitTrib
  · exact h.commitClsFlip
  · exact h.commitTblProfile
  · exact h.commitLearn
  · exact h.commitLineKey
  · exact h.wApplyAll
  · exact h.commitMode
  · exact h.commitWindows
  · exact h.commitPeer
  · exact h.wApplyAll
  · exact h.commitTimeConfig
  · exact h.commitPoolConfig

theorem Evolves.effAtomicCommit {refused} (h : Evolves s t) : Evolves s (effAtomicCommit refused t) := by
  unfold Machine.effAtomicCommit
  split
  · exact h
  · extract_lets t1
    have h1 : Evolves s t1 := h.setCmd
    split
    · exact .complete (.res h1)
    · exact .complete (.res h1.commitAct)

theorem Evolves.effFenceReturn {k} (h : Evolves s t) : Evolves s (effFenceReturn k t) := by
  unfold Machine.effFenceReturn
  extract_lets t1
  have h1 : Evolves s t1 := h.setCmd
  split
  · exact h
  · extract_lets
    exact .ite (.complete (.res h1)) (.ite (.complete (.res h1)) h)

theorem Evolves.effMirrorRecordWrite (h : Evolves s t) : Evolves s (effMirrorRecordWrite t) := by
  unfold Machine.effMirrorRecordWrite
  split
  · exact h
  · extract_lets _ _ _ t1
    have h1 : Evolves s t1 := .ite h.emit h
    exact .ite h h1.emit.took.emit.inc.setCmd

theorem Evolves.effMirrorAreaWrite {rid seq op len checkOk} (h : Evolves s t) :
    Evolves s (effMirrorAreaWrite rid seq op len checkOk t) := by
  unfold Machine.effMirrorAreaWrite
  exact .ite h.inc h.setCmd

theorem Evolves.desync {cause seq} (h : Evolves s t) : Evolves s (desync cause seq t) := h.set.raise

theorem Evolves.effMirrorApply (h : Evolves s t) : Evolves s (effMirrorApply t) := by
  unfold Machine.effMirrorApply
  extract_lets
  refine .ite h ?_
  split
  · exact h
  · refine .ite h.set.setCmd ?_
    exact .ite h.desync (.ite h.desync h.set.setCmd)

theorem Evolves.effPeerPoll {completed} (h : Evolves s t) : Evolves s (effPeerPoll completed t) := by
  unfold Machine.effPeerPoll
  extract_lets t1
  have h1 : Evolves s t1 := h.start.emit
  exact .ite h (.ite h1.set.stop (.ite h1.start h1))

theorem Evolves.effPeerLost (h : Evolves s t) : Evolves s (effPeerLost t) := by
  unfold Machine.effPeerLost
  exact .ite h.set.stop.raise h

/-! ### SchedEvt -/

theorem Evolves.toMac {x c} (h : Evolves s t) : Evolves s (toMac x c t) := h.setSw.markIdle

theorem Evolves.recirculate {c} (h : Evolves s t) : Evolves s (recirculate c t) := by
  unfold Machine.recirculate
  exact h.newItem.setCopy

theorem Evolves.noBuffer {c} (h : Evolves s t) : Evolves s (noBuffer c t) := h.dropLone

theorem Evolves.toCores {c} (h : Evolves s t) : Evolves s (toCores c t) := by
  unfold Machine.toCores
  extract_lets
  split
  · next u1 e =>
      have h1 : Evolves s u1 := .ofFst h.bpmAlloc e
      exact h1.noBuffer
  · next u2 _ e =>
      have h2 : Evolves s u2 := .ofFst h.bpmAlloc e
      exact h2.bufWrite.setSw.setCopy

theorem Evolves.toHostMemory {c} (h : Evolves s t) : Evolves s (toHostMemory c t) := by
  unfold Machine.toHostMemory
  extract_lets
  split
  · next u1 e =>
      have h1 : Evolves s u1 := .ofFst h.bpmAlloc e
      exact h1.noBuffer
  · next u2 _ e =>
      have h2 : Evolves s u2 := .ofFst h.bpmAlloc e
      exact h2.took.bufWrite.bpmMoveTo.setCopy

theorem Evolves.chosenQueue {d} (h : Evolves s t) : Evolves s (chosenQueue d t).2 := h.selectQueue

theorem Evolves.consume {d c} (h : Evolves s t) : Evolves s (consume d c t) := by
  unfold Machine.consume
  exact .ite h.toMac (.ite h.recirculate (.ite h.toCores h.toHostMemory))

theorem Evolves.serve {d} (h : Evolves s t) : Evolves s (serve d t) := by
  unfold Machine.serve
  split
  · next u1 e =>
      have h1 : Evolves s u1 := .ofSnd h.chosenQueue e
      exact h1
  · next _ u2 e =>
      have h2 : Evolves s u2 := .ofSnd h.chosenQueue e
      split
      · next u3 e =>
          have h3 : Evolves s u3 := .ofFst h2.dequeue e
          exact h3
      · next u4 _ e =>
          have h4 : Evolves s u4 := .ofFst h2.dequeue e
          exact h4.consume

theorem Evolves.effSchedSelect {d} (h : Evolves s t) : Evolves s (effSchedSelect d t) := by
  unfold Machine.effSchedSelect
  exact .ite h.bucketsNow.serve h

theorem Evolves.effFrameDebit {k} (h : Evolves s t) : Evolves s (effFrameDebit k t) := by
  unfold Machine.effFrameDebit
  exact .ite h h.refillDue.debitFrame

/-! ### SwitchEvt -/

theorem Evolves.admitOne {a} (h : Evolves s t) : Evolves s (admitOne t a) := by
  unfold Machine.admitOne
  split
  extract_lets
  exact .ite h (.ite h.recoveryDrop h.admitItem)

theorem Evolves.effFlushDone {d} (h : Evolves s t) : Evolves s (effFlushDone d t) := by
  unfold Machine.effFlushDone
  extract_lets _ _ t1
  have h1 : Evolves s t1 := h.set.raise.setSw
  exact .ite h (.ite h1.setSw.set h1)

theorem Evolves.effDownFlushTimer {x} (h : Evolves s t) : Evolves s (effDownFlushTimer x t) := by
  unfold Machine.effDownFlushTimer
  extract_lets
  exact .ite h h.startFlush.set

theorem Evolves.setSage {f} (h : Evolves s t) : Evolves s (t.setSage f) := h.setSw

theorem Evolves.sageAt {cell hbm found} (h : Evolves s t) : Evolves s (sageAt cell hbm found t) := by
  unfold Machine.sageAt
  extract_lets
  split
  · exact h.setSage
  · refine .ite h.setSage.set ?_
    exact .ite h.setSage.set.inc.setSage h.setSage.setSage
  · exact h.setSage.setSage.set.inc.raise.reportUnit

theorem Evolves.sageNext {hbm} (h : Evolves s t) : Evolves s (sageNext hbm t) := by
  unfold Machine.sageNext
  extract_lets _ _ _ t1
  have h1 : Evolves s t1 := h.set.inc.setSage
  exact .ite h.set (.ite h1 h1.raise)

theorem Evolves.effSageExamine {sram hbm} (h : Evolves s t) : Evolves s (effSageExamine sram hbm t) := by
  unfold Machine.effSageExamine
  extract_lets
  exact .ite h h.sageAt.sageNext.sageAt.sageNext

theorem Evolves.prefetch {cs left} (h : Evolves s t) : Evolves s (prefetch cs left t) := by
  induction cs generalizing t left with
  | nil => exact h
  | cons c rest ih => exact .ite (ih h.setCopy) (ih h.setCopy)

theorem Evolves.effSpillPrefetch {q} (h : Evolves s t) : Evolves s (effSpillPrefetch q t) := by
  unfold Machine.effSpillPrefetch
  extract_lets
  exact .ite h.prefetch.respill h

theorem Evolves.effBpmReclaim {o} (h : Evolves s t) : Evolves s (effBpmReclaim o t) := by
  unfold Machine.effBpmReclaim
  exact .ite h.reclaimOwner h

theorem Evolves.effBpmAuditTimer (h : Evolves s t) : Evolves s (effBpmAuditTimer t) := by
  unfold Machine.effBpmAuditTimer
  extract_lets
  split
  · exact h
  · exact .ite h h.setSw.bpmAudit

theorem Evolves.effTxUnderrun {k ecc} (h : Evolves s t) : Evolves s (effTxUnderrun k ecc t) := by
  unfold Machine.effTxUnderrun
  extract_lets _ _ _ _ t1
  have h1 : Evolves s t1 := h.when fun _ h => h.reportUnit
  exact .ite h (.ite h1.countFor.endOnWire h1.dropLone)

/-! ### CoreEvt -/

theorem Evolves.admitCheck {u e st v} (h : Evolves s t) (he : admitCheck u e t = some (st, v)) : Evolves s v := by
  unfold Machine.admitCheck at he
  extract_lets _ hand at he
  clear_value hand
  split at he
  · exact .ofSnd h (Option.some.inj he)
  split at he
  · exact .ofSnd h (Option.some.inj he)
  split at he
  · exact .ofSnd h (Option.some.inj he)
  split at he
  · exact .ofSnd h.bpmFail (Option.some.inj he)
  split at he
  · exact .ofSnd h (Option.some.inj he)
  split at he
  · exact .ofSnd h (Option.some.inj he)
  · cases he

theorem Evolves.effSubmissionRead {u e} (h : Evolves s t) : Evolves s (effSubmissionRead u e t) := by
  unfold Machine.effSubmissionRead
  extract_lets _ _ t1
  have h1 : Evolves s t1 := h.set.setWorkRing
  refine .ite h ?_
  refine .ite h.inc ?_
  refine .ite h.inc ?_
  split
  · next _ u2 e =>
      have h2 : Evolves s u2 := .admitCheck h1 e
      exact h2.writeResult
  · exact .admitWork (.ite h1 h1.bpmMoveTo)

theorem Evolves.internalWork {w} (h : Evolves s t) : Evolves s (internalWork w t) := by
  unfold Machine.internalWork
  exact .ite h.dropInternal h.took.bpmMoveTo.admitWork

theorem Evolves.exceptionItem {c k} (h : Evolves s t) : Evolves s (exceptionItem c k t) := by
  unfold Machine.exceptionItem
  extract_lets
  split
  · next u1 e =>
      have h1 : Evolves s u1 := .ofFst h.took.bpmAlloc e
      exact h1.inc.dropItem
  · next u2 _ e =>
      have h2 : Evolves s u2 := .ofFst h.took.bpmAlloc e
      exact h2.bufWrite.dropItem.internalWork

theorem Evolves.coreFrame {sq k a len} (h : Evolves s t) : Evolves s (coreFrame sq k a len t) := h.internalWork
theorem Evolves.endDelivery {k ok} (h : Evolves s t) : Evolves s (endDelivery k ok t) := h.foldl fun _ _ h => h.setCopy

theorem Evolves.effInternalItem {exception} (h : Evolves s t) : Evolves s (effInternalItem exception t) := by
  unfold Machine.effInternalItem
  refine .ite ?_ ?_
  · split
    · exact h
    · extract_lets t1
      have h1 : Evolves s t1 := h.setCls
      exact .ite h1.inc.dropItem h1.exceptionItem
  · split
    · exact h
    · extract_lets t2
      have h2 : Evolves s t2 := h.setSw
      exact .ite h2.inc.bpmFreeAt.endDelivery h2.coreFrame.endDelivery

theorem Evolves.startOn {k core} (h : Evolves s t) : Evolves s (startOn k core t) := h.setWaiting.setWork.setCore.inc.wqShow.cpuShow

theorem Evolves.effCoreDispatch {core} (h : Evolves s t) : Evolves s (effCoreDispatch core t) := by
  unfold Machine.effCoreDispatch
  refine .ite h ?_
  split
  · exact h
  · split
    · exact h
    · exact h.startOn

theorem Evolves.beginSave {v k} (h : Evolves s t) : Evolves s (beginSave v k t) := h.setWork.inc.cpuShow
theorem Evolves.saveItem {k} (h : Evolves s t) : Evolves s (saveItem k t) := h.setWork.setWaiting.wqShow.cpuShow

theorem Evolves.effPreemption {k} (h : Evolves s t) : Evolves s (effPreemption k t) := by
  unfold Machine.effPreemption
  extract_lets
  split
  · extract_lets _ t1
    have h1 : Evolves s t1 := h.saveItem
    exact .ite h1.startOn h1
  · refine .ite h ?_
    split
    · exact h
    · exact h.beginSave

theorem Evolves.effItemEnd {k status outLen data frames} (h : Evolves s t) : Evolves s (effItemEnd k status outLen data frames t) := by
  unfold Machine.effItemEnd
  extract_lets _ _ _ _ t1
  have h1 : Evolves s t1 := h.ownerCeases.setWork.cpuShow.wqShow
  refine .ite h ?_
  split
  · exact h1.releaseWork
  · exact .flowOn (h1.when fun _ h => h.inc)

theorem Evolves.openWindow (h : Evolves s t) : Evolves s (openWindow t) := by
  unfold Machine.openWindow
  exact .ite h h.setAll

theorem Evolves.effItemTimeout {k} (h : Evolves s t) : Evolves s (effItemTimeout k t) := by
  unfold Machine.effItemTimeout
  extract_lets
  exact .ite h h.inc.raise.loseWork.openWindow.startRecovery

theorem Evolves.effLockWaitTimeout {lock} (h : Evolves s t) : Evolves s (effLockWaitTimeout lock t) := by
  unfold Machine.effLockWaitTimeout
  split
  · exact h
  · exact h.setLock.lockShow.lockReply

/-! ### FaultEvt -/

theorem Evolves.effRecoveryEnd {part} (h : Evolves s t) : Evolves s (effRecoveryEnd part t) := by
  unfold Machine.effRecoveryEnd
  split
  · exact h
  · exact h.endRecovery.resumeNext

theorem Evolves.effRecoveryTimeout {part} (h : Evolves s t) : Evolves s (effRecoveryTimeout part t) := by
  unfold Machine.effRecoveryTimeout
  split
  · exact h
  · extract_lets t1
    have h1 : Evolves s t1 := h.setFault
    refine .ite ?_ ?_
    · exact .ite h.escalate.startRecovery h
    · refine .ite h ?_
      exact .ite h1 h1.escalate.enterL3.resumeNext

theorem Evolves.effFaultWindowClose (h : Evolves s t) : Evolves s (effFaultWindowClose t) := by
  unfold Machine.effFaultWindowClose
  exact .ite h.setAll h

theorem Evolves.effTempWarn {sensor reading} (h : Evolves s t) : Evolves s (effTempWarn sensor reading t) := by
  unfold Machine.effTempWarn
  extract_lets _ _ t1 _ t2
  have h1 : Evolves s t1 := .beside h rfl rfl rfl
  have h2 : Evolves s t2 := .ite h1.setFault.raise (.ite h1.setFault h1)
  exact .ite h2.report.resumeNext h2

theorem Evolves.effLfHoldEnd (h : Evolves s t) : Evolves s (effLfHoldEnd t) := h.foldl fun _ _ h => by
    exact .ite h.toDisabled h

theorem Evolves.effEventRecord (h : Evolves s t) : Evolves s (effEventRecord t) := by
  unfold Machine.effEventRecord
  refine .ite h ?_
  split
  · exact h
  · exact .evtMake (.beside h rfl rfl rfl)

theorem Evolves.effEvtNotify (h : Evolves s t) : Evolves s (effEvtNotify t) := by
  unfold Machine.effEvtNotify
  extract_lets
  exact .ite (h.setEvt.when fun _ h => h.msix) h

/-! ### LineCmd -/

theorem Evolves.newNominal {n old new} (h : Evolves s t) : Evolves s (newNominal n old new t) := by
  unfold Machine.newNominal
  exact .ite h (.ite h.setLine.laserOutput (.ite h.sendFt h.startRetune))

theorem Evolves.execLineCapture {q n arm point sc trigger pre trigSf} (h : Evolves s t) :
    Runs s (execLineCapture q n arm point sc trigger pre trigSf t) :=
  ⟨_, rfl, h.single fun _ h => by
    extract_lets
    exact .res h.setAll.setLine⟩

/-! ### LineEvt -/

theorem Evolves.carrierLock {n offKHz} (h : Evolves s t) : Evolves s (carrierLock n offKHz t) := by
  unfold Machine.carrierLock
  extract_lets _ _ t1
  have h1 : Evolves s t1 := h.setLine
  refine .ite ?_ ?_
  · exact .ite h1.carrierSet.raise.lineIrq h1
  · exact .ite h1.carrierSet h1

theorem Evolves.effCfoMeasurement {n offKHz} (h : Evolves s t) : Evolves s (effCfoMeasurement n offKHz t) := by
  unfold Machine.effCfoMeasurement
  extract_lets _ _ _ _ _ _ t1
  have h1 : Evolves s t1 := h.setI.carrierLock.set.when fun _ h => h.raise.lineIrq
  exact .ite h1.sendFt h1

theorem Evolves.execDeferredFineTune {n} (h : Evolves s t) : Runs s (execDeferredFineTune n t) := by
  unfold Machine.execDeferredFineTune
  refine ⟨_, rfl, ?_⟩
  split
  · exact .ite h h.sendFt
  · exact h

theorem Evolves.effFineTuneAck {n} (h : Evolves s t) : Evolves s (effFineTuneAck n t) := by
  unfold Machine.effFineTuneAck
  split
  · exact h.setLine.setI.inc.when fun _ h => h.markMask
  · exact h

theorem Evolves.effSetFreqAck {n} (h : Evolves s t) : Evolves s (effSetFreqAck n t) := by
  unfold Machine.effSetFreqAck
  extract_lets
  split
  · extract_lets _ t1
    have h1 : Evolves s t1 := h.setLine.markMask
    exact .sendFt (.ite h1.lockLost.agcUnfreeze.lightLost h1)
  · exact h

theorem Evolves.effLaserFreqStable {n} (h : Evolves s t) : Evolves s (effLaserFreqStable n t) := by
  unfold Machine.effLaserFreqStable
  extract_lets t1
  have h1 : Evolves s t1 := h.setLine
  refine .ite ?_ h
  exact .ite h1 h1.startSearch

theorem Evolves.effLaserBusFail {n} (h : Evolves s t) : Evolves s (effLaserBusFail n t) := by
  unfold Machine.effLaserBusFail
  extract_lets t1
  have h1 : Evolves s t1 := h.inc
  split
  · exact h
  · exact .ite h1.setLine.emit h1.setLine.set.raise.start.lineIrq

theorem Evolves.effLaserBusPoll {n ok} (h : Evolves s t) : Evolves s (effLaserBusPoll n ok t) := by
  unfold Machine.effLaserBusPoll
  extract_lets t1 _ t2
  have h1 : Evolves s t1 := h.emit
  have h2 : Evolves s t2 := h1.stop.set.setLine
  refine .ite ?_ h
  refine .ite ?_ h1.inc.start
  exact .ite h2.startRetune h2.laserOutput.sendFt

theorem Evolves.effLossOfLight {n dBm10} (h : Evolves s t) : Evolves s (effLossOfLight n dBm10 t) := by
  unfold Machine.effLossOfLight
  extract_lets
  exact .ite h.set.inc.raise.lineIrq.lockLost.stop.captureCause.agcUnfreeze.lightLost h

theorem Evolves.effLightReturn {n dBm10} (h : Evolves s t) : Evolves s (effLightReturn n dBm10 t) := by
  unfold Machine.effLightReturn
  exact .ite h h.wakeBy.set.raise.lineIrq.start

theorem Evolves.setSearch {n p} (h : Evolves s t) : Evolves s (setSearch n t p) := h.setAll.setI

theorem Evolves.maybeReacquired {n} (h : Evolves s t) : Evolves s (maybeReacquired n t) := by
  unfold Machine.maybeReacquired
  exact .ite h.reacquired h

theorem Evolves.effDillPassEnd {n hyps} (h : Evolves s t) : Evolves s (effDillPassEnd n hyps t) := by
  unfold Machine.effDillPassEnd
  extract_lets t1 _ t2
  have h1 : Evolves s t1 := h.foldl fun _ _ h => h.setSearch
  have h2 : Evolves s t2 := h1.start
  refine .ite ?_ h
  split
  · extract_lets _ _ t3
    have h3 : Evolves s t3 := h1.setAll.when fun _ h => h.markMask
    exact .ite h3.setLine.stop.lineIrq.maybeReacquired h1.raise.lineIrq.start
  · exact .ite h2.setLine.raise.lineIrq h2

theorem Evolves.applyStep {n} (h : Evolves s t) : Evolves s (applyStep n t) := by
  unfold Machine.applyStep
  extract_lets
  exact .ite h.setAll.setLine.inc.raise.lineIrq.markMask h

theorem Evolves.replyAll {c n qs} (h : Evolves s t) : Evolves s (replyAll c n qs t) := h.foldl fun _ _ h => h.complete

theorem Evolves.applyCd {n} (h : Evolves s t) : Evolves s (applyCd n t) := by
  unfold Machine.applyCd
  split
  · exact h.setLine.setI.markMask.replyAll
  · exact h

theorem Evolves.applyEq {n} (h : Evolves s t) : Evolves s (applyEq n t) := by
  unfold Machine.applyEq
  split
  · exact h.setLine.markMask.replyAll
  · exact h

theorem Evolves.applySc {n p} (h : Evolves s t) : Evolves s (applySc n t p) := by
  unfold Machine.applySc
  extract_lets t1
  have h1 : Evolves s t1 := h.foldl fun _ _ h => by
    extract_lets _ t2
    have h2 : Evolves s t2 := h.set.markSc
    exact .ite h (.ite h2 h2.hunt)
  exact h1.replyAll

theorem Evolves.effSettlingWindowEnd {n sc} (h : Evolves s t) : Evolves s (effSettlingWindowEnd n sc t) := by
  unfold Machine.effSettlingWindowEnd
  extract_lets
  exact .ite h.bump.setLine.set.set h

theorem Evolves.countCodeword {n sc c} (h : Evolves s t) : Evolves s (countCodeword n sc c t) := by
  unfold Machine.countCodeword
  extract_lets t1
  have h1 : Evolves s t1 := h.inc
  split
  · exact .ite h1 h1.inc.bump
  · exact h.inc

theorem Evolves.injectPair {n sc a} (h : Evolves s t) : Evolves s (injectPair n sc a t).2 := by
  unfold Machine.injectPair
  extract_lets
  split
  next _ u1 e =>
    have h1 : Evolves s u1 := .ofSnd h.inject e
    split <;> exact .snd h1

theorem Evolves.pmCodewords {n sc uncorr} (h : Evolves s t) : Evolves s (pmCodewords n sc uncorr t) := by
  unfold Machine.pmCodewords
  exact h.setFrame

theorem Evolves.effPairDecoded {n sc sf pair first last before word hard} (h : Evolves s t) :
    Evolves s (effPairDecoded n sc sf pair first last before word hard t) := by
  unfold Machine.effPairDecoded
  refine .ite h ?_
  split
  split
  next _ u1 e =>
    have h1 : Evolves s u1 := .ofSnd h.injectPair e
    extract_lets _ _ _ t2 t3 _ _ _ t4 t5
    have h2 : Evolves s t2 := .ite h1.bump h1.bump.countCodeword.countCodeword.pmCodewords
    have h3 : Evolves s t3 := h2.when fun _ h => h.captureCause
    have h4 : Evolves s t4 := h3.setFrame
    have h5 : Evolves s t5 := h4.when fun _ h => h.inc
    exact .ite h4 h5.set

theorem Evolves.effQualityUpdate {n edges slots snr cd dgd} (h : Evolves s t) :
    Evolves s (effQualityUpdate n edges slots snr cd dgd t) := by
  unfold Machine.effQualityUpdate
  extract_lets _ t1 _ _ _ t2
  have h1 : Evolves s t1 := h.setLine.foldl fun _ _ h => h.set
  have h2 : Evolves s t2 := h1.setI.set.set.setI.when fun _ h => h.setLine
  exact .ite h2.lineIrq h

theorem Evolves.effCaptureTrigger {n line} (h : Evolves s t) : Evolves s (effCaptureTrigger n line t) := by
  unfold Machine.effCaptureTrigger
  extract_lets t1
  have h1 : Evolves s t1 := h.setLine
  refine .ite h ?_
  refine .ite ?_ h1.inc
  exact .ite h1 h1.set.setLine

theorem Evolves.effCaptureDone {n t0 samples} (h : Evolves s t) : Evolves s (effCaptureDone n t0 samples t) := by
  unfold Machine.effCaptureDone
  extract_lets _ _ t1
  have h1 : Evolves s t1 := .beside h rfl rfl rfl
  exact .ite h1.set.set.lineIrq h

/-! ### FrameEvt -/

theorem Evolves.noteHeader {n sc h'} (h : Evolves s t) : Evolves s (noteHeader n sc h' t) := by
  unfold Machine.noteHeader
  exact h.set.set.setFrame

theorem Evolves.advancePrediction {n sc} (h : Evolves s t) : Evolves s (advancePrediction n sc t) := by
  unfold Machine.advancePrediction
  exact h.setFrame

theorem Evolves.controlHeader {n h' first} (h : Evolves s t) : Evolves s (controlHeader n h' first t) := by
  unfold Machine.controlHeader
  extract_lets _ _ _ t1
  have h1 : Evolves s t1 := h.agcFreeze.setFrame
  exact .ite h1.inc.raise.pageSwap h1

theorem Evolves.reachSync {n sc} (h : Evolves s t) : Evolves s (reachSync n sc t) := by
  unfold Machine.reachSync
  extract_lets _ t1
  have h1 : Evolves s t1 := h.set.set.raise.setFrame
  exact .ite h1.controlSynced.maybeReacquired h1

theorem Evolves.loseSync {n sc} (h : Evolves s t) : Evolves s (loseSync n sc t) := h.inc.raise.hunt
theorem Evolves.noteField {n sc v} (h : Evolves s t) : Evolves s (noteField n sc v t) := h.setFrame
theorem Evolves.fieldTaken {n sc p fitsInSync} (h : Evolves s t) : Evolves s (fieldTaken n sc p fitsInSync t) := h.when fun _ h => h.inc

theorem Evolves.fitHeader {n sc h' first} (h : Evolves s t) : Evolves s (fitHeader n sc h' first t) := by
  unfold Machine.fitHeader
  extract_lets t1
  have h1 : Evolves s t1 := h.inc.noteHeader
  exact .ite h1.controlHeader h1

theorem Evolves.effSectorHeader {n sc header first last gain others} (h : Evolves s t) :
    Evolves s (effSectorHeader n sc header first last gain others t) := by
  unfold Machine.effSectorHeader
  extract_lets _ _ _ _ t1 t2 t3 t4 t5 t6 t7 _ t8
  have h1 : Evolves s t1 := h.noteField
  have h2 : Evolves s t2 := h1.agcFollow
  have h3 : Evolves s t3 := h2.set.set
  have h4 : Evolves s t4 := .ite h3 h3.set
  have h5 : Evolves s t5 := h2.fitHeader
  have h6 : Evolves s t6 := h5.set.noteField.fieldTaken
  have h7 : Evolves s t7 := h5.fieldTaken
  have h8 : Evolves s t8 := h2.inc.fieldTaken
  refine .ite h1 ?_
  refine .ite ?_ ?_
  · exact .ite h2 h2.fieldTaken.advancePrediction
  · refine .ite ?_ ?_
    · exact .ite h4.fitHeader h2
    · refine .ite ?_ ?_
      · refine .ite ?_ ?_
        · exact .ite h6.maybeReacquired h6
        · exact .ite h7.reachSync h7.set
      · split
        · exact h2.set.inc.raise.fitHeader.noteField.fieldTaken
        · refine .ite h8.hunt ?_
          exact .ite h8.loseSync h8.set.advancePrediction

theorem Evolves.listenHeader {n systemId tree} (h : Evolves s t) : Evolves s (listenHeader n systemId tree t) := by
  unfold Machine.listenHeader
  refine .ite h ?_
  refine .ite ?_ ?_
  · exact .ite h h.setTerm.setTree
  · exact .ite h h.setTerm.raise

theorem Evolves.enableControl {n c} (h : Evolves s t) : Evolves s (enableControl n c t) := by
  unfold Machine.enableControl
  exact .ite h h.set.markSc

theorem Evolves.takeHeader {n h' own} (h : Evolves s t) : Evolves s (takeHeader n h' own t) := by
  unfold Machine.takeHeader
  extract_lets _ _ _ _ _ _ _ _ _ _ t1 t2
  have h1 : Evolves s t1 := h.setFrame.when fun _ h => h.resetReplay
  have h2 : Evolves s t2 := .mapInForce (h1.when fun _ h => h.enableControl)
  exact h2.announceSwap.announceSwap.listenHeader.when fun _ h => h.timeMark

theorem Evolves.effSuperframeHeader {at_} (h : Evolves s t) : Evolves s (effSuperframeHeader at_ t) := by
  unfold Machine.effSuperframeHeader
  extract_lets _ _ _ _ _ _ t1 t2
  have h1 : Evolves s t1 := h.when fun _ h => h.inc
  have h2 : Evolves s t2 := h1.setFrame
  refine .ite h1 ?_
  refine .ite h1 ?_
  refine .ite h2.setFrame.takeHeader ?_
  refine .ite ?_ h2
  split
  · exact h2.setFrame.takeHeader
  · exact h2

theorem Evolves.driftUpdate {n drift} (h : Evolves s t) : Evolves s (driftUpdate n drift t) := by
  unfold Machine.driftUpdate
  extract_lets _ t1
  have h1 : Evolves s t1 := h.setI
  exact .ite h (.ite (.captureCause (h1.set.raise.lineIrq.when fun _ h => h.requestStep)) (.ite h1.set h1))

theorem Evolves.duePoints {n} (h : Evolves s t) : Evolves s (duePoints n t) := by
  unfold Machine.duePoints
  exact h.setLine

theorem Evolves.changeControl {n} (h : Evolves s t) : Evolves s (changeControl n t) := by
  unfold Machine.changeControl
  extract_lets
  split
  · exact h
  · extract_lets t1
    have h1 : Evolves s t1 := h.set.setLine.setFrame
    exact .ite h1.agcUnfreeze.downstreamLoss (.ite h1.controlSynced.maybeReacquired h1)

theorem Evolves.loadProfile {n e} (h : Evolves s t) : Evolves s (loadProfile n t e) := h.foldl fun _ _ h => h.set

theorem Evolves.treeValues {n} (h : Evolves s t) : Evolves s (treeValues n t) := by
  unfold Machine.treeValues
  extract_lets _ _ _ _ _ _ _ t1 t2
  have h1 : Evolves s t1 := h.when fun _ h => h.setAll
  have h2 : Evolves s t2 := h1.when fun _ h => h.foldl fun _ _ h => h.loadProfile
  exact h2.setTerm

theorem Evolves.countNoSlot {n dir} (h : Evolves s t) : Evolves s (countNoSlot n dir t) := h.foldl fun _ _ h => h.inc

theorem Evolves.effSuperframeStart {n drift} (h : Evolves s t) : Evolves s (effSuperframeStart n drift t) := by
  unfold Machine.effSuperframeStart
  extract_lets _ _ _ t1 _ t2 t3
  have h1 : Evolves s t1 := h.duePoints.driftUpdate.setFrame.changeControl
  have h2 : Evolves s t2 := by
    unfold t2
    split
    · exact .ite h1.setFrame.applyMap h1
    · exact h1
  have h3 : Evolves s t3 := .ite h2.pageSwap h2
  exact .ite h (.countNoSlot (.treeValues (h3.when fun _ h => h.captureCause)))

theorem Evolves.returnEntry {n resume} (h : Evolves s t) : Evolves s (returnEntry n resume t) := by
  unfold Machine.returnEntry
  extract_lets _ t1
  have h1 : Evolves s t1 := h.stop.setTerm
  exact .ite h1.setTree.outageEnd h1.setTerm.toRanging

theorem Evolves.effDirectoryEntry {a slot} (h : Evolves s t) : Evolves s (effDirectoryEntry a slot t) := by
  unfold Machine.effDirectoryEntry
  extract_lets
  split
  · exact h
  · exact h.onField fun _ _ h => by
      extract_lets
      exact .ite h.inc (.ite h (.ite h.depose (.ite h.depose (.ite h.depose (.ite h.inc (.ite h.returnEntry h))))))

theorem Evolves.effRemoteIndications {a} (h : Evolves s t) : Evolves s (effRemoteIndications a t) :=
  h.onField fun _ _ h => h.setFrame.foldl fun _ _ h => by
    exact .ite h h.raise

theorem Evolves.effJustificationCount {at_ slot} (h : Evolves s t) : Evolves s (effJustificationCount at_ slot t) := by
  unfold Machine.effJustificationCount
  extract_lets
  split
  · exact h
  · refine .ite h ?_
    exact .ite h.setFrame h.inc.setFrame

theorem Evolves.effOverheadBlockRx {at_ channel} (h : Evolves s t) : Evolves s (effOverheadBlockRx at_ channel t) := by
  unfold Machine.effOverheadBlockRx
  extract_lets
  refine .ite h ?_
  split
  · exact h.foldl fun _ _ h => by
      exact .ite (.beside h rfl rfl rfl) h
  · exact h.when fun _ h => h.inc

theorem Evolves.effOspBlockOut {k} (h : Evolves s t) : Evolves s (effOspBlockOut k t) := by
  unfold Machine.effOspBlockOut
  split
  · exact h
  · extract_lets t1
    have h1 : Evolves s t1 := .beside h rfl rfl rfl
    exact .ite h1.emit h1

theorem Evolves.effOspBlockIn {k block} (h : Evolves s t) : Evolves s (effOspBlockIn k block t) := by
  unfold Machine.effOspBlockIn
  extract_lets _ _ t1
  have h1 : Evolves s t1 := h.when fun _ h => h.inc
  exact .ite h h1.setFrame

theorem Evolves.deliverEnvelope {n sc h' pairs at_ c1 body} (h : Evolves s t) :
    Evolves s (deliverEnvelope n sc h' pairs at_ c1 body t) := by
  unfold Machine.deliverEnvelope
  extract_lets _ t1 _ _ t2
  have h1 : Evolves s t1 := .ite h.wakeBy h
  have h2 : Evolves s t2 := h1.newItem
  exact .ite h (.ite h.inc (.ite h (.ite h1.inc (.ite h2.confirmItem (.ite h2 h2.startLineJob)))))

theorem Evolves.discardEnvelope {n sc h' suspectPair} (h : Evolves s t) : Evolves s (discardEnvelope n sc h' suspectPair t) := by
  unfold Machine.discardEnvelope
  extract_lets
  refine .ite h ?_
  refine .ite h.inc ?_
  split
  · exact h
  · split <;> exact h.inc

theorem Evolves.effEnvelope {n sc sf cell offset header body} (h : Evolves s t) :
    Evolves s (effEnvelope n sc sf cell offset header body t) := by
  unfold Machine.effEnvelope
  extract_lets _ _ _ _ _ _ t1 t2
  have h1 : Evolves s t1 := h.bump
  have h2 : Evolves s t2 := .ite h h1
  refine .ite h ?_
  refine .ite ?_ ?_
  · exact .ite h2.discardEnvelope h2
  · refine .ite (.set (h1.when fun _ h => h.inc)) ?_
    exact .ite h1.set h.set.deliverEnvelope

theorem Evolves.effTribFrameTx {n t' sf} (h : Evolves s t) : Evolves s (effTribFrameTx n t' sf t) := by
  unfold Machine.effTribFrameTx
  extract_lets
  exact .ite h (h.setFrame.when fun _ h => h.emit)

theorem Evolves.effTribFrameRx {slot frame} (h : Evolves s t) : Evolves s (effTribFrameRx slot frame t) := by
  unfold Machine.effTribFrameRx
  extract_lets
  exact .ite h (.ite h.inc h.setFrame)

theorem Evolves.countSecond {n subject kind unavailable x} (h : Evolves s t) : Evolves s (countSecond n subject kind unavailable t x) := by
  unfold Machine.countSecond
  extract_lets
  exact .ite h h.setFrame

theorem Evolves.settleSeconds {n subject unavailable xs} (h : Evolves s t) : Evolves s (settleSeconds n subject unavailable xs t) :=
  h.foldl fun _ _ h => h.countSecond.countSecond

theorem Evolves.suspectBin {n subject kind} (h : Evolves s t) : Evolves s (suspectBin n subject kind t) := by
  unfold Machine.suspectBin
  extract_lets
  exact .ite h.setFrame h

theorem Evolves.effPmSecond {n subject} (h : Evolves s t) : Evolves s (effPmSecond n subject t) := by
  unfold Machine.effPmSecond
  extract_lets _ _ _ t1
  have h1 : Evolves s t1 := h.setFrame.when fun _ h => h.suspectBin.suspectBin
  split
  extract_lets
  refine .ite ?_ h1.setFrame.settleSeconds
  exact .ite h1.setFrame.settleSeconds h1.setFrame

theorem Evolves.effPmBinOpen {n subject day} (h : Evolves s t) : Evolves s (effPmBinOpen n subject day t) := by
  unfold Machine.effPmBinOpen
  extract_lets _ _ _ _ _ t1
  have h1 : Evolves s t1 := h.when fun _ h => h.setFrame.start
  exact .ite h h1.setFrame

theorem Evolves.effPmBinClosed {n subject day} (h : Evolves s t) : Evolves s (effPmBinClosed n subject day t) := by
  unfold Machine.effPmBinClosed
  exact .ite h.closeEnded h

/-! ### TreeEvt -/

theorem Evolves.msgUnknown {a} (h : Evolves s t) : Evolves s (msgUnknown a t) := h.inc

theorem Evolves.onMessage {a types} {act : TreeMsg → State → State} (h : Evolves s t) (hf : ∀ a1 t, Evolves s t → Evolves s (act a1 t)) :
    Evolves s (onMessage a types act t) := by
  unfold Machine.onMessage
  extract_lets
  split
  · exact h
  · exact h.onField fun _ _ h => by
      extract_lets _ t1
      have h1 : Evolves s t1 := h.inc
      refine .ite h ?_
      refine .ite h.inc ?_
      refine .ite h ?_
      refine .ite h.msgUnknown ?_
      refine .ite ?_ (hf _ _ h)
      exact .ite h1.depose h1

theorem Evolves.onTyped {a r ok} {act : TreeMsg → State → State} (h : Evolves s t) (hf : ∀ a1 t, Evolves s t → Evolves s (act a1 t)) :
    Evolves s (onTyped a r ok act t) :=
  h.onMessage fun _ _ h => by
    exact .ite (hf _ _ h) h.msgUnknown

theorem Evolves.effDiscovery {a drawR drawNonce} (h : Evolves s t) : Evolves s (effDiscovery a drawR drawNonce t) :=
  h.onTyped fun _ _ h => by
    extract_lets
    exact .ite h (.ite h.setTerm (.ite h h.setTerm))

theorem Evolves.takeIdentity {n tid epoch eqdField delay} (h : Evolves s t) : Evolves s (takeIdentity n tid epoch eqdField delay t) :=
  h.setAll.start.resetUnicastReplay

theorem Evolves.effAssign {a} (h : Evolves s t) : Evolves s (effAssign a t) := h.onMessage fun _ _ h => by
    extract_lets
    refine .ite h.msgUnknown ?_
    refine .ite ?_ ?_
    · exact .ite h h.msgUnknown
    · exact .ite h.abandonPresence.takeIdentity.toRanging h.inc

theorem Evolves.effRange {a} (h : Evolves s t) : Evolves s (effRange a t) := h.onTyped fun _ _ h => by
    extract_lets
    split
    extract_lets _ t1 _ t2
    have h1 : Evolves s t1 := .setTerm (h.when fun _ h => h.inc)
    have h2 : Evolves s t2 := h1.setTree.raise
    refine .ite h1 ?_
    refine .ite ?_ h1.start
    exact .ite h2.outageEnd h2

theorem Evolves.effProfile {a} (h : Evolves s t) : Evolves s (effProfile a t) := h.onTyped fun _ _ h => by
    extract_lets
    split
    exact .setTerm (h.when fun _ h => h.inc)

theorem Evolves.effDozeAck {a} (h : Evolves s t) : Evolves s (effDozeAck a t) := h.onTyped fun _ _ h => by
    extract_lets
    exact .ite h.setAll.setTerm.setTree.start h

theorem Evolves.effHostMessage {a} (h : Evolves s t) : Evolves s (effHostMessage a t) := h.onMessage fun _ _ h => by
    extract_lets
    exact .ite h.msgUnknown (.ite h.inc h.setFrame)

theorem Evolves.effRangingTimeout {n} (h : Evolves s t) : Evolves s (effRangingTimeout n t) := by
  unfold Machine.effRangingTimeout
  extract_lets _ t1
  have h1 : Evolves s t1 := h.clearIdentity.setTree.raise
  refine .ite ?_ h
  exact .ite h1.outageEnd h1

theorem Evolves.effReregLimitExpiry {n} (h : Evolves s t) : Evolves s (effReregLimitExpiry n t) := by
  unfold Machine.effReregLimitExpiry
  extract_lets
  exact .ite h.clearIdentity.setTree.outageEnd h

theorem Evolves.effReturnEntryTimeout {n} (h : Evolves s t) : Evolves s (effReturnEntryTimeout n t) := by
  unfold Machine.effReturnEntryTimeout
  exact .ite h.returnEntry h

theorem Evolves.effAssignWaitExpiry {n drawB} (h : Evolves s t) : Evolves s (effAssignWaitExpiry n drawB t) := by
  unfold Machine.effAssignWaitExpiry
  extract_lets
  exact .ite h.stop.inc.raise.setTerm h

theorem Evolves.effDirGraceEnd {n} (h : Evolves s t) : Evolves s (effDirGraceEnd n t) := by
  unfold Machine.effDirGraceEnd
  exact .ite h.stop.set h

theorem Evolves.effDozeMissed {n} (h : Evolves s t) : Evolves s (effDozeMissed n t) := by
  unfold Machine.effDozeMissed
  extract_lets
  exact .ite h.setTerm.inc.raise h

theorem Evolves.effHoldoverDillRestart {n} (h : Evolves s t) : Evolves s (effHoldoverDillRestart n t) := by
  unfold Machine.effHoldoverDillRestart
  exact .ite h.stop.startSearch h

theorem Evolves.effBaySyncTrip {n} (h : Evolves s t) : Evolves s (effBaySyncTrip n t) := by
  unfold Machine.effBaySyncTrip
  split
  · exact .ite h.setTerm.bayTripOn h
  · exact h

theorem Evolves.effBayMclkClear {n} (h : Evolves s t) : Evolves s (effBayMclkClear n t) := by
  unfold Machine.effBayMclkClear
  exact .ite h.stop.clkBack.bayPresent h

/-! ### GrantEvt -/

theorem Evolves.bayLeave {n g} (h : Evolves s t) : Evolves s (bayLeave n g t) := h.setTerm
theorem Evolves.wakeNow {n cause} (h : Evolves s t) : Evolves s (wakeNow n cause t) := h.wakeBy.stop.setTree.setTerm

theorem Evolves.useGrant {n g} (h : Evolves s t) : Evolves s (useGrant n g t) := by
  unfold Machine.useGrant
  extract_lets _ _ _ t1 t2
  have h1 : Evolves s t1 := h.foldl fun _ _ h => h.inc.bayLeave
  have h2 : Evolves s t2 := h1.setTerm
  exact .ite h.inc (.ite h.inc (.ite h.inc (.ite h2.inc h2.setTerm)))

theorem Evolves.effGrant {a slot} (h : Evolves s t) : Evolves s (effGrant a slot t) := by
  unfold Machine.effGrant
  refine h.onField fun _ _ h => ?_
  extract_lets _ _ _ t1 t2
  have h1 : Evolves s t1 := h.inc
  have h2 : Evolves s t2 := .ite h1.wakeNow h1
  exact .ite h (.ite h.inc (.ite h (.ite h (.ite h.inc (.ite h.depose h2.useGrant)))))

theorem Evolves.frameEnvelope {n aid c t'} (h : Evolves s t) : Evolves s (frameEnvelope n aid c t' t).1 := by
  unfold Machine.frameEnvelope
  extract_lets
  split
  · exact .fst h
  · split
    · exact .fst h.noKey
    · split
      · exact .fst h
      · split
        next u1 _ e =>
          have h1 : Evolves s u1 := .ofFst h.sealFrame e
          exact .fst h1

theorem Evolves.placeFrame {n b c pos i timed spec xs} (h : Evolves s t) : Evolves s (placeFrame n b c pos i timed spec xs t).1 := by
  unfold Machine.placeFrame
  extract_lets
  split
  next u e => exact .fst (Evolves.ofFst h.frameEnvelope e).dropLone
  next u env e =>
    have hu : Evolves s u := .ofFst h.frameEnvelope e
    exact .fst hu.setCopy

theorem Evolves.takeFrame {n b c xs} (h : Evolves s t) : Evolves s (takeFrame n b c xs t).1 := by
  unfold Machine.takeFrame
  extract_lets _ _ _ go
  have hgo : ∀ k timed, Evolves s (go k timed).1 := fun _ _ => by
    unfold go
    split
    · exact h.placeFrame
    · exact h
  split
  · exact hgo _ _
  · exact hgo _ _
  · exact .fst h.dropLone
  · exact .fst h.dropLone
  · exact hgo _ _

theorem Evolves.fillBody {fuel n b xs placed} (h : Evolves s t) : Evolves s (fillBody fuel n b xs placed t).1 := by
  induction fuel generalizing t xs placed with
  | zero => exact h
  | succ fuel ih =>
    unfold Machine.fillBody
    extract_lets
    split
    next u e => exact .fst (.ofSnd h.selectQueue e)
    next q u e =>
      have hu : Evolves s u := .ofSnd h.selectQueue e
      split
      next v e => exact .fst (.ofFst hu.dequeue e)
      next v c e =>
        have hv : Evolves s v := .ofFst hu.dequeue e
        exact ih hv.takeFrame

theorem Evolves.putOverhead {n aid xs} (h : Evolves s t) : Evolves s (putOverhead n aid xs t).1 := .foldlFst (.fst h) fun _ _ h => by
    extract_lets
    split
    · exact .fst h.setFrame
    · exact h

theorem Evolves.nextCell {n t'} (h : Evolves s t) : Evolves s (nextCell n t' t).1 := by
  unfold Machine.nextCell
  extract_lets
  exact .fst h.setFrame

theorem Evolves.tribBody {n g xs cells} (h : Evolves s t) : Evolves s (tribBody n g xs cells t).1 := by
  unfold Machine.tribBody
  extract_lets
  split
  next u1 _ e =>
    have h1 : Evolves s u1 := .ofFst (.foldlFst (.fst h) fun _ _ h => by
    split
    next u2 _ e =>
      have h2 : Evolves s u2 := .ofFst h.nextCell e
      exact .fst h2) e
    extract_lets _ t3
    have h3 : Evolves s t3 := .ite h1 h1.bump
    exact .fst h3.setFrame

theorem Evolves.takeReports {n aid} (h : Evolves s t) : Evolves s (takeReports n aid t).1 := by
  unfold Machine.takeReports
  split
  extract_lets
  exact .fst h.setFrame

theorem Evolves.buildBody {n g} (h : Evolves s t) : Evolves s (buildBody n g t) := by
  unfold Machine.buildBody
  extract_lets
  split
  next u1 _ e =>
    have h1 : Evolves s u1 := .ofFst (by split; exacts [h.takeReports, .fst h]) e
    split
    next u2 _ _ e =>
      have h2 : Evolves s u2 := .ofFst (by
      split
      · exact .fst h1
      · split
        · split
          next u3 _ e =>
            have h3 : Evolves s u3 := .ofFst h1.tribBody e
            exact .fst h3
        · split
          next u4 _ e =>
            have h4 : Evolves s u4 := .ofFst (by split; exacts [h1.putOverhead, .fst h1]) e
            exact h4.bucketsNow.fillBody) e
      extract_lets _ t5
      have h5 : Evolves s t5 := .ite h2 h2.bump
      exact h5.setTerm

theorem Evolves.effBurstBodyBuild {n} (h : Evolves s t) : Evolves s (effBurstBodyBuild n t) := by
  unfold Machine.effBurstBodyBuild
  split
  · exact h
  · extract_lets t1
    have h1 : Evolves s t1 := h.setTerm
    exact .ite h (.ite h1.buildBody h1.inc.bayLeave)

theorem Evolves.light {n b} (h : Evolves s t) : Evolves s (light n b t) := h.setFrame.set.set.setTerm.emit

theorem Evolves.effBurstStart {n} (h : Evolves s t) : Evolves s (effBurstStart n t) := by
  unfold Machine.effBurstStart
  split
  · exact h
  · extract_lets t1 _ t2
    have h1 : Evolves s t1 := h.setTerm
    have h2 : Evolves s t2 := h1.light.when fun _ h => h.inc
    exact .ite h (.ite h1.inc.bayLeave.giveUp (.ite h1.inc.bayLeave.giveUp (h2.when fun _ h => h.start.setTerm)))

theorem Evolves.awaitAssign {n nonce} (h : Evolves s t) : Evolves s (awaitAssign n nonce t) := by
  unfold Machine.awaitAssign
  exact .ite h.setTerm.start h

theorem Evolves.effBurstEnd {n} (h : Evolves s t) : Evolves s (effBurstEnd n t) := by
  unfold Machine.effBurstEnd
  split
  · exact h
  · extract_lets _ t1 t2
    have h1 : Evolves s t1 := h.foldl fun _ _ h => h.countStart
    have h2 : Evolves s t2 := h1.setTerm.bayLeave.burstOut.txDark
    refine .ite h ?_
    split
    · exact h2.awaitAssign
    · refine .ite h2 ?_
      exact .ite h2.wakeNow h2.setTerm

theorem Evolves.effPresenceBurst {n} (h : Evolves s t) : Evolves s (effPresenceBurst n t) := by
  unfold Machine.effPresenceBurst
  extract_lets t1
  have h1 : Evolves s t1 := h.setTerm
  split
  · exact h
  · extract_lets
    exact .ite h (.ite h1 h1.light.inc.setTerm)

theorem Evolves.effTxPowerUp {n} (h : Evolves s t) : Evolves s (effTxPowerUp n t) := by
  unfold Machine.effTxPowerUp
  split
  · exact h
  · exact .ite h.setTerm h

/-! ### HostEvt -/

theorem Evolves.effLaneSignalChange {l present} (h : Evolves s t) : Evolves s (effLaneSignalChange l present t) := by
  unfold Machine.effLaneSignalChange
  extract_lets _ t1
  have h1 : Evolves s t1 := h.set.when fun _ h => h.set
  split
  · exact h1
  · extract_lets
    refine .ite ?_ ?_
    · exact .ite h1.wakeBy.leaveWait h1
    · exact .ite h1.linkDown.toWait h1

theorem Evolves.fixPrecoding {l train measured} (h : Evolves s t) : Evolves s (fixPrecoding l train measured t) :=
  .setAll (h.when fun _ h => h.emit)

theorem Evolves.effTrainingDone {x measured} (h : Evolves s t) : Evolves s (effTrainingDone x measured t) := by
  unfold Machine.effTrainingDone
  extract_lets t1
  have h1 : Evolves s t1 := h.foldl fun _ _ h => h.fixPrecoding
  exact .ite h1.setLink.setHp.laneOut h

theorem Evolves.effTrainingTimeout {x ready} (h : Evolves s t) : Evolves s (effTrainingTimeout x ready t) := by
  unfold Machine.effTrainingTimeout
  extract_lets
  exact .ite h.inc.hostEvent.toWait h

theorem Evolves.setFfe {l cs} (h : Evolves s t) : Evolves s (setFfe l cs t) := h.setAll

theorem Evolves.honour {l} {f : State → State} (h : Evolves s t) (hf : ∀ t, Evolves s t → Evolves s (f t)) : Evolves s (honour l f t) :=
  .emit (.inc (hf _ h.emit))

theorem Evolves.effTapRequest {l r} (h : Evolves s t) : Evolves s (effTapRequest l r t) := by
  unfold Machine.effTapRequest
  extract_lets
  split
  · exact h
  · refine .ite h ?_
    split
    · exact h.inc
    · exact h.honour fun _ h => h.setLane
    · exact .ite (h.honour fun _ h => h.setFfe) h.emit
    · extract_lets
      split
      exact .ite h.emit (.ite h.emit (h.honour fun _ h => h.setFfe))

theorem Evolves.effAlignLock {x} (h : Evolves s t) : Evolves s (effAlignLock x t) := by
  unfold Machine.effAlignLock
  exact .ite h.toUp h

theorem Evolves.effAlignTimeout {x} (h : Evolves s t) : Evolves s (effAlignTimeout x t) := by
  unfold Machine.effAlignTimeout
  extract_lets t1
  have h1 : Evolves s t1 := h.when fun _ h => h.hostEvent
  exact .ite h1.setHp.toTraining h

theorem Evolves.effLaneLockLoss {l} (h : Evolves s t) : Evolves s (effLaneLockLoss l t) := by
  unfold Machine.effLaneLockLoss
  extract_lets t1
  have h1 : Evolves s t1 := h.set
  split
  · exact h
  · refine .ite h ?_
    refine .ite ?_ ?_
    · exact .ite h1.toFrt h1.linkDown.toTraining
    · exact .ite h.set.setHp h

theorem Evolves.effFrtReqReceived {l} (h : Evolves s t) : Evolves s (effFrtReqReceived l t) := by
  unfold Machine.effFrtReqReceived
  split
  · exact h
  · exact .ite h.toFrt h

theorem Evolves.effFrtPartnerRecognised {x} (h : Evolves s t) : Evolves s (effFrtPartnerRecognised x t) := by
  unfold Machine.effFrtPartnerRecognised
  exact .ite h.setHp.laneOut h

theorem Evolves.effFrtDone {x} (h : Evolves s t) : Evolves s (effFrtDone x t) := by
  unfold Machine.effFrtDone
  extract_lets t1
  have h1 : Evolves s t1 := h.foldl fun _ _ h => h.set
  exact .ite h1.setLink.setHp.laneOut h

theorem Evolves.effFrtNoAnswer {x} (h : Evolves s t) : Evolves s (effFrtNoAnswer x t) := by
  unfold Machine.effFrtNoAnswer
  extract_lets
  exact .ite h.frtFallback h

theorem Evolves.effFrtLimitExpiry {x} (h : Evolves s t) : Evolves s (effFrtLimitExpiry x t) := by
  unfold Machine.effFrtLimitExpiry
  exact .ite h.frtFallback h

theorem Evolves.effRemoteFault {x f} (h : Evolves s t) : Evolves s (effRemoteFault x f t) := by
  unfold Machine.effRemoteFault
  extract_lets
  exact .ite (h.setAll.laneOut.when fun _ h => h.hostEvent) h

theorem Evolves.effLpiTxEntry {x} (h : Evolves s t) : Evolves s (effLpiTxEntry x t) := by
  unfold Machine.effLpiTxEntry
  extract_lets
  exact .ite h.set.inc h

theorem Evolves.effLpiRxEntry {x} (h : Evolves s t) : Evolves s (effLpiRxEntry x t) := by
  unfold Machine.effLpiRxEntry
  exact .ite h.set.inc h

theorem Evolves.leaveTxLpi {x} (h : Evolves s t) : Evolves s (leaveTxLpi x t) := by
  unfold Machine.leaveTxLpi
  exact h.set.setHp

theorem Evolves.effTimedLpiExit {x} (h : Evolves s t) : Evolves s (effTimedLpiExit x t) := by
  unfold Machine.effTimedLpiExit
  split
  · exact .ite h.leaveTxLpi h
  · exact h

theorem Evolves.effWakeDetect {l} (h : Evolves s t) : Evolves s (effWakeDetect l t) := by
  unfold Machine.effWakeDetect
  extract_lets
  exact .ite h.set.inc.hostEvent.wakeBy h

theorem Evolves.effWakeSendEnd {x} (h : Evolves s t) : Evolves s (effWakeSendEnd x t) := by
  unfold Machine.effWakeSendEnd
  exact .ite h.set.laneOut h

theorem Evolves.countFec {x f} (h : Evolves s t) : Evolves s (countFec x f t) := h.bump.bump.bump.foldl fun _ _ h => by
    exact .ite h.bump h

theorem Evolves.effFrameRx {x part bytes fec} (h : Evolves s t) : Evolves s (effFrameRx x part bytes fec t) := by
  unfold Machine.effFrameRx
  extract_lets t1
  have h1 : Evolves s t1 := h.countFec
  exact .ite h1.receiveFrame h1

theorem Evolves.fireWdog {x p} (h : Evolves s t) : Evolves s (fireWdog x p t) := h.setHp.unpause.inc.hostEvent

theorem Evolves.pauseOne {x p q} (h : Evolves s t) : Evolves s (pauseOne x p q t) := by
  unfold Machine.pauseOne
  extract_lets t1 t2
  have h1 : Evolves s t1 := .ite h h.unpause
  have h2 : Evolves s t2 := .ite h1.fireWdog (.ite h1.endOverride h1)
  exact .ite h1.endOverride.unpause (.ite h2.inc h2.setHp.showPause)

theorem Evolves.effPauseRx {x pfc mask quanta} (h : Evolves s t) : Evolves s (effPauseRx x pfc mask quanta t) := by
  unfold Machine.effPauseRx
  extract_lets _ t1
  have h1 : Evolves s t1 := h.inc
  exact .ite h (.ite (h1.foldl fun _ _ h => h.pauseOne) h1.pauseOne)

theorem Evolves.effPauseExpiry {x p} (h : Evolves s t) : Evolves s (effPauseExpiry x p t) := by
  unfold Machine.effPauseExpiry
  exact .ite h.unpause h

theorem Evolves.effPauseRefresh {x p} (h : Evolves s t) : Evolves s (effPauseRefresh x p t) := by
  unfold Machine.effPauseRefresh
  extract_lets
  exact .ite h.setHp.pauseDue.markIdle h

theorem Evolves.effPauseWdog {x p} (h : Evolves s t) : Evolves s (effPauseWdog x p t) := by
  unfold Machine.effPauseWdog
  exact .ite h.fireWdog h

theorem Evolves.effPauseWdogEnd {x p} (h : Evolves s t) : Evolves s (effPauseWdogEnd x p t) := by
  unfold Machine.effPauseWdogEnd
  exact .ite h.endOverride h

theorem Evolves.sendPause {x mask quanta rest} (h : Evolves s t) : Evolves s (sendPause x mask quanta rest t) := by
  unfold Machine.sendPause
  extract_lets _ t1
  have h1 : Evolves s t1 := h.setSw
  exact .ite h1.markIdle h1.inc.emit.setHp.markIdle

theorem Evolves.effMacTxStart {x part} (h : Evolves s t) : Evolves s (effMacTxStart x part t) := by
  unfold Machine.effMacTxStart
  extract_lets pauses next
  refine .ite h ?_
  refine .ite h ?_
  refine .ite h.leaveTxLpi ?_
  unfold pauses
  split
  · exact .ite h h.sendPause
  · unfold next
    split
    · exact h.startTx
    · exact h

theorem Evolves.effTimedLaunch {x part} (h : Evolves s t) : Evolves s (effTimedLaunch x part t) := by
  unfold Machine.effTimedLaunch
  extract_lets
  split
  · exact h
  · extract_lets
    refine .ite h.dropLone.markIdle ?_
    refine .ite h ?_
    refine .ite h.dropLone.markIdle ?_
    split
    · exact h
    · split <;> exact h.startTx

theorem Evolves.postStamp {it bs c} (h : Evolves s t) : Evolves s (postStamp it bs c t) := by
  unfold Machine.postStamp
  split
  · exact h.postTwoStep
  · exact h

theorem Evolves.effFrameTxEnd {k} (h : Evolves s t) : Evolves s (effFrameTxEnd k t) := by
  unfold Machine.effFrameTxEnd
  extract_lets _ _ _ _ t1 _ _ _ t2
  have h1 : Evolves s t1 := h.countStart.postStamp.checkFrame.setCopy
  have h2 : Evolves s t2 := h1.inc.bump.setSw.setHp
  exact .ite h (.ite (.markIdle (.ite h2.receiveFrame h2)) h1)

/-! ### ReleaseEvt -/

theorem Evolves.passC1 {k} (h : Evolves s t) : Evolves s (passC1 k t) := by
  unfold Machine.passC1
  extract_lets t1
  have h1 : Evolves s t1 := h.passPoint
  split
  · exact .ite h1.startLineJob h1
  · exact h1

theorem Evolves.confirmPoint {k point pass} (h : Evolves s t) : Evolves s (confirmPoint k point pass t) := by
  unfold Machine.confirmPoint
  extract_lets _ t1
  have h1 : Evolves s t1 := h.lateCopies
  refine .ite h ?_
  split
  · refine .ite h ?_
    exact .ite h1.passC1 h1.failItem
  · split
    · exact h1.failItem
    · exact h1.passPoint
  · exact h

theorem Evolves.recommitCopy {k d c} (h : Evolves s t) : Evolves s (recommitCopy k d t c) := by
  unfold Machine.recommitCopy
  extract_lets _ _ t1
  have h1 : Evolves s t1 := .ite h.inc.retractCopy h
  split
  · refine .ite ?_ ?_
    · exact .ite h1.requeue h1
    · exact .ite h1.readmit h1.dropCopy
  · exact .ite h1 h1.dropCopy

theorem Evolves.takeResult {k r} (h : Evolves s t) : Evolves s (takeResult k r t) := h.setItem
theorem Evolves.recommit {k} (h : Evolves s t) : Evolves s (recommit k t) := h.foldl fun _ _ h => h.recommitCopy

theorem Evolves.settleResult {k r} (h : Evolves s t) : Evolves s (settleResult k r t) := by
  unfold Machine.settleResult
  exact .ite h.passPoint h.takeResult.recommit.passPoint

theorem Evolves.policerCommitOne {k} (h : Evolves s t) : Evolves s (policerCommitOne t k) := by
  unfold Machine.policerCommitOne
  split
  · exact .ite h h.lateCopies.commitPolicer.settleResult
  · exact h

/-! ### TestCmd -/

theorem Evolves.effTestLoopback {q point inst' on} (h : Evolves s t) : Evolves s (effTestLoopback q point inst' on t) := by
  unfold Machine.effTestLoopback
  refine h.single fun _ h => ?_
  extract_lets _ _ t1
  have h1 : Evolves s t1 := h.set.bayPresent
  split
  · exact .res (.ite h1.bayTripOn h1)
  · exact .res h.set

theorem Evolves.effTestGen {q es} (h : Evolves s t) : Evolves s (effTestGen q es t) := h.single fun _ h => by
    extract_lets
    exact .res (h.wApplyAll.foldl fun _ _ h => by
      extract_lets
      exact .ite (.beside h rfl rfl rfl) (h))

theorem Evolves.effTestCheck {q es} (h : Evolves s t) : Evolves s (effTestCheck q es t) := h.single fun _ h => by
    extract_lets
    exact .res (h.wApplyAll.foldl fun _ _ h => by
      extract_lets t1
      have h1 : Evolves s t1 := h.foldl fun _ _ h => h.set
      exact .beside h1 rfl rfl rfl)

theorem Evolves.perturbEnd {f cause} (h : Evolves s t) : Evolves s (perturbEnd f cause t) := .raise (.beside h.setAll.set rfl rfl rfl)

theorem Evolves.effTestPerturb {q feature on prob target value durationMs} (h : Evolves s t) :
    Evolves s (effTestPerturb q feature on prob target value durationMs t) :=
  h.single fun _ h => by
    extract_lets
    split
    · exact .res (.ite h.perturbEnd h)
    · exact .res (.raise (.beside h.setAll.set rfl rfl rfl))

theorem Evolves.effTestInject {q target tgt nbits count} (h : Evolves s t) : Evolves s (effTestInject q target tgt nbits count t) :=
  h.single fun _ h => by
    extract_lets
    exact .res h.setAll.set.raise

/-! ### TestEvt -/

theorem Evolves.genInject {g bs} (h : Evolves s t) : Evolves s (genInject g bs t) := by
  unfold Machine.genInject
  extract_lets
  exact .ite h.newItem (.ite h.took.checkFrame.deliverEnvelope h.newItem)

theorem Evolves.effGenFrame {g} (h : Evolves s t) : Evolves s (effGenFrame g t) := by
  unfold Machine.effGenFrame
  extract_lets _ _ _ _ _ _ _ _ t1
  have h1 : Evolves s t1 := .beside h.took.genInject rfl rfl rfl
  exact .ite h (h1.set.when fun _ h => h.set)

theorem Evolves.effPerturbOff {f} (h : Evolves s t) : Evolves s (effPerturbOff f t) := by
  unfold Machine.effPerturbOff
  extract_lets
  exact .ite h.perturbEnd h

theorem Evolves.tapTake (h : Evolves s t) : Evolves s (tapTake t) := by
  unfold Machine.tapTake
  extract_lets _ t1
  have h1 : Evolves s t1 := .beside h rfl rfl rfl
  exact .ite h1 h1.setPower.deviceReset.setPower

theorem Evolves.effTapInstruction {i} (h : Evolves s t) : Evolves s (effTapInstruction i t) := by
  unfold Machine.effTapInstruction
  extract_lets _ t1
  have h1 : Evolves s t1 := .beside h rfl rfl rfl
  split
  · exact h
  · exact h
  · exact h.emit
  · exact h.tapTake
  · exact h.tapTake
  · exact h.tapTake
  · exact h.tapTake
  · exact h.tapTake
  · refine .ite h ?_
    exact .ite h1.effPowerGood h1

/-! ### TimeEvt -/

theorem Evolves.effDomainLossTime {d tenLost} (h : Evolves s t) : Evolves s (effDomainLossTime d tenLost t) := by
  unfold Machine.effDomainLossTime
  extract_lets
  exact .ite h.setDomain.stop.setDomainState h

theorem Evolves.effHoldoverLimitExpiry {d} (h : Evolves s t) : Evolves s (effHoldoverLimitExpiry d t) := by
  unfold Machine.effHoldoverLimitExpiry
  extract_lets
  exact .ite h.set.updateValid h

theorem Evolves.effRevertTimer (h : Evolves s t) : Evolves s (effRevertTimer t) := by
  unfold Machine.effRevertTimer
  split
  · exact .ite h.selectDomain h
  · exact h

theorem Evolves.effSlewComplete (h : Evolves s t) : Evolves s (effSlewComplete t) := by
  unfold Machine.effSlewComplete
  exact .ite h.setTime.set.refreshTime h

/-- The stamp's layout stands as a variable, so that the kernel does not evaluate its arithmetic. -/
theorem Evolves.effTimeinPpsEdge {i part freq tenOk} (h : Evolves s t) : Evolves s (effTimeinPpsEdge i part freq tenOk t) := by
  unfold Machine.effTimeinPpsEdge
  generalize shortStamp = stamp
  revert stamp
  refine id fun stamp => ?_
  extract_lets edge st t1 t2 t3
  have h2 : Evolves s t2 := h.setAll.when fun _ h => h.raise
  have h3 : Evolves s t3 := h2.start.set
  split
  · exact h3
  · split
    · exact h3.start
    · exact h3.setDomain.measure.setDomain

theorem Evolves.effTimeinLost {i tenLost} (h : Evolves s t) : Evolves s (effTimeinLost i tenLost t) := by
  unfold Machine.effTimeinLost
  extract_lets
  exact .ite h.set.raise h

theorem Evolves.effPulseRise {k} (h : Evolves s t) : Evolves s (effPulseRise k t) := by
  unfold Machine.effPulseRise
  extract_lets _ _ t1
  have h1 : Evolves s t1 := h.when fun _ h => h.set
  split
  · exact h
  · extract_lets
    exact .ite h1.setPulse.emit h

theorem Evolves.effPulseFall {k} (h : Evolves s t) : Evolves s (effPulseFall k t) := by
  unfold Machine.effPulseFall
  extract_lets _ t1
  have h1 : Evolves s t1 := h.setPulse.emit
  refine .ite ?_ h
  exact .ite h1 h1.takePulse

/-! ### Tick -/

theorem Evolves.refreshSilent {n} (h : Evolves s t) : Evolves s (refreshSilent t n) := by
  unfold Machine.refreshSilent
  split
  · exact h.set
  · exact h

theorem Evolves.refreshPerturb {f} (h : Evolves s t) : Evolves s (refreshPerturb t f) := by
  unfold Machine.refreshPerturb
  extract_lets
  exact .ite h h.set

theorem Evolves.refreshHoldover {d} (h : Evolves s t) : Evolves s (refreshHoldover t d) := by
  unfold Machine.refreshHoldover
  exact .ite h.set h

theorem Evolves.wakeWorking (h : Evolves s t) : Evolves s (wakeWorking t) := h.foldl fun _ _ h => h.when fun _ h => by
    extract_lets t1
    have h1 : Evolves s t1 := h.set
    exact .ite h1.cpuShowAll h1

theorem Evolves.tick (h : Evolves s t) : Evolves s (tick t) := by
  unfold Machine.tick
  extract_lets t1 t2
  have h1 : Evolves s t1 := .refreshTime (.beside h rfl rfl rfl)
  have h2 : Evolves s t2 := .foldl (h1.foldl fun _ _ h => h.refreshSilent) fun _ _ h => h.refreshHoldover
  exact .clk10Run (.wakeWorking (.refreshIdle (.refreshDraining (h2.foldl fun _ _ h => h.refreshPerturb))))

/-- Every row completes, and what it leaves evolves from where it began. -/
theorem Evolves.exec {i} (h : Evolves s t) : Runs s (Machine.exec i t) := by
  cases i with
  | lineConfig => exact ⟨_, rfl, h.single fun _ h => h.wApplyAll.foldl fun _ _ h => h.newNominal⟩
  | lineSearch => exact ⟨_, rfl, h.single fun _ h => .ite (.ite h h.startSearch) h.set.stop⟩
  | lineRelevel => exact ⟨_, rfl, h.single fun _ h => h.requestStep⟩
  | lineSetCd => exact ⟨_, rfl, h.checked fun _ h => h.setLine⟩
  | lineEqRestart => exact ⟨_, rfl, h.checked fun _ h => h.setLine⟩
  | lineScEnable => exact ⟨_, rfl, h.checked fun _ h => h.setLine⟩
  | lineLaserRetune => exact ⟨_, rfl, h.single fun _ h => h.startRetune⟩
  | lineCapture => exact h.execLineCapture
  | lineEvtEnable => exact ⟨_, rfl, h.writeCmd⟩
  | lineFrameConfig => exact ⟨_, rfl, h.writeCmd⟩
  | lineTsiWrite => exact ⟨_, rfl, h.single fun _ h => h.foldl fun _ _ h => h.tsiWriteOne⟩
  | lineTsiReady => exact ⟨_, rfl, h.single fun _ h => h.set⟩
  | lineTribConfig => exact ⟨_, rfl, h.atomicCmd⟩
  | lineOspConfig => exact ⟨_, rfl, h.writeCmd⟩
  | treeJoin => exact ⟨_, rfl, h.effTreeJoin⟩
  | treeLeave => exact h.execTreeLeave
  | treeConfig => exact ⟨_, rfl, h.single fun _ h => h.wApplyAll.foldl fun _ _ h => h.hostDarkChanged⟩
  | treeDoze => exact ⟨_, rfl, h.single fun _ h => h.set⟩
  | treeWake => exact ⟨_, rfl, h.single fun _ h => h.wakeRequest⟩
  | treeGuardRelease => exact ⟨_, rfl, h.single fun _ h => h.bayRelease⟩
  | treeDark => exact ⟨_, rfl, h.single fun _ h => h.set.hostDarkChanged⟩
  | treeMsgRead => exact h.execTreeMsgRead
  | timeConfig => exact ⟨_, rfl, h.atomicCmd⟩
  | timeSelect => exact ⟨_, rfl, h.single fun _ h => h.noteSelect.selectDomain⟩
  | timeSet => exact h.execTimeSet
  | timeAdjust => exact ⟨_, rfl, h.single fun _ h => h.hostMeasure⟩
  | timePulse => exact h.execTimePulse
  | timeTsRead => exact h.execTimeTsRead
  | hostPortConfig => exact ⟨_, rfl, h.atomicCmd⟩
  | hostPortEnable => exact ⟨_, rfl, h.effHostPortEnable⟩
  | hostLaneConfig => exact ⟨_, rfl, h.single fun _ h => h.wApplyAll⟩
  | hostRetrain => exact ⟨_, rfl, h.single fun _ h => .ite h.toFrt h.linkDown.toTraining⟩
  | hostFilterWrite => exact ⟨_, rfl, h.writeCmd⟩
  | hostPauseConfig => exact ⟨_, rfl, h.single fun _ h => h.wApplyAll.foldl fun _ _ h => h.pauseFollow⟩
  | hostLpiConfig => exact ⟨_, rfl, h.single fun _ h => h.wApplyAll.foldl fun _ _ h => h.lpiFollow⟩
  | hostWakeSend => exact ⟨_, rfl, h.effHostWakeSend⟩
  | hostWdogClear => exact ⟨_, rfl, h.single fun _ h => .res (h.foldl fun _ _ h => h.endOverride)⟩
  | hostEvtEnable => exact ⟨_, rfl, h.effHostEvtEnable⟩
  | clsParserWrite => exact ⟨_, rfl, h.single fun _ h => h.foldl fun _ _ h => h.parserWriteOne⟩
  | clsProfileWrite => exact ⟨_, rfl, .when (h.single fun _ h => .res (h.foldl fun _ _ h => h.foldl fun _ _ h => h.setCls)) fun _ h => h.took⟩
  | clsRuleWrite => exact ⟨_, rfl, h.bestEffort fun _ _ h => h.ruleWriteOne⟩
  | clsRuleDelete => exact ⟨_, rfl, h.bestEffort fun _ _ h => h.ruleDeleteOne⟩
  | clsFlip => exact ⟨_, rfl, h.effClsFlip⟩
  | clsStart => exact ⟨_, rfl, h.writeCmd⟩
  | clsExcConfig => exact ⟨_, rfl, h.writeCmd⟩
  | tblEmInsert => exact ⟨_, rfl, h.bestEffort fun _ _ h => h.emInsertOne⟩
  | tblEmDelete => exact ⟨_, rfl, h.bestEffort fun _ _ h => h.emDelete⟩
  | tblEmFind => exact ⟨_, rfl, h.effTblEmFind⟩
  | tblLpmInsert => exact ⟨_, rfl, h.bestEffort fun _ _ h => h.lpmInsertOne⟩
  | tblLpmDelete => exact ⟨_, rfl, h.bestEffort fun _ _ h => h.lpmDeleteOne⟩
  | tblNhWrite => exact ⟨_, rfl, h.bestEffort fun _ _ h => h.nhWriteOne⟩
  | tblEcmpWrite => exact ⟨_, rfl, h.bestEffort fun _ _ h => h.ecmpWriteOne⟩
  | tblProfileWrite => exact ⟨_, rfl, h.atomicCmd⟩
  | tblLearnConfig => exact ⟨_, rfl, h.atomicCmd⟩
  | tblHitScan => exact ⟨_, rfl, h.effTblHitScan⟩
  | tblSnapshot => exact ⟨_, rfl, h.effTblSnapshot⟩
  | tblFilterRebuild => exact ⟨_, rfl, h.single fun _ h => h.filterRebuild⟩
  | swConfig => exact ⟨_, rfl, h.atomicCmd⟩
  | swDestConfig => exact ⟨_, rfl, h.atomicCmd⟩
  | swQueueConfig => exact ⟨_, rfl, h.bestEffort fun _ _ h => h.queueConfigOne⟩
  | swPortFlush => exact ⟨_, rfl, h.single fun _ h => h.foldl fun _ _ h => h.startFlush⟩
  | swIngConfig => exact ⟨_, rfl, h.atomicCmd⟩
  | swSageConfig => exact ⟨_, rfl, h.writeCmd⟩
  | bpmPoolConfig => exact ⟨_, rfl, h.atomicCmd⟩
  | bpmAlloc => exact ⟨_, rfl, h.effBpmAlloc⟩
  | bpmFree => exact ⟨_, rfl, h.bestEffort fun _ _ h => h.bpmOne⟩
  | bpmHandoff => exact ⟨_, rfl, h.bestEffort fun _ _ h => h.bpmOne⟩
  | bpmAudit => exact ⟨_, rfl, h.single fun _ h => h.bpmAudit⟩
  | schedNodeWrite => exact ⟨_, rfl, h.bestEffort fun _ _ h => h.nodeWriteOne⟩
  | schedQueueMap => exact ⟨_, rfl, h.bestEffort fun _ _ h => h.queueMapOne⟩
  | schedLenProfile => exact ⟨_, rfl, h.atomicCmd⟩
  | polWrite => exact ⟨_, rfl, h.bestEffort fun _ _ h => h.polWriteOne⟩
  | polColourMap => exact ⟨_, rfl, h.atomicCmd⟩
  | polCounterClear => exact ⟨_, rfl, h.bestEffort fun _ _ h => h.polClearOne⟩
  | ciphKeyLoad => exact ⟨_, rfl, h.bestEffort fun _ _ h => h.keyLoadOne⟩
  | ciphKeyDerive => exact ⟨_, rfl, h.bestEffort fun _ _ h => h.keyDeriveOne⟩
  | ciphKeyClear => exact ⟨_, rfl, h.effCiphKeyClear⟩
  | ciphTreeSecret => exact ⟨_, rfl, h.effCiphTreeSecret⟩
  | ciphLineKey => exact ⟨_, rfl, h.atomicCmd⟩
  | ciphInbandKey => exact ⟨_, rfl, h.effCiphInbandKey⟩
  | ciphSeal => exact ⟨_, rfl, h.hostJob fun _ _ h => h.jobWindows fun _ h => h.emit⟩
  | ciphOpen => exact ⟨_, rfl, h.effCiphOpen⟩
  | ciphCmac => exact ⟨_, rfl, h.effCiphCmac⟩
  | ciphCacheFlush => exact ⟨_, rfl, h.effCiphCacheFlush⟩
  | coreQueueConfig => exact ⟨_, rfl, h.bestEffort fun _ _ h => h.wqConfigOne⟩
  | coreRingConfig => exact ⟨_, rfl, h.effCoreRingConfig⟩
  | coreFnConfig => exact ⟨_, rfl, h.atomicCmd⟩
  | coreLimits => exact ⟨_, rfl, h.atomicCmd⟩
  | coreServiceList => exact ⟨_, rfl, h.single fun _ h => h⟩
  | lockAcquire => exact ⟨_, rfl, h.lockChecked fun _ _ _ h => h.acquire⟩
  | lockRelease => exact ⟨_, rfl, h.effLockRelease⟩
  | sysNop => exact ⟨_, rfl, h.single fun _ h => h⟩
  | sysIdentify => exact ⟨_, rfl, h.single fun _ h => h⟩
  | fence => exact ⟨_, rfl, h.checked fun _ h => h.setCmd⟩
  | sysMode => exact ⟨_, rfl, h.atomicCmd⟩
  | sysRestart => exact ⟨_, rfl, .restartReady (h.single fun _ h => h.restartOrder)⟩
  | sysWindowSet => exact ⟨_, rfl, h.atomicCmd⟩
  | sysStateDump => exact ⟨_, rfl, h.effSysStateDump⟩
  | sysCmdHistory => exact ⟨_, rfl, h.single fun _ h => h⟩
  | sysPeerConfig => exact ⟨_, rfl, h.atomicCmd⟩
  | sysPeerRole => exact ⟨_, rfl, h.single fun _ h => .ite h h.set.setCmd.raise⟩
  | sysInbandConfig => exact ⟨_, rfl, h.writeCmd⟩
  | pwrStateActive => exact ⟨_, rfl, h.single fun _ h => h.onRequest⟩
  | pwrStateStandby => exact ⟨_, rfl, h.single fun _ h => h.standbyRequest⟩
  | pwrStateOff => exact ⟨_, rfl, h.single fun _ h => h.offRequest⟩
  | pwrIdleConfig => exact ⟨_, rfl, h.effPwrIdleConfig⟩
  | pwrWakeConfig => exact ⟨_, rfl, h.writeCmd⟩
  | pwrDvfs => exact ⟨_, rfl, h.single fun _ h => h.set.applyDvfs⟩
  | pwrTelemetry => exact ⟨_, rfl, h.effPwrTelemetry⟩
  | pwrBusConfig => exact ⟨_, rfl, h.single fun _ h => h.wApplyAll⟩
  | storeImageWrite => exact ⟨_, rfl, h.effStoreImageWrite⟩
  | storeImageVerify => exact ⟨_, rfl, h.effStoreImageVerify⟩
  | storeImageActivate => exact ⟨_, rfl, h.effStoreImageActivate⟩
  | storeImageConfirm => exact ⟨_, rfl, h.effStoreImageConfirm⟩
  | storeInfo => exact ⟨_, rfl, h.effStoreInfo⟩
  | storeScrub => exact ⟨_, rfl, h.effStoreScrub⟩
  | storeFormat => exact ⟨_, rfl, h.effStoreFormat⟩
  | storePageRead => exact ⟨_, rfl, h.effStorePageRead⟩
  | storePageProgram => exact ⟨_, rfl, h.effStorePageProgram⟩
  | storeBlockErase => exact ⟨_, rfl, h.effStoreBlockErase⟩
  | evtRead => exact ⟨_, rfl, h.effEvtRead⟩
  | evtHostRecord => exact ⟨_, rfl, h.effEvtHostRecord⟩
  | evtFlush => exact ⟨_, rfl, h.effEvtFlush⟩
  | fltReportRead => exact ⟨_, rfl, h.effFltReportRead⟩
  | fltRecoverResume => exact ⟨_, rfl, h.effFltRecoverResume⟩
  | fltRecoverWarm => exact ⟨_, rfl, h.recoverRestart.restartReady⟩
  | fltRecoverCold => exact ⟨_, rfl, h.recoverRestart.restartReady⟩
  | fltRecoverCluster => exact ⟨_, rfl, h.effFltRecoverCluster⟩
  | fltConfig => exact ⟨_, rfl, h.single fun _ h => h.wApplyAll⟩
  | testLoopback => exact ⟨_, rfl, h.effTestLoopback⟩
  | testGen => exact ⟨_, rfl, h.effTestGen⟩
  | testCheck => exact ⟨_, rfl, h.effTestCheck⟩
  | testPerturb => exact ⟨_, rfl, h.effTestPerturb⟩
  | testInject => exact ⟨_, rfl, h.effTestInject⟩
  | registerWrite => exact ⟨_, rfl, h.effRegisterWrite⟩
  | interruptClear => exact ⟨_, rfl, h.effInterruptClear⟩
  | nowSubRead => exact ⟨_, rfl, h.latchNow⟩
  | cmdRingEnable => exact ⟨_, rfl, h.effCmdRingEnable⟩
  | cmdRingDisable => exact ⟨_, rfl, h.effCmdRingDisable⟩
  | cmdSubTailWrite => exact ⟨_, rfl, h.set.wakeBy⟩
  | cmdCplHeadWrite => exact ⟨_, rfl, h.set⟩
  | workSubTailWrite => exact ⟨_, rfl, h.set.wakeBy⟩
  | workResHeadWrite => exact ⟨_, rfl, h.set⟩
  | learnHeadWrite => exact ⟨_, rfl, h.effLearnHeadWrite⟩
  | peerRxTailWrite => exact ⟨_, rfl, h.set⟩
  | mirrorAreaWrite => exact ⟨_, rfl, h.effMirrorAreaWrite⟩
  | cmdSubmissionRead => exact ⟨_, rfl, h.effCmdSubmissionRead⟩
  | commandCompletion => exact ⟨_, rfl, h.effCommandCompletion⟩
  | inbandCommand => exact ⟨_, rfl, h.effInbandCommand⟩
  | peldelWrite => exact ⟨_, rfl, h.effPeldelWrite⟩
  | peldelRead => exact ⟨_, rfl, h.effPeldelRead⟩
  | peldelAddressMatch => exact ⟨_, rfl, h.effPeldelAddressMatch⟩
  | atomicCommit => exact ⟨_, rfl, h.effAtomicCommit⟩
  | fenceReturn => exact ⟨_, rfl, h.effFenceReturn⟩
  | mirrorRecordWrite => exact ⟨_, rfl, h.effMirrorRecordWrite⟩
  | mirrorApply => exact ⟨_, rfl, h.effMirrorApply⟩
  | peerPoll => exact ⟨_, rfl, h.effPeerPoll⟩
  | peerLost => exact ⟨_, rfl, h.effPeerLost⟩
  | functionLevelReset => exact ⟨_, rfl, h.ringDisable.setAll.set.coreFunctionReset.pageClear⟩
  | cfoMeasurement => exact ⟨_, rfl, h.effCfoMeasurement⟩
  | deferredFineTune => exact h.execDeferredFineTune
  | fineTuneAck => exact ⟨_, rfl, h.effFineTuneAck⟩
  | setFreqAck => exact ⟨_, rfl, h.effSetFreqAck⟩
  | laserFreqStable => exact ⟨_, rfl, h.effLaserFreqStable⟩
  | laserBusFail => exact ⟨_, rfl, h.effLaserBusFail⟩
  | laserBusPoll => exact ⟨_, rfl, h.effLaserBusPoll⟩
  | lossOfLight => exact ⟨_, rfl, h.effLossOfLight⟩
  | lightReturn => exact ⟨_, rfl, h.effLightReturn⟩
  | dillPassEnd => exact ⟨_, rfl, h.effDillPassEnd⟩
  | applicationPoint => exact ⟨_, rfl, h.applyStep.applyCd.applyEq.setLine.foldl fun _ _ h => h.applySc⟩
  | settlingWindowEnd => exact ⟨_, rfl, h.effSettlingWindowEnd⟩
  | pairDecoded => exact ⟨_, rfl, h.effPairDecoded⟩
  | qualityUpdate => exact ⟨_, rfl, h.effQualityUpdate⟩
  | captureTrigger => exact ⟨_, rfl, h.effCaptureTrigger⟩
  | captureDone => exact ⟨_, rfl, h.effCaptureDone⟩
  | superframeStart => exact ⟨_, rfl, h.effSuperframeStart⟩
  | upSuperframeStart => exact ⟨_, rfl, .countNoSlot (.ite h.pageSwap h)⟩
  | sectorHeader => exact ⟨_, rfl, h.effSectorHeader⟩
  | superframeHeader => exact ⟨_, rfl, h.effSuperframeHeader⟩
  | directoryEntry => exact ⟨_, rfl, h.effDirectoryEntry⟩
  | grant => exact ⟨_, rfl, h.effGrant⟩
  | discovery => exact ⟨_, rfl, h.effDiscovery⟩
  | assign => exact ⟨_, rfl, h.effAssign⟩
  | range => exact ⟨_, rfl, h.effRange⟩
  | profile => exact ⟨_, rfl, h.effProfile⟩
  | dozeAck => exact ⟨_, rfl, h.effDozeAck⟩
  | deregister => exact ⟨_, rfl, h.onTyped fun _ _ h => h.clearProfiles.setTree⟩
  | hostMessage => exact ⟨_, rfl, h.effHostMessage⟩
  | remoteIndications => exact ⟨_, rfl, h.effRemoteIndications⟩
  | justificationCount => exact ⟨_, rfl, h.effJustificationCount⟩
  | overheadBlockRx => exact ⟨_, rfl, h.effOverheadBlockRx⟩
  | ospBlockOut => exact ⟨_, rfl, h.effOspBlockOut⟩
  | ospBlockIn => exact ⟨_, rfl, h.effOspBlockIn⟩
  | envelope => exact ⟨_, rfl, h.effEnvelope⟩
  | tribFrameTx => exact ⟨_, rfl, h.effTribFrameTx⟩
  | tribFrameRx => exact ⟨_, rfl, h.effTribFrameRx⟩
  | pmSecond => exact ⟨_, rfl, h.effPmSecond⟩
  | pmBinOpen => exact ⟨_, rfl, h.effPmBinOpen⟩
  | pmBinClosed => exact ⟨_, rfl, h.effPmBinClosed⟩
  | burstBodyBuild => exact ⟨_, rfl, h.effBurstBodyBuild⟩
  | burstStart => exact ⟨_, rfl, h.effBurstStart⟩
  | burstEnd => exact ⟨_, rfl, h.effBurstEnd⟩
  | presenceBurst => exact ⟨_, rfl, h.effPresenceBurst⟩
  | txPowerUp => exact ⟨_, rfl, h.effTxPowerUp⟩
  | rangingTimeout => exact ⟨_, rfl, h.effRangingTimeout⟩
  | reregLimitExpiry => exact ⟨_, rfl, h.effReregLimitExpiry⟩
  | returnEntryTimeout => exact ⟨_, rfl, h.effReturnEntryTimeout⟩
  | assignWaitExpiry => exact ⟨_, rfl, h.effAssignWaitExpiry⟩
  | dirGraceEnd => exact ⟨_, rfl, h.effDirGraceEnd⟩
  | dozeMissed => exact ⟨_, rfl, h.effDozeMissed⟩
  | holdoverDillRestart => exact ⟨_, rfl, h.effHoldoverDillRestart⟩
  | bayTrip => exact ⟨_, rfl, h.bayTripOn⟩
  | baySyncTrip => exact ⟨_, rfl, h.effBaySyncTrip⟩
  | bayMclkClear => exact ⟨_, rfl, h.effBayMclkClear⟩
  | txDisableFall => exact ⟨_, rfl, h.set.bayPresent.bayTripOn⟩
  | txDisableRise => exact ⟨_, rfl, h.set.bayPresent⟩
  | domainLossTime => exact ⟨_, rfl, h.effDomainLossTime⟩
  | holdoverLimitExpiry => exact ⟨_, rfl, h.effHoldoverLimitExpiry⟩
  | revertTimer => exact ⟨_, rfl, h.effRevertTimer⟩
  | slewComplete => exact ⟨_, rfl, h.effSlewComplete⟩
  | timeinPpsEdge => exact ⟨_, rfl, h.effTimeinPpsEdge⟩
  | timeinLost => exact ⟨_, rfl, h.effTimeinLost⟩
  | pulseRise => exact ⟨_, rfl, h.effPulseRise⟩
  | pulseFall => exact ⟨_, rfl, h.effPulseFall⟩
  | timedLaunch => exact ⟨_, rfl, h.effTimedLaunch⟩
  | timedLpiExit => exact ⟨_, rfl, h.effTimedLpiExit⟩
  | confirmation => exact ⟨_, rfl, .confirmPoint (h.foldl fun _ _ h => h.confirmPoint)⟩
  | policerCommit => exact ⟨_, rfl, h.foldl fun _ _ h => h.policerCommitOne⟩
  | retractDeadline => exact ⟨_, rfl, h.retractLate⟩
  | drainPoint => exact ⟨_, rfl, h.effDrainPoint⟩
  | laneSignalChange => exact ⟨_, rfl, h.effLaneSignalChange⟩
  | trainingDone => exact ⟨_, rfl, h.effTrainingDone⟩
  | trainingTimeout => exact ⟨_, rfl, h.effTrainingTimeout⟩
  | tapRequest => exact ⟨_, rfl, h.effTapRequest⟩
  | alignLock => exact ⟨_, rfl, h.effAlignLock⟩
  | alignTimeout => exact ⟨_, rfl, h.effAlignTimeout⟩
  | laneLockLoss => exact ⟨_, rfl, h.effLaneLockLoss⟩
  | frtReqReceived => exact ⟨_, rfl, h.effFrtReqReceived⟩
  | frtPartnerRecognised => exact ⟨_, rfl, h.effFrtPartnerRecognised⟩
  | frtDone => exact ⟨_, rfl, h.effFrtDone⟩
  | frtNoAnswer => exact ⟨_, rfl, h.effFrtNoAnswer⟩
  | frtLimitExpiry => exact ⟨_, rfl, h.effFrtLimitExpiry⟩
  | remoteFault => exact ⟨_, rfl, h.effRemoteFault⟩
  | lpiTxEntry => exact ⟨_, rfl, h.effLpiTxEntry⟩
  | lpiRxEntry => exact ⟨_, rfl, h.effLpiRxEntry⟩
  | wakeDetect => exact ⟨_, rfl, h.effWakeDetect⟩
  | wakeSendEnd => exact ⟨_, rfl, h.effWakeSendEnd⟩
  | frameRx => exact ⟨_, rfl, h.effFrameRx⟩
  | pauseRx => exact ⟨_, rfl, h.effPauseRx⟩
  | pauseExpiry => exact ⟨_, rfl, h.effPauseExpiry⟩
  | pauseRefresh => exact ⟨_, rfl, h.effPauseRefresh⟩
  | pauseWdog => exact ⟨_, rfl, h.effPauseWdog⟩
  | pauseWdogEnd => exact ⟨_, rfl, h.effPauseWdogEnd⟩
  | macTxStart => exact ⟨_, rfl, h.effMacTxStart⟩
  | frameTxEnd => exact ⟨_, rfl, h.effFrameTxEnd⟩
  | txUnderrun => exact ⟨_, rfl, h.effTxUnderrun⟩
  | parse => exact ⟨_, rfl, h.effParse⟩
  | hbmReadReturn => exact ⟨_, rfl, h.effHbmReadReturn⟩
  | replicaCheck => exact ⟨_, rfl, h.effReplicaCheck⟩
  | bankCopyDone => exact ⟨_, rfl, h.effBankCopyDone⟩
  | bankLoad => exact ⟨_, rfl, h.effBankLoad⟩
  | excRefill => exact ⟨_, rfl, h.effExcRefill⟩
  | learnHoldExpiry => exact ⟨_, rfl, h.effLearnHoldExpiry⟩
  | filterRebuilt => exact ⟨_, rfl, h.effFilterRebuilt⟩
  | snapshotDone => exact ⟨_, rfl, h.effSnapshotDone⟩
  | restored => exact ⟨_, rfl, h.effRestored⟩
  | admission => exact ⟨_, rfl, h.foldl fun _ _ h => h.admitOne⟩
  | flushDone => exact ⟨_, rfl, h.effFlushDone⟩
  | downFlushTimer => exact ⟨_, rfl, h.effDownFlushTimer⟩
  | sageExamine => exact ⟨_, rfl, h.effSageExamine⟩
  | spillPrefetch => exact ⟨_, rfl, h.effSpillPrefetch⟩
  | bpmCacheRefill => exact ⟨_, rfl, h.poolBalance⟩
  | bpmReclaim => exact ⟨_, rfl, h.effBpmReclaim⟩
  | bpmAuditTimer => exact ⟨_, rfl, h.effBpmAuditTimer⟩
  | bucketRefill => exact ⟨_, rfl, h.refillDue⟩
  | schedSelect => exact ⟨_, rfl, h.effSchedSelect⟩
  | frameDebit => exact ⟨_, rfl, h.effFrameDebit⟩
  | cipherJobDone => exact ⟨_, rfl, h.effCipherJobDone⟩
  | keyDerivation => exact ⟨_, rfl, h.effKeyDerivation⟩
  | pnReserve => exact ⟨_, rfl, h.effPnReserve⟩
  | submissionRead => exact ⟨_, rfl, h.effSubmissionRead⟩
  | internalItem => exact ⟨_, rfl, h.effInternalItem⟩
  | coreDispatch => exact ⟨_, rfl, h.effCoreDispatch⟩
  | preemption => exact ⟨_, rfl, h.effPreemption⟩
  | itemEnd => exact ⟨_, rfl, h.effItemEnd⟩
  | itemTimeout => exact ⟨_, rfl, h.effItemTimeout⟩
  | lockWaitTimeout => exact ⟨_, rfl, h.effLockWaitTimeout⟩
  | powerGood => exact ⟨_, rfl, h.effPowerGood⟩
  | bootPhase => exact ⟨_, rfl, h.effBootPhase⟩
  | fuseReread => exact ⟨_, rfl, h.effFuseReread⟩
  | nandOperationDone => exact ⟨_, rfl, h.effNandOperationDone⟩
  | journalPageTimer => exact ⟨_, rfl, h.effJournalPageTimer⟩
  | patrolRead => exact ⟨_, rfl, h.effPatrolRead⟩
  | pfailAssert => exact ⟨_, rfl, h.effPfailAssert⟩
  | pfailRelease => exact ⟨_, rfl, h.effPfailRelease⟩
  | railTimeout => exact ⟨_, rfl, h.effRailTimeout⟩
  | pwrGoodFall => exact ⟨_, rfl, h.effPwrGoodFall⟩
  | vaonApply => exact ⟨_, rfl, h.effVaonApply⟩
  | sysResetAssert => exact ⟨_, rfl, h.effSysResetAssert⟩
  | dvfsLoadWindow => exact ⟨_, rfl, h.effDvfsLoadWindow⟩
  | voutPoll => exact ⟨_, rfl, h.effVoutPoll⟩
  | dvfsSettleDone => exact ⟨_, rfl, h.finishRaise⟩
  | dvfsFail => exact ⟨_, rfl, h.effDvfsFail⟩
  | vcoreDroop => exact ⟨_, rfl, h.effVcoreDroop⟩
  | throttleEnd => exact ⟨_, rfl, h.effThrottleEnd⟩
  | pmbusFault => exact ⟨_, rfl, h.set.raise⟩
  | pmbAlert => exact ⟨_, rfl, h.effPmbAlert⟩
  | idleTimerExpiry => exact ⟨_, rfl, h.effIdleTimerExpiry⟩
  | standbyPhaseEnd => exact ⟨_, rfl, h.effStandbyPhaseEnd⟩
  | wake => exact ⟨_, rfl, h.wakeBy⟩
  | powerdownPhaseEnd => exact ⟨_, rfl, h.effPowerdownPhaseEnd⟩
  | clusterDozeEntry => exact ⟨_, rfl, h.effClusterDozeEntry⟩
  | clusterDozeWake => exact ⟨_, rfl, h.effClusterDozeWake⟩
  | clockLoss => exact ⟨_, rfl, h.effClockLoss⟩
  | errorReport => exact ⟨_, rfl, h.report.resumeNext⟩
  | recoveryEnd => exact ⟨_, rfl, h.effRecoveryEnd⟩
  | recoveryTimeout => exact ⟨_, rfl, h.effRecoveryTimeout⟩
  | faultWindowClose => exact ⟨_, rfl, h.effFaultWindowClose⟩
  | tempWarn => exact ⟨_, rfl, h.effTempWarn⟩
  | lfHoldEnd => exact ⟨_, rfl, h.effLfHoldEnd⟩
  | eventRecord => exact ⟨_, rfl, h.effEventRecord⟩
  | eventsLost => exact ⟨_, rfl, h.evtLost⟩
  | evtNotify => exact ⟨_, rfl, h.effEvtNotify⟩
  | genFrame => exact ⟨_, rfl, h.effGenFrame⟩
  | perturbOff => exact ⟨_, rfl, h.effPerturbOff⟩
  | tapInstruction => exact ⟨_, rfl, h.effTapInstruction⟩
  | lpiRxExit => exact ⟨_, rfl, h.set⟩

end

/-- Settles O4: a step is a tick or a row's effect, and each makes of a sound state only what `Evolves` allows. -/
theorem stepKeepsRegistersSound : Obligations.StepKeepsRegistersSound := by
  intro s t hs hst
  unfold step at hst
  split at hst
  next => exact Host.Outcome.next.inj hst ▸ (Evolves.tick .refl).regInv hs
  next c rest _ =>
    obtain ⟨u, hu, h⟩ := Evolves.exec (i := c) (.refl (s := { s with pending := rest }))
    exact Host.Outcome.next.inj (hu.symm.trans hst) ▸ h.regInv (hs.of_eq rfl rfl)

end Sys2Proof.Machine

/-! ## What a write and a count read back, and the reset state (`00_scope.md` R4, R6; `01_line_modem.md` R37) -/

namespace Sys2Proof.Machine

open Sys2Proof

/-- When a counter stands still: in STANDBY (R379), but for STANDBY_DISCARD and the counters of a dozing terminal (R378). -/
theorem State.standsStill_iff (s : State) (c : Ctr) (i : Nat) : s.standsStill c i = true ↔
    s.get .PWR_STATE_STATE = 4 ∧ c ≠ .PWR_STANDBY_DISCARD ∧ ¬(c.row.base / 2 ^ 24 = 1 ∧ s.get .LINE_TREE_STATE_STATE i = 5) := by
  simp [State.standsStill, and_assoc, imp_iff_not_or]

/-- Settles O50: the entry written is the only one that changes, and a counter's entry rises unless the counter stands still. -/
theorem fieldsAndCountersReadBack : Obligations.FieldsAndCountersReadBack := by
  refine ⟨fun s f g v i j a b => ?_, fun s c d n i j a b => ?_⟩
  · split
    next h => obtain ⟨rfl, rfl, rfl⟩ := h; exact s.get_set_self _ _ _ _
    next h => exact s.get_set_ne _ _ _ _ _ _ _ h
  · by_cases h : d = c ∧ a = i ∧ b = j
    · obtain ⟨rfl, rfl, rfl⟩ := h
      cases hs : s.standsStill d a with
      | true =>
        rw [State.ctr_bump_still _ _ _ _ hs, if_neg fun hn => hn.2.2.2 ((s.standsStill_iff d a).1 hs)]
      | false =>
        rw [State.ctr_bump_self _ _ _ _ hs, if_pos ⟨rfl, rfl, rfl, fun hn => by simp [(s.standsStill_iff d a).2 hn] at hs⟩]
        rfl
    · rw [State.ctr_bump_ne _ _ _ _ _ _ _ h, if_neg fun hn => h ⟨hn.1, hn.2.1, hn.2.2.1⟩]

/-- Settles O5: after reset no field and no counter has an entry, so each reads its reset value. -/
theorem resetStateIsSound : Obligations.ResetStateIsSound :=
  ⟨regInv_of_empty rfl rfl, fun _ _ _ => rfl, fun _ _ _ => rfl, rfl, rfl, rfl⟩

end Sys2Proof.Machine

/-! ## Ring control, direct register writes and function-level reset (`13_commands.md` R315, R316, R324; `00_scope.md` R4 to R6) -/

namespace Sys2Proof.Machine

open Sys2Proof

theorem State.isSet_iff {s : State} {f : Fld} {i j : Nat} : s.isSet f i j = true ↔ s.get f i j = 1 := beq_iff_eq

theorem State.isSet_eq_false_iff {s : State} {f : Fld} {i j : Nat} : s.isSet f i j = false ↔ s.get f i j ≠ 1 := beq_eq_false_iff_ne

theorem ringEnable_of_disabled {u : Nat} {s : State} (h : s.get .CMD_FN_ENABLE u ≠ 1) : ringEnable u s =
    (s.setAll [(.CMD_FN_ENABLE, 1), (.CMD_FN_SUB_HEAD, 0), (.CMD_FN_SUB_TAIL, 0), (.CMD_FN_CPL_HEAD, 0), (.CMD_FN_CPL_TAIL, 0)] u).setCmd
      (fun c => { c with reserved := Tab.put 0 c.reserved u 0 }) :=
  if_neg (mt State.isSet_iff.1 h)

theorem ringEnable_of_enabled {u : Nat} {s : State} (h : s.get .CMD_FN_ENABLE u = 1) : ringEnable u s = s :=
  if_pos (State.isSet_iff.2 h)

/-- Abandoning a function's commands takes none of them away (R324). -/
theorem any_fn_map_abandoned (l : List Taken) (u : Nat) :
    (l.map (fun t => if t.fn = u then { t with index := abandonedIndex } else t)).any (fun t => t.fn == u) = l.any (fun t => t.fn == u) := by
  rw [List.any_map]
  congr 1
  funext t
  show ((if t.fn = u then _ else _ : Taken).fn == u) = _
  split <;> rfl

theorem ringDisable_eq (u : Nat) (s : State) : ringDisable u s = ((s.set .CMD_FN_ENABLE 0 u).setCmd (fun c =>
    { c with taken := c.taken.map (fun t => if t.fn = u then { t with index := abandonedIndex } else t), reserved := Tab.put 0 c.reserved u 0 })).set
      .CMD_FN_BUSY (b2n (s.cmd.taken.any (fun t => t.fn == u))) u := by
  rw [← any_fn_map_abandoned]
  rfl

theorem effCmdRingDisable_of_enabled {u : Nat} {s : State} (h : s.get .CMD_FN_ENABLE u = 1) : effCmdRingDisable u s = ringDisable u s :=
  if_pos (State.isSet_iff.2 h)

theorem effCmdRingDisable_of_disabled {u : Nat} {s : State} (h : s.get .CMD_FN_ENABLE u ≠ 1) : effCmdRingDisable u s = s :=
  if_neg (mt State.isSet_iff.1 h)

theorem effRegisterWrite_of_aligned {off v : Nat} {s : State} (h : off % 8 = 0) :
    effRegisterWrite off v s = (fieldsAt off).foldl (registerField v) s :=
  if_neg (not_not_intro h)

/-- An unaligned write is discarded, and so is one to no register (R460). -/
theorem effRegisterWrite_discarded {off v : Nat} {s : State} (h : off % 8 ≠ 0 ∨ fieldsAt off = []) : effRegisterWrite off v s = s := by
  unfold effRegisterWrite
  split
  next => rfl
  next ha => rw [h.resolve_left ha]; rfl

theorem effInterruptClear_of_aligned {off v : Nat} {s : State} (h : off % 8 = 0) :
    effInterruptClear off v s = ((fieldsAt off).filter (fun p => p.1.row.acc == .w1c)).foldl (directWrite v) s :=
  if_neg (not_not_intro h)

theorem effInterruptClear_of_unaligned {off v : Nat} {s : State} (h : off % 8 ≠ 0) : effInterruptClear off v s = s := if_pos h

/-- Settles O46, one row of the table after the other. -/
theorem ringAndRegisterWritesComplete : Obligations.RingAndRegisterWritesComplete := by
  refine ⟨fun u s => ⟨fun h => ?_, fun h => ?_⟩, fun u s => ⟨fun h => ?_, fun h => ?_⟩, fun u v s => ⟨rfl, rfl, rfl⟩,
    fun off v s => ⟨fun h => ?_, fun h => ?_⟩, fun off v s => ⟨fun h => ?_, fun h => ?_⟩, fun u s t ht => ?_⟩
  · exact congrArg _ (ringEnable_of_disabled h)
  · exact congrArg _ (ringEnable_of_enabled h)
  · exact congrArg _ ((effCmdRingDisable_of_enabled h).trans (ringDisable_eq u s))
  · exact congrArg _ (effCmdRingDisable_of_disabled h)
  · exact congrArg _ (effRegisterWrite_of_aligned h)
  · exact congrArg _ (effRegisterWrite_discarded h)
  · exact congrArg _ (effInterruptClear_of_aligned h)
  · exact congrArg _ (effInterruptClear_of_unaligned h)
  · rw [← ringDisable_eq] at ht
    subst ht
    rfl

end Sys2Proof.Machine

/-! ## The events of the time unit (`04_time.md` R111, R114 to R119, R128, R130) -/

namespace Sys2Proof.Machine

open Sys2Proof

section
variable {d k x : Nat} {ten : Bool} {s : State}

/-- What puts a domain into HOLDOVER (R115, R119): it is ACQUIRING or LOCKED, no TIME_ADJUST for it (`adj`) waits at the instant, and its loss
time has passed or its 10 MHz input is lost. -/
def domainLost (d : Nat) (ten adj : Bool) (s : State) : Prop :=
  (s.get .TIME_DOMAIN_STATE_STATE d = 1 ∨ s.get .TIME_DOMAIN_STATE_STATE d = 2) ∧ (adj = false ∨ s.get .TIME_DOMAIN_CFG_SOURCE d ≠ 5) ∧
    (s.expired (.domainLoss d) (lossTime d s) = true ∨ (ten = true ∧ 6 ≤ s.get .TIME_DOMAIN_CFG_SOURCE d))

/-- A TIME_ADJUST for the domain waits in the queue. -/
def adjustWaits (d : Nat) (s : State) : Bool := s.pending.any (fun i => match i with | .timeAdjust _ k _ _ _ => k == d | _ => false)

theorem effDomainLossTime_of_lost (h : domainLost d ten (adjustWaits d s) s) : effDomainLossTime d ten s =
    setDomainState d 3 true ((s.setDomain d (fun x => { x with holdSince := s.now })).stop (.domainLoss d)) := by
  obtain ⟨hst, hadj, hex⟩ := h
  refine if_pos ⟨hst, ?_, hex⟩
  show (!(adjustWaits d s && s.get .TIME_DOMAIN_CFG_SOURCE d == 5)) = true
  simpa [imp_iff_not_or] using hadj

theorem effDomainLossTime_of_not_lost (h : ¬ domainLost d ten (adjustWaits d s) s) : effDomainLossTime d ten s = s := by
  refine if_neg fun ⟨hst, hadj, hex⟩ => h ⟨hst, ?_, hex⟩
  replace hadj : (!(adjustWaits d s && s.get .TIME_DOMAIN_CFG_SOURCE d == 5)) = true := hadj
  simpa [imp_iff_not_or] using hadj

theorem effRevertTimer_of_not_locked (h : (s.domain 0).lockedSince = none) : effRevertTimer s = s := by
  unfold effRevertTimer
  rw [h]

theorem effRevertTimer_of_locked {a : Nat} (h : (s.domain 0).lockedSince = some a) : effRevertTimer s =
    if s.isSet .TIME_SEL_REVERTIVE ∧ s.time.autoSelected ∧ a + 10 * uS ≤ s.now then selectDomain 0 true s else s := by
  unfold effRevertTimer
  rw [h]

/-- The switch back happens only from an automatic selection with REVERTIVE 1, and after 10 s of LOCKED (R118). -/
theorem effRevertTimer_eq_self (h : ∀ a, (s.domain 0).lockedSince = some a → s.get .TIME_SEL_REVERTIVE = 1 → s.time.autoSelected = true →
    s.now < a + 10 * uS) : effRevertTimer s = s := by
  cases ha : (s.domain 0).lockedSince with
  | none => exact effRevertTimer_of_not_locked ha
  | some a =>
    rw [effRevertTimer_of_locked ha]
    exact if_neg fun ⟨hr, hauto, hle⟩ => Nat.not_le_of_lt (h a ha (State.isSet_iff.1 hr) hauto) hle

end

/-- What a measurement leaves before the row of the domain's state: its ERROR, and the loss time anew (R115). -/
def measured (d : Nat) (e : Int) (s : State) : State :=
  (s.setI .TIME_DOMAIN_STATE_ERROR (clamp (-(2 ^ 31)) (2 ^ 31 - 1) (roundDiv e uSym)) d).start (.domainLoss d)

section
variable {d run : Nat} {e : Int} {s u : State}

theorem measure_of_first (hst : (measured d e s).get .TIME_DOMAIN_STATE_STATE d = 1) (hf : ((measured d e s).domain d).first = true) :
    measure d e s = domainStep d e ((measured d e s).setDomain d (fun x => { x with first := false })) := by
  unfold measured at *
  unfold measure
  simp only [hst, hf, if_true]

theorem measure_of_acquiring (hst : (measured d e s).get .TIME_DOMAIN_STATE_STATE d = 1)
    (hf : ((measured d e s).domain d).first = false)
    (hrun : run = if e.natAbs < 20 * uNs then ((measured d e s).domain d).goodRun + 1 else 0)
    (hu : u = servo d e ((measured d e s).setDomain d (fun x => { x with goodRun := run }))) :
    measure d e s = if lockRun d u ≤ run then setDomainState d 2 true u else u := by
  subst hu hrun
  unfold measured at *
  unfold measure
  simp only [hst, hf, Bool.false_eq_true, if_false]

theorem measure_of_locked (hst : (measured d e s).get .TIME_DOMAIN_STATE_STATE d = 2)
    (hrun : run = if 1000 * uNs < e.natAbs then ((measured d e s).domain d).badRun + 1 else 0) :
    measure d e s = if 4 ≤ run then domainStep d e (setDomainState d 1 false (measured d e s))
      else servo d e ((measured d e s).setDomain d (fun x => { x with badRun := run })) := by
  subst hrun
  unfold measured at *
  unfold measure
  simp only [hst, decide_eq_true_eq]

theorem measure_of_holdover (hst : (measured d e s).get .TIME_DOMAIN_STATE_STATE d = 3)
    (hu : u = setDomainState d 1 false ((measured d e s).setDomain d (fun x => { x with first := false }))) :
    measure d e s = if 1000 * uNs < e.natAbs then domainStep d e u else servo d e u := by
  subst hu
  unfold measured at *
  unfold measure
  simp only [hst, decide_eq_true_eq]

theorem measure_of_free_run (hst : (measured d e s).get .TIME_DOMAIN_STATE_STATE d = 0) : measure d e s = measured d e s := by
  unfold measured at *
  unfold measure
  simp only [hst]

end

/-- What a 1PPS edge with the stamp st leaves before it measures a domain (R130): its capture, TIMEIN_OK as the 10 MHz edges tell, the
input's time anew. -/
def edgeTaken (x st : Nat) (ok : Bool) (s : State) : State :=
  let t := s.setAll [(.TIME_TIMEIN_CAP_SEC_LO, st / 2 ^ 48), (.TIME_TIMEIN_CAP_NS, bits st 16 32), (.TIME_TIMEIN_CAP_FRAC, st % 65536)] x
  ((t.when (t.isSet (timeinOk x) && !ok) (fun t => t.raise 0x0607 [x, 2])).start (.timein x)).set (timeinOk x) (b2n ok)

/-- The measurement that an edge is of the domain which follows the input, once the domain's seconds are known (R114). -/
def edgeMeasured (x edge : Nat) (freq : Int) (u : State) : State :=
  match domainOf (6 + x) u with
  | none => u
  | some d =>
    match (u.domain d).nextSec with
    | none => u.start (.domainLoss d)
    | some sec =>
      let v := measure d (timeDiff (timeAdd (sec * uS) (psUnits (u.getI .TIME_ADJ_VALUE (4 + x)))) (domainAt (u.domain d) edge))
        (u.setDomain d (fun y => { y with nextSec := some ((sec + 1) % 2 ^ 48) }))
      v.setDomain d (fun y => { y with base := domainAt y v.now, since := v.now, freq := freq })

/-- A 1PPS edge is captured, then measured. The stamp's layout stands as a variable in the comparison of the two sides, so that the kernel
does not evaluate its arithmetic. -/
theorem effTimeinPpsEdge_eq {x part st : Nat} {freq : Int} {ok : Bool} {s : State}
    (hst : st = shortStamp (serviceAt (s.now + part * uSym) s)) :
    effTimeinPpsEdge x part freq ok s = edgeMeasured x (s.now + part * uSym) freq (edgeTaken x st ok s) := by
  subst hst
  unfold effTimeinPpsEdge
  generalize shortStamp = stamp
  revert stamp
  refine id fun stamp => ?_
  extract_lets edge st t1 t2 t3
  have h3 : t3 = edgeTaken x (stamp (serviceAt edge s)) ok s := rfl
  rw [← h3]
  rfl

section
variable {x edge d sec : Nat} {freq : Int} {u v : State}

theorem edgeMeasured_of_unused (h : domainOf (6 + x) u = none) : edgeMeasured x edge freq u = u := by
  unfold edgeMeasured
  simp only [h]

theorem edgeMeasured_of_unknown (h : domainOf (6 + x) u = some d) (hn : (u.domain d).nextSec = none) :
    edgeMeasured x edge freq u = u.start (.domainLoss d) := by
  unfold edgeMeasured
  simp only [h, hn]

theorem edgeMeasured_of_known (h : domainOf (6 + x) u = some d) (hn : (u.domain d).nextSec = some sec)
    (hv : v = measure d (timeDiff (timeAdd (sec * uS) (psUnits (u.getI .TIME_ADJ_VALUE (4 + x)))) (domainAt (u.domain d) edge))
      (u.setDomain d (fun y => { y with nextSec := some ((sec + 1) % 2 ^ 48) }))) :
    edgeMeasured x edge freq u = v.setDomain d (fun y => { y with base := domainAt y v.now, since := v.now, freq := freq }) := by
  subst hv
  unfold edgeMeasured
  simp only [h, hn]

end

/-- A pulse output's rise is due at p (R128): it is armed and low, the service runs, the point has come, and the time counts. -/
def riseDue (k p : Nat) (s : State) : Prop :=
  s.get .TIME_PULSE_CTL_ENABLE k = 1 ∧ (s.pulseOut k).high = false ∧ s.get .FLT_STATUS_SAFE ≠ 1 ∧ p ≤ serviceTime s ∧
    (serviceValid s = true ∨ s.get .TIME_PULSE_CTL_FREE_RUN k = 1)

section
variable {k p : Nat} {s : State}

theorem effPulseRise_of_none (h : (s.pulseOut k).next = none) : effPulseRise k s = s := by
  unfold effPulseRise
  simp only [h]

theorem riseDue_iff : riseDue k p s ↔ (s.isSet .TIME_PULSE_CTL_ENABLE k ∧ !(s.pulseOut k).high ∧ !s.safe ∧ p ≤ serviceTime s ∧
    (serviceValid s ∨ s.isSet .TIME_PULSE_CTL_FREE_RUN k)) := by
  simp only [riseDue, State.safe, State.isSet_iff, Bool.not_eq_true', State.isSet_eq_false_iff]

theorem effPulseRise_of_not_due (h : (s.pulseOut k).next = some p) (hd : ¬ riseDue k p s) : effPulseRise k s = s := by
  unfold effPulseRise
  simp only [h]
  exact if_neg (mt riseDue_iff.2 hd)

theorem effPulseRise_periodic (h : (s.pulseOut k).next = some p) (hd : riseDue k p s) (hp : s.get .TIME_PULSE_CTL_PERIODIC k = 1) :
    effPulseRise k s = (s.setPulse k (fun x => { x with high := true, next := some (p + s.get .TIME_PULSE_PERIOD_PERIOD_NS k * uNs),
                                                        fallAt := p + s.get .TIME_PULSE_WIDTH_WIDTH_NS k * uNs })).emit (.pulse k true) := by
  unfold effPulseRise
  simp only [h]
  rw [if_pos (riseDue_iff.1 hd), State.isSet_iff.2 hp]
  rfl

theorem effPulseRise_single (h : (s.pulseOut k).next = some p) (hd : riseDue k p s) (hp : s.get .TIME_PULSE_CTL_PERIODIC k ≠ 1) :
    effPulseRise k s = ((s.set .TIME_PULSE_CTL_ARMED 0 k).setPulse k (fun x =>
      { x with high := true, next := none, fallAt := p + s.get .TIME_PULSE_WIDTH_WIDTH_NS k * uNs })).emit (.pulse k true) := by
  have hw : (s.set .TIME_PULSE_CTL_ARMED 0 k).get .TIME_PULSE_WIDTH_WIDTH_NS k = s.get .TIME_PULSE_WIDTH_WIDTH_NS k :=
    State.get_set_ne _ _ _ _ _ _ _ (by simp)
  unfold effPulseRise
  simp only [h]
  rw [if_pos (riseDue_iff.1 hd), State.isSet_eq_false_iff.2 hp, ← hw]
  rfl

/-- The fall is due (R128). -/
theorem effPulseFall_of_due (hh : (s.pulseOut k).high = true) (hf : (s.pulseOut k).fallAt ≤ serviceTime s) : effPulseFall k s =
    if (s.pulseOut k).waiting = [] then (s.setPulse k (fun x => { x with high := false })).emit (.pulse k false)
    else takePulse k (s.pulseOut k).waiting ((s.setPulse k (fun x => { x with high := false })).emit (.pulse k false)) :=
  if_pos ⟨hh, hf⟩

end

/-- Settles O22, one row of the table after the other. -/
theorem timeEventsComplete : Obligations.TimeEventsComplete := by
  refine ⟨fun d ten adj s hadj => ⟨fun hst ha hex => ?_, fun h => ?_⟩, fun d s age hage => ⟨fun hst hle => ?_, fun h => ?_⟩,
    fun s => ⟨fun h => ?_, fun a ha hr hauto => ⟨fun hle => ?_, fun hlt => ?_⟩⟩, fun s => ⟨fun h => ?_, fun h => ?_⟩,
    fun x part freq ok s t u st hst ht hu => ?_, fun d run e s t u ht => ?_, fun x ten pulses s hp => ⟨fun h => ?_, fun hok h => ?_⟩,
    fun k s => ⟨fun h => ?_, fun p h => ⟨fun hn => ?_, fun he hh hs hle hv => ?_⟩⟩, fun k s t ht => ⟨fun h => ?_, fun hh hf => ?_⟩,
    fun s => rfl⟩
  · subst hadj; exact congrArg _ (effDomainLossTime_of_lost ⟨hst, ha, hex⟩)
  · subst hadj
    refine congrArg _ (effDomainLossTime_of_not_lost fun ⟨hst, ha, hex⟩ => ?_)
    rcases h with ⟨h1, h2⟩ | ⟨had, hsrc⟩ | ⟨hexp, hten⟩
    · exact hst.elim h1 h2
    · exact ha.elim (fun ha => Bool.false_ne_true (ha.symm.trans had)) (fun ha => ha hsrc)
    · rcases hex with hex | ⟨ht, h6⟩
      · exact Bool.false_ne_true (hexp.symm.trans hex)
      · exact hten.elim (fun hf => Bool.false_ne_true (hf.symm.trans ht)) (Nat.not_lt_of_le h6)
  · subst hage; exact congrArg _ (if_pos ⟨hst, hle⟩)
  · subst hage; exact congrArg _ (if_neg fun ⟨hst, hle⟩ => h.elim (· hst) (Nat.not_lt_of_le hle))
  · refine congrArg _ (effRevertTimer_eq_self fun a ha hr hauto => ?_)
    rcases h with h | h | h
    · exact absurd (h.symm.trans ha) nofun
    · exact absurd hr h
    · exact absurd (h.symm.trans hauto) nofun
  · exact congrArg _ ((effRevertTimer_of_locked ha).trans (if_pos ⟨State.isSet_iff.2 hr, hauto, hle⟩))
  · refine congrArg _ (effRevertTimer_eq_self fun b hb _ _ => ?_)
    rw [ha] at hb
    exact Option.some.inj hb ▸ hlt
  · exact congrArg _ (if_neg h)
  · exact congrArg _ (if_pos h)
  · have hu : u = edgeTaken x st ok s := by rw [hu, ht]; rfl
    have he : exec (.timeinPpsEdge x part freq ok) s = .next (edgeMeasured x (s.now + part.val * uSym) freq u) := by
      rw [hu]
      exact congrArg Host.Outcome.next (effTimeinPpsEdge_eq hst)
    exact ⟨fun h => he.trans (congrArg _ (edgeMeasured_of_unused h)), fun d hd =>
      ⟨fun hn => he.trans (congrArg _ (edgeMeasured_of_unknown hd hn)),
        fun sec v hn hv => he.trans (congrArg _ (edgeMeasured_of_known hd hn hv))⟩⟩
  · change t = measured d e s at ht
    subst ht
    refine ⟨measure_of_first, fun hst hf hrun hu => ?_, fun hst hrun => ?_, fun hst hu => ?_, measure_of_free_run⟩
    · have hm := measure_of_acquiring hst hf hrun hu
      exact ⟨fun hle => hm.trans (if_pos hle), fun hlt => hm.trans (if_neg (Nat.not_le_of_lt hlt))⟩
    · have hm := measure_of_locked hst hrun
      exact ⟨fun hle => hm.trans (if_pos hle), fun hlt => hm.trans (if_neg (Nat.not_le_of_lt hlt))⟩
    · have hm := measure_of_holdover hst hu
      exact ⟨fun hlt => hm.trans (if_pos hlt), fun hle => hm.trans (if_neg (Nat.not_lt_of_le hle))⟩
  · subst hp
    refine congrArg _ (if_neg fun ⟨hok, ho⟩ => h.elim (· (State.isSet_iff.1 hok)) fun ⟨hf, hten⟩ => ?_)
    exact ho.elim (fun ho => Bool.false_ne_true (hf.symm.trans ho)) (fun ho => Bool.false_ne_true (hten.symm.trans ho))
  · subst hp; exact congrArg _ (if_pos ⟨State.isSet_iff.2 hok, h⟩)
  · exact congrArg _ (effPulseRise_of_none h)
  · refine congrArg _ (effPulseRise_of_not_due h fun ⟨he, hh, hs, hle, hv⟩ => ?_)
    rcases hn with hn | hn | hn | hn | ⟨hn, hf⟩
    · exact hn he
    · exact Bool.false_ne_true (hh.symm.trans hn)
    · exact hs hn
    · exact Nat.not_lt_of_le hle hn
    · exact hv.elim (fun hv => Bool.false_ne_true (hn.symm.trans hv)) hf
  · exact ⟨fun hp => congrArg _ (effPulseRise_periodic h ⟨he, hh, hs, hle, hv⟩ hp),
      fun hp => congrArg _ (effPulseRise_single h ⟨he, hh, hs, hle, hv⟩ hp)⟩
  · refine congrArg _ (if_neg fun ⟨hh, hf⟩ => ?_)
    exact h.elim (fun h => Bool.false_ne_true (h.symm.trans hh)) (Nat.not_lt_of_le hf)
  · subst ht
    exact ⟨fun hw => congrArg _ ((effPulseFall_of_due hh hf).trans (if_pos hw)),
      fun hw => congrArg _ ((effPulseFall_of_due hh hf).trans (if_neg hw))⟩

end Sys2Proof.Machine

/-! ## A direct write acts on a field by its access code (`00_scope.md` R4, R5) -/

namespace Sys2Proof.Machine

open Sys2Proof

/-- The fields that a ring's ENABLE moves, and those that only a disabled ring takes (R315, R324). -/
def ringFields : List Fld := [.CMD_FN_SUB_HEAD, .CMD_FN_CPL_TAIL, .CMD_FN_BUSY, .CMD_FN_SUB_TAIL, .CMD_FN_CPL_HEAD, .CMD_FN_ENABLE,
  .CMD_FN_SUB_BASE, .CMD_FN_CPL_BASE, .CMD_FN_SUB_SIZE_LOG2, .CMD_FN_CPL_SIZE_LOG2]

/-- What a direct write of v leaves in a field that reads x, by the field's access code (R4). -/
def written (v : Nat) (p : Fld × Nat × Nat) (x : Nat) : Nat :=
  match p.1.row.acc with
  | .rw => bits v (p.1.lowBit p.2.2) p.1.row.w
  | .w1c => if bits v (p.1.lowBit p.2.2) p.1.row.w = 1 then 0 else x
  | _ => x

/-- A second write of the same word changes nothing more. -/
theorem written_written (v : Nat) (p : Fld × Nat × Nat) (x : Nat) : written v p (written v p x) = written v p x := by
  unfold written
  cases p.1.row.acc with
  | w1c => dsimp only; split <;> rfl
  | _ => rfl

section
variable {v a b : Nat} {g : Fld} {s : State} {p : Fld × Nat × Nat}

theorem written_of_fixed {x : Nat} (h : p.1.row.acc = .ro ∨ p.1.row.acc = .cw) : written v p x = x := by
  unfold written
  rcases h with h | h <;> rw [h]

theorem written_of_rw {x : Nat} (h : p.1.row.acc = .rw) : written v p x = v / 2 ^ p.1.lowBit p.2.2 % 2 ^ p.1.row.w := by
  unfold written
  rw [h]
  rfl

theorem written_of_w1c {x : Nat} (h : p.1.row.acc = .w1c) (hw : p.1.row.w = 1) :
    written v p x = if v / 2 ^ p.1.lowBit p.2.2 % 2 = 1 then 0 else x := by
  unfold written
  rw [h, hw]
  rfl

theorem directWrite_get_other (h : p ≠ (g, a, b)) : (directWrite v s p).get g a b = s.get g a b := by
  have hset : ∀ x, (s.set p.1 x p.2.1 p.2.2).get g a b = s.get g a b := fun x =>
    s.get_set_ne _ _ _ _ _ _ _ fun ⟨hg, ha, hb⟩ => h (by rw [hg, ha, hb])
  have hwhen : ∀ c x, (s.when c fun t => t.set p.1 x p.2.1 p.2.2).get g a b = s.get g a b := fun c x => by
    unfold State.when
    split
    · exact hset x
    · rfl
  unfold directWrite
  dsimp only
  split
  · split
    · exact hwhen _ _
    · exact hwhen _ _
    · exact hwhen _ _
    · exact hwhen _ _
    · exact hset _
  · split
    · exact hset _
    · rfl
  · rfl

/-- Outside the ring's fields a direct write leaves in the field what its access code says. -/
theorem directWrite_get_self (hf : g ∉ ringFields) : (directWrite v s (g, a, b)).get g a b = written v (g, a, b) (s.get g a b) := by
  unfold directWrite written
  dsimp only
  cases g.row.acc with
  | rw =>
    dsimp only
    split
    case h_1 | h_2 | h_3 | h_4 => exact absurd hf (by decide)
    case h_5 => exact (s.get_set_self _ _ _ _).trans (Nat.mod_mod _ _)
  | w1c =>
    dsimp only
    split
    · exact (s.get_set_self _ _ _ _).trans (Nat.zero_mod _)
    · rfl
  | _ => rfl

/-- A doorbell's wake leaves every field alone outside STANDBY (R380). -/
theorem wakeBy_get {n : Nat} (h : s.get .PWR_STATE_STATE ≠ 4) : (wakeBy n s).get g a b = s.get g a b := by
  unfold wakeBy
  extract_lets
  split
  · rfl
  · split
    · rfl
    · split
      · rfl
      · rw [if_neg fun hn => h hn.1]

theorem directWrite_get (hg : g ∉ ringFields) :
    (directWrite v s p).get g a b = if p = (g, a, b) then written v p (s.get g a b) else s.get g a b := by
  split
  next h => rw [h, directWrite_get_self hg]
  next h => exact directWrite_get_other h

theorem directWrite_get_power : (directWrite v s p).get .PWR_STATE_STATE = s.get .PWR_STATE_STATE := by
  rw [directWrite_get (by decide)]
  split
  next h => exact written_of_fixed (by rw [h]; exact .inl rfl)
  next => rfl

theorem effCmdRingEnable_get {u : Nat} (hg : g ∉ ringFields) : (effCmdRingEnable u s).get g a b = s.get g a b := by
  unfold effCmdRingEnable ringEnable
  split
  · rfl
  · exact State.setAll_get s (fun p hp hgp => hg (by subst hgp; revert p; decide)) _ _ _ _

theorem effCmdRingDisable_get {u : Nat} (hg : g ∉ ringFields) : (effCmdRingDisable u s).get g a b = s.get g a b := by
  have hne : ∀ f ∈ ringFields, g ≠ f := fun f hf h => hg (h ▸ hf)
  unfold effCmdRingDisable
  split
  · rw [ringDisable_eq, State.set_get _ (hne .CMD_FN_BUSY (by decide))]
    show (s.set .CMD_FN_ENABLE 0 u).get g a b = _
    exact State.set_get s (hne .CMD_FN_ENABLE (by decide)) _ _ _ _ _
  · rfl

theorem effLearnHeadWrite_get {x : Nat} : (effLearnHeadWrite x s).get g a b = (s.set .TBL_LEARN_RING_HEAD x).get g a b := by
  unfold effLearnHeadWrite
  dsimp only
  split <;> rfl

end

/-! ### The instances in a word -/

theorem FldRow.index_lt {r : FldRow} {off i c : Nat} (h : r.index off = some (i, c)) : i < r.ni ∧ c < r.nj := by
  unfold FldRow.index at h
  split at h
  · cases h
  · extract_lets at h
    split at h
    next hc =>
      obtain ⟨rfl, rfl⟩ := Prod.mk.inj (Option.some.inj h)
      exact hc.2
    next => cases h

/-- A word's fields are instances that the register index has. -/
theorem lt_of_mem_fieldsAt {off i j : Nat} {f : Fld} (h : (f, i, j) ∈ fieldsAt off) : i < f.row.ni ∧ j < f.row.nj := by
  obtain ⟨f', -, h⟩ := List.mem_flatMap.1 h
  split at h
  · cases h
  next i' c hi =>
    have hlt := FldRow.index_lt hi
    split at h
    · cases List.mem_singleton.1 h; exact hlt
    · obtain ⟨j', hj, he⟩ := List.mem_map.1 h
      cases he
      exact ⟨hlt.1, List.mem_range.1 hj⟩

section
variable {off v a b : Nat} {g : Fld} {s : State}

/-- The write of one field's bits out of a word, outside the ring's fields and with no doorbell in STANDBY. -/
theorem registerField_get {p : Fld × Nat × Nat} (hp : p ∈ fieldsAt off) (hg : g ∉ ringFields)
    (hw : s.get .PWR_STATE_STATE ≠ 4 ∨ (p.1 ≠ .CMD_FN_SUB_TAIL ∧ p.1 ≠ .CORE_FN_SUB_TAIL)) :
    (registerField v s p).get g a b = if p = (g, a, b) then written v p (s.get g a b) else s.get g a b := by
  obtain ⟨f, i, j⟩ := p
  have hwake (hf : f = .CMD_FN_SUB_TAIL ∨ f = .CORE_FN_SUB_TAIL) :
      (wakeBy 4 (directWrite v s (f, i, j))).get g a b = (directWrite v s (f, i, j)).get g a b := by
    refine wakeBy_get ?_
    rw [directWrite_get_power]
    exact hw.resolve_right fun ⟨h1, h2⟩ => hf.elim h1 h2
  unfold registerField
  dsimp only at *
  split
  case h_1 =>
    refine Eq.trans ?_ (if_neg fun h => hg (by cases h; decide)).symm
    split
    · exact effCmdRingEnable_get hg
    · exact effCmdRingDisable_get hg
  case h_2 => exact (hwake (.inl rfl)).trans (directWrite_get hg)
  case h_3 => exact (hwake (.inr rfl)).trans (directWrite_get hg)
  case h_4 =>
    obtain ⟨hi, hj⟩ := lt_of_mem_fieldsAt hp
    obtain rfl : i = 0 := Nat.lt_one_iff.1 hi
    obtain rfl : j = 0 := Nat.lt_one_iff.1 hj
    exact effLearnHeadWrite_get.trans (directWrite_get (p := (.TBL_LEARN_RING_HEAD, 0, 0)) hg)
  case h_5 => exact directWrite_get hg

/-- A doorbell among the fields finds the device awake. -/
def quietWrite (l : List (Fld × Nat × Nat)) (s : State) : Prop :=
  s.get .PWR_STATE_STATE ≠ 4 ∨ ∀ p ∈ l, p.1 ≠ .CMD_FN_SUB_TAIL ∧ p.1 ≠ .CORE_FN_SUB_TAIL

/-- A field's write leaves the device as awake as it was. -/
theorem registerField_get_power {p : Fld × Nat × Nat} (hp : p ∈ fieldsAt off)
    (hw : s.get .PWR_STATE_STATE ≠ 4 ∨ (p.1 ≠ .CMD_FN_SUB_TAIL ∧ p.1 ≠ .CORE_FN_SUB_TAIL)) :
    (registerField v s p).get .PWR_STATE_STATE = s.get .PWR_STATE_STATE := by
  rw [registerField_get hp (by decide) hw]
  split
  next h => exact written_of_fixed (by rw [h]; exact .inl rfl)
  next => rfl

/-- The fields of a word, written in turn: each instance among them takes what its access code says, every other reads as before. -/
theorem foldl_registerField_get {l : List (Fld × Nat × Nat)} (hl : ∀ p ∈ l, p ∈ fieldsAt off) (hg : g ∉ ringFields)
    (hw : quietWrite l s) :
    (l.foldl (registerField v) s).get g a b = if (g, a, b) ∈ l then written v (g, a, b) (s.get g a b) else s.get g a b := by
  induction l generalizing s with
  | nil => rfl
  | cons p r ih =>
    have hp := hl p List.mem_cons_self
    have hwp : s.get .PWR_STATE_STATE ≠ 4 ∨ (p.1 ≠ .CMD_FN_SUB_TAIL ∧ p.1 ≠ .CORE_FN_SUB_TAIL) := hw.imp_right (· p List.mem_cons_self)
    have hwr : quietWrite r (registerField v s p) := by
      unfold quietWrite
      rw [registerField_get_power hp hwp]
      exact hw.imp_right fun h q hq => h q (List.mem_cons_of_mem _ hq)
    rw [List.foldl_cons, ih (fun q hq => hl q (List.mem_cons_of_mem _ hq)) hwr, registerField_get hp hg hwp]
    by_cases he : p = (g, a, b)
    · subst he
      simp [written_written]
    · simp [he, Ne.symm he]

/-- A direct write outside the ring's fields, with no doorbell in STANDBY. -/
theorem effRegisterWrite_get (hg : g ∉ ringFields) (hw : quietWrite (fieldsAt off) s) : (effRegisterWrite off v s).get g a b =
    if off % 8 = 0 ∧ (g, a, b) ∈ fieldsAt off then written v (g, a, b) (s.get g a b) else s.get g a b := by
  by_cases h : off % 8 = 0
  · rw [effRegisterWrite_of_aligned h, foldl_registerField_get (fun _ hp => hp) hg hw]
    simp [h]
  · rw [effRegisterWrite_discarded (.inl h)]
    simp [h]

end

/-- Settles O52: of the fields outside a ring's own, those that the word holds take what their access code says. -/
theorem directWritesFollowAccessCodes : Obligations.DirectWritesFollowAccessCodes := by
  intro off v s t hn hw g a b hg
  obtain rfl : effRegisterWrite off v s = t := Host.Outcome.next.inj hn
  rw [effRegisterWrite_get hg hw]
  refine ⟨fun hacc => ?_, fun hmem => if_neg fun h => hmem h.2, fun hacc hmem hal => ?_, fun hacc hmem hal hw1 => ?_⟩
  · split
    · exact written_of_fixed hacc
    · rfl
  · rw [if_pos ⟨hal, hmem⟩, written_of_rw hacc]
  · rw [if_pos ⟨hal, hmem⟩, written_of_w1c hacc hw1]

end Sys2Proof.Machine

/-! ## The release rule, the scheduler's events and the debit (`05_release_rule.md`, `10_scheduling.md`) -/

namespace Sys2Proof.Machine

open Sys2Proof

/-- A row completes with the state that its effect is. -/
theorem next_congr {t u : State} (h : t = u) : (Host.Outcome.next t : Host.Outcome State Fault Refusal) = .next u := congrArg _ h

/-- The item whose result at point 1 a row of the queue brings (R134): such a row may go before the one at hand. -/
def confirmsC1 (i : Instr) : Option Nat := match i with | .confirmation j p _ => if p.val = 1 then some j else none | _ => none

section
variable {k p n sc r x : Nat} {pass : Bool} {it : Item} {s t u : State} {pr : PolResult}

theorem effConfirmation_of_line (ho : (s.item k).origin = .line n sc) : effConfirmation k 1 pass s =
    confirmPoint k 1 pass ((sooner s confirmsC1 (lineRank s n) (lineRank s n k)).foldl (fun t j => confirmPoint j 1 true t) s) := by
  unfold effConfirmation
  rw [ho]
  rfl

theorem effConfirmation_of_other (h : p ≠ 1 ∨ ∀ n sc, (s.item k).origin ≠ .line n sc) :
    effConfirmation k p pass s = confirmPoint k p pass s := by
  unfold effConfirmation
  split
  next ho => exact (h.elim (· rfl) (· _ _ ho)).elim
  next => rfl

/-! ### One result (R134, R142 to R145) -/

theorem confirmPoint_of_settled (h : (s.item k).points.contains p = false) : confirmPoint k p pass s = s := by
  unfold confirmPoint
  rw [h]
  rfl

/-- Points 2, 4 and 5 have rows of their own. -/
theorem confirmPoint_of_other (h1 : p ≠ 1) (h3 : p ≠ 3) : confirmPoint k p pass s = s := by
  unfold confirmPoint
  split
  · rfl
  · split
    · exact absurd rfl h1
    · exact absurd rfl h3
    · rfl

theorem confirmPoint_one (h : (s.item k).points.contains 1 = true) : confirmPoint k 1 pass s =
    if c1Result s (s.item k) = 0 then s
    else if c1Result s (s.item k) = 1 then passC1 k (lateCopies k s)
    else failItem k 1 (failCounter ((lateCopies k s).item k) 1 (c1Result s (s.item k) - 2)) (lateCopies k s) := by
  unfold confirmPoint
  rw [h]
  rfl

theorem confirmPoint_one_open (h : (s.item k).points.contains 1 = true) (hr : c1Result s (s.item k) = 0) :
    confirmPoint k 1 pass s = s := by
  rw [confirmPoint_one h, if_pos hr]

theorem confirmPoint_one_passed (h : (s.item k).points.contains 1 = true) (hr : c1Result s (s.item k) = 1) :
    confirmPoint k 1 pass s = passC1 k (lateCopies k s) := by
  rw [confirmPoint_one h, hr]
  rfl

theorem confirmPoint_one_failed (h : (s.item k).points.contains 1 = true) (hr : c1Result s (s.item k) = r + 2) :
    confirmPoint k 1 pass s = failItem k 1 (failCounter ((lateCopies k s).item k) 1 r) (lateCopies k s) := by
  rw [confirmPoint_one h, hr, if_neg (by simp), if_neg (by simp)]
  rfl

theorem confirmPoint_three_failed (h : (s.item k).points.contains 3 = true)
    (hf : c3Fault (lateCopies k s) ((lateCopies k s).item k) pass = some x) :
    confirmPoint k 3 pass s = failItem k 3 (failCounter ((lateCopies k s).item k) 3 x) (lateCopies k s) := by
  unfold confirmPoint
  simp only [h, hf, Bool.not_true, Bool.false_eq_true, if_false]

theorem confirmPoint_three_passed (h : (s.item k).points.contains 3 = true)
    (hf : c3Fault (lateCopies k s) ((lateCopies k s).item k) pass = none) :
    confirmPoint k 3 pass s = passPoint k 3 (lateCopies k s) := by
  unfold confirmPoint
  simp only [h, hf, Bool.not_true, Bool.false_eq_true, if_false]

/-- What C3 says of a host frame (R171). -/
theorem c3Fault_of_host (ho : it.origin = .host x) : c3Fault s it pass =
    if it.failed ≠ none ∨ pass = false then some 0
    else if it.bytes.length + 4 < 64 ∨ s.get .PORT_CFG_MAX_FRAME x < it.bytes.length + 4 then some 1 else none := by
  unfold c3Fault
  rw [ho]
  simp [Option.isSome_iff_ne_none]

/-! ### The commit of a policer (R135, R264) -/

theorem policerCommitOne_eq_self (h : (s.item k).policer = none ∨ (s.item k).points ≠ [5]) : policerCommitOne s k = s := by
  unfold policerCommitOne
  split
  next ho => exact if_pos (h.resolve_left (ho ▸ nofun))
  next => rfl

theorem policerCommitOne_of_due (hp : (s.item k).policer = some p) (h5 : (s.item k).points = [5])
    (hc : commitPolicer k p (lateCopies k s) = (t, pr)) : policerCommitOne s k = settleResult k pr t := by
  unfold policerCommitOne
  rw [hp]
  show (if _ then _ else _) = _
  rw [if_neg (not_not_intro h5)]
  show settleResult k (commitPolicer k p (lateCopies k s)).2 (commitPolicer k p (lateCopies k s)).1 = _
  rw [hc]

/-- The provisional result that an item holds, if any, says what the committed one says. -/
theorem provisional_agrees_iff {o : Option PolResult} :
    (o.map (sameResult pr)).getD false = true ↔ ∃ x, o = some x ∧ sameResult pr x = true := by
  cases o <;> simp

theorem settleResult_agreed (h : (∃ x, (t.item k).provisional = some x ∧ sameResult pr x = true) ∨ droppedEarly (t.item k) = true) :
    settleResult k pr t = passPoint k 5 t :=
  if_pos (h.imp_left provisional_agrees_iff.2)

theorem settleResult_changed (h : ∀ x, (t.item k).provisional = some x → sameResult pr x = false)
    (hd : droppedEarly (t.item k) = false) : settleResult k pr t = passPoint k 5 (recommit k (takeResult k pr t)) := by
  refine if_neg fun hc => hc.elim (fun hs => ?_) (fun he => Bool.false_ne_true (hd.symm.trans he))
  obtain ⟨x, hx, ht⟩ := provisional_agrees_iff.1 hs
  exact Bool.false_ne_true ((h x hx).symm.trans ht)

/-! ### Selection and debit (R147, R254 to R259, R266) -/

theorem accepts_line (h1 : 32 ≤ n) (h2 : n < 36) : accepts s n = false := by
  unfold accepts
  rw [if_neg (Nat.not_lt_of_le h1), if_pos h2]

theorem effSchedSelect_of_refused (h : accepts s n = false) : effSchedSelect n s = s := by
  unfold effSchedSelect
  rw [h]
  rfl

theorem effSchedSelect_of_accepted (h : accepts s n = true) : effSchedSelect n s = serve n (bucketsNow s) := if_pos h

theorem serve_of_none (h : (chosenQueue n s).1 = none) : serve n s = (chosenQueue n s).2 := by
  unfold serve
  generalize chosenQueue n s = c at h
  obtain ⟨_, t⟩ := c
  subst h
  rfl

theorem serve_of_some {q c : Nat} (h : (chosenQueue n s).1 = some q) (hd : dequeue q (chosenQueue n s).2 = (u, some c)) :
    serve n s = consume n c u := by
  unfold serve
  generalize chosenQueue n s = c at h hd
  obtain ⟨_, t⟩ := c
  subst h
  simp only [hd]

theorem consume_of_host {c : Nat} (h : n < 32) : consume n c s = toMac n c s := if_pos h

theorem consume_of_recirculation {c : Nat} (h1 : 32 ≤ n) (h2 : n < 40) : consume n c s = recirculate c s :=
  (if_neg (Nat.not_lt_of_le h1)).trans (if_pos h2)

theorem effFrameDebit_of_ended (h : (s.copy k).phase = 3) : effFrameDebit k s = debitFrame k (refillDue s) := if_neg (not_not_intro h)

/-- The debit of a frame (R147, R257, R266): one sent in full is counted too. -/
theorem debitFrame_of_ok {c : Copy} (hc : s.copy k = c) (h : c.ok = true) : debitFrame k s =
    closeItem c.item (freeCopy k (((release c.len true c.sent c.reserved s).inc .SCHED_DEQ_FRAMES c.dest).bump .SCHED_DEQ_BYTES
      (counted c.len ((c.reserved.getLast?.map (·.2)).getD 0)) c.dest)) := by
  subst hc
  unfold debitFrame
  simp only [h, if_true]

theorem debitFrame_of_cut {c : Copy} (hc : s.copy k = c) (h : c.ok = false) : debitFrame k s =
    closeItem c.item (freeCopy k (release c.len false c.sent c.reserved s)) := by
  subst hc
  unfold debitFrame
  simp only [h, Bool.false_eq_true, if_false]

end

/-- Settles O32, one row of the table after the other. -/
theorem releaseAndScheduleEventsComplete : Obligations.ReleaseAndScheduleEventsComplete := by
  refine ⟨fun k point pass s => ⟨fun n sc hp ho => ?_, fun h => ?_⟩,
    fun k pass s => ⟨fun point h => ?_, fun h => ⟨confirmPoint_one_open h, confirmPoint_one_passed h, fun r => confirmPoint_one_failed h⟩,
      fun t h ht => ?_⟩,
    fun it x pass s ho => ⟨fun h => ?_, fun hf hp h => ?_, fun hf hp h64 hmax => ?_⟩, fun k s => rfl,
    fun k s => ⟨policerCommitOne_eq_self, fun p t r hp h5 hc => ?_⟩, fun c s => ⟨fun h => next_congr (if_pos h), fun h => ?_⟩,
    fun s => ⟨fun h => next_congr (if_pos h), fun h => next_congr (if_neg (Nat.not_lt_of_le h))⟩,
    fun d s t ht => ⟨fun h => ?_, fun h1 h2 => ?_, fun h r hr => ?_⟩, fun k s t c ht hc => ⟨fun h => ?_, fun h => ?_⟩⟩
  · show Host.Outcome.next (effConfirmation k point.val pass s) = _
    rw [hp]
    exact next_congr (effConfirmation_of_line ho)
  · exact next_congr (effConfirmation_of_other h)
  · exact h.elim confirmPoint_of_settled fun ⟨h1, h3⟩ => confirmPoint_of_other h1 h3
  · subst ht
    exact ⟨fun x => confirmPoint_three_failed h, confirmPoint_three_passed h⟩
  · exact (c3Fault_of_host ho).trans (if_pos h)
  · rw [c3Fault_of_host ho, if_neg (by simp [hf, hp]), if_pos h]
  · rw [c3Fault_of_host ho, if_neg (by simp [hf, hp]), if_neg (by omega)]
  · rw [policerCommitOne_of_due hp h5 hc]
    exact ⟨settleResult_agreed, settleResult_changed⟩
  · exact next_congr (if_neg (h ▸ Bool.false_ne_true))
  · exact next_congr (effSchedSelect_of_refused h)
  · exact next_congr (effSchedSelect_of_refused (accepts_line h1 h2))
  · subst ht hr
    have he : exec (.schedSelect d) s = .next (serve d (bucketsNow s)) := next_congr (effSchedSelect_of_accepted h)
    refine ⟨fun hn => he.trans (next_congr (serve_of_none hn)), fun n u c hn hd => ?_⟩
    rw [serve_of_some hn hd] at he
    refine ⟨fun hlt => ?_, fun hle hlt => ?_, fun h40 => ?_, fun h41 => ?_⟩
    · exact he.trans (next_congr (consume_of_host hlt))
    · exact he.trans (next_congr (consume_of_recirculation hle hlt))
    · rw [h40] at he; exact he
    · rw [h41] at he; exact he
  · exact next_congr (if_pos h)
  · subst ht
    exact ⟨fun hok => next_congr ((effFrameDebit_of_ended h).trans (debitFrame_of_ok hc.symm hok)),
      fun hok => next_congr ((effFrameDebit_of_ended h).trans (debitFrame_of_cut hc.symm hok))⟩

end Sys2Proof.Machine

/-! ## The line-port commands (`01_line_modem.md` R25 to R27, R30, R38 to R41) -/

namespace Sys2Proof.Machine

open Sys2Proof

/-- An update of a line port's modem is what it makes of the modem as it stands. -/
theorem State.setLine_congr {s : State} {n : Nat} {f g : LinePort → LinePort} (h : f (s.line n) = g (s.line n)) :
    s.setLine n f = s.setLine n g := by
  unfold State.setLine
  rw [h]

theorem State.when_of_true {s : State} {c : Bool} {f : State → State} (h : c = true) : s.when c f = f s := if_pos h

theorem State.when_of_false {s : State} {c : Bool} {f : State → State} (h : c = false) : s.when c f = s := if_neg (ne_true_of_eq_false h)

section
variable {c : CmdInfo} {q : Req} {param : State → Option Nat} {b : State → Bool} {keys : List Nat} {body : State → Result} {s : State}

theorem needs_of_true (h : b s = true) : needs b s = none := if_pos h

/-- A command that its unit's state does not allow (R310). -/
theorem single_of_needs_false (h : takenUp c q s = true) (hb : b s = false) :
    single c q keys (needs b) param body s = reject c q stState 0 s :=
  checked_unit _ h (if_neg (hb ▸ Bool.false_ne_true))

end

/-! ### LINE_CONFIG and the nominal frequency (R30, R39) -/

/-- A write of NOMINAL_MHZ that the port's state allows (R39): no change, a small step, or a retune that is admitted. -/
def nominalAllowed (q : Req) (s : State) (w : Nat × Nat × Nat) : Bool :=
  w.2.2 == s.get .LINE_LASER_NOMINAL_MHZ w.1 || smallStep (s.get .LINE_LASER_NOMINAL_MHZ w.1) w.2.2 || retuneAllowed q w.1 s

section
variable {q : Req} {es : List WEntry} {s : State} {w : Nat × Nat × Nat} {n old new : Nat}

theorem nominalAllowed_iff : nominalAllowed q s w = true ↔ w.2.2 = s.get .LINE_LASER_NOMINAL_MHZ w.1 ∨
    smallStep (s.get .LINE_LASER_NOMINAL_MHZ w.1) w.2.2 = true ∨ retuneAllowed q w.1 s = true := by
  simp [nominalAllowed, or_assoc]

theorem lineConfig_done (ht : takenUp ciLineConfig q s = true) (hp : wErr lineConfigAllow es = none)
    (h : ∀ w ∈ wWrites .LINE_LASER_NOMINAL_MHZ es, nominalAllowed q s w = true) :
    Done (.lineConfig q es) ciLineConfig q (es.map (·.off)) s ((List.range 4).foldl (fun t n =>
      newNominal n (s.get .LINE_LASER_NOMINAL_MHZ n) (t.get .LINE_LASER_NOMINAL_MHZ n) t) (wApplyAll s es)) :=
  next_congr (single_accepted _ _ ht (needs_of_true (List.all_eq_true.2 h)) hp)

theorem lineConfig_rejected (ht : takenUp ciLineConfig q s = true) (hw : w ∈ wWrites .LINE_LASER_NOMINAL_MHZ es)
    (h : nominalAllowed q s w = false) : Next (.lineConfig q es) s (reject ciLineConfig q stState 0 s) :=
  next_congr (single_of_needs_false ht (List.all_eq_false.2 ⟨w, hw, ne_true_of_eq_false h⟩))

theorem newNominal_of_same : newNominal n old old s = s := if_pos rfl

theorem newNominal_of_zero (h : old ≠ 0) :
    newNominal n old 0 s = laserOutput n false (s.setLine n (fun l => { l with wantMHz := 0, retuning := false })) :=
  (if_neg h.symm).trans (if_pos rfl)

theorem ne_zero_of_smallStep (h : smallStep old new = true) : new ≠ 0 := (of_decide_eq_true h).2.1

theorem newNominal_of_smallStep (h : new ≠ old) (hs : smallStep old new = true) :
    newNominal n old new s = sendFt n (clamp (-250) 250 ((s.line n).ft + roundDiv ((new : Int) - old) 10)) s :=
  (if_neg h).trans ((if_neg (ne_zero_of_smallStep hs)).trans (if_pos hs))

theorem newNominal_of_retune (h : new ≠ old) (h0 : new ≠ 0) (hs : smallStep old new = false) :
    newNominal n old new s = startRetune n s :=
  (if_neg h).trans ((if_neg h0).trans (if_neg (hs ▸ Bool.false_ne_true)))

end

/-! ### The commands of one port -/

section
variable {q : Req} {n mask : Nat} {cd : Int} {s : State} {old : Option PendingSwap} {by_ : List Req} {p : PendingSwap}

theorem want_port (h : n < 4) : want 16 (decide (n < 4)) = none := want_true _ (decide_eq_true h)

theorem requestStep_of_pending (h : s.get .LINE_AGC_STEP_PENDING n = 1) : requestStep n s = s := if_pos (State.isSet_iff.2 h)

theorem requestStep_of_none (h : s.get .LINE_AGC_STEP_PENDING n ≠ 1) :
    requestStep n s = (s.set .LINE_AGC_STEP_PENDING 1 n).setLine n (fun l => { l with stepDue := false }) :=
  if_neg (mt State.isSet_iff.1 h)

theorem requestSwap_of_none {v : Int} (h : old = none) : requestSwap old v by_ = some ⟨v, false, by_⟩ := by rw [h]; rfl

theorem requestSwap_of_some {v : Int} (h : old = some p) : requestSwap old v by_ = some ⟨v, p.due, p.waiters ++ by_⟩ := by rw [h]; rfl

theorem lineSearch_done (hn : n < 4) (ht : takenUp (ciLineSearch n) q s = true) (start : Bool) :
    Done (.lineSearch q n start) (ciLineSearch n) q [n] s
      (if start then (if s.isSet .LINE_STATUS_SEARCHING n then s else startSearch n 0x0402 s)
       else (s.set .LINE_STATUS_SEARCHING 0 n).stop (.dillPass n)) :=
  next_congr (single_accepted _ _ ht rfl (want_port hn))

theorem lineRelevel_done (hn : n < 4) (ht : takenUp (ciLineRelevel n) q s = true) (hf : s.get .LINE_AGC_FROZEN n = 1) :
    Done (.lineRelevel q n) (ciLineRelevel n) q [n] s (requestStep n s) :=
  next_congr (single_accepted _ _ ht (needs_of_true (by simp [State.isSet, hf])) (want_port hn))

theorem lineRelevel_rejected (hn : n < 4) (ht : takenUp (ciLineRelevel n) q s = true) (hf : s.get .LINE_AGC_FROZEN n ≠ 1) :
    Next (.lineRelevel q n) s (reject (ciLineRelevel n) q stState 0 s) :=
  next_congr (single_of_needs_false ht (by simp [State.isSet, hf, hn]))

theorem lineSetCd_next (hn : n < 4) (ht : takenUp (ciLineSetCd n) q s = true) (h1 : -12000 ≤ cd) (h2 : cd ≤ 12000) :
    Next (.lineSetCd q n cd) s (s.setLine n (fun l => { l with cdSwap := requestSwap l.cdSwap cd [q] })) :=
  next_congr (checked_accepted _ ht rfl (by simp [hn, h1, h2]))

theorem lineEqRestart_next (hn : n < 4) (ht : takenUp (ciLineEqRestart n) q s = true) (hm : mask < 65536) :
    Next (.lineEqRestart q n mask) s (s.setLine n (fun l => { l with eqSwap := requestSwap l.eqSwap mask [q] })) :=
  next_congr (checked_accepted _ ht rfl (by simp [hn, hm]))

theorem lineScEnable_next (hn : n < 4) (ht : takenUp (ciLineScEnable n) q s = true) (hm : mask < 65536)
    (h : (s.line n).controlKnown = false ∨ bit mask (s.get .LINE_STATUS_CONTROL_SC n) = true) :
    Next (.lineScEnable q n mask) s
      (s.setLine n (fun l => { l with scSwaps := l.scSwaps ++ [(⟨(mask : Int), false, [q]⟩ : PendingSwap)] })) :=
  next_congr (checked_accepted _ ht rfl (by simp [hn, hm, want, h]))

theorem lineScEnable_rejected (hn : n < 4) (ht : takenUp (ciLineScEnable n) q s = true)
    (hk : (s.line n).controlKnown = true) (hb : bit mask (s.get .LINE_STATUS_CONTROL_SC n) = false) :
    Next (.lineScEnable q n mask) s (reject (ciLineScEnable n) q stParam 24 s) :=
  next_congr (checked_param _ ht rfl (by simp [hn, hk, hb]))

theorem lineLaserRetune_done (hn : n < 4) (ht : takenUp (ciLineLaserRetune n) q s = true)
    (h0 : s.get .LINE_LASER_NOMINAL_MHZ n ≠ 0) (h : q.force = true ∨ s.tree n = tsOffline ∨ s.tree n = tsListen) :
    Done (.lineLaserRetune q n) (ciLineLaserRetune n) q [n] s (startRetune n s) :=
  next_congr (single_accepted _ _ ht (needs_of_true (by simp [retuneAllowed, h0, or_assoc, h])) (want_port hn))

theorem lineLaserRetune_rejected (hn : n < 4) (ht : takenUp (ciLineLaserRetune n) q s = true)
    (h : s.get .LINE_LASER_NOMINAL_MHZ n = 0 ∨ (q.force = false ∧ s.tree n ≠ tsOffline ∧ s.tree n ≠ tsListen)) :
    Next (.lineLaserRetune q n) s (reject (ciLineLaserRetune n) q stState 0 s) := by
  refine next_congr (single_of_needs_false ht ?_)
  rcases h with h | ⟨hq, h1, h2⟩
  · simp [hn, h]
  · simp [retuneAllowed, hn, hq, h1, h2]

end

/-- Settles O6, one row of the table after the other. -/
theorem lineModemCommandsComplete : Obligations.LineModemCommandsComplete := by
  refine ⟨fun q es s ht hp => ⟨fun h => lineConfig_done ht hp fun w hw => nominalAllowed_iff.2 (h w hw),
      fun w hw h1 h2 h3 => lineConfig_rejected ht hw (by simp [nominalAllowed, h1, h2, h3])⟩,
    fun n old new s => ⟨newNominal_of_same, newNominal_of_zero, newNominal_of_smallStep, newNominal_of_retune⟩,
    fun q n s hn ht => ⟨fun h => ?_, fun h => ?_, ?_⟩,
    fun q n s hn ht => ⟨lineRelevel_rejected hn ht, fun hf hp => ?_, fun hf hp => ?_⟩,
    fun q n cd s hn ht h1 h2 => ⟨fun h => ?_, fun p h => ?_⟩, fun q n mask s hn ht hm => ⟨fun h => ?_, fun p h => ?_⟩,
    fun q n mask s hn ht hm => ⟨lineScEnable_next hn ht hm, lineScEnable_rejected hn ht⟩,
    fun q n s hn ht => ⟨lineLaserRetune_done hn ht, lineLaserRetune_rejected hn ht⟩,
    fun q n arm point sc trigger pre trigSf s hn ht h1 h2 h3 h4 h5 => ?_,
    fun q es s ht hp => next_congr (writeCmd_accepted _ _ ht hp)⟩
  · exact (lineSearch_done hn ht true).trans (by rw [if_pos rfl, if_pos (State.isSet_iff.2 h)])
  · exact (lineSearch_done hn ht true).trans (by rw [if_pos rfl, if_neg (mt State.isSet_iff.1 h)])
  · exact (lineSearch_done hn ht false).trans (by rw [if_neg Bool.false_ne_true])
  · exact (lineRelevel_done hn ht hf).trans (by rw [requestStep_of_pending hp])
  · exact (lineRelevel_done hn ht hf).trans (by rw [requestStep_of_none hp])
  · exact (lineSetCd_next hn ht h1 h2).trans (next_congr (State.setLine_congr (by rw [requestSwap_of_none h])))
  · exact (lineSetCd_next hn ht h1 h2).trans (next_congr (State.setLine_congr (by rw [requestSwap_of_some h])))
  · exact (lineEqRestart_next hn ht hm).trans (next_congr (State.setLine_congr (by rw [requestSwap_of_none h])))
  · exact (lineEqRestart_next hn ht hm).trans (next_congr (State.setLine_congr (by rw [requestSwap_of_some h])))
  · replace h5 : trigSf < 33554432 := h5
    exact next_congr (single_accepted _ _ ht rfl (by simp [hn, h1, h2, h3, h4, h5]))

end Sys2Proof.Machine

/-! ## The laser bus and its events (`01_line_modem.md` R20 to R22, R32, R39; `16_faults.md` R398) -/

namespace Sys2Proof.Machine

open Sys2Proof

/-! ### Carrier lock and the loop (R20, R21) -/

section
variable {n good bad : Nat} {k ft : Int} {c : LaserCmd} {s t : State}

/-- The runs of good and bad measurements that a measurement leaves (R21). -/
def lockRuns (n : Nat) (k : Int) (s : State) : Nat × Nat :=
  (if k.natAbs < 50000 ∧ (s.line n).blind = false then (s.line n).goodRun + 1 else 0,
   if 100000 ≤ k.natAbs then (s.line n).badRun + 1 else 0)

/-- The line port with the runs that a measurement leaves. -/
def lockCounted (n good bad : Nat) (s : State) : State :=
  s.setLine n (fun l => { l with goodRun := min good 3, badRun := min bad 2 })

theorem carrierLock_eq (h : lockRuns n k s = (good, bad)) : carrierLock n k s =
    if s.get .LINE_STATUS_CARRIER_LOCK n = 1 then
      if 2 ≤ bad then
        ((carrierSet n false (lockCounted n good bad s)).raise 0x0403 [n, ofSigned 32 (roundDiv k 1000)]).irq .LINE_EVT_STATUS_LOCK_LOST
          .LINE_EVT_ENABLE_LOCK_LOST (4 + n) n
      else lockCounted n good bad s
    else if 3 ≤ good then carrierSet n true (lockCounted n good bad s) else lockCounted n good bad s := by
  obtain ⟨rfl, rfl⟩ := Prod.mk.inj h
  exact if_congr State.isSet_iff rfl rfl

theorem lockRuns_of_good (h : k.natAbs < 50000) (hb : (s.line n).blind = false) : lockRuns n k s = ((s.line n).goodRun + 1, 0) := by
  unfold lockRuns
  rw [if_pos ⟨h, hb⟩, if_neg (by omega)]

theorem lockRuns_of_blind (h : k.natAbs < 100000) (hb : (s.line n).blind = true) : lockRuns n k s = (0, 0) := by
  unfold lockRuns
  rw [if_neg (by simp [hb]), if_neg (by omega)]

theorem lockRuns_of_middle (h1 : 50000 ≤ k.natAbs) (h2 : k.natAbs < 100000) : lockRuns n k s = (0, 0) := by
  unfold lockRuns
  rw [if_neg (by omega), if_neg (by omega)]

theorem lockRuns_of_bad (h : 100000 ≤ k.natAbs) : lockRuns n k s = (0, (s.line n).badRun + 1) := by
  unfold lockRuns
  rw [if_neg (by omega), if_pos h]

/-- Neither a third good measurement in succession nor a second bad one: only the runs change. -/
theorem carrierLock_of_runs (h : lockRuns n k s = (good, bad)) (ht : lockCounted n good bad s = t)
    (hg : s.get .LINE_STATUS_CARRIER_LOCK n = 1 ∨ good < 3) (hb : s.get .LINE_STATUS_CARRIER_LOCK n ≠ 1 ∨ bad < 2) :
    carrierLock n k s = t := by
  rw [carrierLock_eq h, ht]
  by_cases hl : s.get .LINE_STATUS_CARRIER_LOCK n = 1
  · rw [if_pos hl, if_neg (Nat.not_le_of_lt (hb.resolve_left (not_not_intro hl)))]
  · rw [if_neg hl, if_neg (Nat.not_le_of_lt (hg.resolve_left hl))]

theorem carrierLock_declared (h : lockRuns n k s = (good, bad)) (ht : lockCounted n good bad s = t)
    (hl : s.get .LINE_STATUS_CARRIER_LOCK n ≠ 1) (hg : 3 ≤ good) : carrierLock n k s = carrierSet n true t := by
  rw [carrierLock_eq h, if_neg hl, if_pos hg, ht]

theorem carrierLock_lost (h : lockRuns n k s = (good, bad)) (ht : lockCounted n good bad s = t)
    (hl : s.get .LINE_STATUS_CARRIER_LOCK n = 1) (hb : 2 ≤ bad) : carrierLock n k s =
      ((carrierSet n false t).raise 0x0403 [n, ofSigned 32 (roundDiv k 1000)]).irq .LINE_EVT_STATUS_LOCK_LOST
        .LINE_EVT_ENABLE_LOCK_LOST (4 + n) n := by
  rw [carrierLock_eq h, if_pos hl, if_pos hb, ht]

theorem laserSend_of_ok (hb : s.get .LINE_STATUS_LASER_BUS_OK n = 1) (hs : s.get .FLT_STATUS_SAFE ≠ 1) :
    laserSend n c s = (s.setLine n (fun l => { l with bus := l.bus ++ [c] })).emit (laserOut n c) :=
  if_pos ⟨State.isSet_iff.2 hb, by simp [State.safe, State.isSet, hs]⟩

theorem laserSend_of_out (h : s.get .LINE_STATUS_LASER_BUS_OK n ≠ 1 ∨ s.get .FLT_STATUS_SAFE = 1) : laserSend n c s = s :=
  if_neg fun ⟨hb, hs⟩ => h.elim (· (State.isSet_iff.1 hb)) fun h => by simp [State.safe, State.isSet, h] at hs

theorem sendFt_of_burst (h : s.get .LINE_STATUS_TX_ACTIVE n = 1) :
    sendFt n ft s = s.setLine n (fun l => { l with ft := ft, heldFt := some ft }) := if_pos (State.isSet_iff.2 h)

theorem sendFt_of_dark (h : s.get .LINE_STATUS_TX_ACTIVE n ≠ 1) :
    sendFt n ft s = laserSend n (.fineTune ft) (s.setLine n (fun l => { l with ft := ft, heldFt := none })) :=
  if_neg (mt State.isSet_iff.1 h)

end

/-- What a measurement leaves before the loop acts on it (R20, R21): the offset, carrier lock, and the limit condition with its event. -/
def cfoMeasured (n : Nat) (k : Int) (s : State) : State :=
  let u := (carrierLock n k (s.setI .LINE_CFO_OFFSET_KHZ k n)).set .LINE_STATUS_FT_LIMIT (b2n (ftLimit (s.line n).ft (roundDiv k 10000))) n
  u.when (ftLimit (s.line n).ft (roundDiv k 10000) && !(s.isSet .LINE_STATUS_FT_LIMIT n)) (fun u =>
    (u.raise 0x0407 [n, ofSigned 32 (roundDiv k 1000)]).irq .LINE_EVT_STATUS_FT_LIMIT .LINE_EVT_ENABLE_FT_LIMIT (4 + n) n)

/-- The loop of R20 runs: it is enabled, the bus is in order, a frequency is set, and nothing holds it back. -/
def loopRuns (n : Nat) (t : State) : Prop :=
  t.get .LINE_LASER_FT_ENABLE n = 1 ∧ t.get .LINE_STATUS_LASER_BUS_OK n = 1 ∧ t.get .LINE_LASER_NOMINAL_MHZ n ≠ 0 ∧
    t.get .FLT_STATUS_SAFE ≠ 1 ∧ (t.line n).resuming = false

section
variable {n m : Nat} {k ft : Int} {c : LaserCmd} {r : List LaserCmd} {ok : Bool} {s t : State}

theorem loopRuns_iff : loopRuns n t ↔ (t.isSet .LINE_LASER_FT_ENABLE n ∧ t.isSet .LINE_STATUS_LASER_BUS_OK n ∧
    t.get .LINE_LASER_NOMINAL_MHZ n ≠ 0 ∧ !t.safe ∧ (t.line n).resuming = false) := by
  simp [loopRuns, State.isSet_iff, State.safe, State.isSet_eq_false_iff]

theorem effCfoMeasurement_of_loop (ht : t = cfoMeasured n k s) (h : loopRuns n t) :
    effCfoMeasurement n k s = sendFt n (clamp (-250) 250 ((s.line n).ft + clamp (-5) 5 (roundDiv k 10000))) t := by
  subst ht
  exact if_pos (loopRuns_iff.1 h)

theorem effCfoMeasurement_of_no_loop (ht : t = cfoMeasured n k s) (h : ¬ loopRuns n t) : effCfoMeasurement n k s = t := by
  subst ht
  exact if_neg (mt loopRuns_iff.2 h)

/-! ### Acknowledgements (R20, R22, R32, R39) -/

theorem effFineTuneAck_of_none (h : oldestFt (s.line n).bus = none) : effFineTuneAck n s = s := by
  unfold effFineTuneAck
  rw [h]

theorem effFineTuneAck_of_some (h : oldestFt (s.line n).bus = some ft) : effFineTuneAck n s =
    (((s.setLine n (fun l => { busAck (.fineTune ft) l with resuming := false })).setI .LINE_LASER_FT_APPLIED ft n).inc .LP_FT_SENT n).when
      (decide (5 < (ft - s.getI .LINE_LASER_FT_APPLIED n).natAbs) && !(s.line n).dillDue) (markMask n 0xFFFF none) := by
  unfold effFineTuneAck
  rw [h]

theorem effSetFreqAck_of_none (h : oldestFreq (s.line n).bus = none) : effSetFreqAck n s = s := by
  unfold effSetFreqAck
  rw [h]

/-- The laser has taken SET_FREQ (R39): every symbol is marked until re-acquisition. -/
def freqTaken (n m : Nat) (s : State) : State :=
  markMask n 0xFFFF none (s.setLine n (fun l => { busAck (.setFreq m) l with
    laserMHz := m, heldFt := none, forced := false, blind := (s.line n).forced, dillDue := true }))

theorem effSetFreqAck_of_some (h : oldestFreq (s.line n).bus = some m) (ht : t = freqTaken n m s) : effSetFreqAck n s =
    sendFt n (if (t.line n).resuming then (t.line n).ft else 0)
      (if (s.line n).forced then lightLost n (agcUnfreeze n (lockLost n t)) else t) := by
  subst ht
  unfold effSetFreqAck
  rw [h]
  rfl

theorem effLaserFreqStable_of_steady (h : (s.line n).retuning = false) : effLaserFreqStable n s = s := if_neg (h ▸ Bool.false_ne_true)

theorem effLaserFreqStable_of_retuning (h : (s.line n).retuning = true) : effLaserFreqStable n s =
    if s.tree n = tsOffline ∧ s.get .LINE_STATUS_SEARCHING n ≠ 1 then s.setLine n (fun l => { l with retuning := false })
    else startSearch n 0 (s.setLine n (fun l => { l with retuning := false })) := by
  unfold effLaserFreqStable
  rw [if_pos h]
  exact if_congr (and_congr_right' (by simp [State.isSet])) rfl rfl

/-! ### A failed transfer and the poll (R22) -/

theorem effLaserBusFail_of_empty (h : (s.line n).bus = []) : effLaserBusFail n s = s := by
  unfold effLaserBusFail
  rw [h]

theorem effLaserBusFail_retried (h : (s.line n).bus = c :: r) (ht : (s.line n).tries < 3) : effLaserBusFail n s =
    ((s.inc .LP_BUS_ERR n).setLine n (fun l => { l with tries := l.tries + 1 })).emit (laserOut n c) := by
  unfold effLaserBusFail
  rw [h]
  exact if_pos ht

theorem effLaserBusFail_given_up (h : (s.line n).bus = c :: r) (ht : 3 ≤ (s.line n).tries) : effLaserBusFail n s =
    (((((s.inc .LP_BUS_ERR n).setLine n (fun l => { l with tries := 0, bus := [] })).set .LINE_STATUS_LASER_BUS_OK 0 n).raise 0x0406
      [n, laserCode c]).start (.laserPoll n)).irq .LINE_EVT_STATUS_LASER_BUS_FAULT .LINE_EVT_ENABLE_LASER_BUS_FAULT (4 + n) n := by
  unfold effLaserBusFail
  rw [h]
  exact if_neg (Nat.not_lt_of_le ht)

theorem effLaserBusPoll_of_waiting (h : s.expired (.laserPoll n) (100 * uMs) = false) : effLaserBusPoll n ok s = s :=
  if_neg (h ▸ Bool.false_ne_true)

theorem effLaserBusPoll_of_failed (h : s.expired (.laserPoll n) (100 * uMs) = true) :
    effLaserBusPoll n false s = ((s.emit (.laser n 0x20 0)).inc .LP_BUS_ERR n).start (.laserPoll n) := by
  unfold effLaserBusPoll
  rw [if_pos h]
  exact if_neg Bool.false_ne_true

/-- The bus answers again (R22): the laser is brought to the state that the device requires. -/
def busResumed (n : Nat) (s : State) : State :=
  (((s.emit (.laser n 0x20 0)).stop (.laserPoll n)).set .LINE_STATUS_LASER_BUS_OK 1 n).setLine n (fun l => { l with resuming := true })

theorem effLaserBusPoll_of_answered (h : s.expired (.laserPoll n) (100 * uMs) = true) (ht : t = busResumed n s) :
    effLaserBusPoll n true s = if (t.line n).wantMHz ≠ 0 ∧ (t.line n).wantMHz ≠ (t.line n).laserMHz then startRetune n t
      else sendFt n (t.line n).ft (laserOutput n ((t.line n).wantMHz != 0) t) := by
  subst ht
  unfold effLaserBusPoll
  rw [if_pos h]
  exact if_pos rfl

end

/-- Settles O7, one row of the table after the other. -/
theorem laserBusEventsComplete : Obligations.LaserBusEventsComplete := by
  refine ⟨fun n k s u t hu ht => ?_, fun n k s => ⟨fun h hb hl hr => ?_, fun h hb hl => ?_, fun h hb => ?_, fun h1 h2 => ?_,
      fun h hl hr => ?_, fun h hl => ?_⟩,
    fun n ft s => ⟨sendFt_of_burst, fun h hb hs => (sendFt_of_dark h).trans (laserSend_of_ok hb hs),
      fun h hb => (sendFt_of_dark h).trans (laserSend_of_out hb)⟩,
    fun n s => ⟨fun h => ?_, fun ft h hx => ?_⟩,
    fun n s => ⟨fun h => next_congr (effFineTuneAck_of_none h), fun ft t h ht => ⟨fun hn => ?_, fun hf hd => ?_⟩⟩,
    fun n s => ⟨fun h => next_congr (effSetFreqAck_of_none h), fun m t h ht => ⟨fun hf => ?_, fun hf => ?_⟩⟩,
    fun n s => ⟨fun h => next_congr (effLaserFreqStable_of_steady h), fun h h1 h2 => ?_, fun h hn => ?_⟩,
    fun n s => ⟨fun h => next_congr (effLaserBusFail_of_empty h), fun c r h =>
      ⟨fun ht => next_congr (effLaserBusFail_retried h ht), fun ht => next_congr (effLaserBusFail_given_up h ht)⟩⟩,
    fun n s t => ⟨fun h ok => next_congr (effLaserBusPoll_of_waiting h), fun h => next_congr (effLaserBusPoll_of_failed h),
      fun h ht => ⟨fun h1 h2 => ?_, fun hn => ?_⟩⟩⟩
  · subst hu
    change t = cfoMeasured n k s at ht
    refine ⟨fun h1 h2 h3 h4 h5 => next_congr (effCfoMeasurement_of_loop ht ⟨h1, h2, h3, h4, h5⟩),
      fun hn => next_congr (effCfoMeasurement_of_no_loop ht fun ⟨h1, h2, h3, h4, h5⟩ => ?_)⟩
    rcases hn with hn | hn | hn | hn | hn
    · exact hn h1
    · exact hn h2
    · exact h3 hn
    · exact h4 hn
    · exact Bool.false_ne_true (h5.symm.trans hn)
  · exact carrierLock_declared (lockRuns_of_good h hb) (State.setLine_congr rfl) hl (by omega)
  · exact carrierLock_of_runs (lockRuns_of_good h hb) (State.setLine_congr rfl) (hl.imp_right (by omega)) (.inr (by omega))
  · exact carrierLock_of_runs (lockRuns_of_blind (by omega) hb) (State.setLine_congr rfl) (.inr (by omega)) (.inr (by omega))
  · exact carrierLock_of_runs (lockRuns_of_middle h1 h2) (State.setLine_congr rfl) (.inr (by omega)) (.inr (by omega))
  · exact carrierLock_lost (lockRuns_of_bad h) (State.setLine_congr rfl) hl (by omega)
  · exact carrierLock_of_runs (lockRuns_of_bad h) (State.setLine_congr rfl) (.inr (by omega)) (hl.imp_right (by omega))
  · refine next_congr ?_
    cases hh : (s.line n).heldFt with
    | none => rfl
    | some ft => exact if_pos (State.isSet_iff.2 (h.resolve_left (hh ▸ nofun)))
  · refine next_congr ?_
    rw [h]
    exact if_neg (mt State.isSet_iff.1 hx)
  · subst ht
    refine next_congr ((effFineTuneAck_of_some h).trans (State.when_of_false ?_))
    rcases hn with hn | hn
    · simp [Nat.not_lt_of_le hn]
    · simp [hn]
  · subst ht
    exact next_congr ((effFineTuneAck_of_some h).trans (State.when_of_true (by simp [hf, hd])))
  · change t = freqTaken n m s at ht
    refine next_congr ((effSetFreqAck_of_some h ht).trans ?_)
    rw [hf, if_neg Bool.false_ne_true]
  · change t = freqTaken n m s at ht
    refine next_congr ((effSetFreqAck_of_some h ht).trans ?_)
    rw [hf, if_pos rfl]
  · exact next_congr ((effLaserFreqStable_of_retuning h).trans (if_pos ⟨h1, h2⟩))
  · exact next_congr ((effLaserFreqStable_of_retuning h).trans (if_neg fun ⟨h1, h2⟩ => hn.elim (· h1) h2))
  · exact next_congr ((effLaserBusPoll_of_answered h ht).trans (if_pos ⟨h1, h2⟩))
  · exact next_congr ((effLaserBusPoll_of_answered h ht).trans (if_neg fun ⟨h1, h2⟩ => hn.elim h1 h2))

end Sys2Proof.Machine

/-! ## Light, Dill passes, settling and decoded pairs (`01_line_modem.md` R13 to R16, R25 to R27, R32 to R38, R40) -/

namespace Sys2Proof.Machine

open Sys2Proof

/-! ### Light (R21, R23, R37) -/

section
variable {n : Nat} {p : Int} {s t : State}

theorem effLossOfLight_of_dark (h : s.get .LINE_STATUS_LIGHT n ≠ 1) : effLossOfLight n p s = s := if_neg (mt State.isSet_iff.1 h)

theorem effLossOfLight_of_light (h : s.get .LINE_STATUS_LIGHT n = 1) : effLossOfLight n p s =
    lightLost n (agcUnfreeze n (captureCause n 1 ((lockLost n ((((s.set .LINE_STATUS_LIGHT 0 n).inc .LP_LOS_COUNT n).raise 0x0401
      [n, ofSigned 32 p]).irq .LINE_EVT_STATUS_LOS .LINE_EVT_ENABLE_LOS (4 + n) n)).stop (.lightBack n)))) :=
  if_pos (State.isSet_iff.2 h)

theorem effLightReturn_of_light (h : s.get .LINE_STATUS_LIGHT n = 1) : effLightReturn n p s = s := if_pos (State.isSet_iff.2 h)

theorem effLightReturn_of_dark (h : s.get .LINE_STATUS_LIGHT n ≠ 1) : effLightReturn n p s =
    ((((wakeBy 2 s).set .LINE_STATUS_LIGHT 1 n).raise 0x0402 [n, ofSigned 32 p]).irq .LINE_EVT_STATUS_LIGHT_RETURN
      .LINE_EVT_ENABLE_LIGHT_RETURN (4 + n) n).start (.lightBack n) :=
  if_neg (mt State.isSet_iff.1 h)

end

/-! ### Dill passes (R26) -/

/-- A pass of the search ends (R26): it runs, its 1 ms has passed, and the port is not power-gated. -/
def passEnds (n : Nat) (s : State) : Prop :=
  s.get .LINE_STATUS_SEARCHING n = 1 ∧ s.expired (.dillPass n) uMs = true ∧ s.portGated n = false

section
variable {n p c rate : Nat} {hyps : List Hyp} {rest : List (Nat × Nat)} {off : Option Int} {s t u : State}

theorem passEnds_iff : passEnds n s ↔ (s.isSet .LINE_STATUS_SEARCHING n && s.expired (.dillPass n) uMs && !(s.portGated n)) = true := by
  simp [passEnds, State.isSet, and_assoc]

theorem effDillPassEnd_of_running (h : ¬ passEnds n s) : effDillPassEnd n hyps s = s := if_neg (mt passEnds_iff.2 h)

theorem effDillPassEnd_conflict (h : passEnds n s) (ht : t = (hyps.take 48).zipIdx.foldl (setSearch n) s)
    (hb : beaconsAt 2 hyps = (p, c) :: rest) (hne : ∃ b ∈ rest, b.2 ≠ c) : effDillPassEnd n hyps s =
      ((t.raise 0x0408 [n, ((p, c) :: rest).foldl (fun m b => m + 2 ^ b.1) 0]).irq .LINE_EVT_STATUS_BEACON_CONFLICT
        .LINE_EVT_ENABLE_BEACON_CONFLICT (4 + n) n).start (.dillPass n) := by
  subst ht
  unfold effDillPassEnd
  rw [if_pos (passEnds_iff.1 h), hb]
  refine if_neg fun hall => ?_
  obtain ⟨b, hm, hc⟩ := hne
  exact hc (beq_iff_eq.1 (List.all_eq_true.1 hall b hm))

theorem effDillPassEnd_found (h : passEnds n s) (ht : t = (hyps.take 48).zipIdx.foldl (setSearch n) s)
    (hb : beaconsAt 2 hyps = (p, c) :: rest) (heq : ∀ b ∈ rest, b.2 = c) (ho : off = (hyps[32 + p]?).map (·.offsetMHz))
    (hu : u = t.setAll [(.LINE_STATUS_BEACON_FOUND, 1), (.LINE_STATUS_CONTROL_SC, c), (.LINE_STATUS_SEARCHING, 0)] n) :
    effDillPassEnd n hyps s = maybeReacquired n
      ((((u.when ((u.line n).chanMHz != off) (markMask n 0xFFFF (some 4096))).setLine n
        (fun l => { l with controlKnown := true, chanMHz := off, dillDue := l.dillDue && l.retuning })).stop (.dillPass n)).irq
          .LINE_EVT_STATUS_BEACON_FOUND .LINE_EVT_ENABLE_BEACON_FOUND (4 + n) n) := by
  subst ht ho hu
  unfold effDillPassEnd
  rw [if_pos (passEnds_iff.1 h), hb]
  exact if_pos (List.all_eq_true.2 fun b hm => beq_iff_eq.2 (heq b hm))

/-- The rate, 4 or 8 GBd, at which alone beacons were found, else 0 (R26). -/
def foreignRate (hyps : List Hyp) : Nat := if beaconsAt 0 hyps ≠ [] then 4 else if beaconsAt 1 hyps ≠ [] then 8 else 0

theorem effDillPassEnd_none (h : passEnds n s) (ht : t = (hyps.take 48).zipIdx.foldl (setSearch n) s) (hb : beaconsAt 2 hyps = [])
    (hr : rate = foreignRate hyps) (hu : u = t.start (.dillPass n)) : effDillPassEnd n hyps s =
      if rate ≠ 0 ∧ (u.line n).rateReported = false then
        ((u.setLine n (fun l => { l with rateReported := true })).raise 0x0409 [n, rate]).irq .LINE_EVT_STATUS_RATE_UNSUPPORTED
          .LINE_EVT_ENABLE_RATE_UNSUPPORTED (4 + n) n
      else u := by
  subst ht hr hu
  unfold effDillPassEnd
  rw [if_pos (passEnds_iff.1 h), hb]
  exact if_congr (and_congr_right' (by simp)) rfl rfl

end

/-! ### The application point (R25, R27, R40) -/

section
variable {n : Nat} {v : Int} {qs : List Req} {s : State}

theorem applyStep_of_none (h : s.get .LINE_AGC_STEP_PENDING n ≠ 1 ∨ (s.line n).stepDue = false) : applyStep n s = s :=
  if_neg fun ⟨hp, hd⟩ => h.elim (· (State.isSet_iff.1 hp)) fun h => Bool.false_ne_true (h.symm.trans hd)

theorem applyStep_of_due {g : Nat} (hp : s.get .LINE_AGC_STEP_PENDING n = 1) (hd : (s.line n).stepDue = true)
    (hg : (g : Int) = clamp 0 300 (s.get .LINE_AGC_GAIN n + -(s.getI .LINE_AGC_DRIFT n))) :
    applyStep n s = markMask n 0xFFFF (some 256) ((((((s.setAll [(.LINE_AGC_GAIN, g), (.LINE_AGC_FROZEN_GAIN, g),
      (.LINE_AGC_STEP_PENDING, 0)] n).setLine n (fun l => { l with stepDue := false })).inc .LP_RELEVEL_COUNT n).raise 0x0405
        [n, ofSigned 32 (-(s.getI .LINE_AGC_DRIFT n))]).irq .LINE_EVT_STATUS_RELEVEL .LINE_EVT_ENABLE_RELEVEL (4 + n) n)) := by
  obtain rfl : g = (clamp 0 300 (s.get .LINE_AGC_GAIN n + -(s.getI .LINE_AGC_DRIFT n))).toNat := by
    rw [← hg]
    rfl
  exact if_pos ⟨State.isSet_iff.2 hp, hd⟩

/-- A swap that is not there or not yet due. -/
def swapWaits (o : Option PendingSwap) : Prop := ∀ p, o = some p → p.due = false

theorem swapWaits_of {o : Option PendingSwap} (h : o = none ∨ o = some ⟨v, false, qs⟩) : swapWaits o := by
  rcases h with h | h <;> rintro p rfl
  · cases h
  · exact Option.some.inj h ▸ rfl

theorem applyCd_of_waits (h : swapWaits (s.line n).cdSwap) : applyCd n s = s := by
  unfold applyCd
  split
  next hs => nomatch h _ hs
  next => rfl

theorem applyCd_of_due (h : (s.line n).cdSwap = some ⟨v, true, qs⟩) : applyCd n s =
    qs.foldl (fun s q => complete (ciLineSetCd n) q [n] 0 { state := s })
      (markMask n 0xFFFF (some 2048) ((s.setLine n (fun l => { l with cdSwap := none })).setI .LINE_EQ_CD_APPLIED v n)) := by
  unfold applyCd
  rw [h]
  rfl

theorem applyEq_of_waits (h : swapWaits (s.line n).eqSwap) : applyEq n s = s := by
  unfold applyEq
  split
  next hs => nomatch h _ hs
  next => rfl

theorem applyEq_of_due (h : (s.line n).eqSwap = some ⟨v, true, qs⟩) : applyEq n s =
    qs.foldl (fun s q => complete (ciLineEqRestart n) q [n] 0 { state := s })
      (markMask n v.toNat (some 2048) (s.setLine n (fun l => { l with eqSwap := none }))) := by
  unfold applyEq
  rw [h]
  rfl

end

/-! ### Settling windows (R33) -/

section
variable {n sc : Nat} {mine : List Mark} {s t : State}

theorem effSettlingWindowEnd_of_open (hm : mine = (s.line n).marks.filter (fun m => m.sc == sc && !m.counted))
    (h : mine = [] ∨ ∃ m ∈ mine, m.ended s.now = false) : effSettlingWindowEnd n sc s = s := by
  subst hm
  refine if_neg fun ⟨hne, hall⟩ => h.elim hne fun ⟨m, hm, he⟩ => ?_
  exact Bool.false_ne_true (he.symm.trans (List.all_eq_true.1 hall m hm))

theorem effSettlingWindowEnd_of_ended (hm : mine = (s.line n).marks.filter (fun m => m.sc == sc && !m.counted))
    (hne : mine ≠ []) (h : ∀ m ∈ mine, m.ended s.now = true)
    (ht : t = ((s.bump .LSC_SYM_SETTLE (unionSymbols (mine.map (fun m => (m.since, m.till.getD m.since)))) n sc).setLine n
      (fun l => { l with marks := l.marks.map (fun m => if m.sc = sc then { m with counted := true } else m) })).set .LINE_SC_SETTLING 0 n sc) :
    effSettlingWindowEnd n sc s = t.set .LINE_STATUS_SETTLING (b2n ((t.line n).marks.any (fun m => !m.counted))) n := by
  subst hm ht
  exact if_pos ⟨hne, List.all_eq_true.2 h⟩

end

/-! ### Decoded pairs (R13, R14, R34, R37, R60) -/

/-- What a pair's two results count (R14, R34, R37): only SUSPECT where a settling flag makes the pair suspect. -/
def pairCounted (n sc x y errors : Nat) (c b : Codeword) (t : State) : State :=
  let bad := b2n (c == .uncorrectable) + b2n (b == .uncorrectable)
  let u := if suspect n sc x y t = true then t.bump .LSC_CW_SUSPECT 2 n sc
    else pmCodewords n sc bad (countCodeword n sc b (countCodeword n sc c (t.bump .LSC_TRELLIS_CORR errors n sc)))
  u.when (bad != 0 && !(suspect n sc x y t)) (captureCause n 3)

/-- A pair whose failure the delineation notes (R60): it fails, and the delineation is in SYNC or the pair before it was so noted. -/
def pairLost (n sc : Nat) (passes : Bool) (v : State) : Bool :=
  !passes && (v.get .LINE_FRM_ENV_STATE n sc == 2 ||
    (match (v.frame n).pairs.find? (fun p => p.sc == sc) with | some p => p.lost | none => false))

section
variable {n sc sf pair x y before : Nat} {word hard data : List Nat} {a b c : Codeword} {s t v w : State}

theorem effPairDecoded_of_hunt (h : s.get .LINE_FRM_STATE n sc = 0 ∨ s.portGated n = true) :
    effPairDecoded n sc sf pair x y before word hard s = s := if_pos h

theorem effPairDecoded_eq (h0 : s.get .LINE_FRM_STATE n sc ≠ 0) (hg : s.portGated n = false) (hd : decodePair word = (a, b, data))
    (hi : injectPair n sc a s = (c, t)) (hv : v = pairCounted n sc x y (trellisErrors before pair word hard) c b t)
    (hw : w = v.setFrame n (fun f => { f with pairs := ⟨sc, sf % 2 ^ 25, pair, x, y, pairPasses n sc x y c b t, suspect n sc x y t,
      pairLost n sc (pairPasses n sc x y c b t) v, data⟩ :: f.pairs })) :
    effPairDecoded n sc sf pair x y before word hard s =
      if pairPasses n sc x y c b t = true ∨ w.get .LINE_FRM_STATE n sc ≠ 2 then w
      else (w.when (w.get .LINE_FRM_ENV_STATE n sc == 2) (fun w => w.inc .LSC_ENV_HEC_ERR n sc)).set .LINE_FRM_ENV_STATE 0 n sc := by
  subst hv hw
  unfold effPairDecoded
  rw [if_neg (by simp [h0, hg]), hd]
  dsimp only
  rw [hi]
  rfl

end

/-! ### Quality and capture (R27, R35, R36, R38) -/

/-- The capture buffers once a capture is done (R38): each line captured in its place, with its tag. -/
def capturedLines (n t0 : Nat) (samples : List Nat) (s : State) : Tab Nat :=
  (samples.take 131072).zipIdx.foldl (fun (m : Tab Nat) (p : Nat × Nat) => Tab.put 0 m (n * 131072 + capturePlace n p.2 s)
    (p.1 % 2 ^ 480 * 2 ^ 32 + (b2n (captureFlag n t0 p.2 s) + 2 * b2n (p.2 == s.get .LINE_CAP_CTL_PRE n * 1024)))) s.capture

section
variable {n line t0 : Nat} {edges slots snr samples : List Nat} {cd : Int} {d : Nat} {s t u : State}

theorem effQualityUpdate_of_early (h : (s.line n).sfCount < 64) : effQualityUpdate n edges slots snr cd d s = s :=
  if_neg (Nat.not_le_of_lt h)

theorem effQualityUpdate_of_due (h : 64 ≤ (s.line n).sfCount)
    (ht : t = (snr.take 16).zipIdx.foldl (fun (s : State) p => s.set .LINE_SC_SNR p.1 n p.2) (s.setLine n (fun l => { l with sfCount := 0 })))
    (hu : u = (((t.setI .LINE_QUALITY_NOISE_FLOOR (noiseFloor n edges slots t) n).set .LINE_QUALITY_SF_NUMBER (t.frame n).sf n).set
      .LINE_EQ_DGD_EST d n).setI .LINE_EQ_CD_EST cd n) :
    effQualityUpdate n edges slots snr cd d s =
      (u.when (u.isSet .LINE_EQ_CD_AUTO n && decide (50 < (cd - u.getI .LINE_EQ_CD_APPLIED n).natAbs))
        (fun u => u.setLine n (fun l => { l with cdSwap := requestSwap l.cdSwap (clamp (-12000) 12000 cd) [] }))).irq
          .LINE_EVT_STATUS_QUALITY_UPDATE .LINE_EVT_ENABLE_QUALITY_UPDATE (4 + n) n := by
  subst ht hu
  exact if_pos h

theorem effCaptureTrigger_of_none (h : (s.line n).trigger = false) : effCaptureTrigger n line s = s := if_pos h

theorem effCaptureTrigger_of_some (h : (s.line n).trigger = true) (ht : t = s.setLine n (fun l => { l with trigger := false })) :
    effCaptureTrigger n line s = if t.get .LINE_CAP_STATUS_ARMED n = 1 then
      if (t.line n).triggered = true then t
      else (t.set .LINE_CAP_STATUS_TRIG_LINE (line % 131072) n).setLine n (fun l => { l with triggered := true })
    else t.inc .LP_CAP_MISSED n := by
  subst ht
  exact (if_neg (by simp [h])).trans (if_congr State.isSet_iff rfl rfl)

theorem effCaptureDone_of_idle (h : s.get .LINE_CAP_STATUS_ARMED n ≠ 1 ∨ (s.line n).triggered = false) :
    effCaptureDone n t0 samples s = s := by
  refine if_neg fun hc => ?_
  obtain ⟨ha, ht⟩ := Bool.and_eq_true_iff.1 hc
  exact h.elim (· (State.isSet_iff.1 ha)) fun h => Bool.false_ne_true (h.symm.trans ht)

theorem effCaptureDone_of_triggered (ha : s.get .LINE_CAP_STATUS_ARMED n = 1) (ht : (s.line n).triggered = true) :
    effCaptureDone n t0 samples s =
      ((({ s with capture := capturedLines n t0 samples s }).set .LINE_CAP_STATUS_ARMED 0 n).set .LINE_CAP_STATUS_DONE 1 n).irq
        .LINE_EVT_STATUS_CAPTURE_DONE .LINE_EVT_ENABLE_CAPTURE_DONE (4 + n) n := by
  unfold effCaptureDone
  rw [if_pos (by simp [State.isSet, ha, ht])]
  rfl

end

/-- Settles O8, one row of the table after the other. -/
theorem lineSignalEventsComplete : Obligations.LineSignalEventsComplete := by
  refine ⟨fun n p s => ⟨fun h => next_congr (effLossOfLight_of_dark h), fun h => next_congr (effLossOfLight_of_light h)⟩,
    fun n p s => ⟨fun h => next_congr (effLightReturn_of_light h), fun h => next_congr (effLightReturn_of_dark h)⟩,
    fun n hyps s t ht => ⟨fun h => ?_, fun p c rest h1 h2 h3 hb hne => ?_, fun p c rest u off h1 h2 h3 hb heq ho hu => ?_,
      fun rate h1 h2 h3 hb hr => ⟨fun hn => ?_, fun h0 hp => ?_⟩⟩,
    fun n s t ht => ?_, fun n g s => ⟨applyStep_of_none, applyStep_of_due⟩,
    fun n v qs s => ⟨fun h => applyCd_of_waits (swapWaits_of h), applyCd_of_due, fun h => applyEq_of_waits (swapWaits_of h), applyEq_of_due⟩,
    fun n sc mine s t hm => ⟨fun h => next_congr (effSettlingWindowEnd_of_open hm h),
      fun hne h ht => next_congr (effSettlingWindowEnd_of_ended hm hne h ht)⟩,
    fun n sc sf pair x y before word hard data a b c s t u v lost => ⟨fun h => next_congr (effPairDecoded_of_hunt h),
      fun h0 hg hd hi hu hv hl w hw => ?_⟩,
    fun n edges slots snr cd d s t u => ⟨fun h => next_congr (effQualityUpdate_of_early h),
      fun h ht hu => next_congr (effQualityUpdate_of_due h ht hu)⟩,
    fun n line s t ht => ⟨fun h => next_congr (effCaptureTrigger_of_none h), fun h ha => ?_, fun h ha hd => ?_, fun h ha hd => ?_⟩,
    fun n t0 samples s => ⟨fun h => next_congr (effCaptureDone_of_idle h),
      fun ha ht => next_congr (effCaptureDone_of_triggered ha ht)⟩⟩
  · refine next_congr (effDillPassEnd_of_running fun ⟨h1, h2, h3⟩ => ?_)
    rcases h with h | h | h
    · exact h h1
    · exact Bool.false_ne_true (h.symm.trans h2)
    · exact Bool.false_ne_true (h3.symm.trans h)
  · exact next_congr (effDillPassEnd_conflict ⟨h1, h2, h3⟩ ht hb hne)
  · exact next_congr (effDillPassEnd_found ⟨h1, h2, h3⟩ ht hb heq ho hu)
  · refine next_congr ((effDillPassEnd_none ⟨h1, h2, h3⟩ ht hb hr rfl).trans (if_neg fun ⟨h0, hp⟩ => ?_))
    exact hn.elim h0 fun hn => Bool.false_ne_true (hp.symm.trans hn)
  · exact next_congr ((effDillPassEnd_none ⟨h1, h2, h3⟩ ht hb hr rfl).trans (if_pos ⟨h0, hp⟩))
  · subst ht
    rfl
  · subst hu hl
    have he := effPairDecoded_eq h0 hg hd hi hv hw
    exact ⟨fun h => next_congr (he.trans (if_pos h)), fun hp h2 => next_congr
      (he.trans (if_neg fun h => h.elim (fun h => Bool.false_ne_true (hp.symm.trans h)) (· h2)))⟩
  · exact next_congr ((effCaptureTrigger_of_some h ht).trans (if_neg ha))
  · exact next_congr ((effCaptureTrigger_of_some h ht).trans ((if_pos ha).trans (if_pos hd)))
  · refine next_congr ((effCaptureTrigger_of_some h ht).trans ((if_pos ha).trans (if_neg ?_)))
    exact ne_true_of_eq_false hd

end Sys2Proof.Machine

/-! ## Sector headers and superframe headers (`01_line_modem.md` R23; `02_tree_frames.md` R45 to R51, R66, R68) -/

namespace Sys2Proof.Machine

open Sys2Proof

/-- A subcarrier's sectors are tested (R45): it is enabled, the map does not show it IDLE, and the port is not power-gated. -/
def headerTested (n sc : Nat) (s : State) : Prop :=
  s.get .LINE_SC_ENABLED n sc = 1 ∧ ((s.frame n).mapKnown = false ∨ s.get .LINE_SC_FORMAT n sc ≠ 3) ∧ (noteField n sc 0 s).portGated n = false

/-- A header fits at its predicted place p under the subcarrier's format (R45, R46). -/
def headerPredicted (n sc h p : Nat) (u : State) : Prop :=
  hdrFits h sc = true ∧ hdrSf h * 256 + hdrSector h = p ∧ hdrFormat h = u.get .LINE_SC_FORMAT n sc

/-- What a header does to the deframer's state machine (Table 2.3), in the state st that the deframer was in. -/
def headerStep (n sc st p h a b : Nat) (others : List (Nat × Nat)) (u : State) : State :=
  if headerNeutral n sc a b u then (if st = 0 then u else advancePrediction n sc (fieldTaken n sc p false u))
  else if st = 0 then
    if hdrFits h sc then
      let t := (u.set .LINE_FRM_STATE 1 n sc).set .LINE_FRM_FIT_RUN 0 n sc
      fitHeader n sc h a (if (t.frame n).mapKnown then t else t.set .LINE_SC_FORMAT (hdrFormat h) n sc)
    else u
  else if hdrFits h sc && hdrSf h * 256 + hdrSector h == p && hdrFormat h == u.get .LINE_SC_FORMAT n sc then
    if st = 2 then
      let t := fieldTaken n sc p true (noteField n sc (p % 256 + 1) ((fitHeader n sc h a u).set .LINE_FRM_MISFIT_RUN 0 n sc))
      if isControl n sc t then maybeReacquired n t else t
    else
      let t := fieldTaken n sc p false (fitHeader n sc h a u)
      if t.get .LINE_FRM_CFG_DELTA n ≤ t.get .LINE_FRM_FIT_RUN n sc + 1 then reachSync n sc t
      else t.set .LINE_FRM_FIT_RUN (t.get .LINE_FRM_FIT_RUN n sc + 1) n sc
  else
    match (if st = 2 then otherFormat n sc others u else none) with
    | some (f, g) => fieldTaken n sc p true (noteField n sc (p % 256 + 1) (fitHeader n sc g a
        (((u.set .LINE_SC_FORMAT f n sc).inc .LSC_FMT_UNANNOUNCED n sc).raise 0x0411 [n, sc + f * 16])))
    | none =>
      let t := fieldTaken n sc p false (u.inc .LSC_HDR_MISFIT n sc)
      if st = 1 then hunt n sc 0 t
      else if 3 ≤ t.get .LINE_FRM_MISFIT_RUN n sc then loseSync n sc t
      else advancePrediction n sc (t.set .LINE_FRM_MISFIT_RUN (t.get .LINE_FRM_MISFIT_RUN n sc + 1) n sc)

section
variable {n sc st p h a b header gain f g : Nat} {others : List (Nat × Nat)} {s t u : State}

theorem headerTested_iff : headerTested n sc s ↔
    ¬((!(s.isSet .LINE_SC_ENABLED n sc) || ((s.frame n).mapKnown && s.get .LINE_SC_FORMAT n sc == 3)) = true ∨
    (noteField n sc 0 s).portGated n = true) := by
  simp [headerTested, State.isSet, imp_iff_not_or, and_assoc]

theorem effSectorHeader_of_untested (hs : ¬ headerTested n sc s) :
    effSectorHeader n sc header a b gain others s = noteField n sc 0 s := if_pos (not_not.1 (mt headerTested_iff.2 hs))

theorem effSectorHeader_of_tested (hs : headerTested n sc s) (hh : h = header % 2 ^ 128) (hp : p = Tab.get 0 (s.frame n).predicted sc)
    (hu : u = agcFollow n gain (noteField n sc 0 s)) : effSectorHeader n sc header a b gain others s =
      headerStep n sc (s.get .LINE_FRM_STATE n sc) p h a b others u := by
  subst hh hp hu
  exact if_neg (headerTested_iff.1 hs)

theorem headerPredicted_iff : headerPredicted n sc h p u ↔
    (hdrFits h sc && hdrSf h * 256 + hdrSector h == p && hdrFormat h == u.get .LINE_SC_FORMAT n sc) = true := by
  simp [headerPredicted, and_assoc]

theorem not_headerPredicted (hm : hdrFits h sc = false ∨ hdrSf h * 256 + hdrSector h ≠ p ∨ hdrFormat h ≠ u.get .LINE_SC_FORMAT n sc) :
    ¬ headerPredicted n sc h p u := fun ⟨h1, h2, h3⟩ =>
  hm.elim (fun hf => Bool.false_ne_true (hf.symm.trans h1)) fun hm => hm.elim (· h2) (· h3)

/-! ### Suspect headers and HUNT -/

theorem headerStep_neutral (hn : headerNeutral n sc a b u = true) : headerStep n sc st p h a b others u =
    if st = 0 then u else advancePrediction n sc (fieldTaken n sc p false u) := if_pos hn

theorem headerStep_hunt (hn : headerNeutral n sc a b u = false) : headerStep n sc 0 p h a b others u =
    if hdrFits h sc then
      let t := (u.set .LINE_FRM_STATE 1 n sc).set .LINE_FRM_FIT_RUN 0 n sc
      fitHeader n sc h a (if (t.frame n).mapKnown then t else t.set .LINE_SC_FORMAT (hdrFormat h) n sc)
    else u := by
  unfold headerStep
  rw [if_neg (ne_true_of_eq_false hn), if_pos rfl]

theorem headerStep_hunt_misfit (hn : headerNeutral n sc a b u = false) (hf : hdrFits h sc = false) :
    headerStep n sc 0 p h a b others u = u := (headerStep_hunt hn).trans (if_neg (ne_true_of_eq_false hf))

theorem headerStep_hunt_fit (hn : headerNeutral n sc a b u = false) (hf : hdrFits h sc = true)
    (ht : t = (u.set .LINE_FRM_STATE 1 n sc).set .LINE_FRM_FIT_RUN 0 n sc) : headerStep n sc 0 p h a b others u =
      fitHeader n sc h a (if (t.frame n).mapKnown then t else t.set .LINE_SC_FORMAT (hdrFormat h) n sc) := by
  subst ht
  exact (headerStep_hunt hn).trans (if_pos hf)

/-! ### PRESYNC and SYNC -/

theorem headerStep_presync_fit (hn : headerNeutral n sc a b u = false) (hf : headerPredicted n sc h p u)
    (ht : t = fieldTaken n sc p false (fitHeader n sc h a u)) : headerStep n sc 1 p h a b others u =
      if t.get .LINE_FRM_CFG_DELTA n ≤ t.get .LINE_FRM_FIT_RUN n sc + 1 then reachSync n sc t
      else t.set .LINE_FRM_FIT_RUN (t.get .LINE_FRM_FIT_RUN n sc + 1) n sc := by
  subst ht
  unfold headerStep
  rw [if_neg (ne_true_of_eq_false hn), if_neg Nat.one_ne_zero, if_pos (headerPredicted_iff.1 hf), if_neg (by decide)]

theorem headerStep_presync_misfit (hn : headerNeutral n sc a b u = false) (hf : ¬ headerPredicted n sc h p u) :
    headerStep n sc 1 p h a b others u = hunt n sc 0 (fieldTaken n sc p false (u.inc .LSC_HDR_MISFIT n sc)) := by
  unfold headerStep
  rw [if_neg (ne_true_of_eq_false hn), if_neg Nat.one_ne_zero, if_neg (mt headerPredicted_iff.2 hf), if_neg (by decide)]
  rfl

theorem headerStep_sync_fit (hn : headerNeutral n sc a b u = false) (hf : headerPredicted n sc h p u)
    (ht : t = fieldTaken n sc p true (noteField n sc (p % 256 + 1) ((fitHeader n sc h a u).set .LINE_FRM_MISFIT_RUN 0 n sc))) :
    headerStep n sc 2 p h a b others u = if isControl n sc t then maybeReacquired n t else t := by
  subst ht
  unfold headerStep
  rw [if_neg (ne_true_of_eq_false hn), if_neg (by decide), if_pos (headerPredicted_iff.1 hf), if_pos rfl]

theorem headerStep_sync_adopted (hn : headerNeutral n sc a b u = false) (hf : ¬ headerPredicted n sc h p u)
    (ho : otherFormat n sc others u = some (f, g)) : headerStep n sc 2 p h a b others u =
      fieldTaken n sc p true (noteField n sc (p % 256 + 1) (fitHeader n sc g a
        (((u.set .LINE_SC_FORMAT f n sc).inc .LSC_FMT_UNANNOUNCED n sc).raise 0x0411 [n, sc + f * 16]))) := by
  unfold headerStep
  rw [if_neg (ne_true_of_eq_false hn), if_neg (by decide), if_neg (mt headerPredicted_iff.2 hf), if_pos rfl, ho]

theorem headerStep_sync_misfit (hn : headerNeutral n sc a b u = false) (hf : ¬ headerPredicted n sc h p u)
    (ho : otherFormat n sc others u = none) (ht : t = fieldTaken n sc p false (u.inc .LSC_HDR_MISFIT n sc)) :
    headerStep n sc 2 p h a b others u = if 3 ≤ t.get .LINE_FRM_MISFIT_RUN n sc then loseSync n sc t
      else advancePrediction n sc (t.set .LINE_FRM_MISFIT_RUN (t.get .LINE_FRM_MISFIT_RUN n sc + 1) n sc) := by
  subst ht
  unfold headerStep
  rw [if_neg (ne_true_of_eq_false hn), if_neg (by decide), if_neg (mt headerPredicted_iff.2 hf), if_pos rfl, ho]
  exact if_neg (by decide)

end

/-! ### Superframe headers (R49, R50) -/

/-- A superframe header with its field known: the field at a, the header h, whether it is accepted, the state t once it is counted, and the
state u once it is noted (R49, R50). -/
structure HeaderRead (at_ a : FieldAt) (h : Nat) (good : Bool) (s t u : State) : Prop where
  field : a = inSector at_ 0
  header : h = ofBytes (fieldBytes a s)
  accepted : good = (fieldUsable a s && sfAccepted h)
  counted : t = s.when (fieldUsable a s && !good) (fun s => s.inc .LSC_FF_LOST a.port a.sc)
  noted : u = t.setFrame a.port (fun f =>
    { f with heard := a.sc :: f.heard,
             offered := if good && !(isControl a.port a.sc s) then Tab.put 0 f.offered a.sc h else f.offered,
             controlLost := f.controlLost || (isControl a.port a.sc s && !good) })

section
variable {at_ a : FieldAt} {h : Nat} {good : Bool} {s t u : State}

theorem effSuperframeHeader_eq (hr : HeaderRead at_ a h good s t u) : effSuperframeHeader at_ s =
    if t.portGated a.port then t
    else if (t.frame a.port).headerTaken.isSome then t
    else if isControl a.port a.sc s = true ∧ good = true then
      takeHeader a.port h true (u.setFrame a.port (fun f => { f with headerTaken := some a.sc }))
    else if (u.frame a.port).controlLost = true ∨ controlSync a.port u = false then
      match fallbackHeader a.port u with
      | some (k, g) => takeHeader a.port g false (u.setFrame a.port (fun f => { f with headerTaken := some k }))
      | none => u
    else u := by
  obtain ⟨rfl, rfl, rfl, rfl, rfl⟩ := hr
  exact if_congr Iff.rfl rfl (if_congr Iff.rfl rfl (if_congr Iff.rfl rfl (if_congr (or_congr_right (by simp)) rfl rfl)))

/-- A superframe whose header is taken takes no other. -/
theorem effSuperframeHeader_of_taken (hr : HeaderRead at_ a h good s t u)
    (hx : t.portGated a.port = true ∨ (t.frame a.port).headerTaken.isSome = true) : effSuperframeHeader at_ s = t := by
  rw [effSuperframeHeader_eq hr]
  by_cases hg : t.portGated a.port = true
  · exact if_pos hg
  · exact (if_neg hg).trans (if_pos (hx.resolve_left hg))

theorem effSuperframeHeader_of_own (hr : HeaderRead at_ a h good s t u) (hg : t.portGated a.port = false)
    (hn : (t.frame a.port).headerTaken = none) (ho : isControl a.port a.sc s = true) (ha : good = true) :
    effSuperframeHeader at_ s = takeHeader a.port h true (u.setFrame a.port (fun f => { f with headerTaken := some a.sc })) := by
  rw [effSuperframeHeader_eq hr, if_neg (ne_true_of_eq_false hg), if_neg (by simp [hn]), if_pos ⟨ho, ha⟩]

theorem effSuperframeHeader_of_other (hr : HeaderRead at_ a h good s t u) (hg : t.portGated a.port = false)
    (hn : (t.frame a.port).headerTaken = none) (ho : isControl a.port a.sc s = false ∨ good = false) :
    effSuperframeHeader at_ s = if (u.frame a.port).controlLost = true ∨ controlSync a.port u = false then
      match fallbackHeader a.port u with
      | some (k, g) => takeHeader a.port g false (u.setFrame a.port (fun f => { f with headerTaken := some k }))
      | none => u
    else u := by
  rw [effSuperframeHeader_eq hr, if_neg (ne_true_of_eq_false hg), if_neg (by simp [hn]), if_neg fun ⟨h1, h2⟩ =>
    ho.elim (fun ho => Bool.false_ne_true (ho.symm.trans h1)) (fun ho => Bool.false_ne_true (ho.symm.trans h2))]

/-- The control subcarrier's header still stands to be taken (R50): no other serves. -/
theorem effSuperframeHeader_of_awaited (hr : HeaderRead at_ a h good s t u) (hg : t.portGated a.port = false)
    (hn : (t.frame a.port).headerTaken = none) (ho : isControl a.port a.sc s = false ∨ good = false)
    (hl : (u.frame a.port).controlLost = false) (hs : controlSync a.port u = true) : effSuperframeHeader at_ s = u :=
  (effSuperframeHeader_of_other hr hg hn ho).trans (if_neg (by simp [hl, hs]))

end

/-- Settles O10, one row of the table after the other. -/
theorem headerEventsComplete : Obligations.HeaderEventsComplete := by
  refine ⟨fun n sc header a b gain others s u h p hh hp hu => ⟨fun hx => ?_, fun he hf hg => ?_⟩,
    fun at_ a h good s t u ha hh hgood ht hu => ?_, fun n anchor s => ⟨fun h => ?_, fun h => ?_⟩⟩
  · refine next_congr (effSectorHeader_of_untested fun ⟨h1, h2, h3⟩ => ?_)
    rcases hx with hx | ⟨hk, h4⟩ | hx
    · exact hx h1
    · exact h2.elim (fun h2 => Bool.false_ne_true (h2.symm.trans hk)) (· h4)
    · exact Bool.false_ne_true (h3.symm.trans hx)
  · have ht : ∀ t, headerStep n sc (s.get .LINE_FRM_STATE n sc) p h a b others u = t →
        Next (.sectorHeader n sc header a b gain others) s t := fun t ht =>
      next_congr ((effSectorHeader_of_tested ⟨he, hf, hg⟩ hh hp hu).trans ht)
    refine ⟨fun hn => ⟨fun h0 => ht _ ?_, fun h0 => ht _ ?_⟩,
      fun hn h0 => ⟨fun hf => ht _ ?_, fun v hf hv => ⟨fun hk => ht _ ?_, fun hk => ht _ ?_⟩⟩,
      fun hn hst => ⟨fun v h1 h2 h3 hv => ⟨fun hd => ht _ ?_, fun hd => ht _ ?_⟩, fun hm => ht _ ?_⟩,
      fun hn hst => ⟨fun v h1 h2 h3 hv => ⟨fun hc => ht _ ?_, fun hc => ht _ ?_⟩,
        fun hm => ⟨fun f g ho => ht _ ?_, fun v ho hv => ⟨fun hd => ht _ ?_, fun hd => ht _ ?_⟩⟩⟩⟩
    · exact (headerStep_neutral hn).trans (if_pos h0)
    · exact (headerStep_neutral hn).trans (if_neg h0)
    · rw [h0]; exact headerStep_hunt_misfit hn hf
    · rw [h0, headerStep_hunt_fit hn hf hv, if_pos hk]
    · rw [h0, headerStep_hunt_fit hn hf hv, if_neg (ne_true_of_eq_false hk)]
    · rw [hst, headerStep_presync_fit hn ⟨h1, h2, h3⟩ hv, if_pos hd]
    · rw [hst, headerStep_presync_fit hn ⟨h1, h2, h3⟩ hv, if_neg (Nat.not_le_of_lt hd)]
    · rw [hst]; exact headerStep_presync_misfit hn (not_headerPredicted hm)
    · rw [hst, headerStep_sync_fit hn ⟨h1, h2, h3⟩ hv, if_pos hc]
    · rw [hst, headerStep_sync_fit hn ⟨h1, h2, h3⟩ hv, if_neg (ne_true_of_eq_false hc)]
    · rw [hst]; exact headerStep_sync_adopted hn (not_headerPredicted hm) ho
    · rw [hst, headerStep_sync_misfit hn (not_headerPredicted hm) ho hv, if_pos hd]
    · rw [hst, headerStep_sync_misfit hn (not_headerPredicted hm) ho hv, if_neg (Nat.not_le_of_lt hd)]
  · have hr : HeaderRead at_ a h good s t u := ⟨ha, hh, hgood, ht, hu⟩
    refine ⟨fun hx => next_congr (effSuperframeHeader_of_taken hr hx),
      fun hg hn => ⟨fun ho hok => next_congr (effSuperframeHeader_of_own hr hg hn ho hok),
        fun ho => ⟨fun hl hs => next_congr (effSuperframeHeader_of_awaited hr hg hn ho hl hs),
          fun hx => ⟨fun hf => next_congr ?_, fun k g hf => next_congr ?_⟩⟩⟩⟩
    · rw [effSuperframeHeader_of_other hr hg hn ho, if_pos hx, hf]
    · rw [effSuperframeHeader_of_other hr hg hn ho, if_pos hx, hf]
  · exact congrArg (fun t => Host.Outcome.next (countNoSlot n 1 t)) (if_pos h)
  · exact congrArg (fun t => Host.Outcome.next (countNoSlot n 1 t)) (if_neg h)

end Sys2Proof.Machine

/-! ## The start of a superframe (`01_line_modem.md` R24, R25, R27; `02_tree_frames.md` R47, R51, R66 to R68) -/

namespace Sys2Proof.Machine

open Sys2Proof

/-- The superframe that starts (R24, R25, R51): the requests that wait are due, the drift is taken, SF_NUMBER has advanced. -/
def superframeBegun (n : Nat) (drift : Int) (s : State) : State :=
  let e := driftUpdate n drift (duePoints n s)
  e.setFrame n (fun f =>
    { f with sf := (f.sf + 1) % 2 ^ 25, arrival := e.now, headerTaken := none, offered := [], controlLost := false,
             heard := [], justPrev := f.justLast, justLast := f.justNext.foldl (fun m p => Tab.put 0 m p.1 p.2) f.justLast, justNext := [],
             pairs := f.pairs.filter (fun p => recentPair ((f.sf + 1) % 2 ^ 25) p || awaited n p e) })

/-- The map announced for this superframe comes into force (R51). -/
def announcedMap (n : Nat) (u : State) : State :=
  match (u.frame n).nextMap with
  | some (map, at_) => if at_ = (u.frame n).sf then applyMap n map (u.setFrame n (fun f => { f with nextMap := none })) else u
  | none => u

section
variable {n sf map : Nat} {drift d : Int} {s t u v w : State}

theorem announcedMap_of_other (h : ∀ map, (u.frame n).nextMap ≠ some (map, (u.frame n).sf)) : announcedMap n u = u := by
  unfold announcedMap
  split
  next map a hm => exact if_neg fun ha : a = (u.frame n).sf => h map (ha ▸ hm)
  next => rfl

theorem announcedMap_of_now (h : (u.frame n).nextMap = some (map, (u.frame n).sf)) :
    announcedMap n u = applyMap n map (u.setFrame n (fun f => { f with nextMap := none })) := by
  unfold announcedMap
  rw [h]
  exact if_pos rfl

theorem effSuperframeStart_of_gated (h : s.portGated n = true) : effSuperframeStart n drift s = s := if_pos h

theorem effSuperframeStart_eq (h : s.portGated n = false) (hu : u = changeControl n (superframeBegun n drift s))
    (hsf : sf = (u.frame n).sf) (hv : v = announcedMap n u) (hw : w = if (v.frame n).dnSwapAt = some sf then pageSwap n 0 v else v) :
    effSuperframeStart n drift s =
      countNoSlot n 0 (treeValues n (w.when (w.get .LINE_CAP_CTL_TRIG_SF n == sf) (captureCause n 5))) := by
  subst hu hsf hv hw
  exact if_neg (ne_true_of_eq_false h)

/-! ### The drift (R24) -/

theorem driftUpdate_of_unfrozen (h : s.get .LINE_AGC_FROZEN n ≠ 1) : driftUpdate n drift s = s := by
  unfold driftUpdate
  rw [State.isSet_eq_false_iff.2 h]
  rfl

theorem driftUpdate_of_frozen (h : s.get .LINE_AGC_FROZEN n = 1) (hd : d = roundDiv drift 10) (ht : t = s.setI .LINE_AGC_DRIFT d n)
    (hu : u = ((t.set .LINE_STATUS_DRIFT_ALARM 1 n).raise 0x0404 [n, ofSigned 32 d]).irq .LINE_EVT_STATUS_DRIFT
      .LINE_EVT_ENABLE_DRIFT (4 + n) n) :
    driftUpdate n drift s =
      if t.get .LINE_STATUS_DRIFT_ALARM n ≠ 1 ∧ 30 < d.natAbs then
        captureCause n 4 (u.when (u.isSet .LINE_AGC_AUTO_RELEVEL n) (requestStep n))
      else if t.get .LINE_STATUS_DRIFT_ALARM n = 1 ∧ d.natAbs ≤ 25 then t.set .LINE_STATUS_DRIFT_ALARM 0 n
      else t := by
  subst hd ht hu
  refine (if_neg (by simp [State.isSet, h])).trans ?_
  exact if_congr (and_congr_left' (by simp [State.isSet])) rfl (if_congr (and_congr_left' State.isSet_iff) rfl rfl)

end

/-- Settles O11: the row's steps in their order, then the drift's cases. -/
theorem superframeStartAdvances : Obligations.SuperframeStartAdvances := by
  refine ⟨fun n drift s h => next_congr (effSuperframeStart_of_gated h), fun n drift s d t u v w sf h hd ht hu hsf h1 h2 hw => ?_,
    fun n drift d s t hd ht => ⟨driftUpdate_of_unfrozen,
      fun hf => ⟨fun ha h30 u hu => ?_, fun ha h30 => ?_, fun ha h25 => ?_, fun ha h25 => ?_⟩⟩⟩
  · obtain rfl : d = duePoints n s := hd
    obtain rfl : t = superframeBegun n drift s := ht
    have hv : v = announcedMap n u := by
      subst hsf
      by_cases hm : ∃ map, (u.frame n).nextMap = some (map, (u.frame n).sf)
      · obtain ⟨map, hm⟩ := hm
        exact (h2 map hm).trans (announcedMap_of_now hm).symm
      · have hm := not_exists.1 hm
        exact (h1 hm).trans (announcedMap_of_other hm).symm
    exact next_congr (effSuperframeStart_eq h hu hsf hv hw)
  · rw [driftUpdate_of_frozen hf hd ht hu, if_pos ⟨ha, h30⟩]
  · rw [driftUpdate_of_frozen hf hd ht rfl, if_neg fun h => Nat.not_lt_of_le h30 h.2, if_neg fun h => ha h.1]
  · rw [driftUpdate_of_frozen hf hd ht rfl, if_neg fun h => h.1 ha, if_pos ⟨ha, h25⟩]
  · rw [driftUpdate_of_frozen hf hd ht rfl, if_neg fun h => h.1 ha, if_neg fun h => Nat.not_le_of_lt h25 h.2]

end Sys2Proof.Machine

/-! ## Envelopes, tributary frames and performance bins (`02_tree_frames.md` R59 to R62, R71, R74, R75) -/

namespace Sys2Proof.Machine

open Sys2Proof

/-- An update of a line port's deframer is what it makes of the deframer as it stands. -/
theorem State.setFrame_congr {s : State} {n : Nat} {f g : FramePort → FramePort} (h : f (s.frame n) = g (s.frame n)) :
    s.setFrame n f = s.setFrame n g := by
  unfold State.setFrame
  rw [h]

/-! ### Envelopes (R59, R60) -/

section
variable {n sc sf cell off header h c1 hunted : Nat} {body : List Nat} {ps : List (Nat × Nat × Nat)} {pairs : List (Nat × Nat)} {s t u : State}

/-- Nothing is delineated outside SYNC. -/
theorem effEnvelope_of_unsynced (hf : s.get .LINE_FRM_STATE n sc ≠ 2) : effEnvelope n sc sf cell off header body s = s := if_pos hf

theorem effEnvelope_eq (hf : s.get .LINE_FRM_STATE n sc = 2) (hh : h = header % 2 ^ 64)
    (hps : ps = streamPairs 40000 n sc sf cell off (if envFits h then envSpan h else 8) s)
    (hpairs : pairs = (ps.map (fun p => (p.1, p.2.1))).dedup) (ht : t = s.bump .LSC_ENV_HUNT_BYTES (huntBytes n sc ps s) n sc) :
    effEnvelope n sc sf cell off header body s =
      if 2 ≤ pairsC1 n sc pairs s then
        let u := if s.get .LINE_FRM_ENV_STATE n sc = 2 then s else t
        if envFits h then discardEnvelope n sc h (pairsC1 n sc pairs s == 3) u else u
      else if envFits h = false then
        (t.when (s.get .LINE_FRM_ENV_STATE n sc == 2) (fun s => s.inc .LSC_ENV_HEC_ERR n sc)).set .LINE_FRM_ENV_STATE 0 n sc
      else if s.get .LINE_FRM_ENV_STATE n sc = 0 then t.set .LINE_FRM_ENV_STATE 1 n sc
      else deliverEnvelope n sc h pairs (byteArrival n sc sf cell off s) (pairsC1 n sc pairs s) body (s.set .LINE_FRM_ENV_STATE 2 n sc) := by
  subst hh hps hpairs ht
  refine (if_neg (not_not_intro hf)).trans ?_
  exact if_congr Iff.rfl rfl (if_congr (by simp) rfl rfl)

end

/-! ### Delivery (R61, R62, R80, R415) -/

/-- An envelope is taken (R61, R80, R415): a line loopback takes every one, a terminal outside OFFLINE and HOLDOVER its own. -/
def envTaken (n h : Nat) (s : State) : Prop :=
  lineLooped n s = true ∨ (envOwn n h s = true ∧ s.tree n ≠ tsOffline ∧ s.tree n ≠ tsHoldover)

section
variable {n sc h at_ c1 : Nat} {body : List Nat} {pairs : List (Nat × Nat)} {it : Item} {s t : State}

theorem deliverEnvelope_of_idle (h0 : bits h 46 4 = 0) : deliverEnvelope n sc h pairs at_ c1 body s = s := if_pos h0

theorem deliverEnvelope_of_other (h0 : bits h 46 4 ≠ 0) (hl : lineLooped n s = false) (ho : envOwn n h s = false) :
    deliverEnvelope n sc h pairs at_ c1 body s = s.inc .LSC_ENV_OTHER n sc :=
  (if_neg h0).trans (if_pos (by simp [hl, ho]))

theorem deliverEnvelope_of_outside (h0 : bits h 46 4 ≠ 0) (hl : lineLooped n s = false) (ho : envOwn n h s = true)
    (hs : s.tree n = tsOffline ∨ s.tree n = tsHoldover) : deliverEnvelope n sc h pairs at_ c1 body s = s :=
  (if_neg h0).trans ((if_neg (by simp [ho])).trans (if_pos ⟨hs, by simp [hl]⟩))

theorem deliverEnvelope_of_taken (h0 : bits h 46 4 ≠ 0) (hx : envTaken n h s)
    (ht : t = if s.tree n = tsDozing ∧ bit h 34 = false then wakeBy 3 s else s) (hit : it = envItem n sc h pairs at_ c1 body t) :
    deliverEnvelope n sc h pairs at_ c1 body s =
      if t.asleep = true then t.inc .PWR_STANDBY_DISCARD
      else if isConfirmed it = true then confirmItem t.nextItem (newItem it t)
      else if behaviour (newItem it t) = 0 ∧ c1 = 0 then newItem it t
      else startLineJob n t.nextItem (newItem it t) := by
  have hown : ¬((!(envOwn n h s)) = true ∧ (!(lineLooped n s)) = true) := by
    rcases hx with hx | ⟨hx, -⟩ <;> simp [hx]
  have hstate : ¬((s.tree n = tsOffline ∨ s.tree n = tsHoldover) ∧ (!(lineLooped n s)) = true) := by
    rcases hx with hx | ⟨-, h1, h2⟩
    · simp [hx]
    · simp [h1, h2]
  have hwake : t = if s.tree n = tsDozing ∧ (!(bit h 34)) = true then wakeBy 3 s else s := by
    simpa only [Bool.not_eq_true'] using ht
  subst hwake hit
  unfold deliverEnvelope
  rw [if_neg h0, if_neg hown, if_neg hstate]

end

/-! ### Tributary frames (R56, R67, R71, R164, R165) -/

/-- Every pair that a tributary's cells of superframe sf lie in is decoded (R71). -/
def tribKnown (n t sf : Nat) (s : State) : Prop :=
  ∀ c ∈ tribCells n t sf s, ∀ p ∈ cellPairs sf c.2, (pairOf n c.1 p s).isSome = true

/-- The data bytes of a tributary in superframe sf that no frame has taken (R71). -/
def tribRest (n t sf : Nat) (s : State) : List (Nat × Bool) :=
  (tribData n t sf s).drop (if Tab.get 0 (s.frame n).tribSf t = sf + 1 then Tab.get 0 (s.frame n).tribSent t else 0)

/-- The FLAGS of a tributary frame (R56, R71): ERRORED, FDI, LAST. -/
def tribFlags (n t : Nat) (part rest : List (Nat × Bool)) (s : State) : Nat :=
  b2n (part.any (·.2)) + 2 * b2n ((List.range 16).any (fun sc => (List.range 32).any (fun k =>
    slotTrib n sc k s == some t && bit (Tab.get 0 (s.frame n).remote sc) (40 + k)))) + 4 * b2n (decide (rest.length ≤ 8192))

/-- What a tributary frame leaves: its number rises, and its bytes count as sent (R71). -/
def tribSentState (n t sf : Nat) (x : Trib) (s : State) : State :=
  let sent := if Tab.get 0 (s.frame n).tribSf t = sf + 1 then Tab.get 0 (s.frame n).tribSent t else 0
  s.setFrame n (fun f =>
    { f with tribs := Tab.put {} f.tribs t { x with seqDown := (x.seqDown + 1) % 65536 }, tribSf := Tab.put 0 f.tribSf t (sf + 1),
             tribSent := Tab.put 0 f.tribSent t (sent + ((tribRest n t sf s).take 8192).length) })

section
variable {n t sf slot k : Nat} {frame : List Nat} {x : Trib} {s u : State}

theorem tribKnown_iff : tribKnown n t sf s ↔
    ((tribCells n t sf s).all (fun c => (cellPairs sf c.2).all (fun p => (pairOf n c.1 p s).isSome))) = true := by
  simp only [tribKnown, List.all_eq_true]

theorem effTribFrameTx_of_none (h : ¬ tribKnown n t sf s ∨ tribRest n t sf s = [] ∨ s.get .FLT_STATUS_SAFE = 1) :
    effTribFrameTx n t sf s = s := by
  refine if_pos (h.imp (fun h => ?_) (Or.imp_right State.isSet_iff.2))
  rw [Bool.not_eq_true', ← Bool.not_eq_true]
  exact mt tribKnown_iff.2 h

theorem effTribFrameTx_of_data (hk : tribKnown n t sf s) (hr : tribRest n t sf s ≠ []) (hs : s.get .FLT_STATUS_SAFE ≠ 1)
    (hx : x = Tab.get {} (s.frame n).tribs t) (hu : u = tribSentState n t sf x s) : effTribFrameTx n t sf s =
      u.when (u.link x.slot == lsUp) (fun u => u.emit (.tribFrame n t x.slot (tribFrame n t x
        (tribFlags n t ((tribRest n t sf s).take 8192) (tribRest n t sf s) s) (((tribRest n t sf s).take 8192).map (·.1))))) := by
  subst hx hu
  refine if_neg fun hc => ?_
  rw [Bool.not_eq_true', ← Bool.not_eq_true] at hc
  rcases hc with hc | hc | hc
  · exact hc (tribKnown_iff.1 hk)
  · exact hr hc
  · exact hs (State.isSet_iff.1 hc)

/-- A frame on a host port is a tributary frame (R71, R164, R165): the port is UP, its filters steer it to the interchange, and its header,
which begins at byte k, names version 1. -/
def isTribFrame (slot k : Nat) (frame : List Nat) (s : State) : Prop :=
  s.link slot = lsUp ∧ rxDest s slot (rxClassOf s slot frame) frame = some 1 ∧ byteAt frame k = 1

theorem effTribFrameRx_of_foreign (hk : k = 14 + 4 * tagsOf (s.get .PORT_CFG_TPID_ALT slot) frame) (h : ¬ isTribFrame slot k frame s) :
    effTribFrameRx slot frame s = s := by
  subst hk
  refine if_pos (by_contra fun hc => h ?_)
  obtain ⟨h1, hc⟩ := not_or.1 hc
  obtain ⟨h2, h3⟩ := not_or.1 hc
  exact ⟨not_not.1 h1, not_not.1 h2, not_not.1 h3⟩

theorem effTribFrameRx_of_tributary (hk : k = 14 + 4 * tagsOf (s.get .PORT_CFG_TPID_ALT slot) frame) (h : isTribFrame slot k frame s)
    (hn : n = byteAt frame (k + 1) / 64) (ht : t = byteAt frame (k + 1) % 64) (hx : x = Tab.get {} (s.frame n).tribs t) :
    effTribFrameRx slot frame s =
      if 524288 < x.buffer.length + (frame.drop (k + 8)).length then s.inc .LP_TRIB_OVERFLOW n
      else s.setFrame n (fun f =>
        { f with tribs := Tab.put {} f.tribs t { x with buffer := seqInsert (field frame (k + 2) 2) (frame.drop (k + 8)) x.buffer } }) := by
  subst hk hx hn ht
  obtain ⟨h1, h2, h3⟩ := h
  exact if_neg fun hc => hc.elim (· h1) fun hc => hc.elim (· h2) (· h3)

end

/-! ### Performance seconds and bins (R34, R74, R75) -/

/-- A second as it is classed (R74): its codewords, those uncorrectable, and whether a defect lay in it. -/
def classedSecond (cw un : Nat) (defect : Bool) (s : State) : PmSecond :=
  ⟨serviceTime s / uS, defect || decide (0 < un), defect || (decide (0 < cw) && decide (3 * cw ≤ 10 * un)), cw, un, !(serviceValid s)⟩

/-- What a second leaves before it settles (R74, R75): its counts begin anew, and the bins that run are TIME_SUSPECT where service time is
invalid. -/
def secondTaken (n sub : Nat) (s : State) : State :=
  let t := s.setFrame n (fun f => { f with pmCw := Tab.put (0, 0) f.pmCw sub (0, 0), pmDefect := f.pmDefect.filter (· ≠ sub) })
  t.when (!(serviceValid t)) (fun t => suspectBin n sub 1 (suspectBin n sub 0 t))

section
variable {n sub cw un sec len k : Nat} {day d : Bool} {x : PmSecond} {r : PmRun} {cur : PmBin} {s u : State}

theorem effPmSecond_eq (hc : Tab.get (0, 0) (s.frame n).pmCw sub = (cw, un))
    (hd : d = ((s.frame n).pmDefect.contains sub || pmDefectNow n sub s)) (hx : x = classedSecond cw un d s)
    (hu : u = secondTaken n sub s) (hr : r = Tab.get {} (u.frame n).runs sub) : effPmSecond n sub s =
      if (x.ses != r.unavailable) = true then
        if 10 ≤ (r.run ++ [x]).length then settleSeconds n sub (!r.unavailable) (r.run ++ [x])
          (u.setFrame n (fun f => { f with runs := Tab.put {} f.runs sub ⟨!r.unavailable, []⟩ }))
        else u.setFrame n (fun f => { f with runs := Tab.put {} f.runs sub { r with run := r.run ++ [x] } })
      else settleSeconds n sub r.unavailable (r.run ++ [x])
        (u.setFrame n (fun f => { f with runs := Tab.put {} f.runs sub { r with run := [] } })) := by
  subst hd hx hr hu
  unfold effPmSecond
  dsimp only
  rw [hc]
  rfl

/-- Away from an aligned boundary, or in the second in which the bin that runs opened, none opens (R75). -/
theorem effPmBinOpen_of_running (hsec : sec = serviceTime s / uS) (hlen : len = if day then 86400 else 900) (hk : k = binKey sub (b2n day))
    (hcur : cur = Tab.get {} (s.frame n).bins k)
    (h : sec % len ≠ s.get .LINE_FRM_CFG_PM_OFFSET n * 900 % len ∨ (cur.valid = true ∧ cur.start = sec)) :
    effPmBinOpen n sub day s = s := by
  subst hsec hlen hk hcur
  exact if_pos h

theorem effPmBinOpen_of_due (hsec : sec = serviceTime s / uS) (hlen : len = if day then 86400 else 900) (hk : k = binKey sub (b2n day))
    (hcur : cur = Tab.get {} (s.frame n).bins k) (h : sec % len = s.get .LINE_FRM_CFG_PM_OFFSET n * 900 % len)
    (hv : cur.valid = false ∨ cur.start ≠ sec) : effPmBinOpen n sub day s =
      (s.when cur.valid (fun s => (s.setFrame n (fun f => { f with bins := Tab.put {} f.bins (k + 63) cur })).start
        (.binEnd n sub (b2n day)))).setFrame n (fun f =>
          { f with bins := Tab.put {} f.bins k { start := sec, valid := true, timeSuspect := !(serviceValid s) } }) := by
  subst hsec hlen hk hcur
  refine if_neg fun hc => hc.elim (· h) fun ⟨h1, h2⟩ => ?_
  exact hv.elim (fun hv => Bool.false_ne_true (hv.symm.trans h1)) (· h2)

theorem effPmBinClosed_of_waiting (h : s.expired (.binEnd n sub (b2n day)) (10 * uS) = false) : effPmBinClosed n sub day s = s :=
  if_neg (ne_true_of_eq_false h)

theorem effPmBinClosed_of_ended (h : s.expired (.binEnd n sub (b2n day)) (10 * uS) = true) : effPmBinClosed n sub day s =
    ((s.setFrame n (fun f =>
      { f with bins := shiftBins (binKey sub (b2n day)) (if day then 1 else 32) (Tab.get {} f.bins (binKey sub (b2n day) + 63))
                         (Tab.get {} f.bins (binKey sub (b2n day))) (Tab.put {} f.bins (binKey sub (b2n day) + 63) {}) })).stop
          (.binEnd n sub (b2n day))).raise 0x040F [n, b2n day] := by
  have htop : (if b2n day = 0 then 32 else 1) = if day then 1 else 32 := by cases day <;> rfl
  refine (if_pos h).trans ?_
  unfold closeEnded
  rw [htop]
  exact congrArg (fun t => (State.stop t (.binEnd n sub (b2n day))).raise 0x040F [n, b2n day]) (State.setFrame_congr rfl)

end

/-- Settles O13, one row of the table after the other. -/
theorem envelopeTributaryAndBinEventsComplete : Obligations.EnvelopeTributaryAndBinEventsComplete := by
  refine ⟨fun n sc sf cell off header h body ps pairs s t hh hps hpairs ht => ⟨fun hf => next_congr (effEnvelope_of_unsynced hf),
      fun hf hc u hu => ⟨fun he => ?_, fun he => ?_⟩,
      fun hf hc => ⟨fun he hst => ?_, fun he hst => ?_, fun he hst => ?_, fun he hst => ?_⟩⟩,
    fun n sc h at_ c1 pairs body s => ⟨deliverEnvelope_of_idle, deliverEnvelope_of_other, deliverEnvelope_of_outside,
      fun t it h0 hx ht hit => ⟨fun ha => ?_, fun ha hc => ?_, fun ha hc hb h1 => ?_, fun ha hc hb => ?_⟩⟩,
    fun n t sf sent flags x rest part s u hx hsent hrest hpart hflags hu => ⟨fun h => ?_, fun hr hs hk => ?_⟩,
    fun slot frame k n t x s hk hn ht hx => ⟨fun h => ?_, fun h1 h2 h3 => ?_⟩,
    fun n sub s t u cw un d x r hc hd hx ht hu hr => ?_,
    fun n sub day sec len k cur s hsec hlen hk hcur => ⟨fun h => next_congr (effPmBinOpen_of_running hsec hlen hk hcur h),
      fun h => ⟨fun hv => ?_, fun hv hne => ?_⟩⟩,
    fun n sub day s => ⟨fun h => next_congr (effPmBinClosed_of_waiting h), fun h => next_congr (effPmBinClosed_of_ended h)⟩⟩
  · subst hu
    exact next_congr ((effEnvelope_eq hf hh hps hpairs ht).trans ((if_pos hc).trans (if_pos he)))
  · subst hu
    exact next_congr ((effEnvelope_eq hf hh hps hpairs ht).trans ((if_pos hc).trans (if_neg (ne_true_of_eq_false he))))
  · refine next_congr ((effEnvelope_eq hf hh hps hpairs ht).trans ?_)
    rw [if_neg (Nat.not_le_of_lt hc), if_pos he, State.when_of_true (beq_iff_eq.2 hst)]
  · refine next_congr ((effEnvelope_eq hf hh hps hpairs ht).trans ?_)
    rw [if_neg (Nat.not_le_of_lt hc), if_pos he, State.when_of_false (beq_eq_false_iff_ne.2 hst)]
  · refine next_congr ((effEnvelope_eq hf hh hps hpairs ht).trans ?_)
    rw [if_neg (Nat.not_le_of_lt hc), if_neg (by simp [he]), if_pos hst]
  · refine next_congr ((effEnvelope_eq hf hh hps hpairs ht).trans ?_)
    rw [if_neg (Nat.not_le_of_lt hc), if_neg (by simp [he]), if_neg hst]
  · rw [deliverEnvelope_of_taken h0 hx ht hit, if_pos ha]
  · rw [deliverEnvelope_of_taken h0 hx ht hit, if_neg (ne_true_of_eq_false ha), if_pos hc]
  · rw [deliverEnvelope_of_taken h0 hx ht hit, if_neg (ne_true_of_eq_false ha), if_neg (ne_true_of_eq_false hc), if_pos ⟨hb, h1⟩]
  · rw [deliverEnvelope_of_taken h0 hx ht hit, if_neg (ne_true_of_eq_false ha), if_neg (ne_true_of_eq_false hc),
      if_neg fun ⟨h1, h2⟩ => hb.elim (· h1) (· h2)]
  · obtain rfl : rest = tribRest n t sf s := by rw [hrest, hsent]; rfl
    refine next_congr (effTribFrameTx_of_none ?_)
    rcases h with h | h | ⟨c, hc, p, hp, h⟩
    · exact .inr (.inl h)
    · exact .inr (.inr h)
    · exact .inl fun hk => by simpa [h] using hk c hc p hp
  · obtain rfl : rest = tribRest n t sf s := by rw [hrest, hsent]; rfl
    subst hpart hsent hflags
    change u = tribSentState n t sf x s at hu
    have he := effTribFrameTx_of_data hk hr hs hx hu
    exact ⟨fun hl => next_congr (he.trans (State.when_of_false (beq_eq_false_iff_ne.2 hl))),
      fun hl => next_congr (he.trans (State.when_of_true (beq_iff_eq.2 hl)))⟩
  · refine next_congr (effTribFrameRx_of_foreign hk fun ⟨h1, h2, h3⟩ => ?_)
    exact h.elim (· h1) fun h => h.elim (· h2) (· h3)
  · have he := effTribFrameRx_of_tributary hk ⟨h1, h2, h3⟩ hn ht hx
    exact ⟨fun hl => next_congr (he.trans (if_pos hl)),
      fun hl => next_congr (he.trans (if_neg (Nat.not_lt_of_le hl)))⟩
  · subst ht
    have he := effPmSecond_eq hc hd hx hu hr
    refine ⟨fun hs => next_congr (he.trans (if_neg (by simp [hs]))),
      fun hs hl => next_congr (he.trans ((if_pos (bne_iff_ne.2 hs)).trans (if_neg ?_))),
      fun hs hl => next_congr (he.trans ((if_pos (bne_iff_ne.2 hs)).trans (if_pos ?_)))⟩
    · rw [List.length_append, List.length_singleton]
      omega
    · rw [List.length_append, List.length_singleton]
      omega
  · refine next_congr ((effPmBinOpen_of_due hsec hlen hk hcur h (.inl hv)).trans ?_)
    rw [State.when_of_false hv]
  · refine next_congr ((effPmBinOpen_of_due hsec hlen hk hcur h (.inr hne)).trans ?_)
    rw [State.when_of_true hv]

end Sys2Proof.Machine

/-! ## Grants and the bursts they carry (`02_tree_frames.md` R53, R54, R63, R65; `03_tree_membership.md` R86 to R105) -/

namespace Sys2Proof.Machine

open Sys2Proof

/-! ### GRANT (R49, R53, R93, R96, R100) -/

/-- A plain grant wakes a dozing terminal (R100). -/
def wokenByGrant (n : Nat) (g : Grant) (u : State) : State :=
  if u.tree n = tsDozing ∧ !g.checkin ∧ !g.ranging then wakeNow n 0 u else u

/-- What the entry e of a grant slot, whose grant is g, does in a field that is used (R53, R93, R96, R100). -/
def takeGrantEntry (n sc e : Nat) (g : Grant) (s : State) : State :=
  if bits e 44 16 = 0 then s
  else if bits e 0 32 ≠ crc32c (toBytes 12 (bits e 32 96)) then s.inc .LSC_GRANT_BADCHECK n sc
  else if !(s.isSet .LINE_TREE_STATE_IDENT_VALID n) ∨ bits e 119 9 ≠ s.get .LINE_TREE_ID_TID n then s
  else if s.tree n = tsHoldover ∧ !(s.term n).awaiting then s
  else if profileOk g.prof ∧ 1671167 < g.lastSym then s.inc .LP_GRANT_OVERRUN n
  else if bits e 103 16 ≠ s.get .LINE_TREE_ID_EPOCH n then depose n 0 (bits e 103 16) 0x0502 s
  else useGrant n g (wokenByGrant n g (s.inc .LP_GRANT_OWN n))

/-- The terminal looks at a grant (R53, R96): it is its own, and it is not in HOLDOVER without a wait for the directory entry. -/
def grantOwn (n e : Nat) (s : State) : Prop :=
  s.get .LINE_TREE_STATE_IDENT_VALID n = 1 ∧ bits e 119 9 = s.get .LINE_TREE_ID_TID n ∧ (s.tree n ≠ tsHoldover ∨ (s.term n).awaiting = true)

section
variable {at_ a : FieldAt} {slot n sc e : Nat} {g : Grant} {s t u : State}

theorem effGrant_of_discarded (ha : a = inSector at_ (9 + slot / 4)) (h : fieldUsable a s = false) : effGrant at_ slot s = s := by
  subst ha
  exact if_neg (ne_true_of_eq_false h)

theorem effGrant_of_usable (ha : a = inSector at_ (9 + slot / 4)) (he : e = ofBytes (((fieldBytes a s).drop (slot % 4 * 16)).take 16))
    (h : fieldUsable a s = true)
    (hg : g = grantOf at_.port e s) : effGrant at_ slot s = takeGrantEntry at_.port at_.sc e g s := by
  subst ha he hg
  exact if_pos h

theorem takeGrantEntry_of_empty (h : bits e 44 16 = 0) : takeGrantEntry n sc e g s = s := if_pos h

theorem takeGrantEntry_of_bad_check (h0 : bits e 44 16 ≠ 0) (h : bits e 0 32 ≠ crc32c (toBytes 12 (bits e 32 96))) :
    takeGrantEntry n sc e g s = s.inc .LSC_GRANT_BADCHECK n sc := (if_neg h0).trans (if_pos h)

theorem takeGrantEntry_of_other (h0 : bits e 44 16 ≠ 0) (hc : bits e 0 32 = crc32c (toBytes 12 (bits e 32 96))) (h : ¬ grantOwn n e s) :
    takeGrantEntry n sc e g s = s := by
  unfold takeGrantEntry
  rw [if_neg h0, if_neg (not_not_intro hc)]
  by_cases hid : (!(s.isSet .LINE_TREE_STATE_IDENT_VALID n)) = true ∨ bits e 119 9 ≠ s.get .LINE_TREE_ID_TID n
  · exact if_pos hid
  · refine (if_neg hid).trans (if_pos (by_contra fun hh => h ?_))
    obtain ⟨h1, h2⟩ := not_or.1 hid
    refine ⟨by simpa [State.isSet] using h1, not_not.1 h2, ?_⟩
    by_cases hx : s.tree n = tsHoldover
    · exact .inr (by simpa [hx] using hh)
    · exact .inl hx

theorem takeGrantEntry_of_own (h0 : bits e 44 16 ≠ 0) (hc : bits e 0 32 = crc32c (toBytes 12 (bits e 32 96))) (h : grantOwn n e s)
    (hu : u = s.inc .LP_GRANT_OWN n) : takeGrantEntry n sc e g s =
      if profileOk g.prof = true ∧ 1671167 < g.lastSym then s.inc .LP_GRANT_OVERRUN n
      else if bits e 103 16 ≠ s.get .LINE_TREE_ID_EPOCH n then depose n 0 (bits e 103 16) 0x0502 s
      else useGrant n g (wokenByGrant n g u) := by
  subst hu
  obtain ⟨h1, h2, h3⟩ := h
  have hid : ¬((!(s.isSet .LINE_TREE_STATE_IDENT_VALID n)) = true ∨ bits e 119 9 ≠ s.get .LINE_TREE_ID_TID n) := by
    simp [State.isSet, h1, h2]
  have hho : ¬(s.tree n = tsHoldover ∧ (!(s.term n).awaiting) = true) := fun ⟨hx, ha⟩ =>
    h3.elim (· hx) fun h3 => by simp [h3] at ha
  exact (if_neg h0).trans ((if_neg (not_not_intro hc)).trans ((if_neg hid).trans (if_neg hho)))

end

/-! ### A grant that is taken (R31, R93, R94, R101) -/

/-- Stated for any f: the kernel, asked whether two forms of `overlaps` agree, would compute the windows. -/
theorem any_map_eq_true_iff {α β : Type} {f : β → Bool} {g : α → β} {l : List α} :
    (l.map g).any f = true ↔ ∃ b ∈ l, f (g b) = true := by
  rw [List.any_map, List.any_eq_true]
  rfl

/-- A grant loses to another (R94): it overlaps a burst that is built or on the line, or a pending one that it does not prevail over. -/
def grantLoses (n : Nat) (g : Grant) (rivals : List Grant) (s : State) : Prop :=
  (∃ b ∈ (s.term n).burst.toList ++ (s.term n).built, overlaps n g b.grant s = true) ∨ (∃ x ∈ rivals, prevails n g x s = false)

section
variable {n : Nat} {g : Grant} {rivals : List Grant} {s u : State}

theorem grantLoses_iff : grantLoses n g rivals s ↔
    ((((s.term n).burst.toList ++ (s.term n).built).map (·.grant)).any (fun x => overlaps n g x s) = true ∨
      rivals.any (fun x => !(prevails n g x s)) = true) := by
  refine or_congr (any_map_eq_true_iff (f := fun x => overlaps n g x s)).symm (List.any_eq_true.trans ?_).symm
  simp only [Bool.not_eq_true']

theorem not_grantLoses (hb : ∀ b ∈ (s.term n).burst.toList ++ (s.term n).built, overlaps n g b.grant s = false)
    (hx : ∀ x ∈ rivals, prevails n g x s = true) : ¬ grantLoses n g rivals s := by
  rintro (⟨b, hm, ho⟩ | ⟨x, hm, hp⟩)
  · exact Bool.false_ne_true ((hb b hm).symm.trans ho)
  · exact Bool.false_ne_true (hp.symm.trans (hx x hm))

theorem useGrant_of_state (h : statePermits n g s = false) : useGrant n g s = s.inc .LP_GRANT_STATE n := if_pos (by simp [h])

theorem useGrant_of_profile (h : statePermits n g s = true) (hp : profileOk g.prof = false) :
    useGrant n g s = s.inc .LP_GRANT_BADPROF n := (if_neg (by simp [h])).trans (if_pos (by simp [hp]))

theorem useGrant_of_sound (h : statePermits n g s = true) (hp : profileOk g.prof = true)
    (hr : rivals = (s.term n).grants.filter (fun x => overlaps n g x s))
    (hu : u = (rivals.foldl (fun s x => bayLeave n x (s.inc .LP_GRANT_CONFLICT n)) s).setTerm n
      (fun t => { t with grants := t.grants.filter (fun x => !(rivals.contains x)) })) : useGrant n g s =
      if (((s.term n).burst.toList ++ (s.term n).built).map (·.grant)).any (fun x => overlaps n g x s) = true ∨
          rivals.any (fun x => !(prevails n g x s)) = true then s.inc .LP_GRANT_CONFLICT n
      else if 64 ≤ (u.term n).windows.length then u.inc .LP_GRANT_BAYFULL n
      else u.setTerm n (fun t => { t with grants := t.grants ++ [g], windows := t.windows ++ [bayWindow g],
                                          lastUpSf := match (s.term n).lastUpSf with
                                            | some l => if sfReached l g.upSf then some l else some g.upSf
                                            | none => some g.upSf }) := by
  subst hr hu
  exact (if_neg (by simp [h])).trans (if_neg (by simp [hp]))

end

/-! ### Burst bodies (R65, R70, R73, R88, R93, R95, R98, R259) -/

/-- What goes into a burst's streams (R65, R70, R73, R259): nothing for ranging, the tributary cells, or overhead blocks and frames. -/
def bodyFilled (n : Nat) (g : Grant) (b : Burst) (trib : Bool) (cells : List Nat) (u : State) : State × List BodyStream × List Placed :=
  if g.ranging then (u, b.streams, [])
  else if trib then
    let p := tribBody n g b.streams cells u
    (p.1, p.2, [])
  else
    let p := if g.aid = u.get .LINE_FRM_CFG_OH_AID n then putOverhead n g.aid b.streams u else (u, b.streams)
    fillBody (p.1.copies.length + 1) n b p.2 [] (bucketsNow p.1)

section
variable {n flags : Nat} {g : Grant} {s t u v w : State} {b : Burst} {rs : List (Nat × Nat)} {xs ys : List BodyStream} {placed : List Placed}
  {report doze trib : Bool} {cells : List Nat}

theorem effBurstBodyBuild_of_none (h : nextGrant n s = none) : effBurstBodyBuild n s = s := by
  unfold effBurstBodyBuild
  rw [h]

theorem effBurstBodyBuild_of_some (h : nextGrant n s = some g)
    (ht : t = s.setTerm n (fun t => { t with grants := t.grants.filter (· ≠ g) })) : effBurstBodyBuild n s =
      if (s.now : Int) + (2 * uUs : Nat) < winFrom n g s then s
      else if statePermits n g t = true then buildBody n g t else bayLeave n g (t.inc .LP_GRANT_STATE n) := by
  subst ht
  unfold effBurstBodyBuild
  rw [h]

variable (hb : b = emptyBurst n g s) (hreport : report = (g.reportReq || s.tree n == tsDozing))
  (hdoze : doze = (s.isSet .LINE_TREE_DOZE_REQUESTED n || (s.tree n == tsDozing && !((s.term n).wakePending && g.checkin))))
  (hr : (if report then takeReports n g.aid s else (s, [])) = (u, rs))
include hb hreport hdoze hr

theorem buildBody_eq (hcells : cells = upCells n (upPage n g s) s) (htrib : trib = (g.aid == 63 && !cells.isEmpty && !g.ranging))
    (hf : bodyFilled n g b trib cells u = (v, xs, placed))
    (hflags : flags = b2n g.ranging + 2 * b2n report + 4 * b2n doze + 8 * b2n trib) :
    buildBody n g s =
      (if g.ranging = true ∨ trib = true then v
       else v.bump .SCHED_GRANT_IDLE_BYTES (xs.foldl (fun a x => a + (x.cap - x.bytes.length)) 0) (32 + n)).setTerm n (fun t =>
        { t with built := t.built ++ [{ b with placed := placed, doze := doze, reports := rs, streams := xs,
                                               flags := flags }] }) := by
  subst hb hreport hdoze hcells htrib hflags
  unfold buildBody
  dsimp only
  rw [hr]
  unfold bodyFilled at hf
  dsimp only at hf ⊢
  rw [hf]

/-- A ranging grant's burst carries nothing. -/
theorem buildBody_of_ranging (hg : g.ranging = true) :
    buildBody n g s = u.setTerm n (fun t => { t with built := t.built ++
      [{ b with placed := [], doze := doze, reports := rs, flags := 1 + 2 * b2n report + 4 * b2n doze }] }) := by
  rw [buildBody_eq (trib := false) (flags := 1 + 2 * b2n report + 4 * b2n doze) hb hreport hdoze hr rfl (by simp [hg]) (if_pos hg)
    (by simp [hg, b2n]), if_pos (.inl hg)]

/-- AID 63 carries the tributary cells that the page assigns (R70). -/
theorem buildBody_of_tributaries (hg : g.ranging = false) (ha : g.aid = 63)
    (hc : upCells n (upPage n g s) s ≠ []) (ht : tribBody n g b.streams (upCells n (upPage n g s) s) u = (v, xs)) :
    buildBody n g s = v.setTerm n (fun t => { t with built := t.built ++
      [{ b with placed := [], doze := doze, reports := rs, streams := xs, flags := 2 * b2n report + 4 * b2n doze + 8 }] }) := by
  have hf : bodyFilled n g b true (upCells n (upPage n g s) s) u = (v, xs, []) := by
    unfold bodyFilled
    rw [if_neg (ne_true_of_eq_false hg), if_pos rfl, ht]
  rw [buildBody_eq (flags := 2 * b2n report + 4 * b2n doze + 8) hb hreport hdoze hr rfl (by simp [hg, ha, hc]) hf (by simp [hg, b2n]),
    if_pos (.inr rfl)]

/-- Any other burst carries overhead blocks on OH_AID and the frames of the granted AID; what they leave is idle (R73, R259). -/
theorem buildBody_of_frames (hg : g.ranging = false)
    (ha : g.aid ≠ 63 ∨ upCells n (upPage n g s) s = [])
    (ho : (if g.aid = u.get .LINE_FRM_CFG_OH_AID n then putOverhead n g.aid b.streams u else (u, b.streams)) = (w, ys))
    (hfill : fillBody (w.copies.length + 1) n b ys [] (bucketsNow w) = (v, xs, placed)) :
    buildBody n g s = (v.bump .SCHED_GRANT_IDLE_BYTES (xs.foldl (fun a x => a + (x.cap - x.bytes.length)) 0) (32 + n)).setTerm n (fun t =>
      { t with built := t.built ++ [{ b with placed := placed, doze := doze, reports := rs, streams := xs,
                                             flags := 2 * b2n report + 4 * b2n doze }] }) := by
  have htrib : false = (g.aid == 63 && !(upCells n (upPage n g s) s).isEmpty && !g.ranging) := by
    rcases ha with ha | ha <;> simp [ha]
  have hf : bodyFilled n g b false (upCells n (upPage n g s) s) u = (v, xs, placed) := by
    unfold bodyFilled
    rw [if_neg (ne_true_of_eq_false hg), if_neg Bool.false_ne_true, ho]
    exact hfill
  rw [buildBody_eq (flags := 2 * b2n report + 4 * b2n doze) hb hreport hdoze hr rfl htrib hf (by simp [hg, b2n]), if_neg (by simp [hg])]

end

/-! ### Bursts on the line (R21, R28, R86 to R88, R91, R99 to R101, R105) -/

section
variable {n dark : Nat} {g : Grant} {s t : State} {b : Burst} {rest : List Burst} {p : Presence}

theorem effBurstStart_of_none (h : (s.term n).built = []) : effBurstStart n s = s := by
  unfold effBurstStart
  rw [h]

theorem effBurstStart_of_some (h : (s.term n).built = b :: rest) (ht : t = s.setTerm n (fun t => { t with built := rest })) :
    effBurstStart n s =
      if (s.now : Int) < winFrom n b.grant s ∨ (s.term n).burst.isSome = true then s
      else if t.isSet .LINE_STATUS_CARRIER_LOCK n = false then giveUp n (bayLeave n b.grant (t.inc .LP_GRANT_UNLOCKED n)) b
      else if statePermits n b.grant t = false ∨ (t.term n).windows.contains (bayWindow b.grant) = false then
        giveUp n (bayLeave n b.grant (t.inc .LP_GRANT_STATE n)) b
      else ((light n b t).when b.grant.ranging (fun s => s.inc .LP_RANGING_BURSTS n)).when b.grant.checkin
        (fun s => (s.start (.checkin n)).setTerm n (fun t => { t with dozeMissed := false })) := by
  subst ht
  unfold effBurstStart
  rw [h]
  simp only [Bool.not_eq_true']

theorem effBurstEnd_of_none (h : (s.term n).burst = none) : effBurstEnd n s = s := by
  unfold effBurstEnd
  rw [h]

/-- What the end of a burst leaves before what follows from its kind (R28, R99, R101). -/
def burstEnded (n : Nat) (b : Burst) (dark : Nat) (s : State) : State :=
  txDark n (burstOut n b dark (bayLeave n b.grant ((b.placed.foldl (fun s p => countStart p.copy s) s).setTerm n
    (fun t => { t with burst := none }))))

theorem effBurstEnd_of_early (h : (s.term n).burst = some b) (hd : dark = b.cutTo.getD (winTo n b.grant s).toNat) (hn : s.now < dark) :
    effBurstEnd n s = s := by
  subst hd
  unfold effBurstEnd
  rw [h]
  exact if_pos hn

theorem effBurstEnd_of_presence {x : Nat} (h : (s.term n).burst = some b) (hd : dark = b.cutTo.getD (winTo n b.grant s).toNat)
    (ht : t = burstEnded n b dark s) (hn : dark ≤ s.now) (hp : b.presence = some x) : effBurstEnd n s = awaitAssign n x t := by
  subst hd ht
  unfold effBurstEnd
  rw [h]
  dsimp only
  rw [if_neg (Nat.not_lt_of_le hn), hp]
  rfl

theorem effBurstEnd_of_grant (h : (s.term n).burst = some b) (hd : dark = b.cutTo.getD (winTo n b.grant s).toNat)
    (ht : t = burstEnded n b dark s) (hn : dark ≤ s.now) (hp : b.presence = none) : effBurstEnd n s =
      if t.tree n ≠ tsDozing then t
      else if b.grant.checkin = true ∧ (!b.doze) = true ∧ b.cutTo.isNone = true then wakeNow n (t.term n).wakeCause t
      else t.setTerm n (fun t => { t with txPowered := false }) := by
  subst hd ht
  unfold effBurstEnd
  rw [h]
  dsimp only
  rw [if_neg (Nat.not_lt_of_le hn), hp]
  rfl

theorem effPresenceBurst_of_none (h : (s.term n).presence = none) : effPresenceBurst n s = s := by
  unfold effPresenceBurst
  rw [h]

/-- Something forbids a presence burst (R21, R86, R105): the state, what keeps the transmitter dark, or a lost carrier lock. -/
def presenceBarred (n : Nat) (t : State) : Prop :=
  t.tree n ≠ tsCandidate ∨ darkHolds n t = true ∨ t.get .FLT_STATUS_SAFE = 1 ∨ lineRecovers n t = true ∨
    t.get .LINE_STATUS_CARRIER_LOCK n ≠ 1

theorem presenceBarred_iff : presenceBarred n t ↔
    (t.tree n ≠ tsCandidate ∨ darkHolds n t = true ∨ t.safe = true ∨ lineRecovers n t = true ∨
      (!(t.isSet .LINE_STATUS_CARRIER_LOCK n)) = true) := by
  simp only [presenceBarred, State.safe, State.isSet_iff, State.isSet_eq_false_iff, Bool.not_eq_true']

theorem effPresenceBurst_of_early (h : (s.term n).presence = some p) (hg : g = presenceGrant n p s)
    (hw : (s.now : Int) < winFrom n g s ∨ (s.term n).burst.isSome = true) : effPresenceBurst n s = s := by
  subst hg
  unfold effPresenceBurst
  rw [h]
  exact if_pos hw

theorem effPresenceBurst_of_barred (h : (s.term n).presence = some p) (hg : g = presenceGrant n p s)
    (ht : t = s.setTerm n (fun t => { t with presence := none }))
    (hw : ¬((s.now : Int) < winFrom n g s ∨ (s.term n).burst.isSome = true)) (hb : presenceBarred n t) : effPresenceBurst n s = t := by
  subst hg ht
  unfold effPresenceBurst
  rw [h]
  exact (if_neg hw).trans (if_pos (presenceBarred_iff.1 hb))

theorem effPresenceBurst_of_free (h : (s.term n).presence = some p) (hg : g = presenceGrant n p s)
    (ht : t = s.setTerm n (fun t => { t with presence := none }))
    (hw : ¬((s.now : Int) < winFrom n g s ∨ (s.term n).burst.isSome = true)) (hb : ¬ presenceBarred n t) : effPresenceBurst n s =
      (((light n { emptyBurst n g t with presence := some p.nonce, flags := 1,
                                         streams := putIn 0 0 false (presenceOam n p.nonce t) (emptyBurst n g t).streams } t).inc
        .LP_PRESENCE_SENT n).setTerm n (fun t => { t with windows := t.windows ++ [bayWindow g] })) := by
  subst hg ht
  unfold effPresenceBurst
  rw [h]
  exact (if_neg hw).trans (if_neg (mt presenceBarred_iff.2 hb))

theorem effTxPowerUp_of_none (h : nextGrant n s = none) : effTxPowerUp n s = s := by
  unfold effTxPowerUp
  rw [h]

theorem effTxPowerUp_of_some (h : nextGrant n s = some g) : effTxPowerUp n s =
    if s.tree n = tsDozing ∧ winFrom n g s ≤ (s.now : Int) + (50 * uUs : Nat) then s.setTerm n (fun t => { t with txPowered := true })
    else s := by
  unfold effTxPowerUp
  rw [h]

end

/-- Settles O20, one row of the table after the other. -/
theorem grantAndBurstEventsComplete : Obligations.GrantAndBurstEventsComplete := by
  refine ⟨fun at_ a slot n e g s u ha hn he hg hu =>
      ⟨fun h => ?_, fun hf h0 => ⟨fun hc => ?_, fun hc => ⟨fun h => ?_, fun h1 h2 h3 => ?_⟩⟩⟩,
    fun n g s u rivals hr hu => ⟨useGrant_of_state, useGrant_of_profile,
      fun hs hp => ⟨fun hl => ?_, fun hb hx => ⟨fun hw => ?_, fun hw => ?_⟩⟩⟩,
    fun n s => ⟨fun h => next_congr (effBurstBodyBuild_of_none h),
      fun g t h ht => ⟨fun hw => ?_, fun hw => ⟨fun hp => ?_, fun hp => ?_⟩⟩⟩,
    fun n g s u v b rs xs placed report doze hb hreport hdoze hr => ⟨buildBody_of_ranging hb hreport hdoze hr,
      buildBody_of_tributaries hb hreport hdoze hr, fun hg ha w ys => buildBody_of_frames hb hreport hdoze hr hg ha⟩,
    fun n s => ⟨fun h => next_congr (effBurstStart_of_none h), fun b rest t h ht => ⟨fun hw => ?_, fun hw hb =>
      ⟨fun hl => ?_, fun hl => ⟨fun hp => ?_, fun hp hm => ?_⟩⟩⟩⟩,
    fun n s => ⟨fun h => next_congr (effBurstEnd_of_none h), fun b dark t h hd ht => ⟨fun hn => ?_, fun hn =>
      ⟨fun x hx hc => ?_, fun x hx hc => ?_, fun hx hz => ?_, fun hx hz h1 h2 h3 => ?_, fun hx hz hy => ?_⟩⟩⟩,
    fun n s => ⟨fun h => next_congr (effPresenceBurst_of_none h), fun p g t h hg ht => ⟨fun hw => ?_, fun hw hb => ⟨fun hx => ?_,
      fun h1 h2 h3 h4 h5 => ?_⟩⟩⟩,
    fun n s => ⟨fun h => ?_, fun g h hz => ⟨fun hw => ?_, fun hw => ?_⟩⟩⟩
  · subst hn
    refine next_congr ?_
    rcases Bool.eq_false_or_eq_true (fieldUsable a s) with hf | hf
    · exact (effGrant_of_usable ha he hf rfl).trans (takeGrantEntry_of_empty (h.resolve_left (ne_false_of_eq_true hf)))
    · exact effGrant_of_discarded ha hf
  · subst hn
    exact next_congr ((effGrant_of_usable ha he hf hg).trans (takeGrantEntry_of_bad_check h0 hc))
  · subst hn
    refine next_congr ((effGrant_of_usable ha he hf hg).trans (takeGrantEntry_of_other h0 hc fun ⟨h1, h2, h3⟩ => ?_))
    rcases h with h | h | ⟨h, hw⟩
    · exact h h1
    · exact h h2
    · exact h3.elim (· h) fun h3 => Bool.false_ne_true (hw.symm.trans h3)
  · subst hn
    have hx := (effGrant_of_usable ha he hf hg).trans (takeGrantEntry_of_own h0 hc ⟨h1, h2, h3⟩ hu)
    refine ⟨fun hp hl => next_congr (hx.trans (if_pos ⟨hp, hl⟩)), fun hn => ?_⟩
    replace hx := hx.trans (if_neg fun ⟨hp, hl⟩ => hn.elim (fun hn => Bool.false_ne_true (hn.symm.trans hp)) (Nat.not_le_of_lt hl))
    refine ⟨fun hep => next_congr (hx.trans (if_pos hep)), fun hep => ?_⟩
    replace hx := hx.trans (if_neg (not_not_intro hep))
    refine ⟨fun hd hc hr => next_congr (hx.trans (congrArg (useGrant _ g) (if_pos ⟨hd, by simp [hc], by simp [hr]⟩))),
      fun hn => next_congr (hx.trans (congrArg (useGrant _ g) (if_neg fun ⟨hd, hc, hr⟩ => ?_)))⟩
    rcases hn with hn | hn | hn
    · exact hn hd
    · simp [hn] at hc
    · simp [hn] at hr
  · exact (useGrant_of_sound hs hp hr hu).trans (if_pos (grantLoses_iff.1 hl))
  · exact (useGrant_of_sound hs hp hr hu).trans ((if_neg (mt grantLoses_iff.2 (not_grantLoses hb hx))).trans (if_pos hw))
  · exact (useGrant_of_sound hs hp hr hu).trans ((if_neg (mt grantLoses_iff.2 (not_grantLoses hb hx))).trans (if_neg (Nat.not_le_of_lt hw)))
  · exact next_congr ((effBurstBodyBuild_of_some h ht).trans (if_pos hw))
  · exact next_congr ((effBurstBodyBuild_of_some h ht).trans ((if_neg (not_lt_of_ge hw)).trans (if_pos hp)))
  · exact next_congr ((effBurstBodyBuild_of_some h ht).trans ((if_neg (not_lt_of_ge hw)).trans
      (if_neg (ne_true_of_eq_false hp))))
  · exact next_congr ((effBurstStart_of_some h ht).trans (if_pos hw))
  · refine next_congr ((effBurstStart_of_some h ht).trans ?_)
    rw [if_neg (not_or.2 ⟨not_lt_of_ge hw, by simp [hb]⟩), if_pos (State.isSet_eq_false_iff.2 hl)]
  · refine next_congr ((effBurstStart_of_some h ht).trans ?_)
    rw [if_neg (not_or.2 ⟨not_lt_of_ge hw, by simp [hb]⟩), if_neg (by simp [State.isSet, hl]), if_pos (hp.imp_right (by simp))]
  · refine next_congr ((effBurstStart_of_some h ht).trans ?_)
    rw [if_neg (not_or.2 ⟨not_lt_of_ge hw, by simp [hb]⟩), if_neg (by simp [State.isSet, hl]), if_neg (by simp [hp, hm])]
  · exact next_congr (effBurstEnd_of_early h hd hn)
  · exact next_congr ((effBurstEnd_of_presence h hd ht hn hx).trans (if_pos hc))
  · exact next_congr ((effBurstEnd_of_presence h hd ht hn hx).trans (if_neg hc))
  · exact next_congr ((effBurstEnd_of_grant h hd ht hn hx).trans (if_pos hz))
  · exact next_congr ((effBurstEnd_of_grant h hd ht hn hx).trans ((if_neg (not_not_intro hz)).trans
      (if_pos ⟨h1, by simp [h2], by simp [h3]⟩)))
  · refine next_congr ((effBurstEnd_of_grant h hd ht hn hx).trans ((if_neg (not_not_intro hz)).trans
      (if_neg fun ⟨h1, h2, h3⟩ => ?_)))
    rcases hy with hy | hy | hy
    · exact Bool.false_ne_true (hy.symm.trans h1)
    · simp [hy] at h2
    · exact hy (Option.isNone_iff_eq_none.1 h3)
  · exact next_congr (effPresenceBurst_of_early h hg hw)
  · exact next_congr (effPresenceBurst_of_barred h hg ht (not_or.2 ⟨not_lt_of_ge hw, by simp [hb]⟩) hx)
  · refine next_congr (effPresenceBurst_of_free h hg ht (not_or.2 ⟨not_lt_of_ge hw, by simp [hb]⟩) fun hx => ?_)
    rcases hx with hx | hx | hx | hx | hx
    · exact hx h1
    · exact Bool.false_ne_true (h2.symm.trans hx)
    · exact h3 hx
    · exact Bool.false_ne_true (h4.symm.trans hx)
    · exact hx h5
  · refine next_congr ?_
    cases hg : nextGrant n s with
    | none => exact effTxPowerUp_of_none hg
    | some g => exact (effTxPowerUp_of_some hg).trans (if_neg fun hx => h.elim (fun h => nomatch h.symm.trans hg) (· hx.1))
  · exact next_congr ((effTxPowerUp_of_some h).trans (if_pos ⟨hz, hw⟩))
  · exact next_congr ((effTxPowerUp_of_some h).trans (if_neg fun hx => not_le_of_gt hw hx.2))

end Sys2Proof.Machine

/-! ## The tree messages (`02_tree_frames.md` R48, R49, R55; `03_tree_membership.md` R80, R83 to R89, R96, R99) -/

namespace Sys2Proof.Machine

open Sys2Proof

/-! ### Which message of a field reaches its row (R48, R49, R55, R83, R96) -/

/-- A function field that holds a message for a row: of sectors 32 to 63, usable, its bytes bs, its message m of a type that the row handles. -/
structure MessageRead (a : FieldAt) (types : Nat → Bool) (bs : List Nat) (m : TreeMsg) (s : State) : Prop where
  first : 32 ≤ a.sector
  last : a.sector ≤ 63
  usable : fieldUsable a s = true
  bytes : bs = fieldBytes a s
  message : m = msgOf bs
  handled : types m.type = true

/-- A message of another epoch (R96): counted, and a newer epoch deposes. -/
def staleMessage (n epoch : Nat) (s : State) : State :=
  let t := s.inc .LP_MSG_STALE n
  if newerEpoch epoch (t.get .LINE_TREE_ID_EPOCH n) then depose n 4 epoch 0x0502 t else t

section
variable {a : FieldAt} {types : Nat → Bool} {act : TreeMsg → State → State} {bs : List Nat} {m : TreeMsg} {s t : State} {r : MsgRule}
  {ok : TreeMsg → Bool} {i : Instr} {x y n epoch : Nat}

theorem onMessage_of_absent
    (h : a.sector < 32 ∨ 63 < a.sector ∨ fieldUsable a s = false ∨ types (msgOf (fieldBytes a s)).type = false) :
    onMessage a types act s = s := by
  unfold onMessage onField
  by_cases hs : a.sector < 32 ∨ 63 < a.sector
  · exact if_pos hs
  · rw [if_neg hs]
    obtain ⟨h1, h2⟩ := not_or.1 hs
    rcases (h.resolve_left h1).resolve_left h2 with hf | ht
    · exact if_neg (ne_true_of_eq_false hf)
    · exact ite_eq_right_iff.2 fun _ => if_pos (by simp [ht])

/-- The tests that every tree message meets, in their order. -/
theorem onMessage_of_read (hr : MessageRead a types bs m s) : onMessage a types act s =
    if field bs 60 4 ≠ crc32c (bs.take 60) then s.inc .LSC_MSG_BADCHECK a.port a.sc
    else if m.type = 0 ∨ taken a m s = false then s
    else if 54 < m.blen then s.inc .LP_MSG_UNKNOWN a.port
    else if m.bcast = false ∧ m.epoch ≠ s.get .LINE_TREE_ID_EPOCH a.port then staleMessage a.port m.epoch s
    else act m s := by
  obtain ⟨h32, h63, hf, rfl, rfl, ht⟩ := hr
  unfold onMessage onField
  rw [if_neg (by omega), if_pos hf]
  simp only [Bool.not_eq_true', ht, Bool.true_eq_false, if_false]
  rfl

theorem onMessage_of_bad_check (hr : MessageRead a types bs m s) (h : field bs 60 4 ≠ crc32c (bs.take 60)) :
    onMessage a types act s = s.inc .LSC_MSG_BADCHECK a.port a.sc := (onMessage_of_read hr).trans (if_pos h)

theorem onMessage_of_foreign (hr : MessageRead a types bs m s) (hc : field bs 60 4 = crc32c (bs.take 60))
    (h : m.type = 0 ∨ taken a m s = false) : onMessage a types act s = s :=
  (onMessage_of_read hr).trans ((if_neg (not_not_intro hc)).trans (if_pos h))

/-- A message for the terminal whose check fits: what is left to test is its length byte and its epoch. -/
theorem onMessage_of_taken (hr : MessageRead a types bs m s) (hc : field bs 60 4 = crc32c (bs.take 60)) (h0 : m.type ≠ 0)
    (ht : taken a m s = true) : onMessage a types act s =
      if 54 < m.blen then s.inc .LP_MSG_UNKNOWN a.port
      else if m.bcast = false ∧ m.epoch ≠ s.get .LINE_TREE_ID_EPOCH a.port then staleMessage a.port m.epoch s
      else act m s :=
  (onMessage_of_read hr).trans ((if_neg (not_not_intro hc)).trans (if_neg (not_or.2 ⟨h0, by simp [ht]⟩)))

theorem onMessage_of_good (hg : goodMessage a types m s) : onMessage a types act s = act m s := by
  obtain ⟨h32, h63, hf, rfl, ht, h0, hc, htk, hl, he⟩ := hg
  rw [onMessage_of_taken ⟨h32, h63, hf, rfl, rfl, ht⟩ hc h0 htk, if_neg (Nat.not_lt_of_le hl), if_neg fun ⟨hb, hne⟩ => hne (he hb)]

theorem staleMessage_of_newer (ht : t = s.inc .LP_MSG_STALE n) (h : newerEpoch epoch (t.get .LINE_TREE_ID_EPOCH n) = true) :
    staleMessage n epoch s = depose n 4 epoch 0x0502 t := by
  subst ht
  exact if_pos h

theorem staleMessage_of_older (ht : t = s.inc .LP_MSG_STALE n) (h : newerEpoch epoch (t.get .LINE_TREE_ID_EPOCH n) = false) :
    staleMessage n epoch s = t := by
  subst ht
  exact if_neg (ne_true_of_eq_false h)

/-- What a typed message that is sound does (R83, Tables 3.3 and 3.4). -/
def typedAct (a : FieldAt) (r : MsgRule) (ok : TreeMsg → Bool) (act : TreeMsg → State → State) (m : TreeMsg) (s : State) : State :=
  if m.bcast == r.bcast && r.states.contains (s.tree a.port) && ok m then act m s else msgUnknown a s

theorem onTyped_eq : onTyped a r ok act s = onMessage a (· == r.type) (typedAct a r ok act) s := rfl

/-- Every row of a tree message goes through `onMessage`. -/
theorem exec_eq_onMessage (h : (i, types) ∈ messageRows a x y) : ∃ act, ∀ s, exec i s = .next (onMessage a types act s) := by
  simp only [messageRows, List.mem_cons, List.not_mem_nil, or_false, Prod.mk.injEq] at h
  obtain ⟨rfl, rfl⟩ | ⟨rfl, rfl⟩ | ⟨rfl, rfl⟩ | ⟨rfl, rfl⟩ | ⟨rfl, rfl⟩ | ⟨rfl, rfl⟩ | ⟨rfl, rfl⟩ := h
  · exact ⟨_, fun s => next_congr (onTyped_eq (s := s))⟩
  · exact ⟨_, fun _ => rfl⟩
  iterate 4 · exact ⟨_, fun s => next_congr (onTyped_eq (s := s))⟩
  · exact ⟨_, fun _ => rfl⟩

/-! ### Typed messages (R83, Tables 3.3 and 3.4) -/

theorem onTyped_of_fitting (hg : goodMessage a (· == r.type) m s) (hb : m.bcast = r.bcast) (hs : s.tree a.port ∈ r.states)
    (hok : ok m = true) : onTyped a r ok act s = act m s :=
  (onMessage_of_good hg).trans (if_pos (by simp [hb, hs, hok]))

theorem onTyped_of_unfitting (hg : goodMessage a (· == r.type) m s)
    (h : m.bcast ≠ r.bcast ∨ ¬(s.tree a.port ∈ r.states) ∨ ok m = false) : onTyped a r ok act s = s.inc .LP_MSG_UNKNOWN a.port := by
  refine (onMessage_of_good hg).trans (if_neg ?_)
  rcases h with h | h | h <;> simp [h]

theorem effAssign_of_good (hg : goodMessage a (· == 2) m s) : effAssign a s =
    if m.bcast = false ∨ m.blen ≠ 24 then s.inc .LP_MSG_UNKNOWN a.port
    else if field m.body 0 8 ≠ s.get .LINE_TREE_SERIAL_SERIAL a.port then
      if s.tree a.port = tsCandidate then s else s.inc .LP_MSG_UNKNOWN a.port
    else if s.tree a.port = tsCandidate ∧ (s.term a.port).nonce = some (field m.body 8 4) then
      toRanging a.port 0 (takeIdentity a.port (field m.body 12 2) (field m.body 14 2) (field m.body 16 4) (field m.body 20 4)
        (abandonPresence a.port s))
    else s.inc .LP_ASSIGN_IGNORED a.port :=
  (onMessage_of_good hg).trans (if_congr (by simp) rfl rfl)

theorem effHostMessage_of_good (hg : goodMessage a (fun type => decide (type = 0 ∨ 7 ≤ type)) m s) : effHostMessage a s =
    if m.type < 64 ∨ s.tree a.port = tsOffline then s.inc .LP_MSG_UNKNOWN a.port
    else if 256 ≤ (s.frame a.port).msgs.length then s.inc .LP_MSG_OVERFLOW a.port
    else s.setFrame a.port (fun f => { f with msgs := f.msgs ++ [⟨m.bcast, m.tid, m.epoch, m.type, m.body.take m.blen⟩] }) :=
  onMessage_of_good hg

end

/-- Settles O16: the tests of `onMessage` in their order, then what each row asks of a sound message. -/
theorem unsoundTreeMessagesAreCounted : Obligations.UnsoundTreeMessagesAreCounted := by
  refine fun a bs m s x y hbs hm => ⟨fun i types hi => ?_, fun i types bcast ok states hi hg h => ?_, fun hg h => ?_, fun hg h => ?_⟩
  · obtain ⟨act, hx⟩ := exec_eq_onMessage hi
    subst hbs hm
    refine ⟨fun h => (hx s).trans (next_congr (onMessage_of_absent h)), fun h32 h63 hf ht => ?_⟩
    have hr : MessageRead a types (fieldBytes a s) (msgOf (fieldBytes a s)) s := ⟨h32, h63, hf, rfl, rfl, ht⟩
    refine ⟨fun hc => (hx s).trans (next_congr (onMessage_of_bad_check hr hc)), fun hc =>
      ⟨fun h => (hx s).trans (next_congr (onMessage_of_foreign hr hc h)), fun h0 htk => ?_⟩⟩
    have hk := (hx s).trans (next_congr (onMessage_of_taken hr hc h0 htk))
    refine ⟨fun hl => hk.trans (next_congr (if_pos hl)), fun hl hb he t ht => ?_⟩
    replace hk := hk.trans (next_congr ((if_neg (Nat.not_lt_of_le hl)).trans (if_pos ⟨hb, he⟩)))
    exact ⟨fun hn => hk.trans (next_congr (staleMessage_of_newer ht hn)), fun hn => hk.trans (next_congr (staleMessage_of_older ht hn))⟩
  · simp only [List.mem_cons, List.not_mem_nil, or_false, Prod.mk.injEq] at hi
    obtain ⟨rfl, rfl, rfl, rfl, rfl⟩ | ⟨rfl, rfl, rfl, rfl, rfl⟩ | ⟨rfl, rfl, rfl, rfl, rfl⟩ | ⟨rfl, rfl, rfl, rfl, rfl⟩ |
      ⟨rfl, rfl, rfl, rfl, rfl⟩ := hi <;> exact next_congr (onTyped_of_unfitting hg h)
  · exact next_congr ((effAssign_of_good hg).trans (if_pos h))
  · exact next_congr ((effHostMessage_of_good hg).trans (if_pos h))

/-! ### What the message of a row does to the terminal that acts on it (R80, R84 to R89, R99) -/

/-- A sound DISCOVERY message met by a candidate (R86): it opens a window of width symbols in upstream superframe up, for a presence burst of l
symbols in the profile prof at the EqD eqd. -/
structure DiscoveryRead (a : FieldAt) (m : TreeMsg) (n prof up width eqd l : Nat) (s : State) : Prop where
  good : goodMessage a (· == 1) m s
  broadcast : m.bcast = true
  length : m.blen = 20
  candidate : s.tree a.port = tsCandidate
  port : n = a.port
  profile : prof = field m.body 14 2
  valid : bit prof 13 = true
  rate : bits prof 1 3 ≤ 4
  superframe : up = field m.body 0 4 % 2 ^ 25
  window : width = field m.body 8 4
  delay : eqd = bits (field m.body 16 4) 4 24
  symbols : l = burstSymbols (bits prof 8 5) 4096 1 (bits prof 1 3) (bits prof 0 1)

/-- The end of ranging (R80, R89): MEMBER, event RANGED with the values v, and an outage before it ends. -/
def rangingEnded (n : Nat) (v : RangeValues) (t : State) : State :=
  let u := (setTree n tsMember 0x0506 t).raise 0x0506 [n, v.eqd, v.trim]
  if (t.term n).afterOutage then outageEnd n (t.term n).outageMs 1 u else u

section
variable {a : FieldAt} {m : TreeMsg} {n x y k ap prof up width eqd l : Nat} {late : Bool} {v : RangeValues} {s t u : State}

theorem effDiscovery_of_fitting (hd : DiscoveryRead a m n prof up width eqd l s) : effDiscovery a x y s =
    if (s.frame n).discoveryOpen = false ∨ (s.frame n).headerTaken = none ∨ (s.term n).presence.isSome = true ∨
        (s.term n).nonce.isSome = true ∨ (s.term n).burst.isSome = true then s
    else if 0 < (s.term n).skip then s.setTerm n (fun t => { t with skip := t.skip - 1 })
    else if width < l ∨ upBegun n up eqd s = true then s
    else s.setTerm n (fun t =>
      { t with presence := some ⟨up, field m.body 4 4 % 2 ^ 21 + 256 * (x % ((width - l) / 256 + 1)), field m.body 12 2, prof, eqd,
                                 y % 2 ^ 32⟩ }) := by
  obtain ⟨hg, hb, hbl, hs, rfl, rfl, h13, h4, rfl, rfl, rfl, rfl⟩ := hd
  refine (onTyped_of_fitting hg hb (List.mem_singleton.2 hs) (by simp [hbl, h13, h4])).trans ?_
  exact if_congr (by simp) rfl rfl

theorem effRange_of_fitting (hg : goodMessage a (· == 3) m s) (hb : m.bcast = false) (hbl : m.blen = 13)
    (hs : s.tree a.port = tsRanging ∨ s.tree a.port = tsMember ∨ s.tree a.port = tsDozing) (hn : n = a.port)
    (hap : applyFrom n (field m.body 8 4 % 2 ^ 25) s = (ap, late))
    (hv : v = ⟨bits (field m.body 0 4) 4 24, field m.body 0 4 % 16, field m.body 4 4, ap, (s.frame n).sf⟩)
    (hu : u = s.when late (fun s => s.inc .LP_RANGE_LATE n))
    (ht : t = u.setTerm n (fun t => { t with rangeNext := t.rangeNext ++ [v], rangeBase := some (rangeUnder n s) })) : effRange a s =
      if t.tree n ≠ tsRanging then t
      else if bit (field m.body 12 1) 0 then rangingEnded n v t
      else t.start (.ranging n) := by
  subst hn hv hu ht
  refine (onTyped_of_fitting hg hb (by simpa using hs) (by simp [hbl])).trans ?_
  dsimp only
  rw [hap]
  rfl

theorem effProfile_of_fitting (hg : goodMessage a (· == 4) m s) (hb : m.bcast = false) (hk : k = field m.body 4 1) (h1 : 1 ≤ k) (h16 : k ≤ 16)
    (hbl : m.blen = 5 + 3 * k) (hs : s.tree a.port ∈ [tsRanging, tsMember, tsDozing, tsDark]) (hn : n = a.port)
    (hap : applyFrom n (field m.body 0 4 % 2 ^ 25) s = (ap, late)) (hu : u = s.when late (fun s => s.inc .LP_RANGE_LATE n)) :
    effProfile a s = u.setTerm n (fun t => { t with profileBase := some (profilesUnder n s), profileNext := t.profileNext ++
      [⟨(List.range k).map (fun j => (field m.body (5 + 3 * j) 1 % 16, field m.body (6 + 3 * j) 2 % 2 ^ 14)), ap, (s.frame n).sf⟩] }) := by
  subst hn hu hk
  refine (onTyped_of_fitting hg hb hs (by simp [hbl, h1, h16])).trans ?_
  dsimp only
  rw [hap]

theorem effDozeAck_of_fitting (hg : goodMessage a (· == 5) m s) (hb : m.bcast = false) (hbl : m.blen = 2) (hp : field m.body 0 2 ≠ 0)
    (hs : s.tree a.port = tsMember) : effDozeAck a s =
      if s.get .LINE_TREE_DOZE_REQUESTED a.port = 1 then
        (setTree a.port tsDozing 0 ((s.setAll [(.LINE_TREE_DOZE_REQUESTED, 0), (.LINE_TREE_DOZE_PERIOD, field m.body 0 2)] a.port).setTerm
          a.port (fun t => { t with txPowered := false, dozeMissed := false, wakePending := false }))).start (.checkin a.port)
      else s :=
  (onTyped_of_fitting hg hb (List.mem_singleton.2 hs) (by simp [hbl, hp])).trans (if_congr State.isSet_iff rfl rfl)

end

/-- Settles O17, one message after the other: what a sound message does once its row acts on it. -/
theorem treeMessagesTakeEffect : Obligations.TreeMessagesTakeEffect := by
  refine ⟨fun a m x y n prof up width eqd l s hg hb hbl hs hn hprof h13 h4 hup hwidth heqd hl => ?_,
    fun a m n s hg hb hbl hn => ?_, fun a m n ap late v s u t hg hb hbl hs hn hap hv hu ht => ?_,
    fun a m n k ap late s u hg hb hk h1 h16 hbl hs hn hap hu => ?_, fun a m s hg hb hbl hp hs => ?_,
    fun a m s hg hb hbl hs => ?_, fun a m s hg hs h64 => ?_⟩
  · have hx := effDiscovery_of_fitting (x := x) (y := y) ⟨hg, hb, hbl, hs, hn, hprof, h13, h4, hup, hwidth, heqd, hl⟩
    refine ⟨fun h => next_congr (hx.trans (if_pos h)), fun ho hh hpr hno hbu => ?_⟩
    replace hx := hx.trans (if_neg (by simp [ho, Option.ne_none_iff_isSome.2 hh, hpr, hno, hbu]))
    refine ⟨fun h => next_congr (hx.trans (if_pos h)), fun h0 h => ?_, fun h0 hw hup => ?_⟩
    · exact next_congr (hx.trans ((if_neg (by omega)).trans (if_pos h)))
    · exact next_congr (hx.trans ((if_neg (by omega)).trans (if_neg (not_or.2 ⟨Nat.not_lt_of_le hw, ne_true_of_eq_false hup⟩))))
  · have hx := (effAssign_of_good hg).trans (if_neg (by simp [hb, hbl]))
    subst hn
    refine ⟨fun hser => ?_, fun hser => ?_⟩
    · replace hx := hx.trans (if_pos hser)
      exact ⟨fun hc => next_congr (hx.trans (if_pos hc)), fun hc => next_congr (hx.trans (if_neg hc))⟩
    · replace hx := hx.trans (if_neg (not_not_intro hser))
      exact ⟨fun hc hno => next_congr (hx.trans (if_pos ⟨hc, hno⟩)),
        fun h => next_congr (hx.trans (if_neg fun ⟨hc, hno⟩ => h.elim (· hc) (· hno)))⟩
  · have hx := effRange_of_fitting hg hb hbl hs hn hap hv hu ht
    refine ⟨fun hr => next_congr (hx.trans (if_pos hr)), fun hr => ?_⟩
    replace hx := hx.trans (if_neg (not_not_intro hr))
    exact ⟨fun hc => next_congr (hx.trans (if_neg (ne_true_of_eq_false hc))),
      fun hc ho => next_congr (hx.trans ((if_pos hc).trans (if_neg (ne_true_of_eq_false ho)))),
      fun hc ho => next_congr (hx.trans ((if_pos hc).trans (if_pos ho)))⟩
  · exact next_congr (effProfile_of_fitting hg hb hk h1 h16 hbl hs hn hap hu)
  · have hx := effDozeAck_of_fitting hg hb hbl hp hs
    exact ⟨fun h => next_congr (hx.trans (if_neg h)), fun h => next_congr (hx.trans (if_pos h))⟩
  · exact next_congr (onTyped_of_fitting hg hb hs (by simp [hbl]))
  · have hx := (effHostMessage_of_good hg).trans (if_neg (not_or.2 ⟨Nat.not_lt_of_le h64, hs⟩))
    exact ⟨fun h => next_congr (hx.trans (if_neg (Nat.not_le_of_lt h))), fun h => next_congr (hx.trans (if_pos h))⟩

end Sys2Proof.Machine

/-! ## The framing commands (`02_tree_frames.md` R46, R66, R69, R71 to R73, R75) -/

namespace Sys2Proof.Machine

open Sys2Proof

section
variable {q : Req} {es : List REntry} {e : REntry} {n dir t index slot dest source vlan : Nat} {x : Trib} {s : State}

/-- An entry of LINE_TSI_WRITE that its page's state allows (R69): a slot of the slot table, or a page that is not READY. -/
def tsiAllowed (s : State) (e : REntry) : Bool := bits e.index 32 1 != 0 || !tsiReady (bits e.index 34 2) (bits e.index 33 1) s

theorem lineTsiWrite_done (ht : takenUp ciLineTsiWrite q s = true) (hp : rErr 16 tsiEntryErr es = none) (h : ∀ e ∈ es, tsiAllowed s e = true) :
    Done (.lineTsiWrite q es) ciLineTsiWrite q (es.map (·.index)) s (es.foldl tsiWriteOne s) :=
  next_congr (single_accepted _ _ ht (needs_of_true (List.all_eq_true.2 h)) hp)

theorem lineTsiWrite_rejected (ht : takenUp ciLineTsiWrite q s = true) (he : e ∈ es) (h : tsiAllowed s e = false) :
    Next (.lineTsiWrite q es) s (reject ciLineTsiWrite q stState 0 s) :=
  next_congr (single_of_needs_false ht (List.all_eq_false.2 ⟨e, he, ne_true_of_eq_false h⟩))

theorem tsiWriteOne_of_cell (hn : bits e.index 34 2 = n) (hd : bits e.index 33 1 = dir) (h : bits e.index 32 1 = 0) :
    tsiWriteOne s e = s.setFrame n (fun f =>
      { f with tsi := Tab.put 0 f.tsi (tsiKey dir (standbyPage n dir s) (bits e.index 0 18)) (bits e.data 56 8) }) := by
  subst hn hd
  exact if_pos h

theorem tsiWriteOne_of_slot (hn : bits e.index 34 2 = n) (h : bits e.index 32 1 ≠ 0) : tsiWriteOne s e = s.setFrame n (fun f =>
    { f with slots := Tab.put 0 f.slots (bits e.index 0 4 * 32 + bits e.index 4 5)
                        (if bit (bits e.data 56 8) 7 then 1 + bits e.data 56 8 % 64 else 0) }) := by
  subst hn
  exact if_neg h

theorem lineTsiReady_done (hn : n < 4) (ht : takenUp (ciLineTsiReady n) q s = true) (h : swapAnnounced n s = false) (up : Bool) :
    Done (.lineTsiReady q n up) (ciLineTsiReady n) q [n] s (s.set (if up then .LINE_TSI_UP_READY else .LINE_TSI_DN_READY) 1 n) :=
  next_congr (single_accepted _ _ ht (needs_of_true (by simp [h])) (want_port hn))

theorem lineTsiReady_rejected (hn : n < 4) (ht : takenUp (ciLineTsiReady n) q s = true) (h : swapAnnounced n s = true) (up : Bool) :
    Next (.lineTsiReady q n up) s (reject (ciLineTsiReady n) q stState 0 s) :=
  next_congr (single_of_needs_false ht (by simp [h, hn]))

theorem lineTribConfig_staged (hi : index < 256) (hsl : slot < 32) (hd : dest < 2 ^ 48) (hso : source < 2 ^ 48) (hv : vlan < 2 ^ 32)
    (ht : takenAtomic (ciLineTribConfig (index / 64)) q s = true) :
    Stages (.lineTribConfig q index slot dest source vlan) (ciLineTribConfig (index / 64)) q s
      (.trib (index / 64) (index % 64) slot dest source vlan) :=
  next_congr (atomicCmd_accepted _ ht rfl (by simp only [hi, hsl, hd, hso, hv, decide_true, want_true, firstErr_none, firstErr_nil]))

theorem commitTrib_eq (hx : Tab.get {} (s.frame n).tribs t = x) : commitTrib n t slot dest source vlan s = s.setFrame n (fun f =>
    { f with tribs := Tab.put {} f.tribs t { x with slot := slot, dest := dest, source := source, vlan := vlan } }) := by
  subst hx
  exact State.setFrame_congr rfl

end

/-- Settles O9, one row of the table after the other. -/
theorem framingCommandsComplete : Obligations.FramingCommandsComplete :=
  ⟨fun _ _ _ ht hp => next_congr (writeCmd_accepted _ _ ht hp), fun _ _ _ ht hp => next_congr (writeCmd_accepted _ _ ht hp),
    fun q es s ht hp => ⟨fun h => lineTsiWrite_done ht hp fun e he => by
        by_cases hk : bits e.index 32 1 = 0 <;> simp [tsiAllowed, hk, h e he],
      fun e he hk hr => lineTsiWrite_rejected ht he (by simp [tsiAllowed, hk, hr])⟩,
    fun e n dir s hn hd => ⟨tsiWriteOne_of_cell hn hd, tsiWriteOne_of_slot hn⟩,
    fun q n up s hn ht => ⟨fun h => lineTsiReady_done hn ht h up, fun h => lineTsiReady_rejected hn ht h up⟩,
    fun q index slot dest source vlan s hi hsl hd hso hv ht => lineTribConfig_staged hi hsl hd hso hv ht,
    fun n t slot dest source vlan x s hx => commitTrib_eq hx⟩

end Sys2Proof.Machine

/-! ## Function fields of a sector and the overhead serial ports (`02_tree_frames.md` R49, R52, R56, R67, R72, R73) -/

namespace Sys2Proof.Machine

open Sys2Proof

/-! ### DIRECTORY_ENTRY (R52, R80, R82, R96) -/

/-- What the entry e of the terminal's TID does, where the terminal reads the directory: its epoch is ep, the terminal's own is mine, and own
says that it carries the terminal's serial (R82, R96). -/
def judgeEntry (n e ep mine : Nat) (own : Bool) (s : State) : State :=
  if s.get .LINE_TREE_STATE_DIR_GRACE n ≠ 1 ∧ bits e 13 3 = 0 then depose n 3 ep 0x0502 s
  else if s.get .LINE_TREE_STATE_DIR_GRACE n ≠ 1 ∧ own = false then depose n 1 ep 0x0502 s
  else if s.get .LINE_TREE_STATE_DIR_GRACE n ≠ 1 ∧ newerEpoch ep mine = true then depose n 2 ep 0x0502 s
  else if own = true ∧ ep ≠ mine ∧ newerEpoch ep mine = false then s.inc .LP_DIR_STALE n
  else if (s.term n).awaiting = true ∧ own = true ∧ ep = mine then returnEntry n (bit e 12) s
  else s

section
variable {at_ a : FieldAt} {slot n e ep mine : Nat} {own : Bool} {s : State}

theorem effDirectoryEntry_of_unread (ha : a = inSector at_ (1 + slot / 8))
    (h : isControl at_.port at_.sc s = false ∨ fieldUsable a s = false) : effDirectoryEntry at_ slot s = s := by
  subst ha
  unfold effDirectoryEntry onField
  by_cases hc : isControl at_.port at_.sc s = true
  · refine (if_neg (by simp [hc])).trans (if_neg ?_)
    exact ne_true_of_eq_false (h.resolve_left (ne_false_of_eq_true hc))
  · exact if_pos (by simpa using hc)

theorem effDirectoryEntry_of_read (ha : a = inSector at_ (1 + slot / 8)) (hn : n = at_.port)
    (he : e = field (fieldBytes a s) (slot % 8 * 8) 8) (hep : ep = bits e 48 16) (hm : mine = s.get .LINE_TREE_ID_EPOCH n)
    (ho : own = (bits e 16 32 == s.get .LINE_TREE_ID_SERIAL_TAG n)) (hc : isControl n at_.sc s = true) (hf : fieldUsable a s = true) :
    effDirectoryEntry at_ slot s =
      if bits e 0 8 ≠ crc8 (toBytes 7 (e / 256)) then s.inc .LP_DIR_BADCHECK n
      else if readsDirectory n s = false ∨ s.get .LINE_TREE_ID_TID n ≠ 64 * ((s.frame n).sf % 8) + slot then s
      else judgeEntry n e ep mine own s := by
  subst ha hn he hep hm ho
  unfold effDirectoryEntry onField
  refine (if_neg (by simp [hc])).trans ((if_pos hf).trans ?_)
  simp only [judgeEntry, Bool.not_eq_true', State.isSet_eq_false_iff]

theorem judgeEntry_of_released (hg : s.get .LINE_TREE_STATE_DIR_GRACE n ≠ 1) (h0 : bits e 13 3 = 0) :
    judgeEntry n e ep mine own s = depose n 3 ep 0x0502 s := if_pos ⟨hg, h0⟩

theorem judgeEntry_of_other_serial (hg : s.get .LINE_TREE_STATE_DIR_GRACE n ≠ 1) (h0 : bits e 13 3 ≠ 0) (ho : own = false) :
    judgeEntry n e ep mine own s = depose n 1 ep 0x0502 s := (if_neg fun h => h0 h.2).trans (if_pos ⟨hg, ho⟩)

theorem judgeEntry_of_newer (hg : s.get .LINE_TREE_STATE_DIR_GRACE n ≠ 1) (h0 : bits e 13 3 ≠ 0) (ho : own = true)
    (hnew : newerEpoch ep mine = true) : judgeEntry n e ep mine own s = depose n 2 ep 0x0502 s :=
  (if_neg fun h => h0 h.2).trans ((if_neg (by simp [ho])).trans (if_pos ⟨hg, hnew⟩))

/-- An entry that does not depose: in the grace after an assignment none does, and else not the own one of no newer epoch (R96). -/
theorem judgeEntry_of_kept (h : s.get .LINE_TREE_STATE_DIR_GRACE n = 1 ∨ (bits e 13 3 ≠ 0 ∧ own = true ∧ newerEpoch ep mine = false)) :
    judgeEntry n e ep mine own s =
      if own = true ∧ ep ≠ mine ∧ newerEpoch ep mine = false then s.inc .LP_DIR_STALE n
      else if (s.term n).awaiting = true ∧ own = true ∧ ep = mine then returnEntry n (bit e 12) s
      else s := by
  unfold judgeEntry
  rcases h with hg | ⟨h0, ho, hold⟩
  · rw [if_neg fun h => h.1 hg, if_neg fun h => h.1 hg, if_neg fun h => h.1 hg]
  · rw [if_neg fun h => h0 h.2, if_neg (by simp [ho]), if_neg (by simp [hold])]

/-! ### Remote indications and justification counts (R56, R67) -/

theorem effRemoteIndications_of_discarded (ha : a = inSector at_ 31) (h : fieldUsable a s = false) : effRemoteIndications at_ s = s := by
  subst ha
  exact if_neg (ne_true_of_eq_false h)

theorem effRemoteIndications_of_usable {new old : Nat} (ha : a = inSector at_ 31)
    (hnew : new = field (fieldBytes a s) 0 9 / 256 * 256 + field (fieldBytes a s) 0 9 % 4)
    (hold : old = Tab.get 0 (s.frame a.port).remote a.sc) (h : fieldUsable a s = true) : effRemoteIndications at_ s =
      (List.range 9).foldl (fun s k => if bits new (8 * (8 - k)) 8 = bits old (8 * (8 - k)) 8 then s else s.raise 0x0410 [a.port, a.sc + k * 256])
        (s.setFrame a.port (fun f => { f with remote := Tab.put 0 f.remote a.sc new })) := by
  subst ha hnew hold
  exact if_pos h

theorem effJustificationCount_of_unbound (ha : a = inSector at_ (29 + slot / 16))
    (h : slotTrib a.port a.sc slot s = none ∨ s.get .LINE_FRM_STATE a.port a.sc = 0) : effJustificationCount at_ slot s = s := by
  subst ha
  unfold effJustificationCount
  dsimp only
  split
  next => rfl
  next t ht => exact if_pos (h.resolve_left fun h => nomatch h.symm.trans ht)

theorem effJustificationCount_of_bound {t : Nat} (ha : a = inSector at_ (29 + slot / 16))
    (he : e = field (fieldBytes a s) (slot % 16 * 4) 4) (ht : slotTrib a.port a.sc slot s = some t) (h0 : s.get .LINE_FRM_STATE a.port a.sc ≠ 0) :
    effJustificationCount at_ slot s =
      if fieldUsable a s = true ∧ bit e 25 = true ∧ bits e 0 16 ≤ nextCapacity a.port a.sc t s then
        s.setFrame a.port (fun f => { f with justNext := Tab.put 0 f.justNext (a.sc * 32 + slot) (bits e 0 16) })
      else (s.inc .LSC_JUST_ERR a.port a.sc).setFrame a.port (fun f =>
        { f with justNext := Tab.put 0 f.justNext (a.sc * 32 + slot) (Tab.get 0 f.justLast (a.sc * 32 + slot)) }) := by
  subst ha he
  unfold effJustificationCount
  dsimp only
  rw [ht]
  exact if_neg h0

/-! ### Overhead blocks and the serial ports (R72, R73) -/

theorem effOverheadBlockRx_of_other {ch : Nat} (ha : a = inSector at_ (25 + ch)) (h : isControl a.port a.sc s = false) :
    effOverheadBlockRx at_ ch s = s := by
  subst ha
  exact if_pos (by simp [h])

theorem effOverheadBlockRx_of_usable {ch : Nat} (ha : a = inSector at_ (25 + ch)) (hc : isControl a.port a.sc s = true)
    (hf : fieldUsable a s = true) : effOverheadBlockRx at_ ch s =
      (List.range 8).foldl (fun t k => if t.get .SYS_OSP_TX_EN k = 1 ∧ t.get .SYS_OSP_PORT k = a.port ∧ t.get .SYS_OSP_CHANNEL k = ch then
        { t with ospOut := Tab.put [] t.ospOut k (Tab.get [] t.ospOut k ++ [ofBytes (fieldBytes a t)]) } else t) s := by
  subst ha
  unfold effOverheadBlockRx
  refine (if_neg (by simp [hc])).trans ((if_pos hf).trans ?_)
  simp only [State.isSet_iff]

theorem effOverheadBlockRx_of_discarded {ch : Nat} (ha : a = inSector at_ (25 + ch)) (hc : isControl a.port a.sc s = true)
    (hf : fieldUsable a s = false) : effOverheadBlockRx at_ ch s =
      s.when (s.get .LINE_FRM_STATE a.port a.sc != 0 && !(s.portGated a.port)) (fun s => s.inc .LP_OH_LOST a.port) := by
  subst ha
  exact (if_neg (by simp [hc])).trans (if_neg (ne_true_of_eq_false hf))

theorem effOspBlockOut_of_empty {k : Nat} (h : Tab.get [] s.ospOut k = []) : effOspBlockOut k s = s := by
  unfold effOspBlockOut
  rw [h]

theorem effOspBlockOut_of_waiting {k b : Nat} {r : List Nat} (h : Tab.get [] s.ospOut k = b :: r) : effOspBlockOut k s =
    if s.get .SYS_OSP_TX_EN k = 1 ∧ s.get .FLT_STATUS_SAFE ≠ 1 then ({ s with ospOut := Tab.put [] s.ospOut k r } : State).emit (.osp k b)
    else { s with ospOut := Tab.put [] s.ospOut k r } := by
  unfold effOspBlockOut
  rw [h]
  exact if_congr (and_congr State.isSet_iff (by simp [State.safe, State.isSet]; rfl)) rfl rfl

variable {k b : Nat} {w : List (Nat × Nat)}

theorem effOspBlockIn_of_disabled (h : s.get .SYS_OSP_RX_EN k ≠ 1) : effOspBlockIn k b s = s := if_pos (by simp [State.isSet, h])

theorem effOspBlockIn_of_enabled (hn : n = s.get .SYS_OSP_PORT k) (hw : w = (s.frame n).ohWaiting ++ [(s.get .SYS_OSP_CHANNEL k, b % 2 ^ 512)])
    (h : s.get .SYS_OSP_RX_EN k = 1) : effOspBlockIn k b s =
      (s.when (decide (4 < w.length)) (fun s => s.inc .LP_OH_DROP n)).setFrame n (fun f => { f with ohWaiting := w.drop (w.length - 4) }) := by
  subst hw hn
  exact if_neg (by simp [State.isSet, h])

end

/-- Settles O12, one row of the table after the other. -/
theorem functionFieldEventsComplete : Obligations.FunctionFieldEventsComplete := by
  refine ⟨fun at_ a slot s n e ep mine own ha hn he hep hm ho => ⟨fun h => ?_, fun hc hf => ?_⟩,
    fun at_ a s new old ha hnew hold => ⟨fun h => next_congr (effRemoteIndications_of_discarded ha h),
      fun h => next_congr (effRemoteIndications_of_usable ha hnew hold h)⟩,
    fun at_ a slot s e ha he => ⟨fun h => next_congr (effJustificationCount_of_unbound ha h), fun t ht h0 => ?_⟩,
    fun at_ a ch s ha => ⟨fun h => next_congr (effOverheadBlockRx_of_other ha h),
      fun hc hf => next_congr (effOverheadBlockRx_of_usable ha hc hf), fun hc hf => ?_⟩,
    fun k s => ⟨fun h => next_congr (effOspBlockOut_of_empty h), fun b r h => ?_⟩,
    fun k b n w s hn hw => ⟨fun h => next_congr (effOspBlockIn_of_disabled h), fun h hl => ?_, fun h hl => ?_⟩⟩
  · subst hn
    exact next_congr (effDirectoryEntry_of_unread ha h)
  · have hx := effDirectoryEntry_of_read ha hn he hep hm ho hc hf
    refine ⟨fun hb => next_congr (hx.trans (if_pos hb)), fun hb => ?_⟩
    replace hx := hx.trans (if_neg (not_not_intro hb))
    refine ⟨fun h => next_congr (hx.trans (if_pos h)), fun hr ht => ?_⟩
    replace hx := hx.trans (if_neg (by simp [hr, ht]))
    refine ⟨fun hg => ⟨fun h0 => next_congr (hx.trans (judgeEntry_of_released hg h0)),
      fun h0 ho => next_congr (hx.trans (judgeEntry_of_other_serial hg h0 ho)),
      fun h0 ho hnew => next_congr (hx.trans (judgeEntry_of_newer hg h0 ho hnew))⟩, fun hk => ?_⟩
    replace hx := hx.trans (judgeEntry_of_kept hk)
    refine ⟨fun ho hne hold => next_congr (hx.trans (if_pos ⟨ho, hne, hold⟩)), fun ho heq hw => ?_, fun ho heq hw => ?_, fun h => ?_⟩
    · exact next_congr (hx.trans ((if_neg (by simp [heq])).trans (if_pos ⟨hw, ho, heq⟩)))
    · exact next_congr (hx.trans ((if_neg (by simp [heq])).trans (if_neg (by simp [hw]))))
    · refine next_congr (hx.trans ((if_neg ?_).trans (if_neg ?_)))
      · rcases h with h | ⟨-, h⟩ <;> simp [h]
      · rcases h with h | ⟨h, -⟩ <;> simp [h]
  · have hx := effJustificationCount_of_bound ha he ht h0
    refine ⟨fun h1 h2 h3 => next_congr (hx.trans (if_pos ⟨h1, h2, h3⟩)), fun h => next_congr (hx.trans (if_neg fun ⟨h1, h2, h3⟩ => ?_))⟩
    rcases h with h | h | h
    · exact Bool.false_ne_true (h.symm.trans h1)
    · exact Bool.false_ne_true (h.symm.trans h2)
    · exact Nat.not_le_of_lt h h3
  · have hx := effOverheadBlockRx_of_discarded ha hc hf
    refine ⟨fun h0 hg => next_congr (hx.trans (State.when_of_true (by simp [h0, hg]))),
      fun h => next_congr (hx.trans (State.when_of_false ?_))⟩
    rcases h with h | h <;> simp [h]
  · have hx := effOspBlockOut_of_waiting h
    refine ⟨fun h1 h2 => next_congr (hx.trans (if_pos ⟨h1, h2⟩)), fun h => next_congr (hx.trans (if_neg fun ⟨h1, h2⟩ => ?_))⟩
    exact h.elim (· h1) h2
  · refine next_congr ((effOspBlockIn_of_enabled hn hw h).trans ?_)
    rw [State.when_of_false (by simp [hl]), Nat.sub_eq_zero_of_le hl, List.drop_zero]
  · refine next_congr ((effOspBlockIn_of_enabled hn hw h).trans ?_)
    rw [State.when_of_true (by simp [hl])]

end Sys2Proof.Machine

/-! ## The tree commands (`03_tree_membership.md` R79, R80, R99, R100, R103, R106; `02_tree_frames.md` R55; `14_boot_store.md` R337) -/

namespace Sys2Proof.Machine

open Sys2Proof

section
variable {q : Req} {n w op causes : Nat} {ok : Nat → Bool} {es : List WEntry} {b s : State}

/-- A command that its unit's state refuses (R310). -/
theorem single_unit {c : CmdInfo} {keys : List Nat} {unit : State → Option (Nat × Nat)} {param : State → Option Nat} {body : State → Result}
    {st d : Nat} (ht : takenUp c q s = true) (h : unit s = some (st, d)) : single c q keys unit param body s = reject c q st d s :=
  checked_unit _ ht h

theorem inTree_of_port (hn : n < 4) : inTree n ok s = ok (s.tree n) := by simp [inTree, hn]

/-! ### TREE_JOIN and TREE_LEAVE (R80, R337) -/

theorem joinState_of_lost (hn : n < 4) (h : s.fuses.lost.find? (fun w => w / 2 == 2 + n) = some w) : joinState n s = some (stDoubtful, w) := by
  unfold joinState
  rw [h]
  exact if_pos hn

theorem joinState_of_found (hn : n < 4) (h : s.fuses.lost.find? (fun w => w / 2 == 2 + n) = none) :
    joinState n s = if s.tree n = tsOffline ∨ s.tree n = tsDeposed then none else some (stState, 0) := by
  unfold joinState
  rw [h, inTree_of_port hn]
  exact if_congr (by simp) rfl rfl

/-- TREE_JOIN from OFFLINE or DEPOSED: Dill starts where dill says so. -/
theorem treeJoin_done (hn : n < 4) (ht : takenUp (ciTreeJoin n) q s = true) (hl : s.fuses.lost.find? (fun w => w / 2 == 2 + n) = none)
    (hs : s.tree n = tsOffline ∨ s.tree n = tsDeposed) {dill : Bool}
    (hd : dill = (s.tree n == tsOffline && !(controlSync n s) && !(s.isSet .LINE_STATUS_SEARCHING n))) :
    Done (.treeJoin q n) (ciTreeJoin n) q [n] s
      ((setTree n tsListen 0x0501 (s.setTerm n (fun t => { t with joined := true }))).when dill (startSearch n 0x0501)) := by
  subst hd
  exact next_congr (single_accepted _ _ ht ((joinState_of_found hn hl).trans (if_pos hs)) (want_port hn))

theorem treeJoin_rejected {st d : Nat} (ht : takenUp (ciTreeJoin n) q s = true) (h : joinState n s = some (st, d)) :
    Next (.treeJoin q n) s (reject (ciTreeJoin n) q st d s) := next_congr (single_unit ht h)

theorem treeLeave_done (hn : n < 4) (ht : takenUp (ciTreeLeave n) q s = true) : Done (.treeLeave q n) (ciTreeLeave n) q [n] s
    (if s.tree n = tsOffline then s.setTerm n (fun t => { t with joined := false, afterOutage := false })
     else setTree n tsOffline 0x0502 (clearProfiles n (abandonPresence n
       (s.setTerm n (fun t => { t with joined := false, afterOutage := false }))))) :=
  next_congr (single_accepted _ _ ht rfl (want_port hn))

/-! ### TREE_CONFIG, TREE_DARK and the host dark condition (R79, R80, R106) -/

theorem treeConfig_done (ht : takenUp ciTreeConfig q s = true) (hp : wErr treeConfigAllow es = none)
    (h : ∀ n ∈ filterPorts es, s.tree n = tsOffline) : Done (.treeConfig q es) ciTreeConfig q (es.map (·.off)) s
      ((List.range 4).foldl (fun t n => hostDarkChanged n 0x0503 s t) (wApplyAll s es)) :=
  next_congr (single_accepted _ _ ht (needs_of_true (List.all_eq_true.2 fun n hn => beq_iff_eq.2 (h n hn))) hp)

theorem treeConfig_rejected (ht : takenUp ciTreeConfig q s = true) (hn : n ∈ filterPorts es) (h : s.tree n ≠ tsOffline) :
    Next (.treeConfig q es) s (reject ciTreeConfig q stState 0 s) :=
  next_congr (single_of_needs_false ht (List.all_eq_false.2 ⟨n, hn, mt beq_iff_eq.1 h⟩))

theorem hostDarkChanged_of_set (hb : b.get .LINE_TREE_CFG_HOST_DARK n ≠ 1) (hs : s.get .LINE_TREE_CFG_HOST_DARK n = 1) :
    hostDarkChanged n op b s = darkArises n op s := if_pos (by simp [State.isSet, hb, hs])

theorem hostDarkChanged_of_cleared (hb : b.get .LINE_TREE_CFG_HOST_DARK n = 1) (hs : s.get .LINE_TREE_CFG_HOST_DARK n ≠ 1) :
    hostDarkChanged n op b s = darkMayEnd n op s :=
  (if_neg (by simp [State.isSet, hs])).trans (if_pos (by simp [State.isSet, hb, hs]))

theorem hostDarkChanged_of_same (h : b.get .LINE_TREE_CFG_HOST_DARK n = 1 ↔ s.get .LINE_TREE_CFG_HOST_DARK n = 1) :
    hostDarkChanged n op b s = s :=
  (if_neg (by simp [State.isSet, h])).trans (if_neg (by simp [State.isSet, h]))

theorem treeDark_done (hn : n < 4) (ht : takenUp (ciTreeDark n) q s = true) (on : Bool) : Done (.treeDark q n on) (ciTreeDark n) q [n] s
    (hostDarkChanged n 0x0507 s (s.set .LINE_TREE_CFG_HOST_DARK (b2n on) n)) :=
  next_congr (single_accepted _ _ ht rfl (want_port hn))

/-! ### TREE_DOZE, TREE_WAKE, TREE_GUARD_RELEASE and TREE_MSG_READ (R55, R99, R100, R103) -/

theorem treeDoze_done (hn : n < 4) (ht : takenUp (ciTreeDoze n) q s = true) (hs : s.tree n = tsMember) :
    Done (.treeDoze q n) (ciTreeDoze n) q [n] s (s.set .LINE_TREE_DOZE_REQUESTED 1 n) :=
  next_congr (single_accepted _ _ ht (needs_of_true (by simp [inTree_of_port hn, hs])) (want_port hn))

theorem treeDoze_rejected (hn : n < 4) (ht : takenUp (ciTreeDoze n) q s = true) (hs : s.tree n ≠ tsMember) :
    Next (.treeDoze q n) s (reject (ciTreeDoze n) q stState 0 s) :=
  next_congr (single_of_needs_false ht (by simp [inTree_of_port hn, hs]))

theorem treeWake_done (hn : n < 4) (ht : takenUp (ciTreeWake n) q s = true) (hs : s.tree n = tsDozing) :
    Done (.treeWake q n) (ciTreeWake n) q [n] s (wakeRequest n 0x0505 s) :=
  next_congr (single_accepted _ _ ht (needs_of_true (by simp [inTree_of_port hn, hs])) (want_port hn))

theorem treeWake_rejected (hn : n < 4) (ht : takenUp (ciTreeWake n) q s = true) (hs : s.tree n ≠ tsDozing) :
    Next (.treeWake q n) s (reject (ciTreeWake n) q stState 0 s) :=
  next_congr (single_of_needs_false ht (by simp [inTree_of_port hn, hs]))

theorem treeGuardRelease_done (hn : n < 4) (hc : causes < 32) (ht : takenUp (ciTreeGuardRelease n) q s = true)
    (hl : (s.get .LINE_BAY_LATCHED n &&& causes) = causes) (hp : (s.get .LINE_BAY_PRESENT n &&& causes) = 0) :
    Done (.treeGuardRelease q n causes) (ciTreeGuardRelease n) q [n] s (bayRelease n causes 0x0506 s) :=
  next_congr (single_accepted _ _ ht (needs_of_true (by simp [hl, hp])) (by simp [hn, hc]))

theorem treeGuardRelease_rejected (hn : n < 4) (hc : causes < 32) (ht : takenUp (ciTreeGuardRelease n) q s = true)
    (h : (s.get .LINE_BAY_LATCHED n &&& causes) ≠ causes ∨ (s.get .LINE_BAY_PRESENT n &&& causes) ≠ 0) :
    Next (.treeGuardRelease q n causes) s (reject (ciTreeGuardRelease n) q stState 0 s) := by
  refine next_congr (single_of_needs_false ht ?_)
  rcases h with h | h <;> simp [hn, hc, h]

theorem treeMsgRead_done (hn : n < 4) (ht : takenUp (ciTreeMsgRead n) q s = true) :
    Done (.treeMsgRead q n) (ciTreeMsgRead n) q [n] s (s.setFrame n (fun f => { f with msgs := f.msgs.drop 16 }))
      (formR (((s.frame n).msgs.take 16).map (fun m => (0, words (msgBytes m.bcast m.tid m.epoch m.type m.body.length m.body ++
        toBytes 4 (crc32c (msgBytes m.bcast m.tid m.epoch m.type m.body.length m.body))))))) :=
  next_congr (single_accepted _ _ ht rfl (want_port hn))

end

/-- Settles O15, one row of the table after the other. -/
theorem treeCommandsComplete : Obligations.TreeCommandsComplete := by
  refine ⟨fun q n s hn ht => ⟨fun hl => ⟨fun h => ?_, fun h0 hc hs => ?_, fun h1 h2 => ?_⟩,
      fun w hl => treeJoin_rejected ht (joinState_of_lost hn hl)⟩,
    fun q n s hn ht => ⟨fun h => (treeLeave_done hn ht).trans (by rw [if_pos h]),
      fun h => (treeLeave_done hn ht).trans (by rw [if_neg h])⟩,
    fun q es s ht hp => ⟨treeConfig_done ht hp, fun n => treeConfig_rejected ht⟩,
    fun n op b s => ⟨hostDarkChanged_of_set, hostDarkChanged_of_cleared, hostDarkChanged_of_same⟩,
    fun q n on s hn ht => treeDark_done hn ht on,
    fun q n s hn ht => ⟨treeDoze_done hn ht, treeDoze_rejected hn ht⟩, fun q n s hn ht => ⟨treeWake_done hn ht, treeWake_rejected hn ht⟩,
    fun q n causes s hn hc ht => ⟨treeGuardRelease_done hn hc ht, treeGuardRelease_rejected hn hc ht⟩,
    fun q n s hn ht => treeMsgRead_done hn ht⟩
  · refine treeJoin_done (dill := false) hn ht hl (h.elim .inr fun h => .inl h.1) ?_
    rcases h with h | ⟨h0, h | h⟩
    · simp [h, tsDeposed, tsOffline]
    · simp [h]
    · simp [State.isSet, h]
  · exact treeJoin_done (dill := true) hn ht hl (.inl h0) (by simp [State.isSet, h0, hc, hs])
  · exact treeJoin_rejected ht ((joinState_of_found hn hl).trans (if_neg (not_or.2 ⟨h1, h2⟩)))

end Sys2Proof.Machine

/-! ## The terminal's state and its timers (`03_tree_membership.md` R80 to R82, R87, R89, R96, R98, R100) -/

namespace Sys2Proof.Machine

open Sys2Proof

/-- What a change keeps, the change made on a condition keeps. -/
theorem State.when_keep {α : Type} {p : State → α} {f : State → State} (hf : ∀ t, p (f t) = p t) (s : State) (c : Bool) :
    p (s.when c f) = p s := by
  cases c
  · rfl
  · exact hf s

/-- A timer that has just started started now. -/
theorem State.start_timer_self (s : State) (k : Timer) : (s.start k).timer k = some s.now := by
  simp [State.start, State.timer]

theorem State.expired_of_timer {s : State} {k : Timer} {a : Nat} (h : s.timer k = some a) (limit : Nat) :
    s.expired k limit = decide (a + limit ≤ s.now) := by
  unfold State.expired
  rw [h]

theorem State.expired_of_stopped {s : State} {k : Timer} (h : s.timer k = none) (limit : Nat) : s.expired k limit = false := by
  unfold State.expired
  rw [h]

/-! ### A change of terminal state (R81, Table 3.11) -/

section
variable {n new cause a b : Nat} {f : Fld} {s : State}

/-- Beside STATE, PREV_STATE and its event, a change of terminal state writes SILENT_MS, timers and the terminal only. -/
theorem setTree_keep {α : Type} {p : State → α} (hterm : ∀ t g, p (t.setTerm n g) = p t) (hstop : ∀ t k, p (t.stop k) = p t)
    (hms : ∀ t, p (t.set .LINE_TREE_STATE_SILENT_MS 0 n) = p t) : p (setTree n new cause s) =
      p (((s.set .LINE_TREE_STATE_PREV_STATE (s.tree n) n).set .LINE_TREE_STATE_STATE new n).raise 0x0501
        [n, new + s.tree n * 16, cause]) := by
  have hsilence : ∀ t, p (silenceStop n t) = p t := fun t => (hms _).trans (hterm _ _)
  have hwait : ∀ t, p (endWait n t) = p t := fun t => (hterm _ _).trans (hstop _ _)
  unfold setTree
  dsimp only
  rw [State.when_keep fun t => hterm t _, State.when_keep hwait, State.when_keep fun t => hstop t _, State.when_keep fun t => hterm t _,
    State.when_keep hsilence]

theorem setTree_tree (h : new < 16) : (setTree n new cause s).tree n = new :=
  (setTree_keep (p := (·.tree n)) (fun _ _ => rfl) (fun _ _ => rfl) fun _ => State.set_get _ (by decide) ..).trans
    ((State.get_set_self ..).trans (Nat.mod_eq_of_lt h))

theorem setTree_prevState (h : s.tree n < 16) : (setTree n new cause s).get .LINE_TREE_STATE_PREV_STATE n = s.tree n :=
  (setTree_keep (p := (·.get .LINE_TREE_STATE_PREV_STATE n)) (fun _ _ => rfl) (fun _ _ => rfl) fun _ => State.set_get _ (by decide) ..).trans
    ((State.set_get _ (by decide) ..).trans ((State.get_set_self ..).trans (Nat.mod_eq_of_lt h)))

theorem setTree_raised : (setTree n new cause s).raised = s.raised ++ [⟨0x0501, [n, new + s.tree n * 16, cause], []⟩] :=
  setTree_keep (p := State.raised) (fun _ _ => rfl) (fun _ _ => rfl) fun _ => rfl

theorem setTree_get (h1 : f ≠ .LINE_TREE_STATE_STATE) (h2 : f ≠ .LINE_TREE_STATE_PREV_STATE) (h3 : f ≠ .LINE_TREE_STATE_SILENT_MS) :
    (setTree n new cause s).get f a b = s.get f a b :=
  (setTree_keep (p := (·.get f a b)) (fun _ _ => rfl) (fun _ _ => rfl) fun _ => State.set_get _ h3 ..).trans
    ((State.set_get _ h1 ..).trans (State.set_get _ h2 ..))

theorem setTree_now : (setTree n new cause s).now = s.now :=
  setTree_keep (p := State.now) (fun _ _ => rfl) (fun _ _ => rfl) fun _ => rfl

end

/-- Settles O14: what a change of terminal state writes, and what it keeps. -/
theorem terminalStateChangeIsReported : Obligations.TerminalStateChangeIsReported := fun _ _ _ _ hnew hold =>
  ⟨setTree_tree hnew, setTree_prevState hold, setTree_raised, fun _ _ _ h1 h2 h3 => setTree_get h1 h2 h3,
    setTree_keep (p := State.ctrs) (fun _ _ => rfl) (fun _ _ => rfl) fun _ => rfl,
    setTree_keep (p := State.lines) (fun _ _ => rfl) (fun _ _ => rfl) fun _ => rfl,
    setTree_keep (p := State.frames) (fun _ _ => rfl) (fun _ _ => rfl) fun _ => rfl⟩

/-! ### What each timer does at its time (R80, R82, R87, R89, R96, R98, R100) -/

/-- The end of a ranging that ran out of time (R89): LISTEN without an identity, event RANGING_TIMEOUT, and an outage before it ends. -/
def rangingTimedOut (n : Nat) (s : State) : State :=
  let u := (setTree n tsListen 0 (clearIdentity n s)).raise 0x0507 [n]
  if (s.term n).afterOutage then outageEnd n (s.term n).outageMs 2 u else u

section
variable {n a b : Nat} {s : State}

theorem effRangingTimeout_of_running
    (h : s.tree n ≠ tsRanging ∨ s.expired (.ranging n) (s.get .LINE_TREE_TIMERS_RANGING_TIMEOUT n * 10 * uMs) = false) :
    effRangingTimeout n s = s :=
  if_neg fun ⟨hr, hu⟩ => h.elim (· hr) fun h => Bool.false_ne_true (h.symm.trans hu)

theorem effRangingTimeout_of_expired (hr : s.tree n = tsRanging)
    (hu : s.expired (.ranging n) (s.get .LINE_TREE_TIMERS_RANGING_TIMEOUT n * 10 * uMs) = true) :
    effRangingTimeout n s = rangingTimedOut n s := if_pos ⟨hr, hu⟩

theorem rangingTimedOut_of_registration (h : (s.term n).afterOutage = false) :
    rangingTimedOut n s = (setTree n tsListen 0 (clearIdentity n s)).raise 0x0507 [n] := if_neg (ne_true_of_eq_false h)

theorem rangingTimedOut_of_outage (h : (s.term n).afterOutage = true) : rangingTimedOut n s =
    outageEnd n (s.term n).outageMs 2 ((setTree n tsListen 0 (clearIdentity n s)).raise 0x0507 [n]) := if_pos h

theorem effReregLimitExpiry_of_idle
    (h : (s.tree n ≠ tsHoldover ∧ s.tree n ≠ tsDark) ∨ (s.term n).silentSince = none) : effReregLimitExpiry n s = s := by
  refine if_neg fun ⟨hs, hsince, _⟩ => ?_
  rcases h with ⟨h6, h8⟩ | h
  · exact hs.elim h6 h8
  · simp [h] at hsince

theorem effReregLimitExpiry_of_silent (hs : s.tree n = tsHoldover ∨ s.tree n = tsDark) (ha : (s.term n).silentSince = some a) :
    effReregLimitExpiry n s = if s.get .LINE_TREE_TIMERS_REREG_LIMIT n * 100 ≤ (s.now - a) / uMs then
      outageEnd n ((s.now - a) / uMs) 2 (setTree n tsListen 0 (clearIdentity n s)) else s := by
  have hms : silentMs n s = (s.now - a) / uMs := by
    unfold silentMs
    rw [ha]
  unfold effReregLimitExpiry
  rw [hms]
  exact if_congr (by simp [hs, ha]) rfl rfl

theorem effReturnEntryTimeout_of_waiting (h : (s.term n).awaiting = false ∨ s.expired (.returnEntry n) (16 * uSf) = false) :
    effReturnEntryTimeout n s = s :=
  if_neg fun ⟨hw, hu⟩ => h.elim (fun h => Bool.false_ne_true (h.symm.trans hw)) fun h => Bool.false_ne_true (h.symm.trans hu)

theorem effAssignWaitExpiry_of_waiting
    (h : s.tree n ≠ tsCandidate ∨ s.expired (.assignWait n) (s.get .LINE_TREE_TIMERS_ASSIGN_WAIT n * uSf) = false) :
    effAssignWaitExpiry n b s = s :=
  if_neg fun ⟨hc, hu⟩ => h.elim (· hc) fun h => Bool.false_ne_true (h.symm.trans hu)

theorem effDozeMissed_of_waiting (h : s.tree n ≠ tsDozing ∨ (s.term n).dozeMissed = true ∨
    s.expired (.checkin n) (4 * s.get .LINE_TREE_DOZE_PERIOD n * uSf) = false) : effDozeMissed n s = s := by
  refine if_neg fun ⟨hd, hm, hu⟩ => ?_
  rcases h with h | h | h
  · exact h hd
  · simp [h] at hm
  · exact Bool.false_ne_true (h.symm.trans hu)

theorem effDozeMissed_of_expired (hd : s.tree n = tsDozing) (hm : (s.term n).dozeMissed = false) (ha : s.timer (.checkin n) = some a)
    (hle : a + 4 * s.get .LINE_TREE_DOZE_PERIOD n * uSf ≤ s.now) : effDozeMissed n s =
      ((s.setTerm n (fun t => { t with dozeMissed := true })).inc .LP_DOZE_CHECKIN_MISSED n).raise 0x0508 [n, (s.now - a) / uSf] := by
  unfold effDozeMissed
  rw [if_pos ⟨hd, by simp [hm], (State.expired_of_timer ha _).trans (decide_eq_true hle)⟩, ha]
  rfl

end

/-- Settles O18, one timer after the other. -/
theorem terminalTimersComplete : Obligations.TerminalTimersComplete := by
  refine ⟨fun n s u hu => ?_, fun n s => ⟨fun h => next_congr (effReregLimitExpiry_of_idle h), fun a hs ha => ?_⟩,
    fun n s => ⟨fun h => next_congr (effReturnEntryTimeout_of_waiting h), fun hw hu => next_congr (if_pos ⟨hw, hu⟩)⟩,
    fun n b s u hu => ?_,
    fun n s => ⟨fun h => next_congr (if_neg (ne_true_of_eq_false h)), fun h => next_congr (if_pos h)⟩,
    fun n a s => ⟨fun h => next_congr (effDozeMissed_of_waiting ?_), fun ha hlt => next_congr (effDozeMissed_of_waiting (.inr (.inr ?_))),
      fun hd hm ha hle => next_congr (effDozeMissed_of_expired hd hm ha hle)⟩,
    fun n s => ⟨fun hh hc hu => next_congr (if_pos ⟨hh, by simp [hc], hu⟩), fun h => next_congr (if_neg fun ⟨hh, hc, hu⟩ => ?_)⟩⟩
  · subst hu
    exact ⟨fun h => next_congr (effRangingTimeout_of_running h),
      fun hr hu ho => next_congr ((effRangingTimeout_of_expired hr hu).trans (rangingTimedOut_of_registration ho)),
      fun hr hu ho => next_congr ((effRangingTimeout_of_expired hr hu).trans (rangingTimedOut_of_outage ho))⟩
  · have hx := effReregLimitExpiry_of_silent hs ha
    exact ⟨fun hle => next_congr (hx.trans (if_pos hle)), fun hlt => next_congr (hx.trans (if_neg (Nat.not_le_of_lt hlt)))⟩
  · subst hu
    exact ⟨fun h => next_congr (effAssignWaitExpiry_of_waiting h), fun hc hu => next_congr (if_pos ⟨hc, hu⟩)⟩
  · exact h.imp_right (Or.imp_right fun h => State.expired_of_stopped h _)
  · exact (State.expired_of_timer ha _).trans (decide_eq_false (Nat.not_le_of_lt hlt))
  · rcases h with h | h | h
    · exact h hh
    · simp [h] at hc
    · exact Bool.false_ne_true (h.symm.trans hu)

/-! ### The ranging timer's run (R89) -/

section
variable {n cause : Nat} {a : FieldAt} {m : TreeMsg} {s : State}

theorem toRanging_tree : (toRanging n cause s).tree n = tsRanging := setTree_tree (by decide)

theorem toRanging_timer : (toRanging n cause s).timer (.ranging n) = some s.now :=
  (State.start_timer_self _ _).trans (congrArg some setTree_now)

/-- A sound RANGE without COMPLETE met in RANGING starts the ranging timer again, and RANGING goes on. -/
theorem range_restarts (hg : goodMessage a (· == 3) m s) (hb : m.bcast = false) (hbl : m.blen = 13) (hs : s.tree a.port = tsRanging)
    (hc : bit (field m.body 12 1) 0 = false) :
    ∃ t, Next (.range a) s t ∧ t.timer (.ranging a.port) = some s.now ∧ t.tree a.port = tsRanging := by
  rcases hap : applyFrom a.port (field m.body 8 4 % 2 ^ 25) s with ⟨ap, late⟩
  have hx := effRange_of_fitting hg hb hbl (.inl hs) rfl hap rfl rfl rfl
  have hkeep : ∀ {α : Type} (p : State → α), (∀ t c i, p (State.inc t c i) = p t) → p (s.when late (·.inc .LP_RANGE_LATE a.port)) = p s :=
    fun p hp => State.when_keep (fun t => hp t _ _) s late
  have htree := (hkeep (·.tree a.port) fun _ _ _ => rfl).trans hs
  refine ⟨_, next_congr (hx.trans ((if_neg (not_not_intro htree)).trans (if_neg (ne_true_of_eq_false hc)))), ?_, htree⟩
  exact (State.start_timer_self _ _).trans (congrArg some (hkeep State.now fun _ _ _ => rfl))

end

/-- Settles O60: the ranging timer starts, starts again, and ends the state at its time. -/
theorem rangingTimerRuns : Obligations.RangingTimerRuns := by
  refine ⟨fun n cause s _ => ⟨toRanging_tree, toRanging_timer⟩, fun a m s hg hb hbl hs hc => range_restarts hg hb hbl hs hc,
    fun n at_ s hs ht => ?_⟩
  have hu := State.expired_of_timer ht (s.get .LINE_TREE_TIMERS_RANGING_TIMEOUT n * 10 * uMs)
  obtain ⟨hrun, hreg, hout⟩ := terminalTimersComplete.1 n s _ rfl
  exact ⟨fun hle => hreg hs (hu.trans (decide_eq_true hle)), fun hle => hout hs (hu.trans (decide_eq_true hle)),
    fun hlt => hrun (.inr (hu.trans (decide_eq_false (Nat.not_le_of_lt hlt))))⟩

end Sys2Proof.Machine

/-! ## Bay, the burst guard (`03_tree_membership.md` R102, R103; `19_characteristics.md` R457) -/

namespace Sys2Proof.Machine

open Sys2Proof

section
variable {n k a : Nat} {s : State}

theorem bayTripOn_of_latched (h : bit (s.get .LINE_BAY_LATCHED n) k = true) : bayTripOn n k s = s := if_pos h

theorem bayTripOn_of_unlatched (h : bit (s.get .LINE_BAY_LATCHED n) k = false) : bayTripOn n k s =
    darkArises n 0x0503 (((txDark n (cutOff n false ((s.set .LINE_BAY_LATCHED (withBit (s.get .LINE_BAY_LATCHED n) k true) n).set
      .LINE_BAY_TRIPPED 1 n))).inc .LP_BAY_TRIPS n).raise 0x0503 [n, k]) := if_neg (ne_true_of_eq_false h)

theorem effBaySyncTrip_of_sync (h : (s.term n).lossAt = none) : effBaySyncTrip n s = s := by
  unfold effBaySyncTrip
  rw [h]

theorem effBaySyncTrip_of_loss (h : (s.term n).lossAt = some a) : effBaySyncTrip n s =
    if a + 80 * uNs ≤ s.now then bayTripOn n 2 (s.setTerm n (fun t => { t with lossAt := none })) else s := by
  unfold effBaySyncTrip
  rw [h]

/-- The level of TX_DISABLE is no part of what the cause's condition was. -/
theorem bayPresent_of_pin (present : Bool) (v : Nat) : bayPresent n k present (s.set .LINE_BAY_TX_DISABLE_PIN v n) =
    (s.set .LINE_BAY_TX_DISABLE_PIN v n).set .LINE_BAY_PRESENT (withBit (s.get .LINE_BAY_PRESENT n) k present) n := by
  unfold bayPresent
  rw [State.set_get _ (by decide)]

end

/-- Settles O19, one row of the table after the other. -/
theorem bayTripsAndReleases : Obligations.BayTripsAndReleases := by
  refine ⟨fun n duty s => ⟨fun h => next_congr (bayTripOn_of_latched h), fun h => next_congr (bayTripOn_of_unlatched h)⟩,
    fun n s => ⟨fun h => next_congr (effBaySyncTrip_of_sync h), fun a ha => ?_⟩,
    fun n s => ⟨fun h => next_congr (if_neg (ne_true_of_eq_false h)), fun h => next_congr (if_pos h)⟩,
    fun n s => ⟨next_congr (congrArg (bayTripOn n 4) (bayPresent_of_pin true 0)), next_congr (bayPresent_of_pin false 1)⟩⟩
  have hx := effBaySyncTrip_of_loss ha
  exact ⟨fun hlt => next_congr (hx.trans (if_neg (Nat.not_le_of_lt hlt))), fun hle => next_congr (hx.trans (if_pos hle))⟩

/-! ### The release (R80, R82, R103) -/

section
variable {n causes cause a b : Nat} {f : Fld} {s : State}

/-- The return rule changes no register but the terminal's state, its last one and the silence clock. -/
theorem returnRule_get (h1 : f ≠ .LINE_TREE_STATE_STATE) (h2 : f ≠ .LINE_TREE_STATE_PREV_STATE) (h3 : f ≠ .LINE_TREE_STATE_SILENT_MS) :
    (returnRule n cause s).get f a b = s.get f a b := by
  unfold returnRule toRanging
  dsimp only
  split
  · split
    · rfl
    · exact setTree_get h1 h2 h3
  · split
    · rfl
    · split
      · exact setTree_get h1 h2 h3
      · rfl

theorem darkMayEnd_get (h1 : f ≠ .LINE_TREE_STATE_STATE) (h2 : f ≠ .LINE_TREE_STATE_PREV_STATE) (h3 : f ≠ .LINE_TREE_STATE_SILENT_MS) :
    (darkMayEnd n cause s).get f a b = s.get f a b := by
  unfold darkMayEnd
  split
  · exact returnRule_get h1 h2 h3
  · rfl

/-- A release leaves the causes it does not name latched. -/
theorem bayRelease_latched (hl : s.get .LINE_BAY_LATCHED n < 32) :
    (bayRelease n causes cause s).get .LINE_BAY_LATCHED n = s.get .LINE_BAY_LATCHED n &&& (31 - causes % 32) := by
  refine (darkMayEnd_get (by decide) (by decide) (by decide)).trans ?_
  refine (State.set_get _ (by decide) ..).trans ((State.get_set_self ..).trans (Nat.mod_eq_of_lt ?_))
  exact Nat.lt_of_le_of_lt Nat.and_le_left hl

/-- After a release Bay is tripped exactly while a cause is latched. -/
theorem bayRelease_tripped (hl : s.get .LINE_BAY_LATCHED n < 32) : (bayRelease n causes cause s).get .LINE_BAY_TRIPPED n = 1 ↔
    (bayRelease n causes cause s).get .LINE_BAY_LATCHED n ≠ 0 := by
  rw [bayRelease_latched hl]
  generalize hleft : s.get .LINE_BAY_LATCHED n &&& (31 - causes % 32) = left
  have ht : (bayRelease n causes cause s).get .LINE_BAY_TRIPPED n = b2n (left != 0) % 2 :=
    hleft ▸ (darkMayEnd_get (by decide) (by decide) (by decide)).trans (State.get_set_self ..)
  rw [ht]
  by_cases h : left = 0 <;> simp [h, b2n]

/-- What the control subcarrier's SYNC leaves before a cause is released: Bay's condition SYNC is clear (R103). -/
def syncReached (n : Nat) (s : State) : State :=
  ((bayPresent n 2 false (s.setTerm n (fun t => { t with lossAt := none }))).stop (.lightBack n)).setLine n
    (fun l => { l with blind := false })

theorem syncReached_get (h : f ≠ .LINE_BAY_PRESENT) : (syncReached n s).get f a b = s.get f a b := State.set_get _ h ..

theorem controlSynced_get (h1 : f ≠ .LINE_TREE_STATE_STATE) (h2 : f ≠ .LINE_TREE_STATE_PREV_STATE)
    (h3 : f ≠ .LINE_TREE_STATE_SILENT_MS) : (controlSynced n cause s).get f a b =
      ((syncReached n s).when ((syncReached n s).isSet .LINE_TREE_CFG_AUTO_RELEASE_SYNC n &&
        bit ((syncReached n s).get .LINE_BAY_LATCHED n) 2) (bayRelease n 4 cause)).get f a b := by
  unfold controlSynced
  dsimp only
  split
  · exact returnRule_get h1 h2 h3
  · split
    · exact returnRule_get h1 h2 h3
    · rfl

/-- Only AUTO_RELEASE_SYNC releases a latched cause SYNC as the control subcarrier reaches SYNC. -/
theorem controlSynced_latched (hl : s.get .LINE_BAY_LATCHED n < 32) (hb : bit (s.get .LINE_BAY_LATCHED n) 2 = true) :
    (controlSynced n cause s).get .LINE_BAY_LATCHED n = if s.get .LINE_TREE_CFG_AUTO_RELEASE_SYNC n = 1 then
      s.get .LINE_BAY_LATCHED n &&& 27 else s.get .LINE_BAY_LATCHED n := by
  have hlatch : (syncReached n s).get .LINE_BAY_LATCHED n = s.get .LINE_BAY_LATCHED n := syncReached_get (by decide)
  rw [controlSynced_get (by decide) (by decide) (by decide), State.isSet, syncReached_get (by decide), hlatch, hb, Bool.and_true]
  split
  next ha => rw [State.when_of_true (beq_iff_eq.2 ha), bayRelease_latched (hlatch.symm ▸ hl), hlatch]
  next ha => rw [State.when_of_false (beq_eq_false_iff_ne.2 ha), hlatch]

end

/-- Settles O59: what TREE_GUARD_RELEASE and Bay's own release of SYNC leave latched. -/
theorem guardReleaseIsAllOrNothing : Obligations.GuardReleaseIsAllOrNothing := by
  refine ⟨fun q n causes s t hn hc ht hl h => ⟨fun ⟨hlatched, hclear⟩ => ?_, fun hnot => ?_⟩,
    fun n cause s _ hl hb => ⟨fun ha => (controlSynced_latched hl hb).trans (if_pos ha),
      fun ha => (controlSynced_latched hl hb).trans (if_neg ha)⟩⟩
  · subst h
    exact ⟨treeGuardRelease_done hn hc ht hlatched hclear, by rw [bayRelease_latched hl, Nat.mod_eq_of_lt hc], bayRelease_tripped hl⟩
  · exact treeGuardRelease_rejected hn hc ht (not_and_or.1 hnot)

end Sys2Proof.Machine

/-! ## The power manager's events: supplies, resets, DVFS, clocks (`14_boot_store.md` R364; `15_power.md` R367 to R374, R383;
`16_faults.md` R388, R404; `18_package.md` R432, R435, R436) -/

namespace Sys2Proof.Machine

open Sys2Proof

/-! ### Supplies and resets (R367, R368, R382, R388, R435, R436) -/

section
variable {a : Nat} {s t : State}

theorem effPowerGood_of_held (h : s.pins.mainEn = false ∨ s.test.tapHold = true) : effPowerGood s = s := if_pos (by simpa using h)

theorem effPowerGood_of_free (ht : t = pinsShow { s with pins := { s.pins with pwrGood := true, sysReset := true } })
    (hm : s.pins.mainEn = true) (hh : s.test.tapHold = false) : effPowerGood s =
      if t.get .SYS_BOOT_PHASE ≠ 0 then t else bootBegin (t.setPower (fun w => { w with mainSince := 0 })) := by
  subst ht
  exact if_neg (by simp [hm, hh])

theorem effRailTimeout_of_due (h : s.power.mainSince = a + 1) (hm : s.pins.mainEn = true) (hle : a + 100 * uMs ≤ s.now) :
    effRailTimeout s = (reachOff (({ s with pins := { s.pins with mainEn := false } }.emit (.rail 0 false)).setPower
      (fun w => { w with railLatched := true, request := none }))).inc .PWR_RAIL_TIMEOUT :=
  if_pos ⟨by simp [h], hm, by rwa [h, Nat.add_sub_cancel]⟩

theorem effRailTimeout_of_waiting (h : s.power.mainSince = 0 ∨ s.pins.mainEn = false ∨ s.now < s.power.mainSince - 1 + 100 * uMs) :
    effRailTimeout s = s := by
  refine if_neg fun ⟨h0, hm, hle⟩ => ?_
  rcases h with h | h | h
  · exact h0 h
  · exact Bool.false_ne_true (h.symm.trans hm)
  · exact Nat.not_le_of_lt h hle

theorem effPwrGoodFall_of_low (h : s.pins.pwrGood = false) : effPwrGoodFall s = s := if_pos (by simp [h])

theorem effPwrGoodFall_of_high (ht : t = pinsShow { s with pins := { s.pins with pwrGood := false } }) (h : s.pins.pwrGood = true) :
    effPwrGoodFall s = if t.pins.mainEn = true ∧ t.pins.sysReset = true ∧ t.get .SYS_BOOT_PHASE ≠ 0 then
      resumeNext (report (mkSource 31 10 7) 0 [] t) else t := by
  subst ht
  exact if_neg (by simp [h])

theorem effSysResetAssert_eq (ht : t = { s with pins := { s.pins with sysReset := false } }) : effSysResetAssert s =
    if s.get .PWR_STATE_STATE = 0 ∨ (s.get .PWR_STATE_STATE = 6 ∧ 7 ≤ s.get .PWR_STATE_PHASE) then t
    else (deviceReset (t.setPower (fun w => { w with restart := 0 }))).setPower
      (fun w => { w with mainSince := min s.power.mainSince 1 }) := by
  subst ht
  rfl

end

/-! ### PFAIL_N (R364, R383, R404) -/

section
variable {s t u v : State}

theorem effPfailAssert_of_kept (ht : t = pinsShow { s with pins := { s.pins with pfail := false } })
    (h : s.pins.pfail = false ∨ t.get .PWR_STATE_STATE = 0 ∨ storeOpen t = false) : effPfailAssert s = t := by
  subst ht
  exact if_pos (by simpa using h)

theorem effPfailAssert_of_open (ht : t = pinsShow { s with pins := { s.pins with pfail := false } }) (hu : u = recordAll t)
    (hv : v = journalClose (tailFlush (u.raise 0x0E08 [u.get .EVT_STATUS_BUFFERED]))) (hp : s.pins.pfail = true)
    (h0 : t.get .PWR_STATE_STATE ≠ 0) (ho : storeOpen t = true) : effPfailAssert s =
      ((erasing v).foldl (fun x o => x.emit (.nand o.dev 3 (o.page / 64) o.page [])) v).set .STORE_STATUS_PFAIL_HOLD 1 := by
  subst ht hu hv
  exact if_neg (by simp [hp, h0, ho])

theorem effPfailRelease_eq (ht : t = pinsShow { s with pins := { s.pins with pfail := true } })
    (hu : u = t.set .STORE_STATUS_PFAIL_HOLD 0) : effPfailRelease s =
      if storeHeld t = true then
        takeRequest (evtStart 16 ((erasing u).foldl (fun x o => x.emit (.nand o.dev 2 (o.page / 64) o.page [])) u))
      else takeRequest t := by
  subst ht hu
  rfl

end

/-! ### DVFS (R369, R371 to R373) -/

/-- Automatic DVFS runs (R373): in ACTIVE, outside FRUGAL and outside a transition. -/
def dvfsAutomatic (s : State) : Prop :=
  s.get .PWR_DVFS_REQUEST = 15 ∧ s.mode ≠ 4 ∧ s.get .PWR_DVFS_TRANSITION ≠ 1 ∧ s.get .PWR_STATE_STATE = 2

/-- A READ_VOUT counts for the raise (R371): it is unconfirmed, the bus is in order, and 50 µs have passed since the last one. -/
def raisePolls (s : State) : Prop :=
  s.get .PWR_DVFS_TRANSITION = 1 ∧ s.get .PWR_PMBUS_BUS_OK = 1 ∧ s.power.confirmedAt = 0 ∧ s.power.pollAt + 50 * uUs ≤ s.now

section
variable {load mv status target p : Nat} {s t u : State}

theorem effDvfsLoadWindow_of_fixed (h : ¬ dvfsAutomatic s) : effDvfsLoadWindow load s = s := by
  simp only [dvfsAutomatic, not_and_or, not_not] at h
  exact if_pos (by simpa [State.isSet] using h)

theorem effDvfsLoadWindow_of_automatic (h : dvfsAutomatic s)
    (htarget : target = ([3, 2, 1, 0].find? (fun p => decide (5 * load ≤ 4 * pointCapacity p))).getD 0)
    (ht : t = s.setPower (fun w => { w with loadAt := s.now })) : effDvfsLoadWindow load s =
      if 9 * pointCapacity (s.get .PWR_DVFS_POINT) < 10 * load then
        if target < s.get .PWR_DVFS_POINT then startDvfs target s else s
      else if s.power.loadAt + 10 * uMs ≤ s.now then t.when (decide (s.get .PWR_DVFS_POINT < target)) (startDvfs target)
      else s := by
  subst htarget ht
  obtain ⟨hr, hm, htr, hst⟩ := h
  exact if_neg (by simp [State.isSet, hr, hm, htr, hst])

theorem effVoutPoll_of_unpolled (ht : t = s.set .PWR_RAIL_VOLTAGE mv 0) (h : ¬ raisePolls s) : effVoutPoll mv status s = t := by
  subst ht
  simp only [raisePolls, not_and_or, not_le] at h
  exact if_pos (by simpa [State.isSet] using h)

theorem effVoutPoll_of_polled (ht : t = s.set .PWR_RAIL_VOLTAGE mv 0) (htarget : target = pointMv (s.get .PWR_DVFS_TARGET))
    (hu : u = pmbusSend (s.get .PWR_PMBUS_VCORE_ADDR) 0x8B 0 t) (h : raisePolls s) : effVoutPoll mv status s =
      (u.when (decide (target ≤ mv + 10 ∧ mv ≤ target + 10)) (pmbusSend (s.get .PWR_PMBUS_VCORE_ADDR) 0x79 0)).setPower (fun w =>
        { w with pollAt := s.now, lastMv := mv,
                 confirmedAt := if decide (target ≤ mv + 10 ∧ mv ≤ target + 10) && status == 0 then s.now + 1 else 0 }) := by
  subst ht htarget hu
  obtain ⟨htr, hb, hc, hle⟩ := h
  unfold effVoutPoll
  dsimp only
  rw [if_neg (by simp [State.isSet, htr, hb, hc, hle])]
  simp only [ne_eq, reduceCtorEq, not_false_eq_true, State.set_get, State.set_now]

theorem finishRaise_of_none (h : s.get .PWR_DVFS_TRANSITION ≠ 1) : finishRaise s = s :=
  (if_neg (by simp [State.isSet, h])).trans (if_neg (by simp [State.isSet, h]))

theorem finishRaise_of_bus_out (h : s.get .PWR_DVFS_TRANSITION = 1) (hb : s.get .PWR_PMBUS_BUS_OK ≠ 1) : finishRaise s = endTransition s :=
  if_pos (by simp [State.isSet, h, hb])

theorem finishRaise_of_bus_ok (h : s.get .PWR_DVFS_TRANSITION = 1) (hb : s.get .PWR_PMBUS_BUS_OK = 1) : finishRaise s =
    if s.power.confirmedAt ≠ 0 ∧ s.power.confirmedAt - 1 + s.get .PWR_PMBUS_SETTLE_US * uUs ≤ s.now ∧ s.get .PWR_DVFS_THROTTLED ≠ 1 then
      endTransition (switchPoint (s.get .PWR_DVFS_TARGET) s) else s :=
  (if_neg (by simp [State.isSet, hb])).trans (if_congr (by simp [State.isSet, h]) rfl rfl)

theorem effDvfsFail_of_due (h : s.get .PWR_DVFS_TRANSITION = 1) (hc : s.power.confirmedAt = 0) (hle : s.power.raiseAt + uMs ≤ s.now) :
    effDvfsFail s = endTransition (voutCommand (s.get .PWR_DVFS_POINT) (s.raise 0x0204 [s.get .PWR_DVFS_TARGET, s.power.lastMv])) :=
  if_pos ⟨State.isSet_iff.2 h, hc, hle⟩

theorem effDvfsFail_of_waiting (h : s.get .PWR_DVFS_TRANSITION ≠ 1 ∨ s.power.confirmedAt ≠ 0 ∨ s.now < s.power.raiseAt + uMs) :
    effDvfsFail s = s := by
  refine if_neg fun ⟨htr, hc, hle⟩ => ?_
  rcases h with h | h | h
  · exact h (State.isSet_iff.1 htr)
  · exact h hc
  · exact Nat.not_le_of_lt h hle

/-! ### The throttle (R372) -/

theorem effVcoreDroop_of_floor (h : floorMv (s.get .PWR_DVFS_POINT) ≤ mv) : effVcoreDroop mv s = s := if_pos h

theorem effVcoreDroop_of_first (hp : p = ([0, 1, 2].find? (fun p => decide (floorMv p ≤ mv))).getD 3)
    (h : mv < floorMv (s.get .PWR_DVFS_POINT)) (hth : s.get .PWR_DVFS_THROTTLED ≠ 1) : effVcoreDroop mv s =
      (((s.set .PWR_DVFS_THROTTLED 1).setPower (fun w => { w with throttlePoint := p, throttleAt := s.now })).inc .PWR_THROTTLES).raise
        0x0205 [mv, p] := by
  subst hp
  unfold effVcoreDroop
  dsimp only
  rw [if_neg (Nat.not_le_of_lt h), State.isSet_eq_false_iff.2 hth]
  simp

theorem effVcoreDroop_of_further (hp : p = ([0, 1, 2].find? (fun p => decide (floorMv p ≤ mv))).getD 3)
    (h : mv < floorMv (s.get .PWR_DVFS_POINT)) (hth : s.get .PWR_DVFS_THROTTLED = 1) : effVcoreDroop mv s =
      (s.set .PWR_DVFS_THROTTLED 1).setPower (fun w => { w with throttlePoint := max p w.throttlePoint, throttleAt := s.now }) := by
  subst hp
  unfold effVcoreDroop
  dsimp only
  rw [if_neg (Nat.not_le_of_lt h), State.isSet_iff.2 hth]
  rfl

theorem effThrottleEnd_of_due (h : s.get .PWR_DVFS_THROTTLED = 1) (hle : s.power.throttleAt + 100 * uUs ≤ s.now) :
    effThrottleEnd s = finishRaise ((s.set .PWR_DVFS_THROTTLED 0).setPower (fun w => { w with throttlePoint := 0 })) :=
  if_pos ⟨State.isSet_iff.2 h, hle⟩

theorem effThrottleEnd_of_waiting (h : s.get .PWR_DVFS_THROTTLED ≠ 1 ∨ s.now < s.power.throttleAt + 100 * uUs) : effThrottleEnd s = s :=
  if_neg fun ⟨hth, hle⟩ => h.elim (· (State.isSet_iff.1 hth)) fun h => Nat.not_le_of_lt h hle

theorem effPmbAlert_of_bus_out (h : s.get .PWR_PMBUS_BUS_OK ≠ 1) : effPmbAlert s = s := if_neg (mt State.isSet_iff.1 h)

theorem effPmbAlert_of_bus_ok (h : s.get .PWR_PMBUS_BUS_OK = 1) : effPmbAlert s =
    (s.get .PWR_PMBUS_VCORE_ADDR :: ((List.range 9).map (fun r => s.get .PWR_RAIL_ADDR (r + 1))).filter (· ≠ 0)).foldl
      (fun t a => pmbusSend a 0x79 0 t) s := if_pos (State.isSet_iff.2 h)

end

/-! ### Clocks (R102, R374, R388) -/

theorem effClockLoss_eq {d : Fin 9} {inst : Fin 4} {i : Nat} {s t u : State}
    (hi : i = if d.val = 2 ∨ d.val = 4 ∨ d.val = 5 then inst.val else 0)
    (ht : t = ((clkShow d i false s).raise 0x0208 [d.val, i]).setPower (fun w =>
      { w with lost := if w.lost.contains (d.val * 4 + i) then w.lost else w.lost ++ [d.val * 4 + i] }))
    (hu : u = if d.val = 3 then (List.range 4).foldl (fun x n => bayTripOn n 3 (bayPresent n 3 true (x.start (.mclkBack n)))) t else t) :
    effClockLoss d inst s = resumeNext (report (mkSource 31 (16 + 4 * d.val + i) 6) 0 [] u) := by
  subst hi ht hu
  exact congrArg (fun x => resumeNext (report _ 0 [] x)) (if_congr decide_eq_true_iff rfl rfl)

/-- Settles O39, one row of the table after the other. -/
theorem supplyAndClockEventsComplete : Obligations.SupplyAndClockEventsComplete := by
  refine ⟨fun s t ht => ⟨fun h => next_congr (effPowerGood_of_held h), fun hm hh => ?_⟩,
    fun s => ⟨fun a h hm hle => next_congr (effRailTimeout_of_due h hm hle), fun h => next_congr (effRailTimeout_of_waiting h)⟩,
    fun s t ht => ⟨fun h => next_congr (effPwrGoodFall_of_low h), fun hg => ?_⟩,
    fun straps mfg s => rfl,
    fun s t ht => ⟨fun h => next_congr ((effSysResetAssert_eq ht).trans (if_pos h)), fun h0 h => next_congr
      ((effSysResetAssert_eq ht).trans (if_neg fun hn => hn.elim h0 fun ⟨h6, h7⟩ => h.elim (· h6) (Nat.not_lt_of_le h7)))⟩,
    fun s t u v ht hu hv => ⟨fun h => next_congr (effPfailAssert_of_kept ht h),
      fun hp h0 ho => next_congr (effPfailAssert_of_open ht hu hv hp h0 ho)⟩,
    fun s t u ht hu => ⟨fun h => next_congr ((effPfailRelease_eq ht hu).trans (if_neg (ne_true_of_eq_false h))),
      fun h => next_congr ((effPfailRelease_eq ht hu).trans (if_pos h))⟩,
    fun load s t target may htarget hmay ht => ?_, fun mv status target s t u polls near ht htarget hpolls hnear hu => ?_, fun s => ?_,
    fun mv p s hp => ⟨fun h => next_congr (effVcoreDroop_of_floor h), fun h => ⟨fun hth => next_congr (effVcoreDroop_of_first hp h hth),
      fun hth => next_congr (effVcoreDroop_of_further hp h hth)⟩⟩,
    fun s => ⟨fun h hle => next_congr (effThrottleEnd_of_due h hle), fun h => next_congr (effThrottleEnd_of_waiting h)⟩,
    fun addr code s => rfl,
    fun s => ⟨fun h => next_congr (effPmbAlert_of_bus_out h), fun h => next_congr (effPmbAlert_of_bus_ok h)⟩,
    fun d inst i s t u hi ht hu => next_congr (effClockLoss_eq hi ht hu)⟩
  · have hx := effPowerGood_of_free ht hm hh
    exact ⟨fun h => next_congr (hx.trans (if_pos h)), fun h => next_congr (hx.trans (if_neg (not_not_intro h)))⟩
  · have hx := effPwrGoodFall_of_high ht hg
    refine ⟨fun hm hr h0 => next_congr (hx.trans (if_pos ⟨hm, hr, h0⟩)), fun h => next_congr (hx.trans (if_neg fun ⟨hm, hr, h0⟩ => ?_))⟩
    rcases h with h | h | h
    · exact Bool.false_ne_true (h.symm.trans hm)
    · exact Bool.false_ne_true (h.symm.trans hr)
    · exact h0 h
  · refine ⟨fun h => next_congr (effDvfsLoadWindow_of_fixed (mt hmay.2 h)), fun h hhigh => ?_, fun h hlow => ?_⟩
    · have hx := (effDvfsLoadWindow_of_automatic (hmay.1 h) htarget ht).trans (if_pos hhigh)
      exact ⟨fun hlt => next_congr (hx.trans (if_pos hlt)), fun hle => next_congr (hx.trans (if_neg (Nat.not_lt_of_le hle)))⟩
    · have hx := (effDvfsLoadWindow_of_automatic (hmay.1 h) htarget ht).trans (if_neg (Nat.not_lt_of_le hlow))
      refine ⟨fun hlt => next_congr (hx.trans (if_neg (Nat.not_le_of_lt hlt))), fun hle => ?_⟩
      replace hx := hx.trans (if_pos hle)
      exact ⟨fun hlt => next_congr (hx.trans (State.when_of_true (decide_eq_true hlt))),
        fun hle => next_congr (hx.trans (State.when_of_false (decide_eq_false (Nat.not_lt_of_le hle))))⟩
  · refine ⟨fun h => next_congr (effVoutPoll_of_unpolled ht (mt hpolls.2 h)), fun h hfar => ?_, fun h hn => ?_⟩
    · refine next_congr ((effVoutPoll_of_polled ht htarget hu (hpolls.1 h)).trans ?_)
      rw [decide_eq_false (mt hnear.2 hfar)]
      rfl
    · refine next_congr ((effVoutPoll_of_polled ht htarget hu (hpolls.1 h)).trans ?_)
      rw [decide_eq_true (hnear.1 hn)]
      simp [State.when]
  · refine ⟨rfl, finishRaise_of_none, finishRaise_of_bus_out, fun h hb => ⟨fun c hc hle hth => ?_, fun hno => ?_⟩,
      fun h hc hle => next_congr (effDvfsFail_of_due h hc hle), fun h => next_congr (effDvfsFail_of_waiting h)⟩
    · exact (finishRaise_of_bus_ok h hb).trans (if_pos ⟨by simp [hc], by rwa [hc, Nat.add_sub_cancel], hth⟩)
    · refine (finishRaise_of_bus_ok h hb).trans (if_neg fun ⟨h0, hle, hth⟩ => ?_)
      rcases hno with hno | hno | hno
      · exact h0 hno
      · exact Nat.not_le_of_lt hno hle
      · exact hth hno

end Sys2Proof.Machine

/-! ## A cycle of TCLK on an empty queue (`04_time.md` R111, R129; log entry 19) -/

namespace Sys2Proof.Machine

open Sys2Proof

section
variable {α : Type} {p : State → α}

/-- What every step of a loop keeps, the loop keeps. -/
theorem foldl_keep {β : Type} {f : State → β → State} (hf : ∀ t b, p (f t b) = p t) (l : List β) (s : State) :
    p (l.foldl f s) = p s := by
  induction l generalizing s with
  | nil => rfl
  | cons b l ih => exact (ih _).trans (hf s b)

/-- p looks at no register field but CLK10M_EN, and not at the power manager's record: what follows the clock writes nothing else. -/
structure PassesReadBacks (p : State → α) : Prop where
  set : ∀ (t : State) (f : Fld) (v i j : Nat), f ≠ .TIME_SEL_CLK10M_EN → p (t.set f v i j) = p t
  setPower : ∀ (t : State) (g : PowerState → PowerState), p (t.setPower g) = p t

variable (hp : PassesReadBacks p) (s : State)
include hp

theorem PassesReadBacks.setAll {l : List (Fld × Nat)} (hl : ∀ e ∈ l, e.1 ≠ .TIME_SEL_CLK10M_EN) (i : Nat) : p (s.setAll l i) = p s := by
  unfold State.setAll
  induction l generalizing s with
  | nil => rfl
  | cons e l ih =>
    exact (ih _ fun x hx => hl x (List.mem_cons_of_mem _ hx)).trans (hp.set _ _ _ _ _ (hl e List.mem_cons_self))

theorem PassesReadBacks.refreshTime : p (refreshTime s) = p s := by
  unfold Machine.refreshTime State.setI
  dsimp only
  rw [hp.set _ .TIME_STATUS_RESIDUAL _ _ _ nofun, hp.set _ .TIME_NOW_SUB_FRAC _ _ _ nofun, hp.set _ .TIME_NOW_SUB_NS _ _ _ nofun]

theorem PassesReadBacks.refreshSilent (n : Nat) : p (refreshSilent s n) = p s := by
  unfold Machine.refreshSilent
  split
  · exact hp.set _ _ _ _ _ nofun
  · rfl

theorem PassesReadBacks.refreshHoldover (d : Nat) : p (refreshHoldover s d) = p s := by
  unfold Machine.refreshHoldover
  split
  · exact hp.set _ _ _ _ _ nofun
  · rfl

theorem PassesReadBacks.refreshPerturb (f : Nat) : p (refreshPerturb s f) = p s := by
  unfold Machine.refreshPerturb
  extract_lets e
  split
  · rfl
  · exact hp.set _ _ _ _ _ nofun

theorem PassesReadBacks.refreshDraining : p (refreshDraining s) = p s := by
  unfold Machine.refreshDraining
  split
  · rfl
  · exact hp.set _ _ _ _ _ nofun

theorem PassesReadBacks.refreshIdle : p (refreshIdle s) = p s := by
  unfold Machine.refreshIdle
  exact hp.setPower s _

theorem PassesReadBacks.cpuShow (core : Nat) : p (cpuShow core s) = p s := by
  unfold Machine.cpuShow
  split
  · exact hp.setAll s (by simp) core
  · exact hp.setAll s (by simp) core

theorem PassesReadBacks.wakeWorking : p (wakeWorking s) = p s := by
  refine foldl_keep (fun t c => State.when_keep (fun u => ?_) t _) _ s
  have hu : p (u.set .PWR_DOZE_DOZING 0 c) = p u := hp.set _ _ _ _ _ nofun
  dsimp only
  split
  · exact (foldl_keep (fun t k => hp.cpuShow t k) _ _).trans hu
  · exact hu

end

/-- A cycle of TCLK but for CLK10M_OUT: the local counter, and the read-backs that follow it. -/
def cycleShown (s : State) : State :=
  wakeWorking (refreshIdle (refreshDraining ((List.range 4).foldl refreshPerturb
    ([0, 1].foldl refreshHoldover ((List.range 4).foldl refreshSilent (refreshTime { s with now := s.now + uTclk }))))))

theorem tick_eq (s : State) : tick s = clk10Run (cycleShown s) := rfl

theorem PassesReadBacks.cycleShown {α : Type} {p : State → α} (hp : PassesReadBacks p) (s : State) :
    p (cycleShown s) = p { s with now := s.now + uTclk } := by
  unfold Machine.cycleShown
  rw [hp.wakeWorking, hp.refreshIdle, hp.refreshDraining, foldl_keep hp.refreshPerturb, foldl_keep hp.refreshHoldover,
    foldl_keep hp.refreshSilent, hp.refreshTime]

/-- What the read-backs of a cycle keep: all but the registers, the power manager's record and, for CLK10M_OUT, its enable. -/
def besideReadBacks (s : State) : Nat × List Instr × CmdState × Tab Nat × StoreState × List Out × Nat :=
  (s.now, s.pending, s.cmd, s.ctrs, s.store, s.out, s.get .TIME_SEL_CLK10M_EN)

theorem passesReadBacks_beside : PassesReadBacks besideReadBacks where
  set t f v i j hf := by
    unfold besideReadBacks
    rw [State.set_get t hf.symm]
    rfl
  setPower _ _ := rfl

theorem clk10Run_of_disabled {s : State} (h : s.get .TIME_SEL_CLK10M_EN ≠ 1) : clk10Run s = s :=
  if_pos (by rw [State.isSet_eq_false_iff.2 h]; rfl)

/-- CLK10M_OUT runs on: beside the time unit nothing changes, but for the edge that it may have (R129). -/
theorem clk10Run_eq (s : State) : ∃ c, clk10Run s = s.setTime c ∨ ∃ high at_, clk10Run s = (s.setTime c).emit (.clk10m high at_) := by
  unfold clk10Run clk10Edge
  dsimp only
  split
  next => exact ⟨id, .inl rfl⟩
  next =>
    split
    next =>
      split
      next => exact ⟨_, .inr ⟨_, _, rfl⟩⟩
      next => exact ⟨_, .inl rfl⟩
    next =>
      split
      next => exact ⟨_, .inr ⟨_, _, rfl⟩⟩
      next => exact ⟨_, .inl rfl⟩

theorem clk10Run_keeps (s : State) : (clk10Run s).now = s.now ∧ (clk10Run s).pending = s.pending ∧ (clk10Run s).cmd = s.cmd ∧
    (clk10Run s).ctrs = s.ctrs ∧ (clk10Run s).store = s.store := by
  obtain ⟨c, h | ⟨high, at_, h⟩⟩ := clk10Run_eq s
  · rw [h]; exact ⟨rfl, rfl, rfl, rfl, rfl⟩
  · rw [h]; exact ⟨rfl, rfl, rfl, rfl, rfl⟩

/-- CLK10M_OUT has at most one edge in a cycle. -/
theorem clk10Run_out (s : State) : (clk10Run s).out = s.out ∨ ∃ high at_, (clk10Run s).out = s.out ++ [.clk10m high at_] := by
  obtain ⟨c, h | ⟨high, at_, h⟩⟩ := clk10Run_eq s
  · exact .inl (by rw [h]; rfl)
  · exact .inr ⟨high, at_, by rw [h]; rfl⟩

/-- Settles O2: the read-backs of a cycle leave alone what the statement names, and so does CLK10M_OUT but for its edge. -/
theorem emptyQueueLetsACyclePass : Obligations.EmptyQueueLetsACyclePass := by
  intro s hs
  have hstep : step s = .next (clk10Run (cycleShown s)) := by unfold step; rw [hs, tick_eq]
  have hkept := passesReadBacks_beside.cycleShown s
  simp only [besideReadBacks, Prod.mk.injEq, uTclk] at hkept
  obtain ⟨hnow, hpending, hcmd, hctrs, hstore, hout, hen⟩ := hkept
  obtain ⟨know, kpending, kcmd, kctrs, kstore⟩ := clk10Run_keeps (cycleShown s)
  have kout := clk10Run_out (cycleShown s)
  rw [hout] at kout
  refine ⟨_, hstep, know.trans hnow, (kpending.trans hpending).trans hs, kcmd.trans hcmd, kctrs.trans hctrs, kstore.trans hstore,
    fun h => ?_, kout⟩
  rw [clk10Run_of_disabled (hen.trans_ne h), hout]

end Sys2Proof.Machine

/-! ## The time commands (`04_time.md` R112, R114, R117 to R119, R123, R128) -/

namespace Sys2Proof.Machine

open Sys2Proof

/-! ### TIME_CONFIG (R112) -/

section
variable {q : Req} {es : List WEntry} {s : State}

theorem timeConfig_staged (ht : takenAtomic ciTimeConfig q s = true) (hp : wErr timeConfigAllow es = none)
    (h : sourcesLegal (wApplyAll s es) = true) : Stages (.timeConfig q es) ciTimeConfig q s (.timeConfig es) :=
  next_congr (atomicCmd_accepted _ ht rfl (by simp [hp, h]))

theorem timeConfig_rejected (ht : takenAtomic ciTimeConfig q s = true) (hp : wErr timeConfigAllow es = none)
    (h : sourcesLegal (wApplyAll s es) = false) : Next (.timeConfig q es) s
      (reject { ciTimeConfig with parts := [] } q stParam (16 + 24 * lastWriter .TIME_DOMAIN_CFG_SOURCE es + 23) s) :=
  next_congr (atomicCmd_param _ ht rfl (by simp [hp, h]))

end

/-! ### The commands of one domain (R114, R117 to R119) -/

section
variable {q : Req} {d seconds : Nat} {phase freq : Int} {locked auto : Bool} {s t : State}

theorem want_domain (h : d < 2) : want 16 (decide (d < 2)) = none := want_true _ (decide_eq_true h)

theorem timeSelect_done (hd : d < 2) (ht : takenUp ciTimeSelect q s = true) (h : q.force = true ∨ s.get .TIME_DOMAIN_STATE_VALID d = 1) :
    Done (.timeSelect q d) ciTimeSelect q [d] s (selectDomain d false (noteSelect s)) :=
  next_congr (single_accepted _ _ ht (needs_of_true (by rcases h with h | h <;> simp [State.isSet, h])) (want_domain hd))

theorem timeSelect_rejected (hd : d < 2) (ht : takenUp ciTimeSelect q s = true) (hq : q.force = false)
    (h : s.get .TIME_DOMAIN_STATE_VALID d ≠ 1) : Next (.timeSelect q d) s (reject ciTimeSelect q stState 0 s) :=
  next_congr (single_of_needs_false ht (by simp [State.isSet, hd, hq, h]))

theorem selectDomain_of_selected (h : selected s = d) : selectDomain d auto s = s := if_pos h

theorem selectDomain_of_other (ht : t = (s.set .TIME_STATUS_SELECTED d).setTime (fun t => { t with autoSelected := auto && d == 1 }))
    (h : selected s ≠ d) : selectDomain d auto s = updateValid (settleResidual (serviceTime s) ((t.inc .TIME_DOMAIN_SWITCHES).raise 0x0603
      [d, ofSigned 32 (roundDiv (timeDiff (serviceTime s) (domainAt (t.domain d) t.now)) uNs), b2n auto])) := by
  subst ht
  exact if_neg h

theorem timeSet_done (hd : d < 2) (hs : seconds < 2 ^ 48) (ht : takenUp ciTimeSet q s = true) (h : 6 ≤ s.get .TIME_DOMAIN_CFG_SOURCE d) :
    Done (.timeSet q d seconds) ciTimeSet q [d] s (s.setDomain d (fun x => { x with nextSec := some seconds })) :=
  next_congr (single_accepted _ _ ht (needs_of_true (by simp [h])) (by rw [want_domain hd, want_true _ (decide_eq_true hs)]; rfl))

theorem timeSet_rejected (hd : d < 2) (ht : takenUp ciTimeSet q s = true) (h : s.get .TIME_DOMAIN_CFG_SOURCE d < 6) :
    Next (.timeSet q d seconds) s (reject ciTimeSet q stState 0 s) :=
  next_congr (single_of_needs_false ht (by simp [hd, h]))

theorem timeAdjust_done (hd : d < 2) (ht : takenUp ciTimeAdjust q s = true) (h : s.get .TIME_DOMAIN_CFG_SOURCE d = 5) :
    Done (.timeAdjust q d phase freq locked) ciTimeAdjust q [d] s (hostMeasure d phase freq locked s) :=
  next_congr (single_accepted _ _ ht (needs_of_true (by simp [h])) (want_domain hd))

theorem timeAdjust_rejected (hd : d < 2) (ht : takenUp ciTimeAdjust q s = true) (h : s.get .TIME_DOMAIN_CFG_SOURCE d ≠ 5) :
    Next (.timeAdjust q d phase freq locked) s (reject ciTimeAdjust q stState 0 s) :=
  next_congr (single_of_needs_false ht (by simp [hd, h]))

end

/-! ### TIME_PULSE (R128) and TIME_TS_READ (R123) -/

/-- The schedule of output k that a TIME_PULSE and those waiting before it make. -/
def scheduleLegal (k : Nat) (es : List WEntry) (s : State) : Bool := pulseLegal k (wApplyAll s ((s.pulseOut k).waiting ++ es))

section
variable {q : Req} {es : List WEntry} {k x : Nat} {s : State}

/-- The parameter check of TIME_PULSE: one output, whose schedule is legal. -/
theorem timePulse_param (hp : wErr timePulseAllow es = none) (hk : (wInstances es).headD 0 = k) :
    firstErr [wErr timePulseAllow es, want 16 ((wInstances es).length ≤ 1), want 32 (scheduleLegal ((wInstances es).headD 0) es s)] =
      if (wInstances es).length ≤ 1 then want 32 (scheduleLegal k es s) else some 16 := by
  rw [hp, hk]
  split
  next h => rw [want_true _ (decide_eq_true h)]; cases scheduleLegal k es s <;> rfl
  next h => rw [want_false _ (decide_eq_false h)]; rfl

theorem timePulse_rejected_outputs (ht : takenUp ciTimePulse q s = true) (hp : wErr timePulseAllow es = none)
    (h : 2 ≤ (wInstances es).length) : Next (.timePulse q es) s (reject ciTimePulse q stParam 16 s) :=
  next_congr (checked_param _ ht rfl ((timePulse_param hp rfl).trans (if_neg (Nat.not_le_of_lt h))))

theorem timePulse_rejected_schedule (ht : takenUp ciTimePulse q s = true) (hp : wErr timePulseAllow es = none)
    (hk : (wInstances es).headD 0 = k) (h1 : (wInstances es).length ≤ 1) (h : scheduleLegal k es s = false) :
    Next (.timePulse q es) s (reject ciTimePulse q stParam 32 s) :=
  next_congr (checked_param _ ht rfl ((timePulse_param hp hk).trans ((if_pos h1).trans (want_false _ h))))

theorem timePulse_done (ht : takenUp ciTimePulse q s = true) (hp : wErr timePulseAllow es = none)
    (hk : (wInstances es).headD 0 = k) (h1 : (wInstances es).length ≤ 1) (h : scheduleLegal k es s = true) :
    Done (.timePulse q es) ciTimePulse q (es.map (·.off)) s
      (if (s.pulseOut k).high then s.setPulse k (fun x => { x with waiting := x.waiting ++ es }) else takePulse k es s) := by
  have hparam := (timePulse_param hp rfl).trans ((if_pos h1).trans (want_true 32 (hk ▸ h)))
  subst hk
  exact next_congr (single_accepted _ _ ht rfl hparam)

theorem timeTsRead_done (hx : x < 36) (ht : takenUp ciTimeTsRead q s = true) : Done (.timeTsRead q x) ciTimeTsRead q [x] s
    (s.setTime (fun t => { t with rings := Tab.put [] t.rings x ((Tab.get [] s.time.rings x).drop 64),
                                  overflowed := if (Tab.get [] s.time.rings x).drop 64 = [] then Tab.put 0 t.overflowed x 0
                                                  else t.overflowed }))
    (formR (((Tab.get [] s.time.rings x).take 64).map (fun e => (x, [e / 2 ^ 64, e % 2 ^ 64])))) :=
  next_congr (single_accepted _ _ ht rfl (want_true _ (decide_eq_true hx)))

end

/-- Settles O21, one row of the table after the other. -/
theorem timeCommandsComplete : Obligations.TimeCommandsComplete := by
  refine ⟨fun q es s ht hp => ⟨timeConfig_staged ht hp, timeConfig_rejected ht hp⟩,
    fun q d s hd ht => ⟨timeSelect_rejected hd ht, timeSelect_done hd ht⟩,
    fun d auto s t ht => ⟨selectDomain_of_selected, selectDomain_of_other ht⟩,
    fun q d seconds s hd hs ht => ⟨timeSet_done hd hs ht, timeSet_rejected hd ht⟩,
    fun q d phase freq locked s hd ht => ⟨timeAdjust_done hd ht, timeAdjust_rejected hd ht⟩,
    fun q es k s ht hp hk => ⟨timePulse_rejected_outputs ht hp, fun h1 => ⟨timePulse_rejected_schedule ht hp hk h1,
      fun h hh => ?_, fun h hl => ?_⟩⟩,
    fun q x s hx ht => timeTsRead_done hx ht⟩
  · exact (timePulse_done ht hp hk h1 h).trans (by rw [if_pos hh])
  · exact (timePulse_done ht hp hk h1 h).trans (by rw [hl, if_neg Bool.false_ne_true])

end Sys2Proof.Machine

/-! ## Low-power idle, pauses, reception and transmission of the host ports (`04_time.md` R125, R127; `05_release_rule.md` R139, R146;
`06_host_lanes.md` R158, R162 to R173; `17_test.md` R413, R418, R421) -/

namespace Sys2Proof.Machine

open Sys2Proof

/-! ### Low-power idle (R162) -/

/-- How long a port's MAC is idle before it enters LPI (R162). -/
def lpiIdleTime (x : Nat) (s : State) : Nat :=
  (if s.mode = 4 then s.get .PORT_LPI_TX_IDLE_FRUGAL_US x else s.get .PORT_LPI_TX_IDLE_US x) * uUs

/-- A port may enter transmit LPI once it has been idle long enough: it is in UP with TX_EN 1, not in LPI yet, and its MAC is idle. -/
def lpiAllowed (x : Nat) (s : State) : Prop :=
  s.link x = lsUp ∧ s.get .PORT_LPI_TX_EN x = 1 ∧ s.get .PORT_STATUS_TX_LPI x ≠ 1 ∧ macIdle s x = true

section
variable {x k l a : Nat} {late : Bool} {s : State}

theorem effLpiTxEntry_of_barred (h : ¬ lpiAllowed x s ∨ (s.hp x).idleSince = 0) : effLpiTxEntry x s = s := by
  refine if_neg fun ⟨hup, hen, hlpi, hidle, hsince, _⟩ => h.elim (· ⟨hup, State.isSet_iff.1 hen, ?_, hidle⟩) hsince
  exact State.isSet_eq_false_iff.1 (by simpa using hlpi)

theorem effLpiTxEntry_of_allowed (h : lpiAllowed x s) (ha : (s.hp x).idleSince = a + 1) : effLpiTxEntry x s =
    if a + lpiIdleTime x s ≤ s.now then (s.set .PORT_STATUS_TX_LPI 1 x).inc .HP_LPI_TX_ENTRIES x else s := by
  obtain ⟨hup, hen, hlpi, hidle⟩ := h
  refine if_congr ?_ rfl rfl
  simp [State.isSet, hup, hen, hlpi, hidle, ha, lpiIdleTime]

theorem effLpiRxEntry_of_allowed (hup : s.link x = lsUp) (hen : s.get .PORT_LPI_RX_EN x = 1) (hlpi : s.get .PORT_STATUS_RX_LPI x ≠ 1) :
    effLpiRxEntry x s = (s.set .PORT_STATUS_RX_LPI 1 x).inc .HP_LPI_RX_ENTRIES x :=
  if_pos (by simp [State.isSet, hup, hen, hlpi])

theorem effLpiRxEntry_of_barred (h : s.link x ≠ lsUp ∨ s.get .PORT_LPI_RX_EN x ≠ 1 ∨ s.get .PORT_STATUS_RX_LPI x = 1) :
    effLpiRxEntry x s = s :=
  if_neg (by rcases h with h | h | h <;> simp [State.isSet, h])

theorem effTimedLpiExit_of_none (h : timedHead s x = none) : effTimedLpiExit x s = s := by
  unfold effTimedLpiExit
  rw [h]

theorem effTimedLpiExit_of_some (h : timedHead s x = some (k, l, late)) : effTimedLpiExit x s =
    if s.isSet .PORT_STATUS_TX_LPI x ∧ launchAhead s x l ≤ ((s.get .PORT_LPI_T_W_US x * uUs : Nat) : Int) then leaveTxLpi x s else s := by
  unfold effTimedLpiExit
  rw [h]

theorem effTimedLpiExit_of_awake (h : s.get .PORT_STATUS_TX_LPI x ≠ 1) : effTimedLpiExit x s = s := by
  cases hh : timedHead s x with
  | none => exact effTimedLpiExit_of_none hh
  | some t => exact (effTimedLpiExit_of_some (late := t.2.2) hh).trans (if_neg fun hc => h (State.isSet_iff.1 hc.1))

end

/-! ### FRAME_RX (R158, R164, R167, R169, R171, R173, R421) -/

section
variable {x part : Nat} {bytes : List Nat} {fec : FecCount} {bad : Bool} {s t u : State}

theorem effFrameRx_of_down (ht : t = countFec x fec s) (h : t.link x ≠ lsUp) : effFrameRx x part bytes fec s = t := by
  subst ht
  exact if_neg h

theorem effFrameRx_of_up (ht : t = countFec x fec s) (h : t.link x = lsUp) :
    effFrameRx x part bytes fec s = receiveFrame x part bytes t := by
  subst ht
  exact if_pos h

theorem receiveFrame_of_control (h : bytes.take 6 = [0x01, 0x80, 0xC2, 0, 0, 1]) : receiveFrame x part bytes s = controlFrame x bytes s :=
  if_pos h

theorem receiveFrame_of_asleep (h : bytes.take 6 ≠ [0x01, 0x80, 0xC2, 0, 0, 1]) (ha : s.asleep = true) :
    receiveFrame x part bytes s = s.inc .PWR_STANDBY_DISCARD :=
  (if_neg h).trans (if_pos ha)

/-- An item whose FCS is found wrong at its end: an injection breaks it, or the frame, not oversized, does not fit it (R171, R421). -/
def fcsFails (x : Nat) (bytes : List Nat) (bad : Bool) (u : State) : Prop :=
  bad = true ∨ (bytes.length ≤ sysHdr u x + u.get .PORT_CFG_MAX_FRAME x ∧ fcsFits bytes = false)

theorem fcsFails_iff : fcsFails x bytes bad u ↔
    (bad || (decide (bytes.length ≤ sysHdr u x + u.get .PORT_CFG_MAX_FRAME x) && !(fcsFits bytes))) = true := by
  simp [fcsFails]

theorem receiveFrame_of_item (h : bytes.take 6 ≠ [0x01, 0x80, 0xC2, 0, 0, 1]) (ha : s.asleep = false) (hi : inject 1 x s = (bad, u)) :
    receiveFrame x part bytes s = newItem (if bad || (decide (bytes.length ≤ sysHdr u x + u.get .PORT_CFG_MAX_FRAME x) && !(fcsFits bytes))
      then { rxItem x part bytes u with failed := some 3 } else rxItem x part bytes u) u := by
  unfold receiveFrame
  rw [if_neg h, ha, if_neg Bool.false_ne_true, hi]

theorem receiveFrame_of_fcsFails (h : bytes.take 6 ≠ [0x01, 0x80, 0xC2, 0, 0, 1]) (ha : s.asleep = false) (hi : inject 1 x s = (bad, u))
    (hf : fcsFails x bytes bad u) : receiveFrame x part bytes s = newItem { rxItem x part bytes u with failed := some 3 } u :=
  (receiveFrame_of_item h ha hi).trans (by rw [if_pos (fcsFails_iff.1 hf)])

theorem receiveFrame_of_sound (h : bytes.take 6 ≠ [0x01, 0x80, 0xC2, 0, 0, 1]) (ha : s.asleep = false) (hi : inject 1 x s = (bad, u))
    (hf : ¬ fcsFails x bytes bad u) : receiveFrame x part bytes s = newItem (rxItem x part bytes u) u :=
  (receiveFrame_of_item h ha hi).trans (by rw [if_neg (mt fcsFails_iff.2 hf)])

end

/-! ### Pauses (R169, R170) -/

section
variable {x p mask a : Nat} {quanta : List Nat} {s : State}

theorem effPauseRx_of_8023x (hup : s.link x = lsUp) (hm : s.get .PORT_PAUSE_MODE x = 1) :
    effPauseRx x false mask quanta s = pauseOne x 8 (quanta.getD 0 0 % 65536) (s.inc .HP_RX_PAUSE x) :=
  (if_neg (by simp [hup, hm])).trans (if_neg Bool.false_ne_true)

theorem effPauseRx_of_priority (hup : s.link x = lsUp) (hm : s.get .PORT_PAUSE_MODE x = 2) : effPauseRx x true mask quanta s =
    ((List.range 8).filter (bit mask)).foldl (fun t p => pauseOne x p (quanta.getD p 0 % 65536) t) (s.inc .HP_RX_PAUSE x) :=
  (if_neg (by simp [hup, hm])).trans (if_pos rfl)

/-- A pause frame outside UP, or of the kind that MODE does not select, is not counted (R169). -/
theorem effPauseRx_of_ignored {pfc : Bool} (h : s.link x ≠ lsUp ∨ s.get .PORT_PAUSE_MODE x ≠ if pfc then 2 else 1) :
    effPauseRx x pfc mask quanta s = s := by
  refine if_pos (h.imp_right fun hm => ?_)
  cases pfc <;> simpa using hm

theorem effPauseExpiry_of_over (h : Tab.get 0 (s.hp x).pauseEnd p ≠ 0) (hp : isPaused s x p = false) : effPauseExpiry x p s = unpause x p s :=
  if_pos ⟨h, by rw [hp]; rfl⟩

theorem effPauseExpiry_of_waiting (h : Tab.get 0 (s.hp x).pauseEnd p = 0 ∨ isPaused s x p = true) : effPauseExpiry x p s = s :=
  if_neg fun ⟨h0, hp⟩ => h.elim h0 fun ht => by rw [ht] at hp; exact Bool.false_ne_true hp

theorem effPauseWdog_of_due (hp : isPaused s x p = true) (hw : wdogDue s x p = true) : effPauseWdog x p s = fireWdog x p s :=
  if_pos (by rw [hp, hw]; rfl)

theorem effPauseWdog_of_waiting (h : isPaused s x p = false ∨ wdogDue s x p = false) : effPauseWdog x p s = s :=
  if_neg (by simpa [imp_iff_not_or] using h)

theorem effPauseWdogEnd_of_due (h : overrideDue s x p = true) : effPauseWdogEnd x p s = endOverride x p 1 s := if_pos h

theorem effPauseWdogEnd_of_waiting (h : overrideDue s x p = false) : effPauseWdogEnd x p s = s := if_neg (ne_true_of_eq_false h)

theorem effPauseRefresh_of_idle (h : s.get .SW_ING_PAUSE_CALL (x * 8 + p) ≠ 1 ∨ Tab.get 0 (s.hp x).pauseSent p = 0) :
    effPauseRefresh x p s = s :=
  if_neg fun ⟨hcall, hsent, _⟩ => h.elim (· (State.isSet_iff.1 hcall)) hsent

theorem effPauseRefresh_of_sent (hc : s.get .SW_ING_PAUSE_CALL (x * 8 + p) = 1) (ha : Tab.get 0 (s.hp x).pauseSent p = a + 1) :
    effPauseRefresh x p s = if a + quantaTime s x (s.get .PORT_PAUSE_REFRESH x) ≤ s.now then
      markIdle x (pauseDue x (2 ^ p) (s.get .PORT_PAUSE_QUANTA x) (s.setHp x (fun h => { h with pauseSent := Tab.put 0 h.pauseSent p 0 })))
      else s := by
  refine if_congr ?_ rfl rfl
  simp [State.isSet, hc, ha]

end

/-! ### MAC_TX_START (R158, R162, R168) -/

/-- A port's MAC may start something: the link is up without a fault, the device is not in L3, nothing is on the wire, the gap has passed. -/
def macReady (x : Nat) (s : State) : Prop :=
  linkOk s x = true ∧ s.get .FLT_STATUS_SAFE ≠ 1 ∧ Tab.get 0 s.sw.sending x = 0 ∧ (s.hp x).holdUntil ≤ s.now

section
variable {x part m q k : Nat} {rest : List (Nat × Nat)} {s : State}

theorem macReady_iff : macReady x s ↔
    ¬(!(linkOk s x) ∨ s.safe ∨ Tab.get 0 s.sw.sending x ≠ 0 ∨ s.now < (s.hp x).holdUntil) := by
  simp [macReady, State.safe, State.isSet]

theorem effMacTxStart_of_unready (h : ¬ macReady x s) : effMacTxStart x part s = s := if_pos (not_not.1 (mt macReady_iff.2 h))

theorem effMacTxStart_of_nothing (hp : Tab.get [] s.sw.pauseDue x = []) (hn : nextTx s x = none) : effMacTxStart x part s = s := by
  by_cases hr : macReady x s
  · exact (if_neg (macReady_iff.1 hr)).trans (if_pos ⟨hp, hn⟩)
  · exact effMacTxStart_of_unready hr

theorem effMacTxStart_of_lpi (hr : macReady x s) (hd : Tab.get [] s.sw.pauseDue x ≠ [] ∨ nextTx s x ≠ none)
    (hl : s.get .PORT_STATUS_TX_LPI x = 1) : effMacTxStart x part s = leaveTxLpi x s :=
  (if_neg (macReady_iff.1 hr)).trans ((if_neg (not_and_or.2 hd)).trans (if_pos (State.isSet_iff.2 hl)))

theorem effMacTxStart_of_pause (hr : macReady x s) (hl : s.get .PORT_STATUS_TX_LPI x ≠ 1) (hp : Tab.get [] s.sw.pauseDue x = (m, q) :: rest) :
    effMacTxStart x part s = if wouldBlockTimed s x 72 then s else sendPause x m q rest s := by
  unfold effMacTxStart
  rw [if_neg (macReady_iff.1 hr), hp, if_neg nofun, if_neg (mt State.isSet_iff.1 hl)]

theorem effMacTxStart_of_frame (hr : macReady x s) (hl : s.get .PORT_STATUS_TX_LPI x ≠ 1) (hp : Tab.get [] s.sw.pauseDue x = [])
    (hn : nextTx s x = some k) : effMacTxStart x part s = startTx k 0 part s := by
  unfold effMacTxStart
  rw [if_neg (macReady_iff.1 hr), hp, hn, if_neg nofun, if_neg (mt State.isSet_iff.1 hl)]

end

/-! ### TIMED_LAUNCH (R125, R127) -/

/-- The timed queue's head may start: the MAC is ready and out of LPI, the queue is not paused, and the frame is confirmed. -/
def launchFree (x k : Nat) (s : State) : Bool :=
  linkOk s x && !s.safe && Tab.get 0 s.sw.sending x == 0 && !decide (s.now < (s.hp x).holdUntil) && !s.isSet .PORT_STATUS_TX_LPI x &&
    !queueStopped s x (s.get .TIME_PORT_TIMED_Q x) && isConfirmed (s.item (s.copy k).item)

section
variable {x part k l : Nat} {late : Bool} {four : Int} {s : State}

theorem effTimedLaunch_of_none (h : timedHead s x = none) : effTimedLaunch x part s = s := by
  unfold effTimedLaunch
  rw [h]

theorem not_launchFree : (!(launchFree x k s)) = (!(linkOk s x) || s.safe || Tab.get 0 s.sw.sending x != 0 || decide (s.now < (s.hp x).holdUntil) ||
    s.isSet .PORT_STATUS_TX_LPI x || queueStopped s x (s.get .TIME_PORT_TIMED_Q x) || !(isConfirmed (s.item (s.copy k).item))) := by
  simp only [launchFree, Bool.not_and, Bool.not_not, bne]

/-- The head is evaluated (R125, R127): validity first, then how far its launch time lies ahead, then whether it can start. -/
theorem effTimedLaunch_of_some (h : timedHead s x = some (k, l, late)) (hfour : four = ((4 * uNs : Nat) : Int)) :
    effTimedLaunch x part s =
      if serviceValid s = false then markIdle x (dropLone k .TIME_TIMED_NOTIME x s)
      else if four < launchAhead s x l then s
      else if launchAhead s x l < -four ∧ late = false then markIdle x (dropLone k .TIME_TIMED_LATE_DROP x s)
      else if launchFree x k s = false then s
      else if launchAhead s x l < -four then startTx k 2 part s
      else startTx k 1 part s := by
  subst hfour
  unfold effTimedLaunch
  rw [h]
  simp only [← not_launchFree, Bool.not_eq_true']

end

/-! ### FRAME_TX_END (R123, R146, R168, R173, R413, R418) -/

/-- A frame has been sent in full: stamped, checked at the egress, and closed. -/
def txEnded (k : Nat) (s : State) : State :=
  let c := s.copy k
  let bs := stamped s (copyItem s c) c.sentTime
  (checkFrame 1 c.dest bs (postStamp (copyItem s c) bs c (countStart k s))).setCopy k
    (fun c => { c with phase := 3, sent := c.len + 4, ok := true, old := false })

/-- A host port has sent a frame of `len` bytes without its FCS: it is counted, and the next one starts no sooner than the gap of 12 bytes. -/
def hostSent (x len : Nat) (t : State) : State :=
  (((t.inc .HP_TX_FRAMES x).bump .HP_TX_BYTES (len + 4) x).setSw (fun w => { w with sending := Tab.put 0 w.sending x 0 })).setHp x
    (fun h => { h with holdUntil := t.now + 12 * uUs / max 1 (macRate t x) })

section
variable {k : Nat} {wire : List Nat} {s u : State}

theorem effFrameTxEnd_of_open (h : (s.copy k).phase ≠ 2 ∨ isConfirmed (copyItem s (s.copy k)) = false) : effFrameTxEnd k s = s :=
  if_pos (h.imp_right fun h => by rw [h]; rfl)

theorem effFrameTxEnd_of_line (hp : (s.copy k).phase = 2) (hc : isConfirmed (copyItem s (s.copy k)) = true) (hd : 32 ≤ (s.copy k).dest) :
    effFrameTxEnd k s = txEnded k s :=
  (if_neg (by simp [hp, hc])).trans (if_neg (Nat.not_lt_of_le hd))

theorem effFrameTxEnd_of_host (hp : (s.copy k).phase = 2) (hc : isConfirmed (copyItem s (s.copy k)) = true) (hd : (s.copy k).dest < 32)
    (hu : u = hostSent (s.copy k).dest (s.copy k).len (txEnded k s))
    (hw : wire = txHeader u (copyItem s (s.copy k)) (s.copy k) ++ stamped s (copyItem s (s.copy k)) (s.copy k).sentTime) :
    effFrameTxEnd k s = markIdle (s.copy k).dest
      (if hostLooped (s.copy k).dest u then receiveFrame (s.copy k).dest 0 (wire ++ toBytes 4 (crc32 wire)) u else u) := by
  subst hw hu
  exact (if_neg (by simp [hp, hc])).trans (if_pos hd)

end

/-- Settles O25, one row of the table after the other. -/
theorem hostTrafficEventsComplete : Obligations.HostTrafficEventsComplete := by
  refine ⟨fun x limit s hlim => ⟨fun a hup hen hlpi hidle ha => ⟨fun hle => ?_, fun hlt => ?_⟩, fun h => ?_⟩,
    fun x s => ⟨fun hup hen hlpi => next_congr (effLpiRxEntry_of_allowed hup hen hlpi), fun h => next_congr (effLpiRxEntry_of_barred h), rfl⟩,
    fun x s => ⟨fun h => next_congr (h.elim effTimedLpiExit_of_none effTimedLpiExit_of_awake), fun k l late h hlpi =>
      ⟨fun hle => ?_, fun hlt => ?_⟩⟩,
    fun x part bytes fec s t ht => ⟨fun h => next_congr (effFrameRx_of_down ht h),
      fun hup hc => next_congr ((effFrameRx_of_up ht hup).trans (receiveFrame_of_control hc)),
      fun hup hc ha => next_congr ((effFrameRx_of_up ht hup).trans (receiveFrame_of_asleep hc ha)),
      fun bad u hup hc ha hi => ⟨fun hf => next_congr ((effFrameRx_of_up ht hup).trans (receiveFrame_of_fcsFails hc ha hi hf)),
        fun hb hs => ?_⟩⟩,
    fun x mask quanta s => ⟨fun hup hm => next_congr (effPauseRx_of_8023x hup hm), fun hup hm => next_congr (effPauseRx_of_priority hup hm),
      fun h => next_congr (effPauseRx_of_ignored h), fun h => next_congr (effPauseRx_of_ignored h)⟩,
    fun x p s => ⟨fun h hp => next_congr (effPauseExpiry_of_over h hp), fun h => next_congr (effPauseExpiry_of_waiting h),
      fun hp hw => next_congr (effPauseWdog_of_due hp hw), fun h => next_congr (effPauseWdog_of_waiting h),
      fun h => next_congr (effPauseWdogEnd_of_due h), fun h => next_congr (effPauseWdogEnd_of_waiting h)⟩,
    fun x p s => ⟨fun h => next_congr (effPauseRefresh_of_idle h), fun a hc ha => ⟨fun hle => ?_, fun hlt => ?_⟩⟩,
    fun x part s => ⟨fun h => ?_, fun hok hsafe hsend hgap => ⟨fun hd hl => ?_, fun m q rest hl hp => ⟨fun hb => ?_, fun hb => ?_⟩,
      fun k hl hp hn => ?_⟩⟩,
    fun x part s => ⟨fun h => next_congr (effTimedLaunch_of_none h), fun k l late free four h hfour hfree => ?_⟩,
    fun k s => ⟨fun h => next_congr (effFrameTxEnd_of_open h), fun c it bs wire t u hc hit hbs hp hconf ht => ?_⟩⟩
  · subst hlim
    exact next_congr ((effLpiTxEntry_of_allowed ⟨hup, hen, hlpi, hidle⟩ ha).trans (if_pos hle))
  · subst hlim
    exact next_congr ((effLpiTxEntry_of_allowed ⟨hup, hen, hlpi, hidle⟩ ha).trans (if_neg (Nat.not_le_of_lt hlt)))
  · refine next_congr (effLpiTxEntry_of_barred ?_)
    rcases h with h | h | h | h | h
    · exact .inl fun ⟨hup, _⟩ => h hup
    · exact .inl fun ⟨_, hen, _⟩ => h hen
    · exact .inl fun ⟨_, _, hlpi, _⟩ => hlpi h
    · exact .inl fun ⟨_, _, _, hidle⟩ => Bool.false_ne_true (h.symm.trans hidle)
    · exact .inr h
  · exact next_congr ((effTimedLpiExit_of_some h).trans (if_pos ⟨State.isSet_iff.2 hlpi, hle⟩))
  · exact next_congr ((effTimedLpiExit_of_some h).trans (if_neg fun hc => not_le_of_gt hlt hc.2))
  · refine next_congr ((effFrameRx_of_up ht hup).trans (receiveFrame_of_sound hc ha hi ?_))
    rintro (hbad | ⟨hle, hno⟩)
    · exact Bool.false_ne_true (hb.symm.trans hbad)
    · exact hs.elim (Nat.not_lt_of_le hle) fun hf => Bool.false_ne_true (hno.symm.trans hf)
  · exact next_congr ((effPauseRefresh_of_sent hc ha).trans (if_pos hle))
  · exact next_congr ((effPauseRefresh_of_sent hc ha).trans (if_neg (Nat.not_le_of_lt hlt)))
  · rcases h with h | h | h | h | ⟨hp, hn⟩
    · exact next_congr (effMacTxStart_of_unready fun hr => Bool.false_ne_true (h.symm.trans hr.1))
    · exact next_congr (effMacTxStart_of_unready fun ⟨_, hsafe, _⟩ => hsafe h)
    · exact next_congr (effMacTxStart_of_unready fun ⟨_, _, hsend, _⟩ => h hsend)
    · exact next_congr (effMacTxStart_of_unready fun ⟨_, _, _, hgap⟩ => Nat.not_lt_of_le hgap h)
    · exact next_congr (effMacTxStart_of_nothing hp hn)
  · exact next_congr (effMacTxStart_of_lpi ⟨hok, hsafe, hsend, hgap⟩ hd hl)
  · exact next_congr ((effMacTxStart_of_pause ⟨hok, hsafe, hsend, hgap⟩ hl hp).trans (if_neg (ne_true_of_eq_false hb)))
  · exact next_congr ((effMacTxStart_of_pause ⟨hok, hsafe, hsend, hgap⟩ hl hp).trans (if_pos hb))
  · exact next_congr (effMacTxStart_of_frame ⟨hok, hsafe, hsend, hgap⟩ hl hp hn)
  · change free = launchFree x k s at hfree
    have h0 : 0 ≤ four := hfour ▸ Int.natCast_nonneg _
    have he := effTimedLaunch_of_some (part := part.val) h hfour
    refine ⟨fun hv => next_congr (he.trans (if_pos hv)), fun hv => ?_⟩
    rw [if_neg (ne_false_of_eq_true hv), ← hfree] at he
    refine ⟨fun hearly => next_congr (he.trans (if_pos hearly)), fun hlate hl => next_congr (he.trans ?_),
      fun hlate hl hf => next_congr (he.trans ?_), fun hge hle hf => next_congr (he.trans ?_), fun hle hl hf => next_congr (he.trans ?_)⟩
    · rw [if_neg (by omega), if_pos ⟨hlate, hl⟩]
    · rw [if_neg (by omega), if_neg (by simp [hl]), if_neg (ne_false_of_eq_true hf), if_pos hlate]
    · rw [if_neg (by omega), if_neg (by omega), if_neg (ne_false_of_eq_true hf), if_neg (by omega)]
    · rw [if_neg (by omega), if_neg fun ⟨hlt, hno⟩ => hl.elim (not_le_of_gt hlt) (fun ht => Bool.false_ne_true (hno.symm.trans ht)),
        if_pos hf]
  · subst hc hit hbs
    change t = txEnded k s at ht
    subst ht
    refine ⟨fun hd => next_congr (effFrameTxEnd_of_line hp hconf hd), fun hd hu hw => ?_⟩
    have he := effFrameTxEnd_of_host hp hconf hd hu hw
    exact ⟨fun hloop => next_congr (he.trans (by rw [hloop]; rfl)), fun hloop => next_congr (he.trans (by rw [if_pos hloop]))⟩

end Sys2Proof.Machine

/-! ## The events of the cipher clusters (`11_cipher.md` R268, R273, R276 to R281; `04_time.md` R121) -/

namespace Sys2Proof.Machine

open Sys2Proof

/-! ### CIPHER_JOB_DONE (R121, R268, R277, R278) -/

/-- A job may end: no older one of its port runs, and its key is at hand (R273, R278). -/
def jobEnds (j : LineJob) (s : State) : Prop :=
  s.cipher.jobs.find? (fun x => x.port == j.port) = some j ∧ s.cipher.deriving_.contains j.entry = false

/-- A job has left its cluster, and its cache entry is free of it. -/
def jobTaken (j : LineJob) (s : State) : State := unpin j.entry (s.setCipher (fun c => { c with jobs := c.jobs.filter (· ≠ j) }))

/-- An envelope's plaintext takes the place of its body; only an event message keeps its receive stamp (R121, R277). -/
def opened (j : LineJob) (plain : List Nat) (it : Item) : Item :=
  { it with bytes := plain, rate := 0, counts := it.counts ++ [(.CIPHP_RX_OPENED, 1, j.port, 0)],
            rxStamp := if ptpEvent plain then it.rxStamp else none }

/-- What comes of a job that has left its cluster: its item may be gone, and the tag decides point C2 (R277). -/
def jobOutcome (k : Nat) (j : LineJob) (t : State) : State :=
  if !(hasItem t k) then t
  else
    match openEnvelope j.key (t.item k) with
    | none => failItem k 2 [(.CIPHP_RX_AUTH_FAIL, j.port, 0)] t
    | some plain => passPoint k 2 (t.setItem k (opened j plain))

section
variable {k : Nat} {j : LineJob} {plain : List Nat} {s t : State}

theorem effCipherJobDone_of_none (h : s.cipher.jobs.find? (fun j => j.item == k) = none) : effCipherJobDone k s = s := by
  unfold effCipherJobDone
  rw [h]

theorem jobEnds_iff : jobEnds j s ↔
    ¬(!(s.cipher.jobs.find? (fun x => x.port == j.port) == some j) ∨ s.cipher.deriving_.contains j.entry) := by
  simp [jobEnds]

theorem effCipherJobDone_of_waiting (hj : s.cipher.jobs.find? (fun j => j.item == k) = some j) (h : ¬ jobEnds j s) :
    effCipherJobDone k s = s := by
  unfold effCipherJobDone
  rw [hj]
  exact if_pos (not_not.1 (mt jobEnds_iff.2 h))

theorem effCipherJobDone_of_ended (hj : s.cipher.jobs.find? (fun j => j.item == k) = some j) (h : jobEnds j s) :
    effCipherJobDone k s = jobOutcome k j (jobTaken j s) := by
  unfold effCipherJobDone
  rw [hj]
  exact if_neg (jobEnds_iff.1 h)

theorem jobOutcome_of_gone (h : hasItem t k = false) : jobOutcome k j t = t := if_pos (by rw [h]; rfl)

theorem jobOutcome_of_unsound (h : hasItem t k = true) (ho : openEnvelope j.key (t.item k) = none) :
    jobOutcome k j t = failItem k 2 [(.CIPHP_RX_AUTH_FAIL, j.port, 0)] t := by
  unfold jobOutcome
  rw [h, ho]
  rfl

theorem jobOutcome_of_sound (h : hasItem t k = true) (ho : openEnvelope j.key (t.item k) = some plain) :
    jobOutcome k j t = passPoint k 2 (t.setItem k (opened j plain)) := by
  unfold jobOutcome
  rw [h, ho]
  rfl

/-! ### An envelope opens (R277) -/

variable {key h pn a : Nat} {b : Bool} {it : Item}

theorem openEnvelope_eq (he : it.enc = some (h, a, b, pn)) (hp : plain = gcmSeal key pn ((it.bytes.drop 8).take (it.bytes.length - 24))) :
    openEnvelope key it = if 24 ≤ it.bytes.length ∧
      gcmTag key pn (toBytes 8 h ++ toBytes 8 pn) plain = field it.bytes (it.bytes.length - 16) 16 then some plain else none := by
  subst hp
  unfold openEnvelope
  rw [he]

end

/-! ### KEY_DERIVATION (R273, R276) -/

/-- An entry of the key cache that no job uses (R276). -/
def entryFree (s : State) (x : CacheKey) : Bool := s.cipher.jobs.all (fun j => decide (j.entry ≠ x))

/-- The cache as a derivation finds it: full, it first loses its least recently used entry that no job uses (R276; log entry 139). -/
def cacheWithRoom (s : State) : List CacheKey :=
  if s.cipher.cache.length < 8192 then s.cipher.cache
  else
    match s.cipher.cache.findIdx? (entryFree s) with
    | some i => s.cipher.cache.eraseIdx i
    | none => s.cipher.cache

section
variable {s : State} {e old : CacheKey} {rest pre post : List CacheKey} {x : CacheKey}

theorem effKeyDerivation_of_none (h : s.cipher.deriving_ = []) : effKeyDerivation s = s := by
  unfold effKeyDerivation
  rw [h]

theorem effKeyDerivation_of_miss (h : s.cipher.deriving_ = e :: rest) : effKeyDerivation s =
    (s.setCipher (fun x => { x with deriving_ := rest, cache := cacheWithRoom s ++ [e] })).inc .CIPH_DERIVATIONS := by
  unfold effKeyDerivation
  rw [h]
  rfl

theorem entryFree_iff : entryFree s x = true ↔ ∀ j ∈ s.cipher.jobs, j.entry ≠ x := by simp [entryFree]

theorem entryFree_eq_false_iff : entryFree s x = false ↔ ∃ j ∈ s.cipher.jobs, j.entry = x := by simp [entryFree]

theorem cacheWithRoom_of_room (h : s.cipher.cache.length < 8192) : cacheWithRoom s = s.cipher.cache := if_pos h

/-- Where every entry is pinned, the new one enters beside them (log entry 139). -/
theorem cacheWithRoom_of_pinned (hx : ∀ x ∈ s.cipher.cache, ∃ j ∈ s.cipher.jobs, j.entry = x) : cacheWithRoom s = s.cipher.cache := by
  have hi : s.cipher.cache.findIdx? (entryFree s) = none := List.findIdx?_eq_none_iff.2 fun x h => entryFree_eq_false_iff.2 (hx x h)
  unfold cacheWithRoom
  rw [hi]
  exact ite_self _

theorem cacheWithRoom_of_full (hf : 8192 ≤ s.cipher.cache.length) (hc : s.cipher.cache = pre ++ old :: post)
    (hpre : ∀ x ∈ pre, ∃ j ∈ s.cipher.jobs, j.entry = x) (hold : ∀ j ∈ s.cipher.jobs, j.entry ≠ old) :
    cacheWithRoom s = pre ++ post := by
  have hnone : pre.findIdx? (entryFree s) = none := List.findIdx?_eq_none_iff.2 fun x h => entryFree_eq_false_iff.2 (hpre x h)
  have hi : s.cipher.cache.findIdx? (entryFree s) = some pre.length := by
    rw [hc, List.findIdx?_append, hnone, List.findIdx?_cons, entryFree_iff.2 hold]
    simp
  unfold cacheWithRoom
  rw [if_neg (Nat.not_lt_of_le hf), hi]
  dsimp only
  rw [hc, List.eraseIdx_append_of_length_le le_rfl, Nat.sub_self]
  rfl

end

/-! ### PN_RESERVE (R280, R281) -/

section
variable {n m status : Nat} {ok : Bool} {s : State}

theorem effPnReserve_of_enough (h : s.get .CIPH_LINE_PN_NEXT_PN n + 2 ^ 31 ≤ s.get .CIPH_LINE_PN_MARK_MARK n) :
    effPnReserve n ok status s = s := if_pos h

theorem effPnReserve_of_written (h : s.get .CIPH_LINE_PN_MARK_MARK n < s.get .CIPH_LINE_PN_NEXT_PN n + 2 ^ 31) (ho : storeOpen s = true)
    (hm : m = min (s.get .CIPH_LINE_PN_MARK_MARK n + 2 ^ 32) (2 ^ 64 - 1)) : effPnReserve n true status s =
      (journalAdd 2 0 [n] 40 0 (((s.set .CIPH_LINE_PN_MARK_MARK m n).set .CIPH_STATUS_PN_STORE_OK 1).setNand
        (fun x => { x with marks := Tab.put 0 x.marks n m }))).raise 0x0C06 [n, m / 2 ^ 32, m % 2 ^ 32] := by
  unfold effPnReserve
  dsimp only
  rw [if_neg (Nat.not_le_of_lt h), if_pos ⟨rfl, ho⟩, ← hm]

theorem effPnReserve_of_unwritten (h : s.get .CIPH_LINE_PN_MARK_MARK n < s.get .CIPH_LINE_PN_NEXT_PN n + 2 ^ 31)
    (hno : ok = false ∨ storeOpen s = false) :
    effPnReserve n ok status s = (s.set .CIPH_STATUS_PN_STORE_OK 0).raise 0x0C02 [n, status] :=
  (if_neg (Nat.not_le_of_lt h)).trans (if_neg fun ⟨hok, ho⟩ =>
    hno.elim (fun hf => Bool.false_ne_true (hf.symm.trans hok)) (fun hf => Bool.false_ne_true (hf.symm.trans ho)))

end

/-- Settles O34, one row of the table after the other. -/
theorem cipherEventsComplete : Obligations.CipherEventsComplete := by
  refine ⟨fun k j s t hj ht => ⟨fun h => ?_, fun hfirst hkey => ?_⟩, fun k s h => next_congr (effCipherJobDone_of_none h),
    fun key it h pn a b plain he hp => ⟨fun hlen htag => ?_, fun hno => ?_⟩,
    fun s => ⟨fun h => next_congr (effKeyDerivation_of_none h), fun e rest h => ⟨fun hroom => ?_, fun hf =>
      ⟨fun pre old post hc hpre hold => ?_, fun hx => ?_⟩⟩⟩,
    fun n ok status s => ⟨fun h => next_congr (effPnReserve_of_enough h), fun m h ho hm => next_congr (effPnReserve_of_written h ho hm),
      fun h hno => next_congr (effPnReserve_of_unwritten h hno)⟩⟩
  · refine next_congr (effCipherJobDone_of_waiting hj fun ⟨hfirst, hkey⟩ => ?_)
    exact h.elim (· hfirst) fun hd => Bool.false_ne_true (hkey.symm.trans hd)
  · have hd := effCipherJobDone_of_ended hj ⟨hfirst, hkey⟩
    change t = jobTaken j s at ht
    rw [← ht] at hd
    exact ⟨fun hi => next_congr (hd.trans (jobOutcome_of_gone hi)), fun hi =>
      ⟨fun ho => next_congr (hd.trans (jobOutcome_of_unsound hi ho)), fun plain ho => next_congr (hd.trans (jobOutcome_of_sound hi ho))⟩⟩
  · exact (openEnvelope_eq he hp).trans (if_pos ⟨hlen, htag⟩)
  · exact (openEnvelope_eq he hp).trans (if_neg fun ⟨hlen, htag⟩ => hno.elim (Nat.not_lt_of_le hlen) (· htag))
  · exact next_congr ((effKeyDerivation_of_miss h).trans (by rw [cacheWithRoom_of_room hroom]))
  · exact next_congr ((effKeyDerivation_of_miss h).trans (by rw [cacheWithRoom_of_full hf hc hpre hold]))
  · exact next_congr ((effKeyDerivation_of_miss h).trans (by rw [cacheWithRoom_of_pinned hx]))

end Sys2Proof.Machine

/-! ## STANDBY, the power-down, doze and the drain point (`05_release_rule.md` R141; `15_power.md` R373, R377 to R385) -/

namespace Sys2Proof.Machine

open Sys2Proof

/-! ### STANDBY is entered (R377, R380, R383) -/

/-- The idle timers, up to date, call for STANDBY (R377, R383). -/
def standbyDue (t : State) : Prop :=
  t.get .PWR_STATE_STATE = 2 ∧ t.get .PWR_IDLE_IDLE_EN = 1 ∧ bit (t.get .PWR_IDLE_STANDBY_MODES) t.mode = true ∧ t.mode ≠ 5 ∧
    t.pins.pfail = true ∧ t.power.idleSince ≠ 0 ∧ t.power.idleSince - 1 + t.get .PWR_IDLE_DEVICE_MS * uMs ≤ t.now

section
variable {ph n : Nat} {s t : State}

theorem pfailHolds_iff : pfailHolds s = true ↔ s.pins.pfail = false := by simp [pfailHolds]

theorem pfailHolds_of_high (h : s.pins.pfail = true) : pfailHolds s = false := by simp [pfailHolds, h]

theorem standbyDue_iff : standbyDue t ↔ (t.get .PWR_STATE_STATE = 2 ∧ t.isSet .PWR_IDLE_IDLE_EN ∧ bit (t.get .PWR_IDLE_STANDBY_MODES) t.mode ∧
    t.mode ≠ 5 ∧ !(pfailHolds t) ∧ t.power.idleSince ≠ 0 ∧ t.power.idleSince - 1 + t.get .PWR_IDLE_DEVICE_MS * uMs ≤ t.now) := by
  simp only [standbyDue, State.isSet_iff, pfailHolds, Bool.not_not]

theorem effIdleTimerExpiry_of_due (ht : t = refreshIdle s) (h : standbyDue t) : effIdleTimerExpiry s = beginStandby t := by
  subst ht
  exact if_pos (standbyDue_iff.1 h)

theorem effIdleTimerExpiry_of_not_due (ht : t = refreshIdle s) (h : ¬ standbyDue t) : effIdleTimerExpiry s = t := by
  subst ht
  exact if_neg (mt standbyDue_iff.2 h)

theorem beginStandby_eq (ht : t = s.setPower (fun w => { w with request := none, back := false, wokeBy := 0 })) :
    beginStandby s = if s.power.wokeAt = s.now + 1 then t else setPowerState 3 1 t := by
  subst ht
  rfl

/-! ### Its phases (R379 to R381, R383) -/

/-- Phase n, which waits for the store, does not hold phase ph (S2 and D2, R380, Table 15.9). -/
theorem not_storeWaits (h : ph = n → storeQuiet s = true) : ¬(ph = n ∧ (!(storeQuiet s)) = true) := by
  rintro ⟨hn, hq⟩
  rw [h hn] at hq
  exact Bool.false_ne_true hq

theorem effStandbyPhaseEnd_of_held
    (h : s.pins.pfail = false ∨ s.get .PWR_STATE_PHASE = 0 ∨ 3 < s.get .PWR_STATE_PHASE ∨
      (s.get .PWR_STATE_STATE ≠ 3 ∧ s.get .PWR_STATE_STATE ≠ 5)) : effStandbyPhaseEnd s = s := by
  unfold effStandbyPhaseEnd
  rcases h with h | h | h | ⟨h3, h5⟩
  · exact if_pos (.inl (pfailHolds_iff.2 h))
  · exact if_pos (.inr (.inr h))
  · exact if_pos (.inr (.inl h))
  · dsimp only
    rw [if_neg h3, if_neg h5, ite_self]

/-- A phase of STANDBY's entry or of its undoing may end. -/
def standbyPhase (s : State) : Prop := s.pins.pfail = true ∧ 0 < s.get .PWR_STATE_PHASE ∧ s.get .PWR_STATE_PHASE ≤ 3

theorem standbyPhase.not_held (h : standbyPhase s) :
    ¬(pfailHolds s = true ∨ 3 < s.get .PWR_STATE_PHASE ∨ s.get .PWR_STATE_PHASE = 0) := by
  obtain ⟨hp, h0, h3⟩ := h
  rw [pfailHolds_of_high hp]
  rintro (h | h | h)
  · exact Bool.false_ne_true h
  · exact Nat.not_le_of_lt h h3
  · exact h0.ne' h

theorem effStandbyPhaseEnd_of_entry (h : standbyPhase s) (hst : s.get .PWR_STATE_STATE = 3) (hph : s.get .PWR_STATE_PHASE = ph) :
    effStandbyPhaseEnd s =
      if s.power.request = some 2 then beginPowerDown s
      else if ph = 2 ∧ !(storeQuiet s) then s
      else if s.power.wokeBy ≠ 0 then abandonStandby ph 0 s
      else if ph = 1 then if deviceIdle 1 s then journalClose (s.set .PWR_STATE_PHASE 2) else abandonStandby 1 1 s
      else if ph = 2 then lowerForStandby (gateClusters (s.set .PWR_STATE_PHASE 3))
      else takeRequest (setPowerState 4 0 (s.inc .PWR_STANDBY_ENTRIES)) := by
  subst hph
  exact (if_neg h.not_held).trans (if_pos hst)

theorem effStandbyPhaseEnd_of_undoing (h : standbyPhase s) (hst : s.get .PWR_STATE_STATE = 5) (hph : s.get .PWR_STATE_PHASE = ph)
    (ht : t = s.when (ph = 3) ungateClusters) : effStandbyPhaseEnd s =
      if s.power.request = some 2 then beginPowerDown s
      else if ph = 1 then takeRequest (portsResume (setPowerState 2 0 (t.setPower (fun w => { w with back := false }))))
      else t.set .PWR_STATE_PHASE (ph - 1) := by
  subst hph ht
  exact (if_neg h.not_held).trans ((if_neg (by rw [hst]; decide)).trans (if_pos hst))

theorem effStandbyPhaseEnd_of_off_request (h : standbyPhase s) (hst : s.get .PWR_STATE_STATE = 3 ∨ s.get .PWR_STATE_STATE = 5)
    (hr : s.power.request = some 2) : effStandbyPhaseEnd s = beginPowerDown s :=
  hst.elim (fun h3 => (effStandbyPhaseEnd_of_entry h h3 rfl).trans (if_pos hr))
    (fun h5 => (effStandbyPhaseEnd_of_undoing h h5 rfl rfl).trans (if_pos hr))

end

/-! ### WAKE (R379, R380, R383) -/

/-- A wake source of Table 15.8 is enabled, and source 6 has come to its time. -/
def wakeOn (src : Nat) (s : State) : Prop :=
  bit (s.get .PWR_WAKE_ENABLE) src = true ∧ (src = 6 → s.get .PWR_WAKE_AT_S ≤ serviceTime s / uS)

section
variable {src : Nat} {s t : State}

theorem wakeBy_of_off (h : ¬ wakeOn src s) : wakeBy src s = s := by
  refine if_pos ((not_and_or.1 h).imp (fun h => ?_) fun h => ?_)
  · rw [eq_false_of_ne_true h]
    rfl
  · obtain ⟨h6, hlt⟩ := Classical.not_imp.1 h
    exact ⟨h6, Nat.lt_of_not_le hlt⟩

theorem wakeBy_of_on (h : wakeOn src s) (ht : t = (s.set .PWR_STATE_LAST_WAKE src).raise 0x0203 [src]) : wakeBy src s =
    if s.get .PWR_STATE_STATE = 2 then s.setPower (fun w => { w with wokeAt := s.now + 1 })
    else if s.get .PWR_STATE_STATE = 3 then s.setPower (fun w => { w with wokeBy := if w.wokeBy = 0 then src + 1 else w.wokeBy })
    else if s.get .PWR_STATE_STATE = 4 ∧ s.power.request ≠ some 0 then
      if pfailHolds s then t.setPower (fun w => { w with request := some 0 }) else leaveStandby t
    else s := by
  subst ht
  obtain ⟨hb, h6⟩ := h
  refine if_neg ?_
  rw [hb]
  rintro (h | ⟨h, hlt⟩)
  · exact Bool.false_ne_true h
  · exact Nat.not_le_of_lt hlt (h6 h)

end

/-! ### The power-down (R381, R383, Table 15.9) -/

/-- A phase of a power-down or of its undoing may end: PFAIL_N low holds D1 to D3. -/
def powerDownPhase (s : State) : Prop := 4 ≤ s.get .PWR_STATE_PHASE ∧ (s.pins.pfail = true ∨ 7 ≤ s.get .PWR_STATE_PHASE)

section
variable {ph : Nat} {s t : State}

theorem effPowerdownPhaseEnd_of_held
    (h : s.get .PWR_STATE_PHASE < 4 ∨ (s.pins.pfail = false ∧ s.get .PWR_STATE_PHASE < 7) ∨
      (s.get .PWR_STATE_STATE ≠ 5 ∧ s.get .PWR_STATE_STATE ≠ 6)) : effPowerdownPhaseEnd s = s := by
  unfold effPowerdownPhaseEnd
  rcases h with h | ⟨hp, h⟩ | ⟨h5, h6⟩
  · exact if_pos (.inl h)
  · exact if_pos (.inr ⟨pfailHolds_iff.2 hp, h⟩)
  · dsimp only
    rw [if_neg h6, if_neg h5, ite_self]

theorem powerDownPhase.not_held (h : powerDownPhase s) :
    ¬(s.get .PWR_STATE_PHASE < 4 ∨ (pfailHolds s = true ∧ s.get .PWR_STATE_PHASE < 7)) := by
  obtain ⟨h4, h7⟩ := h
  rintro (h | ⟨hp, h⟩)
  · exact Nat.not_le_of_lt h h4
  · exact h7.elim (fun ht => Bool.false_ne_true ((pfailHolds_iff.1 hp).symm.trans ht)) (Nat.not_le_of_lt h)

theorem effPowerdownPhaseEnd_of_down (h : powerDownPhase s) (hst : s.get .PWR_STATE_STATE = 6) (hph : s.get .PWR_STATE_PHASE = ph) :
    effPowerdownPhaseEnd s =
      if ph = 5 ∧ !(storeQuiet s) then s
      else if ph ≤ 6 ∧ s.power.request = some 0 then setPowerState 5 ph (s.setPower (fun w => { w with request := none, back := true }))
      else if ph = 4 then powerDownD2 (s.set .PWR_STATE_PHASE 5)
      else if ph = 5 then gateClusters (s.set .PWR_STATE_PHASE 6)
      else if ph = 6 then ({ s with pins := { s.pins with mainEn := false } }.emit (.rail 0 false)).set .PWR_STATE_PHASE 7
      else if ph = 7 then s.set .PWR_STATE_PHASE 8
      else reachOff s := by
  subst hph
  exact (if_neg h.not_held).trans (if_pos hst)

theorem effPowerdownPhaseEnd_of_undoing (h : powerDownPhase s) (hst : s.get .PWR_STATE_STATE = 5) (hph : s.get .PWR_STATE_PHASE = ph)
    (ht : t = if ph = 6 then ungateClusters (s.setCls (fun c => { c with loading := (List.range 8).map (fun p => (p, 1)) })) else s) :
    effPowerdownPhaseEnd s =
      if s.power.request = some 2 then beginPowerDown s
      else if ph = 4 then takeRequest (powerBack (setPowerState 2 0 (t.setPower (fun w => { w with back := false }))))
      else t.set .PWR_STATE_PHASE (ph - 1) := by
  have hw : t = s.when (ph = 6) (fun s => ungateClusters (s.setCls (fun c => { c with loading := (List.range 8).map (fun p => (p, 1)) }))) :=
    ht.trans (if_congr decide_eq_true_iff.symm rfl rfl)
  subst hph hw
  exact (if_neg h.not_held).trans ((if_neg (by rw [hst]; decide)).trans (if_pos hst))

end

/-! ### Cluster doze (R384) -/

/-- A cluster has been idle for its TIMER_US, and may doze. -/
def dozeDue (c : Nat) (t : State) : Prop :=
  t.get .PWR_STATE_STATE = 2 ∧ t.get .PWR_DOZE_DOZE_EN c = 1 ∧ t.get .PWR_DOZE_DOZING c ≠ 1 ∧ Tab.get 0 t.power.clusterIdle c ≠ 0 ∧
    Tab.get 0 t.power.clusterIdle c - 1 + t.get .PWR_DOZE_TIMER_US c * uUs ≤ t.now

section
variable {c : Fin 23} {w : Bool} {s t : State}

theorem dozeDue_iff {c : Nat} : dozeDue c t ↔ ¬(t.get .PWR_STATE_STATE ≠ 2 ∨ !(t.isSet .PWR_DOZE_DOZE_EN c) ∨ t.isSet .PWR_DOZE_DOZING c ∨
    Tab.get 0 t.power.clusterIdle c = 0 ∨ t.now < Tab.get 0 t.power.clusterIdle c - 1 + t.get .PWR_DOZE_TIMER_US c * uUs) := by
  simp only [dozeDue, not_or, not_not, Bool.not_eq_true', Bool.not_eq_false, State.isSet_iff, not_lt, ne_eq]

theorem effClusterDozeEntry_of_not_due (ht : t = refreshIdle s) (h : ¬ dozeDue c t) : effClusterDozeEntry c w s = t := by
  subst ht
  exact if_pos (not_not.1 (mt dozeDue_iff.2 h))

theorem effClusterDozeEntry_of_due (ht : t = refreshIdle s) (h : dozeDue c t) : effClusterDozeEntry c w s =
    if w = true then t.inc .PWR_DOZE_ABANDONED
    else if c.val = 22 then cpuShowAll ((t.set .PWR_DOZE_DOZING 1 c).inc .PWR_DOZE_ENTRIES)
    else (t.set .PWR_DOZE_DOZING 1 c).inc .PWR_DOZE_ENTRIES := by
  subst ht
  exact if_neg (dozeDue_iff.1 h)

theorem effClusterDozeWake_of_dozing (h : s.get .PWR_DOZE_DOZING c = 1) : effClusterDozeWake c s =
    if c.val = 22 then cpuShowAll (s.set .PWR_DOZE_DOZING 0 c) else s.set .PWR_DOZE_DOZING 0 c := if_pos (State.isSet_iff.2 h)

theorem effClusterDozeWake_of_awake (h : s.get .PWR_DOZE_DOZING c ≠ 1) : effClusterDozeWake c s = s := if_neg (mt State.isSet_iff.1 h)

/-! ### The drain point (R141, R373, R385) -/

theorem effDrainPoint_of_waiting (h : s.get .PWR_MODE_CHANGING ≠ 1 ∨ s.power.newMode = 0 ∨ drained s = false) : effDrainPoint s = s :=
  if_pos (h.imp (fun h => by rw [State.isSet_eq_false_iff.2 h]; rfl) (Or.imp_right fun h => by rw [h]; rfl))

theorem effDrainPoint_of_reached {m : Nat} {u v : State} (hc : s.get .PWR_MODE_CHANGING = 1) (hm : s.power.newMode = m + 1)
    (hd : drained s = true)
    (ht : t = refreshDraining ((markOld (s.setAll [(.PWR_MODE_CHANGING, 0), (.PWR_MODE_CURRENT, m), (.SW_RELEASE_BEHAVIOUR, modeBehaviour m)])).setPower
      (fun w => { w with newMode := 0 })))
    (hu : u = if m = 4 ∨ s.mode = 4 then dvfsSetting (t.set .CIPH_STATUS_CLUSTERS_ON (modeClusters m)) else t)
    (hv : v = if m ≠ 4 ∧ s.mode = 4 then u.setCls (fun c => { c with loading := [4, 5, 6, 7].foldl (fun t p => Tab.put 0 t p 1) c.loading }) else u) :
    effDrainPoint s = v.raise 0x0107 [m, s.mode, 0] := by
  have hn : ¬((!s.isSet .PWR_MODE_CHANGING) = true ∨ s.power.newMode = 0 ∨ (!drained s) = true) := by
    rw [State.isSet_iff.2 hc, hm, hd]
    simp
  obtain rfl : m = s.power.newMode - 1 := by rw [hm, Nat.add_sub_cancel]
  subst ht hu hv
  exact if_neg hn

end

/-- Settles O40, one row of the table after the other. -/
theorem powerStateEventsComplete : Obligations.PowerStateEventsComplete := by
  refine ⟨fun s t may ht hmay => ⟨fun h => next_congr (effIdleTimerExpiry_of_due ht (hmay.1 h)),
      fun h => next_congr (effIdleTimerExpiry_of_not_due ht (mt hmay.2 h))⟩,
    fun s st ph hst hph => ?_, fun src s t on st hst ht hon => ?_,
    fun s t ht => ⟨fun h => (beginStandby_eq ht).trans (if_pos h), fun h => (beginStandby_eq ht).trans (if_neg h)⟩,
    fun s st ph hst hph => ?_, fun c w s t u due ht hu hdue => ⟨fun h => next_congr (effClusterDozeEntry_of_not_due ht (mt hdue.2 h)),
      fun h => ?_⟩,
    fun c s => ⟨fun h hc => next_congr ((effClusterDozeWake_of_dozing h).trans (if_neg hc)),
      fun h hc => next_congr ((effClusterDozeWake_of_dozing h).trans (if_pos hc)), fun h => next_congr (effClusterDozeWake_of_awake h)⟩,
    fun s => ⟨fun h => next_congr (effDrainPoint_of_waiting h), fun m t u v hc hm hd ht hu hv =>
      next_congr (effDrainPoint_of_reached hc hm hd ht hu hv)⟩⟩
  · subst hst
    refine ⟨fun h => next_congr (effStandbyPhaseEnd_of_held (hph ▸ h)), fun hp h0 h3 hst hr =>
      next_congr (effStandbyPhaseEnd_of_off_request ⟨hp, hph ▸ h0, hph ▸ h3⟩ hst hr), fun hp hst hr => ?_, fun hp hst hr => ?_⟩
    · have hx (h0 : 0 < ph) (h3 : ph ≤ 3) := (effStandbyPhaseEnd_of_entry ⟨hp, hph ▸ h0, hph ▸ h3⟩ hst hph.symm).trans (if_neg hr)
      refine ⟨fun h2 hq => next_congr ?_, fun h hw => next_congr ?_, fun hw => ⟨fun h1 hi => next_congr ?_, fun h1 hi => next_congr ?_,
        fun h2 hq => next_congr ?_, fun h3 => next_congr ?_⟩⟩
      · rw [hx (by omega) (by omega), if_pos ⟨h2, by simp [hq]⟩]
      · rw [hx (by omega) (by omega), if_neg (not_storeWaits fun h2 => by simpa [h2] using h), if_pos hw]
      · rw [hx (by omega) (by omega), if_neg (by omega), if_neg (not_not_intro hw), if_pos h1, if_pos hi]
      · rw [hx (by omega) (by omega), if_neg (by omega), if_neg (not_not_intro hw), if_pos h1, if_neg (ne_true_of_eq_false hi)]
      · rw [hx (by omega) (by omega), if_neg (not_storeWaits fun _ => hq), if_neg (not_not_intro hw), if_neg (by omega), if_pos h2]
      · rw [hx (by omega) (by omega), if_neg (by omega), if_neg (not_not_intro hw), if_neg (by omega), if_neg (by omega)]
    · have hx (h0 : 0 < ph) (h3 : ph ≤ 3) := (effStandbyPhaseEnd_of_undoing ⟨hp, hph ▸ h0, hph ▸ h3⟩ hst hph.symm rfl).trans (if_neg hr)
      refine ⟨fun h3 => next_congr ?_, fun h2 => next_congr ?_, fun h1 => next_congr ?_⟩
      · rw [hx (by omega) (by omega), if_neg (by omega), h3]
        rfl
      · rw [hx (by omega) (by omega), if_neg (by omega), h2]
        rfl
      · rw [hx (by omega) (by omega), if_pos h1, h1]
        rfl
  · subst hst
    have hx (h : on) : effWake src s = _ := wakeBy_of_on (hon.1 h) ht
    refine ⟨fun h => ?_, fun h h2 => next_congr ((hx h).trans (if_pos h2)),
      fun h h3 => next_congr ((hx h).trans ((if_neg (by omega)).trans (if_pos h3))),
      fun h h4 hr => ?_⟩
    · by_cases ho : on
      · refine next_congr ((hx ho).trans ?_)
        rcases h with h | ⟨h2, h3, h4⟩ | ⟨h4, hr⟩
        · exact absurd ho h
        · rw [if_neg h2, if_neg h3, if_neg fun h => h4 h.1]
        · rw [if_neg (by omega), if_neg (by omega), if_neg fun h => h.2 hr]
      · exact next_congr (wakeBy_of_off (mt hon.2 ho))
    · have hy := (hx h).trans ((if_neg (by omega)).trans ((if_neg (by omega)).trans (if_pos ⟨h4, hr⟩)))
      exact ⟨fun hp => next_congr (hy.trans (if_neg (ne_true_of_eq_false (pfailHolds_of_high hp)))),
        fun hp => next_congr (hy.trans (if_pos (pfailHolds_iff.2 hp)))⟩
  · subst hst
    refine ⟨fun h => next_congr (effPowerdownPhaseEnd_of_held (hph ▸ h)), fun hst h4 h7 => ?_, fun t hst h4 h7 ht => ?_⟩
    · have hx := effPowerdownPhaseEnd_of_down ⟨hph ▸ h4, hph ▸ h7⟩ hst hph.symm
      refine ⟨fun h5 hq => next_congr ?_, fun h hr => next_congr ?_, fun hr => ⟨fun h4 => next_congr ?_, fun h5 hq => next_congr ?_,
        fun h6 => next_congr ?_⟩, fun h7 => next_congr ?_, fun h8 => next_congr ?_⟩
      · rw [hx, if_pos ⟨h5, by simp [hq]⟩]
      · rw [hx, if_neg (not_storeWaits fun h5 => by simpa [h5] using h), if_pos ⟨by omega, hr⟩]
      · rw [hx, if_neg (by omega), if_neg fun h => hr h.2, if_pos h4]
      · rw [hx, if_neg (not_storeWaits fun _ => hq), if_neg fun h => hr h.2, if_neg (by omega), if_pos h5]
      · rw [hx, if_neg (by omega), if_neg fun h => hr h.2, if_neg (by omega), if_neg (by omega), if_pos h6]
      · rw [hx, if_neg (by omega), if_neg (by omega), if_neg (by omega), if_neg (by omega), if_neg (by omega), if_pos h7]
      · rw [hx, if_neg (by omega), if_neg (by omega), if_neg (by omega), if_neg (by omega), if_neg (by omega), if_neg (by omega)]
    · have hx := effPowerdownPhaseEnd_of_undoing ⟨hph ▸ h4, hph ▸ h7⟩ hst hph.symm ht
      refine ⟨fun hr => next_congr (hx.trans (if_pos hr)), fun hr => ⟨fun h4 => ?_, fun h4 => ?_⟩⟩
      · obtain rfl : t = s := ht.trans (if_neg (by omega))
        exact next_congr (hx.trans ((if_neg hr).trans (if_pos h4)))
      · exact next_congr (hx.trans ((if_neg hr).trans (if_neg h4)))
  · subst hu
    have hx := effClusterDozeEntry_of_due (w := w) ht (hdue.1 h)
    exact ⟨fun hw => next_congr (hx.trans (if_pos hw)), fun hw => next_congr (hx.trans (if_neg (ne_true_of_eq_false hw)))⟩

end Sys2Proof.Machine

/-! ## Admission, flushes, Sage, spill and the pools (`05_release_rule.md` R137, R142; `06_host_lanes.md` R172; `09_buffers.md` R223 to
R247; `16_faults.md` R395) -/

namespace Sys2Proof.Machine

open Sys2Proof

/-! ### Admission (R137, R223, R227, R395) -/

/-- An item decided to be forwarded. -/
def isForward (it : Item) : Bool := match it.decision with | some (.forward ..) => true | _ => false

theorem isForward_iff {it : Item} : isForward it = true ↔ ∃ a b c v l w, it.decision = some (.forward a b c v l w) := by
  unfold isForward
  split
  next a b c v l w h => exact iff_of_true rfl ⟨a, b, c, v, l, w, h⟩
  next h => exact iff_of_false nofun fun ⟨a, b, c, v, l, w, he⟩ => h a b c v l w he

/-- An arrival that admission takes: decided to be forwarded, without a copy, under ASSURED confirmed (R137). -/
def mayAdmit (k : Nat) (s : State) : Prop :=
  hasItem s k = true ∧ isForward (s.item k) = true ∧ (s.item k).points.contains 0 = false ∧ copiesOf s k = [] ∧
    (behaviour s ≠ 0 ∨ isConfirmed (s.item k) = true)

section
variable {k : Nat} {more : List CopyTo} {s : State}

theorem mayAdmit_iff : mayAdmit k s ↔ ¬((!(hasItem s k)) = true ∨ (!(isForward (s.item k))) = true ∨ (s.item k).points.contains 0 = true ∨
    (!(copiesOf s k).isEmpty) = true ∨ (behaviour s = 0 ∧ (!(isConfirmed (s.item k))) = true)) := by
  simp only [mayAdmit, not_or, not_and_or, Bool.not_eq_true', Bool.not_eq_true, Bool.not_eq_false, List.isEmpty_eq_false_iff, not_not, ne_eq]

theorem admitOne_of_barred (h : ¬ mayAdmit k s) : admitOne s (k, more) = s := if_pos (not_not.1 (mt mayAdmit_iff.2 h))

theorem admitOne_of_arrival (h : mayAdmit k s) :
    admitOne s (k, more) = if s.restarting 20 then recoveryDrop k s else admitItem k more s := if_neg (mayAdmit_iff.1 h)

end

/-! ### Flushes (R233, R234) -/

section
variable {d x a : Nat} {s t : State}

theorem effFlushDone_of_idle (h : s.get .SW_DEST_STATE_FLUSHING d ≠ 1) : effFlushDone d s = s :=
  if_pos (by rw [State.isSet_eq_false_iff.2 h]; rfl)

/-- The last flush of a flush of the whole store has ended. -/
def wholeFlushEnds (t : State) : Prop := t.sw.wholeFlush = true ∧ ∀ x, x < 42 → t.get .SW_DEST_STATE_FLUSHING x ≠ 1

theorem wholeFlushEnds_iff : wholeFlushEnds t ↔
    (t.sw.wholeFlush = true ∧ (List.range 42).all (fun x => !(t.isSet .SW_DEST_STATE_FLUSHING x)) = true) := by
  simp only [wholeFlushEnds, List.all_eq_true, List.mem_range, Bool.not_eq_true', State.isSet_eq_false_iff]

/-- What the end of a flush leaves: FLUSHING at 0, and the event of what was freed (Table 9.8). -/
def flushEnded (d : Nat) (s : State) : State :=
  ((s.set .SW_DEST_STATE_FLUSHING 0 d).raise 0x0A03 [d, Tab.get 0 s.sw.flushFreed d]).setSw (fun w =>
    { w with flushFreed := Tab.put 0 w.flushFreed d 0, flushSince := Tab.put 0 w.flushSince d 0 })

theorem flushEnded_wholeFlush : (flushEnded d s).sw.wholeFlush = s.sw.wholeFlush := rfl

theorem effFlushDone_of_flushing (h : s.get .SW_DEST_STATE_FLUSHING d = 1) : effFlushDone d s =
    if (flushEnded d s).sw.wholeFlush = true ∧ (List.range 42).all (fun x => !((flushEnded d s).isSet .SW_DEST_STATE_FLUSHING x)) = true then
      ((flushEnded d s).setSw (fun w => { w with wholeFlush := false })).set .SW_SAGE_PAUSED 0
    else flushEnded d s := if_neg (by rw [State.isSet_iff.2 h]; exact Bool.false_ne_true)

theorem effFlushDone_of_last (h : s.get .SW_DEST_STATE_FLUSHING d = 1) (hl : wholeFlushEnds (flushEnded d s)) :
    effFlushDone d s = ((flushEnded d s).setSw (fun w => { w with wholeFlush := false })).set .SW_SAGE_PAUSED 0 :=
  (effFlushDone_of_flushing h).trans (if_pos (wholeFlushEnds_iff.1 hl))

theorem effFlushDone_of_not_last (h : s.get .SW_DEST_STATE_FLUSHING d = 1) (hl : ¬ wholeFlushEnds (flushEnded d s)) :
    effFlushDone d s = flushEnded d s := (effFlushDone_of_flushing h).trans (if_neg (mt wholeFlushEnds_iff.2 hl))

theorem effDownFlushTimer_of_barred (h : (s.hp x).downSince = 0 ∨ s.get .SW_DEST_ALLOC_DOWN_ACTION x ≠ 1 ∨ s.link x = lsUp ∨
    s.get .SW_DEST_STATE_DOWN_DROPPING x = 1) : effDownFlushTimer x s = s := by
  refine if_pos ?_
  rcases h with h | h | h | h
  · exact .inl h
  · exact .inr (.inl (by rw [State.isSet_eq_false_iff.2 h]; rfl))
  · exact .inr (.inr (.inl h))
  · exact .inr (.inr (.inr (.inl (State.isSet_iff.2 h))))

theorem effDownFlushTimer_of_down (h : (s.hp x).downSince = a + 1) (hact : s.get .SW_DEST_ALLOC_DOWN_ACTION x = 1) (hup : s.link x ≠ lsUp)
    (hd : s.get .SW_DEST_STATE_DOWN_DROPPING x ≠ 1) : effDownFlushTimer x s =
      if s.now < a + s.get .SW_DEST_ALLOC_DOWN_FLUSH_MS x * uMs then s else (startFlush x s).set .SW_DEST_STATE_DOWN_DROPPING 1 x := by
  unfold effDownFlushTimer
  dsimp only
  rw [h, State.isSet_iff.2 hact, State.isSet_eq_false_iff.2 hd]
  simp [hup]

end

/-! ### Sage (R237 to R239) -/

section
variable {a b : SageCell} {s t : State}

theorem effSageExamine_of_paused (h : s.get .SW_SAGE_EN ≠ 1 ∨ s.get .SW_SAGE_PAUSED = 1 ∨ s.restarting 20 = true) :
    effSageExamine a b s = s :=
  if_pos (h.imp (fun h => by rw [State.isSet_eq_false_iff.2 h]; rfl) (Or.imp_left State.isSet_iff.2))

theorem effSageExamine_of_running (he : s.get .SW_SAGE_EN = 1) (hp : s.get .SW_SAGE_PAUSED ≠ 1) (hr : s.restarting 20 = false)
    (ht : t = sageNext false (sageAt (s.get .SW_SAGE_SRAM_POS) false a s)) :
    effSageExamine a b s = sageNext true (sageAt (1048576 + t.get .SW_SAGE_HBM_POS) true b t) := by
  subst ht
  refine if_neg ?_
  rw [State.isSet_iff.2 he, State.isSet_eq_false_iff.2 hp, hr]
  decide

end

section
variable {cell tag : Nat} {hbm : Bool} {s t back : State}

/-- The cell is forgotten (R238). -/
def sageForget (cell : Nat) (s : State) : State :=
  s.setSage (fun g => { g with seen := g.seen.filter (fun p => p.1 ≠ cell), doubles := g.doubles.filter (· ≠ cell) })

theorem sageAt_leaked (hback : back = (sageForget cell s).set .SW_SHARED_FREE
      (min (allCells (sageForget cell s)) ((sageForget cell s).get .SW_SHARED_FREE + 1))) : sageAt cell hbm (.leaked tag) s =
    if s.sw.sage.doubles.contains cell then back
    else if s.sw.sage.seen.contains (cell, tag) then
      (back.inc .SW_SAGE_RECLAIMED).setSage (fun g =>
        if hbm then { g with reclaimedHbm := g.reclaimedHbm + 1 } else { g with reclaimedSram := g.reclaimedSram + 1 })
    else (sageForget cell s).setSage (fun g => { g with seen := g.seen ++ [(cell, tag)] }) := by
  subst hback
  rfl

end

/-! ### The pools (R246, R247) -/

section
variable {o a : Nat} {s : State}

theorem effBpmAuditTimer_of_off (h : s.sw.auditSince = none ∨ s.get .BPM_STATUS_AUDIT_S = 0) : effBpmAuditTimer s = s := by
  unfold effBpmAuditTimer
  cases hs : s.sw.auditSince with
  | none => rfl
  | some a => exact if_pos (.inl (h.resolve_left (hs ▸ nofun)))

theorem effBpmAuditTimer_of_on (h : s.sw.auditSince = some a) (h0 : s.get .BPM_STATUS_AUDIT_S ≠ 0) : effBpmAuditTimer s =
    if s.now < a + s.get .BPM_STATUS_AUDIT_S * uS then s
    else bpmAudit (s.setSw (fun w => { w with auditSince := some (a + s.get .BPM_STATUS_AUDIT_S * uS) })) := by
  unfold effBpmAuditTimer
  rw [h]
  exact if_congr (or_iff_right h0) rfl rfl

end

/-! ### TX_UNDERRUN (R142, R172, R226) -/

/-- A copy that a transmitter may still read cells of. -/
def readsCells (k : Nat) (s : State) : Bool :=
  s.copies.any (fun p => p.1 == k) && decide ((s.copy k).phase < 3) && decide ((s.copy k).dest < 36 ∨ (s.copy k).phase < 2)

section
variable {k : Nat} {ecc : Bool} {s : State}

theorem effTxUnderrun_of_gone (h : readsCells k s = false) : effTxUnderrun k ecc s = s := by
  refine if_pos (.inl ?_)
  rw [show (_ && _ && _ : Bool) = false from h]
  rfl

theorem effTxUnderrun_of_in_time (h : isBegun s k = false ∨ cellMissing s (s.copy k) = false) : effTxUnderrun k false s = s := by
  refine if_pos (.inr ⟨rfl, ?_⟩)
  rw [(Bool.and_eq_false_iff).2 h]
  rfl

theorem effTxUnderrun_of_missing (h : readsCells k s = true) (hb : isBegun s k = true) (hm : cellMissing s (s.copy k) = true) :
    effTxUnderrun k false s = endOnWire k
      (countFor (s.copy k).item (if (s.copy k).dest < 32 then .HP_TX_UNDERRUN else .SWD_TX_UNDERRUN) (s.copy k).dest s) := by
  have hn : ¬((!readsCells k s) = true ∨ (!false) = true ∧ (!(isBegun s k && cellMissing s (s.copy k))) = true) := by
    rw [h, hb, hm]
    decide
  exact (if_neg hn).trans (if_pos hb)

theorem effTxUnderrun_of_ecc (h : readsCells k s = true) : effTxUnderrun k true s =
    if isBegun s k then endOnWire k (countFor (s.copy k).item .SWD_CELL_ECC_DROP (s.copy k).dest (reportUnit 20 1 (s.copy k).queue [] s))
    else dropLone k .SWD_CELL_ECC_DROP (s.copy k).dest (reportUnit 20 1 (s.copy k).queue [] s) := by
  have hn : ¬((!readsCells k s) = true ∨ (!true) = true ∧ (!(isBegun s k && cellMissing s (s.copy k))) = true) := by
    rw [h]
    exact fun hc => hc.elim Bool.false_ne_true fun hc => Bool.false_ne_true hc.1
  exact if_neg hn

end

/-- Settles O31, one row of the table after the other. -/
theorem switchEventsComplete : Obligations.SwitchEventsComplete := by
  refine ⟨fun k more s => rfl, fun k more s forward hf => ⟨fun hi hfw h0 hc hb => ?_, fun h => ?_⟩,
    fun d s t ht => ⟨fun h => next_congr (effFlushDone_of_idle h), fun h => ⟨fun hw hl => ?_, fun hno => ?_⟩⟩,
    fun x s => ⟨fun h => next_congr (effDownFlushTimer_of_barred h), fun a h hact hup hd => ?_⟩,
    fun a b s t ht => ⟨fun h => next_congr (effSageExamine_of_paused h), fun he hp hr => next_congr (effSageExamine_of_running he hp hr ht)⟩,
    fun cell hbm s t back ht hback => ?_, fun n s => ⟨fun h => next_congr (if_pos h), fun h => next_congr (if_neg (ne_true_of_eq_false h))⟩,
    fun p s => rfl, fun o s => ⟨fun h => next_congr (if_pos (State.isSet_iff.2 h)), fun h => next_congr (if_neg (mt State.isSet_iff.1 h))⟩,
    fun s => ⟨fun h => next_congr (effBpmAuditTimer_of_off h), fun a h h0 => ?_⟩, fun k ecc live s t hlive ht => ?_⟩
  · have hx := admitOne_of_arrival (more := more) ⟨hi, isForward_iff.2 (hf.1 hfw), h0, hc, hb⟩
    exact ⟨fun hr => hx.trans (if_neg (ne_true_of_eq_false hr)), fun hr => hx.trans (if_pos hr)⟩
  · refine admitOne_of_barred fun ⟨hi, hfw, h0, hc, hb⟩ => ?_
    rcases h with h | h | h | h | ⟨h, hn⟩
    · exact Bool.false_ne_true (h.symm.trans hi)
    · exact h (hf.2 (isForward_iff.1 hfw))
    · exact Bool.false_ne_true (h0.symm.trans h)
    · exact h hc
    · exact hb.elim (· h) fun hb => Bool.false_ne_true (hn.symm.trans hb)
  · obtain rfl : t = flushEnded d s := ht
    exact next_congr (effFlushDone_of_last h ⟨flushEnded_wholeFlush.trans hw, hl⟩)
  · obtain rfl : t = flushEnded d s := ht
    refine next_congr (effFlushDone_of_not_last h fun ⟨hw, hl⟩ => ?_)
    exact hno.elim (fun hf => Bool.false_ne_true (hf.symm.trans (flushEnded_wholeFlush.symm.trans hw))) fun ⟨x, hx, hx1⟩ => hl x hx hx1
  · have hx := effDownFlushTimer_of_down h hact hup hd
    exact ⟨fun hle => next_congr (hx.trans (if_neg (Nat.not_lt_of_le hle))), fun hlt => next_congr (hx.trans (if_pos hlt))⟩
  · obtain rfl : t = sageForget cell s := ht
    refine ⟨rfl, fun tag h => (sageAt_leaked hback).trans (if_pos h), fun tag h => ?_, fun holder u hu => by subst hu; rfl⟩
    have hx := (sageAt_leaked (hbm := hbm) (tag := tag) hback).trans (if_neg (ne_true_of_eq_false h))
    exact ⟨fun hs => hx.trans (if_pos hs), fun hs => hx.trans (if_neg (ne_true_of_eq_false hs))⟩
  · have hx := effBpmAuditTimer_of_on h h0
    exact ⟨fun hle => next_congr (hx.trans (if_neg (Nat.not_lt_of_le hle))), fun hlt => next_congr (hx.trans (if_pos hlt))⟩
  · obtain rfl : live = readsCells k s := hlive
    subst ht
    exact ⟨fun h => next_congr (effTxUnderrun_of_gone h), fun _ h => next_congr (effTxUnderrun_of_in_time h),
      fun h hb hm => next_congr (effTxUnderrun_of_missing h hb hm),
      fun h hb => next_congr ((effTxUnderrun_of_ecc h).trans (if_pos hb)),
      fun h hb => next_congr ((effTxUnderrun_of_ecc h).trans (if_neg (ne_true_of_eq_false hb)))⟩

end Sys2Proof.Machine

/-! ## Parsing, lookup, learning and snapshots (`05_release_rule.md` R137; `07_parsing.md` R176 to R194; `08_tables.md` R199 to R218;
`14_boot_store.md` R357, R364; `15_power.md` R385; `16_faults.md` R395) -/

namespace Sys2Proof.Machine

open Sys2Proof

/-! ### PARSE (R137, R176 to R185, R191, R385, R395) -/

/-- A cluster takes an item for its parse: the item is on the path and ready, the cluster serves and is the one its recirculation names. -/
def parseReady (k p : Nat) (s : State) : Prop :=
  hasItem s k = true ∧ s.restarting (4 + p) = false ∧ pipeOn s p = true ∧ recircTo s (s.item k).recirc p = true ∧ mayParse s (s.item k) = true

/-- What the parse leaves of an item (R180, R192, R195). -/
def parseTaken (k p : Nat) (r : Parsed) (u : State) : State :=
  u.setItem k (fun i => { i with parsed := some { r with profile := r.profile % 16 }, gen := u.get .CLS_GEN_GEN p, cluster := p,
                                 counts := i.counts ++ parseCounts p r })

/-- What follows the rule search: exception 1 where no rule matches, else the lookup (R185). -/
def ruleFound (k p klen : Nat) (up : Option (Fin 8)) (v : State) : Option (Nat × Rule) → State
  | none => classException k 1 (v.setItem k (fun i => { i with counts := i.counts ++ [(Ctr.PIPE_NO_MATCH, 1, p, 0)] }))
  | some (idx, rule) => forwardItem k klen up (v.setItem k (fun i => { i with rule := some idx, action := rule.action }))

section
variable {k p : Nat} {up : Option (Fin 8)} {s u : State} {r : Parsed}

theorem effParse_of_recovery (hi : hasItem s k = true) (hr : s.restarting (4 + p) = true) (hm : mayParse s (s.item k) = true) :
    effParse k p up s = recoveryDrop k s := if_pos ⟨hi, hr, hm⟩

theorem parseReady.not_dropped (h : parseReady k p s) :
    ¬(hasItem s k = true ∧ s.restarting (4 + p) = true ∧ mayParse s (s.item k) = true) :=
  fun hd => Bool.false_ne_true (h.2.1.symm.trans hd.2.1)

theorem parseReady.not_left (h : parseReady k p s) : ¬((!(hasItem s k)) = true ∨ (!(pipeOn s p)) = true ∨
    (!(recircTo s (s.item k).recirc p)) = true ∨ (!(mayParse s (s.item k))) = true) := by
  obtain ⟨hi, -, hp, hc, hm⟩ := h
  rw [hi, hp, hc, hm]
  decide

theorem effParse_of_left (h : hasItem s k = false ∨ mayParse s (s.item k) = false ∨ (s.restarting (4 + p) = false ∧
    (pipeOn s p = false ∨ recircTo s (s.item k).recirc p = false))) : effParse k p up s = s := by
  have hdrop : ¬(hasItem s k = true ∧ s.restarting (4 + p) = true ∧ mayParse s (s.item k) = true) := by
    rintro ⟨hi, hr, hm⟩
    rcases h with h | h | ⟨h, -⟩
    · exact Bool.false_ne_true (h.symm.trans hi)
    · exact Bool.false_ne_true (h.symm.trans hm)
    · exact Bool.false_ne_true (h.symm.trans hr)
  refine (if_neg hdrop).trans (if_pos ?_)
  simp only [Bool.not_eq_true']
  rcases h with h | h | ⟨-, h | h⟩
  · exact .inl h
  · exact .inr (.inr (.inr h))
  · exact .inr (.inl h)
  · exact .inr (.inr (.inl h))

theorem effParse_of_core {c a : Nat} (h : parseReady k p s) (hu : u = undoze (4 + p) s) (hd : (s.item k).direct = some (40, c, a)) :
    effParse k p up s = takeDecision k (.forward 40 0 0 (s.item k).vport 0 0) { kind := 2 } false
      (u.setItem k (fun i => { i with parsed := some {}, gen := u.get .CLS_GEN_GEN p, cluster := p })) := by
  subst hu
  exact (if_neg h.not_dropped).trans ((if_neg h.not_left).trans (if_pos (by rw [hd]; rfl)))

variable (h : parseReady k p s) (hu : u = undoze (4 + p) s)
  (hr : r = parseFrame (Tab.get {} u.cls.active p) (u.get .PIPE_START_TYPE p (s.item k).slot) (s.item k).bytes)
include h hu hr

theorem effParse_of_direct {d c a : Nat} (hd : (s.item k).direct = some (d, c, a)) (h40 : d ≠ 40) : effParse k p up s =
    takeDecision k (.forward d c a (s.item k).vport 0 0) { kind := 2 } false (parseTaken k p r u) := by
  subst hu hr
  refine (if_neg h.not_dropped).trans ((if_neg h.not_left).trans ((if_neg ?_).trans ?_))
  · rw [hd]
    exact fun he => h40 (Option.some.inj he)
  · dsimp only
    rw [hd]
    rfl

theorem effParse_of_failed (hd : (s.item k).direct = none) (hf : r.parseErr = true ∨ r.profile = 16) :
    effParse k p up s = classException k 0 (parseTaken k p r u) := by
  subst hu hr
  refine (if_neg h.not_dropped).trans ((if_neg h.not_left).trans ((if_neg (by rw [hd]; nofun)).trans ?_))
  dsimp only
  rw [hd]
  exact if_pos hf

variable {prof : KeyProfile} {key klen : Nat} {v : State}
  (hd : (s.item k).direct = none) (he : r.parseErr = false) (h16 : r.profile ≠ 16)
  (hprof : prof = Tab.get {} (Tab.get {} u.cls.active p).profiles r.profile) (hkey : key = buildKey (s.item k) r prof)
  (hv : v = (parseTaken k p r u).setItem k (fun i => { i with key := key, wide := prof.wide }))
include hd he h16 hprof hkey hv

theorem effParse_of_searched (hklen : klen = if prof.wide then 64 else 32) :
    effParse k p up s = ruleFound k p klen up v (findRule v (p / 2) prof.wide r.profile (v.get .CLS_GEN_PLANE p) key) := by
  subst hu hr hprof hkey hv hklen
  refine (if_neg h.not_dropped).trans ((if_neg h.not_left).trans ((if_neg (by rw [hd]; nofun)).trans ?_))
  dsimp only
  rw [hd]
  exact if_neg (not_or.2 ⟨ne_true_of_eq_false he, h16⟩)

end

/-! ### The lookup (R199 to R203) -/

section
variable {k klen e : Nat} {s t : State} {it : Item} {prof : LookupProfile} {d : Decision} {f : Found}

theorem forwardItem_of_decided (hit : it = s.item k) (h : bits it.action 60 4 ≠ 0)
    (hd : decide_ s it (it.parsed.getD {}) klen false = (d, f)) (up : Option (Fin 8)) :
    forwardItem k klen up s = takeDecision k d f false s := by
  subst hit
  unfold forwardItem
  dsimp only
  rw [beq_eq_false_iff_ne.2 h]
  cases up with
  | none => simp [hd]
  | some w => simp [hd]

theorem forwardItem_of_lookup (hit : it = s.item k) (hprof : prof = lprofOf s (bits it.action 48 6)) (h : bits it.action 60 4 = 0)
    (ht : t = s.setItem k (fun i => { i with lprof := prof, learn := learnOf s prof i.key klen i.slot i.vport }))
    (hd : decide_ t (t.item k) (it.parsed.getD {}) klen false = (d, f)) : forwardItem k klen none s =
      if f.hbm = true ∧ behaviour t = 0 then t.setItem k (fun i => { i with points := i.points ++ [4] }) else takeDecision k d f f.hbm t := by
  subst hit hprof ht
  unfold forwardItem
  dsimp only [Option.bind]
  rw [beq_iff_eq.2 h, if_pos rfl, hd]
  rfl

theorem forwardItem_of_upset {w : Fin 8} (hit : it = s.item k) (hprof : prof = lprofOf s (bits it.action 48 6)) (h : bits it.action 60 4 = 0)
    (hen : prof.emEn = true) (he : ((emBuckets false s (emKeyOf prof it.key klen)).flatMap emWays)[w.val]? = some e) :
    forwardItem k klen (some w) s = probeFails k e s := by
  subst hit hprof
  unfold forwardItem
  dsimp only [Option.bind]
  rw [beq_iff_eq.2 h, hen, if_pos (by decide), he]

end

/-! ### HBM_READ_RETURN (R202, R203, Table 5.1) -/

section
variable {k klen bucket stack : Nat} {ok hit : Bool} {s t u : State} {d : Decision} {f : Found}

theorem effHbmReadReturn_of_none (h : (s.item k).points.contains 4 = false) : effHbmReadReturn k ok s = s :=
  if_pos (by rw [h]; rfl)

variable (h : (s.item k).points.contains 4 = true) (hklen : klen = if (s.item k).wide then 64 else 32)
  (hb : bucket = ((emBuckets true s (emKeyOf (s.item k).lprof (s.item k).key klen)).head?).getD 0)
  (hi : inject 2 (s.get .TEST_INJECT_TARGET 2) s = (hit, t))
  (hs : stack = if hit then t.get .TEST_INJECT_TARGET 2 % 4 else Config.unitOf 27 bucket % 4)
  (hu : u = t.when (hit || !ok) (reportUnit (27 + stack) (b2n (!ok || s.get .TEST_INJECT_BITS 2 == 2)) bucket []))
include h hklen hb hi hs hu

theorem effHbmReadReturn_of_failed (hf : ok = false ∨ (hit = true ∧ s.get .TEST_INJECT_BITS 2 = 2)) :
    effHbmReadReturn k ok s = failItem k 4 [(.TBL_LOOKUP_ERR, 0, 0)] (u.raise 0x0907 [1, bucket]) := by
  obtain rfl : klen = itemKeyLen (s.item k) := hklen
  subst hb hs hu
  unfold effHbmReadReturn
  dsimp only
  rw [if_neg (by rw [h]; exact Bool.false_ne_true), hi]
  refine if_pos ?_
  rcases hf with rfl | ⟨rfl, h2⟩
  · rfl
  · simp [h2]

theorem effHbmReadReturn_of_returned (hok : ok = true) (hf : hit = false ∨ s.get .TEST_INJECT_BITS 2 ≠ 2)
    (hd : decide_ u (s.item k) ((s.item k).parsed.getD {}) klen true = (d, f)) : effHbmReadReturn k ok s =
      if (s.item k).decision.isNone then
        passPoint k 4 (takeDecision k d f false (u.setItem k (fun i => { i with points := i.points.filter (· ≠ 4) })))
      else if f.counts.contains .TBL_EM_HIT_HBM then
        takeDecision k d { f with counts := f.counts ++ [.TBL_SPEC_ABSENT_WRONG] } false
          (((copiesOf u k).foldl (fun t c => dropCopy c t) u).setItem k (fun i => { i with admission := [], flushed := [] }))
      else passPoint k 4 (u.setItem k (fun i => { i with counts := i.counts ++ f.counts.map (fun c => (c, 1, 0, 0)) })) := by
  obtain rfl : klen = itemKeyLen (s.item k) := hklen
  subst hb hs hu hok
  unfold effHbmReadReturn
  dsimp only
  rw [if_neg (by rw [h]; exact Bool.false_ne_true), hi]
  dsimp only
  have hn : ¬((!true || hit && s.get .TEST_INJECT_BITS 2 == 2) = true) := by
    rcases hf with rfl | h2
    · exact Bool.false_ne_true
    · simp [h2]
  rw [if_neg hn, hd]

end

/-! ### Replicas and banks (R187, R189, R192, R218) -/

section
variable {upset e : Nat} {s t : State} {good : Rule} {bad : List Nat}

theorem effReplicaCheck_of_early (h : s.now < s.cls.checkSince + uUs) : effReplicaCheck upset s = s := if_pos h

theorem effReplicaCheck_of_due (he : e = s.cls.checkPos) (hg : good = Tab.get {} s.cls.master e)
    (hb : bad = (List.range 4).filter (fun r => bit upset r || decide (Tab.get {} s.cls.replicas (r * 65536 + e) ≠ good)))
    (ht : t = s.setCls (fun c => { c with checkPos := (e + 1) % 65536, checkSince := c.checkSince + uUs,
                                          replicas := bad.foldl (fun m r => Tab.put {} m (r * 65536 + e) good) c.replicas }))
    (h : s.cls.checkSince + uUs ≤ s.now) : effReplicaCheck upset s =
      if bad = [] then t
      else reportUnit 21 0 e []
        ((bad.foldl (fun s r => s.inc .PIPE_REPLICA_REPAIR (2 * r)) t).raise 0x0801 [e, bad.foldl (fun m r => m + 2 ^ r) 0]) := by
  subst he hg hb ht
  exact if_neg (Nat.not_lt_of_le h)

/-- A cluster's standby banks take its active ones, where they are being copied (R189). -/
theorem effBankCopyDone_eq : effBankCopyDone s = (poweredPipes s).foldl (fun t p => if t.get .CLS_GEN_COPYING p = 1 then
    (t.setCls (fun c => { c with standby := Tab.put {} c.standby p (Tab.get {} t.cls.active p) })).set .CLS_GEN_COPYING 0 p else t) s :=
  congrArg (fun g => (poweredPipes s).foldl g s) (funext fun _ => funext fun _ => if_congr State.isSet_iff rfl rfl)

variable {p a : Nat}

theorem effBankLoad_of_barred (h : Tab.get 0 s.cls.loading p = 0 ∨ tablesLoading s = true) : effBankLoad p s = s := if_pos h

theorem not_loadBarred (h0 : Tab.get 0 s.cls.loading p ≠ 0) (hl : tablesLoading s = false) :
    ¬(Tab.get 0 s.cls.loading p = 0 ∨ tablesLoading s = true) := not_or.2 ⟨h0, ne_true_of_eq_false hl⟩

theorem effBankLoad_of_alone (h0 : Tab.get 0 s.cls.loading p ≠ 0) (hl : tablesLoading s = false)
    (hn : ∀ a, a < 8 → pipeOn s a = false) :
    effBankLoad p s = s.setCls (fun c => { c with loading := Tab.put 0 c.loading p 0 }) := by
  have hf : (List.range 8).find? (fun a => pipeOn s a) = none := List.find?_range_eq_none.2 fun a ha => by rw [hn a ha]; rfl
  refine (if_neg (not_loadBarred h0 hl)).trans ?_
  rw [hf]

theorem effBankLoad_of_active (h0 : Tab.get 0 s.cls.loading p ≠ 0) (hl : tablesLoading s = false) (ha : a < 8) (hon : pipeOn s a = true)
    (hmin : ∀ x, x < a → pipeOn s x = false) : effBankLoad p s =
      (((s.setCls (fun c => { c with active := Tab.put {} c.active p (Tab.get {} c.active a),
                                     standby := Tab.put {} c.standby p (Tab.get {} c.standby a) })).setAll
        [(.CLS_GEN_GEN, s.get .CLS_GEN_GEN a), (.CLS_GEN_PLANE, s.get .CLS_GEN_PLANE a), (.CLS_GEN_COPYING, s.get .CLS_GEN_COPYING a)] p).setCls
          (fun c => { c with loading := Tab.put 0 c.loading p 0 })) := by
  have hf : (List.range 8).find? (fun a => pipeOn s a) = some a :=
    List.find?_range_eq_some.2 ⟨hon, List.mem_range.2 ha, fun x hx => by rw [hmin x hx]; rfl⟩
  refine (if_neg (not_loadBarred h0 hl)).trans ?_
  rw [hf]
  rfl

end

/-! ### Learning and the filter (R205, R215) -/

section
variable {v : Nat} {s : State} {valid : Tab EmEntry} {live : Tab Nat}

theorem effLearnHeadWrite_eq (hv : v < 65536) : effLearnHeadWrite v s =
    if s.get .TBL_LEARN_RING_TAIL = v then (s.set .TBL_LEARN_RING_HEAD v).setTbl (fun t => { t with learnFull := false })
    else s.set .TBL_LEARN_RING_HEAD v := by
  have hhead : (s.set .TBL_LEARN_RING_HEAD v).get .TBL_LEARN_RING_HEAD = v := (s.get_set_self _ _ _ _).trans (Nat.mod_eq_of_lt hv)
  have htail : (s.set .TBL_LEARN_RING_HEAD v).get .TBL_LEARN_RING_TAIL = s.get .TBL_LEARN_RING_TAIL :=
    State.set_get s (f := .TBL_LEARN_RING_HEAD) (x := .TBL_LEARN_RING_TAIL) nofun _ _ _ _ _
  unfold effLearnHeadWrite
  dsimp only
  rw [hhead, htail]
  exact if_congr eq_comm rfl rfl

theorem effFilterRebuilt_of_idle (h : s.get .TBL_STATE_REBUILDING ≠ 1) : effFilterRebuilt s = s :=
  if_pos (by rw [State.isSet_eq_false_iff.2 h]; rfl)

theorem effFilterRebuilt_of_rebuilding (h : s.get .TBL_STATE_REBUILDING = 1) (hvalid : valid = s.tables.ext.filter (fun p => p.2.valid))
    (hlive : live = (valid.flatMap (fun p => filterPos p.2.key)).foldl (fun m p => Tab.put 0 m p 1) (s.tables.shadow.getD [])) :
    effFilterRebuilt s = ((s.setTbl (fun t => { t with filter := live, shadow := none })).setAll
      [(.TBL_STATE_REBUILDING, 0), (.TBL_STATE_FILTER_ALL_ONES, 0)]).raise 0x0906 [valid.length] := by
  subst hvalid hlive
  exact if_neg (by rw [State.isSet_iff.2 h]; exact Bool.false_ne_true)

end

/-! ### Snapshots (R217, R218, R357, R364) -/

section
variable {ok : Bool} {status c : Nat} {s t : State} {snap : Snapshot}

theorem effSnapshotDone_of_held (h : s.tables.staging = none ∨ storeHeld s = true ∨ s.safe = true) : effSnapshotDone ok status s = s := by
  unfold effSnapshotDone
  split
  next => rfl
  next hn => rw [h.resolve_right hn]

/-- The background write of a snapshot is over (R217). -/
def snapshotClosed (s : State) : State := (s.setTbl (fun t => { t with staging := none })).set .TBL_SNAP_WRITING 0

theorem effSnapshotDone_of_writing (h : s.tables.staging = some (c, snap)) (hh : storeHeld s = false) (hs : s.safe = false) :
    effSnapshotDone ok status s = if ok then
      (((snapshotClosed s).setTbl (fun t => { t with copies := Tab.put none t.copies c (some snap), newest := c + 1 })).setAll
        [(.TBL_SNAP_COPY, c), (.TBL_SNAP_GEN, snap.gen)]).raise 0x0902 [snap.gen, c]
    else (snapshotClosed s).raise 0x0903 [snap.gen, status] := by
  unfold effSnapshotDone
  rw [if_neg (not_or.2 ⟨ne_true_of_eq_false hh, ne_true_of_eq_false hs⟩), h]
  rfl

theorem effRestored_of_other (h : s.get .SYS_BOOT_KIND ≠ 1 ∨ s.get .SYS_BOOT_PHASE ≠ 11) : effRestored s = s := if_pos h

theorem effRestored_of_loaded (hk : s.get .SYS_BOOT_KIND = 1) (hp : s.get .SYS_BOOT_PHASE = 11) (ht : loadSnapshot s = t) :
    effRestored s = (t.set .SYS_BOOT_PHASE 12).setCls (fun c => { c with loading := [] }) := by
  subst ht
  exact if_neg (not_or.2 ⟨not_not_intro hk, not_not_intro hp⟩)

theorem loadSnapshot_of_none (h : s.tables.newest = 0 ∨ ∃ c, s.tables.newest = c + 1 ∧ Tab.get none s.tables.copies c = none) :
    loadSnapshot s = s.raise 0x0905 [3] := by
  unfold loadSnapshot
  rcases h with h | ⟨c, h, hn⟩
  · rw [h]
  · rw [h]
    dsimp only
    rw [hn]

theorem loadSnapshot_of_copy (h : s.tables.newest = c + 1) (hc : Tab.get none s.tables.copies c = some snap) : loadSnapshot s =
    if snap.version ≠ Config.snapshotFormat (s.get .SYS_IMAGE_BUILD) then s.raise 0x0905 [1]
    else if snap.serials ≠ serials s then s.raise 0x0905 [2]
    else ((s.setTbl (fun t => { t with t := snap.tables, ext := [], filter := [], shadow := none, deletes := 0 })).setAll
      [(.TBL_STATE_RESTORED, 1), (.TBL_STATE_GEN, snap.gen), (.TBL_SNAP_COPY, c), (.TBL_SNAP_GEN, snap.gen)]).raise 0x0904 [snap.gen] := by
  unfold loadSnapshot
  rw [h]
  dsimp only
  rw [hc]

end

/-- Settles O27, one row of the table after the other. -/
theorem pipelineEventsComplete : Obligations.PipelineEventsComplete := by
  refine ⟨fun k p up s => ⟨fun hi hr hm => next_congr (effParse_of_recovery hi hr hm), fun h => next_congr (effParse_of_left h)⟩,
    fun k p up s t u r hi hr hp hc hm hu hrr ht => ?_, fun k klen s t it prof d f hit hprof => ⟨forwardItem_of_decided hit,
      fun h ht hd => ?_, fun w e h hen he => forwardItem_of_upset hit hprof h hen he⟩,
    fun k ok s => ⟨fun h => next_congr (effHbmReadReturn_of_none h),
      fun hit klen bucket stack d f t u h hk hb hi hs hu => ⟨fun hf => next_congr (effHbmReadReturn_of_failed h hk hb hi hs hu hf),
        fun hok hf hd => ?_⟩⟩,
    fun upset s t e good bad he hg hb ht => ⟨fun h => next_congr (effReplicaCheck_of_early h), fun h => ?_⟩,
    fun s => next_congr effBankCopyDone_eq,
    fun p s => ⟨fun h => next_congr (effBankLoad_of_barred h), fun h0 hl hn => next_congr (effBankLoad_of_alone h0 hl hn),
      fun a h0 hl ha hon hmin => next_congr (effBankLoad_of_active h0 hl ha hon hmin)⟩,
    fun s => ⟨fun h => next_congr (if_pos h), fun h => next_congr (if_neg (Nat.not_lt_of_le h))⟩, fun s => rfl,
    fun v s hv => ⟨fun h => next_congr ((effLearnHeadWrite_eq hv).trans (if_pos h)),
      fun h => next_congr ((effLearnHeadWrite_eq hv).trans (if_neg h))⟩,
    fun s valid live hvalid hlive => ⟨fun h => next_congr (effFilterRebuilt_of_idle h),
      fun h => next_congr (effFilterRebuilt_of_rebuilding h hvalid hlive)⟩,
    fun ok status s => ⟨fun h => next_congr (effSnapshotDone_of_held h), fun c snap h hh hs => ?_⟩,
    fun s => ⟨fun h => next_congr (effRestored_of_other h), fun t hk hp => ⟨fun h ht => ?_, fun c snap h hc => ?_⟩⟩⟩
  · have hready : parseReady k p s := ⟨hi, hr, hp, hc, hm⟩
    obtain rfl : t = parseTaken k p r u := ht
    refine ⟨fun c a hd => next_congr (effParse_of_core hready hu hd),
      fun d c a hd h40 => next_congr (effParse_of_direct hready hu hrr hd h40),
      fun hd hf => next_congr (effParse_of_failed hready hu hrr hd hf), fun prof klen key v hd he h16 hprof hklen hkey hv => ?_⟩
    have hx := effParse_of_searched (up := up) hready hu hrr hd he h16 hprof hkey hv hklen
    exact ⟨fun hn => next_congr (hx.trans (by rw [hn]; rfl)), fun idx rule hn => next_congr (hx.trans (by rw [hn]; rfl))⟩
  · have hx := forwardItem_of_lookup hit hprof h ht hd
    refine ⟨fun hf hb => hx.trans (if_pos ⟨hf, hb⟩), fun hno => hx.trans (if_neg fun ⟨hf, hb⟩ => ?_)⟩
    exact hno.elim (fun hn => Bool.false_ne_true (hn.symm.trans hf)) (· hb)
  · have hx := effHbmReadReturn_of_returned h hk hb hi hs hu hok hf hd
    refine ⟨fun hn => next_congr (hx.trans (if_pos (Option.isNone_iff_eq_none.2 hn))), fun hn hc => next_congr (hx.trans ?_),
      fun hn hc => next_congr (hx.trans ?_)⟩
    · rw [if_neg (mt Option.isNone_iff_eq_none.1 hn), if_pos hc]
    · rw [if_neg (mt Option.isNone_iff_eq_none.1 hn), if_neg (ne_true_of_eq_false hc)]
  · have hx := effReplicaCheck_of_due he hg hb ht h
    exact ⟨fun hn => next_congr (hx.trans (if_pos hn)), fun hn => next_congr (hx.trans (if_neg hn))⟩
  · have hx := effSnapshotDone_of_writing (ok := ok) (status := status) h hh hs
    exact ⟨fun hok => next_congr (hx.trans (if_pos hok)), fun hok => next_congr (hx.trans (if_neg (ne_true_of_eq_false hok)))⟩
  · exact next_congr (effRestored_of_loaded hk hp ((loadSnapshot_of_none h).trans ht.symm))
  · have hx := loadSnapshot_of_copy h hc
    refine ⟨fun hv ht => ?_, fun hv hs ht => ?_, fun hv hs ht => ?_⟩
    · exact next_congr (effRestored_of_loaded hk hp ((hx.trans (if_pos hv)).trans ht.symm))
    · exact next_congr (effRestored_of_loaded hk hp ((hx.trans ((if_neg (not_not_intro hv)).trans (if_pos hs))).trans ht.symm))
    · exact next_congr (effRestored_of_loaded hk hp
        ((hx.trans ((if_neg (not_not_intro hv)).trans (if_neg (not_not_intro hs)))).trans ht.symm))

end Sys2Proof.Machine

/-! ## The link states of a host port (`06_host_lanes.md` R154 to R161, R163; `15_power.md`, Table 15.8; `17_test.md` R414) -/

namespace Sys2Proof.Machine

open Sys2Proof

/-! ### Signal on the lanes, and the end of WAIT (R154, R158, R414) -/

/-- A port may leave WAIT: it has lanes, each has signal, and none is in LANE_PMA_FAR. -/
def signalComplete (x : Nat) (s : State) : Prop :=
  lanesOf s x ≠ [] ∧ (∀ l ∈ lanesOf s x, s.get .LN_STATUS_SIGNAL l = 1) ∧
    ∀ l ∈ lanesOf s x, bit (s.get .TEST_LOOP_LANE_PMA_FAR (l / 8)) (l % 8) = false

section
variable {x l : Nat} {on : Bool} {s t : State}

theorem signalComplete_iff : signalComplete x s ↔ lanesOf s x ≠ [] ∧ (lanesOf s x).all (fun l => s.isSet .LN_STATUS_SIGNAL l) = true ∧
    (!(lanesOf s x).any (fun l => bit (s.get .TEST_LOOP_LANE_PMA_FAR (l / 8)) (l % 8))) = true := by
  simp [signalComplete, State.isSet_iff]

theorem leaveWait_of_complete (h : signalComplete x s) : leaveWait x s = toTraining x (s.when (autoNeg s x) (negotiate x)) :=
  if_pos (signalComplete_iff.1 h)

theorem leaveWait_of_incomplete (h : ¬ signalComplete x s) : leaveWait x s = s := if_neg (mt signalComplete_iff.2 h)

theorem effLaneSignalChange_of_free (ht : t = (s.set .LN_STATUS_SIGNAL (b2n on) l).when (!on) (fun t => t.set .LN_STATUS_CDR_LOCK 0 l))
    (h : slotOfLane t l = none) : effLaneSignalChange l on s = t := by
  subst ht
  unfold effLaneSignalChange
  dsimp only
  rw [h]

theorem effLaneSignalChange_of_slot (ht : t = (s.set .LN_STATUS_SIGNAL (b2n on) l).when (!on) (fun t => t.set .LN_STATUS_CDR_LOCK 0 l))
    (h : slotOfLane t l = some x) : effLaneSignalChange l on s =
      if on then (if t.link x = lsWait then leaveWait x (wakeBy 0 t) else t)
      else if t.link x = lsUp ∨ t.link x = lsFrt then toWait x (linkDown x 0 t) else t := by
  subst ht
  unfold effLaneSignalChange
  dsimp only
  rw [h]

end

/-! ### Training (R155, R156, R158, R159) -/

/-- A precoding setting is fixed: 0 follows what was measured or asked for, 1 is off, the others are on (R155). -/
def precodeChoice (setting : Nat) (wanted : Bool) : Bool := match setting with | 0 => wanted | 1 => false | _ => true

theorem b2n_precodeChoice : ∀ (setting : Nat) (wanted : Bool),
    b2n (precodeChoice setting wanted) = match setting with | 0 => b2n wanted | 1 => 0 | _ => 1
  | 0, _ => rfl
  | 1, _ => rfl
  | _ + 2, _ => rfl

theorem b2n_beq_one (b : Bool) : (b2n b == 1) = b := by cases b <;> rfl

/-- A lane of a port that trains (R159). -/
def laneTrains (l x : Nat) (s : State) : Prop := slotOfLane s l = some x ∧ s.link x = lsTraining ∧ trains s x = true

section
variable {x l measured ready rx tx k : Nat} {train m on up : Bool} {tap : Fin 6} {lo hi c : Int} {r : TapReq} {s : State}

theorem effTrainingDone_of_training (h : s.link x = lsTraining) : effTrainingDone x measured s =
    laneOut x 2 ((setLink x lsAligning ((lanesOf s x).foldl (fun t l => fixPrecoding l (trains t x) (bit measured (l - x)) t) s)).setHp x
      (fun h => { h with fromFrt := false })) := if_pos h

theorem fixPrecoding_eq (hr : rx = b2n (precodeChoice (s.laneSet l).precodeRx (train && m)))
    (ht : tx = b2n (precodeChoice (s.laneSet l).precodeTx (train && (s.laneSet l).asked))) :
    fixPrecoding l train m s = (s.when train (fun s => s.emit (.precodeRequest l (rx == 1)))).setAll
      [(.LN_STATUS_PRECODE_RX_ON, rx), (.LN_STATUS_PRECODE_TX_ON, tx), (.LN_STATUS_RX_READY, 1), (.LN_STATUS_PARTNER_READY, 1),
        (.LN_STATUS_CDR_LOCK, 1)] l := by
  subst hr ht
  rw [b2n_beq_one]
  rfl

theorem effTrainingTimeout_of_over (h : s.link x = lsTraining) (ht : (s.hp x).since + 500 * uMs ≤ s.now) : effTrainingTimeout x ready s =
    toWait x (hostEvent x 0x0703 [x, (lanesOf s x).foldl (fun m l => if bit ready (l - x) then m else m + 2 ^ (l - x)) 0]
      (s.inc .HP_TRAIN_FAIL x)) := if_pos ⟨h, ht⟩

theorem effTrainingTimeout_of_early (h : s.link x ≠ lsTraining ∨ s.now < (s.hp x).since + 500 * uMs) : effTrainingTimeout x ready s = s :=
  if_neg fun ⟨hl, ht⟩ => h.elim (· hl) (Nat.not_lt_of_le ht)

theorem effTapRequest_of_free (h : slotOfLane s l = none) : effTapRequest l r s = s := by
  unfold effTapRequest
  rw [h]

theorem effTapRequest_of_other (h : slotOfLane s l = some x) (hn : s.link x ≠ lsTraining ∨ trains s x = false) :
    effTapRequest l r s = s := by
  unfold effTapRequest
  rw [h]
  exact if_pos (hn.imp_right fun ht => by rw [ht]; rfl)

theorem laneTrains.listens (h : laneTrains l x s) : ¬(s.link x ≠ lsTraining ∨ (!(trains s x)) = true) := by
  obtain ⟨_, hl, ht⟩ := h
  simp [hl, ht]

theorem effTapRequest_sent (h : laneTrains l x s) : effTapRequest l .sent s = s.inc .HL_TAP_REQ_TX l := by
  unfold effTapRequest
  rw [h.1]
  exact if_neg h.listens

theorem effTapRequest_precode (h : laneTrains l x s) :
    effTapRequest l (.precode on) s = honour l (fun s => s.setLane l (fun c => { c with asked := on })) s := by
  unfold effTapRequest
  rw [h.1]
  exact if_neg h.listens

theorem effTapRequest_preset (h : laneTrains l x s) : effTapRequest l (.preset k) s =
    if k = 1 then honour l (fun s => setFfe l ((s.laneSet l).ffe.map (toSigned 8)) s) s else s.emit (.tapAnswer l .notSupported) := by
  unfold effTapRequest
  rw [h.1]
  exact if_neg h.listens

theorem effTapRequest_step (h : laneTrains l x s) (hr : tapRange.getD tap (0, 0) = (lo, hi))
    (hc : c = (ffeNow s l).getD tap 0 + (if up then 1 else -1)) : effTapRequest l (.step tap up) s =
      if c < lo ∨ hi < c then s.emit (.tapAnswer l .atLimit)
      else if !(ffeSum ((ffeNow s l).set tap c)) then s.emit (.tapAnswer l .eqLimit)
      else honour l (setFfe l ((ffeNow s l).set tap c)) s := by
  subst hc
  unfold effTapRequest
  rw [h.1]
  refine (if_neg h.listens).trans ?_
  dsimp only
  rw [hr]

end

/-! ### Alignment and fast retrain (R158, R160) -/

/-- A fast retrain has no answer: its initiator has recognised no block of its partner 50 µs after its first REQ (R160). -/
def frtUnanswered (x : Nat) (s : State) : Prop :=
  (s.hp x).frtBegan = true ∧ (s.hp x).frtSeen = false ∧ (s.hp x).frtSince + 50 * uUs ≤ s.now

section
variable {x l : Nat} {s t : State}

theorem effAlignTimeout_of_aligning (h : s.link x = lsAligning) : effAlignTimeout x s =
    if (s.hp x).since + 10 * uMs ≤ s.now then
      toTraining x ((s.when (s.hp x).fromFrt (fun s => hostEvent x 0x0702 [x, 6] s)).setHp x (fun h => { h with fromFrt := false }))
    else s := if_congr (and_iff_right h) rfl rfl

theorem effAlignTimeout_of_other (h : s.link x ≠ lsAligning) : effAlignTimeout x s = s := if_neg fun ⟨hl, _⟩ => h hl

theorem effLaneLockLoss_of_free (h : slotOfLane s l = none) : effLaneLockLoss l s = s := by
  unfold effLaneLockLoss
  rw [h]

theorem effLaneLockLoss_of_other (h : slotOfLane s l = some x) (hn : s.get .LN_STATUS_SIGNAL l ≠ 1 ∨ (s.link x ≠ lsUp ∧ s.link x ≠ lsFrt)) :
    effLaneLockLoss l s = s := by
  unfold effLaneLockLoss
  rw [h]
  dsimp only
  rcases hn with hs | ⟨hup, hfrt⟩
  · rw [State.isSet_eq_false_iff.2 hs]
    rfl
  · rw [if_neg hup, if_neg hfrt, ite_self]

theorem effLaneLockLoss_of_up (ht : t = s.set .LN_STATUS_CDR_LOCK 0 l) (h : slotOfLane s l = some x) (hs : s.get .LN_STATUS_SIGNAL l = 1)
    (hup : s.link x = lsUp) : effLaneLockLoss l s =
      if t.isSet .PORT_CFG_FRT_EN x then toFrt x true (2 ^ (l - x)) t else toTraining x (linkDown x 1 t) := by
  subst ht
  unfold effLaneLockLoss
  rw [h]
  dsimp only
  rw [State.isSet_iff.2 hs, if_pos hup]
  rfl

theorem effLaneLockLoss_of_frt (ht : t = s.set .LN_STATUS_CDR_LOCK 0 l) (h : slotOfLane s l = some x) (hs : s.get .LN_STATUS_SIGNAL l = 1)
    (hfrt : s.link x = lsFrt) : effLaneLockLoss l s = t.setHp x (fun h => { h with frtLost := withBit h.frtLost (l - x) true }) := by
  subst ht
  unfold effLaneLockLoss
  rw [h]
  dsimp only
  rw [State.isSet_iff.2 hs, hfrt]
  rfl

theorem cdrLock_keeps_frtEnable (s : State) (l x v : Nat) :
    (s.set .LN_STATUS_CDR_LOCK v l).get .PORT_CFG_FRT_EN x = s.get .PORT_CFG_FRT_EN x :=
  State.set_get s (f := .LN_STATUS_CDR_LOCK) (x := .PORT_CFG_FRT_EN) nofun _ _ _ _ _

theorem effFrtReqReceived_of_free (h : slotOfLane s l = none) : effFrtReqReceived l s = s := by
  unfold effFrtReqReceived
  rw [h]

theorem effFrtReqReceived_of_up (h : slotOfLane s l = some x) (hup : s.link x = lsUp) (hen : s.get .PORT_CFG_FRT_EN x = 1) :
    effFrtReqReceived l s = toFrt x false 0 s := by
  unfold effFrtReqReceived
  rw [h]
  exact if_pos ⟨hup, State.isSet_iff.2 hen⟩

theorem effFrtReqReceived_of_other (h : slotOfLane s l = some x) (hn : s.link x ≠ lsUp ∨ s.get .PORT_CFG_FRT_EN x ≠ 1) :
    effFrtReqReceived l s = s := by
  unfold effFrtReqReceived
  rw [h]
  exact if_neg fun ⟨hup, hen⟩ => hn.elim (· hup) (· (State.isSet_iff.1 hen))

theorem effFrtDone_of_seen (h : s.link x = lsFrt) (hs : (s.hp x).frtSeen = true) : effFrtDone x s =
    laneOut x 2 ((setLink x lsAligning ((lanesOf s x).foldl (fun t l => t.set .LN_STATUS_CDR_LOCK 1 l) s)).setHp x
      (fun h => { h with fromFrt := true })) := if_pos ⟨h, hs⟩

theorem effFrtDone_of_barred (h : s.link x ≠ lsFrt ∨ (s.hp x).frtSeen = false) : effFrtDone x s = s :=
  if_neg fun ⟨hl, hs⟩ => h.elim (· hl) fun hf => Bool.false_ne_true (hf.symm.trans hs)

theorem frtUnanswered_iff : frtUnanswered x s ↔
    (s.hp x).frtBegan = true ∧ (!(s.hp x).frtSeen) = true ∧ (s.hp x).frtSince + 50 * uUs ≤ s.now := by
  simp [frtUnanswered]

theorem effFrtNoAnswer_of_unanswered (h : s.link x = lsFrt) (hu : frtUnanswered x s) : effFrtNoAnswer x s = frtFallback x 0 s :=
  if_pos ⟨h, frtUnanswered_iff.1 hu⟩

theorem effFrtNoAnswer_of_barred (h : s.link x ≠ lsFrt ∨ ¬ frtUnanswered x s) : effFrtNoAnswer x s = s :=
  if_neg fun ⟨hl, hu⟩ => h.elim (· hl) (· (frtUnanswered_iff.2 hu))

theorem effFrtLimitExpiry_of_frt (h : s.link x = lsFrt) : effFrtLimitExpiry x s =
    if (s.hp x).frtSince + s.get .PORT_CFG_FRT_LIMIT x * 100 * uUs ≤ s.now then frtFallback x 1 s else s :=
  if_congr (and_iff_right h) rfl rfl

theorem effFrtLimitExpiry_of_other (h : s.link x ≠ lsFrt) : effFrtLimitExpiry x s = s := if_neg fun ⟨hl, _⟩ => h hl

end

/-! ### Remote Fault and the wake pattern (R158, R163) -/

section
variable {x l on what : Nat} {f : RsFault} {s : State}

/-- The sublayer shows the fault, answers it, and reports a change of Remote Fault, one kind of fault after the other. -/
theorem effRemoteFault_of_up (h : s.link x = lsUp) (hf : (f, on, what) ∈ [(RsFault.none_, 0, 2), (.local_, 0, 8), (.remote, 1, 9)]) :
    effRemoteFault x f s =
      (laneOut x what (s.setAll [(.PORT_STATUS_REMOTE_FAULT, on), (.PORT_STATUS_LOCAL_FAULT, b2n (f = .local_))] x)).when
        (s.get .PORT_STATUS_REMOTE_FAULT x != on) (hostEvent x 0x0709 [x, on]) := by
  simp only [List.mem_cons, List.not_mem_nil, or_false, Prod.mk.injEq] at hf
  rcases hf with ⟨rfl, rfl, rfl⟩ | ⟨rfl, rfl, rfl⟩ | ⟨rfl, rfl, rfl⟩
  · exact if_pos h
  · exact if_pos h
  · exact if_pos h

/-- An armed detector declares a wake where no port beyond WAIT holds its lane (R163). -/
theorem effWakeDetect_of_armed (hd : s.get .LN_CFG_WAKE_DET l = 1) (hf : ∀ x, slotOfLane s l = some x → s.link x ≤ lsWait) :
    effWakeDetect l s =
      wakeBy 1 (hostEvent ((slotOfLane s l).getD l) 0x0708 [l] ((s.set .LN_STATUS_WAKE_SEEN 1 l).inc .HL_WAKE_DETECTS l)) := by
  unfold effWakeDetect
  cases h : slotOfLane s l with
  | none => exact if_pos ⟨State.isSet_iff.2 hd, rfl⟩
  | some x => exact if_pos ⟨State.isSet_iff.2 hd, decide_eq_true (hf x h)⟩

theorem effWakeDetect_of_beyond (h : slotOfLane s l = some x) (hx : lsWait < s.link x) : effWakeDetect l s = s := by
  unfold effWakeDetect
  rw [h]
  exact if_neg fun ⟨_, hf⟩ => Nat.not_le_of_lt hx (of_decide_eq_true hf)

theorem effWakeDetect_of_disarmed (h : s.get .LN_CFG_WAKE_DET l ≠ 1) : effWakeDetect l s = s :=
  if_neg fun ⟨hd, _⟩ => h (State.isSet_iff.1 hd)

theorem effWakeSendEnd_of_over (h : s.get .PORT_STATUS_WAKE_SENDING x = 1) (ht : (s.hp x).wakeEnd ≤ s.now) :
    effWakeSendEnd x s = laneOut x (s.link x) (s.set .PORT_STATUS_WAKE_SENDING 0 x) := if_pos ⟨State.isSet_iff.2 h, ht⟩

theorem effWakeSendEnd_of_barred (h : s.get .PORT_STATUS_WAKE_SENDING x ≠ 1 ∨ s.now < (s.hp x).wakeEnd) : effWakeSendEnd x s = s :=
  if_neg fun ⟨hs, ht⟩ => h.elim (· (State.isSet_iff.1 hs)) (Nat.not_lt_of_le ht)

end

/-- Settles O24, one row of the table after the other. -/
theorem linkStateEventsComplete : Obligations.LinkStateEventsComplete := by
  refine ⟨fun l on s t ht => ⟨fun h => next_congr (effLaneSignalChange_of_free ht h), fun x h => ?_⟩,
    fun x s => ⟨fun hl hs hf => leaveWait_of_complete ⟨hl, hs, hf⟩, fun h => leaveWait_of_incomplete fun ⟨hl, hs, hf⟩ => ?_⟩,
    fun x measured s => ⟨fun h => next_congr (effTrainingDone_of_training h), fun h => next_congr (if_neg h)⟩,
    fun l rx tx train measured s hr ht =>
      fixPrecoding_eq (hr.trans (b2n_precodeChoice _ _).symm) (ht.trans (b2n_precodeChoice _ _).symm),
    fun x ready s => ⟨fun h ht => next_congr (effTrainingTimeout_of_over h ht), fun h => next_congr (effTrainingTimeout_of_early h)⟩,
    fun l s => ⟨fun r h => next_congr (effTapRequest_of_free h), fun r x h hn => next_congr (effTapRequest_of_other h hn),
      fun x h hl ht => ?_⟩,
    fun x s => ⟨fun h => ⟨next_congr (if_pos h), fun hle => ?_, fun hlt => ?_⟩,
      fun h => ⟨next_congr (if_neg h), next_congr (effAlignTimeout_of_other h)⟩⟩,
    fun l s t ht => ⟨fun h => ⟨next_congr (effLaneLockLoss_of_free h), next_congr (effFrtReqReceived_of_free h)⟩, fun x h =>
      ⟨fun hn => next_congr (effLaneLockLoss_of_other h hn), fun hs hup hen => ?_, fun hs hup hen => ?_,
        fun hs hfrt => next_congr (effLaneLockLoss_of_frt ht h hs hfrt), fun hup hen => next_congr (effFrtReqReceived_of_up h hup hen),
        fun hn => next_congr (effFrtReqReceived_of_other h hn)⟩⟩,
    fun x s => ⟨fun h => ⟨next_congr (if_neg h), next_congr (effFrtDone_of_barred (.inl h)), next_congr (effFrtNoAnswer_of_barred (.inl h)),
        next_congr (effFrtLimitExpiry_of_other h)⟩,
      fun h => ⟨next_congr (if_pos h), fun hs => next_congr (effFrtDone_of_seen h hs), fun hs => next_congr (effFrtDone_of_barred (.inr hs)),
        fun hb hs ht => next_congr (effFrtNoAnswer_of_unanswered h ⟨hb, hs, ht⟩), fun hno => ?_,
        fun hle => next_congr ((effFrtLimitExpiry_of_frt h).trans (if_pos hle)),
        fun hlt => next_congr ((effFrtLimitExpiry_of_frt h).trans (if_neg (Nat.not_le_of_lt hlt)))⟩⟩,
    fun x s => ⟨fun f h => next_congr (if_neg h), fun h f on what t hf ht => ?_⟩,
    fun l s t ht => ⟨fun hd h => ?_, fun x hd h hx => ?_, fun x h hx => next_congr (effWakeDetect_of_beyond h hx),
      fun h => next_congr (effWakeDetect_of_disarmed h)⟩,
    fun x s => ⟨fun h ht => next_congr (effWakeSendEnd_of_over h ht), fun h => next_congr (effWakeSendEnd_of_barred h)⟩⟩
  · have hx := effLaneSignalChange_of_slot ht h
    refine ⟨fun hon hl => next_congr (hx.trans ?_), fun hoff hl => next_congr (hx.trans ?_), fun hno => next_congr (hx.trans ?_)⟩
    · rw [if_pos hon, if_pos hl]
    · rw [if_neg (ne_true_of_eq_false hoff), if_pos hl]
    · rcases hno with ⟨hon, hl⟩ | ⟨hoff, hup, hfrt⟩
      · rw [if_pos hon, if_neg hl]
      · rw [if_neg (ne_true_of_eq_false hoff), if_neg (not_or.2 ⟨hup, hfrt⟩)]
  · rcases h with h | ⟨l, hm, h⟩ | ⟨l, hm, h⟩
    · exact hl h
    · exact h (hs l hm)
    · exact Bool.false_ne_true ((hf l hm).symm.trans h)
  · have hlane : laneTrains l x s := ⟨h, hl, ht⟩
    refine ⟨next_congr (effTapRequest_sent hlane), fun on => next_congr (effTapRequest_precode hlane),
      next_congr ((effTapRequest_preset hlane).trans (if_pos rfl)),
      fun k hk => next_congr ((effTapRequest_preset hlane).trans (if_neg hk)), fun tap up lo hi c hr hc => ?_⟩
    have hx := effTapRequest_step hlane hr hc
    refine ⟨fun hlo hhi hsum => next_congr (hx.trans ?_), fun hout => next_congr (hx.trans (if_pos hout)),
      fun hlo hhi hsum => next_congr (hx.trans ?_)⟩
    · rw [if_neg (by omega), hsum]
      rfl
    · rw [if_neg (by omega), hsum]
      rfl
  · exact next_congr ((effAlignTimeout_of_aligning h).trans (if_pos hle))
  · exact next_congr ((effAlignTimeout_of_aligning h).trans (if_neg (Nat.not_le_of_lt hlt)))
  · refine next_congr ((effLaneLockLoss_of_up ht h hs hup).trans (if_pos (State.isSet_iff.2 ?_)))
    rw [ht, cdrLock_keeps_frtEnable, hen]
  · refine next_congr ((effLaneLockLoss_of_up ht h hs hup).trans (if_neg (mt State.isSet_iff.1 ?_)))
    rwa [ht, cdrLock_keeps_frtEnable]
  · refine next_congr (effFrtNoAnswer_of_barred (.inr fun ⟨hb, hs, hle⟩ => ?_))
    rcases hno with hno | hno | hlt
    · exact Bool.false_ne_true (hno.symm.trans hb)
    · exact Bool.false_ne_true (hs.symm.trans hno)
    · exact Nat.not_lt_of_le hle hlt
  · subst ht
    have hx := effRemoteFault_of_up h hf
    exact ⟨fun hn => next_congr (hx.trans (State.when_of_true (bne_iff_ne.2 hn))),
      fun he => next_congr (hx.trans (State.when_of_false (bne_eq_false_iff_eq.2 he)))⟩
  · refine next_congr ((effWakeDetect_of_armed hd fun x hx => ?_).trans (by rw [h, ht]; rfl))
    exact absurd (h.symm.trans hx) nofun
  · refine next_congr ((effWakeDetect_of_armed hd fun y hy => ?_).trans (by rw [h, ht]; rfl))
    obtain rfl : x = y := Option.some.inj (h.symm.trans hy)
    exact hx

end Sys2Proof.Machine

/-! ## The host port commands (`06_host_lanes.md` R153, R156 to R158, R162, R163, R166, R169, R170, R174; `15_power.md` R385) -/

namespace Sys2Proof.Machine

open Sys2Proof

/-- A single command whose parameter check fails (R310). -/
theorem single_of_param {c : CmdInfo} {q : Req} {unit : State → Option (Nat × Nat)} {param : State → Option Nat} {keys : List Nat}
    {body : State → Result} {s : State} {off : Nat} (h : takenUp c q s = true) (hu : unit s = none) (hp : param s = some off) :
    single c q keys unit param body s = reject c q stParam off s :=
  checked_param _ h hu hp

/-! ### The commands that write registers (R153, R156, R157, R162, R166, R169, R170) -/

section
variable {q : Req} {es : List WEntry} {k : Nat} {s : State}

theorem hostPortConfig_staged (ht : takenAtomic (ciHostPortConfig es) q s = true) (hl : lanesAtRest es s = true)
    (hw : wErr (fun f => portCfgFields.contains f) es = none) (hp : placementErr es s = none) :
    Stages (.hostPortConfig q es) (ciHostPortConfig es) q s (.hostPort es) :=
  next_congr (atomicCmd_accepted _ ht (needs_of_true hl) (by rw [hw, hp]; rfl))

theorem hostPortConfig_busy (ht : takenAtomic (ciHostPortConfig es) q s = true) (hl : lanesAtRest es s = false) :
    Next (.hostPortConfig q es) s (reject { ciHostPortConfig es with parts := [] } q stState 0 s) :=
  next_congr (atomicCmd_unit _ ht (if_neg (ne_true_of_eq_false hl)))

theorem hostPortConfig_misplaced (ht : takenAtomic (ciHostPortConfig es) q s = true) (hl : lanesAtRest es s = true)
    (hw : wErr (fun f => portCfgFields.contains f) es = none) (hp : placementErr es s = some k) :
    Next (.hostPortConfig q es) s (reject { ciHostPortConfig es with parts := [] } q stParam k s) :=
  next_congr (atomicCmd_param _ ht (needs_of_true hl) (by rw [hw, hp]; rfl))

theorem hostLaneConfig_done (ht : takenUp (ciHostLaneConfig es) q s = true) (hw : wErr (fun f => laneFields.contains f) es = none)
    (hl : laneErr es s = none) : Done (.hostLaneConfig q es) (ciHostLaneConfig es) q (es.map (·.off)) s (wApplyAll s es) :=
  next_congr (single_accepted _ _ ht rfl (by rw [hw, hl]; rfl))

theorem hostLaneConfig_rejected (ht : takenUp (ciHostLaneConfig es) q s = true) (hw : wErr (fun f => laneFields.contains f) es = none)
    (hl : laneErr es s = some k) : Next (.hostLaneConfig q es) s (reject (ciHostLaneConfig es) q stParam k s) :=
  next_congr (single_of_param ht rfl (by rw [hw, hl]; rfl))

end

/-! ### The commands of one slot (R158, R163, R170, R174, R385) -/

section
variable {q : Req} {x us mask on : Nat} {s : State}

theorem want_slot (h : x < 32) : want 16 (decide (x < 32)) = none := want_true _ (decide_eq_true h)

/-- The parameter check of a command of one slot, whose other parameter is one bit or one of two kinds. -/
theorem slotAndBit_valid (hx : x < 32) (ho : on < 2) : firstErr [want 16 (decide (x < 32)), want 24 (decide (on < 2))] = none := by
  rw [want_slot hx, want_true _ (decide_eq_true ho)]
  rfl

/-- A disable is never one that FRUGAL forbids (R385). -/
theorem frugalFull_off : frugalFull x 0 s = false := rfl

theorem hostPortEnable_done (hx : x < 32) (ho : on < 2) (ht : takenUp (ciHostPortEnable x) q s = true) (hf : frugalFull x on s = false) :
    Done (.hostPortEnable q x on) (ciHostPortEnable x) q [x] s
      (if on = 1 then admin x (s.set .PORT_CFG_ENABLE on x) else toDisabled x 3 true (s.set .PORT_CFG_ENABLE on x)) :=
  next_congr (single_accepted _ _ ht (needs_of_true (by rw [hf]; rfl)) (slotAndBit_valid hx ho))

theorem hostPortEnable_rejected (ht : takenUp (ciHostPortEnable x) q s = true) (hf : frugalFull x on s = true) :
    Next (.hostPortEnable q x on) s (reject (ciHostPortEnable x) q stState 0 s) :=
  next_congr (single_of_needs_false ht (by rw [hf]; rfl))

theorem hostRetrain_full (hx : x < 32) (ht : takenUp (ciHostRetrain x) q s = true) (hup : s.link x = lsUp) :
    Done (.hostRetrain q x 0) (ciHostRetrain x) q [] s (toTraining x (linkDown x 5 s)) :=
  next_congr (single_accepted _ _ ht (needs_of_true (by simp [hup])) (slotAndBit_valid hx Nat.zero_lt_two))

theorem hostRetrain_fast (hx : x < 32) (ht : takenUp (ciHostRetrain x) q s = true) (hup : s.link x = lsUp)
    (hen : s.get .PORT_CFG_FRT_EN x = 1) : Done (.hostRetrain q x 1) (ciHostRetrain x) q [] s (toFrt x true 0 s) :=
  next_congr (single_accepted _ _ ht (needs_of_true (by simp [hup, State.isSet, hen])) (slotAndBit_valid hx Nat.one_lt_two))

theorem hostRetrain_full_rejected (hx : x < 32) (ht : takenUp (ciHostRetrain x) q s = true) (h : s.link x ≠ lsUp) :
    Next (.hostRetrain q x 0) s (reject (ciHostRetrain x) q stState 0 s) :=
  next_congr (single_of_needs_false ht (by simp [hx, h]))

theorem hostRetrain_fast_rejected (hx : x < 32) (ht : takenUp (ciHostRetrain x) q s = true)
    (h : s.link x ≠ lsUp ∨ s.get .PORT_CFG_FRT_EN x ≠ 1) : Next (.hostRetrain q x 1) s (reject (ciHostRetrain x) q stState 0 s) :=
  next_congr (single_of_needs_false ht (by rcases h with h | h <;> simp [hx, State.isSet, h]))

theorem hostWakeSend_done (hx : x < 32) (hu : us = 0 ∨ (20 ≤ us ∧ us ≤ 10000)) (ht : takenUp (ciHostWakeSend x) q s = true)
    (hl : s.link x ≤ lsWait) : Done (.hostWakeSend q x us) (ciHostWakeSend x) q [] s
      (laneOut x 3 ((s.set .PORT_STATUS_WAKE_SENDING 1 x).setHp x (fun h =>
        { h with wakeEnd := s.now + (if us = 0 then 1000 else us) * uUs }))) :=
  next_congr (single_accepted _ _ ht (needs_of_true (by simp [hl])) (by rw [want_slot hx, want_true _ (decide_eq_true hu)]; rfl))

theorem hostWakeSend_rejected (hx : x < 32) (ht : takenUp (ciHostWakeSend x) q s = true) (hl : lsWait < s.link x) :
    Next (.hostWakeSend q x us) s (reject (ciHostWakeSend x) q stState 0 s) :=
  next_congr (single_of_needs_false ht (by simp [hx, hl]))

theorem hostWdogClear_done (hx : x < 32) (hm : mask < 256) (ht : takenUp (ciHostWdogClear x) q s = true) :
    Done (.hostWdogClear q x mask) (ciHostWdogClear x) q [] s
      (((List.range 8).filter (bit mask) ++ (if mask = 0 then [] else [8])).foldl (fun s p => endOverride x p 2 s) s) :=
  next_congr (single_accepted _ _ ht rfl (by rw [want_slot hx, want_true _ (decide_eq_true hm)]; rfl))

theorem hostEvtEnable_done (hx : x < 32) (ho : on < 2) (ht : takenUp (ciHostEvtEnable x) q s = true) :
    Done (.hostEvtEnable q x on) (ciHostEvtEnable x) q [x] s (s.setHp x (fun h => { h with evtEnable := on == 1 })) :=
  next_congr (single_accepted _ _ ht rfl (slotAndBit_valid hx ho))

end

/-- Settles O23, one row of the table after the other. -/
theorem hostPortCommandsComplete : Obligations.HostPortCommandsComplete :=
  ⟨fun _ _ _ ht => ⟨hostPortConfig_staged ht, hostPortConfig_busy ht, fun _ => hostPortConfig_misplaced ht⟩,
    fun _ _ _ hx ht => ⟨hostPortEnable_done hx Nat.one_lt_two ht, hostPortEnable_rejected ht,
      hostPortEnable_done hx Nat.zero_lt_two ht frugalFull_off⟩,
    fun _ _ _ ht hw => ⟨hostLaneConfig_done ht hw, fun _ => hostLaneConfig_rejected ht hw⟩,
    fun _ _ _ hx ht => ⟨hostRetrain_full hx ht, hostRetrain_fast hx ht, hostRetrain_full_rejected hx ht, hostRetrain_fast_rejected hx ht⟩,
    fun _ _ _ => ⟨fun ht hw => next_congr (writeCmd_accepted _ _ ht hw), fun ht hw => next_congr (single_accepted _ _ ht rfl hw),
      fun ht hw => next_congr (single_accepted _ _ ht rfl hw)⟩,
    fun _ _ _ _ hx hu ht => ⟨hostWakeSend_done hx hu ht, hostWakeSend_rejected hx ht⟩,
    fun _ _ _ _ hx hm ht => hostWdogClear_done hx hm ht,
    fun _ _ _ _ hx ho ht => hostEvtEnable_done hx ho ht⟩

end Sys2Proof.Machine

/-! ## The classification commands (`07_parsing.md` R183, R186 to R189, R192; `13_commands.md` R313, R314) -/

namespace Sys2Proof.Machine

open Sys2Proof

section
variable {q : Req} {s : State}

/-- A best-effort command that is taken up and whose own checks pass applies its entries one at a time (R313, R314). -/
theorem doneEach_of_bestEffort {α : Type} {i : Instr} {c : CmdInfo} {keys : List Nat} {unit : State → Option (Nat × Nat)}
    {param : State → Option Nat} {one : State → α → State × Nat} {es : List α} (he : exec i s = .next (bestEffort c q keys unit param one es s))
    (ht : takenUp c q s = true) (hu : unit s = none) (hp : param s = none) : DoneEach i c q keys one es s :=
  ⟨fun ok => he.trans (next_congr (bestEffort_done keys one es ht hu hp ok)),
    fun _ hb h0 => he.trans (next_congr (bestEffort_partial keys one es ht hu hp hb h0))⟩

/-! ### Standby banks (R183, R189, R192) -/

theorem notCopying_eq_none (h : ∀ p ∈ poweredPipes s, s.get .CLS_GEN_COPYING p ≠ 1) : notCopying s = none :=
  Option.map_eq_none_iff.2 (List.find?_eq_none.2 fun p hp => mt State.isSet_iff.1 (h p hp))

theorem clsParserWrite_done {es : List WEntry} (ht : takenUp ciClsParserWrite q s = true) (hp : parserErr es = none)
    (hc : ∀ p ∈ poweredPipes s, s.get .CLS_GEN_COPYING p ≠ 1) :
    Done (.clsParserWrite q es) ciClsParserWrite q (es.map (·.off)) s (es.foldl parserWriteOne s) :=
  next_congr (single_accepted _ _ ht (notCopying_eq_none hc) hp)

theorem clsParserWrite_busy {es : List WEntry} {st : Nat × Nat} (ht : takenUp ciClsParserWrite q s = true) (h : notCopying s = some st) :
    Next (.clsParserWrite q es) s (reject ciClsParserWrite q st.1 st.2 s) :=
  next_congr (single_unit ht h)

/-- Acceptable profiles take no free value, and so pass the check. -/
theorem effClsProfileWrite_of_sound {es : List ProfEntry} (he : ∀ e ∈ es, e.index < 16 ∧ profOk e.prof = true)
    (ht : takenUp ciClsProfileWrite q s = true) (hc : ∀ p ∈ poweredPipes s, s.get .CLS_GEN_COPYING p ≠ 1) :
    effClsProfileWrite q es s = complete ciClsProfileWrite q (es.map (·.index)) 0
      { state := es.foldl (fun t e => (poweredPipes t).foldl (fun t p => t.setCls (fun c =>
        let b := Tab.get {} c.standby p
        { c with standby := Tab.put {} c.standby p { b with profiles := Tab.put {} b.profiles e.index e.prof } })) t) s } := by
  have hall : es.all (fun e => decide (e.index < 16) && profOk e.prof) = true := by simpa using he
  unfold effClsProfileWrite
  simp only [hall, Bool.not_true, Bool.false_and, Bool.false_eq_true, if_false]
  exact (State.when_of_false rfl).trans (single_accepted _ _ ht (notCopying_eq_none hc) rfl)

/-! ### Rules (R186 to R188) -/

theorem ruleWriteOne_of_refused {clear : Bool} {e : REntry} (h : ruleOk e.index (ruleOf e.data) = false) :
    ruleWriteOne clear s e = (s, stParam) :=
  if_neg (ne_true_of_eq_false h)

/-! ### CLS_FLIP (R189, R192, R313) -/

theorem ciClsFlip_staging : (ciClsFlip s).staging = (if s.mode = 4 then [4, 5, 6, 7] else [4, 5, 6, 7, 8, 9, 10, 11]) ++ [21, 25] := by
  unfold ciClsFlip poweredPipes
  split <;> rfl

theorem effClsFlip_of_accepted (ht : takenAtomic (ciClsFlip s) q s = true) (hc : ∀ p ∈ poweredPipes s, s.get .CLS_GEN_COPYING p ≠ 1) :
    effClsFlip q s = (poweredPipes s).foldl (fun t p => undoze (4 + p) t)
      (s.setCmd (fun m => { m with staged := m.staged ++ [⟨q, 0x0805, (ciClsFlip s).staging, true, .clsFlip, []⟩] })) := by
  unfold effClsFlip
  rw [atomicCmd_accepted _ ht (notCopying_eq_none hc) rfl]
  exact if_pos (by simp [State.setCmd])

end

/-- Settles O26, one row of the table after the other. -/
theorem classificationCommandsComplete : Obligations.ClassificationCommandsComplete :=
  ⟨fun _ _ _ ht hp => ⟨clsParserWrite_done ht hp, fun _ => clsParserWrite_busy ht⟩,
    fun _ _ _ ht he hc => next_congr (effClsProfileWrite_of_sound he ht hc),
    fun _ _ _ _ => ⟨fun hn ht => doneEach_of_bestEffort rfl ht rfl (want_true _ (decide_eq_true hn)),
      fun ht => doneEach_of_bestEffort rfl ht rfl rfl⟩,
    fun _ _ => ⟨fun h => if_pos h, fun h _ => ruleWriteOne_of_refused h, fun h => if_pos h⟩,
    fun _ _ ht hc => next_congr (effClsFlip_of_accepted ht hc),
    fun _ => ciClsFlip_staging,
    fun _ _ _ => ⟨fun ht hw => next_congr (writeCmd_accepted _ _ ht hw), fun ht hw => next_congr (writeCmd_accepted _ _ ht hw)⟩⟩

end Sys2Proof.Machine

/-! ## Work submission, running and the ends of work items (`07_parsing.md` R193; `09_buffers.md` R244, R248; `12_cores.md` R293 to R307;
`16_faults.md` R395, R396) -/

namespace Sys2Proof.Machine

open Sys2Proof

/-! ### The admission checks of an entry (R244, R294, Table 12.2) -/

/-- An entry is well-formed: the first check of Table 12.2. -/
def entryFormed (e : WorkEntry) : Prop := e.version = 1 ∧ e.zeros = true ∧ e.queue ≤ 1023

/-- The function may submit the entry: to an enabled queue of its own and, in order, in a flow of its own. -/
def entryPermitted (u : Nat) (e : WorkEntry) (s : State) : Prop :=
  s.get .CORE_WQ_CFG_ENABLE e.queue = 1 ∧ s.get .CORE_WQ_CFG_SUBMIT_FN e.queue = u ∧
    (e.ordered = true → s.get .CORE_FN_FLOW_BASE u ≤ e.flow ∧ e.flow < s.get .CORE_FN_FLOW_BASE u + s.get .CORE_FN_FLOW_COUNT u)

/-- The check of the hand-off of an entry's buffer to the task scheduler (R244): no buffer always passes. -/
def entryHandOff (u : Nat) (e : WorkEntry) (s : State) : Nat ⊕ (Nat × Nat) :=
  if e.bufAddr = 0 then .inr (0, 0) else bpmCheck s u e.bufAddr (some 103)

section
variable {u row : Nat} {e : WorkEntry} {s : State}

theorem admitCheck_of_malformed (h : e.version ≠ 1 ∨ e.zeros = false ∨ 1023 < e.queue) : admitCheck u e s = some (stParam, s) :=
  if_pos (h.imp_right (Or.imp_left fun hz => by rw [hz]; rfl))

theorem entryFormed.not_malformed (hw : entryFormed e) : ¬(e.version ≠ 1 ∨ (!e.zeros) = true ∨ 1023 < e.queue) := by
  obtain ⟨hv, hz, hq⟩ := hw
  simp [hv, hz, hq]

theorem admitCheck_of_forbidden (hw : entryFormed e)
    (h : s.get .CORE_WQ_CFG_ENABLE e.queue ≠ 1 ∨ s.get .CORE_WQ_CFG_SUBMIT_FN e.queue ≠ u ∨ (e.ordered = true ∧
      (e.flow < s.get .CORE_FN_FLOW_BASE u ∨ s.get .CORE_FN_FLOW_BASE u + s.get .CORE_FN_FLOW_COUNT u ≤ e.flow))) :
    admitCheck u e s = some (stPermission, s) := by
  refine (if_neg hw.not_malformed).trans (ite_eq_left_iff.2 fun hq => if_pos ?_)
  rcases h with h | h | h
  · exact (hq (.inl (by rw [State.isSet_eq_false_iff.2 h]; rfl))).elim
  · exact (hq (.inr h)).elim
  · exact h

/-- An entry that the function may submit goes on to its hand-off, and then to the queue's limit and the service. -/
theorem admitCheck_of_permitted (hw : entryFormed e) (hp : entryPermitted u e s) :
    admitCheck u e s = (entryHandOff u e s).elim (fun row => some (bpmRowStatus row, bpmFail u row e.bufAddr s)) fun _ =>
      if s.get .CORE_WQ_CFG_MAX_ITEMS e.queue ≤ waitingCount s e.queue then some (stNoSpace, s)
      else if (serviceTable s).all (fun x => x.1 != e.service) then some (stUnknown, s) else none := by
  obtain ⟨hen, hfn, hflow⟩ := hp
  have hqueue : ¬((!s.isSet .CORE_WQ_CFG_ENABLE e.queue) = true ∨ s.get .CORE_WQ_CFG_SUBMIT_FN e.queue ≠ u) := by
    simp [State.isSet_iff, hen, hfn]
  have hown : ¬(e.ordered = true ∧ (e.flow < s.get .CORE_FN_FLOW_BASE u ∨
      s.get .CORE_FN_FLOW_BASE u + s.get .CORE_FN_FLOW_COUNT u ≤ e.flow)) := fun ⟨ho, hout⟩ => by
    obtain ⟨hlo, hhi⟩ := hflow ho
    omega
  refine (if_neg hw.not_malformed).trans ((if_neg hqueue).trans ((if_neg hown).trans ?_))
  unfold entryHandOff
  generalize (if e.bufAddr = 0 then _ else _ : Nat ⊕ (Nat × Nat)) = hand
  cases hand <;> rfl

theorem admitCheck_of_handOff_failed (hw : entryFormed e) (hp : entryPermitted u e s) (hb : e.bufAddr ≠ 0)
    (h : bpmCheck s u e.bufAddr (some 103) = .inl row) : admitCheck u e s = some (bpmRowStatus row, bpmFail u row e.bufAddr s) := by
  rw [admitCheck_of_permitted hw hp, entryHandOff, if_neg hb, h]
  rfl

theorem admitCheck_of_handOff (hw : entryFormed e) (hp : entryPermitted u e s)
    (h : e.bufAddr = 0 ∨ ∃ x, bpmCheck s u e.bufAddr (some 103) = .inr x) : admitCheck u e s =
      if s.get .CORE_WQ_CFG_MAX_ITEMS e.queue ≤ waitingCount s e.queue then some (stNoSpace, s)
      else if (serviceTable s).all (fun x => x.1 != e.service) then some (stUnknown, s) else none := by
  have hand : ∃ x, entryHandOff u e s = .inr x := by
    unfold entryHandOff
    split
    next => exact ⟨_, rfl⟩
    next hb => exact h.resolve_left hb
  obtain ⟨x, hx⟩ := hand
  rw [admitCheck_of_permitted hw hp, hx]
  rfl

end

/-! ### SUBMISSION_READ (R293, R301 to R304) -/

/-- A function's submission ring is left alone: it is not set up or empty, work is stopped, or the device holds its limit of items. -/
def ringStopped (u : Nat) (s : State) : Prop :=
  (s.workRing u).subLog2 < 6 ∨ subWaiting s u = 0 ∨ s.get .FLT_STATUS_SAFE = 1 ∨ s.asleep = true ∨ s.get .BPM_OWNER_IN_RESET u = 1 ∨
    s.restarting 22 = true ∨ 8192 ≤ inFlight s

/-- The entry at SUB_HEAD lies in the function's windows. -/
def entryReadable (u : Nat) (s : State) : Bool := windowOk s u ((s.workRing u).subBase + s.get .CORE_FN_SUB_HEAD u * 64) 64 false

/-- The entry at SUB_HEAD is taken and a result reserved for it. -/
def entryTaken (u : Nat) (s : State) : State :=
  (s.set .CORE_FN_SUB_HEAD ((s.get .CORE_FN_SUB_HEAD u + 1) % 2 ^ (s.workRing u).subLog2) u).setWorkRing u
    (fun r => { r with reserved := r.reserved + 1 })

section
variable {u st : Nat} {e : WorkEntry} {s w : State}

theorem ringStopped_iff : ((s.workRing u).subLog2 < 6 ∨ subWaiting s u = 0 ∨ s.safe = true ∨ s.asleep = true ∨
    s.isSet .BPM_OWNER_IN_RESET u = true ∨ s.restarting 22 = true ∨ 8192 ≤ inFlight s) ↔ ringStopped u s := by
  simp only [ringStopped, State.safe, State.isSet_iff]

theorem effSubmissionRead_of_stopped (h : ringStopped u s) : effSubmissionRead u e s = s := if_pos (ringStopped_iff.2 h)

theorem effSubmissionRead_of_stalled (h : ¬ringStopped u s) (hf : resultFree s u = false) :
    effSubmissionRead u e s = s.inc .CORE_SUB_STALL :=
  (if_neg (mt ringStopped_iff.1 h)).trans (if_pos (by rw [hf]; rfl))

theorem effSubmissionRead_of_denied (h : ¬ringStopped u s) (hf : resultFree s u = true) (hr : entryReadable u s = false) :
    effSubmissionRead u e s = s.inc .CMD_WIN_DENIED :=
  (if_neg (mt ringStopped_iff.1 h)).trans ((if_neg (by simp [hf])).trans (if_pos (by rw [entryReadable] at hr; rw [hr]; rfl)))

/-- An entry that is read is admitted, or its result tells the check that failed. -/
theorem effSubmissionRead_of_readable (h : ¬ringStopped u s) (hf : resultFree s u = true) (hr : entryReadable u s = true) :
    effSubmissionRead u e s = (admitCheck u e (entryTaken u s)).elim
      (admitWork (hostWork u e) (if e.bufAddr = 0 then entryTaken u s else bpmMoveTo e.bufAddr 103 (entryTaken u s)))
      fun r => writeResult u r.1 false (hostWork u e) r.2 := by
  refine (if_neg (mt ringStopped_iff.1 h)).trans ((if_neg (by simp [hf])).trans
    ((if_neg (by rw [entryReadable] at hr; simp [hr])).trans ?_))
  change (match admitCheck u e (entryTaken u s) with | some (st, s) => _ | none => _) = _
  cases admitCheck u e (entryTaken u s) <;> rfl

end

/-! ### INTERNAL_ITEM (R193, R248, R295, R395) -/

section
variable {c k sq a len core n : Nat} {s t : State}

theorem effInternalItem_exception {rest : List (Nat × Nat)} (h : s.cls.delivered = (c, k) :: rest)
    (ht : t = s.setCls (fun x => { x with delivered := rest })) : effInternalItem true s =
      if s.restarting 22 = true then dropItem k (t.inc .FLT_RECOVERY_DISCARD) else exceptionItem c k t := by
  unfold effInternalItem
  rw [if_pos rfl, h, ht]
  rfl

theorem effInternalItem_frame {rest : List (Nat × Nat × Nat × Nat)} (h : s.sw.toCore = (sq, k, a, len) :: rest)
    (ht : t = s.setSw (fun w => { w with toCore := rest })) : effInternalItem false s =
      if s.restarting 22 = true then endDelivery k false (bpmFreeAt a (t.inc .FLT_RECOVERY_DISCARD))
      else endDelivery k true (coreFrame sq k a len t) := by
  unfold effInternalItem
  rw [if_neg Bool.false_ne_true, h, ht]
  rfl

theorem effInternalItem_no_exception (h : s.cls.delivered = []) : effInternalItem true s = s := by
  unfold effInternalItem
  rw [if_pos rfl, h]

theorem effInternalItem_no_frame (h : s.sw.toCore = []) : effInternalItem false s = s := by
  unfold effInternalItem
  rw [if_neg Bool.false_ne_true, h]

/-! ### CORE_DISPATCH (R297) and PREEMPTION (R298) -/

theorem effCoreDispatch_of_free {rest : List Nat} (hf : coreFree s core = true) (hn : nextQueue s core = some n)
    (hw : waitingOf s n = k :: rest) : effCoreDispatch core s = startOn k core s := by
  unfold effCoreDispatch
  rw [if_neg (by simp [hf]), hn]
  dsimp only
  rw [hw]

theorem effCoreDispatch_of_idle
    (h : coreFree s core = false ∨ nextQueue s core = none ∨ ∃ n, nextQueue s core = some n ∧ waitingOf s n = []) :
    effCoreDispatch core s = s := by
  refine ite_eq_left_iff.2 fun hf => ?_
  rcases h with h | h | ⟨n, hn, hw⟩
  · exact (hf (by rw [h]; rfl)).elim
  · rw [h]
  · rw [hn]
    dsimp only
    rw [hw]

end

section
variable {k v : Nat} {s t : State}

/-- Once the victim is saved, the item takes its core where it still waits. -/
theorem effPreemption_of_saving (h : savingFor s k = some v) (ht : t = saveItem v s) : effPreemption k s =
    if (waitingOf t (s.work k).queue).contains k = true then startOn k (s.work v).core t else t := by
  subst ht
  unfold effPreemption
  rw [h]

/-- An item may call for a victim: it is at the head of its queue, no core that its queue lists is free, and the cluster serves. -/
def callsVictim (k : Nat) (s : State) : Prop :=
  (waitingOf s (s.work k).queue).head? = some k ∧ (∀ c, c < 64 → coreFree s c = false ∨ listsCore s (s.work k).queue c = false) ∧
    s.restarting 22 = false

theorem callsVictim_iff : callsVictim k s ↔ ¬((waitingOf s (s.work k).queue).head? ≠ some k ∨
    ((List.range 64).any fun c => coreFree s c && listsCore s (s.work k).queue c) = true ∨ s.restarting 22 = true) := by
  simp [callsVictim, Classical.or_iff_not_imp_left]

theorem effPreemption_of_victim (h : savingFor s k = none) (hc : callsVictim k s)
    (hv : victimOf s (s.work k).queue (s.get .CORE_WQ_CFG_PRIORITY (s.work k).queue) = some v) : effPreemption k s = beginSave v k s := by
  unfold effPreemption
  rw [h]
  refine (if_neg (callsVictim_iff.1 hc)).trans ?_
  rw [hv]

theorem effPreemption_of_no_victim (h : savingFor s k = none)
    (hn : ¬callsVictim k s ∨ victimOf s (s.work k).queue (s.get .CORE_WQ_CFG_PRIORITY (s.work k).queue) = none) :
    effPreemption k s = s := by
  unfold effPreemption
  rw [h]
  refine ite_eq_left_iff.2 fun hc => ?_
  rw [hn.resolve_left (not_not_intro (callsVictim_iff.2 hc))]

end

/-! ### ITEM_END (R302, R307), ITEM_TIMEOUT (R299, R396) and LOCK_WAIT_TIMEOUT (R306) -/

section
variable {k status outLen data f lock : Nat} {fs : List Emitted} {s t u : State}

theorem effItemEnd_of_idle (h : (s.work k).phase ≠ 1 ∨ hasWork s k = false) : effItemEnd k status outLen data fs s = s :=
  if_pos (h.imp_right fun h => by rw [h]; rfl)

/-- A running item has ended: what it held is given up, and its results stand. -/
def itemEnded (k status outLen data : Nat) (fs : List Emitted) (s : State) : State :=
  (ownerCeases (.item k) s).setWork k (fun w =>
    { w with phase := 3, status := status % 256, outLen := outLen % 2 ^ 32, data := data % 2 ^ 64,
             frames := fs.map (fun f => (f.dest % 42, f.cls % 8, f.aid % 64, f.bytes)) })

theorem effItemEnd_of_running (hr : (s.work k).phase = 1) (hw : hasWork s k = true) (hu : u = itemEnded k status outLen data fs s)
    (ht : t = wqShow (u.work k).queue (cpuShow (s.work k).core u)) : effItemEnd k status outLen data fs s =
      (u.work k).flow.elim (releaseWork k t) fun f =>
        flowOn (u.work k) (t.when ((Tab.get [] t.core.flows f).head? != some k) (fun s => s.inc .CORE_THYME_HELD)) := by
  have hend : effItemEnd k status outLen data fs s = match (u.work k).flow with
      | none => releaseWork k t
      | some f => flowOn (u.work k) (t.when ((Tab.get [] t.core.flows f).head? != some k) (fun s => s.inc .CORE_THYME_HELD)) := by
    subst ht hu
    exact if_neg (by simp [hr, hw])
  rw [hend]
  cases (u.work k).flow <;> rfl

theorem effItemTimeout_of_within (h : (s.work k).phase ≠ 1 ∨ hasWork s k = false ∨
    (s.work k).ran + (s.now - (s.work k).startedAt) ≤ s.get .CORE_RUN_LIMIT_US_LIMIT * uUs) : effItemTimeout k s = s :=
  if_pos (h.imp_right (Or.imp_left fun h => by rw [h]; rfl))

theorem effItemTimeout_of_beyond (hr : (s.work k).phase = 1) (hw : hasWork s k = true)
    (h : s.get .CORE_RUN_LIMIT_US_LIMIT * uUs < (s.work k).ran + (s.now - (s.work k).startedAt)) : effItemTimeout k s =
      startRecovery 22 (s.work k).core 1 (mkSource 22 (s.work k).core 4) (openWindow (loseWork k stTimeout
        ((s.inc .CORE_TIMEOUTS).raise 0x0D01 [(s.work k).core, (s.work k).queue, (s.work k).service]))) :=
  if_neg (by simp [hr, hw, h])

theorem effLockWaitTimeout_of_waiting (h : ∀ w ∈ (s.lock lock).waiters, s.now < w.since + w.waitUs * uUs) :
    effLockWaitTimeout lock s = s := by
  have hnone : (s.lock lock).waiters.find? (fun w => decide (w.since + w.waitUs * uUs ≤ s.now)) = none :=
    List.find?_eq_none.2 fun w hw => by simpa using h w hw
  unfold effLockWaitTimeout
  rw [hnone]

theorem effLockWaitTimeout_of_over {pre post : List LockWait} {w : LockWait} (h : (s.lock lock).waiters = pre ++ w :: post)
    (hpre : ∀ x ∈ pre, s.now < x.since + x.waitUs * uUs) (hw : w.since + w.waitUs * uUs ≤ s.now) : effLockWaitTimeout lock s =
      lockReply w.req stTimeout 0 (lockShow lock (s.setLock lock (fun l => { l with waiters := l.waiters.filter (· ≠ w) }))) := by
  have hfirst : (s.lock lock).waiters.find? (fun w => decide (w.since + w.waitUs * uUs ≤ s.now)) = some w :=
    List.find?_eq_some_iff_append.2 ⟨decide_eq_true hw, pre, post, h, fun x hx => by simpa using hpre x hx⟩
  unfold effLockWaitTimeout
  rw [hfirst]

end

/-- Settles O36, one event after the other. -/
theorem coreEventsComplete : Obligations.CoreEventsComplete := by
  refine ⟨fun _ _ _ => ⟨rfl, rfl⟩, fun u e s t stopped hs ht => ?_,
    fun u e s => ⟨admitCheck_of_malformed, fun hv hz hq => ⟨admitCheck_of_forbidden ⟨hv, hz, hq⟩, fun hen hfn hflow => ?_⟩⟩,
    fun s => ⟨fun c k rest t h ht => ?_, fun sq k a len rest t h ht => ?_, fun h => next_congr (effInternalItem_no_exception h),
      fun h => next_congr (effInternalItem_no_frame h)⟩,
    fun core s => ⟨fun n k rest hf hn hw => next_congr (effCoreDispatch_of_free hf hn hw), fun h => next_congr (effCoreDispatch_of_idle h)⟩,
    fun k s t => ⟨fun v h ht => ?_, fun h => ⟨fun v hh hf hr hv => next_congr (effPreemption_of_victim h ⟨hh, hf, hr⟩ hv), fun hn => ?_⟩⟩,
    fun k status outLen data fs s t => ⟨fun h => next_congr (effItemEnd_of_idle h), fun hr hw u hu ht => ?_⟩,
    fun k s => ⟨fun h => next_congr (effItemTimeout_of_within h), fun hr hw h => next_congr (effItemTimeout_of_beyond hr hw h)⟩,
    fun lock s => ⟨fun h => next_congr (effLockWaitTimeout_of_waiting h),
      fun pre w post h hpre hw => next_congr (effLockWaitTimeout_of_over h hpre hw)⟩⟩
  · obtain rfl : stopped = ringStopped u s := propext hs
    obtain rfl : t = entryTaken u s := ht
    refine ⟨fun h => next_congr (effSubmissionRead_of_stopped h), fun h => ⟨fun hf => next_congr (effSubmissionRead_of_stalled h hf),
      fun hf => ⟨fun hr => next_congr (effSubmissionRead_of_denied h hf hr), fun hr => ?_⟩⟩⟩
    have hx := effSubmissionRead_of_readable (e := e) h hf hr
    exact ⟨fun st w hc => next_congr (hx.trans (by rw [hc]; rfl)), fun hc => next_congr (hx.trans (by rw [hc]; rfl))⟩
  · have hw : entryFormed e := ⟨hv, hz, hq⟩
    have hp : entryPermitted u e s := ⟨hen, hfn, hflow⟩
    refine ⟨fun row hb h => admitCheck_of_handOff_failed hw hp hb h, fun h => ?_⟩
    have hx := admitCheck_of_handOff hw hp h
    refine ⟨fun hfull => hx.trans (if_pos hfull), fun hroom => ⟨fun hno => ?_, fun ⟨x, hm, hx'⟩ => ?_⟩⟩
    · exact hx.trans ((if_neg (Nat.not_le_of_lt hroom)).trans (if_pos (List.all_eq_true.2 fun x hm => bne_iff_ne.2 (hno x hm))))
    · exact hx.trans ((if_neg (Nat.not_le_of_lt hroom)).trans (if_neg fun hall =>
        bne_iff_ne.1 (List.all_eq_true.1 hall x hm : (x.1 != e.service) = true) hx'))
  · have hx := effInternalItem_exception h ht
    exact ⟨fun hr => next_congr (hx.trans (if_neg (ne_true_of_eq_false hr))), fun hr => next_congr (hx.trans (if_pos hr))⟩
  · have hx := effInternalItem_frame h ht
    exact ⟨fun hr => next_congr (hx.trans (if_neg (ne_true_of_eq_false hr))), fun hr => next_congr (hx.trans (if_pos hr))⟩
  · have hx := effPreemption_of_saving h ht
    exact ⟨fun hc => next_congr (hx.trans (if_pos hc)), fun hc => next_congr (hx.trans (if_neg (ne_true_of_eq_false hc)))⟩
  · refine next_congr (effPreemption_of_no_victim h ?_)
    rcases hn with hn | ⟨c, hc, hf, hl⟩ | hn | hn
    · exact .inl fun ⟨hh, _, _⟩ => hn hh
    · exact .inl fun ⟨_, hno, _⟩ => (hno c hc).elim (ne_false_of_eq_true hf) (ne_false_of_eq_true hl)
    · exact .inl fun ⟨_, _, hr⟩ => ne_false_of_eq_true hn hr
    · exact .inr hn
  · have hx := effItemEnd_of_running hr hw hu ht
    refine ⟨fun h => next_congr (hx.trans (by rw [h]; rfl)), fun f h => ⟨fun hh => ?_, fun hh => ?_⟩⟩
    · exact next_congr (hx.trans (by rw [h]; exact congrArg (flowOn (u.work k)) (State.when_of_false (bne_eq_false_iff_eq.2 hh))))
    · exact next_congr (hx.trans (by rw [h]; exact congrArg (flowOn (u.work k)) (State.when_of_true (bne_iff_ne.2 hh))))

end Sys2Proof.Machine

/-! ## The table commands (`08_tables.md` R205, R207 to R209, R211, R213, R215 to R219; `14_boot_store.md` R357) -/

namespace Sys2Proof.Machine

open Sys2Proof

section
variable {q : Req} {s : State}

theorem tblReady_of_loading (hk : s.get .SYS_BOOT_KIND = 1) (hp : s.get .SYS_BOOT_PHASE < 12) (hj : q.src ≠ .journal) :
    tblReady q s = some (stBusy, 21) :=
  if_pos (by simp [tablesAwait, tablesLoading, hk, hp, hj])

/-- The unit's state is looked at before any participant is asked whether it restarts (R310, R311). -/
theorem single_unit_of_gate {c : CmdInfo} {keys : List Nat} {unit : State → Option (Nat × Nat)} {param : State → Option Nat}
    {body : State → Result} {st d : Nat} (h0 : heldBack c s = false) (hg : gate c q s = none) (hu : unit s = some (st, d)) :
    single c q keys unit param body s = reject c q st d s := by
  simp [single, checked, h0, hg, hu]

/-! ### One entry of a best-effort command (R207, R209, R211, R213, Table 8.4) -/

section
variable {e : REntry} {i tier : Nat} {replace : Bool}

theorem nhWriteOne_of_refused (h : 262144 ≤ e.index ∨ 35 < bits e.data 121 6 ∨ bits e.data 0 36 ≠ 0) : nhWriteOne s e = (s, stParam) :=
  if_neg fun ⟨hi, hd, h0⟩ => h.elim hi.not_ge fun h => h.elim hd.not_gt fun h => h h0

theorem ecmpWriteOne_of_group (hi : e.index < 16384) (hr : bits e.data 62 1 = 0) (h0 : bits e.data 0 36 = 0) : ecmpWriteOne s e =
    (tblGen (s.setTables (fun t => { t with ecmpGroup := Tab.put 0 t.ecmpGroup e.index (e.data % 2 ^ 64) })), stDone) := by
  have hlow : e.index % 2 ^ 32 = e.index := Nat.mod_eq_of_lt (by omega)
  unfold ecmpWriteOne
  rw [hlow, if_pos (by omega)]
  exact if_pos ⟨hi, hr, h0⟩

theorem ecmpWriteOne_of_member (he : e.index = 2 ^ 32 + i) (hi : i < 262144) (hr : bits e.data 50 14 = 0) (h0 : bits e.data 0 32 = 0) :
    ecmpWriteOne s e =
      (tblGen (s.setTables (fun t => { t with ecmpMember := Tab.put 0 t.ecmpMember i (bits e.data 32 18) })), stDone) := by
  have hlow : e.index % 2 ^ 32 = i := by omega
  have hhigh : e.index / 2 ^ 32 = 1 := by omega
  unfold ecmpWriteOne
  rw [hlow, hhigh, if_neg Nat.one_ne_zero]
  exact if_pos ⟨rfl, hi, hr, h0⟩

theorem ecmpWriteOne_of_range (h : (16384 ≤ e.index ∧ e.index < 2 ^ 32) ∨ 2 ^ 32 + 262144 ≤ e.index) : ecmpWriteOne s e = (s, stParam) := by
  unfold ecmpWriteOne
  rcases h with ⟨hlo, hhi⟩ | hlo
  · rw [if_pos (Nat.div_eq_of_lt hhi)]
    exact if_neg fun ⟨hi, _⟩ => by omega
  · rw [if_neg (by omega)]
    exact if_neg fun ⟨h1, hi, _⟩ => by omega

theorem emInsertOne_of_sound (hr : resultOk (bits e.data 62 2) (bits e.data 44 18) = true) (h4 : bits e.data 40 4 = 0)
    (h0 : bits e.data 0 6 = 0) : emInsertOne tier replace s e = emInsert tier replace (emEntryOf e.data) s :=
  if_pos (by simp [emEntryOf, hr, h4, h0])

theorem emInsertOne_of_refused (h : resultOk (bits e.data 62 2) (bits e.data 44 18) = false ∨ bits e.data 40 4 ≠ 0 ∨ bits e.data 0 6 ≠ 0) :
    emInsertOne tier replace s e = (s, stParam) := by
  refine if_neg fun hs => ?_
  obtain ⟨⟨hr, h4⟩, h0⟩ := by simpa [emEntryOf] using hs
  exact h.elim (ne_false_of_eq_true hr) fun h => h.elim (· h4) (· h0)

theorem lpmOne_of_prefix {v6 : Bool} {vrf a r : Nat} (h : prefixOf e.data = some (v6, vrf, a, r)) :
    lpmInsertOne replace s e = lpmInsert v6 vrf a r replace s ∧ lpmDeleteOne s e = lpmDelete v6 vrf a (bits r 4 8) s := by
  unfold lpmInsertOne lpmDeleteOne
  rw [h]
  exact ⟨rfl, rfl⟩

theorem lpmOne_of_no_prefix (h : prefixOf e.data = none) : lpmInsertOne replace s e = (s, stParam) ∧ lpmDeleteOne s e = (s, stParam) := by
  unfold lpmInsertOne lpmDeleteOne
  rw [h]
  exact ⟨rfl, rfl⟩

end

/-! ### TBL_EM_FIND, TBL_HIT_SCAN and TBL_SNAPSHOT (R208, R216, R217) -/

section
variable {key k : Nat}

theorem tblEmFind_on_die (hk : key < 2 ^ 128) (ht : takenUp ciTblEmFind q s = true) (hr : tblReady q s = none)
    (h : emFind false s key = some k) : Done (.tblEmFind q key) ciTblEmFind q [] s s
      (formR [(0, [1 * 2 ^ 56 + k / 4 * 2 ^ 16 + k % 4] ++ emRecord (emAt false s k))]) := by
  refine next_congr ((single_accepted _ _ ht hr (want_true _ (decide_eq_true hk))).trans ?_)
  rw [h]

theorem tblEmFind_in_extension (hk : key < 2 ^ 128) (ht : takenUp ciTblEmFind q s = true) (hr : tblReady q s = none)
    (hd : emFind false s key = none) (h : emFind true s key = some k) : Done (.tblEmFind q key) ciTblEmFind q [] s s
      (formR [(0, [2 * 2 ^ 56 + k / 4 * 2 ^ 16 + k % 4] ++ emRecord (emAt true s k))]) := by
  refine next_congr ((single_accepted _ _ ht hr (want_true _ (decide_eq_true hk))).trans ?_)
  rw [hd, h]

theorem tblEmFind_absent (hk : key < 2 ^ 128) (ht : takenUp ciTblEmFind q s = true) (hr : tblReady q s = none)
    (hd : emFind false s key = none) (h : emFind true s key = none) :
    Next (.tblEmFind q key) s (reject ciTblEmFind q stState 0 s) := by
  refine next_congr ((single_accepted _ _ ht hr (want_true _ (decide_eq_true hk))).trans ?_)
  rw [hd, h]
  rfl

end

section
variable {first count : Nat}

/-- On die, the number of an entry is its index. -/
theorem hitsOf_on_die : hitsOf false 0 first count s =
    (s.tables.t.em.filter (fun p => decide (first ≤ p.1 ∧ p.1 < first + count) && p.2.hit)).map (fun p => (p.1, p.1)) := by
  simp [hitsOf, emTab]

theorem tblHitScan_done (ht : takenUp ciTblHitScan q s = true) (hr : tblReady q s = none) (hf : first < emEntries s)
    (hc : first + count ≤ emEntries s) : Done (.tblHitScan q first count) ciTblHitScan q [] s
      (clearHits true (hitsOf true 4194304 first count s) (clearHits false (hitsOf false 0 first count s) s))
      (formR ((hitsOf false 0 first count s ++ hitsOf true 4194304 first count s).map (fun k => (k.2, [])))) :=
  next_congr (single_accepted _ _ ht hr (by simp [want, hf, hc]))

end

theorem tblSnapshot_busy (ht : takenUp ciTblSnapshot q s = true) (h : s.get .TBL_SNAP_WRITING = 1) :
    Next (.tblSnapshot q) s (reject ciTblSnapshot q stBusy 21 s) :=
  next_congr (single_unit ht (if_pos (State.isSet_iff.2 h)))

theorem snapshotUnit_of_idle (h : s.get .TBL_SNAP_WRITING ≠ 1) (hr : tblReady q s = none) :
    (if s.isSet .TBL_SNAP_WRITING then some (stBusy, 21) else tblReady q s) = none :=
  (if_neg (mt State.isSet_iff.1 h)).trans hr

/-! ### The parameters of TBL_EM_INSERT and TBL_LEARN_CONFIG (R207, R215) -/

theorem emInsertParams_valid {tier : Nat} {es : List REntry} (hn : es.length ≤ 64) (htier : tier < 3) :
    firstErr [effTblEmInsert.atMost64 es s, want 20 (decide (tier < 3))] = none := by
  simp [effTblEmInsert.atMost64, want, hn, htier]

theorem learnParams_valid {base hold : Nat} (hb : base < 2 ^ 64) (hh : 1 ≤ hold ∧ hold < 65536) :
    firstErr [want 24 (decide (base < 2 ^ 64)), want 32 (decide (1 ≤ hold ∧ hold < 65536))] = none := by
  rw [want_true _ (decide_eq_true hb), want_true _ (decide_eq_true hh)]
  rfl

theorem tblLearnConfig_staged {base hold : Nat} (ht : takenAtomic ciTblLearnConfig q s = true) (hr : tblReady q s = none)
    (hb : base < 2 ^ 64) (h1 : 1 ≤ hold) (h2 : hold < 65536) :
    Stages (.tblLearnConfig q base hold) ciTblLearnConfig q s (.learn base hold) :=
  next_congr (atomicCmd_accepted _ ht hr (learnParams_valid hb ⟨h1, h2⟩))

end

/-- Settles O28, one row of the table after the other. -/
theorem tableCommandsComplete : Obligations.TableCommandsComplete := by
  refine ⟨fun q tier replace es s hr hn => ?_,
    fun e s => ⟨fun hi hd h0 => if_pos ⟨hi, hd, h0⟩, nhWriteOne_of_refused, ecmpWriteOne_of_group,
      fun i => ecmpWriteOne_of_member, ecmpWriteOne_of_range⟩,
    fun tier replace e s => ⟨emInsertOne_of_sound, emInsertOne_of_refused, fun v6 vrf a r => lpmOne_of_prefix, lpmOne_of_no_prefix⟩,
    fun q key s hk ht hr => ⟨fun k => tblEmFind_on_die hk ht hr, fun k => tblEmFind_in_extension hk ht hr, tblEmFind_absent hk ht hr⟩,
    fun q es s ht hr hw => next_congr (atomicCmd_accepted _ ht hr hw),
    fun q base hold s => tblLearnConfig_staged, fun q first count a b s ht hr hf hc ha hb => ?_,
    fun q s ht => ⟨tblSnapshot_busy ht, fun h hr => next_congr (single_accepted _ _ ht (snapshotUnit_of_idle h hr) rfl)⟩,
    fun q s ht hr => next_congr (single_accepted _ _ ht hr rfl),
    fun q s h0 hg hk hp hj => next_congr (single_unit_of_gate h0 hg (tblReady_of_loading hk hp hj))⟩
  · have h64 : want 16 (decide (es.length ≤ 64)) = none := want_true _ (decide_eq_true hn)
    exact ⟨fun htier ht => doneEach_of_bestEffort rfl ht hr (emInsertParams_valid hn htier),
      fun ht => doneEach_of_bestEffort rfl ht hr h64, fun ht => doneEach_of_bestEffort rfl ht hr h64,
      fun ht => doneEach_of_bestEffort rfl ht hr h64, fun ht => doneEach_of_bestEffort rfl ht hr h64,
      fun ht => doneEach_of_bestEffort rfl ht hr rfl⟩
  · obtain rfl : a = hitsOf false 0 first count s := ha.trans hitsOf_on_die.symm
    obtain rfl : b = hitsOf true 4194304 first count s := hb
    exact tblHitScan_done ht hr hf hc

end Sys2Proof.Machine

/-! ## The switch and buffer pool commands (`09_buffers.md` R221, R228, R233, R236, R240, R241, R243, R244, R247) -/

namespace Sys2Proof.Machine

open Sys2Proof

/-! ### SW_DEST_CONFIG and SW_ING_CONFIG (R228, Table 9.12) -/

/-- DOWN_ACTION 1 is asked of a line destination, which takes none (Table 9.12). -/
def lineDownAction (e : WEntry) : Bool := (wWrites .SW_DEST_ALLOC_DOWN_ACTION [e]).any (fun w => decide (32 ≤ w.1) && w.2.2 == 1)

/-- The fields that SW_DEST_CONFIG writes. -/
def destFields : List Fld := [.SW_DEST_ALLOC_DOWN_FLUSH_MS, .SW_DEST_ALLOC_DOWN_ACTION, .SW_DEST_ALLOC_SHARED_LIMIT]

/-- The fields that SW_ING_CONFIG writes. -/
def ingFields : List Fld := [.SW_ING_LOSSLESS, .SW_ING_HEADROOM, .SW_ING_XOFF, .SW_ING_XON]

section
variable {q : Req} {e : WEntry} {es rest : List WEntry} {s : State}

/-- The second of two checks answers where the first passes. -/
theorem firstErr_of_none {a b : Option Nat} (h : a = none) : firstErr [a, b] = b := by
  subst h
  cases b <;> rfl

section
variable {α β : Type} {p : α × Nat → Bool} {g : α × Nat → β} {a : α} {l : List α}

/-- A search of the entries, each with its place, finds nothing where no entry meets the test. -/
theorem findSome?_zipIdx_of_false (h : ∀ a ∈ l, ∀ k, p (a, k) = false) :
    l.zipIdx.findSome? (fun x => if p x then some (g x) else none) = none :=
  List.findSome?_eq_none_iff.2 fun x hx => if_neg (ne_true_of_eq_false (h x.1 (List.fst_mem_of_mem_zipIdx hx) x.2))

theorem findSome?_zipIdx_of_head (h : p (a, 0) = true) :
    (a :: l).zipIdx.findSome? (fun x => if p x then some (g x) else none) = some (g (a, 0)) := by
  rw [List.zipIdx_cons, List.findSome?_cons, if_pos h]

end

theorem lineDownAction_iff : lineDownAction e = true ↔ ∃ w ∈ wWrites .SW_DEST_ALLOC_DOWN_ACTION [e], 32 ≤ w.1 ∧ w.2.2 = 1 := by
  simp [lineDownAction]

theorem swDestConfig_staged (ht : takenAtomic ciSwDestConfig q s = true) (hw : wErr (fun f => destFields.contains f) es = none)
    (hl : ∀ e ∈ es, lineDownAction e = false) : Stages (.swDestConfig q es) ciSwDestConfig q s (.regs es) :=
  next_congr (atomicCmd_accepted _ ht rfl ((firstErr_of_none hw).trans (findSome?_zipIdx_of_false fun e he _ => hl e he)))

/-- DETAIL is the offset of DOWN_ACTION in the first entry (R310). -/
theorem swDestConfig_refused (ht : takenAtomic ciSwDestConfig q s = true)
    (hw : wErr (fun f => destFields.contains f) (e :: rest) = none) (hl : lineDownAction e = true) :
    Next (.swDestConfig q (e :: rest)) s (reject { ciSwDestConfig with parts := [] } q stParam 36 s) :=
  next_congr (atomicCmd_param _ ht rfl ((firstErr_of_none hw).trans (findSome?_zipIdx_of_head hl)))

theorem swIngConfig_staged (ht : takenAtomic ciSwIngConfig q s = true) (hw : wErr (fun f => ingFields.contains f) es = none)
    (hx : ∀ k, (wApplyAll s es).get .SW_ING_XON k < (wApplyAll s es).get .SW_ING_XOFF k) :
    Stages (.swIngConfig q es) ciSwIngConfig q s (.regs es) := by
  refine next_congr (atomicCmd_accepted _ ht rfl ((firstErr_of_none hw).trans
    (findSome?_zipIdx_of_false fun e _ _ => List.any_eq_false.2 fun f _ => ?_)))
  simp [hx]

end

/-! ### SW_QUEUE_CONFIG (R221, Table 9.7) -/

/-- A field of a field is a field. -/
theorem bits_bits {v lo w i n : Nat} (h : i + n ≤ w) : bits (bits v lo w) i n = bits v (lo + i) n := by
  refine Nat.eq_of_testBit_eq fun k => ?_
  simp only [bits, Nat.testBit_mod_two_pow, Nat.testBit_div_two_pow]
  by_cases hk : k < n
  · simp [hk, show k + i < w by omega, show k + i + lo = k + (lo + i) by omega]
  · simp [hk]

/-- A queue record is refused (Table 9.7): no such queue or destination, a bit set that must be zero, or no such pool for the
destinations 40 and 41. -/
abbrev queueRecordBad (e : REntry) : Prop :=
  131072 ≤ e.index ∨ 41 < bits e.data 120 6 ∨ bits e.data 1 5 ≠ 0 ∨ (40 ≤ bits e.data 120 6 ∧ 16 ≤ bits e.data 115 5)

/-- The queue holds a frame. -/
def queueHolds (s : State) (n : Nat) : Bool := s.copies.any (fun c => c.2.queue == n && decide (c.2.phase = 0))

/-- The queue's record once it is taken: a lower MIN charges what the queue holds anew (R249). -/
def queueTaken (e : REntry) (s : State) : State :=
  (if bits e.data 80 29 < (s.queue e.index).min then recharge (bits e.data 80 29) 0 (s.queue e.index).copies s else s).setQueue e.index
    (fun x => { x with dest := bits e.data 120 6, cls := bits e.data 112 3, pool := bits e.data 115 5, min := bits e.data 80 29,
                       max := bits e.data 48 29, wq := bits e.data 6 10 })

section
variable {e : REntry} {s : State}

/-- `queueConfigOne` reads the record by bytes (`b`); here each field stands by its bits. -/
theorem queueConfigOne_eq : queueConfigOne s e =
    if queueRecordBad e then (s, stParam)
    else if bits e.data 120 6 ≠ (s.queue e.index).dest ∧ queueHolds s e.index = true then (s, stState)
    else (refreshShared (bits e.data 120 6) (refreshShared (s.queue e.index).dest (queueTaken e s)), stDone) := by
  have hdest : bits e.data 120 8 % 64 = bits e.data 120 6 := by simp only [bits]; omega
  have hpool : bits e.data 112 8 / 8 = bits e.data 115 5 := by simp only [bits]; omega
  have hcls : bits e.data 112 8 % 8 = bits e.data 112 3 := by simp only [bits]; omega
  have hmin : bits (bits e.data 80 32) 0 29 = bits e.data 80 29 := bits_bits (by decide)
  have hmax : bits (bits e.data 48 32) 0 29 = bits e.data 48 29 := bits_bits (by decide)
  have hzero : bits (bits e.data 0 16) 1 5 = bits e.data 1 5 := (bits_bits (by decide)).trans (by simp)
  have hwq : bits (bits e.data 0 16) 6 10 = bits e.data 6 10 := (bits_bits (by decide)).trans (by simp)
  unfold queueConfigOne
  simp only [queueRecordBad, queueHolds, queueTaken, hdest, hpool, hcls, hmin, hmax, hzero, hwq, Nat.reduceMul, Nat.reduceSub]
  rfl

theorem queueConfigOne_of_bad (h : queueRecordBad e) : queueConfigOne s e = (s, stParam) :=
  queueConfigOne_eq.trans (if_pos h)

theorem queueConfigOne_of_held (hg : ¬ queueRecordBad e) (hd : bits e.data 120 6 ≠ (s.queue e.index).dest)
    (hh : queueHolds s e.index = true) : queueConfigOne s e = (s, stState) :=
  queueConfigOne_eq.trans ((if_neg hg).trans (if_pos ⟨hd, hh⟩))

theorem queueConfigOne_of_good (hg : ¬ queueRecordBad e)
    (h : bits e.data 120 6 = (s.queue e.index).dest ∨ queueHolds s e.index = false) : queueConfigOne s e =
      (refreshShared (bits e.data 120 6) (refreshShared (s.queue e.index).dest (queueTaken e s)), stDone) :=
  queueConfigOne_eq.trans ((if_neg hg).trans (if_neg fun ⟨hd, hh⟩ => h.elim hd (ne_false_of_eq_true hh)))

end

/-! ### BPM_POOL_CONFIG and BPM_ALLOC (R240, R241) -/

section
variable {q : Req} {es : List WEntry} {p pool count owner addr : Nat} {target : Option Nat} {s : State}

theorem bpmPoolConfig_staged (ht : takenAtomic ciBpmPoolConfig q s = true) (hw : wErr (fun f => poolFields.contains f) es = none)
    (hi : ∀ p ∈ poolsTouched es, poolIdle s p = true) (hp : poolErr es s = none) :
    Stages (.bpmPoolConfig q es) ciBpmPoolConfig q s (.poolConfig es) :=
  next_congr (atomicCmd_accepted _ ht (needs_of_true (List.all_eq_true.2 hi)) ((firstErr_of_none hw).trans hp))

theorem bpmPoolConfig_refused (ht : takenAtomic ciBpmPoolConfig q s = true) (hm : p ∈ poolsTouched es) (hp : poolIdle s p = false) :
    Next (.bpmPoolConfig q es) s (reject { ciBpmPoolConfig with parts := [] } q stState 0 s) :=
  next_congr (atomicCmd_unit _ ht (if_neg (mt List.all_eq_true.1 fun h => ne_false_of_eq_true (h p hm) hp)))

/-- The parameter check of BPM_ALLOC: the pool exists and the count is in range. -/
theorem bpmAllocParams_valid (hpool : pool < 16) (hc : 1 ≤ count ∧ count ≤ 64) :
    firstErr [want 24 (decide (pool < 16)), want 32 (decide (1 ≤ count ∧ count ≤ 64))] = none := by
  rw [want_true _ (decide_eq_true hpool), want_true _ (decide_eq_true hc)]
  rfl

/-- An owner that is not in reset is served. -/
theorem ownerServes (ho : s.get .BPM_OWNER_IN_RESET owner ≠ 1) : needs (fun s => !(s.isSet .BPM_OWNER_IN_RESET owner)) s = none :=
  needs_of_true (by rw [State.isSet_eq_false_iff.2 ho]; rfl)

theorem bpmAlloc_done {t : State} {addrs : List Nat} (hpool : pool < 16) (hc : 1 ≤ count ∧ count ≤ 64) (ht : takenUp ciBpmAlloc q s = true)
    (ho : s.get .BPM_OWNER_IN_RESET q.user ≠ 1) (h : allocMany pool q.user count s = some (t, addrs)) :
    Done (.bpmAlloc q pool count) ciBpmAlloc q [] s t (formR (addrs.zipIdx.map (fun a => (a.2, [a.1])))) := by
  refine next_congr ((single_accepted _ _ ht (ownerServes ho) (bpmAllocParams_valid hpool hc)).trans ?_)
  rw [h]

theorem bpmAlloc_noSpace (hpool : pool < 16) (hc : 1 ≤ count ∧ count ≤ 64) (ht : takenUp ciBpmAlloc q s = true)
    (ho : s.get .BPM_OWNER_IN_RESET q.user ≠ 1) (h : allocMany pool q.user count s = none) :
    Next (.bpmAlloc q pool count) s (complete ciBpmAlloc q [] 0 { state := s.inc .BPM_NOSPACE, status := stNoSpace }) := by
  refine next_congr ((single_accepted _ _ ht (ownerServes ho) (bpmAllocParams_valid hpool hc)).trans ?_)
  rw [h]

/-! ### One entry of BPM_FREE and BPM_HANDOFF (R243, R244, Table 9.5) -/

theorem bpmOne_of_refused {row : Nat} (ho : s.get .BPM_OWNER_IN_RESET owner ≠ 1) (h : bpmCheck s owner addr target = .inl row) :
    bpmOne owner addr target s = (bpmFail owner row addr s, bpmRowStatus row) := by
  unfold bpmOne
  rw [if_neg (mt State.isSet_iff.1 ho), h]

theorem bpmOne_of_free {k : Nat} (ho : s.get .BPM_OWNER_IN_RESET owner ≠ 1) (h : bpmCheck s owner addr none = .inr (p, k)) :
    bpmOne owner addr none s = (bpmPut p k s, stDone) := by
  unfold bpmOne
  rw [if_neg (mt State.isSet_iff.1 ho), h]

theorem bpmOne_of_handoff {k t : Nat} (ho : s.get .BPM_OWNER_IN_RESET owner ≠ 1) (h : bpmCheck s owner addr (some t) = .inr (p, k)) :
    bpmOne owner addr (some t) s = (bpmPass p k t s, stDone) := by
  unfold bpmOne
  rw [if_neg (mt State.isSet_iff.1 ho), h]

end

/-- Settles O29, one row of the table after the other. -/
theorem switchAndPoolCommandsComplete : Obligations.SwitchAndPoolCommandsComplete := by
  refine ⟨fun q es s ht hw => next_congr (atomicCmd_accepted _ ht rfl hw),
    fun q es s ht hw => ⟨fun h => swDestConfig_staged ht hw fun e he => ?_, fun e rest hes h => ?_⟩,
    fun q es s ht hw hx => swIngConfig_staged ht hw hx,
    fun q es s hn ht => doneEach_of_bestEffort rfl ht rfl (want_true _ (decide_eq_true hn)),
    fun e dest pool min max s t hdest hpool hmin hmax => ?_,
    fun q mask s hm ht => next_congr (single_accepted _ _ ht rfl (want_true _ (decide_eq_true hm))),
    fun q es s ht hw => next_congr (writeCmd_accepted _ _ ht hw),
    fun q es s ht hw => ⟨bpmPoolConfig_staged ht hw, fun p => bpmPoolConfig_refused ht⟩,
    fun q pool count s hp h1 h64 ht ho => ⟨fun t addrs => bpmAlloc_done hp ⟨h1, h64⟩ ht ho, bpmAlloc_noSpace hp ⟨h1, h64⟩ ht ho⟩,
    fun q es s hn => ⟨fun ht => doneEach_of_bestEffort rfl ht rfl (want_true _ (decide_eq_true hn)),
      fun ht => doneEach_of_bestEffort rfl ht rfl (want_true _ (decide_eq_true hn))⟩,
    fun owner addr target s ho => ⟨fun row => bpmOne_of_refused ho, fun p k => bpmOne_of_free ho, fun p k t => bpmOne_of_handoff ho⟩,
    fun q s ht => next_congr (single_accepted _ _ ht rfl rfl)⟩
  · refine eq_false_of_ne_true fun hl => ?_
    obtain ⟨w, hw, h32, h1⟩ := lineDownAction_iff.1 hl
    exact (h e he w hw).elim h32.not_gt (· h1)
  · subst hes
    exact swDestConfig_refused ht hw (lineDownAction_iff.2 h)
  · subst hdest hpool hmin hmax
    refine ⟨queueConfigOne_of_bad, fun hi hd h0 hp => ?_⟩
    have hg : ¬ queueRecordBad e := fun hb => by unfold queueRecordBad at hb; omega
    exact ⟨queueConfigOne_of_held hg, fun hfree ht => ht ▸ queueConfigOne_of_good hg hfree⟩

end Sys2Proof.Machine

/-! ## The scheduling and policing commands (`10_scheduling.md` R253, R258, R261, R265) -/

namespace Sys2Proof.Machine

open Sys2Proof

/-! ### One node of SCHED_NODE_WRITE and SCHED_QUEUE_MAP (R253) -/

/-- The node has no parent to choose: a level 4 node, or one of the first 256 of level 2 (R253). -/
def parentFixed (level n : Nat) : Bool := level == 4 || (level == 2 && decide (n < 256))

/-- The node cannot have this parent (R253): another than 0 at a fixed node, a destination whose level 2 nodes are fixed or that does not
exist, no node of level 2. -/
def parentRefused (level n parent : Nat) : Bool :=
  if parentFixed level n then parent != 0
  else if level = 2 then decide (41 < parent ∨ (32 ≤ parent ∧ parent ≤ 35)) else decide (4096 ≤ parent)

/-- The write would move a node that chooses its parent while frames are queued beneath it (R253). -/
abbrev movesBusyNode (level n parent : Nat) (s : State) : Prop :=
  (!(parentFixed level n)) = true ∧ parent ≠ (s.node level n).parent ∧ queuedBelow s level n = true

section
variable {level n d parent : Nat} {s : State}

/-- The first 256 nodes of level 2 are fixed, and no others of that level. -/
theorem parentFixed_level2 : parentFixed 2 n = true ↔ n < 256 := decide_eq_true_iff

theorem parentRefused_of_fixed (hf : parentFixed level n = true) : parentRefused level n parent = true ↔ parent ≠ 0 := by
  unfold parentRefused
  rw [if_pos hf]
  exact bne_iff_ne

theorem parentRefused_level3 : parentRefused 3 n parent = true ↔ 4096 ≤ parent := decide_eq_true_iff

theorem parentRefused_level2 (hn : 256 ≤ n) :
    parentRefused 2 n parent = true ↔ 41 < parent ∨ (32 ≤ parent ∧ parent ≤ 35) := by
  unfold parentRefused
  rw [if_neg (mt parentFixed_level2.1 hn.not_gt)]
  exact decide_eq_true_iff

theorem nodeWriteInner_of_refused (h : parentRefused level n (bits d 112 14) = true) : nodeWriteInner level n s d = (s, stParam) :=
  if_pos h

theorem nodeWriteInner_of_busy (hr : ¬ parentRefused level n (bits d 112 14) = true) (hb : movesBusyNode level n (bits d 112 14) s) :
    nodeWriteInner level n s d = (s, stState) :=
  (if_neg hr).trans (if_pos hb)

theorem nodeWriteInner_of_accepted (hr : ¬ parentRefused level n (bits d 112 14) = true)
    (hb : ¬ movesBusyNode level n (bits d 112 14) s) :
    nodeWriteInner level n s d = (nodeTake level n d (bits d 112 14) false s, stDone) :=
  (if_neg hr).trans (if_neg hb)

/-- A fixed node takes parent 0 and no other. -/
theorem nodeWriteInner_of_fixed (hf : parentFixed level n = true) :
    (bits d 112 14 ≠ 0 → nodeWriteInner level n s d = (s, stParam)) ∧
    (bits d 112 14 = 0 → nodeWriteInner level n s d = (nodeTake level n d 0 false s, stDone)) := by
  refine ⟨fun h => nodeWriteInner_of_refused ((parentRefused_of_fixed hf).2 h), fun h => ?_⟩
  have hb : ¬ movesBusyNode level n (bits d 112 14) s := fun ⟨hn, _⟩ => by simp [hf] at hn
  rw [nodeWriteInner_of_accepted (mt (parentRefused_of_fixed hf).1 (not_not.2 h)) hb, h]

/-- Another node takes a parent it can have, unless that moves it while frames are queued beneath it. -/
theorem nodeWriteInner_of_choosing (hf : parentFixed level n = false) (hr : ¬ parentRefused level n (bits d 112 14) = true) :
    (bits d 112 14 ≠ (s.node level n).parent → queuedBelow s level n = true → nodeWriteInner level n s d = (s, stState)) ∧
    (bits d 112 14 = (s.node level n).parent ∨ queuedBelow s level n = false →
      nodeWriteInner level n s d = (nodeTake level n d (bits d 112 14) false s, stDone)) :=
  ⟨fun hm hq => nodeWriteInner_of_busy hr ⟨by rw [hf]; rfl, hm, hq⟩,
    fun h => nodeWriteInner_of_accepted hr fun ⟨_, hm, hq⟩ => h.elim hm (ne_false_of_eq_true hq)⟩

theorem queueMapOne_of_foreign_group (h : destOfGroup s (bits d 112 14) ≠ (s.queue n).dest) : queueMapOne n s d = (s, stParam) :=
  if_pos (.inr (.inr h))

/-- A sound record that names a group of the queue's destination passes the first check of `queueMapOne`. -/
theorem queueMapOne_of_own_group (hd : nodeOk d = true) (hn : n < 131072) (hg : destOfGroup s (bits d 112 14) = (s.queue n).dest) :
    queueMapOne n s d = if bits d 112 14 ≠ (s.node 5 n).parent ∧ queuedBelow s 5 n = true then (s, stState)
      else (nodeTake 5 n d (bits d 112 14) (bit d 140) s, stDone) :=
  if_neg (by simp [hd, hn, hg])

end

/-! ### One policer of POL_WRITE (R261) -/

/-- The bits of a policer record that must be zero are (Table 10.9). -/
def policerZeros (e : REntry) : Bool :=
  bits e.data 643 4 == 0 && bits e.data 638 2 == 0 && bits e.data 608 24 == 0 && bits e.data 512 32 == 0

/-- A policer record is refused (R261): no such policer, PIR below CIR in trTCM, COLOUR_SRC 3, or a bit set that must be zero. -/
abbrev policerRefused (e : REntry) : Prop :=
  262144 ≤ e.index ∨ ((polOf e.data).trtcm = true ∧ (polOf e.data).pir < (polOf e.data).cir) ∨ (polOf e.data).src = 3 ∨
    (!(policerZeros e)) = true

section
variable {e : REntry} {s : State} {reset : Bool}

theorem polWriteOne_of_refused (h : policerRefused e) : polWriteOne reset s e = (s, stParam) := if_pos h

theorem polWriteOne_of_accepted (h : ¬ policerRefused e) :
    polWriteOne false s e = (s.setPolicer e.index (fun p =>
      { p with next := if p.cfg = polOf e.data then none else some (polOf e.data), nextAt := refillUs s }), stDone) ∧
    polWriteOne true s e = (s.setPolicer e.index (fun p =>
      { p with cfg := polOf e.data, next := none, nextAt := refillUs s, tc := (polOf e.data).cbs * 65536,
               te := (polOf e.data).ebs * 65536 }), stDone) :=
  ⟨if_neg h, if_neg h⟩

theorem not_policerRefused (hi : e.index < 262144) (hp : (polOf e.data).trtcm = false ∨ (polOf e.data).cir ≤ (polOf e.data).pir)
    (hs : (polOf e.data).src ≠ 3) (hz : policerZeros e = true) : ¬ policerRefused e := by
  rintro (h | ⟨ht, hlt⟩ | h | h)
  · exact hi.not_ge h
  · exact hp.elim (ne_false_of_eq_true ht) hlt.not_ge
  · exact hs h
  · simp [hz] at h

end

/-- Settles O30, one row of the table after the other. -/
theorem schedulingCommandsComplete : Obligations.SchedulingCommandsComplete := by
  refine ⟨fun q reset es s hn => ?_, fun n d s hd hn => ⟨queueMapOne_of_foreign_group, fun hg hm hq => ?_, fun hg h => ?_⟩,
    fun n d s => ?_, fun e s => ⟨fun h reset => ?_, fun c hc hi hp hs h1 h2 h3 h4 => ?_, fun hi => if_neg hi.not_ge, fun hi => if_pos hi⟩,
    fun q es s => ⟨fun ht hw => next_congr (atomicCmd_accepted _ ht rfl hw), fun ht hw => next_congr (atomicCmd_accepted _ ht rfl hw)⟩⟩
  case refine_1 =>
    have h64 : want 16 (decide (es.length ≤ 64)) = none := want_true _ (decide_eq_true hn)
    exact ⟨fun ht => doneEach_of_bestEffort rfl ht rfl h64, fun ht => doneEach_of_bestEffort rfl ht rfl h64,
      fun ht => doneEach_of_bestEffort rfl ht rfl h64, fun ht => doneEach_of_bestEffort rfl ht rfl h64⟩
  case refine_2 => exact (queueMapOne_of_own_group hd hn hg).trans (if_pos ⟨hm, hq⟩)
  case refine_3 => exact (queueMapOne_of_own_group hd hn hg).trans (if_neg fun ⟨hm, hq⟩ => h.elim hm (ne_false_of_eq_true hq))
  case refine_4 =>
    obtain ⟨refused4, taken4⟩ := nodeWriteInner_of_fixed (level := 4) (n := n) (d := d) (s := s) rfl
    have choosing3 (hp : bits d 112 14 < 4096) := nodeWriteInner_of_choosing (s := s) (n := n) rfl (mt parentRefused_level3.1 hp.not_ge)
    have fixed2 (hn : n < 256) := nodeWriteInner_of_fixed (d := d) (s := s) (parentFixed_level2.2 hn)
    exact ⟨refused4, taken4, fun h => nodeWriteInner_of_refused (parentRefused_level3.2 h), fun hp => (choosing3 hp).1,
      fun hp => (choosing3 hp).2, fun hn => (fixed2 hn).1, fun hn => (fixed2 hn).2,
      fun hn h => nodeWriteInner_of_refused ((parentRefused_level2 hn).2 h),
      fun hn h41 hp => nodeWriteInner_of_choosing (decide_eq_false hn.not_gt) (mt (parentRefused_level2 hn).1 (by omega))⟩
  case refine_5 => exact polWriteOne_of_refused (h.imp_right (Or.imp_right .inl))
  case refine_6 =>
    subst hc
    exact polWriteOne_of_accepted (not_policerRefused hi hp hs (by simp [policerZeros, h1, h2, h3, h4]))

end Sys2Proof.Machine

/-! ## Steps, the queue and the checks of every command (`13_commands.md` R310, R316, R333; `15_power.md` R380; `16_faults.md` R399) -/

namespace Sys2Proof.Machine

open Sys2Proof

/-- Settles O1: a step on a queue with a front is `exec` of that front. -/
theorem stepRunsFront : Obligations.StepRunsFront := fun _ _ _ => rfl

/-- Settles O3: what a row makes of a state evolves from it, and nothing that evolves takes from the queue or adds to it. -/
theorem everyCommandRunsAndLeavesTheQueue : Obligations.EveryCommandRunsAndLeavesTheQueue := fun _ _ =>
  let ⟨t, ht, h⟩ := Evolves.exec .refl
  ⟨t, ht, h.pending_eq⟩

/-! ### The checks that look at no parameter (R310, R380, R399) -/

section
variable {c d : CmdInfo} {q : Req} {s t : State} {unit : State → Option (Nat × Nat)} {param : State → Option Nat} {keys : List Nat}

/-- A completion that is neither DONE nor DONE_PARTIAL leaves no record, so of the opcode table's line only the opcode counts. -/
theorem reject_congr {st det : Nat} (hop : c.op = d.op) (h0 : st ≠ stDone) (h1 : st ≠ stPartial) : reject c q st det s = reject d q st det s := by
  simp [reject, complete, hop, h0, h1]

/-- The checks of R310 that look at no parameter end a command with REJECTED_PERMISSION or REJECTED_STATE. -/
theorem status_of_gate {st : Nat} (h : gate c q s = some st) : st = stPermission ∨ st = stState := by
  unfold gate at h
  split_ifs at h <;> simp_all

/-- What a command's row leaves where STANDBY or a staged command holds it, and where a check that looks at no parameter stops it
(R310, R380, log entry 124). -/
structure Gated (c : CmdInfo) (q : Req) (s t : State) : Prop where
  held : heldBack c s = true → t = s
  stopped : ∀ st, heldBack c s = false → gate c q s = some st → t = reject c q st 0 s

theorem gated_checked {body : State → State} : Gated c q s (checked c q unit param body s) :=
  ⟨checked_held body, fun _ => checked_gate body⟩

theorem gated_single {body : State → Result} : Gated c q s (single c q keys unit param body s) := gated_checked

theorem gated_writeCmd {allow : Fld → Bool} {es : List WEntry} : Gated c q s (writeCmd c q allow es s) := gated_single

theorem gated_bestEffort {α : Type} {one : State → α → State × Nat} {es : List α} :
    Gated c q s (bestEffort c q keys unit param one es s) := gated_checked

theorem gated_hostJob {slot use : Nat} {go : Nat → State → Result} : Gated c q s (hostJob c q slot use param go s) := gated_single

theorem gated_lockChecked {u lock : Nat} {go : LockOwner → Option Req → State → State} :
    Gated c q s (lockChecked c q (.fn u) lock go s) := by
  unfold lockChecked
  exact gated_checked

theorem gated_atomicCmd {act : Act} : Gated c.atomic q s (atomicCmd c q unit param act s) where
  held h := if_pos h
  stopped st h hg := by
    have h' : heldBack { c with parts := [] } s = false := by
      simp only [heldBack, Bool.or_eq_false_iff] at h ⊢
      exact ⟨h.1, by simp⟩
    have hst : st ≠ stDone ∧ st ≠ stPartial := by rcases status_of_gate hg with rfl | rfl <;> decide
    calc atomicCmd c q unit param act s
      _ = reject { c with parts := [] } q st 0 s := (if_neg (ne_true_of_eq_false h)).trans (checked_gate _ h' hg)
      _ = reject c.atomic q st 0 s := reject_congr rfl hst.1 hst.2

/-- The free value that CLS_PROFILE_WRITE takes for the DETAIL of its own check is not taken where it does not come to that check. -/
theorem gated_effClsProfileWrite {es : List ProfEntry} : Gated ciClsProfileWrite q s (effClsProfileWrite q es s) where
  held h := (State.when_of_false (by simp [h])).trans (checked_held _ h)
  stopped st h hg := (State.when_of_false (by simp [hg])).trans (checked_gate _ h hg)

/-- A rejection stages nothing. -/
theorem reject_staged {st det : Nat} : (reject c q st det s).cmd.staged = s.cmd.staged := by
  obtain ⟨_, _, _, _, h⟩ := complete_cmd c q [] 0 { state := s, status := st, detail := det }
  unfold reject
  rw [h]

/-- CLS_FLIP wakes the pipeline clusters only where it has been staged (R384). -/
theorem effClsFlip_of_unstaged (ht : atomicCmd (ciClsFlip s) q notCopying anyParam .clsFlip s = t) (h : t.cmd.staged = s.cmd.staged) :
    effClsFlip q s = t := by
  subst ht
  exact if_neg (by rw [h]; exact lt_irrefl _)

theorem gated_effClsFlip : Gated (ciClsFlip s).atomic q s (effClsFlip q s) where
  held h :=
    have he := gated_atomicCmd.held h
    effClsFlip_of_unstaged he rfl
  stopped _ h hg :=
    have he := gated_atomicCmd.stopped _ h hg
    effClsFlip_of_unstaged he reject_staged

/-- A row of a command: it ends as `Gated` says, and a restart ordered before may begin after it (R355). -/
def RowGated (i : Instr) (c : CmdInfo) (q : Req) (s : State) : Prop :=
  ∃ t, Next i s (if isRestart i then restartReady t else t) ∧ Gated c q s t

theorem RowGated.plain {i : Instr} (hi : isRestart i = false) (hx : exec i s = .next t) (h : Gated c q s t) : RowGated i c q s :=
  ⟨t, by rw [hi]; exact hx, h⟩

theorem RowGated.restarting {i : Instr} (hi : isRestart i = true) (hx : exec i s = .next (restartReady t)) (h : Gated c q s t) :
    RowGated i c q s :=
  ⟨t, by rw [hi]; exact hx, h⟩

end

/-- Every command goes through the checks of R310 first. -/
theorem rowGated {i : Instr} {s : State} {c : CmdInfo} {q : Req} (h : commandOf i s = some (c, q)) : RowGated i c q s := by
  cases i with
  | lineConfig => cases h; exact .plain rfl rfl gated_single
  | lineSearch => cases h; exact .plain rfl rfl gated_single
  | lineRelevel => cases h; exact .plain rfl rfl gated_single
  | lineSetCd => cases h; exact .plain rfl rfl gated_checked
  | lineEqRestart => cases h; exact .plain rfl rfl gated_checked
  | lineScEnable => cases h; exact .plain rfl rfl gated_checked
  | lineLaserRetune => cases h; exact .plain rfl rfl gated_single
  | lineCapture => cases h; exact .plain rfl rfl gated_single
  | lineEvtEnable => cases h; exact .plain rfl rfl gated_writeCmd
  | lineFrameConfig => cases h; exact .plain rfl rfl gated_writeCmd
  | lineTsiWrite => cases h; exact .plain rfl rfl gated_single
  | lineTsiReady => cases h; exact .plain rfl rfl gated_single
  | lineTribConfig => cases h; exact .plain rfl rfl gated_atomicCmd
  | lineOspConfig => cases h; exact .plain rfl rfl gated_writeCmd
  | treeJoin => cases h; exact .plain rfl rfl gated_single
  | treeLeave => cases h; exact .plain rfl rfl gated_single
  | treeConfig => cases h; exact .plain rfl rfl gated_single
  | treeDoze => cases h; exact .plain rfl rfl gated_single
  | treeWake => cases h; exact .plain rfl rfl gated_single
  | treeGuardRelease => cases h; exact .plain rfl rfl gated_single
  | treeDark => cases h; exact .plain rfl rfl gated_single
  | treeMsgRead => cases h; exact .plain rfl rfl gated_single
  | timeConfig => cases h; exact .plain rfl rfl gated_atomicCmd
  | timeSelect => cases h; exact .plain rfl rfl gated_single
  | timeSet => cases h; exact .plain rfl rfl gated_single
  | timeAdjust => cases h; exact .plain rfl rfl gated_single
  | timePulse => cases h; exact .plain rfl rfl gated_single
  | timeTsRead => cases h; exact .plain rfl rfl gated_single
  | hostPortConfig => cases h; exact .plain rfl rfl gated_atomicCmd
  | hostPortEnable => cases h; exact .plain rfl rfl gated_single
  | hostLaneConfig => cases h; exact .plain rfl rfl gated_single
  | hostRetrain => cases h; exact .plain rfl rfl gated_single
  | hostFilterWrite => cases h; exact .plain rfl rfl gated_writeCmd
  | hostPauseConfig => cases h; exact .plain rfl rfl gated_single
  | hostLpiConfig => cases h; exact .plain rfl rfl gated_single
  | hostWakeSend => cases h; exact .plain rfl rfl gated_single
  | hostWdogClear => cases h; exact .plain rfl rfl gated_single
  | hostEvtEnable => cases h; exact .plain rfl rfl gated_single
  | clsParserWrite => cases h; exact .plain rfl rfl gated_single
  | clsProfileWrite => cases h; exact .plain rfl rfl gated_effClsProfileWrite
  | clsRuleWrite => cases h; exact .plain rfl rfl gated_bestEffort
  | clsRuleDelete => cases h; exact .plain rfl rfl gated_bestEffort
  | clsFlip => cases h; exact .plain rfl rfl gated_effClsFlip
  | clsStart => cases h; exact .plain rfl rfl gated_writeCmd
  | clsExcConfig => cases h; exact .plain rfl rfl gated_writeCmd
  | tblEmInsert => cases h; exact .plain rfl rfl gated_bestEffort
  | tblEmDelete => cases h; exact .plain rfl rfl gated_bestEffort
  | tblEmFind => cases h; exact .plain rfl rfl gated_single
  | tblLpmInsert => cases h; exact .plain rfl rfl gated_bestEffort
  | tblLpmDelete => cases h; exact .plain rfl rfl gated_bestEffort
  | tblNhWrite => cases h; exact .plain rfl rfl gated_bestEffort
  | tblEcmpWrite => cases h; exact .plain rfl rfl gated_bestEffort
  | tblProfileWrite => cases h; exact .plain rfl rfl gated_atomicCmd
  | tblLearnConfig => cases h; exact .plain rfl rfl gated_atomicCmd
  | tblHitScan => cases h; exact .plain rfl rfl gated_single
  | tblSnapshot => cases h; exact .plain rfl rfl gated_single
  | tblFilterRebuild => cases h; exact .plain rfl rfl gated_single
  | swConfig => cases h; exact .plain rfl rfl gated_atomicCmd
  | swDestConfig => cases h; exact .plain rfl rfl gated_atomicCmd
  | swQueueConfig => cases h; exact .plain rfl rfl gated_bestEffort
  | swPortFlush => cases h; exact .plain rfl rfl gated_single
  | swIngConfig => cases h; exact .plain rfl rfl gated_atomicCmd
  | swSageConfig => cases h; exact .plain rfl rfl gated_writeCmd
  | bpmPoolConfig => cases h; exact .plain rfl rfl gated_atomicCmd
  | bpmAlloc => cases h; exact .plain rfl rfl gated_single
  | bpmFree => cases h; exact .plain rfl rfl gated_bestEffort
  | bpmHandoff => cases h; exact .plain rfl rfl gated_bestEffort
  | bpmAudit => cases h; exact .plain rfl rfl gated_single
  | schedNodeWrite => cases h; exact .plain rfl rfl gated_bestEffort
  | schedQueueMap => cases h; exact .plain rfl rfl gated_bestEffort
  | schedLenProfile => cases h; exact .plain rfl rfl gated_atomicCmd
  | polWrite => cases h; exact .plain rfl rfl gated_bestEffort
  | polColourMap => cases h; exact .plain rfl rfl gated_atomicCmd
  | polCounterClear => cases h; exact .plain rfl rfl gated_bestEffort
  | ciphKeyLoad => cases h; exact .plain rfl rfl gated_bestEffort
  | ciphKeyDerive => cases h; exact .plain rfl rfl gated_bestEffort
  | ciphKeyClear => cases h; exact .plain rfl rfl gated_bestEffort
  | ciphTreeSecret => cases h; exact .plain rfl rfl gated_single
  | ciphLineKey => cases h; exact .plain rfl rfl gated_atomicCmd
  | ciphInbandKey => cases h; exact .plain rfl rfl gated_single
  | ciphSeal => cases h; exact .plain rfl rfl gated_hostJob
  | ciphOpen => cases h; exact .plain rfl rfl gated_hostJob
  | ciphCmac => cases h; exact .plain rfl rfl gated_hostJob
  | ciphCacheFlush => cases h; exact .plain rfl rfl gated_single
  | coreQueueConfig => cases h; exact .plain rfl rfl gated_bestEffort
  | coreRingConfig => cases h; exact .plain rfl rfl gated_single
  | coreFnConfig => cases h; exact .plain rfl rfl gated_atomicCmd
  | coreLimits => cases h; exact .plain rfl rfl gated_atomicCmd
  | coreServiceList => cases h; exact .plain rfl rfl gated_single
  | lockAcquire _ owner =>
    cases owner with
    | fn => cases h; exact .plain rfl rfl gated_lockChecked
    | item | mgmt => cases h
  | lockRelease _ owner =>
    cases owner with
    | fn => cases h; exact .plain rfl rfl gated_lockChecked
    | item | mgmt => cases h
  | sysNop => cases h; exact .plain rfl rfl gated_single
  | sysIdentify => cases h; exact .plain rfl rfl gated_single
  | fence => cases h; exact .plain rfl rfl gated_checked
  | sysMode => cases h; exact .plain rfl rfl gated_atomicCmd
  | sysRestart => cases h; exact .restarting rfl rfl gated_single
  | sysWindowSet => cases h; exact .plain rfl rfl gated_atomicCmd
  | sysStateDump => cases h; exact .plain rfl rfl gated_single
  | sysCmdHistory => cases h; exact .plain rfl rfl gated_single
  | sysPeerConfig => cases h; exact .plain rfl rfl gated_atomicCmd
  | sysPeerRole => cases h; exact .plain rfl rfl gated_single
  | sysInbandConfig => cases h; exact .plain rfl rfl gated_writeCmd
  | pwrStateActive => cases h; exact .plain rfl rfl gated_single
  | pwrStateStandby => cases h; exact .plain rfl rfl gated_single
  | pwrStateOff => cases h; exact .plain rfl rfl gated_single
  | pwrIdleConfig => cases h; exact .plain rfl rfl gated_single
  | pwrWakeConfig => cases h; exact .plain rfl rfl gated_writeCmd
  | pwrDvfs => cases h; exact .plain rfl rfl gated_single
  | pwrTelemetry => cases h; exact .plain rfl rfl gated_single
  | pwrBusConfig => cases h; exact .plain rfl rfl gated_single
  | storeImageWrite => cases h; exact .plain rfl rfl gated_single
  | storeImageVerify => cases h; exact .plain rfl rfl gated_single
  | storeImageActivate => cases h; exact .plain rfl rfl gated_single
  | storeImageConfirm => cases h; exact .plain rfl rfl gated_single
  | storeInfo => cases h; exact .plain rfl rfl gated_single
  | storeScrub => cases h; exact .plain rfl rfl gated_single
  | storeFormat => cases h; exact .plain rfl rfl gated_single
  | storePageRead => cases h; exact .plain rfl rfl gated_checked
  | storePageProgram => cases h; exact .plain rfl rfl gated_checked
  | storeBlockErase => cases h; exact .plain rfl rfl gated_checked
  | evtRead => cases h; exact .plain rfl rfl gated_single
  | evtHostRecord => cases h; exact .plain rfl rfl gated_single
  | evtFlush => cases h; exact .plain rfl rfl gated_checked
  | fltReportRead => cases h; exact .plain rfl rfl gated_single
  | fltRecoverResume => cases h; exact .plain rfl rfl gated_checked
  | fltRecoverWarm => cases h; exact .restarting rfl rfl gated_single
  | fltRecoverCold => cases h; exact .restarting rfl rfl gated_single
  | fltRecoverCluster => cases h; exact .plain rfl rfl gated_checked
  | fltConfig => cases h; exact .plain rfl rfl gated_single
  | testLoopback => cases h; exact .plain rfl rfl gated_single
  | testGen => cases h; exact .plain rfl rfl gated_single
  | testCheck => cases h; exact .plain rfl rfl gated_single
  | testPerturb => cases h; exact .plain rfl rfl gated_single
  | testInject => cases h; exact .plain rfl rfl gated_single
  | _ => cases h

theorem rejects_of_gate {i : Instr} {s : State} {c : CmdInfo} {q : Req} {st : Nat} (h : commandOf i s = some (c, q))
    (hh : heldBack c s = false) (hg : gate c q s = some st) : rejects i c q st 0 s := by
  obtain ⟨t, ht, gated⟩ := rowGated h
  rwa [gated.stopped st hh hg] at ht

theorem next_of_heldBack {i : Instr} {s : State} {c : CmdInfo} {q : Req} (h : commandOf i s = some (c, q)) (hh : heldBack c s = true) :
    Next i s (if isRestart i then restartReady s else s) := by
  obtain ⟨t, ht, gated⟩ := rowGated h
  rwa [gated.held hh] at ht

/-! ### What `gate` answers, check by check (R310) -/

section
variable {c : CmdInfo} {q : Req} {s : State}

/-- The function may send the command by its transport (checks 1 and 2 of R310). -/
def mayUse (c : CmdInfo) (q : Req) : Prop :=
  srcAssigns q.src q.user = true ∧ (c.phys = true → q.user = 0) ∧ (q.src = .peldel → c.pel = true)

/-- The mode, the boot or the safe state keeps the command out (checks 4 and 5 of R310, R399). -/
def stateForbids (c : CmdInfo) (q : Req) (s : State) : Bool :=
  (!s.cmd.accepting && q.src != .journal && c.op != 0x0201) || ((s.inRescue || s.safe) && !c.rescue) || !(c.modes.admits s)

theorem gate_of_not_mayUse (h : ¬ mayUse c q) : gate c q s = some stPermission := by
  unfold gate
  split_ifs with h1 h2 h3
  · rfl
  · rfl
  · rfl
  all_goals exact absurd ⟨by simpa using h1, by simpa using h2, by simpa using h3⟩ h

theorem gate_of_mayUse (h : mayUse c q) : gate c q s = if stateForbids c q s then some stState else none := by
  obtain ⟨hs, hp, hl⟩ := h
  unfold gate stateForbids
  rw [if_neg (by simp [hs]), if_neg (by simpa using hp), if_neg (by simpa using hl)]
  cases !s.cmd.accepting && q.src != .journal && c.op != 0x0201 <;> cases (s.inRescue || s.safe) && !c.rescue <;> rfl

theorem gate_of_stateForbids (h : mayUse c q) (hs : stateForbids c q s = true) : gate c q s = some stState :=
  (gate_of_mayUse h).trans (if_pos hs)

end

/-- Settles O56: every row of a command goes through `gate`, whose checks come in the order of R310. -/
theorem failedChecksRejectEveryCommand : Obligations.FailedChecksRejectEveryCommand := by
  refine ⟨fun i s c q st h => rejects_of_gate h, fun i s c q h => next_of_heldBack h, fun c q s =>
    ⟨fun hs => ?_, fun hs h => ?_, fun hs hp hl => ⟨fun ha hj ho => ?_, fun h hr => ?_, fun hm => ?_, fun ha hr hm => ?_⟩⟩⟩
  · exact gate_of_not_mayUse fun ⟨ha, _, _⟩ => by simp [hs] at ha
  · exact gate_of_not_mayUse fun ⟨_, hp, hl⟩ => by
      rcases h with ⟨h, hu⟩ | ⟨h, hn⟩
      · exact hu (hp h)
      · simp [hl h] at hn
  · exact gate_of_stateForbids ⟨hs, hp, hl⟩ (by simp [stateForbids, ha, hj, ho])
  · exact gate_of_stateForbids ⟨hs, hp, hl⟩ (by simp [stateForbids, h, hr])
  · exact gate_of_stateForbids ⟨hs, hp, hl⟩ (by simp [stateForbids, hm])
  · refine (gate_of_mayUse ⟨hs, hp, hl⟩).trans (if_neg ?_)
    simpa [stateForbids, ha, hm] using hr

/-- A command that Table 13.6 marks RESCUE is not asked whether L3 is in force (R399). -/
theorem gate_of_rescue {c : CmdInfo} {q : Req} {s : State} (h : c.rescue = true) : gate c q s = gate c q (s.set .FLT_STATUS_SAFE 0) := by
  have hm : c.modes.admits (s.set .FLT_STATUS_SAFE 0) = c.modes.admits s := by
    unfold ModeRule.admits State.mode State.inRescue
    simp only [s.get_set_other (show Fld.PWR_MODE_CURRENT ≠ .FLT_STATUS_SAFE by decide),
      s.get_set_other (show Fld.SYS_BOOT_KIND ≠ .FLT_STATUS_SAFE by decide)]
  unfold gate
  simp only [h, hm, Bool.not_true, Bool.and_false, State.set_cmd]

/-- Settles O57: of the checks of R310, the one of L3 alone asks for the mark RESCUE. -/
theorem safeStateAdmitsOnlyRescueCommands : Obligations.SafeStateAdmitsOnlyRescueCommands := by
  intro i s c q h hs
  have hforbid (hr : c.rescue = false) : stateForbids c q s = true := by
    simp [stateForbids, State.safe, State.isSet_iff.2 hs, hr]
  refine ⟨fun hh hr ha hp hl => rejects_of_gate h hh (gate_of_stateForbids ⟨ha, hp, hl⟩ (hforbid hr)), fun hr => ?_, gate_of_rescue⟩
  by_cases hm : mayUse c q
  · rw [gate_of_stateForbids hm (hforbid hr)]; exact Option.some_ne_none _
  · rw [gate_of_not_mayUse hm]; exact Option.some_ne_none _

open Sys2Proof.Laws in
/-- Settles O49, one row of the opcode tables after the other. -/
theorem commandOpcodesAreDefined : Obligations.CommandOpcodesAreDefined := by
  intro i
  cases i with
  | lineConfig => exact CommandOpcode.lineConfig _ _
  | lineSearch => exact CommandOpcode.lineSearch _ _ _
  | lineRelevel => exact CommandOpcode.lineRelevel _ _
  | lineSetCd => exact CommandOpcode.lineSetCd _ _ _
  | lineEqRestart => exact CommandOpcode.lineEqRestart _ _ _
  | lineScEnable => exact CommandOpcode.lineScEnable _ _ _
  | lineLaserRetune => exact CommandOpcode.lineLaserRetune _ _
  | lineCapture => exact CommandOpcode.lineCapture _ _ _ _ _ _ _ _
  | lineEvtEnable => exact CommandOpcode.lineEvtEnable _ _
  | lineFrameConfig => exact CommandOpcode.lineFrameConfig _ _
  | lineTsiWrite => exact CommandOpcode.lineTsiWrite _ _
  | lineTsiReady => exact CommandOpcode.lineTsiReady _ _ _
  | lineTribConfig => exact CommandOpcode.lineTribConfig _ _ _ _ _ _
  | lineOspConfig => exact CommandOpcode.lineOspConfig _ _
  | treeJoin => exact CommandOpcode.treeJoin _ _
  | treeLeave => exact CommandOpcode.treeLeave _ _
  | treeConfig => exact CommandOpcode.treeConfig _ _
  | treeDoze => exact CommandOpcode.treeDoze _ _
  | treeWake => exact CommandOpcode.treeWake _ _
  | treeGuardRelease => exact CommandOpcode.treeGuardRelease _ _ _
  | treeDark => exact CommandOpcode.treeDark _ _ _
  | treeMsgRead => exact CommandOpcode.treeMsgRead _ _
  | timeConfig => exact CommandOpcode.timeConfig _ _
  | timeSelect => exact CommandOpcode.timeSelect _ _
  | timeSet => exact CommandOpcode.timeSet _ _ _
  | timeAdjust => exact CommandOpcode.timeAdjust _ _ _ _ _
  | timePulse => exact CommandOpcode.timePulse _ _
  | timeTsRead => exact CommandOpcode.timeTsRead _ _
  | hostPortConfig => exact CommandOpcode.hostPortConfig _ _
  | hostPortEnable => exact CommandOpcode.hostPortEnable _ _ _
  | hostLaneConfig => exact CommandOpcode.hostLaneConfig _ _
  | hostRetrain => exact CommandOpcode.hostRetrain _ _ _
  | hostFilterWrite => exact CommandOpcode.hostFilterWrite _ _
  | hostPauseConfig => exact CommandOpcode.hostPauseConfig _ _
  | hostLpiConfig => exact CommandOpcode.hostLpiConfig _ _
  | hostWakeSend => exact CommandOpcode.hostWakeSend _ _ _
  | hostWdogClear => exact CommandOpcode.hostWdogClear _ _ _
  | hostEvtEnable => exact CommandOpcode.hostEvtEnable _ _ _
  | clsParserWrite => exact CommandOpcode.clsParserWrite _ _
  | clsProfileWrite => exact CommandOpcode.clsProfileWrite _ _
  | clsRuleWrite => exact CommandOpcode.clsRuleWrite _ _ _
  | clsRuleDelete => exact CommandOpcode.clsRuleDelete _ _
  | clsFlip => exact CommandOpcode.clsFlip _
  | clsStart => exact CommandOpcode.clsStart _ _
  | clsExcConfig => exact CommandOpcode.clsExcConfig _ _
  | tblEmInsert => exact CommandOpcode.tblEmInsert _ _ _ _
  | tblEmDelete => exact CommandOpcode.tblEmDelete _ _
  | tblEmFind => exact CommandOpcode.tblEmFind _ _
  | tblLpmInsert => exact CommandOpcode.tblLpmInsert _ _ _
  | tblLpmDelete => exact CommandOpcode.tblLpmDelete _ _
  | tblNhWrite => exact CommandOpcode.tblNhWrite _ _
  | tblEcmpWrite => exact CommandOpcode.tblEcmpWrite _ _
  | tblProfileWrite => exact CommandOpcode.tblProfileWrite _ _
  | tblLearnConfig => exact CommandOpcode.tblLearnConfig _ _ _
  | tblHitScan => exact CommandOpcode.tblHitScan _ _ _
  | tblSnapshot => exact CommandOpcode.tblSnapshot _
  | tblFilterRebuild => exact CommandOpcode.tblFilterRebuild _
  | swConfig => exact CommandOpcode.swConfig _ _
  | swDestConfig => exact CommandOpcode.swDestConfig _ _
  | swQueueConfig => exact CommandOpcode.swQueueConfig _ _
  | swPortFlush => exact CommandOpcode.swPortFlush _ _
  | swIngConfig => exact CommandOpcode.swIngConfig _ _
  | swSageConfig => exact CommandOpcode.swSageConfig _ _
  | bpmPoolConfig => exact CommandOpcode.bpmPoolConfig _ _
  | bpmAlloc => exact CommandOpcode.bpmAlloc _ _ _
  | bpmFree => exact CommandOpcode.bpmFree _ _
  | bpmHandoff => exact CommandOpcode.bpmHandoff _ _
  | bpmAudit => exact CommandOpcode.bpmAudit _
  | schedNodeWrite => exact CommandOpcode.schedNodeWrite _ _
  | schedQueueMap => exact CommandOpcode.schedQueueMap _ _
  | schedLenProfile => exact CommandOpcode.schedLenProfile _ _
  | polWrite => exact CommandOpcode.polWrite _ _ _
  | polColourMap => exact CommandOpcode.polColourMap _ _
  | polCounterClear => exact CommandOpcode.polCounterClear _ _
  | ciphKeyLoad => exact CommandOpcode.ciphKeyLoad _ _ _
  | ciphKeyDerive => exact CommandOpcode.ciphKeyDerive _ _ _
  | ciphKeyClear => exact CommandOpcode.ciphKeyClear _ _
  | ciphTreeSecret => exact CommandOpcode.ciphTreeSecret _ _ _ _ _ _
  | ciphLineKey => exact CommandOpcode.ciphLineKey _ _
  | ciphInbandKey => exact CommandOpcode.ciphInbandKey _ _
  | ciphSeal => exact CommandOpcode.ciphSeal _ _ _ _ _ _ _
  | ciphOpen => exact CommandOpcode.ciphOpen _ _ _ _ _ _ _ _
  | ciphCmac => exact CommandOpcode.ciphCmac _ _ _ _ _
  | ciphCacheFlush => exact CommandOpcode.ciphCacheFlush _
  | coreQueueConfig => exact CommandOpcode.coreQueueConfig _ _
  | coreRingConfig => exact CommandOpcode.coreRingConfig _ _ _ _ _ _
  | coreFnConfig => exact CommandOpcode.coreFnConfig _ _
  | coreLimits => exact CommandOpcode.coreLimits _ _
  | coreServiceList => exact CommandOpcode.coreServiceList _
  | lockAcquire => exact CommandOpcode.lockAcquire _ _ _ _
  | lockRelease => exact CommandOpcode.lockRelease _ _ _
  | sysNop => exact CommandOpcode.sysNop _
  | sysIdentify => exact CommandOpcode.sysIdentify _
  | fence => exact CommandOpcode.fence _ _ _ _
  | sysMode => exact CommandOpcode.sysMode _ _
  | sysRestart => exact CommandOpcode.sysRestart _ _
  | sysWindowSet => exact CommandOpcode.sysWindowSet _ _ _
  | sysStateDump => exact CommandOpcode.sysStateDump _ _ _
  | sysCmdHistory => exact CommandOpcode.sysCmdHistory _ _
  | sysPeerConfig => exact CommandOpcode.sysPeerConfig _ _
  | sysPeerRole => exact CommandOpcode.sysPeerRole _ _
  | sysInbandConfig => exact CommandOpcode.sysInbandConfig _ _
  | pwrStateActive => exact CommandOpcode.pwrStateActive _
  | pwrStateStandby => exact CommandOpcode.pwrStateStandby _
  | pwrStateOff => exact CommandOpcode.pwrStateOff _
  | pwrIdleConfig => exact CommandOpcode.pwrIdleConfig _ _
  | pwrWakeConfig => exact CommandOpcode.pwrWakeConfig _ _
  | pwrDvfs => exact CommandOpcode.pwrDvfs _ _
  | pwrTelemetry => exact CommandOpcode.pwrTelemetry _
  | pwrBusConfig => exact CommandOpcode.pwrBusConfig _ _
  | storeImageWrite => exact CommandOpcode.storeImageWrite _ _ _
  | storeImageVerify => exact CommandOpcode.storeImageVerify _
  | storeImageActivate => exact CommandOpcode.storeImageActivate _
  | storeImageConfirm => exact CommandOpcode.storeImageConfirm _
  | storeInfo => exact CommandOpcode.storeInfo _
  | storeScrub => exact CommandOpcode.storeScrub _
  | storeFormat => exact CommandOpcode.storeFormat _ _
  | storePageRead => exact CommandOpcode.storePageRead _ _ _
  | storePageProgram => exact CommandOpcode.storePageProgram _ _ _ _
  | storeBlockErase => exact CommandOpcode.storeBlockErase _ _ _
  | evtRead => exact CommandOpcode.evtRead _ _ _
  | evtHostRecord => exact CommandOpcode.evtHostRecord _ _ _ _
  | evtFlush => exact CommandOpcode.evtFlush _
  | fltReportRead => exact CommandOpcode.fltReportRead _ _
  | fltRecoverResume => exact CommandOpcode.fltRecoverResume _
  | fltRecoverWarm => exact CommandOpcode.fltRecoverWarm _
  | fltRecoverCold => exact CommandOpcode.fltRecoverCold _
  | fltRecoverCluster => exact CommandOpcode.fltRecoverCluster _ _
  | fltConfig => exact CommandOpcode.fltConfig _ _
  | testLoopback => exact CommandOpcode.testLoopback _ _ _ _
  | testGen => exact CommandOpcode.testGen _ _
  | testCheck => exact CommandOpcode.testCheck _ _
  | testPerturb => exact CommandOpcode.testPerturb _ _ _ _ _ _ _
  | testInject => exact CommandOpcode.testInject _ _ _ _ _
  | _ => exact fun _ _ _ h => nomatch h

end Sys2Proof.Machine

/-! ## Entries of form W, replies and completions (`13_commands.md` R310, R312, R316, R319, R324) -/

namespace Sys2Proof.Machine

open Sys2Proof

/-! ### Entries of form W (R312) -/

section
variable {s : State} {e : WEntry} {g : Fld} {a b : Nat} {l : List (Fld × Nat × Nat)}

/-- The write of one masked field instance. -/
def maskedWrite (e : WEntry) (s : State) (p : Fld × Nat × Nat) : State :=
  s.set p.1 (bits e.value (p.1.lowBit p.2.2) p.1.row.w) p.2.1 p.2.2

theorem maskedWrite_get_self : (maskedWrite e s (g, a, b)).get g a b = bits e.value (g.lowBit b) g.row.w :=
  (s.get_set_self _ _ _ _).trans (Nat.mod_mod _ _)

theorem maskedWrite_get_other {p : Fld × Nat × Nat} (h : p ≠ (g, a, b)) : (maskedWrite e s p).get g a b = s.get g a b :=
  s.get_set_ne _ _ _ _ _ _ _ fun ⟨hg, ha, hb⟩ => h (by rw [hg, ha, hb])

/-- An instance that some write of a run names reads what the entry spells, every other as before. -/
theorem foldl_maskedWrite_get :
    (l.foldl (maskedWrite e) s).get g a b = if (g, a, b) ∈ l then bits e.value (g.lowBit b) g.row.w else s.get g a b := by
  induction l generalizing s with
  | nil => rfl
  | cons p r ih =>
    rw [List.foldl_cons, ih]
    by_cases hr : (g, a, b) ∈ r
    · simp [hr]
    · by_cases hp : p = (g, a, b)
      · subst hp; simp [hr, maskedWrite_get_self]
      · simp [hr, Ne.symm hp, maskedWrite_get_other hp]

/-- Writes of fields change the register file alone. -/
theorem foldl_maskedWrite_frame : l.foldl (maskedWrite e) s = { s with regs := (l.foldl (maskedWrite e) s).regs } := by
  induction l generalizing s with
  | nil => rfl
  | cons p r ih => exact ih

end

/-- Settles O51: an entry writes its masked field instances, each of which reads back its part of VALUE. -/
theorem maskedFieldsTakeTheValue : Obligations.MaskedFieldsTakeTheValue := by
  refine fun e s => ⟨fun f i j => ?_, foldl_maskedWrite_frame⟩
  refine foldl_maskedWrite_get.trans ?_
  simp only [List.mem_filter, masked, beq_iff_eq]
  rfl

/-! ### The header of a reply (Table 13.1) -/

theorem b2n_le_one (b : Bool) : b2n b ≤ 1 := by cases b <;> decide

/-- Settles O53: the fields of the two header words do not overlap, so each reads back. -/
theorem replyHeaderHasItsFields : Obligations.ReplyHeaderHasItsFields := by
  intro r room hop htag huser hst hdet hlen
  have hcut : decide ((r.data.take (room / 8)).length < r.data.length) = decide (room / 8 < r.data.length) := by simp
  have h1 := b2n_le_one (decide (room / 8 < r.data.length))
  have h2 := b2n_le_one r.req.force
  refine ⟨_, _, rfl, ?_⟩
  rw [hcut]
  generalize b2n (decide (room / 8 < r.data.length)) = cut at h1 ⊢
  generalize b2n r.req.force = force at h2 ⊢
  generalize (r.data.take (room / 8)).length = n at hlen ⊢
  unfold bits
  norm_num at *
  refine ⟨?_, ?_, ?_, ?_, ?_, ?_, ?_, ?_, ?_, ?_, ?_⟩ <;> omega

/-! ### Completions (R310, R324) -/

section
variable {s t : State} {c : CmdInfo} {q : Req} {keys : List Nat} {failed : Nat} {r : Result}

theorem complete_ctr_done : (complete c q keys failed r).ctr .CMD_CMDS_DONE = (r.state.inc .CMD_CMDS_DONE).ctr .CMD_CMDS_DONE :=
  complete_ctr c q keys failed r .CMD_CMDS_DONE 0 0 (by decide) (by decide) (by decide)

theorem inc_cmdsDone_of_awake (h : s.get .PWR_STATE_STATE ≠ 4) :
    (s.inc .CMD_CMDS_DONE).ctr .CMD_CMDS_DONE = min (s.ctr .CMD_CMDS_DONE + 1) (2 ^ 64 - 1) :=
  s.ctr_bump_self _ _ _ _ (Bool.eq_false_iff.2 fun hs => h ((s.standsStill_iff _ _).1 hs).1)

theorem inc_cmdsDone_of_standby (h : s.get .PWR_STATE_STATE = 4) : (s.inc .CMD_CMDS_DONE).ctr .CMD_CMDS_DONE = s.ctr .CMD_CMDS_DONE :=
  s.ctr_bump_still _ _ _ _ ((s.standsStill_iff _ _).2 ⟨h, by decide, fun ⟨hb, _⟩ => by revert hb; decide⟩)

theorem complete_counts : (complete c q keys failed r).cmd.counts =
    Tab.put 0 r.state.cmd.counts q.user (Tab.get 0 r.state.cmd.counts q.user + 1) := by
  obtain ⟨_, _, _, _, h⟩ := complete_cmd c q keys failed r
  rw [h]

/-- The last 64 of a history and one entry more. -/
theorem getLast?_drop_append {α : Type} (l : List α) (x : α) : ((l ++ [x]).drop (l.length - 63)).getLast? = some x := by
  rw [List.drop_append_of_le_length (Nat.sub_le ..), List.getLast?_append]
  rfl

end

/-- Settles O54, from what a completion makes of the command channel and of its counters. -/
theorem completionOfACommand : Obligations.CompletionOfACommand := by
  rintro c q keys failed r s t rfl rfl
  obtain ⟨mq, mb, ms, ap, h⟩ := complete_cmd c q keys failed r
  refine ⟨fun hp hj => ?_, fun hs => ?_, fun ha => complete_ctr_done.trans (inc_cmdsDone_of_awake ha),
    fun ha => complete_ctr_done.trans (inc_cmdsDone_of_standby ha), ?_, ?_, fun hl => ?_, fun u hu => ?_, complete_pending .., ?_⟩
  · rw [h]; exact if_neg fun hs => hs.elim hp hj
  · rw [h]; exact if_pos hs
  · rw [complete_counts, Tab.get_put_self]
  · rw [h, Tab.get_put_self]; exact getLast?_drop_append ..
  · rw [h, Tab.get_put_self, List.length_drop, List.length_append, List.length_singleton]; omega
  · rw [complete_counts, h]; exact ⟨Tab.get_put_ne _ _ _ _ _ _ hu, Tab.get_put_ne _ _ _ _ _ _ hu⟩
  · rw [h]; exact ⟨rfl, rfl, rfl, rfl, rfl⟩

end Sys2Proof.Machine

/-! ## The cipher commands (`11_cipher.md` R268, R271 to R288) -/

namespace Sys2Proof.Machine

open Sys2Proof

section
variable {s t : State} {q : Req} {p : Bool} {page k use : Nat} {blob : List Nat}

/-! ### Slots and unwrapping (R268, R271, R272, R285) -/

theorem slotRefused_of_use (h : bit (s.keySlot page k).use use = false) : slotRefused s page k use = some (stPermission, 0) :=
  if_pos (by rw [h]; rfl)

theorem slotRefused_of_doubt {w : Nat} (h : bit (s.keySlot page k).use use = true) (hw : rootDoubtWord s = some w)
    (hu : isUser (s.keySlot page k) = true) : slotRefused s page k use = some (stDoubtful, w) := by
  simp [slotRefused, h, hw, hu]

/-- Outside the doubt of the device root the slot's key decides. -/
theorem slotRefused_of_sound (h : bit (s.keySlot page k).use use = true)
    (hr : rootDoubtWord s = none ∨ isUser (s.keySlot page k) = false) :
    slotRefused s page k use = if (slotKey s page k).isNone then some (stPermission, 0) else none := by
  unfold slotRefused
  rw [if_neg (by simp [h])]
  rcases hr with hr | hr
  · rw [hr]
  · cases rootDoubtWord s with
    | none => rfl
    | some w => exact if_neg (by simp [hr])

theorem unwrap_of_refused {st d : Nat} (h : slotRefused s page k 2 = some (st, d)) : unwrap s page k blob = .inr st := by
  simp [unwrap, h]

theorem unwrap_of_allowed (h : slotRefused s page k 2 = none) : unwrap s page k blob =
    if !(anyCluster s) then .inr stBusy else
      match keyUnwrap ((slotKey s page k).getD 0) blob with
      | some key => .inl key
      | none => .inr stAuthFail := by
  unfold unwrap
  rw [h] <;> rfl

/-! ### One entry of CIPH_KEY_LOAD (R288) and of CIPH_KEY_DERIVE (R274, R275) -/

section
variable {e : KeyLoad} {w : Nat}

theorem keyLoadOne_of_refused (h : 256 ≤ e.slot ∨ useOk e.use = false) : keyLoadOne q p s e = (s, stParam) :=
  if_pos (h.imp_right fun h => by rw [h]; rfl)

/-- A slot and a USE mask that CIPH_KEY_LOAD takes. -/
theorem loadable (hs : e.slot < 256) (hu : useOk e.use = true) : ¬(256 ≤ e.slot ∨ (!useOk e.use) = true) := by
  simp [hs, hu]

theorem keyLoadOne_of_plain_off_ring (hl : ¬(256 ≤ e.slot ∨ (!useOk e.use) = true)) (hw : e.wrap = none)
    (h : (∃ x, q.src = .inband x) ∨ q.src = .peldel) : keyLoadOne q p s e = (s, stPermission) := by
  unfold keyLoadOne
  rw [if_neg hl, hw]
  rcases h with ⟨x, h⟩ | h <;> rw [h] <;> rfl

theorem keyLoadOne_of_plain (hl : ¬(256 ≤ e.slot ∨ (!useOk e.use) = true)) (hw : e.wrap = none) (hi : ∀ x, q.src ≠ .inband x)
    (hp : q.src ≠ .peldel) : keyLoadOne q p s e = if e.bytes.length ≠ 32 then (s, stParam) else
      (setKeySlot q.user e.slot { type := 1, persist := p, use := e.use, key := ofBytes e.bytes % 2 ^ 256 } s, stDone) := by
  unfold keyLoadOne
  rw [if_neg hl, hw]
  cases h : q.src with
  | inband x => exact absurd h (hi x)
  | peldel => exact absurd h hp
  | ring | peer | journal => rfl

theorem keyLoadOne_of_wrapped (hl : ¬(256 ≤ e.slot ∨ (!useOk e.use) = true)) (hw : e.wrap = some w) : keyLoadOne q p s e =
    if 256 ≤ w ∨ e.bytes.length ≠ 40 then (s, stParam) else
      match unwrap (touchSlot q.user w s) q.user w e.bytes with
      | .inl key => (setKeySlot q.user e.slot { type := 1, persist := p, use := e.use, key := key % 2 ^ 256 } (touchSlot q.user w s), stDone)
      | .inr st => (touchSlot q.user w s, st) := by
  unfold keyLoadOne
  rw [if_neg hl, hw] <;> rfl

theorem keyLoadOne_of_unwrapped {key : Nat} (hl : ¬(256 ≤ e.slot ∨ (!useOk e.use) = true)) (hw : e.wrap = some w) (hk : w < 256)
    (hb : e.bytes.length = 40) (h : unwrap (touchSlot q.user w s) q.user w e.bytes = .inl key) : keyLoadOne q p s e =
      (setKeySlot q.user e.slot { type := 1, persist := p, use := e.use, key := key % 2 ^ 256 } (touchSlot q.user w s), stDone) := by
  rw [keyLoadOne_of_wrapped hl hw, if_neg (by simp [hk, hb]), h]

theorem keyLoadOne_of_not_unwrapped {st : Nat} (hl : ¬(256 ≤ e.slot ∨ (!useOk e.use) = true)) (hw : e.wrap = some w) (hk : w < 256)
    (hb : e.bytes.length = 40) (h : unwrap (touchSlot q.user w s) q.user w e.bytes = .inr st) :
    keyLoadOne q p s e = (touchSlot q.user w s, st) := by
  rw [keyLoadOne_of_wrapped hl hw, if_neg (by simp [hk, hb]), h]

end

section
variable {e : KeyDerive}

/-- What CIPH_KEY_DERIVE refuses of an entry as it stands. -/
abbrev deriveRefused (e : KeyDerive) : Prop :=
  256 ≤ e.slot ∨ useOk e.use = false ∨ e.label.length ≠ 32 ∨ (e.label.headD 0 ≠ 0x10 ∧ e.label.headD 0 ≠ 0x11) ∨
    e.label.getD 1 0 ≠ 1 ∨ 256 ≤ e.rootSlot

theorem keyDeriveOne_of_refused (h : deriveRefused e) : keyDeriveOne q p s e = (s, stParam) :=
  if_pos (h.imp_right (Or.imp_left fun h => by rw [h]; rfl))

theorem keyDeriveOne_of_user (h : ¬ deriveRefused e) (hu : e.label.headD 0 = 0x10) : keyDeriveOne q p s e =
    if rootDoubtWord s ≠ none then (s, stDoubtful) else
      (setKeySlot q.user e.slot { type := 2, persist := p, use := e.use, label := e.label.set 2 q.user } s, stDone) := by
  have h' : ¬(256 ≤ e.slot ∨ (!useOk e.use) = true ∨ e.label.length ≠ 32 ∨ (e.label.headD 0 ≠ 0x10 ∧ e.label.headD 0 ≠ 0x11) ∨
      e.label.getD 1 0 ≠ 1 ∨ 256 ≤ e.rootSlot) := by simpa using h
  unfold keyDeriveOne
  dsimp only
  rw [if_neg h', hu]
  simp [Option.isSome_iff_ne_none]

theorem keyDeriveOne_of_page (h : ¬ deriveRefused e) (hu : e.label.headD 0 = 0x11) : keyDeriveOne q p s e =
    if !((s.keySlot q.user e.rootSlot).type == 1 && bit (s.keySlot q.user e.rootSlot).use 3) then (s, stPermission) else
      (setKeySlot q.user e.slot { type := 2, persist := p, use := e.use, rootSlot := e.rootSlot, label := e.label } s, stDone) := by
  have h' : ¬(256 ≤ e.slot ∨ (!useOk e.use) = true ∨ e.label.length ≠ 32 ∨ (e.label.headD 0 ≠ 0x10 ∧ e.label.headD 0 ≠ 0x11) ∨
      e.label.getD 1 0 ≠ 1 ∨ 256 ≤ e.rootSlot) := by simpa using h
  unfold keyDeriveOne
  dsimp only
  rw [if_neg h', hu]
  simp

end

/-! ### CIPH_TREE_SECRET, CIPH_LINE_KEY and CIPH_INBAND_KEY (R282, R283, R286) -/

section
variable {n wrap : Nat}

/-- The parameter check of CIPH_TREE_SECRET. -/
theorem treeSecretParams {clear : Bool} (hn : n < 4) (hw : clear = true ∨ (wrap < 256 ∧ blob.length = 40)) :
    firstErr [want 24 (decide (n < 4)), want 32 (clear || decide (wrap < 256)), want 40 (clear || blob.length == 40)] = none := by
  rw [want_true _ (decide_eq_true hn)]
  rcases hw with rfl | ⟨hw, hb⟩
  · rfl
  · rw [want_true _ (by simp [hw]), want_true _ (by simp [hb])]; rfl

theorem ciphTreeSecret_cleared (hn : n < 4) (ht : takenUp (ciCiphTreeSecret p) q s = true) :
    Done (.ciphTreeSecret q n p true wrap blob) (ciCiphTreeSecret p) q [n] s (setSecret n none false s) :=
  next_congr (single_accepted _ _ ht rfl (treeSecretParams hn (.inl rfl)))

/-- What CIPH_TREE_SECRET answers that installs a secret. -/
def installSecret (n wrap : Nat) (p : Bool) (blob : List Nat) (s : State) : Result :=
  match slotRefused s 0 wrap 2 with
  | some (st, d) => { state := s, status := st, detail := d }
  | none =>
    match unwrap (touchSlot 0 wrap s) 0 wrap blob with
    | .inl key => { state := setSecret n (some (key % 2 ^ 256)) p (touchSlot 0 wrap s) }
    | .inr st => { state := touchSlot 0 wrap s, status := st, detail := if st = stBusy then 0xFFFF else 0 }

theorem ciphTreeSecret_next {r : Result} (hn : n < 4) (ht : takenUp (ciCiphTreeSecret p) q s = true) (hw : wrap < 256)
    (hb : blob.length = 40) (hr : installSecret n wrap p blob s = r) :
    Next (.ciphTreeSecret q n p false wrap blob) s (complete (ciCiphTreeSecret p) q [n] 0 r) := by
  subst hr
  exact next_congr (single_accepted _ _ ht rfl (treeSecretParams hn (.inr ⟨hw, hb⟩)))

end

section
variable {es : List WEntry} {n : Option Nat}

/-- The port whose registers an entry addresses. -/
abbrev entryPort (e : WEntry) : Option Nat := ((fieldsAt e.off).map (fun p => p.2.1)).head?

/-- An entry of another port than the first entry's, as an offset in the packet. -/
abbrev foreignPort (es : List WEntry) : Option Nat :=
  es.zipIdx.findSome? (fun p => if entryPort p.1 ≠ es.head?.bind entryPort then some (16 + 24 * p.2) else none)

theorem foreignPort_of_own (hn : n = es.head?.bind entryPort) (h : ∀ e ∈ es, entryPort e = n) : foreignPort es = none :=
  List.findSome?_eq_none_iff.2 fun x hx => if_neg (not_not_intro (by rw [← hn]; exact h x.1 (List.fst_mem_of_mem_zipIdx hx)))

/-- The first entry of another port is the one that is named. -/
theorem foreignPort_of_first {pre post : List WEntry} {e : WEntry} (hn : n = es.head?.bind entryPort) (hes : es = pre ++ e :: post)
    (hpre : ∀ x ∈ pre, entryPort x = n) (he : entryPort e ≠ n) : foreignPort es = some (16 + 24 * pre.length) := by
  unfold foreignPort
  rw [← hn, hes, List.zipIdx_append, List.findSome?_append, List.zipIdx_cons, List.findSome?_cons,
    List.findSome?_eq_none_iff.2 fun x hx => if_neg (not_not_intro (hpre x.1 (List.fst_mem_of_mem_zipIdx hx))), if_pos he]
  simp

theorem ciphLineKey_staged (ht : takenAtomic ciCiphLineKey q s = true) (hw : wErr (fun f => lineKeyFields.contains f) es = none)
    (h : foreignPort es = none) : Stages (.ciphLineKey q es) ciCiphLineKey q s (.lineKey es) :=
  next_congr (atomicCmd_accepted _ ht rfl ((firstErr_of_none hw).trans h))

theorem ciphLineKey_rejected {k : Nat} (ht : takenAtomic ciCiphLineKey q s = true)
    (hw : wErr (fun f => lineKeyFields.contains f) es = none) (h : foreignPort es = some k) :
    Next (.ciphLineKey q es) s (reject { ciCiphLineKey with parts := [] } q stParam k s) :=
  next_congr (atomicCmd_param _ ht rfl ((firstErr_of_none hw).trans h))

/-- What CIPH_INBAND_KEY refuses once its entries stand (t): a register of another page, or a slot that may not be used for CMAC. -/
def inbandKeyRefused (q : Req) (es : List WEntry) (s t : State) : Bool :=
  es.any (fun e => (fieldsAt e.off).any (fun p => p.2.1 ≠ q.user)) ||
    (t.isSet .CIPH_PAGE_INBAND_EN q.user && !(bit (s.keySlot q.user (t.get .CIPH_PAGE_INBAND_SLOT q.user)).use 1))

theorem inbandKeyRefused_iff : inbandKeyRefused q es s t = true ↔ ¬(∀ e ∈ es, ∀ p ∈ fieldsAt e.off, p.2.1 = q.user) ∨
    (t.get .CIPH_PAGE_INBAND_EN q.user = 1 ∧ bit (s.keySlot q.user (t.get .CIPH_PAGE_INBAND_SLOT q.user)).use 1 = false) := by
  simp [inbandKeyRefused, State.isSet_iff]

theorem ciphInbandKey_next (ht : takenUp ciCiphInbandKey q s = true)
    (hw : wErr (fun f => [Fld.CIPH_PAGE_INBAND_EN, .CIPH_PAGE_INBAND_SLOT].contains f) es = none) :
    Next (.ciphInbandKey q es) s (complete ciCiphInbandKey q (es.map (·.off)) 0
      (if inbandKeyRefused q es s (wApplyAll s es) then { state := s, status := stPermission }
       else { state := (wApplyAll s es).set .CMD_FN_INBAND_TAG 0 q.user })) :=
  next_congr (single_accepted _ _ ht rfl hw)

end

/-! ### Requests on a slot: CIPH_SEAL, CIPH_OPEN and CIPH_CMAC (R268, R272, R285, R287) -/

section
variable {c : CmdInfo} {slot key src dst len : Nat} {param : State → Option Nat} {go : Nat → State → Result} {aad data : List Nat}
  {f : State → Result}

theorem hostJob_of_refused {st d : Nat} (ht : takenUp c q s = true) (hp : param s = none)
    (h : slotRefused s q.user slot use = some (st, d)) :
    hostJob c q slot use param go s = complete c q [] 0 { state := s, status := st, detail := d } :=
  (single_accepted _ _ ht rfl hp).trans (by rw [h])

theorem hostJob_of_no_cluster (ht : takenUp c q s = true) (hp : param s = none) (h : slotRefused s q.user slot use = none)
    (hc : anyCluster s = false) :
    hostJob c q slot use param go s = complete c q [] 0 { state := s, status := stBusy, detail := 0xFFFF } :=
  (single_accepted _ _ ht rfl hp).trans (by rw [h]; exact congrArg _ (if_pos (by rw [hc]; rfl)))

/-- A request on a usable slot, with a cluster to take it, ends as its job `go` does. -/
theorem next_of_hostJob {i : Instr} {r : Result} (hx : exec i s = .next (hostJob c q slot use param go s)) (ht : takenUp c q s = true)
    (hp : param s = none) (h : slotRefused s q.user slot use = none) (hc : anyCluster s = true) (hk : slotKey s q.user slot = some key)
    (htt : t = wakeCipher (leastCluster s) (touchSlot q.user slot s)) (hr : go key t = r) : Next i s (complete c q [] 0 r) := by
  subst htt hr
  refine hx.trans (next_congr ((single_accepted _ _ ht rfl hp).trans ?_))
  rw [h, hk]
  exact congrArg _ (if_neg (by rw [hc]; exact Bool.false_ne_true))

theorem jobWindows_of_allowed (hs : windowOk t q.user src len false = true) (hd : windowOk t q.user dst len true = true) :
    jobWindows q src dst len f t = f t :=
  if_neg (by simp [hs, hd])

theorem jobWindows_of_denied (h : windowOk t q.user src len false = false ∨ windowOk t q.user dst len true = false) :
    jobWindows q src dst len f t = { state := t.inc .CMD_WIN_DENIED, status := stPermission } :=
  if_pos (by simpa using h)

theorem sealParams (hs : slot < 256) (ha : aad.length ≤ 1024) (hd : data.length ≤ 61440) :
    firstErr [want 24 (decide (slot < 256)), want 32 (decide (aad.length ≤ 1024 ∧ data.length ≤ 61440))] = none := by
  rw [want_true _ (decide_eq_true hs), want_true _ (decide_eq_true ⟨ha, hd⟩)]; rfl

theorem cmacParams (hs : slot < 256) (hd : data.length ≤ 61440) :
    firstErr [want 24 (decide (slot < 256)), want 32 (decide (data.length ≤ 61440))] = none := by
  rw [want_true _ (decide_eq_true hs), want_true _ (decide_eq_true hd)]; rfl

end

end

/-- Settles O33, one row of the table after the other. -/
theorem cipherCommandsComplete : Obligations.CipherCommandsComplete := by
  refine ⟨fun q p ls ds ks s => ⟨fun hn ht => doneEach_of_bestEffort rfl ht rfl (want_true _ (decide_eq_true hn)),
      fun hn ht => doneEach_of_bestEffort rfl ht rfl (want_true _ (decide_eq_true hn)),
      fun hn ht => doneEach_of_bestEffort rfl ht rfl (want_true _ (decide_eq_true hn))⟩,
    fun q p e s => ⟨keyLoadOne_of_refused, fun hs hu hw => ⟨keyLoadOne_of_plain_off_ring (loadable hs hu) hw, fun hi hp =>
      ⟨fun hb => ?_, fun hb => ?_⟩⟩, fun w t hs hu hw ht => ⟨fun h => ?_, fun hk hb => ?_⟩⟩,
    fun s page k blob => ⟨fun st d => unwrap_of_refused, fun h hc => ?_, fun root h hc hk => ⟨fun hn => ?_, fun key hn => ?_⟩⟩,
    fun s page k use => ⟨slotRefused_of_use, fun h => ⟨fun w => slotRefused_of_doubt h, fun hr => ⟨fun hk => ?_, fun hk => ?_⟩⟩⟩,
    fun q p e s => ⟨keyDeriveOne_of_refused, fun h1 h2 h3 h4 h5 => ?_⟩,
    fun q n wrap p blob s hn ht => ⟨ciphTreeSecret_cleared hn ht, fun hw hb => ⟨fun hr => ⟨fun key hk => ?_, fun st hk => ?_⟩, fun st d hr => ?_⟩⟩,
    fun q es n s ht hw hn => ⟨fun h => ciphLineKey_staged ht hw (foreignPort_of_own hn h), fun pre e post hes hpre he =>
      ciphLineKey_rejected ht hw (foreignPort_of_first hn hes hpre he)⟩,
    fun q es s t own ht hw hs ho => ⟨fun h hk => ?_, fun h => ?_⟩,
    fun q slot iv src dst aad data s t key hs ha hd hr hc hk htt => ⟨fun hsrc hdst => ⟨fun ht => ?_, fun ht tag => ⟨fun hg => ?_, fun hg => ?_⟩⟩,
      fun hden => ⟨fun ht => ?_, fun ht tag => ?_⟩⟩,
    fun q slot src data s t key hs hd ht hr hc hk htt => ⟨fun hsrc => ⟨?_, ?_, fun v hv => ?_⟩, fun hsrc v => ?_⟩,
    fun q slot iv src dst tag aad data v s hs ha hd => ?_,
    fun q s pinned ht hp => ?_⟩
  · rw [keyLoadOne_of_plain (loadable hs hu) hw hi hp, if_neg (not_not_intro hb)]
  · rw [keyLoadOne_of_plain (loadable hs hu) hw hi hp, if_pos hb]
  · rw [keyLoadOne_of_wrapped (loadable hs hu) hw, if_pos h]
  · subst ht
    exact ⟨fun st => keyLoadOne_of_not_unwrapped (loadable hs hu) hw hk hb, fun key => keyLoadOne_of_unwrapped (loadable hs hu) hw hk hb⟩
  · rw [unwrap_of_allowed h, hc]; rfl
  · rw [unwrap_of_allowed h, hc, hk, Option.getD_some, hn]; rfl
  · rw [unwrap_of_allowed h, hc, hk, Option.getD_some, hn]; rfl
  · rw [slotRefused_of_sound h hr, hk]; rfl
  · rw [slotRefused_of_sound h hr, if_neg (by simpa using hk)]
  · have accepted (hl : e.label.headD 0 = 0x10 ∨ e.label.headD 0 = 0x11) : ¬ deriveRefused e := by
      rintro (h | h | h | h | h | h)
      · exact h1.not_ge h
      · exact ne_true_of_eq_false h h2
      · exact h h3
      · exact hl.elim h.1 h.2
      · exact h h4
      · exact h5.not_ge h
    refine ⟨fun hu => ⟨fun hr => ?_, fun hr => ?_⟩, fun hu => ⟨fun hty hb => ?_, fun h => ?_⟩⟩
    · rw [keyDeriveOne_of_user (accepted (.inl hu)) hu, if_pos hr]
    · rw [keyDeriveOne_of_user (accepted (.inl hu)) hu, if_neg (not_not_intro hr)]
    · rw [keyDeriveOne_of_page (accepted (.inr hu)) hu, if_neg (by simp [hty, hb])]
    · rw [keyDeriveOne_of_page (accepted (.inr hu)) hu, if_pos (by rcases h with h | h <;> simp [h])]
  · exact ciphTreeSecret_next hn ht hw hb (by unfold installSecret; rw [hr, hk])
  · exact ciphTreeSecret_next hn ht hw hb (by unfold installSecret; rw [hr, hk])
  · exact ciphTreeSecret_next hn ht hw hb (by unfold installSecret; rw [hr])
  · subst hs
    refine (ciphInbandKey_next ht hw).trans (next_congr (congrArg _ (if_neg fun hx => ?_)))
    rcases inbandKeyRefused_iff.1 hx with hx | ⟨h1, h2⟩
    · exact hx (ho.1 h)
    · exact hk.elim (absurd h1) (ne_true_of_eq_false h2)
  · subst hs
    exact (ciphInbandKey_next ht hw).trans (next_congr (congrArg _ (if_pos (inbandKeyRefused_iff.2 (h.imp_left (mt ho.2))))))
  · exact next_of_hostJob rfl ht (sealParams hs ha hd) hr hc hk htt (jobWindows_of_allowed hsrc hdst)
  · exact next_of_hostJob rfl ht (sealParams hs ha hd) hr hc hk htt ((jobWindows_of_allowed hsrc hdst).trans (if_pos hg))
  · exact next_of_hostJob rfl ht (sealParams hs ha hd) hr hc hk htt ((jobWindows_of_allowed hsrc hdst).trans (if_neg hg))
  · exact next_of_hostJob rfl ht (sealParams hs ha hd) hr hc hk htt (jobWindows_of_denied hden)
  · exact next_of_hostJob rfl ht (sealParams hs ha hd) hr hc hk htt (jobWindows_of_denied hden)
  · exact next_of_hostJob rfl ht (cmacParams hs hd) hr hc hk htt (by simp [hsrc])
  · exact next_of_hostJob rfl ht (cmacParams hs hd) hr hc hk htt (by simp [hsrc, stDone])
  · exact next_of_hostJob rfl ht (cmacParams hs hd) hr hc hk htt (by simp [hsrc, hv.symm])
  · exact next_of_hostJob rfl ht (cmacParams hs hd) hr hc hk htt (by simp [hsrc])
  · intro x hx ht
    rcases List.mem_cons.1 hx with rfl | hx
    · exact ⟨fun st d h => next_congr (hostJob_of_refused ht (sealParams hs ha hd) h),
        fun h hc => next_congr (hostJob_of_no_cluster ht (sealParams hs ha hd) h hc)⟩
    rcases List.mem_cons.1 hx with rfl | hx
    · exact ⟨fun st d h => next_congr (hostJob_of_refused ht (sealParams hs ha hd) h),
        fun h hc => next_congr (hostJob_of_no_cluster ht (sealParams hs ha hd) h hc)⟩
    obtain rfl := List.mem_singleton.1 hx
    exact ⟨fun st d h => next_congr (hostJob_of_refused ht (cmacParams hs hd) h),
      fun h hc => next_congr (hostJob_of_no_cluster ht (cmacParams hs hd) h hc)⟩
  · subst hp
    refine next_congr ((single_accepted _ _ ht rfl rfl).trans ?_)
    cases s.cipher.cache.filter (fun e => s.cipher.jobs.any (fun j => j.entry == e)) <;> rfl

end Sys2Proof.Machine

/-! ## The store commands (`14_boot_store.md` R342, R346 to R350, R359 to R364) -/

namespace Sys2Proof.Machine

open Sys2Proof

/-! ### Parameter checks that pass, and the first that fails (R310) -/

theorem want_eq_none {off : Nat} {b : Bool} : want off b = none ↔ b = true := by
  cases b <;> simp [want]

theorem firstErr_eq_none {l : List (Option Nat)} : firstErr l = none ↔ ∀ e ∈ l, e = none := by
  induction l with
  | nil => simp
  | cons e r ih => cases e <;> simp [ih]

section
variable {i : Instr} {c : CmdInfo} {q : Req} {s t u : State} {b : State → Bool} {param : State → Option Nat} {f : State → Result} {may : Prop}

/-! ### While PFAIL_N holds the store (R364) -/

theorem storeBody_of_held (h : storeHeld s = true) : storeBody f s = { state := s, status := stBusy, detail := 25 } := if_pos h

theorem storeBody_of_free (h : storeHeld s = false) : storeBody f s = f s := if_neg (ne_true_of_eq_false h)

/-- A command of the store that its state does not allow. -/
theorem storeCommand_refused (hx : exec i s = .next (single c q [] (needs b) param (storeBody f) s)) (ht : takenUp c q s = true)
    (hb : b s = true ↔ may) (h : ¬may) : Next i s (reject c q stState 0 s) :=
  hx.trans (next_congr (single_of_needs_false ht (Bool.eq_false_iff.2 (mt hb.1 h))))

theorem storeCommand_held (hx : exec i s = .next (single c q [] (needs b) param (storeBody f) s)) (ht : takenUp c q s = true)
    (hb : b s = true ↔ may) (hp : param s = none) (h : may) (hh : storeHeld s = true) :
    Next i s (complete c q [] 0 { state := s, status := stBusy, detail := 25 }) :=
  hx.trans (next_congr ((single_accepted _ _ ht (needs_of_true (hb.2 h)) hp).trans (by rw [storeBody_of_held hh])))

theorem storeCommand_next {r : Result} (hx : exec i s = .next (single c q [] (needs b) param (storeBody f) s)) (ht : takenUp c q s = true)
    (hb : b s = true ↔ may) (hp : param s = none) (h : may) (hh : storeHeld s = false) (hr : f s = r) :
    Next i s (complete c q [] 0 r) :=
  hx.trans (next_congr ((single_accepted _ _ ht (needs_of_true (hb.2 h)) hp).trans (by rw [storeBody_of_free hh, hr])))

/-! ### Chunks of a download (R360) -/

section
variable {offset : Nat} {data : List Nat} {slot len upto : Nat}

/-- A number of chunk bytes fits a download that runs under LENGTH len. -/
theorem chunkErr_eq_none (hl : len = (if offset = 0 then imageLength data else s.store.length)) : chunkErr offset data s = none ↔
    (offset = 0 ∨ (s.get .STORE_ANCHOR_DOWNLOADING = 1 ∧ offset = s.get .STORE_DOWNLOAD_BYTES)) ∧ 1 ≤ data.length ∧ data.length ≤ 61440 ∧
      (∀ b ∈ data, b < 256) ∧ offset + data.length < len + 8 ∧ offset + data.length ≤ 67108864 ∧
      (len ≤ offset + data.length ∨ data.length % 512 = 0) := by
  subst hl
  simp [chunkErr, firstErr_eq_none, want_eq_none, State.isSet_iff, chunkLength, and_assoc]
  exact fun _ _ _ _ => decide_eq_true_iff

/-- The state before the pages of a chunk are programmed. -/
def chunkTaken (offset : Nat) (data : List Nat) (slot len upto : Nat) (u : State) : State :=
  ((u.setNand (fun n => { n with images := Tab.put [] n.images slot (((if offset = 0 then [] else slotBytes u slot) ++ data).take len) })).setStore
    (fun x => { x with length := len })).setAll
      [(.STORE_DOWNLOAD_BYTES, upto), (.STORE_ANCHOR_VERIFIED, 0), (.STORE_ANCHOR_DOWNLOADING, if upto < len then 1 else 0)]

/-- A download may be written: the store is open and no trial image runs (R360). -/
theorem downloadable_iff : (storeOpen s && !(anchorNow s).trial) = true ↔ storeOpen s = true ∧ (anchorNow s).trial = false := by simp

theorem storeImageWrite_stopped (ht : takenUp ciStoreImageWrite q s = true) (hd : storeOpen s = true ∧ (anchorNow s).trial = false)
    (hp : chunkErr offset data s = none) (hh : storeHeld s = false) (hj : journalStopped s = true) :
    Next (.storeImageWrite q offset data) s (complete ciStoreImageWrite q [] 0 { state := s, status := stNoSpace }) :=
  storeCommand_next rfl ht downloadable_iff hp hd hh (if_pos hj)

theorem storeImageWrite_done (ht : takenUp ciStoreImageWrite q s = true) (hd : storeOpen s = true ∧ (anchorNow s).trial = false)
    (hp : chunkErr offset data s = none) (hh : storeHeld s = false) (hj : journalStopped s = false) (hs : slot = downSlot s)
    (hl : len = chunkLength offset data s) (hup : upto = min (offset + data.length) len)
    (hu : u = if offset = 0 ∧ (anchorNow s).fallback = true then anchorWrite (fun a => { a with fallback := false }) [] s else s) :
    Done (.storeImageWrite q offset data) ciStoreImageWrite q [] s (programSlot slot (offset / 4096)
      ((if len ≤ upto then ceilDiv upto 4096 else upto / 4096) - offset / 4096) (chunkTaken offset data slot len upto u)) := by
  subst hs hl hu hup
  have hw : s.when (offset = 0 ∧ (anchorNow s).fallback) (anchorWrite (fun a => { a with fallback := false }) []) =
      if offset = 0 ∧ (anchorNow s).fallback = true then anchorWrite (fun a => { a with fallback := false }) [] s else s := by
    simp [State.when]
  refine storeCommand_next rfl ht downloadable_iff hp hd hh ((if_neg (ne_true_of_eq_false hj)).trans ?_)
  unfold chunkTaken
  dsimp only
  rw [hw]
  by_cases hfull : chunkLength offset data s ≤ min (offset + data.length) (chunkLength offset data s)
  · simp only [decide_eq_true hfull, if_pos hfull, if_neg hfull.not_gt]; rfl
  · simp only [decide_eq_false hfull, if_neg hfull, if_pos (not_le.1 hfull)]; rfl

end

/-! ### Raw commands (R285, R350) -/

section
variable {dev unit limit : Nat}

theorem rawErr_of_absent (h : 4 ≤ dev ∨ bit (s.get .STORE_STATUS_PRESENT) dev = false) : rawErr dev unit limit s = some 24 := by
  rcases h with h | h <;> simp [rawErr, h]

theorem rawErr_of_beyond (hd : dev < 4) (hb : bit (s.get .STORE_STATUS_PRESENT) dev = true) (h : s.get .STORE_STATUS_BLOCKS * limit ≤ unit) :
    rawErr dev unit limit s = some 32 := by
  simp [rawErr, hd, hb, h]

theorem rawErr_of_present (hd : dev < 4) (hb : bit (s.get .STORE_STATUS_PRESENT) dev = true) (h : unit < s.get .STORE_STATUS_BLOCKS * limit) :
    rawErr dev unit limit s = none := by
  simp [rawErr, hd, hb, h]

end

/-- Devices that can hold a store (R350). -/
theorem formattable_iff : (decide (4096 ≤ storeDevs s * storeBlocks s) && s.get .STORE_STATUS_BLOCKS != 0) = true ↔
    4096 ≤ storeDevs s * storeBlocks s ∧ s.get .STORE_STATUS_BLOCKS ≠ 0 := by simp

/-- A raw command that its block does not protect answers the first parameter that is out of range. -/
theorem rawCommand_rejected {k : Nat} {body : State → State} (hx : exec i s = .next (checked c q (needs b) param body s))
    (ht : takenUp c q s = true) (hb : b s = true) (hp : param s = some k) : Next i s (reject c q stParam k s) :=
  hx.trans (next_congr (checked_param _ ht (needs_of_true hb) hp))

theorem rawCommand_protected {body : State → State} (hx : exec i s = .next (checked c q (needs b) param body s))
    (ht : takenUp c q s = true) (hb : b s = false) : Next i s (reject c q stState 0 s) :=
  hx.trans (next_congr (checked_unit _ ht (if_neg (ne_true_of_eq_false hb))))

/-- A raw program or erase that passes its checks: refused while the store is held or the device root is in doubt, else begun. -/
def rawBegin (c : CmdInfo) (q : Req) (o : NandOp) (kind : Nat) (s : State) : State :=
  if storeHeld s then reject c q stBusy 25 s
  else
    match rootDoubtWord s with
    | some w => reject c q stDoubtful w s
    | none => startOp o kind s

theorem rawBegin_cases {o : NandOp} {kind : Nat} (hx : exec i s = .next (rawBegin c q o kind s)) :
    (storeHeld s = true → Next i s (reject c q stBusy 25 s)) ∧
    (storeHeld s = false → (∀ w, rootDoubtWord s = some w → Next i s (reject c q stDoubtful w s)) ∧
      (rootDoubtWord s = none → Next i s (startOp o kind s))) := by
  refine ⟨fun hh => hx.trans (next_congr (if_pos hh)), fun hh => ?_⟩
  have free : rawBegin c q o kind s = _ := if_neg (ne_true_of_eq_false hh)
  exact ⟨fun w hw => hx.trans (next_congr (free.trans (by rw [hw]))), fun hw => hx.trans (next_congr (free.trans (by rw [hw])))⟩

end

/-- Settles O41, one row of the table after the other. -/
theorem storeCommandsComplete : Obligations.StoreCommandsComplete := by
  refine ⟨fun q offset data s u t slot len upto ht hs hl hup hu htt => ⟨fun h => ?_, fun ho htr => ⟨fun off hp => ?_, fun hp =>
      ⟨fun hh => ?_, fun hh hj => ?_, fun hh hj => ?_⟩⟩⟩,
    fun offset data s len => chunkErr_eq_none,
    fun q s t img may ht hi htt hm => ?_,
    fun q s slot seq may ht hs hseq hm => ?_,
    fun q s may ht hm => ?_,
    fun q s ht => ⟨fun hh => ?_, fun hh => ?_⟩,
    fun q s ht => ⟨fun ho => ?_, fun ho => ⟨fun hh => ?_, fun hh => ?_⟩⟩,
    fun q mask s ht => ⟨fun h => ?_, fun hb h0 => ⟨fun hm => ?_, fun hm => ⟨fun hh => ?_, fun hh => ⟨fun w hw => ?_, fun hw => ?_⟩⟩⟩⟩,
    fun q dev page s ht => ⟨fun h => ?_, fun hd hb => ⟨fun h => ?_, fun h => ⟨fun hh => ?_, fun hh => ?_⟩⟩⟩,
    fun q dev page data s ht => ⟨fun hk => ?_, fun hk => ⟨fun h => ?_, fun hd hb => ⟨fun h => ?_, fun h => ⟨fun hdat => ?_, fun hlen hby => ?_⟩⟩⟩⟩,
    fun q dev block s ht => ⟨fun hk => ?_, fun hk => ⟨fun h => ?_, fun hd hb => ⟨fun h => ?_, fun h => ?_⟩⟩⟩⟩
  · exact storeCommand_refused rfl ht downloadable_iff fun ⟨ho, htr⟩ => h.elim (by simp [ho]) (by simp [htr])
  · exact next_congr (single_of_param ht (needs_of_true (downloadable_iff.2 ⟨ho, htr⟩)) hp)
  · exact storeCommand_held rfl ht downloadable_iff hp ⟨ho, htr⟩ hh
  · exact storeImageWrite_stopped ht ⟨ho, htr⟩ hp hh hj
  · subst htt
    exact storeImageWrite_done ht ⟨ho, htr⟩ hp hh hj hs hl hup hu
  · subst hi htt
    have hb : (storeOpen s && !(s.isSet .STORE_ANCHOR_DOWNLOADING) && slotComplete (slotBytes s (downSlot s))) = true ↔ may := by
      simp [hm, State.isSet, and_assoc]
    refine ⟨storeCommand_refused rfl ht hb, storeCommand_held rfl ht hb rfl, fun h hh => ⟨fun w hw => ?_, fun hw => ⟨fun hok => ?_, fun hok => ?_⟩⟩⟩
    · exact storeCommand_next rfl ht hb rfl h hh (by dsimp only; rw [hw])
    · exact storeCommand_next rfl ht hb rfl h hh (by dsimp only; rw [hw]; exact if_pos hok)
    · exact storeCommand_next rfl ht hb rfl h hh (by dsimp only; rw [hw]; exact if_neg (ne_true_of_eq_false hok))
  · subst hs hseq
    have hb : (storeOpen s && s.isSet .STORE_ANCHOR_VERIFIED && !(anchorNow s).trial) = true ↔ may := by
      simp [hm, State.isSet, and_assoc]
    exact ⟨storeCommand_refused rfl ht hb, storeCommand_held rfl ht hb rfl, fun h hh => storeCommand_next rfl ht hb rfl h hh rfl⟩
  · have hb : (storeOpen s && !s.inRescue && (anchorNow s).trial && (anchorNow s).bootSlot == s.get .SYS_BOOT_SLOT) = true ↔ may := by
      simp [hm, and_assoc]
    exact ⟨storeCommand_refused rfl ht hb, storeCommand_held rfl ht hb rfl, fun h hh => storeCommand_next rfl ht hb rfl h hh rfl⟩
  · exact next_congr ((single_accepted _ _ ht rfl rfl).trans (by rw [storeBody_of_free hh]))
  · exact next_congr ((single_accepted _ _ ht rfl rfl).trans (by rw [storeBody_of_held hh]))
  · exact storeCommand_refused rfl ht (Iff.refl _) (ne_true_of_eq_false ho)
  · exact storeCommand_held rfl ht (Iff.refl _) rfl ho hh
  · exact storeCommand_next rfl ht (Iff.refl _) rfl ho hh rfl
  · exact storeCommand_refused rfl ht formattable_iff fun ⟨hb, h0⟩ => h.elim hb.not_gt h0
  · exact next_congr (single_of_param ht (needs_of_true (formattable_iff.2 ⟨hb, h0⟩)) (want_false _ (decide_eq_false hm)))
  · exact storeCommand_held rfl ht formattable_iff (want_true _ (decide_eq_true hm)) ⟨hb, h0⟩ hh
  · exact storeCommand_next rfl ht formattable_iff (want_true _ (decide_eq_true hm)) ⟨hb, h0⟩ hh (by rw [hw])
  · exact storeCommand_next rfl ht formattable_iff (want_true _ (decide_eq_true hm)) ⟨hb, h0⟩ hh (by rw [hw])
  · exact next_congr (checked_param _ ht rfl (rawErr_of_absent h))
  · exact next_congr (checked_param _ ht rfl (rawErr_of_beyond hd hb h))
  · exact next_congr ((checked_accepted _ ht rfl (rawErr_of_present hd hb h)).trans (if_pos hh))
  · exact next_congr ((checked_accepted _ ht rfl (rawErr_of_present hd hb h)).trans (if_neg (ne_true_of_eq_false hh)))
  · exact rawCommand_protected rfl ht (by rw [hk]; rfl)
  · exact rawCommand_rejected rfl ht (by rw [hk]; rfl) (by rw [rawErr_of_absent h]; rfl)
  · exact rawCommand_rejected rfl ht (by rw [hk]; rfl) (by rw [rawErr_of_beyond hd hb h]; rfl)
  · refine rawCommand_rejected rfl ht (by rw [hk]; rfl) ?_
    rw [firstErr_of_none (rawErr_of_present hd hb h)]
    exact want_false _ (decide_eq_false fun ⟨hl, hall⟩ => hdat.elim (absurd hl) fun ⟨b, hb, hge⟩ => by
      have := of_decide_eq_true (List.all_eq_true.1 hall b hb)
      omega)
  · refine rawBegin_cases (next_congr (checked_accepted _ ht (needs_of_true (by rw [hk]; rfl)) ?_))
    rw [firstErr_of_none (rawErr_of_present hd hb h)]
    exact want_true _ (decide_eq_true ⟨hlen, List.all_eq_true.2 fun b hb => decide_eq_true (hby b hb)⟩)
  · exact rawCommand_protected rfl ht (by rw [hk]; rfl)
  · exact rawCommand_rejected rfl ht (by rw [hk]; rfl) (rawErr_of_absent h)
  · exact rawCommand_rejected rfl ht (by rw [hk]; rfl) (rawErr_of_beyond hd hb (by omega))
  · exact rawBegin_cases (next_congr (checked_accepted _ ht (needs_of_true (by rw [hk]; rfl)) (rawErr_of_present hd hb (by omega))))

end Sys2Proof.Machine

/-! ## The core and lock commands (`12_cores.md` R293, R299 to R303, R306) -/

namespace Sys2Proof.Machine

open Sys2Proof

section
variable {q : Req} {s : State}

/-! ### CORE_QUEUE_CONFIG and CORE_RING_CONFIG (R300, R303) -/

section
variable {e : WEntry} {fns : List (Nat × Nat × Nat)}

/-- What CORE_QUEUE_CONFIG refuses of an entry as it stands (R300). -/
abbrev wqRefused (e : WEntry) : Prop :=
  (wEntryErr (fun f => wqFields.contains f) e).isSome = true ∨
    (wWrites .CORE_WQ_CFG_SUBMIT_FN [e]).any (fun w => decide (32 ≤ w.2.2 ∧ w.2.2 ≤ 62)) = true

theorem wqRefused_iff (hf : fns = wWrites .CORE_WQ_CFG_SUBMIT_FN [e]) :
    wqRefused e ↔ wEntryErr (fun f => wqFields.contains f) e ≠ none ∨ ∃ w ∈ fns, 32 ≤ w.2.2 ∧ w.2.2 ≤ 62 := by
  subst hf
  simp [wqRefused, Option.isSome_iff_ne_none]

theorem wqConfigOne_of_refused (h : wqRefused e) : wqConfigOne s e = (s, stParam) := if_pos h

theorem wqConfigOne_of_accepted (h : ¬ wqRefused e) (hf : fns = wWrites .CORE_WQ_CFG_SUBMIT_FN [e]) : wqConfigOne s e =
    if fns.any (fun w => w.2.2 != s.get .CORE_WQ_CFG_SUBMIT_FN w.1 && wqBusy s w.1) then (s, stState) else (wApply s e, stDone) := by
  subst hf
  exact if_neg h

end

theorem coreRingConfig_done {sb sl rb rl irq : Nat} (h1 : 6 ≤ sl) (h2 : sl ≤ 16) (h3 : 6 ≤ rl) (h4 : rl ≤ 16) (h5 : irq < 2)
    (ht : takenUp ciCoreRingConfig q s = true) : Done (.coreRingConfig q sb sl rb rl irq) ciCoreRingConfig q [] s
      ((s.setWorkRing q.user (fun r => { r with subBase := sb, subLog2 := sl, resBase := rb, resLog2 := rl })).setAll
        [(.CORE_FN_SUB_TAIL, 0), (.CORE_FN_SUB_HEAD, 0), (.CORE_FN_RES_TAIL, 0), (.CORE_FN_RES_HEAD, 0), (.CORE_FN_RES_IRQ_EN, irq)] q.user) :=
  next_congr (single_accepted _ _ ht rfl (by simp [h1, h2, h3, h4, h5]))

/-! ### Locks (R306) -/

section
variable {u lock waitUs : Nat} {o h : LockOwner} {req : Option Req}

theorem acquire_of_free (hf : (s.lock lock).holder = none) : acquire o req lock waitUs s = grantLock lock o req s := by
  unfold acquire
  rw [hf]

theorem acquire_of_holder (hf : (s.lock lock).holder = some o) : acquire o req lock waitUs s = lockReply req stState 0 s := by
  unfold acquire
  rw [hf]
  exact if_pos rfl

/-- A lock that another holds turns the request away, or makes it wait behind the others. -/
theorem acquire_of_held (hf : (s.lock lock).holder = some h) (ho : h ≠ o) : acquire o req lock waitUs s =
    if waitUs = 0 then lockReply req stBusy 22 s
    else lockShow lock ((s.setLock lock (fun l => { l with waiters := l.waiters ++ [⟨o, req, s.now, waitUs⟩] })).inc .CORE_LOCK_WAITS) := by
  unfold acquire
  rw [hf]
  exact if_neg ho

/-- What LOCK_RELEASE makes of a lock, and of the command that asked, if one did. -/
def releaseLock (lock : Nat) (o : LockOwner) (req : Option Req) (s : State) : State :=
  let holds : Bool := (s.lock lock).holder == some o
  let s := if holds then passLock lock s else s
  match req with
  | some q => complete ciLockRelease q [] 0 { state := s, status := if holds then stDone else stPermission }
  | none => s

theorem releaseLock_of_holder (hf : (s.lock lock).holder = some o) : releaseLock lock o req s =
    match req with
    | some q => complete ciLockRelease q [] 0 { state := passLock lock s }
    | none => passLock lock s := by
  unfold releaseLock
  rw [hf, beq_self_eq_true]
  rfl

theorem releaseLock_of_other (hf : (s.lock lock).holder ≠ some o) : releaseLock lock o req s =
    match req with
    | some q => complete ciLockRelease q [] 0 { state := s, status := stPermission }
    | none => s := by
  unfold releaseLock
  rw [beq_eq_false_iff_ne.2 hf]
  rfl

/-- A function asks by a command, with its checks. -/
theorem lockChecked_of_fn {c : CmdInfo} {go : LockOwner → Option Req → State → State} : lockChecked c q (.fn u) lock go s =
    checked c q anyState (fun _ => want 24 (decide (lock < 1024))) (go (.fn q.user) (some q)) s := rfl

theorem lockAcquire_by_command (ht : takenUp ciLockAcquire q s = true) (hl : lock < 1024) :
    Next (.lockAcquire q (.fn u) lock waitUs) s (acquire (.fn q.user) (some q) lock waitUs s) :=
  next_congr (lockChecked_of_fn.trans (checked_accepted _ ht rfl (want_true _ (decide_eq_true hl))))

theorem lockRelease_by_command (ht : takenUp ciLockRelease q s = true) (hl : lock < 1024) :
    Next (.lockRelease q (.fn u) lock) s (releaseLock lock (.fn q.user) (some q) s) :=
  next_congr (lockChecked_of_fn.trans (checked_accepted _ ht rfl (want_true _ (decide_eq_true hl))))

/-- A work item that runs, or one of the four management cores, may ask for a lock itself (log entry 40). -/
def asksItself (o : LockOwner) (s : State) : Prop := (∃ k, o = .item k ∧ (s.work k).phase = 1) ∨ (∃ m, o = .mgmt m ∧ m < 4)

theorem lockChecked_of_asking {c : CmdInfo} {go : LockOwner → Option Req → State → State} (h : asksItself o s) (hl : lock < 1024) :
    lockChecked c q o lock go s = go o none s := by
  rcases h with ⟨k, rfl, hk⟩ | ⟨m, rfl, hm⟩
  · exact if_pos ⟨hl, hk⟩
  · exact if_pos ⟨hl, hm⟩

theorem lockChecked_of_other {c : CmdInfo} {go : LockOwner → Option Req → State → State} (hf : ∀ u, o ≠ .fn u)
    (h : 1024 ≤ lock ∨ ¬ asksItself o s) : lockChecked c q o lock go s = s := by
  have never (a : Prop) (ha : a → asksItself o s) : ¬(lock < 1024 ∧ a) := fun ⟨hl, hx⟩ => h.elim hl.not_ge (absurd (ha hx))
  cases o with
  | fn u => exact absurd rfl (hf u)
  | item k => exact if_neg (never _ fun hk => .inl ⟨k, rfl, hk⟩)
  | mgmt m => exact if_neg (never _ fun hm => .inr ⟨m, rfl, hm⟩)

end

end

/-- Settles O35, one row of the table after the other. -/
theorem coreCommandsComplete : Obligations.CoreCommandsComplete := by
  refine ⟨fun q es s hn ht => doneEach_of_bestEffort rfl ht rfl (want_true _ (decide_eq_true hn)),
    fun e s fns hf => ⟨fun h => wqConfigOne_of_refused ((wqRefused_iff hf).2 h), fun hw hr => ?_⟩,
    fun q sb sl rb rl irq s h1 h2 h3 h4 h5 ht => coreRingConfig_done h1 h2 h3 h4 h5 ht,
    fun q es s => ⟨fun ht hw => next_congr (atomicCmd_accepted _ ht rfl hw), fun ht hw => next_congr (atomicCmd_accepted _ ht rfl hw),
      fun ht => next_congr (single_accepted _ _ ht rfl rfl)⟩,
    fun q u lock waitUs s => ⟨fun ht => ⟨lockAcquire_by_command ht, fun hl => ?_⟩, fun ht => ⟨fun hl => ⟨fun hf => ?_, fun hf => ?_⟩, fun hl => ?_⟩⟩,
    fun q o lock waitUs s may hm hf => ⟨fun hl h => ⟨?_, fun hh => ?_, fun hh => ?_⟩, fun h => ⟨?_, ?_⟩⟩,
    fun o req lock waitUs s => ⟨acquire_of_free, acquire_of_holder, fun h hf ho => ⟨?_, fun hw => ?_⟩⟩⟩
  · have accepted : ¬ wqRefused e := fun h => by
      rcases (wqRefused_iff hf).1 h with h | ⟨w, hm, h1, h2⟩
      · exact h hw
      · have := hr w hm
        omega
    refine ⟨fun ⟨w, hm, hne, hb⟩ => (wqConfigOne_of_accepted accepted hf).trans (if_pos (List.any_eq_true.2 ⟨w, hm, ?_⟩)), fun h => ?_⟩
    · simp [hne, hb]
    · refine (wqConfigOne_of_accepted accepted hf).trans (if_neg (ne_true_of_eq_false (List.any_eq_false.2 fun w hm => ?_)))
      rcases h w hm with h | h <;> simp [h]
  · exact next_congr (lockChecked_of_fn.trans (checked_param _ ht rfl (want_false _ (decide_eq_false hl.not_gt))))
  · exact (lockRelease_by_command ht hl).trans (next_congr (releaseLock_of_holder hf))
  · exact (lockRelease_by_command ht hl).trans (next_congr (releaseLock_of_other hf))
  · exact next_congr (lockChecked_of_fn.trans (checked_param _ ht rfl (want_false _ (decide_eq_false hl.not_gt))))
  · exact next_congr (lockChecked_of_asking (hm.2 h) hl)
  · exact next_congr ((lockChecked_of_asking (hm.2 h) hl).trans (releaseLock_of_holder (req := none) hh))
  · exact next_congr ((lockChecked_of_asking (hm.2 h) hl).trans (releaseLock_of_other (req := none) hh))
  · exact next_congr (lockChecked_of_other hf (h.imp_right (mt hm.1)))
  · exact next_congr (lockChecked_of_other hf (h.imp_right (mt hm.1)))
  · exact (acquire_of_held hf ho).trans (if_pos rfl)
  · exact (acquire_of_held hf ho).trans (if_neg hw)

end Sys2Proof.Machine

/-! ## The system commands (`13_commands.md` R324 to R332; `14_boot_store.md` R355; `15_power.md` R385, R386; `20_register_index.md` R467) -/

namespace Sys2Proof.Machine

open Sys2Proof

section
variable {q : Req} {s : State}

/-! ### FENCE (R326) -/

section
variable {fn set timeout : Nat}

/-- What FENCE checks of its operands. -/
abbrev fenceParam (fn set timeout : Nat) : Option Nat :=
  firstErr [want 16 (fn < 32 ∧ (set ≠ 0 ∨ fn = 0)), want 24 (set ≤ 2), want 32 (timeout < 2 ^ 32)]

theorem fenceParam_fn (h : 32 ≤ fn ∨ (set = 0 ∧ fn ≠ 0)) : fenceParam fn set timeout = some 16 := by
  rw [fenceParam, want_false 16 (decide_eq_false (by omega))]
  rfl

theorem fenceParam_of_fn (hf : fn < 32) (h0 : set = 0 → fn = 0) :
    fenceParam fn set timeout = firstErr [want 24 (set ≤ 2), want 32 (timeout < 2 ^ 32)] := by
  rw [fenceParam, want_true 16 (decide_eq_true (by omega))]
  rfl

theorem fenceParam_set (hf : fn < 32) (h : 2 < set) : fenceParam fn set timeout = some 24 := by
  rw [fenceParam_of_fn hf (by omega), want_false 24 (decide_eq_false h.not_ge)]
  rfl

theorem fenceParam_timeout (hf : fn < 32) (hs : set ≤ 2) (h0 : set = 0 → fn = 0) : fenceParam fn set timeout = want 32 (timeout < 2 ^ 32) := by
  rw [fenceParam_of_fn hf h0, want_true 24 (decide_eq_true hs), firstErr_none]
  cases want 32 (timeout < 2 ^ 32) <;> rfl

theorem fence_denied (ht : takenUp ciFence q s = true) (hu : q.user ≠ 0) (h : set = 0 ∨ fn ≠ q.user) :
    Next (.fence q fn set timeout) s (reject ciFence q stPermission 0 s) :=
  next_congr (checked_unit _ ht (if_pos ⟨hu, h⟩))

/-- A function other than 0 fences its own sets only. -/
theorem fence_mayAsk (h : q.user = 0 ∨ (set ≠ 0 ∧ fn = q.user)) : ¬(q.user ≠ 0 ∧ (set = 0 ∨ fn ≠ q.user)) := by
  omega

theorem fence_rejected {off : Nat} (ht : takenUp ciFence q s = true) (hu : q.user = 0 ∨ (set ≠ 0 ∧ fn = q.user))
    (hp : fenceParam fn set timeout = some off) : Next (.fence q fn set timeout) s (reject ciFence q stParam off s) :=
  next_congr (checked_param _ ht (if_neg (fence_mayAsk hu)) hp)

theorem fence_waits (ht : takenUp ciFence q s = true) (hu : q.user = 0 ∨ (set ≠ 0 ∧ fn = q.user)) (hf : fn < 32) (hs : set ≤ 2)
    (hm : timeout < 2 ^ 32) (h0 : set = 0 → fn = 0) : Next (.fence q fn set timeout) s (s.setCmd (fun c =>
      { c with fences := c.fences ++ [(⟨q, set, fn, ruleGen set fn s, s.now, timeout⟩ : FenceWait)] })) :=
  next_congr (checked_accepted _ ht (if_neg (fence_mayAsk hu)) ((fenceParam_timeout hf hs h0).trans (want_true _ (decide_eq_true hm))))

end

/-! ### SYS_MODE (R385, R386) -/

section
variable {mode : Nat}

theorem sysMode_stages (ht : takenAtomic ciSysMode q s = true) (hm : mode ≤ 5) (h : mode ≠ 4 ∨ rateTotal s ≤ 8) :
    Stages (.sysMode q mode) ciSysMode q s (.mode mode) :=
  next_congr (atomicCmd_accepted _ ht (needs_of_true (by simpa using h)) (want_true _ (decide_eq_true hm)))

/-- FRUGAL asked for while the host ports' rates do not allow it. -/
theorem sysMode_refused (ht : takenAtomic ciSysMode q s = true) (hm : mode = 4) (h : 8 < rateTotal s) :
    Next (.sysMode q mode) s (reject { ciSysMode with parts := [] } q stState 0 s) :=
  next_congr (atomicCmd_unit _ ht (if_neg (by simp [hm, h])))

theorem sysMode_wrong (ht : takenAtomic ciSysMode q s = true) (hm : 5 < mode) :
    Next (.sysMode q mode) s (reject { ciSysMode with parts := [] } q stParam 24 s) :=
  next_congr (atomicCmd_param _ ht (needs_of_true (by simp [show mode ≠ 4 by omega])) (want_false _ (decide_eq_false hm.not_ge)))

end

/-! ### SYS_RESTART, SYS_WINDOW_SET and SYS_PEER_ROLE (R325, R330, R355) -/

section
variable {kind fn role : Nat} {pairs : List (Nat × Nat)}

theorem sysRestart_orders (ht : takenUp ciSysRestart q s = true) (hk : kind ≤ 2) :
    Next (.sysRestart q kind) s (restartReady (complete ciSysRestart q [] 0 { state := restartOrder kind s })) :=
  next_congr (congrArg restartReady (single_accepted _ _ ht rfl (want_true _ (decide_eq_true hk))))

theorem sysWindowSet_stages (ht : takenAtomic ciSysWindowSet q s = true) (hf : fn < 32) (hl : pairs.length = 8) (hp : windowErr pairs = none) :
    Stages (.sysWindowSet q fn pairs) ciSysWindowSet q s (.windows fn pairs) :=
  next_congr (atomicCmd_accepted _ ht rfl (by simp [hf, hl, hp]))

theorem sysPeerRole_completes (ht : takenUp ciSysPeerRole q s = true) (hr : role < 2) :
    Done (.sysPeerRole q role) ciSysPeerRole q [] s (if s.get .CMD_PEER_CFG_ROLE = role then s
      else ((s.set .CMD_PEER_CFG_ROLE role).setCmd (fun c => { c with rxDrain := c.rxRecords.length })).raise 0x0104 [role]) :=
  next_congr (single_accepted _ _ ht rfl (want_true _ (decide_eq_true hr)))

end

/-! ### SYS_STATE_DUMP and SYS_CMD_HISTORY (R324, R467) -/

section
variable {addr cap n fn : Nat} {t : State} {denied cut : Bool}

theorem sysStateDump_writes (ht : takenUp ciSysStateDump q s = true) (ha : addr < 2 ^ 64) (hc : cap < 2 ^ 64)
    (hd : dumpSections (blocks ++ windows) addr cap s = (t, n, denied, cut)) :
    Next (.sysStateDump q addr cap) s (complete ciSysStateDump q [] 0
      { state := t, status := if denied then stPermission else stDone, data := [n, b2n cut * 2 ^ 56] }) := by
  refine next_congr ((single_accepted _ _ ht rfl ?_).trans ?_)
  · rw [want_true 24 (decide_eq_true ha), want_true 32 (decide_eq_true hc)]
    rfl
  · rw [hd]

theorem sysCmdHistory_answers (ht : takenUp ciSysCmdHistory q s = true) (hf : fn < 32) (hu : q.user = 0 ∨ fn = q.user) :
    Done (.sysCmdHistory q fn) ciSysCmdHistory q [] s s
      (formR ((Tab.get ([] : List Hist) s.cmd.history fn).map (fun h =>
        (h.count, [h.tag * 2 ^ 32 + h.op * 2 ^ 16 + h.status * 2 ^ 8, h.detail * 2 ^ 48])))) :=
  next_congr (single_accepted _ _ ht (if_neg (by omega)) (want_true _ (decide_eq_true hf)))

/-- A function other than the physical one reads its own history only. -/
theorem sysCmdHistory_denied (ht : takenUp ciSysCmdHistory q s = true) (hu : q.user ≠ 0) (hf : fn ≠ q.user) :
    Next (.sysCmdHistory q fn) s (reject ciSysCmdHistory q stPermission 0 s) :=
  next_congr (single_unit ht (if_pos ⟨hu, hf⟩))

end

end

/-- Settles O37, one row of the table after the other. -/
theorem systemCommandsComplete : Obligations.SystemCommandsComplete := by
  refine ⟨fun q s => ⟨fun ht => next_congr (single_accepted _ _ ht rfl rfl), fun ht => next_congr (single_accepted _ _ ht rfl rfl)⟩,
    fun q fn set timeout s ht => ⟨fence_denied ht, fun hu => ⟨fun hf hs hm h0 => fence_waits ht hu hf hs hm h0,
      fun h => fence_rejected ht hu (fenceParam_fn h), fun hf h => fence_rejected ht hu (fenceParam_set hf h),
      fun hf hs h0 hm => fence_rejected ht hu ((fenceParam_timeout hf hs h0).trans (want_false _ (decide_eq_false hm.not_gt)))⟩⟩,
    fun q mode s ht => ⟨sysMode_stages ht, sysMode_refused ht, sysMode_wrong ht⟩,
    fun q kind s ht hk => sysRestart_orders ht hk,
    fun q fn pairs s ht hf hl hp => sysWindowSet_stages ht hf hl hp,
    fun q addr cap n s t denied cut ht ha hc hd => sysStateDump_writes ht ha hc hd,
    fun q fn s ht hf => ⟨sysCmdHistory_answers ht hf, sysCmdHistory_denied ht⟩,
    fun q es s ht hw => next_congr (atomicCmd_accepted _ ht rfl hw),
    fun q role s ht hr => ⟨fun h => ?_, fun h => ?_⟩,
    fun q es s ht hw => next_congr (writeCmd_accepted _ _ ht hw)⟩
  · have completes := sysPeerRole_completes ht hr
    rwa [if_pos h] at completes
  · have completes := sysPeerRole_completes ht hr
    rwa [if_neg h] at completes

end Sys2Proof.Machine

/-! ## The power commands (`15_power.md` R366, R369, R373, R377 to R384) -/

namespace Sys2Proof.Machine

open Sys2Proof

section
variable {q : Req} {s : State} {es : List WEntry} {st : Nat}

/-! ### PWR_STATE (R377, R379, R381, R383) -/

theorem onRequest_of_off (hs : s.get .PWR_STATE_STATE = 0) : onRequest s = powerUp s := if_pos hs

/-- PFAIL_N is looked at in STANDBY alone (R383). -/
theorem onRequest_of_standby (hs : s.get .PWR_STATE_STATE = 4) : onRequest s =
    if s.pins.pfail = true then leaveStandby s else s.setPower (fun w => { w with request := some 0 }) := by
  simp [onRequest, hs, pfailHolds]

theorem onRequest_of_powerDown (hs : s.get .PWR_STATE_STATE = 6) : onRequest s = s.setPower (fun w => { w with request := some 0 }) := by
  simp [onRequest, hs]

theorem onRequest_of_entering (hs : s.get .PWR_STATE_STATE = 3) : onRequest s =
    s.setPower (fun w => { w with request := none, wokeBy := if w.wokeBy = 0 then 8 else w.wokeBy }) := by
  simp [onRequest, hs]

theorem onRequest_of_other (h0 : s.get .PWR_STATE_STATE ≠ 0) (h3 : s.get .PWR_STATE_STATE ≠ 3) (h4 : s.get .PWR_STATE_STATE ≠ 4)
    (h6 : s.get .PWR_STATE_STATE ≠ 6) : onRequest s = s.setPower (fun w => { w with request := none }) := by
  simp [onRequest, h0, h3, h4, h6]

theorem offRequest_begins (hs : s.get .PWR_STATE_STATE = 2 ∨ s.get .PWR_STATE_STATE = 4) (hp : s.pins.pfail = true) :
    offRequest s = beginPowerDown s := if_pos ⟨hs, by simp [pfailHolds, hp]⟩

theorem offRequest_of_powerDown (hs : s.get .PWR_STATE_STATE = 6) : offRequest s = s.setPower (fun w => { w with request := none }) := by
  simp [offRequest, hs]

theorem offRequest_waits (h6 : s.get .PWR_STATE_STATE ≠ 6)
    (h : (s.get .PWR_STATE_STATE ≠ 2 ∧ s.get .PWR_STATE_STATE ≠ 4) ∨ s.pins.pfail = false) :
    offRequest s = s.setPower (fun w => { w with request := some 2 }) := by
  have notNow : ¬((s.get .PWR_STATE_STATE = 2 ∨ s.get .PWR_STATE_STATE = 4) ∧ (!(pfailHolds s)) = true) := by
    rcases h with ⟨h2, h4⟩ | hp
    · simp [h2, h4]
    · simp [pfailHolds, hp]
  exact (if_neg notNow).trans (if_neg h6)

theorem standbyRequest_begins (hs : s.get .PWR_STATE_STATE = 2) (hp : s.pins.pfail = true) : standbyRequest s = beginStandby s :=
  if_pos ⟨hs, by simp [pfailHolds, hp]⟩

theorem standbyRequest_of_standby (hs : s.get .PWR_STATE_STATE = 3 ∨ s.get .PWR_STATE_STATE = 4) :
    standbyRequest s = s.setPower (fun w => { w with request := none }) :=
  (if_neg fun h => by omega).trans (if_pos hs)

theorem standbyRequest_waits (h3 : s.get .PWR_STATE_STATE ≠ 3) (h4 : s.get .PWR_STATE_STATE ≠ 4)
    (h : s.get .PWR_STATE_STATE ≠ 2 ∨ s.pins.pfail = false) : standbyRequest s = s.setPower (fun w => { w with request := some 1 }) := by
  have notNow : ¬(s.get .PWR_STATE_STATE = 2 ∧ (!(pfailHolds s)) = true) := by
    rcases h with h2 | hp
    · simp [h2]
    · simp [pfailHolds, hp]
  exact (if_neg notNow).trans (if_neg (by simp [h3, h4]))

/-! ### PWR_IDLE_CONFIG, PWR_DVFS and PWR_TELEMETRY (R366, R369, R373, R377, R384) -/

theorem pwrIdleConfig_writes (ht : takenUp ciPwrIdleConfig q s = true) (hw : wErr (fun f => idleFields.contains f) es = none)
    (hd : dozeErr es = none) : Done (.pwrIdleConfig q es) ciPwrIdleConfig q (es.map (·.off)) s
      ((wWrites .PWR_DOZE_DOZE_EN es).foldl (fun t w => if w.2.2 = 0 then t.set .PWR_DOZE_DOZING 0 w.1 else t) (wApplyAll s es)) :=
  next_congr (single_accepted _ _ ht rfl ((firstErr_of_none hw).trans hd))

theorem pwrIdleConfig_rejected {off : Nat} (ht : takenUp ciPwrIdleConfig q s = true) (hw : wErr (fun f => idleFields.contains f) es = none)
    (hd : dozeErr es = some off) : Next (.pwrIdleConfig q es) s (reject ciPwrIdleConfig q stParam off s) :=
  next_congr (single_of_param ht rfl ((firstErr_of_none hw).trans hd))

theorem pwrDvfs_applies {point : Nat} (ht : takenUp ciPwrDvfs q s = true) (hp : point < 4 ∨ point = 15) :
    Done (.pwrDvfs q point) ciPwrDvfs q [] s (applyDvfs point (s.set .PWR_DVFS_REQUEST point)) :=
  next_congr (single_accepted _ _ ht rfl (want_true _ (decide_eq_true hp)))

theorem pwrDvfs_rejected {point : Nat} (ht : takenUp ciPwrDvfs q s = true) (h4 : 4 ≤ point) (h15 : point ≠ 15) :
    Next (.pwrDvfs q point) s (reject ciPwrDvfs q stParam 24 s) :=
  next_congr (single_of_param ht rfl (want_false _ (decide_eq_false (by omega))))

theorem pwrTelemetry_reads {t : State} {rails dies : List (Nat × List Nat)} (ht : takenUp ciPwrTelemetry q s = true)
    (hs : t = (List.range 10).foldl (fun t r => railRead r t) s)
    (hr : rails = (List.range 10).map (fun r => (r, [t.get .PWR_RAIL_ADDR r * 2 ^ 48 + t.get .PWR_RAIL_TEMP r * 2 ^ 32 +
      t.get .PWR_RAIL_CURRENT r * 2 ^ 16 + t.get .PWR_RAIL_VOLTAGE r])))
    (hd : dies = (List.range 12).map (fun k => (10 + k, [if Tab.get 0 t.power.temps k = 0 then Config.freeValue (t.fresh + k) % 2 ^ 64
      else ofSigned 64 (((Tab.get 0 t.power.temps k : Nat) : Int) - 1000)]))) :
    Done (.pwrTelemetry q) ciPwrTelemetry q [] s { t with fresh := t.fresh + 12 } (formR (rails ++ dies)) := by
  refine next_congr ((single_accepted _ _ ht rfl rfl).trans ?_)
  rw [← hs, hr, hd]

theorem pwrBusConfig_writes (ht : takenUp ciPwrBusConfig q s = true)
    (hw : wErr (fun f => [Fld.PWR_PMBUS_SETTLE_US, .PWR_PMBUS_VCORE_ADDR, .PWR_RAIL_ADDR].contains f) es = none)
    (h : s.get .PWR_DVFS_TRANSITION ≠ 1) : Done (.pwrBusConfig q es) ciPwrBusConfig q (es.map (·.off)) s (wApplyAll s es) :=
  next_congr (single_accepted _ _ ht (needs_of_true (by simp [State.isSet_eq_false_iff.2 h])) hw)

end

/-- Settles O38, one row of the table after the other. -/
theorem powerCommandsComplete : Obligations.PowerCommandsComplete := by
  refine ⟨fun q s ht => ⟨next_congr (single_accepted _ _ ht rfl rfl), next_congr (single_accepted _ _ ht rfl rfl),
      fun hi => next_congr (single_accepted _ _ ht (needs_of_true hi) rfl), fun hi => next_congr (single_of_needs_false ht hi)⟩,
    ?_,
    fun q es s ht hw => ⟨pwrIdleConfig_writes ht hw, fun off hd => pwrIdleConfig_rejected ht hw hd⟩,
    fun q es s ht hw => next_congr (writeCmd_accepted _ _ ht hw),
    fun q point s ht => ⟨pwrDvfs_applies ht, pwrDvfs_rejected ht⟩,
    fun q s t rails dies ht hs hr hd => pwrTelemetry_reads ht hs hr hd,
    fun q es s ht hw => ⟨pwrBusConfig_writes ht hw, fun h => next_congr (single_of_needs_false ht (by simp [State.isSet_iff.2 h]))⟩⟩
  intro s st rfl
  refine ⟨onRequest_of_off, fun hs hp => (onRequest_of_standby hs).trans (if_pos hp), ?_, onRequest_of_entering, onRequest_of_other,
    offRequest_begins, offRequest_of_powerDown, offRequest_waits, standbyRequest_begins, standbyRequest_of_standby, standbyRequest_waits⟩
  rintro (⟨hs, hp⟩ | hs)
  · exact (onRequest_of_standby hs).trans (if_neg (ne_true_of_eq_false hp))
  · exact onRequest_of_powerDown hs

end Sys2Proof.Machine

/-! ## The recovery and event recorder commands (`16_faults.md` R389, R392, R393, R400, R404, R407, R409) -/

namespace Sys2Proof.Machine

open Sys2Proof

section
variable {q : Req} {s t : State}

/-! ### The event recorder's commands (R364, R404, R407, R409) -/

section
variable {fromSeq m code : Nat} {ws tail : List Nat}

/-- What EVT_READ checks of its operands, once its number is one of 64 bits. -/
theorem evtRead_param (hf : fromSeq < 2 ^ 64) :
    firstErr [want 24 (fromSeq < 2 ^ 64), want 32 (1 ≤ m ∧ m ≤ 2048)] = want 32 (1 ≤ m ∧ m ≤ 2048) :=
  firstErr_of_none (want_true _ (decide_eq_true hf))

theorem evtRead_rejected (ht : takenUp ciEvtRead q s = true) (hf : fromSeq < 2 ^ 64) (h : m = 0 ∨ 2048 < m) :
    Next (.evtRead q fromSeq m) s (reject ciEvtRead q stParam 32 s) :=
  next_congr (single_of_param ht rfl ((evtRead_param hf).trans (want_false _ (decide_eq_false (by omega)))))

/-- The store is held: EVT_READ asks for a later attempt. -/
theorem evtRead_held (ht : takenUp ciEvtRead q s = true) (hf : fromSeq < 2 ^ 64) (h1 : 1 ≤ m) (h2 : m ≤ 2048) (hh : storeHeld s = true) :
    Next (.evtRead q fromSeq m) s (complete ciEvtRead q [] 0 { state := s, status := stBusy, detail := 25 }) :=
  next_congr ((single_accepted _ _ ht rfl ((evtRead_param hf).trans (want_true _ (decide_eq_true ⟨h1, h2⟩)))).trans
    (congrArg _ (if_pos hh)))

theorem evtRead_answers {u : State} {l : List EvtRec} (ht : takenUp ciEvtRead q s = true) (hf : fromSeq < 2 ^ 64) (h1 : 1 ≤ m) (h2 : m ≤ 2048)
    (hu : u = recordAll s) (hl : l = recordsFit (replyRoom q u - 8) ((recordsFrom fromSeq u).take m)) (hh : storeHeld s = false) :
    Done (.evtRead q fromSeq m) ciEvtRead q [] s
      (((pagesRead u.free u).took).setEvt (fun e => { e with sinceRead := 0, firstAt := 0, notified := false }))
      (formR (l.map (fun r => (r.seq, words (recBytes r))))) := by
  subst hl hu
  exact next_congr ((single_accepted _ _ ht rfl ((evtRead_param hf).trans (want_true _ (decide_eq_true ⟨h1, h2⟩)))).trans
    (congrArg _ (if_neg (ne_true_of_eq_false hh))))

theorem evtHostRecord_completes (ht : takenUp ciEvtHostRecord q s = true) (h1 : 0x0E80 ≤ code) (h2 : code ≤ 0x0EFF) (hw : ws.length = 4)
    (hws : ∀ w ∈ ws, w < 2 ^ 32) (hl : tail.length ≤ 224) (hb : ∀ b ∈ tail, b < 256) (hs : t = evtMake 1 ⟨code, ws, tail⟩ (recordAll s)) :
    Next (.evtHostRecord q code ws tail) s (complete ciEvtHostRecord q [] 0
      (if t.ctr .FLT_EVT_RECORDS = (recordAll s).ctr .FLT_EVT_RECORDS then { state := t, status := stNoSpace }
        else { state := t, data := [t.get .EVT_NEXT_SEQ_SEQ - 1] })) := by
  subst hs
  refine next_congr (single_accepted _ _ ht rfl ?_)
  rw [want_true 24 (decide_eq_true ⟨h1, h2⟩), want_true 32 (decide_eq_true ⟨hw, List.all_eq_true.2 fun w h => decide_eq_true (hws w h)⟩),
    want_true 64 (decide_eq_true ⟨hl, List.all_eq_true.2 fun b h => decide_eq_true (hb b h)⟩)]
  rfl

theorem evtHostRecord_rejected (ht : takenUp ciEvtHostRecord q s = true) (h : code < 0x0E80 ∨ 0x0EFF < code) :
    Next (.evtHostRecord q code ws tail) s (reject ciEvtHostRecord q stParam 24 s) := by
  refine next_congr (single_of_param ht rfl ?_)
  rw [want_false 24 (decide_eq_false (by omega))]
  rfl

/-- EVT_FLUSH records what was raised, then looks at the store and at what is unflushed. -/
theorem effEvtFlush_of_taken {u : State} (ht : takenUp ciEvtFlush q s = true) (hu : u = recordAll s) : effEvtFlush q s =
    if storeHeld u then reject ciEvtFlush q stBusy 25 u
    else if unflushed u = [] ∨ !(u.isSet .EVT_STATUS_RUNNING) then complete ciEvtFlush q [] 0 { state := u }
    else (tailFlush u).setEvt (fun e => { e with flushing := e.flushing ++ [q] }) := by
  subst hu
  exact checked_accepted _ ht rfl rfl

end

/-! ### FLT_REPORT_READ (R392, R393) -/

/-- The reports from the head leave the queue, and a full period ends. -/
theorem fltReportRead_answers {m : Nat} (ht : takenUp ciFltReportRead q s = true) (h1 : 1 ≤ m) (h2 : m ≤ 256) :
    Done (.fltReportRead q m) ciFltReportRead q [] s
      (if s.fault.queue.take m = [] then s
        else queueShow (s.setFault (fun f => { f with queue := f.queue.drop m, full := false, fullAt := none })))
      (formR ((s.fault.queue.take m).zipIdx.map (fun p => (p.2, reportWords p.1)))) :=
  next_congr (single_accepted _ _ ht rfl (want_true _ (decide_eq_true ⟨h1, h2⟩)))

theorem fltReportRead_of_some {m : Nat} (ht : takenUp ciFltReportRead q s = true) (h1 : 1 ≤ m) (h2 : m ≤ 256) (hq : s.fault.queue ≠ []) :
    Done (.fltReportRead q m) ciFltReportRead q [] s
      (queueShow (s.setFault (fun f => { f with queue := f.queue.drop m, full := false, fullAt := none })))
      (formR ((s.fault.queue.take m).zipIdx.map (fun p => (p.2, reportWords p.1)))) := by
  have answers := fltReportRead_answers ht h1 h2
  rwa [if_neg (by simp [hq]; omega)] at answers

theorem fltReportRead_of_empty {m : Nat} (ht : takenUp ciFltReportRead q s = true) (h1 : 1 ≤ m) (h2 : m ≤ 256) (hq : s.fault.queue = []) :
    Done (.fltReportRead q m) ciFltReportRead q [] s s (formR []) := by
  have answers := fltReportRead_answers ht h1 h2
  rw [hq, List.take_nil, if_pos rfl] at answers
  exact answers

theorem fltReportRead_rejected {m : Nat} (ht : takenUp ciFltReportRead q s = true) (h : m = 0 ∨ 256 < m) :
    Next (.fltReportRead q m) s (reject ciFltReportRead q stParam 24 s) :=
  next_congr (single_of_param ht rfl (want_false _ (decide_eq_false (by omega))))

/-! ### FLT_RECOVER (R394, R400) -/

theorem safe_iff : s.safe = true ↔ s.get .FLT_STATUS_SAFE = 1 := State.isSet_iff

/-- What bars a RESUME: the device is not in L3, or a condition persists. -/
theorem resumeBarred_iff : ((!s.safe) = true ∨ conditionPersists s = true) ↔ (s.get .FLT_STATUS_SAFE ≠ 1 ∨ conditionPersists s = true) := by
  rw [Bool.not_eq_true', State.safe, State.isSet_eq_false_iff]

theorem effFltRecoverResume_of_taken (ht : takenUp ciFltRecover q s = true) (hs : t = clocksBack s) : effFltRecoverResume q s =
    if t.fault.resume.isSome then t.setFault (fun f => { f with clusterWait := f.clusterWait ++ [(q, 255)] })
    else if !t.safe ∨ conditionPersists t then reject ciFltRecover q stState 0 t
    else resumeStart q t := by
  subst hs
  exact checked_accepted _ ht rfl rfl

/-- With no RESUME running. -/
theorem effFltRecoverResume_of_none (ht : takenUp ciFltRecover q s = true) (hs : t = clocksBack s) (hn : t.fault.resume = none) :
    effFltRecoverResume q s =
      if !t.safe ∨ conditionPersists t then reject ciFltRecover q stState 0 t else resumeStart q t :=
  (effFltRecoverResume_of_taken ht hs).trans (if_neg (by simp [hn]))

theorem clocksBack_of_none (h : s.power.lost = []) : clocksBack s = s := if_pos h

/-- Whether a lost clock is back is a free value. -/
theorem clocksBack_of_lost (h : s.power.lost ≠ []) :
    clocksBack s = if s.free % 2 = 1 then clkBack s.took.power.lost s.took else s.took := if_neg h

section
variable {part : Nat}

theorem fltRecoverCluster_in_safe (ht : takenUp ciFltRecover q s = true) (hs : s.get .FLT_STATUS_SAFE = 1) :
    Next (.fltRecoverCluster q part) s (reject ciFltRecover q stState 0 s) :=
  next_congr (checked_unit _ ht (if_neg (by simp [safe_iff.2 hs])))

theorem notSafe_of_ne (hs : s.get .FLT_STATUS_SAFE ≠ 1) : (!s.safe) = true := by
  rw [Bool.not_eq_true', State.safe, State.isSet_eq_false_iff]
  exact hs

theorem fltRecoverCluster_rejected (ht : takenUp ciFltRecover q s = true) (hs : s.get .FLT_STATUS_SAFE ≠ 1) (hp : 26 < part) :
    Next (.fltRecoverCluster q part) s (reject ciFltRecover q stParam 16 s) :=
  next_congr (checked_param _ ht (needs_of_true (notSafe_of_ne hs)) (want_false _ (decide_eq_false hp.not_ge)))

/-- The command waits for its cluster's L2: one that runs, one that an L1 becomes, or one that begins. -/
theorem effFltRecoverCluster_of_taken (ht : takenUp ciFltRecover q s = true) (hs : s.get .FLT_STATUS_SAFE ≠ 1) (hp : part ≤ 26)
    (hw : t = s.setFault (fun f => { f with clusterWait := f.clusterWait ++ [(q, part)] })) : effFltRecoverCluster q part s =
      match recoveryOf t (clusterOf part) with
      | some r => if r.level = 2 then t else startRecovery part r.unit 2 r.source (escalate (clusterOf part) 1 2 0 t)
      | none => startRecovery part 0 2 (mkSource part 0 0) t := by
  subst hw
  exact checked_accepted _ ht (needs_of_true (notSafe_of_ne hs)) (want_true _ (decide_eq_true hp))

theorem fltRecoverCluster_begins (ht : takenUp ciFltRecover q s = true) (hs : s.get .FLT_STATUS_SAFE ≠ 1) (hp : part ≤ 26)
    (hw : t = s.setFault (fun f => { f with clusterWait := f.clusterWait ++ [(q, part)] })) (hr : recoveryOf t (clusterOf part) = none) :
    Next (.fltRecoverCluster q part) s (startRecovery part 0 2 (mkSource part 0 0) t) := by
  refine next_congr ((effFltRecoverCluster_of_taken ht hs hp hw).trans ?_)
  rw [hr]

theorem fltRecoverCluster_of_running {r : Recovery} (ht : takenUp ciFltRecover q s = true) (hs : s.get .FLT_STATUS_SAFE ≠ 1) (hp : part ≤ 26)
    (hw : t = s.setFault (fun f => { f with clusterWait := f.clusterWait ++ [(q, part)] })) (hr : recoveryOf t (clusterOf part) = some r) :
    Next (.fltRecoverCluster q part) s
      (if r.level = 2 then t else startRecovery part r.unit 2 r.source (escalate (clusterOf part) 1 2 0 t)) := by
  refine next_congr ((effFltRecoverCluster_of_taken ht hs hp hw).trans ?_)
  rw [hr]

end

end

/-- Settles O43, one row of the table after the other. -/
theorem faultCommandsComplete : Obligations.FaultCommandsComplete := by
  refine ⟨fun q fromSeq m s u l ht hf hu hl => ⟨fun h1 h2 => ⟨evtRead_held ht hf h1 h2, evtRead_answers ht hf h1 h2 hu hl⟩, evtRead_rejected ht hf⟩,
    fun q code ws tail s t ht hs => ⟨fun h1 h2 hw hws hl hb => ⟨fun hr => ?_, fun hr => ?_⟩, evtHostRecord_rejected ht⟩,
    fun q s u ht hu => ⟨fun hh => next_congr ((effEvtFlush_of_taken ht hu).trans (if_pos hh)), fun hh => ⟨fun h => ?_, fun h hr => ?_⟩⟩,
    fun q m s ht => ⟨fun h1 h2 => ⟨fltReportRead_of_some ht h1 h2, fltReportRead_of_empty ht h1 h2⟩, fltReportRead_rejected ht⟩,
    fun q s t ht hs => ⟨fun hn h hc => ?_, fun hn h => ?_, fun hn => ?_⟩,
    fun s => ⟨clocksBack_of_none, fun hl => ⟨fun h => (clocksBack_of_lost hl).trans (if_pos h), fun h => (clocksBack_of_lost hl).trans (if_neg h)⟩⟩,
    fun q s ht => ⟨next_congr (congrArg restartReady (single_accepted _ _ ht rfl rfl)),
      next_congr (congrArg restartReady (single_accepted _ _ ht rfl rfl))⟩,
    fun q part s t ht hw => ⟨fltRecoverCluster_in_safe ht, fun hs => ⟨fltRecoverCluster_rejected ht hs,
      fun hp => ⟨fltRecoverCluster_begins ht hs hp hw, fun r hr => ⟨fun h => ?_, fun h => ?_⟩⟩⟩⟩,
    fun q es s ht hw => ⟨fun hl => next_congr (single_accepted _ _ ht rfl ((firstErr_of_none hw).trans hl)),
      fun k hl => next_congr (single_of_param ht rfl ((firstErr_of_none hw).trans hl))⟩⟩
  · have completes := evtHostRecord_completes ht h1 h2 hw hws hl hb hs
    rwa [if_neg hr] at completes
  · have completes := evtHostRecord_completes ht h1 h2 hw hws hl hb hs
    rwa [if_pos hr] at completes
  · exact next_congr ((effEvtFlush_of_taken ht hu).trans ((if_neg (ne_true_of_eq_false hh)).trans (if_pos (h.imp_right fun h => by
      rw [State.isSet_eq_false_iff.2 h]
      rfl))))
  · exact next_congr ((effEvtFlush_of_taken ht hu).trans ((if_neg (ne_true_of_eq_false hh)).trans (if_neg (by simp [h, State.isSet_iff.2 hr]))))
  · exact next_congr ((effFltRecoverResume_of_none ht hs hn).trans (if_neg (by simp [safe_iff.2 h, hc])))
  · exact next_congr ((effFltRecoverResume_of_none ht hs hn).trans (if_pos (resumeBarred_iff.2 h)))
  · exact next_congr ((effFltRecoverResume_of_taken ht hs).trans (if_pos (Option.isSome_iff_ne_none.2 hn)))
  · have follows := fltRecoverCluster_of_running ht hs hp hw hr
    rwa [if_pos h] at follows
  · have follows := fltRecoverCluster_of_running ht hs hp hw hr
    rwa [if_neg h] at follows

end Sys2Proof.Machine

/-! ## Errors, recoveries and records (`16_faults.md` R388 to R409) -/

namespace Sys2Proof.Machine

open Sys2Proof

section
variable {s t : State}

/-! ### RECOVERY_END, RECOVERY_TIMEOUT and FAULT_WINDOW_CLOSE (R394, R396) -/

section
variable {part : Fin 27} {r : Recovery}

theorem recoveryEnd_of_none (h : recoveryOf s (clusterOf part) = none) : Next (.recoveryEnd part) s s := by
  refine next_congr ?_
  rw [effRecoveryEnd, h]

theorem recoveryTimeout_of_none (h : recoveryOf s (clusterOf part) = none) : Next (.recoveryTimeout part) s s := by
  refine next_congr ?_
  rw [effRecoveryTimeout, h]

theorem recoveryEnd_of_running (h : recoveryOf s (clusterOf part) = some r) : Next (.recoveryEnd part) s (resumeNext (endRecovery r s)) := by
  refine next_congr ?_
  rw [effRecoveryEnd, h]

/-- The recovery has outlived its limit, and its participant owes one. -/
def outlived (r : Recovery) (s : State) : State :=
  s.setFault (fun f =>
    { f with running := f.running.map (fun x => if x = r then { x with late := true } else x),
             owed := if f.owed.any (fun x => srcPart x == r.part) then f.owed else f.owed ++ [mkSource r.part r.unit (srcType r.source)] })

theorem effRecoveryTimeout_of_running (h : recoveryOf s (clusterOf part) = some r) : effRecoveryTimeout part s =
    if r.level = 1 then
      if r.since + 10 * uUs ≤ s.now then startRecovery r.part r.unit 2 r.source (escalate (clusterOf part) 1 2 2 s) else s
    else if r.late ∨ s.now < r.since + 5 * uMs then s
    else if (outlived r s).safe ∧ (outlived r s).fault.resume.isNone then outlived r s
    else resumeNext (enterL3 r.source (escalate (clusterOf part) 2 3 2 (outlived r s))) := by
  rw [effRecoveryTimeout, h]
  rfl

/-- An L1 becomes an L2 after its 10 µs. -/
theorem effRecoveryTimeout_of_l1 (h : recoveryOf s (clusterOf part) = some r) (hl : r.level = 1) : effRecoveryTimeout part s =
    if r.since + 10 * uUs ≤ s.now then startRecovery r.part r.unit 2 r.source (escalate (clusterOf part) 1 2 2 s) else s :=
  (effRecoveryTimeout_of_running h).trans (if_pos hl)

theorem effRecoveryTimeout_of_l2 (h : recoveryOf s (clusterOf part) = some r) (hl : r.level ≠ 1) : effRecoveryTimeout part s =
    if r.late ∨ s.now < r.since + 5 * uMs then s
    else if (outlived r s).safe ∧ (outlived r s).fault.resume.isNone then outlived r s
    else resumeNext (enterL3 r.source (escalate (clusterOf part) 2 3 2 (outlived r s))) :=
  (effRecoveryTimeout_of_running h).trans (if_neg hl)

/-- An L2 that outlives its 5 ms, for the first time. -/
theorem effRecoveryTimeout_of_late (h : recoveryOf s (clusterOf part) = some r) (hl : r.level ≠ 1) (hn : r.late = false)
    (hd : r.since + 5 * uMs ≤ s.now) (ht : t = outlived r s) : effRecoveryTimeout part s =
      if t.safe ∧ t.fault.resume.isNone then t else resumeNext (enterL3 r.source (escalate (clusterOf part) 2 3 2 t)) := by
  subst ht
  exact (effRecoveryTimeout_of_l2 h hl).trans (if_neg fun h => h.elim (ne_true_of_eq_false hn) hd.not_gt)

/-- In L3 with no RESUME an L2 only outlives its limit. -/
theorem onlyOutlives_iff : (t.safe = true ∧ t.fault.resume.isNone = true) ↔ (t.get .FLT_STATUS_SAFE = 1 ∧ t.fault.resume = none) := by
  rw [State.safe, State.isSet_iff, Option.isNone_iff_eq_none]

theorem windowCloses_iff : (s.isSet .FLT_STATUS_WINDOW_OPEN = true ∧ s.fault.running = [] ∧ s.fault.lastEnd + s.get .FLT_CFG_WINDOW_MS * uMs ≤ s.now) ↔
    (s.get .FLT_STATUS_WINDOW_OPEN = 1 ∧ s.fault.running = [] ∧ s.fault.lastEnd + s.get .FLT_CFG_WINDOW_MS * uMs ≤ s.now) := by
  rw [State.isSet_iff]

theorem faultWindowClose_of_due (hw : s.get .FLT_STATUS_WINDOW_OPEN = 1) (hr : s.fault.running = [])
    (hd : s.fault.lastEnd + s.get .FLT_CFG_WINDOW_MS * uMs ≤ s.now) :
    Next .faultWindowClose s (s.setAll [(.FLT_STATUS_WINDOW_OPEN, 0), (.FLT_STATUS_WINDOW_FAULTS, 0)]) :=
  next_congr (if_pos (windowCloses_iff.2 ⟨hw, hr, hd⟩))

theorem faultWindowClose_otherwise (h : s.get .FLT_STATUS_WINDOW_OPEN ≠ 1 ∨ s.fault.running ≠ [] ∨
    s.now < s.fault.lastEnd + s.get .FLT_CFG_WINDOW_MS * uMs) : Next .faultWindowClose s s := by
  refine next_congr (if_neg fun hc => ?_)
  obtain ⟨hw, hr, hd⟩ := windowCloses_iff.1 hc
  exact h.elim (absurd hw) (fun h => h.elim (absurd hr) hd.not_gt)

end

/-! ### TEMP_WARN (R390) -/

section
variable {k : Fin 12} {reading limit : Int} {u : State}

/-- The reading is kept. -/
def sensorRead (k : Fin 12) (reading : Int) (s : State) : State :=
  { s with power := { s.power with temps := Tab.put 0 s.power.temps k (reading + 1000).toNat } }

/-- The warning is raised once, and armed again once every sensor has fallen 5 degrees below the threshold. -/
def warnHot (k : Fin 12) (reading limit : Int) (t : State) : State :=
  if limit ≤ reading ∧ t.fault.hot = false then (t.setFault (fun f => { f with hot := true })).raise 0x0E0B [k.val, ofSigned 32 reading]
  else if ∀ p ∈ t.power.temps, (p.2 : Int) - 1000 ≤ limit - 50 then t.setFault (fun f => { f with hot := false }) else t

theorem effTempWarn_eq (ht : t = sensorRead k reading s) (hl : limit = ((t.get .FLT_CFG_TEMP_WARN * 10 : Nat) : Int)) :
    effTempWarn k reading s = if 1300 < reading ∧ Tab.get 0 s.power.temps k ≤ 2300 then
      resumeNext (report (mkSource 31 (52 + k) 8) 0 [] (warnHot k reading limit t)) else warnHot k reading limit t := by
  have warns : warnHot k reading limit t =
      if limit ≤ reading ∧ !t.fault.hot then
        (t.setFault (fun f => { f with hot := true })).raise 0x0E0B [k.val, ofSigned 32 reading]
      else if t.power.temps.all (fun p => decide ((p.2 : Int) - 1000 ≤ limit - 50)) then t.setFault (fun f => { f with hot := false })
      else t :=
    if_ctx_congr (by rw [Bool.not_eq_true']) (fun _ => rfl) (fun _ => if_ctx_congr (by simp) (fun _ => rfl) (fun _ => rfl))
  rw [warns, hl, ht]
  rfl

end

/-! ### EVENT_RECORD, EVENTS_LOST and EVT_NOTIFY (R402, R403, R409) -/

theorem effEventRecord_of_free (h : evtHolding s = false) : effEventRecord s =
    match s.raised with
    | [] => s
    | e :: rest => evtMake 0 e { s with raised := rest } :=
  if_neg (ne_true_of_eq_false h)

theorem eventRecord_of_none (h : evtHolding s = true ∨ s.raised = []) : Next .eventRecord s s := by
  by_cases hh : evtHolding s = true
  · exact next_congr (if_pos hh)
  · refine next_congr ((effEventRecord_of_free (eq_false_of_ne_true hh)).trans ?_)
    rw [h.resolve_left hh]

theorem eventRecord_of_raised {e : Ev} {rest : List Ev} (hh : evtHolding s = false) (hr : s.raised = e :: rest) :
    Next .eventRecord s (evtMake 0 e { s with raised := rest }) := by
  refine next_congr ((effEventRecord_of_free hh).trans ?_)
  rw [hr]

theorem evtLost_iff : (s.evt.dropped ≠ 0 ∧ s.isSet .EVT_STATUS_RUNNING = true ∧ evtRoom 32 s = true) ↔
    (s.evt.dropped ≠ 0 ∧ s.get .EVT_STATUS_RUNNING = 1 ∧ evtRoom 32 s = true) := by
  rw [State.isSet_iff]

theorem eventsLost_of_room (hd : s.evt.dropped ≠ 0) (hr : s.get .EVT_STATUS_RUNNING = 1) (hm : evtRoom 32 s = true) :
    Next .eventsLost s (evtPut 0 ⟨0x0E09, [s.evt.dropped], []⟩ (s.setEvt (fun e => { e with dropped := 0 }))) :=
  next_congr (if_pos (evtLost_iff.2 ⟨hd, hr, hm⟩))

theorem eventsLost_otherwise (h : s.evt.dropped = 0 ∨ s.get .EVT_STATUS_RUNNING ≠ 1 ∨ evtRoom 32 s = false) : Next .eventsLost s s := by
  refine next_congr (if_neg fun hc => ?_)
  obtain ⟨hd, hr, hm⟩ := evtLost_iff.1 hc
  exact h.elim hd (fun h => h.elim (absurd hr) (ne_true_of_eq_false · hm))

/-- When the host is to be told of its records. -/
def notifyDue (s : State) : Prop :=
  s.get .EVT_NOTIFY_COUNT ≤ s.evt.sinceRead ∨ (s.evt.firstAt ≠ 0 ∧ s.evt.firstAt - 1 + s.get .EVT_NOTIFY_US * uUs ≤ s.now)

theorem notifies_iff : ((decide (s.get .EVT_NOTIFY_COUNT ≤ s.evt.sinceRead) ||
      (s.evt.firstAt != 0 && decide (s.evt.firstAt - 1 + s.get .EVT_NOTIFY_US * uUs ≤ s.now))) = true ∧ (!s.evt.notified) = true) ↔
    (notifyDue s ∧ s.evt.notified = false) := by
  simp [notifyDue]

theorem evtNotify_otherwise (h : s.evt.notified = true ∨ ¬notifyDue s) : Next .evtNotify s s := by
  refine next_congr (if_neg fun hc => ?_)
  obtain ⟨hd, hn⟩ := notifies_iff.1 hc
  exact h.elim (ne_true_of_eq_false hn) (absurd hd)

/-- The host is told once, by vector 2 where it is enabled. -/
theorem evtNotify_of_due (hn : s.evt.notified = false) (hd : notifyDue s) : Next .evtNotify s
    ((s.setEvt (fun e => { e with notified := true })).when (s.isSet .EVT_NOTIFY_IRQ_EN) (fun t => t.msix 0 2)) :=
  next_congr (if_pos (notifies_iff.2 ⟨hd, hn⟩))

end

/-- Settles O44, one row of the table after the other. -/
theorem faultEventsComplete : Obligations.FaultEventsComplete := by
  refine ⟨fun source detail captured s => rfl, fun part s h => ⟨recoveryEnd_of_none h, recoveryTimeout_of_none h⟩,
    fun part r s h => ⟨recoveryEnd_of_running h, fun hl => ⟨fun hd => ?_, fun hd => ?_⟩, fun hl => ⟨fun hn => ?_, fun t hn hd ht => ⟨fun hs => ?_, fun hs hr => ?_⟩⟩⟩,
    fun s => ⟨faultWindowClose_of_due, faultWindowClose_otherwise⟩,
    fun k reading limit s t u ht hl hu => ⟨fun h1 h2 => ?_, fun h => ?_⟩, fun s => rfl,
    fun s => ⟨eventRecord_of_none, fun e rest => eventRecord_of_raised⟩, fun s => ⟨eventsLost_otherwise, eventsLost_of_room⟩,
    fun s due hd => ⟨fun h => evtNotify_otherwise (h.imp_right (mt hd.2)), fun hn h => ⟨fun he => ?_, fun he => ?_⟩⟩⟩
  · exact next_congr ((effRecoveryTimeout_of_l1 h hl).trans (if_pos hd))
  · exact next_congr ((effRecoveryTimeout_of_l1 h hl).trans (if_neg hd.not_ge))
  · exact next_congr ((effRecoveryTimeout_of_l2 h hl).trans (if_pos hn))
  · refine next_congr ((effRecoveryTimeout_of_late h hl hn hd ht).trans (if_neg fun hc => ?_))
    obtain ⟨hsafe, hres⟩ := onlyOutlives_iff.1 hc
    exact hs.elim (absurd hsafe) (absurd hres)
  · exact next_congr ((effRecoveryTimeout_of_late h hl hn hd ht).trans (if_pos (onlyOutlives_iff.2 ⟨hs, hr⟩)))
  · subst hu
    exact next_congr ((effTempWarn_eq ht hl).trans (if_pos ⟨h1, h2⟩))
  · subst hu
    exact next_congr ((effTempWarn_eq ht hl).trans (if_neg (by omega)))
  · exact (evtNotify_of_due hn (hd.1 h)).trans (next_congr (State.when_of_true (State.isSet_iff.2 he)))
  · exact (evtNotify_of_due hn (hd.1 h)).trans (next_congr (State.when_of_false (State.isSet_eq_false_iff.2 he)))

end Sys2Proof.Machine

/-! ## The test block (`17_test.md` R412 to R424) -/

namespace Sys2Proof.Machine

open Sys2Proof

section
variable {q : Req} {s t : State}

/-! ### TEST_LOOPBACK (R413, R416) -/

section
variable {point inst on : Nat}

/-- A loopback begins at rest only, and with its twin off; it may always end. -/
def loopAllowed (point inst on : Nat) (s : State) : Prop := on = 0 ∨ (loopRest point inst s = true ∧ loopBit (loopOther point) inst s = false)

theorem loopNeeds_iff (hp : point ≤ 5) (ho : on < 2) :
    (decide (5 < point) || on != 1 || (loopRest point inst s && !(loopBit (loopOther point) inst s))) = true ↔ loopAllowed point inst on s := by
  simp only [loopAllowed, Bool.or_eq_true, decide_eq_true_eq, bne_iff_ne, Bool.and_eq_true, Bool.not_eq_true', hp.not_gt, false_or]
  exact or_congr_left (by omega)

theorem testLoopback_refused (hp : point ≤ 5) (ho : on < 2) (ht : takenUp (ciTestLoopback point inst) q s = true)
    (h : ¬loopAllowed point inst on s) : Next (.testLoopback q point inst on) s (reject (ciTestLoopback point inst) q stState 0 s) :=
  next_congr (single_of_needs_false ht (eq_false_of_ne_true (mt (loopNeeds_iff hp ho).1 h)))

/-- What a loopback turned on or off leaves: in a line loopback Bay finds the looped drive outside every window. -/
def loopbackSet (point inst on : Nat) (s : State) : State :=
  let f := loopField point
  if point ≤ 1 then
    let t := bayPresent inst 0 (on == 1) (s.set f (withBit (s.get f) inst (on == 1)))
    if (on == 1) = true then bayTripOn inst 0 t else t
  else s.set f (withBit (s.get f (inst / 8)) (inst % 8) (on == 1)) (inst / 8)

theorem testLoopback_sets (hp : point ≤ 5) (hi : inst < if point ≤ 1 then 4 else 32) (ho : on < 2)
    (ht : takenUp (ciTestLoopback point inst) q s = true) (h : loopAllowed point inst on s) :
    Done (.testLoopback q point inst on) (ciTestLoopback point inst) q [] s (loopbackSet point inst on s) := by
  refine next_congr ((single_accepted _ _ ht (needs_of_true ((loopNeeds_iff hp ho).2 h)) ?_).trans (congrArg _ ?_))
  · rw [want_true 16 (decide_eq_true hi), want_true 24 (decide_eq_true hp), want_true 32 (decide_eq_true ho)]
    rfl
  · unfold loopbackSet
    split <;> rfl

theorem loopbackSet_line_on (hp : point ≤ 1) (ho : on = 1) : loopbackSet point inst on s =
    bayTripOn inst 0 (bayPresent inst 0 true (s.set (loopField point) (withBit (s.get (loopField point)) inst true))) := by
  subst ho
  exact if_pos hp

theorem loopbackSet_line_off (hp : point ≤ 1) (ho : on = 0) : loopbackSet point inst on s =
    bayPresent inst 0 false (s.set (loopField point) (withBit (s.get (loopField point)) inst false)) := by
  subst ho
  exact if_pos hp

theorem loopbackSet_lane (hp : 2 ≤ point) : loopbackSet point inst on s =
    s.set (loopField point) (withBit (s.get (loopField point) (inst / 8)) (inst % 8) (on == 1)) (inst / 8) :=
  if_neg (by omega)

end

/-! ### TEST_GEN and TEST_CHECK (R417 to R419) -/

section
variable {es : List WEntry}

theorem testGen_starts (ht : takenUp ciTestGen q s = true) (hw : wErr (fun f => genFields.contains f) es = none) (hl : lenErr es s = none) :
    Done (.testGen q es) ciTestGen q [] s ((List.range 8).foldl (fun t g =>
      if t.get .TEST_GEN_RUN g = 1 ∧ s.get .TEST_GEN_RUN g ≠ 1 then
        { t with test := { t.test with gens := Tab.put {} t.test.gens g ⟨1, t.get .TEST_GEN_LEN_MAX g * 65536, t.now / uUs⟩ } }
      else t) (wApplyAll s es)) := by
  refine next_congr ((single_accepted _ _ ht rfl ((firstErr_of_none hw).trans hl)).trans ?_)
  have starts (t : State) (g : Nat) : (t.isSet .TEST_GEN_RUN g && !(s.isSet .TEST_GEN_RUN g)) = true ↔
      (t.get .TEST_GEN_RUN g = 1 ∧ s.get .TEST_GEN_RUN g ≠ 1) := by
    rw [Bool.and_eq_true, Bool.not_eq_true', State.isSet_iff, State.isSet_eq_false_iff]
  simp only [starts]

theorem testCheck_starts (ht : takenUp ciTestCheck q s = true)
    (hw : wErr (fun f => [Fld.TEST_CHK_RUN, .TEST_CHK_SLOT, .TEST_CHK_POINT, .TEST_CHK_GEN, .TEST_CHK_ETYPE].contains f) es = none) :
    Done (.testCheck q es) ciTestCheck q [] s
      (((wWrites .TEST_CHK_RUN es).filter (fun w => w.2.2 == 1)).foldl (fun t w =>
        { (chkCounts.foldl (fun t f => t.set f 0 w.1) t) with test := { (chkCounts.foldl (fun t f => t.set f 0 w.1) t).test with
            expect := Tab.put 0 (chkCounts.foldl (fun t f => t.set f 0 w.1) t).test.expect w.1 0 } }) (wApplyAll s es))
      (formR ((wInstances es).map (fun c => (c, chkCounts.map (fun f => s.get f c))))) :=
  next_congr (single_accepted _ _ ht rfl hw)

end

/-! ### TEST_PERTURB and PERTURB_OFF (R420, R423) -/

section
variable {f on prob target value ms : Nat} {timed : Prop}

/-- A DURATION_MS that the mode allows. -/
def durationFits (ms : Nat) (s : State) : Bool := if s.mode = 5 then ms < 65536 else 1 ≤ ms ∧ ms ≤ 60000

theorem durationFits_iff : durationFits ms s = true ↔ (s.mode = 5 ∧ ms < 65536) ∨ (s.mode ≠ 5 ∧ 1 ≤ ms ∧ ms ≤ 60000) := by
  unfold durationFits
  split <;> simp [*]

/-- With every other operand in range, TEST_PERTURB looks at the duration. -/
theorem perturb_param (hf : f ≤ 3) (ho : on < 2) (hp : prob < 256) (hg : perturbTarget f target = true) (hv : perturbValue f value = true) :
    firstErr [want 24 (f ≤ 3), want 32 (on < 2), want 40 (prob < 256), want 48 (perturbTarget f target), want 56 (perturbValue f value),
      want 64 (durationFits ms s)] = want 64 (durationFits ms s) := by
  rw [want_true 24 (decide_eq_true hf), want_true 32 (decide_eq_true ho), want_true 40 (decide_eq_true hp), want_true 48 hg, want_true 56 hv]
  exact firstErr_of_none rfl

theorem testPerturb_rejected (hf : f ≤ 3) (ho : on < 2) (hp : prob < 256) (hg : perturbTarget f target = true) (hv : perturbValue f value = true)
    (ht : takenUp ciTestPerturb q s = true) (hd : durationFits ms s = false) :
    Next (.testPerturb q f on prob target value ms) s (reject ciTestPerturb q stParam 64 s) :=
  next_congr (single_of_param ht rfl ((perturb_param hf ho hp hg hv).trans (want_false _ hd)))

/-- The feature's registers as it turns on. -/
def perturbOn (f prob target value ms : Nat) (s : State) : State :=
  (s.setAll [(.TEST_PERTURB_ON, 1), (.TEST_PERTURB_PROB, prob), (.TEST_PERTURB_TARGET, target), (.TEST_PERTURB_VALUE, value),
    (.TEST_PERTURB_DURATION_MS, ms)] f).set .TEST_STATUS_PERTURB_ON (withBit (s.get .TEST_STATUS_PERTURB_ON) f true)

theorem perturbOn_now : (perturbOn f prob target value ms s).now = s.now := rfl

theorem testPerturb_off (hf : f ≤ 3) (ho : on = 0) (hp : prob < 256) (hg : perturbTarget f target = true) (hv : perturbValue f value = true)
    (ht : takenUp ciTestPerturb q s = true) (hd : durationFits ms s = true) : Done (.testPerturb q f on prob target value ms) ciTestPerturb q [] s
      (if s.isSet .TEST_PERTURB_ON f then perturbEnd f 0 s else s) := by
  subst ho
  exact next_congr (single_accepted _ _ ht rfl ((perturb_param hf Nat.two_pos hp hg hv).trans (want_true _ hd)))

theorem testPerturb_on {until_ : Nat} (hf : f ≤ 3) (ho : on = 1) (hp : prob < 256) (hg : perturbTarget f target = true)
    (hv : perturbValue f value = true) (ht : takenUp ciTestPerturb q s = true) (hd : durationFits ms s = true)
    (hu : until_ = if ms = 0 then 0 else s.now + ms * uMs + 1) (hs : t = perturbOn f prob target value ms s) :
    Done (.testPerturb q f on prob target value ms) ciTestPerturb q [] s
      (({ t with test := { t.test with ends := Tab.put 0 t.test.ends f until_ } }).raise 0x0F01 [f, target, value]) := by
  subst ho hu hs
  exact next_congr (single_accepted _ _ ht rfl ((perturb_param hf Nat.one_lt_two hp hg hv).trans (want_true _ hd)))

theorem perturbOff_ends_iff {f : Fin 4} : (s.isSet .TEST_PERTURB_ON f = true ∧ Tab.get 0 s.test.ends f ≠ 0 ∧ Tab.get 0 s.test.ends f - 1 ≤ s.now) ↔
    (s.get .TEST_PERTURB_ON f = 1 ∧ Tab.get 0 s.test.ends f ≠ 0 ∧ Tab.get 0 s.test.ends f - 1 ≤ s.now) := by
  rw [State.isSet_iff]

theorem perturbOff_of_due {f : Fin 4} {a : Nat} (hn : s.get .TEST_PERTURB_ON f = 1) (he : Tab.get 0 s.test.ends f = a + 1) (hd : a ≤ s.now) :
    Next (.perturbOff f) s (perturbEnd f 1 s) :=
  next_congr (if_pos (perturbOff_ends_iff.2 ⟨hn, by omega, by omega⟩))

theorem perturbOff_otherwise {f : Fin 4}
    (h : s.get .TEST_PERTURB_ON f ≠ 1 ∨ Tab.get 0 s.test.ends f = 0 ∨ s.now < Tab.get 0 s.test.ends f - 1) : Next (.perturbOff f) s s := by
  refine next_congr (if_neg fun hc => ?_)
  obtain ⟨hn, he, hd⟩ := perturbOff_ends_iff.1 hc
  exact h.elim (absurd hn) (fun h => h.elim he hd.not_gt)

end

/-! ### TEST_INJECT (R421) -/

section
variable {k tgt n count : Nat}

theorem inject_param (hk : k ≤ 3) (hg : injectTarget k tgt = true) (hn : injectBits k n = true) :
    firstErr [want 24 (k ≤ 3), want 32 (injectTarget k tgt), want 40 (injectBits k n), want 48 (1 ≤ count ∧ count ≤ 65535)] =
      want 48 (1 ≤ count ∧ count ≤ 65535) := by
  rw [want_true 24 (decide_eq_true hk), want_true 32 hg, want_true 40 hn]
  exact firstErr_of_none rfl

theorem testInject_arms (hk : k ≤ 3) (hg : injectTarget k tgt = true) (hn : injectBits k n = true) (ht : takenUp ciTestInject q s = true)
    (h1 : 1 ≤ count) (h2 : count ≤ 65535) : Done (.testInject q k tgt n count) ciTestInject q [] s
      (((s.setAll [(.TEST_INJECT_TARGET, tgt), (.TEST_INJECT_BITS, n), (.TEST_INJECT_REMAINING, count)] k).set .TEST_STATUS_INJECT_ARMED
        (withBit (s.get .TEST_STATUS_INJECT_ARMED) k true)).raise 0x0F03 [k, tgt, count]) :=
  next_congr (single_accepted _ _ ht rfl ((inject_param hk hg hn).trans (want_true _ (decide_eq_true ⟨h1, h2⟩))))

theorem testInject_rejected (hk : k ≤ 3) (hg : injectTarget k tgt = true) (hn : injectBits k n = true) (ht : takenUp ciTestInject q s = true)
    (h : count = 0 ∨ 65535 < count) : Next (.testInject q k tgt n count) s (reject ciTestInject q stParam 48 s) :=
  next_congr (single_of_param ht rfl ((inject_param hk hg hn).trans (want_false _ (decide_eq_false (by omega)))))

end

/-! ### GEN_FRAME (R417) -/

section
variable {g : Fin 8} {len : Nat} {u v : State}

/-- The length drawn for a generator's next frame. -/
def genLength (g : Nat) (s : State) : Nat :=
  s.get .TEST_GEN_LEN_MIN g + s.free % (s.get .TEST_GEN_LEN_MAX g - s.get .TEST_GEN_LEN_MIN g + 1)

theorem genFrame_waits (hl : len = genLength g s) (h : s.get .TEST_GEN_RUN g ≠ 1 ∨ genLevel g s < len * 65536) : Next (.genFrame g) s s := by
  subst hl
  exact next_congr (if_pos (h.imp_left fun h => by rw [State.isSet_eq_false_iff.2 h]; rfl))

/-- A frame goes out and counts; the last of COUNT stops the generator. -/
theorem effGenFrame_of_ready (hl : len = genLength g s) (hr : s.get .TEST_GEN_RUN g = 1) (hb : len * 65536 ≤ genLevel g s)
    (ht : t = genInject g (testFrame g (Tab.get {} s.test.gens g).seq len s) s.took)
    (hu : u = { t with
      test := { t.test with
        gens := Tab.put {} t.test.gens g ⟨(Tab.get {} s.test.gens g).seq + 1, genLevel g s - len * 65536, t.now / uUs⟩ } })
    (hv : v = u.set .TEST_GEN_SENT (min (u.get .TEST_GEN_SENT g + 1) ctrMax) g) : effGenFrame g s =
      v.when (v.get .TEST_GEN_COUNT g != 0 && decide (v.get .TEST_GEN_COUNT g ≤ (Tab.get {} s.test.gens g).seq))
        (fun t => t.set .TEST_GEN_RUN 0 g) := by
  subst hl hv hu ht
  refine if_neg fun h => ?_
  rw [State.isSet_iff.2 hr] at h
  exact h.elim Bool.false_ne_true hb.not_gt

end

/-! ### TAP_INSTRUCTION (R424) -/

/-- The TAP's reset, from a TAP that holds the device. -/
theorem tapReset_of_hold (hh : s.test.tapHold = true) (ht : t = { s with test := { s.test with tapHold := false } }) :
    effTapInstruction .reset s = if t.pins.pwrGood ∧ t.pins.sysReset then effPowerGood t else t := by
  subst ht
  exact if_neg (by simp [hh])

theorem tapReset_of_free (hh : s.test.tapHold = false) : Next (.tapInstruction .reset) s s := next_congr (if_pos (by simp [hh]))

theorem tapDrives {i : TapInstr} (hi : i ∈ [TapInstr.extest, .extestPulse, .extestTrain, .clamp, .highz]) :
    Next (.tapInstruction i) s (tapTake s) := by
  simp only [List.mem_cons, List.not_mem_nil, or_false] at hi
  rcases hi with rfl | rfl | rfl | rfl | rfl <;> rfl

end

/-- Settles O45, one row of the table after the other. -/
theorem testBlockCompletes : Obligations.TestBlockCompletes := by
  refine ⟨fun q point inst on s hp hi ho ht => ⟨fun h1 h => testLoopback_refused hp ho ht fun ha => ?_,
      fun ha => ⟨fun hl h1 => ?_, fun hl h0 => ?_, fun h2 => ?_⟩⟩,
    fun q es s ht hw => ⟨testGen_starts ht hw, fun off hl => next_congr (single_of_param ht rfl ((firstErr_of_none hw).trans hl))⟩,
    fun q es s ht hw => testCheck_starts ht hw,
    fun q f on prob target value ms until_ s t timed hf ho hp hg hv ht hd hu hs =>
      ⟨fun h => testPerturb_rejected hf ho hp hg hv ht (eq_false_of_ne_true (mt (hd.trans durationFits_iff.symm).2 h)), fun h => ⟨fun h1 => ?_, fun h0 hn => ?_, fun h0 hn => ?_⟩⟩,
    fun q k tgt n count s hk hg hn ht => ⟨testInject_arms hk hg hn ht, testInject_rejected hk hg hn ht⟩,
    fun g s t u v len hl ht hu hv => ⟨genFrame_waits hl, fun hr hb => ⟨fun hc hm => ?_, fun h => ?_⟩⟩,
    fun f s => ⟨fun a => perturbOff_of_due, perturbOff_otherwise⟩,
    fun s t ht => ⟨rfl, rfl, rfl, fun i => tapDrives, tapReset_of_free, fun hh h => ?_, fun hh hp hr => ?_⟩⟩
  · rcases ha with h0 | ⟨hr, hb⟩
    · omega
    · exact h.elim (ne_true_of_eq_false · hr) (fun h => ne_true_of_eq_false hb h)
  · exact (testLoopback_sets hp hi ho ht ha).trans (by rw [loopbackSet_line_on hl h1])
  · exact (testLoopback_sets hp hi ho ht ha).trans (by rw [loopbackSet_line_off hl h0])
  · exact (testLoopback_sets hp hi ho ht ha).trans (by rw [loopbackSet_lane h2])
  · exact testPerturb_on hf h1 hp hg hv ht (durationFits_iff.2 (hd.1 h)) hu hs
  · exact (testPerturb_off hf h0 hp hg hv ht (durationFits_iff.2 (hd.1 h))).trans (by rw [if_pos (State.isSet_iff.2 hn)])
  · exact (testPerturb_off hf h0 hp hg hv ht (durationFits_iff.2 (hd.1 h))).trans (by rw [if_neg (mt State.isSet_iff.1 hn)])
  · exact next_congr ((effGenFrame_of_ready hl hr hb ht hu hv).trans (State.when_of_true (by simp [hc, hm])))
  · refine next_congr ((effGenFrame_of_ready hl hr hb ht hu hv).trans (State.when_of_false ?_))
    rcases h with h | h <;> simp [h]
  · exact next_congr ((tapReset_of_hold hh ht).trans (if_neg (by rcases h with h | h <;> simp [h])))
  · exact next_congr ((tapReset_of_hold hh ht).trans (if_pos ⟨hp, hr⟩))

end Sys2Proof.Machine

/-! ## The command transports (`13_commands.md` R310, R315 to R322; `15_power.md` R379, R381) -/

namespace Sys2Proof.Machine

open Sys2Proof

section
variable {s t : State}

/-! ### CMD_SUBMISSION_READ (R316, R317, R322) -/

section
variable {u n i : Nat} {e : SubEntry} {h : Header}

/-- A completion entry is reserved for a command that has been read, whose reply goes to an address (R316). -/
def takeCommand (u i addr : Nat) (e : SubEntry) (s : State) : State :=
  s.setCmd (fun c => { c with taken := c.taken ++ [⟨u, i, addr, e.replyCap⟩], reserved := Tab.put 0 c.reserved u (Tab.get 0 c.reserved u + 1) })

/-- The ring of function u has no entry to read, or the block takes none from it now (R316, R322, log entry 103). -/
def ringIdle (u : Nat) (s : State) : Prop :=
  s.cmd.accepting = false ∨ s.get .CMD_FN_ENABLE u ≠ 1 ∨ s.restarting 23 = true ∨ s.get .CMD_FN_SUB_HEAD u = s.get .CMD_FN_SUB_TAIL u ∨
    s.cmd.taken.any (fun x => x.fn == u) = true

/-- The completion ring of function u, of n entries, has no entry left to reserve (R316). -/
def ringFull (u n : Nat) (s : State) : Prop :=
  n ≤ (s.get .CMD_FN_CPL_TAIL u + n - s.get .CMD_FN_CPL_HEAD u % n) % n + Tab.get 0 s.cmd.reserved u + 1

/-- The test under which CMD_SUBMISSION_READ reads nothing. -/
theorem ringIdle_or_full_iff : (ringIdle u s ∨ ringFull u n s) ↔
    ((!(s.cmd.accepting)) = true ∨ (!(s.isSet .CMD_FN_ENABLE u)) = true ∨ s.restarting 23 = true ∨
      s.get .CMD_FN_SUB_HEAD u = s.get .CMD_FN_SUB_TAIL u ∨ s.cmd.taken.any (fun t => t.fn == u) = true ∨
      n ≤ (s.get .CMD_FN_CPL_TAIL u + n - s.get .CMD_FN_CPL_HEAD u % n) % n + Tab.get 0 s.cmd.reserved u + 1) := by
  simp [ringIdle, ringFull, State.isSet, or_assoc]

theorem effCmdSubmissionRead_of_idle (hi : ringIdle u s ∨ ringFull u (cmdCplSize s u) s) : effCmdSubmissionRead u e h s = s :=
  if_pos (ringIdle_or_full_iff.1 hi)

/-- The entry's packet and its reply lie within the function's windows (R317). -/
def entryAllowed (u : Nat) (e : SubEntry) (t : State) : Prop :=
  windowOk t u e.addr e.len false = true ∧ (e.replyCap = 0 ∨ windowOk t u e.replyAddr e.replyCap true = true)

theorem entryAllowed_iff : entryAllowed u e t ↔
    ¬((!windowOk t u e.addr e.len false) = true ∨ e.replyCap ≠ 0 ∧ (!windowOk t u e.replyAddr e.replyCap true) = true) := by
  simp [entryAllowed, or_iff_not_imp_left]

theorem effCmdSubmissionRead_of_fault (hr : ¬(ringIdle u s ∨ ringFull u (cmdCplSize s u) s)) (hi : i = s.get .CMD_FN_SUB_HEAD u)
    (hw : windowOk s u (s.get .CMD_FN_SUB_BASE u * 4096 + i * 32) 32 false = false) : effCmdSubmissionRead u e h s = ringFault u 0 s := by
  subst hi
  exact (if_neg (mt ringIdle_or_full_iff.2 hr)).trans (if_pos (by rw [hw]; rfl))

/-- An entry that is read: its addresses are checked, then its header. -/
theorem effCmdSubmissionRead_of_read (hr : ¬(ringIdle u s ∨ ringFull u (cmdCplSize s u) s)) (hi : i = s.get .CMD_FN_SUB_HEAD u)
    (hw : windowOk s u (s.get .CMD_FN_SUB_BASE u * 4096 + i * 32) 32 false = true)
    (ht : t = s.set .CMD_FN_SUB_HEAD ((i + 1) % cmdSubSize s u) u) : effCmdSubmissionRead u e h s =
      if !(windowOk t u e.addr e.len false) ∨ (e.replyCap ≠ 0 ∧ !(windowOk t u e.replyAddr e.replyCap true)) then
        reject { op := 0 } { src := .ring u, user := u, tag := 0, force := false, len := 0 } stPermission 0
          ((takeCommand u i noReplyAddr e t).inc .CMD_WIN_DENIED)
      else
        match transportCheck h e.len (.ring u) with
        | some (st, d) => reject { op := h.opcode } { headerReq h (.ring u) with user := u } st d (takeCommand u i e.replyAddr e t)
        | none => takeCommand u i e.replyAddr e t := by
  subst hi ht
  exact (if_neg (mt ringIdle_or_full_iff.2 hr)).trans ((if_neg (by rw [hw]; exact Bool.false_ne_true)).trans rfl)

end

/-! ### COMMAND_COMPLETION (R316, R317, R319, R321, R355) -/

section
variable {r : Reply} {rest : List Reply}

/-- The oldest reply goes out by the transport of its command. -/
def replyOut (r : Reply) (s : State) : State :=
  match r.req.src with
  | .ring u =>
    match s.cmd.taken.find? (fun t => t.fn == u) with
    | some t => completeRing u t r s
    | none => s
  | .inband x =>
    match s.cmd.inband.find? (fun t => t.1 == x && t.2.2.2 == r.req.user) with
    | some t => inbandReply x t.2.1 t.2.2.1 r (s.setCmd (fun c => { c with inband := c.inband.erase t }))
    | none => s
  | .peldel => s.setCmd (fun c => { c with peldelReply := some r, peldelBusy := false })
  | _ => s

theorem commandCompletion_next (h : s.cmd.replies = r :: rest) (hr : replyOut r (s.setCmd (fun c => { c with replies := rest })) = t) :
    Next .commandCompletion s (restartReady t) := by
  subst hr
  refine next_congr ?_
  unfold effCommandCompletion
  rw [h]
  rfl

theorem replyOut_ring {u : Nat} {k : Taken} (hs : r.req.src = .ring u) (hk : s.cmd.taken.find? (fun t => t.fn == u) = some k) :
    replyOut r s = completeRing u k r s := by
  unfold replyOut
  simp only [hs, hk]

theorem replyOut_inband {x : Nat} {k : Nat × Nat × List Nat × Nat} (hs : r.req.src = .inband x)
    (hk : s.cmd.inband.find? (fun t => t.1 == x && t.2.2.2 == r.req.user) = some k) :
    replyOut r s = inbandReply x k.2.1 k.2.2.1 r (s.setCmd (fun c => { c with inband := c.inband.erase k })) := by
  unfold replyOut
  simp only [hs, hk]

theorem replyOut_peldel (hs : r.req.src = .peldel) :
    replyOut r s = s.setCmd (fun c => { c with peldelReply := some r, peldelBusy := false }) := by
  unfold replyOut
  simp only [hs]

/-- A reply whose command its transport does not hold any more goes nowhere. -/
theorem replyOut_of_lost (h : (∃ u, r.req.src = .ring u ∧ s.cmd.taken.find? (fun x => x.fn == u) = none) ∨
    (∃ x, r.req.src = .inband x ∧ s.cmd.inband.find? (fun y => y.1 == x && y.2.2.2 == r.req.user) = none) ∨
    r.req.src = .peer ∨ r.req.src = .journal) : replyOut r s = s := by
  unfold replyOut
  rcases h with ⟨u, hs, hk⟩ | ⟨x, hs, hk⟩ | hs | hs
  · simp only [hs, hk]
  · simp only [hs, hk]
  · simp only [hs]
  · simp only [hs]

end

/-! ### INBAND_COMMAND (R286, R318 to R320) -/

section
variable {x n covered d : Nat} {frame body : List Nat} {h : Header} {k : Nat}

/-- What names an in-band command until its reply: port, source, outer tag, USER (R319). -/
def inbandEntry (x n : Nat) (frame : List Nat) (h : Header) : Nat × Nat × List Nat × Nat :=
  (x, field frame 6 6, if n = 0 then [] else (frame.drop 12).take 4, h.user)

theorem inbandCommand_ignored (hi : s.inRescue = true ∨ s.link x ≠ lsUp ∨
    field frame (12 + 4 * tagsOf (s.get .PORT_CFG_TPID_ALT x) frame) 2 ≠ 0x88B5) : effInbandCommand x frame s = s := if_pos hi

/-- The CMAC of an in-band command fits under the key of USER's page (R286, R318). -/
def macFits (k? : Option Nat) (covered : Nat) (body : List Nat) : Bool :=
  match k? with
  | some k => cmac k (body.take covered) % 2 ^ 128 == field body covered 16
  | none => false

theorem macFits_of_some (h : cmac k (body.take covered) % 2 ^ 128 = field body covered 16) : macFits (some k) covered body = true :=
  beq_iff_eq.2 h

theorem macFits_of_other (h : cmac k (body.take covered) % 2 ^ 128 ≠ field body covered 16) : macFits (some k) covered body = false :=
  beq_eq_false_iff_ne.2 h

theorem effInbandCommand_of_command (hn : n = tagsOf (s.get .PORT_CFG_TPID_ALT x) frame) (hb : body = frame.drop (12 + 4 * n + 2))
    (hh : h = headerOf body) (hr : s.inRescue = false) (hl : s.link x = lsUp) (hf : field frame (12 + 4 * n) 2 = 0x88B5)
    (hc : covered = if 32 + h.len ≤ body.length then 16 + h.len else body.length - 16)
    (hd : d = (h.tag + 2 ^ 32 - s.get .CMD_FN_INBAND_TAG h.user) % 2 ^ 32)
    (ht : t = (s.set .CMD_FN_INBAND_TAG h.tag h.user).setCmd (fun c => { c with inband := c.inband ++ [inbandEntry x n frame h] })) :
    effInbandCommand x frame s =
      if !macFits (inbandKey s h.user) covered body then inbandRefuse x (inbandEntry x n frame h) h stAuthFail (s.inc .CIPH_CMD_AUTH_FAIL)
      else if d = 0 ∨ 2 ^ 31 ≤ d then inbandRefuse x (inbandEntry x n frame h) h stStale (s.inc .CMD_INBAND_REPLAY)
      else
        match transportCheck h (body.length - 16) (.inband x) with
        | some (st, d) => reject { op := h.opcode } (headerReq h (.inband x)) st d t
        | none => t := by
  subst hn hb hh hc hd ht
  refine (if_neg (by simp [hr, hl, hf])).trans ?_
  simp only [decide_eq_true_eq]
  rfl

end

/-! ### The Peldel port (R321, R379, R381, R382) -/

section
variable {bytes : List Nat} {n : Nat}

theorem effPeldelWrite_of_packet (hb : s.cmd.peldelBusy = false) (hr : s.restarting 23 = false) (hn : n ≤ 4096)
    (hl : bytes.length = n + 6) (hc : field bytes (n + 2) 4 = crc32c (bytes.take (n + 2))) (hf : n = field bytes 0 2)
    (ht : t = s.setCmd (fun c => { c with peldelBusy := true })) : effPeldelWrite bytes s =
      match transportCheck (headerOf ((bytes.drop 2).take n)) n .peldel with
      | some (st, d) => reject { op := (headerOf ((bytes.drop 2).take n)).opcode }
          { headerReq (headerOf ((bytes.drop 2).take n)) .peldel with user := 0 } st d t
      | none => t := by
  subst hf ht
  exact (if_neg (by simp [hb, hr])).trans ((if_neg (by simp [hn, hl, hc])).trans rfl)

theorem effPeldelRead_of_free (h : s.cmd.peldelBusy = false) : effPeldelRead s =
    match s.cmd.peldelReply with
    | none => s.emit (.peldel [0])
    | some r =>
      let packet := wordBytes (replyPacket r 65512).1
      let framed := toBytes 2 packet.length ++ packet
      (s.emit (.peldel ([2] ++ framed ++ toBytes 4 (crc32c framed)))).setCmd (fun c => { c with peldelReply := none }) :=
  if_neg (ne_true_of_eq_false h)

/-- Outside the states in which an address match wakes, PELDEL_OFF makes it an on request in OFF and in a power-down (R381, R382). -/
theorem effPeldelAddressMatch_of_no_wake (h : ¬(s.get .PWR_STATE_STATE = 2 ∨ s.get .PWR_STATE_STATE = 3 ∨ s.get .PWR_STATE_STATE = 4)) :
    effPeldelAddressMatch s =
      if s.isSet .PWR_STATE_PELDEL_OFF = true ∧ (s.get .PWR_STATE_STATE = 0 ∨ s.get .PWR_STATE_STATE = 6) then onRequest s else s := if_neg h

end

end

/-- Settles O47, one row of the table after the other. -/
theorem commandTransportsComplete : Obligations.CommandTransportsComplete := by
  refine ⟨fun u e h s t n i hn hi hacc hen hrs hne hta hfree => ?_,
    fun u e h s hi => next_congr (effCmdSubmissionRead_of_idle (.inl hi)),
    fun u e h s n hn hf => next_congr (effCmdSubmissionRead_of_idle (.inr (by subst hn; exact hf))),
    fun r rest s hr => ⟨fun u t hs hk => commandCompletion_next hr (replyOut_ring hs hk),
      fun x t hs hk => commandCompletion_next hr (replyOut_inband hs hk),
      fun hl => commandCompletion_next hr (replyOut_of_lost hl), fun hs => commandCompletion_next hr (replyOut_peldel hs)⟩,
    fun s h => next_congr (by unfold effCommandCompletion; rw [h]),
    fun x frame body h s t n covered d hn hb hh hr hl hf hc hd ht => ?_,
    fun x frame s hi => next_congr (inbandCommand_ignored hi),
    fun bytes n s t hn ht => ⟨fun h => next_congr (if_pos h), fun hb hr => ⟨fun h => ?_, fun hn4 hl hc => ⟨fun hk => ?_, fun st d hk => ?_⟩⟩⟩,
    fun s => ⟨fun h => next_congr (if_pos h), fun h hr => ?_, fun r packet h hr hp => ?_⟩,
    fun s => ⟨fun h => next_congr (if_pos h), fun h => ⟨fun hp => ?_, fun hp => ?_⟩, fun h0 h2 h3 h4 h6 => ?_⟩⟩
  · subst hn
    have hread : ¬(ringIdle u s ∨ ringFull u (cmdCplSize s u) s) := by
      simp [ringIdle, ringFull, hacc, hen, hrs, hi ▸ hne, hta, hfree]
    refine ⟨fun hw => next_congr (effCmdSubmissionRead_of_fault hread hi hw), fun hw ht => ?_⟩
    have read := effCmdSubmissionRead_of_read (e := e) (h := h) hread hi hw ht
    refine ⟨fun ha hra => ⟨fun hk => ?_, fun st d hk => ?_⟩, fun hd => ?_⟩
    · exact next_congr (read.trans ((if_neg (entryAllowed_iff.1 ⟨ha, hra⟩)).trans (by rw [hk]; rfl)))
    · exact next_congr (read.trans ((if_neg (entryAllowed_iff.1 ⟨ha, hra⟩)).trans (by rw [hk]; rfl)))
    · exact next_congr (read.trans (if_pos (by simpa using hd)))
  · have command := effInbandCommand_of_command hn hb hh hr hl hf hc hd ht
    refine ⟨fun hk => ?_, fun k hk hm => ?_⟩
    · refine next_congr (command.trans (if_pos ?_))
      rcases hk with hk | ⟨k, hk, hm⟩
      · rw [hk]; rfl
      · rw [hk, macFits_of_other hm]; rfl
    · have fits : ¬(!macFits (inbandKey s h.user) covered body) = true := by
        rw [hk, macFits_of_some hm]; exact Bool.false_ne_true
      refine ⟨fun hd => next_congr (command.trans ((if_neg fits).trans (if_pos hd))), fun h1 h2 ht => ?_, fun st e h1 h2 ht => ?_⟩
      · exact next_congr (command.trans ((if_neg fits).trans ((if_neg (by omega)).trans (by rw [ht]))))
      · exact next_congr (command.trans ((if_neg fits).trans ((if_neg (by omega)).trans (by rw [ht]))))
  · subst hn
    exact next_congr ((if_neg (by simp [hb, hr])).trans (if_pos h))
  · exact next_congr ((effPeldelWrite_of_packet hb hr hn4 hl hc hn ht).trans (by rw [hk]))
  · exact next_congr ((effPeldelWrite_of_packet hb hr hn4 hl hc hn ht).trans (by rw [hk]))
  · exact next_congr ((effPeldelRead_of_free h).trans (by rw [hr]))
  · subst hp
    exact next_congr ((effPeldelRead_of_free h).trans (by rw [hr]))
  · exact next_congr ((effPeldelAddressMatch_of_no_wake (by omega)).trans (if_pos ⟨State.isSet_iff.2 hp, h⟩))
  · exact next_congr ((effPeldelAddressMatch_of_no_wake (by omega)).trans (if_neg fun hc => hp (State.isSet_iff.1 hc.1)))
  · exact next_congr ((effPeldelAddressMatch_of_no_wake (by omega)).trans (if_neg (by omega)))

end Sys2Proof.Machine

/-! ## Commits, fences and mirroring (`13_commands.md` R313, R326 to R331) -/

namespace Sys2Proof.Machine

open Sys2Proof

section
variable {s t : State}

/-! ### ATOMIC_COMMIT (R313) -/

/-- The lower of two refusals, as ATOMIC_COMMIT goes through them. -/
def lowerRefusal (b : Option (Nat × Nat)) (x : Nat × Nat) : Option (Nat × Nat) :=
  match b with
  | none => some x
  | some y => if x.1 < y.1 then some x else b

/-- The lowest refusal stands at the end, wherever in the list it is. -/
theorem foldl_lowerRefusal {l : List (Nat × Nat)} {b : Option (Nat × Nat)} {m : Nat × Nat} (hm : b = some m ∨ m ∈ l)
    (hl : ∀ y ∈ l, y = m ∨ m.1 < y.1) (hb : ∀ y, b = some y → y = m ∨ m.1 < y.1) : l.foldl lowerRefusal b = some m := by
  induction l generalizing b with
  | nil => exact hm.resolve_right List.not_mem_nil
  | cons x r ih =>
    have hx := hl x List.mem_cons_self
    refine ih ?_ (fun y hy => hl y (List.mem_cons_of_mem _ hy)) fun y hy => ?_
    · rcases hm with rfl | hm
      · left
        exact if_neg fun h => hx.elim (fun e => absurd h (by simp [e])) (absurd h ∘ lt_asymm)
      · rcases List.mem_cons.1 hm with rfl | hm
        · left
          cases b with
          | none => rfl
          | some y =>
            rcases hb y rfl with rfl | hy
            · exact if_neg (lt_irrefl _)
            · exact if_pos hy
        · exact .inr hm
    · cases b with
      | none => cases hy; exact hx
      | some z =>
        by_cases h : x.1 < z.1
        · cases (if_pos h).symm.trans hy; exact hx
        · cases (if_neg h).symm.trans hy; exact hb _ rfl

section
variable {x : Option (Nat × Nat)} {g : Staged} {rest : List Staged}

/-- ATOMIC_COMMIT of the oldest staged command. -/
theorem effAtomicCommit_of_staged (hg : s.cmd.staged = g :: rest) (ht : t = s.setCmd (fun c => { c with staged := rest })) :
    effAtomicCommit x s = match (refusals g x t).foldl lowerRefusal none with
      | some (p, st) => complete { op := g.op, persist := g.persist } g.req [] 0
          { state := t, status := stRolledBack, detail := p, data := [st * 2 ^ 56] }
      | none => complete { op := g.op, persist := g.persist } g.req (actKeys g.act) 0 { state := commitAct g.act t } := by
  subst ht
  unfold effAtomicCommit
  rw [hg]
  rfl

theorem atomicCommit_committed (hg : s.cmd.staged = g :: rest) (ht : t = s.setCmd (fun c => { c with staged := rest }))
    (hr : refusals g x t = []) : Next (.atomicCommit x) s
      (complete { op := g.op, persist := g.persist } g.req (actKeys g.act) 0 { state := commitAct g.act t }) :=
  next_congr ((effAtomicCommit_of_staged hg ht).trans (by rw [hr]; rfl))

theorem atomicCommit_rolled_back {p st : Nat} (hg : s.cmd.staged = g :: rest) (ht : t = s.setCmd (fun c => { c with staged := rest }))
    (hp : (p, st) ∈ refusals g x t) (hl : ∀ y ∈ refusals g x t, y = (p, st) ∨ p < y.1) : Next (.atomicCommit x) s
      (complete { op := g.op, persist := g.persist } g.req [] 0
        { state := t, status := stRolledBack, detail := p, data := [st * 2 ^ 56] }) :=
  next_congr ((effAtomicCommit_of_staged hg ht).trans (by rw [foldl_lowerRefusal (.inr hp) hl (by simp)]))

theorem atomicCommit_of_none (h : s.cmd.staged = []) : Next (.atomicCommit x) s s :=
  next_congr (by unfold effAtomicCommit; rw [h])

end

/-! ### FENCE_RETURN (R326) -/

section
variable {k n : Nat} {f : FenceWait}

theorem effFenceReturn_of_none (h : s.cmd.fences[k]? = none) : effFenceReturn k s = s := by
  unfold effFenceReturn
  rw [h]

theorem effFenceReturn_of_some (h : s.cmd.fences[k]? = some f) (hn : n = olderInFlight s f.set f.gen)
    (ht : t = s.setCmd (fun c => { c with fences := c.fences.eraseIdx k })) : effFenceReturn k s =
      if n = 0 then complete ciFence f.req [] 0 { state := t, data := [f.gen] }
      else if f.limitUs ≠ 0 ∧ f.since + f.limitUs * uUs ≤ s.now then complete ciFence f.req [] 0 { state := t, status := stTimeout, data := [n] }
      else s := by
  subst hn ht
  unfold effFenceReturn
  rw [h]

end

/-! ### Mirror records (R328 to R330, R398) -/

section
variable {r : MirrorRec} {rest : List MirrorRec} {size : Nat}

theorem effMirrorRecordWrite_of_none (h : s.cmd.mirrorQueue = []) : effMirrorRecordWrite s = s := by
  unfold effMirrorRecordWrite
  rw [h]

theorem effMirrorRecordWrite_of_off (hq : s.cmd.mirrorQueue = r :: rest)
    (h : s.get .CMD_PEER_CFG_ENABLE ≠ 1 ∨ s.get .CMD_PEER_CFG_ROLE ≠ 1 ∨ s.get .FLT_STATUS_SAFE = 1) : effMirrorRecordWrite s = s := by
  unfold effMirrorRecordWrite
  rw [hq]
  exact if_pos (by simpa [State.safe, State.isSet] using h)

/-- The record goes out at an offset, then RX_TAIL (R329). -/
def mirrorSend (r : MirrorRec) (rest : List MirrorRec) (pos : Nat) (s : State) : State :=
  ((((s.emit (.partnerWrite (0x380000 + pos) [r.seq, r.len * 2 ^ 32 + s.free % 2 ^ 32])).took).emit
    (.partnerWrite 0x300210 [(pos + mirrorSize r.len) % 524288 * 2 ^ 32])).inc .CMD_PEER_SENT).setCmd
      (fun c => { c with mirrorQueue := rest, mirrorPos := (pos + mirrorSize r.len) % 524288, mirrorBytes := c.mirrorBytes - mirrorSize r.len })

/-- An active partner's mirroring goes on outside the safe state (R329, R398). -/
def mirroring (s : State) : Prop := s.get .CMD_PEER_CFG_ENABLE = 1 ∧ s.get .CMD_PEER_CFG_ROLE = 1 ∧ s.get .FLT_STATUS_SAFE ≠ 1

theorem not_mirroring_test (h : mirroring s) :
    ¬((!s.isSet .CMD_PEER_CFG_ENABLE) = true ∨ (!s.isSet .CMD_PEER_CFG_ROLE) = true ∨ s.safe = true) := by
  obtain ⟨he, hr, hs⟩ := h
  simp [State.safe, State.isSet, he, hr, hs]

theorem effMirrorRecordWrite_of_fitting (hq : s.cmd.mirrorQueue = r :: rest) (h : mirroring s)
    (hf : s.cmd.mirrorPos + mirrorSize r.len ≤ 524288) : effMirrorRecordWrite s = mirrorSend r rest s.cmd.mirrorPos s := by
  have hw : decide (mirrorArea < s.cmd.mirrorPos + mirrorSize r.len) = false := decide_eq_false hf.not_gt
  unfold effMirrorRecordWrite
  rw [hq]
  refine (if_neg (not_mirroring_test h)).trans ?_
  simp only [hw, Bool.false_eq_true, false_and, if_false]
  rfl

theorem effMirrorRecordWrite_of_wrapping (hq : s.cmd.mirrorQueue = r :: rest) (h : mirroring s)
    (hf : 524288 < s.cmd.mirrorPos + mirrorSize r.len) (hp : s.cmd.mirrorPos < 524288) : effMirrorRecordWrite s =
      mirrorSend r rest 0 (s.emit (.partnerWrite (0x380000 + s.cmd.mirrorPos) [r.seq, 0xFFFFFFFF * 2 ^ 32])) := by
  have hw : decide (mirrorArea < s.cmd.mirrorPos + mirrorSize r.len) = true := decide_eq_true hf
  have hp' : s.cmd.mirrorPos < mirrorArea := hp
  unfold effMirrorRecordWrite
  rw [hq]
  refine (if_neg (not_mirroring_test h)).trans ?_
  simp only [hw, hp', and_self, if_true]
  rfl

/-- The next record of the partner is applied (R330). -/
def applies (s : State) : Prop := s.get .CMD_PEER_CFG_APPLY = 1 ∧ s.get .CMD_PEER_STATUS_DESYNC ≠ 1 ∧ s.cmd.applying = none ∧
  s.get .CMD_PEER_RX_RX_HEAD ≠ s.get .CMD_PEER_RX_RX_TAIL ∧ s.cmd.accepting = true ∧
  (s.get .CMD_PEER_CFG_ROLE = 0 ∨ 0 < s.cmd.rxDrain)

theorem effMirrorApply_of_idle (h : s.get .CMD_PEER_CFG_APPLY ≠ 1 ∨ s.get .CMD_PEER_STATUS_DESYNC = 1 ∨ s.cmd.applying ≠ none ∨
    s.get .CMD_PEER_RX_RX_HEAD = s.get .CMD_PEER_RX_RX_TAIL ∨ s.cmd.accepting = false ∨ s.cmd.rxRecords = [] ∨
    (s.get .CMD_PEER_CFG_ROLE = 1 ∧ s.cmd.rxDrain = 0)) : effMirrorApply s = s := by
  by_cases hr : s.cmd.rxRecords = []
  · unfold effMirrorApply
    rw [hr]
    exact ite_self _
  · exact if_pos (by simpa [State.isSet, hr, Option.isSome_iff_ne_none] using h)

theorem effMirrorApply_of_record (h : applies s) (hr : s.cmd.rxRecords = r :: rest) : effMirrorApply s =
    if r.len = 0xFFFFFFFF then (s.set .CMD_PEER_RX_RX_HEAD 0).setCmd (fun c => { c with rxRecords := rest, rxDrain := c.rxDrain - 1 })
    else if !r.checkOk then desync 0 r.seq s
    else if r.seq ≠ s.cmd.rxSeq + 1 then desync 1 r.seq s
    else (s.set .CMD_PEER_RX_RX_HEAD ((s.get .CMD_PEER_RX_RX_HEAD + mirrorSize r.len) % 524288)).setCmd (fun c =>
      { c with rxRecords := rest, rxSeq := r.seq, rxDrain := c.rxDrain - 1, applying := some r.op }) := by
  obtain ⟨ha, hd, hn, hh, hacc, hrole⟩ := h
  have hrole' : ¬(s.get .CMD_PEER_CFG_ROLE = 1 ∧ s.cmd.rxDrain = 0) := by omega
  unfold effMirrorApply
  rw [hr]
  refine (if_neg ?_).trans rfl
  simpa [State.isSet, ha, hd, hn, hh, hacc] using hrole'

end

/-! ### The partner is polled (R331) -/

theorem peerPoll_early (h : s.timer .peerPoll ≠ none) (he : s.expired .peerPoll uMs = false) (b : Bool) : Next (.peerPoll b) s s :=
  next_congr (if_pos ⟨Option.isSome_iff_ne_none.2 h, by rw [he]; rfl⟩)

theorem effPeerPoll_of_due {b : Bool} (h : s.timer .peerPoll = none ∨ s.expired .peerPoll uMs = true)
    (ht : t = (s.start .peerPoll).emit .partnerRead) : effPeerPoll b s =
      if b then (t.set .CMD_PEER_STATUS_PARTNER_OK 1).stop .peerRead else if (t.timer .peerRead).isNone then t.start .peerRead else t := by
  subst ht
  exact if_neg fun ⟨h1, h2⟩ => h.elim (Option.isSome_iff_ne_none.1 h1) (by simpa using h2)

end

/-- Settles O48, one row of the table after the other. -/
theorem commitFenceAndMirrorComplete : Obligations.CommitFenceAndMirrorComplete := by
  refine ⟨fun x g rest s t hg ht => ⟨atomicCommit_committed hg ht, fun p st => atomicCommit_rolled_back hg ht⟩,
    fun x s => atomicCommit_of_none,
    fun k s => ⟨fun h => next_congr (effFenceReturn_of_none h), fun f n t h hn ht => ⟨fun h0 => ?_, fun h0 hl hd => ?_, fun h0 hl => ?_⟩⟩,
    fun r rest s hq => ⟨fun h => next_congr (effMirrorRecordWrite_of_off hq h), fun he hr hs size hsize => ?_⟩,
    fun s h => next_congr (effMirrorRecordWrite_of_none h),
    fun rid seq op len ok s => ⟨fun h => next_congr (if_pos h), fun h => next_congr (if_neg (not_not_intro h))⟩,
    fun s h => next_congr (effMirrorApply_of_idle h),
    fun r rest s ha hd hn hh hacc hr hrole => ?_,
    fun s => ⟨fun h => ⟨?_, fun t ht => ⟨fun hn => ?_, fun hn => ?_⟩⟩, fun h he => ⟨peerPoll_early h he true, peerPoll_early h he false⟩,
      fun h => next_congr (if_pos h), fun h => next_congr (if_neg (ne_true_of_eq_false h))⟩⟩
  · exact next_congr ((effFenceReturn_of_some h hn ht).trans (if_pos h0))
  · exact next_congr ((effFenceReturn_of_some h hn ht).trans ((if_neg h0).trans (if_pos ⟨hl, hd⟩)))
  · exact next_congr ((effFenceReturn_of_some h hn ht).trans
      ((if_neg h0).trans (if_neg fun ⟨h1, h2⟩ => hl.elim h1 h2.not_gt)))
  · obtain rfl : size = mirrorSize r.len := hsize
    refine ⟨fun hf => ?_, fun t hf hp ht => ?_⟩
    · exact next_congr (effMirrorRecordWrite_of_fitting hq ⟨he, hr, hs⟩ hf)
    · subst ht
      refine next_congr ((effMirrorRecordWrite_of_wrapping hq ⟨he, hr, hs⟩ hf hp).trans ?_)
      unfold mirrorSend
      simp only [Nat.zero_add, Nat.add_zero]
  · have applied := effMirrorApply_of_record ⟨ha, hd, hn, hh, hacc, hrole⟩ hr
    refine ⟨fun hm => ?_, fun hm hc => ?_, fun hm hc hq => ?_, fun hm hc hq => ?_⟩
    · exact next_congr (applied.trans (if_pos hm))
    · exact next_congr (applied.trans ((if_neg hm).trans (if_pos (by rw [hc]; rfl))))
    · exact next_congr (applied.trans ((if_neg hm).trans ((if_neg (by simp [hc])).trans (if_pos hq))))
    · exact next_congr (applied.trans ((if_neg hm).trans ((if_neg (by simp [hc])).trans (if_neg (not_not_intro hq)))))
  · exact next_congr ((effPeerPoll_of_due h rfl).trans (if_pos rfl))
  · exact next_congr ((effPeerPoll_of_due h ht).trans ((if_neg Bool.false_ne_true).trans (if_pos (by rw [hn]; rfl))))
  · exact next_congr ((effPeerPoll_of_due h ht).trans ((if_neg Bool.false_ne_true).trans (if_neg (by simpa using hn))))

end Sys2Proof.Machine

/-! ## The boot, the fuses and the store's operations (`14_boot_store.md` R336 to R338, R345 to R350, R353, R356) -/

namespace Sys2Proof.Machine

open Sys2Proof

section
variable {s t u : State}

/-! ### BOOT_PHASE (R356, R358, R381) -/

section
variable {b : BootIn}

theorem bootPhase_idle (h : s.get .SYS_BOOT_PHASE = 0 ∨ 11 ≤ s.get .SYS_BOOT_PHASE ∨ s.pins.sysReset = false) : Next (.bootPhase b) s s :=
  next_congr (if_pos (h.imp_right (Or.imp_right fun h => by rw [h]; rfl)))

/-- The device is out of reset, and its boot in progress. -/
theorem effBootPhase_of_running (h0 : 0 < s.get .SYS_BOOT_PHASE) (h10 : s.get .SYS_BOOT_PHASE ≤ 10) (hr : s.pins.sysReset = true) :
    effBootPhase b s =
      if s.inRescue then bootDone s
      else if s.get .SYS_BOOT_PHASE = 10 then bootDone s
      else
        let t := (bootStep b (s.get .SYS_BOOT_PHASE + 1) s).set .SYS_BOOT_PHASE (s.get .SYS_BOOT_PHASE + 1)
        if t.power.request = some 2 ∧ !(pfailHolds t) then beginPowerDown t else t :=
  if_neg (by simp [hr]; omega)

theorem bootPhase_ends (h0 : 0 < s.get .SYS_BOOT_PHASE) (h10 : s.get .SYS_BOOT_PHASE ≤ 10) (hr : s.pins.sysReset = true)
    (h : s.inRescue = true ∨ s.get .SYS_BOOT_PHASE = 10) : Next (.bootPhase b) s (bootDone s) := by
  refine next_congr ((effBootPhase_of_running h0 h10 hr).trans ?_)
  rcases h with h | h
  · exact if_pos h
  · rw [if_pos h, ite_self]

/-- The step after phase n has been carried out, and phase n + 1 stands. -/
def afterStep (b : BootIn) (n : Nat) (s : State) : State := (bootStep b (n + 1) s).set .SYS_BOOT_PHASE (n + 1)

theorem effBootPhase_of_step {n : Nat} (hn : s.get .SYS_BOOT_PHASE = n) (h0 : 0 < n) (h9 : n ≤ 9) (hr : s.pins.sysReset = true)
    (hres : s.inRescue = false) : effBootPhase b s =
      if (afterStep b n s).power.request = some 2 ∧ !(pfailHolds (afterStep b n s)) then beginPowerDown (afterStep b n s) else afterStep b n s := by
  subst hn
  exact (effBootPhase_of_running h0 (by omega) hr).trans ((if_neg (ne_true_of_eq_false hres)).trans (if_neg (by omega)))

theorem powersDown_iff : (t.power.request = some 2 ∧ (!(pfailHolds t)) = true) ↔ (t.power.request = some 2 ∧ t.pins.pfail = true) := by
  simp [pfailHolds]

/-- The steps by the phase that they follow. -/
theorem bootSteps_eq : [(1, bootFuses b s), (2, bootStore b s), (3, bootAnchor s), (4, bootTrial s), (5, bootImage s),
      (6, recorderStart (s.set .SYS_BOOT_PHASE 7)), (7, bootJournal s), (8, bootPower s), (9, bootSettings s)] =
    (List.range' 1 9).map (fun n => (n, bootStep b (n + 1) s)) := rfl

theorem bootPhase_of_step {n : Nat} (hn : s.get .SYS_BOOT_PHASE = n) (h0 : 0 < n) (h9 : n ≤ 9) (hr : s.pins.sysReset = true)
    (hres : s.inRescue = false) (ht : t = afterStep b n s) :
    (t.power.request = some 2 → t.pins.pfail = true → Next (.bootPhase b) s (beginPowerDown t)) ∧
    (t.power.request ≠ some 2 ∨ t.pins.pfail = false → Next (.bootPhase b) s t) := by
  subst ht
  refine ⟨fun hq hp => next_congr ((effBootPhase_of_step hn h0 h9 hr hres).trans (if_pos (powersDown_iff.2 ⟨hq, hp⟩))),
    fun h => next_congr ((effBootPhase_of_step hn h0 h9 hr hres).trans (if_neg fun hc => ?_))⟩
  obtain ⟨hq, hp⟩ := powersDown_iff.1 hc
  exact h.elim (absurd hq) (ne_true_of_eq_false · hp)

end

/-! ### FUSE_REREAD (R285, R336, R338) -/

section
variable {temp : Int} {doubt new : List Nat} {nb : Nat}

theorem fuseReread_of_within (h : ¬(bandAfter (s.get .SYS_FUSE_STATUS_BAND) temp ≠ s.get .SYS_FUSE_STATUS_BAND ∧ s.get .SYS_FUSE_STATUS_DONE = 1)) :
    Next (.fuseReread temp doubt) s s := by
  refine next_congr (if_pos ?_)
  by_cases hb : bandAfter (s.get .SYS_FUSE_STATUS_BAND) temp = s.get .SYS_FUSE_STATUS_BAND
  · exact .inl hb
  · right
    rw [State.isSet_eq_false_iff.2 fun hd => h ⟨hb, hd⟩]
    rfl

/-- A band crossing: the words newly in doubt, and the root key by the first KEY word among them. -/
theorem effFuseReread_of_crossing (hb : nb = bandAfter (s.get .SYS_FUSE_STATUS_BAND) temp)
    (hc : nb ≠ s.get .SYS_FUSE_STATUS_BAND ∧ s.get .SYS_FUSE_STATUS_DONE = 1)
    (hn : new = doubt.filter (fun w => decide (w < 512) && !(bit ((s.set .SYS_FUSE_STATUS_BAND nb).get .SYS_FUSE_DOUBT_WORDS (w / 64)) (w % 64))))
    (hu : u = new.foldl (fun t w => (markDoubt w t).raise 0x0106 [w, 1]) (s.set .SYS_FUSE_STATUS_BAND nb)) :
    effFuseReread temp doubt s = match new.find? (fun w => fuseClass w == 2) with
      | none => u
      | some w =>
        if u.get .CIPH_STATUS_ROOT_STATE ≠ 1 then u
        else if (u.set .CIPH_STATUS_ROOT_STATE 3).cipher.rootDoubtSaid then u.set .CIPH_STATUS_ROOT_STATE 3
        else ((u.set .CIPH_STATUS_ROOT_STATE 3).setCipher (fun c => { c with rootDoubtSaid := true })).raise 0x0C04 [w] := by
  obtain ⟨hne, hd⟩ := hc
  subst hu hn hb
  exact if_neg (by simp [hne, State.isSet_iff.2 hd])

/-- No KEY word is newly in doubt, or the root key is not in use. -/
theorem fuseReread_marks (hb : nb = bandAfter (s.get .SYS_FUSE_STATUS_BAND) temp)
    (hc : nb ≠ s.get .SYS_FUSE_STATUS_BAND ∧ s.get .SYS_FUSE_STATUS_DONE = 1)
    (hn : new = doubt.filter (fun w => decide (w < 512) && !(bit ((s.set .SYS_FUSE_STATUS_BAND nb).get .SYS_FUSE_DOUBT_WORDS (w / 64)) (w % 64))))
    (hu : u = new.foldl (fun t w => (markDoubt w t).raise 0x0106 [w, 1]) (s.set .SYS_FUSE_STATUS_BAND nb))
    (h : (∀ w ∈ new, fuseClass w ≠ 2) ∨ u.get .CIPH_STATUS_ROOT_STATE ≠ 1) : Next (.fuseReread temp doubt) s u := by
  refine next_congr ((effFuseReread_of_crossing hb hc hn hu).trans ?_)
  cases hf : new.find? (fun w => fuseClass w == 2) with
  | none => rfl
  | some w =>
    have key : fuseClass w = 2 := by simpa using List.find?_some hf
    exact if_pos (h.resolve_left fun h => h w (List.mem_of_find?_eq_some hf) key)

/-- The first KEY word in doubt puts the root key in doubt. -/
theorem effFuseReread_of_key {pre post : List Nat} {w : Nat} {v : State} (hb : nb = bandAfter (s.get .SYS_FUSE_STATUS_BAND) temp)
    (hc : nb ≠ s.get .SYS_FUSE_STATUS_BAND ∧ s.get .SYS_FUSE_STATUS_DONE = 1)
    (hn : new = doubt.filter (fun w => decide (w < 512) && !(bit ((s.set .SYS_FUSE_STATUS_BAND nb).get .SYS_FUSE_DOUBT_WORDS (w / 64)) (w % 64))))
    (hu : u = new.foldl (fun t w => (markDoubt w t).raise 0x0106 [w, 1]) (s.set .SYS_FUSE_STATUS_BAND nb))
    (hw : new = pre ++ w :: post) (hpre : ∀ x ∈ pre, fuseClass x ≠ 2) (hk : fuseClass w = 2) (hr : u.get .CIPH_STATUS_ROOT_STATE = 1)
    (hv : v = u.set .CIPH_STATUS_ROOT_STATE 3) : effFuseReread temp doubt s =
      if v.cipher.rootDoubtSaid then v else (v.setCipher (fun c => { c with rootDoubtSaid := true })).raise 0x0C04 [w] := by
  have first : new.find? (fun w => fuseClass w == 2) = some w :=
    List.find?_eq_some_iff_append.2 ⟨beq_iff_eq.2 hk, pre, post, hw, fun x hx => by simp [hpre x hx]⟩
  subst hv
  rw [effFuseReread_of_crossing hb hc hn hu, first]
  exact if_neg (not_not_intro hr)

end

/-! ### NAND_OPERATION_DONE (R345 to R350) -/

section
variable {k : Nat} {o : NandOp} {e : NandEnd} {q : Req}

theorem nandOperationDone_of_none (h : s.store.ops[k]? = none) : Next (.nandOperationDone k e) s s := by
  refine next_congr ?_
  rw [effNandOperationDone, h]

theorem effNandOperationDone_of_erase (ho : s.store.ops[k]? = some o) (ht : t = s.setStore (fun x => { x with ops := x.ops.eraseIdx k }))
    (hk : o.task = .rawErase q) : effNandOperationDone k e s =
      if storeHeld s then s
      else if e.ok then restartReady (complete ciStoreBlockErase q [] 0 { state := rawErased o.dev (o.page / 64) t })
      else restartReady (rawFailed ciStoreBlockErase q (retireBlock o.dev (o.page / 64) 1 t)) := by
  subst ht
  simp only [effNandOperationDone, ho, hk]

theorem nandOperationDone_of_read (ho : s.store.ops[k]? = some o) (ht : t = s.setStore (fun x => { x with ops := x.ops.eraseIdx k }))
    (hk : o.task = .rawRead q) : Next (.nandOperationDone k e) s (restartReady (complete ciStorePageRead q [] 0
      { state := t.inc .STORE_PAGES_READ,
        data := words (match Tab.get [] t.store.nand.raw (o.dev * 524288 + o.page) with
          | [] => (e.data ++ List.replicate 4352 255).take 4352
          | l => l) })) := by
  subst ht
  refine next_congr ?_
  simp only [effNandOperationDone, ho, hk] <;> rfl

theorem effNandOperationDone_of_program {data : List Nat} (ho : s.store.ops[k]? = some o)
    (ht : t = s.setStore (fun x => { x with ops := x.ops.eraseIdx k })) (hk : o.task = .rawProgram q data) : effNandOperationDone k e s =
      restartReady (if !(pageErased e) then
          complete ciStorePageProgram q [] 0 { state := t.inc .STORE_PROG_REFUSED, status := stNotErased }
        else if !e.ok then rawFailed ciStorePageProgram q (retireBlock o.dev (o.page / 64) 0 t)
        else complete ciStorePageProgram q [] 0 { state := (t.inc .STORE_PAGES_PROGRAMMED).setNand (fun n =>
          { n with raw := Tab.put [] n.raw (o.dev * 524288 + o.page) data }) }) := by
  subst ht
  simp only [effNandOperationDone, ho, hk]

/-- A program of the store's own goes on. -/
theorem nandOperationDone_of_own (ho : s.store.ops[k]? = some o) (ht : t = s.setStore (fun x => { x with ops := x.ops.eraseIdx k }))
    (h : ∀ x data, o.task ≠ .rawErase x ∧ o.task ≠ .rawRead x ∧ o.task ≠ .rawProgram x data) :
    Next (.nandOperationDone k e) s (restartReady (programDone o e t)) := by
  subst ht
  refine next_congr ?_
  simp only [effNandOperationDone, ho]
  split
  next x hx => exact absurd hx (h x []).1
  next x hx => exact absurd hx (h x []).2.1
  next x data hx => exact absurd hx (h x data).2.2
  next => rfl

/-- What a program that is refused does before it is done again. -/
theorem programDone_of_written (hp : pageErased e = false) (ht : t = (s.inc .STORE_PROG_REFUSED).raise 0x0307 [o.dev, o.page]) :
    programDone o e s = taskAgain o (logicalOf s o.dev (o.page / 64))
      (match o.task with | .image _ => refreshBlock o.dev (o.page / 64) t | _ => t) := by
  subst ht
  exact if_pos (by simp [hp])

theorem programDone_of_erased (hp : pageErased e = true) : programDone o e s =
    if !e.ok then taskAgain o (logicalOf s o.dev (o.page / 64)) (retireBlock o.dev (o.page / 64) 0 s)
    else taskDone o.task (levelWear o.dev ((s.bump .STORE_PAGES_PROGRAMMED
      (match o.task with | .anchor _ _ => anchorPages s | .journal recs => journalPages recs | _ => 1)).bump .CIPH_XTS_UNITS
      (match o.task with | .anchor _ _ => anchorPages s | .journal recs => journalPages recs | _ => 1))) :=
  if_neg (by simp [hp])

end

/-! ### JOURNAL_PAGE_TIMER and PATROL_READ (R347, R353, R421) -/

section
variable {dev page : Nat} {e : NandEnd} {v w : State} {hit : Bool}

theorem journalPageTimer_iff : ((!s.safe) = true ∧ s.expired .journalPage (5 * uMs) = true) ↔
    (s.get .FLT_STATUS_SAFE ≠ 1 ∧ s.expired .journalPage (5 * uMs) = true) := by
  rw [Bool.not_eq_true', State.safe, State.isSet_eq_false_iff]

theorem patrolRead_bars_iff : ((!(storeOpen s)) = true ∨ storeHeld s = true ∨ s.safe = true ∨ storeDevs s ≤ dev ∨ storeBlocks s * 64 ≤ page) ↔
    (storeOpen s = false ∨ storeHeld s = true ∨ s.get .FLT_STATUS_SAFE = 1 ∨ storeDevs s ≤ dev ∨ storeBlocks s * 64 ≤ page) := by
  rw [Bool.not_eq_true', State.safe, State.isSet_iff]

theorem patrolRead_barred (h : storeOpen s = false ∨ storeHeld s = true ∨ s.get .FLT_STATUS_SAFE = 1 ∨ storeDevs s ≤ dev ∨ storeBlocks s * 64 ≤ page) :
    Next (.patrolRead dev page e) s s :=
  next_congr (if_pos (patrolRead_bars_iff.2 h))

theorem patrolRead_free (h1 : storeOpen s = true) (h2 : storeHeld s = false) (h3 : s.get .FLT_STATUS_SAFE ≠ 1) (h4 : dev < storeDevs s)
    (h5 : page < storeBlocks s * 64) :
    ¬(storeOpen s = false ∨ storeHeld s = true ∨ s.get .FLT_STATUS_SAFE = 1 ∨ storeDevs s ≤ dev ∨ storeBlocks s * 64 ≤ page) := by
  simp [h1, h2, h3, h4, h5]

/-- The page read, with what an uncorrectable one takes with it; a block's last page counts for a scrub. -/
theorem effPatrolRead_of_free (hi : inject 3 dev s = (hit, u))
    (hv : v = pageRead dev page { e with flips := (e.flips.headD 0 + if hit then u.get .TEST_INJECT_BITS 3 else 0) :: e.flips.drop 1 } u)
    (hw : w = (match pageUncorr e, logicalOf u dev (page / 64) with
      | true, some b => pageLost ((b * 64 + page % 64) * max 1 (storeDevs v) + dev) v
      | _, _ => v))
    (h : ¬(storeOpen s = false ∨ storeHeld s = true ∨ s.get .FLT_STATUS_SAFE = 1 ∨ storeDevs s ≤ dev ∨ storeBlocks s * 64 ≤ page)) :
    effPatrolRead dev page e s = if page % 64 = 63 ∧ w.store.scrubLeft ≠ 0 then
      (w.setStore (fun x => { x with scrubLeft := w.store.scrubLeft - 1 })).set .STORE_STATUS_SCRUBBING (b2n (decide (w.store.scrubLeft - 1 ≠ 0)))
    else w := by
  have takes : (if pageUncorr e then (match logicalOf u dev (page / 64) with
      | some b => pageLost ((b * 64 + page % 64) * max 1 (storeDevs v) + dev) v
      | none => v) else v) = w := by
    rw [hw]
    cases pageUncorr e <;> cases logicalOf u dev (page / 64) <;> rfl
  refine (if_neg (mt patrolRead_bars_iff.1 h)).trans ?_
  subst hv
  rw [hi, ← takes] <;> rfl

end

end

/-- Settles O42, one row of the table after the other. -/
theorem bootAndStoreEventsComplete : Obligations.BootAndStoreEventsComplete := by
  refine ⟨fun b s => ⟨bootPhase_idle, bootPhase_ends, fun hr hres x hx hp t ht => ?_⟩,
    fun temp doubt new nb s u crosses hb hc hn hu => ⟨fun h => ?_, fun h => ⟨fun hk => ?_, fun pre w post v hw hpre hk hr hv => ⟨fun hs => ?_, fun hs => ?_⟩⟩⟩,
    fun k o e q s t ho ht => ⟨fun hk => ⟨fun hh => ?_, fun hh he => ?_, fun hh he => ?_⟩, fun l hk hl => ⟨fun hne => ?_, fun hnil => ?_⟩,
      fun data hk => ⟨fun hp => ?_, fun hp he => ?_, fun hp he => ?_⟩, nandOperationDone_of_own ho ht⟩,
    fun k e s => nandOperationDone_of_none,
    fun o e s t n ht hn => ⟨fun hp => ⟨fun slot hk => ?_, fun hk => ?_⟩, fun hp he => ?_, fun hp he => ?_⟩,
    fun s => ⟨fun hs hd => ?_, fun h => ?_⟩,
    fun dev page e s u v w hit hi hv hw => ⟨patrolRead_barred, fun h1 h2 h3 h4 h5 => ⟨fun h => ?_, fun n hp hn => ?_⟩⟩⟩
  · rw [bootSteps_eq] at hx
    obtain ⟨n, hn, rfl⟩ := List.mem_map.1 hx
    obtain ⟨h1, h9⟩ := List.mem_range'_1.1 hn
    exact bootPhase_of_step hp h1 (by omega) hr hres ht
  · exact fuseReread_of_within (hb ▸ mt hc.2 h)
  · exact fuseReread_marks hb (hc.1 h) hn hu hk
  · exact next_congr ((effFuseReread_of_key hb (hc.1 h) hn hu hw hpre hk hr hv).trans (if_pos hs))
  · exact next_congr ((effFuseReread_of_key hb (hc.1 h) hn hu hw hpre hk hr hv).trans (if_neg (ne_true_of_eq_false hs)))
  · exact next_congr ((effNandOperationDone_of_erase ho ht hk).trans (if_pos hh))
  · exact next_congr ((effNandOperationDone_of_erase ho ht hk).trans ((if_neg (ne_true_of_eq_false hh)).trans (if_pos he)))
  · exact next_congr ((effNandOperationDone_of_erase ho ht hk).trans ((if_neg (ne_true_of_eq_false hh)).trans (if_neg (ne_true_of_eq_false he))))
  · have answers := nandOperationDone_of_read (e := e) ho ht hk
    rw [hl] at answers
    cases l with
    | nil => exact absurd rfl hne
    | cons a l => exact answers
  · have answers := nandOperationDone_of_read (e := e) ho ht hk
    rw [hl, hnil] at answers
    exact answers
  · exact next_congr ((effNandOperationDone_of_program ho ht hk).trans (congrArg restartReady (if_pos (by simp [hp]))))
  · exact next_congr ((effNandOperationDone_of_program ho ht hk).trans (congrArg restartReady ((if_neg (by simp [hp])).trans (if_pos (by simp [he])))))
  · exact next_congr ((effNandOperationDone_of_program ho ht hk).trans (congrArg restartReady ((if_neg (by simp [hp])).trans (if_neg (by simp [he])))))
  · rw [programDone_of_written hp ht, hk]
  · rw [programDone_of_written hp ht]
    split
    next slot hs => exact absurd hs (hk slot)
    next => rfl
  · exact (programDone_of_erased hp).trans (if_pos (by simp [he]))
  · subst hn
    exact (programDone_of_erased hp).trans (if_neg (by simp [he]))
  · exact next_congr (if_pos (journalPageTimer_iff.2 ⟨hs, hd⟩))
  · refine next_congr (if_neg fun hc => ?_)
    obtain ⟨hs, hd⟩ := journalPageTimer_iff.1 hc
    exact h.elim hs (ne_true_of_eq_false · hd)
  · refine next_congr ((effPatrolRead_of_free hi hv hw (patrolRead_free h1 h2 h3 h4 h5)).trans (if_neg ?_))
    rintro ⟨hp, hl⟩
    exact h.elim (absurd hp) hl
  · refine next_congr ((effPatrolRead_of_free hi hv hw (patrolRead_free h1 h2 h3 h4 h5)).trans ((if_pos ⟨hp, by omega⟩).trans ?_))
    rw [hn, Nat.add_sub_cancel]
    cases n <;> rfl

end Sys2Proof.Machine

/-! ## SYS_MODE to and from DENSE and MAINTENANCE (`15_power.md` R386) -/

namespace Sys2Proof.Machine

open Sys2Proof

section
variable {s t : State}

/-! ### The commit of SYS_MODE -/

section
variable {q : Req} {m : Nat} {x : Option (Nat × Nat)} {rest : List Staged}

theorem commitMode_of_current (h : m = s.mode) (hc : s.get .PWR_MODE_CHANGING ≠ 1) :
    commitMode m s = (s.set .PWR_MODE_PENDING_VALID 0).set .PWR_MODE_PENDING 0 :=
  if_pos ⟨h, by rw [State.isSet_eq_false_iff.2 hc]; rfl⟩

/-- To or from DENSE or MAINTENANCE nothing live changes: the mode stands pending. -/
theorem commitMode_of_deep (h : m ≠ s.mode) (hd : m = 3 ∨ m = 5 ∨ s.mode = 3 ∨ s.mode = 5) :
    commitMode m s = ((s.set .PWR_MODE_PENDING_VALID 1).set .PWR_MODE_PENDING m).raise 0x0107 [m, s.mode, 1] :=
  (if_neg fun hc => h hc.1).trans (if_pos hd)

theorem sysMode_committed (hg : s.cmd.staged = ⟨q, 0x0104, ciSysMode.parts, true, .mode m, []⟩ :: rest)
    (ht : t = s.setCmd (fun c => { c with staged := rest })) (hr : refusals ⟨q, 0x0104, ciSysMode.parts, true, .mode m, []⟩ x t = []) :
    Next (.atomicCommit x) s (complete { op := 0x0104, persist := true } q [] 0 { state := commitMode m t }) :=
  atomicCommit_committed hg ht hr

end

/-! ### The record of SYS_MODE in the journal -/

theorem blockErased_mode {dev block : Nat} : (blockErased dev block s).store.nand.mode = s.store.nand.mode := rfl

theorem programNext_mode {area : Nat} {task : NandTask} : (programNext area task s).store.nand.mode = s.store.nand.mode := by
  unfold programNext
  dsimp only
  split <;> rfl

theorem journalClose_mode : (journalClose s).store.nand.mode = s.store.nand.mode := by
  unfold journalClose
  split
  · rfl
  · exact programNext_mode

theorem journalGoOn_mode : (journalGoOn s).store.nand.mode = s.store.nand.mode := by
  unfold journalGoOn
  dsimp only
  split
  · exact journalClose_mode
  · rfl

theorem checkpoint_mode : (checkpoint s).store.nand.mode = s.store.nand.mode := by
  unfold checkpoint
  split <;> rfl

/-- A record of SYS_MODE keeps the mode that stands pending, for the next boot to read. -/
theorem journalDurable_mode {recs : List JRec} {r : JRec} (hr : r ∈ recs) (hk : r.kind = 1) (ho : r.op = 0x0104)
    (hv : s.get .PWR_MODE_PENDING_VALID = 1) : (journalDurable recs s).store.nand.mode = s.get .PWR_MODE_PENDING + 1 := by
  have recorded : recs.any (fun r => r.kind == 1 && r.op == 0x0104) = true := List.any_eq_true.2 ⟨r, hr, by simp [hk, ho]⟩
  unfold journalDurable
  dsimp only
  rw [journalGoOn_mode, checkpoint_mode, if_pos recorded]
  exact if_pos (State.isSet_iff.2 hv)

/-! ### The boot reads the mode -/

section
variable {b : BootIn} {m : Nat}

theorem foldl_set_mode {β : Type} {f : Fld} (hf : Fld.PWR_MODE_CURRENT ≠ f) {l : List β} {v i : β → Nat} :
    (l.foldl (fun t x => t.set f (v x) (i x)) s).mode = s.mode :=
  foldl_keep (p := State.mode) (fun t _ => t.get_set_other hf _ _ _ _ _) l s

theorem foldl_set_power {β : Type} {f : Fld} {l : List β} {v i : β → Nat} :
    (l.foldl (fun t x => t.set f (v x) (i x)) s).power = s.power :=
  foldl_keep (p := State.power) (f := fun t x => t.set f (v x) (i x)) (fun _ _ => rfl) l s

/-- What step 8 writes after the mode leaves the mode as it is. -/
theorem bootJournal_mode (hn : s.store.nand.mode = m + 1) (hm : m ≤ 5) : (bootJournal s).mode = m := by
  unfold bootJournal
  extract_lets n m' s1 s2 s3 s4 s5
  have read : m' = m := by simp [m', n, hn]
  have taken : s3.mode = m := by
    show (((s1.set .PWR_MODE_CURRENT m').set .TBL_STATE_EXT_BUCKETS_LOG2 _).set .SW_RELEASE_BEHAVIOUR _ |>.set .TEST_STATUS_MAINT _).mode = m
    rw [State.mode, State.get_set_other _ (by decide), State.get_set_other _ (by decide), State.get_set_other _ (by decide),
      State.get_set_self, read]
    exact Nat.mod_eq_of_lt (by show m < 8; omega)
  have kept : s5.mode = m := (foldl_set_mode (by decide)).trans ((foldl_set_mode (by decide)).trans taken)
  split
  · exact kept
  · exact kept

theorem bootJournal_power : (bootJournal s).power = s.power := by
  unfold bootJournal
  extract_lets n m' s1 s2 s3 s4 s5
  have kept : s5.power = s.power := foldl_set_power.trans foldl_set_power
  split
  · exact kept
  · exact kept

/-- The boot that reads a mode takes it. -/
theorem bootPhase_takes_mode (hp : s.get .SYS_BOOT_PHASE = 7) (hr : s.pins.sysReset = true) (hres : s.inRescue = false)
    (hn : s.store.nand.mode = m + 1) (hm : m ≤ 5) (hq : s.power.request ≠ some 2) (ht : Next (.bootPhase b) s t) : t.mode = m := by
  have reads : afterStep b 7 s = (bootJournal s).set .SYS_BOOT_PHASE 8 := rfl
  have goesOn : (afterStep b 7 s).power.request ≠ some 2 := by
    rw [reads]
    exact fun h => hq (bootJournal_power ▸ h)
  have next := (bootPhase_of_step (b := b) hp (by omega) (by omega) hr hres rfl).2 (.inl goesOn)
  obtain rfl : afterStep b 7 s = t := Host.Outcome.next.inj (next.symm.trans ht)
  exact (State.get_set_other _ (by decide) _ _ _ _ _).trans (bootJournal_mode hn hm)

end

end

/-- Settles O58, one part after the other. -/
theorem deepModesAwaitTheNextBoot : Obligations.DeepModesAwaitTheNextBoot := by
  refine ⟨fun q m s ht hm hr => sysMode_stages ht hm (Decidable.or_iff_not_imp_left.2 fun h => hr (not_not.1 h)), rfl, rfl,
    fun q m x rest s t hg ht hr hm => ⟨fun hne hd => ?_, fun he hc => ?_⟩,
    fun recs r s hr hk ho hv hp => journalDurable_mode hr hk ho hv,
    fun b m s t hp hr hres hn hm hq ht => bootPhase_takes_mode hp hr hres hn hm hq ht⟩
  · have sameMode : t.mode = s.mode := by rw [ht]; rfl
    rw [← sameMode] at hne hd ⊢
    exact (sysMode_committed hg ht hr).trans (by rw [commitMode_of_deep hne hd])
  · have sameMode : t.mode = s.mode := by rw [ht]; rfl
    have unchanging : t.get .PWR_MODE_CHANGING ≠ 1 := by rw [ht]; exact hc
    exact (sysMode_committed hg ht hr).trans (by rw [commitMode_of_current (he.trans sameMode.symm) unchanging])

end Sys2Proof.Machine
